-- ==== Sys2Proof/Word.lean ====
section
/-!
DEFINITION. The words of the device: a byte, the 32-bit register word of BAR0 (spec/17 R410), and the 64-byte beat of
the Beam (spec/01 R17) as a list of bytes.
-/

namespace Sys2Proof

/-- A byte. -/
abbrev Byte := BitVec 8

/-- A register word. -/
abbrev Word := BitVec 32

/-- A fraction, the exact value of a sample on its way through a bead (spec/07 R175): numerator over denominator. -/
structure Frac where
  num : Int
  den : Nat
  deriving DecidableEq, Repr, Inhabited

end Sys2Proof
end

