-- ==== Sys2Proof/Syntax.lean ====
section
/-!
DEFINITION. The commands of the device: one constructor for each row of spec/opcode_table.json, with the operands
that the command carries (the instance it addresses, the values it brings, and what the world outside the device
decides: a measured value, a byte read from a drive, a check of a clock). The docstring of each constructor is the
row's summary with its rule.
-/

namespace Sys2Proof

/-- What a Beam address names (spec/01 R17, R18): a Tray byte, a byte of a DRAM region, a register of the target rod, or
nothing. -/
inductive BeamAddr where
  | tray (a : Nat)
  | dram (region off : Nat)
  | reg (off : Nat)
  | nothing
  deriving DecidableEq, Repr

/-- A 66-bit block as a receive lane gets it (spec/04 R99), after the polarity: its sync header, first bit lowest in the spec's
reading 0b01 or 0b10, its 64 line bits, first bit lowest, and the 58 scrambled bits that the lane received before them. -/
structure Block66 where
  hdr : BitVec 2
  prev : BitVec 58
  line : BitVec 64
  deriving DecidableEq, Repr

/-- A run of the port's stream that ends with a packet (spec/04 R103): the logical lane of its first block, whence the blocks are
dealt to the lanes in turn; the blocks, any before the packet first; and the bytes that wait in the input FIFO of the port as the
packet comes (spec/05 R127). -/
structure Packet where
  first : Fin 32
  blocks : List Block66
  level : BitVec 24
  deriving DecidableEq, Repr

/-- A block of a row on a receive lane. -/
structure LaneBlock where
  lane : Fin 34
  blk : Block66
  deriving DecidableEq, Repr

/-- An alignment marker row's block on a receive lane (spec/04 R100, R101), and the line words of the blocks that the lane received
after its previous marker. -/
structure AmLane where
  lane : Fin 34
  blk : Block66
  since : List (BitVec 64)
  deriving DecidableEq, Repr

/-- A request of an I3C target (spec/04 R115): an in-band interrupt with the target's address, its mandatory byte and what
follows it; or a hot-join request. -/
inductive IbiReq where
  | ibi (addr : BitVec 7) (bytes : List Byte)
  | hotJoin
  deriving DecidableEq, Repr

/-- What the NAL units of an access unit say, in the terms of the HEVC standard (spec/10 R264 to R275): whether the SPS that
it activates is unsupported; POC; whether it is an IRAP, one with NoRaslOutputFlag, and NoOutputOfPriorPics; the
recovery_poc_cnt of a recovery point SEI; PicOutputFlag; POCs of the Curr sets, of the pictures that its slices reference, and of
the whole RPS; stored format, and whether it has no chroma; size of
the picture, conformance window; PRIM, TRC, MATRIX, RANGE; limits of reordering, latency (0 none) and DPB. -/
structure AuInfo where
  unsup : Bool
  poc : BitVec 32
  irap : Bool
  noRasl : Bool
  noPrior : Bool
  recov : Option (BitVec 32)
  output : Bool
  curr : List (BitVec 32)
  uses : List (BitVec 32)
  rps : List (BitVec 32)
  fmt : Fin 6
  mono : Bool
  width : BitVec 14
  height : BitVec 14
  cropX : BitVec 14
  cropY : BitVec 14
  winW : BitVec 14
  winH : BitVec 14
  colour : BitVec 32
  reorder : BitVec 5
  latency : BitVec 16
  maxDec : BitVec 5
  deriving DecidableEq, Repr

/-- What firmware learns from PTP messages (spec/13 R328 to R330): an offset from the master in ns with the measured frequency
and the correction that the servo asks for, both in units of TLY.RATE; the grandmaster's clockIdentity; currentUtcOffset. -/
structure PtpMsg where
  offset : Option (BitVec 64)
  freq : BitVec 32
  slew : BitVec 32
  gm : Option (BitVec 64)
  utc : Option (BitVec 16)
  deriving DecidableEq, Repr

/-- The timestamp that a transmit descriptor requests (spec/13 R332): one-step, with the offsets of the originTimestamp and of
the UDP checksum in the frame, or two-step with its identifier. -/
inductive TxStamp where
  | oneStep (off ck : BitVec 14)
  | twoStep (id : BitVec 16)
  deriving DecidableEq, Repr

/-- A received RTP packet (spec/13 R343): destination, RTP fields, whether it carries the wall payload header, the payload
after the RTP header. -/
structure RtpPkt where
  ip : BitVec 32
  port : BitVec 16
  seq : BitVec 16
  ts : BitVec 32
  marker : Bool
  wall : Bool
  payload : List Byte
  deriving DecidableEq, Repr

/-- An AUX reply (spec/12 R317). -/
inductive AuxKind where
  | ack | nack | defer
  deriving DecidableEq, Repr

/-- A conversion pair of a temperature sensor (spec/19 R461), in 1/16 °C: the reading, and how much more the conversion with the
self-test offset read. -/
structure TempSample where
  t : BitVec 16
  diff : BitVec 16
  deriving DecidableEq, Repr

/-- An access through the debug access port (spec/18 R444): to the space of BAR0, to the Tray as BAR2 reaches it, to the keep
store, or to the stores of the control cores and of SEC, whose contents the spec does not give; none of it writes, some writes. -/
inductive DapAccess where
  | bar0 (addr : BitVec 25) (w : Option (BitVec 32))
  | tray (addr : BitVec 26) (w : Option (BitVec 32))
  | keep (addr : BitVec 22) (w : Option (BitVec 32))
  | core (k : Fin 5) (addr : BitVec 32) (w : Option (BitVec 32))
  deriving DecidableEq, Repr

/-- A command. -/
inductive Instr where
  /-- READ_REQUEST (R17): A Beam read request arrives whole at its target port and is answered with data and a status of R18. -/
  | readRequest (src dst : Fin 28) (epoch : BitVec 8) (txn : BitVec 10) (cls : Fin 4) (len : Fin 4) (addr : BeamAddr) (corrected upset : Bool)
  /-- WRITE_REQUEST (R19): A Beam write request arrives whole at its target port, is applied in order and is replied to. -/
  | writeRequest (src dst : Fin 28) (epoch : BitVec 8) (txn : BitVec 10) (cls : Fin 4) (addr : BeamAddr) (data : List Byte)
  /-- REPLY (R18): A reply arrives at the requesting port, has its epoch checked, and ends the open transaction. -/
  | reply (src dst : Fin 28) (epoch : BitVec 8) (txn : BitVec 10) (status : Fin 6) (data : List Byte)
  /-- STREAM_FLIT (R19): A stream flit arrives at a destination port in stream order, or is held or dropped under its POLICY. -/
  | streamFlit (stream : Fin 512) (dst : Fin 28) (mark : Fin 4) (tag : BitVec 32) (data : List Byte)
  /-- EVENT_MESSAGE (R17): An event message, such as an epoch advance, arrives at a port over the Beam. -/
  | eventMessage (port : Fin 28) (rod : Fin 16) (epoch : BitVec 8)
  /-- TIMEOUT (R18): No reply has arrived within 20 µs, and the requester's own port ends the request with TIMEOUT. -/
  | timeout (port : Fin 28) (txn : BitVec 10)
  /-- BAR2_READ (R503): The host reads Tray bytes through BAR2 under the grants of R22. -/
  | bar2Read (addr : BitVec 26) (len : BitVec 13) (corrected upset : Bool)
  /-- BAR2_WRITE (R22): The host writes Tray bytes through BAR2, dropped and recorded when not host-visible. -/
  | bar2Write (addr : BitVec 26) (data : List Byte)
  /-- BAR4_READ (R410): The host reads the 16-granule BAR4 window of the Tray. -/
  | bar4Read (off : BitVec 20) (len : BitVec 13) (corrected upset : Bool)
  /-- BAR4_WRITE (R410): The host writes the BAR4 window, for example DMA descriptors or host-ring pointers. -/
  | bar4Write (off : BitVec 20) (data : List Byte)
  /-- REGISTER_WRITE (R504): A BAR0 write to a register without a row of its own is checked field by field and applied, staged, or rejected with WR_RANGE. -/
  | registerWrite (addr : BitVec 25) (len : BitVec 4) (v : BitVec 32)
  /-- COMMIT_REQ (R506): A write of COMMIT.REQ marks every commit domain of the rod pending. -/
  | commitReq (rod : Fin 16)
  /-- EVT_STAT_CLEAR (R426): A W1C write to an EVT_STAT word clears sources and resends MSI-X for vectors still asserted. -/
  | evtStatClear (blk : Fin 17) (w : Fin 8) (v : BitVec 32)
  /-- PATCH_GO (R68): PATCH_CMD.GO starts a rod patch from the patch window and locks the window against host writes. -/
  | patchGo
  /-- PATCH_ABORT (R71): PATCH_CMD.ABORT abandons a patch in VERIFY, CHECK or DRAIN with ABORTED. -/
  | patchAbort
  /-- PATCH_VERIFY_DONE (R69): Steps 1 to 8 of validation of the patch end and STATE becomes CHECK, or the patch is rejected. -/
  | patchVerifyDone
  /-- PATCH_CHECK_DONE (R69): Steps 9 to 11 of validation end and STATE becomes DRAIN, waiting for the tag T of the next frame start. -/
  | patchCheckDone
  /-- PATCH_RESTRING (R69): Every named rod has drained, STATE becomes RESTRING and the named rods are reset together. -/
  | patchRestring
  /-- PATCH_DONE (R69): The named rods are strung, preset and committed, their epochs advance and STATE becomes DONE. -/
  | patchDone
  /-- PATCH_DRAIN_TIMEOUT (R71): ARM_TIMEOUT expires in DRAIN and the patch is abandoned with DRAIN_TIMEOUT or NO_FRAME. -/
  | patchDrainTimeout
  /-- LANE_ENABLE (R77): A write of LN_CTL.EN = 1 starts the lane's bring-up from POWER. -/
  | laneEnable (rod : Fin 16) (l : Fin 70)
  /-- LANE_DISABLE (R80): A write of LN_CTL.EN = 0 takes the lane to OFF at once. -/
  | laneDisable (rod : Fin 16) (l : Fin 70)
  /-- LANE_GO (R80): LN_CMD.GO restarts the lane at stage FROM. -/
  | laneGo (rod : Fin 16) (l : Fin 70) (stage : Fin 8)
  /-- LANE_POWER_DONE (R77): The 20 µs of POWER end and the lane enters PLL. -/
  | lanePowerDone (rod : Fin 16) (l : Fin 70)
  /-- LANE_PLL_LOCK (R77): The group PLL locks and the lane moves to SIGNAL, or to UP on a transmit-only lane. -/
  | lanePllLock (rod : Fin 16) (g : Fin 8) (kbps : BitVec 25)
  /-- LANE_PLL_TIMEOUT (R79): The group PLL has not locked within 100 µs and every lane of the group enters FAULT with PLL. -/
  | lanePllTimeout (rod : Fin 16) (g : Fin 8)
  /-- LANE_LOS_CLEAR (R83): The raw squelch has shown signal for LOS_OFF × 100 ns; filtered LOS clears and a lane in SIGNAL enters LOCK. -/
  | laneLosClear (rod : Fin 16) (l : Fin 70)
  /-- LANE_LOCK (R77): The CDR acquires frequency and phase and the lane enters ADAPT or ALIGN. -/
  | laneLock (rod : Fin 16) (l : Fin 70)
  /-- LANE_LOCK_TIMEOUT (R79): LOCK has not completed within 20 µs; the lane returns to SIGNAL or, at the eighth failure, enters FAULT. -/
  | laneLockTimeout (rod : Fin 16) (l : Fin 70)
  /-- LANE_ADAPT_DONE (R77): Equaliser adaptation meets its target and the lane enters ALIGN. -/
  | laneAdaptDone (rod : Fin 16) (l : Fin 70)
  /-- LANE_ADAPT_TIMEOUT (R79): ADAPT misses its eye target after 1 ms; the best coefficients are kept, ADAPT_WEAK is set and the lane enters ALIGN. -/
  | laneAdaptTimeout (rod : Fin 16) (l : Fin 70)
  /-- LANE_ALIGNED (R77): The owning bead reports alignment and the lane enters UP. -/
  | laneAligned (rod : Fin 16) (l : Fin 70) (inverted reversed : Bool)
  /-- LANE_LOS (R83): The raw squelch has shown no signal for LOS_ON × 100 ns; filtered LOS sets, is counted and may restart the lane. -/
  | laneLos (rod : Fin 16) (l : Fin 70)
  /-- LANE_LOL (R84): The CDR cycle-slip indicator has stayed on for 1 µs and LOL is declared. -/
  | laneLol (rod : Fin 16) (l : Fin 70)
  /-- LANE_FREQ_WINDOW (R84): A 262,144-cycle measurement window ends and LOL is declared after LOL_WIN + 1 windows out of FREQ_WIN. -/
  | laneFreqWindow (rod : Fin 16) (l : Fin 70) (ppm : BitVec 20)
  /-- GROUP_PLL_LOSS (R79): A group PLL loses lock after bring-up and every lane of its group enters FAULT with REF. -/
  | groupPllLoss (rod : Fin 16) (g : Fin 8)
  /-- LANE_IDLE_ENTRY (R89): The owning bead announces electrical idle and the lane in UP enters IDLE. -/
  | laneIdleEntry (rod : Fin 16) (l : Fin 70)
  /-- LANE_SQUELCH_CONFIRM (R90): The squelch has stayed open for 4 ns after an idle partner's first transition. -/
  | laneSquelchConfirm (rod : Fin 16) (l : Fin 70)
  /-- LANE_PHASE_LOCK (R90): The CDR locks its phase from the held frequency and the lane returns to UP by the fast path. -/
  | lanePhaseLock (rod : Fin 16) (l : Fin 70)
  /-- LANE_PHASE_LOCK_TIMEOUT (R91): Phase lock misses 1,024 UI, or the idle outlasted IDLE_HOLD, and the lane takes the slow path and sets EXIT_SLOW. -/
  | lanePhaseLockTimeout (rod : Fin 16) (l : Fin 70)
  /-- ADAPT_WINDOW (R93): A 4,096 UI density window ends and adaptation freezes or thaws by FRZ_RUN and THAW_RUN. -/
  | adaptWindow (rod : Fin 16) (l : Fin 70) (density : BitVec 13)
  /-- TS_BLOCK (R107): A training TS block is received and counts towards the lane's identity, or sets TRAIN_MM. -/
  | tsBlock (port : Fin 2) (lane : Fin 34) (blk : Block66)
  /-- BLOCK_LOCK (R107): 64 consecutive valid headers at one offset, or 32 after a wake, give the lane block lock. -/
  | blockLock (port : Fin 2) (lane : Fin 34) (headers : List (BitVec 2))
  /-- BLOCK_LOCK_LOSS (R107): 16 invalid headers in 64 lose block lock and the packets in flight on the port. -/
  | blockLockLoss (port : Fin 2) (lane : Fin 34) (headers : List (BitVec 2))
  /-- ALIGN_TIMEOUT (R108): A lane has not completed ALIGN within 2 ms, restarts from LOCK and counts ALIGN_FAIL. -/
  | alignTimeout (port : Fin 2) (lane : Fin 34)
  /-- AM_ROW (R104): An alignment marker row arrives; the port deskews, checks BIP-8 and applies any spare mapping change. -/
  | amRow (port : Fin 2) (skew : BitVec 16) (inPacket : Bool) (marks : List AmLane)
  /-- EIDLE_ROW (R110): An EIDLE row announces the sensor's electrical idle and SRX requests the adaptation freeze. -/
  | eidleRow (port : Fin 2) (row : List LaneBlock)
  /-- FS_PACKET (R105): An FS packet is received and checked; its deskew accepts the frame start. -/
  | fsPacket (port : Fin 2) (pkt : Packet)
  /-- FE_PACKET (R105): An FE packet is received and checked. -/
  | fePacket (port : Fin 2) (pkt : Packet)
  /-- LINE_PACKET (R106): A LINE packet is received, checked and passed on as a real line, filling any gap before it. -/
  | linePacket (port : Fin 2) (pkt : Packet)
  /-- OB_PACKET (R106): An optical black packet is received, checked and passed on. -/
  | obPacket (port : Fin 2) (pkt : Packet)
  /-- EMB_PACKET (R106): An embedded data packet goes to the frame's metadata up to 32 KiB. -/
  | embPacket (port : Fin 2) (pkt : Packet)
  /-- VENDOR_PACKET (R105): A VENDOR packet is discarded and counted. -/
  | vendorPacket (port : Fin 2) (pkt : Packet)
  /-- PAIR_TIMEOUT (R113): The second half of a pair line or FS has not come within PAIR_WIN and both halves are lost. -/
  | pairTimeout (port : Fin 2) (fs : Bool)
  /-- RETRAIN (R109): LINK_CTL.RETRAIN clears the map, sets the sensor's TRAIN through firmware and trains afresh. -/
  | retrain (port : Fin 2)
  /-- PORT_ENABLE (R124): A write of LINK_CTL.EN = 1 puts a sensor port in use with no previous frame for fills. -/
  | portEnable (port : Fin 2)
  /-- PORT_DISABLE (R123): A write of LINK_CTL.EN = 0 closes the port's open frame at once. -/
  | portDisable (port : Fin 2)
  /-- SPARE_MAP_WRITE (R112): In the vertical blank after a lane went bad, firmware writes SPAREn_MAP in the sensor. -/
  | spareMapWrite (port : Fin 2) (spare : Fin 2) (logical : Fin 32)
  /-- SCK_ENABLE (R116): SCKn.EN = 1 starts the sensor reference clock. -/
  | sckEnable (n : Fin 2)
  /-- SCK_DISABLE (R116): SCKn.EN = 0 stops the clock low at the end of its period. -/
  | sckDisable (n : Fin 2)
  /-- IBI (R115): An I3C in-band interrupt is received and counted. -/
  | ibi (bus : Fin 2) (req : IbiReq)
  /-- FRAME_TIMEOUT (R123): TIMEOUT µs pass without a packet of the open frame and the frame closes. -/
  | frameTimeout (port : Fin 2)
  /-- SLOT_DEADLINE (R128): The deadline t_n + FS_WIN of a schedule slot passes with no frame start serving it. -/
  | slotDeadline (port : Fin 2)
  /-- EXPSYNC_FRAME_PULSE (R136): At t_n − LEAD, EXPSYNC_FRAME asserts and the line train starts. -/
  | expsyncFramePulse (port : Fin 2)
  /-- EXPSYNC_LINE_PULSE (R136): Each LINE_PER ÷ 16 ns, EXPSYNC_LINE asserts, up to LINE_CNT pulses. -/
  | expsyncLinePulse (port : Fin 2)
  /-- EXPSYNC_PULSE_END (R136): PW × 10 ns after a pulse starts, the EXPSYNC output returns inactive. -/
  | expsyncPulseEnd (port : Fin 2) (line : Bool)
  /-- EXS_MODE_CHANGE (R136): A write of EXS MODE starts or stops the frame schedule from the first t_n still ahead. -/
  | exsModeChange (port : Fin 2) (mode : Fin 4)
  /-- REFIN_EDGE (R137): A REFIN edge is measured; a glitch or a rate change is detected and the schedule is adopted or held. -/
  | refinEdge (falling : Bool) (pulse : BitVec 32)
  /-- REFIN_LOSS (R137): No REFIN edge for (1 + WIN) periods and frame timing enters holdover. -/
  | refinLoss
  /-- EXQ_POST (R135): EXQ.POSTp.GO posts a set descriptor slot, which is read and queued or discarded with BAD_DESC. -/
  | exqPost (port : Fin 2) (slot : Fin 8)
  /-- EXQ_BUS_DONE (R130): A sensor bus write completes or is NACKed and the queue issues its next write if it fits. -/
  | exqBusDone (port : Fin 2) (ack : Bool)
  /-- EXQ_WINDOW_CLOSE (R130): The write window closes GUARD µs before the predicted frame start. -/
  | exqWindowClose (port : Fin 2)
  /-- IMG_JOB_START (R145): An image rod starts a stripe job, applying pending or bound commits. -/
  | imgJobStart (n : Fin 5) (refPoison : Bool)
  /-- IMG_JOB_END (R196): A stripe job ends and writes its picture stripe entry, statistics and DCG sums. -/
  | imgJobEnd (n : Fin 5) (upset : List (BitVec 23))
  /-- VEC_WAIT_TIMEOUT (R161): VEC_WAIT µs pass without the vector set and the TNR job runs as ZERO with VEC_MISS. -/
  | vecWaitTimeout (n : Fin 5) (refPoison : Bool)
  /-- JOB_WATCHDOG (R168): A stripe job has not ended within JOB_WD and HANG is reported as a fatal fault. -/
  | jobWatchdog (n : Fin 5)
  /-- LB_PARITY (R168): A line-buffer parity error is reported as a fatal fault of the image rod. -/
  | lbParity (n : Fin 5)
  /-- SUBST_COPY_DONE (R169): Firmware has copied the faulted rod's sets into IMG4 and assigned it the stripe. -/
  | substCopyDone (k : Fin 4)
  /-- SUBST_RETURN (R172): SUBST.CMD.RETURN copies IMG4's sets back and returns the stripe to its own rod. -/
  | substReturn
  /-- SUBST_TEST (R168): SUBST.CMD.TEST reports a HANG on the named image rod to exercise substitution. -/
  | substTest (rod : BitVec 4)
  /-- DCG_RATIO_UPDATE (R157): With DCG_SUM raised for every active stripe, firmware computes and stages the new ratio. -/
  | dcgRatioUpdate (tag : BitVec 32)
  /-- MOT_SET_COMPLETE (R167): A MOT vector set is complete in the vector ring for its frame. -/
  | motSetComplete
  /-- LUT_INVAL (R185): SLOTn.CMD.INVAL makes a LUT slot EMPTY. -/
  | lutInval (m : Fin 4)
  /-- LUT_CHECK (R185): SLOTn.CMD.CHECK starts the CRC check of a LUT slot. -/
  | lutCheck (m : Fin 4)
  /-- LUT_CHECK_DONE (R185): The check ends and the slot becomes READY or BAD. -/
  | lutCheckDone (m : Fin 4)
  /-- LUT_RECHECK (R186): Every 250 ms the next READY slot is checked again and may become BAD. -/
  | lutRecheck
  /-- REC_FORMAT (R225): REC.CMD FORMAT identifies the members, deallocates them and writes superblocks and directory. -/
  | recFormat
  /-- REC_MOUNT (R225): REC.CMD MOUNT reads the superblocks, recovers OPEN takes and sets the log head. -/
  | recMount
  /-- REC_RECORD (R225): REC.CMD RECORD opens a take for each recorded port. -/
  | recRecord
  /-- REC_STOP (R225): REC.CMD STOP closes the takes once their frames are on the media. -/
  | recStop
  /-- REC_UNMOUNT (R225): REC.CMD UNMOUNT flushes every member. -/
  | recUnmount
  /-- REC_CMD_DONE (R225): A recorder command completes, STATE changes and RESULT is set. -/
  | recCmdDone
  /-- RSC_STRIPE_END (R212): A raw stripe coder ends a stripe; its FRAME record is appended when all stripes have ended. -/
  | rscStripeEnd (coder : Fin 4) (catchUp : Bool)
  /-- NVME_COMPLETION (R222): An NVMe command completes; records become complete, flushes advance and REC.FLUSHED updates. -/
  | nvmeCompletion (id : Nat) (ok : Bool) (data : List Byte)
  /-- NVME_CMD_TIMEOUT (R224): A command exceeds CMD_TO and NVQ aborts it, or resets the controller. -/
  | nvmeCmdTimeout (id : Nat)
  /-- NVQ_ENABLE (R223): NVQd.CFG.EN brings up the root port and initialises the drive. -/
  | nvqEnable (d : Fin 4)
  /-- NVQ_READY (R224): A drive controller becomes ready. -/
  | nvqReady (d : Fin 4) (mdts : Fin 256)
  /-- NVQ_READY_TIMEOUT (R224): A controller has not become ready within its CAP.TO and the member faults. -/
  | nvqReadyTimeout (d : Fin 4)
  /-- RP_LINK_DOWN (R224): A root-port link goes down and the member faults. -/
  | rpLinkDown (rp : Fin 4)
  /-- PREROLL_CATCH_START (R230): Ring space is free and a coder's CATCH context begins a pre-roll frame from the raw store. -/
  | prerollCatchStart (sp : Fin 3)
  /-- SCHED_COMMIT (R239): SCHED.CMD COMMIT requests a stream descriptor commit. -/
  | schedCommit (cod : Fin 2) (stream : BitVec 12)
  /-- SCHED_START (R240): SCHED.CMD START starts a stopped stream with an IDR. -/
  | schedStart (cod : Fin 2) (stream : BitVec 12)
  /-- SCHED_STOP (R240): SCHED.CMD STOP stops a running stream after its picture in progress. -/
  | schedStop (cod : Fin 2) (stream : BitVec 12)
  /-- SCHED_IDR (R240): SCHED.CMD IDR makes the next picture of a running stream an IDR. -/
  | schedIdr (cod : Fin 2) (stream : BitVec 12)
  /-- REGION_COMPLETE (R299): SLC reports region r of a canvas frame complete, making its stream's picture ready. -/
  | regionComplete (r : BitVec 11) (tag : BitVec 32)
  /-- VEC_TO_EXPIRY (R242): VEC_TO µs after CLOSE_TIME the vector set is taken as complete and empty, and VEC_MISS is set. -/
  | vecToExpiry (cod : Fin 2) (tag : BitVec 32)
  /-- PICTURE_DEADLINE (R243): A picture is still not ready at CLOSE_TIME + DEADLINE and becomes a repeat. -/
  | pictureDeadline (stream : BitVec 12) (tag : BitVec 32)
  /-- ENC_PICTURE_DONE (R261): An encoder ends a picture, writes its access unit and status entry, and becomes free. -/
  | encPictureDone (e : Fin 8)
  /-- ENC_DISABLE (R245): Clearing ENCk.CFG.EN cuts the picture in progress. -/
  | encDisable (cod : Fin 2) (k : Fin 4)
  /-- DEC_IN_WR (R266): The producer advances the decoder's IN_WR. -/
  | decInWr (r : Fin 2) (off : BitVec 30)
  /-- DEC_ENTRY (R267): A whole input entry lies between IN_RD and IN_WR and the decoder takes and frames it. -/
  | decEntry (r : Fin 2) (au : AuInfo)
  /-- DEC_PICTURE_DONE (R271): A decoded picture ends, its damage concealed, and enters the DPB. -/
  | decPictureDone (r : Fin 2) (syntaxErr conceal hashBad : Bool) (oobWrites oobReads : BitVec 32)
  /-- DEC_WATCHDOG (R270): A picture's cycle budget is spent and the watchdog ends it, concealing its rest. -/
  | decWatchdog (r : Fin 2)
  /-- DEC_OUTPUT (R275): A descriptor slot is free and the next output picture's descriptor and fence are written. -/
  | decOutput (r : Fin 2)
  /-- DEC_DISABLE (R277): Clearing DEC.CFG.EN cuts the picture in progress and empties the DPB. -/
  | decDisable (r : Fin 2)
  /-- CANVAS_FRAME_START (R298): Picture N is complete and WCMP starts canvas frame N, committing WCMP and SLC. -/
  | canvasFrameStart (tag : BitVec 32)
  /-- CWAIT_TIMEOUT (R298): CWAIT µs after CLOSE_TIME the canvas frame is composed with the newest picture and PIC_LATE is set. -/
  | cwaitTimeout (tag : BitVec 32)
  /-- GUARD_CLR (R294): GSTAT.CLR ends a guarded region's fallback at the next commit point. -/
  | guardClr (n : Fin 9) (g : Fin 16)
  /-- HEAD_ENABLE (R305): TG_CTL.EN rises and the head starts at line VACT, or waits in WAIT in TALLY mode. -/
  | headEnable (n : Fin 8)
  /-- HEAD_DISABLE (R305): TG_CTL.EN clears, the head stops and its outputs send no signal. -/
  | headDisable (n : Fin 8)
  /-- HEAD_START (R305): In TALLY mode the head leaves WAIT at t_n minus the blanking time. -/
  | headStart (n : Fin 8)
  /-- HEAD_LINE_START (R302): A head line begins, with frame start, commit point, blanking and fetch as the line number requires. -/
  | headLineStart (n : Fin 8) (under : Option (BitVec 14))
  /-- HEAD_PLL_LOCK (R305): The head PLL relocks after RELOCK and the head restarts. -/
  | headPllLock (n : Fin 8)
  /-- HEAD_PLL_UNLOCK (R494): A CK_HEADn PLL loses lock; the head stops and enters RELOCK. -/
  | headPllUnlock (n : Fin 8)
  /-- HPD_CHANGE (R316): An HPD level held for 2 ms is a connect or disconnect; firmware trains or ends the link. -/
  | hpdChange (q : Fin 4) (level : Bool)
  /-- IRQ_HPD (R316): An HPD low pulse of 0.5 to 1 ms; firmware reads link status and retrains if lost. -/
  | irqHpd (q : Fin 4) (lost : Bool)
  /-- DP_TRAINED (R316): Link training ends and the output sends its stream, or the idle pattern on a shortfall. -/
  | dpTrained (q : Fin 4) (ok : Bool) (rate : Fin 9) (lanes : Fin 3)
  /-- AUX_NATIVE_WRITE (R317): AUX_CMD GO with OP 0 starts a native AUX write. -/
  | auxNativeWrite (q : Fin 4) (len : Fin 16) (addr : BitVec 20)
  /-- AUX_NATIVE_READ (R317): AUX_CMD GO with OP 1 starts a native AUX read. -/
  | auxNativeRead (q : Fin 4) (len : Fin 16) (addr : BitVec 20)
  /-- AUX_I2C_WRITE (R317): AUX_CMD GO with OP 2 starts an I2C-over-AUX write. -/
  | auxI2cWrite (q : Fin 4) (len : Fin 16) (addr : BitVec 20)
  /-- AUX_I2C_READ (R317): AUX_CMD GO with OP 3 starts an I2C-over-AUX read. -/
  | auxI2cRead (q : Fin 4) (len : Fin 16) (addr : BitVec 20)
  /-- AUX_I2C_WRITE_MOT (R317): AUX_CMD GO with OP 4 starts an I2C write with MOT. -/
  | auxI2cWriteMot (q : Fin 4) (len : Fin 16) (addr : BitVec 20)
  /-- AUX_I2C_READ_MOT (R317): AUX_CMD GO with OP 5 starts an I2C read with MOT. -/
  | auxI2cReadMot (q : Fin 4) (len : Fin 16) (addr : BitVec 20)
  /-- AUX_REPLY (R317): An AUX reply arrives: ACK or NACK ends the transfer, DEFER is retried up to 7 times. -/
  | auxReply (q : Fin 4) (kind : AuxKind) (count : Fin 17) (data : List Byte)
  /-- AUX_TIMEOUT (R317): No AUX reply within 400 µs ends the transfer with TIMEOUT. -/
  | auxTimeout (q : Fin 4)
  /-- ETH_FRAME_RX (R332): An Ethernet frame is received; PTP event messages are timestamped and passed to firmware. -/
  | ethFrameRx (m : Fin 4) (ptpEvent fecBad : Bool) (frame : List Byte)
  /-- FLOW_PACKET_TX (R321): A media packet reaches its paced time and is sent, timestamped if requested. -/
  | flowPacketTx (f : BitVec 12) (late : Bool)
  /-- ETH_LINK_DOWN (R322): A MAC link goes down; flows discard their packets and DOWN_CNT counts. -/
  | ethLinkDown (m : Fin 4)
  /-- ETH_LINK_UP (R320): Auto-negotiation and training complete and the MAC link comes up. -/
  | ethLinkUp (m : Fin 4)
  /-- TLY_SET (R325): TLY.CMD.SET loads the step value into Tally. -/
  | tlySet
  /-- TLY_ADD (R325): TLY.CMD.ADD adds or subtracts the step value from Tally. -/
  | tlyAdd (neg : Bool)
  /-- TLY_RATE_WRITE (R323): A write of TLY.RATE changes Tally's rate from the next cycle. -/
  | tlyRateWrite (adj : BitVec 32)
  /-- TLY_NOW_READ (R326): A read of NOW_NS latches the whole Tally time. -/
  | tlyNowRead
  /-- PTP_MESSAGE (R329): Firmware handles a PTP message and the servo slews or steps Tally. -/
  | ptpMessage (m : Fin 4) (msg : PtpMsg)
  /-- ANNOUNCE_TIMEOUT (R330): announceReceiptTimeout expires with no master and PTP enters HOLDOVER. -/
  | announceTimeout
  /-- TSQ_POP (R333): A read of TSQ_POP removes the oldest transmit timestamp and latches it. -/
  | tsqPop (m : Fin 4)
  /-- TRG_ARM (R334): TRGi.CTL.ARM arms a comparator with its time registers. -/
  | trgArm (n : Fin 16)
  /-- TRG_DISARM (R334): TRGi.CTL.DISARM disarms a comparator. -/
  | trgDisarm (n : Fin 16)
  /-- TRG_FIRE (R334): Tally reaches T; the comparator drives its pin, sets FIRED and rearms or disarms. -/
  | trgFire (n : Fin 16)
  /-- TRG_PULSE_END (R334): WIDTH ns after firing the trigger pin returns inactive. -/
  | trgPulseEnd (n : Fin 16)
  /-- CAP_EDGE (R336): A chosen edge on a capture source takes the Tally time. -/
  | capEdge (j : Fin 8) (falling : Bool)
  /-- CAP_READ (R336): A read of CAPj.NS latches the capture and clears VALID. -/
  | capRead (j : Fin 8)
  /-- LTC_FRAME_OUT (R337): At each LTC frame start LTC_OUT sends the timecode of that instant. -/
  | ltcFrameOut
  /-- LTC_IN_SYNC (R337): A received LTC sync word is decoded into LTC.IN. -/
  | ltcInSync (tc : BitVec 32)
  /-- FLOW_COMMIT (R338): FLOW.CMD.GO commits a flow table entry at the flow's next picture or at once. -/
  | flowCommit (f : BitVec 12)
  /-- RTP_RX_PACKET (R343): A receive-flow RTP packet is reassembled into an access unit for the decoder ring. -/
  | rtpRxPacket (m : Fin 4) (pkt : RtpPkt)
  /-- AUD_PORT_ENABLE (R362): APn.CFG.EN rises and the port waits for its start. -/
  | audPortEnable (n : Fin 8)
  /-- AUD_PORT_START (R362): At the first whole millisecond at least 100 µs after EN, the port starts its schedule. -/
  | audPortStart (n : Fin 8)
  /-- AUD_SAMPLE_FRAME (R350): A sample frame is received or sent at a frame sync, applying a pending SLOTS commit. -/
  | audSampleFrame (n : Fin 8) (fsErr : Bool) (samples : List (BitVec 24))
  /-- AUD_BLOCK_BOUNDARY (R354): A block boundary on the system audio clock writes or reads a ring block. -/
  | audBlockBoundary (n : Fin 8) (phase : BitVec 8)
  /-- AUD_MON_WINDOW (R357): A 1 ms clock monitor window ends, measuring the external rate for rate change and recovery. -/
  | audMonWindow (n : Fin 8) (hz : BitVec 32)
  /-- AUD_CLK_LOSS (R357): No external clock edge within four nominal periods; the port switches to the Tally clock. -/
  | audClkLoss (n : Fin 8)
  /-- AUD_GLITCH (R357): A pulse shorter than a quarter period is ignored and counted. -/
  | audGlitch (n : Fin 8)
  /-- ASRC_LOCK (R360): The ASRC locks to the port-to-system ratio. -/
  | asrcLock (n : Fin 8) (ratio : BitVec 32)
  /-- SG_ARM (R361): SGg.CTL.ARM arms a start group at time T. -/
  | sgArm (g : Fin 4)
  /-- SG_DISARM (R361): SGg.CTL.DISARM disarms a start group. -/
  | sgDisarm (g : Fin 4)
  /-- SG_START (R361): At T every enabled member port starts with t0 = T and the group disarms. -/
  | sgStart (g : Fin 4)
  /-- AUD_STREAM_BLOCK (R364): A 48 kHz stream block is assembled on the grid for SDI and ST 2110-30. -/
  | audStreamBlock (a : Fin 8)
  /-- REFRESH (R384): A refresh falls due on a rank, and at a refresh point SH fields and safe changes apply. -/
  | refresh (ch : Fin 8) (rank : Fin 2)
  /-- REFRESH_POSTPONE_LIMIT (R384): Refresh postponed under panic reaches 15.6 µs and is issued regardless. -/
  | refreshPostponeLimit (ch : Fin 8) (rank : Fin 2)
  /-- MR4_POLL (R384): Every 1 ms MEM reads MR4 of every device and adjusts the refresh interval. -/
  | mr4Poll (ch : Fin 8) (hot : BitVec 2) (temp : BitVec 9)
  /-- SCRUB_READ (R375): The patrol scrub reads its next codeword and writes it back corrected if needed. -/
  | scrubRead (ch : Fin 8) (errs : BitVec 10)
  /-- RETRAIN_TIMER (R386): RETRAIN_MS expires and a periodic step set starts, unless panic defers it. -/
  | retrainTimer (ch : Fin 8)
  /-- STEP_SET_DONE (R387): A step set ends, keeping the old values and setting MARGIN_LOW if a step failed. -/
  | stepSetDone (ch : Fin 8) (works : Bool)
  /-- CE_WINDOW (R388): A CE_WIN window ends and the corrected-read count restarts. -/
  | ceWindow (ch : Fin 8)
  /-- SAFE_POINT_TIMEOUT (R388): No safe point within 100 ms; the change applies at the next refresh point and SAFE_FORCED is set. -/
  | safePointTimeout (ch : Fin 8)
  /-- FREQ_REQ (R389): CHn.FREQ.REQ requests a set point, urgent or not. -/
  | freqReq (ch : Fin 8) (sp : Fin 4) (urgent : Bool)
  /-- FREQ_CHANGE_DONE (R389): The devices leave self-refresh at the new set point and traffic resumes. -/
  | freqChangeDone (ch : Fin 8)
  /-- PANIC_START (R383): An enabled panic source asserts and panic is broadcast to all channels. -/
  | panicStart (k : Fin 15)
  /-- PANIC_END (R383): The last panic source deasserts. -/
  | panicEnd (k : Fin 15)
  /-- PANIC_LONG (R383): Panic has lasted PANIC_MAX × 10 µs and LONG is set once for the episode. -/
  | panicLong
  /-- CH_HANG (R392): A channel probe times out or the scheduler stalls 100 µs, and the channel alone is reset. -/
  | chHang (ch : Fin 8)
  /-- CH_INIT_DONE (R392): The reset channel's devices are initialised and its trained values loaded. -/
  | chInitDone (ch : Fin 8) (works : Bool)
  /-- CH_POISON_FILL_DONE (R392): Every codeword is written with poison, the proxy withdraws and traffic resumes. -/
  | chPoisonFillDone (ch : Fin 8)
  /-- DFL_TAIL_WRITE (R394): The host writes DFLn.TAIL to post DEFLATE jobs. -/
  | dflTailWrite (n : Fin 2) (slot : BitVec 8)
  /-- DFL_JOB_START (R404): An engine takes its next slot once any claim on its state record ends. -/
  | dflJobStart (n : Fin 2)
  /-- DFL_JOB_DONE (R396): A DEFLATE job ends, writes its completion word and advances HEAD. -/
  | dflJobDone (n : Fin 2)
  /-- DFL_DISABLE (R406): Clearing DFLn.CFG.EN cuts the job in progress. -/
  | dflDisable (n : Fin 2)
  /-- DMA_TAIL_WRITE (R415): The host writes DMAd.TAIL to post DMA descriptors. -/
  | dmaTailWrite (d : Fin 8) (slot : BitVec 8)
  /-- DMA_JOB_DONE (R415): A DMA job ends, writes STATUS and DONE, and advances HEAD. -/
  | dmaJobDone (d : Fin 8) (ok : Bool) (data : List Byte)
  /-- DMA_DISABLE (R415): Clearing DMAd.CFG.EN cuts the job in progress. -/
  | dmaDisable (d : Fin 8)
  /-- CORE_WATCHDOG (R409): A control core misses check-in for 50 ms and is reset, its epoch advancing. -/
  | coreWatchdog (k : Fin 4)
  /-- HEP_RESET (R413): A PCIe link-down, hot reset or FLR resets HEP and agent 0. -/
  | hepReset
  /-- MSIX_ENABLE (R426): The link is up and MSI-X enabled; every asserted vector sends its message or sets pending. -/
  | msixEnable
  /-- MB_DATA_WRITE (R420): The sender writes a mailbox data word, colliding if the mailbox is FULL. -/
  | mbDataWrite (agent : Fin 6) (m : Fin 32) (n : Fin 16) (v : BitVec 32)
  /-- MB_GO (R419): CTRL.GO posts the message: FULL sets, SEQ advances and TX_EPOCH is taken. -/
  | mbGo (agent : Fin 6) (m : Fin 32) (len : BitVec 5) (arm : Bool)
  /-- MB_ARM_WAIT (R422): CTRL.ARM_WAIT arms WAIT_ACK on the mailbox. -/
  | mbArmWait (agent : Fin 6) (m : Fin 32) (len : BitVec 5)
  /-- MB_TAKE (R419): A read of TAKE returns the message fields and clears FULL. -/
  | mbTake (agent : Fin 6) (m : Fin 32)
  /-- DB_SET (R424): A write of 1s to SET_LO or SET_HI rings doorbells of an agent. -/
  | dbSet (agent : Fin 6) (a : Fin 6) (hi : Bool) (v : BitVec 32)
  /-- DB_CLEAR (R424): The owning agent writes 1s to STAT_LO or STAT_HI to clear its doorbells. -/
  | dbClear (agent : Fin 6) (a : Fin 6) (hi : Bool) (v : BitVec 32)
  /-- ECHO (R423): Service ECHO returns the request words unchanged. -/
  | echo (p : Fin 8)
  /-- NET_TX (R423): Service NET_TX sends an Ethernet frame from the Tray on the general queue. -/
  | netTx (p : Fin 8)
  /-- NET_RX (R423): Service NET_RX sets up delivery of matching frames into a host ring. -/
  | netRx (p : Fin 8)
  /-- FAULT_HISTORY_WRITE (R428): Within 1 ms of a routed source's rising edge, the EVT bead writes a fault-history entry. -/
  | faultHistoryWrite
  /-- CLOG_RECORD (R430): A carry-log record from a rod is numbered and written into the log ring. -/
  | clogRecord (rod : Fin 16)
  /-- CHALLENGE (R442): Service CHALLENGE returns the current token challenge. -/
  | challenge (src : Option (Fin 8))
  /-- DEBUG_USER (R440): A DEBUG_USER token is checked and debug becomes USER_OPEN. -/
  | debugUser (src : Option (Fin 8)) (token : List Byte)
  /-- DEBUG_VENDOR (R447): A DEBUG_VENDOR token is checked and the wipe before VENDOR_OPEN starts. -/
  | debugVendor (src : Option (Fin 8)) (token : List Byte)
  /-- VENDOR_WIPE_DONE (R447): User settings, Tray and DRAM are zeroed and debug becomes VENDOR_OPEN. -/
  | vendorWipeDone
  /-- REVOKE (R436): A REVOKE token is checked and the named slot's revoke fuse is burnt. -/
  | revoke (src : Option (Fin 8)) (token : List Byte) (vpp : Bool)
  /-- ADD_KEY (R436): An ADD_KEY token is checked and the new customer slot is burnt and read back. -/
  | addKey (src : Option (Fin 8)) (token : List Byte) (vpp : Bool)
  /-- RETURN (R440): A RETURN token closes debug and burns LIFE bit 2. -/
  | return (src : Option (Fin 8)) (token : List Byte) (vpp : Bool)
  /-- ATTEST (R451): Service ATTEST builds and signs an attestation report into a Tray buffer. -/
  | attest (p : Fin 8)
  /-- GET_ID (R448): Service GET_ID writes the identity public keys to the Tray. -/
  | getId (p : Fin 8)
  /-- PROVISION (R443): Service PROVISION burns customer slots in BLANK and makes the device PROVISIONED. -/
  | provision (p : Fin 8) (vpp : Bool)
  /-- DEPLOY (R443): Service DEPLOY burns LIFE bit 1 in PROVISIONED. -/
  | deploy (p : Fin 8) (vpp : Bool)
  /-- SVN_COMMIT (R439): Service SVN_COMMIT raises LSVN or CSVN to its target. -/
  | svnCommit (p : Fin 8) (vpp : Bool)
  /-- DEBUG_CLOSE (R446): Service DEBUG_CLOSE closes debug. -/
  | debugClose (p : Fin 8)
  /-- SEC_DONE (R457): A long security service completes or fails and OP is updated. -/
  | secDone
  /-- FUSE_BURN_DONE (R435): A fuse pair burn of 20 µs completes and the fuse copy updates. -/
  | fuseBurnDone (ok : Bool)
  /-- SEC_WATCHDOG (R457): The 100 ms SEC watchdog fires; SEC restarts and a running service fails with RESTART. -/
  | secWatchdog
  /-- JTAG_INSTRUCTION (R445): A JTAG instruction is loaded, or loads as BYPASS with JTAG_DENY when not allowed. -/
  | jtagInstruction (op : Byte)
  /-- DAP_ACCESS (R444): A DAP access reaches BAR0, Tray or debug spaces as the debug state allows. -/
  | dapAccess (acc : DapAccess)
  /-- PWR_RUN (R453): PWR.REQ GO with TARGET RUN leaves HOLD or DOZE. -/
  | pwrRun (wake : BitVec 5)
  /-- PWR_HOLD (R453): PWR.REQ GO with TARGET HOLD drains and gates the rods. -/
  | pwrHold (wake : BitVec 5)
  /-- PWR_DOZE (R454): PWR.REQ GO with TARGET DOZE drains rods and puts DRAM in self-refresh. -/
  | pwrDoze (wake : BitVec 5)
  /-- PWR_OFF (R455): PWR.REQ GO with TARGET OFF drains, closes debug and releases CORE_EN. -/
  | pwrOff (wake : BitVec 5)
  /-- POWER_DRAINED (R454): The rods have drained and the power-state entry proceeds. -/
  | powerDrained
  /-- POWER_DRAIN_TIMEOUT (R453): A power-state drain exceeds ARM_TIMEOUT and is completed by force. -/
  | powerDrainTimeout
  /-- DOZE_MEM_RESTORED (R454): On DOZE exit MEM is up, leaves self-refresh and waits for the image. -/
  | dozeMemRestored
  /-- DOZE_IMAGE_CHECKED (R454): The full image offered again after DOZE is applied or refused with DOZE_IMAGE. -/
  | dozeImageChecked (obj : List Byte)
  /-- WAKE_N (R455): WAKE_N held low for 1 ms leaves OFF with a core power-on reset. -/
  | wakeN
  /-- THM_SAMPLE (R460): All sensors are converted and compared with their thresholds and dwell counts. -/
  | thmSample (l : List TempSample)
  /-- SENSOR_TIMEOUT (R461): A conversion gives no result within 40 µs and the sensor breaks with TIMEOUT. -/
  | sensorTimeout (n : Fin 24)
  /-- GRACE_EXPIRY (R464): GRACE_MS expires with the request in force and step 1 is applied. -/
  | graceExpiry
  /-- THM_STEP_TIMER (R465): STEP_MS after the last step, the next throttle step is applied or undone. -/
  | thmStepTimer
  /-- THERMAL_RESTART (R467): Voters have read below COOL for 10 s and the VX9 restarts as a warm device reset. -/
  | thermalRestart
  /-- TRIM_WALK_STEP (R475): Every STEP_US each walking trim moves one code towards its target. -/
  | trimWalkStep
  /-- TRIM_TARGET_WRITE (R475): A write of TRIM_VAL.TARGET sets a new target for the selected trim. -/
  | trimTargetWrite (v : BitVec 16)
  /-- CAL_BGR (R477): RUN.GO with ROUTINE 1 starts the bandgap routine. -/
  | calBgr (vref : Bool)
  /-- CAL_XO (R477): RUN.GO with ROUTINE 2 starts the crystal routine against PTP. -/
  | calXo
  /-- CAL_TS (R477): RUN.GO with ROUTINE 3 starts the sensor offset routine. -/
  | calTs (arg : BitVec 16)
  /-- CAL_LANE (R477): RUN.GO with ROUTINE 4 starts the lane trim routine of one group. -/
  | calLane (arg : BitVec 16)
  /-- CAL_PLL (R477): RUN.GO with ROUTINE 5 starts the PLL charge-pump routine. -/
  | calPll (arg : BitVec 16)
  /-- CAL_ABORT (R478): RUN.ABORT abandons the running routine and restores its targets. -/
  | calAbort
  /-- XO_ROUND (R477): An XO round's 2 s mean or 4 s settling ends and the target moves or the routine converges. -/
  | xoRound (mean : BitVec 32)
  /-- CAL_CONVERGED (R478): A routine converges and ends with RESULT OK. -/
  | calConverged (codes : List (Fin 7 × BitVec 16 × BitVec 16))
  /-- CAL_ROUTINE_TIMEOUT (R478): A routine reaches its limit and ends with TIMEOUT. -/
  | calRoutineTimeout
  /-- CAL_PRECOND_LOST (R478): A routine's precondition is lost and it ends with PRECOND. -/
  | calPrecondLost
  /-- CAL_EXPORT (R479): Service CAL_EXPORT writes the calibration copy in use to the Tray. -/
  | calExport (p : Fin 8)
  /-- CAL_IMPORT (R480): Service CAL_IMPORT checks, saves and applies a calibration set. -/
  | calImport (p : Fin 8) (readBack : Bool)
  /-- CAL_SAVE (R473): Service CAL_SAVE saves the current targets as a new set. -/
  | calSave (p : Fin 8) (readBack : Bool)
  /-- USER_READ (R479): Service USER_READ copies from the USER area to the Tray. -/
  | userRead (p : Fin 8)
  /-- USER_WRITE (R479): Service USER_WRITE copies from the Tray to the USER area and reads back. -/
  | userWrite (p : Fin 8) (readBack : Bool)
  /-- POWER_ON (R520): VDD_AON rises through 1.62 V and a full power-on reset begins. -/
  | powerOn
  /-- RESET_N (R482): RESET_N held low for 1 µs causes a full power-on reset. -/
  | resetN
  /-- CORE_PG_RISE (R520): CORE_PG goes high after the supplies ramp. -/
  | corePgRise
  /-- CORE_PG_TIMEOUT (R520): CORE_PG is not high within 50 ms and AON releases CORE_EN to retry. -/
  | corePgTimeout
  /-- CORE_RESET_RELEASE (R520): 1 ms after CORE_PG the core power-on reset is released. -/
  | coreResetRelease
  /-- CORE_PG_LOSS (R521): CORE_PG falls while CORE_EN is asserted and AON stops the core. -/
  | corePgLoss
  /-- CORE_PG_RETRY (R521): CORE_PG has been low 10 ms and AON runs the power-up again. -/
  | corePgRetry
  /-- RST_DEV_WARM (R485): AON.RST.DEV with KEY and WARM requests a warm device reset. -/
  | rstDevWarm
  /-- ROD_HOLD_SET (R486): A write setting a ROD_HOLD bit holds the rod in reset. -/
  | rodHoldSet (rod : Fin 16)
  /-- ROD_HOLD_CLEAR (R486): A write clearing a ROD_HOLD bit releases the rod. -/
  | rodHoldClear (rod : Fin 16)
  /-- ROD_RESET_RELEASE (R487): 10 µs after an automatic reset, the rod is released. -/
  | rodResetRelease (rod : Fin 16)
  /-- ROD_READY (R487): The released rod's registers and presets are applied, the proxy withdraws and ROD_READY is raised. -/
  | rodReady (rod : Fin 16)
  /-- ROD_PROBE (R491): Every PROBE × 100 µs CTL reads a register of each powered rod to detect a hang. -/
  | rodProbe (silent : BitVec 16)
  /-- REG_PARITY (R491): A rod's register block reports a parity error and the rod is hung. -/
  | regParity (rod : Fin 16)
  /-- XO_LOSS (R494): The 25 MHz crystal is lost and its PLLs freeze. -/
  | xoLoss
  /-- PCIE_REF_LOSS (R494): The PCIe reference is lost; its lanes fault and CK_PCIE moves to CK_TALLY. -/
  | pcieRefLoss
  /-- ETH_REF_LOSS (R494): The Ethernet reference is lost; MAC lanes fault and PTP holds over. -/
  | ethRefLoss
  /-- REF_BACK (R493): A lost reference has been good for STABLE_MS and is used again. -/
  | refBack (which : Fin 3)
  /-- BOOT_START (R537): A reset is released and the ROM sets trims, locks PLLs and reads the flash directory. -/
  | bootStart
  /-- FLASH_DIR_READ (R534): The flash directory has been read and checked. -/
  | flashDirRead (dir : List Byte)
  /-- FW_GO (R535): BOOT.CMD.FW_GO offers a host firmware copy at BAR2 offset 0. -/
  | fwGo
  /-- IMG_GO (R535): BOOT.CMD.IMG_GO offers a host full image at BAR2 offset 0. -/
  | imgGo
  /-- FW_READ_DONE (R438): A firmware copy has been read and verified; the cores start or the next copy is offered. -/
  | fwReadDone (obj : List Byte)
  /-- IMG_READ_DONE (R65): A full image has been read and passed steps 1 to 8, or is rejected. -/
  | imgReadDone (obj : List Byte)
  /-- IMG_UNPACK_DONE (R41): The control cores have unpacked the image body. -/
  | imgUnpackDone
  /-- IMG_CHECK_DONE (R66): Steps 9 to 11 pass and items 1 to 5 of the image are applied. -/
  | imgCheckDone
  /-- MEM_TRAIN_DONE (R385): MEM training ends and the fitted DRAM check of step 12 passes or rejects the image. -/
  | memTrainDone (found : List Nat) (bad : List (Fin 8 × Fin 4))
  /-- BOOT_READY (R537): Items 6 to 9 are applied, STATE becomes READY and the power state RUN. -/
  | bootReady
  /-- SCHEDULING_DECISION (R382): At each scheduling decision a channel chooses the next request to issue to DRAM, draining writes, merging partial writes and opening or closing rows. -/
  | schedulingDecision (ch : Fin 8) (errs : BitVec 10)
  /-- PTP_EVENT_MESSAGE_TX (R332): A PTP event message leaves a MAC with its one-step origin timestamp written, or its two-step timestamp pushed into the transmit timestamp queue. -/
  | ptpEventMessageTx (m : Fin 4) (req : TxStamp) (frame : List Byte)
  /-- VDD_AON_LOSS (R482): VDD_AON falls below 1.62 V and the whole VX9, AON included, becomes unpowered. -/
  | vddAonLoss
  /-- AON_LEAVES_RESET (R520): 2 ms after VDD_AON rises, or when RESET_N goes high if later, AON leaves reset, senses the fuses and asserts CORE_EN. -/
  | aonLeavesReset
  /-- CORE_EN_RETRY (R520): 1 s after CORE_PG failed to rise, AON asserts CORE_EN again, and after the third failure it waits for RESET_N or WAKE_N. -/
  | coreEnRetry
  deriving DecidableEq, Repr

end Sys2Proof
end

