-- ==== Sys2Proof/Machine/Store.lean ====
section
/-!
DEFINITION. Sparse stores: a list of (key, value) pairs in one canonical form. A key that is not listed holds the
default value that the reader gives; keys rise strictly along the list, and no byte store lists its default.
Registers, the Tray, DRAM and the keep store are all held this way.
-/

namespace Sys2Proof.Machine

/-- What a store holds at a key; `d` where the key is not listed. -/
def mapGet {κ ν : Type} [DecidableEq κ] (d : ν) : List (κ × ν) → κ → ν
  | [], _ => d
  | e :: t, k => if e.1 = k then e.2 else mapGet d t k

/-- A store without a key. -/
def mapErase {κ ν : Type} [DecidableEq κ] (m : List (κ × ν)) (k : κ) : List (κ × ν) :=
  m.filter (fun e => decide (e.1 ≠ k))

/-- Insert a pair before the first larger key. -/
def mapIns {κ ν : Type} (lt : κ → κ → Bool) : List (κ × ν) → κ → ν → List (κ × ν)
  | [], k, v => [(k, v)]
  | e :: t, k, v => if lt k e.1 then (k, v) :: e :: t else e :: mapIns lt t k v

/-- Write one key. Writing the default takes the entry away. -/
def mapSet {κ ν : Type} [DecidableEq κ] [DecidableEq ν] (lt : κ → κ → Bool) (d : ν) (m : List (κ × ν)) (k : κ) (v : ν) :
    List (κ × ν) :=
  if v = d then mapErase m k else mapIns lt (mapErase m k) k v

/-- The pairs of `src` written over `base`; the first pair of a key wins. -/
def mapOver {κ ν : Type} [DecidableEq κ] (lt : κ → κ → Bool) (src base : List (κ × ν)) : List (κ × ν) :=
  src.foldr (fun e m => mapIns lt (mapErase m e.1) e.1 e.2) base

/-- Keys rise strictly. -/
def mapSorted {κ ν : Type} (lt : κ → κ → Bool) : List (κ × ν) → Bool
  | [] => true
  | e :: t => t.all (fun e' => lt e.1 e'.1) && mapSorted lt t

/-- Order of plain numbers, as a test. -/
def natLt (a b : Nat) : Bool := decide (a < b)

/-- A byte store: (address, byte) pairs, unlisted bytes 0 (notes/assumptions/4.md). -/
abbrev Bytes := List (Nat × Byte)

/-- Read a byte of a store. -/
def rdByte (m : Bytes) (a : Nat) : Byte := mapGet 0 m a

/-- Write a byte of a store. -/
def wrByte (m : Bytes) (a : Nat) (b : Byte) : Bytes := mapSet natLt 0 m a b

/-- Read `n` bytes from an address up. -/
def rdBytes (m : Bytes) (a : Nat) : Nat → List Byte
  | 0 => []
  | n + 1 => rdByte m a :: rdBytes m (a + 1) n

/-- Write bytes from an address up. -/
def wrBytes (m : Bytes) (a : Nat) : List Byte → Bytes
  | [] => m
  | b :: t => wrBytes (wrByte m a b) (a + 1) t

/-- The canonical form of a byte store: addresses rise strictly and no entry is 0. -/
def Bytes.wf (m : Bytes) : Bool := mapSorted natLt m && m.all (fun e => decide (e.2 ≠ 0))

/-- Forget every byte of `[lo, hi)`. -/
def clearBytes (m : Bytes) (lo hi : Nat) : Bytes := m.filter (fun e => decide (e.1 < lo ∨ hi ≤ e.1))

end Sys2Proof.Machine
end

