-- ==== Sys2Proof/Machine/Bits.lean ====
section
/-!
DEFINITION. Bit fields, byte order, sign extension, saturation, the checksums of the spec and the comparison of frame
tags.
-/

namespace Sys2Proof.Machine

/-- `w` bits of `v` from bit `lo` up. -/
def bits (v lo w : Nat) : Nat := v / 2 ^ lo % 2 ^ w

/-- Bit `i` of `v`. -/
def bit (v i : Nat) : Bool := v / 2 ^ i % 2 = 1

/-- `v` with bit `i` set. -/
def setBit (v i : Nat) : Nat := if bit v i then v else v + 2 ^ i

/-- `v` with bit `i` clear. -/
def clrBit (v i : Nat) : Nat := if bit v i then v - 2 ^ i else v

/-- Insert an element before the first one that it may stand before. -/
def insertBy {α : Type} (le : α → α → Bool) (x : α) : List α → List α
  | [] => [x]
  | y :: t => if le x y then x :: y :: t else y :: insertBy le x t

/-- A list in order; equal elements keep theirs. -/
def sortBy {α : Type} (le : α → α → Bool) (l : List α) : List α := l.foldr (insertBy le) []

/-- The first `n` elements of each kind; `seen` lists the kinds of those passed. -/
def keepEach {α : Type} (kind : α → Nat) (n : Nat) : List Nat → List α → List α
  | _, [] => []
  | seen, x :: t =>
    if (seen.filter (· == kind x)).length < n then x :: keepEach kind n (kind x :: seen) t else keepEach kind n seen t

/-- 1 for true, 0 for false. -/
def ofBool (b : Bool) : Nat := if b then 1 else 0

/-- The number of bits of `v` below `n` that are set. -/
def popcount (v : Nat) : Nat → Nat
  | 0 => 0
  | n + 1 => popcount v n + v / 2 ^ n % 2

/-- Two's complement reading of `w` bits. -/
def signed (w v : Nat) : Int := if v % 2 ^ w < 2 ^ (w - 1) then (v % 2 ^ w : Nat) else (v % 2 ^ w : Nat) - (2 ^ w : Nat)

/-- Two's complement of an integer in `w` bits. -/
def unsigned (w : Nat) (i : Int) : Nat := (i % (2 ^ w : Nat)).toNat

/-- Little-endian number of a byte list (spec/00 R5, spec/02 R40). -/
def leNat : List Byte → Nat
  | [] => 0
  | b :: t => b.toNat + 256 * leNat t

/-- Big-endian number of a byte list. -/
def beNat (l : List Byte) : Nat := l.foldl (fun a b => a * 256 + b.toNat) 0

/-- `n` little-endian bytes of a number. -/
def leBytes : Nat → Nat → List Byte
  | 0, _ => []
  | n + 1, v => BitVec.ofNat 8 v :: leBytes n (v / 256)

/-- `n` big-endian bytes of a number. -/
def beBytes (n v : Nat) : List Byte := (leBytes n v).reverse

/-- `n` zero bytes. -/
def zeros (n : Nat) : List Byte := List.replicate n 0

/-- `n` bytes of a list from position `a`; missing bytes are 0. -/
def slice (l : List Byte) (a n : Nat) : List Byte :=
  let t := (l.drop a).take n
  t ++ zeros (n - t.length)

/-- Little-endian field of a byte list. -/
def fieldLE (l : List Byte) (a n : Nat) : Nat := leNat (slice l a n)

/-- Rounding up to a multiple of `m`. -/
def roundUp (v m : Nat) : Nat := if m = 0 then v else (v + m - 1) / m * m

/-- Ceiling of a quotient. -/
def ceilDiv (a b : Nat) : Nat := if b = 0 then 0 else (a + b - 1) / b

/-- One step of a reflected CRC with polynomial `poly` over the low bit of `c`. -/
def crcBit (poly c : Nat) : Nat := if c % 2 = 1 then Nat.xor (c / 2) poly else c / 2

/-- Eight steps. -/
def crcByte (poly c : Nat) (b : Byte) : Nat :=
  let x := Nat.xor c b.toNat
  crcBit poly (crcBit poly (crcBit poly (crcBit poly (crcBit poly (crcBit poly (crcBit poly (crcBit poly x)))))))

/-- CRC-32C (spec/04 R102): reflected polynomial 0x82F6_3B78, all ones before and after. -/
def crc32c (l : List Byte) : Nat := Nat.xor (l.foldl (crcByte 0x82F63B78) 0xFFFFFFFF) 0xFFFFFFFF

/-- CRC-32 (spec/07 R185): reflected polynomial 0xEDB8_8320, all ones before and after. -/
def crc32 (l : List Byte) : Nat := Nat.xor (l.foldl (crcByte 0xEDB88320) 0xFFFFFFFF) 0xFFFFFFFF

/-- One step of the CRC-8 of spec/04 R101. -/
def crc8Bit (c : Nat) : Nat := if 128 ≤ c then Nat.xor (2 * c % 256) 7 else 2 * c

/-- CRC-8 (spec/04 R101): x^8 + x^2 + x + 1, most significant bit first, from 0xFF. -/
def crc8 (l : List Byte) : Nat :=
  l.foldl (fun c b => crc8Bit (crc8Bit (crc8Bit (crc8Bit (crc8Bit (crc8Bit (crc8Bit (crc8Bit (Nat.xor c b.toNat))))))))) 0xFF

/-- Adding 1 with saturation at the largest value of `w` bits. -/
def satInc (w v : Nat) : Nat := min (v + 1) (2 ^ w - 1)

/-- Tag `a` is later than tag `b` (spec/00 R11). -/
def tagLater (a b : Nat) : Bool :=
  let d := (a + 2 ^ 32 - b % 2 ^ 32) % 2 ^ 32
  decide (1 ≤ d ∧ d ≤ 2 ^ 31 - 1)

end Sys2Proof.Machine
end

