-- ==== Sys2Proof/Machine/Codec.lean ====
section
/-!
DEFINITION. The raw stripe codec (spec/08 R207 to R213): context modelling, Rice codes, the capped mode's control of the
error bound, the stripe header.
-/

namespace Sys2Proof.Machine

/-- A context of R209. -/
structure RscCtx where
  a : Int
  b : Int
  c : Int
  n : Int

/-- Parameters of a stripe: depth, mode, error bound, its largest value, T1, budget in bytes, mosaic periods, the class of
an entry, first column, columns, planes, lines that the port is configured for. -/
structure RscPar where
  d : Nat
  mode : Nat
  eBound : Nat
  eMax : Nat
  t1 : Nat
  budget : Nat
  px : Nat
  py : Nat
  cls : Nat → Nat → Nat
  first : Nat
  cols : Nat
  planes : Nat
  total : Nat

/-- maxval, RANGE, qbpp and LIMIT of R209. -/
def rscMax (d : Nat) : Int := 2 ^ d - 1
def rscRange (d e : Nat) : Int := (rscMax d + 2 * e) / (2 * e + 1) + 1
def rscQbpp (d e : Nat) : Nat := Nat.clog 2 (rscRange d e).toNat
def rscLimit (d : Nat) : Nat := 2 * (d + 8)

/-- The contexts at the start of a stripe. -/
def rscStart (d e : Nat) : List RscCtx :=
  List.replicate 378 ⟨max 2 ((rscRange d e + 32) / 64), 0, 0, 1⟩

/-- quant of R210. -/
def rscQuant (e t1 : Nat) (g : Int) : Int :=
  if g.natAbs ≤ e then 0 else if g.natAbs ≤ t1 + e then g.sign else 2 * g.sign

/-- Clamping. -/
def clampI (v lo hi : Int) : Int := max lo (min v hi)

/-- Bits of `v`, most significant first. -/
def msbBits (v n : Nat) : List Bool := ((List.range n).map (fun i => bit v i)).reverse

/-- put_rice of R210. -/
def putRice (limit qbpp m k : Nat) : List Bool :=
  let q := m / 2 ^ k
  if q < limit - qbpp - 1 then List.replicate q false ++ [true] ++ msbBits m k
  else List.replicate (limit - qbpp - 1) false ++ [true] ++ msbBits (m - 1) qbpp

/-- The update of a context by a coded error (the last part of R210). -/
def RscCtx.update (x : RscCtx) (e : Int) (bound : Nat) : RscCtx :=
  let b := x.b + e * (2 * bound + 1)
  let a := x.a + e.natAbs
  let y : RscCtx := if x.n = 64 then ⟨a / 2, b / 2, x.c, x.n / 2 + 1⟩ else ⟨a, b, x.c, x.n + 1⟩
  if y.b ≤ -y.n then
    let b1 := y.b + y.n
    { y with b := if b1 ≤ -y.n then -y.n + 1 else b1, c := if -128 < y.c then y.c - 1 else y.c }
  else if 0 < y.b then
    let b1 := y.b - y.n
    { y with b := if 0 < b1 then 0 else b1, c := if y.c < 127 then y.c + 1 else y.c }
  else y

/-- One sample (R208, R210): its bits, its context after it, its reconstructed value. `up` is the earlier line's values,
`cur` those of this line so far. -/
def rscSample (p : RscPar) (e y : Nat) (up : Option (List Int)) (ctxs : List RscCtx) (cur : List Int) (x : Nat) (v : Int) :
    List Bool × List RscCtx × Int :=
  let left := if p.px ≤ x then some (cur.getD (x - p.px) 0) else none
  let b0 := up.map (fun u => u.getD x 0)
  let a : Int := left.getD (b0.getD (2 ^ (p.d - 1)))
  let b := b0.getD a
  let c := match up with
    | some u => if p.px ≤ x then u.getD (x - p.px) 0 else b
    | none => a
  let d := match up with
    | some u => if x + p.px < p.cols then u.getD (x + p.px) 0 else b
    | none => a
  let q1 := rscQuant e p.t1 (d - b)
  let q2 := rscQuant e p.t1 (b - c)
  let q3 := rscQuant e p.t1 (c - a)
  let neg := decide (q1 < 0 ∨ (q1 = 0 ∧ (q2 < 0 ∨ (q2 = 0 ∧ q3 < 0))))
  let s : Int := if neg then -1 else 1
  let cl := p.cls ((p.first + x) % p.px) (y % p.py)
  let i := (63 * (cl : Int) + 25 * (s * q1 + 2) + 5 * (s * q2 + 2) + (s * q3 + 2) - 62).toNat
  let ctx := ctxs.getD i ⟨0, 0, 0, 1⟩
  let mx := rscMax p.d
  let p0 := if max a b ≤ c then min a b else if c ≤ min a b then max a b else a + b - c
  let pr := clampI (p0 + s * ctx.c) 0 mx
  let e0 := s * (v - pr)
  let e1 : Int := if e = 0 then e0
    else if 0 < e0 then (e0 + e) / (2 * e + 1) else -(((e : Int) - e0) / (2 * e + 1))
  let xr := clampI (pr + s * e1 * (2 * e + 1)) 0 mx
  let range := rscRange p.d e
  let e2 := if e1 < 0 then e1 + range else e1
  let e3 := if (range + 1) / 2 ≤ e2 then e2 - range else e2
  let k := ((List.range 64).find? (fun k => decide (ctx.a ≤ ctx.n * 2 ^ k))).getD 0
  let m := (if 0 ≤ e3 then 2 * e3 else -2 * e3 - 1).toNat
  (putRice (rscLimit p.d) (rscQbpp p.d e) m k, ctxs.set i (ctx.update e3 e), xr)

/-- Bits into bytes, bit 7 first, padded with 0 (R207). -/
def packMsb (l : List Bool) : List Byte :=
  (List.range (ceilDiv l.length 8)).map (fun j =>
    BitVec.ofNat 8 ((List.range 8).foldl (fun a i => 2 * a + ofBool (l.getD (8 * j + i) false)) 0))

/-- A plane-line: its bytes, the plane's contexts after it, its reconstructed values. -/
def rscPlane (p : RscPar) (e y : Nat) (up : Option (List Int)) (ctxs : List RscCtx) (line : List Nat) :
    List Byte × List RscCtx × List Int :=
  let r := (List.range p.cols).foldl (fun (acc : List Bool × List RscCtx × List Int) x =>
    let o := rscSample p e y up acc.2.1 acc.2.2 x (line.getD x 0)
    (acc.1 ++ o.1, o.2.1, acc.2.2 ++ [o.2.2])) ([], ctxs, [])
  (packMsb r.1, r.2.1, r.2.2)

/-- A coder within a stripe. Earlier lines are kept by kind, row residue and plane. -/
structure RscRun where
  e : Nat
  ctxs : List (List RscCtx)
  past : List ((Bool × Nat × Nat) × List Int)
  out : List Byte
  steps : List (Nat × Nat)
  zr : Option Nat
  n : Nat

/-- The next bound of the ladder of R212. -/
def rscLadder (e eMax : Nat) : Nat :=
  min (([1, 2, 4, 8, 16, 32, 64, 128, 255].find? (fun v => decide (e < v))).getD 255) eMax

/-- A coded line (R207, R212): whether it is an OB line, its row, its samples for each plane. -/
def rscLine (p : RscPar) (r : RscRun) (ob : Bool) (y : Nat) (planes : List (List Nat)) : RscRun :=
  if r.zr.isSome then { r with n := r.n + 1 }
  else
    let o := (List.range p.planes).map (fun k =>
      rscPlane p r.e y ((r.past.find? (fun q => decide (q.1 = (ob, y % p.py, k)))).map (·.2)) (r.ctxs.getD k [])
        (planes.getD k []))
    let held := o.flatMap (·.1)
    if p.mode = 2 ∧ p.budget < r.out.length + held.length then { r with zr := some r.n, n := r.n + 1 }
    else
      let past := (List.range p.planes).map (fun k => ((ob, y % p.py, k), (o.getD k ([], [], [])).2.2)) ++
        r.past.filter (fun q => decide (¬(q.1.1 = ob ∧ q.1.2.1 = y % p.py)))
      let out := r.out ++ held
      let up := decide (p.mode = 2 ∧ (r.n + 1) % 16 = 0 ∧ r.e < p.eMax ∧ p.budget * (r.n + 1) / p.total < out.length)
      let e := if up then rscLadder r.e p.eMax else r.e
      { r with e := e, ctxs := o.map (·.2.1), past := past, out := out, n := r.n + 1,
               steps := if up then r.steps ++ [(r.n + 1, e)] else r.steps }

/-- E at the start of a stripe (R211). -/
def RscPar.e0 (p : RscPar) : Nat := if p.mode = 1 then p.eBound else 0

/-- Code the lines of a stripe: OB lines first, then active lines (R207). -/
def rscStripe (p : RscPar) (ob act : List (Nat × List (List Nat))) : RscRun :=
  let start : RscRun := ⟨p.e0, List.replicate p.planes (rscStart p.d p.e0), [], [], [], none, 0⟩
  act.foldl (fun r l => rscLine p r false l.1 l.2) (ob.foldl (fun r l => rscLine p r true l.1 l.2) start)

/-- The 128 bytes of a stripe header (R213). -/
def rscHeader (p : RscPar) (tag k ns : Nat) (pre : Bool) (nob nact : Nat) (r : RscRun) : List Byte :=
  let a := leBytes 4 0x52545356 ++ leBytes 4 tag ++ leBytes 1 k ++ leBytes 1 ns ++ leBytes 1 p.mode ++
    leBytes 1 (ofBool r.zr.isSome + 2 * (p.planes - 1) + 4 * ofBool pre) ++ leBytes 2 p.first ++ leBytes 2 p.cols ++
    leBytes 1 p.d ++ leBytes 1 p.px ++ leBytes 1 p.py ++ leBytes 1 p.e0 ++ leBytes 2 p.t1 ++
    leBytes 1 (if p.mode = 2 then p.eMax else 0) ++ leBytes 1 r.steps.length ++ leBytes 2 nob ++ leBytes 2 nact ++
    leBytes 2 (r.zr.getD 0xFFFF) ++ zeros 2 ++ leBytes 4 r.out.length ++ leBytes 4 (crc32c r.out) ++
    leBytes 4 (if p.mode = 2 then p.budget else 0) ++ zeros 16
  let b := slice (r.steps.flatMap (fun q => leBytes 2 q.1 ++ leBytes 1 q.2 ++ zeros 1)) 0 64
  a ++ leBytes 4 (crc32c (a ++ b)) ++ b

/-- Sample `i` of `d` bits of a packed line (spec/04 R106). -/
def packedSample (v d i : Nat) : Nat := v / 2 ^ (i * d) % 2 ^ d

/-- The samples of columns `first` to `first + n - 1` of a packed line, for each of `ns` samples of a pixel. -/
def lineSamples (l : List Byte) (d ns first n : Nat) : List (List Nat) :=
  let v := leNat l
  (List.range ns).map (fun k => (List.range n).map (fun x => packedSample v d ((first + x) * ns + k)))

end Sys2Proof.Machine
end

