-- ==== Sys2Proof/Hevc.lean ====
section
/-!
DEFINITION. What an encoder's choices are (spec/09 R234, R247 to R254), in the terms of ITU-T H.265: vectors, prediction blocks, coding
units, the coding of a CTU, and what an encoder has before it when it codes one.
-/

namespace Sys2Proof

/-- A motion vector in quarter luma samples. -/
structure Mv where
  x : Int
  y : Int
  deriving DecidableEq, Repr, Inhabited

/-- A prediction block: its place in the CTU and its size in luma samples, its reference (index in list 0), its vector, and whether
the vector is that of a merge candidate. -/
structure Pu where
  x : Nat
  y : Nat
  w : Nat
  h : Nat
  ref : Nat
  mv : Mv
  merge : Bool
  deriving DecidableEq, Repr, Inhabited

/-- A coding unit: its place in the CTU and its size in luma samples, its intra modes (one, or four of an 8 x 8 unit), or its
prediction blocks. -/
structure Cu where
  x : Nat
  y : Nat
  size : Nat
  intra : List Nat
  inter : List Pu
  deriving DecidableEq, Repr, Inhabited

/-- The coding of a CTU: its units, and the bytes that it adds to the slice. -/
structure CtuCode where
  cus : List Cu
  data : List Byte
  deriving DecidableEq, Repr, Inhabited

/-- What an encoder codes a CTU from: a fresh number for each picture, the place of the CTU in the picture, the format, the source
samples of the CTU by component, the luma window and the chroma window of each reference by line (spec/09 R248), the candidates of each
reference in quarter samples, whether the first is a seed, and the range about them in full samples (R247, R251), whether it is coded intra, the QP, the bias of the
skip decision (R258), and how the CTUs before it were coded. -/
structure CtuTask where
  draw : Nat
  addr : Nat
  format : Nat
  source : List (List Nat)
  luma : List (List (List Nat))
  chroma : List (List (List Nat))
  cands : List (List Mv)
  seeded : Bool
  range : Nat
  intra : Bool
  qp : Nat
  bias : Nat
  past : List CtuCode
  deriving DecidableEq, Repr, Inhabited

end Sys2Proof
end

