-- ==== Sys2Proof/Config.lean ====
section
/-!
DEFINITION. What an implementation of the device fixes and the spec does not: the free values, and the functions that
other documents define. Every constant here is opaque, so that no proof can see a value of it: a statement that holds,
holds for every value. notes/assumptions/2.md lists them.
-/

namespace Sys2Proof.Config

/-- A fresh unstated number: the free value of draw `n`. -/
opaque freeNat : Nat → Nat

/-- Byte `i` of the unstated byte string of draw `n`. -/
opaque freeByte : Nat → Nat → Byte

/-- The ECDSA P-384 signature of a digest under the key derived from a device secret: byte `i` of r and s. -/
opaque ecdsaSignByte : List Byte → List Byte → Nat → Byte

/-- The LMS signature of a message with leaf `q` of the trees derived from a device secret: leaf 1,024 t + l of the bottom trees, or
2^20 + t of the top tree: byte `i`. -/
opaque lmsSignByte : List Byte → Nat → List Byte → Nat → Byte

/-- The public keys derived from a device secret: 0 X and Y of the ECDSA key, 1 I and T[1] of the top LMS tree, 2 + t those of bottom
tree t: byte `i`. -/
opaque pubKeyByte : List Byte → Nat → Nat → Byte

/-- The blocks, as bits, into which the DEFLATE engine codes a job's input in the static or dynamic form (spec/16 R398, which
leaves the search open): CODES, LEVEL and BLOCK, the history, the input, and whether the last block is final. -/
opaque deflateBits : Nat → Nat → Nat → List Byte → List Byte → Bool → List Bool

/-- What the intermediate precision of a bead makes of an exact value (spec/07 R175: at least that of binary32); the number tells
where in the pipeline. -/
opaque inter : Nat → Frac → Frac

/-- The ways in which an encoder may code a CTU, the one that it prefers first: of these it takes the first that the rules of spec/09
R234 and R247 to R254 allow. The spec bounds the choice and leaves it open. -/
opaque ctuChoices : CtuTask → List CtuCode

/-- The bytes of a flat intra CTU and of a skipped one (spec/09 R259), of which those within the bound count. -/
opaque ctuFlat : CtuTask → List Byte
opaque ctuSkip : CtuTask → List Byte

/-- An element of a parameter set, an SEI message or a slice header that spec/09 R234 and R235 leave to the encoder: element `k` of a
picture, of which the remainder by the number of its values counts. -/
opaque hevcElement : Nat → Nat → Nat

/-- The picture that NAL units of slices decode to by ITU-T H.265, as stored bytes: from the format, width and height, the NAL units,
and the stored references of list 0. -/
opaque hevcDecode : Nat → Nat → Nat → List (List Byte) → List (List Byte) → List Byte

/-- The ratio Q of VBR (spec/09 R257), whose mean CTU cost the spec does not define: from the number of the picture's draw. -/
opaque vbrRatio : Nat → Frac

/-- Ticks per second of the timing information (spec/09 R234), which the spec does not give. -/
opaque timeScale : Nat

/-- The I/O queue pair that an NVMe command takes (spec/08 R223 names the pairs and not the choice): any number, of which the
remainder by the number of pairs counts. -/
opaque nvPair : Nat → Nat

/-- A quotient by a standard deviation of 0 (spec/06 R159 states none). -/
opaque divZero : Frac → Frac

/-- The guide gradient of a direction of GUIDED demosaic, which spec/07 R181 names and does not define: from the guide sites along
the direction (steps from the pixel, V24 value). -/
opaque guideGrad : List (Int × Frac) → Frac

/-- The estimate along a direction that lacks a guide site on one side of the pixel, where R181 expects one on both. -/
opaque guideOneSided : List (Int × Frac) → Frac

/-- The 3 x 3 median of R181 where a neighbour has no ratio: from FALSE_C and the ratios that there are. -/
opaque falseColour : Nat → List Frac → Frac

/-- How far a strength of FALSE_C between 0 (no median) and 255 draws a ratio to the median: FALSE_C, ratio, median. -/
opaque falseMix : Nat → Frac → Frac → Frac

/-- A class at a pixel whose window holds ratios and differences: from what each alone gives. -/
opaque guidedMix : Frac → Frac → Frac

/-- The window of BILINEAR (spec/07 R180) for an odd period reaches one sample further to lower columns and lines. -/
opaque windowLow : Bool

/-- A coefficient of the built-in scaler filters (spec/11 R287): from source and destination size, number of taps, phase, tap. -/
opaque scalerCoef : Nat × Nat → Nat → Nat → Nat → Frac

/-- What a composer makes of a sample whose read returns POISON (spec/11 states nothing), and what the bytes of an uncorrectable
or denied read hold (spec/01 R18), from the address. -/
opaque poisoned : Nat → Nat

/-- The pixel that a head repeats where no pixel of its frame has come yet (spec/12 R309): by head and frame start. -/
opaque lastPixel : Nat → Nat → Nat

/-- The motion search (spec/06 R164, R165) where the spec leaves it open: whether an average of four luma samples with this sum, not
a multiple of 4, rounds up. -/
opaque pyrUp : Nat → Bool

/-- The sample between four neighbours (left and right above, left and right below) at quarters (x, y), not both 0. -/
opaque motSub : Nat × Nat → Nat × Nat × Nat × Nat → Nat

/-- The length of a vector in quarter samples, as LAMBDA weighs it. -/
opaque motDist : Int × Int → Nat

/-- Of two vectors of equal cost the first is taken. -/
opaque motPrefer : Int × Int → Int × Int → Bool

/-- A vector with a SAD is valid. -/
opaque motValid : Nat → Int × Int → Bool

/-- Key hash of Lommond slot `s` as fused at manufacture (spec/18 R434). -/
opaque lroot : Nat → BitVec 384

/-- The device secret as fused at manufacture (spec/18 R434): byte `i`. -/
opaque deviceSecret : Nat → Byte

/-- Lot code, wafer and die position, and serial number as fused at manufacture (spec/22 R511). -/
opaque lot : BitVec 32
opaque diePlace : BitVec 24
opaque serial : BitVec 64

end Sys2Proof.Config
end

