-- ==== Sys2Proof/Machine/Fld.lean ====
section
/-!
DEFINITION. A register field and a row of the register map.
-/

namespace Sys2Proof.Machine

/-- The key of a field: its block (rod 0 to 15, 16 the AON block, 17 the mailbox and doorbell window), its number in
the register list, its instance. -/
abbrev Key := Nat × Nat × Nat

/-- A register field: block, number, instance, width and reset value. Numbers from 5000 up are sticky fields (spec/17
R428), numbers from 3000 to 4999 staged fields (spec/00 R7, SH), and numbers from 2000 to 2999 state that the spec gives a
block without a register of its own. -/
structure Fld where
  rod : Nat
  id : Nat
  ix : Nat
  w : Nat
  rst : Nat
  deriving DecidableEq, Repr

/-- The key of a field. -/
@[simp] def Fld.key (f : Fld) : Key := (f.rod, f.id, f.ix)

/-- Lexicographic order of keys. -/
def keyLt (a b : Key) : Bool :=
  decide (a.1 < b.1 ∨ (a.1 = b.1 ∧ (a.2.1 < b.2.1 ∨ (a.2.1 = b.2.1 ∧ a.2.2 < b.2.2))))

/-- Field types of the register tables (spec/00 R7). -/
inductive Ty where
  | ro | rw | wo | w1s | w1c | stk
  deriving DecidableEq, Repr

/-- The commit domain of a staged field (spec/22 R505): none (not SH), a fixed domain, the instance divided by a
number, or one of OUT's routing rules. -/
inductive Dom where
  | never
  | fixed (d : Nat)
  | perIx (div : Nat)
  | route
  | sdi
  | dp
  deriving DecidableEq, Repr

/-- The range of a field on write (spec/22 R504). -/
inductive Rng where
  | any
  | iv (lo hi step : Nat)
  | sets (l : List (Nat × Nat))
  | mask (m : Nat)
  deriving DecidableEq, Repr

/-- Does a value lie in a range? -/
def Rng.ok : Rng → Nat → Bool
  | .any, _ => true
  | .iv lo hi step, v => decide (lo ≤ v ∧ v ≤ hi ∧ v % step = 0)
  | .sets l, v => l.any (fun p => decide (p.1 ≤ v ∧ v ≤ p.2))
  | .mask m, v => decide (v &&& m = v)

/-- One index of a register's name: the address step, or the bit step inside a word, and the count. -/
structure Dim where
  step : Nat
  bits : Nat
  n : Nat
  deriving DecidableEq, Repr

/-- A row of the register map: the field of an instance, the word's offset in the block, the indices, the lowest bit,
the type, the range and the fields that writing 1 also clears. -/
structure Row where
  fld : Nat → Nat → Fld
  off : Nat
  dims : List Dim
  lo : Nat
  ty : Ty
  rng : Rng
  clr : Nat → Nat → List Fld

/-- The instances of a row that lie in the word at distance `d` from its first word, each with its bit offset. -/
def dimHits : List Dim → Nat → Nat → Nat → List (Nat × Nat)
  | [], d, ix, b => if d = 0 then [(ix, b)] else []
  | e :: t, d, ix, b =>
    if e.bits = 0 then
      if e.step = 0 then [] else
      let i := d / e.step
      if i < e.n then dimHits t (d % e.step) (ix * e.n + i) b
      else []
    else (List.range e.n).flatMap (fun i => dimHits t d (ix * e.n + i) (b + i * e.bits))

/-- The instances of a row in the word at a block offset. -/
def Row.hits (r : Row) (off : Nat) : List (Nat × Nat) :=
  if off < r.off then [] else dimHits r.dims (off - r.off) 0 0

/-- Use of a lane (spec/03 R72, R74): 0 sensor, 1 PCIe endpoint, 2 PCIe root, 3 Ethernet, 4 SDI, 5 DisplayPort, 6 eDP. -/
def laneUse (rod l : Nat) : Nat :=
  if rod = 0 then 1 else if rod = 1 then 0 else if rod = 10 then 2 else if rod = 12 then 3
  else if rod = 11 then (if l < 4 then 4 else if l < 12 then 5 else 6) else 0

/-- Lanes of a rod (spec/03 R74). -/
def laneCount (rod : Nat) : Nat :=
  if rod = 0 then 4 else if rod = 1 then 68 else if rod = 10 then 16 else if rod = 11 then 20 else if rod = 12 then 16 else 0

/-- Class of the reset mosaic's entry (i, j) of spec/07 DMS.MAPj and spec/08 REC.MAPp_j: R G over G B. -/
def bayer (j i : Nat) : Nat :=
  if j = 0 then (if i = 1 then 1 else 0) else if j = 1 then (if i = 0 then 1 else if i = 1 then 2 else 0) else 0

end Sys2Proof.Machine
end

