-- ==== Sys2Proof/Machine/Events.lean ====
section
/-!
DEFINITION. The event sources (spec/17 R429): each is a rod and a local number. Rod-level sources come first, then the
beads in the order of spec/01 R15, each followed by the four lane sources of spec/03 R95. CTL and AON use their tables.
Block 16 is AON.
-/

namespace Sys2Proof.Machine.E

/-- An event source: its block and its local number. -/
abbrev Src := Nat × Nat

/-- First source number of a block (spec/17 R429). -/
def base (rod : Nat) : Nat :=
  if rod = 0 then 0 else if rod = 1 then 96 else if rod ≤ 6 then 192 + 32 * (rod - 2) else if rod = 7 then 352
  else if rod = 8 then 384 else if rod = 9 then 448 else if rod = 10 then 512 else if rod = 11 then 576
  else if rod = 12 then 768 else if rod = 13 then 864 else if rod = 14 then 960 else if rod = 15 then 1056 else 1120

/-- The source's number in the device (spec/17 R429). -/
def number (e : Src) : Nat := base e.1 + e.2

/-- The source that a number names. -/
def ofNumber (n : Nat) : Src :=
  if n < 96 then (0, n) else if n < 192 then (1, n - 96) else if n < 352 then (2 + (n - 192) / 32, (n - 192) % 32)
  else if n < 384 then (7, n - 352) else if n < 448 then (8, n - 384) else if n < 512 then (9, n - 448)
  else if n < 576 then (10, n - 512) else if n < 768 then (11, n - 576) else if n < 864 then (12, n - 768)
  else if n < 960 then (13, n - 864) else if n < 1056 then (14, n - 960) else if n < 1120 then (15, n - 1056)
  else (16, n - 1120)

-- CTL (the table of spec/17 R429, with spec/18 R458, spec/20 R481, spec/22 R509 and spec/24 R540)
def patchDone : Src := (0, 0)
def patchReject : Src := (0, 1)
def patchAbandon : Src := (0, 2)
def strgDrop : Src := (0, 3)
def stripeSub : Src := (0, 4)
def stripeLost : Src := (0, 5)
def spareLost : Src := (0, 6)
def substReturn : Src := (0, 7)
def lutReady : Src := (0, 8)
def lutBad : Src := (0, 9)
def picNobuf : Src := (0, 10)
def coreRestart (n : Nat) : Src := (0, 11 + n)
def clogLost : Src := (0, 15)
def trayCorr : Src := (0, 16)
def trayUncorr : Src := (0, 17)
def trayDenied : Src := (0, 18)
def commitReject : Src := (0, 19)
def wrRange : Src := (0, 20)
/-- A message was posted in the odd mailbox 2j + 1. -/
def mbPosted (j : Nat) : Src := (0, 24 + j)
/-- The message of the even mailbox 2j was taken. -/
def mbTaken (j : Nat) : Src := (0, 32 + j)
def mbCollide : Src := (0, 40)
def mbCross : Src := (0, 41)
def mbRxReset : Src := (0, 42)
def doorbell : Src := (0, 43)
def hepRetired : Src := (0, 48)
def hepAer : Src := (0, 49)
def bootReady : Src := (0, 50)
def bootImgFail : Src := (0, 51)
def secDone : Src := (0, 64)
def secTokenOk : Src := (0, 65)
def secTokenBad : Src := (0, 66)
def secDebugOpen : Src := (0, 67)
def secDebugClose : Src := (0, 68)
def secLifecycle : Src := (0, 69)
def secRevoke : Src := (0, 70)
def secSvn : Src := (0, 71)
def secJtagDeny : Src := (0, 72)
def secRestart : Src := (0, 73)
def secLmsLow : Src := (0, 74)
def secLmsBad : Src := (0, 75)
def pwrDone : Src := (0, 76)
def pwrRefused : Src := (0, 77)
def keepSaved : Src := (0, 80)
def keepCalBad : Src := (0, 81)
def keepWriteErr : Src := (0, 82)
def keepImportRefused : Src := (0, 83)

-- LNK (spec/05 R139, spec/04 R117)
def frameShort (p : Nat) : Src := (1, 5 * p)
def frameLong (p : Nat) : Src := (1, 5 * p + 1)
def frameOverflow (p : Nat) : Src := (1, 5 * p + 2)
def frameSynth (p : Nat) : Src := (1, 5 * p + 3)
def phaseErr (p : Nat) : Src := (1, 5 * p + 4)
def linkErr (p : Nat) : Src := (1, 10 + 8 * p)
def laneBad (p : Nat) : Src := (1, 11 + 8 * p)
def spareSwap (p : Nat) : Src := (1, 12 + 8 * p)
def trained (p : Nat) : Src := (1, 13 + 8 * p)
def setDone (p : Nat) : Src := (1, 26 + 5 * p)
def setSlipped (p : Nat) : Src := (1, 27 + 5 * p)
def setUnsure (p : Nat) : Src := (1, 28 + 5 * p)
def setBad (p : Nat) : Src := (1, 29 + 5 * p)
def bindFail (p : Nat) : Src := (1, 30 + 5 * p)
def refHoldover : Src := (1, 36)
def refRate : Src := (1, 37)
def refRephase : Src := (1, 38)

-- IMGn (spec/06 R173, spec/07 R203); n = 0 to 4
def rodFatal (n : Nat) : Src := (2 + n, 0)
def atMissed (n : Nat) : Src := (2 + n, 1)
def blkNoOb (n : Nat) : Src := (2 + n, 2)
def dpcMapErr (n : Nat) : Src := (2 + n, 3)
def lscGridErr (n : Nat) : Src := (2 + n, 4)
def dcgSum (n : Nat) : Src := (2 + n, 5)
def tnrRefReset (n : Nat) : Src := (2 + n, 6)
def tnrVecMiss (n : Nat) : Src := (2 + n, 7)
def lutFallback (n : Nat) : Src := (2 + n, 8)
def lutPoison (n : Nat) : Src := (2 + n, 9)
def stsDone (n : Nat) : Src := (2 + n, 10)

-- MOT (spec/06 R173)
def vecDrop : Src := (7, 0)

-- CODr (spec/09 R262, spec/10 R278)
def strmBad (r : Nat) : Src := (8 + r, 0)
def strmCmdIgn (r : Nat) : Src := (8 + r, 1)
def encBudget (r k : Nat) : Src := (8 + r, 2 + 5 * k)
def encVecMiss (r k : Nat) : Src := (8 + r, 3 + 5 * k)
def encRepeat (r k : Nat) : Src := (8 + r, 4 + 5 * k)
def encCut (r k : Nat) : Src := (8 + r, 5 + 5 * k)
def encFlat (r k : Nat) : Src := (8 + r, 6 + 5 * k)
def decRefGen (r : Nat) : Src := (8 + r, 22)
def decSyntax (r : Nat) : Src := (8 + r, 23)
def decWatchdog (r : Nat) : Src := (8 + r, 24)
def decOob (r : Nat) : Src := (8 + r, 25)
def decUnsup (r : Nat) : Src := (8 + r, 26)
def decNobuf (r : Nat) : Src := (8 + r, 27)
def decInBad (r : Nat) : Src := (8 + r, 28)
def decRecovered (r : Nat) : Src := (8 + r, 29)
def decOut (r : Nat) : Src := (8 + r, 30)

-- RRC (spec/08 R232)
def recCmdDone : Src := (10, 0)
def recDrop : Src := (10, 1)
def recPrerollLost : Src := (10, 2)
def recVolumeFull : Src := (10, 3)
def rscBudget (n : Nat) : Src := (10, 4 + n)
def nvqReady (d : Nat) : Src := (10, 8 + 3 * d)
def nvqTimeout (d : Nat) : Src := (10, 9 + 3 * d)
def nvqFault (d : Nat) : Src := (10, 10 + 3 * d)

-- OUT (spec/11 R300, spec/12 R319); composer 8 is WCMP
def cmpFenceDefer (n : Nat) : Src := (11, 8 * n)
def cmpTapsReduced (n : Nat) : Src := (11, 8 * n + 1)
def cmpLayerCropped (n : Nat) : Src := (11, 8 * n + 2)
def cmpColourMm (n : Nat) : Src := (11, 8 * n + 3)
def cmpHold (n : Nat) : Src := (11, 8 * n + 4)
def cmpFenceErr (n : Nat) : Src := (11, 8 * n + 5)
def guardMismatch (n : Nat) : Src := (11, 8 * n + 6)
def guardFbBad (n : Nat) : Src := (11, 8 * n + 7)
def wallPicLate : Src := (11, 72)
def wallCanvasSkip : Src := (11, 73)
def slcGeomMm : Src := (11, 74)
def headVblank (n : Nat) : Src := (11, 75 + 5 * n)
def headCommitLate (n : Nat) : Src := (11, 76 + 5 * n)
def headUnderrun (n : Nat) : Src := (11, 77 + 5 * n)
def headRephase (n : Nat) : Src := (11, 78 + 5 * n)
def headRelock (n : Nat) : Src := (11, 79 + 5 * n)
def sdiUancDrop (n : Nat) : Src := (11, 115 + 5 * n)
/-- Port q: 0 and 1 are DP0 and DP1, 2 and 3 EDP0 and EDP1. -/
def dpHpd (q : Nat) : Src := (11, 135 + 7 * q)
def dpIrq (q : Nat) : Src := (11, 136 + 7 * q)
def dpLink (q : Nat) : Src := (11, 137 + 7 * q)

-- NET (spec/13 R348)
def flowBad : Src := (12, 0)
def ethLink (m : Nat) : Src := (12, 1 + 7 * m)
def ethFec (m : Nat) : Src := (12, 2 + 7 * m)
def tsqOvf (m : Nat) : Src := (12, 3 + 7 * m)
def pktAuDrop (n : Nat) : Src := (12, 29 + 3 * n)
def pktTxDrop (n : Nat) : Src := (12, 30 + 3 * n)
def pktRxLost (n : Nat) : Src := (12, 31 + 3 * n)
def tallyStep : Src := (12, 41)
def trgFire (i : Nat) : Src := (12, 42 + i)
def trgLate : Src := (12, 58)
def capDone (j : Nat) : Src := (12, 59 + j)
def capOvr : Src := (12, 67)
def ptpState : Src := (12, 68)
def ptpGm : Src := (12, 69)

-- AUD (spec/14 R367)
def sgStart (g : Nat) : Src := (13, 3 * g)
def sgLate (g : Nat) : Src := (13, 3 * g + 1)
def sgMiss (g : Nat) : Src := (13, 3 * g + 2)
def asSdiSlip (a : Nat) : Src := (13, 12 + a)
/-- First source of port n: AP6 carries two more than the ports below it. -/
def apBase (n : Nat) : Nat := if n ≤ 6 then 20 + 8 * n else 78
def audSlip (n : Nat) : Src := (13, apBase n)
def audClkLost (n : Nat) : Src := (13, apBase n + 1)
def audClkRate (n : Nat) : Src := (13, apBase n + 2)
def audClkRecover (n : Nat) : Src := (13, apBase n + 3)
def audFsErr (n : Nat) : Src := (13, apBase n + 4)
def audRing (n : Nat) : Src := (13, apBase n + 5)
def audBadBlk (n : Nat) : Src := (13, apBase n + 6)
def audBlock (n : Nat) : Src := (13, apBase n + 7)
def asrcUnlock (n : Nat) : Src := (13, apBase n + 8)
def asrcLock (n : Nat) : Src := (13, apBase n + 9)

-- MEM (spec/15 R393)
def panicLong : Src := (14, 0)
def bwCeiling : Src := (14, 1)
def memCeRate (n : Nat) : Src := (14, 2 + 9 * n)
def memUe (n : Nat) : Src := (14, 3 + 9 * n)
def memMarginLow (n : Nat) : Src := (14, 4 + 9 * n)
def memStepdown (n : Nat) : Src := (14, 5 + 9 * n)
def memNoStep (n : Nat) : Src := (14, 6 + 9 * n)
def memErase (n : Nat) : Src := (14, 7 + 9 * n)
def memFreqDone (n : Nat) : Src := (14, 8 + 9 * n)
def memTrainFail (n : Nat) : Src := (14, 9 + 9 * n)
def memChReset (n : Nat) : Src := (14, 10 + 9 * n)

-- UTL (spec/16 R407, spec/17 R416, spec/20 R481, spec/19 R469)
def dflDone (n : Nat) : Src := (15, 5 * n)
def dflErr (n : Nat) : Src := (15, 5 * n + 1)
def dflNoGain (n : Nat) : Src := (15, 5 * n + 2)
def dflDescBad (n : Nat) : Src := (15, 5 * n + 3)
def dflCut (n : Nat) : Src := (15, 5 * n + 4)
def dmaDone (d : Nat) : Src := (15, 10 + 2 * d)
def dmaErr (d : Nat) : Src := (15, 11 + 2 * d)
def calDone : Src := (15, 26)
def calAbandon : Src := (15, 27)
def calTimeout : Src := (15, 28)
def calWalkDone : Src := (15, 29)
def thmWarn : Src := (15, 30)
def thmHot : Src := (15, 31)
def thmClear : Src := (15, 32)
def thmStep : Src := (15, 33)
def thmBroken : Src := (15, 34)
def thmFrdivNa : Src := (15, 35)

-- AON (spec/19 R469, spec/21 R498)
def thermRestart : Src := (16, 0)
def voterHot : Src := (16, 1)
def voterBroken : Src := (16, 2)
def rodFaultReset : Src := (16, 3)
def rodHeld : Src := (16, 4)
def rodReady : Src := (16, 5)
def beamTimeout : Src := (16, 6)
def beamStale : Src := (16, 7)
def xoLoss : Src := (16, 8)
def pcieRefLoss : Src := (16, 9)
def ethRefLoss : Src := (16, 10)
def refBack : Src := (16, 11)
def warmReset : Src := (16, 12)

/-- Number of bead lane sources before the lane sources of a lane's bead (spec/03 R95, spec/17 R429): the local number
of LANE_LOS for lane `l` of a rod; LANE_LOL, LANE_FAULT and LANE_INFO follow it. -/
def laneBase (rod l split : Nat) : Nat :=
  if rod = 0 then 44
  else if rod = 1 then (if l < 34 then 14 else 22)
  else if rod = 10 then (if split = 0 then 20 else 20 + 4 * (l / 4))
  else if rod = 12 then 4 + 7 * (l / 4)
  else if l < 4 then 116 + 5 * l
  else 138 + 7 * ((l - 4) / 4)

end Sys2Proof.Machine.E
end

