-- ==== Sys2Proof/Machine/Hidden.lean ====
section
/-!
DEFINITION. Scalar state that the spec gives the device without a register of its own: what a timer, a link, an engine
or a queue remembers between commands. Each is held like a register field, so that a reset of its rod clears it with
the rod's registers (block 18 stands for the Beam and the reset controller, which no rod reset clears).
-/

namespace Sys2Proof.Machine.I

/-- Epoch of `rod` that Beam port `port` holds (spec/21 R490). -/
@[simp] def PEPOCH (port : Nat) ( rod : Nat) : Fld := ⟨18, 2000, port * 16 +  rod, 200, 0⟩

/-- The proxy acts for the rod: IN_RESET (spec/21 R488). After a device reset every rod but CTL is held (spec/24 R537 step 2). -/
@[simp] def PROXY (rod : Nat) : Fld := ⟨18, 2001, rod, 200, if rod = 0 then 0 else 1⟩

/-- The rod is powered: PWR.STAT.ROD_ON (spec/18 R452, spec/02 R46). -/
@[simp] def PWR_ON (rod : Nat) : Fld := ⟨18, 2002, rod, 200, if rod = 0 then 1 else 0⟩

/-- The rod is gated in HOLD (spec/18 R452, spec/21 R488). -/
@[simp] def GATED (rod : Nat) : Fld := ⟨18, 2003, rod, 200, 0⟩

/-- Reset of the rod (spec/21 R487): 0 none, 1 asserted, 2 released and not yet ready. -/
@[simp] def RSTST (rod : Nat) : Fld := ⟨18, 2004, rod, 200, if rod = 0 then 0 else 1⟩

/-- An automatic reset holds the rod (spec/21 R491). -/
@[simp] def HOLD_AUTO (rod : Nat) : Fld := ⟨18, 2005, rod, 200, 0⟩

/-- A patch in RESTRING holds the rod (spec/02 R69). -/
@[simp] def HOLD_PATCH (rod : Nat) : Fld := ⟨18, 2006, rod, 200, 0⟩

/-- The boot holds the rod until an image strings it (spec/24 R537). -/
@[simp] def HOLD_BOOT (rod : Nat) : Fld := ⟨18, 2007, rod, 200, if rod = 0 then 0 else 1⟩

/-- A host hold waits for RESTRING to end (spec/21 R486). -/
@[simp] def HOLD_PEND (rod : Nat) : Fld := ⟨18, 2008, rod, 200, 0⟩

/-- The reset in progress is a RESTRING, which raises no ROD_READY (spec/21 R487). -/
@[simp] def RST_QUIET (rod : Nat) : Fld := ⟨18, 2009, rod, 200, 0⟩

/-- The host's PCIe link is up (spec/17 R413). -/
@[simp] def HEP_LINK : Fld := ⟨18, 2010, 0, 200, 0⟩

/-- MSI-X is enabled in the endpoint's configuration space (spec/17 R426). -/
@[simp] def HEP_MSIX : Fld := ⟨18, 2011, 0, 200, 0⟩

/-- Word `w` of MSI-X table entry `i` (spec/17 R413, as the PCIe specification lays it out: every vector masked after reset). -/
@[simp] def MSIX_TAB (i : Nat) ( w : Nat) : Fld := ⟨18, 2012, i * 4 +  w, 200, if w = 3 then 1 else 0⟩

/-- Epoch of agent `a` (spec/17 R418). -/
@[simp] def AGENT_EPOCH (a : Nat) : Fld := ⟨18, 2013, a, 200, 0⟩

/-- Control core `k` runs (spec/17 R409, spec/24 R536). -/
@[simp] def CORE_RUN (k : Nat) : Fld := ⟨18, 2014, k, 200, 0⟩

/-- Carry-log records of the rod that its full queue discarded and no LOST marker has told (spec/17 R433). -/
@[simp] def CLOG_DROPPED (rod : Nat) : Fld := ⟨18, 2015, rod, 200, 0⟩

/-- The channel's write queue is in drain mode (spec/15 R382). -/
@[simp] def CH_DRAIN (n : Nat) : Fld := ⟨14, 2000, n, 200, 0⟩

/-- FRAME column commands since the last BULK one (spec/15 R382). -/
@[simp] def CH_SHARE (n : Nat) : Fld := ⟨14, 2001, n, 200, 0⟩

/-- Corrected reads in the current CE_WIN window (spec/15 R388). -/
@[simp] def CH_CEWIN (n : Nat) : Fld := ⟨14, 2002, n, 200, 0⟩

/-- Corrected reads of a device in the current window (spec/15 R377). -/
@[simp] def CH_DEVCNT (n : Nat) ( d : Nat) : Fld := ⟨14, 2003, n * 10 +  d, 200, 0⟩

/-- A step set runs (spec/15 R386). -/
@[simp] def CH_STEPSET (n : Nat) : Fld := ⟨14, 2004, n, 200, 0⟩

/-- A step set waits for a refresh without panic or for a change to end (spec/15 R386, R390). -/
@[simp] def CH_STEPWAIT (n : Nat) : Fld := ⟨14, 2005, n, 200, 0⟩

/-- The pending change is a step-down (spec/15 R388). -/
@[simp] def CH_DOWN (n : Nat) : Fld := ⟨14, 2006, n, 200, 0⟩

/-- The pending change has waited 100 ms for a safe point (spec/15 R388). -/
@[simp] def CH_FORCE (n : Nat) : Fld := ⟨14, 2007, n, 200, 0⟩

/-- A request made while a change runs: the set point plus 1, or 0 (spec/15 R390). -/
@[simp] def CH_NEXT (n : Nat) : Fld := ⟨14, 2008, n, 200, 0⟩

/-- The set point of the change that runs, plus 1, or 0 (spec/15 R389). -/
@[simp] def CH_CHANGE (n : Nat) : Fld := ⟨14, 2009, n, 200, 0⟩

/-- The change that runs is a step-down (spec/15 R388). -/
@[simp] def CH_CHDOWN (n : Nat) : Fld := ⟨14, 2010, n, 200, 0⟩

/-- Set point `k` is unavailable: its training failed (spec/15 R385). -/
@[simp] def CH_NA (n : Nat) ( k : Nat) : Fld := ⟨14, 2011, n * 4 +  k, 200, 0⟩

/-- The refresh interval of a rank is halved (spec/15 R384). -/
@[simp] def CH_HOT (n : Nat) ( r : Nat) : Fld := ⟨14, 2012, n * 2 +  r, 200, 0⟩

/-- Refreshes of a rank postponed under panic and not yet issued (spec/15 R384). -/
@[simp] def CH_POSTPONED (n : Nat) ( r : Nat) : Fld := ⟨14, 2013, n * 2 +  r, 200, 0⟩

/-- Device temperature at the last step set in °C plus 1,000, or 0 before the first (spec/15 R386). -/
@[simp] def CH_TEMP (n : Nat) : Fld := ⟨14, 2014, n, 200, 0⟩

/-- Device temperature of the last MR4 read in °C plus 1,000, or 0 before the first (spec/15 R384). -/
@[simp] def CH_MR4 (n : Nat) : Fld := ⟨14, 2015, n, 200, 0⟩

/-- A proxy answers for the channel (spec/15 R392). -/
@[simp] def CH_PROXY (n : Nat) : Fld := ⟨14, 2016, n, 200, 0⟩

/-- Codeword that the patrol scrub reads next (spec/15 R375). -/
@[simp] def CH_SCRUB (n : Nat) : Fld := ⟨14, 2017, n, 200, 0⟩

/-- Same-bank refreshes issued in the current group of four (spec/15 R384). -/
@[simp] def CH_SAMEBANK (n : Nat) : Fld := ⟨14, 2018, n, 200, 0⟩

/-- Panic is in force (spec/15 R383). -/
@[simp] def PANIC : Fld := ⟨14, 2019, 0, 200, 0⟩

/-- The episode of panic has raised MEM_PANIC_LONG (spec/15 R383). -/
@[simp] def PANIC_LONGED : Fld := ⟨14, 2020, 0, 200, 0⟩

/-- Requests accepted, which number the entries of the queues (spec/15 R378). -/
@[simp] def CH_SEQ (n : Nat) : Fld := ⟨14, 2021, n, 200, 0⟩

/-- The channel was filled with poison (spec/15 R392). -/
@[simp] def CH_FILL (n : Nat) : Fld := ⟨14, 2022, n, 200, 0⟩

/-- The reset channel's devices are initialised (spec/15 R392). -/
@[simp] def CH_INIT (n : Nat) : Fld := ⟨14, 2023, n, 200, 0⟩

/-- The set point that the channel's reset steps down to, plus 1, or 0 (spec/15 R392). -/
@[simp] def CH_CHTO (n : Nat) : Fld := ⟨14, 2024, n, 200, 0⟩

/-- The request made while a change runs is urgent (spec/15 R390). -/
@[simp] def CH_NEXTURG (n : Nat) : Fld := ⟨14, 2025, n, 200, 0⟩

/-- Polarity that the lane found in its previous ALIGN since power-on reset (spec/03 R88): 0 none, 1 normal, 2 inverted. -/
@[simp] def LANE_POLPREV (rod : Nat) ( l : Nat) : Fld := ⟨18, 2016, rod * 70 +  l, 200, 0⟩

/-- Rate of a sensor lane in force since it last passed through PLL, in kbit/s (spec/03 R80). -/
@[simp] def LANE_RATE (rod : Nat) (l : Nat) : Fld := ⟨rod, 2900, l, 200, 0⟩

/-- Time of the lane's idle entry (spec/03 R89). -/
@[simp] def LANE_IDLE_T (rod : Nat) (l : Nat) : Fld := ⟨rod, 2901, l, 200, 0⟩

/-- The squelch of a lane in IDLE is confirmed open (spec/03 R90): 1 within IDLE_HOLD, 2 after it. -/
@[simp] def LANE_SQ (rod : Nat) (l : Nat) : Fld := ⟨rod, 2902, l, 200, 0⟩

/-- The lane leaves idle by the slow path (spec/03 R91). -/
@[simp] def LANE_SLOW (rod : Nat) (l : Nat) : Fld := ⟨rod, 2903, l, 200, 0⟩

/-- Consecutive windows below the density threshold (spec/03 R93). -/
@[simp] def LANE_LOW (rod : Nat) (l : Nat) : Fld := ⟨rod, 2904, l, 200, 0⟩

/-- Consecutive windows at or above the density threshold (spec/03 R93). -/
@[simp] def LANE_HIGH (rod : Nat) (l : Nat) : Fld := ⟨rod, 2905, l, 200, 0⟩

/-- The owning bead requests the adaptation freeze (spec/03 R93, spec/04 R110). -/
@[simp] def LANE_FRZREQ (rod : Nat) (l : Nat) : Fld := ⟨rod, 2906, l, 200, 0⟩

/-- Consecutive windows out of FREQ_WIN (spec/03 R84). -/
@[simp] def LANE_OUTWIN (rod : Nat) (l : Nat) : Fld := ⟨rod, 2907, l, 200, 0⟩

/-- Picture descriptor slot to be used next (spec/07 R195). -/
@[simp] def PIC_NEXT : Fld := ⟨0, 2000, 0, 200, 0⟩

/-- Picture buffer last used, plus 1, or 0 (spec/07 R195). -/
@[simp] def PIC_LASTBUF : Fld := ⟨0, 2001, 0, 200, 0⟩

/-- Statistics block to be used next (spec/07 R202). -/
@[simp] def STS_NEXT : Fld := ⟨0, 2002, 0, 200, 0⟩

/-- Buffer of the most recent picture whose stripe `k` was processed, or 0xFF (spec/06 R170). -/
@[simp] def STRIPE_BUF (k : Nat) : Fld := ⟨0, 2003, k, 200, 255⟩

/-- Tag of that picture (spec/06 R170). -/
@[simp] def STRIPE_TAG (k : Nat) : Fld := ⟨0, 2004, k, 200, 0⟩

/-- The rod that runs stripe `k` by substitution, or 0 for the stripe's own rod (spec/06 R169). -/
@[simp] def STRIPE_MOVED (k : Nat) : Fld := ⟨0, 2005, k, 200, 0⟩

/-- Stripe `k` waits: 1 for the copy into IMG4, 2 for the copy back into its own rod, 3 lost (spec/06 R169, R171). -/
@[simp] def STRIPE_OUT (k : Nat) : Fld := ⟨0, 2006, k, 200, 0⟩

/-- IMG4 has faulted since its last reset (spec/06 R171). -/
@[simp] def SPARE_BAD : Fld := ⟨0, 2007, 0, 200, 0⟩

/-- The recorder command that runs (spec/08 R225). -/
@[simp] def REC_CODE : Fld := ⟨10, 2000, 0, 200, 0⟩

/-- The result that a running recorder command was found to have when it was written (spec/08 R225). -/
@[simp] def REC_FAIL : Fld := ⟨10, 2001, 0, 200, 0⟩

/-- Time plus 1 of the next scheduled frame start that has a slot, or 0 (spec/05 R128, R136). -/
@[simp] def EXS_SLOT (p : Nat) : Fld := ⟨1, 2000, p, 200, 0⟩

/-- Time plus 1 of the scheduled frame start before it, or 0 (spec/05 R138). -/
@[simp] def EXS_PREV (p : Nat) : Fld := ⟨1, 2001, p, 200, 0⟩

/-- A synthesis waits for the open frame to close (spec/05 R128). -/
@[simp] def SYNTH_WAIT (p : Nat) : Fld := ⟨1, 2002, p, 200, 0⟩

/-- No frame has closed on the port since it was put in use (spec/05 R124). -/
@[simp] def PORT_FRESH (p : Nat) : Fld := ⟨1, 2003, p, 200, 1⟩

/-- Raw store slot of the next frame (spec/08 R228). -/
@[simp] def RAW_NEXT (p : Nat) : Fld := ⟨1, 2004, p, 200, 0⟩

/-- FCNT of the last frame started on the port, plus 1, or 0 (spec/04 R113). -/
@[simp] def FCNT_LAST (p : Nat) : Fld := ⟨1, 2005, p, 200, 0⟩

/-- The write window is open (spec/05 R130). -/
@[simp] def EXQ_OPEN (p : Nat) : Fld := ⟨1, 2006, p, 200, 0⟩

/-- FCNT of the frame before the window (spec/05 R129). -/
@[simp] def EXQ_K (p : Nat) : Fld := ⟨1, 2007, p, 200, 0⟩

/-- The window has taken its one new set (spec/05 R130). -/
@[simp] def EXQ_NEW (p : Nat) : Fld := ⟨1, 2008, p, 200, 0⟩

/-- EXPSYNC_FRAME is active (spec/05 R136). -/
@[simp] def PIN_FRAME (p : Nat) : Fld := ⟨1, 2009, p, 200, 0⟩

/-- EXPSYNC_LINE is active (spec/05 R136). -/
@[simp] def PIN_LINE (p : Nat) : Fld := ⟨1, 2010, p, 200, 0⟩

/-- Line pulses since the last frame pulse (spec/05 R136). -/
@[simp] def LINE_SENT (p : Nat) : Fld := ⟨1, 2011, p, 200, 0⟩

/-- Time plus 1 of the last REFIN edge that was no glitch, or 0 (spec/05 R137). -/
@[simp] def REF_LAST : Fld := ⟨1, 2012, 0, 200, 0⟩

/-- Time plus 1 of the edge that the schedule follows, or 0 (spec/05 R136, R137). -/
@[simp] def REF_EDGE : Fld := ⟨1, 2013, 0, 200, 0⟩

/-- REFIN period under trial, in Tally units (spec/05 R137). -/
@[simp] def REF_CAND : Fld := ⟨1, 2014, 0, 200, 0⟩

/-- The lane has block lock (spec/04 R107). -/
@[simp] def SRX_BLK (p : Nat) ( k : Nat) : Fld := ⟨1, 2015, p * 34 +  k, 200, 0⟩

/-- Sensor transmit lane that the lane carries, plus 1, or 0 while unknown (spec/04 R107). -/
@[simp] def SRX_ID (p : Nat) ( k : Nat) : Fld := ⟨1, 2016, p * 34 +  k, 200, 0⟩

/-- Consecutive good TS blocks with identical content (spec/04 R107). -/
@[simp] def SRX_TSCNT (p : Nat) ( k : Nat) : Fld := ⟨1, 2017, p * 34 +  k, 200, 0⟩

/-- Their content (spec/04 R107). -/
@[simp] def SRX_TSVAL (p : Nat) ( k : Nat) : Fld := ⟨1, 2018, p * 34 +  k, 200, 0⟩

/-- BIP-8 mismatches within the frame (spec/04 R112). -/
@[simp] def SRX_BIPF (p : Nat) ( k : Nat) : Fld := ⟨1, 2019, p * 34 +  k, 200, 0⟩

/-- The port has been UP since its training (spec/04 R117). -/
@[simp] def SRX_TRAINED (p : Nat) : Fld := ⟨1, 2020, p, 200, 0⟩

/-- Vector ring slot of the next set (spec/06 R166). -/
@[simp] def VST_NEXT : Fld := ⟨7, 2000, 0, 200, 0⟩

/-- Black level of the filter plus 1, or 0 where it starts from LEVELg_c (spec/06 R148). -/
@[simp] def BLK_B (n : Nat) (c : Nat) : Fld := ⟨2 + n, 2000, c, 200, 0⟩

/-- LEVELg_c has been written since the last commit (spec/06 R148). -/
@[simp] def BLK_WR (n : Nat) (c : Nat) : Fld := ⟨2 + n, 2001, c, 200, 0⟩

/-- Tag of the rod's last job, or 0 (spec/06 R145). -/
@[simp] def IMG_LAST (n : Nat) : Fld := ⟨2 + n, 2002, 0, 200, 0⟩

/-- A commit request that came too late for COMMIT_AT applies at the next job (spec/06 R145). -/
@[simp] def AT_NEXT (n : Nat) : Fld := ⟨2 + n, 2003, 0, 200, 0⟩

/-- LUT slot that is checked again next (spec/07 R186). -/
@[simp] def LUT_PTR : Fld := ⟨0, 2008, 0, 200, 0⟩

/-- Rods that a power-state entry drains (spec/18 R453). -/
@[simp] def PWR_MASK : Fld := ⟨18, 2017, 0, 200, 0⟩

/-- Tag from which they begin no job, or 0 for none at all (spec/18 R452, spec/02 R69). -/
@[simp] def PWR_T : Fld := ⟨18, 2018, 0, 200, 0⟩

/-- Next slot of the decoder's descriptor ring (spec/10 R275). -/
@[simp] def DEC_NEXT (r : Nat) : Fld := ⟨18, 2019, r, 200, 0⟩

/-- Descriptors written since EN (spec/10 R275). -/
@[simp] def DEC_SEQ (r : Nat) : Fld := ⟨8 + r, 2000, 0, 200, 0⟩

/-- Pictures started (spec/10 R276). -/
@[simp] def DEC_CNT (r : Nat) : Fld := ⟨8 + r, 2001, 0, 200, 0⟩

/-- An unsupported SPS holds until an IRAP activates a supported one (spec/10 R265). -/
@[simp] def DEC_UNSUP (r : Nat) : Fld := ⟨8 + r, 2002, 0, 200, 0⟩

/-- Recovery target in full, as 32 bits (spec/10 R273). -/
@[simp] def DEC_TARGET (r : Nat) : Fld := ⟨8 + r, 2003, 0, 200, 0⟩

/-- Decode number plus 1 of the picture that reached the last target, or 0 when a later damage has ended what it covers (spec/10 R273). -/
@[simp] def DEC_COVER (r : Nat) : Fld := ⟨8 + r, 2004, 0, 200, 0⟩

/-- Tally time at which the armed comparator fires next (spec/13 R334). -/
@[simp] def TRG_T (i : Nat) : Fld := ⟨18, 2020, i, 200, 0⟩

/-- The time that ARM took (spec/13 R334). -/
@[simp] def TRG_T0 (i : Nat) : Fld := ⟨18, 2021, i, 200, 0⟩

/-- The comparator drives its pin to the active level (spec/13 R334). -/
@[simp] def TRG_PIN (i : Nat) : Fld := ⟨18, 2022, i, 200, 0⟩

/-- Tally time of the unread capture (spec/13 R336). -/
@[simp] def CAP_T (j : Nat) : Fld := ⟨18, 2023, j, 200, 0⟩

/-- Consecutive offsets within LOCK_NS (spec/13 R329). -/
@[simp] def PTP_IN : Fld := ⟨12, 2000, 0, 200, 0⟩

/-- Consecutive offsets outside it (spec/13 R329). -/
@[simp] def PTP_OUTB : Fld := ⟨12, 2001, 0, 200, 0⟩

/-- Write offset in the access-unit queue (spec/13 R340). -/
@[simp] def AUQ_WR (n : Nat) : Fld := ⟨12, 2002, n, 200, 0⟩

/-- Tally time plus 1 of the head's last frame start, or 0 (spec/12 R302). -/
@[simp] def HEAD_FS (n : Nat) : Fld := ⟨11, 2000, n, 200, 0⟩

/-- A flip register of the layer has been written since its group last flipped (spec/11 R289). -/
@[simp] def LAYER_DIRTY (n : Nat) ( j : Nat) : Fld := ⟨11, 2001, n * 12 +  j, 200, 0⟩

/-- Consecutive commit points at which the layer has held its picture (spec/11 R283). -/
@[simp] def LAYER_HOLD (n : Nat) ( j : Nat) : Fld := ⟨11, 2002, n * 12 +  j, 200, 0⟩

/-- Tag plus 1 of the last canvas frame that was composed or skipped, or 0 (spec/11 R298). -/
@[simp] def WC_LAST : Fld := ⟨11, 2003, 0, 200, 0⟩

/-- Canvas buffer last used, plus 1, or 0 (spec/11 R295). -/
@[simp] def WC_BUF : Fld := ⟨11, 2004, 0, 200, 0⟩

/-- VTOTAL of the head's frame in progress (spec/12 R302, R306). -/
@[simp] def HEAD_VT (n : Nat) : Fld := ⟨11, 2005, n, 200, 0⟩

/-- VACT of that frame (spec/12 R302, R306). -/
@[simp] def HEAD_VA (n : Nat) : Fld := ⟨11, 2006, n, 200, 0⟩

/-- COMMIT_LINE of that frame (spec/12 R306). -/
@[simp] def HEAD_CL (n : Nat) : Fld := ⟨11, 2007, n, 200, 0⟩

/-- PREFETCH of that frame (spec/12 R308). -/
@[simp] def HEAD_PF (n : Nat) : Fld := ⟨11, 2008, n, 200, 0⟩

/-- Lines by which its blanking is still to be lengthened (spec/12 R304). -/
@[simp] def HEAD_MORE (n : Nat) : Fld := ⟨11, 2009, n, 200, 0⟩

/-- The head enters RELOCK when its frame is complete (spec/12 R305). -/
@[simp] def HEAD_RELK (n : Nat) : Fld := ⟨11, 2010, n, 200, 0⟩

/-- The frame has had an underrun (spec/12 R309). -/
@[simp] def HEAD_UR (n : Nat) : Fld := ⟨11, 2011, n, 200, 0⟩

/-- The output switches to its head at that head's next line 0 (spec/12 R310). -/
@[simp] def OUT_SW (o : Nat) : Fld := ⟨11, 2012, o, 200, 0⟩

/-- Firmware trains the link (spec/12 R316). -/
@[simp] def DP_TRAIN (q : Nat) : Fld := ⟨11, 2013, q, 200, 0⟩

/-- DEFER replies to the transfer (spec/12 R317). -/
@[simp] def AUX_TRY (q : Nat) : Fld := ⟨11, 2014, q, 200, 0⟩

/-- Tally time at which the waiting port starts (spec/14 R362). -/
@[simp] def AP_T (n : Nat) : Fld := ⟨13, 2000, n, 200, 0⟩

/-- Time plus 1 of the start group whose start the port has missed, or 0 (spec/14 R361). -/
@[simp] def AP_GRP (n : Nat) : Fld := ⟨13, 2001, n, 200, 0⟩

/-- The port's external clock is lost or off its rate (spec/14 R357, R358). -/
@[simp] def AP_NOCLK (n : Nat) : Fld := ⟨13, 2002, n, 200, 0⟩

/-- Consecutive windows that agree (spec/14 R359). -/
@[simp] def AP_AGREE (n : Nat) : Fld := ⟨13, 2003, n, 200, 0⟩

/-- The port returns to its external clock at the next block boundary (spec/14 R359). -/
@[simp] def AP_RET (n : Nat) : Fld := ⟨13, 2004, n, 200, 0⟩

/-- The time that ARM took (spec/14 R361). -/
@[simp] def SG_T (g : Nat) : Fld := ⟨13, 2005, g, 200, 0⟩

/-- Drift of the head's frames against the stream grid in Tally units, plus 2^100 once it is kept (spec/14 R365). -/
@[simp] def HEAD_DRIFT (n : Nat) : Fld := ⟨11, 2015, n, 200, 0⟩

/-- Region plus 1 of the state record that the engine claims, or 0 (spec/16 R404). -/
@[simp] def DFL_REGION (n : Nat) : Fld := ⟨15, 2000, n, 200, 0⟩

/-- Offset of that state record (spec/16 R404). -/
@[simp] def DFL_OFF (n : Nat) : Fld := ⟨15, 2001, n, 200, 0⟩

/-- Slot plus 1 at which the engine waits while UTL drains, or 0 (spec/02 R69). -/
@[simp] def DFL_LIM (n : Nat) : Fld := ⟨15, 2002, n, 200, 0⟩

/-- Slot plus 1 at which the engine waits while UTL drains, or 0 (spec/02 R69). -/
@[simp] def DMA_LIM (d : Nat) : Fld := ⟨15, 2003, d, 200, 0⟩

/-- What holds the core (spec/23 R520, R521, spec/21 R485, spec/18 R455, spec/19 R467): 0 nothing, 1 AON in reset, 2 CORE_EN asserted and CORE_PG awaited, 3 the 1 ms after CORE_PG, 4 the second before CORE_EN is asserted again, 5 the third failure, 6 OFF, 7 the 10 ms after a loss of CORE_PG, 8 thermal shutdown, 9 warm reset, 10 unpowered, 11 thermal shutdown with CORE_PG lost. -/
@[simp] def DEV : Fld := ⟨16, 2000, 0, 200, 0⟩

/-- Failures of CORE_PG since AON left reset or WAKE_N (spec/23 R520). -/
@[simp] def CORE_TRY : Fld := ⟨16, 2001, 0, 200, 0⟩

/-- CORE_EN is asserted (spec/23 R520). -/
@[simp] def CORE_EN : Fld := ⟨16, 2002, 0, 200, 1⟩

/-- FAULT_N is asserted (spec/19 R467). -/
@[simp] def PIN_FAULT : Fld := ⟨16, 2003, 0, 200, 0⟩

/-- THERM_N is asserted (spec/19 R464, R467). -/
@[simp] def PIN_THERM : Fld := ⟨16, 2004, 0, 200, 0⟩

/-- THR.PEAK.MAX has taken a reading since power-on reset (spec/19 R468). -/
@[simp] def PEAK_SEEN : Fld := ⟨16, 2005, 0, 200, 0⟩

/-- Consecutive samples of the voter sensor above SHUT (spec/19 R463). -/
@[simp] def V_UP (v : Nat) : Fld := ⟨16, 2006, v, 200, 0⟩

/-- Consecutive samples of it below SHUT minus HYST (spec/19 R463). -/
@[simp] def V_DN (v : Nat) : Fld := ⟨16, 2007, v, 200, 0⟩

/-- The voter sensor has crossed SHUT upwards (spec/19 R463). -/
@[simp] def V_HOT (v : Nat) : Fld := ⟨16, 2008, v, 200, 0⟩

/-- The voter sensor is broken (spec/19 R461). -/
@[simp] def V_BROKEN (v : Nat) : Fld := ⟨16, 2009, v, 200, 0⟩

/-- Its last reading, signed, in 1/16 °C (spec/19 R467). -/
@[simp] def V_T (v : Nat) : Fld := ⟨16, 2010, v, 200, 0⟩

/-- Hot votes in force (spec/19 R467). -/
@[simp] def V_VOTES : Fld := ⟨16, 2011, 0, 200, 0⟩

/-- Consecutive conversion pairs of the sensor whose difference lies out of range (spec/19 R461). -/
@[simp] def SENS_STUCK (s : Nat) : Fld := ⟨16, 2012, s, 200, 0⟩

/-- JTAG instruction in force (spec/18 R445); IDCODE after reset, as IEEE 1149.1 has it. -/
@[simp] def JTAG_IR : Fld := ⟨16, 2013, 0, 200, 1⟩

/-- The debug state (spec/18 R444, R446): 0 CLOSED, 1 USER_OPEN, 2 VENDOR_OPEN. -/
@[simp] def DEBUG : Fld := ⟨16, 2014, 0, 200, 0⟩

/-- Event that AON raises when the boot begins (spec/21 R483): 0 none, 1 WARM_RESET, 2 THERM_RESTART. -/
@[simp] def BOOT_EV : Fld := ⟨16, 2015, 0, 200, 0⟩

/-- Thermal restarts as the keep store's copy of the thermal record counts them (spec/19 R468). -/
@[simp] def KEEP_RESTARTS : Fld := ⟨19, 2000, 0, 200, 0⟩

/-- Consecutive samples of sensor s above WARN (k 0) or HOT (k 1) (spec/19 R463). -/
@[simp] def TH_UP (s : Nat) ( k : Nat) : Fld := ⟨15, 2004, s * 2 +  k, 200, 0⟩

/-- Consecutive samples below that threshold minus HYST (spec/19 R463). -/
@[simp] def TH_DN (s : Nat) ( k : Nat) : Fld := ⟨15, 2005, s * 2 +  k, 200, 0⟩

/-- The sensor has crossed that threshold upwards (spec/19 R463). -/
@[simp] def TH_OVER (s : Nat) ( k : Nat) : Fld := ⟨15, 2006, s * 2 +  k, 200, 0⟩

/-- Consecutive samples with no sensor within 5 °C of a threshold (spec/19 R460). -/
@[simp] def THM_CALM : Fld := ⟨15, 2007, 0, 200, 0⟩

/-- GRACE_MS of the throttle request (spec/19 R464). -/
@[simp] def THM_GRACE_L : Fld := ⟨15, 2008, 0, 200, 200⟩

/-- STEP_MS of the throttle request (spec/19 R465). -/
@[simp] def THM_STEP_L : Fld := ⟨15, 2009, 0, 200, 100⟩

/-- MAX_STEP of the throttle request (spec/19 R465). -/
@[simp] def THM_MAX_L : Fld := ⟨15, 2010, 0, 200, 4⟩

/-- HYST of the throttle request (spec/19 R463). -/
@[simp] def THM_HYST_L : Fld := ⟨15, 2011, 0, 200, 3⟩

/-- A RESET_N (2) or WAKE_N (1) that waits for the end of the 10 ms after a loss of CORE_PG (spec/23 R521). -/
@[simp] def PIN_HELD : Fld := ⟨16, 2016, 0, 200, 0⟩

/-- Target plus 1 of a power-state request that waits for a patch or a MEM frequency change, or 0 (spec/18 R453). -/
@[simp] def PWR_WAIT : Fld := ⟨18, 2024, 0, 200, 0⟩

/-- Stripe plus 1 whose substitution waits for the RESTRING of IMG4 to end, or 0 (spec/02 R71). -/
@[simp] def SUBST_WAIT : Fld := ⟨18, 2025, 0, 200, 0⟩

/-- First concealed frame of the substitution that waits (spec/02 R71). -/
@[simp] def SUBST_WTAG : Fld := ⟨18, 2026, 0, 200, 0⟩

/-- SVN of the image or patch that last strung the rod (spec/18 R439). -/
@[simp] def ROD_SVN (rod : Nat) : Fld := ⟨18, 2027, rod, 200, 0⟩

/-- Digest of the last patch applied, as CTL.STRG.DIGESTk is laid out (spec/18 R450). -/
@[simp] def PATCH_DIG (k : Nat) : Fld := ⟨18, 2028, k, 200, 0⟩

/-- Digest of the firmware in force, the mirror at CTL 0xC840 (spec/18 R457). -/
@[simp] def FW_DIG (k : Nat) : Fld := ⟨18, 2029, k, 200, 0⟩

/-- The flash directory holds entry e: FW0, FW1, IMG0, IMG1 (spec/24 R534). -/
@[simp] def BOOT_DIR (e : Nat) : Fld := ⟨18, 2030, e, 200, 0⟩

/-- The copy that is read or offered: 0 and 1 of the flash, 2 of the host (spec/24 R535). -/
@[simp] def BOOT_COPY : Fld := ⟨18, 2031, 0, 200, 0⟩

/-- Where the boot stands inside its STATE: 0 reset released and not begun, 1 begun, 2 a copy is awaited, 3 steps 1 to 8 have passed, 4 the body is unpacked, 5 steps 9 to 11 have passed, 6 DRAM has been checked (spec/24 R537). -/
@[simp] def BOOT_STEP : Fld := ⟨18, 2032, 0, 200, 0⟩

/-- Time of the release (spec/24 R537). -/
@[simp] def BOOT_T : Fld := ⟨18, 2033, 0, 200, 0⟩

/-- LOCK failures in a row (spec/03 R79): at the eighth the lane enters FAULT. -/
@[simp] def LANE_LOCKF (rod : Nat) (l : Nat) : Fld := ⟨rod, 2908, l, 200, 0⟩

/-- Equaliser coefficients of the receiver in force, as one number that the spec does not state; 0 stands for the power-on values (spec/03 R86, R90 to R92). -/
@[simp] def LANE_COEF (rod : Nat) (l : Nat) : Fld := ⟨rod, 2909, l, 200, 0⟩

/-- Equaliser coefficients of the last completed ADAPT; 0 stands for the power-on values where there was none (spec/03 R92). -/
@[simp] def LANE_COEF_ADP (rod : Nat) (l : Nat) : Fld := ⟨rod, 2910, l, 200, 0⟩

/-- Time plus 1 of the lane's last GO (spec/03 R85). -/
@[simp] def LANE_GO_T (rod : Nat) (l : Nat) : Fld := ⟨rod, 2911, l, 200, 0⟩

/-- The lane has been idle since its last block lock, which 32 valid headers then give it (spec/04 R111). -/
@[simp] def SRX_WAKE (p : Nat) ( k : Nat) : Fld := ⟨1, 2021, p * 34 +  k, 200, 0⟩

/-- LOGICAL that the lane's sensor lane carries, plus 1 (0x40 for a spare without one), or 0 while unknown (spec/04 R112). -/
@[simp] def SRX_LOG (p : Nat) ( k : Nat) : Fld := ⟨1, 2022, p * 34 +  k, 200, 0⟩

/-- SCKn runs (spec/04 R116). -/
@[simp] def PIN_SCK (n : Nat) : Fld := ⟨1, 2023, n, 200, 0⟩

/-- MDTS of drive `d` as its Identify Controller gave it, a power of 2 of 4 KiB pages, 0 for no limit (spec/08 R223). -/
@[simp] def NVQ_MDTS (d : Nat) : Fld := ⟨10, 2002, d, 200, 0⟩

end Sys2Proof.Machine.I
end

