-- ==== Sys2Proof/Machine/Regs.lean ====
section
/-!
DEFINITION. The register fields of the device, one definition per field, transcribed from the register tables of
spec/01 to spec/24 (each docstring names the register, the bits, the type, the reset value and the chapter).
The arguments are the instance numbers of the register's own name. A field without a stated reset value resets to 0
(notes/assumptions/3.md).
-/

namespace Sys2Proof.Machine.R

/-! ### The registers every block has -/

/-- `ROD.BEADn.LN_CTLk` bits 31, RW, reset 0x1 on CTL.HEP lanes, 0x0 on all others (spec 03_serial_lanes) -/
@[simp] def LN_CTL_EN (rod : Nat) (l : Nat) : Fld := ⟨rod, 0, l, 1, if rod = 0 then 1 else 0⟩

/-- `ROD.BEADn.LN_CTLk` bits 30:29, RW, reset 0x0 (spec 03_serial_lanes) -/
@[simp] def LN_CTL_POL_MODE (rod : Nat) (l : Nat) : Fld := ⟨rod, 1, l, 2, 0⟩

/-- `ROD.BEADn.LN_CTLk` bits 28, RW, reset 0x0 (spec 03_serial_lanes) -/
@[simp] def LN_CTL_TX_INV (rod : Nat) (l : Nat) : Fld := ⟨rod, 2, l, 1, 0⟩

/-- `ROD.BEADn.LN_CTLk` bits 27, RW, reset 0x1 (spec 03_serial_lanes) -/
@[simp] def LN_CTL_AUTO_RETRAIN (rod : Nat) (l : Nat) : Fld := ⟨rod, 3, l, 1, 1⟩

/-- `ROD.BEADn.LN_CTLk` bits 26, RW, reset 0x0 (spec 03_serial_lanes) -/
@[simp] def LN_CTL_REV (rod : Nat) (l : Nat) : Fld := ⟨rod, 4, l, 1, 0⟩

/-- `ROD.BEADn.LN_CTLk` bits 25:24, RW, reset 0x0 (spec 03_serial_lanes) -/
@[simp] def LN_CTL_SSC (rod : Nat) (l : Nat) : Fld := ⟨rod, 5, l, 2, 0⟩

/-- `ROD.BEADn.LN_CTLk` bits 23:20, RO, reset Per use (spec 03_serial_lanes) -/
@[simp] def LN_CTL_USE (rod : Nat) (l : Nat) : Fld := ⟨rod, 6, l, 4, laneUse rod l⟩

/-- `ROD.BEADn.LN_RATEk` bits 24:0, RW, reset 0x26_25A0 on sensor lanes, 0x0 on all others (spec 03_serial_lanes) -/
@[simp] def LN_RATE_KBPS (rod : Nat) (l : Nat) : Fld := ⟨rod, 7, l, 25, if rod = 1 then 2500000 else 0⟩

/-- `ROD.BEADn.LN_CMDk` bits 3, W1S, reset 0x0 (spec 03_serial_lanes) -/
@[simp] def LN_CMD_GO (rod : Nat) (l : Nat) : Fld := ⟨rod, 8, l, 1, 0⟩

/-- `ROD.BEADn.LN_CMDk` bits 2:0, WO, reset 0x0 (spec 03_serial_lanes) -/
@[simp] def LN_CMD_FROM (rod : Nat) (l : Nat) : Fld := ⟨rod, 9, l, 3, 0⟩

/-- `ROD.BEADn.LN_STATk` bits 31:28, RO, reset 0x0 (spec 03_serial_lanes) -/
@[simp] def LN_STAT_STATE (rod : Nat) (l : Nat) : Fld := ⟨rod, 10, l, 4, 0⟩

/-- `ROD.BEADn.LN_STATk` bits 27:24, RO, reset 0x0 (spec 03_serial_lanes) -/
@[simp] def LN_STAT_FAULT (rod : Nat) (l : Nat) : Fld := ⟨rod, 11, l, 4, 0⟩

/-- `ROD.BEADn.LN_STATk` bits 23, RO, reset 0x0 (spec 03_serial_lanes) -/
@[simp] def LN_STAT_LOS (rod : Nat) (l : Nat) : Fld := ⟨rod, 12, l, 1, 0⟩

/-- `ROD.BEADn.LN_STATk` bits 22, RO, reset 0x0 (spec 03_serial_lanes) -/
@[simp] def LN_STAT_LOL (rod : Nat) (l : Nat) : Fld := ⟨rod, 13, l, 1, 0⟩

/-- `ROD.BEADn.LN_STATk` bits 21, RO, reset 0x0 (spec 03_serial_lanes) -/
@[simp] def LN_STAT_POL (rod : Nat) (l : Nat) : Fld := ⟨rod, 14, l, 1, 0⟩

/-- `ROD.BEADn.LN_STATk` bits 20, RO, reset 0x0 (spec 03_serial_lanes) -/
@[simp] def LN_STAT_FROZEN (rod : Nat) (l : Nat) : Fld := ⟨rod, 15, l, 1, 0⟩

/-- `ROD.BEADn.LN_STATk` bits 19, RO, reset 0x0 (spec 03_serial_lanes) -/
@[simp] def LN_STAT_REVERSED (rod : Nat) (l : Nat) : Fld := ⟨rod, 16, l, 1, 0⟩

/-- `ROD.BEADn.LN_STATk` bits 15:12, RO, reset 0x0 (spec 03_serial_lanes) -/
@[simp] def LN_STAT_RETRY (rod : Nat) (l : Nat) : Fld := ⟨rod, 17, l, 4, 0⟩

/-- `ROD.BEADn.LN_EVTk` bits 31, STK, reset 0x0 (spec 03_serial_lanes) -/
@[simp] def LN_EVT_LOS_EV (rod : Nat) (l : Nat) : Fld := ⟨rod, 5000, l, 1, 0⟩

/-- `ROD.BEADn.LN_EVTk` bits 30, STK, reset 0x0 (spec 03_serial_lanes) -/
@[simp] def LN_EVT_LOL_EV (rod : Nat) (l : Nat) : Fld := ⟨rod, 5001, l, 1, 0⟩

/-- `ROD.BEADn.LN_EVTk` bits 29, STK, reset 0x0 (spec 03_serial_lanes) -/
@[simp] def LN_EVT_FAULT_EV (rod : Nat) (l : Nat) : Fld := ⟨rod, 5002, l, 1, 0⟩

/-- `ROD.BEADn.LN_EVTk` bits 28, STK, reset 0x0 (spec 03_serial_lanes) -/
@[simp] def LN_EVT_ADAPT_WEAK (rod : Nat) (l : Nat) : Fld := ⟨rod, 5003, l, 1, 0⟩

/-- `ROD.BEADn.LN_EVTk` bits 27, STK, reset 0x0 (spec 03_serial_lanes) -/
@[simp] def LN_EVT_EXIT_SLOW (rod : Nat) (l : Nat) : Fld := ⟨rod, 5004, l, 1, 0⟩

/-- `ROD.BEADn.LN_EVTk` bits 26, STK, reset 0x0 (spec 03_serial_lanes) -/
@[simp] def LN_EVT_POL_FLIP (rod : Nat) (l : Nat) : Fld := ⟨rod, 5005, l, 1, 0⟩

/-- `ROD.BEADn.LN_EVTk` bits 25, STK, reset 0x0 (spec 03_serial_lanes) -/
@[simp] def LN_EVT_PRBS_ERR (rod : Nat) (l : Nat) : Fld := ⟨rod, 5006, l, 1, 0⟩

/-- `ROD.BEADn.LN_EVTk` bits 15:8, RO, reset 0x00 (spec 03_serial_lanes) -/
@[simp] def LN_EVT_LOS_CNT (rod : Nat) (l : Nat) : Fld := ⟨rod, 18, l, 8, 0⟩

/-- `ROD.BEADn.LN_EVTk` bits 7:0, RO, reset 0x00 (spec 03_serial_lanes) -/
@[simp] def LN_EVT_LOL_CNT (rod : Nat) (l : Nat) : Fld := ⟨rod, 19, l, 8, 0⟩

/-- `ROD.BEADn.LN_DETk` bits 31:28, RW, reset 0x5 (spec 03_serial_lanes) -/
@[simp] def LN_DET_LOS_TH (rod : Nat) (l : Nat) : Fld := ⟨rod, 20, l, 4, 5⟩

/-- `ROD.BEADn.LN_DETk` bits 27:20, RW, reset 0x0A (spec 03_serial_lanes) -/
@[simp] def LN_DET_LOS_ON (rod : Nat) (l : Nat) : Fld := ⟨rod, 21, l, 8, 10⟩

/-- `ROD.BEADn.LN_DETk` bits 19:12, RW, reset 0x64 (spec 03_serial_lanes) -/
@[simp] def LN_DET_LOS_OFF (rod : Nat) (l : Nat) : Fld := ⟨rod, 22, l, 8, 100⟩

/-- `ROD.BEADn.LN_DETk` bits 11:10, RW, reset 0x1 (spec 03_serial_lanes) -/
@[simp] def LN_DET_LOL_WIN (rod : Nat) (l : Nat) : Fld := ⟨rod, 23, l, 2, 1⟩

/-- `ROD.BEADn.LN_DETk` bits 9:0, RW, reset 0x01E, or 0x230 on PCIe lanes (spec 03_serial_lanes) -/
@[simp] def LN_DET_FREQ_WIN (rod : Nat) (l : Nat) : Fld := ⟨rod, 24, l, 10, if rod = 0 ∨ rod = 10 then 0x230 else 0x1E⟩

/-- `ROD.BEADn.LN_ADAPTk` bits 31:30, RW, reset 0x0 (spec 03_serial_lanes) -/
@[simp] def LN_ADAPT_MODE (rod : Nat) (l : Nat) : Fld := ⟨rod, 25, l, 2, 0⟩

/-- `ROD.BEADn.LN_ADAPTk` bits 29:24, RW, reset 0x08 (spec 03_serial_lanes) -/
@[simp] def LN_ADAPT_DENS_MIN (rod : Nat) (l : Nat) : Fld := ⟨rod, 26, l, 6, 8⟩

/-- `ROD.BEADn.LN_ADAPTk` bits 23:20, RW, reset 0x4 (spec 03_serial_lanes) -/
@[simp] def LN_ADAPT_FRZ_RUN (rod : Nat) (l : Nat) : Fld := ⟨rod, 27, l, 4, 4⟩

/-- `ROD.BEADn.LN_ADAPTk` bits 19:16, RW, reset 0x8 (spec 03_serial_lanes) -/
@[simp] def LN_ADAPT_THAW_RUN (rod : Nat) (l : Nat) : Fld := ⟨rod, 28, l, 4, 8⟩

/-- `ROD.BEADn.LN_ADAPTk` bits 15:6, RW, reset 0x00A (spec 03_serial_lanes) -/
@[simp] def LN_ADAPT_IDLE_HOLD (rod : Nat) (l : Nat) : Fld := ⟨rod, 29, l, 10, 10⟩

/-- `ROD.BEADn.LN_TXFIRk` bits 30:24, RW, reset 0x40 (spec 03_serial_lanes) -/
@[simp] def LN_TXFIR_MAIN (rod : Nat) (l : Nat) : Fld := ⟨rod, 30, l, 7, 64⟩

/-- `ROD.BEADn.LN_TXFIRk` bits 20:16, RW, reset 0x00 (spec 03_serial_lanes) -/
@[simp] def LN_TXFIR_PRE (rod : Nat) (l : Nat) : Fld := ⟨rod, 31, l, 5, 0⟩

/-- `ROD.BEADn.LN_TXFIRk` bits 12:8, RW, reset 0x00 (spec 03_serial_lanes) -/
@[simp] def LN_TXFIR_POST (rod : Nat) (l : Nat) : Fld := ⟨rod, 32, l, 5, 0⟩

/-- `ROD.BEADn.LN_TXFIRk` bits 3:0, RW, reset 0x8 (spec 03_serial_lanes) -/
@[simp] def LN_TXFIR_AMP (rod : Nat) (l : Nat) : Fld := ⟨rod, 33, l, 4, 8⟩

/-- `ROD.BEADn.LN_PRBSk` bits 31, RW, reset 0x0 (spec 03_serial_lanes) -/
@[simp] def LN_PRBS_CHK_EN (rod : Nat) (l : Nat) : Fld := ⟨rod, 34, l, 1, 0⟩

/-- `ROD.BEADn.LN_PRBSk` bits 30, RW, reset 0x0 (spec 03_serial_lanes) -/
@[simp] def LN_PRBS_GEN_EN (rod : Nat) (l : Nat) : Fld := ⟨rod, 35, l, 1, 0⟩

/-- `ROD.BEADn.LN_PRBSk` bits 29:27, RW, reset 0x0 (spec 03_serial_lanes) -/
@[simp] def LN_PRBS_PATTERN (rod : Nat) (l : Nat) : Fld := ⟨rod, 36, l, 3, 0⟩

/-- `ROD.BEADn.LN_PRBSk` bits 26, RO, reset 0x0 (spec 03_serial_lanes) -/
@[simp] def LN_PRBS_SYNC (rod : Nat) (l : Nat) : Fld := ⟨rod, 37, l, 1, 0⟩

/-- `ROD.BEADn.LN_PRBSk` bits 23:0, RO, reset 0x00_0000 (spec 03_serial_lanes) -/
@[simp] def LN_PRBS_ERR (rod : Nat) (l : Nat) : Fld := ⟨rod, 38, l, 24, 0⟩

/-- `ROD.EVT_STATw and ROD.EVT_MASKw` bits 0, STK, reset 0x0000_0000 (spec 17_control_and_events) -/
@[simp] def EVT_STAT (rod : Nat) (i : Nat) : Fld := ⟨rod, 5007, i, 1, 0⟩

/-- `ROD.EVT_STATw and ROD.EVT_MASKw` bits 0, RW, reset 0x0000_0000 (spec 17_control_and_events) -/
@[simp] def EVT_MASK (rod : Nat) (i : Nat) : Fld := ⟨rod, 39, i, 1, 0⟩

/-- `ROD.EVT_AGG` bits 31, RO, reset 0x0 (spec 17_control_and_events) -/
@[simp] def EVT_AGG_PEND (rod : Nat) : Fld := ⟨rod, 40, 0, 1, 0⟩

/-- `ROD.EVT_AGG` bits 5:0, RO, reset 0x00 (spec 17_control_and_events) -/
@[simp] def EVT_AGG_ROUTES (rod : Nat) : Fld := ⟨rod, 41, 0, 6, 0⟩

/-- `ROD.EVT_ROUTEi` bits 15:8, RW, reset 0xFF (spec 17_control_and_events) -/
@[simp] def EVT_RT_VECTOR (rod : Nat) (i : Nat) : Fld := ⟨rod, 42, i, 8, 255⟩

/-- `ROD.EVT_ROUTEi` bits 5:0, RW, reset 0x10 (spec 17_control_and_events) -/
@[simp] def EVT_RT_ROUTE (rod : Nat) (i : Nat) : Fld := ⟨rod, 43, i, 6, 16⟩

/-- `ROD.COMMIT` bits 31, W1S, reset 0x0 (spec 22_address_map) -/
@[simp] def COMMIT_REQ (rod : Nat) : Fld := ⟨rod, 44, 0, 1, 0⟩

/-- `ROD.COMMIT` bits 8:0, RO, reset 0x000 (spec 22_address_map) -/
@[simp] def COMMIT_PEND (rod : Nat) : Fld := ⟨rod, 45, 0, 9, 0⟩

/-- `ROD.COMMIT_BAD` bits 31, STK, reset 0x0 (spec 22_address_map) -/
@[simp] def COMMIT_BAD_BAD (rod : Nat) : Fld := ⟨rod, 5008, 0, 1, 0⟩

/-- `ROD.COMMIT_BAD` bits 23:16, RO, reset 0x00 (spec 22_address_map) -/
@[simp] def COMMIT_BAD_RULE (rod : Nat) : Fld := ⟨rod, 46, 0, 8, 0⟩

/-- `ROD.COMMIT_BAD` bits 15:12, RO, reset 0x0 (spec 22_address_map) -/
@[simp] def COMMIT_BAD_DOMAIN (rod : Nat) : Fld := ⟨rod, 47, 0, 4, 0⟩

/-- `ROD.COMMIT_BAD` bits 7:0, RO, reset 0x00 (spec 22_address_map) -/
@[simp] def COMMIT_BAD_CNT (rod : Nat) : Fld := ⟨rod, 48, 0, 8, 0⟩

/-- `ROD.WR_RANGE` bits 31, STK, reset 0x0 (spec 22_address_map) -/
@[simp] def WR_RANGE_WR (rod : Nat) : Fld := ⟨rod, 5009, 0, 1, 0⟩

/-- `ROD.WR_RANGE` bits 30:25, RO, reset 0x00 (spec 22_address_map) -/
@[simp] def WR_RANGE_CNT (rod : Nat) : Fld := ⟨rod, 49, 0, 6, 0⟩

/-- `ROD.WR_RANGE` bits 24:0, RO, reset 0x000_0000 (spec 22_address_map) -/
@[simp] def WR_RANGE_ADDR (rod : Nat) : Fld := ⟨rod, 50, 0, 25, 0⟩

/-! ### The control rod -/

/-- `CTL.TRAY.ECC_STAT` bits 31, STK, reset 0x0 (spec 01_architecture) -/
@[simp] def TRAY_ECC_UNCORR : Fld := ⟨0, 5100, 0, 1, 0⟩

/-- `CTL.TRAY.ECC_STAT` bits 30, STK, reset 0x0 (spec 01_architecture) -/
@[simp] def TRAY_ECC_CORR : Fld := ⟨0, 5101, 0, 1, 0⟩

/-- `CTL.TRAY.ECC_STAT` bits 25:16, RO, reset 0x000 (spec 01_architecture) -/
@[simp] def TRAY_ECC_UNC_GRAN : Fld := ⟨0, 100, 0, 10, 0⟩

/-- `CTL.TRAY.ECC_STAT` bits 15:0, RO, reset 0x0000 (spec 01_architecture) -/
@[simp] def TRAY_ECC_CORR_CNT : Fld := ⟨0, 101, 0, 16, 0⟩

/-- `CTL.TRAY.ACC_STAT` bits 31, STK, reset 0x0 (spec 01_architecture) -/
@[simp] def TRAY_ACC_DENIED : Fld := ⟨0, 5102, 0, 1, 0⟩

/-- `CTL.TRAY.ACC_STAT` bits 25:21, RO, reset 0x00 (spec 01_architecture) -/
@[simp] def TRAY_ACC_PORT : Fld := ⟨0, 102, 0, 5, 0⟩

/-- `CTL.TRAY.ACC_STAT` bits 20, RO, reset 0x0 (spec 01_architecture) -/
@[simp] def TRAY_ACC_WR : Fld := ⟨0, 103, 0, 1, 0⟩

/-- `CTL.TRAY.ACC_STAT` bits 19:10, RO, reset 0x000 (spec 01_architecture) -/
@[simp] def TRAY_ACC_GRAN : Fld := ⟨0, 104, 0, 10, 0⟩

/-- `CTL.TRAY.ACC_STAT` bits 9:0, RO, reset 0x000 (spec 01_architecture) -/
@[simp] def TRAY_ACC_CNT : Fld := ⟨0, 105, 0, 10, 0⟩

/-- `CTL.STRG.LOAD_STAT` bits 31:24, RO, reset 0x00 (spec 02_stringing_image) -/
@[simp] def LOAD_STAT_CODE : Fld := ⟨0, 106, 0, 8, 0⟩

/-- `CTL.STRG.LOAD_STAT` bits 23:16, RO, reset 0xFF (spec 02_stringing_image) -/
@[simp] def LOAD_STAT_SECT : Fld := ⟨0, 107, 0, 8, 255⟩

/-- `CTL.STRG.LOAD_STAT` bits 15:0, RO, reset 0xFFFF (spec 02_stringing_image) -/
@[simp] def LOAD_STAT_RECORD : Fld := ⟨0, 108, 0, 16, 65535⟩

/-- `CTL.STRG.IMAGE_ID` bits 31:0, RO, reset 0x0000_0000 (spec 02_stringing_image) -/
@[simp] def IMAGE_ID_ID : Fld := ⟨0, 109, 0, 32, 0⟩

/-- `CTL.STRG.DIGESTk` bits 31:0, RO, reset 0x0000_0000 (spec 02_stringing_image) -/
@[simp] def DIGEST_D (k : Nat) : Fld := ⟨0, 110, k, 32, 0⟩

/-- `CTL.STRG.PATCH_CMD` bits 1, W1S, reset 0x0 (spec 02_stringing_image) -/
@[simp] def PATCH_CMD_ABORT : Fld := ⟨0, 111, 0, 1, 0⟩

/-- `CTL.STRG.PATCH_CMD` bits 0, W1S, reset 0x0 (spec 02_stringing_image) -/
@[simp] def PATCH_CMD_GO : Fld := ⟨0, 112, 0, 1, 0⟩

/-- `CTL.STRG.PATCH_STAT` bits 31:29, RO, reset 0x0 (spec 02_stringing_image) -/
@[simp] def PATCH_STAT_STATE : Fld := ⟨0, 113, 0, 3, 0⟩

/-- `CTL.STRG.PATCH_STAT` bits 28, STK, reset 0x0 (spec 02_stringing_image) -/
@[simp] def PATCH_STAT_BUSY_GO : Fld := ⟨0, 5103, 0, 1, 0⟩

/-- `CTL.STRG.PATCH_STAT` bits 23:16, RO, reset 0x00 (spec 02_stringing_image) -/
@[simp] def PATCH_STAT_CODE : Fld := ⟨0, 114, 0, 8, 0⟩

/-- `CTL.STRG.PATCH_STAT` bits 15:0, RO, reset 0x0000 (spec 02_stringing_image) -/
@[simp] def PATCH_STAT_DRAINED : Fld := ⟨0, 115, 0, 16, 0⟩

/-- `CTL.STRG.PATCH_DETAIL` bits 23:16, RO, reset 0xFF (spec 02_stringing_image) -/
@[simp] def PATCH_DETAIL_SECT : Fld := ⟨0, 116, 0, 8, 255⟩

/-- `CTL.STRG.PATCH_DETAIL` bits 15:0, RO, reset 0xFFFF (spec 02_stringing_image) -/
@[simp] def PATCH_DETAIL_RECORD : Fld := ⟨0, 117, 0, 16, 65535⟩

/-- `CTL.STRG.PATCH_TAG` bits 31:0, RO, reset 0x0000_0000 (spec 02_stringing_image) -/
@[simp] def PATCH_TAG_T : Fld := ⟨0, 118, 0, 32, 0⟩

/-- `CTL.STRG.ARM_TIMEOUT` bits 9:0, RW, reset 0x064 (spec 02_stringing_image) -/
@[simp] def ARM_TIMEOUT_MS : Fld := ⟨0, 119, 0, 10, 100⟩

/-- `CTL.STRG.DROP_STAT` bits 31, STK, reset 0x0 (spec 02_stringing_image) -/
@[simp] def DROP_STAT_DROPPED : Fld := ⟨0, 5104, 0, 1, 0⟩

/-- `CTL.STRG.DROP_STAT` bits 24:16, RO, reset 0x000 (spec 02_stringing_image) -/
@[simp] def DROP_STAT_STREAM : Fld := ⟨0, 120, 0, 9, 0⟩

/-- `CTL.STRG.DROP_STAT` bits 15:0, RO, reset 0x0000 (spec 02_stringing_image) -/
@[simp] def DROP_STAT_CNT : Fld := ⟨0, 121, 0, 16, 0⟩

/-- `CTL.STRG.ROD_SRCn` bits 31:0, RO, reset 0x0000_0000 (spec 02_stringing_image) -/
@[simp] def ROD_SRC_ID (n : Nat) : Fld := ⟨0, 122, n, 32, 0⟩

/-- `CTL.FTAG.LAST` bits 31:0, RO, reset 0x0000_0000 (spec 05_frame_tags_and_exposure) -/
@[simp] def FTAG_LAST_TAG : Fld := ⟨0, 123, 0, 32, 0⟩

/-- `CTL.SUBST.CMD` bits 11:8, WO, reset 0x0 (spec 06_raw_front_end) -/
@[simp] def SUBST_CMD_ROD : Fld := ⟨0, 124, 0, 4, 0⟩

/-- `CTL.SUBST.CMD` bits 1, W1S, reset 0x0 (spec 06_raw_front_end) -/
@[simp] def SUBST_CMD_RETURN : Fld := ⟨0, 125, 0, 1, 0⟩

/-- `CTL.SUBST.CMD` bits 0, W1S, reset 0x0 (spec 06_raw_front_end) -/
@[simp] def SUBST_CMD_TEST : Fld := ⟨0, 126, 0, 1, 0⟩

/-- `CTL.SUBST.STAT` bits 31, RO, reset 0x0 (spec 06_raw_front_end) -/
@[simp] def SUBST_STAT_ACTIVE : Fld := ⟨0, 127, 0, 1, 0⟩

/-- `CTL.SUBST.STAT` bits 30, STK, reset 0x0 (spec 06_raw_front_end) -/
@[simp] def SUBST_STAT_SUB_EV : Fld := ⟨0, 5105, 0, 1, 0⟩

/-- `CTL.SUBST.STAT` bits 29, STK, reset 0x0 (spec 06_raw_front_end) -/
@[simp] def SUBST_STAT_LOST : Fld := ⟨0, 5106, 0, 1, 0⟩

/-- `CTL.SUBST.STAT` bits 28, STK, reset 0x0 (spec 06_raw_front_end) -/
@[simp] def SUBST_STAT_SPARE_LOST : Fld := ⟨0, 5107, 0, 1, 0⟩

/-- `CTL.SUBST.STAT` bits 25:24, RO, reset 0x0 (spec 06_raw_front_end) -/
@[simp] def SUBST_STAT_STRIPE : Fld := ⟨0, 128, 0, 2, 0⟩

/-- `CTL.SUBST.STAT` bits 19:16, RO, reset 0x0 (spec 06_raw_front_end) -/
@[simp] def SUBST_STAT_FROM : Fld := ⟨0, 129, 0, 4, 0⟩

/-- `CTL.SUBST.STAT` bits 15:0, RO, reset 0x0000 (spec 06_raw_front_end) -/
@[simp] def SUBST_STAT_CONC_CNT : Fld := ⟨0, 130, 0, 16, 0⟩

/-- `CTL.SUBST.TAG` bits 31:0, RO, reset 0x0000_0000 (spec 06_raw_front_end) -/
@[simp] def SUBST_TAG_TAG : Fld := ⟨0, 131, 0, 32, 0⟩

/-- `CTL.PIC.RING` bits 31:24, RW, reset 0x00 (spec 07_colour_science) -/
@[simp] def PIC_RING_REGION : Fld := ⟨0, 132, 0, 8, 0⟩

/-- `CTL.PIC.RING` bits 23:20, RW, reset 0x4 (spec 07_colour_science) -/
@[simp] def PIC_RING_NBUF : Fld := ⟨0, 133, 0, 4, 4⟩

/-- `CTL.PIC.RING` bits 11:0, RW, reset 0x000 (spec 07_colour_science) -/
@[simp] def PIC_RING_BUF_MIB : Fld := ⟨0, 134, 0, 12, 0⟩

/-- `CTL.PIC.DESC` bits 20:16, RW, reset 0x08 (spec 07_colour_science) -/
@[simp] def PIC_DESC_DEPTH : Fld := ⟨0, 135, 0, 5, 8⟩

/-- `CTL.PIC.DESC` bits 9:0, RW, reset 0x000 (spec 07_colour_science) -/
@[simp] def PIC_DESC_GRAN : Fld := ⟨0, 136, 0, 10, 0⟩

/-- `CTL.PIC.READERS` bits 15:0, RW, reset 0x0000 (spec 07_colour_science) -/
@[simp] def PIC_READERS_MASK : Fld := ⟨0, 137, 0, 16, 0⟩

/-- `CTL.PIC.STAT` bits 31, STK, reset 0x0 (spec 07_colour_science) -/
@[simp] def PIC_STAT_NOBUF : Fld := ⟨0, 5108, 0, 1, 0⟩

/-- `CTL.PIC.STAT` bits 15:0, RO, reset 0x0000 (spec 07_colour_science) -/
@[simp] def PIC_STAT_CNT : Fld := ⟨0, 138, 0, 16, 0⟩

/-- `CTL.LUTS.SLOTn.BASE` bits 9:0, RW, reset 0x000 (spec 07_colour_science) -/
@[simp] def SLOT_BASE_GRAN (n : Nat) : Fld := ⟨0, 139, n, 10, 0⟩

/-- `CTL.LUTS.SLOTn.CRC` bits 31:0, RW, reset 0x0000_0000 (spec 07_colour_science) -/
@[simp] def SLOT_CRC_CRC (n : Nat) : Fld := ⟨0, 140, n, 32, 0⟩

/-- `CTL.LUTS.SLOTn.CMD` bits 1, W1S, reset 0x0 (spec 07_colour_science) -/
@[simp] def SLOT_CMD_INVAL (n : Nat) : Fld := ⟨0, 141, n, 1, 0⟩

/-- `CTL.LUTS.SLOTn.CMD` bits 0, W1S, reset 0x0 (spec 07_colour_science) -/
@[simp] def SLOT_CMD_CHECK (n : Nat) : Fld := ⟨0, 142, n, 1, 0⟩

/-- `CTL.LUTS.SLOTn.STAT` bits 31:30, RO, reset 0x0 (spec 07_colour_science) -/
@[simp] def SLOT_STAT_STATE (n : Nat) : Fld := ⟨0, 143, n, 2, 0⟩

/-- `CTL.LUTS.SLOTn.STAT` bits 29, STK, reset 0x0 (spec 07_colour_science) -/
@[simp] def SLOT_STAT_BAD_EV (n : Nat) : Fld := ⟨0, 5109, n, 1, 0⟩

/-- `CTL.STS.RING` bits 18:16, RW, reset 0x4 (spec 07_colour_science) -/
@[simp] def STS_RING_DEPTH : Fld := ⟨0, 144, 0, 3, 4⟩

/-- `CTL.STS.RING` bits 9:0, RW, reset 0x000 (spec 07_colour_science) -/
@[simp] def STS_RING_GRAN : Fld := ⟨0, 145, 0, 10, 0⟩

/-- `CTL.HEP.BAR4` bits 9:0, RW, reset 0x000 (spec 17_control_and_events) -/
@[simp] def BAR4_GRAN : Fld := ⟨0, 146, 0, 10, 0⟩

/-- `CTL.HEP.STAT` bits 31, STK, reset 0x0 (spec 17_control_and_events) -/
@[simp] def HEP_STAT_SIZE_ERR : Fld := ⟨0, 5110, 0, 1, 0⟩

/-- `CTL.HEP.STAT` bits 30, STK, reset 0x0 (spec 17_control_and_events) -/
@[simp] def HEP_STAT_RETIRED : Fld := ⟨0, 5111, 0, 1, 0⟩

/-- `CTL.HEP.STAT` bits 15:0, RO, reset 0x0000 (spec 17_control_and_events) -/
@[simp] def HEP_STAT_RETIRED_CNT : Fld := ⟨0, 147, 0, 16, 0⟩

/-- `CTL.EVT.ROD_PEND and CTL.EVT.IRQk` bits 16, RO, reset 0x0 (spec 17_control_and_events) -/
@[simp] def ROD_PEND_AON : Fld := ⟨0, 148, 0, 1, 0⟩

/-- `CTL.EVT.ROD_PEND and CTL.EVT.IRQk` bits 15:0, RO, reset 0x0000 (spec 17_control_and_events) -/
@[simp] def ROD_PEND_ROD : Fld := ⟨0, 149, 0, 16, 0⟩

/-- `CTL.EVT.ROD_PEND and CTL.EVT.IRQk` bits 16, RO, reset 0x0 (spec 17_control_and_events) -/
@[simp] def IRQ_AON (k : Nat) : Fld := ⟨0, 150, k, 1, 0⟩

/-- `CTL.EVT.ROD_PEND and CTL.EVT.IRQk` bits 15:0, RO, reset 0x0000 (spec 17_control_and_events) -/
@[simp] def IRQ_ROD (k : Nat) : Fld := ⟨0, 151, k, 16, 0⟩

/-- `CTL.EVT.FH_HEAD` bits 7:0, RO, reset Kept in the keep store (spec 17_control_and_events) -/
@[simp] def FH_HEAD_NEXT : Fld := ⟨0, 152, 0, 8, 0⟩

/-- `CTL.CLOG.SEQ_NEXT and CTL.CLOG.STAT` bits 31:0, RO, reset 0x0000_0001 (spec 17_control_and_events) -/
@[simp] def CLOG_SEQ_NEXT_SEQ : Fld := ⟨0, 153, 0, 32, 1⟩

/-- `CTL.CLOG.SEQ_NEXT and CTL.CLOG.STAT` bits 31, STK, reset 0x0 (spec 17_control_and_events) -/
@[simp] def CLOG_STAT_LOST : Fld := ⟨0, 5112, 0, 1, 0⟩

/-- `CTL.CLOG.SEQ_NEXT and CTL.CLOG.STAT` bits 15:0, RO, reset 0x0000 (spec 17_control_and_events) -/
@[simp] def CLOG_STAT_LOST_CNT : Fld := ⟨0, 154, 0, 16, 0⟩

/-- `CTL.SEC.STAT` bits 31:30, RO, reset From fuses (spec 18_security_debug_power) -/
@[simp] def SEC_STAT_LIFECYCLE : Fld := ⟨0, 155, 0, 2, 0⟩

/-- `CTL.SEC.STAT` bits 29:28, RO, reset 0x0 (spec 18_security_debug_power) -/
@[simp] def SEC_STAT_DEBUG : Fld := ⟨0, 156, 0, 2, 0⟩

/-- `CTL.SEC.STAT` bits 27:24, RO, reset From fuses (spec 18_security_debug_power) -/
@[simp] def SEC_STAT_CREV : Fld := ⟨0, 157, 0, 4, 0⟩

/-- `CTL.SEC.STAT` bits 23:20, RO, reset From fuses (spec 18_security_debug_power) -/
@[simp] def SEC_STAT_LREV : Fld := ⟨0, 158, 0, 4, 0⟩

/-- `CTL.SEC.STAT` bits 19:16, RO, reset From fuses (spec 18_security_debug_power) -/
@[simp] def SEC_STAT_CPROG : Fld := ⟨0, 159, 0, 4, 0⟩

/-- `CTL.SEC.STAT` bits 15:8, RO, reset From fuses (spec 18_security_debug_power) -/
@[simp] def SEC_STAT_CSVN : Fld := ⟨0, 160, 0, 8, 0⟩

/-- `CTL.SEC.STAT` bits 7:0, RO, reset From fuses (spec 18_security_debug_power) -/
@[simp] def SEC_STAT_LSVN : Fld := ⟨0, 161, 0, 8, 0⟩

/-- `CTL.SEC.FW_STAT` bits 31:24, RO, reset 0x00 (spec 18_security_debug_power) -/
@[simp] def FW_STAT_CODE : Fld := ⟨0, 162, 0, 8, 0⟩

/-- `CTL.SEC.FW_STAT` bits 23:16, RO, reset 0x00 (spec 18_security_debug_power) -/
@[simp] def FW_STAT_SVN : Fld := ⟨0, 163, 0, 8, 0⟩

/-- `CTL.SEC.OP` bits 31:30, RO, reset 0x0 (spec 18_security_debug_power) -/
@[simp] def SEC_OP_STATE : Fld := ⟨0, 164, 0, 2, 0⟩

/-- `CTL.SEC.OP` bits 23:16, RO, reset 0x00 (spec 18_security_debug_power) -/
@[simp] def SEC_OP_SERVICE : Fld := ⟨0, 165, 0, 8, 0⟩

/-- `CTL.SEC.OP` bits 15:8, RO, reset 0x00 (spec 18_security_debug_power) -/
@[simp] def SEC_OP_CODE : Fld := ⟨0, 166, 0, 8, 0⟩

/-- `CTL.SEC.LMS` bits 31, RO, reset From the keep store (spec 18_security_debug_power) -/
@[simp] def SEC_LMS_EXHAUSTED : Fld := ⟨0, 167, 0, 1, 0⟩

/-- `CTL.SEC.LMS` bits 30, RO, reset From the keep store (spec 18_security_debug_power) -/
@[simp] def SEC_LMS_STATE_BAD : Fld := ⟨0, 168, 0, 1, 0⟩

/-- `CTL.SEC.LMS` bits 20:0, RO, reset From the keep store (spec 18_security_debug_power) -/
@[simp] def SEC_LMS_LEFT : Fld := ⟨0, 169, 0, 21, 0⟩

/-- `CTL.SEC.EVT` bits 31, STK, reset 0x0 (spec 18_security_debug_power) -/
@[simp] def SEC_EVT_TOKEN_BAD : Fld := ⟨0, 5113, 0, 1, 0⟩

/-- `CTL.SEC.EVT` bits 30, STK, reset 0x0 (spec 18_security_debug_power) -/
@[simp] def SEC_EVT_JTAG_DENY : Fld := ⟨0, 5114, 0, 1, 0⟩

/-- `CTL.SEC.EVT` bits 29, STK, reset 0x0 (spec 18_security_debug_power) -/
@[simp] def SEC_EVT_SEC_RESTART : Fld := ⟨0, 5115, 0, 1, 0⟩

/-- `CTL.SEC.EVT` bits 28, STK, reset 0x0 (spec 18_security_debug_power) -/
@[simp] def SEC_EVT_LMS_BAD : Fld := ⟨0, 5116, 0, 1, 0⟩

/-- `CTL.PWR.REQ` bits 31, W1S, reset 0x0 (spec 18_security_debug_power) -/
@[simp] def PWR_REQ_GO : Fld := ⟨0, 170, 0, 1, 0⟩

/-- `CTL.PWR.REQ` bits 30:29, WO, reset 0x0 (spec 18_security_debug_power) -/
@[simp] def PWR_REQ_TARGET : Fld := ⟨0, 171, 0, 2, 0⟩

/-- `CTL.PWR.REQ` bits 20:16, RW, reset 0x1F (spec 18_security_debug_power) -/
@[simp] def PWR_REQ_WAKE_TRG : Fld := ⟨0, 172, 0, 5, 31⟩

/-- `CTL.PWR.STAT` bits 31:29, RO, reset 0x1 (spec 18_security_debug_power) -/
@[simp] def PWR_STAT_STATE : Fld := ⟨0, 173, 0, 3, 1⟩

/-- `CTL.PWR.STAT` bits 28:27, RO, reset 0x0 (spec 18_security_debug_power) -/
@[simp] def PWR_STAT_TARGET : Fld := ⟨0, 174, 0, 2, 0⟩

/-- `CTL.PWR.STAT` bits 26, STK, reset 0x0 (spec 18_security_debug_power) -/
@[simp] def PWR_STAT_REFUSED : Fld := ⟨0, 5117, 0, 1, 0⟩

/-- `CTL.PWR.STAT` bits 25, RO, reset 0x0 (spec 18_security_debug_power) -/
@[simp] def PWR_STAT_IMAGE_WAIT : Fld := ⟨0, 175, 0, 1, 0⟩

/-- `CTL.PWR.STAT` bits 24, STK, reset 0x0 (spec 18_security_debug_power) -/
@[simp] def PWR_STAT_DRAIN_CUT : Fld := ⟨0, 5118, 0, 1, 0⟩

/-- `CTL.PWR.STAT` bits 15:0, RO, reset 0x0001 (spec 18_security_debug_power) -/
@[simp] def PWR_STAT_ROD_ON : Fld := ⟨0, 176, 0, 16, 1⟩

/-- `CTL.KEEP.STAT` bits 31, STK, reset 0x0 (spec 20_calibration) -/
@[simp] def KEEP_STAT_CAL_BAD : Fld := ⟨0, 5119, 0, 1, 0⟩

/-- `CTL.KEEP.STAT` bits 30, STK, reset 0x0 (spec 20_calibration) -/
@[simp] def KEEP_STAT_WRITE_ERR : Fld := ⟨0, 5120, 0, 1, 0⟩

/-- `CTL.KEEP.STAT` bits 29, RO, reset From the keep store (spec 20_calibration) -/
@[simp] def KEEP_STAT_COPY : Fld := ⟨0, 177, 0, 1, 0⟩

/-- `CTL.KEEP.GEN` bits 31:0, RO, reset From the keep store (spec 20_calibration) -/
@[simp] def KEEP_GEN_GEN : Fld := ⟨0, 178, 0, 32, 0⟩

/-- `CTL.REG.BAD_ROD and CTL.REG.WR_ROD` bits 15:0, RO, reset 0x0000 (spec 22_address_map) -/
@[simp] def BAD_ROD_ROD : Fld := ⟨0, 179, 0, 16, 0⟩

/-- `CTL.REG.BAD_ROD and CTL.REG.WR_ROD` bits 16:0, RO, reset 0x0_0000 (spec 22_address_map) -/
@[simp] def WR_ROD_ROD : Fld := ⟨0, 180, 0, 17, 0⟩

/-- `CTL.BOOT.STAT` bits 31:28, RO, reset 0x0 (spec 24_startup_and_worked_stringing) -/
@[simp] def BOOT_STAT_STATE : Fld := ⟨0, 181, 0, 4, 0⟩

/-- `CTL.BOOT.STAT` bits 27:26, RO, reset 0x0 (spec 24_startup_and_worked_stringing) -/
@[simp] def BOOT_STAT_FW_SRC : Fld := ⟨0, 182, 0, 2, 0⟩

/-- `CTL.BOOT.STAT` bits 25:24, RO, reset 0x3 (spec 24_startup_and_worked_stringing) -/
@[simp] def BOOT_STAT_IMG_SRC : Fld := ⟨0, 183, 0, 2, 3⟩

/-- `CTL.BOOT.STAT` bits 23, STK, reset 0x0 (spec 24_startup_and_worked_stringing) -/
@[simp] def BOOT_STAT_GO_IGN : Fld := ⟨0, 5121, 0, 1, 0⟩

/-- `CTL.BOOT.STAT` bits 22, STK, reset 0x0 (spec 24_startup_and_worked_stringing) -/
@[simp] def BOOT_STAT_DIR_BAD : Fld := ⟨0, 5122, 0, 1, 0⟩

/-- `CTL.BOOT.STAT` bits 15:0, RO, reset 0x0000 (spec 24_startup_and_worked_stringing) -/
@[simp] def BOOT_STAT_MS : Fld := ⟨0, 184, 0, 16, 0⟩

/-- `CTL.BOOT.CMD` bits 31, W1S, reset 0x0 (spec 24_startup_and_worked_stringing) -/
@[simp] def BOOT_CMD_FW_GO : Fld := ⟨0, 185, 0, 1, 0⟩

/-- `CTL.BOOT.CMD` bits 30, W1S, reset 0x0 (spec 24_startup_and_worked_stringing) -/
@[simp] def BOOT_CMD_IMG_GO : Fld := ⟨0, 186, 0, 1, 0⟩

/-! ### The sensor link rod -/

/-- `LNK.SRXp.LINK_CTL` bits 31, RW, reset 0x0 (spec 04_sensor_link) -/
@[simp] def LINK_CTL_EN (p : Nat) : Fld := ⟨1, 100, p, 1, 0⟩

/-- `LNK.SRXp.LINK_CTL` bits 30, W1S, reset 0x0 (spec 04_sensor_link) -/
@[simp] def LINK_CTL_RETRAIN (p : Nat) : Fld := ⟨1, 101, p, 1, 0⟩

/-- `LNK.SRXp.LINK_CTL` bits 29:28, RW, SH, reset 0x3 (spec 04_sensor_link) -/
@[simp] def LINK_CTL_N (p : Nat) : Fld := ⟨1, 3000, p, 2, 3⟩

/-- `LNK.SRXp.LINK_CTL` bits 27, RW, SH, reset 0x0 (spec 04_sensor_link) -/
@[simp] def LINK_CTL_PAIR (p : Nat) : Fld := ⟨1, 3001, p, 1, 0⟩

/-- `LNK.SRXp.LINK_CTL` bits 26:19, RW, SH, reset 0x14 (spec 04_sensor_link) -/
@[simp] def LINK_CTL_PAIR_WIN (p : Nat) : Fld := ⟨1, 3002, p, 8, 20⟩

/-- `LNK.SRXp.LINK_CTL` bits 14:0, RW, SH, reset 0x4000 (spec 04_sensor_link) -/
@[simp] def LINK_CTL_WIDTH (p : Nat) : Fld := ⟨1, 3003, p, 15, 16384⟩

/-- `LNK.SRXp.LINK_STAT` bits 31:29, RO, reset 0x0 (spec 04_sensor_link) -/
@[simp] def LINK_STAT_STATE (p : Nat) : Fld := ⟨1, 102, p, 3, 0⟩

/-- `LNK.SRXp.LINK_STAT` bits 15:0, RO, reset 0x0000 (spec 04_sensor_link) -/
@[simp] def LINK_STAT_AM_SEQ (p : Nat) : Fld := ⟨1, 103, p, 16, 0⟩

/-- `LNK.SRXp.LINK_ERR` bits 31, STK, reset 0x0 (spec 04_sensor_link) -/
@[simp] def LINK_ERR_HCRC (p : Nat) : Fld := ⟨1, 5100, p, 1, 0⟩

/-- `LNK.SRXp.LINK_ERR` bits 30, STK, reset 0x0 (spec 04_sensor_link) -/
@[simp] def LINK_ERR_PCRC (p : Nat) : Fld := ⟨1, 5101, p, 1, 0⟩

/-- `LNK.SRXp.LINK_ERR` bits 29, STK, reset 0x0 (spec 04_sensor_link) -/
@[simp] def LINK_ERR_LEN (p : Nat) : Fld := ⟨1, 5102, p, 1, 0⟩

/-- `LNK.SRXp.LINK_ERR` bits 28, STK, reset 0x0 (spec 04_sensor_link) -/
@[simp] def LINK_ERR_SEQ (p : Nat) : Fld := ⟨1, 5103, p, 1, 0⟩

/-- `LNK.SRXp.LINK_ERR` bits 27, STK, reset 0x0 (spec 04_sensor_link) -/
@[simp] def LINK_ERR_FS_LOST (p : Nat) : Fld := ⟨1, 5104, p, 1, 0⟩

/-- `LNK.SRXp.LINK_ERR` bits 26, STK, reset 0x0 (spec 04_sensor_link) -/
@[simp] def LINK_ERR_FS_MM (p : Nat) : Fld := ⟨1, 5105, p, 1, 0⟩

/-- `LNK.SRXp.LINK_ERR` bits 25, STK, reset 0x0 (spec 04_sensor_link) -/
@[simp] def LINK_ERR_FE_LOST (p : Nat) : Fld := ⟨1, 5106, p, 1, 0⟩

/-- `LNK.SRXp.LINK_ERR` bits 24, STK, reset 0x0 (spec 04_sensor_link) -/
@[simp] def LINK_ERR_DESKEW (p : Nat) : Fld := ⟨1, 5107, p, 1, 0⟩

/-- `LNK.SRXp.LINK_ERR` bits 23, STK, reset 0x0 (spec 04_sensor_link) -/
@[simp] def LINK_ERR_PAIR (p : Nat) : Fld := ⟨1, 5108, p, 1, 0⟩

/-- `LNK.SRXp.LINK_ERR` bits 22, STK, reset 0x0 (spec 04_sensor_link) -/
@[simp] def LINK_ERR_MAP_ERR (p : Nat) : Fld := ⟨1, 5109, p, 1, 0⟩

/-- `LNK.SRXp.LINK_ERR` bits 21, STK, reset 0x0 (spec 04_sensor_link) -/
@[simp] def LINK_ERR_TRAIN_MM (p : Nat) : Fld := ⟨1, 5110, p, 1, 0⟩

/-- `LNK.SRXp.LINK_ERR` bits 15:0, RO, reset 0x0000 (spec 04_sensor_link) -/
@[simp] def LINK_ERR_LOST_CNT (p : Nat) : Fld := ⟨1, 104, p, 16, 0⟩

/-- `LNK.SRXp.SPARE_CTL` bits 31, RW, reset 0x1 (spec 04_sensor_link) -/
@[simp] def SPARE_CTL_AUTO (p : Nat) : Fld := ⟨1, 105, p, 1, 1⟩

/-- `LNK.SRXp.SPARE_CTL` bits 23:16, RW, reset 0x10 (spec 04_sensor_link) -/
@[simp] def SPARE_CTL_BIP_TH (p : Nat) : Fld := ⟨1, 106, p, 8, 16⟩

/-- `LNK.SRXp.SPARE_CTL` bits 15:8, RO, reset 0x3F (spec 04_sensor_link) -/
@[simp] def SPARE_CTL_SPARE1_LOG (p : Nat) : Fld := ⟨1, 107, p, 8, 63⟩

/-- `LNK.SRXp.SPARE_CTL` bits 7:0, RO, reset 0x3F (spec 04_sensor_link) -/
@[simp] def SPARE_CTL_SPARE0_LOG (p : Nat) : Fld := ⟨1, 108, p, 8, 63⟩

/-- `LNK.SRXp.LMAPj` bits 7, RO, reset 0x0 (spec 04_sensor_link) -/
@[simp] def LMAP_V (p : Nat) (j : Nat) (i : Nat) : Fld := ⟨1, 109, (p * 8 + j) * 4 + i, 1, 0⟩

/-- `LNK.SRXp.LMAPj` bits 5:0, RO, reset 0x00 (spec 04_sensor_link) -/
@[simp] def LMAP_PHY (p : Nat) (j : Nat) (i : Nat) : Fld := ⟨1, 110, (p * 8 + j) * 4 + i, 6, 0⟩

/-- `LNK.SRXp.LHk` bits 31, STK, reset 0x0 (spec 04_sensor_link) -/
@[simp] def LH_BAD (p : Nat) (k : Nat) : Fld := ⟨1, 5111, p * 34 + k, 1, 0⟩

/-- `LNK.SRXp.LHk` bits 30:28, RO, reset 0x0 (spec 04_sensor_link) -/
@[simp] def LH_REASON (p : Nat) (k : Nat) : Fld := ⟨1, 111, p * 34 + k, 3, 0⟩

/-- `LNK.SRXp.LHk` bits 27:24, RO, reset 0x0 (spec 04_sensor_link) -/
@[simp] def LH_ALIGN_FAIL (p : Nat) (k : Nat) : Fld := ⟨1, 112, p * 34 + k, 4, 0⟩

/-- `LNK.SRXp.LHk` bits 23:16, RO, reset 0x00 (spec 04_sensor_link) -/
@[simp] def LH_SHDR_CNT (p : Nat) (k : Nat) : Fld := ⟨1, 113, p * 34 + k, 8, 0⟩

/-- `LNK.SRXp.LHk` bits 15:0, RO, reset 0x0000 (spec 04_sensor_link) -/
@[simp] def LH_BIP_CNT (p : Nat) (k : Nat) : Fld := ⟨1, 114, p * 34 + k, 16, 0⟩

/-- `LNK.SRXp.VENDOR_CNT` bits 31:16, RO, reset 0x0000 (spec 04_sensor_link) -/
@[simp] def VENDOR_CNT_EMB_DROP (p : Nat) : Fld := ⟨1, 115, p, 16, 0⟩

/-- `LNK.SRXp.VENDOR_CNT` bits 15:0, RO, reset 0x0000 (spec 04_sensor_link) -/
@[simp] def VENDOR_CNT_VENDOR (p : Nat) : Fld := ⟨1, 116, p, 16, 0⟩

/-- `LNK.SCKn.CTL` bits 31, RW, reset 0x0 (spec 04_sensor_link) -/
@[simp] def SCK_EN (n : Nat) : Fld := ⟨1, 117, n, 1, 0⟩

/-- `LNK.SCKn.CTL` bits 30, RW, reset 0x0 (spec 04_sensor_link) -/
@[simp] def SCK_SRC (n : Nat) : Fld := ⟨1, 118, n, 1, 0⟩

/-- `LNK.SCKn.CTL` bits 29, RW, reset 0x0 (spec 04_sensor_link) -/
@[simp] def SCK_DEN (n : Nat) : Fld := ⟨1, 119, n, 1, 0⟩

/-- `LNK.SCKn.CTL` bits 26:0, RW, reset 0x16E_3600 (spec 04_sensor_link) -/
@[simp] def SCK_NUM (n : Nat) : Fld := ⟨1, 120, n, 27, 24000000⟩

/-- `LNK.I3Cn.CFG` bits 31, RW, reset 0x0 (spec 04_sensor_link) -/
@[simp] def I3C_EN (n : Nat) : Fld := ⟨1, 121, n, 1, 0⟩

/-- `LNK.I3Cn.CFG` bits 30, RW, reset 0x0 (spec 04_sensor_link) -/
@[simp] def I3C_LEGACY (n : Nat) : Fld := ⟨1, 122, n, 1, 0⟩

/-- `LNK.I3Cn.CFG` bits 23:16, RO, reset 0x00 (spec 04_sensor_link) -/
@[simp] def I3C_IBI_CNT (n : Nat) : Fld := ⟨1, 123, n, 8, 0⟩

/-- `LNK.I3Cn.CFG` bits 7:0, RW, reset 0x60 (spec 04_sensor_link) -/
@[simp] def I3C_SCL_DIV (n : Nat) : Fld := ⟨1, 124, n, 8, 96⟩

/-- `LNK.SPIn.CFG` bits 31, RW, reset 0x0 (spec 04_sensor_link) -/
@[simp] def SPI_EN (n : Nat) : Fld := ⟨1, 125, n, 1, 0⟩

/-- `LNK.SPIn.CFG` bits 30, RW, reset 0x0 (spec 04_sensor_link) -/
@[simp] def SPI_MODE3 (n : Nat) : Fld := ⟨1, 126, n, 1, 0⟩

/-- `LNK.SPIn.CFG` bits 7:0, RW, reset 0x30 (spec 04_sensor_link) -/
@[simp] def SPI_SCK_DIV (n : Nat) : Fld := ⟨1, 127, n, 8, 48⟩

/-- `LNK.FRMp.CFG` bits 21:16, RW, SH, reset 0x10 (spec 05_frame_tags_and_exposure) -/
@[simp] def FRM_CFG_OB_LINES (p : Nat) : Fld := ⟨1, 3004, p, 6, 16⟩

/-- `LNK.FRMp.CFG` bits 13:0, RW, SH, reset 0x21C0 (spec 05_frame_tags_and_exposure) -/
@[simp] def FRM_CFG_LINES (p : Nat) : Fld := ⟨1, 3005, p, 14, 8640⟩

/-- `LNK.FRMp.FILL` bits 31:16, RW, reset 0x03E8 (spec 05_frame_tags_and_exposure) -/
@[simp] def FRM_FILL_TIMEOUT (p : Nat) : Fld := ⟨1, 128, p, 16, 1000⟩

/-- `LNK.FRMp.FILL` bits 15:0, RW, reset 0x0000 (spec 05_frame_tags_and_exposure) -/
@[simp] def FRM_FILL_VALUE (p : Nat) : Fld := ⟨1, 129, p, 16, 0⟩

/-- `LNK.FRMp.STAT` bits 31, STK, reset 0x0 (spec 05_frame_tags_and_exposure) -/
@[simp] def FRM_STAT_SHORT (p : Nat) : Fld := ⟨1, 5112, p, 1, 0⟩

/-- `LNK.FRMp.STAT` bits 30, STK, reset 0x0 (spec 05_frame_tags_and_exposure) -/
@[simp] def FRM_STAT_LONG (p : Nat) : Fld := ⟨1, 5113, p, 1, 0⟩

/-- `LNK.FRMp.STAT` bits 29, STK, reset 0x0 (spec 05_frame_tags_and_exposure) -/
@[simp] def FRM_STAT_OVERFLOW (p : Nat) : Fld := ⟨1, 5114, p, 1, 0⟩

/-- `LNK.FRMp.STAT` bits 28, STK, reset 0x0 (spec 05_frame_tags_and_exposure) -/
@[simp] def FRM_STAT_SYNTH (p : Nat) : Fld := ⟨1, 5115, p, 1, 0⟩

/-- `LNK.FRMp.STAT` bits 27, STK, reset 0x0 (spec 05_frame_tags_and_exposure) -/
@[simp] def FRM_STAT_PHASE_ERR (p : Nat) : Fld := ⟨1, 5116, p, 1, 0⟩

/-- `LNK.FRMp.STAT` bits 23:16, RO, reset 0x00 (spec 05_frame_tags_and_exposure) -/
@[simp] def FRM_STAT_SHORT_CNT (p : Nat) : Fld := ⟨1, 130, p, 8, 0⟩

/-- `LNK.FRMp.STAT` bits 15:8, RO, reset 0x00 (spec 05_frame_tags_and_exposure) -/
@[simp] def FRM_STAT_LONG_CNT (p : Nat) : Fld := ⟨1, 131, p, 8, 0⟩

/-- `LNK.FRMp.STAT` bits 7:0, RO, reset 0x00 (spec 05_frame_tags_and_exposure) -/
@[simp] def FRM_STAT_OVF_CNT (p : Nat) : Fld := ⟨1, 132, p, 8, 0⟩

/-- `LNK.EXQ.TIMp` bits 25:16, RW, reset 0x032 (spec 05_frame_tags_and_exposure) -/
@[simp] def EXQ_TIM_GUARD (p : Nat) : Fld := ⟨1, 133, p, 10, 50⟩

/-- `LNK.EXQ.TIMp` bits 5:4, RW, reset 0x0 (spec 05_frame_tags_and_exposure) -/
@[simp] def EXQ_TIM_L_AUX (p : Nat) : Fld := ⟨1, 134, p, 2, 0⟩

/-- `LNK.EXQ.TIMp` bits 3:2, RW, reset 0x0 (spec 05_frame_tags_and_exposure) -/
@[simp] def EXQ_TIM_L_GAIN (p : Nat) : Fld := ⟨1, 135, p, 2, 0⟩

/-- `LNK.EXQ.TIMp` bits 1:0, RW, reset 0x1 (spec 05_frame_tags_and_exposure) -/
@[simp] def EXQ_TIM_L_INT (p : Nat) : Fld := ⟨1, 136, p, 2, 1⟩

/-- `LNK.EXQ.POSTp` bits 31, W1S, reset 0x0 (spec 05_frame_tags_and_exposure) -/
@[simp] def EXQ_POST_GO (p : Nat) : Fld := ⟨1, 137, p, 1, 0⟩

/-- `LNK.EXQ.POSTp` bits 2:0, WO, reset 0x0 (spec 05_frame_tags_and_exposure) -/
@[simp] def EXQ_POST_SLOT (p : Nat) : Fld := ⟨1, 138, p, 3, 0⟩

/-- `LNK.EXQ.STATp` bits 31, STK, reset 0x0 (spec 05_frame_tags_and_exposure) -/
@[simp] def EXQ_STAT_SLIPPED (p : Nat) : Fld := ⟨1, 5117, p, 1, 0⟩

/-- `LNK.EXQ.STATp` bits 30, STK, reset 0x0 (spec 05_frame_tags_and_exposure) -/
@[simp] def EXQ_STAT_UNSURE (p : Nat) : Fld := ⟨1, 5118, p, 1, 0⟩

/-- `LNK.EXQ.STATp` bits 29, STK, reset 0x0 (spec 05_frame_tags_and_exposure) -/
@[simp] def EXQ_STAT_BAD_DESC (p : Nat) : Fld := ⟨1, 5119, p, 1, 0⟩

/-- `LNK.EXQ.STATp` bits 28, STK, reset 0x0 (spec 05_frame_tags_and_exposure) -/
@[simp] def EXQ_STAT_BIND_FAIL (p : Nat) : Fld := ⟨1, 5120, p, 1, 0⟩

/-- `LNK.EXQ.STATp` bits 27:24, RO, reset 0x0 (spec 05_frame_tags_and_exposure) -/
@[simp] def EXQ_STAT_PENDING (p : Nat) : Fld := ⟨1, 139, p, 4, 0⟩

/-- `LNK.EXQ.STATp` bits 23:16, RO, reset 0x00 (spec 05_frame_tags_and_exposure) -/
@[simp] def EXQ_STAT_SLIP_CNT (p : Nat) : Fld := ⟨1, 140, p, 8, 0⟩

/-- `LNK.EXQ.STATp` bits 15:0, RO, reset 0x0000 (spec 05_frame_tags_and_exposure) -/
@[simp] def EXQ_STAT_IN_FORCE (p : Nat) : Fld := ⟨1, 141, p, 16, 0⟩

/-- `LNK.EXQ.RING` bits 9:0, RW, reset 0x000 (spec 05_frame_tags_and_exposure) -/
@[simp] def EXQ_RING_GRAN : Fld := ⟨1, 142, 0, 10, 0⟩

/-- `LNK.EXSp.CTL` bits 31:30, RW, reset 0x0 (spec 05_frame_tags_and_exposure) -/
@[simp] def EXS_CTL_MODE (p : Nat) : Fld := ⟨1, 143, p, 2, 0⟩

/-- `LNK.EXSp.CTL` bits 29, RW, reset 0x0 (spec 05_frame_tags_and_exposure) -/
@[simp] def EXS_CTL_POL (p : Nat) : Fld := ⟨1, 144, p, 1, 0⟩

/-- `LNK.EXSp.CTL` bits 28, RW, reset 0x0 (spec 05_frame_tags_and_exposure) -/
@[simp] def EXS_CTL_LINE_EN (p : Nat) : Fld := ⟨1, 145, p, 1, 0⟩

/-- `LNK.EXSp.CTL` bits 25:16, RW, reset 0x064 (spec 05_frame_tags_and_exposure) -/
@[simp] def EXS_CTL_PW (p : Nat) : Fld := ⟨1, 146, p, 10, 100⟩

/-- `LNK.EXSp.CTL` bits 15:0, RW, reset 0x0064 (spec 05_frame_tags_and_exposure) -/
@[simp] def EXS_CTL_FS_WIN (p : Nat) : Fld := ⟨1, 147, p, 16, 100⟩

/-- `LNK.EXSp.RATE` bits 31, RW, SH, reset 0x0 (spec 05_frame_tags_and_exposure) -/
@[simp] def EXS_RATE_DEN (p : Nat) : Fld := ⟨1, 3006, p, 1, 0⟩

/-- `LNK.EXSp.RATE` bits 19:0, RW, SH, reset 0x0_EA60 (spec 05_frame_tags_and_exposure) -/
@[simp] def EXS_RATE_NUM (p : Nat) : Fld := ⟨1, 3007, p, 20, 60000⟩

/-- `LNK.EXSp.PHASE` bits 31:0, RW, SH, reset 0x0000_0000 (spec 05_frame_tags_and_exposure) -/
@[simp] def EXS_PHASE_NS (p : Nat) : Fld := ⟨1, 3008, p, 32, 0⟩

/-- `LNK.EXSp.LINE` bits 19:0, RW, SH, reset 0x0_7380 (spec 05_frame_tags_and_exposure) -/
@[simp] def EXS_LINE_LINE_PER (p : Nat) : Fld := ⟨1, 3009, p, 20, 29568⟩

/-- `LNK.EXSp.LEAD` bits 31:16, RW, SH, reset 0x0000 (spec 05_frame_tags_and_exposure) -/
@[simp] def EXS_LEAD_LEAD (p : Nat) : Fld := ⟨1, 3010, p, 16, 0⟩

/-- `LNK.EXSp.LEAD` bits 13:0, RW, SH, reset 0x21D0 (spec 05_frame_tags_and_exposure) -/
@[simp] def EXS_LEAD_LINE_CNT (p : Nat) : Fld := ⟨1, 3011, p, 14, 8656⟩

/-- `LNK.REF.CFG` bits 31:29, RW, reset 0x1 (spec 05_frame_tags_and_exposure) -/
@[simp] def REF_CFG_DIV : Fld := ⟨1, 148, 0, 3, 1⟩

/-- `LNK.REF.CFG` bits 28, RW, reset 0x0 (spec 05_frame_tags_and_exposure) -/
@[simp] def REF_CFG_EDGE : Fld := ⟨1, 149, 0, 1, 0⟩

/-- `LNK.REF.CFG` bits 23:16, RW, reset 0x10 (spec 05_frame_tags_and_exposure) -/
@[simp] def REF_CFG_STABLE_N : Fld := ⟨1, 150, 0, 8, 16⟩

/-- `LNK.REF.CFG` bits 15:0, RW, reset 0x0064 (spec 05_frame_tags_and_exposure) -/
@[simp] def REF_CFG_WIN : Fld := ⟨1, 151, 0, 16, 100⟩

/-- `LNK.REF.STAT` bits 31, RO, reset 0x0 (spec 05_frame_tags_and_exposure) -/
@[simp] def REF_STAT_HOLDOVER : Fld := ⟨1, 152, 0, 1, 0⟩

/-- `LNK.REF.STAT` bits 30, STK, reset 0x0 (spec 05_frame_tags_and_exposure) -/
@[simp] def REF_STAT_HOLD_EV : Fld := ⟨1, 5121, 0, 1, 0⟩

/-- `LNK.REF.STAT` bits 29, STK, reset 0x0 (spec 05_frame_tags_and_exposure) -/
@[simp] def REF_STAT_RATE_EV : Fld := ⟨1, 5122, 0, 1, 0⟩

/-- `LNK.REF.STAT` bits 28, STK, reset 0x0 (spec 05_frame_tags_and_exposure) -/
@[simp] def REF_STAT_REPHASE : Fld := ⟨1, 5123, 0, 1, 0⟩

/-- `LNK.REF.PERIOD` bits 31:0, RO, reset 0x0000_0000 (spec 05_frame_tags_and_exposure) -/
@[simp] def REF_PERIOD_NS : Fld := ⟨1, 153, 0, 32, 0⟩

/-- `LNK.RAWp.RING` bits 31:24, RW, reset 0x00 (spec 08_raw_recording) -/
@[simp] def RAW_RING_REGION (p : Nat) : Fld := ⟨1, 154, p, 8, 0⟩

/-- `LNK.RAWp.RING` bits 21:16, RW, reset 0x02 (spec 08_raw_recording) -/
@[simp] def RAW_RING_DEPTH (p : Nat) : Fld := ⟨1, 155, p, 6, 2⟩

/-- `LNK.RAWp.RING` bits 11:0, RW, reset 0x000 (spec 08_raw_recording) -/
@[simp] def RAW_RING_SLOT_MIB (p : Nat) : Fld := ⟨1, 156, p, 12, 0⟩

/-! ### The image rods (n = 0 to 4) -/

/-- `IMGn.STRIPE` bits 31:30, RO, reset 0x0 (spec 06_raw_front_end) -/
@[simp] def STRIPE_IDX (n : Nat) : Fld := ⟨2 + n, 100, 0, 2, 0⟩

/-- `IMGn.STRIPE` bits 29, RO, reset 0x0 (spec 06_raw_front_end) -/
@[simp] def STRIPE_ACTIVE (n : Nat) : Fld := ⟨2 + n, 101, 0, 1, 0⟩

/-- `IMGn.STRIPE` bits 28:14, RO, reset 0x0000 (spec 06_raw_front_end) -/
@[simp] def STRIPE_FIRST (n : Nat) : Fld := ⟨2 + n, 102, 0, 15, 0⟩

/-- `IMGn.STRIPE` bits 13:0, RO, reset 0x0000 (spec 06_raw_front_end) -/
@[simp] def STRIPE_WIDTH (n : Nat) : Fld := ⟨2 + n, 103, 0, 14, 0⟩

/-- `IMGn.COMMIT_AT` bits 31:0, RW, reset 0x0000_0000 (spec 06_raw_front_end) -/
@[simp] def COMMIT_AT_TAG (n : Nat) : Fld := ⟨2 + n, 104, 0, 32, 0⟩

/-- `IMGn.JOB_WD` bits 9:0, RW, reset 0x1F4 (spec 06_raw_front_end) -/
@[simp] def JOB_WD_LIMIT (n : Nat) : Fld := ⟨2 + n, 105, 0, 10, 500⟩

/-- `IMGn.ROD_STAT` bits 31, STK, reset 0x0 (spec 06_raw_front_end) -/
@[simp] def IMG_STAT_LB_PARITY (n : Nat) : Fld := ⟨2 + n, 5100, 0, 1, 0⟩

/-- `IMGn.ROD_STAT` bits 30, STK, reset 0x0 (spec 06_raw_front_end) -/
@[simp] def IMG_STAT_HANG (n : Nat) : Fld := ⟨2 + n, 5101, 0, 1, 0⟩

/-- `IMGn.ROD_STAT` bits 29, STK, reset 0x0 (spec 06_raw_front_end) -/
@[simp] def IMG_STAT_PORT (n : Nat) : Fld := ⟨2 + n, 5102, 0, 1, 0⟩

/-- `IMGn.ROD_STAT` bits 28, STK, reset 0x0 (spec 06_raw_front_end) -/
@[simp] def IMG_STAT_AT_MISSED (n : Nat) : Fld := ⟨2 + n, 5103, 0, 1, 0⟩

/-- `IMGn.BLK.CFG` bits 31:30, RW, SH, reset 0x1 (spec 06_raw_front_end) -/
@[simp] def BLK_CFG_MODE (n : Nat) : Fld := ⟨2 + n, 3000, 0, 2, 1⟩

/-- `IMGn.BLK.CFG` bits 29:27, RW, SH, reset 0x3 (spec 06_raw_front_end) -/
@[simp] def BLK_CFG_K (n : Nat) : Fld := ⟨2 + n, 3001, 0, 3, 3⟩

/-- `IMGn.BLK.CFG` bits 15:0, RW, SH, reset 0x0100 (spec 06_raw_front_end) -/
@[simp] def BLK_CFG_CLIP (n : Nat) : Fld := ⟨2 + n, 3002, 0, 16, 256⟩

/-- `IMGn.BLK.OBWIN` bits 30:16, RW, SH, reset 0x0000 (spec 06_raw_front_end) -/
@[simp] def BLK_OBWIN_OB_X0 (n : Nat) : Fld := ⟨2 + n, 3003, 0, 15, 0⟩

/-- `IMGn.BLK.OBWIN` bits 12:0, RW, SH, reset 0x1000 (spec 06_raw_front_end) -/
@[simp] def BLK_OBWIN_OB_W (n : Nat) : Fld := ⟨2 + n, 3004, 0, 13, 4096⟩

/-- `IMGn.BLK.LEVELg_c` bits 19:0, RW, SH, reset 0x0_1000 (spec 06_raw_front_end) -/
@[simp] def BLK_LEVEL_B (n : Nat) (c : Nat) : Fld := ⟨2 + n, 3005, c, 20, 4096⟩

/-- `IMGn.BLK.STAT` bits 31, STK, reset 0x0 (spec 06_raw_front_end) -/
@[simp] def BLK_STAT_NO_OB (n : Nat) : Fld := ⟨2 + n, 5104, 0, 1, 0⟩

/-- `IMGn.BLK.STAT` bits 30, STK, reset 0x0 (spec 06_raw_front_end) -/
@[simp] def BLK_STAT_CNT_LOW (n : Nat) : Fld := ⟨2 + n, 5105, 0, 1, 0⟩

/-- `IMGn.DPC.MAP` bits 31:24, RW, SH, reset 0x00 (spec 06_raw_front_end) -/
@[simp] def DPC_MAP_REGION (n : Nat) : Fld := ⟨2 + n, 3006, 0, 8, 0⟩

/-- `IMGn.DPC.MAP` bits 23:0, RW, SH, reset 0x00_0000 (spec 06_raw_front_end) -/
@[simp] def DPC_MAP_OFF8 (n : Nat) : Fld := ⟨2 + n, 3007, 0, 24, 0⟩

/-- `IMGn.DPC.MAP_CNT` bits 31, RW, SH, reset 0x0 (spec 06_raw_front_end) -/
@[simp] def DPC_MAP_CNT_EN (n : Nat) : Fld := ⟨2 + n, 3008, 0, 1, 0⟩

/-- `IMGn.DPC.MAP_CNT` bits 20:0, RW, SH, reset 0x00_0000 (spec 06_raw_front_end) -/
@[simp] def DPC_MAP_CNT_CNT (n : Nat) : Fld := ⟨2 + n, 3009, 0, 21, 0⟩

/-- `IMGn.DPC.DYN` bits 31, RW, SH, reset 0x1 (spec 06_raw_front_end) -/
@[simp] def DPC_DYN_EN (n : Nat) : Fld := ⟨2 + n, 3010, 0, 1, 1⟩

/-- `IMGn.DPC.DYN` bits 23:16, RW, SH, reset 0x20 (spec 06_raw_front_end) -/
@[simp] def DPC_DYN_T_REL (n : Nat) : Fld := ⟨2 + n, 3011, 0, 8, 32⟩

/-- `IMGn.DPC.DYN` bits 15:0, RW, SH, reset 0x0040 (spec 06_raw_front_end) -/
@[simp] def DPC_DYN_T_ABS (n : Nat) : Fld := ⟨2 + n, 3012, 0, 16, 64⟩

/-- `IMGn.DPC.STAT` bits 31, STK, reset 0x0 (spec 06_raw_front_end) -/
@[simp] def DPC_STAT_MAP_ORDER (n : Nat) : Fld := ⟨2 + n, 5106, 0, 1, 0⟩

/-- `IMGn.DPC.STAT` bits 30, STK, reset 0x0 (spec 06_raw_front_end) -/
@[simp] def DPC_STAT_MAP_ERR (n : Nat) : Fld := ⟨2 + n, 5107, 0, 1, 0⟩

/-- `IMGn.DPC.STAT` bits 29, STK, reset 0x0 (spec 06_raw_front_end) -/
@[simp] def DPC_STAT_UNFIX (n : Nat) : Fld := ⟨2 + n, 5108, 0, 1, 0⟩

/-- `IMGn.DPC.STAT` bits 23:0, RO, reset 0x00_0000 (spec 06_raw_front_end) -/
@[simp] def DPC_STAT_DYN_CNT (n : Nat) : Fld := ⟨2 + n, 106, 0, 24, 0⟩

/-- `IMGn.LSC.SEL` bits 31, RW, SH, reset 0x0 (spec 06_raw_front_end) -/
@[simp] def LSC_SEL_EN (n : Nat) : Fld := ⟨2 + n, 3013, 0, 1, 0⟩

/-- `IMGn.LSC.SEL` bits 26:24, RW, SH, reset 0x0 (spec 06_raw_front_end) -/
@[simp] def LSC_SEL_GRID_A (n : Nat) : Fld := ⟨2 + n, 3014, 0, 3, 0⟩

/-- `IMGn.LSC.SEL` bits 22:20, RW, SH, reset 0x0 (spec 06_raw_front_end) -/
@[simp] def LSC_SEL_GRID_B (n : Nat) : Fld := ⟨2 + n, 3015, 0, 3, 0⟩

/-- `IMGn.LSC.SEL` bits 8:0, RW, SH, reset 0x000 (spec 06_raw_front_end) -/
@[simp] def LSC_SEL_BLEND (n : Nat) : Fld := ⟨2 + n, 3016, 0, 9, 0⟩

/-- `IMGn.LSC.CFG` bits 31:16, RW, SH, reset 0x4000 (spec 06_raw_front_end) -/
@[simp] def LSC_CFG_MAX_GAIN (n : Nat) : Fld := ⟨2 + n, 3017, 0, 16, 16384⟩

/-- `IMGn.LSC.CFG` bits 15, STK, reset 0x0 (spec 06_raw_front_end) -/
@[simp] def LSC_CFG_GRID_ERR (n : Nat) : Fld := ⟨2 + n, 5109, 0, 1, 0⟩

/-- `IMGn.LSC.CFG` bits 9:0, RW, SH, reset 0x000 (spec 06_raw_front_end) -/
@[simp] def LSC_CFG_TABLE (n : Nat) : Fld := ⟨2 + n, 3018, 0, 10, 0⟩

/-- `IMGn.DCG.KNEE` bits 31:16, RW, SH, reset 0x3800 (spec 06_raw_front_end) -/
@[simp] def DCG_KNEE_T2 (n : Nat) : Fld := ⟨2 + n, 3019, 0, 16, 14336⟩

/-- `IMGn.DCG.KNEE` bits 15:0, RW, SH, reset 0x3000 (spec 06_raw_front_end) -/
@[simp] def DCG_KNEE_T1 (n : Nat) : Fld := ⟨2 + n, 3020, 0, 16, 12288⟩

/-- `IMGn.DCG.RATIO` bits 31, RW, SH, reset 0x0 (spec 06_raw_front_end) -/
@[simp] def DCG_RATIO_AUTO (n : Nat) : Fld := ⟨2 + n, 3021, 0, 1, 0⟩

/-- `IMGn.DCG.RATIO` bits 30:28, RW, SH, reset 0x2 (spec 06_raw_front_end) -/
@[simp] def DCG_RATIO_K (n : Nat) : Fld := ⟨2 + n, 3022, 0, 3, 2⟩

/-- `IMGn.DCG.RATIO` bits 21:0, RW, SH, reset 0x10_0000 (spec 06_raw_front_end) -/
@[simp] def DCG_RATIO_G (n : Nat) : Fld := ⟨2 + n, 3023, 0, 22, 1048576⟩

/-- `IMGn.DCG.SUMj` bits 31:0, RO, reset 0x0000_0000 (spec 06_raw_front_end) -/
@[simp] def DCG_SUM_S (n : Nat) (j : Nat) : Fld := ⟨2 + n, 107, j, 32, 0⟩

/-- `IMGn.TNR.CFG` bits 31:30, RW, SH, reset 0x1 (spec 06_raw_front_end) -/
@[simp] def TNR_CFG_MODE (n : Nat) : Fld := ⟨2 + n, 3024, 0, 2, 1⟩

/-- `IMGn.TNR.CFG` bits 29, RW, SH, reset 0x0 (spec 06_raw_front_end) -/
@[simp] def TNR_CFG_ALIGN (n : Nat) : Fld := ⟨2 + n, 3025, 0, 1, 0⟩

/-- `IMGn.TNR.CFG` bits 23:16, RW, SH, reset 0xC0 (spec 06_raw_front_end) -/
@[simp] def TNR_CFG_K_MAX (n : Nat) : Fld := ⟨2 + n, 3026, 0, 8, 192⟩

/-- `IMGn.TNR.CFG` bits 15:8, RW, SH, reset 0x40 (spec 06_raw_front_end) -/
@[simp] def TNR_CFG_K_NOVEC (n : Nat) : Fld := ⟨2 + n, 3027, 0, 8, 64⟩

/-- `IMGn.TNR.CFG` bits 6:0, RW, SH, reset 0x30 (spec 06_raw_front_end) -/
@[simp] def TNR_CFG_COST_MAX (n : Nat) : Fld := ⟨2 + n, 3028, 0, 7, 48⟩

/-- `IMGn.TNR.THR` bits 31:24, RW, SH, reset 0x30 (spec 06_raw_front_end) -/
@[simp] def TNR_THR_T_HI (n : Nat) : Fld := ⟨2 + n, 3029, 0, 8, 48⟩

/-- `IMGn.TNR.THR` bits 23:16, RW, SH, reset 0x10 (spec 06_raw_front_end) -/
@[simp] def TNR_THR_T_LO (n : Nat) : Fld := ⟨2 + n, 3030, 0, 8, 16⟩

/-- `IMGn.TNR.THR` bits 9:0, RW, SH, reset 0x0C8 (spec 06_raw_front_end) -/
@[simp] def TNR_THR_VEC_WAIT (n : Nat) : Fld := ⟨2 + n, 3031, 0, 10, 200⟩

/-- `IMGn.TNR.NOISE_A and IMGn.TNR.NOISE_B` bits 23:0, RW, SH, reset 0x000000 (spec 06_raw_front_end) -/
@[simp] def TNR_NOISE_V (n : Nat) (k : Nat) : Fld := ⟨2 + n, 3032, k, 24, 0⟩

/-- `IMGn.TNR.STAT` bits 31, STK, reset 0x0 (spec 06_raw_front_end) -/
@[simp] def TNR_STAT_REF_RESET (n : Nat) : Fld := ⟨2 + n, 5110, 0, 1, 0⟩

/-- `IMGn.TNR.STAT` bits 30, STK, reset 0x0 (spec 06_raw_front_end) -/
@[simp] def TNR_STAT_VEC_MISS (n : Nat) : Fld := ⟨2 + n, 5111, 0, 1, 0⟩

/-- `IMGn.TNR.STAT` bits 29, RO, reset 0x0 (spec 06_raw_front_end) -/
@[simp] def TNR_STAT_FORCED (n : Nat) : Fld := ⟨2 + n, 108, 0, 1, 0⟩

/-- `IMGn.TNR.STAT` bits 15:8, RO, reset 0x00 (spec 06_raw_front_end) -/
@[simp] def TNR_STAT_REF_CNT (n : Nat) : Fld := ⟨2 + n, 109, 0, 8, 0⟩

/-- `IMGn.TNR.STAT` bits 7:0, RO, reset 0x00 (spec 06_raw_front_end) -/
@[simp] def TNR_STAT_MISS_CNT (n : Nat) : Fld := ⟨2 + n, 110, 0, 8, 0⟩

/-- `IMGn.DMS.MOSAIC` bits 11:8, RW, SH, reset 0x2 (spec 07_colour_science) -/
@[simp] def DMS_MOSAIC_PX (n : Nat) : Fld := ⟨2 + n, 3033, 0, 4, 2⟩

/-- `IMGn.DMS.MOSAIC` bits 3:0, RW, SH, reset 0x2 (spec 07_colour_science) -/
@[simp] def DMS_MOSAIC_PY (n : Nat) : Fld := ⟨2 + n, 3034, 0, 4, 2⟩

/-- `IMGn.DMS.CFG` bits 31:30, RW, SH, reset 0x1 (spec 07_colour_science) -/
@[simp] def DMS_CFG_MODE (n : Nat) : Fld := ⟨2 + n, 3035, 0, 2, 1⟩

/-- `IMGn.DMS.CFG` bits 29:27, RW, SH, reset 0x1 (spec 07_colour_science) -/
@[simp] def DMS_CFG_GUIDE (n : Nat) : Fld := ⟨2 + n, 3036, 0, 3, 1⟩

/-- `IMGn.DMS.CFG` bits 23:16, RW, SH, reset 0x40 (spec 07_colour_science) -/
@[simp] def DMS_CFG_FALSE_C (n : Nat) : Fld := ⟨2 + n, 3037, 0, 8, 64⟩

/-- `IMGn.DMS.CFG` bits 15:0, RW, SH, reset 0x0180 (spec 07_colour_science) -/
@[simp] def DMS_CFG_EDGE_T (n : Nat) : Fld := ⟨2 + n, 3038, 0, 16, 384⟩

/-- `IMGn.DMS.MAPj` bits 3:0, RW, SH, reset 0x0000_0010 for j = 0, 0x0000_0021 for j = 1, 0x0 otherwise (spec 07_colour_science) -/
@[simp] def DMS_MAP_CLS (n : Nat) (j : Nat) (i : Nat) : Fld := ⟨2 + n, 3039, j * 8 + i, 4, bayer j i⟩

/-- `IMGn.SPM.Mk_c` bits 23:0, RW, SH, reset 0x3F_8000 where c = k, 0x00_0000 otherwise (spec 07_colour_science) -/
@[simp] def SPM_M_V (n : Nat) (c : Nat) : Fld := ⟨2 + n, 3040, c, 24, if c % 6 = c / 6 then 0x3F8000 else 0⟩

/-- `IMGn.SPM.Ok` bits 23:0, RW, SH, reset 0x00_0000 for Ok and COj, 0x3F_8000 for WBk (spec 07_colour_science) -/
@[simp] def SPM_O_V (n : Nat) (k : Nat) : Fld := ⟨2 + n, 3041, k, 24, 0⟩

/-- `IMGn.SPM.Ok` bits 23:0, RW, SH, reset 0x00_0000 for Ok and COj, 0x3F_8000 for WBk (spec 07_colour_science) -/
@[simp] def WBM_WB_V (n : Nat) (k : Nat) : Fld := ⟨2 + n, 3042, k, 24, 0x3F8000⟩

/-- `IMGn.SPM.Ok` bits 23:0, RW, SH, reset 0x00_0000 for Ok and COj, 0x3F_8000 for WBk (spec 07_colour_science) -/
@[simp] def WBM_CO_V (n : Nat) (k : Nat) : Fld := ⟨2 + n, 3043, k, 24, 0⟩

/-- `IMGn.WBM.CMj_k` bits 23:0, RW, SH, reset 0x3F_8000 where j = k, 0x00_0000 otherwise (spec 07_colour_science) -/
@[simp] def WBM_CM_V (n : Nat) (c : Nat) : Fld := ⟨2 + n, 3044, c, 24, if c % 3 = c / 3 then 0x3F8000 else 0⟩

/-- `IMGn.WBM.HL` bits 31, RW, SH, reset 0x0 (spec 07_colour_science) -/
@[simp] def WBM_HL_EN (n : Nat) : Fld := ⟨2 + n, 3045, 0, 1, 0⟩

/-- `IMGn.WBM.HL` bits 23:0, RW, SH, reset 0x3F_8000 (spec 07_colour_science) -/
@[simp] def WBM_HL_WHITE (n : Nat) : Fld := ⟨2 + n, 3046, 0, 24, 4161536⟩

/-- `IMGn.LUT.CFG` bits 31, RW, SH, reset 0x0 (spec 07_colour_science) -/
@[simp] def LUT_CFG_EN (n : Nat) : Fld := ⟨2 + n, 3047, 0, 1, 0⟩

/-- `IMGn.LUT.CFG` bits 27:26, RW, SH, reset 0x1 (spec 07_colour_science) -/
@[simp] def LUT_CFG_SHAPER (n : Nat) : Fld := ⟨2 + n, 3048, 0, 2, 1⟩

/-- `IMGn.LUT.CFG` bits 3:2, RW, SH, reset 0x0 (spec 07_colour_science) -/
@[simp] def LUT_CFG_FALLBACK (n : Nat) : Fld := ⟨2 + n, 3049, 0, 2, 0⟩

/-- `IMGn.LUT.CFG` bits 1:0, RW, SH, reset 0x0 (spec 07_colour_science) -/
@[simp] def LUT_CFG_SLOT (n : Nat) : Fld := ⟨2 + n, 3050, 0, 2, 0⟩

/-- `IMGn.LUT.SCALE` bits 23:0, RW, SH, reset 0x3F_8000, but 0x3E_3852 for HREF (spec 07_colour_science) -/
@[simp] def LUT_SCALE_V (n : Nat) : Fld := ⟨2 + n, 3051, 0, 24, 0x3F8000⟩

/-- `IMGn.LUT.SCALE` bits 23:0, RW, SH, reset 0x3F_8000, but 0x3E_3852 for HREF (spec 07_colour_science) -/
@[simp] def FMT_SCALE_V (n : Nat) : Fld := ⟨2 + n, 3052, 0, 24, 0x3F8000⟩

/-- `IMGn.LUT.SCALE` bits 23:0, RW, SH, reset 0x3F_8000, but 0x3E_3852 for HREF (spec 07_colour_science) -/
@[simp] def STS_HREF_V (n : Nat) : Fld := ⟨2 + n, 3053, 0, 24, 0x3E3852⟩

/-- `IMGn.LUT.SCALE` bits 23:0, RW, SH, reset 0x3F_8000, but 0x3E_3852 for HREF (spec 07_colour_science) -/
@[simp] def STS_CLIP_V (n : Nat) : Fld := ⟨2 + n, 3054, 0, 24, 0x3F8000⟩

/-- `IMGn.LUT.STAT` bits 31, STK, reset 0x0 (spec 07_colour_science) -/
@[simp] def LUT_STAT_FELL_BACK (n : Nat) : Fld := ⟨2 + n, 5112, 0, 1, 0⟩

/-- `IMGn.LUT.STAT` bits 30, STK, reset 0x0 (spec 07_colour_science) -/
@[simp] def LUT_STAT_POISON (n : Nat) : Fld := ⟨2 + n, 5113, 0, 1, 0⟩

/-- `IMGn.LUT.STAT` bits 15:0, RO, reset 0x0000 (spec 07_colour_science) -/
@[simp] def LUT_STAT_POISON_CNT (n : Nat) : Fld := ⟨2 + n, 111, 0, 16, 0⟩

/-- `IMGn.FMT.CFG` bits 31:28, RW, SH, reset 0x0 (spec 07_colour_science) -/
@[simp] def FMT_CFG_FORMAT (n : Nat) : Fld := ⟨2 + n, 3055, 0, 4, 0⟩

/-- `IMGn.FMT.CFG` bits 26:24, RW, SH, reset 0x1 (spec 07_colour_science) -/
@[simp] def FMT_CFG_OETF (n : Nat) : Fld := ⟨2 + n, 3056, 0, 3, 1⟩

/-- `IMGn.FMT.CFG` bits 23, RW, SH, reset 0x0 (spec 07_colour_science) -/
@[simp] def FMT_CFG_RANGE (n : Nat) : Fld := ⟨2 + n, 3057, 0, 1, 0⟩

/-- `IMGn.FMT.COLOUR` bits 23:16, RW, SH, reset 0x01 (spec 07_colour_science) -/
@[simp] def FMT_COLOUR_PRIM (n : Nat) : Fld := ⟨2 + n, 3058, 0, 8, 1⟩

/-- `IMGn.FMT.COLOUR` bits 15:8, RW, SH, reset 0x01 (spec 07_colour_science) -/
@[simp] def FMT_COLOUR_TRC (n : Nat) : Fld := ⟨2 + n, 3059, 0, 8, 1⟩

/-- `IMGn.FMT.COLOUR` bits 7:0, RW, SH, reset 0x01 (spec 07_colour_science) -/
@[simp] def FMT_COLOUR_MATRIX (n : Nat) : Fld := ⟨2 + n, 3060, 0, 8, 1⟩

/-- `IMGn.STS.HSEL` bits 3:0, RW, SH, reset 0x7 for each h (spec 07_colour_science) -/
@[simp] def STS_HSEL (n : Nat) (h : Nat) : Fld := ⟨2 + n, 3061, h, 4, 7⟩

/-! ### The motion rod -/

/-- `MOT.QLD.CFG` bits 31, RW, SH, reset 0x0 (spec 06_raw_front_end) -/
@[simp] def QLD_CFG_GAIN_SEL : Fld := ⟨7, 3000, 0, 1, 0⟩

/-- `MOT.QLD.CFG` bits 15:0, RW, SH, reset 0x3FFF (spec 06_raw_front_end) -/
@[simp] def QLD_CFG_SCALE : Fld := ⟨7, 3001, 0, 16, 16383⟩

/-- `MOT.QLD.BLACK` bits 15:0, RW, SH, reset 0x0100 (spec 06_raw_front_end) -/
@[simp] def QLD_BLACK : Fld := ⟨7, 3002, 0, 16, 256⟩

/-- `MOT.QLD.CLASS_W` bits 4:0, RW, SH, reset 0x08 for c = 0 to 2, 0x00 otherwise (spec 06_raw_front_end) -/
@[simp] def QLD_CLASS_W (c : Nat) : Fld := ⟨7, 3003, c, 5, 8⟩

/-- `MOT.SRCH.CFG` bits 31, RW, SH, reset 0x1 (spec 06_raw_front_end) -/
@[simp] def SRCH_CFG_TEMPORAL : Fld := ⟨7, 3004, 0, 1, 1⟩

/-- `MOT.SRCH.CFG` bits 15:8, RW, SH, reset 0x04 (spec 06_raw_front_end) -/
@[simp] def SRCH_CFG_LAMBDA : Fld := ⟨7, 3005, 0, 8, 4⟩

/-- `MOT.SRCH.CFG` bits 4:0, RW, SH, reset 0x10 (spec 06_raw_front_end) -/
@[simp] def SRCH_CFG_RANGE3 : Fld := ⟨7, 3006, 0, 5, 16⟩

/-- `MOT.VST.RING` bits 30:28, RW, SH, reset 0x3 (spec 06_raw_front_end) -/
@[simp] def VST_RING_DEPTH : Fld := ⟨7, 3007, 0, 3, 3⟩

/-- `MOT.VST.RING` bits 9:0, RW, SH, reset 0x000 (spec 06_raw_front_end) -/
@[simp] def VST_RING_GRAN : Fld := ⟨7, 3008, 0, 10, 0⟩

/-- `MOT.VST.STAT` bits 31, STK, reset 0x0 (spec 06_raw_front_end) -/
@[simp] def VST_STAT_VEC_DROP : Fld := ⟨7, 5100, 0, 1, 0⟩

/-- `MOT.VST.STAT` bits 15:0, RO, reset 0x0000 (spec 06_raw_front_end) -/
@[simp] def VST_STAT_DROP_CNT : Fld := ⟨7, 100, 0, 16, 0⟩

/-- `MOT.VST.LAST` bits 31:0, RO, reset 0x0000_0000 (spec 06_raw_front_end) -/
@[simp] def VST_LAST_TAG : Fld := ⟨7, 101, 0, 32, 0⟩

/-! ### The coding rods (r = 0, 1) -/

/-- `CODr.SCHED.TABLE` bits 25:16, RW, SH, reset 0x000 (spec 09_hevc_encoding) -/
@[simp] def SCHED_TABLE_FORCE_GRAN (r : Nat) : Fld := ⟨8 + r, 3017, 0, 10, 0⟩

/-- `CODr.SCHED.TABLE` bits 9:0, RW, SH, reset 0x000 (spec 09_hevc_encoding) -/
@[simp] def SCHED_TABLE_STAGED_GRAN (r : Nat) : Fld := ⟨8 + r, 3018, 0, 10, 0⟩

/-- `CODr.SCHED.CMD` bits 31, W1S, reset 0x0 (spec 09_hevc_encoding) -/
@[simp] def SCHED_CMD_GO (r : Nat) : Fld := ⟨8 + r, 100, 0, 1, 0⟩

/-- `CODr.SCHED.CMD` bits 30:28, WO, reset 0x0 (spec 09_hevc_encoding) -/
@[simp] def SCHED_CMD_OP (r : Nat) : Fld := ⟨8 + r, 101, 0, 3, 0⟩

/-- `CODr.SCHED.CMD` bits 11:0, WO, reset 0x000 (spec 09_hevc_encoding) -/
@[simp] def SCHED_CMD_STREAM (r : Nat) : Fld := ⟨8 + r, 102, 0, 12, 0⟩

/-- `CODr.SCHED.BAD` bits 31, STK, reset 0x0 (spec 09_hevc_encoding) -/
@[simp] def SCHED_BAD_BAD (r : Nat) : Fld := ⟨8 + r, 5100, 0, 1, 0⟩

/-- `CODr.SCHED.BAD` bits 30, STK, reset 0x0 (spec 09_hevc_encoding) -/
@[simp] def SCHED_BAD_CMD_IGN (r : Nat) : Fld := ⟨8 + r, 5101, 0, 1, 0⟩

/-- `CODr.SCHED.BAD` bits 23:16, RO, reset 0x00 (spec 09_hevc_encoding) -/
@[simp] def SCHED_BAD_RULE (r : Nat) : Fld := ⟨8 + r, 103, 0, 8, 0⟩

/-- `CODr.SCHED.BAD` bits 11:0, RO, reset 0x000 (spec 09_hevc_encoding) -/
@[simp] def SCHED_BAD_STREAM (r : Nat) : Fld := ⟨8 + r, 104, 0, 12, 0⟩

/-- `CODr.SCHED.VEC` bits 15:0, RW, SH, reset 0x07D0 (spec 09_hevc_encoding) -/
@[simp] def SCHED_VEC_VEC_TO (r : Nat) : Fld := ⟨8 + r, 3019, 0, 16, 2000⟩

/-- `CODr.ENCk.CFG` bits 31, RW, SH, reset 0x1 (spec 09_hevc_encoding) -/
@[simp] def ENC_CFG_EN (r : Nat) (k : Nat) : Fld := ⟨8 + r, 3020, k, 1, 1⟩

/-- `CODr.ENCk.CFG` bits 21:16, RW, SH, reset 0x10 (spec 09_hevc_encoding) -/
@[simp] def ENC_CFG_SRANGE (r : Nat) (k : Nat) : Fld := ⟨8 + r, 3021, k, 6, 16⟩

/-- `CODr.ENCk.STAT` bits 31:30, RO, reset 0x0 (spec 09_hevc_encoding) -/
@[simp] def ENC_STAT_STATE (r : Nat) (k : Nat) : Fld := ⟨8 + r, 105, k, 2, 0⟩

/-- `CODr.ENCk.STAT` bits 29, RO, reset 0x0 (spec 09_hevc_encoding) -/
@[simp] def ENC_STAT_EFFORT (r : Nat) (k : Nat) : Fld := ⟨8 + r, 106, k, 1, 0⟩

/-- `CODr.ENCk.STAT` bits 11:0, RO, reset 0x000 (spec 09_hevc_encoding) -/
@[simp] def ENC_STAT_STREAM (r : Nat) (k : Nat) : Fld := ⟨8 + r, 107, k, 12, 0⟩

/-- `CODr.ENCk.EVT` bits 31, STK, reset 0x0 (spec 09_hevc_encoding) -/
@[simp] def ENC_EVT_EXH (r : Nat) (k : Nat) : Fld := ⟨8 + r, 5102, k, 1, 0⟩

/-- `CODr.ENCk.EVT` bits 30, STK, reset 0x0 (spec 09_hevc_encoding) -/
@[simp] def ENC_EVT_VEC_MISS (r : Nat) (k : Nat) : Fld := ⟨8 + r, 5103, k, 1, 0⟩

/-- `CODr.ENCk.EVT` bits 29, STK, reset 0x0 (spec 09_hevc_encoding) -/
@[simp] def ENC_EVT_LATE (r : Nat) (k : Nat) : Fld := ⟨8 + r, 5104, k, 1, 0⟩

/-- `CODr.ENCk.EVT` bits 28, STK, reset 0x0 (spec 09_hevc_encoding) -/
@[simp] def ENC_EVT_CUT (r : Nat) (k : Nat) : Fld := ⟨8 + r, 5105, k, 1, 0⟩

/-- `CODr.ENCk.EVT` bits 27, STK, reset 0x0 (spec 09_hevc_encoding) -/
@[simp] def ENC_EVT_FLAT (r : Nat) (k : Nat) : Fld := ⟨8 + r, 5106, k, 1, 0⟩

/-- `CODr.ENCk.EVT` bits 23:16, RO, reset 0x00 (spec 09_hevc_encoding) -/
@[simp] def ENC_EVT_EXH_CNT (r : Nat) (k : Nat) : Fld := ⟨8 + r, 108, k, 8, 0⟩

/-- `CODr.ENCk.EVT` bits 15:8, RO, reset 0x00 (spec 09_hevc_encoding) -/
@[simp] def ENC_EVT_MISS_CNT (r : Nat) (k : Nat) : Fld := ⟨8 + r, 109, k, 8, 0⟩

/-- `CODr.ENCk.EVT` bits 7:0, RO, reset 0x00 (spec 09_hevc_encoding) -/
@[simp] def ENC_EVT_REP_CNT (r : Nat) (k : Nat) : Fld := ⟨8 + r, 110, k, 8, 0⟩

/-- `CODr.ENCk.EXH` bits 27:16, RO, reset 0x000 (spec 09_hevc_encoding) -/
@[simp] def ENC_EXH_STREAM (r : Nat) (k : Nat) : Fld := ⟨8 + r, 111, k, 12, 0⟩

/-- `CODr.ENCk.EXH` bits 15, RO, reset 0x0 (spec 09_hevc_encoding) -/
@[simp] def ENC_EXH_SKIP (r : Nat) (k : Nat) : Fld := ⟨8 + r, 112, k, 1, 0⟩

/-- `CODr.ENCk.EXH` bits 6:0, RO, reset 0x00 (spec 09_hevc_encoding) -/
@[simp] def ENC_EXH_ROWS (r : Nat) (k : Nat) : Fld := ⟨8 + r, 113, k, 7, 0⟩

/-- `CODr.ENCk.LOAD` bits 9:0, RO, reset 0x000 (spec 09_hevc_encoding) -/
@[simp] def ENC_LOAD_PERMILLE (r : Nat) (k : Nat) : Fld := ⟨8 + r, 114, k, 10, 0⟩

/-- `CODr.DEC.CFG` bits 31, RW, SH, reset 0x0 (spec 10_hevc_decoding) -/
@[simp] def DEC_CFG_EN (r : Nat) : Fld := ⟨8 + r, 3000, 0, 1, 0⟩

/-- `CODr.DEC.CFG` bits 30, RW, SH, reset 0x0 (spec 10_hevc_decoding) -/
@[simp] def DEC_CFG_START (r : Nat) : Fld := ⟨8 + r, 3001, 0, 1, 0⟩

/-- `CODr.DEC.CFG` bits 29, RW, SH, reset 0x0 (spec 10_hevc_decoding) -/
@[simp] def DEC_CFG_GEN (r : Nat) : Fld := ⟨8 + r, 3002, 0, 1, 0⟩

/-- `CODr.DEC.CFG` bits 28, RW, SH, reset 0x0 (spec 10_hevc_decoding) -/
@[simp] def DEC_CFG_HASH (r : Nat) : Fld := ⟨8 + r, 3003, 0, 1, 0⟩

/-- `CODr.DEC.CFG` bits 23:16, RW, SH, reset 0x0C (spec 10_hevc_decoding) -/
@[simp] def DEC_CFG_WD_MARGIN (r : Nat) : Fld := ⟨8 + r, 3004, 0, 8, 12⟩

/-- `CODr.DEC.CFG` bits 15:0, RW, SH, reset 0x0000 (spec 10_hevc_decoding) -/
@[simp] def DEC_CFG_READERS (r : Nat) : Fld := ⟨8 + r, 3005, 0, 16, 0⟩

/-- `CODr.DEC.BUF` bits 31:24, RW, SH, reset 0x00 (spec 10_hevc_decoding) -/
@[simp] def DEC_BUF_REGION (r : Nat) : Fld := ⟨8 + r, 3006, 0, 8, 0⟩

/-- `CODr.DEC.BUF` bits 23:19, RW, SH, reset 0x08 (spec 10_hevc_decoding) -/
@[simp] def DEC_BUF_NBUF (r : Nat) : Fld := ⟨8 + r, 3007, 0, 5, 8⟩

/-- `CODr.DEC.BUF` bits 11:0, RW, SH, reset 0x000 (spec 10_hevc_decoding) -/
@[simp] def DEC_BUF_BUF_MIB (r : Nat) : Fld := ⟨8 + r, 3008, 0, 12, 0⟩

/-- `CODr.DEC.BUF_BASE` bits 17:0, RW, SH, reset 0x0_0000 (spec 10_hevc_decoding) -/
@[simp] def DEC_BUF_BASE_MIB (r : Nat) : Fld := ⟨8 + r, 3009, 0, 18, 0⟩

/-- `CODr.DEC.IN` bits 31:24, RW, SH, reset 0x00 (spec 10_hevc_decoding) -/
@[simp] def DEC_IN_REGION (r : Nat) : Fld := ⟨8 + r, 3010, 0, 8, 0⟩

/-- `CODr.DEC.IN` bits 18:0, RW, SH, reset 0x0_0100 (spec 10_hevc_decoding) -/
@[simp] def DEC_IN_SIZE (r : Nat) : Fld := ⟨8 + r, 3011, 0, 19, 256⟩

/-- `CODr.DEC.IN_BASE` bits 31:0, RW, SH, reset 0x0000_0000 (spec 10_hevc_decoding) -/
@[simp] def DEC_IN_BASE_BASE (r : Nat) : Fld := ⟨8 + r, 3012, 0, 32, 0⟩

/-- `CODr.DEC.IN_WR and CODr.DEC.IN_RD` bits 29:0, RW, reset 0x0000_0000 (spec 10_hevc_decoding) -/
@[simp] def DEC_IN_WR_OFF (r : Nat) : Fld := ⟨8 + r, 115, 0, 30, 0⟩

/-- `CODr.DEC.IN_WR and CODr.DEC.IN_RD` bits 29:0, RO, reset 0x0000_0000 (spec 10_hevc_decoding) -/
@[simp] def DEC_IN_RD_OFF (r : Nat) : Fld := ⟨8 + r, 116, 0, 30, 0⟩

/-- `CODr.DEC.OUT` bits 20:16, RW, SH, reset 0x08 (spec 10_hevc_decoding) -/
@[simp] def DEC_OUT_DEPTH (r : Nat) : Fld := ⟨8 + r, 3013, 0, 5, 8⟩

/-- `CODr.DEC.OUT` bits 9:0, RW, SH, reset 0x000 (spec 10_hevc_decoding) -/
@[simp] def DEC_OUT_GRAN (r : Nat) : Fld := ⟨8 + r, 3014, 0, 10, 0⟩

/-- `CODr.DEC.FENCE` bits 25:6, RW, SH, reset 0x0_0000 (spec 10_hevc_decoding) -/
@[simp] def DEC_FENCE_WORD (r : Nat) : Fld := ⟨8 + r, 3015, 0, 20, 0⟩

/-- `CODr.DEC.FENCE` bits 0, RW, SH, reset 0x0 (spec 10_hevc_decoding) -/
@[simp] def DEC_FENCE_EN (r : Nat) : Fld := ⟨8 + r, 3016, 0, 1, 0⟩

/-- `CODr.DEC.STAT` bits 31:30, RO, reset 0x0 (spec 10_hevc_decoding) -/
@[simp] def DEC_STAT_STATE (r : Nat) : Fld := ⟨8 + r, 117, 0, 2, 0⟩

/-- `CODr.DEC.STAT` bits 29, RO, reset 0x0 (spec 10_hevc_decoding) -/
@[simp] def DEC_STAT_TAINT (r : Nat) : Fld := ⟨8 + r, 118, 0, 1, 0⟩

/-- `CODr.DEC.STAT` bits 28, RO, reset 0x0 (spec 10_hevc_decoding) -/
@[simp] def DEC_STAT_PENDING (r : Nat) : Fld := ⟨8 + r, 119, 0, 1, 0⟩

/-- `CODr.DEC.STAT` bits 15:0, RO, reset 0x0000 (spec 10_hevc_decoding) -/
@[simp] def DEC_STAT_TARGET (r : Nat) : Fld := ⟨8 + r, 120, 0, 16, 0⟩

/-- `CODr.DEC.EVT` bits 31, STK, reset 0x0 (spec 10_hevc_decoding) -/
@[simp] def DEC_EVT_REF_GEN (r : Nat) : Fld := ⟨8 + r, 5107, 0, 1, 0⟩

/-- `CODr.DEC.EVT` bits 30, STK, reset 0x0 (spec 10_hevc_decoding) -/
@[simp] def DEC_EVT_SYNTAX (r : Nat) : Fld := ⟨8 + r, 5108, 0, 1, 0⟩

/-- `CODr.DEC.EVT` bits 29, STK, reset 0x0 (spec 10_hevc_decoding) -/
@[simp] def DEC_EVT_WD (r : Nat) : Fld := ⟨8 + r, 5109, 0, 1, 0⟩

/-- `CODr.DEC.EVT` bits 28, STK, reset 0x0 (spec 10_hevc_decoding) -/
@[simp] def DEC_EVT_OOB (r : Nat) : Fld := ⟨8 + r, 5110, 0, 1, 0⟩

/-- `CODr.DEC.EVT` bits 27, STK, reset 0x0 (spec 10_hevc_decoding) -/
@[simp] def DEC_EVT_UNSUP (r : Nat) : Fld := ⟨8 + r, 5111, 0, 1, 0⟩

/-- `CODr.DEC.EVT` bits 26, STK, reset 0x0 (spec 10_hevc_decoding) -/
@[simp] def DEC_EVT_NOBUF (r : Nat) : Fld := ⟨8 + r, 5112, 0, 1, 0⟩

/-- `CODr.DEC.EVT` bits 25, STK, reset 0x0 (spec 10_hevc_decoding) -/
@[simp] def DEC_EVT_IN_BAD (r : Nat) : Fld := ⟨8 + r, 5113, 0, 1, 0⟩

/-- `CODr.DEC.EVT` bits 24, STK, reset 0x0 (spec 10_hevc_decoding) -/
@[simp] def DEC_EVT_HASH_MM (r : Nat) : Fld := ⟨8 + r, 5114, 0, 1, 0⟩

/-- `CODr.DEC.EVT` bits 15:8, RO, reset 0x00 (spec 10_hevc_decoding) -/
@[simp] def DEC_EVT_GEN_CNT (r : Nat) : Fld := ⟨8 + r, 121, 0, 8, 0⟩

/-- `CODr.DEC.EVT` bits 7:0, RO, reset 0x00 (spec 10_hevc_decoding) -/
@[simp] def DEC_EVT_ERR_CNT (r : Nat) : Fld := ⟨8 + r, 122, 0, 8, 0⟩

/-- `CODr.DEC.OOB_CNT` bits 31:0, RO, reset 0x0000_0000 (spec 10_hevc_decoding) -/
@[simp] def DEC_OOB_CNT_CNT (r : Nat) : Fld := ⟨8 + r, 123, 0, 32, 0⟩

/-! ### The recorder rod -/

/-- `RRC.REC.CFG` bits 31:30, RW, SH, reset 0x0 (spec 08_raw_recording) -/
@[simp] def REC_CFG_SRC : Fld := ⟨10, 3000, 0, 2, 0⟩

/-- `RRC.REC.CFG` bits 29:28, RW, SH, reset 0x0 (spec 08_raw_recording) -/
@[simp] def REC_CFG_MODE : Fld := ⟨10, 3001, 0, 2, 0⟩

/-- `RRC.REC.CFG` bits 27:20, RW, SH, reset 0x01 (spec 08_raw_recording) -/
@[simp] def REC_CFG_E_BOUND : Fld := ⟨10, 3002, 0, 8, 1⟩

/-- `RRC.REC.CFG` bits 19:12, RW, SH, reset 0x10 (spec 08_raw_recording) -/
@[simp] def REC_CFG_E_MAX : Fld := ⟨10, 3003, 0, 8, 16⟩

/-- `RRC.REC.CFG` bits 11:0, RW, SH, reset 0x010 (spec 08_raw_recording) -/
@[simp] def REC_CFG_T1 : Fld := ⟨10, 3004, 0, 12, 16⟩

/-- `RRC.REC.BUDGET` bits 20:0, RW, SH, reset 0x00_1F40 (spec 08_raw_recording) -/
@[simp] def REC_BUDGET_KIB : Fld := ⟨10, 3005, 0, 21, 8000⟩

/-- `RRC.REC.RING` bits 31:24, RW, SH, reset 0x00 (spec 08_raw_recording) -/
@[simp] def REC_RING_REGION : Fld := ⟨10, 3006, 0, 8, 0⟩

/-- `RRC.REC.RING` bits 7:0, RW, SH, reset 0x00 (spec 08_raw_recording) -/
@[simp] def REC_RING_PREROLL : Fld := ⟨10, 3007, 0, 8, 0⟩

/-- `RRC.REC.MOSAICp` bits 11:8, RW, SH, reset 0x2 (spec 08_raw_recording) -/
@[simp] def REC_MOSAIC_PX (p : Nat) : Fld := ⟨10, 3008, p, 4, 2⟩

/-- `RRC.REC.MOSAICp` bits 3:0, RW, SH, reset 0x2 (spec 08_raw_recording) -/
@[simp] def REC_MOSAIC_PY (p : Nat) : Fld := ⟨10, 3009, p, 4, 2⟩

/-- `RRC.REC.MAPp_j` bits 3:0, RW, SH, reset 0x0000_0010 for j = 0, 0x0000_0021 for j = 1, 0x0 otherwise (spec 08_raw_recording) -/
@[simp] def REC_MAP_CLS (p : Nat) (j : Nat) (i : Nat) : Fld := ⟨10, 3010, (p * 8 + j) * 8 + i, 4, bayer j i⟩

/-- `RRC.REC.VOL` bits 3:2, RW, reset 0x1 (spec 08_raw_recording) -/
@[simp] def REC_VOL_CHUNK : Fld := ⟨10, 100, 0, 2, 1⟩

/-- `RRC.REC.VOL` bits 1:0, RW, reset 0x0 (spec 08_raw_recording) -/
@[simp] def REC_VOL_M : Fld := ⟨10, 101, 0, 2, 0⟩

/-- `RRC.REC.MEMBERm` bits 31:30, RW, reset 0x0 (spec 08_raw_recording) -/
@[simp] def REC_MEMBER_DRIVE (m : Nat) : Fld := ⟨10, 102, m, 2, 0⟩

/-- `RRC.REC.MEMBERm` bits 29:0, RW, reset 0x0000_0001 (spec 08_raw_recording) -/
@[simp] def REC_MEMBER_NSID (m : Nat) : Fld := ⟨10, 103, m, 30, 1⟩

/-- `RRC.REC.CMD` bits 31, W1S, reset 0x0 (spec 08_raw_recording) -/
@[simp] def REC_CMD_GO : Fld := ⟨10, 104, 0, 1, 0⟩

/-- `RRC.REC.CMD` bits 2:0, WO, reset 0x0 (spec 08_raw_recording) -/
@[simp] def REC_CMD_CODE : Fld := ⟨10, 105, 0, 3, 0⟩

/-- `RRC.REC.STAT` bits 31:30, RO, reset 0x0 (spec 08_raw_recording) -/
@[simp] def REC_STAT_STATE : Fld := ⟨10, 106, 0, 2, 0⟩

/-- `RRC.REC.STAT` bits 29, RO, reset 0x0 (spec 08_raw_recording) -/
@[simp] def REC_STAT_BUSY : Fld := ⟨10, 107, 0, 1, 0⟩

/-- `RRC.REC.STAT` bits 23:20, RO, reset 0x0 (spec 08_raw_recording) -/
@[simp] def REC_STAT_RESULT : Fld := ⟨10, 108, 0, 4, 0⟩

/-- `RRC.REC.STAT` bits 11:0, RO, reset 0x000 (spec 08_raw_recording) -/
@[simp] def REC_STAT_TAKE : Fld := ⟨10, 109, 0, 12, 0⟩

/-- `RRC.REC.EVT` bits 31, STK, reset 0x0 (spec 08_raw_recording) -/
@[simp] def REC_EVT_DROP : Fld := ⟨10, 5100, 0, 1, 0⟩

/-- `RRC.REC.EVT` bits 30, STK, reset 0x0 (spec 08_raw_recording) -/
@[simp] def REC_EVT_PREROLL_LOST : Fld := ⟨10, 5101, 0, 1, 0⟩

/-- `RRC.REC.EVT` bits 29, STK, reset 0x0 (spec 08_raw_recording) -/
@[simp] def REC_EVT_VOL_FULL : Fld := ⟨10, 5102, 0, 1, 0⟩

/-- `RRC.REC.EVT` bits 15:0, RO, reset 0x0000 (spec 08_raw_recording) -/
@[simp] def REC_EVT_DROP_CNT : Fld := ⟨10, 110, 0, 16, 0⟩

/-- `RRC.REC.LAST and RRC.REC.FLUSHED` bits 31:0, RO, reset 0x0000_0000 (spec 08_raw_recording) -/
@[simp] def REC_LAST_TAG : Fld := ⟨10, 111, 0, 32, 0⟩

/-- `RRC.REC.LAST and RRC.REC.FLUSHED` bits 31:0, RO, reset 0x0000_0000 (spec 08_raw_recording) -/
@[simp] def REC_FLUSHED_TAG : Fld := ⟨10, 112, 0, 32, 0⟩

/-- `RRC.RSCn.STAT` bits 31, STK, reset 0x0 (spec 08_raw_recording) -/
@[simp] def RSC_STAT_EXH (n : Nat) : Fld := ⟨10, 5103, n, 1, 0⟩

/-- `RRC.RSCn.STAT` bits 23:16, RO, reset 0x00 (spec 08_raw_recording) -/
@[simp] def RSC_STAT_E_END (n : Nat) : Fld := ⟨10, 113, n, 8, 0⟩

/-- `RRC.RSCn.STAT` bits 15:0, RO, reset 0x0000 (spec 08_raw_recording) -/
@[simp] def RSC_STAT_ZR_ROWS (n : Nat) : Fld := ⟨10, 114, n, 16, 0⟩

/-- `RRC.RSCn.BYTES` bits 31:0, RO, reset 0x0000_0000 (spec 08_raw_recording) -/
@[simp] def RSC_BYTES_LEN (n : Nat) : Fld := ⟨10, 115, n, 32, 0⟩

/-- `RRC.NVQd.CFG` bits 31, RW, reset 0x0 (spec 08_raw_recording) -/
@[simp] def NVQ_CFG_EN (d : Nat) : Fld := ⟨10, 116, d, 1, 0⟩

/-- `RRC.NVQd.CFG` bits 30:28, RW, reset 0x3 (spec 08_raw_recording) -/
@[simp] def NVQ_CFG_QUEUES (d : Nat) : Fld := ⟨10, 117, d, 3, 3⟩

/-- `RRC.NVQd.CFG` bits 27:24, RW, reset 0x8 (spec 08_raw_recording) -/
@[simp] def NVQ_CFG_QDEPTH (d : Nat) : Fld := ⟨10, 118, d, 4, 8⟩

/-- `RRC.NVQd.CFG` bits 13:0, RW, reset 0x01F4 (spec 08_raw_recording) -/
@[simp] def NVQ_CFG_CMD_TO (d : Nat) : Fld := ⟨10, 119, d, 14, 500⟩

/-- `RRC.NVQd.STAT` bits 31:30, RO, reset 0x0 (spec 08_raw_recording) -/
@[simp] def NVQ_STAT_STATE (d : Nat) : Fld := ⟨10, 120, d, 2, 0⟩

/-- `RRC.NVQd.STAT` bits 29, STK, reset 0x0 (spec 08_raw_recording) -/
@[simp] def NVQ_STAT_FAULT_EV (d : Nat) : Fld := ⟨10, 5104, d, 1, 0⟩

/-- `RRC.NVQd.STAT` bits 28, STK, reset 0x0 (spec 08_raw_recording) -/
@[simp] def NVQ_STAT_TIMEOUT_EV (d : Nat) : Fld := ⟨10, 5105, d, 1, 0⟩

/-- `RRC.NVQd.STAT` bits 15:8, RO, reset 0x00 (spec 08_raw_recording) -/
@[simp] def NVQ_STAT_TO_CNT (d : Nat) : Fld := ⟨10, 121, d, 8, 0⟩

/-- `RRC.NVQd.STAT` bits 7:0, RO, reset 0x00 (spec 08_raw_recording) -/
@[simp] def NVQ_STAT_RETRY_CNT (d : Nat) : Fld := ⟨10, 122, d, 8, 0⟩

/-! ### The output rod -/

/-- `OUT.CMPn.CFG` bits 31, RW, SH, reset 0x0 (spec 11_composition) -/
@[simp] def CMP_CFG_RANGE (n : Nat) : Fld := ⟨11, 3011, n, 1, 0⟩

/-- `OUT.CMPn.CFG` bits 25:24, RW, SH, reset 0x1 (spec 11_composition) -/
@[simp] def CMP_CFG_MATRIX (n : Nat) : Fld := ⟨11, 3012, n, 2, 1⟩

/-- `OUT.CMPn.CFG` bits 23:16, RW, SH, reset 0x01 (spec 11_composition) -/
@[simp] def CMP_CFG_PRIM (n : Nat) : Fld := ⟨11, 3013, n, 8, 1⟩

/-- `OUT.CMPn.CFG` bits 15:8, RW, SH, reset 0x01 (spec 11_composition) -/
@[simp] def CMP_CFG_TRC (n : Nat) : Fld := ⟨11, 3014, n, 8, 1⟩

/-- `OUT.CMPn.BG` bits 29:0, RW, SH, reset 0x0000_0000 (spec 11_composition) -/
@[simp] def CMP_BG_RGB (n : Nat) : Fld := ⟨11, 3015, n, 30, 0⟩

/-- `OUT.CMPn.STAT` bits 31, STK, reset 0x0 (spec 11_composition) -/
@[simp] def CMP_STAT_FENCE_DEFER (n : Nat) : Fld := ⟨11, 5100, n, 1, 0⟩

/-- `OUT.CMPn.STAT` bits 30, STK, reset 0x0 (spec 11_composition) -/
@[simp] def CMP_STAT_TAPS_REDUCED (n : Nat) : Fld := ⟨11, 5101, n, 1, 0⟩

/-- `OUT.CMPn.STAT` bits 29, STK, reset 0x0 (spec 11_composition) -/
@[simp] def CMP_STAT_LAYER_CROPPED (n : Nat) : Fld := ⟨11, 5102, n, 1, 0⟩

/-- `OUT.CMPn.STAT` bits 28, STK, reset 0x0 (spec 11_composition) -/
@[simp] def CMP_STAT_COLOUR_MM (n : Nat) : Fld := ⟨11, 5103, n, 1, 0⟩

/-- `OUT.CMPn.STAT` bits 27, STK, reset 0x0 (spec 11_composition) -/
@[simp] def CMP_STAT_HOLD (n : Nat) : Fld := ⟨11, 5104, n, 1, 0⟩

/-- `OUT.CMPn.STAT` bits 26, STK, reset 0x0 (spec 11_composition) -/
@[simp] def CMP_STAT_PIC_LATE (n : Nat) : Fld := ⟨11, 5105, n, 1, 0⟩

/-- `OUT.CMPn.STAT` bits 25, STK, reset 0x0 (spec 11_composition) -/
@[simp] def CMP_STAT_CANVAS_SKIP (n : Nat) : Fld := ⟨11, 5106, n, 1, 0⟩

/-- `OUT.CMPn.STAT` bits 24, STK, reset 0x0 (spec 11_composition) -/
@[simp] def CMP_STAT_FENCE_ERR (n : Nat) : Fld := ⟨11, 5107, n, 1, 0⟩

/-- `OUT.CMPn.STAT` bits 15:8, RO, reset 0x00 (spec 11_composition) -/
@[simp] def CMP_STAT_DEFER_CNT (n : Nat) : Fld := ⟨11, 100, n, 8, 0⟩

/-- `OUT.CMPn.STAT` bits 7:0, RO, reset 0x00 (spec 11_composition) -/
@[simp] def CMP_STAT_GROUPS (n : Nat) : Fld := ⟨11, 101, n, 8, 0⟩

/-- `OUT.CMPn.FRAME and OUT.CMPn.CTAGS` bits 31:0, RO, reset 0x0000_0000 (spec 11_composition) -/
@[simp] def CMP_FRAME_TAG (n : Nat) : Fld := ⟨11, 102, n, 32, 0⟩

/-- `OUT.CMPn.FRAME and OUT.CMPn.CTAGS` bits 15:0, RO, reset 0x0000_0000 (spec 11_composition) -/
@[simp] def CMP_CTAGS_V (n : Nat) : Fld := ⟨11, 103, n, 16, 0⟩

/-- `OUT.CMPn.SCLj` bits 31:28, RO, reset 0x0 (spec 11_composition) -/
@[simp] def CMP_SCL_TAPS (n : Nat) (j : Nat) : Fld := ⟨11, 104, n * 4 + j, 4, 0⟩

/-- `OUT.CMPn.SCLj` bits 15:0, RO, reset 0x0000 (spec 11_composition) -/
@[simp] def CMP_SCL_WIDTH (n : Nat) (j : Nat) : Fld := ⟨11, 105, n * 4 + j, 16, 0⟩

/-- `OUT.CMPn.LAYERj.CTL` bits 31, RW, SH, reset 0x0 (spec 11_composition) -/
@[simp] def LAYER_CTL_EN (n : Nat) (j : Nat) : Fld := ⟨11, 3036, n * 12 + j, 1, 0⟩

/-- `OUT.CMPn.LAYERj.CTL` bits 30:27, RW, SH, reset j (spec 11_composition) -/
@[simp] def LAYER_CTL_Z (n : Nat) (j : Nat) : Fld := ⟨11, 3037, n * 12 + j, 4, j⟩

/-- `OUT.CMPn.LAYERj.CTL` bits 26:24, RW, SH, reset 0x0 (spec 11_composition) -/
@[simp] def LAYER_CTL_GROUP (n : Nat) (j : Nat) : Fld := ⟨11, 3038, n * 12 + j, 3, 0⟩

/-- `OUT.CMPn.LAYERj.CTL` bits 23, RW, SH, reset 0x0 (spec 11_composition) -/
@[simp] def LAYER_CTL_CONC (n : Nat) (j : Nat) : Fld := ⟨11, 3039, n * 12 + j, 1, 0⟩

/-- `OUT.CMPn.LAYERj.CTL` bits 21:20, RW, SH, reset 0x0 (spec 11_composition) -/
@[simp] def LAYER_CTL_DELAY (n : Nat) (j : Nat) : Fld := ⟨11, 3040, n * 12 + j, 2, 0⟩

/-- `OUT.CMPn.LAYERj.CTL` bits 15:8, RW, SH, reset 0xFF (spec 11_composition) -/
@[simp] def LAYER_CTL_GALPHA (n : Nat) (j : Nat) : Fld := ⟨11, 3041, n * 12 + j, 8, 255⟩

/-- `OUT.CMPn.LAYERj.CTL` bits 7:0, RW, SH, reset 0x08 (spec 11_composition) -/
@[simp] def LAYER_CTL_HOLD_MAX (n : Nat) (j : Nat) : Fld := ⟨11, 3042, n * 12 + j, 8, 8⟩

/-- `OUT.CMPn.LAYERj.FMT` bits 31:29, RW, SH, reset 0x0 (spec 11_composition) -/
@[simp] def LAYER_FMT_KIND (n : Nat) (j : Nat) : Fld := ⟨11, 3043, n * 12 + j, 3, 0⟩

/-- `OUT.CMPn.LAYERj.FMT` bits 28, RW, SH, reset 0x0 (spec 11_composition) -/
@[simp] def LAYER_FMT_PREMULT (n : Nat) (j : Nat) : Fld := ⟨11, 3044, n * 12 + j, 1, 0⟩

/-- `OUT.CMPn.LAYERj.FMT` bits 27:24, RW, SH, reset 0x0 (spec 11_composition) -/
@[simp] def LAYER_FMT_FORMAT (n : Nat) (j : Nat) : Fld := ⟨11, 3045, n * 12 + j, 4, 0⟩

/-- `OUT.CMPn.LAYERj.FMT` bits 23:16, RW, SH, reset 0x00 (spec 11_composition) -/
@[simp] def LAYER_FMT_REGION (n : Nat) (j : Nat) : Fld := ⟨11, 3046, n * 12 + j, 8, 0⟩

/-- `OUT.CMPn.LAYERj.FMT` bits 15, RW, SH, reset 0x0 (spec 11_composition) -/
@[simp] def LAYER_FMT_RANGE (n : Nat) (j : Nat) : Fld := ⟨11, 3047, n * 12 + j, 1, 0⟩

/-- `OUT.CMPn.LAYERj.FMT` bits 14:13, RW, SH, reset 0x1 (spec 11_composition) -/
@[simp] def LAYER_FMT_MATRIX (n : Nat) (j : Nat) : Fld := ⟨11, 3048, n * 12 + j, 2, 1⟩

/-- `OUT.CMPn.LAYERj.SRC_XY, SRC_WH, DST_XY and DST_WH` bits 30:16, RW, SH, reset 0x0000 (spec 11_composition) -/
@[simp] def LAYER_SRC_XY_X (n : Nat) (j : Nat) : Fld := ⟨11, 3049, n * 12 + j, 15, 0⟩

/-- `OUT.CMPn.LAYERj.SRC_XY, SRC_WH, DST_XY and DST_WH` bits 13:0, RW, SH, reset 0x0000 (spec 11_composition) -/
@[simp] def LAYER_SRC_XY_Y (n : Nat) (j : Nat) : Fld := ⟨11, 3050, n * 12 + j, 14, 0⟩

/-- `OUT.CMPn.LAYERj.SRC_XY, SRC_WH, DST_XY and DST_WH` bits 30:16, RW, SH, reset 0x0000 (spec 11_composition) -/
@[simp] def LAYER_SRC_WH_W (n : Nat) (j : Nat) : Fld := ⟨11, 3051, n * 12 + j, 15, 0⟩

/-- `OUT.CMPn.LAYERj.SRC_XY, SRC_WH, DST_XY and DST_WH` bits 13:0, RW, SH, reset 0x0000 (spec 11_composition) -/
@[simp] def LAYER_SRC_WH_H (n : Nat) (j : Nat) : Fld := ⟨11, 3052, n * 12 + j, 14, 0⟩

/-- `OUT.CMPn.LAYERj.SRC_XY, SRC_WH, DST_XY and DST_WH` bits 30:16, RW, SH, reset 0x0000 (spec 11_composition) -/
@[simp] def LAYER_DST_XY_X (n : Nat) (j : Nat) : Fld := ⟨11, 3053, n * 12 + j, 15, 0⟩

/-- `OUT.CMPn.LAYERj.SRC_XY, SRC_WH, DST_XY and DST_WH` bits 13:0, RW, SH, reset 0x0000 (spec 11_composition) -/
@[simp] def LAYER_DST_XY_Y (n : Nat) (j : Nat) : Fld := ⟨11, 3054, n * 12 + j, 14, 0⟩

/-- `OUT.CMPn.LAYERj.SRC_XY, SRC_WH, DST_XY and DST_WH` bits 30:16, RW, SH, reset 0x0000 (spec 11_composition) -/
@[simp] def LAYER_DST_WH_W (n : Nat) (j : Nat) : Fld := ⟨11, 3055, n * 12 + j, 15, 0⟩

/-- `OUT.CMPn.LAYERj.SRC_XY, SRC_WH, DST_XY and DST_WH` bits 13:0, RW, SH, reset 0x0000 (spec 11_composition) -/
@[simp] def LAYER_DST_WH_H (n : Nat) (j : Nat) : Fld := ⟨11, 3056, n * 12 + j, 14, 0⟩

/-- `OUT.CMPn.LAYERj.BUF and OUT.CMPn.LAYERj.PITCH` bits 31:0, RW, SH, reset 0x0000_0000 (spec 11_composition) -/
@[simp] def LAYER_BUF_OFF64 (n : Nat) (j : Nat) : Fld := ⟨11, 3057, n * 12 + j, 32, 0⟩

/-- `OUT.CMPn.LAYERj.BUF and OUT.CMPn.LAYERj.PITCH` bits 31:16, RW, SH, reset 0x0000 (spec 11_composition) -/
@[simp] def LAYER_PITCH_P1_OFF (n : Nat) (j : Nat) : Fld := ⟨11, 3058, n * 12 + j, 16, 0⟩

/-- `OUT.CMPn.LAYERj.BUF and OUT.CMPn.LAYERj.PITCH` bits 15:0, RW, SH, reset 0x0000 (spec 11_composition) -/
@[simp] def LAYER_PITCH_PITCH (n : Nat) (j : Nat) : Fld := ⟨11, 3059, n * 12 + j, 16, 0⟩

/-- `OUT.CMPn.LAYERj.FADDRk and OUT.CMPn.LAYERj.FVALk` bits 31, RW, SH, reset 0x0 (spec 11_composition) -/
@[simp] def LAYER_FADDR_EN (n : Nat) (j : Nat) (k : Nat) : Fld := ⟨11, 3071, (n * 12 + j) * 4 + k, 1, 0⟩

/-- `OUT.CMPn.LAYERj.FADDRk and OUT.CMPn.LAYERj.FVALk` bits 19:0, RW, SH, reset 0x0_0000 (spec 11_composition) -/
@[simp] def LAYER_FADDR_WORD (n : Nat) (j : Nat) (k : Nat) : Fld := ⟨11, 3072, (n * 12 + j) * 4 + k, 20, 0⟩

/-- `OUT.CMPn.LAYERj.FADDRk and OUT.CMPn.LAYERj.FVALk` bits 31:0, RW, SH, reset 0x0000_0000 (spec 11_composition) -/
@[simp] def LAYER_FVAL_VAL (n : Nat) (j : Nat) (k : Nat) : Fld := ⟨11, 3073, (n * 12 + j) * 4 + k, 32, 0⟩

/-- `OUT.CMPn.GRDg.RECT_XY` bits 31, RW, SH, reset 0x0 (spec 11_composition) -/
@[simp] def GRD_XY_EN (n : Nat) (g : Nat) : Fld := ⟨11, 3060, n * 16 + g, 1, 0⟩

/-- `OUT.CMPn.GRDg.RECT_XY` bits 30, RW, SH, reset 0x0 (spec 11_composition) -/
@[simp] def GRD_XY_FB_EN (n : Nat) (g : Nat) : Fld := ⟨11, 3061, n * 16 + g, 1, 0⟩

/-- `OUT.CMPn.GRDg.RECT_XY` bits 29, RW, SH, reset 0x0 (spec 11_composition) -/
@[simp] def GRD_XY_BIND (n : Nat) (g : Nat) : Fld := ⟨11, 3062, n * 16 + g, 1, 0⟩

/-- `OUT.CMPn.GRDg.RECT_XY` bits 28:16, RW, SH, reset 0x0000 (spec 11_composition) -/
@[simp] def GRD_XY_Y (n : Nat) (g : Nat) : Fld := ⟨11, 3063, n * 16 + g, 13, 0⟩

/-- `OUT.CMPn.GRDg.RECT_XY` bits 14:0, RW, SH, reset 0x0000 (spec 11_composition) -/
@[simp] def GRD_XY_X (n : Nat) (g : Nat) : Fld := ⟨11, 3064, n * 16 + g, 15, 0⟩

/-- `OUT.CMPn.GRDg.RECT_WH` bits 31:29, RW, SH, reset 0x0 (spec 11_composition) -/
@[simp] def GRD_WH_GROUP (n : Nat) (g : Nat) : Fld := ⟨11, 3065, n * 16 + g, 3, 0⟩

/-- `OUT.CMPn.GRDg.RECT_WH` bits 28:15, RW, SH, reset 0x0010 (spec 11_composition) -/
@[simp] def GRD_WH_H (n : Nat) (g : Nat) : Fld := ⟨11, 3066, n * 16 + g, 14, 16⟩

/-- `OUT.CMPn.GRDg.RECT_WH` bits 14:0, RW, SH, reset 0x0010 (spec 11_composition) -/
@[simp] def GRD_WH_W (n : Nat) (g : Nat) : Fld := ⟨11, 3067, n * 16 + g, 15, 16⟩

/-- `OUT.CMPn.GRDg.EXPECT, FB, FB_CRC and MEAS` bits 31:0, RW, SH, reset 0x0000_0000 (spec 11_composition) -/
@[simp] def GRD_EXPECT_CRC (n : Nat) (g : Nat) : Fld := ⟨11, 3068, n * 16 + g, 32, 0⟩

/-- `OUT.CMPn.GRDg.EXPECT, FB, FB_CRC and MEAS` bits 19:0, RW, SH, reset 0x0_0000 (spec 11_composition) -/
@[simp] def GRD_FB_WORD (n : Nat) (g : Nat) : Fld := ⟨11, 3069, n * 16 + g, 20, 0⟩

/-- `OUT.CMPn.GRDg.EXPECT, FB, FB_CRC and MEAS` bits 31:0, RW, SH, reset 0x0000_0000 (spec 11_composition) -/
@[simp] def GRD_FB_CRC_CRC (n : Nat) (g : Nat) : Fld := ⟨11, 3070, n * 16 + g, 32, 0⟩

/-- `OUT.CMPn.GRDg.EXPECT, FB, FB_CRC and MEAS` bits 31:0, RO, reset 0x0000_0000 (spec 11_composition) -/
@[simp] def GRD_MEAS_CRC (n : Nat) (g : Nat) : Fld := ⟨11, 106, n * 16 + g, 32, 0⟩

/-- `OUT.CMPn.GRDg.GSTAT` bits 31, STK, reset 0x0 (spec 11_composition) -/
@[simp] def GRD_GSTAT_MISMATCH (n : Nat) (g : Nat) : Fld := ⟨11, 5108, n * 16 + g, 1, 0⟩

/-- `OUT.CMPn.GRDg.GSTAT` bits 30, STK, reset 0x0 (spec 11_composition) -/
@[simp] def GRD_GSTAT_FB_BAD (n : Nat) (g : Nat) : Fld := ⟨11, 5109, n * 16 + g, 1, 0⟩

/-- `OUT.CMPn.GRDg.GSTAT` bits 29, RO, reset 0x0 (spec 11_composition) -/
@[simp] def GRD_GSTAT_ACTIVE (n : Nat) (g : Nat) : Fld := ⟨11, 107, n * 16 + g, 1, 0⟩

/-- `OUT.CMPn.GRDg.GSTAT` bits 28, W1S, reset 0x0 (spec 11_composition) -/
@[simp] def GRD_GSTAT_CLR (n : Nat) (g : Nat) : Fld := ⟨11, 108, n * 16 + g, 1, 0⟩

/-- `OUT.CMPn.GRDg.GSTAT` bits 15:0, RO, reset 0x0000 (spec 11_composition) -/
@[simp] def GRD_GSTAT_MM_CNT (n : Nat) (g : Nat) : Fld := ⟨11, 109, n * 16 + g, 16, 0⟩

/-- `OUT.WCMP.CANVAS` bits 31:24, RW, SH, reset 0x00 (spec 11_composition) -/
@[simp] def CANVAS_REGION : Fld := ⟨11, 3004, 0, 8, 0⟩

/-- `OUT.WCMP.CANVAS` bits 23:20, RW, SH, reset 0x3 (spec 11_composition) -/
@[simp] def CANVAS_NBUF : Fld := ⟨11, 3005, 0, 4, 3⟩

/-- `OUT.WCMP.CANVAS` bits 19:16, RW, SH, reset 0x5 (spec 11_composition) -/
@[simp] def CANVAS_FORMAT : Fld := ⟨11, 3006, 0, 4, 5⟩

/-- `OUT.WCMP.CANVAS` bits 11:0, RW, SH, reset 0x000 (spec 11_composition) -/
@[simp] def CANVAS_BUF_MIB : Fld := ⟨11, 3007, 0, 12, 0⟩

/-- `OUT.WCMP.CWAIT and OUT.WCMP.READERS` bits 15:0, RW, SH, reset 0x07D0 (spec 11_composition) -/
@[simp] def CWAIT_US : Fld := ⟨11, 3008, 0, 16, 2000⟩

/-- `OUT.WCMP.CWAIT and OUT.WCMP.READERS` bits 5:0, RW, SH, reset 0x00 (spec 11_composition) -/
@[simp] def WREADERS_MASK : Fld := ⟨11, 3009, 0, 6, 0⟩

/-- `OUT.SLC.TABLE, OUT.SLC.TABLE_TAG and OUT.SLC.STAT` bits 9:0, RW, SH, reset 0x000 (spec 11_composition) -/
@[simp] def SLC_TABLE_GRAN : Fld := ⟨11, 3010, 0, 10, 0⟩

/-- `OUT.SLC.TABLE, OUT.SLC.TABLE_TAG and OUT.SLC.STAT` bits 31:0, RO, reset 0x0000_0000 (spec 11_composition) -/
@[simp] def SLC_TABLE_TAG_TAG : Fld := ⟨11, 110, 0, 32, 0⟩

/-- `OUT.SLC.TABLE, OUT.SLC.TABLE_TAG and OUT.SLC.STAT` bits 31, STK, reset 0x0 (spec 11_composition) -/
@[simp] def SLC_STAT_GEOM_MM : Fld := ⟨11, 5110, 0, 1, 0⟩

/-- `OUT.SLC.TABLE, OUT.SLC.TABLE_TAG and OUT.SLC.STAT` bits 27:16, RO, reset 0x000 (spec 11_composition) -/
@[simp] def SLC_STAT_REGION : Fld := ⟨11, 111, 0, 12, 0⟩

/-- `OUT.SLC.TABLE, OUT.SLC.TABLE_TAG and OUT.SLC.STAT` bits 15:0, RO, reset 0x0000 (spec 11_composition) -/
@[simp] def SLC_STAT_GEOM_CNT : Fld := ⟨11, 112, 0, 16, 0⟩

/-- `OUT.HEADn.TG_CTL` bits 31, RW, reset 0x0 (spec 12_output_heads) -/
@[simp] def TG_CTL_EN (n : Nat) : Fld := ⟨11, 113, n, 1, 0⟩

/-- `OUT.HEADn.TG_CTL` bits 30, RW, SH, reset 0x0 (spec 12_output_heads) -/
@[simp] def TG_CTL_MODE (n : Nat) : Fld := ⟨11, 3016, n, 1, 0⟩

/-- `OUT.HEADn.TG_CTL` bits 29, RW, SH, reset 0x0 (spec 12_output_heads) -/
@[simp] def TG_CTL_SRC (n : Nat) : Fld := ⟨11, 3017, n, 1, 0⟩

/-- `OUT.HEADn.TG_CTL` bits 28, RW, SH, reset 0x0 (spec 12_output_heads) -/
@[simp] def TG_CTL_HS_POL (n : Nat) : Fld := ⟨11, 3018, n, 1, 0⟩

/-- `OUT.HEADn.TG_CTL` bits 27, RW, SH, reset 0x0 (spec 12_output_heads) -/
@[simp] def TG_CTL_VS_POL (n : Nat) : Fld := ⟨11, 3019, n, 1, 0⟩

/-- `OUT.HEADn.TG_CTL` bits 26:25, RW, SH, reset 0x1 (spec 12_output_heads) -/
@[simp] def TG_CTL_SAMPLING (n : Nat) : Fld := ⟨11, 3020, n, 2, 1⟩

/-- `OUT.HEADn.TG_CTL` bits 24:23, RW, SH, reset 0x2 (spec 12_output_heads) -/
@[simp] def TG_CTL_BPC (n : Nat) : Fld := ⟨11, 3021, n, 2, 2⟩

/-- `OUT.HEADn.TG_CTL` bits 22:19, RW, SH, reset 0x3 (spec 12_output_heads) -/
@[simp] def TG_CTL_PREFETCH (n : Nat) : Fld := ⟨11, 3022, n, 4, 3⟩

/-- `OUT.HEADn.TG_CTL` bits 15:8, RW, SH, reset 0x0A (spec 12_output_heads) -/
@[simp] def TG_CTL_SLEW_PPM (n : Nat) : Fld := ⟨11, 3023, n, 8, 10⟩

/-- `OUT.HEADn.TG_PCLK` bits 31, RW, SH, reset 0x0 (spec 12_output_heads) -/
@[simp] def TG_PCLK_DEN (n : Nat) : Fld := ⟨11, 3024, n, 1, 0⟩

/-- `OUT.HEADn.TG_PCLK` bits 30:0, RW, SH, reset 0x08D9_EE20 (spec 12_output_heads) -/
@[simp] def TG_PCLK_NUM (n : Nat) : Fld := ⟨11, 3025, n, 31, 148500000⟩

/-- `OUT.HEADn.TG_PHASE` bits 31:0, RW, SH, reset 0x0000_0000 (spec 12_output_heads) -/
@[simp] def TG_PHASE_NS (n : Nat) : Fld := ⟨11, 3026, n, 32, 0⟩

/-- `OUT.HEADn.TG_HACT and OUT.HEADn.TG_VACT` bits 13:0, RW, SH, reset 0x0F00 for HACT, 0x0870 for VACT (spec 12_output_heads) -/
@[simp] def TG_HACT_V (n : Nat) : Fld := ⟨11, 3027, n, 14, 0xF00⟩

/-- `OUT.HEADn.TG_HACT and OUT.HEADn.TG_VACT` bits 13:0, RW, SH, reset 0x0F00 for HACT, 0x0870 for VACT (spec 12_output_heads) -/
@[simp] def TG_VACT_V (n : Nat) : Fld := ⟨11, 3028, n, 14, 0x870⟩

/-- `OUT.HEADn.TG_HTOTAL and OUT.HEADn.TG_VTOTAL` bits 15:0, RW, SH, reset 0x1130 for HTOTAL, 0x08CA for VTOTAL (spec 12_output_heads) -/
@[simp] def TG_HTOTAL_V (n : Nat) : Fld := ⟨11, 3029, n, 16, 0x1130⟩

/-- `OUT.HEADn.TG_HTOTAL and OUT.HEADn.TG_VTOTAL` bits 15:0, RW, SH, reset 0x1130 for HTOTAL, 0x08CA for VTOTAL (spec 12_output_heads) -/
@[simp] def TG_VTOTAL_V (n : Nat) : Fld := ⟨11, 3030, n, 16, 0x8CA⟩

/-- `OUT.HEADn.TG_HSYNC` bits 31:16, RW, SH, reset 0x0FB0 (spec 12_output_heads) -/
@[simp] def TG_HSYNC_HS_START (n : Nat) : Fld := ⟨11, 3031, n, 16, 4016⟩

/-- `OUT.HEADn.TG_HSYNC` bits 15:0, RW, SH, reset 0x1008 (spec 12_output_heads) -/
@[simp] def TG_HSYNC_HS_END (n : Nat) : Fld := ⟨11, 3032, n, 16, 4104⟩

/-- `OUT.HEADn.TG_VSYNC` bits 29:16, RW, SH, reset 0x0878 (spec 12_output_heads) -/
@[simp] def TG_VSYNC_VS_START (n : Nat) : Fld := ⟨11, 3033, n, 14, 2168⟩

/-- `OUT.HEADn.TG_VSYNC` bits 13:0, RW, SH, reset 0x0882 (spec 12_output_heads) -/
@[simp] def TG_VSYNC_VS_END (n : Nat) : Fld := ⟨11, 3034, n, 14, 2178⟩

/-- `OUT.HEADn.TG_COMMIT` bits 13:0, RW, SH, reset 0x0898 (spec 12_output_heads) -/
@[simp] def TG_COMMIT_COMMIT_LINE (n : Nat) : Fld := ⟨11, 3035, n, 14, 2200⟩

/-- `OUT.HEADn.STAT` bits 31:30, RO, reset 0x0 (spec 12_output_heads) -/
@[simp] def HEAD_STAT_STATE (n : Nat) : Fld := ⟨11, 114, n, 2, 0⟩

/-- `OUT.HEADn.STAT` bits 13:0, RO, reset 0x0000 (spec 12_output_heads) -/
@[simp] def HEAD_STAT_LINE (n : Nat) : Fld := ⟨11, 115, n, 14, 0⟩

/-- `OUT.HEADn.EVT` bits 31, STK, reset 0x0 (spec 12_output_heads) -/
@[simp] def HEAD_EVT_COMMIT_LATE (n : Nat) : Fld := ⟨11, 5111, n, 1, 0⟩

/-- `OUT.HEADn.EVT` bits 30, STK, reset 0x0 (spec 12_output_heads) -/
@[simp] def HEAD_EVT_UNDERRUN (n : Nat) : Fld := ⟨11, 5112, n, 1, 0⟩

/-- `OUT.HEADn.EVT` bits 29, STK, reset 0x0 (spec 12_output_heads) -/
@[simp] def HEAD_EVT_REPHASE (n : Nat) : Fld := ⟨11, 5113, n, 1, 0⟩

/-- `OUT.HEADn.EVT` bits 28, STK, reset 0x0 (spec 12_output_heads) -/
@[simp] def HEAD_EVT_RELOCK (n : Nat) : Fld := ⟨11, 5114, n, 1, 0⟩

/-- `OUT.HEADn.EVT` bits 15:0, RO, reset 0x0000 (spec 12_output_heads) -/
@[simp] def HEAD_EVT_LATE_CNT (n : Nat) : Fld := ⟨11, 116, n, 16, 0⟩

/-- `OUT.HEADn.UR and OUT.HEADn.UR_LAST` bits 31:0, RO, reset 0x0000_0000 (spec 12_output_heads) -/
@[simp] def HEAD_UR_LINES (n : Nat) : Fld := ⟨11, 117, n, 32, 0⟩

/-- `OUT.HEADn.UR and OUT.HEADn.UR_LAST` bits 29:16, RO, reset 0x0000 (spec 12_output_heads) -/
@[simp] def HEAD_UR_LAST_COLUMN (n : Nat) : Fld := ⟨11, 118, n, 14, 0⟩

/-- `OUT.HEADn.UR and OUT.HEADn.UR_LAST` bits 13:0, RO, reset 0x0000 (spec 12_output_heads) -/
@[simp] def HEAD_UR_LAST_LINE (n : Nat) : Fld := ⟨11, 119, n, 14, 0⟩

/-- `OUT.ROUTE` bits 3, RW, SH, reset 0x0 (spec 12_output_heads) -/
@[simp] def ROUTE_EN (o : Nat) : Fld := ⟨11, 3074, o, 1, 0⟩

/-- `OUT.ROUTE` bits 2:0, RW, SH, reset 0x0 (spec 12_output_heads) -/
@[simp] def ROUTE_HEAD (o : Nat) : Fld := ⟨11, 3075, o, 3, 0⟩

/-- `OUT.SDIn.CFG` bits 31, RW, SH, reset 0x0 (spec 12_output_heads) -/
@[simp] def SDI_CFG_PSF (n : Nat) : Fld := ⟨11, 3076, n, 1, 0⟩

/-- `OUT.SDIn.CFG` bits 30, RW, SH, reset 0x1 (spec 12_output_heads) -/
@[simp] def SDI_CFG_PID_EN (n : Nat) : Fld := ⟨11, 3077, n, 1, 1⟩

/-- `OUT.SDIn.CFG` bits 29, RW, SH, reset 0x0 (spec 12_output_heads) -/
@[simp] def SDI_CFG_TC_EN (n : Nat) : Fld := ⟨11, 3078, n, 1, 0⟩

/-- `OUT.SDIn.CFG` bits 28, RW, SH, reset 0x0 (spec 12_output_heads) -/
@[simp] def SDI_CFG_TC_SRC (n : Nat) : Fld := ⟨11, 3079, n, 1, 0⟩

/-- `OUT.SDIn.CFG` bits 27, RW, SH, reset 0x0 (spec 12_output_heads) -/
@[simp] def SDI_CFG_AUD_EN (n : Nat) : Fld := ⟨11, 3080, n, 1, 0⟩

/-- `OUT.SDIn.CFG` bits 26, RW, SH, reset 0x0 (spec 12_output_heads) -/
@[simp] def SDI_CFG_UANC_EN (n : Nat) : Fld := ⟨11, 3081, n, 1, 0⟩

/-- `OUT.SDIn.CFG` bits 25:16, RW, SH, reset 0x000 (spec 12_output_heads) -/
@[simp] def SDI_CFG_UANC_GRAN (n : Nat) : Fld := ⟨11, 3082, n, 10, 0⟩

/-- `OUT.SDIn.CFG` bits 13:0, RW, SH, reset 0x0000 (spec 12_output_heads) -/
@[simp] def SDI_CFG_UANC_LINE (n : Nat) : Fld := ⟨11, 3083, n, 14, 0⟩

/-- `OUT.SDIn.STAT` bits 31:29, RO, reset 0x0 (spec 12_output_heads) -/
@[simp] def SDI_STAT_RATE (n : Nat) : Fld := ⟨11, 120, n, 3, 0⟩

/-- `OUT.SDIn.STAT` bits 23:16, RO, reset 0x00 (spec 12_output_heads) -/
@[simp] def SDI_STAT_FMT (n : Nat) : Fld := ⟨11, 121, n, 8, 0⟩

/-- `OUT.SDIn.STAT` bits 15, STK, reset 0x0 (spec 12_output_heads) -/
@[simp] def SDI_STAT_UANC_DROP (n : Nat) : Fld := ⟨11, 5115, n, 1, 0⟩

/-- `OUT.SDIn.STAT` bits 7:0, RO, reset 0x00 (spec 12_output_heads) -/
@[simp] def SDI_STAT_DROP_CNT (n : Nat) : Fld := ⟨11, 122, n, 8, 0⟩

/-- `OUT.DPn.CFG` bits 31, RW, reset 0x0 (spec 12_output_heads) -/
@[simp] def DP_CFG_EN (q : Nat) : Fld := ⟨11, 123, q, 1, 0⟩

/-- `OUT.DPn.CFG` bits 27:24, RW, SH, reset 0x6 on DP, 0x8 on eDP (spec 12_output_heads) -/
@[simp] def DP_CFG_MAX_RATE (q : Nat) : Fld := ⟨11, 3000, q, 4, if q < 2 then 6 else 8⟩

/-- `OUT.DPn.CFG` bits 23:22, RW, SH, reset 0x2 (spec 12_output_heads) -/
@[simp] def DP_CFG_MAX_LANES (q : Nat) : Fld := ⟨11, 3001, q, 2, 2⟩

/-- `OUT.DPn.CFG` bits 21, RW, SH, reset 0x0 (spec 12_output_heads) -/
@[simp] def DP_CFG_HDR_SDP (q : Nat) : Fld := ⟨11, 3002, q, 1, 0⟩

/-- `OUT.DPn.CFG` bits 9:0, RW, SH, reset 0x000 (spec 12_output_heads) -/
@[simp] def DP_CFG_HDR_GRAN (q : Nat) : Fld := ⟨11, 3003, q, 10, 0⟩

/-- `OUT.DPn.STAT` bits 31, RO, reset 0x0 (spec 12_output_heads) -/
@[simp] def DP_STAT_HPD (q : Nat) : Fld := ⟨11, 124, q, 1, 0⟩

/-- `OUT.DPn.STAT` bits 30, RO, reset 0x0 (spec 12_output_heads) -/
@[simp] def DP_STAT_TRAINED (q : Nat) : Fld := ⟨11, 125, q, 1, 0⟩

/-- `OUT.DPn.STAT` bits 29, RO, reset 0x0 (spec 12_output_heads) -/
@[simp] def DP_STAT_STREAM (q : Nat) : Fld := ⟨11, 126, q, 1, 0⟩

/-- `OUT.DPn.STAT` bits 28, RO, reset 0x0 (spec 12_output_heads) -/
@[simp] def DP_STAT_BW_SHORT (q : Nat) : Fld := ⟨11, 127, q, 1, 0⟩

/-- `OUT.DPn.STAT` bits 27:24, RO, reset 0x0 (spec 12_output_heads) -/
@[simp] def DP_STAT_RATE (q : Nat) : Fld := ⟨11, 128, q, 4, 0⟩

/-- `OUT.DPn.STAT` bits 23:22, RO, reset 0x0 (spec 12_output_heads) -/
@[simp] def DP_STAT_LANES (q : Nat) : Fld := ⟨11, 129, q, 2, 0⟩

/-- `OUT.DPn.EVT` bits 31, STK, reset 0x0 (spec 12_output_heads) -/
@[simp] def DP_EVT_HPD_EV (q : Nat) : Fld := ⟨11, 5116, q, 1, 0⟩

/-- `OUT.DPn.EVT` bits 30, STK, reset 0x0 (spec 12_output_heads) -/
@[simp] def DP_EVT_IRQ_EV (q : Nat) : Fld := ⟨11, 5117, q, 1, 0⟩

/-- `OUT.DPn.EVT` bits 29, STK, reset 0x0 (spec 12_output_heads) -/
@[simp] def DP_EVT_LINK_EV (q : Nat) : Fld := ⟨11, 5118, q, 1, 0⟩

/-- `OUT.DPn.EVT` bits 7:0, RO, reset 0x00 (spec 12_output_heads) -/
@[simp] def DP_EVT_FAIL_CNT (q : Nat) : Fld := ⟨11, 130, q, 8, 0⟩

/-- `OUT.DPn.AUX_CMD` bits 31, W1S, reset 0x0 (spec 12_output_heads) -/
@[simp] def DP_AUX_CMD_GO (q : Nat) : Fld := ⟨11, 131, q, 1, 0⟩

/-- `OUT.DPn.AUX_CMD` bits 30:28, WO, reset 0x0 (spec 12_output_heads) -/
@[simp] def DP_AUX_CMD_OP (q : Nat) : Fld := ⟨11, 132, q, 3, 0⟩

/-- `OUT.DPn.AUX_CMD` bits 27:24, WO, reset 0x0 (spec 12_output_heads) -/
@[simp] def DP_AUX_CMD_LEN (q : Nat) : Fld := ⟨11, 133, q, 4, 0⟩

/-- `OUT.DPn.AUX_CMD` bits 19:0, WO, reset 0x0_0000 (spec 12_output_heads) -/
@[simp] def DP_AUX_CMD_ADDR (q : Nat) : Fld := ⟨11, 134, q, 20, 0⟩

/-- `OUT.DPn.AUX_DATAk` bits 31:0, RW, reset 0x0000_0000 (spec 12_output_heads) -/
@[simp] def DP_AUX_DATA_D (q : Nat) (k : Nat) : Fld := ⟨11, 135, q * 4 + k, 32, 0⟩

/-- `OUT.DPn.AUX_STAT` bits 31, RO, reset 0x0 (spec 12_output_heads) -/
@[simp] def DP_AUX_STAT_BUSY (q : Nat) : Fld := ⟨11, 136, q, 1, 0⟩

/-- `OUT.DPn.AUX_STAT` bits 30:28, RO, reset 0x0 (spec 12_output_heads) -/
@[simp] def DP_AUX_STAT_RESULT (q : Nat) : Fld := ⟨11, 137, q, 3, 0⟩

/-- `OUT.DPn.AUX_STAT` bits 4:0, RO, reset 0x00 (spec 12_output_heads) -/
@[simp] def DP_AUX_STAT_COUNT (q : Nat) : Fld := ⟨11, 138, q, 5, 0⟩

/-! ### The network rod -/

/-- `NET.MACm.CFG` bits 31, RW, reset 0x0 (spec 13_network_and_time) -/
@[simp] def MAC_CFG_EN (m : Nat) : Fld := ⟨12, 100, m, 1, 0⟩

/-- `NET.MACm.CFG` bits 30, RW, reset 0x1 (spec 13_network_and_time) -/
@[simp] def MAC_CFG_AN (m : Nat) : Fld := ⟨12, 101, m, 1, 1⟩

/-- `NET.MACm.CFG` bits 29, RW, reset 0x0 (spec 13_network_and_time) -/
@[simp] def MAC_CFG_KR (m : Nat) : Fld := ⟨12, 102, m, 1, 0⟩

/-- `NET.MACm.CFG` bits 28, RW, reset 0x0 (spec 13_network_and_time) -/
@[simp] def MAC_CFG_PAUSE_RX (m : Nat) : Fld := ⟨12, 103, m, 1, 0⟩

/-- `NET.MACm.CFG` bits 13:0, RW, reset 0x2400 (spec 13_network_and_time) -/
@[simp] def MAC_CFG_MAX_FRAME (m : Nat) : Fld := ⟨12, 104, m, 14, 9216⟩

/-- `NET.MACm.ADDR_LO, ADDR_HI and IPV4` bits 31:0, RW, reset 0x0000_0000 (spec 13_network_and_time) -/
@[simp] def MAC_ADDR_LO_A (m : Nat) : Fld := ⟨12, 105, m, 32, 0⟩

/-- `NET.MACm.ADDR_LO, ADDR_HI and IPV4` bits 15:0, RW, reset 0x0000 (spec 13_network_and_time) -/
@[simp] def MAC_ADDR_HI_A (m : Nat) : Fld := ⟨12, 106, m, 16, 0⟩

/-- `NET.MACm.ADDR_LO, ADDR_HI and IPV4` bits 31:0, RW, reset 0x0000_0000 (spec 13_network_and_time) -/
@[simp] def MAC_IPV4_IP (m : Nat) : Fld := ⟨12, 107, m, 32, 0⟩

/-- `NET.MACm.STAT` bits 31, RO, reset 0x0 (spec 13_network_and_time) -/
@[simp] def MAC_STAT_LINK (m : Nat) : Fld := ⟨12, 108, m, 1, 0⟩

/-- `NET.MACm.STAT` bits 30, RO, reset 0x0 (spec 13_network_and_time) -/
@[simp] def MAC_STAT_AN_DONE (m : Nat) : Fld := ⟨12, 109, m, 1, 0⟩

/-- `NET.MACm.STAT` bits 29, RO, reset 0x0 (spec 13_network_and_time) -/
@[simp] def MAC_STAT_FEC_LOCK (m : Nat) : Fld := ⟨12, 110, m, 1, 0⟩

/-- `NET.MACm.EVT` bits 31, STK, reset 0x0 (spec 13_network_and_time) -/
@[simp] def MAC_EVT_LINK_EV (m : Nat) : Fld := ⟨12, 5100, m, 1, 0⟩

/-- `NET.MACm.EVT` bits 30, STK, reset 0x0 (spec 13_network_and_time) -/
@[simp] def MAC_EVT_FEC_UNCORR (m : Nat) : Fld := ⟨12, 5101, m, 1, 0⟩

/-- `NET.MACm.EVT` bits 15:8, RO, reset 0x00 (spec 13_network_and_time) -/
@[simp] def MAC_EVT_DOWN_CNT (m : Nat) : Fld := ⟨12, 111, m, 8, 0⟩

/-- `NET.MACm.EVT` bits 7:0, RO, reset 0x00 (spec 13_network_and_time) -/
@[simp] def MAC_EVT_UNC_CNT (m : Nat) : Fld := ⟨12, 112, m, 8, 0⟩

/-- `NET.MACm.TS_LAT` bits 31:16, RW, reset 0x3400 (spec 13_network_and_time) -/
@[simp] def TS_LAT_TX (m : Nat) : Fld := ⟨12, 113, m, 16, 13312⟩

/-- `NET.MACm.TS_LAT` bits 15:0, RW, reset 0x9480 (spec 13_network_and_time) -/
@[simp] def TS_LAT_RX (m : Nat) : Fld := ⟨12, 114, m, 16, 38016⟩

/-- `NET.MACm.TSQ_STAT` bits 31, STK, reset 0x0 (spec 13_network_and_time) -/
@[simp] def TSQ_STAT_OVF (m : Nat) : Fld := ⟨12, 5102, m, 1, 0⟩

/-- `NET.MACm.TSQ_STAT` bits 22:16, RO, reset 0x00 (spec 13_network_and_time) -/
@[simp] def TSQ_STAT_LEVEL (m : Nat) : Fld := ⟨12, 115, m, 7, 0⟩

/-- `NET.MACm.TSQ_STAT` bits 15:0, RO, reset 0x0000 (spec 13_network_and_time) -/
@[simp] def TSQ_STAT_OVF_CNT (m : Nat) : Fld := ⟨12, 116, m, 16, 0⟩

/-- `NET.MACm.TSQ_POP, TSQ_NS and TSQ_SEC` bits 31, RO, reset 0x0 (spec 13_network_and_time) -/
@[simp] def TSQ_POP_VALID (m : Nat) : Fld := ⟨12, 117, m, 1, 0⟩

/-- `NET.MACm.TSQ_POP, TSQ_NS and TSQ_SEC` bits 15:0, RO, reset 0x0000 (spec 13_network_and_time) -/
@[simp] def TSQ_POP_ID (m : Nat) : Fld := ⟨12, 118, m, 16, 0⟩

/-- `NET.MACm.TSQ_POP, TSQ_NS and TSQ_SEC` bits 31:0, RO, reset 0x0000_0000 (spec 13_network_and_time) -/
@[simp] def TSQ_NS_NS (m : Nat) : Fld := ⟨12, 119, m, 32, 0⟩

/-- `NET.MACm.TSQ_POP, TSQ_NS and TSQ_SEC` bits 31:0, RO, reset 0x0000_0000 (spec 13_network_and_time) -/
@[simp] def TSQ_SEC_SEC (m : Nat) : Fld := ⟨12, 120, m, 32, 0⟩

/-- `NET.MACm.TSQ_POP, TSQ_NS and TSQ_SEC` bits 31:0, RO, reset 0x0000_0000 (spec 13_network_and_time) -/
@[simp] def TSQ_HI_V (m : Nat) : Fld := ⟨12, 121, m, 32, 0⟩

/-- `NET.TLY.NOW_NS, NOW_SEC and NOW_HI` bits 31:0, RO, reset 0x0000_0000 (spec 13_network_and_time) -/
@[simp] def NOW_NS_V : Fld := ⟨12, 122, 0, 32, 0⟩

/-- `NET.TLY.NOW_NS, NOW_SEC and NOW_HI` bits 31:0, RO, reset 0x0000_0000 (spec 13_network_and_time) -/
@[simp] def NOW_SEC_V : Fld := ⟨12, 123, 0, 32, 0⟩

/-- `NET.TLY.NOW_NS, NOW_SEC and NOW_HI` bits 31:0, RO, reset 0x0000_0000 (spec 13_network_and_time) -/
@[simp] def NOW_HI_V : Fld := ⟨12, 124, 0, 32, 0⟩

/-- `NET.TLY.RATE` bits 31:0, RW, reset 0x0000_0000 (spec 13_network_and_time) -/
@[simp] def TLY_RATE_ADJ : Fld := ⟨12, 125, 0, 32, 0⟩

/-- `NET.TLY.STEP_NS, STEP_SEC and STEP_HI` bits 31:0, RW, reset 0x0000_0000 (spec 13_network_and_time) -/
@[simp] def STEP_NS_V : Fld := ⟨12, 126, 0, 32, 0⟩

/-- `NET.TLY.STEP_NS, STEP_SEC and STEP_HI` bits 31:0, RW, reset 0x0000_0000 (spec 13_network_and_time) -/
@[simp] def STEP_SEC_V : Fld := ⟨12, 127, 0, 32, 0⟩

/-- `NET.TLY.STEP_NS, STEP_SEC and STEP_HI` bits 15:0, RW, reset 0x0000_0000 (spec 13_network_and_time) -/
@[simp] def STEP_HI_V : Fld := ⟨12, 128, 0, 16, 0⟩

/-- `NET.TLY.CMD` bits 31, W1S, reset 0x0 (spec 13_network_and_time) -/
@[simp] def TLY_CMD_SET : Fld := ⟨12, 129, 0, 1, 0⟩

/-- `NET.TLY.CMD` bits 30, W1S, reset 0x0 (spec 13_network_and_time) -/
@[simp] def TLY_CMD_ADD : Fld := ⟨12, 130, 0, 1, 0⟩

/-- `NET.TLY.CMD` bits 29, WO, reset 0x0 (spec 13_network_and_time) -/
@[simp] def TLY_CMD_NEG : Fld := ⟨12, 131, 0, 1, 0⟩

/-- `NET.TLY.CMD` bits 28, STK, reset 0x0 (spec 13_network_and_time) -/
@[simp] def TLY_CMD_STEP_EV : Fld := ⟨12, 5103, 0, 1, 0⟩

/-- `NET.PTP.CFG` bits 31:30, RW, reset 0x0 (spec 13_network_and_time) -/
@[simp] def PTP_CFG_MODE : Fld := ⟨12, 132, 0, 2, 0⟩

/-- `NET.PTP.CFG` bits 29, RW, reset 0x0 (spec 13_network_and_time) -/
@[simp] def PTP_CFG_ONE_STEP : Fld := ⟨12, 133, 0, 1, 0⟩

/-- `NET.PTP.CFG` bits 28:25, RW, reset 0x0 (spec 13_network_and_time) -/
@[simp] def PTP_CFG_PORTS : Fld := ⟨12, 134, 0, 4, 0⟩

/-- `NET.PTP.CFG` bits 23:16, RW, reset 0x7F (spec 13_network_and_time) -/
@[simp] def PTP_CFG_DOMAIN : Fld := ⟨12, 135, 0, 8, 127⟩

/-- `NET.PTP.CFG` bits 15:8, RW, reset 0x80 (spec 13_network_and_time) -/
@[simp] def PTP_CFG_PRIO1 : Fld := ⟨12, 136, 0, 8, 128⟩

/-- `NET.PTP.CFG` bits 7:0, RW, reset 0x80 (spec 13_network_and_time) -/
@[simp] def PTP_CFG_PRIO2 : Fld := ⟨12, 137, 0, 8, 128⟩

/-- `NET.PTP.SERVO` bits 31:16, RW, reset 0x0064 (spec 13_network_and_time) -/
@[simp] def PTP_SERVO_STEP_TH : Fld := ⟨12, 138, 0, 16, 100⟩

/-- `NET.PTP.SERVO` bits 15:8, RW, reset 0x64 (spec 13_network_and_time) -/
@[simp] def PTP_SERVO_SLEW_PPM : Fld := ⟨12, 139, 0, 8, 100⟩

/-- `NET.PTP.SERVO` bits 7:0, RW, reset 0x64 (spec 13_network_and_time) -/
@[simp] def PTP_SERVO_LOCK_NS : Fld := ⟨12, 140, 0, 8, 100⟩

/-- `NET.PTP.STAT and NET.PTP.OFFSET` bits 31:30, RO, reset 0x0 (spec 13_network_and_time) -/
@[simp] def PTP_STAT_STATE : Fld := ⟨12, 141, 0, 2, 0⟩

/-- `NET.PTP.STAT and NET.PTP.OFFSET` bits 29, STK, reset 0x0 (spec 13_network_and_time) -/
@[simp] def PTP_STAT_HOLD_EV : Fld := ⟨12, 5104, 0, 1, 0⟩

/-- `NET.PTP.STAT and NET.PTP.OFFSET` bits 28, STK, reset 0x0 (spec 13_network_and_time) -/
@[simp] def PTP_STAT_GM_CHANGE : Fld := ⟨12, 5105, 0, 1, 0⟩

/-- `NET.PTP.STAT and NET.PTP.OFFSET` bits 27:26, RO, reset 0x0 (spec 13_network_and_time) -/
@[simp] def PTP_STAT_PORT : Fld := ⟨12, 142, 0, 2, 0⟩

/-- `NET.PTP.STAT and NET.PTP.OFFSET` bits 31:0, RO, reset 0x0000_0000 (spec 13_network_and_time) -/
@[simp] def PTP_OFFSET_NS : Fld := ⟨12, 143, 0, 32, 0⟩

/-- `NET.PTP.STAT and` bits 31:0, RO, reset 0x0000_0000 (spec 13_network_and_time) -/
@[simp] def PTP_GM_ID (k : Nat) : Fld := ⟨12, 144, k, 32, 0⟩

/-- `NET.TLY.TRGi.TIME_NS, TIME_SEC, TIME_HI and PERIOD` bits 31:0, RW, reset 0x0000_0000 (spec 13_network_and_time) -/
@[simp] def TRG_TIME_NS_V (i : Nat) : Fld := ⟨12, 145, i, 32, 0⟩

/-- `NET.TLY.TRGi.TIME_NS, TIME_SEC, TIME_HI and PERIOD` bits 31:0, RW, reset 0x0000_0000 (spec 13_network_and_time) -/
@[simp] def TRG_TIME_SEC_V (i : Nat) : Fld := ⟨12, 146, i, 32, 0⟩

/-- `NET.TLY.TRGi.TIME_NS, TIME_SEC, TIME_HI and PERIOD` bits 15:0, RW, reset 0x0000_0000 (spec 13_network_and_time) -/
@[simp] def TRG_TIME_HI_V (i : Nat) : Fld := ⟨12, 147, i, 16, 0⟩

/-- `NET.TLY.TRGi.TIME_NS, TIME_SEC, TIME_HI and PERIOD` bits 31:0, RW, reset 0x0000_0000 (spec 13_network_and_time) -/
@[simp] def TRG_PERIOD_V (i : Nat) : Fld := ⟨12, 148, i, 32, 0⟩

/-- `NET.TLY.TRGi.CTL` bits 31, W1S, reset 0x0 (spec 13_network_and_time) -/
@[simp] def TRG_CTL_ARM (i : Nat) : Fld := ⟨12, 149, i, 1, 0⟩

/-- `NET.TLY.TRGi.CTL` bits 30, W1S, reset 0x0 (spec 13_network_and_time) -/
@[simp] def TRG_CTL_DISARM (i : Nat) : Fld := ⟨12, 150, i, 1, 0⟩

/-- `NET.TLY.TRGi.CTL` bits 29, RW, reset 0x0 (spec 13_network_and_time) -/
@[simp] def TRG_CTL_POL (i : Nat) : Fld := ⟨12, 151, i, 1, 0⟩

/-- `NET.TLY.TRGi.CTL` bits 28, RO, reset 0x0 (spec 13_network_and_time) -/
@[simp] def TRG_CTL_ARMED (i : Nat) : Fld := ⟨12, 152, i, 1, 0⟩

/-- `NET.TLY.TRGi.CTL` bits 27:22, RW, reset 0x3F (spec 13_network_and_time) -/
@[simp] def TRG_CTL_PIN (i : Nat) : Fld := ⟨12, 153, i, 6, 63⟩

/-- `NET.TLY.TRGi.CTL` bits 21:0, RW, reset 0x00_03E8 (spec 13_network_and_time) -/
@[simp] def TRG_CTL_WIDTH (i : Nat) : Fld := ⟨12, 154, i, 22, 1000⟩

/-- `NET.TLY.TRGi.STAT` bits 31, STK, reset 0x0 (spec 13_network_and_time) -/
@[simp] def TRG_STAT_FIRED (i : Nat) : Fld := ⟨12, 5106, i, 1, 0⟩

/-- `NET.TLY.TRGi.STAT` bits 30, STK, reset 0x0 (spec 13_network_and_time) -/
@[simp] def TRG_STAT_LATE (i : Nat) : Fld := ⟨12, 5107, i, 1, 0⟩

/-- `NET.TLY.CAPj.CTL` bits 31, RW, reset 0x0 (spec 13_network_and_time) -/
@[simp] def CAP_CTL_EN (j : Nat) : Fld := ⟨12, 155, j, 1, 0⟩

/-- `NET.TLY.CAPj.CTL` bits 30:29, RW, reset 0x0 (spec 13_network_and_time) -/
@[simp] def CAP_CTL_EDGE (j : Nat) : Fld := ⟨12, 156, j, 2, 0⟩

/-- `NET.TLY.CAPj.CTL` bits 5:0, RW, reset 0x00 (spec 13_network_and_time) -/
@[simp] def CAP_CTL_SRC (j : Nat) : Fld := ⟨12, 157, j, 6, 0⟩

/-- `NET.TLY.CAPj.NS, SEC, HI and STAT` bits 31:0, RO, reset 0x0000_0000 (spec 13_network_and_time) -/
@[simp] def CAP_NS_V (j : Nat) : Fld := ⟨12, 158, j, 32, 0⟩

/-- `NET.TLY.CAPj.NS, SEC, HI and STAT` bits 31:0, RO, reset 0x0000_0000 (spec 13_network_and_time) -/
@[simp] def CAP_SEC_V (j : Nat) : Fld := ⟨12, 159, j, 32, 0⟩

/-- `NET.TLY.CAPj.NS, SEC, HI and STAT` bits 31:0, RO, reset 0x0000_0000 (spec 13_network_and_time) -/
@[simp] def CAP_HI_V (j : Nat) : Fld := ⟨12, 160, j, 32, 0⟩

/-- `NET.TLY.CAPj.NS, SEC, HI and STAT` bits 31, RO, reset 0x0 (spec 13_network_and_time) -/
@[simp] def CAP_STAT_VALID (j : Nat) : Fld := ⟨12, 161, j, 1, 0⟩

/-- `NET.TLY.CAPj.NS, SEC, HI and STAT` bits 30, STK, reset 0x0 (spec 13_network_and_time) -/
@[simp] def CAP_STAT_OVR (j : Nat) : Fld := ⟨12, 5108, j, 1, 0⟩

/-- `NET.TLY.CAPj.NS, SEC, HI and STAT` bits 15:0, RO, reset 0x0000 (spec 13_network_and_time) -/
@[simp] def CAP_STAT_OVR_CNT (j : Nat) : Fld := ⟨12, 162, j, 16, 0⟩

/-- `NET.LTC.CFG, OFFSET, UTC and IN` bits 31, RW, reset 0x0 (spec 13_network_and_time) -/
@[simp] def LTC_CFG_OUT_EN : Fld := ⟨12, 163, 0, 1, 0⟩

/-- `NET.LTC.CFG, OFFSET, UTC and IN` bits 30, RW, reset 0x0 (spec 13_network_and_time) -/
@[simp] def LTC_CFG_IN_EN : Fld := ⟨12, 164, 0, 1, 0⟩

/-- `NET.LTC.CFG, OFFSET, UTC and IN` bits 29:27, RW, reset 0x2 (spec 13_network_and_time) -/
@[simp] def LTC_CFG_RATE : Fld := ⟨12, 165, 0, 3, 2⟩

/-- `NET.LTC.CFG, OFFSET, UTC and IN` bits 31:0, RW, reset 0x0000_0000 (spec 13_network_and_time) -/
@[simp] def LTC_OFFSET_S : Fld := ⟨12, 166, 0, 32, 0⟩

/-- `NET.LTC.CFG, OFFSET, UTC and IN` bits 31, RO, reset 0x0 (spec 13_network_and_time) -/
@[simp] def LTC_UTC_VALID : Fld := ⟨12, 167, 0, 1, 0⟩

/-- `NET.LTC.CFG, OFFSET, UTC and IN` bits 15:0, RO, reset 0x0000 (spec 13_network_and_time) -/
@[simp] def LTC_UTC_OFF : Fld := ⟨12, 168, 0, 16, 0⟩

/-- `NET.LTC.CFG, OFFSET, UTC and IN` bits 31:0, RO, reset 0x0000_0000 (spec 13_network_and_time) -/
@[simp] def LTC_IN_TC : Fld := ⟨12, 169, 0, 32, 0⟩

/-- `NET.FLOW.TABLE, CMD and BAD` bits 25:16, RW, SH, reset 0x000 (spec 13_network_and_time) -/
@[simp] def FLOW_TABLE_FORCE_GRAN : Fld := ⟨12, 3000, 0, 10, 0⟩

/-- `NET.FLOW.TABLE, CMD and BAD` bits 9:0, RW, SH, reset 0x000 (spec 13_network_and_time) -/
@[simp] def FLOW_TABLE_STAGED_GRAN : Fld := ⟨12, 3001, 0, 10, 0⟩

/-- `NET.FLOW.TABLE, CMD and BAD` bits 31, W1S, reset 0x0 (spec 13_network_and_time) -/
@[simp] def FLOW_CMD_GO : Fld := ⟨12, 170, 0, 1, 0⟩

/-- `NET.FLOW.TABLE, CMD and BAD` bits 11:0, WO, reset 0x000 (spec 13_network_and_time) -/
@[simp] def FLOW_CMD_FLOW : Fld := ⟨12, 171, 0, 12, 0⟩

/-- `NET.FLOW.TABLE, CMD and BAD` bits 31, STK, reset 0x0 (spec 13_network_and_time) -/
@[simp] def FLOW_BAD_BAD : Fld := ⟨12, 5109, 0, 1, 0⟩

/-- `NET.FLOW.TABLE, CMD and BAD` bits 23:16, RO, reset 0x00 (spec 13_network_and_time) -/
@[simp] def FLOW_BAD_RULE : Fld := ⟨12, 172, 0, 8, 0⟩

/-- `NET.FLOW.TABLE, CMD and BAD` bits 11:0, RO, reset 0x000 (spec 13_network_and_time) -/
@[simp] def FLOW_BAD_FLOW : Fld := ⟨12, 173, 0, 12, 0⟩

/-- `NET.PKTn.AUQ, STAT and LOAD` bits 25:16, RW, SH, reset 0x000 (spec 13_network_and_time) -/
@[simp] def PKT_AUQ_GRAN (n : Nat) : Fld := ⟨12, 3002, n, 10, 0⟩

/-- `NET.PKTn.AUQ, STAT and LOAD` bits 7:0, RW, SH, reset 0x04 (spec 13_network_and_time) -/
@[simp] def PKT_AUQ_GRANS (n : Nat) : Fld := ⟨12, 3003, n, 8, 4⟩

/-- `NET.PKTn.AUQ, STAT and LOAD` bits 31, STK, reset 0x0 (spec 13_network_and_time) -/
@[simp] def PKT_STAT_AU_DROP (n : Nat) : Fld := ⟨12, 5110, n, 1, 0⟩

/-- `NET.PKTn.AUQ, STAT and LOAD` bits 30, STK, reset 0x0 (spec 13_network_and_time) -/
@[simp] def PKT_STAT_TX_DROP (n : Nat) : Fld := ⟨12, 5111, n, 1, 0⟩

/-- `NET.PKTn.AUQ, STAT and LOAD` bits 29, STK, reset 0x0 (spec 13_network_and_time) -/
@[simp] def PKT_STAT_RX_LOST (n : Nat) : Fld := ⟨12, 5112, n, 1, 0⟩

/-- `NET.PKTn.AUQ, STAT and LOAD` bits 28, STK, reset 0x0 (spec 13_network_and_time) -/
@[simp] def PKT_STAT_RX_AP (n : Nat) : Fld := ⟨12, 5113, n, 1, 0⟩

/-- `NET.PKTn.AUQ, STAT and LOAD` bits 15:0, RO, reset 0x0000 (spec 13_network_and_time) -/
@[simp] def PKT_STAT_DROP_CNT (n : Nat) : Fld := ⟨12, 174, n, 16, 0⟩

/-- `NET.PKTn.AUQ, STAT and LOAD` bits 9:0, RO, reset 0x000 (spec 13_network_and_time) -/
@[simp] def PKT_LOAD_PERMILLE (n : Nat) : Fld := ⟨12, 175, n, 10, 0⟩

/-! ### The audio rod -/

/-- `AUD.APn.CFG` bits 31, RW, reset 0x0 (spec 14_audio) -/
@[simp] def AP_CFG_EN (n : Nat) : Fld := ⟨13, 100, n, 1, 0⟩

/-- `AUD.APn.CFG` bits 30, RW, reset 0x0 (spec 14_audio) -/
@[simp] def AP_CFG_DIR (n : Nat) : Fld := ⟨13, 101, n, 1, 0⟩

/-- `AUD.APn.CFG` bits 29:28, RW, reset 0x0 (spec 14_audio) -/
@[simp] def AP_CFG_CLK (n : Nat) : Fld := ⟨13, 102, n, 2, 0⟩

/-- `AUD.APn.CFG` bits 27, RW, reset 0x0 (spec 14_audio) -/
@[simp] def AP_CFG_ASRC (n : Nat) : Fld := ⟨13, 103, n, 1, 0⟩

/-- `AUD.APn.CFG` bits 21:20, RW, reset 0x2 (spec 14_audio) -/
@[simp] def AP_CFG_MCLK_DIV (n : Nat) : Fld := ⟨13, 104, n, 2, 2⟩

/-- `AUD.APn.FMT` bits 31:30, RW, SH, reset 0x0 (spec 14_audio) -/
@[simp] def AP_FMT_MODE (n : Nat) : Fld := ⟨13, 3007, n, 2, 0⟩

/-- `AUD.APn.FMT` bits 29, RW, SH, reset 0x0 (spec 14_audio) -/
@[simp] def AP_FMT_FS_PULSE (n : Nat) : Fld := ⟨13, 3008, n, 1, 0⟩

/-- `AUD.APn.FMT` bits 28, RW, SH, reset 0x0 (spec 14_audio) -/
@[simp] def AP_FMT_DELAY (n : Nat) : Fld := ⟨13, 3009, n, 1, 0⟩

/-- `AUD.APn.FMT` bits 27, RW, SH, reset 0x0 (spec 14_audio) -/
@[simp] def AP_FMT_FS_POL (n : Nat) : Fld := ⟨13, 3010, n, 1, 0⟩

/-- `AUD.APn.FMT` bits 26, RW, SH, reset 0x0 (spec 14_audio) -/
@[simp] def AP_FMT_BCLK_EDGE (n : Nat) : Fld := ⟨13, 3011, n, 1, 0⟩

/-- `AUD.APn.FMT` bits 25:24, RW, SH, reset 0x2 (spec 14_audio) -/
@[simp] def AP_FMT_WIDTH (n : Nat) : Fld := ⟨13, 3012, n, 2, 2⟩

/-- `AUD.APn.FMT` bits 23, RW, SH, reset 0x1 (spec 14_audio) -/
@[simp] def AP_FMT_DEPTH (n : Nat) : Fld := ⟨13, 3013, n, 1, 1⟩

/-- `AUD.APn.FMT` bits 22:21, RW, SH, reset 0x2 (spec 14_audio) -/
@[simp] def AP_FMT_PACK (n : Nat) : Fld := ⟨13, 3014, n, 2, 2⟩

/-- `AUD.APn.FMT` bits 20:16, RW, SH, reset 0x02 (spec 14_audio) -/
@[simp] def AP_FMT_NSLOT (n : Nat) : Fld := ⟨13, 3015, n, 5, 2⟩

/-- `AUD.APn.RATE and AUD.APn.SLOTS` bits 17:0, RW, SH, reset 0x0_BB80 (spec 14_audio) -/
@[simp] def AP_RATE_FS (n : Nat) : Fld := ⟨13, 3016, n, 18, 48000⟩

/-- `AUD.APn.RATE and AUD.APn.SLOTS` bits 15:0, RW, SH, reset 0x0003 (spec 14_audio) -/
@[simp] def AP_SLOTS_MASK (n : Nat) : Fld := ⟨13, 3017, n, 16, 3⟩

/-- `AUD.APn.BLK` bits 9:0, RW, reset 0x030 (spec 14_audio) -/
@[simp] def AP_BLK_LEN (n : Nat) : Fld := ⟨13, 105, n, 10, 48⟩

/-- `AUD.APn.RING and AUD.APn.RING_BASE` bits 31:24, RW, reset 0x00 (spec 14_audio) -/
@[simp] def AP_RING_REGION (n : Nat) : Fld := ⟨13, 106, n, 8, 0⟩

/-- `AUD.APn.RING and AUD.APn.RING_BASE` bits 23:16, RW, reset 0x10 (spec 14_audio) -/
@[simp] def AP_RING_NBLK (n : Nat) : Fld := ⟨13, 107, n, 8, 16⟩

/-- `AUD.APn.RING and AUD.APn.RING_BASE` bits 31:0, RW, reset 0x0000_0000 (spec 14_audio) -/
@[simp] def AP_RING_BASE_BASE (n : Nat) : Fld := ⟨13, 108, n, 32, 0⟩

/-- `AUD.APn.WR and AUD.APn.RD` bits 7:0, RW, reset 0x00 (spec 14_audio) -/
@[simp] def AP_WR_SLOT (n : Nat) : Fld := ⟨13, 109, n, 8, 0⟩

/-- `AUD.APn.WR and AUD.APn.RD` bits 7:0, RW, reset 0x00 (spec 14_audio) -/
@[simp] def AP_RD_SLOT (n : Nat) : Fld := ⟨13, 110, n, 8, 0⟩

/-- `AUD.APn.MON` bits 31:16, RW, reset 0x01F4 (spec 14_audio) -/
@[simp] def AP_MON_WIN_PPM (n : Nat) : Fld := ⟨13, 111, n, 16, 500⟩

/-- `AUD.APn.MON` bits 15:8, RW, reset 0x10 (spec 14_audio) -/
@[simp] def AP_MON_STABLE_N (n : Nat) : Fld := ⟨13, 112, n, 8, 16⟩

/-- `AUD.APn.MEAS` bits 31:0, RO, reset 0x0000_0000 (spec 14_audio) -/
@[simp] def AP_MEAS_HZ (n : Nat) : Fld := ⟨13, 113, n, 32, 0⟩

/-- `AUD.APn.STAT` bits 31:30, RO, reset 0x0 (spec 14_audio) -/
@[simp] def AP_STAT_CLK_STATE (n : Nat) : Fld := ⟨13, 114, n, 2, 0⟩

/-- `AUD.APn.STAT` bits 29, RO, reset 0x0 (spec 14_audio) -/
@[simp] def AP_STAT_ASRC_LOCK (n : Nat) : Fld := ⟨13, 115, n, 1, 0⟩

/-- `AUD.APn.STAT` bits 15:0, RO, reset 0x0000 (spec 14_audio) -/
@[simp] def AP_STAT_DRIFT (n : Nat) : Fld := ⟨13, 116, n, 16, 0⟩

/-- `AUD.APn.EVT` bits 31, STK, reset 0x0 (spec 14_audio) -/
@[simp] def AP_EVT_SLIP (n : Nat) : Fld := ⟨13, 5100, n, 1, 0⟩

/-- `AUD.APn.EVT` bits 30, STK, reset 0x0 (spec 14_audio) -/
@[simp] def AP_EVT_CLK_LOST (n : Nat) : Fld := ⟨13, 5101, n, 1, 0⟩

/-- `AUD.APn.EVT` bits 29, STK, reset 0x0 (spec 14_audio) -/
@[simp] def AP_EVT_RATE_EV (n : Nat) : Fld := ⟨13, 5102, n, 1, 0⟩

/-- `AUD.APn.EVT` bits 28, STK, reset 0x0 (spec 14_audio) -/
@[simp] def AP_EVT_GLITCH (n : Nat) : Fld := ⟨13, 5103, n, 1, 0⟩

/-- `AUD.APn.EVT` bits 27, STK, reset 0x0 (spec 14_audio) -/
@[simp] def AP_EVT_FS_ERR (n : Nat) : Fld := ⟨13, 5104, n, 1, 0⟩

/-- `AUD.APn.EVT` bits 26, STK, reset 0x0 (spec 14_audio) -/
@[simp] def AP_EVT_RING (n : Nat) : Fld := ⟨13, 5105, n, 1, 0⟩

/-- `AUD.APn.EVT` bits 25, STK, reset 0x0 (spec 14_audio) -/
@[simp] def AP_EVT_BAD_BLK (n : Nat) : Fld := ⟨13, 5106, n, 1, 0⟩

/-- `AUD.APn.EVT` bits 24, STK, reset 0x0 (spec 14_audio) -/
@[simp] def AP_EVT_ASRC_UNLOCK (n : Nat) : Fld := ⟨13, 5107, n, 1, 0⟩

/-- `AUD.APn.EVT` bits 15:8, RO, reset 0x00 (spec 14_audio) -/
@[simp] def AP_EVT_DROP_CNT (n : Nat) : Fld := ⟨13, 117, n, 8, 0⟩

/-- `AUD.APn.EVT` bits 7:0, RO, reset 0x00 (spec 14_audio) -/
@[simp] def AP_EVT_REP_CNT (n : Nat) : Fld := ⟨13, 118, n, 8, 0⟩

/-- `AUD.APn.CNT` bits 31:16, RO, reset 0x0000 (spec 14_audio) -/
@[simp] def AP_CNT_RING_CNT (n : Nat) : Fld := ⟨13, 119, n, 16, 0⟩

/-- `AUD.APn.CNT` bits 15:12, RO, reset 0x0 (spec 14_audio) -/
@[simp] def AP_CNT_RECOVER_CNT (n : Nat) : Fld := ⟨13, 120, n, 4, 0⟩

/-- `AUD.APn.CNT` bits 11:8, RO, reset 0x0 (spec 14_audio) -/
@[simp] def AP_CNT_GLITCH_CNT (n : Nat) : Fld := ⟨13, 121, n, 4, 0⟩

/-- `AUD.APn.CNT` bits 7:0, RO, reset 0x00 (spec 14_audio) -/
@[simp] def AP_CNT_FS_ERR_CNT (n : Nat) : Fld := ⟨13, 122, n, 8, 0⟩

/-- `AUD.APn.ASRC_RATIO` bits 31:0, RO, reset 0x0000_0000 (spec 14_audio) -/
@[simp] def AP_ASRC_RATIO_RATIO (n : Nat) : Fld := ⟨13, 123, n, 32, 0⟩

/-- `AUD.SGg.CTL` bits 31, W1S, reset 0x0 (spec 14_audio) -/
@[simp] def SG_CTL_ARM (g : Nat) : Fld := ⟨13, 124, g, 1, 0⟩

/-- `AUD.SGg.CTL` bits 30, W1S, reset 0x0 (spec 14_audio) -/
@[simp] def SG_CTL_DISARM (g : Nat) : Fld := ⟨13, 125, g, 1, 0⟩

/-- `AUD.SGg.CTL` bits 29, RO, reset 0x0 (spec 14_audio) -/
@[simp] def SG_CTL_ARMED (g : Nat) : Fld := ⟨13, 126, g, 1, 0⟩

/-- `AUD.SGg.CTL` bits 28, STK, reset 0x0 (spec 14_audio) -/
@[simp] def SG_CTL_LATE (g : Nat) : Fld := ⟨13, 5108, g, 1, 0⟩

/-- `AUD.SGg.CTL` bits 27, STK, reset 0x0 (spec 14_audio) -/
@[simp] def SG_CTL_MISS (g : Nat) : Fld := ⟨13, 5109, g, 1, 0⟩

/-- `AUD.SGg.CTL` bits 7:0, RW, reset 0x00 (spec 14_audio) -/
@[simp] def SG_CTL_MASK (g : Nat) : Fld := ⟨13, 127, g, 8, 0⟩

/-- `AUD.SGg.TIME_NS, TIME_SEC and TIME_HI` bits 31:0, RW, reset 0x0000_0000 (spec 14_audio) -/
@[simp] def SG_TIME_NS_V (g : Nat) : Fld := ⟨13, 128, g, 32, 0⟩

/-- `AUD.SGg.TIME_NS, TIME_SEC and TIME_HI` bits 31:0, RW, reset 0x0000_0000 (spec 14_audio) -/
@[simp] def SG_TIME_SEC_V (g : Nat) : Fld := ⟨13, 129, g, 32, 0⟩

/-- `AUD.SGg.TIME_NS, TIME_SEC and TIME_HI` bits 15:0, RW, reset 0x0000_0000 (spec 14_audio) -/
@[simp] def SG_TIME_HI_V (g : Nat) : Fld := ⟨13, 130, g, 16, 0⟩

/-- `AUD.ASs.CFG` bits 31, RW, SH, reset 0x0 (spec 14_audio) -/
@[simp] def AS_CFG_EN (s : Nat) : Fld := ⟨13, 3000, s, 1, 0⟩

/-- `AUD.ASs.CFG` bits 30, RW, SH, reset 0x0 (spec 14_audio) -/
@[simp] def AS_CFG_BLK (s : Nat) : Fld := ⟨13, 3001, s, 1, 0⟩

/-- `AUD.ASs.CFG` bits 27:24, RW, SH, reset 0x1 (spec 14_audio) -/
@[simp] def AS_CFG_NCH (s : Nat) : Fld := ⟨13, 3002, s, 4, 1⟩

/-- `AUD.ASs.CHMAPj` bits 7, RW, SH, reset 0x0 (spec 14_audio) -/
@[simp] def AS_CHMAP_EN (s : Nat) (j : Nat) (i : Nat) : Fld := ⟨13, 3003, (s * 4 + j) * 4 + i, 1, 0⟩

/-- `AUD.ASs.CHMAPj` bits 6:3, RW, SH, reset 0x0 (spec 14_audio) -/
@[simp] def AS_CHMAP_SLOT (s : Nat) (j : Nat) (i : Nat) : Fld := ⟨13, 3004, (s * 4 + j) * 4 + i, 4, 0⟩

/-- `AUD.ASs.CHMAPj` bits 2:0, RW, SH, reset 0x0 (spec 14_audio) -/
@[simp] def AS_CHMAP_PORT (s : Nat) (j : Nat) (i : Nat) : Fld := ⟨13, 3005, (s * 4 + j) * 4 + i, 3, 0⟩

/-- `AUD.ASs.STAT` bits 31, STK, reset 0x0 (spec 14_audio) -/
@[simp] def AS_STAT_SDI_SLIP (s : Nat) : Fld := ⟨13, 5110, s, 1, 0⟩

/-- `AUD.ASs.STAT` bits 15:0, RO, reset 0x0000 (spec 14_audio) -/
@[simp] def AS_STAT_SLIP_CNT (s : Nat) : Fld := ⟨13, 131, s, 16, 0⟩

/-- `AUD.SDI_MAP` bits 2:0, RW, SH, reset 0x0 (spec 14_audio) -/
@[simp] def SDI_MAP_STREAM (o : Nat) : Fld := ⟨13, 3006, o, 3, 0⟩

/-! ### The memory rod -/

/-- `MEM.CHn.CFG` bits 31:30, RW, reset 0x0 (spec 15_dram) -/
@[simp] def CH_CFG_DENSITY (n : Nat) : Fld := ⟨14, 100, n, 2, 0⟩

/-- `MEM.CHn.CFG` bits 29, RW, reset 0x0 (spec 15_dram) -/
@[simp] def CH_CFG_RANKS (n : Nat) : Fld := ⟨14, 101, n, 1, 0⟩

/-- `MEM.CHn.CFG` bits 28, RW, SH, reset 0x0 (spec 15_dram) -/
@[simp] def CH_CFG_REF_MODE (n : Nat) : Fld := ⟨14, 3004, n, 1, 0⟩

/-- `MEM.CHn.CFG` bits 15:8, RW, SH, reset 0x20 (spec 15_dram) -/
@[simp] def CH_CFG_PAGE_IDLE (n : Nat) : Fld := ⟨14, 3005, n, 8, 32⟩

/-- `MEM.CHn.QOS` bits 31:28, RW, SH, reset 0x3 (spec 15_dram) -/
@[simp] def CH_QOS_WEIGHT (n : Nat) : Fld := ⟨14, 3006, n, 4, 3⟩

/-- `MEM.CHn.QOS` bits 27:16, RW, SH, reset 0x064 (spec 15_dram) -/
@[simp] def CH_QOS_AGE_MAX (n : Nat) : Fld := ⟨14, 3007, n, 12, 100⟩

/-- `MEM.CHn.QOS` bits 15:8, RW, SH, reset 0x30 (spec 15_dram) -/
@[simp] def CH_QOS_WR_HI (n : Nat) : Fld := ⟨14, 3008, n, 8, 48⟩

/-- `MEM.CHn.QOS` bits 7:0, RW, SH, reset 0x10 (spec 15_dram) -/
@[simp] def CH_QOS_WR_LO (n : Nat) : Fld := ⟨14, 3009, n, 8, 16⟩

/-- `MEM.CHn.TRAIN` bits 31:22, RW, reset 0x064 (spec 15_dram) -/
@[simp] def CH_TRAIN_RETRAIN_MS (n : Nat) : Fld := ⟨14, 102, n, 10, 100⟩

/-- `MEM.CHn.TRAIN` bits 21:16, RW, reset 0x0A (spec 15_dram) -/
@[simp] def CH_TRAIN_TEMP_DELTA (n : Nat) : Fld := ⟨14, 103, n, 6, 10⟩

/-- `MEM.CHn.TRAIN` bits 15:8, RW, reset 0x08 (spec 15_dram) -/
@[simp] def CH_TRAIN_MARGIN_MIN (n : Nat) : Fld := ⟨14, 104, n, 8, 8⟩

/-- `MEM.CHn.TRAIN` bits 7:0, RW, reset 0x06 (spec 15_dram) -/
@[simp] def CH_TRAIN_VREF_MIN (n : Nat) : Fld := ⟨14, 105, n, 8, 6⟩

/-- `MEM.CHn.CE_RATE` bits 31:16, RW, reset 0x0040 (spec 15_dram) -/
@[simp] def CH_CE_RATE_CE_TH (n : Nat) : Fld := ⟨14, 106, n, 16, 64⟩

/-- `MEM.CHn.CE_RATE` bits 15:0, RW, reset 0x03E8 (spec 15_dram) -/
@[simp] def CH_CE_RATE_CE_WIN (n : Nat) : Fld := ⟨14, 107, n, 16, 1000⟩

/-- `MEM.CHn.FREQ` bits 31, W1S, reset 0x0 (spec 15_dram) -/
@[simp] def CH_FREQ_REQ (n : Nat) : Fld := ⟨14, 108, n, 1, 0⟩

/-- `MEM.CHn.FREQ` bits 30, WO, reset 0x0 (spec 15_dram) -/
@[simp] def CH_FREQ_URGENT (n : Nat) : Fld := ⟨14, 109, n, 1, 0⟩

/-- `MEM.CHn.FREQ` bits 1:0, WO, reset 0x0 (spec 15_dram) -/
@[simp] def CH_FREQ_SP (n : Nat) : Fld := ⟨14, 110, n, 2, 0⟩

/-- `MEM.CHn.STAT` bits 31:29, RO, reset 0x0 (spec 15_dram) -/
@[simp] def CH_STAT_STATE (n : Nat) : Fld := ⟨14, 111, n, 3, 0⟩

/-- `MEM.CHn.STAT` bits 28:27, RO, reset 0x0 (spec 15_dram) -/
@[simp] def CH_STAT_SP (n : Nat) : Fld := ⟨14, 112, n, 2, 0⟩

/-- `MEM.CHn.STAT` bits 26:25, RO, reset 0x0 (spec 15_dram) -/
@[simp] def CH_STAT_SP_PEND (n : Nat) : Fld := ⟨14, 113, n, 2, 0⟩

/-- `MEM.CHn.STAT` bits 24, RO, reset 0x0 (spec 15_dram) -/
@[simp] def CH_STAT_PEND (n : Nat) : Fld := ⟨14, 114, n, 1, 0⟩

/-- `MEM.CHn.STAT` bits 23, RO, reset 0x0 (spec 15_dram) -/
@[simp] def CH_STAT_MARGIN_LOW (n : Nat) : Fld := ⟨14, 115, n, 1, 0⟩

/-- `MEM.CHn.STAT` bits 22, RO, reset 0x0 (spec 15_dram) -/
@[simp] def CH_STAT_ERASED (n : Nat) : Fld := ⟨14, 116, n, 1, 0⟩

/-- `MEM.CHn.STAT` bits 21:18, RO, reset 0x0 (spec 15_dram) -/
@[simp] def CH_STAT_ERASED_DEV (n : Nat) : Fld := ⟨14, 117, n, 4, 0⟩

/-- `MEM.CHn.STAT` bits 13:0, RO, reset 0x0000 (spec 15_dram) -/
@[simp] def CH_STAT_RATE (n : Nat) : Fld := ⟨14, 118, n, 14, 0⟩

/-- `MEM.CHn.EVT` bits 31, STK, reset 0x0 (spec 15_dram) -/
@[simp] def CH_EVT_CE (n : Nat) : Fld := ⟨14, 5100, n, 1, 0⟩

/-- `MEM.CHn.EVT` bits 30, STK, reset 0x0 (spec 15_dram) -/
@[simp] def CH_EVT_UE (n : Nat) : Fld := ⟨14, 5101, n, 1, 0⟩

/-- `MEM.CHn.EVT` bits 29, STK, reset 0x0 (spec 15_dram) -/
@[simp] def CH_EVT_MARGIN_LOW (n : Nat) : Fld := ⟨14, 5102, n, 1, 0⟩

/-- `MEM.CHn.EVT` bits 28, STK, reset 0x0 (spec 15_dram) -/
@[simp] def CH_EVT_CE_RATE (n : Nat) : Fld := ⟨14, 5103, n, 1, 0⟩

/-- `MEM.CHn.EVT` bits 27, STK, reset 0x0 (spec 15_dram) -/
@[simp] def CH_EVT_STEPDOWN (n : Nat) : Fld := ⟨14, 5104, n, 1, 0⟩

/-- `MEM.CHn.EVT` bits 26, STK, reset 0x0 (spec 15_dram) -/
@[simp] def CH_EVT_NO_STEP (n : Nat) : Fld := ⟨14, 5105, n, 1, 0⟩

/-- `MEM.CHn.EVT` bits 25, STK, reset 0x0 (spec 15_dram) -/
@[simp] def CH_EVT_ERASE (n : Nat) : Fld := ⟨14, 5106, n, 1, 0⟩

/-- `MEM.CHn.EVT` bits 24, STK, reset 0x0 (spec 15_dram) -/
@[simp] def CH_EVT_SAFE_FORCED (n : Nat) : Fld := ⟨14, 5107, n, 1, 0⟩

/-- `MEM.CHn.EVT` bits 23, STK, reset 0x0 (spec 15_dram) -/
@[simp] def CH_EVT_TRAIN_FAIL (n : Nat) : Fld := ⟨14, 5108, n, 1, 0⟩

/-- `MEM.CHn.EVT` bits 22, STK, reset 0x0 (spec 15_dram) -/
@[simp] def CH_EVT_ABORTED (n : Nat) : Fld := ⟨14, 5109, n, 1, 0⟩

/-- `MEM.CHn.EVT` bits 21, STK, reset 0x0 (spec 15_dram) -/
@[simp] def CH_EVT_RMW_POISON (n : Nat) : Fld := ⟨14, 5110, n, 1, 0⟩

/-- `MEM.CHn.EVT` bits 20, STK, reset 0x0 (spec 15_dram) -/
@[simp] def CH_EVT_CH_RESET (n : Nat) : Fld := ⟨14, 5111, n, 1, 0⟩

/-- `MEM.CHn.EVT` bits 15:0, RO, reset 0x0000 (spec 15_dram) -/
@[simp] def CH_EVT_UE_CNT (n : Nat) : Fld := ⟨14, 119, n, 16, 0⟩

/-- `MEM.CHn.CE_CNT` bits 31:0, RO, reset 0x0000_0000 (spec 15_dram) -/
@[simp] def CH_CE_CNT_CNT (n : Nat) : Fld := ⟨14, 120, n, 32, 0⟩

/-- `MEM.CHn.ERR_ADDR` bits 27:0, RO, reset 0x000_0000 (spec 15_dram) -/
@[simp] def CH_ERR_ADDR_CW (n : Nat) : Fld := ⟨14, 121, n, 28, 0⟩

/-- `MEM.CHn.ERR_INFO` bits 31:28, RO, reset 0xF (spec 15_dram) -/
@[simp] def CH_ERR_INFO_DEV (n : Nat) : Fld := ⟨14, 122, n, 4, 15⟩

/-- `MEM.CHn.ERR_INFO` bits 23:0, RO, reset 0x00_0000 (spec 15_dram) -/
@[simp] def CH_ERR_INFO_RMW_CNT (n : Nat) : Fld := ⟨14, 123, n, 24, 0⟩

/-- `MEM.CHn.ECC_CFG` bits 31, RW, reset 0x1 (spec 15_dram) -/
@[simp] def CH_ECC_CFG_ERASE_EN (n : Nat) : Fld := ⟨14, 124, n, 1, 1⟩

/-- `MEM.CHn.ECC_CFG` bits 15:0, RW, reset 0x0100 (spec 15_dram) -/
@[simp] def CH_ECC_CFG_DEV_TH (n : Nat) : Fld := ⟨14, 125, n, 16, 256⟩

/-- `MEM.PANIC_CFG` bits 31:28, RW, SH, reset 0xC (spec 15_dram) -/
@[simp] def PANIC_CFG_LVL_IN : Fld := ⟨14, 3000, 0, 4, 12⟩

/-- `MEM.PANIC_CFG` bits 27:24, RW, SH, reset 0x4 (spec 15_dram) -/
@[simp] def PANIC_CFG_LVL_OUT : Fld := ⟨14, 3001, 0, 4, 4⟩

/-- `MEM.PANIC_CFG` bits 23:16, RW, SH, reset 0x0A (spec 15_dram) -/
@[simp] def PANIC_CFG_PANIC_MAX : Fld := ⟨14, 3002, 0, 8, 10⟩

/-- `MEM.PANIC_CFG` bits 14:0, RW, SH, reset 0x7FFF (spec 15_dram) -/
@[simp] def PANIC_CFG_EN : Fld := ⟨14, 3003, 0, 15, 32767⟩

/-- `MEM.PANIC_STAT` bits 31, STK, reset 0x0 (spec 15_dram) -/
@[simp] def PANIC_STAT_LONG : Fld := ⟨14, 5112, 0, 1, 0⟩

/-- `MEM.PANIC_STAT` bits 30:23, RO, reset 0x00 (spec 15_dram) -/
@[simp] def PANIC_STAT_LONG_CNT : Fld := ⟨14, 126, 0, 8, 0⟩

/-- `MEM.PANIC_STAT` bits 14:0, RO, reset 0x0000 (spec 15_dram) -/
@[simp] def PANIC_STAT_LIVE : Fld := ⟨14, 127, 0, 15, 0⟩

/-- `MEM.SCRUB` bits 31, RW, reset 0x1 (spec 15_dram) -/
@[simp] def SCRUB_EN : Fld := ⟨14, 128, 0, 1, 1⟩

/-- `MEM.SCRUB` bits 7:0, RW, reset 0x18 (spec 15_dram) -/
@[simp] def SCRUB_HOURS : Fld := ⟨14, 129, 0, 8, 24⟩

/-- `MEM.BW_STAT` bits 31, STK, reset 0x0 (spec 15_dram) -/
@[simp] def BW_STAT_BW_CEILING : Fld := ⟨14, 5113, 0, 1, 0⟩

/-- `MEM.BW_STAT` bits 30, RO, reset 0x0 (spec 15_dram) -/
@[simp] def BW_STAT_OVER : Fld := ⟨14, 130, 0, 1, 0⟩

/-- `MEM.BW_STAT` bits 9:0, RO, reset 0x000 (spec 15_dram) -/
@[simp] def BW_STAT_PERMILLE : Fld := ⟨14, 131, 0, 10, 0⟩

/-! ### The utility rod -/

/-- `UTL.DFLn.CFG` bits 31, RW, reset 0x0 (spec 16_deflate) -/
@[simp] def DFL_CFG_EN (n : Nat) : Fld := ⟨15, 100, n, 1, 0⟩

/-- `UTL.DFLn.CFG` bits 5:0, RW, reset 0x02 (spec 16_deflate) -/
@[simp] def DFL_CFG_BLOCK (n : Nat) : Fld := ⟨15, 101, n, 6, 2⟩

/-- `UTL.DFLn.RING` bits 23:16, RW, reset 0x10 (spec 16_deflate) -/
@[simp] def DFL_RING_DEPTH (n : Nat) : Fld := ⟨15, 102, n, 8, 16⟩

/-- `UTL.DFLn.RING` bits 9:0, RW, reset 0x000 (spec 16_deflate) -/
@[simp] def DFL_RING_GRAN (n : Nat) : Fld := ⟨15, 103, n, 10, 0⟩

/-- `UTL.DFLn.TAIL and UTL.DFLn.HEAD` bits 7:0, RW, reset 0x00 (spec 16_deflate) -/
@[simp] def DFL_TAIL_SLOT (n : Nat) : Fld := ⟨15, 104, n, 8, 0⟩

/-- `UTL.DFLn.TAIL and UTL.DFLn.HEAD` bits 7:0, RO, reset 0x00 (spec 16_deflate) -/
@[simp] def DFL_HEAD_SLOT (n : Nat) : Fld := ⟨15, 105, n, 8, 0⟩

/-- `UTL.DFLn.STAT` bits 31:30, RO, reset 0x0 (spec 16_deflate) -/
@[simp] def DFL_STAT_STATE (n : Nat) : Fld := ⟨15, 106, n, 2, 0⟩

/-- `UTL.DFLn.STAT` bits 7:0, RO, reset 0x00 (spec 16_deflate) -/
@[simp] def DFL_STAT_SLOT (n : Nat) : Fld := ⟨15, 107, n, 8, 0⟩

/-- `UTL.DFLn.EVT` bits 31, STK, reset 0x0 (spec 16_deflate) -/
@[simp] def DFL_EVT_ERR (n : Nat) : Fld := ⟨15, 5100, n, 1, 0⟩

/-- `UTL.DFLn.EVT` bits 30, STK, reset 0x0 (spec 16_deflate) -/
@[simp] def DFL_EVT_NO_GAIN (n : Nat) : Fld := ⟨15, 5101, n, 1, 0⟩

/-- `UTL.DFLn.EVT` bits 29, STK, reset 0x0 (spec 16_deflate) -/
@[simp] def DFL_EVT_DESC_BAD (n : Nat) : Fld := ⟨15, 5102, n, 1, 0⟩

/-- `UTL.DFLn.EVT` bits 28, STK, reset 0x0 (spec 16_deflate) -/
@[simp] def DFL_EVT_CUT (n : Nat) : Fld := ⟨15, 5103, n, 1, 0⟩

/-- `UTL.DFLn.EVT` bits 15:8, RO, reset 0x00 (spec 16_deflate) -/
@[simp] def DFL_EVT_FIRST_ERR (n : Nat) : Fld := ⟨15, 108, n, 8, 0⟩

/-- `UTL.DFLn.EVT` bits 7:0, RO, reset 0x00 (spec 16_deflate) -/
@[simp] def DFL_EVT_ERR_CNT (n : Nat) : Fld := ⟨15, 109, n, 8, 0⟩

/-- `UTL.DFLn.LOAD` bits 9:0, RO, reset 0x000 (spec 16_deflate) -/
@[simp] def DFL_LOAD_PERMILLE (n : Nat) : Fld := ⟨15, 110, n, 10, 0⟩

/-- `UTL.DMAd.CFG` bits 31, RW, reset 0x0 (spec 17_control_and_events) -/
@[simp] def DMA_CFG_EN (d : Nat) : Fld := ⟨15, 111, d, 1, 0⟩

/-- `UTL.DMAd.CFG` bits 15:8, RO, reset 0x00 (spec 17_control_and_events) -/
@[simp] def DMA_CFG_HEAD (d : Nat) : Fld := ⟨15, 112, d, 8, 0⟩

/-- `UTL.DMAd.CFG` bits 7:0, RW, reset 0x00 (spec 17_control_and_events) -/
@[simp] def DMA_CFG_TAIL (d : Nat) : Fld := ⟨15, 113, d, 8, 0⟩

/-- `UTL.DMAd.EVT` bits 31, STK, reset 0x0 (spec 17_control_and_events) -/
@[simp] def DMA_EVT_ERR (d : Nat) : Fld := ⟨15, 5104, d, 1, 0⟩

/-- `UTL.DMAd.EVT` bits 30, STK, reset 0x0 (spec 17_control_and_events) -/
@[simp] def DMA_EVT_CUT (d : Nat) : Fld := ⟨15, 5105, d, 1, 0⟩

/-- `UTL.DMAd.EVT` bits 15:8, RO, reset 0x00 (spec 17_control_and_events) -/
@[simp] def DMA_EVT_FIRST (d : Nat) : Fld := ⟨15, 114, d, 8, 0⟩

/-- `UTL.DMAd.EVT` bits 7:0, RO, reset 0x00 (spec 17_control_and_events) -/
@[simp] def DMA_EVT_ERR_CNT (d : Nat) : Fld := ⟨15, 115, d, 8, 0⟩

/-- `UTL.THM.CFG` bits 31:22, RW, reset 0x0C8 (spec 19_thermal) -/
@[simp] def THM_CFG_GRACE_MS : Fld := ⟨15, 116, 0, 10, 200⟩

/-- `UTL.THM.CFG` bits 21:12, RW, reset 0x064 (spec 19_thermal) -/
@[simp] def THM_CFG_STEP_MS : Fld := ⟨15, 117, 0, 10, 100⟩

/-- `UTL.THM.CFG` bits 11:9, RW, reset 0x4 (spec 19_thermal) -/
@[simp] def THM_CFG_MAX_STEP : Fld := ⟨15, 118, 0, 3, 4⟩

/-- `UTL.THM.CFG` bits 3:0, RW, reset 0x3 (spec 19_thermal) -/
@[simp] def THM_CFG_HYST : Fld := ⟨15, 119, 0, 4, 3⟩

/-- `UTL.THM.THR` bits 23:16, RW, reset 0x5F (spec 19_thermal) -/
@[simp] def THM_THR_WARN : Fld := ⟨15, 120, 0, 8, 95⟩

/-- `UTL.THM.THR` bits 7:0, RW, reset 0x64 (spec 19_thermal) -/
@[simp] def THM_THR_HOT : Fld := ⟨15, 121, 0, 8, 100⟩

/-- `UTL.THM.BULK` bits 15:0, RW, reset 0x8B00 (spec 19_thermal) -/
@[simp] def THM_BULK_MASK : Fld := ⟨15, 122, 0, 16, 35584⟩

/-- `UTL.THM.STAT` bits 31, RO, reset 0x0 (spec 19_thermal) -/
@[simp] def THM_STAT_REQ : Fld := ⟨15, 123, 0, 1, 0⟩

/-- `UTL.THM.STAT` bits 30, RO, reset 0x0 (spec 19_thermal) -/
@[simp] def THM_STAT_GRACE : Fld := ⟨15, 124, 0, 1, 0⟩

/-- `UTL.THM.STAT` bits 29, RO, reset 0x0 (spec 19_thermal) -/
@[simp] def THM_STAT_RATE : Fld := ⟨15, 125, 0, 1, 0⟩

/-- `UTL.THM.STAT` bits 28, RO, reset 0x0 (spec 19_thermal) -/
@[simp] def THM_STAT_FRDIV_NA : Fld := ⟨15, 126, 0, 1, 0⟩

/-- `UTL.THM.STAT` bits 2:0, RO, reset 0x0 (spec 19_thermal) -/
@[simp] def THM_STAT_STEP : Fld := ⟨15, 127, 0, 3, 0⟩

/-- `UTL.THM.EVT` bits 31, STK, reset 0x0 (spec 19_thermal) -/
@[simp] def THM_EVT_WARN : Fld := ⟨15, 5106, 0, 1, 0⟩

/-- `UTL.THM.EVT` bits 30, STK, reset 0x0 (spec 19_thermal) -/
@[simp] def THM_EVT_HOT : Fld := ⟨15, 5107, 0, 1, 0⟩

/-- `UTL.THM.EVT` bits 29, STK, reset 0x0 (spec 19_thermal) -/
@[simp] def THM_EVT_BROKEN : Fld := ⟨15, 5108, 0, 1, 0⟩

/-- `UTL.THM.EVT` bits 28, STK, reset 0x0 (spec 19_thermal) -/
@[simp] def THM_EVT_STEP_EV : Fld := ⟨15, 5109, 0, 1, 0⟩

/-- `UTL.THM.EVT` bits 15:0, RO, reset 0x0000 (spec 19_thermal) -/
@[simp] def THM_EVT_HOT_CNT : Fld := ⟨15, 128, 0, 16, 0⟩

/-- `UTL.THM.HOT_SRC and UTL.THM.BROKEN` bits 23:0, RO, reset 0x00_0000 (spec 19_thermal) -/
@[simp] def THM_HOT_SRC_S : Fld := ⟨15, 129, 0, 24, 0⟩

/-- `UTL.THM.HOT_SRC and UTL.THM.BROKEN` bits 23:0, RO, reset 0x00_0000 (spec 19_thermal) -/
@[simp] def THM_BROKEN_S : Fld := ⟨15, 130, 0, 24, 0⟩

/-- `UTL.THM.TEMPs` bits 31, RO, reset 0x0 (spec 19_thermal) -/
@[simp] def THM_TEMP_BROKEN (s : Nat) : Fld := ⟨15, 131, s, 1, 0⟩

/-- `UTL.THM.TEMPs` bits 30:29, RO, reset 0x0 (spec 19_thermal) -/
@[simp] def THM_TEMP_REASON (s : Nat) : Fld := ⟨15, 132, s, 2, 0⟩

/-- `UTL.THM.TEMPs` bits 15:0, RO, reset 0x0000 (spec 19_thermal) -/
@[simp] def THM_TEMP_T (s : Nat) : Fld := ⟨15, 133, s, 16, 0⟩

/-- `UTL.CAL.CFG` bits 9:0, RW, reset 0x00A (spec 20_calibration) -/
@[simp] def CAL_CFG_STEP_US : Fld := ⟨15, 134, 0, 10, 10⟩

/-- `UTL.CAL.TRIM_SEL` bits 31:28, RW, reset 0x0 (spec 20_calibration) -/
@[simp] def TRIM_SEL_KIND : Fld := ⟨15, 135, 0, 4, 0⟩

/-- `UTL.CAL.TRIM_SEL` bits 15:0, RW, reset 0x0000 (spec 20_calibration) -/
@[simp] def TRIM_SEL_INSTANCE : Fld := ⟨15, 136, 0, 16, 0⟩

/-- `UTL.CAL.TRIM_VAL` bits 31:16, RO, reset 0x0000 (spec 20_calibration) -/
@[simp] def TRIM_VAL_CODE : Fld := ⟨15, 137, 0, 16, 0⟩

/-- `UTL.CAL.TRIM_VAL` bits 15:0, RW, reset 0x0000 (spec 20_calibration) -/
@[simp] def TRIM_VAL_TARGET : Fld := ⟨15, 138, 0, 16, 0⟩

/-- `UTL.CAL.RUN` bits 31, W1S, reset 0x0 (spec 20_calibration) -/
@[simp] def CAL_RUN_GO : Fld := ⟨15, 139, 0, 1, 0⟩

/-- `UTL.CAL.RUN` bits 30, W1S, reset 0x0 (spec 20_calibration) -/
@[simp] def CAL_RUN_ABORT : Fld := ⟨15, 140, 0, 1, 0⟩

/-- `UTL.CAL.RUN` bits 27:24, WO, reset 0x0 (spec 20_calibration) -/
@[simp] def CAL_RUN_ROUTINE : Fld := ⟨15, 141, 0, 4, 0⟩

/-- `UTL.CAL.RUN` bits 15:0, WO, reset 0x0000 (spec 20_calibration) -/
@[simp] def CAL_RUN_ARG : Fld := ⟨15, 142, 0, 16, 0⟩

/-- `UTL.CAL.TIMEOUT` bits 15:0, RW, reset 0x0000 (spec 20_calibration) -/
@[simp] def CAL_TIMEOUT_MS : Fld := ⟨15, 143, 0, 16, 0⟩

/-- `UTL.CAL.STAT` bits 31:30, RO, reset 0x0 (spec 20_calibration) -/
@[simp] def CAL_STAT_STATE : Fld := ⟨15, 144, 0, 2, 0⟩

/-- `UTL.CAL.STAT` bits 27:24, RO, reset 0x0 (spec 20_calibration) -/
@[simp] def CAL_STAT_ROUTINE : Fld := ⟨15, 145, 0, 4, 0⟩

/-- `UTL.CAL.STAT` bits 19:16, RO, reset 0x0 (spec 20_calibration) -/
@[simp] def CAL_STAT_RESULT : Fld := ⟨15, 146, 0, 4, 0⟩

/-- `UTL.CAL.STAT` bits 15, RO, reset 0x0 (spec 20_calibration) -/
@[simp] def CAL_STAT_WALKING : Fld := ⟨15, 147, 0, 1, 0⟩

/-- `UTL.CAL.EVT` bits 31, STK, reset 0x0 (spec 20_calibration) -/
@[simp] def CAL_EVT_CAL_TIMEOUT : Fld := ⟨15, 5110, 0, 1, 0⟩

/-- `UTL.CAL.EVT` bits 30, STK, reset 0x0 (spec 20_calibration) -/
@[simp] def CAL_EVT_ABANDON : Fld := ⟨15, 5111, 0, 1, 0⟩

/-- `UTL.CAL.EVT` bits 29, STK, reset 0x0 (spec 20_calibration) -/
@[simp] def CAL_EVT_BUSY : Fld := ⟨15, 5112, 0, 1, 0⟩

/-- `UTL.CAL.EVT` bits 27:24, RO, reset 0x0 (spec 20_calibration) -/
@[simp] def CAL_EVT_ROUTINE : Fld := ⟨15, 148, 0, 4, 0⟩

/-- `UTL.CAL.EVT` bits 7:0, RO, reset 0x00 (spec 20_calibration) -/
@[simp] def CAL_EVT_TO_CNT : Fld := ⟨15, 149, 0, 8, 0⟩

/-! ### The always-on block -/

/-- `AON.THR.REC` bits 31, STK, reset 0x0 (spec 19_thermal) -/
@[simp] def THR_REC_VALID : Fld := ⟨16, 5100, 0, 1, 0⟩

/-- `AON.THR.REC` bits 30:28, RO, reset 0x0 (spec 19_thermal) -/
@[simp] def THR_REC_VOTES : Fld := ⟨16, 100, 0, 3, 0⟩

/-- `AON.THR.REC` bits 26:24, RO, reset 0x0 (spec 19_thermal) -/
@[simp] def THR_REC_VBROKEN : Fld := ⟨16, 101, 0, 3, 0⟩

/-- `AON.THR.REC` bits 15:0, RO, reset From the keep store (spec 19_thermal) -/
@[simp] def THR_REC_RESTARTS : Fld := ⟨16, 102, 0, 16, 0⟩

/-- `AON.THR.PEAK` bits 31:16, RO, reset 0x0000 (spec 19_thermal) -/
@[simp] def THR_PEAK_AT_SHUT : Fld := ⟨16, 103, 0, 16, 0⟩

/-- `AON.THR.PEAK` bits 15:0, RO, reset 0x0000 (spec 19_thermal) -/
@[simp] def THR_PEAK_MAX : Fld := ⟨16, 104, 0, 16, 0⟩

/-- `AON.RST.ROD_HOLD` bits 15:0, RW, reset 0x0000 (spec 21_faults_and_recovery) -/
@[simp] def ROD_HOLD_HOLD : Fld := ⟨16, 105, 0, 16, 0⟩

/-- `AON.RST.ROD_STAT` bits 31, STK, reset 0x0 (spec 21_faults_and_recovery) -/
@[simp] def ROD_STAT_FAULT_RST : Fld := ⟨16, 5101, 0, 1, 0⟩

/-- `AON.RST.ROD_STAT` bits 30, STK, reset 0x0 (spec 21_faults_and_recovery) -/
@[simp] def ROD_STAT_HELD : Fld := ⟨16, 5102, 0, 1, 0⟩

/-- `AON.RST.ROD_STAT` bits 15:0, RO, reset 0x0000 (spec 21_faults_and_recovery) -/
@[simp] def ROD_STAT_IN_RESET : Fld := ⟨16, 106, 0, 16, 0⟩

/-- `AON.RST.AUTO` bits 31:28, RW, reset 0x3 (spec 21_faults_and_recovery) -/
@[simp] def RST_AUTO_LIMIT : Fld := ⟨16, 107, 0, 4, 3⟩

/-- `AON.RST.AUTO` bits 27:20, RW, reset 0x0A (spec 21_faults_and_recovery) -/
@[simp] def RST_AUTO_PROBE : Fld := ⟨16, 108, 0, 8, 10⟩

/-- `AON.RST.AUTO` bits 15:0, RW, reset 0xBF82 (spec 21_faults_and_recovery) -/
@[simp] def RST_AUTO_MASK : Fld := ⟨16, 109, 0, 16, 49026⟩

/-- `AON.RST.LAST` bits 31:28, RO, reset 0x0 (spec 21_faults_and_recovery) -/
@[simp] def RST_LAST_ROD : Fld := ⟨16, 110, 0, 4, 0⟩

/-- `AON.RST.LAST` bits 27:24, RO, reset 0x0 (spec 21_faults_and_recovery) -/
@[simp] def RST_LAST_CAUSE : Fld := ⟨16, 111, 0, 4, 0⟩

/-- `AON.RST.LAST` bits 23:16, RO, reset 0x00 (spec 21_faults_and_recovery) -/
@[simp] def RST_LAST_EPOCH : Fld := ⟨16, 112, 0, 8, 0⟩

/-- `AON.RST.LAST` bits 15:0, RO, reset 0x0000 (spec 21_faults_and_recovery) -/
@[simp] def RST_LAST_AUTO_CNT : Fld := ⟨16, 113, 0, 16, 0⟩

/-- `AON.RST.EPOCHk` bits 7:0, RO, reset 0x00 (spec 21_faults_and_recovery) -/
@[simp] def EPOCH_E (k : Nat) (i : Nat) : Fld := ⟨16, 114, k * 4 + i, 8, 0⟩

/-- `AON.RST.BEAM` bits 31, STK, reset 0x0 (spec 21_faults_and_recovery) -/
@[simp] def RST_BEAM_TIMEOUT : Fld := ⟨16, 5103, 0, 1, 0⟩

/-- `AON.RST.BEAM` bits 30, STK, reset 0x0 (spec 21_faults_and_recovery) -/
@[simp] def RST_BEAM_STALE : Fld := ⟨16, 5104, 0, 1, 0⟩

/-- `AON.RST.BEAM` bits 28:24, RO, reset 0x00 (spec 21_faults_and_recovery) -/
@[simp] def RST_BEAM_TO_PORT : Fld := ⟨16, 115, 0, 5, 0⟩

/-- `AON.RST.BEAM` bits 23:16, RO, reset 0x00 (spec 21_faults_and_recovery) -/
@[simp] def RST_BEAM_TO_CNT : Fld := ⟨16, 116, 0, 8, 0⟩

/-- `AON.RST.BEAM` bits 15:0, RO, reset 0x0000 (spec 21_faults_and_recovery) -/
@[simp] def RST_BEAM_STALE_CNT : Fld := ⟨16, 117, 0, 16, 0⟩

/-- `AON.RST.DEV` bits 31:16, WO, reset 0x0000 (spec 21_faults_and_recovery) -/
@[simp] def RST_DEV_KEY : Fld := ⟨16, 118, 0, 16, 0⟩

/-- `AON.RST.DEV` bits 0, W1S, reset 0x0 (spec 21_faults_and_recovery) -/
@[simp] def RST_DEV_WARM : Fld := ⟨16, 119, 0, 1, 0⟩

/-- `AON.RST.CAUSE` bits 31:28, RO, reset 0x0 (spec 21_faults_and_recovery) -/
@[simp] def RST_CAUSE_LAST : Fld := ⟨16, 120, 0, 4, 0⟩

/-- `AON.RST.CAUSE` bits 15:0, RO, reset 0x0000 (spec 21_faults_and_recovery) -/
@[simp] def RST_CAUSE_WARM_CNT : Fld := ⟨16, 121, 0, 16, 0⟩

/-- `AON.RST.POWER_ON` bits 31:0, RO, reset From the keep store (spec 21_faults_and_recovery) -/
@[simp] def POWER_ON_COUNT : Fld := ⟨16, 122, 0, 32, 0⟩

/-- `AON.CLK.STAT` bits 31, STK, reset 0x0 (spec 21_faults_and_recovery) -/
@[simp] def CLK_STAT_XO_EV : Fld := ⟨16, 5105, 0, 1, 0⟩

/-- `AON.CLK.STAT` bits 30, STK, reset 0x0 (spec 21_faults_and_recovery) -/
@[simp] def CLK_STAT_PCIE_EV : Fld := ⟨16, 5106, 0, 1, 0⟩

/-- `AON.CLK.STAT` bits 29, STK, reset 0x0 (spec 21_faults_and_recovery) -/
@[simp] def CLK_STAT_ETH_EV : Fld := ⟨16, 5107, 0, 1, 0⟩

/-- `AON.CLK.STAT` bits 2, RO, reset 0x0 (spec 21_faults_and_recovery) -/
@[simp] def CLK_STAT_ETH_LOST : Fld := ⟨16, 123, 0, 1, 0⟩

/-- `AON.CLK.STAT` bits 1, RO, reset 0x0 (spec 21_faults_and_recovery) -/
@[simp] def CLK_STAT_PCIE_LOST : Fld := ⟨16, 124, 0, 1, 0⟩

/-- `AON.CLK.STAT` bits 0, RO, reset 0x0 (spec 21_faults_and_recovery) -/
@[simp] def CLK_STAT_XO_LOST : Fld := ⟨16, 125, 0, 1, 0⟩

/-- `AON.CLK.CFG` bits 23:16, RW, reset 0x64 (spec 21_faults_and_recovery) -/
@[simp] def CLK_CFG_STABLE_MS : Fld := ⟨16, 126, 0, 8, 100⟩

/-- `AON.CLK.CFG` bits 15:0, RW, reset 0x03E8 (spec 21_faults_and_recovery) -/
@[simp] def CLK_CFG_XO_WIN : Fld := ⟨16, 127, 0, 16, 1000⟩

/-- `AON.ID.LOT, ID.DIE, ID.SERIAL_LO and ID.SERIAL_HI` bits 31:0, RO, reset From fuses (spec 22_address_map) -/
@[simp] def ID_LOT_LOT : Fld := ⟨16, 128, 0, 32, 0⟩

/-- `AON.ID.LOT, ID.DIE, ID.SERIAL_LO and ID.SERIAL_HI` bits 31:24, RO, reset From fuses (spec 22_address_map) -/
@[simp] def ID_DIE_STEP : Fld := ⟨16, 129, 0, 8, 0⟩

/-- `AON.ID.LOT, ID.DIE, ID.SERIAL_LO and ID.SERIAL_HI` bits 23:16, RO, reset From fuses (spec 22_address_map) -/
@[simp] def ID_DIE_Y : Fld := ⟨16, 130, 0, 8, 0⟩

/-- `AON.ID.LOT, ID.DIE, ID.SERIAL_LO and ID.SERIAL_HI` bits 15:8, RO, reset From fuses (spec 22_address_map) -/
@[simp] def ID_DIE_X : Fld := ⟨16, 131, 0, 8, 0⟩

/-- `AON.ID.LOT, ID.DIE, ID.SERIAL_LO and ID.SERIAL_HI` bits 4:0, RO, reset From fuses (spec 22_address_map) -/
@[simp] def ID_DIE_WAFER : Fld := ⟨16, 132, 0, 5, 0⟩

/-- `AON.ID.LOT, ID.DIE, ID.SERIAL_LO and ID.SERIAL_HI` bits 31:0, RO, reset From fuses (spec 22_address_map) -/
@[simp] def ID_SERIAL_V (k : Nat) : Fld := ⟨16, 133, k, 32, 0⟩

/-- `AON.FUSE.WORDk` bits 31:0, RO, reset From fuses (spec 22_address_map) -/
@[simp] def FUSE_WORD_W (k : Nat) : Fld := ⟨16, 134, k, 32, 0⟩

/-! ### The mailbox and doorbell window -/

/-- `MBm.DATAi` bits 31:0, RW, reset 0x0000_0000 (spec 17_control_and_events) -/
@[simp] def MB_DATA_D (m : Nat) (i : Nat) : Fld := ⟨17, 100, m * 16 + i, 32, 0⟩

/-- `MBm.CTRL` bits 31, W1S, reset 0x0 (spec 17_control_and_events) -/
@[simp] def MB_CTRL_GO (m : Nat) : Fld := ⟨17, 101, m, 1, 0⟩

/-- `MBm.CTRL` bits 30, W1S, reset 0x0 (spec 17_control_and_events) -/
@[simp] def MB_CTRL_ARM_WAIT (m : Nat) : Fld := ⟨17, 102, m, 1, 0⟩

/-- `MBm.CTRL` bits 4:0, RW, reset 0x08 (spec 17_control_and_events) -/
@[simp] def MB_CTRL_LEN (m : Nat) : Fld := ⟨17, 103, m, 5, 8⟩

/-- `MBm.STAT` bits 31, RO, reset 0x0 (spec 17_control_and_events) -/
@[simp] def MB_STAT_FULL (m : Nat) : Fld := ⟨17, 104, m, 1, 0⟩

/-- `MBm.STAT` bits 30, STK, reset 0x0 (spec 17_control_and_events) -/
@[simp] def MB_STAT_COLLIDE (m : Nat) : Fld := ⟨17, 5100, m, 1, 0⟩

/-- `MBm.STAT` bits 29, STK, reset 0x0 (spec 17_control_and_events) -/
@[simp] def MB_STAT_RX_RESET_SEEN (m : Nat) : Fld := ⟨17, 5101, m, 1, 0⟩

/-- `MBm.STAT` bits 28, STK, reset 0x0 (spec 17_control_and_events) -/
@[simp] def MB_STAT_CROSS (m : Nat) : Fld := ⟨17, 5102, m, 1, 0⟩

/-- `MBm.STAT` bits 27, RO, reset 0x0 (spec 17_control_and_events) -/
@[simp] def MB_STAT_WAIT_ACK (m : Nat) : Fld := ⟨17, 105, m, 1, 0⟩

/-- `MBm.STAT` bits 26, RO, reset 0x0 (spec 17_control_and_events) -/
@[simp] def MB_STAT_DIRTY (m : Nat) : Fld := ⟨17, 106, m, 1, 0⟩

/-- `MBm.STAT` bits 20:16, RO, reset 0x08 (spec 17_control_and_events) -/
@[simp] def MB_STAT_LEN (m : Nat) : Fld := ⟨17, 107, m, 5, 8⟩

/-- `MBm.STAT` bits 15:0, RO, reset 0x0000 (spec 17_control_and_events) -/
@[simp] def MB_STAT_SEQ (m : Nat) : Fld := ⟨17, 108, m, 16, 0⟩

/-- `MBm.TAKE` bits 31, RO, reset 0x0 (spec 17_control_and_events) -/
@[simp] def MB_TAKE_VALID (m : Nat) : Fld := ⟨17, 109, m, 1, 0⟩

/-- `MBm.TAKE` bits 30, RO, reset 0x0 (spec 17_control_and_events) -/
@[simp] def MB_TAKE_DIRTY (m : Nat) : Fld := ⟨17, 110, m, 1, 0⟩

/-- `MBm.TAKE` bits 20:16, RO, reset 0x00 (spec 17_control_and_events) -/
@[simp] def MB_TAKE_LEN (m : Nat) : Fld := ⟨17, 111, m, 5, 0⟩

/-- `MBm.TAKE` bits 15:0, RO, reset 0x0000 (spec 17_control_and_events) -/
@[simp] def MB_TAKE_SEQ (m : Nat) : Fld := ⟨17, 112, m, 16, 0⟩

/-- `MBm.EPOCH` bits 23:16, RO, reset 0x00 (spec 17_control_and_events) -/
@[simp] def MB_EPOCH_RX_EPOCH (m : Nat) : Fld := ⟨17, 113, m, 8, 0⟩

/-- `MBm.EPOCH` bits 15:8, RO, reset 0x00 (spec 17_control_and_events) -/
@[simp] def MB_EPOCH_TX_EPOCH (m : Nat) : Fld := ⟨17, 114, m, 8, 0⟩

/-- `MBm.EPOCH` bits 7:0, RO, reset 0x00 (spec 17_control_and_events) -/
@[simp] def MB_EPOCH_SENDER_EPOCH (m : Nat) : Fld := ⟨17, 115, m, 8, 0⟩

/-- `DBa.SET_LO, SET_HI, STAT_LO and STAT_HI` bits 31:0, W1S, reset 0x0000_0000 (spec 17_control_and_events) -/
@[simp] def DB_SET_B (a : Nat) (h : Nat) : Fld := ⟨17, 116, a * 2 + h, 32, 0⟩

/-- `DBa.SET_LO, SET_HI, STAT_LO and STAT_HI` bits 31:0, W1C, reset 0x0000_0000 (spec 17_control_and_events) -/
@[simp] def DB_STAT_B (a : Nat) (h : Nat) : Fld := ⟨17, 117, a * 2 + h, 32, 0⟩

end Sys2Proof.Machine.R
end

