-- ==== Sys2Proof/Machine/RegMap.lean ====
section
/-!
DEFINITION. The register map (spec/22 R499, R500): for each block the fields that its words hold, with their offset in
the block, their type, their range on write (R504), their commit domain (R505) and the counts that writing 1 clears.
-/

namespace Sys2Proof.Machine

open R

/-- Fields of the registers every block has, part 0. -/
def rowsRod0 : List Row :=
  [ ⟨fun rod ix => LN_CTL_EN rod ix, 0x70000, [⟨64, 0, 70⟩], 31, .rw, .any, fun _ _ => []⟩,
    ⟨fun rod ix => LN_CTL_POL_MODE rod ix, 0x70000, [⟨64, 0, 70⟩], 29, .rw, .iv 0 2 1, fun _ _ => []⟩,
    ⟨fun rod ix => LN_CTL_TX_INV rod ix, 0x70000, [⟨64, 0, 70⟩], 28, .rw, .any, fun _ _ => []⟩,
    ⟨fun rod ix => LN_CTL_AUTO_RETRAIN rod ix, 0x70000, [⟨64, 0, 70⟩], 27, .rw, .any, fun _ _ => []⟩,
    ⟨fun rod ix => LN_CTL_REV rod ix, 0x70000, [⟨64, 0, 70⟩], 26, .rw, .any, fun _ _ => []⟩,
    ⟨fun rod ix => LN_CTL_SSC rod ix, 0x70000, [⟨64, 0, 70⟩], 24, .rw, .iv 0 1 1, fun _ _ => []⟩,
    ⟨fun rod ix => LN_CTL_USE rod ix, 0x70000, [⟨64, 0, 70⟩], 20, .ro, .any, fun _ _ => []⟩,
    ⟨fun rod ix => LN_RATE_KBPS rod ix, 0x70004, [⟨64, 0, 70⟩], 0, .rw, .any, fun _ _ => []⟩,
    ⟨fun rod ix => LN_CMD_GO rod ix, 0x70008, [⟨64, 0, 70⟩], 3, .w1s, .any, fun _ _ => []⟩,
    ⟨fun rod ix => LN_CMD_FROM rod ix, 0x70008, [⟨64, 0, 70⟩], 0, .wo, .any, fun _ _ => []⟩,
    ⟨fun rod ix => LN_STAT_STATE rod ix, 0x7000C, [⟨64, 0, 70⟩], 28, .ro, .any, fun _ _ => []⟩,
    ⟨fun rod ix => LN_STAT_FAULT rod ix, 0x7000C, [⟨64, 0, 70⟩], 24, .ro, .any, fun _ _ => []⟩,
    ⟨fun rod ix => LN_STAT_LOS rod ix, 0x7000C, [⟨64, 0, 70⟩], 23, .ro, .any, fun _ _ => []⟩,
    ⟨fun rod ix => LN_STAT_LOL rod ix, 0x7000C, [⟨64, 0, 70⟩], 22, .ro, .any, fun _ _ => []⟩,
    ⟨fun rod ix => LN_STAT_POL rod ix, 0x7000C, [⟨64, 0, 70⟩], 21, .ro, .any, fun _ _ => []⟩,
    ⟨fun rod ix => LN_STAT_FROZEN rod ix, 0x7000C, [⟨64, 0, 70⟩], 20, .ro, .any, fun _ _ => []⟩,
    ⟨fun rod ix => LN_STAT_REVERSED rod ix, 0x7000C, [⟨64, 0, 70⟩], 19, .ro, .any, fun _ _ => []⟩,
    ⟨fun rod ix => LN_STAT_RETRY rod ix, 0x7000C, [⟨64, 0, 70⟩], 12, .ro, .any, fun _ _ => []⟩,
    ⟨fun rod ix => LN_EVT_LOS_EV rod ix, 0x70010, [⟨64, 0, 70⟩], 31, .stk, .any, fun rod ix => [LN_EVT_LOS_CNT rod ix]⟩,
    ⟨fun rod ix => LN_EVT_LOL_EV rod ix, 0x70010, [⟨64, 0, 70⟩], 30, .stk, .any, fun rod ix => [LN_EVT_LOL_CNT rod ix]⟩,
    ⟨fun rod ix => LN_EVT_FAULT_EV rod ix, 0x70010, [⟨64, 0, 70⟩], 29, .stk, .any, fun _ _ => []⟩,
    ⟨fun rod ix => LN_EVT_ADAPT_WEAK rod ix, 0x70010, [⟨64, 0, 70⟩], 28, .stk, .any, fun _ _ => []⟩,
    ⟨fun rod ix => LN_EVT_EXIT_SLOW rod ix, 0x70010, [⟨64, 0, 70⟩], 27, .stk, .any, fun _ _ => []⟩,
    ⟨fun rod ix => LN_EVT_POL_FLIP rod ix, 0x70010, [⟨64, 0, 70⟩], 26, .stk, .any, fun _ _ => []⟩,
    ⟨fun rod ix => LN_EVT_PRBS_ERR rod ix, 0x70010, [⟨64, 0, 70⟩], 25, .stk, .any, fun _ _ => []⟩,
    ⟨fun rod ix => LN_EVT_LOS_CNT rod ix, 0x70010, [⟨64, 0, 70⟩], 8, .ro, .any, fun _ _ => []⟩,
    ⟨fun rod ix => LN_EVT_LOL_CNT rod ix, 0x70010, [⟨64, 0, 70⟩], 0, .ro, .any, fun _ _ => []⟩,
    ⟨fun rod ix => LN_DET_LOS_TH rod ix, 0x70014, [⟨64, 0, 70⟩], 28, .rw, .any, fun _ _ => []⟩,
    ⟨fun rod ix => LN_DET_LOS_ON rod ix, 0x70014, [⟨64, 0, 70⟩], 20, .rw, .iv 1 255 1, fun _ _ => []⟩,
    ⟨fun rod ix => LN_DET_LOS_OFF rod ix, 0x70014, [⟨64, 0, 70⟩], 12, .rw, .iv 1 255 1, fun _ _ => []⟩,
    ⟨fun rod ix => LN_DET_LOL_WIN rod ix, 0x70014, [⟨64, 0, 70⟩], 10, .rw, .any, fun _ _ => []⟩,
    ⟨fun rod ix => LN_DET_FREQ_WIN rod ix, 0x70014, [⟨64, 0, 70⟩], 0, .rw, .iv 20 600 1, fun _ _ => []⟩,
    ⟨fun rod ix => LN_ADAPT_MODE rod ix, 0x70018, [⟨64, 0, 70⟩], 30, .rw, .iv 0 2 1, fun _ _ => []⟩,
    ⟨fun rod ix => LN_ADAPT_DENS_MIN rod ix, 0x70018, [⟨64, 0, 70⟩], 24, .rw, .iv 1 32 1, fun _ _ => []⟩,
    ⟨fun rod ix => LN_ADAPT_FRZ_RUN rod ix, 0x70018, [⟨64, 0, 70⟩], 20, .rw, .iv 1 15 1, fun _ _ => []⟩,
    ⟨fun rod ix => LN_ADAPT_THAW_RUN rod ix, 0x70018, [⟨64, 0, 70⟩], 16, .rw, .iv 1 15 1, fun _ _ => []⟩,
    ⟨fun rod ix => LN_ADAPT_IDLE_HOLD rod ix, 0x70018, [⟨64, 0, 70⟩], 6, .rw, .iv 1 1000 1, fun _ _ => []⟩,
    ⟨fun rod ix => LN_TXFIR_MAIN rod ix, 0x7001C, [⟨64, 0, 70⟩], 24, .rw, .iv 24 64 1, fun _ _ => []⟩,
    ⟨fun rod ix => LN_TXFIR_PRE rod ix, 0x7001C, [⟨64, 0, 70⟩], 16, .rw, .iv 0 16 1, fun _ _ => []⟩,
    ⟨fun rod ix => LN_TXFIR_POST rod ix, 0x7001C, [⟨64, 0, 70⟩], 8, .rw, .iv 0 24 1, fun _ _ => []⟩ ]

/-- Fields of the registers every block has, part 1. -/
def rowsRod1 : List Row :=
  [ ⟨fun rod ix => LN_TXFIR_AMP rod ix, 0x7001C, [⟨64, 0, 70⟩], 0, .rw, .iv 0 12 1, fun _ _ => []⟩,
    ⟨fun rod ix => LN_PRBS_CHK_EN rod ix, 0x70020, [⟨64, 0, 70⟩], 31, .rw, .any, fun _ _ => []⟩,
    ⟨fun rod ix => LN_PRBS_GEN_EN rod ix, 0x70020, [⟨64, 0, 70⟩], 30, .rw, .any, fun _ _ => []⟩,
    ⟨fun rod ix => LN_PRBS_PATTERN rod ix, 0x70020, [⟨64, 0, 70⟩], 27, .rw, .iv 0 4 1, fun _ _ => []⟩,
    ⟨fun rod ix => LN_PRBS_SYNC rod ix, 0x70020, [⟨64, 0, 70⟩], 26, .ro, .any, fun _ _ => []⟩,
    ⟨fun rod ix => LN_PRBS_ERR rod ix, 0x70020, [⟨64, 0, 70⟩], 0, .ro, .any, fun _ _ => []⟩,
    ⟨fun rod ix => EVT_STAT rod ix, 0x78000, [⟨4, 0, 6⟩, ⟨0, 1, 32⟩], 0, .stk, .any, fun _ _ => []⟩,
    ⟨fun rod ix => EVT_MASK rod ix, 0x78040, [⟨4, 0, 6⟩, ⟨0, 1, 32⟩], 0, .rw, .any, fun _ _ => []⟩,
    ⟨fun rod _ => EVT_AGG_PEND rod, 0x78080, [], 31, .ro, .any, fun _ _ => []⟩,
    ⟨fun rod _ => EVT_AGG_ROUTES rod, 0x78080, [], 0, .ro, .any, fun _ _ => []⟩,
    ⟨fun rod ix => EVT_RT_VECTOR rod ix, 0x78800, [⟨4, 0, 192⟩], 8, .rw, .sets [(0, 63), (255, 255)], fun _ _ => []⟩,
    ⟨fun rod ix => EVT_RT_ROUTE rod ix, 0x78800, [⟨4, 0, 192⟩], 0, .rw, .any, fun _ _ => []⟩,
    ⟨fun rod _ => COMMIT_REQ rod, 0x0, [], 31, .w1s, .any, fun _ _ => []⟩,
    ⟨fun rod _ => COMMIT_PEND rod, 0x0, [], 0, .ro, .any, fun _ _ => []⟩,
    ⟨fun rod _ => COMMIT_BAD_BAD rod, 0x4, [], 31, .stk, .any, fun rod _ => [COMMIT_BAD_CNT rod]⟩,
    ⟨fun rod _ => COMMIT_BAD_RULE rod, 0x4, [], 16, .ro, .any, fun _ _ => []⟩,
    ⟨fun rod _ => COMMIT_BAD_DOMAIN rod, 0x4, [], 12, .ro, .any, fun _ _ => []⟩,
    ⟨fun rod _ => COMMIT_BAD_CNT rod, 0x4, [], 0, .ro, .any, fun _ _ => []⟩,
    ⟨fun rod _ => WR_RANGE_WR rod, 0x8, [], 31, .stk, .any, fun rod _ => [WR_RANGE_CNT rod]⟩,
    ⟨fun rod _ => WR_RANGE_CNT rod, 0x8, [], 25, .ro, .any, fun _ _ => []⟩,
    ⟨fun rod _ => WR_RANGE_ADDR rod, 0x8, [], 0, .ro, .any, fun _ _ => []⟩ ]

/-- Fields of the registers every block has. -/
def rowsRod : List Row := rowsRod0 ++ rowsRod1

/-- Fields of the control rod, part 0. -/
def rowsCtl0 : List Row :=
  [ ⟨fun _ _ => TRAY_ECC_UNCORR, 0xC040, [], 31, .stk, .any, fun _ _ => []⟩,
    ⟨fun _ _ => TRAY_ECC_CORR, 0xC040, [], 30, .stk, .any, fun _ _ => [TRAY_ECC_CORR_CNT]⟩,
    ⟨fun _ _ => TRAY_ECC_UNC_GRAN, 0xC040, [], 16, .ro, .any, fun _ _ => []⟩,
    ⟨fun _ _ => TRAY_ECC_CORR_CNT, 0xC040, [], 0, .ro, .any, fun _ _ => []⟩,
    ⟨fun _ _ => TRAY_ACC_DENIED, 0xC044, [], 31, .stk, .any, fun _ _ => [TRAY_ACC_CNT]⟩,
    ⟨fun _ _ => TRAY_ACC_PORT, 0xC044, [], 21, .ro, .any, fun _ _ => []⟩,
    ⟨fun _ _ => TRAY_ACC_WR, 0xC044, [], 20, .ro, .any, fun _ _ => []⟩,
    ⟨fun _ _ => TRAY_ACC_GRAN, 0xC044, [], 10, .ro, .any, fun _ _ => []⟩,
    ⟨fun _ _ => TRAY_ACC_CNT, 0xC044, [], 0, .ro, .any, fun _ _ => []⟩,
    ⟨fun _ _ => LOAD_STAT_CODE, 0xC100, [], 24, .ro, .any, fun _ _ => []⟩,
    ⟨fun _ _ => LOAD_STAT_SECT, 0xC100, [], 16, .ro, .any, fun _ _ => []⟩,
    ⟨fun _ _ => LOAD_STAT_RECORD, 0xC100, [], 0, .ro, .any, fun _ _ => []⟩,
    ⟨fun _ _ => IMAGE_ID_ID, 0xC104, [], 0, .ro, .any, fun _ _ => []⟩,
    ⟨fun _ ix => DIGEST_D ix, 0xC108, [⟨4, 0, 12⟩], 0, .ro, .any, fun _ _ => []⟩,
    ⟨fun _ _ => PATCH_CMD_ABORT, 0xC140, [], 1, .w1s, .any, fun _ _ => []⟩,
    ⟨fun _ _ => PATCH_CMD_GO, 0xC140, [], 0, .w1s, .any, fun _ _ => []⟩,
    ⟨fun _ _ => PATCH_STAT_STATE, 0xC144, [], 29, .ro, .any, fun _ _ => []⟩,
    ⟨fun _ _ => PATCH_STAT_BUSY_GO, 0xC144, [], 28, .stk, .any, fun _ _ => []⟩,
    ⟨fun _ _ => PATCH_STAT_CODE, 0xC144, [], 16, .ro, .any, fun _ _ => []⟩,
    ⟨fun _ _ => PATCH_STAT_DRAINED, 0xC144, [], 0, .ro, .any, fun _ _ => []⟩,
    ⟨fun _ _ => PATCH_DETAIL_SECT, 0xC148, [], 16, .ro, .any, fun _ _ => []⟩,
    ⟨fun _ _ => PATCH_DETAIL_RECORD, 0xC148, [], 0, .ro, .any, fun _ _ => []⟩,
    ⟨fun _ _ => PATCH_TAG_T, 0xC14C, [], 0, .ro, .any, fun _ _ => []⟩,
    ⟨fun _ _ => ARM_TIMEOUT_MS, 0xC150, [], 0, .rw, .iv 1 1000 1, fun _ _ => []⟩,
    ⟨fun _ _ => DROP_STAT_DROPPED, 0xC154, [], 31, .stk, .any, fun _ _ => [DROP_STAT_CNT]⟩,
    ⟨fun _ _ => DROP_STAT_STREAM, 0xC154, [], 16, .ro, .any, fun _ _ => []⟩,
    ⟨fun _ _ => DROP_STAT_CNT, 0xC154, [], 0, .ro, .any, fun _ _ => []⟩,
    ⟨fun _ ix => ROD_SRC_ID ix, 0xC160, [⟨4, 0, 16⟩], 0, .ro, .any, fun _ _ => []⟩,
    ⟨fun _ _ => FTAG_LAST_TAG, 0xC200, [], 0, .ro, .any, fun _ _ => []⟩,
    ⟨fun _ _ => SUBST_CMD_ROD, 0xC300, [], 8, .wo, .any, fun _ _ => []⟩,
    ⟨fun _ _ => SUBST_CMD_RETURN, 0xC300, [], 1, .w1s, .any, fun _ _ => []⟩,
    ⟨fun _ _ => SUBST_CMD_TEST, 0xC300, [], 0, .w1s, .any, fun _ _ => []⟩,
    ⟨fun _ _ => SUBST_STAT_ACTIVE, 0xC304, [], 31, .ro, .any, fun _ _ => []⟩,
    ⟨fun _ _ => SUBST_STAT_SUB_EV, 0xC304, [], 30, .stk, .any, fun _ _ => [SUBST_STAT_CONC_CNT]⟩,
    ⟨fun _ _ => SUBST_STAT_LOST, 0xC304, [], 29, .stk, .any, fun _ _ => []⟩,
    ⟨fun _ _ => SUBST_STAT_SPARE_LOST, 0xC304, [], 28, .stk, .any, fun _ _ => []⟩,
    ⟨fun _ _ => SUBST_STAT_STRIPE, 0xC304, [], 24, .ro, .any, fun _ _ => []⟩,
    ⟨fun _ _ => SUBST_STAT_FROM, 0xC304, [], 16, .ro, .any, fun _ _ => []⟩,
    ⟨fun _ _ => SUBST_STAT_CONC_CNT, 0xC304, [], 0, .ro, .any, fun _ _ => []⟩,
    ⟨fun _ _ => SUBST_TAG_TAG, 0xC308, [], 0, .ro, .any, fun _ _ => []⟩ ]

/-- Fields of the control rod, part 1. -/
def rowsCtl1 : List Row :=
  [ ⟨fun _ _ => PIC_RING_REGION, 0xC400, [], 24, .rw, .any, fun _ _ => []⟩,
    ⟨fun _ _ => PIC_RING_NBUF, 0xC400, [], 20, .rw, .iv 3 15 1, fun _ _ => []⟩,
    ⟨fun _ _ => PIC_RING_BUF_MIB, 0xC400, [], 0, .rw, .iv 1 4095 1, fun _ _ => []⟩,
    ⟨fun _ _ => PIC_DESC_DEPTH, 0xC404, [], 16, .rw, .iv 4 16 1, fun _ _ => []⟩,
    ⟨fun _ _ => PIC_DESC_GRAN, 0xC404, [], 0, .rw, .any, fun _ _ => []⟩,
    ⟨fun _ _ => PIC_READERS_MASK, 0xC408, [], 0, .rw, .any, fun _ _ => []⟩,
    ⟨fun _ _ => PIC_STAT_NOBUF, 0xC40C, [], 31, .stk, .any, fun _ _ => [PIC_STAT_CNT]⟩,
    ⟨fun _ _ => PIC_STAT_CNT, 0xC40C, [], 0, .ro, .any, fun _ _ => []⟩,
    ⟨fun _ ix => SLOT_BASE_GRAN ix, 0xC500, [⟨16, 0, 4⟩], 0, .rw, .iv 0 998 1, fun _ _ => []⟩,
    ⟨fun _ ix => SLOT_CRC_CRC ix, 0xC504, [⟨16, 0, 4⟩], 0, .rw, .any, fun _ _ => []⟩,
    ⟨fun _ ix => SLOT_CMD_INVAL ix, 0xC508, [⟨16, 0, 4⟩], 1, .w1s, .any, fun _ _ => []⟩,
    ⟨fun _ ix => SLOT_CMD_CHECK ix, 0xC508, [⟨16, 0, 4⟩], 0, .w1s, .any, fun _ _ => []⟩,
    ⟨fun _ ix => SLOT_STAT_STATE ix, 0xC50C, [⟨16, 0, 4⟩], 30, .ro, .any, fun _ _ => []⟩,
    ⟨fun _ ix => SLOT_STAT_BAD_EV ix, 0xC50C, [⟨16, 0, 4⟩], 29, .stk, .any, fun _ _ => []⟩,
    ⟨fun _ _ => STS_RING_DEPTH, 0xC600, [], 16, .rw, .iv 2 7 1, fun _ _ => []⟩,
    ⟨fun _ _ => STS_RING_GRAN, 0xC600, [], 0, .rw, .any, fun _ _ => []⟩,
    ⟨fun _ _ => BAR4_GRAN, 0xD100, [], 0, .rw, .iv 0 1008 1, fun _ _ => []⟩,
    ⟨fun _ _ => HEP_STAT_SIZE_ERR, 0xD104, [], 31, .stk, .any, fun _ _ => []⟩,
    ⟨fun _ _ => HEP_STAT_RETIRED, 0xD104, [], 30, .stk, .any, fun _ _ => [HEP_STAT_RETIRED_CNT]⟩,
    ⟨fun _ _ => HEP_STAT_RETIRED_CNT, 0xD104, [], 0, .ro, .any, fun _ _ => []⟩,
    ⟨fun _ _ => ROD_PEND_AON, 0xD000, [], 16, .ro, .any, fun _ _ => []⟩,
    ⟨fun _ _ => ROD_PEND_ROD, 0xD000, [], 0, .ro, .any, fun _ _ => []⟩,
    ⟨fun _ ix => IRQ_AON ix, 0xD010, [⟨4, 0, 4⟩], 16, .ro, .any, fun _ _ => []⟩,
    ⟨fun _ ix => IRQ_ROD ix, 0xD010, [⟨4, 0, 4⟩], 0, .ro, .any, fun _ _ => []⟩,
    ⟨fun _ _ => FH_HEAD_NEXT, 0xD020, [], 0, .ro, .any, fun _ _ => []⟩,
    ⟨fun _ _ => CLOG_SEQ_NEXT_SEQ, 0xD040, [], 0, .ro, .any, fun _ _ => []⟩,
    ⟨fun _ _ => CLOG_STAT_LOST, 0xD044, [], 31, .stk, .any, fun _ _ => [CLOG_STAT_LOST_CNT]⟩,
    ⟨fun _ _ => CLOG_STAT_LOST_CNT, 0xD044, [], 0, .ro, .any, fun _ _ => []⟩,
    ⟨fun _ _ => SEC_STAT_LIFECYCLE, 0xC800, [], 30, .ro, .any, fun _ _ => []⟩,
    ⟨fun _ _ => SEC_STAT_DEBUG, 0xC800, [], 28, .ro, .any, fun _ _ => []⟩,
    ⟨fun _ _ => SEC_STAT_CREV, 0xC800, [], 24, .ro, .any, fun _ _ => []⟩,
    ⟨fun _ _ => SEC_STAT_LREV, 0xC800, [], 20, .ro, .any, fun _ _ => []⟩,
    ⟨fun _ _ => SEC_STAT_CPROG, 0xC800, [], 16, .ro, .any, fun _ _ => []⟩,
    ⟨fun _ _ => SEC_STAT_CSVN, 0xC800, [], 8, .ro, .any, fun _ _ => []⟩,
    ⟨fun _ _ => SEC_STAT_LSVN, 0xC800, [], 0, .ro, .any, fun _ _ => []⟩,
    ⟨fun _ _ => FW_STAT_CODE, 0xC804, [], 24, .ro, .any, fun _ _ => []⟩,
    ⟨fun _ _ => FW_STAT_SVN, 0xC804, [], 16, .ro, .any, fun _ _ => []⟩,
    ⟨fun _ _ => SEC_OP_STATE, 0xC808, [], 30, .ro, .any, fun _ _ => []⟩,
    ⟨fun _ _ => SEC_OP_SERVICE, 0xC808, [], 16, .ro, .any, fun _ _ => []⟩,
    ⟨fun _ _ => SEC_OP_CODE, 0xC808, [], 8, .ro, .any, fun _ _ => []⟩ ]

/-- Fields of the control rod, part 2. -/
def rowsCtl2 : List Row :=
  [ ⟨fun _ _ => SEC_LMS_EXHAUSTED, 0xC80C, [], 31, .ro, .any, fun _ _ => []⟩,
    ⟨fun _ _ => SEC_LMS_STATE_BAD, 0xC80C, [], 30, .ro, .any, fun _ _ => []⟩,
    ⟨fun _ _ => SEC_LMS_LEFT, 0xC80C, [], 0, .ro, .any, fun _ _ => []⟩,
    ⟨fun _ _ => SEC_EVT_TOKEN_BAD, 0xC810, [], 31, .stk, .any, fun _ _ => []⟩,
    ⟨fun _ _ => SEC_EVT_JTAG_DENY, 0xC810, [], 30, .stk, .any, fun _ _ => []⟩,
    ⟨fun _ _ => SEC_EVT_SEC_RESTART, 0xC810, [], 29, .stk, .any, fun _ _ => []⟩,
    ⟨fun _ _ => SEC_EVT_LMS_BAD, 0xC810, [], 28, .stk, .any, fun _ _ => []⟩,
    ⟨fun _ _ => PWR_REQ_GO, 0xC900, [], 31, .w1s, .any, fun _ _ => []⟩,
    ⟨fun _ _ => PWR_REQ_TARGET, 0xC900, [], 29, .wo, .any, fun _ _ => []⟩,
    ⟨fun _ _ => PWR_REQ_WAKE_TRG, 0xC900, [], 16, .rw, .sets [(0, 15), (31, 31)], fun _ _ => []⟩,
    ⟨fun _ _ => PWR_STAT_STATE, 0xC904, [], 29, .ro, .any, fun _ _ => []⟩,
    ⟨fun _ _ => PWR_STAT_TARGET, 0xC904, [], 27, .ro, .any, fun _ _ => []⟩,
    ⟨fun _ _ => PWR_STAT_REFUSED, 0xC904, [], 26, .stk, .any, fun _ _ => []⟩,
    ⟨fun _ _ => PWR_STAT_IMAGE_WAIT, 0xC904, [], 25, .ro, .any, fun _ _ => []⟩,
    ⟨fun _ _ => PWR_STAT_DRAIN_CUT, 0xC904, [], 24, .stk, .any, fun _ _ => []⟩,
    ⟨fun _ _ => PWR_STAT_ROD_ON, 0xC904, [], 0, .ro, .any, fun _ _ => []⟩,
    ⟨fun _ _ => KEEP_STAT_CAL_BAD, 0xCA00, [], 31, .stk, .any, fun _ _ => []⟩,
    ⟨fun _ _ => KEEP_STAT_WRITE_ERR, 0xCA00, [], 30, .stk, .any, fun _ _ => []⟩,
    ⟨fun _ _ => KEEP_STAT_COPY, 0xCA00, [], 29, .ro, .any, fun _ _ => []⟩,
    ⟨fun _ _ => KEEP_GEN_GEN, 0xCA04, [], 0, .ro, .any, fun _ _ => []⟩,
    ⟨fun _ _ => BAD_ROD_ROD, 0xD050, [], 0, .ro, .any, fun _ _ => []⟩,
    ⟨fun _ _ => WR_ROD_ROD, 0xD054, [], 0, .ro, .any, fun _ _ => []⟩,
    ⟨fun _ _ => BOOT_STAT_STATE, 0xCB00, [], 28, .ro, .any, fun _ _ => []⟩,
    ⟨fun _ _ => BOOT_STAT_FW_SRC, 0xCB00, [], 26, .ro, .any, fun _ _ => []⟩,
    ⟨fun _ _ => BOOT_STAT_IMG_SRC, 0xCB00, [], 24, .ro, .any, fun _ _ => []⟩,
    ⟨fun _ _ => BOOT_STAT_GO_IGN, 0xCB00, [], 23, .stk, .any, fun _ _ => []⟩,
    ⟨fun _ _ => BOOT_STAT_DIR_BAD, 0xCB00, [], 22, .stk, .any, fun _ _ => []⟩,
    ⟨fun _ _ => BOOT_STAT_MS, 0xCB00, [], 0, .ro, .any, fun _ _ => []⟩,
    ⟨fun _ _ => BOOT_CMD_FW_GO, 0xCB04, [], 31, .w1s, .any, fun _ _ => []⟩,
    ⟨fun _ _ => BOOT_CMD_IMG_GO, 0xCB04, [], 30, .w1s, .any, fun _ _ => []⟩ ]

/-- Fields of the control rod. -/
def rowsCtl : List Row := rowsCtl0 ++ rowsCtl1 ++ rowsCtl2

/-- Fields of the sensor link rod, part 0. -/
def rowsLnk0 : List Row :=
  [ ⟨fun _ ix => LINK_CTL_EN ix, 0x1000, [⟨1024, 0, 2⟩], 31, .rw, .any, fun _ _ => []⟩,
    ⟨fun _ ix => LINK_CTL_RETRAIN ix, 0x1000, [⟨1024, 0, 2⟩], 30, .w1s, .any, fun _ _ => []⟩,
    ⟨fun _ ix => LINK_CTL_N ix, 0x1000, [⟨1024, 0, 2⟩], 28, .rw, .any, fun _ _ => []⟩,
    ⟨fun _ ix => LINK_CTL_PAIR ix, 0x1000, [⟨1024, 0, 2⟩], 27, .rw, .any, fun _ _ => []⟩,
    ⟨fun _ ix => LINK_CTL_PAIR_WIN ix, 0x1000, [⟨1024, 0, 2⟩], 19, .rw, .iv 1 200 1, fun _ _ => []⟩,
    ⟨fun _ ix => LINK_CTL_WIDTH ix, 0x1000, [⟨1024, 0, 2⟩], 0, .rw, .iv 64 24576 8, fun _ _ => []⟩,
    ⟨fun _ ix => LINK_STAT_STATE ix, 0x1004, [⟨1024, 0, 2⟩], 29, .ro, .any, fun _ _ => []⟩,
    ⟨fun _ ix => LINK_STAT_AM_SEQ ix, 0x1004, [⟨1024, 0, 2⟩], 0, .ro, .any, fun _ _ => []⟩,
    ⟨fun _ ix => LINK_ERR_HCRC ix, 0x1008, [⟨1024, 0, 2⟩], 31, .stk, .any, fun _ ix => [LINK_ERR_LOST_CNT ix]⟩,
    ⟨fun _ ix => LINK_ERR_PCRC ix, 0x1008, [⟨1024, 0, 2⟩], 30, .stk, .any, fun _ ix => [LINK_ERR_LOST_CNT ix]⟩,
    ⟨fun _ ix => LINK_ERR_LEN ix, 0x1008, [⟨1024, 0, 2⟩], 29, .stk, .any, fun _ ix => [LINK_ERR_LOST_CNT ix]⟩,
    ⟨fun _ ix => LINK_ERR_SEQ ix, 0x1008, [⟨1024, 0, 2⟩], 28, .stk, .any, fun _ ix => [LINK_ERR_LOST_CNT ix]⟩,
    ⟨fun _ ix => LINK_ERR_FS_LOST ix, 0x1008, [⟨1024, 0, 2⟩], 27, .stk, .any, fun _ ix => [LINK_ERR_LOST_CNT ix]⟩,
    ⟨fun _ ix => LINK_ERR_FS_MM ix, 0x1008, [⟨1024, 0, 2⟩], 26, .stk, .any, fun _ ix => [LINK_ERR_LOST_CNT ix]⟩,
    ⟨fun _ ix => LINK_ERR_FE_LOST ix, 0x1008, [⟨1024, 0, 2⟩], 25, .stk, .any, fun _ ix => [LINK_ERR_LOST_CNT ix]⟩,
    ⟨fun _ ix => LINK_ERR_DESKEW ix, 0x1008, [⟨1024, 0, 2⟩], 24, .stk, .any, fun _ ix => [LINK_ERR_LOST_CNT ix]⟩,
    ⟨fun _ ix => LINK_ERR_PAIR ix, 0x1008, [⟨1024, 0, 2⟩], 23, .stk, .any, fun _ ix => [LINK_ERR_LOST_CNT ix]⟩,
    ⟨fun _ ix => LINK_ERR_MAP_ERR ix, 0x1008, [⟨1024, 0, 2⟩], 22, .stk, .any, fun _ ix => [LINK_ERR_LOST_CNT ix]⟩,
    ⟨fun _ ix => LINK_ERR_TRAIN_MM ix, 0x1008, [⟨1024, 0, 2⟩], 21, .stk, .any, fun _ ix => [LINK_ERR_LOST_CNT ix]⟩,
    ⟨fun _ ix => LINK_ERR_LOST_CNT ix, 0x1008, [⟨1024, 0, 2⟩], 0, .ro, .any, fun _ _ => []⟩,
    ⟨fun _ ix => SPARE_CTL_AUTO ix, 0x100C, [⟨1024, 0, 2⟩], 31, .rw, .any, fun _ _ => []⟩,
    ⟨fun _ ix => SPARE_CTL_BIP_TH ix, 0x100C, [⟨1024, 0, 2⟩], 16, .rw, .iv 1 255 1, fun _ _ => []⟩,
    ⟨fun _ ix => SPARE_CTL_SPARE1_LOG ix, 0x100C, [⟨1024, 0, 2⟩], 8, .ro, .any, fun _ _ => []⟩,
    ⟨fun _ ix => SPARE_CTL_SPARE0_LOG ix, 0x100C, [⟨1024, 0, 2⟩], 0, .ro, .any, fun _ _ => []⟩,
    ⟨fun _ ix => LMAP_V (ix / 32) (ix / 4 % 8) (ix % 4), 0x1020, [⟨1024, 0, 2⟩, ⟨4, 0, 8⟩, ⟨0, 8, 4⟩], 7, .ro, .any, fun _ _ => []⟩,
    ⟨fun _ ix => LMAP_PHY (ix / 32) (ix / 4 % 8) (ix % 4), 0x1020, [⟨1024, 0, 2⟩, ⟨4, 0, 8⟩, ⟨0, 8, 4⟩], 0, .ro, .any, fun _ _ => []⟩,
    ⟨fun _ ix => LH_BAD (ix / 34) (ix % 34), 0x1040, [⟨1024, 0, 2⟩, ⟨4, 0, 34⟩], 31, .stk, .any, fun _ ix => [LH_ALIGN_FAIL (ix / 34) (ix % 34), LH_SHDR_CNT (ix / 34) (ix % 34), LH_BIP_CNT (ix / 34) (ix % 34)]⟩,
    ⟨fun _ ix => LH_REASON (ix / 34) (ix % 34), 0x1040, [⟨1024, 0, 2⟩, ⟨4, 0, 34⟩], 28, .ro, .any, fun _ _ => []⟩,
    ⟨fun _ ix => LH_ALIGN_FAIL (ix / 34) (ix % 34), 0x1040, [⟨1024, 0, 2⟩, ⟨4, 0, 34⟩], 24, .ro, .any, fun _ _ => []⟩,
    ⟨fun _ ix => LH_SHDR_CNT (ix / 34) (ix % 34), 0x1040, [⟨1024, 0, 2⟩, ⟨4, 0, 34⟩], 16, .ro, .any, fun _ _ => []⟩,
    ⟨fun _ ix => LH_BIP_CNT (ix / 34) (ix % 34), 0x1040, [⟨1024, 0, 2⟩, ⟨4, 0, 34⟩], 0, .ro, .any, fun _ _ => []⟩,
    ⟨fun _ ix => VENDOR_CNT_EMB_DROP ix, 0x1010, [⟨1024, 0, 2⟩], 16, .ro, .any, fun _ _ => []⟩,
    ⟨fun _ ix => VENDOR_CNT_VENDOR ix, 0x1010, [⟨1024, 0, 2⟩], 0, .ro, .any, fun _ _ => []⟩,
    ⟨fun _ ix => SCK_EN ix, 0x1800, [⟨16, 0, 2⟩], 31, .rw, .any, fun _ _ => []⟩,
    ⟨fun _ ix => SCK_SRC ix, 0x1800, [⟨16, 0, 2⟩], 30, .rw, .any, fun _ _ => []⟩,
    ⟨fun _ ix => SCK_DEN ix, 0x1800, [⟨16, 0, 2⟩], 29, .rw, .any, fun _ _ => []⟩,
    ⟨fun _ ix => SCK_NUM ix, 0x1800, [⟨16, 0, 2⟩], 0, .rw, .iv 24000000 74250000 1, fun _ _ => []⟩,
    ⟨fun _ ix => I3C_EN ix, 0x1900, [⟨16, 0, 2⟩], 31, .rw, .any, fun _ _ => []⟩,
    ⟨fun _ ix => I3C_LEGACY ix, 0x1900, [⟨16, 0, 2⟩], 30, .rw, .any, fun _ _ => []⟩,
    ⟨fun _ ix => I3C_IBI_CNT ix, 0x1900, [⟨16, 0, 2⟩], 16, .ro, .any, fun _ _ => []⟩ ]

/-- Fields of the sensor link rod, part 1. -/
def rowsLnk1 : List Row :=
  [ ⟨fun _ ix => I3C_SCL_DIV ix, 0x1900, [⟨16, 0, 2⟩], 0, .rw, .iv 96 255 1, fun _ _ => []⟩,
    ⟨fun _ ix => SPI_EN ix, 0x1A00, [⟨16, 0, 2⟩], 31, .rw, .any, fun _ _ => []⟩,
    ⟨fun _ ix => SPI_MODE3 ix, 0x1A00, [⟨16, 0, 2⟩], 30, .rw, .any, fun _ _ => []⟩,
    ⟨fun _ ix => SPI_SCK_DIV ix, 0x1A00, [⟨16, 0, 2⟩], 0, .rw, .iv 24 255 1, fun _ _ => []⟩,
    ⟨fun _ ix => FRM_CFG_OB_LINES ix, 0x1C00, [⟨64, 0, 2⟩], 16, .rw, .any, fun _ _ => []⟩,
    ⟨fun _ ix => FRM_CFG_LINES ix, 0x1C00, [⟨64, 0, 2⟩], 0, .rw, .iv 16 10240 1, fun _ _ => []⟩,
    ⟨fun _ ix => FRM_FILL_TIMEOUT ix, 0x1C04, [⟨64, 0, 2⟩], 16, .rw, .iv 100 65535 1, fun _ _ => []⟩,
    ⟨fun _ ix => FRM_FILL_VALUE ix, 0x1C04, [⟨64, 0, 2⟩], 0, .rw, .any, fun _ _ => []⟩,
    ⟨fun _ ix => FRM_STAT_SHORT ix, 0x1C08, [⟨64, 0, 2⟩], 31, .stk, .any, fun _ ix => [FRM_STAT_SHORT_CNT ix]⟩,
    ⟨fun _ ix => FRM_STAT_LONG ix, 0x1C08, [⟨64, 0, 2⟩], 30, .stk, .any, fun _ ix => [FRM_STAT_LONG_CNT ix]⟩,
    ⟨fun _ ix => FRM_STAT_OVERFLOW ix, 0x1C08, [⟨64, 0, 2⟩], 29, .stk, .any, fun _ ix => [FRM_STAT_OVF_CNT ix]⟩,
    ⟨fun _ ix => FRM_STAT_SYNTH ix, 0x1C08, [⟨64, 0, 2⟩], 28, .stk, .any, fun _ _ => []⟩,
    ⟨fun _ ix => FRM_STAT_PHASE_ERR ix, 0x1C08, [⟨64, 0, 2⟩], 27, .stk, .any, fun _ _ => []⟩,
    ⟨fun _ ix => FRM_STAT_SHORT_CNT ix, 0x1C08, [⟨64, 0, 2⟩], 16, .ro, .any, fun _ _ => []⟩,
    ⟨fun _ ix => FRM_STAT_LONG_CNT ix, 0x1C08, [⟨64, 0, 2⟩], 8, .ro, .any, fun _ _ => []⟩,
    ⟨fun _ ix => FRM_STAT_OVF_CNT ix, 0x1C08, [⟨64, 0, 2⟩], 0, .ro, .any, fun _ _ => []⟩,
    ⟨fun _ ix => EXQ_TIM_GUARD ix, 0x2000, [⟨32, 0, 2⟩], 16, .rw, .iv 10 1000 1, fun _ _ => []⟩,
    ⟨fun _ ix => EXQ_TIM_L_AUX ix, 0x2000, [⟨32, 0, 2⟩], 4, .rw, .any, fun _ _ => []⟩,
    ⟨fun _ ix => EXQ_TIM_L_GAIN ix, 0x2000, [⟨32, 0, 2⟩], 2, .rw, .any, fun _ _ => []⟩,
    ⟨fun _ ix => EXQ_TIM_L_INT ix, 0x2000, [⟨32, 0, 2⟩], 0, .rw, .any, fun _ _ => []⟩,
    ⟨fun _ ix => EXQ_POST_GO ix, 0x2004, [⟨32, 0, 2⟩], 31, .w1s, .any, fun _ _ => []⟩,
    ⟨fun _ ix => EXQ_POST_SLOT ix, 0x2004, [⟨32, 0, 2⟩], 0, .wo, .any, fun _ _ => []⟩,
    ⟨fun _ ix => EXQ_STAT_SLIPPED ix, 0x2008, [⟨32, 0, 2⟩], 31, .stk, .any, fun _ ix => [EXQ_STAT_SLIP_CNT ix]⟩,
    ⟨fun _ ix => EXQ_STAT_UNSURE ix, 0x2008, [⟨32, 0, 2⟩], 30, .stk, .any, fun _ _ => []⟩,
    ⟨fun _ ix => EXQ_STAT_BAD_DESC ix, 0x2008, [⟨32, 0, 2⟩], 29, .stk, .any, fun _ _ => []⟩,
    ⟨fun _ ix => EXQ_STAT_BIND_FAIL ix, 0x2008, [⟨32, 0, 2⟩], 28, .stk, .any, fun _ _ => []⟩,
    ⟨fun _ ix => EXQ_STAT_PENDING ix, 0x2008, [⟨32, 0, 2⟩], 24, .ro, .any, fun _ _ => []⟩,
    ⟨fun _ ix => EXQ_STAT_SLIP_CNT ix, 0x2008, [⟨32, 0, 2⟩], 16, .ro, .any, fun _ _ => []⟩,
    ⟨fun _ ix => EXQ_STAT_IN_FORCE ix, 0x2008, [⟨32, 0, 2⟩], 0, .ro, .any, fun _ _ => []⟩,
    ⟨fun _ _ => EXQ_RING_GRAN, 0x2040, [], 0, .rw, .any, fun _ _ => []⟩,
    ⟨fun _ ix => EXS_CTL_MODE ix, 0x2400, [⟨64, 0, 2⟩], 30, .rw, .iv 0 2 1, fun _ _ => []⟩,
    ⟨fun _ ix => EXS_CTL_POL ix, 0x2400, [⟨64, 0, 2⟩], 29, .rw, .any, fun _ _ => []⟩,
    ⟨fun _ ix => EXS_CTL_LINE_EN ix, 0x2400, [⟨64, 0, 2⟩], 28, .rw, .any, fun _ _ => []⟩,
    ⟨fun _ ix => EXS_CTL_PW ix, 0x2400, [⟨64, 0, 2⟩], 16, .rw, .iv 1 1000 1, fun _ _ => []⟩,
    ⟨fun _ ix => EXS_CTL_FS_WIN ix, 0x2400, [⟨64, 0, 2⟩], 0, .rw, .iv 1 65535 1, fun _ _ => []⟩,
    ⟨fun _ ix => EXS_RATE_DEN ix, 0x2404, [⟨64, 0, 2⟩], 31, .rw, .any, fun _ _ => []⟩,
    ⟨fun _ ix => EXS_RATE_NUM ix, 0x2404, [⟨64, 0, 2⟩], 0, .rw, .iv 1000 240000 1, fun _ _ => []⟩,
    ⟨fun _ ix => EXS_PHASE_NS ix, 0x2408, [⟨64, 0, 2⟩], 0, .rw, .any, fun _ _ => []⟩,
    ⟨fun _ ix => EXS_LINE_LINE_PER ix, 0x240C, [⟨64, 0, 2⟩], 0, .rw, .iv 16 1048575 1, fun _ _ => []⟩,
    ⟨fun _ ix => EXS_LEAD_LEAD ix, 0x2410, [⟨64, 0, 2⟩], 16, .rw, .any, fun _ _ => []⟩ ]

/-- Fields of the sensor link rod, part 2. -/
def rowsLnk2 : List Row :=
  [ ⟨fun _ ix => EXS_LEAD_LINE_CNT ix, 0x2410, [⟨64, 0, 2⟩], 0, .rw, .iv 1 16383 1, fun _ _ => []⟩,
    ⟨fun _ _ => REF_CFG_DIV, 0x2800, [], 29, .rw, .iv 1 7 1, fun _ _ => []⟩,
    ⟨fun _ _ => REF_CFG_EDGE, 0x2800, [], 28, .rw, .any, fun _ _ => []⟩,
    ⟨fun _ _ => REF_CFG_STABLE_N, 0x2800, [], 16, .rw, .iv 2 255 1, fun _ _ => []⟩,
    ⟨fun _ _ => REF_CFG_WIN, 0x2800, [], 0, .rw, .iv 1 10000 1, fun _ _ => []⟩,
    ⟨fun _ _ => REF_STAT_HOLDOVER, 0x2804, [], 31, .ro, .any, fun _ _ => []⟩,
    ⟨fun _ _ => REF_STAT_HOLD_EV, 0x2804, [], 30, .stk, .any, fun _ _ => []⟩,
    ⟨fun _ _ => REF_STAT_RATE_EV, 0x2804, [], 29, .stk, .any, fun _ _ => []⟩,
    ⟨fun _ _ => REF_STAT_REPHASE, 0x2804, [], 28, .stk, .any, fun _ _ => []⟩,
    ⟨fun _ _ => REF_PERIOD_NS, 0x2808, [], 0, .ro, .any, fun _ _ => []⟩,
    ⟨fun _ ix => RAW_RING_REGION ix, 0x2C00, [⟨16, 0, 2⟩], 24, .rw, .any, fun _ _ => []⟩,
    ⟨fun _ ix => RAW_RING_DEPTH ix, 0x2C00, [⟨16, 0, 2⟩], 16, .rw, .iv 2 63 1, fun _ _ => []⟩,
    ⟨fun _ ix => RAW_RING_SLOT_MIB ix, 0x2C00, [⟨16, 0, 2⟩], 0, .rw, .iv 1 4095 1, fun _ _ => []⟩ ]

/-- Fields of the sensor link rod. -/
def rowsLnk : List Row := rowsLnk0 ++ rowsLnk1 ++ rowsLnk2

/-- Fields of the image rods (n = 0 to 4), part 0. -/
def rowsImg0 : List Row :=
  [ ⟨fun rod _ => STRIPE_IDX (rod - 2), 0x800, [], 30, .ro, .any, fun _ _ => []⟩,
    ⟨fun rod _ => STRIPE_ACTIVE (rod - 2), 0x800, [], 29, .ro, .any, fun _ _ => []⟩,
    ⟨fun rod _ => STRIPE_FIRST (rod - 2), 0x800, [], 14, .ro, .any, fun _ _ => []⟩,
    ⟨fun rod _ => STRIPE_WIDTH (rod - 2), 0x800, [], 0, .ro, .any, fun _ _ => []⟩,
    ⟨fun rod _ => COMMIT_AT_TAG (rod - 2), 0x804, [], 0, .rw, .any, fun _ _ => []⟩,
    ⟨fun rod _ => JOB_WD_LIMIT (rod - 2), 0x808, [], 0, .rw, .iv 10 1023 1, fun _ _ => []⟩,
    ⟨fun rod _ => IMG_STAT_LB_PARITY (rod - 2), 0x80C, [], 31, .stk, .any, fun _ _ => []⟩,
    ⟨fun rod _ => IMG_STAT_HANG (rod - 2), 0x80C, [], 30, .stk, .any, fun _ _ => []⟩,
    ⟨fun rod _ => IMG_STAT_PORT (rod - 2), 0x80C, [], 29, .stk, .any, fun _ _ => []⟩,
    ⟨fun rod _ => IMG_STAT_AT_MISSED (rod - 2), 0x80C, [], 28, .stk, .any, fun _ _ => []⟩,
    ⟨fun rod _ => BLK_CFG_MODE (rod - 2), 0x1000, [], 30, .rw, .iv 0 1 1, fun _ _ => []⟩,
    ⟨fun rod _ => BLK_CFG_K (rod - 2), 0x1000, [], 27, .rw, .any, fun _ _ => []⟩,
    ⟨fun rod _ => BLK_CFG_CLIP (rod - 2), 0x1000, [], 0, .rw, .iv 1 65535 1, fun _ _ => []⟩,
    ⟨fun rod _ => BLK_OBWIN_OB_X0 (rod - 2), 0x1004, [], 16, .rw, .iv 0 24575 1, fun _ _ => []⟩,
    ⟨fun rod _ => BLK_OBWIN_OB_W (rod - 2), 0x1004, [], 0, .rw, .iv 64 4096 8, fun _ _ => []⟩,
    ⟨fun rod ix => BLK_LEVEL_B (rod - 2) ix, 0x1010, [⟨4, 0, 12⟩], 0, .rw, .any, fun _ _ => []⟩,
    ⟨fun rod _ => BLK_STAT_NO_OB (rod - 2), 0x1040, [], 31, .stk, .any, fun _ _ => []⟩,
    ⟨fun rod _ => BLK_STAT_CNT_LOW (rod - 2), 0x1040, [], 30, .stk, .any, fun _ _ => []⟩,
    ⟨fun rod _ => DPC_MAP_REGION (rod - 2), 0x1400, [], 24, .rw, .any, fun _ _ => []⟩,
    ⟨fun rod _ => DPC_MAP_OFF8 (rod - 2), 0x1400, [], 0, .rw, .any, fun _ _ => []⟩,
    ⟨fun rod _ => DPC_MAP_CNT_EN (rod - 2), 0x1404, [], 31, .rw, .any, fun _ _ => []⟩,
    ⟨fun rod _ => DPC_MAP_CNT_CNT (rod - 2), 0x1404, [], 0, .rw, .iv 0 1048576 1, fun _ _ => []⟩,
    ⟨fun rod _ => DPC_DYN_EN (rod - 2), 0x1408, [], 31, .rw, .any, fun _ _ => []⟩,
    ⟨fun rod _ => DPC_DYN_T_REL (rod - 2), 0x1408, [], 16, .rw, .any, fun _ _ => []⟩,
    ⟨fun rod _ => DPC_DYN_T_ABS (rod - 2), 0x1408, [], 0, .rw, .any, fun _ _ => []⟩,
    ⟨fun rod _ => DPC_STAT_MAP_ORDER (rod - 2), 0x140C, [], 31, .stk, .any, fun _ _ => []⟩,
    ⟨fun rod _ => DPC_STAT_MAP_ERR (rod - 2), 0x140C, [], 30, .stk, .any, fun _ _ => []⟩,
    ⟨fun rod _ => DPC_STAT_UNFIX (rod - 2), 0x140C, [], 29, .stk, .any, fun _ _ => []⟩,
    ⟨fun rod _ => DPC_STAT_DYN_CNT (rod - 2), 0x140C, [], 0, .ro, .any, fun _ _ => []⟩,
    ⟨fun rod _ => LSC_SEL_EN (rod - 2), 0x1800, [], 31, .rw, .any, fun _ _ => []⟩,
    ⟨fun rod _ => LSC_SEL_GRID_A (rod - 2), 0x1800, [], 24, .rw, .any, fun _ _ => []⟩,
    ⟨fun rod _ => LSC_SEL_GRID_B (rod - 2), 0x1800, [], 20, .rw, .any, fun _ _ => []⟩,
    ⟨fun rod _ => LSC_SEL_BLEND (rod - 2), 0x1800, [], 0, .rw, .iv 0 256 1, fun _ _ => []⟩,
    ⟨fun rod _ => LSC_CFG_MAX_GAIN (rod - 2), 0x1804, [], 16, .rw, .any, fun _ _ => []⟩,
    ⟨fun rod _ => LSC_CFG_GRID_ERR (rod - 2), 0x1804, [], 15, .stk, .any, fun _ _ => []⟩,
    ⟨fun rod _ => LSC_CFG_TABLE (rod - 2), 0x1804, [], 0, .rw, .iv 0 1020 1, fun _ _ => []⟩,
    ⟨fun rod _ => DCG_KNEE_T2 (rod - 2), 0x1C00, [], 16, .rw, .any, fun _ _ => []⟩,
    ⟨fun rod _ => DCG_KNEE_T1 (rod - 2), 0x1C00, [], 0, .rw, .any, fun _ _ => []⟩,
    ⟨fun rod _ => DCG_RATIO_AUTO (rod - 2), 0x1C04, [], 31, .rw, .any, fun _ _ => []⟩,
    ⟨fun rod _ => DCG_RATIO_K (rod - 2), 0x1C04, [], 28, .rw, .any, fun _ _ => []⟩ ]

/-- Fields of the image rods (n = 0 to 4), part 1. -/
def rowsImg1 : List Row :=
  [ ⟨fun rod _ => DCG_RATIO_G (rod - 2), 0x1C04, [], 0, .rw, .iv 65536 4194303 1, fun _ _ => []⟩,
    ⟨fun rod ix => DCG_SUM_S (rod - 2) ix, 0x1C10, [⟨4, 0, 4⟩], 0, .ro, .any, fun _ _ => []⟩,
    ⟨fun rod _ => TNR_CFG_MODE (rod - 2), 0x2000, [], 30, .rw, .any, fun _ _ => []⟩,
    ⟨fun rod _ => TNR_CFG_ALIGN (rod - 2), 0x2000, [], 29, .rw, .any, fun _ _ => []⟩,
    ⟨fun rod _ => TNR_CFG_K_MAX (rod - 2), 0x2000, [], 16, .rw, .any, fun _ _ => []⟩,
    ⟨fun rod _ => TNR_CFG_K_NOVEC (rod - 2), 0x2000, [], 8, .rw, .any, fun _ _ => []⟩,
    ⟨fun rod _ => TNR_CFG_COST_MAX (rod - 2), 0x2000, [], 0, .rw, .any, fun _ _ => []⟩,
    ⟨fun rod _ => TNR_THR_T_HI (rod - 2), 0x2004, [], 24, .rw, .any, fun _ _ => []⟩,
    ⟨fun rod _ => TNR_THR_T_LO (rod - 2), 0x2004, [], 16, .rw, .any, fun _ _ => []⟩,
    ⟨fun rod _ => TNR_THR_VEC_WAIT (rod - 2), 0x2004, [], 0, .rw, .iv 0 1000 1, fun _ _ => []⟩,
    ⟨fun rod ix => TNR_NOISE_V (rod - 2) ix, 0x2008, [⟨4, 0, 2⟩], 0, .rw, .any, fun _ _ => []⟩,
    ⟨fun rod _ => TNR_STAT_REF_RESET (rod - 2), 0x2010, [], 31, .stk, .any, fun rod _ => [TNR_STAT_REF_CNT (rod - 2)]⟩,
    ⟨fun rod _ => TNR_STAT_VEC_MISS (rod - 2), 0x2010, [], 30, .stk, .any, fun rod _ => [TNR_STAT_MISS_CNT (rod - 2)]⟩,
    ⟨fun rod _ => TNR_STAT_FORCED (rod - 2), 0x2010, [], 29, .ro, .any, fun _ _ => []⟩,
    ⟨fun rod _ => TNR_STAT_REF_CNT (rod - 2), 0x2010, [], 8, .ro, .any, fun _ _ => []⟩,
    ⟨fun rod _ => TNR_STAT_MISS_CNT (rod - 2), 0x2010, [], 0, .ro, .any, fun _ _ => []⟩,
    ⟨fun rod _ => DMS_MOSAIC_PX (rod - 2), 0x2400, [], 8, .rw, .iv 1 8 1, fun _ _ => []⟩,
    ⟨fun rod _ => DMS_MOSAIC_PY (rod - 2), 0x2400, [], 0, .rw, .iv 1 8 1, fun _ _ => []⟩,
    ⟨fun rod _ => DMS_CFG_MODE (rod - 2), 0x2404, [], 30, .rw, .iv 0 2 1, fun _ _ => []⟩,
    ⟨fun rod _ => DMS_CFG_GUIDE (rod - 2), 0x2404, [], 27, .rw, .iv 0 5 1, fun _ _ => []⟩,
    ⟨fun rod _ => DMS_CFG_FALSE_C (rod - 2), 0x2404, [], 16, .rw, .any, fun _ _ => []⟩,
    ⟨fun rod _ => DMS_CFG_EDGE_T (rod - 2), 0x2404, [], 0, .rw, .iv 256 65535 1, fun _ _ => []⟩,
    ⟨fun rod ix => DMS_MAP_CLS (rod - 2) (ix / 8) (ix % 8), 0x2410, [⟨4, 0, 8⟩, ⟨0, 4, 8⟩], 0, .rw, .any, fun _ _ => []⟩,
    ⟨fun rod ix => SPM_M_V (rod - 2) ix, 0x2800, [⟨4, 0, 18⟩], 0, .rw, .any, fun _ _ => []⟩,
    ⟨fun rod ix => SPM_O_V (rod - 2) ix, 0x2848, [⟨4, 0, 3⟩], 0, .rw, .any, fun _ _ => []⟩,
    ⟨fun rod ix => WBM_WB_V (rod - 2) ix, 0x2C00, [⟨4, 0, 3⟩], 0, .rw, .any, fun _ _ => []⟩,
    ⟨fun rod ix => WBM_CO_V (rod - 2) ix, 0x2C40, [⟨4, 0, 3⟩], 0, .rw, .any, fun _ _ => []⟩,
    ⟨fun rod ix => WBM_CM_V (rod - 2) ix, 0x2C10, [⟨4, 0, 9⟩], 0, .rw, .any, fun _ _ => []⟩,
    ⟨fun rod _ => WBM_HL_EN (rod - 2), 0x2C50, [], 31, .rw, .any, fun _ _ => []⟩,
    ⟨fun rod _ => WBM_HL_WHITE (rod - 2), 0x2C50, [], 0, .rw, .any, fun _ _ => []⟩,
    ⟨fun rod _ => LUT_CFG_EN (rod - 2), 0x3000, [], 31, .rw, .any, fun _ _ => []⟩,
    ⟨fun rod _ => LUT_CFG_SHAPER (rod - 2), 0x3000, [], 26, .rw, .iv 0 2 1, fun _ _ => []⟩,
    ⟨fun rod _ => LUT_CFG_FALLBACK (rod - 2), 0x3000, [], 2, .rw, .any, fun _ _ => []⟩,
    ⟨fun rod _ => LUT_CFG_SLOT (rod - 2), 0x3000, [], 0, .rw, .any, fun _ _ => []⟩,
    ⟨fun rod _ => LUT_SCALE_V (rod - 2), 0x3004, [], 0, .rw, .iv 1 0x7FFFFF 1, fun _ _ => []⟩,
    ⟨fun rod _ => FMT_SCALE_V (rod - 2), 0x3408, [], 0, .rw, .iv 1 0x7FFFFF 1, fun _ _ => []⟩,
    ⟨fun rod _ => STS_HREF_V (rod - 2), 0x3808, [], 0, .rw, .iv 1 0x7FFFFF 1, fun _ _ => []⟩,
    ⟨fun rod _ => STS_CLIP_V (rod - 2), 0x380C, [], 0, .rw, .iv 1 0x7FFFFF 1, fun _ _ => []⟩,
    ⟨fun rod _ => LUT_STAT_FELL_BACK (rod - 2), 0x3008, [], 31, .stk, .any, fun _ _ => []⟩,
    ⟨fun rod _ => LUT_STAT_POISON (rod - 2), 0x3008, [], 30, .stk, .any, fun rod _ => [LUT_STAT_POISON_CNT (rod - 2)]⟩ ]

/-- Fields of the image rods (n = 0 to 4), part 2. -/
def rowsImg2 : List Row :=
  [ ⟨fun rod _ => LUT_STAT_POISON_CNT (rod - 2), 0x3008, [], 0, .ro, .any, fun _ _ => []⟩,
    ⟨fun rod _ => FMT_CFG_FORMAT (rod - 2), 0x3400, [], 28, .rw, .iv 0 6 1, fun _ _ => []⟩,
    ⟨fun rod _ => FMT_CFG_OETF (rod - 2), 0x3400, [], 24, .rw, .iv 0 6 1, fun _ _ => []⟩,
    ⟨fun rod _ => FMT_CFG_RANGE (rod - 2), 0x3400, [], 23, .rw, .any, fun _ _ => []⟩,
    ⟨fun rod _ => FMT_COLOUR_PRIM (rod - 2), 0x3404, [], 16, .rw, .sets [(1, 2), (9, 9), (11, 12)], fun _ _ => []⟩,
    ⟨fun rod _ => FMT_COLOUR_TRC (rod - 2), 0x3404, [], 8, .rw, .sets [(1, 2), (8, 8), (13, 14), (16, 16), (18, 18)], fun _ _ => []⟩,
    ⟨fun rod _ => FMT_COLOUR_MATRIX (rod - 2), 0x3404, [], 0, .rw, .sets [(0, 1), (9, 9)], fun _ _ => []⟩,
    ⟨fun rod ix => STS_HSEL (rod - 2) ix, 0x3804, [⟨0, 4, 4⟩], 0, .rw, .iv 0 7 1, fun _ _ => []⟩ ]

/-- Fields of the image rods (n = 0 to 4). -/
def rowsImg : List Row := rowsImg0 ++ rowsImg1 ++ rowsImg2

/-- Fields of the motion rod, part 0. -/
def rowsMot0 : List Row :=
  [ ⟨fun _ _ => QLD_CFG_GAIN_SEL, 0x1000, [], 31, .rw, .any, fun _ _ => []⟩,
    ⟨fun _ _ => QLD_CFG_SCALE, 0x1000, [], 0, .rw, .iv 1 65535 1, fun _ _ => []⟩,
    ⟨fun _ _ => QLD_BLACK, 0x1004, [], 0, .rw, .any, fun _ _ => []⟩,
    ⟨fun _ ix => QLD_CLASS_W ix, 0x1008, [⟨0, 5, 6⟩], 0, .rw, .any, fun _ _ => []⟩,
    ⟨fun _ _ => SRCH_CFG_TEMPORAL, 0x1400, [], 31, .rw, .any, fun _ _ => []⟩,
    ⟨fun _ _ => SRCH_CFG_LAMBDA, 0x1400, [], 8, .rw, .any, fun _ _ => []⟩,
    ⟨fun _ _ => SRCH_CFG_RANGE3, 0x1400, [], 0, .rw, .iv 1 16 1, fun _ _ => []⟩,
    ⟨fun _ _ => VST_RING_DEPTH, 0x1800, [], 28, .rw, .iv 2 4 1, fun _ _ => []⟩,
    ⟨fun _ _ => VST_RING_GRAN, 0x1800, [], 0, .rw, .any, fun _ _ => []⟩,
    ⟨fun _ _ => VST_STAT_VEC_DROP, 0x1804, [], 31, .stk, .any, fun _ _ => [VST_STAT_DROP_CNT]⟩,
    ⟨fun _ _ => VST_STAT_DROP_CNT, 0x1804, [], 0, .ro, .any, fun _ _ => []⟩,
    ⟨fun _ _ => VST_LAST_TAG, 0x1808, [], 0, .ro, .any, fun _ _ => []⟩ ]

/-- Fields of the motion rod. -/
def rowsMot : List Row := rowsMot0

/-- Fields of the coding rods (r = 0, 1), part 0. -/
def rowsCod0 : List Row :=
  [ ⟨fun rod _ => SCHED_TABLE_FORCE_GRAN (rod - 8), 0x800, [], 16, .rw, .any, fun _ _ => []⟩,
    ⟨fun rod _ => SCHED_TABLE_STAGED_GRAN (rod - 8), 0x800, [], 0, .rw, .any, fun _ _ => []⟩,
    ⟨fun rod _ => SCHED_CMD_GO (rod - 8), 0x804, [], 31, .w1s, .any, fun _ _ => []⟩,
    ⟨fun rod _ => SCHED_CMD_OP (rod - 8), 0x804, [], 28, .wo, .any, fun _ _ => []⟩,
    ⟨fun rod _ => SCHED_CMD_STREAM (rod - 8), 0x804, [], 0, .wo, .iv 0 2079 1, fun _ _ => []⟩,
    ⟨fun rod _ => SCHED_BAD_BAD (rod - 8), 0x808, [], 31, .stk, .any, fun _ _ => []⟩,
    ⟨fun rod _ => SCHED_BAD_CMD_IGN (rod - 8), 0x808, [], 30, .stk, .any, fun _ _ => []⟩,
    ⟨fun rod _ => SCHED_BAD_RULE (rod - 8), 0x808, [], 16, .ro, .any, fun _ _ => []⟩,
    ⟨fun rod _ => SCHED_BAD_STREAM (rod - 8), 0x808, [], 0, .ro, .any, fun _ _ => []⟩,
    ⟨fun rod _ => SCHED_VEC_VEC_TO (rod - 8), 0x80C, [], 0, .rw, .iv 100 65535 1, fun _ _ => []⟩,
    ⟨fun rod ix => ENC_CFG_EN (rod - 8) ix, 0x1000, [⟨256, 0, 4⟩], 31, .rw, .any, fun _ _ => []⟩,
    ⟨fun rod ix => ENC_CFG_SRANGE (rod - 8) ix, 0x1000, [⟨256, 0, 4⟩], 16, .rw, .iv 4 32 1, fun _ _ => []⟩,
    ⟨fun rod ix => ENC_STAT_STATE (rod - 8) ix, 0x1004, [⟨256, 0, 4⟩], 30, .ro, .any, fun _ _ => []⟩,
    ⟨fun rod ix => ENC_STAT_EFFORT (rod - 8) ix, 0x1004, [⟨256, 0, 4⟩], 29, .ro, .any, fun _ _ => []⟩,
    ⟨fun rod ix => ENC_STAT_STREAM (rod - 8) ix, 0x1004, [⟨256, 0, 4⟩], 0, .ro, .any, fun _ _ => []⟩,
    ⟨fun rod ix => ENC_EVT_EXH (rod - 8) ix, 0x1008, [⟨256, 0, 4⟩], 31, .stk, .any, fun rod ix => [ENC_EVT_EXH_CNT (rod - 8) ix]⟩,
    ⟨fun rod ix => ENC_EVT_VEC_MISS (rod - 8) ix, 0x1008, [⟨256, 0, 4⟩], 30, .stk, .any, fun rod ix => [ENC_EVT_MISS_CNT (rod - 8) ix]⟩,
    ⟨fun rod ix => ENC_EVT_LATE (rod - 8) ix, 0x1008, [⟨256, 0, 4⟩], 29, .stk, .any, fun rod ix => [ENC_EVT_REP_CNT (rod - 8) ix]⟩,
    ⟨fun rod ix => ENC_EVT_CUT (rod - 8) ix, 0x1008, [⟨256, 0, 4⟩], 28, .stk, .any, fun _ _ => []⟩,
    ⟨fun rod ix => ENC_EVT_FLAT (rod - 8) ix, 0x1008, [⟨256, 0, 4⟩], 27, .stk, .any, fun _ _ => []⟩,
    ⟨fun rod ix => ENC_EVT_EXH_CNT (rod - 8) ix, 0x1008, [⟨256, 0, 4⟩], 16, .ro, .any, fun _ _ => []⟩,
    ⟨fun rod ix => ENC_EVT_MISS_CNT (rod - 8) ix, 0x1008, [⟨256, 0, 4⟩], 8, .ro, .any, fun _ _ => []⟩,
    ⟨fun rod ix => ENC_EVT_REP_CNT (rod - 8) ix, 0x1008, [⟨256, 0, 4⟩], 0, .ro, .any, fun _ _ => []⟩,
    ⟨fun rod ix => ENC_EXH_STREAM (rod - 8) ix, 0x100C, [⟨256, 0, 4⟩], 16, .ro, .any, fun _ _ => []⟩,
    ⟨fun rod ix => ENC_EXH_SKIP (rod - 8) ix, 0x100C, [⟨256, 0, 4⟩], 15, .ro, .any, fun _ _ => []⟩,
    ⟨fun rod ix => ENC_EXH_ROWS (rod - 8) ix, 0x100C, [⟨256, 0, 4⟩], 0, .ro, .any, fun _ _ => []⟩,
    ⟨fun rod ix => ENC_LOAD_PERMILLE (rod - 8) ix, 0x1010, [⟨256, 0, 4⟩], 0, .ro, .any, fun _ _ => []⟩,
    ⟨fun rod _ => DEC_CFG_EN (rod - 8), 0x3000, [], 31, .rw, .any, fun _ _ => []⟩,
    ⟨fun rod _ => DEC_CFG_START (rod - 8), 0x3000, [], 30, .rw, .any, fun _ _ => []⟩,
    ⟨fun rod _ => DEC_CFG_GEN (rod - 8), 0x3000, [], 29, .rw, .any, fun _ _ => []⟩,
    ⟨fun rod _ => DEC_CFG_HASH (rod - 8), 0x3000, [], 28, .rw, .any, fun _ _ => []⟩,
    ⟨fun rod _ => DEC_CFG_WD_MARGIN (rod - 8), 0x3000, [], 16, .rw, .iv 9 64 1, fun _ _ => []⟩,
    ⟨fun rod _ => DEC_CFG_READERS (rod - 8), 0x3000, [], 0, .rw, .any, fun _ _ => []⟩,
    ⟨fun rod _ => DEC_BUF_REGION (rod - 8), 0x3004, [], 24, .rw, .any, fun _ _ => []⟩,
    ⟨fun rod _ => DEC_BUF_NBUF (rod - 8), 0x3004, [], 19, .rw, .iv 3 24 1, fun _ _ => []⟩,
    ⟨fun rod _ => DEC_BUF_BUF_MIB (rod - 8), 0x3004, [], 0, .rw, .iv 1 4095 1, fun _ _ => []⟩,
    ⟨fun rod _ => DEC_BUF_BASE_MIB (rod - 8), 0x3008, [], 0, .rw, .any, fun _ _ => []⟩,
    ⟨fun rod _ => DEC_IN_REGION (rod - 8), 0x300C, [], 24, .rw, .any, fun _ _ => []⟩,
    ⟨fun rod _ => DEC_IN_SIZE (rod - 8), 0x300C, [], 0, .rw, .iv 16 262144 1, fun _ _ => []⟩,
    ⟨fun rod _ => DEC_IN_BASE_BASE (rod - 8), 0x3010, [], 0, .rw, .any, fun _ _ => []⟩ ]

/-- Fields of the coding rods (r = 0, 1), part 1. -/
def rowsCod1 : List Row :=
  [ ⟨fun rod _ => DEC_IN_WR_OFF (rod - 8), 0x3014, [], 0, .rw, .any, fun _ _ => []⟩,
    ⟨fun rod _ => DEC_IN_RD_OFF (rod - 8), 0x3018, [], 0, .ro, .any, fun _ _ => []⟩,
    ⟨fun rod _ => DEC_OUT_DEPTH (rod - 8), 0x301C, [], 16, .rw, .iv 4 16 1, fun _ _ => []⟩,
    ⟨fun rod _ => DEC_OUT_GRAN (rod - 8), 0x301C, [], 0, .rw, .any, fun _ _ => []⟩,
    ⟨fun rod _ => DEC_FENCE_WORD (rod - 8), 0x3020, [], 6, .rw, .any, fun _ _ => []⟩,
    ⟨fun rod _ => DEC_FENCE_EN (rod - 8), 0x3020, [], 0, .rw, .any, fun _ _ => []⟩,
    ⟨fun rod _ => DEC_STAT_STATE (rod - 8), 0x3024, [], 30, .ro, .any, fun _ _ => []⟩,
    ⟨fun rod _ => DEC_STAT_TAINT (rod - 8), 0x3024, [], 29, .ro, .any, fun _ _ => []⟩,
    ⟨fun rod _ => DEC_STAT_PENDING (rod - 8), 0x3024, [], 28, .ro, .any, fun _ _ => []⟩,
    ⟨fun rod _ => DEC_STAT_TARGET (rod - 8), 0x3024, [], 0, .ro, .any, fun _ _ => []⟩,
    ⟨fun rod _ => DEC_EVT_REF_GEN (rod - 8), 0x3028, [], 31, .stk, .any, fun rod _ => [DEC_EVT_GEN_CNT (rod - 8)]⟩,
    ⟨fun rod _ => DEC_EVT_SYNTAX (rod - 8), 0x3028, [], 30, .stk, .any, fun rod _ => [DEC_EVT_ERR_CNT (rod - 8)]⟩,
    ⟨fun rod _ => DEC_EVT_WD (rod - 8), 0x3028, [], 29, .stk, .any, fun _ _ => []⟩,
    ⟨fun rod _ => DEC_EVT_OOB (rod - 8), 0x3028, [], 28, .stk, .any, fun rod _ => [DEC_OOB_CNT_CNT (rod - 8)]⟩,
    ⟨fun rod _ => DEC_EVT_UNSUP (rod - 8), 0x3028, [], 27, .stk, .any, fun _ _ => []⟩,
    ⟨fun rod _ => DEC_EVT_NOBUF (rod - 8), 0x3028, [], 26, .stk, .any, fun _ _ => []⟩,
    ⟨fun rod _ => DEC_EVT_IN_BAD (rod - 8), 0x3028, [], 25, .stk, .any, fun _ _ => []⟩,
    ⟨fun rod _ => DEC_EVT_HASH_MM (rod - 8), 0x3028, [], 24, .stk, .any, fun _ _ => []⟩,
    ⟨fun rod _ => DEC_EVT_GEN_CNT (rod - 8), 0x3028, [], 8, .ro, .any, fun _ _ => []⟩,
    ⟨fun rod _ => DEC_EVT_ERR_CNT (rod - 8), 0x3028, [], 0, .ro, .any, fun _ _ => []⟩,
    ⟨fun rod _ => DEC_OOB_CNT_CNT (rod - 8), 0x302C, [], 0, .ro, .any, fun _ _ => []⟩ ]

/-- Fields of the coding rods (r = 0, 1). -/
def rowsCod : List Row := rowsCod0 ++ rowsCod1

/-- Fields of the recorder rod, part 0. -/
def rowsRrc0 : List Row :=
  [ ⟨fun _ _ => REC_CFG_SRC, 0x1000, [], 30, .rw, .any, fun _ _ => []⟩,
    ⟨fun _ _ => REC_CFG_MODE, 0x1000, [], 28, .rw, .iv 0 2 1, fun _ _ => []⟩,
    ⟨fun _ _ => REC_CFG_E_BOUND, 0x1000, [], 20, .rw, .iv 1 255 1, fun _ _ => []⟩,
    ⟨fun _ _ => REC_CFG_E_MAX, 0x1000, [], 12, .rw, .iv 1 255 1, fun _ _ => []⟩,
    ⟨fun _ _ => REC_CFG_T1, 0x1000, [], 0, .rw, .iv 1 4095 1, fun _ _ => []⟩,
    ⟨fun _ _ => REC_BUDGET_KIB, 0x1004, [], 0, .rw, .iv 1 1048576 1, fun _ _ => []⟩,
    ⟨fun _ _ => REC_RING_REGION, 0x100C, [], 24, .rw, .any, fun _ _ => []⟩,
    ⟨fun _ _ => REC_RING_PREROLL, 0x100C, [], 0, .rw, .iv 0 60 1, fun _ _ => []⟩,
    ⟨fun _ ix => REC_MOSAIC_PX ix, 0x1010, [⟨4, 0, 2⟩], 8, .rw, .iv 1 8 1, fun _ _ => []⟩,
    ⟨fun _ ix => REC_MOSAIC_PY ix, 0x1010, [⟨4, 0, 2⟩], 0, .rw, .iv 1 8 1, fun _ _ => []⟩,
    ⟨fun _ ix => REC_MAP_CLS (ix / 64) (ix / 8 % 8) (ix % 8), 0x1020, [⟨32, 0, 2⟩, ⟨4, 0, 8⟩, ⟨0, 4, 8⟩], 0, .rw, .any, fun _ _ => []⟩,
    ⟨fun _ _ => REC_VOL_CHUNK, 0x10A0, [], 2, .rw, .iv 0 2 1, fun _ _ => []⟩,
    ⟨fun _ _ => REC_VOL_M, 0x10A0, [], 0, .rw, .any, fun _ _ => []⟩,
    ⟨fun _ ix => REC_MEMBER_DRIVE ix, 0x10B0, [⟨4, 0, 4⟩], 30, .rw, .any, fun _ _ => []⟩,
    ⟨fun _ ix => REC_MEMBER_NSID ix, 0x10B0, [⟨4, 0, 4⟩], 0, .rw, .iv 1 1073741823 1, fun _ _ => []⟩,
    ⟨fun _ _ => REC_CMD_GO, 0x1080, [], 31, .w1s, .any, fun _ _ => []⟩,
    ⟨fun _ _ => REC_CMD_CODE, 0x1080, [], 0, .wo, .iv 1 5 1, fun _ _ => []⟩,
    ⟨fun _ _ => REC_STAT_STATE, 0x1084, [], 30, .ro, .any, fun _ _ => []⟩,
    ⟨fun _ _ => REC_STAT_BUSY, 0x1084, [], 29, .ro, .any, fun _ _ => []⟩,
    ⟨fun _ _ => REC_STAT_RESULT, 0x1084, [], 20, .ro, .any, fun _ _ => []⟩,
    ⟨fun _ _ => REC_STAT_TAKE, 0x1084, [], 0, .ro, .any, fun _ _ => []⟩,
    ⟨fun _ _ => REC_EVT_DROP, 0x1088, [], 31, .stk, .any, fun _ _ => [REC_EVT_DROP_CNT]⟩,
    ⟨fun _ _ => REC_EVT_PREROLL_LOST, 0x1088, [], 30, .stk, .any, fun _ _ => []⟩,
    ⟨fun _ _ => REC_EVT_VOL_FULL, 0x1088, [], 29, .stk, .any, fun _ _ => []⟩,
    ⟨fun _ _ => REC_EVT_DROP_CNT, 0x1088, [], 0, .ro, .any, fun _ _ => []⟩,
    ⟨fun _ _ => REC_LAST_TAG, 0x108C, [], 0, .ro, .any, fun _ _ => []⟩,
    ⟨fun _ _ => REC_FLUSHED_TAG, 0x1090, [], 0, .ro, .any, fun _ _ => []⟩,
    ⟨fun _ ix => RSC_STAT_EXH ix, 0x1400, [⟨32, 0, 4⟩], 31, .stk, .any, fun _ _ => []⟩,
    ⟨fun _ ix => RSC_STAT_E_END ix, 0x1400, [⟨32, 0, 4⟩], 16, .ro, .any, fun _ _ => []⟩,
    ⟨fun _ ix => RSC_STAT_ZR_ROWS ix, 0x1400, [⟨32, 0, 4⟩], 0, .ro, .any, fun _ _ => []⟩,
    ⟨fun _ ix => RSC_BYTES_LEN ix, 0x1404, [⟨32, 0, 4⟩], 0, .ro, .any, fun _ _ => []⟩,
    ⟨fun _ ix => NVQ_CFG_EN ix, 0x2000, [⟨256, 0, 4⟩], 31, .rw, .any, fun _ _ => []⟩,
    ⟨fun _ ix => NVQ_CFG_QUEUES ix, 0x2000, [⟨256, 0, 4⟩], 28, .rw, .any, fun _ _ => []⟩,
    ⟨fun _ ix => NVQ_CFG_QDEPTH ix, 0x2000, [⟨256, 0, 4⟩], 24, .rw, .iv 4 10 1, fun _ _ => []⟩,
    ⟨fun _ ix => NVQ_CFG_CMD_TO ix, 0x2000, [⟨256, 0, 4⟩], 0, .rw, .iv 10 10000 1, fun _ _ => []⟩,
    ⟨fun _ ix => NVQ_STAT_STATE ix, 0x2004, [⟨256, 0, 4⟩], 30, .ro, .any, fun _ _ => []⟩,
    ⟨fun _ ix => NVQ_STAT_FAULT_EV ix, 0x2004, [⟨256, 0, 4⟩], 29, .stk, .any, fun _ _ => []⟩,
    ⟨fun _ ix => NVQ_STAT_TIMEOUT_EV ix, 0x2004, [⟨256, 0, 4⟩], 28, .stk, .any, fun _ ix => [NVQ_STAT_TO_CNT ix]⟩,
    ⟨fun _ ix => NVQ_STAT_TO_CNT ix, 0x2004, [⟨256, 0, 4⟩], 8, .ro, .any, fun _ _ => []⟩,
    ⟨fun _ ix => NVQ_STAT_RETRY_CNT ix, 0x2004, [⟨256, 0, 4⟩], 0, .ro, .any, fun _ _ => []⟩ ]

/-- Fields of the recorder rod. -/
def rowsRrc : List Row := rowsRrc0

/-- Fields of the output rod, part 0. -/
def rowsOut0 : List Row :=
  [ ⟨fun _ ix => CMP_CFG_RANGE ix, 0x1000, [⟨2048, 0, 9⟩], 31, .rw, .any, fun _ _ => []⟩,
    ⟨fun _ ix => CMP_CFG_MATRIX ix, 0x1000, [⟨2048, 0, 9⟩], 24, .rw, .iv 0 2 1, fun _ _ => []⟩,
    ⟨fun _ ix => CMP_CFG_PRIM ix, 0x1000, [⟨2048, 0, 9⟩], 16, .rw, .any, fun _ _ => []⟩,
    ⟨fun _ ix => CMP_CFG_TRC ix, 0x1000, [⟨2048, 0, 9⟩], 8, .rw, .any, fun _ _ => []⟩,
    ⟨fun _ ix => CMP_BG_RGB ix, 0x1004, [⟨2048, 0, 9⟩], 0, .rw, .any, fun _ _ => []⟩,
    ⟨fun _ ix => CMP_STAT_FENCE_DEFER ix, 0x1008, [⟨2048, 0, 9⟩], 31, .stk, .any, fun _ ix => [CMP_STAT_DEFER_CNT ix]⟩,
    ⟨fun _ ix => CMP_STAT_TAPS_REDUCED ix, 0x1008, [⟨2048, 0, 9⟩], 30, .stk, .any, fun _ _ => []⟩,
    ⟨fun _ ix => CMP_STAT_LAYER_CROPPED ix, 0x1008, [⟨2048, 0, 9⟩], 29, .stk, .any, fun _ _ => []⟩,
    ⟨fun _ ix => CMP_STAT_COLOUR_MM ix, 0x1008, [⟨2048, 0, 9⟩], 28, .stk, .any, fun _ _ => []⟩,
    ⟨fun _ ix => CMP_STAT_HOLD ix, 0x1008, [⟨2048, 0, 9⟩], 27, .stk, .any, fun _ _ => []⟩,
    ⟨fun _ ix => CMP_STAT_PIC_LATE ix, 0x1008, [⟨2048, 0, 9⟩], 26, .stk, .any, fun _ _ => []⟩,
    ⟨fun _ ix => CMP_STAT_CANVAS_SKIP ix, 0x1008, [⟨2048, 0, 9⟩], 25, .stk, .any, fun _ _ => []⟩,
    ⟨fun _ ix => CMP_STAT_FENCE_ERR ix, 0x1008, [⟨2048, 0, 9⟩], 24, .stk, .any, fun _ _ => []⟩,
    ⟨fun _ ix => CMP_STAT_DEFER_CNT ix, 0x1008, [⟨2048, 0, 9⟩], 8, .ro, .any, fun _ _ => []⟩,
    ⟨fun _ ix => CMP_STAT_GROUPS ix, 0x1008, [⟨2048, 0, 9⟩], 0, .ro, .any, fun _ _ => []⟩,
    ⟨fun _ ix => CMP_FRAME_TAG ix, 0x100C, [⟨2048, 0, 9⟩], 0, .ro, .any, fun _ _ => []⟩,
    ⟨fun _ ix => CMP_CTAGS_V ix, 0x1010, [⟨2048, 0, 9⟩], 0, .ro, .any, fun _ _ => []⟩,
    ⟨fun _ ix => CMP_SCL_TAPS (ix / 4) (ix % 4), 0x1040, [⟨2048, 0, 9⟩, ⟨4, 0, 4⟩], 28, .ro, .any, fun _ _ => []⟩,
    ⟨fun _ ix => CMP_SCL_WIDTH (ix / 4) (ix % 4), 0x1040, [⟨2048, 0, 9⟩, ⟨4, 0, 4⟩], 0, .ro, .any, fun _ _ => []⟩,
    ⟨fun _ ix => LAYER_CTL_EN (ix / 12) (ix % 12), 0x1100, [⟨2048, 0, 9⟩, ⟨64, 0, 12⟩], 31, .rw, .any, fun _ _ => []⟩,
    ⟨fun _ ix => LAYER_CTL_Z (ix / 12) (ix % 12), 0x1100, [⟨2048, 0, 9⟩, ⟨64, 0, 12⟩], 27, .rw, .iv 0 11 1, fun _ _ => []⟩,
    ⟨fun _ ix => LAYER_CTL_GROUP (ix / 12) (ix % 12), 0x1100, [⟨2048, 0, 9⟩, ⟨64, 0, 12⟩], 24, .rw, .any, fun _ _ => []⟩,
    ⟨fun _ ix => LAYER_CTL_CONC (ix / 12) (ix % 12), 0x1100, [⟨2048, 0, 9⟩, ⟨64, 0, 12⟩], 23, .rw, .any, fun _ _ => []⟩,
    ⟨fun _ ix => LAYER_CTL_DELAY (ix / 12) (ix % 12), 0x1100, [⟨2048, 0, 9⟩, ⟨64, 0, 12⟩], 20, .rw, .any, fun _ _ => []⟩,
    ⟨fun _ ix => LAYER_CTL_GALPHA (ix / 12) (ix % 12), 0x1100, [⟨2048, 0, 9⟩, ⟨64, 0, 12⟩], 8, .rw, .any, fun _ _ => []⟩,
    ⟨fun _ ix => LAYER_CTL_HOLD_MAX (ix / 12) (ix % 12), 0x1100, [⟨2048, 0, 9⟩, ⟨64, 0, 12⟩], 0, .rw, .iv 1 255 1, fun _ _ => []⟩,
    ⟨fun _ ix => LAYER_FMT_KIND (ix / 12) (ix % 12), 0x1104, [⟨2048, 0, 9⟩, ⟨64, 0, 12⟩], 29, .rw, .iv 0 4 1, fun _ _ => []⟩,
    ⟨fun _ ix => LAYER_FMT_PREMULT (ix / 12) (ix % 12), 0x1104, [⟨2048, 0, 9⟩, ⟨64, 0, 12⟩], 28, .rw, .any, fun _ _ => []⟩,
    ⟨fun _ ix => LAYER_FMT_FORMAT (ix / 12) (ix % 12), 0x1104, [⟨2048, 0, 9⟩, ⟨64, 0, 12⟩], 24, .rw, .iv 0 5 1, fun _ _ => []⟩,
    ⟨fun _ ix => LAYER_FMT_REGION (ix / 12) (ix % 12), 0x1104, [⟨2048, 0, 9⟩, ⟨64, 0, 12⟩], 16, .rw, .any, fun _ _ => []⟩,
    ⟨fun _ ix => LAYER_FMT_RANGE (ix / 12) (ix % 12), 0x1104, [⟨2048, 0, 9⟩, ⟨64, 0, 12⟩], 15, .rw, .any, fun _ _ => []⟩,
    ⟨fun _ ix => LAYER_FMT_MATRIX (ix / 12) (ix % 12), 0x1104, [⟨2048, 0, 9⟩, ⟨64, 0, 12⟩], 13, .rw, .iv 0 2 1, fun _ _ => []⟩,
    ⟨fun _ ix => LAYER_SRC_XY_X (ix / 12) (ix % 12), 0x1108, [⟨2048, 0, 9⟩, ⟨64, 0, 12⟩], 16, .rw, .any, fun _ _ => []⟩,
    ⟨fun _ ix => LAYER_SRC_XY_Y (ix / 12) (ix % 12), 0x1108, [⟨2048, 0, 9⟩, ⟨64, 0, 12⟩], 0, .rw, .iv 0 10239 1, fun _ _ => []⟩,
    ⟨fun _ ix => LAYER_SRC_WH_W (ix / 12) (ix % 12), 0x110C, [⟨2048, 0, 9⟩, ⟨64, 0, 12⟩], 16, .rw, .iv 8 32767 1, fun _ _ => []⟩,
    ⟨fun _ ix => LAYER_SRC_WH_H (ix / 12) (ix % 12), 0x110C, [⟨2048, 0, 9⟩, ⟨64, 0, 12⟩], 0, .rw, .iv 8 10239 1, fun _ _ => []⟩,
    ⟨fun _ ix => LAYER_DST_XY_X (ix / 12) (ix % 12), 0x1110, [⟨2048, 0, 9⟩, ⟨64, 0, 12⟩], 16, .rw, .any, fun _ _ => []⟩,
    ⟨fun _ ix => LAYER_DST_XY_Y (ix / 12) (ix % 12), 0x1110, [⟨2048, 0, 9⟩, ⟨64, 0, 12⟩], 0, .rw, .iv 0 10239 1, fun _ _ => []⟩,
    ⟨fun _ ix => LAYER_DST_WH_W (ix / 12) (ix % 12), 0x1114, [⟨2048, 0, 9⟩, ⟨64, 0, 12⟩], 16, .rw, .iv 8 32767 1, fun _ _ => []⟩,
    ⟨fun _ ix => LAYER_DST_WH_H (ix / 12) (ix % 12), 0x1114, [⟨2048, 0, 9⟩, ⟨64, 0, 12⟩], 0, .rw, .iv 8 10239 1, fun _ _ => []⟩ ]

/-- Fields of the output rod, part 1. -/
def rowsOut1 : List Row :=
  [ ⟨fun _ ix => LAYER_BUF_OFF64 (ix / 12) (ix % 12), 0x1118, [⟨2048, 0, 9⟩, ⟨64, 0, 12⟩], 0, .rw, .any, fun _ _ => []⟩,
    ⟨fun _ ix => LAYER_PITCH_P1_OFF (ix / 12) (ix % 12), 0x111C, [⟨2048, 0, 9⟩, ⟨64, 0, 12⟩], 16, .rw, .any, fun _ _ => []⟩,
    ⟨fun _ ix => LAYER_PITCH_PITCH (ix / 12) (ix % 12), 0x111C, [⟨2048, 0, 9⟩, ⟨64, 0, 12⟩], 0, .rw, .any, fun _ _ => []⟩,
    ⟨fun _ ix => LAYER_FADDR_EN (ix / 48) (ix / 4 % 12) (ix % 4), 0x1120, [⟨2048, 0, 9⟩, ⟨64, 0, 12⟩, ⟨8, 0, 4⟩], 31, .rw, .any, fun _ _ => []⟩,
    ⟨fun _ ix => LAYER_FADDR_WORD (ix / 48) (ix / 4 % 12) (ix % 4), 0x1120, [⟨2048, 0, 9⟩, ⟨64, 0, 12⟩, ⟨8, 0, 4⟩], 0, .rw, .any, fun _ _ => []⟩,
    ⟨fun _ ix => LAYER_FVAL_VAL (ix / 48) (ix / 4 % 12) (ix % 4), 0x1124, [⟨2048, 0, 9⟩, ⟨64, 0, 12⟩, ⟨8, 0, 4⟩], 0, .rw, .any, fun _ _ => []⟩,
    ⟨fun _ ix => GRD_XY_EN (ix / 16) (ix % 16), 0x1400, [⟨2048, 0, 9⟩, ⟨32, 0, 16⟩], 31, .rw, .any, fun _ _ => []⟩,
    ⟨fun _ ix => GRD_XY_FB_EN (ix / 16) (ix % 16), 0x1400, [⟨2048, 0, 9⟩, ⟨32, 0, 16⟩], 30, .rw, .any, fun _ _ => []⟩,
    ⟨fun _ ix => GRD_XY_BIND (ix / 16) (ix % 16), 0x1400, [⟨2048, 0, 9⟩, ⟨32, 0, 16⟩], 29, .rw, .any, fun _ _ => []⟩,
    ⟨fun _ ix => GRD_XY_Y (ix / 16) (ix % 16), 0x1400, [⟨2048, 0, 9⟩, ⟨32, 0, 16⟩], 16, .rw, .any, fun _ _ => []⟩,
    ⟨fun _ ix => GRD_XY_X (ix / 16) (ix % 16), 0x1400, [⟨2048, 0, 9⟩, ⟨32, 0, 16⟩], 0, .rw, .iv 0 32766 2, fun _ _ => []⟩,
    ⟨fun _ ix => GRD_WH_GROUP (ix / 16) (ix % 16), 0x1404, [⟨2048, 0, 9⟩, ⟨32, 0, 16⟩], 29, .rw, .any, fun _ _ => []⟩,
    ⟨fun _ ix => GRD_WH_H (ix / 16) (ix % 16), 0x1404, [⟨2048, 0, 9⟩, ⟨32, 0, 16⟩], 15, .rw, .iv 16 8192 1, fun _ _ => []⟩,
    ⟨fun _ ix => GRD_WH_W (ix / 16) (ix % 16), 0x1404, [⟨2048, 0, 9⟩, ⟨32, 0, 16⟩], 0, .rw, .iv 16 16384 2, fun _ _ => []⟩,
    ⟨fun _ ix => GRD_EXPECT_CRC (ix / 16) (ix % 16), 0x1408, [⟨2048, 0, 9⟩, ⟨32, 0, 16⟩], 0, .rw, .any, fun _ _ => []⟩,
    ⟨fun _ ix => GRD_FB_WORD (ix / 16) (ix % 16), 0x140C, [⟨2048, 0, 9⟩, ⟨32, 0, 16⟩], 0, .rw, .any, fun _ _ => []⟩,
    ⟨fun _ ix => GRD_FB_CRC_CRC (ix / 16) (ix % 16), 0x1410, [⟨2048, 0, 9⟩, ⟨32, 0, 16⟩], 0, .rw, .any, fun _ _ => []⟩,
    ⟨fun _ ix => GRD_MEAS_CRC (ix / 16) (ix % 16), 0x1414, [⟨2048, 0, 9⟩, ⟨32, 0, 16⟩], 0, .ro, .any, fun _ _ => []⟩,
    ⟨fun _ ix => GRD_GSTAT_MISMATCH (ix / 16) (ix % 16), 0x1418, [⟨2048, 0, 9⟩, ⟨32, 0, 16⟩], 31, .stk, .any, fun _ ix => [GRD_GSTAT_MM_CNT (ix / 16) (ix % 16)]⟩,
    ⟨fun _ ix => GRD_GSTAT_FB_BAD (ix / 16) (ix % 16), 0x1418, [⟨2048, 0, 9⟩, ⟨32, 0, 16⟩], 30, .stk, .any, fun _ _ => []⟩,
    ⟨fun _ ix => GRD_GSTAT_ACTIVE (ix / 16) (ix % 16), 0x1418, [⟨2048, 0, 9⟩, ⟨32, 0, 16⟩], 29, .ro, .any, fun _ _ => []⟩,
    ⟨fun _ ix => GRD_GSTAT_CLR (ix / 16) (ix % 16), 0x1418, [⟨2048, 0, 9⟩, ⟨32, 0, 16⟩], 28, .w1s, .any, fun _ _ => []⟩,
    ⟨fun _ ix => GRD_GSTAT_MM_CNT (ix / 16) (ix % 16), 0x1418, [⟨2048, 0, 9⟩, ⟨32, 0, 16⟩], 0, .ro, .any, fun _ _ => []⟩,
    ⟨fun _ _ => CANVAS_REGION, 0x5020, [], 24, .rw, .any, fun _ _ => []⟩,
    ⟨fun _ _ => CANVAS_NBUF, 0x5020, [], 20, .rw, .iv 3 15 1, fun _ _ => []⟩,
    ⟨fun _ _ => CANVAS_FORMAT, 0x5020, [], 16, .rw, .iv 0 5 1, fun _ _ => []⟩,
    ⟨fun _ _ => CANVAS_BUF_MIB, 0x5020, [], 0, .rw, .iv 1 4095 1, fun _ _ => []⟩,
    ⟨fun _ _ => CWAIT_US, 0x5024, [], 0, .rw, .iv 100 65535 1, fun _ _ => []⟩,
    ⟨fun _ _ => WREADERS_MASK, 0x5028, [], 0, .rw, .any, fun _ _ => []⟩,
    ⟨fun _ _ => SLC_TABLE_GRAN, 0x6000, [], 0, .rw, .any, fun _ _ => []⟩,
    ⟨fun _ _ => SLC_TABLE_TAG_TAG, 0x6004, [], 0, .ro, .any, fun _ _ => []⟩,
    ⟨fun _ _ => SLC_STAT_GEOM_MM, 0x6008, [], 31, .stk, .any, fun _ _ => [SLC_STAT_GEOM_CNT]⟩,
    ⟨fun _ _ => SLC_STAT_REGION, 0x6008, [], 16, .ro, .any, fun _ _ => []⟩,
    ⟨fun _ _ => SLC_STAT_GEOM_CNT, 0x6008, [], 0, .ro, .any, fun _ _ => []⟩,
    ⟨fun _ ix => TG_CTL_EN ix, 0x8000, [⟨512, 0, 8⟩], 31, .rw, .any, fun _ _ => []⟩,
    ⟨fun _ ix => TG_CTL_MODE ix, 0x8000, [⟨512, 0, 8⟩], 30, .rw, .any, fun _ _ => []⟩,
    ⟨fun _ ix => TG_CTL_SRC ix, 0x8000, [⟨512, 0, 8⟩], 29, .rw, .any, fun _ _ => []⟩,
    ⟨fun _ ix => TG_CTL_HS_POL ix, 0x8000, [⟨512, 0, 8⟩], 28, .rw, .any, fun _ _ => []⟩,
    ⟨fun _ ix => TG_CTL_VS_POL ix, 0x8000, [⟨512, 0, 8⟩], 27, .rw, .any, fun _ _ => []⟩,
    ⟨fun _ ix => TG_CTL_SAMPLING ix, 0x8000, [⟨512, 0, 8⟩], 25, .rw, .iv 0 2 1, fun _ _ => []⟩ ]

/-- Fields of the output rod, part 2. -/
def rowsOut2 : List Row :=
  [ ⟨fun _ ix => TG_CTL_BPC ix, 0x8000, [⟨512, 0, 8⟩], 23, .rw, .iv 0 2 1, fun _ _ => []⟩,
    ⟨fun _ ix => TG_CTL_PREFETCH ix, 0x8000, [⟨512, 0, 8⟩], 19, .rw, .iv 2 8 1, fun _ _ => []⟩,
    ⟨fun _ ix => TG_CTL_SLEW_PPM ix, 0x8000, [⟨512, 0, 8⟩], 8, .rw, .iv 1 100 1, fun _ _ => []⟩,
    ⟨fun _ ix => TG_PCLK_DEN ix, 0x8004, [⟨512, 0, 8⟩], 31, .rw, .any, fun _ _ => []⟩,
    ⟨fun _ ix => TG_PCLK_NUM ix, 0x8004, [⟨512, 0, 8⟩], 0, .rw, .any, fun _ _ => []⟩,
    ⟨fun _ ix => TG_PHASE_NS ix, 0x8008, [⟨512, 0, 8⟩], 0, .rw, .any, fun _ _ => []⟩,
    ⟨fun _ ix => TG_HACT_V ix, 0x800C, [⟨512, 0, 8⟩], 0, .rw, .iv 64 8192 4, fun _ _ => []⟩,
    ⟨fun _ ix => TG_VACT_V ix, 0x8018, [⟨512, 0, 8⟩], 0, .rw, .iv 64 4320 1, fun _ _ => []⟩,
    ⟨fun _ ix => TG_HTOTAL_V ix, 0x8010, [⟨512, 0, 8⟩], 0, .rw, .iv 0 65532 4, fun _ _ => []⟩,
    ⟨fun _ ix => TG_VTOTAL_V ix, 0x801C, [⟨512, 0, 8⟩], 0, .rw, .iv 0 16383 1, fun _ _ => []⟩,
    ⟨fun _ ix => TG_HSYNC_HS_START ix, 0x8014, [⟨512, 0, 8⟩], 16, .rw, .iv 0 65532 4, fun _ _ => []⟩,
    ⟨fun _ ix => TG_HSYNC_HS_END ix, 0x8014, [⟨512, 0, 8⟩], 0, .rw, .iv 0 65532 4, fun _ _ => []⟩,
    ⟨fun _ ix => TG_VSYNC_VS_START ix, 0x8020, [⟨512, 0, 8⟩], 16, .rw, .any, fun _ _ => []⟩,
    ⟨fun _ ix => TG_VSYNC_VS_END ix, 0x8020, [⟨512, 0, 8⟩], 0, .rw, .any, fun _ _ => []⟩,
    ⟨fun _ ix => TG_COMMIT_COMMIT_LINE ix, 0x8024, [⟨512, 0, 8⟩], 0, .rw, .any, fun _ _ => []⟩,
    ⟨fun _ ix => HEAD_STAT_STATE ix, 0x8028, [⟨512, 0, 8⟩], 30, .ro, .any, fun _ _ => []⟩,
    ⟨fun _ ix => HEAD_STAT_LINE ix, 0x8028, [⟨512, 0, 8⟩], 0, .ro, .any, fun _ _ => []⟩,
    ⟨fun _ ix => HEAD_EVT_COMMIT_LATE ix, 0x802C, [⟨512, 0, 8⟩], 31, .stk, .any, fun _ ix => [HEAD_EVT_LATE_CNT ix]⟩,
    ⟨fun _ ix => HEAD_EVT_UNDERRUN ix, 0x802C, [⟨512, 0, 8⟩], 30, .stk, .any, fun _ ix => [HEAD_UR_LINES ix, HEAD_UR_LAST_COLUMN ix, HEAD_UR_LAST_LINE ix]⟩,
    ⟨fun _ ix => HEAD_EVT_REPHASE ix, 0x802C, [⟨512, 0, 8⟩], 29, .stk, .any, fun _ _ => []⟩,
    ⟨fun _ ix => HEAD_EVT_RELOCK ix, 0x802C, [⟨512, 0, 8⟩], 28, .stk, .any, fun _ _ => []⟩,
    ⟨fun _ ix => HEAD_EVT_LATE_CNT ix, 0x802C, [⟨512, 0, 8⟩], 0, .ro, .any, fun _ _ => []⟩,
    ⟨fun _ ix => HEAD_UR_LINES ix, 0x8030, [⟨512, 0, 8⟩], 0, .ro, .any, fun _ _ => []⟩,
    ⟨fun _ ix => HEAD_UR_LAST_COLUMN ix, 0x8034, [⟨512, 0, 8⟩], 16, .ro, .any, fun _ _ => []⟩,
    ⟨fun _ ix => HEAD_UR_LAST_LINE ix, 0x8034, [⟨512, 0, 8⟩], 0, .ro, .any, fun _ _ => []⟩,
    ⟨fun _ ix => ROUTE_EN ix, 0x9000, [⟨0, 4, 8⟩], 3, .rw, .any, fun _ _ => []⟩,
    ⟨fun _ ix => ROUTE_HEAD ix, 0x9000, [⟨0, 4, 8⟩], 0, .rw, .any, fun _ _ => []⟩,
    ⟨fun _ ix => SDI_CFG_PSF ix, 0x9100, [⟨64, 0, 4⟩], 31, .rw, .any, fun _ _ => []⟩,
    ⟨fun _ ix => SDI_CFG_PID_EN ix, 0x9100, [⟨64, 0, 4⟩], 30, .rw, .any, fun _ _ => []⟩,
    ⟨fun _ ix => SDI_CFG_TC_EN ix, 0x9100, [⟨64, 0, 4⟩], 29, .rw, .any, fun _ _ => []⟩,
    ⟨fun _ ix => SDI_CFG_TC_SRC ix, 0x9100, [⟨64, 0, 4⟩], 28, .rw, .any, fun _ _ => []⟩,
    ⟨fun _ ix => SDI_CFG_AUD_EN ix, 0x9100, [⟨64, 0, 4⟩], 27, .rw, .any, fun _ _ => []⟩,
    ⟨fun _ ix => SDI_CFG_UANC_EN ix, 0x9100, [⟨64, 0, 4⟩], 26, .rw, .any, fun _ _ => []⟩,
    ⟨fun _ ix => SDI_CFG_UANC_GRAN ix, 0x9100, [⟨64, 0, 4⟩], 16, .rw, .any, fun _ _ => []⟩,
    ⟨fun _ ix => SDI_CFG_UANC_LINE ix, 0x9100, [⟨64, 0, 4⟩], 0, .rw, .any, fun _ _ => []⟩,
    ⟨fun _ ix => SDI_STAT_RATE ix, 0x9104, [⟨64, 0, 4⟩], 29, .ro, .any, fun _ _ => []⟩,
    ⟨fun _ ix => SDI_STAT_FMT ix, 0x9104, [⟨64, 0, 4⟩], 16, .ro, .any, fun _ _ => []⟩,
    ⟨fun _ ix => SDI_STAT_UANC_DROP ix, 0x9104, [⟨64, 0, 4⟩], 15, .stk, .any, fun _ ix => [SDI_STAT_DROP_CNT ix]⟩,
    ⟨fun _ ix => SDI_STAT_DROP_CNT ix, 0x9104, [⟨64, 0, 4⟩], 0, .ro, .any, fun _ _ => []⟩,
    ⟨fun _ ix => DP_CFG_EN ix, 0x9200, [⟨128, 0, 4⟩], 31, .rw, .any, fun _ _ => []⟩ ]

/-- Fields of the output rod, part 3. -/
def rowsOut3 : List Row :=
  [ ⟨fun _ ix => DP_CFG_MAX_RATE ix, 0x9200, [⟨128, 0, 4⟩], 24, .rw, .any, fun _ _ => []⟩,
    ⟨fun _ ix => DP_CFG_MAX_LANES ix, 0x9200, [⟨128, 0, 4⟩], 22, .rw, .iv 0 2 1, fun _ _ => []⟩,
    ⟨fun _ ix => DP_CFG_HDR_SDP ix, 0x9200, [⟨128, 0, 4⟩], 21, .rw, .any, fun _ _ => []⟩,
    ⟨fun _ ix => DP_CFG_HDR_GRAN ix, 0x9200, [⟨128, 0, 4⟩], 0, .rw, .any, fun _ _ => []⟩,
    ⟨fun _ ix => DP_STAT_HPD ix, 0x9204, [⟨128, 0, 4⟩], 31, .ro, .any, fun _ _ => []⟩,
    ⟨fun _ ix => DP_STAT_TRAINED ix, 0x9204, [⟨128, 0, 4⟩], 30, .ro, .any, fun _ _ => []⟩,
    ⟨fun _ ix => DP_STAT_STREAM ix, 0x9204, [⟨128, 0, 4⟩], 29, .ro, .any, fun _ _ => []⟩,
    ⟨fun _ ix => DP_STAT_BW_SHORT ix, 0x9204, [⟨128, 0, 4⟩], 28, .ro, .any, fun _ _ => []⟩,
    ⟨fun _ ix => DP_STAT_RATE ix, 0x9204, [⟨128, 0, 4⟩], 24, .ro, .any, fun _ _ => []⟩,
    ⟨fun _ ix => DP_STAT_LANES ix, 0x9204, [⟨128, 0, 4⟩], 22, .ro, .any, fun _ _ => []⟩,
    ⟨fun _ ix => DP_EVT_HPD_EV ix, 0x9208, [⟨128, 0, 4⟩], 31, .stk, .any, fun _ _ => []⟩,
    ⟨fun _ ix => DP_EVT_IRQ_EV ix, 0x9208, [⟨128, 0, 4⟩], 30, .stk, .any, fun _ _ => []⟩,
    ⟨fun _ ix => DP_EVT_LINK_EV ix, 0x9208, [⟨128, 0, 4⟩], 29, .stk, .any, fun _ ix => [DP_EVT_FAIL_CNT ix]⟩,
    ⟨fun _ ix => DP_EVT_FAIL_CNT ix, 0x9208, [⟨128, 0, 4⟩], 0, .ro, .any, fun _ _ => []⟩,
    ⟨fun _ ix => DP_AUX_CMD_GO ix, 0x920C, [⟨128, 0, 4⟩], 31, .w1s, .any, fun _ _ => []⟩,
    ⟨fun _ ix => DP_AUX_CMD_OP ix, 0x920C, [⟨128, 0, 4⟩], 28, .wo, .iv 0 5 1, fun _ _ => []⟩,
    ⟨fun _ ix => DP_AUX_CMD_LEN ix, 0x920C, [⟨128, 0, 4⟩], 24, .wo, .any, fun _ _ => []⟩,
    ⟨fun _ ix => DP_AUX_CMD_ADDR ix, 0x920C, [⟨128, 0, 4⟩], 0, .wo, .any, fun _ _ => []⟩,
    ⟨fun _ ix => DP_AUX_DATA_D (ix / 4) (ix % 4), 0x9210, [⟨128, 0, 4⟩, ⟨4, 0, 4⟩], 0, .rw, .any, fun _ _ => []⟩,
    ⟨fun _ ix => DP_AUX_STAT_BUSY ix, 0x9220, [⟨128, 0, 4⟩], 31, .ro, .any, fun _ _ => []⟩,
    ⟨fun _ ix => DP_AUX_STAT_RESULT ix, 0x9220, [⟨128, 0, 4⟩], 28, .ro, .any, fun _ _ => []⟩,
    ⟨fun _ ix => DP_AUX_STAT_COUNT ix, 0x9220, [⟨128, 0, 4⟩], 0, .ro, .any, fun _ _ => []⟩ ]

/-- Fields of the output rod. -/
def rowsOut : List Row := rowsOut0 ++ rowsOut1 ++ rowsOut2 ++ rowsOut3

/-- Fields of the network rod, part 0. -/
def rowsNet0 : List Row :=
  [ ⟨fun _ ix => MAC_CFG_EN ix, 0x1000, [⟨256, 0, 4⟩], 31, .rw, .any, fun _ _ => []⟩,
    ⟨fun _ ix => MAC_CFG_AN ix, 0x1000, [⟨256, 0, 4⟩], 30, .rw, .any, fun _ _ => []⟩,
    ⟨fun _ ix => MAC_CFG_KR ix, 0x1000, [⟨256, 0, 4⟩], 29, .rw, .any, fun _ _ => []⟩,
    ⟨fun _ ix => MAC_CFG_PAUSE_RX ix, 0x1000, [⟨256, 0, 4⟩], 28, .rw, .any, fun _ _ => []⟩,
    ⟨fun _ ix => MAC_CFG_MAX_FRAME ix, 0x1000, [⟨256, 0, 4⟩], 0, .rw, .iv 1518 9216 1, fun _ _ => []⟩,
    ⟨fun _ ix => MAC_ADDR_LO_A ix, 0x1004, [⟨256, 0, 4⟩], 0, .rw, .any, fun _ _ => []⟩,
    ⟨fun _ ix => MAC_ADDR_HI_A ix, 0x1008, [⟨256, 0, 4⟩], 0, .rw, .any, fun _ _ => []⟩,
    ⟨fun _ ix => MAC_IPV4_IP ix, 0x100C, [⟨256, 0, 4⟩], 0, .rw, .any, fun _ _ => []⟩,
    ⟨fun _ ix => MAC_STAT_LINK ix, 0x1010, [⟨256, 0, 4⟩], 31, .ro, .any, fun _ _ => []⟩,
    ⟨fun _ ix => MAC_STAT_AN_DONE ix, 0x1010, [⟨256, 0, 4⟩], 30, .ro, .any, fun _ _ => []⟩,
    ⟨fun _ ix => MAC_STAT_FEC_LOCK ix, 0x1010, [⟨256, 0, 4⟩], 29, .ro, .any, fun _ _ => []⟩,
    ⟨fun _ ix => MAC_EVT_LINK_EV ix, 0x1014, [⟨256, 0, 4⟩], 31, .stk, .any, fun _ ix => [MAC_EVT_DOWN_CNT ix]⟩,
    ⟨fun _ ix => MAC_EVT_FEC_UNCORR ix, 0x1014, [⟨256, 0, 4⟩], 30, .stk, .any, fun _ ix => [MAC_EVT_UNC_CNT ix]⟩,
    ⟨fun _ ix => MAC_EVT_DOWN_CNT ix, 0x1014, [⟨256, 0, 4⟩], 8, .ro, .any, fun _ _ => []⟩,
    ⟨fun _ ix => MAC_EVT_UNC_CNT ix, 0x1014, [⟨256, 0, 4⟩], 0, .ro, .any, fun _ _ => []⟩,
    ⟨fun _ ix => TS_LAT_TX ix, 0x1018, [⟨256, 0, 4⟩], 16, .rw, .any, fun _ _ => []⟩,
    ⟨fun _ ix => TS_LAT_RX ix, 0x1018, [⟨256, 0, 4⟩], 0, .rw, .any, fun _ _ => []⟩,
    ⟨fun _ ix => TSQ_STAT_OVF ix, 0x1020, [⟨256, 0, 4⟩], 31, .stk, .any, fun _ ix => [TSQ_STAT_OVF_CNT ix]⟩,
    ⟨fun _ ix => TSQ_STAT_LEVEL ix, 0x1020, [⟨256, 0, 4⟩], 16, .ro, .any, fun _ _ => []⟩,
    ⟨fun _ ix => TSQ_STAT_OVF_CNT ix, 0x1020, [⟨256, 0, 4⟩], 0, .ro, .any, fun _ _ => []⟩,
    ⟨fun _ ix => TSQ_POP_VALID ix, 0x1024, [⟨256, 0, 4⟩], 31, .ro, .any, fun _ _ => []⟩,
    ⟨fun _ ix => TSQ_POP_ID ix, 0x1024, [⟨256, 0, 4⟩], 0, .ro, .any, fun _ _ => []⟩,
    ⟨fun _ ix => TSQ_NS_NS ix, 0x1028, [⟨256, 0, 4⟩], 0, .ro, .any, fun _ _ => []⟩,
    ⟨fun _ ix => TSQ_SEC_SEC ix, 0x102C, [⟨256, 0, 4⟩], 0, .ro, .any, fun _ _ => []⟩,
    ⟨fun _ ix => TSQ_HI_V ix, 0x1030, [⟨256, 0, 4⟩], 0, .ro, .any, fun _ _ => []⟩,
    ⟨fun _ _ => NOW_NS_V, 0x2000, [], 0, .ro, .any, fun _ _ => []⟩,
    ⟨fun _ _ => NOW_SEC_V, 0x2004, [], 0, .ro, .any, fun _ _ => []⟩,
    ⟨fun _ _ => NOW_HI_V, 0x2008, [], 0, .ro, .any, fun _ _ => []⟩,
    ⟨fun _ _ => TLY_RATE_ADJ, 0x200C, [], 0, .rw, .sets [(0, 4294967), (4290672329, 4294967295)], fun _ _ => []⟩,
    ⟨fun _ _ => STEP_NS_V, 0x2010, [], 0, .rw, .iv 0 999999999 1, fun _ _ => []⟩,
    ⟨fun _ _ => STEP_SEC_V, 0x2014, [], 0, .rw, .any, fun _ _ => []⟩,
    ⟨fun _ _ => STEP_HI_V, 0x2018, [], 0, .rw, .any, fun _ _ => []⟩,
    ⟨fun _ _ => TLY_CMD_SET, 0x201C, [], 31, .w1s, .any, fun _ _ => []⟩,
    ⟨fun _ _ => TLY_CMD_ADD, 0x201C, [], 30, .w1s, .any, fun _ _ => []⟩,
    ⟨fun _ _ => TLY_CMD_NEG, 0x201C, [], 29, .wo, .any, fun _ _ => []⟩,
    ⟨fun _ _ => TLY_CMD_STEP_EV, 0x201C, [], 28, .stk, .any, fun _ _ => []⟩,
    ⟨fun _ _ => PTP_CFG_MODE, 0x2040, [], 30, .rw, .any, fun _ _ => []⟩,
    ⟨fun _ _ => PTP_CFG_ONE_STEP, 0x2040, [], 29, .rw, .any, fun _ _ => []⟩,
    ⟨fun _ _ => PTP_CFG_PORTS, 0x2040, [], 25, .rw, .any, fun _ _ => []⟩,
    ⟨fun _ _ => PTP_CFG_DOMAIN, 0x2040, [], 16, .rw, .iv 0 127 1, fun _ _ => []⟩ ]

/-- Fields of the network rod, part 1. -/
def rowsNet1 : List Row :=
  [ ⟨fun _ _ => PTP_CFG_PRIO1, 0x2040, [], 8, .rw, .any, fun _ _ => []⟩,
    ⟨fun _ _ => PTP_CFG_PRIO2, 0x2040, [], 0, .rw, .any, fun _ _ => []⟩,
    ⟨fun _ _ => PTP_SERVO_STEP_TH, 0x2044, [], 16, .rw, .iv 1 65535 1, fun _ _ => []⟩,
    ⟨fun _ _ => PTP_SERVO_SLEW_PPM, 0x2044, [], 8, .rw, .iv 1 255 1, fun _ _ => []⟩,
    ⟨fun _ _ => PTP_SERVO_LOCK_NS, 0x2044, [], 0, .rw, .iv 1 255 1, fun _ _ => []⟩,
    ⟨fun _ _ => PTP_STAT_STATE, 0x2048, [], 30, .ro, .any, fun _ _ => []⟩,
    ⟨fun _ _ => PTP_STAT_HOLD_EV, 0x2048, [], 29, .stk, .any, fun _ _ => []⟩,
    ⟨fun _ _ => PTP_STAT_GM_CHANGE, 0x2048, [], 28, .stk, .any, fun _ _ => []⟩,
    ⟨fun _ _ => PTP_STAT_PORT, 0x2048, [], 26, .ro, .any, fun _ _ => []⟩,
    ⟨fun _ _ => PTP_OFFSET_NS, 0x204C, [], 0, .ro, .any, fun _ _ => []⟩,
    ⟨fun _ ix => PTP_GM_ID ix, 0x2050, [⟨4, 0, 2⟩], 0, .ro, .any, fun _ _ => []⟩,
    ⟨fun _ ix => TRG_TIME_NS_V ix, 0x2100, [⟨32, 0, 16⟩], 0, .rw, .any, fun _ _ => []⟩,
    ⟨fun _ ix => TRG_TIME_SEC_V ix, 0x2104, [⟨32, 0, 16⟩], 0, .rw, .any, fun _ _ => []⟩,
    ⟨fun _ ix => TRG_TIME_HI_V ix, 0x2108, [⟨32, 0, 16⟩], 0, .rw, .any, fun _ _ => []⟩,
    ⟨fun _ ix => TRG_PERIOD_V ix, 0x210C, [⟨32, 0, 16⟩], 0, .rw, .any, fun _ _ => []⟩,
    ⟨fun _ ix => TRG_CTL_ARM ix, 0x2110, [⟨32, 0, 16⟩], 31, .w1s, .any, fun _ _ => []⟩,
    ⟨fun _ ix => TRG_CTL_DISARM ix, 0x2110, [⟨32, 0, 16⟩], 30, .w1s, .any, fun _ _ => []⟩,
    ⟨fun _ ix => TRG_CTL_POL ix, 0x2110, [⟨32, 0, 16⟩], 29, .rw, .any, fun _ _ => []⟩,
    ⟨fun _ ix => TRG_CTL_ARMED ix, 0x2110, [⟨32, 0, 16⟩], 28, .ro, .any, fun _ _ => []⟩,
    ⟨fun _ ix => TRG_CTL_PIN ix, 0x2110, [⟨32, 0, 16⟩], 22, .rw, .sets [(0, 31), (63, 63)], fun _ _ => []⟩,
    ⟨fun _ ix => TRG_CTL_WIDTH ix, 0x2110, [⟨32, 0, 16⟩], 0, .rw, .iv 1 4194303 1, fun _ _ => []⟩,
    ⟨fun _ ix => TRG_STAT_FIRED ix, 0x2114, [⟨32, 0, 16⟩], 31, .stk, .any, fun _ _ => []⟩,
    ⟨fun _ ix => TRG_STAT_LATE ix, 0x2114, [⟨32, 0, 16⟩], 30, .stk, .any, fun _ _ => []⟩,
    ⟨fun _ ix => CAP_CTL_EN ix, 0x2400, [⟨32, 0, 8⟩], 31, .rw, .any, fun _ _ => []⟩,
    ⟨fun _ ix => CAP_CTL_EDGE ix, 0x2400, [⟨32, 0, 8⟩], 29, .rw, .iv 0 2 1, fun _ _ => []⟩,
    ⟨fun _ ix => CAP_CTL_SRC ix, 0x2400, [⟨32, 0, 8⟩], 0, .rw, .iv 0 35 1, fun _ _ => []⟩,
    ⟨fun _ ix => CAP_NS_V ix, 0x2404, [⟨32, 0, 8⟩], 0, .ro, .any, fun _ _ => []⟩,
    ⟨fun _ ix => CAP_SEC_V ix, 0x2408, [⟨32, 0, 8⟩], 0, .ro, .any, fun _ _ => []⟩,
    ⟨fun _ ix => CAP_HI_V ix, 0x240C, [⟨32, 0, 8⟩], 0, .ro, .any, fun _ _ => []⟩,
    ⟨fun _ ix => CAP_STAT_VALID ix, 0x2410, [⟨32, 0, 8⟩], 31, .ro, .any, fun _ _ => []⟩,
    ⟨fun _ ix => CAP_STAT_OVR ix, 0x2410, [⟨32, 0, 8⟩], 30, .stk, .any, fun _ ix => [CAP_STAT_OVR_CNT ix]⟩,
    ⟨fun _ ix => CAP_STAT_OVR_CNT ix, 0x2410, [⟨32, 0, 8⟩], 0, .ro, .any, fun _ _ => []⟩,
    ⟨fun _ _ => LTC_CFG_OUT_EN, 0x2800, [], 31, .rw, .any, fun _ _ => []⟩,
    ⟨fun _ _ => LTC_CFG_IN_EN, 0x2800, [], 30, .rw, .any, fun _ _ => []⟩,
    ⟨fun _ _ => LTC_CFG_RATE, 0x2800, [], 27, .rw, .iv 0 4 1, fun _ _ => []⟩,
    ⟨fun _ _ => LTC_OFFSET_S, 0x2804, [], 0, .rw, .sets [(0, 86399), (4294880897, 4294967295)], fun _ _ => []⟩,
    ⟨fun _ _ => LTC_UTC_VALID, 0x2808, [], 31, .ro, .any, fun _ _ => []⟩,
    ⟨fun _ _ => LTC_UTC_OFF, 0x2808, [], 0, .ro, .any, fun _ _ => []⟩,
    ⟨fun _ _ => LTC_IN_TC, 0x280C, [], 0, .ro, .any, fun _ _ => []⟩,
    ⟨fun _ _ => FLOW_TABLE_FORCE_GRAN, 0x3000, [], 16, .rw, .any, fun _ _ => []⟩ ]

/-- Fields of the network rod, part 2. -/
def rowsNet2 : List Row :=
  [ ⟨fun _ _ => FLOW_TABLE_STAGED_GRAN, 0x3000, [], 0, .rw, .any, fun _ _ => []⟩,
    ⟨fun _ _ => FLOW_CMD_GO, 0x3004, [], 31, .w1s, .any, fun _ _ => []⟩,
    ⟨fun _ _ => FLOW_CMD_FLOW, 0x3004, [], 0, .wo, .iv 0 2143 1, fun _ _ => []⟩,
    ⟨fun _ _ => FLOW_BAD_BAD, 0x3008, [], 31, .stk, .any, fun _ _ => []⟩,
    ⟨fun _ _ => FLOW_BAD_RULE, 0x3008, [], 16, .ro, .any, fun _ _ => []⟩,
    ⟨fun _ _ => FLOW_BAD_FLOW, 0x3008, [], 0, .ro, .any, fun _ _ => []⟩,
    ⟨fun _ ix => PKT_AUQ_GRAN ix, 0x3100, [⟨64, 0, 4⟩], 16, .rw, .any, fun _ _ => []⟩,
    ⟨fun _ ix => PKT_AUQ_GRANS ix, 0x3100, [⟨64, 0, 4⟩], 0, .rw, .iv 1 64 1, fun _ _ => []⟩,
    ⟨fun _ ix => PKT_STAT_AU_DROP ix, 0x3104, [⟨64, 0, 4⟩], 31, .stk, .any, fun _ ix => [PKT_STAT_DROP_CNT ix]⟩,
    ⟨fun _ ix => PKT_STAT_TX_DROP ix, 0x3104, [⟨64, 0, 4⟩], 30, .stk, .any, fun _ _ => []⟩,
    ⟨fun _ ix => PKT_STAT_RX_LOST ix, 0x3104, [⟨64, 0, 4⟩], 29, .stk, .any, fun _ _ => []⟩,
    ⟨fun _ ix => PKT_STAT_RX_AP ix, 0x3104, [⟨64, 0, 4⟩], 28, .stk, .any, fun _ _ => []⟩,
    ⟨fun _ ix => PKT_STAT_DROP_CNT ix, 0x3104, [⟨64, 0, 4⟩], 0, .ro, .any, fun _ _ => []⟩,
    ⟨fun _ ix => PKT_LOAD_PERMILLE ix, 0x3108, [⟨64, 0, 4⟩], 0, .ro, .any, fun _ _ => []⟩ ]

/-- Fields of the network rod. -/
def rowsNet : List Row := rowsNet0 ++ rowsNet1 ++ rowsNet2

/-- Fields of the audio rod, part 0. -/
def rowsAud0 : List Row :=
  [ ⟨fun _ ix => AP_CFG_EN ix, 0x1000, [⟨256, 0, 8⟩], 31, .rw, .any, fun _ _ => []⟩,
    ⟨fun _ ix => AP_CFG_DIR ix, 0x1000, [⟨256, 0, 8⟩], 30, .rw, .any, fun _ _ => []⟩,
    ⟨fun _ ix => AP_CFG_CLK ix, 0x1000, [⟨256, 0, 8⟩], 28, .rw, .any, fun _ _ => []⟩,
    ⟨fun _ ix => AP_CFG_ASRC ix, 0x1000, [⟨256, 0, 8⟩], 27, .rw, .any, fun _ _ => []⟩,
    ⟨fun _ ix => AP_CFG_MCLK_DIV ix, 0x1000, [⟨256, 0, 8⟩], 20, .rw, .any, fun _ _ => []⟩,
    ⟨fun _ ix => AP_FMT_MODE ix, 0x1004, [⟨256, 0, 8⟩], 30, .rw, .iv 0 2 1, fun _ _ => []⟩,
    ⟨fun _ ix => AP_FMT_FS_PULSE ix, 0x1004, [⟨256, 0, 8⟩], 29, .rw, .any, fun _ _ => []⟩,
    ⟨fun _ ix => AP_FMT_DELAY ix, 0x1004, [⟨256, 0, 8⟩], 28, .rw, .any, fun _ _ => []⟩,
    ⟨fun _ ix => AP_FMT_FS_POL ix, 0x1004, [⟨256, 0, 8⟩], 27, .rw, .any, fun _ _ => []⟩,
    ⟨fun _ ix => AP_FMT_BCLK_EDGE ix, 0x1004, [⟨256, 0, 8⟩], 26, .rw, .any, fun _ _ => []⟩,
    ⟨fun _ ix => AP_FMT_WIDTH ix, 0x1004, [⟨256, 0, 8⟩], 24, .rw, .iv 0 2 1, fun _ _ => []⟩,
    ⟨fun _ ix => AP_FMT_DEPTH ix, 0x1004, [⟨256, 0, 8⟩], 23, .rw, .any, fun _ _ => []⟩,
    ⟨fun _ ix => AP_FMT_PACK ix, 0x1004, [⟨256, 0, 8⟩], 21, .rw, .any, fun _ _ => []⟩,
    ⟨fun _ ix => AP_FMT_NSLOT ix, 0x1004, [⟨256, 0, 8⟩], 16, .rw, .iv 2 16 1, fun _ _ => []⟩,
    ⟨fun _ ix => AP_RATE_FS ix, 0x1008, [⟨256, 0, 8⟩], 0, .rw, .any, fun _ _ => []⟩,
    ⟨fun _ ix => AP_SLOTS_MASK ix, 0x100C, [⟨256, 0, 8⟩], 0, .rw, .any, fun _ _ => []⟩,
    ⟨fun _ ix => AP_BLK_LEN ix, 0x1010, [⟨256, 0, 8⟩], 0, .rw, .iv 6 1023 1, fun _ _ => []⟩,
    ⟨fun _ ix => AP_RING_REGION ix, 0x1014, [⟨256, 0, 8⟩], 24, .rw, .any, fun _ _ => []⟩,
    ⟨fun _ ix => AP_RING_NBLK ix, 0x1014, [⟨256, 0, 8⟩], 16, .rw, .iv 2 255 1, fun _ _ => []⟩,
    ⟨fun _ ix => AP_RING_BASE_BASE ix, 0x1018, [⟨256, 0, 8⟩], 0, .rw, .any, fun _ _ => []⟩,
    ⟨fun _ ix => AP_WR_SLOT ix, 0x101C, [⟨256, 0, 8⟩], 0, .rw, .any, fun _ _ => []⟩,
    ⟨fun _ ix => AP_RD_SLOT ix, 0x1020, [⟨256, 0, 8⟩], 0, .rw, .any, fun _ _ => []⟩,
    ⟨fun _ ix => AP_MON_WIN_PPM ix, 0x1024, [⟨256, 0, 8⟩], 16, .rw, .iv 1 10000 1, fun _ _ => []⟩,
    ⟨fun _ ix => AP_MON_STABLE_N ix, 0x1024, [⟨256, 0, 8⟩], 8, .rw, .iv 2 255 1, fun _ _ => []⟩,
    ⟨fun _ ix => AP_MEAS_HZ ix, 0x1028, [⟨256, 0, 8⟩], 0, .ro, .any, fun _ _ => []⟩,
    ⟨fun _ ix => AP_STAT_CLK_STATE ix, 0x102C, [⟨256, 0, 8⟩], 30, .ro, .any, fun _ _ => []⟩,
    ⟨fun _ ix => AP_STAT_ASRC_LOCK ix, 0x102C, [⟨256, 0, 8⟩], 29, .ro, .any, fun _ _ => []⟩,
    ⟨fun _ ix => AP_STAT_DRIFT ix, 0x102C, [⟨256, 0, 8⟩], 0, .ro, .any, fun _ _ => []⟩,
    ⟨fun _ ix => AP_EVT_SLIP ix, 0x1030, [⟨256, 0, 8⟩], 31, .stk, .any, fun _ ix => [AP_EVT_DROP_CNT ix, AP_EVT_REP_CNT ix]⟩,
    ⟨fun _ ix => AP_EVT_CLK_LOST ix, 0x1030, [⟨256, 0, 8⟩], 30, .stk, .any, fun _ ix => [AP_CNT_RECOVER_CNT ix]⟩,
    ⟨fun _ ix => AP_EVT_RATE_EV ix, 0x1030, [⟨256, 0, 8⟩], 29, .stk, .any, fun _ _ => []⟩,
    ⟨fun _ ix => AP_EVT_GLITCH ix, 0x1030, [⟨256, 0, 8⟩], 28, .stk, .any, fun _ ix => [AP_CNT_GLITCH_CNT ix]⟩,
    ⟨fun _ ix => AP_EVT_FS_ERR ix, 0x1030, [⟨256, 0, 8⟩], 27, .stk, .any, fun _ ix => [AP_CNT_FS_ERR_CNT ix]⟩,
    ⟨fun _ ix => AP_EVT_RING ix, 0x1030, [⟨256, 0, 8⟩], 26, .stk, .any, fun _ ix => [AP_CNT_RING_CNT ix]⟩,
    ⟨fun _ ix => AP_EVT_BAD_BLK ix, 0x1030, [⟨256, 0, 8⟩], 25, .stk, .any, fun _ _ => []⟩,
    ⟨fun _ ix => AP_EVT_ASRC_UNLOCK ix, 0x1030, [⟨256, 0, 8⟩], 24, .stk, .any, fun _ _ => []⟩,
    ⟨fun _ ix => AP_EVT_DROP_CNT ix, 0x1030, [⟨256, 0, 8⟩], 8, .ro, .any, fun _ _ => []⟩,
    ⟨fun _ ix => AP_EVT_REP_CNT ix, 0x1030, [⟨256, 0, 8⟩], 0, .ro, .any, fun _ _ => []⟩,
    ⟨fun _ ix => AP_CNT_RING_CNT ix, 0x1034, [⟨256, 0, 8⟩], 16, .ro, .any, fun _ _ => []⟩,
    ⟨fun _ ix => AP_CNT_RECOVER_CNT ix, 0x1034, [⟨256, 0, 8⟩], 12, .ro, .any, fun _ _ => []⟩ ]

/-- Fields of the audio rod, part 1. -/
def rowsAud1 : List Row :=
  [ ⟨fun _ ix => AP_CNT_GLITCH_CNT ix, 0x1034, [⟨256, 0, 8⟩], 8, .ro, .any, fun _ _ => []⟩,
    ⟨fun _ ix => AP_CNT_FS_ERR_CNT ix, 0x1034, [⟨256, 0, 8⟩], 0, .ro, .any, fun _ _ => []⟩,
    ⟨fun _ ix => AP_ASRC_RATIO_RATIO ix, 0x1038, [⟨256, 0, 8⟩], 0, .ro, .any, fun _ _ => []⟩,
    ⟨fun _ ix => SG_CTL_ARM ix, 0x800, [⟨32, 0, 4⟩], 31, .w1s, .any, fun _ _ => []⟩,
    ⟨fun _ ix => SG_CTL_DISARM ix, 0x800, [⟨32, 0, 4⟩], 30, .w1s, .any, fun _ _ => []⟩,
    ⟨fun _ ix => SG_CTL_ARMED ix, 0x800, [⟨32, 0, 4⟩], 29, .ro, .any, fun _ _ => []⟩,
    ⟨fun _ ix => SG_CTL_LATE ix, 0x800, [⟨32, 0, 4⟩], 28, .stk, .any, fun _ _ => []⟩,
    ⟨fun _ ix => SG_CTL_MISS ix, 0x800, [⟨32, 0, 4⟩], 27, .stk, .any, fun _ _ => []⟩,
    ⟨fun _ ix => SG_CTL_MASK ix, 0x800, [⟨32, 0, 4⟩], 0, .rw, .any, fun _ _ => []⟩,
    ⟨fun _ ix => SG_TIME_NS_V ix, 0x804, [⟨32, 0, 4⟩], 0, .rw, .iv 0 999999999 1, fun _ _ => []⟩,
    ⟨fun _ ix => SG_TIME_SEC_V ix, 0x808, [⟨32, 0, 4⟩], 0, .rw, .any, fun _ _ => []⟩,
    ⟨fun _ ix => SG_TIME_HI_V ix, 0x80C, [⟨32, 0, 4⟩], 0, .rw, .any, fun _ _ => []⟩,
    ⟨fun _ ix => AS_CFG_EN ix, 0xA00, [⟨64, 0, 8⟩], 31, .rw, .any, fun _ _ => []⟩,
    ⟨fun _ ix => AS_CFG_BLK ix, 0xA00, [⟨64, 0, 8⟩], 30, .rw, .any, fun _ _ => []⟩,
    ⟨fun _ ix => AS_CFG_NCH ix, 0xA00, [⟨64, 0, 8⟩], 24, .rw, .any, fun _ _ => []⟩,
    ⟨fun _ ix => AS_CHMAP_EN (ix / 16) (ix / 4 % 4) (ix % 4), 0xA04, [⟨64, 0, 8⟩, ⟨4, 0, 4⟩, ⟨0, 8, 4⟩], 7, .rw, .any, fun _ _ => []⟩,
    ⟨fun _ ix => AS_CHMAP_SLOT (ix / 16) (ix / 4 % 4) (ix % 4), 0xA04, [⟨64, 0, 8⟩, ⟨4, 0, 4⟩, ⟨0, 8, 4⟩], 3, .rw, .any, fun _ _ => []⟩,
    ⟨fun _ ix => AS_CHMAP_PORT (ix / 16) (ix / 4 % 4) (ix % 4), 0xA04, [⟨64, 0, 8⟩, ⟨4, 0, 4⟩, ⟨0, 8, 4⟩], 0, .rw, .any, fun _ _ => []⟩,
    ⟨fun _ ix => AS_STAT_SDI_SLIP ix, 0xA14, [⟨64, 0, 8⟩], 31, .stk, .any, fun _ ix => [AS_STAT_SLIP_CNT ix]⟩,
    ⟨fun _ ix => AS_STAT_SLIP_CNT ix, 0xA14, [⟨64, 0, 8⟩], 0, .ro, .any, fun _ _ => []⟩,
    ⟨fun _ ix => SDI_MAP_STREAM ix, 0xC00, [⟨0, 4, 4⟩], 0, .rw, .any, fun _ _ => []⟩ ]

/-- Fields of the audio rod. -/
def rowsAud : List Row := rowsAud0 ++ rowsAud1

/-- Fields of the memory rod, part 0. -/
def rowsMem0 : List Row :=
  [ ⟨fun _ ix => CH_CFG_DENSITY ix, 0x1000, [⟨256, 0, 8⟩], 30, .rw, .iv 0 2 1, fun _ _ => []⟩,
    ⟨fun _ ix => CH_CFG_RANKS ix, 0x1000, [⟨256, 0, 8⟩], 29, .rw, .any, fun _ _ => []⟩,
    ⟨fun _ ix => CH_CFG_REF_MODE ix, 0x1000, [⟨256, 0, 8⟩], 28, .rw, .any, fun _ _ => []⟩,
    ⟨fun _ ix => CH_CFG_PAGE_IDLE ix, 0x1000, [⟨256, 0, 8⟩], 8, .rw, .iv 1 255 1, fun _ _ => []⟩,
    ⟨fun _ ix => CH_QOS_WEIGHT ix, 0x1004, [⟨256, 0, 8⟩], 28, .rw, .iv 1 15 1, fun _ _ => []⟩,
    ⟨fun _ ix => CH_QOS_AGE_MAX ix, 0x1004, [⟨256, 0, 8⟩], 16, .rw, .iv 1 4095 1, fun _ _ => []⟩,
    ⟨fun _ ix => CH_QOS_WR_HI ix, 0x1004, [⟨256, 0, 8⟩], 8, .rw, .iv 8 63 1, fun _ _ => []⟩,
    ⟨fun _ ix => CH_QOS_WR_LO ix, 0x1004, [⟨256, 0, 8⟩], 0, .rw, .iv 0 55 1, fun _ _ => []⟩,
    ⟨fun _ ix => CH_TRAIN_RETRAIN_MS ix, 0x1008, [⟨256, 0, 8⟩], 22, .rw, .iv 10 1000 1, fun _ _ => []⟩,
    ⟨fun _ ix => CH_TRAIN_TEMP_DELTA ix, 0x1008, [⟨256, 0, 8⟩], 16, .rw, .iv 1 63 1, fun _ _ => []⟩,
    ⟨fun _ ix => CH_TRAIN_MARGIN_MIN ix, 0x1008, [⟨256, 0, 8⟩], 8, .rw, .iv 1 32 1, fun _ _ => []⟩,
    ⟨fun _ ix => CH_TRAIN_VREF_MIN ix, 0x1008, [⟨256, 0, 8⟩], 0, .rw, .iv 1 64 1, fun _ _ => []⟩,
    ⟨fun _ ix => CH_CE_RATE_CE_TH ix, 0x100C, [⟨256, 0, 8⟩], 16, .rw, .iv 1 65535 1, fun _ _ => []⟩,
    ⟨fun _ ix => CH_CE_RATE_CE_WIN ix, 0x100C, [⟨256, 0, 8⟩], 0, .rw, .iv 10 60000 1, fun _ _ => []⟩,
    ⟨fun _ ix => CH_FREQ_REQ ix, 0x1010, [⟨256, 0, 8⟩], 31, .w1s, .any, fun _ _ => []⟩,
    ⟨fun _ ix => CH_FREQ_URGENT ix, 0x1010, [⟨256, 0, 8⟩], 30, .wo, .any, fun _ _ => []⟩,
    ⟨fun _ ix => CH_FREQ_SP ix, 0x1010, [⟨256, 0, 8⟩], 0, .wo, .any, fun _ _ => []⟩,
    ⟨fun _ ix => CH_STAT_STATE ix, 0x1014, [⟨256, 0, 8⟩], 29, .ro, .any, fun _ _ => []⟩,
    ⟨fun _ ix => CH_STAT_SP ix, 0x1014, [⟨256, 0, 8⟩], 27, .ro, .any, fun _ _ => []⟩,
    ⟨fun _ ix => CH_STAT_SP_PEND ix, 0x1014, [⟨256, 0, 8⟩], 25, .ro, .any, fun _ _ => []⟩,
    ⟨fun _ ix => CH_STAT_PEND ix, 0x1014, [⟨256, 0, 8⟩], 24, .ro, .any, fun _ _ => []⟩,
    ⟨fun _ ix => CH_STAT_MARGIN_LOW ix, 0x1014, [⟨256, 0, 8⟩], 23, .ro, .any, fun _ _ => []⟩,
    ⟨fun _ ix => CH_STAT_ERASED ix, 0x1014, [⟨256, 0, 8⟩], 22, .ro, .any, fun _ _ => []⟩,
    ⟨fun _ ix => CH_STAT_ERASED_DEV ix, 0x1014, [⟨256, 0, 8⟩], 18, .ro, .any, fun _ _ => []⟩,
    ⟨fun _ ix => CH_STAT_RATE ix, 0x1014, [⟨256, 0, 8⟩], 0, .ro, .any, fun _ _ => []⟩,
    ⟨fun _ ix => CH_EVT_CE ix, 0x1018, [⟨256, 0, 8⟩], 31, .stk, .any, fun _ ix => [CH_CE_CNT_CNT ix]⟩,
    ⟨fun _ ix => CH_EVT_UE ix, 0x1018, [⟨256, 0, 8⟩], 30, .stk, .any, fun _ ix => [CH_EVT_UE_CNT ix]⟩,
    ⟨fun _ ix => CH_EVT_MARGIN_LOW ix, 0x1018, [⟨256, 0, 8⟩], 29, .stk, .any, fun _ _ => []⟩,
    ⟨fun _ ix => CH_EVT_CE_RATE ix, 0x1018, [⟨256, 0, 8⟩], 28, .stk, .any, fun _ _ => []⟩,
    ⟨fun _ ix => CH_EVT_STEPDOWN ix, 0x1018, [⟨256, 0, 8⟩], 27, .stk, .any, fun _ _ => []⟩,
    ⟨fun _ ix => CH_EVT_NO_STEP ix, 0x1018, [⟨256, 0, 8⟩], 26, .stk, .any, fun _ _ => []⟩,
    ⟨fun _ ix => CH_EVT_ERASE ix, 0x1018, [⟨256, 0, 8⟩], 25, .stk, .any, fun _ _ => []⟩,
    ⟨fun _ ix => CH_EVT_SAFE_FORCED ix, 0x1018, [⟨256, 0, 8⟩], 24, .stk, .any, fun _ _ => []⟩,
    ⟨fun _ ix => CH_EVT_TRAIN_FAIL ix, 0x1018, [⟨256, 0, 8⟩], 23, .stk, .any, fun _ _ => []⟩,
    ⟨fun _ ix => CH_EVT_ABORTED ix, 0x1018, [⟨256, 0, 8⟩], 22, .stk, .any, fun _ _ => []⟩,
    ⟨fun _ ix => CH_EVT_RMW_POISON ix, 0x1018, [⟨256, 0, 8⟩], 21, .stk, .any, fun _ _ => []⟩,
    ⟨fun _ ix => CH_EVT_CH_RESET ix, 0x1018, [⟨256, 0, 8⟩], 20, .stk, .any, fun _ _ => []⟩,
    ⟨fun _ ix => CH_EVT_UE_CNT ix, 0x1018, [⟨256, 0, 8⟩], 0, .ro, .any, fun _ _ => []⟩,
    ⟨fun _ ix => CH_CE_CNT_CNT ix, 0x101C, [⟨256, 0, 8⟩], 0, .ro, .any, fun _ _ => []⟩,
    ⟨fun _ ix => CH_ERR_ADDR_CW ix, 0x1020, [⟨256, 0, 8⟩], 0, .ro, .any, fun _ _ => []⟩ ]

/-- Fields of the memory rod, part 1. -/
def rowsMem1 : List Row :=
  [ ⟨fun _ ix => CH_ERR_INFO_DEV ix, 0x1024, [⟨256, 0, 8⟩], 28, .ro, .any, fun _ _ => []⟩,
    ⟨fun _ ix => CH_ERR_INFO_RMW_CNT ix, 0x1024, [⟨256, 0, 8⟩], 0, .ro, .any, fun _ _ => []⟩,
    ⟨fun _ ix => CH_ECC_CFG_ERASE_EN ix, 0x1028, [⟨256, 0, 8⟩], 31, .rw, .any, fun _ _ => []⟩,
    ⟨fun _ ix => CH_ECC_CFG_DEV_TH ix, 0x1028, [⟨256, 0, 8⟩], 0, .rw, .iv 1 65535 1, fun _ _ => []⟩,
    ⟨fun _ _ => PANIC_CFG_LVL_IN, 0x800, [], 28, .rw, .iv 1 15 1, fun _ _ => []⟩,
    ⟨fun _ _ => PANIC_CFG_LVL_OUT, 0x800, [], 24, .rw, .iv 1 15 1, fun _ _ => []⟩,
    ⟨fun _ _ => PANIC_CFG_PANIC_MAX, 0x800, [], 16, .rw, .iv 1 255 1, fun _ _ => []⟩,
    ⟨fun _ _ => PANIC_CFG_EN, 0x800, [], 0, .rw, .any, fun _ _ => []⟩,
    ⟨fun _ _ => PANIC_STAT_LONG, 0x804, [], 31, .stk, .any, fun _ _ => [PANIC_STAT_LONG_CNT]⟩,
    ⟨fun _ _ => PANIC_STAT_LONG_CNT, 0x804, [], 23, .ro, .any, fun _ _ => []⟩,
    ⟨fun _ _ => PANIC_STAT_LIVE, 0x804, [], 0, .ro, .any, fun _ _ => []⟩,
    ⟨fun _ _ => SCRUB_EN, 0x808, [], 31, .rw, .any, fun _ _ => []⟩,
    ⟨fun _ _ => SCRUB_HOURS, 0x808, [], 0, .rw, .iv 1 255 1, fun _ _ => []⟩,
    ⟨fun _ _ => BW_STAT_BW_CEILING, 0x80C, [], 31, .stk, .any, fun _ _ => []⟩,
    ⟨fun _ _ => BW_STAT_OVER, 0x80C, [], 30, .ro, .any, fun _ _ => []⟩,
    ⟨fun _ _ => BW_STAT_PERMILLE, 0x80C, [], 0, .ro, .any, fun _ _ => []⟩ ]

/-- Fields of the memory rod. -/
def rowsMem : List Row := rowsMem0 ++ rowsMem1

/-- Fields of the utility rod, part 0. -/
def rowsUtl0 : List Row :=
  [ ⟨fun _ ix => DFL_CFG_EN ix, 0x1000, [⟨256, 0, 2⟩], 31, .rw, .any, fun _ _ => []⟩,
    ⟨fun _ ix => DFL_CFG_BLOCK ix, 0x1000, [⟨256, 0, 2⟩], 0, .rw, .iv 1 32 1, fun _ _ => []⟩,
    ⟨fun _ ix => DFL_RING_DEPTH ix, 0x1004, [⟨256, 0, 2⟩], 16, .rw, .iv 4 255 1, fun _ _ => []⟩,
    ⟨fun _ ix => DFL_RING_GRAN ix, 0x1004, [⟨256, 0, 2⟩], 0, .rw, .any, fun _ _ => []⟩,
    ⟨fun _ ix => DFL_TAIL_SLOT ix, 0x1008, [⟨256, 0, 2⟩], 0, .rw, .any, fun _ _ => []⟩,
    ⟨fun _ ix => DFL_HEAD_SLOT ix, 0x100C, [⟨256, 0, 2⟩], 0, .ro, .any, fun _ _ => []⟩,
    ⟨fun _ ix => DFL_STAT_STATE ix, 0x1010, [⟨256, 0, 2⟩], 30, .ro, .any, fun _ _ => []⟩,
    ⟨fun _ ix => DFL_STAT_SLOT ix, 0x1010, [⟨256, 0, 2⟩], 0, .ro, .any, fun _ _ => []⟩,
    ⟨fun _ ix => DFL_EVT_ERR ix, 0x1014, [⟨256, 0, 2⟩], 31, .stk, .any, fun _ ix => [DFL_EVT_ERR_CNT ix]⟩,
    ⟨fun _ ix => DFL_EVT_NO_GAIN ix, 0x1014, [⟨256, 0, 2⟩], 30, .stk, .any, fun _ _ => []⟩,
    ⟨fun _ ix => DFL_EVT_DESC_BAD ix, 0x1014, [⟨256, 0, 2⟩], 29, .stk, .any, fun _ _ => []⟩,
    ⟨fun _ ix => DFL_EVT_CUT ix, 0x1014, [⟨256, 0, 2⟩], 28, .stk, .any, fun _ _ => []⟩,
    ⟨fun _ ix => DFL_EVT_FIRST_ERR ix, 0x1014, [⟨256, 0, 2⟩], 8, .ro, .any, fun _ _ => []⟩,
    ⟨fun _ ix => DFL_EVT_ERR_CNT ix, 0x1014, [⟨256, 0, 2⟩], 0, .ro, .any, fun _ _ => []⟩,
    ⟨fun _ ix => DFL_LOAD_PERMILLE ix, 0x1018, [⟨256, 0, 2⟩], 0, .ro, .any, fun _ _ => []⟩,
    ⟨fun _ ix => DMA_CFG_EN ix, 0x2000, [⟨256, 0, 8⟩], 31, .rw, .any, fun _ _ => []⟩,
    ⟨fun _ ix => DMA_CFG_HEAD ix, 0x2000, [⟨256, 0, 8⟩], 8, .ro, .any, fun _ _ => []⟩,
    ⟨fun _ ix => DMA_CFG_TAIL ix, 0x2000, [⟨256, 0, 8⟩], 0, .rw, .any, fun _ _ => []⟩,
    ⟨fun _ ix => DMA_EVT_ERR ix, 0x2004, [⟨256, 0, 8⟩], 31, .stk, .any, fun _ ix => [DMA_EVT_ERR_CNT ix]⟩,
    ⟨fun _ ix => DMA_EVT_CUT ix, 0x2004, [⟨256, 0, 8⟩], 30, .stk, .any, fun _ _ => []⟩,
    ⟨fun _ ix => DMA_EVT_FIRST ix, 0x2004, [⟨256, 0, 8⟩], 8, .ro, .any, fun _ _ => []⟩,
    ⟨fun _ ix => DMA_EVT_ERR_CNT ix, 0x2004, [⟨256, 0, 8⟩], 0, .ro, .any, fun _ _ => []⟩,
    ⟨fun _ _ => THM_CFG_GRACE_MS, 0x3000, [], 22, .rw, .iv 0 1000 1, fun _ _ => []⟩,
    ⟨fun _ _ => THM_CFG_STEP_MS, 0x3000, [], 12, .rw, .iv 10 1000 1, fun _ _ => []⟩,
    ⟨fun _ _ => THM_CFG_MAX_STEP, 0x3000, [], 9, .rw, .iv 0 4 1, fun _ _ => []⟩,
    ⟨fun _ _ => THM_CFG_HYST, 0x3000, [], 0, .rw, .iv 1 15 1, fun _ _ => []⟩,
    ⟨fun _ _ => THM_THR_WARN, 0x3004, [], 16, .rw, .iv 40 110 1, fun _ _ => []⟩,
    ⟨fun _ _ => THM_THR_HOT, 0x3004, [], 0, .rw, .iv 60 110 1, fun _ _ => []⟩,
    ⟨fun _ _ => THM_BULK_MASK, 0x3008, [], 0, .rw, .mask 0x8FFC, fun _ _ => []⟩,
    ⟨fun _ _ => THM_STAT_REQ, 0x300C, [], 31, .ro, .any, fun _ _ => []⟩,
    ⟨fun _ _ => THM_STAT_GRACE, 0x300C, [], 30, .ro, .any, fun _ _ => []⟩,
    ⟨fun _ _ => THM_STAT_RATE, 0x300C, [], 29, .ro, .any, fun _ _ => []⟩,
    ⟨fun _ _ => THM_STAT_FRDIV_NA, 0x300C, [], 28, .ro, .any, fun _ _ => []⟩,
    ⟨fun _ _ => THM_STAT_STEP, 0x300C, [], 0, .ro, .any, fun _ _ => []⟩,
    ⟨fun _ _ => THM_EVT_WARN, 0x3010, [], 31, .stk, .any, fun _ _ => []⟩,
    ⟨fun _ _ => THM_EVT_HOT, 0x3010, [], 30, .stk, .any, fun _ _ => [THM_EVT_HOT_CNT]⟩,
    ⟨fun _ _ => THM_EVT_BROKEN, 0x3010, [], 29, .stk, .any, fun _ _ => []⟩,
    ⟨fun _ _ => THM_EVT_STEP_EV, 0x3010, [], 28, .stk, .any, fun _ _ => []⟩,
    ⟨fun _ _ => THM_EVT_HOT_CNT, 0x3010, [], 0, .ro, .any, fun _ _ => []⟩,
    ⟨fun _ _ => THM_HOT_SRC_S, 0x3014, [], 0, .ro, .any, fun _ _ => []⟩ ]

/-- Fields of the utility rod, part 1. -/
def rowsUtl1 : List Row :=
  [ ⟨fun _ _ => THM_BROKEN_S, 0x3018, [], 0, .ro, .any, fun _ _ => []⟩,
    ⟨fun _ ix => THM_TEMP_BROKEN ix, 0x3040, [⟨4, 0, 24⟩], 31, .ro, .any, fun _ _ => []⟩,
    ⟨fun _ ix => THM_TEMP_REASON ix, 0x3040, [⟨4, 0, 24⟩], 29, .ro, .any, fun _ _ => []⟩,
    ⟨fun _ ix => THM_TEMP_T ix, 0x3040, [⟨4, 0, 24⟩], 0, .ro, .any, fun _ _ => []⟩,
    ⟨fun _ _ => CAL_CFG_STEP_US, 0x4000, [], 0, .rw, .iv 1 1000 1, fun _ _ => []⟩,
    ⟨fun _ _ => TRIM_SEL_KIND, 0x4004, [], 28, .rw, .iv 0 6 1, fun _ _ => []⟩,
    ⟨fun _ _ => TRIM_SEL_INSTANCE, 0x4004, [], 0, .rw, .any, fun _ _ => []⟩,
    ⟨fun _ _ => TRIM_VAL_CODE, 0x4008, [], 16, .ro, .any, fun _ _ => []⟩,
    ⟨fun _ _ => TRIM_VAL_TARGET, 0x4008, [], 0, .rw, .any, fun _ _ => []⟩,
    ⟨fun _ _ => CAL_RUN_GO, 0x400C, [], 31, .w1s, .any, fun _ _ => []⟩,
    ⟨fun _ _ => CAL_RUN_ABORT, 0x400C, [], 30, .w1s, .any, fun _ _ => []⟩,
    ⟨fun _ _ => CAL_RUN_ROUTINE, 0x400C, [], 24, .wo, .any, fun _ _ => []⟩,
    ⟨fun _ _ => CAL_RUN_ARG, 0x400C, [], 0, .wo, .any, fun _ _ => []⟩,
    ⟨fun _ _ => CAL_TIMEOUT_MS, 0x4010, [], 0, .rw, .any, fun _ _ => []⟩,
    ⟨fun _ _ => CAL_STAT_STATE, 0x4014, [], 30, .ro, .any, fun _ _ => []⟩,
    ⟨fun _ _ => CAL_STAT_ROUTINE, 0x4014, [], 24, .ro, .any, fun _ _ => []⟩,
    ⟨fun _ _ => CAL_STAT_RESULT, 0x4014, [], 16, .ro, .any, fun _ _ => []⟩,
    ⟨fun _ _ => CAL_STAT_WALKING, 0x4014, [], 15, .ro, .any, fun _ _ => []⟩,
    ⟨fun _ _ => CAL_EVT_CAL_TIMEOUT, 0x4018, [], 31, .stk, .any, fun _ _ => [CAL_EVT_TO_CNT]⟩,
    ⟨fun _ _ => CAL_EVT_ABANDON, 0x4018, [], 30, .stk, .any, fun _ _ => []⟩,
    ⟨fun _ _ => CAL_EVT_BUSY, 0x4018, [], 29, .stk, .any, fun _ _ => []⟩,
    ⟨fun _ _ => CAL_EVT_ROUTINE, 0x4018, [], 24, .ro, .any, fun _ _ => []⟩,
    ⟨fun _ _ => CAL_EVT_TO_CNT, 0x4018, [], 0, .ro, .any, fun _ _ => []⟩ ]

/-- Fields of the utility rod. -/
def rowsUtl : List Row := rowsUtl0 ++ rowsUtl1

/-- Fields of the always-on block, part 0. -/
def rowsAon0 : List Row :=
  [ ⟨fun _ _ => THR_REC_VALID, 0x100, [], 31, .stk, .any, fun _ _ => []⟩,
    ⟨fun _ _ => THR_REC_VOTES, 0x100, [], 28, .ro, .any, fun _ _ => []⟩,
    ⟨fun _ _ => THR_REC_VBROKEN, 0x100, [], 24, .ro, .any, fun _ _ => []⟩,
    ⟨fun _ _ => THR_REC_RESTARTS, 0x100, [], 0, .ro, .any, fun _ _ => []⟩,
    ⟨fun _ _ => THR_PEAK_AT_SHUT, 0x104, [], 16, .ro, .any, fun _ _ => []⟩,
    ⟨fun _ _ => THR_PEAK_MAX, 0x104, [], 0, .ro, .any, fun _ _ => []⟩,
    ⟨fun _ _ => ROD_HOLD_HOLD, 0x200, [], 0, .rw, .mask 0xBFFE, fun _ _ => []⟩,
    ⟨fun _ _ => ROD_STAT_FAULT_RST, 0x204, [], 31, .stk, .any, fun _ _ => []⟩,
    ⟨fun _ _ => ROD_STAT_HELD, 0x204, [], 30, .stk, .any, fun _ _ => []⟩,
    ⟨fun _ _ => ROD_STAT_IN_RESET, 0x204, [], 0, .ro, .any, fun _ _ => []⟩,
    ⟨fun _ _ => RST_AUTO_LIMIT, 0x208, [], 28, .rw, .iv 1 15 1, fun _ _ => []⟩,
    ⟨fun _ _ => RST_AUTO_PROBE, 0x208, [], 20, .rw, .iv 1 100 1, fun _ _ => []⟩,
    ⟨fun _ _ => RST_AUTO_MASK, 0x208, [], 0, .rw, .mask 0xBF82, fun _ _ => []⟩,
    ⟨fun _ _ => RST_LAST_ROD, 0x20C, [], 28, .ro, .any, fun _ _ => []⟩,
    ⟨fun _ _ => RST_LAST_CAUSE, 0x20C, [], 24, .ro, .any, fun _ _ => []⟩,
    ⟨fun _ _ => RST_LAST_EPOCH, 0x20C, [], 16, .ro, .any, fun _ _ => []⟩,
    ⟨fun _ _ => RST_LAST_AUTO_CNT, 0x20C, [], 0, .ro, .any, fun _ _ => []⟩,
    ⟨fun _ ix => EPOCH_E (ix / 4) (ix % 4), 0x210, [⟨4, 0, 4⟩, ⟨0, 8, 4⟩], 0, .ro, .any, fun _ _ => []⟩,
    ⟨fun _ _ => RST_BEAM_TIMEOUT, 0x220, [], 31, .stk, .any, fun _ _ => [RST_BEAM_TO_CNT]⟩,
    ⟨fun _ _ => RST_BEAM_STALE, 0x220, [], 30, .stk, .any, fun _ _ => [RST_BEAM_STALE_CNT]⟩,
    ⟨fun _ _ => RST_BEAM_TO_PORT, 0x220, [], 24, .ro, .any, fun _ _ => []⟩,
    ⟨fun _ _ => RST_BEAM_TO_CNT, 0x220, [], 16, .ro, .any, fun _ _ => []⟩,
    ⟨fun _ _ => RST_BEAM_STALE_CNT, 0x220, [], 0, .ro, .any, fun _ _ => []⟩,
    ⟨fun _ _ => RST_DEV_KEY, 0x230, [], 16, .wo, .any, fun _ _ => []⟩,
    ⟨fun _ _ => RST_DEV_WARM, 0x230, [], 0, .w1s, .any, fun _ _ => []⟩,
    ⟨fun _ _ => RST_CAUSE_LAST, 0x234, [], 28, .ro, .any, fun _ _ => []⟩,
    ⟨fun _ _ => RST_CAUSE_WARM_CNT, 0x234, [], 0, .ro, .any, fun _ _ => []⟩,
    ⟨fun _ _ => POWER_ON_COUNT, 0x238, [], 0, .ro, .any, fun _ _ => []⟩,
    ⟨fun _ _ => CLK_STAT_XO_EV, 0x280, [], 31, .stk, .any, fun _ _ => []⟩,
    ⟨fun _ _ => CLK_STAT_PCIE_EV, 0x280, [], 30, .stk, .any, fun _ _ => []⟩,
    ⟨fun _ _ => CLK_STAT_ETH_EV, 0x280, [], 29, .stk, .any, fun _ _ => []⟩,
    ⟨fun _ _ => CLK_STAT_ETH_LOST, 0x280, [], 2, .ro, .any, fun _ _ => []⟩,
    ⟨fun _ _ => CLK_STAT_PCIE_LOST, 0x280, [], 1, .ro, .any, fun _ _ => []⟩,
    ⟨fun _ _ => CLK_STAT_XO_LOST, 0x280, [], 0, .ro, .any, fun _ _ => []⟩,
    ⟨fun _ _ => CLK_CFG_STABLE_MS, 0x284, [], 16, .rw, .iv 1 255 1, fun _ _ => []⟩,
    ⟨fun _ _ => CLK_CFG_XO_WIN, 0x284, [], 0, .rw, .iv 50 10000 1, fun _ _ => []⟩,
    ⟨fun _ _ => ID_LOT_LOT, 0x10, [], 0, .ro, .any, fun _ _ => []⟩,
    ⟨fun _ _ => ID_DIE_STEP, 0x14, [], 24, .ro, .any, fun _ _ => []⟩,
    ⟨fun _ _ => ID_DIE_Y, 0x14, [], 16, .ro, .any, fun _ _ => []⟩,
    ⟨fun _ _ => ID_DIE_X, 0x14, [], 8, .ro, .any, fun _ _ => []⟩ ]

/-- Fields of the always-on block, part 1. -/
def rowsAon1 : List Row :=
  [ ⟨fun _ _ => ID_DIE_WAFER, 0x14, [], 0, .ro, .any, fun _ _ => []⟩,
    ⟨fun _ ix => ID_SERIAL_V ix, 0x18, [⟨4, 0, 2⟩], 0, .ro, .any, fun _ _ => []⟩,
    ⟨fun _ ix => FUSE_WORD_W ix, 0x800, [⟨4, 0, 128⟩], 0, .ro, .any, fun _ _ => []⟩ ]

/-- Fields of the always-on block. -/
def rowsAon : List Row := rowsAon0 ++ rowsAon1

/-- Fields of the mailbox and doorbell window, part 0. -/
def rowsWin0 : List Row :=
  [ ⟨fun _ ix => MB_DATA_D (ix / 16) (ix % 16), 0x0, [⟨256, 0, 32⟩, ⟨4, 0, 16⟩], 0, .rw, .any, fun _ _ => []⟩,
    ⟨fun _ ix => MB_CTRL_GO ix, 0x40, [⟨256, 0, 32⟩], 31, .w1s, .any, fun _ _ => []⟩,
    ⟨fun _ ix => MB_CTRL_ARM_WAIT ix, 0x40, [⟨256, 0, 32⟩], 30, .w1s, .any, fun _ _ => []⟩,
    ⟨fun _ ix => MB_CTRL_LEN ix, 0x40, [⟨256, 0, 32⟩], 0, .rw, .iv 8 16 1, fun _ _ => []⟩,
    ⟨fun _ ix => MB_STAT_FULL ix, 0x44, [⟨256, 0, 32⟩], 31, .ro, .any, fun _ _ => []⟩,
    ⟨fun _ ix => MB_STAT_COLLIDE ix, 0x44, [⟨256, 0, 32⟩], 30, .stk, .any, fun _ _ => []⟩,
    ⟨fun _ ix => MB_STAT_RX_RESET_SEEN ix, 0x44, [⟨256, 0, 32⟩], 29, .stk, .any, fun _ _ => []⟩,
    ⟨fun _ ix => MB_STAT_CROSS ix, 0x44, [⟨256, 0, 32⟩], 28, .stk, .any, fun _ _ => []⟩,
    ⟨fun _ ix => MB_STAT_WAIT_ACK ix, 0x44, [⟨256, 0, 32⟩], 27, .ro, .any, fun _ _ => []⟩,
    ⟨fun _ ix => MB_STAT_DIRTY ix, 0x44, [⟨256, 0, 32⟩], 26, .ro, .any, fun _ _ => []⟩,
    ⟨fun _ ix => MB_STAT_LEN ix, 0x44, [⟨256, 0, 32⟩], 16, .ro, .any, fun _ _ => []⟩,
    ⟨fun _ ix => MB_STAT_SEQ ix, 0x44, [⟨256, 0, 32⟩], 0, .ro, .any, fun _ _ => []⟩,
    ⟨fun _ ix => MB_TAKE_VALID ix, 0x48, [⟨256, 0, 32⟩], 31, .ro, .any, fun _ _ => []⟩,
    ⟨fun _ ix => MB_TAKE_DIRTY ix, 0x48, [⟨256, 0, 32⟩], 30, .ro, .any, fun _ _ => []⟩,
    ⟨fun _ ix => MB_TAKE_LEN ix, 0x48, [⟨256, 0, 32⟩], 16, .ro, .any, fun _ _ => []⟩,
    ⟨fun _ ix => MB_TAKE_SEQ ix, 0x48, [⟨256, 0, 32⟩], 0, .ro, .any, fun _ _ => []⟩,
    ⟨fun _ ix => MB_EPOCH_RX_EPOCH ix, 0x4C, [⟨256, 0, 32⟩], 16, .ro, .any, fun _ _ => []⟩,
    ⟨fun _ ix => MB_EPOCH_TX_EPOCH ix, 0x4C, [⟨256, 0, 32⟩], 8, .ro, .any, fun _ _ => []⟩,
    ⟨fun _ ix => MB_EPOCH_SENDER_EPOCH ix, 0x4C, [⟨256, 0, 32⟩], 0, .ro, .any, fun _ _ => []⟩,
    ⟨fun _ ix => DB_SET_B (ix / 2) (ix % 2), 0x2000, [⟨32, 0, 6⟩, ⟨4, 0, 2⟩], 0, .w1s, .any, fun _ _ => []⟩,
    ⟨fun _ ix => DB_STAT_B (ix / 2) (ix % 2), 0x2008, [⟨32, 0, 6⟩, ⟨4, 0, 2⟩], 0, .w1c, .any, fun _ _ => []⟩ ]

/-- Fields of the mailbox and doorbell window. -/
def rowsWin : List Row := rowsWin0

/-- The commit domain of a staged field by its number, in the block that holds it (spec/22 R505). Numbers 3000 to 4999
are the SH fields. -/
def domKind (rod id : Nat) : Dom :=
  if id < 3000 ∨ 5000 ≤ id then .never else
  if rod = 1 then (if id < 3012 then .perIx 1 else  .never) else
  if 2 ≤ rod ∧ rod ≤ 6 then (if id < 3062 then .fixed 0 else  .never) else
  if rod = 7 then (if id < 3009 then .fixed 0 else  .never) else
  if rod = 10 then (if id < 3011 then .fixed 0 else  .never) else
  if rod = 8 ∨ rod = 9 then (if id < 3017 then .fixed 4 else if id < 3020 then .fixed 5 else if id < 3022 then .perIx 1 else  .never) else
  if rod = 11 then (if id < 3004 then .dp else if id < 3011 then .fixed 8 else if id < 3036 then .perIx 1 else if id < 3060 then .perIx 12 else if id < 3071 then .perIx 16 else if id < 3074 then .perIx 48 else if id < 3076 then .route else if id < 3084 then .sdi else  .never) else
  if rod = 12 then (if id < 3004 then .fixed 0 else  .never) else
  if rod = 13 then (if id < 3007 then .fixed 8 else if id < 3018 then .perIx 1 else  .never) else
  if rod = 14 then (if id < 3004 then .fixed 8 else if id < 3010 then .perIx 1 else  .never) else
  .never

end Sys2Proof.Machine
end

