-- ==== Sys2Proof/Machine/State.lean ====
section
/-!
DEFINITION. The state of the device as plain data, and the state right after a full power-on reset.
-/

namespace Sys2Proof.Machine

/-! ### The stringing (spec/02) -/

/-- A ROD section (spec/02 R46); a bead is (index, position). -/
structure RodSec where
  rod : Nat
  power : Nat
  ckDiv : Nat
  beads : List (Nat × Nat)
  deriving DecidableEq, Repr

/-- A BEAM record (spec/02 R49). -/
structure StreamRec where
  stream : Nat
  src : Nat
  dst : List Nat
  queue : Nat
  policy : Nat
  cls : Nat
  rate : Nat
  deriving DecidableEq, Repr

/-- A TRAY record (spec/02 R52). -/
structure TrayRec where
  alloc : Nat
  owner : Nat
  flags : Nat
  first : Nat
  count : Nat
  read : Nat
  write : Nat
  deriving DecidableEq, Repr

/-- A DRAM record (spec/02 R54). -/
structure DramRec where
  region : Nat
  owner : Nat
  kind : Nat
  chmask : Nat
  base : Nat
  size : Nat
  rd : Nat
  wr : Nat
  deriving DecidableEq, Repr

/-- A CLOCK record (spec/02 R57). -/
structure ClockRec where
  domain : Nat
  index : Nat
  source : Nat
  setpoint : Nat
  num : Nat
  den : Nat
  deriving DecidableEq, Repr

/-- An EVENT record (spec/02 R58). -/
structure EventRec where
  source : Nat
  masked : Bool
  route : Nat
  vector : Nat
  deriving DecidableEq, Repr

/-- A PRESET record (spec/02 R59). -/
structure PresetRec where
  offset : Nat
  value : Nat
  deriving DecidableEq, Repr

/-- A LIMIT record (spec/02 R61). -/
structure LimitRec where
  key : Nat
  rod : Nat
  index : Nat
  value : Nat
  deriving DecidableEq, Repr

/-- A stringing: the records of an image by section. -/
structure Stringing where
  rods : List RodSec := []
  streams : List StreamRec := []
  trays : List TrayRec := []
  drams : List DramRec := []
  clocks : List ClockRec := []
  events : List EventRec := []
  presets : List PresetRec := []
  limits : List LimitRec := []
  deriving DecidableEq, Repr

/-- The header of an image (spec/02 R42) with the fields that later steps read. -/
structure ImgHdr where
  kind : Nat := 0
  wrapped : Bool := false
  svn : Nat := 0
  imageId : Nat := 0
  totalLen : Nat := 0
  sigOffset : Nat := 0
  unpackedLen : Nat := 0
  nsect : Nat := 0
  rodMask : Nat := 0
  baseDigest : List Byte := []
  minStep : Nat := 0
  deriving DecidableEq, Repr

/-- The full image or firmware copy that the boot handles (spec/24 R535 to R537), and the patch in progress. -/
structure Staged where
  stored : List Byte := []
  hdr : ImgHdr := {}
  body : List Byte := []
  dirs : List (Nat × Nat × Nat) := []   -- TYPE, ROD, COUNT of each directory entry
  strg : Stringing := {}
  deriving DecidableEq, Repr

/-! ### Jobs, the carry log and the Beam (spec/17 R430 to R433, spec/01 R17 to R19) -/

/-- A Tally time: units of 2^-32 ns since the zero of Tally (spec/13 R323). -/
abbrev Time := Nat

/-- A job that has begun and not ended. -/
structure Job where
  rod : Nat
  bead : Nat
  kind : Nat
  jobId : Nat
  tag : Nat
  deriving DecidableEq, Repr

/-- A carry-log record on its way to CTL.EVT. -/
structure ClogRec where
  rod : Nat
  bead : Nat
  kind : Nat
  flags : Nat
  jobId : Nat
  tag : Nat
  time : Time
  epoch : Nat
  deriving DecidableEq, Repr

/-- An open Beam transaction of a port. -/
structure Txn where
  port : Nat
  txn : Nat
  dst : Nat
  read : Bool
  deriving DecidableEq, Repr

/-- A stream flit that waits for a destination port: its header fields (spec/01 R17), the tag of its frame (R34) and its data. -/
structure Flit where
  stream : Nat
  src : Nat
  dst : Nat
  mark : Nat
  tag : Nat
  data : List Byte
  deriving DecidableEq, Repr

/-! ### Queues of the DRAM channels (spec/15 R378, R379) -/

/-- A codeword entry of a channel's read queue: bytes `lo` to `lo + n - 1` of the codeword `cw` for part `part` of `of`
of a request, with the copy of queued write bytes that it took when it was accepted. -/
structure RdEnt where
  ch : Nat
  port : Nat
  txn : Nat
  part : Nat
  parts : Nat
  cls : Nat
  seq : Nat
  time : Time
  cw : Nat
  lo : Nat
  n : Nat
  copy : List (Nat × Byte)
  deriving DecidableEq, Repr

/-- A codeword entry of a channel's write queue: the bytes written, by their place in the codeword. -/
structure WrEnt where
  ch : Nat
  cls : Nat
  seq : Nat
  time : Time
  cw : Nat
  data : List (Nat × Byte)
  deriving DecidableEq, Repr

/-- A part of a read request that is done and waits for the request's other parts. -/
structure RdPart where
  port : Nat
  txn : Nat
  ch : Nat
  part : Nat
  parts : Nat
  data : List Byte
  poison : Bool
  deriving DecidableEq, Repr

/-- A bank whose row is open (spec/15 R380), with the time of the last access. -/
structure OpenRow where
  ch : Nat
  bank : Nat
  row : Nat
  last : Time
  deriving DecidableEq, Repr

/-- A fault-history entry that waits to be written: the source and the Tally time of its transition (spec/17 R428). -/
structure FhEntry where
  source : Nat
  time : Time
  deriving DecidableEq, Repr

/-! ### Frames and pictures (spec/05 R122 to R128, spec/07 R195 to R202) -/

/-- A frame of a sensor port, with the fields of its frame record (spec/05 R122) and what LNK still knows of it. `port` is
0, 1 or 2 for the pair; `real` lists the active lines received and kept, in order; `next` and `nextOb` are the lowest
line and OB index still to come; `fsMask` and `feMask` have a bit for each port whose FS or FE packet came. -/
structure Frame where
  tag : Nat
  fcnt : Nat
  port : Nat
  info : Nat := 0
  ctags : Nat := 0
  ctx : Nat := 0
  setId : Nat := 0
  fillSet : Nat := 0
  width : Nat
  lines : Nat
  obLines : Nat
  firstMissing : Nat := 0xFFFF
  discarded : Nat := 0
  depth : Nat
  dcg : Nat
  fsTime : Time
  closeTime : Time := 0
  closed : Bool := false
  /-- The overflow point (spec/05 R127): the first line that the dropped packet or a later one would have brought. -/
  overflow : Option Nat := none
  mismatch : Bool := false
  next : Nat := 0
  nextOb : Nat := 0
  real : List Nat := []
  fsMask : Nat := 0
  feMask : Nat := 0
  emb : List Byte := []
  slot : Nat := 0
  /-- The raw store holds the frame's slot no longer. -/
  gone : Bool := false
  /-- The first frame since its port was put in use. -/
  fresh : Bool := false
  /-- Stripes concealed in the picture of the frame (spec/06 R169). -/
  subs : List Nat := []
  /-- Active lines as delivered, fills included, and the optical black lines received, by number. -/
  data : List (Nat × List Byte) := []
  ob : List (Nat × List Byte) := []
  deriving DecidableEq, Repr

/-- A picture: the tag of its frame, its descriptor slot (none where no slot was free) and its statistics block. -/
structure Pic where
  tag : Nat
  slot : Option Nat
  blk : Nat
  deriving DecidableEq, Repr

/-- The half of a pair's line or OB line that waits for the other (spec/04 R98): port, whether it is an OB line, number,
bytes. -/
structure Half where
  port : Nat
  ob : Bool
  num : Nat
  data : List Byte
  deriving DecidableEq, Repr

/-- A write of an exposure set (spec/05 R135): bus, class (0 INT, 1 GAIN, 2 AUX), bytes of data; sent and completed. -/
structure ExpWrite where
  bus : Nat
  cls : Nat
  len : Nat
  target : Nat
  addr : Nat
  data : List Byte
  sent : Bool := false
  done : Bool := false
  deriving DecidableEq, Repr

/-- A posted exposure set: its slot, its fields and the FCNT of its target frame, once its first window has opened. -/
structure ExpSet where
  port : Nat
  slot : Nat
  setId : Nat
  at_ : Bool
  tag : Nat
  bind : Nat
  writes : List ExpWrite
  target : Option Nat := none
  deriving DecidableEq, Repr

/-- What LNK holds outside its registers; a reset of LNK clears it. -/
structure Lnk where
  halves : List Half := []
  sets : List ExpSet := []
  /-- Frames to be marked EXP_UNSURE: port and FCNT (spec/05 R131). -/
  unsure : List (Nat × Nat) := []
  /-- FS_TIME of the last frames of a port, newest first (spec/05 R130). -/
  starts : List (Nat × Time) := []
  /-- Good REFIN periods, newest first, in Tally units (spec/05 R137). -/
  refs : List Nat := []
  /-- Consecutive REFIN periods on trial that agree, newest first (spec/05 R137). -/
  trial : List Nat := []
  deriving DecidableEq, Repr

/-! ### The recorder (spec/08) -/

/-- An entry of a take's index (spec/08 R221). -/
structure IdxEnt where
  tag : Nat
  block : Nat
  len : Nat
  flags : Nat
  deriving DecidableEq, Repr

/-- A take (spec/08 R217, R222): block of its TAKE_OPEN and FIRST_TAG once its first live frame has come, block of its last
INDEX, entries not yet in an INDEX, frames and last tag indexed, pre-roll frames that wait for their catch-up, the REASON
of its close and whether its closing records are in the log. -/
structure Take where
  num : Nat
  port : Nat
  start : Time
  opened : Option (Nat × Nat) := none
  lastIndex : Nat := 0
  idx : List IdxEnt := []
  count : Nat := 0
  lastTag : Nat := 0
  todo : List Nat := []
  closing : Option Nat := none
  sealed : Bool := false
  deriving DecidableEq, Repr

/-- A frame that holds room in the recorder ring (spec/08 R214): its take, whether it is pre-roll, blocks of its first
part, blocks held for each stripe, the budget and E_MAX that its frame start took, coded stripes. -/
structure RecFrame where
  take : Nat
  tag : Nat
  pre : Bool
  first : Nat
  held : List (Nat × Nat)
  budget : Nat
  eMax : Nat
  coded : List (Nat × List Byte) := []
  exhausted : Bool := false
  deriving DecidableEq, Repr

/-- A record of the log that is not complete yet (spec/08 R222), with the ring blocks that it holds. -/
structure RecRec where
  seq : Nat
  kind : Nat
  take : Nat
  tag : Nat
  blk : Nat
  len : Nat
  ring : Nat
  deriving DecidableEq, Repr

/-- What follows an INDEX record, or a TAKE_CLOSE (spec/08 R222): stage 0 waits for the record, 1 flushes, 2 writes the
directory entry, 3 flushes. -/
structure RecPost where
  take : Nat
  seq : Nat
  blk : Nat
  frames : Nat
  lastTag : Nat
  close : Bool
  stage : Nat := 0
  deriving DecidableEq, Repr

/-- The NVMe commands that NVQ uses (spec/08 R223): Writes of a log record, of the directory, of FORMAT; Flush; Deallocate; a Read
that fetches what is kept under a number; admin commands. -/
inductive NvOp where
  | write (seq : Nat)
  | directory
  | volume
  | flush
  | deallocate
  | read (key : Nat)
  | identify (cns : Nat)
  | getFeature (fid : Nat)
  | setFeature (fid : Nat)
  | logPage (lid : Nat)
  | createCq (pair : Nat)
  | createSq (pair : Nat)
  | deleteSq (pair : Nat)
  | deleteCq (pair : Nat)
  | abort (cmd : Nat)
  deriving DecidableEq, Repr

/-- What an NVMe command asks (spec/08 R215, R223): the operation, the member that it is for, its NSID, the first LBA, blocks. -/
structure NvAsk where
  op : NvOp
  member : Nat := 0
  nsid : Nat := 0
  lba : Nat := 0
  blocks : Nat := 0
  deriving DecidableEq, Repr

/-- An NVMe command that is not complete (spec/08 R223, R224): its drive, its queue pair (0 is the admin pair), what it asks; whether
the drive has it; whether it failed once, was reissued after a reset of the controller, has an Abort sent for it. -/
structure NvCmd where
  id : Nat
  drive : Nat
  pair : Nat
  ask : NvAsk
  sent : Bool := false
  failed : Bool := false
  reissued : Bool := false
  aborted : Bool := false
  deriving DecidableEq, Repr

/-- How far a FORMAT or MOUNT has come (spec/08 R225, R229). -/
inductive RecPhase where
  | idle
  | identify
  | deallocate
  | blank
  | super
  | directory
  | header (tail : Bool)
  | record (tail : Bool)
  | recover
  | flush
  | done
  deriving DecidableEq, Repr

/-- What RRC holds outside its registers; a reset of RRC clears it (spec/08 R227). -/
structure Rec where
  takes : List Take := []
  frames : List RecFrame := []
  recs : List RecRec := []
  posts : List RecPost := []
  cmds : List NvCmd := []
  /-- Members and blocks per chunk of the mounted volume, its capacity, next block of the log, next SEQ. -/
  members : Nat := 0
  chunk : Nat := 64
  cap : Nat := 0
  head : Nat := 0
  seq : Nat := 0
  /-- Highest take number in use. -/
  used : Nat := 0
  /-- Directory entries in use: take number and 64 bytes. -/
  dir : List (Nat × List Byte) := []
  nextCmd : Nat := 0
  /-- A FORMAT or MOUNT that runs: its phase; Identify data of member `m` (key 2 m of its drive's controller, 2 m + 1 of its
  namespace); what its Reads brought; the good records of the walk; the block that the walk has come to. -/
  phase : RecPhase := .idle
  ids : List (Nat × List Byte) := []
  got : List (Nat × List Byte) := []
  walk : List (Nat × List Byte) := []
  cursor : Nat := 0
  deriving DecidableEq, Repr

/-! ### Encoders and the wall canvas (spec/09, spec/11 R295) -/

/-- A picture of a stream that is due (spec/09 R242, R243): its tag; whether the slicer or the head has reported it; the COD
rods whose VEC_TO has passed; the rods for which it is ready, each with the time; since when it is a repeat. -/
structure Due where
  tag : Nat
  src : Bool := false
  vecTo : Nat := 0
  ready : List (Nat × Time) := []
  rep : Option Time := none
  deriving DecidableEq, Repr

/-- A picture in progress: encoder, tag, whether it is a repeat and an IDR, its POC and its index in the sweep, the Tray address of
the vector set that seeds it. -/
structure EncJob where
  enc : Nat
  tag : Nat
  rep : Bool
  idr : Bool
  poc : Nat
  j : Nat
  vec : Option Nat := none
  deriving DecidableEq, Repr

/-- A reference picture of a stream (spec/09 R234, R250, R253): its buffer in the DPB, its POC and tag, which of its CTU columns are
clean. -/
structure EncRef where
  slot : Nat
  poc : Nat
  tag : Nat
  clean : List Bool
  deriving DecidableEq, Repr

/-- A running stream, or one with a status entry (spec/09 R237 to R245): what the encoders know of it. `sweepEnd` tells that
the next picture begins a sweep, `cnt` counts source frames for RATE_DIV. -/
structure Strm where
  num : Nat
  run : Bool := false
  commit : Option Nat := none
  idr : Bool := false
  poc : Nat := 0
  j : Nat := 0
  sweepEnd : Bool := true
  /-- Refresh CTUs deferred into the next picture, by address (R256): OUTSTANDING counts them. -/
  todo : List Nat := []
  cpb : Nat := 0
  /-- Bytes of filler that the next access unit carries (R257). -/
  fill : Nat := 0
  /-- Reference pictures, newest first (R234). -/
  refs : List EncRef := []
  /-- Of the last picture (R258): bytes of its CTU rows, its sum of QPs with their number, its bytes, its budget, its largest row at
  QP_CEIL. -/
  rows : List Nat := []
  qps : Nat × Nat := (0, 0)
  lastB : Nat := 0
  ceilRow : Nat := 0
  /-- STOP asks for an end-of-sequence NAL unit on the picture in progress (R240). -/
  eos : Bool := false
  lastTag : Nat := 0
  codedTag : Nat := 0
  lastBytes : Nat := 0
  repCnt : Nat := 0
  exhCnt : Nat := 0
  enc : Nat := 0
  cnt : Nat := 0
  dues : List Due := []
  busy : Option EncJob := none
  deriving DecidableEq, Repr

/-- A stripe job of an image rod (spec/06 R145, R161): rod, stripe, tag, the vector set in use or none, whether MODE MC or ZERO
uses the reference, the LUT slot in use, whether its reference stripe is usable, and the entries of the defect map in use. -/
structure ImgJob where
  rod : Nat
  k : Nat
  tag : Nat
  vec : Option Nat := none
  ref : Bool := false
  lut : Option Nat := none
  refOk : Bool := false
  map : List (List Byte) := []
  deriving DecidableEq, Repr

/-- A stripe of the TNR reference (spec/06 R160): its number, the tag and geometry of the frame that wrote it, its core columns, its
samples as binary16 by line. -/
structure RefStripe where
  k : Nat
  tag : Nat
  width : Nat
  lines : Nat
  first : Nat
  cw : Nat
  rows : List (List Nat)
  deriving DecidableEq, Repr

/-- The picture that a video layer shows (spec/11 R282, R283): composer, layer, its ring (0 the picture ring, 1 and 2 those of
DEC0 and DEC1), the Tray address of its descriptor, its tag and CTAGS. -/
structure LayerPic where
  n : Nat
  j : Nat
  ring : Nat
  addr : Nat
  tag : Nat
  ctags : Nat
  deriving DecidableEq, Repr

/-- A picture of a decoder (spec/10 R271 to R275): a decoded picture that the DPB holds or that waits for its descriptor, or
a generated reference. `num` is its decode number; `buf` the buffer, or the one that a generated picture aliases; `need` that
it is needed for output, `bumped` that it waits for its descriptor, `lat` its latency count; `taint`, `part` and `refGen`
as R271 to R274 say; `head` CTAGS and FS_TIME of the entry header; `desc` the 16 bytes of the descriptor from 0x08 and
`planes` width and height of the stored picture. -/
structure DecPic where
  r : Nat
  num : Nat
  poc : Int
  tag : Nat := 0
  buf : Option Nat := none
  gen : Bool := false
  ref : Bool := true
  need : Bool := false
  bumped : Bool := false
  lat : Nat := 0
  taint : Bool := false
  part : Bool := false
  refGen : Bool := false
  irap : Bool := false
  reached : Bool := false
  ctags : Nat := 0
  fsTime : List Byte := []
  fmt : Nat := 0
  mono : Bool := false
  desc : List Byte := []
  width : Nat := 0
  height : Nat := 0
  deriving DecidableEq, Repr

/-- A picture in progress on a decoder: what R273 needs of it and the limits of its SPS. -/
structure DecJob where
  r : Nat
  pic : DecPic
  uses : List Int
  output : Bool
  reorder : Nat
  latency : Nat
  /-- It has set the pending recovery target. -/
  setter : Bool
  deriving DecidableEq, Repr

/-- A canvas frame in the ring of spec/11 R295: tag, buffer, readers that still hold it, regions already reported. -/
structure Canvas where
  tag : Nat
  buf : Nat
  held : Nat
  done : Bool := false
  reported : List Nat := []
  deriving DecidableEq, Repr

/-! ### Flows (spec/13 R338 to R346) -/

/-- A picture of a flow whose packets wait: tag, RTP timestamp, the time that LATENCY_US counts from, RTP payloads without the
wall header, index of the next packet and packets in all, wall flags 5:2, bytes held in the access-unit queue. -/
structure FlowPic where
  tag : Nat
  ts : Nat
  time : Time
  pkts : List (List Byte)
  idx : Nat
  total : Nat
  flags : Nat
  auq : Nat
  deriving DecidableEq, Repr

/-- A flow that has sent or received: next sequence number, a commit that waits for its next picture, the tag or the head frame
last taken, the pictures that wait. -/
structure Flow where
  num : Nat
  seq : Nat
  commit : Bool := false
  last : Nat := 0
  pics : List FlowPic := []
  deriving DecidableEq, Repr

/-- What a receive flow has reassembled: next sequence number, RTP timestamp, TAG and FS_TIME of the access unit, its NAL
units, the fragments of the one in progress (none where a part of it was lost). -/
structure RxFlow where
  num : Nat
  seq : Nat
  ts : Nat
  tag : Nat
  time : Time
  nals : List (List Byte) := []
  part : Option (List Byte) := none
  deriving DecidableEq, Repr

/-! ### Audio (spec/14 R353 to R364) -/

/-- A block of a receive port: SEQ, index of its first system frame, frames that it holds, FLAGS, slot mask, whether the
oldest waiting frame is discarded before it, whether its first frame repeats the last one. -/
structure AudBlk where
  seq : Nat
  k : Nat
  n : Nat
  flags : Nat
  mask : Nat
  drop : Bool := false
  rep : Bool := false
  deriving DecidableEq, Repr

/-- A running audio port: t0, frame syncs seen, frames that wait (samples of every slot), the last frame, D in units of 1/256
frame but for the fraction of the frame in progress (frames received or sent since t0 or since D was last set), the open
block, closed blocks that still lack frames, whether the next block written carries GAP, frames still to be sent, the last
frames by system index for the streams. -/
structure AudPort where
  n : Nat
  t0 : Time
  base : Nat := 0
  synced : Bool := false
  wait : List (List Nat) := []
  last : List Nat := []
  count : Int := 0
  blk : AudBlk
  due : List AudBlk := []
  gap : Bool := false
  tx : List (List Nat) := []
  hist : List (Nat × List Nat) := []
  deriving DecidableEq, Repr

/-! ### DEFLATE and DMA engines (spec/16, spec/17 R415) -/

/-- A job in progress: engine, slot, its descriptor as the engine read it, and whether that read failed. -/
structure UtlJob where
  n : Nat
  slot : Nat
  desc : List Byte
  bad : Bool := false
  deriving DecidableEq, Repr

/-- What a state record stands for (spec/16 R400, R403): OP and FRAME of the stream, source bytes used so far, bytes written so
far, bits left over; SEQ of the record, the draw of its private bytes and the half that its header names. -/
structure DflStrm where
  op : Nat := 0
  frame : Nat := 0
  src : List Byte := []
  done : Nat := 0
  left : List Bool := []
  seq : Nat := 0
  draw : Nat := 0
  half : Nat := 1
  deriving DecidableEq, Repr

/-! ### Mailbox services (spec/17 R423) -/

/-- A ring that NET_RX set up: MAC, what it matches, first granule, slots, slot written next. -/
structure RxRing where
  mac : Nat
  what : Nat
  gran : Nat
  slots : Nat
  next : Nat := 0
  deriving DecidableEq, Repr

/-! ### What leaves the device -/

/-- Something that leaves the device or reaches a partner, in the order it leaves. -/
inductive Out where
  /-- A Beam reply on its way (spec/01 R17, R18): requesting port, answering port and the epoch of its rod, transaction, status,
  data. -/
  | beamReply (port src epoch txn status : Nat) (data : List Byte)
  /-- A Beam transaction ends at its requester: port, transaction, status, data. -/
  | beamEnd (port txn status : Nat) (data : List Byte)
  /-- A stream flit delivered at a destination port (spec/01 R17, R34): stream, source and destination port, MARK, the tag of its
  frame, data. -/
  | beamFlit (stream src dst mark tag : Nat) (data : List Byte)
  /-- An MSI-X message: vector, address and data of its table entry. -/
  | msix (vector addr data : Nat)
  /-- The completion of a host register read. -/
  | hostWord (value : Nat)
  /-- The completion of a host BAR2 or BAR4 read. -/
  | hostBytes (data : List Byte)
  /-- Bytes written to the recorder's volume from a block up (spec/08 R215). -/
  | volume (block : Nat) (data : List Byte)
  /-- An NVMe command that NVQ gives a drive, on a queue pair (spec/08 R223). -/
  | nvme (drive pair : Nat) (ask : NvAsk)
  /-- A register write on a sensor bus (spec/04 R115): bus 0 and 1 I3C, 2 and 3 SPI; the I3C dynamic address, or the SPI chip select;
  the bytes of the transfer in order. -/
  | sensorWrite (bus target : Nat) (bytes : List Byte)
  /-- An in-band interrupt of an I3C bus passed to firmware: the target's address and its bytes (spec/04 R115). -/
  | i3cIbi (bus addr : Nat) (bytes : List Byte)
  /-- A hot-join request NACKed (spec/04 R115). -/
  | i3cNack (bus : Nat)
  /-- A byte that firmware writes to the link page of a port's sensor (spec/04 R114). -/
  | sensorPage (port addr value : Nat)
  /-- An Ethernet frame that a MAC sends, without its FCS (spec/13 R321). -/
  | ethFrame (mac : Nat) (data : List Byte)
  /-- A received frame passed to firmware, with the time of its start where it is a PTP event message (spec/13 R332). -/
  | ethToCore (mac : Nat) (time : Option Nat) (data : List Byte)
  /-- A sample frame that an audio port sends (spec/14 R350). -/
  | audFrame (n : Nat) (samples : List Nat)
  /-- A block of stream samples for an SDI output (spec/14 R365). -/
  | sdiAudio (o : Nat) (frames : List (List Nat))
  /-- Timecode on LTC_OUT (spec/13 R337). -/
  | ltc (tc : Nat)
  /-- User packets in a frame of an SDI output: DID, SDID, DC and the data of each (spec/12 R313). -/
  | sdiUser (n : Nat) (data : List (List Byte))
  /-- A line that a head sends to its outputs: head, line, luma (or all three components) and chroma samples (spec/12 R308). -/
  | headLine (n line : Nat) (luma chroma : List Nat)
  /-- Timecode in a frame of an SDI output (spec/12 R312). -/
  | sdiTc (n tc : Nat)
  /-- The HDR static metadata of a frame of a DisplayPort or eDP output (spec/12 R314). -/
  | dpHdr (q : Nat) (data : List Byte)
  /-- An AUX request: port, OP, address, bytes minus 1, data of a write (spec/12 R317). -/
  | aux (q op addr len : Nat) (data : List Byte)
  /-- Bytes that a DMA engine or a mailbox service writes to host memory (spec/17 R415). -/
  | hostWrite (addr : Nat) (data : List Byte)
  /-- The challenge that the TAP's SEC_MBX register shows (spec/18 R445). -/
  | jtag (data : List Byte)
  /-- The completion of a read through the debug access port (spec/18 R444). -/
  | dapWord (value : Nat)
  /-- A notice of an event source to the control cores. -/
  | coreNotice (source : Nat)
  deriving DecidableEq, Repr

/-! ### The state -/

/-- The fuses (spec/18 R434, spec/22 R511) as AON's copy holds them. What Lommond burns at manufacture is fixed by the unit
(notes/assumptions/2.md); stepping B1 reads 0x21 (spec/22 R511). `die` is the word ID.DIE. -/
structure Fuses where
  lroot : List Nat := [(Config.lroot 0).toNat, (Config.lroot 1).toNat, (Config.lroot 2).toNat, (Config.lroot 3).toNat]
  croot : List Nat := [0, 0, 0, 0]
  lrev : Nat := 0
  crev : Nat := 0
  life : Nat := 0
  lsvn : Nat := 0
  csvn : Nat := 0
  ds : List Byte := (List.range 32).map Config.deviceSecret
  lot : Nat := Config.lot.toNat
  die : Nat := 0x21 * 2 ^ 24 + Config.diePlace.toNat
  serial : Nat := Config.serial.toNat
  deriving DecidableEq, Repr

/-- The operation that SEC runs (spec/18 R441 to R457): its service, the kind of a token, the mailbox pair that waits for a
reply with the TOKEN of its request, fuse bits still to be burnt as words of spec/22 R511 and bits, customer slots to be read
back with the hashes requested, the code found so far, whether any slot has read back good, a Tray address, the host nonce
and the signature leaf of ATTEST. -/
structure SecOp where
  svc : Nat
  kind : Nat := 0
  pair : Option Nat := none
  token : Nat := 0
  burns : List (Nat × Nat) := []
  slots : List (Nat × List Byte) := []
  code : Nat := 0
  good : Bool := false
  addr : Nat := 0
  nonce : List Byte := []
  leaf : Nat := 0
  deriving DecidableEq, Repr

/-- What SEC holds: the challenge, the operation in progress, the time of the last ATTEST. -/
structure Sec where
  challenge : List Byte := []
  op : Option SecOp := none
  last : Option Time := none
  deriving DecidableEq, Repr

/-! ### Calibration (spec/20) -/

/-- A trim that has an entry in the set in use or has been changed: kind, instance, code, target, SOURCE. -/
structure Trim where
  kind : Nat
  inst : Nat
  code : Int
  target : Int
  src : Nat
  deriving DecidableEq, Repr

/-- The calibration routine that runs (spec/20 R477, R478): routine, ARG, the trims that it sets with their targets and
SOURCE at GO, and the phase of an XO round (0 mean, 1 walk, 2 settling). -/
structure CalRun where
  routine : Nat
  arg : Nat
  old : List (Nat × Nat × Int × Nat)
  phase : Nat := 0
  deriving DecidableEq, Repr

/-- The state of the device. -/
structure State where
  /-- Commands that wait, first in first out. -/
  pending : List Instr := []
  /-- Register fields that differ from their reset value; staged values of SH fields. -/
  regs : List (Key × Nat) := []
  /-- SH fields in force that differ from their reset value. -/
  inf : List (Key × Nat) := []
  /-- The Tray: 64 MiB (spec/01 R22). -/
  tray : List (Nat × Byte) := []
  /-- Tray words of 64 bits whose stored value is uncorrectable (spec/01 R24). -/
  trayBad : List Nat := []
  /-- DRAM bytes by linear address: channel times 2^36 plus the channel offset (spec/15 R371). -/
  dram : List (Nat × Byte) := []
  /-- DRAM codewords of 128 bytes, by linear address over 128, whose stored value is poison (spec/15 R376) where the
  channel is otherwise good, or good where the channel was filled with poison (I.CH_FILL, spec/15 R392). -/
  dramBad : List Nat := []
  rdQ : List RdEnt := []
  wrQ : List WrEnt := []
  rdParts : List RdPart := []
  rows : List OpenRow := []
  /-- The keep store, 4 MiB of MRAM (spec/20 R471). At manufacture it holds a record A of spec/18 R449 with no signature used, and
  else zeros (notes/assumptions/3.md). -/
  keep : List (Nat × Byte) := [(0x1000, 0x4C), (0x1001, 0x4D), (0x1002, 0x54), (0x1003, 0x53), (0x103C, 0x86), (0x103D, 0x65),
    (0x103E, 0x33), (0x103F, 0x1A)]
  fuses : Fuses := {}
  /-- The stringing in force, and whether a full image is in force. -/
  strg : Stringing := {}
  strung : Bool := false
  /-- The image or firmware copy in hand at boot, and the patch in progress. -/
  img : Staged := {}
  patch : Staged := {}
  /-- Tally time (spec/13 R323), which a step or the servo may move. -/
  now : Time := 0
  /-- Time since the full power-on reset, which nothing moves but its own running; timers read it. -/
  up : Time := 0
  jobs : List Job := []
  /-- The last frames that took a tag, newest first (spec/05 R118). -/
  frames : List Frame := []
  /-- The last pictures of the source, newest first. -/
  pics : List Pic := []
  /-- Streams that have been started (spec/09 R240). -/
  strms : List Strm := []
  /-- Stripe jobs in progress, the shading grids that image rods hold (rod, slot GRID_A, slot GRID_B; spec/06 R155), and the stripes of
  the TNR reference, newest first. -/
  imgs : List ImgJob := []
  grids : List (Nat × List Byte × List Byte) := []
  /-- The luma that QLD made of the last two frames of the source: tag, rows of samples (spec/06 R163). -/
  lumas : List (Nat × List (List Nat)) := []
  refs : List RefStripe := []
  /-- Pictures of the decoders, oldest first, pictures in progress, and the descriptors written: decoder, Tray address,
  buffer. -/
  decs : List DecPic := []
  decJobs : List DecJob := []
  decOut : List (Nat × Nat × Nat) := []
  /-- Copies that outputs took at their commit points: the user packet slots of an SDI output (spec/12 R313), the InfoFrame
  bytes of a DisplayPort or eDP output (spec/12 R314). -/
  uanc : List (Nat × List Byte) := []
  hdrs : List (Nat × List Byte) := []
  /-- Pictures that video layers show. -/
  lays : List LayerPic := []
  /-- Underruns of the frame that a head sends: head, line, first pixel repeated (spec/12 R309). -/
  unders : List (Nat × Nat × Nat) := []
  /-- Canvas frames of the ring, newest first. -/
  canv : List Canvas := []
  /-- Rods bound to an exposure set, with the tag of its frame (spec/05 R133). -/
  binds : List (Nat × Nat × Nat) := []
  lnk : Lnk := {}
  recd : Rec := {}
  /-- Carry-log records on their way, each under its rod, oldest first. -/
  clogQ : List ClogRec := []
  txns : List Txn := []
  /-- Audio ports that run. -/
  auds : List AudPort := []
  /-- Jobs in progress of the DEFLATE and DMA engines; what the state records written stand for, newest first. -/
  dfls : List UtlJob := []
  dmas : List UtlJob := []
  dflRecs : List DflStrm := []
  /-- Rings that NET_RX set up. -/
  rings : List RxRing := []
  /-- Flows, and reassembly of receive flows. -/
  flows : List Flow := []
  rxs : List RxFlow := []
  /-- Transmit timestamps that wait: MAC, identifier, time (spec/13 R333); oldest first. -/
  tsq : List (Nat × Nat × Time) := []
  /-- Port and transaction numbers that a reset took from use, with the time until which they stay so (spec/21 R490). -/
  quarantine : List (Nat × Nat × Time) := []
  flits : List Flit := []
  sec : Sec := {}
  trims : List Trim := []
  cal : Option CalRun := none
  /-- Automatic resets: rod and time of each (spec/21 R491); channel n of MEM counts under 16 + n (spec/15 R392). -/
  autoTimes : List (Nat × Time) := []
  fhPend : List FhEntry := []
  /-- MSI-X vectors with their pending bit set. -/
  pba : List Nat := []
  out : List Out := []
  /-- The model's own counter of free values drawn (notes/assumptions/2.md). -/
  freeCtr : Nat := 0
  deriving DecidableEq, Repr

/-- The reasons for which a command stops the machine: none. Every command of the table has an effect in every state
(notes/assumptions/5.md), so that no meaning raises a fault. -/
inductive Fault where
  deriving DecidableEq, Repr

/-- The reasons for which a command is refused. -/
inductive Refusal where
  /-- The command has no meaning in the model yet. Raised by the dispatch alone; safe: no claim is proved of it. -/
  | notModelled (mnemonic : String)
  deriving DecidableEq, Repr

/-- The device right after a full power-on reset, before its boot begins. -/
def State.reset : State := {}

end Sys2Proof.Machine
end

