-- ==== Sys2Proof/Machine/Ops.lean ====
section
/-!
DEFINITION. The shared operations on the state: reading and writing register fields, committing a domain, raising an
event source, jobs and the carry log, free values, isolation of rods.
-/

namespace Sys2Proof.Machine

/-- The outcome of a command. -/
abbrev Res := Host.Outcome State Fault Refusal

/-! ### Register fields -/

/-- The value of a field; the staged value of an SH field (spec/00 R7). -/
def State.get (s : State) (f : Fld) : Nat := mapGet f.rst s.regs f.key

/-- Write a field; bits beyond its width fall away. -/
def State.set (s : State) (f : Fld) (v : Nat) : State :=
  { s with regs := mapSet keyLt f.rst s.regs f.key (v % 2 ^ f.w) }

/-- Is a field number one of an SH field? -/
def isSh (id : Nat) : Bool := decide (3000 ≤ id ∧ id < 5000)

/-- The value in force: the in-force copy of an SH field, otherwise the field itself (spec/00 R7, spec/22 R501). -/
def State.inForce (s : State) (f : Fld) : Nat :=
  if isSh f.id then mapGet f.rst s.inf f.key else s.get f

/-- Write the in-force copy of an SH field. -/
def State.setInf (s : State) (f : Fld) (v : Nat) : State :=
  { s with inf := mapSet keyLt f.rst s.inf f.key (v % 2 ^ f.w) }

/-- Write several fields. -/
def State.sets (s : State) (l : List (Fld × Nat)) : State := l.foldl (fun s e => s.set e.1 e.2) s

/-- A one-bit field as a condition. -/
def State.on (s : State) (f : Fld) : Bool := decide (s.get f ≠ 0)

/-- Add 1 to a saturating count. -/
def State.inc (s : State) (f : Fld) : State := s.set f (satInc f.w (s.get f))

/-- Add to a saturating count. -/
def State.addSat (s : State) (f : Fld) (n : Nat) : State := s.set f (min (s.get f + n) (2 ^ f.w - 1))

/-- Apply a change only when a condition holds. -/
def State.when (s : State) (b : Bool) (g : State → State) : State := if b then g s else s

/-- Append to what leaves the device. -/
def State.emit (s : State) (o : Out) : State := { s with out := s.out ++ [o] }

/-! ### Free values -/

/-- A fresh unstated number (notes/assumptions/2.md). -/
def State.free (s : State) : Nat := Config.freeNat s.freeCtr

/-- A fresh unstated byte string of length `n`. -/
def State.freeBytes (s : State) (n : Nat) : List Byte := (List.range n).map (fun i => Config.freeByte s.freeCtr i)

/-- The counter after a draw. -/
def State.drawn (s : State) : State := { s with freeCtr := s.freeCtr + 1 }

/-! ### Rods -/

/-- The proxy acts for the rod: in reset, being restrung, powered down or gated (spec/21 R488). -/
def State.isolated (s : State) (rod : Nat) : Bool := decide (rod < 16) && s.on (I.PROXY rod)

/-- The rod of a Beam port (spec/01 R15). -/
def portRod (p : Nat) : Nat :=
  if p = 0 then 0 else if p ≤ 2 then 1 else if p ≤ 7 then p - 1 else if p = 8 then 7 else if p ≤ 10 then 8
  else if p ≤ 12 then 9 else if p ≤ 14 then 10 else if p ≤ 16 then 11 else if p = 17 then 12 else if p = 18 then 13
  else if p ≤ 26 then 14 else 15

/-- The epoch of a rod (spec/21 R489): byte `rod mod 4` of AON.RST.EPOCH(rod div 4). -/
def State.epoch (s : State) (rod : Nat) : Nat := s.get (R.EPOCH_E (rod / 4) (rod % 4))

/-! ### Time (spec/13 R323) -/

/-- Tally units in a nanosecond, a microsecond, a millisecond and a second. -/
def tNs : Nat := 2 ^ 32
def tUs : Nat := 1000 * tNs
def tMs : Nat := 1000000 * tNs
def tSec : Nat := 1000000000 * tNs

/-- Nanoseconds of a Tally time, 0 to 999,999,999. -/
def timeNs (t : Time) : Nat := t / tNs % 1000000000

/-- Seconds of a Tally time, 48 bits. -/
def timeSec (t : Time) : Nat := t / tSec % 2 ^ 48

/-- The upper 16 bits of the fraction of a nanosecond. -/
def timeFrac (t : Time) : Nat := t % tNs / 2 ^ 16

/-- The Tally time of seconds and nanoseconds. -/
def timeOf (sec ns : Nat) : Time := sec * tSec + ns * tNs

/-! ### Events (spec/17 R425 to R428) -/

/-- The route byte of a source. -/
def State.route (s : State) (rod l : Nat) : Nat := s.get (R.EVT_RT_ROUTE rod l)

/-- A source is active while its bit is set and unmasked. -/
def State.active (s : State) (rod l : Nat) : Bool := s.on (R.EVT_STAT rod l) && !s.on (R.EVT_MASK rod l)

/-- The sources whose bit is set. -/
def State.raised (s : State) : List (Nat × Nat) :=
  (s.regs.filter (fun e => decide (e.1.2.1 = (R.EVT_STAT 0 0).id ∧ e.2 ≠ 0))).map (fun e => (e.1.1, e.1.2.2))

/-- An active source asserts MSI-X vector `v` (spec/17 R426). -/
def State.vecAsserted (s : State) (v : Nat) : Bool :=
  s.raised.any (fun e => s.active e.1 e.2 && bit (s.route e.1 e.2) 5 && decide (s.get (R.EVT_RT_VECTOR e.1 e.2) = v))

/-- Deliver vector `v`: a message, or the pending bit of a masked vector, or nothing while the link is down or MSI-X is
disabled (spec/17 R426). -/
def State.msix (s : State) (v : Nat) : State :=
  if s.on I.HEP_LINK && s.on I.HEP_MSIX then
    if bit (s.get (I.MSIX_TAB v 3)) 0 then
      { s with pba := if s.pba.contains v then s.pba else v :: s.pba }
    else s.emit (.msix v (s.get (I.MSIX_TAB v 0) + 2 ^ 32 * s.get (I.MSIX_TAB v 1)) (s.get (I.MSIX_TAB v 2)))
  else s

/-- Raise an event source: its bit sets; a new transition of a source with ROUTE bit 4 is told to the control cores and
waits for the fault history; a vector that becomes asserted is delivered (spec/17 R425, R426, R428). -/
def State.raise (s : State) (e : E.Src) : State :=
  if s.on (R.EVT_STAT e.1 e.2) then s
  else
    let v := s.get (R.EVT_RT_VECTOR e.1 e.2)
    let was := s.vecAsserted v
    let s1 := s.set (R.EVT_STAT e.1 e.2) 1
    let s2 := if bit (s.route e.1 e.2) 4 then
        ({ s1 with fhPend := s1.fhPend ++ [⟨E.number e, s.now⟩] } : State).emit (.coreNotice (E.number e))
      else s1
    if s1.active e.1 e.2 && bit (s.route e.1 e.2) 5 && !was then s2.msix v else s2

/-- Raise when a condition holds. -/
def State.raiseIf (s : State) (b : Bool) (e : E.Src) : State := if b then s.raise e else s

/-! ### The stringing in force -/

/-- The value of a LIMIT key, or its default (spec/02 R62). -/
def Stringing.limit (g : Stringing) (key rod index dflt : Nat) : Nat :=
  match g.limits.find? (fun r => decide (r.key = key ∧ r.rod = rod ∧ r.index = index)) with
  | some r => r.value
  | none => dflt

/-- The ROD section of a rod. -/
def Stringing.rodSec (g : Stringing) (rod : Nat) : Option RodSec := g.rods.find? (fun r => decide (r.rod = rod))

/-- Is a bead strung? -/
def Stringing.strungBead (g : Stringing) (rod bead : Nat) : Bool :=
  match g.rodSec rod with
  | some r => r.beads.any (fun b => decide (b.1 = bead))
  | none => false

/-- Is a rod powered by the stringing? -/
def Stringing.powered (g : Stringing) (rod : Nat) : Bool :=
  match g.rodSec rod with
  | some r => decide (r.power = 1)
  | none => false

/-- The region's defining DRAM record. -/
def Stringing.region (g : Stringing) (n : Nat) : Option DramRec :=
  g.drams.find? (fun r => decide (r.region = n ∧ r.size ≠ 0))

/-- The bytes of a region; 0 where it is not defined. -/
def Stringing.regionSize (g : Stringing) (n : Nat) : Nat :=
  match g.region n with
  | some r => r.size
  | none => 0

/-- The TRAY record that grants a granule. -/
def Stringing.granule (g : Stringing) (n : Nat) : Option TrayRec :=
  g.trays.find? (fun r => decide (r.first ≤ n ∧ n < r.first + r.count))

/-- Limits of the sensor ports and image rods (spec/02 R61). -/
def State.rawDepth (s : State) (p : Nat) : Nat := s.strg.limit 0x0004 1 p 16
def State.dcg (s : State) (p : Nat) : Bool := decide (s.strg.limit 0x0005 1 p 0 = 1)
def State.stripes (s : State) : Nat := s.strg.limit 0x0011 0xFF 0 4
def State.tnrQuality (s : State) : Bool := decide (s.strg.limit 0x0010 2 0 1 = 1)
def State.spareArmed (s : State) : Bool := decide (s.strg.limit 0x0012 6 0 0 = 1)

/-- A domain's rules count only where the bead of its registers is strung: the registers of a bead that is not strung hold their
reset values and drive nothing (spec/02 R47). Domain d of OUT is that of HEADd and CMPd. -/
def domStrung (g : Stringing) (rod d : Nat) : Bool :=
  if rod = 11 then (if d < 8 then g.strungBead 11 (10 + d) || g.strungBead 11 d else g.strungBead 11 8)
  else if rod = 13 ∧ d < 8 then g.strungBead 13 d
  else if rod = 8 ∨ rod = 9 then g.strungBead rod 4 || decide (d ≠ 4)
  else if 2 ≤ rod ∧ rod ≤ 7 ∨ rod = 10 then (match g.rodSec rod with | some r => !r.beads.isEmpty | none => false)
  else if rod = 14 then g.strungBead 14 d
  else true

/-! ### Commits (spec/22 R505 to R508) -/

/-- Is the field of a key in commit domain `d` of the rod? Fields of OUT that follow a route are in the domain of their
head and are committed with it by OUT's own rule. -/
def inDom (rod d : Nat) (k : Key) : Bool :=
  decide (k.1 = rod) &&
    (match domKind rod k.2.1 with
     | .fixed e => decide (e = d)
     | .perIx v => decide (k.2.2 / v = d)
     | _ => false)

/-- Copy the staged values of the fields that `p` picks into force. -/
def State.commitWhere (s : State) (p : Key → Bool) : State :=
  let staged := s.regs.filter (fun e => isSh e.1.2.1 && p e.1)
  { s with inf := mapOver keyLt staged (s.inf.filter (fun e => !p e.1)) }

/-- Apply one domain. -/
def State.commitDom (s : State) (rod d : Nat) : State := s.commitWhere (inDom rod d)

/-- Is domain `d` of the rod pending? -/
def State.commitPending (s : State) (rod d : Nat) : Bool := bit (s.get (R.COMMIT_PEND rod)) d

/-- Clear the request of domain `d`. -/
def State.clearPend (s : State) (rod d : Nat) : State :=
  s.set (R.COMMIT_PEND rod) (clrBit (s.get (R.COMMIT_PEND rod)) d)

/-- Record a rejected commit: COMMIT_BAD of the rod and COMMIT_REJECT (spec/22 R507, R509). -/
def State.commitBad (s : State) (rod d rule : Nat) : State :=
  let s1 := if s.on (R.COMMIT_BAD_BAD rod) then s
    else ((s.set (R.COMMIT_BAD_BAD rod) 1).set (R.COMMIT_BAD_RULE rod) rule).set (R.COMMIT_BAD_DOMAIN rod) d
  (s1.inc (R.COMMIT_BAD_CNT rod)).raise E.commitReject

/-- The commit point of domain `d` (spec/22 R507): the first failing rule of `rules`, in the order they stand, rejects
the set; otherwise the domain's staged values come into force. The request ends either way; the answer tells whether
the set was applied. -/
def State.tryCommit (s : State) (rod d : Nat) (rules : List (Nat × Bool)) : State × Bool :=
  match rules.find? (fun r => !r.2) with
  | some r => ((s.clearPend rod d).commitBad rod d r.1, false)
  | none => ((s.clearPend rod d).commitDom rod d, true)

/-- What a commit rule of domain `d` reads: staged values of the domain's own fields, values in force of others. -/
def State.asked (s : State) (rod d : Nat) (f : Fld) : Nat := if inDom rod d f.key then s.get f else s.inForce f

/-- The commit point of a domain whose rules are given. -/
def State.commitAt (s : State) (rod d : Nat) (rules : State → (Fld → Nat) → Nat → List (Nat × Bool)) : State :=
  if s.commitPending rod d then
    (s.tryCommit rod d (if domStrung s.strg rod d then rules s (s.asked rod d) d else [])).1
  else s

/-- Record a rejected write: WR_RANGE of the block and REG_WR_RANGE (spec/22 R504, R509). -/
def State.wrRange (s : State) (rod addr : Nat) : State :=
  let b := if rod = 17 then 0 else rod
  let s1 := if s.on (R.WR_RANGE_WR b) then s else (s.set (R.WR_RANGE_WR b) 1).set (R.WR_RANGE_ADDR b) addr
  (s1.inc (R.WR_RANGE_CNT b)).raise E.wrRange

/-! ### Jobs and the carry log (spec/17 R430 to R433) -/

/-- Records of a rod that wait. -/
def State.clogLen (s : State) (rod : Nat) : Nat := (s.clogQ.filter (fun r => decide (r.rod = rod))).length

/-- Send a carry-log record: queued, or counted and discarded when the rod's 64 places are taken (spec/17 R433). -/
def State.record (s : State) (r : ClogRec) : State :=
  if s.clogLen r.rod < 64 then { s with clogQ := s.clogQ ++ [r] }
  else ((s.set (I.CLOG_DROPPED r.rod) (s.get (I.CLOG_DROPPED r.rod) + 1)).set R.CLOG_STAT_LOST 1).inc R.CLOG_STAT_LOST_CNT
    |>.raise E.clogLost

/-- A job begins: its begin record (spec/17 R430). -/
def State.beginJob (s : State) (j : Job) : State :=
  ({ s with jobs := s.jobs ++ [j] } : State).record ⟨j.rod, j.bead, j.kind, 0, j.jobId, j.tag, s.now, s.epoch j.rod⟩

/-- A job ends with a STATUS: its end record. -/
def State.endJob (s : State) (j : Job) (status : Nat) : State :=
  ({ s with jobs := s.jobs.erase j } : State).record
    ⟨j.rod, j.bead, j.kind, 1 + 16 * status, j.jobId, j.tag, s.now, s.epoch j.rod⟩

/-- Is a job open? -/
def State.open (s : State) (j : Job) : Bool := s.jobs.contains j

end Sys2Proof.Machine
end

