-- ==== Sys2Proof/Machine/Tray.lean ====
section
/-!
DEFINITION. The Tray (spec/01 R22 to R24): grants by granule, denials, words that hold an uncorrectable error.
-/

namespace Sys2Proof.Machine

/-- The bead-local stores (spec/01 R25): the rods that have one each, and its size in units of 256 KiB. Each is reached by the beads
of its own rod alone; what a job holds there is part of the job's state. -/
def beadStores : List (List Nat × Nat) :=
  [([2, 3, 4, 5, 6], 10), ([7], 10), ([8, 9], 12), ([11], 20), ([0], 8), ([12], 6), ([1], 4), ([10], 4), ([15, 13], 1)]

/-- The size of a rod's bead-local store, in bytes. -/
def beadStore (rod : Nat) : Nat :=
  match beadStores.find? (fun e => e.1.contains rod) with
  | some e => e.2 * 2 ^ 18
  | none => 0

/-- Bytes of a granule, and of the whole Tray. -/
def granBytes : Nat := 65536
def trayBytes : Nat := 67108864

/-- Does the stringing grant a rod the access to a granule (spec/01 R22)? The grant is the rod's bit in the READ or
WRITE mask of the granule's record (notes/assumptions/6.md). -/
def State.granted (s : State) (rod gran : Nat) (wr : Bool) : Bool :=
  match s.strg.granule gran with
  | some r => bit (if wr then r.write else r.read) rod
  | none => false

/-- Is a granule host-visible? -/
def State.hostVisible (s : State) (gran : Nat) : Bool :=
  match s.strg.granule gran with
  | some r => bit r.flags 0
  | none => false

/-- The granules that `n` bytes from an address touch. -/
def granSpan (a n : Nat) : List Nat :=
  if n = 0 then [] else (List.range ((a + n - 1) / granBytes - a / granBytes + 1)).map (fun i => a / granBytes + i)

/-- The 64-bit words that `n` bytes from an address touch. -/
def wordSpan (a n : Nat) : List Nat :=
  if n = 0 then [] else (List.range ((a + n - 1) / 8 - a / 8 + 1)).map (fun i => a / 8 + i)

/-- Record a denial in TRAY.ACC_STAT and raise TRAY_DENIED (spec/01 R22). -/
def State.trayDeny (s : State) (port : Nat) (wr : Bool) (gran : Nat) : State :=
  let s1 := if s.on R.TRAY_ACC_DENIED then s
    else ((s.set R.TRAY_ACC_PORT port).set R.TRAY_ACC_WR (ofBool wr)).set R.TRAY_ACC_GRAN gran
  ((s1.set R.TRAY_ACC_DENIED 1).inc R.TRAY_ACC_CNT).raise E.trayDenied

/-- Record an uncorrectable read of a granule (spec/01 R24). -/
def State.trayUnc (s : State) (gran : Nat) : State :=
  ((s.set R.TRAY_ECC_UNCORR 1).set R.TRAY_ECC_UNC_GRAN gran).raise E.trayUncorr

/-- Record a corrected read (spec/01 R24). -/
def State.trayCor (s : State) : State :=
  ((s.set R.TRAY_ECC_CORR 1).inc R.TRAY_ECC_CORR_CNT).raise E.trayCorr

/-- The words in a span whose stored value is uncorrectable. -/
def State.badWords (s : State) (a n : Nat) : List Nat := (wordSpan a n).filter (fun w => s.trayBad.contains w)

/-- Bytes of the Tray. -/
def State.trayRead (s : State) (a n : Nat) : List Byte := rdBytes s.tray a n

/-- Would a read of the span return POISON? -/
def State.trayPoison (s : State) (a n : Nat) : Bool := !(s.badWords a n).isEmpty

/-- A word is covered whole by `n` bytes from `a`. -/
def wordCovered (a n w : Nat) : Bool := decide (a ≤ 8 * w ∧ 8 * w + 8 ≤ a + n)

/-- Store bytes: a bad word that the write covers whole is good again; a part write of one reads it, records it and
leaves it bad (spec/01 R24). -/
def State.trayStore (s : State) (a : Nat) (d : List Byte) : State :=
  let n := d.length
  let part := (s.badWords a n).filter (fun w => !wordCovered a n w)
  let s1 := { s with tray := wrBytes s.tray a d, trayBad := s.trayBad.filter (fun w => !wordCovered a n w) }
  match part with
  | [] => s1
  | w :: _ => s1.trayUnc (w / 8192)

/-- The data beats of a read that returns POISON (spec/01 R18): what an uncorrectable word brings is unstated. -/
def State.poisonRead (s : State) (a n : Nat) : List Byte :=
  (List.range n).map (fun i =>
    if s.trayBad.contains ((a + i) / 8) then BitVec.ofNat 8 (Config.poisoned (a + i)) else (s.trayRead (a + i) 1).getD 0 0)

/-- A byte of the Tray as a rod's engine has it: what a denied byte or one of an uncorrectable word brings is unstated. -/
def State.rodByte (s : State) (rod a : Nat) : Byte :=
  if s.granted rod (a / granBytes) false && !s.trayBad.contains (a / 8) then (s.trayRead a 1).getD 0 0
  else BitVec.ofNat 8 (Config.poisoned a)

/-- Every byte of the span is granted to the rod for reading and good. -/
def State.rodClean (s : State) (rod a n : Nat) : Bool := (granSpan a n).all (fun g => s.granted rod g false) && !s.trayPoison a n

/-- Bytes of the Tray as a rod's engine has them (spec/01 R22, R24; log 209). -/
def State.rodRead (s : State) (rod a n : Nat) : List Byte :=
  if s.rodClean rod a n then s.trayRead a n else (List.range n).map (fun i => s.rodByte rod (a + i))

/-- A read by a rod: the data with a status of spec/01 R18 (0 OK, 2 POISON, 3 DENIED), and the state with what the read
records. `port` is the source port of the record. An access that touches several denied granules records one denial, at the
lowest of them, and one that meets uncorrectable words of several granules the first (log 210). The data of a POISON reply are
present and must not be used: what they hold is unstated, and the model gives the stored bytes of the good words and unstated ones of
the others (log 210). -/
def State.trayReadAs (s : State) (rod port a n : Nat) : List Byte × Nat × State :=
  match (granSpan a n).find? (fun g => !s.granted rod g false) with
  | some g => ([], 3, s.trayDeny port false g)
  | none =>
    match s.badWords a n with
    | [] => (s.trayRead a n, 0, s)
    | w :: _ => (s.poisonRead a n, 2, s.trayUnc (w / 8192))

/-- A write by a rod: a status and the state (spec/01 R22). -/
def State.trayWriteAs (s : State) (rod port a : Nat) (d : List Byte) : Nat × State :=
  match (granSpan a d.length).find? (fun g => !s.granted rod g true) with
  | some g => (3, s.trayDeny port true g)
  | none => (0, s.trayStore a d)

/-- First Beam port of a rod, under which its engines' accesses are recorded (spec/01 R15). -/
def rodPort (rod : Nat) : Nat :=
  if rod = 0 then 0 else if rod = 1 then 1 else if rod ≤ 6 then rod + 1 else if rod = 7 then 8 else if rod = 8 then 9
  else if rod = 9 then 11 else if rod = 10 then 13 else if rod = 11 then 15 else if rod = 12 then 17
  else if rod = 13 then 18 else if rod = 14 then 19 else 27

/-- What a read by an engine of a rod records: a denial, or an uncorrectable word. -/
def State.rodUse (s : State) (rod a n : Nat) : State := (s.trayReadAs rod (rodPort rod) a n).2.2

/-- A write by an engine of a rod; a denied write is recorded and not made. -/
def State.trayPut (s : State) (rod a : Nat) (d : List Byte) : State := (s.trayWriteAs rod (rodPort rod) a d).2

/-- The granules of the patch window, if the stringing has one (spec/02 R53). -/
def Stringing.window (g : Stringing) : Option TrayRec := g.trays.find? (fun r => bit r.flags 1)

/-- A patch is between GO and the end of RESTRING: host writes to its window are dropped (spec/02 R68). -/
def State.windowLocked (s : State) (gran : Nat) : Bool :=
  let st := s.get R.PATCH_STAT_STATE
  decide (1 ≤ st ∧ st ≤ 4) && (match s.strg.granule gran with | some r => bit r.flags 1 | none => false)

end Sys2Proof.Machine
end

