-- ==== Sys2Proof/Machine/RegAccess.lean ====
section
/-!
DEFINITION. The register map as words (spec/22 R499 to R502): which fields stand in the word at an address, and the
handling of a host access to an isolated rod (spec/17 R412).
-/

namespace Sys2Proof.Machine

/-- The rows of a block: the common registers and the rod's own, AON's with its WR_RANGE and its event block, or the mailbox and
doorbell window's. -/
def blockRows (blk : Nat) : List Row :=
  if blk = 16 then rowsAon ++ rowsRod.filter (fun r => decide (r.off = 8 ∨ 0x78000 ≤ r.off))
  else if blk = 17 then rowsWin
  else rowsRod ++
    (if blk = 0 then rowsCtl else if blk = 1 then rowsLnk else if blk ≤ 6 then rowsImg else if blk = 7 then rowsMot
     else if blk ≤ 9 then rowsCod else if blk = 10 then rowsRrc else if blk = 11 then rowsOut else if blk = 12 then rowsNet
     else if blk = 13 then rowsAud else if blk = 14 then rowsMem else rowsUtl)

/-- A word's place: its block, its offset in the block, and whether it is named through the in-force alias. -/
structure Place where
  blk : Nat
  off : Nat
  ali : Bool
  deriving DecidableEq, Repr

/-- The place that a BAR0 offset names (spec/22 R499, R500); none where nothing is mapped. -/
def placeOf (a : Nat) : Option Place :=
  if a < 0x1000000 then
    some ⟨a / 0x100000, a % 0x80000, decide (0x80000 ≤ a % 0x100000)⟩
  else if a < 0x10020C0 then some ⟨17, a - 0x1000000, false⟩
  else if 0x1100000 ≤ a ∧ a < 0x1200000 then some ⟨16, (a - 0x1100000) % 0x80000, decide (0x80000 ≤ a - 0x1100000)⟩
  else none

/-- A field in a word: its row, its instance and its lowest bit there. -/
structure Hit where
  row : Row
  ix : Nat
  lo : Nat

/-- The field of a hit in a block. -/
def Hit.fld (h : Hit) (blk : Nat) : Fld := h.row.fld blk h.ix

/-- The type of a field: as its row has it, but DST_WH of the graphic layers 4 to 11 is read-only (spec/11 R288). -/
def Hit.ty (h : Hit) : Ty :=
  if (h.row.fld 0 0).id = (R.LAYER_DST_WH_W 0 0).id ∧ 4 ≤ h.ix % 12 then .ro
  else if (h.row.fld 0 0).id = (R.LAYER_DST_WH_H 0 0).id ∧ 4 ≤ h.ix % 12 then .ro
  else h.row.ty

/-- The fields of the word at an offset of a block; lane registers exist for the block's own lanes alone. -/
def wordHits (blk off : Nat) : List Hit :=
  (blockRows blk).flatMap (fun r => (r.hits off).filterMap (fun e =>
    if 0x70000 ≤ r.off ∧ r.off < 0x78000 ∧ laneCount blk ≤ e.1 then none else some ⟨r, e.1, r.lo + e.2⟩))

/-- BAR0 offset of a block. -/
def blockBase (blk : Nat) : Nat := if blk = 16 then 0x1100000 else if blk = 17 then 0x1000000 else blk * 0x100000

/-! ### Fields that do not apply to a lane's use (spec/03, "Registers") -/

/-- A lane that only transmits (spec/03 R72): SDI, DisplayPort, eDP. -/
def txOnly (rod l : Nat) : Bool := decide (4 ≤ laneUse rod l)

/-- Fields of the receiver: POL_MODE, AUTO_RETRAIN, LN_DET, LN_ADAPT. -/
def rxField (id : Nat) : Bool :=
  [R.LN_CTL_POL_MODE 0 0, R.LN_CTL_AUTO_RETRAIN 0 0, R.LN_DET_LOS_TH 0 0, R.LN_DET_LOS_ON 0 0, R.LN_DET_LOS_OFF 0 0,
    R.LN_DET_LOL_WIN 0 0, R.LN_DET_FREQ_WIN 0 0, R.LN_ADAPT_MODE 0 0, R.LN_ADAPT_DENS_MIN 0 0, R.LN_ADAPT_FRZ_RUN 0 0,
    R.LN_ADAPT_THAW_RUN 0 0, R.LN_ADAPT_IDLE_HOLD 0 0].any (fun f => decide (f.id = id))

/-- Fields of the transmitter: TX_INV and LN_TXFIR. -/
def txField (id : Nat) : Bool :=
  [R.LN_CTL_TX_INV 0 0, R.LN_TXFIR_MAIN 0 0, R.LN_TXFIR_PRE 0 0, R.LN_TXFIR_POST 0 0, R.LN_TXFIR_AMP 0 0].any
    (fun f => decide (f.id = id))

/-- First lane of a DisplayPort or eDP port (spec/03 R74). -/
def dpLane0 (rod l : Nat) : Bool := decide (rod = 11 ∧ 4 ≤ l ∧ l % 4 = 0)

/-- A lane field that is reserved on the lane: it reads 0 and a write leaves it alone (spec/00 R8). -/
def laneReserved (rod : Nat) (f : Fld) : Bool :=
  decide (f.id < 36 ∧ rod < 16) &&
    ((txOnly rod f.ix && rxField f.id) || (decide (laneUse rod f.ix = 0) && txField f.id) ||
     (decide (f.id = (R.LN_CTL_REV 0 0).id) && !dpLane0 rod f.ix))

/-- A lane field that a write leaves alone: a reserved one, or the rate of a lane whose bead's protocol chooses it, which is
read-only there (spec/03, LN_RATE). -/
def laneFixed (rod : Nat) (f : Fld) : Bool :=
  laneReserved rod f || (decide (f.id = (R.LN_RATE_KBPS 0 0).id ∧ rod < 16) && decide (laneUse rod f.ix ≠ 0))

/-! ### Words that are read and written -/

/-- The value that a written word brings to a field. -/
def Hit.value (h : Hit) (blk v : Nat) : Nat := bits v h.lo (h.fld blk).w

/-! ### Beads that own registers (spec/02 R47) -/

/-- The bead of a rod whose registers stand at an offset of the rod's block, by its index in the list of spec/01 R15; none for
the common registers, the lane and event blocks and the registers that no bead of that list names (spec/22 R500; log 208). -/
def beadAt (rod off : Nat) : Option Nat :=
  if off < 0x800 ∨ 0x70000 ≤ off then none
  else if rod = 1 then
    (if 0x1000 ≤ off ∧ off < 0x1800 then some ((off - 0x1000) / 0x400)
     else if off < 0x1900 then some (9 + (off - 0x1800) / 16)
     else if off < 0x1A00 then some (2 + (off - 0x1900) / 16)
     else if off < 0x1B00 then some (4 + (off - 0x1A00) / 16)
     else if 0x2000 ≤ off ∧ off < 0x2400 then some 6
     else if 0x2400 ≤ off ∧ off < 0x2800 then some (7 + (off - 0x2400) / 64)
     else if 0x2800 ≤ off ∧ off < 0x2C00 then some 11 else none)
  else if 2 ≤ rod ∧ rod ≤ 6 then
    (if off < 0x1000 then none else if off < 0x3400 then some ((off - 0x1000) / 0x400)
     else if off < 0x3800 then some 10 else some 9)
  else if rod = 7 then (if off < 0x1000 then none else if off < 0x1400 then some 0 else if off < 0x1800 then some 2 else some 6)
  else if rod = 8 ∨ rod = 9 then
    (if off < 0x1000 then none else if off < 0x1400 then some ((off - 0x1000) / 0x100) else if 0x3000 ≤ off then some 4 else none)
  else if rod = 10 then
    (if 0x1400 ≤ off ∧ off < 0x2000 then some ((off - 0x1400) / 32) else if 0x2000 ≤ off then some 4 else none)
  else if rod = 11 then
    (if off < 0x1000 then none else if off < 0x5800 then some ((off - 0x1000) / 0x800)
     else if 0x6000 ≤ off ∧ off < 0x8000 then some 9
     else if 0x8000 ≤ off ∧ off < 0x9000 then some (10 + (off - 0x8000) / 0x200)
     else if 0x9100 ≤ off ∧ off < 0x9200 then some (18 + (off - 0x9100) / 64)
     else if 0x9200 ≤ off then some (22 + (off - 0x9200) / 128) else none)
  else if rod = 12 then
    (if off < 0x1000 then none else if off < 0x2000 then some ((off - 0x1000) / 0x100)
     else if off < 0x2800 then some 8 else if off < 0x3000 then some 9
     else if 0x3100 ≤ off then some (4 + (off - 0x3100) / 64) else none)
  else if rod = 13 then (if 0x1000 ≤ off then some ((off - 0x1000) / 0x100) else none)
  else if rod = 14 then (if 0x1000 ≤ off then some ((off - 0x1000) / 0x100) else none)
  else if rod = 15 then
    (if off < 0x1000 then none else if off < 0x2000 then some ((off - 0x1000) / 0x100)
     else if off < 0x3000 then some (2 + (off - 0x2000) / 0x100) else if off < 0x4000 then some 11 else some 10)
  else none

/-- The registers at an offset belong to no bead, or to one that is strung: those of another hold their reset values (spec/02
R47). -/
def State.beadOpen (s : State) (rod off : Nat) : Bool :=
  match beadAt rod off with
  | some b => s.strg.strungBead rod b
  | none => true

/-- Write a preset's word (spec/02 R59): every field but the read-only ones takes its bits; nothing on a bead that is not
strung (R47). -/
def State.preset (s : State) (p : PresetRec) : State :=
  match placeOf p.offset with
  | some pl =>
    if !s.beadOpen pl.blk pl.off then s
    else (wordHits pl.blk pl.off).foldl (fun (s : State) h =>
      if h.ty = .rw ∧ !laneFixed pl.blk (h.fld pl.blk) then s.set (h.fld pl.blk) (h.value pl.blk p.value) else s) s
  | none => s

/-- A host access to a rod in reset, being restrung, powered down or gated is counted and raises HEP_RETIRED (spec/17
R412). -/
def State.hostRetired (s : State) : State :=
  ((s.set R.HEP_STAT_RETIRED 1).inc R.HEP_STAT_RETIRED_CNT).raise E.hepRetired

/-- A register block that answers: the rod is not isolated, or HOLD gates it, whose register blocks stay readable and writable
(spec/18 R452). -/
def State.blockOpen (s : State) (rod : Nat) : Bool :=
  !s.isolated rod || (s.on (I.GATED rod) && s.on (I.PWR_ON rod) && !s.on (I.RSTST rod))

/-- A host write to a rod: dropped and counted while the rod is isolated. During a device reset the host reaches nothing
(spec/21 R485). -/
def State.hostTo (s : State) (rod : Nat) (g : State → State) : State :=
  if s.on I.DEV then s else if s.blockOpen rod then g s else s.hostRetired

/-- A host write to a register of a bead: nothing while the bead is not strung (spec/02 R47). -/
def State.hostToBead (s : State) (rod bead : Nat) (g : State → State) : State :=
  s.hostTo rod fun s => if s.strg.strungBead rod bead then g s else s

/-- A host read of a register word of a rod: all ones and counted while the rod is isolated (spec/17 R412). -/
def State.hostRead (s : State) (rod : Nat) (g : State → Nat × State) : State :=
  if s.on I.DEV then s
  else if s.blockOpen rod then (g s).2.emit (.hostWord (g s).1)
  else s.hostRetired.emit (.hostWord 0xFFFFFFFF)

/-- A host read of a register word that a bead shows: 0, its reset value, while the bead is not strung (spec/02 R47). -/
def State.hostReadBead (s : State) (rod bead : Nat) (g : State → Nat × State) : State :=
  s.hostRead rod fun s => if s.strg.strungBead rod bead then g s else (0, s)

end Sys2Proof.Machine
end

