-- ==== Sys2Proof/Machine/Mem.lean ====
section
/-!
DEFINITION. The DRAM channels (spec/15): address mapping, queues, scheduling decisions, error correction, refresh,
panic, step sets, set points and the reset of one channel.
-/

namespace Sys2Proof.Machine

/-! ### Address mapping (spec/15 R371, R372) -/

/-- The bits of a mask that are set, counting from bit 0. -/
def maskBits (m n : Nat) : List Nat := (List.range n).filter (fun i => bit m i)

/-- Channel and channel offset of an address in the interleave space of a mask. -/
def chanOf (mask a : Nat) : Nat × Nat :=
  let l := maskBits mask 8
  let c := l.length
  let u := a / 256
  (l.getD (u % (if c = 0 then 1 else c)) 0, u / (if c = 0 then 1 else c) * 256 + a % 256)

/-- Linear address of a byte of a channel. -/
def lin (ch x : Nat) : Nat := ch * 2 ^ 36 + x

/-- Channel and offset of a byte of a region; none outside it. -/
def State.regionAddr (s : State) (region off : Nat) : Option (Nat × Nat) :=
  match s.strg.region region with
  | some r => if off < r.size then some (chanOf r.chmask (r.base + off)) else none
  | none => none

/-- Row of a channel offset. -/
def rowOf (ranks x : Nat) : Nat := if ranks = 0 then x / 2 ^ 18 else x / 2 ^ 19

/-- Bank of a channel offset: rank, bank and bank group in one number. -/
def bankOf (ranks x : Nat) : Nat :=
  let row := rowOf ranks x
  let bg := Nat.xor (bits x 13 3) (bits row 0 3)
  let bk := Nat.xor (bits x 16 2) (bits row 3 2)
  (if ranks = 0 then 0 else bits x 18 1) * 32 + bk * 8 + bg

/-- The GiB that a DENSITY and a RANKS declare (spec/15 R369); 0 where no such configuration is fitted. -/
def capacityOf (density ranks : Nat) : Nat :=
  if density = 0 then (if ranks = 0 then 16 else 32)
  else if ranks = 0 then (if density = 1 then 24 else if density = 2 then 32 else 0) else 0

/-- CH_CAPACITY of a channel in GiB (spec/02 R61). -/
def Stringing.capacity (g : Stringing) (ch : Nat) : Nat := g.limit 0x0060 14 ch 0

/-! ### Set points -/

/-- The rate in MT/s that a stringing gives set point `k` of a channel (spec/02 R57). -/
def Stringing.setPoint (g : Stringing) (ch k : Nat) : Option Nat :=
  (g.clocks.find? (fun c => decide (c.domain = 2 ∧ c.index = ch ∧ c.setpoint = k))).map (fun c => c.num / 1000000 * 8)

/-- The rate of a set point that is present and available. -/
def State.spRate (s : State) (ch k : Nat) : Option Nat :=
  if s.on (I.CH_NA ch k) then none else s.strg.setPoint ch k

/-- The highest available set point whose rate lies below the rate in force (spec/15 R388). -/
def State.lowerSp (s : State) (ch : Nat) : Option Nat :=
  let now := s.get (R.CH_STAT_RATE ch)
  (List.range 4).foldl (fun best k =>
    match s.spRate ch k with
    | some r =>
      if r < now then
        match best with
        | some b => if (s.spRate ch b).getD 0 < r then some k else some b
        | none => some k
      else best
    | none => best) none

/-- Declared load of a mask in MB/s: every record whose mask lies inside it (spec/02 R56). -/
def Stringing.load (g : Stringing) (m : Nat) : Nat :=
  (g.drams.filter (fun r => decide (r.chmask &&& m = r.chmask))).foldl (fun a r => a + r.rd + r.wr) 0

/-- Peak in force of a mask in MB/s: c × 8 × the lowest rate in force among its channels (spec/15 R391). -/
def State.peak (s : State) (m : Nat) : Nat :=
  let l := maskBits m 8
  l.length * 8 * (l.foldl (fun a c => min a (s.get (R.CH_STAT_RATE c))) (2 ^ 14))

/-- The check of the declared load after a change (spec/15 R391). -/
def State.bwCheck (s : State) : State :=
  let pm := s.strg.drams.foldl (fun a r =>
    let p := s.peak r.chmask
    max a (if p = 0 then 0 else s.strg.load r.chmask * 1000 / p)) 0
  let above := s.strg.drams.any (fun r => decide (s.peak r.chmask * 85 < s.strg.load r.chmask * 100))
  let s1 := (s.set R.BW_STAT_PERMILLE (min pm 1023)).set R.BW_STAT_OVER (ofBool above)
  if above then (s1.set R.BW_STAT_BW_CEILING 1).raise E.bwCeiling else s1

/-! ### Commit rules of MEM -/

/-- Commit rules of a channel (spec/15, rules 0xA0 and 0xA1). -/
def memRules (s : State) (ask : Fld → Nat) (ch : Nat) : List (Nat × Bool) :=
  [(0xA0, decide (s.strg.capacity ch = 0 ∨
      (capacityOf (ask (R.CH_CFG_DENSITY ch)) (ask (R.CH_CFG_RANKS ch)) = s.strg.capacity ch ∧
       (ask (R.CH_CFG_RANKS ch) = 1 → ask (R.CH_CFG_DENSITY ch) = 0)))),
   (0xA1, decide (ask (R.CH_QOS_WR_LO ch) + 8 ≤ ask (R.CH_QOS_WR_HI ch)))]

/-! ### Stored codewords -/

/-- Is a codeword (linear address over 128) stored as poison (spec/15 R376, R392)? -/
def State.cwBad (s : State) (w : Nat) : Bool := (s.dramBad.contains w) != s.on (I.CH_FILL (w / 2 ^ 29))

/-- Store a codeword as poison or as good. -/
def State.setCwBad (s : State) (w : Nat) (bad : Bool) : State :=
  if s.cwBad w = bad then s
  else if s.dramBad.contains w then { s with dramBad := s.dramBad.filter (fun x => decide (x ≠ w)) }
  else { s with dramBad := w :: s.dramBad }

/-- A codeword's 128 bytes as DRAM holds them. -/
def State.cwBytes (s : State) (w : Nat) : List Byte := rdBytes s.dram (w * 128) 128

/-- Bytes laid over a list at their places. -/
def overlay (l : List Byte) (d : List (Nat × Byte)) : List Byte :=
  (List.range l.length).map (fun i => match d.find? (fun e => decide (e.1 = i)) with
    | some e => e.2
    | none => l.getD i 0)

/-- The queued write of a codeword. -/
def State.queuedWr (s : State) (ch cw : Nat) : Option WrEnt := s.wrQ.find? (fun e => decide (e.ch = ch ∧ e.cw = cw))

/-! ### The memory as the engines of the device see it (notes/assumptions/7.md) -/

/-- A byte of a region with the queued writes laid over it; 0 outside the region. -/
def State.dramByte (s : State) (region off : Nat) : Byte :=
  match s.regionAddr region off with
  | some (ch, x) =>
    match (s.queuedWr ch (x / 128)).bind (fun e => e.data.find? (fun b => decide (b.1 = x % 128))) with
    | some b => b.2
    | none => rdByte s.dram (lin ch x)
  | none => 0

/-- `n` bytes of a region. -/
def State.dramRead (s : State) (region off n : Nat) : List Byte := (List.range n).map (fun i => s.dramByte region (off + i))

/-- Does a read of a region return POISON, or reach a channel whose proxy answers RETIRED, or leave the region? -/
def State.dramPoison (s : State) (region off n : Nat) : Bool :=
  (List.range (n / 128 + 2)).any (fun k =>
    let a := min (off + k * 128) (off + n - 1)
    decide (n ≠ 0) && (match s.regionAddr region a with
      | some (ch, x) => s.cwBad (lin ch x / 128) || s.on (I.CH_PROXY ch)
      | none => true))

/-- Write one byte of a region; a queued write of the same byte is taken away. -/
def State.dramPutByte (s : State) (region off : Nat) (b : Byte) : State :=
  match s.regionAddr region off with
  | some (ch, x) =>
    { s with
      dram := wrByte s.dram (lin ch x) b,
      wrQ := s.wrQ.map (fun e => if e.ch = ch ∧ e.cw = x / 128 then
        { e with data := e.data.filter (fun d => decide (d.1 ≠ x % 128)) } else e) }
  | none => s

/-- Write bytes of a region from an offset up; codewords that the write covers whole are good again. -/
def State.dramPut (s : State) (region off : Nat) (d : List Byte) : State :=
  let s1 := (List.range d.length).foldl (fun s i => s.dramPutByte region (off + i) (d.getD i 0)) s
  (List.range (d.length / 128)).foldl (fun s k =>
    let a := roundUp off 128 + k * 128
    if a + 128 ≤ off + d.length then
      match s.regionAddr region a with
      | some (ch, x) => s.setCwBad (lin ch x / 128) false
      | none => s
    else s) s1

/-! ### Error correction (spec/15 R374 to R377) -/

/-- Is a set of devices, as a mask of ten, that of a read without errors, correctable in one device, or beyond reach? A
device marked erased is corrected as an erasure, and one further device in error is detected (spec/15 R377). -/
inductive Ecc where
  | clean
  | one (d : Nat)
  | beyond
  deriving DecidableEq, Repr

/-- The decoder's answer for the devices whose symbols are in error. -/
def State.ecc (s : State) (ch errs : Nat) : Ecc :=
  match maskBits errs 10 with
  | [] => .clean
  | [d] => if s.on (R.CH_STAT_ERASED ch) && decide (s.get (R.CH_STAT_ERASED_DEV ch) ≠ d) then .beyond else .one d
  | _ => .beyond

/-- Request a set point as a change that waits for a safe point (spec/15 R388, R390): a later request replaces an
earlier one. -/
def State.pendChange (s : State) (ch sp down : Nat) : State :=
  (((s.set (R.CH_STAT_PEND ch) 1).set (R.CH_STAT_SP_PEND ch) sp).set (I.CH_DOWN ch) down).set (I.CH_FORCE ch) 0

/-- The channel steps down, or records that no lower set point is available (spec/15 R388). -/
def State.stepDown (s : State) (ch : Nat) : State :=
  match s.lowerSp ch with
  | some k => s.pendChange ch k 1
  | none => (s.set (R.CH_EVT_NO_STEP ch) 1).raise (E.memNoStep ch)

/-- What a corrected read counts and records (spec/15 R374, R377, R388). -/
def State.memCe (s : State) (ch d : Nat) : State :=
  let s1 := ((s.set (R.CH_EVT_CE ch) 1).inc (R.CH_CE_CNT_CNT ch)).set (R.CH_ERR_INFO_DEV ch) d
  let s2 := (s1.set (I.CH_CEWIN ch) (s1.get (I.CH_CEWIN ch) + 1)).set (I.CH_DEVCNT ch d) (s1.get (I.CH_DEVCNT ch d) + 1)
  let s3 :=
    if s2.get (I.CH_CEWIN ch) = s2.get (R.CH_CE_RATE_CE_TH ch) then
      ((s2.set (R.CH_EVT_CE_RATE ch) 1).raise (E.memCeRate ch)).when (s2.on (R.CH_STAT_MARGIN_LOW ch)) (·.stepDown ch)
    else s2
  if s3.on (R.CH_ECC_CFG_ERASE_EN ch) && decide (s3.get (R.CH_ECC_CFG_DEV_TH ch) ≤ s3.get (I.CH_DEVCNT ch d))
      && !s3.on (R.CH_STAT_ERASED ch) then
    (((s3.set (R.CH_STAT_ERASED ch) 1).set (R.CH_STAT_ERASED_DEV ch) d).set (R.CH_EVT_ERASE ch) 1).raise (E.memErase ch)
  else s3

/-- What an uncorrectable read counts and records (spec/15 R374). -/
def State.memUe (s : State) (ch cw : Nat) : State :=
  (((s.set (R.CH_EVT_UE ch) 1).inc (R.CH_EVT_UE_CNT ch)).set (R.CH_ERR_ADDR_CW ch) cw).raise (E.memUe ch)

/-- A DRAM read of a codeword: whether it returns POISON, and the state with its counts. A codeword stored as poison is
recognised and not counted (spec/15 R374). -/
def State.memDecode (s : State) (ch cw errs : Nat) : Bool × State :=
  if s.cwBad (lin ch (cw * 128) / 128) then (true, s)
  else match s.ecc ch errs with
    | .clean => (false, s)
    | .one d => (false, s.memCe ch d)
    | .beyond => (true, s.memUe ch cw)

/-! ### Queues (spec/15 R378, R379) -/

/-- The codewords that `n` bytes from a channel offset touch: codeword, first byte in it, count. -/
def codewords (x n : Nat) : List (Nat × Nat × Nat) :=
  if n = 0 then [] else
  (List.range ((x + n - 1) / 128 - x / 128 + 1)).map (fun k =>
    let cw := x / 128 + k
    let lo := if k = 0 then x % 128 else 0
    let hi := min (x + n) (cw * 128 + 128)
    (cw, lo, hi - (cw * 128 + lo)))

/-- Places that a class may use in a queue of 64. -/
def classRoom (cls : Nat) : Nat := if cls = 0 then 64 else 56

/-- Entries of a channel's read queue, and of its write queue. -/
def State.rdLen (s : State) (ch : Nat) : Nat := (s.rdQ.filter (fun e => decide (e.ch = ch))).length
def State.wrLen (s : State) (ch : Nat) : Nat := (s.wrQ.filter (fun e => decide (e.ch = ch))).length

/-- Answer the request of a part once all its parts are done: OK, or POISON when any part is poison. -/
def State.finishRead (s : State) (p : RdPart) : State :=
  let mine := s.rdParts.filter (fun q => decide (q.port = p.port ∧ q.txn = p.txn ∧ q.ch = p.ch))
  if mine.length = p.parts then
    let data := (List.range p.parts).flatMap (fun i =>
      match mine.find? (fun q => decide (q.part = i)) with
      | some q => q.data
      | none => [])
    ({ s with rdParts := s.rdParts.filter (fun q => decide (¬(q.port = p.port ∧ q.txn = p.txn ∧ q.ch = p.ch))) } : State).emit
      (.beamReply p.port (19 + p.ch) (s.epoch 14) p.txn (if mine.any (·.poison) then 2 else 0) data)
  else s

/-- A part of a read is done. -/
def State.donePart (s : State) (p : RdPart) : State := ({ s with rdParts := s.rdParts ++ [p] } : State).finishRead p

/-- Accept a read of `n` bytes at a channel offset: each codeword takes a copy of the queued bytes it asks for, and is
answered from them where they cover it (spec/15 R379). The answer is false while the queue has no room (R378). -/
def State.memRead (s : State) (ch port txn cls x n : Nat) : State × Bool :=
  let l := codewords x n
  if classRoom cls < s.rdLen ch + l.length then (s, false)
  else
    ((List.range l.length).foldl (fun s k =>
      let c := l.getD k (0, 0, 0)
      let copy := match s.queuedWr ch c.1 with
        | some e => e.data.filter (fun b => decide (c.2.1 ≤ b.1 ∧ b.1 < c.2.1 + c.2.2))
        | none => []
      if copy.length = c.2.2 then
        s.donePart ⟨port, txn, ch, k, l.length, (overlay (zeros 128) copy |>.drop c.2.1).take c.2.2, false⟩
      else
        ({ s with rdQ := s.rdQ ++ [⟨ch, port, txn, k, l.length, cls, s.get (I.CH_SEQ ch), s.up, c.1, c.2.1, c.2.2, copy⟩] } :
          State).set (I.CH_SEQ ch) (s.get (I.CH_SEQ ch) + 1)) s, true)

/-- Accept a write at a channel offset: bytes for a codeword already queued merge into its entry (spec/15 R379). -/
def State.memWrite (s : State) (ch cls x : Nat) (d : List Byte) : State × Bool :=
  let l := codewords x d.length
  let fresh := l.filter (fun c => (s.queuedWr ch c.1).isNone)
  if classRoom cls < s.wrLen ch + fresh.length then (s, false)
  else
    (l.foldl (fun s c =>
      let new := (List.range c.2.2).map (fun i => (c.2.1 + i, d.getD (c.1 * 128 + c.2.1 + i - x) 0))
      match s.queuedWr ch c.1 with
      | some _ =>
        { s with wrQ := s.wrQ.map (fun e => if e.ch = ch ∧ e.cw = c.1 then
          { e with data := e.data.filter (fun b => new.all (fun q => decide (q.1 ≠ b.1))) ++ new } else e) }
      | none =>
        ({ s with wrQ := s.wrQ ++ [⟨ch, cls, s.get (I.CH_SEQ ch), s.up, c.1, new⟩] } : State).set
          (I.CH_SEQ ch) (s.get (I.CH_SEQ ch) + 1)) s, true)

/-! ### Issue of a request -/

/-- Open the row of a channel offset; the row that its bank had open closes (spec/15 R380). -/
def State.openRow (s : State) (ch x : Nat) : State :=
  let rk := s.get (R.CH_CFG_RANKS ch)
  let b := bankOf rk x
  { s with rows := ⟨ch, b, rowOf rk x, s.up⟩ :: s.rows.filter (fun r => decide (¬(r.ch = ch ∧ r.bank = b))) }

/-- Is the row of a channel offset open? A row stands open until PAGE_IDLE × 4 cycles of CK_MEMn without a request to
it have passed (spec/15 R380); a cycle lasts 8,000 ÷ RATE ns. -/
def State.rowHit (s : State) (ch x : Nat) : Bool :=
  let rk := s.get (R.CH_CFG_RANKS ch)
  s.rows.any (fun r => decide (r.ch = ch ∧ r.bank = bankOf rk x ∧ r.row = rowOf rk x ∧
    (s.up - r.last) * s.get (R.CH_STAT_RATE ch) ≤ s.inForce (R.CH_CFG_PAGE_IDLE ch) * 4 * 8000 * tNs))

/-- Issue a queued read: the DRAM data with the entry's copy laid over them, or POISON. -/
def State.issueRead (s : State) (e : RdEnt) (errs : Nat) : State :=
  let s0 := ({ s with rdQ := s.rdQ.erase e } : State).openRow e.ch (e.cw * 128)
  let (bad, s1) := s0.memDecode e.ch e.cw errs
  let data := (overlay (s1.cwBytes (lin e.ch (e.cw * 128) / 128)) e.copy |>.drop e.lo).take e.n
  s1.donePart ⟨e.port, e.txn, e.ch, e.part, e.parts, data, bad⟩

/-- Issue a queued write: a write of the whole codeword stores it good; a part of it is merged with a read, and a merge
with an uncorrectable codeword is stored as poison (spec/15 R376). -/
def State.issueWrite (s : State) (e : WrEnt) (errs : Nat) : State :=
  let s0 := ({ s with wrQ := s.wrQ.erase e } : State).openRow e.ch (e.cw * 128)
  let w := lin e.ch (e.cw * 128) / 128
  let put (s : State) : State := { s with dram := wrBytes s.dram (w * 128) (overlay (s.cwBytes w) e.data) }
  if e.data.length = 128 then (put s0).setCwBad w false
  else
    let was := s0.cwBad w
    let (bad, s1) := s0.memDecode e.ch e.cw errs
    let s2 := (put (s1.inc (R.CH_ERR_INFO_RMW_CNT e.ch))).setCwBad w bad
    s2.when (bad && !was) (·.set (R.CH_EVT_RMW_POISON e.ch) 1)

/-- A request that a scheduling decision may choose. -/
inductive Cand where
  | rd (e : RdEnt)
  | wr (e : WrEnt)
  deriving DecidableEq, Repr

/-- Class, number in order of acceptance, time of acceptance and codeword of a candidate. -/
def Cand.cls : Cand → Nat | .rd e => e.cls | .wr e => e.cls
def Cand.seq : Cand → Nat | .rd e => e.seq | .wr e => e.seq
def Cand.time : Cand → Time | .rd e => e.time | .wr e => e.time
def Cand.cw : Cand → Nat | .rd e => e.cw | .wr e => e.cw
def Cand.isWr : Cand → Bool | .rd _ => false | .wr _ => true

/-- What may issue: every queued read, and every queued write but one whose codeword an earlier read still asks for
(spec/15 R379). -/
def State.cands (s : State) (ch : Nat) : List Cand :=
  (s.rdQ.filter (fun e => decide (e.ch = ch))).map Cand.rd ++
  (s.wrQ.filter (fun e => decide (e.ch = ch) &&
    s.rdQ.all (fun r => decide (¬(r.ch = ch ∧ r.cw = e.cw ∧ r.seq < e.seq))))).map Cand.wr

/-- The least element of a list under a measure. -/
def leastBy {α : Type} (f : α → Nat) : List α → Option α
  | [] => none
  | a :: t => match leastBy f t with
    | some b => if f b < f a then some b else some a
    | none => some a

/-- Order within one step of the choice: in drain mode a write before a read, then a row hit before a row miss, then
the older request (spec/15 R382). -/
def State.rankOf (s : State) (ch : Nat) (drain : Bool) (c : Cand) : Nat :=
  (ofBool (drain && !c.isWr) * 2 + ofBool (!s.rowHit ch (c.cw * 128))) * 2 ^ 64 + c.seq

/-- The choice of a scheduling decision (spec/15 R382). -/
def State.choose (s : State) (ch : Nat) (drain : Bool) : Option Cand :=
  let l := s.cands ch
  let of (k : Nat) := leastBy (s.rankOf ch drain) (l.filter (fun c => decide (c.cls = k)))
  let panic := if s.on I.PANIC then of 0 else none
  let aged := leastBy Cand.seq (l.filter (fun c => decide (s.inForce (R.CH_QOS_AGE_MAX ch) * tUs < s.up - c.time)))
  let share :=
    match of 1, of 2 with
    | some f, some b => if s.get (I.CH_SHARE ch) < s.inForce (R.CH_QOS_WEIGHT ch) then some f else some b
    | some f, none => some f
    | none, b => b
  panic.or (aged.or ((of 0).or ((of 3).or share)))

/-- Drain mode at a decision (spec/15 R382): entered at WR_HI entries, or at a full queue under panic; left at WR_LO. -/
def State.drainNow (s : State) (ch : Nat) : Bool :=
  let n := s.wrLen ch
  if s.on (I.CH_DRAIN ch) then decide (s.inForce (R.CH_QOS_WR_LO ch) < n)
  else if s.on I.PANIC then decide (64 ≤ n) else decide (s.inForce (R.CH_QOS_WR_HI ch) ≤ n)

/-- The count of FRAME column commands since the last BULK one. -/
def State.share (s : State) (ch : Nat) (c : Cand) : State :=
  if c.cls = 1 then s.set (I.CH_SHARE ch) (min (s.get (I.CH_SHARE ch) + 1) (s.inForce (R.CH_QOS_WEIGHT ch)))
  else if c.cls = 2 then s.set (I.CH_SHARE ch) 0 else s

/-- Does the channel's scheduler issue commands: RUN, or RETRAIN between the steps of a step set? -/
def State.chRuns (s : State) (ch : Nat) : Bool :=
  decide (s.get (R.CH_STAT_STATE ch) = 2 ∨ s.get (R.CH_STAT_STATE ch) = 3)

/-- SCHEDULING_DECISION (spec/15 R382): the channel chooses and issues a request; `errs` are the devices whose symbols
the read finds in error. -/
def execSchedulingDecision (ch : Fin 8) (errs : BitVec 10) (s : State) : Res :=
  .next (if s.chRuns ch then
    let drain := s.drainNow ch
    let s0 := s.set (I.CH_DRAIN ch) (ofBool drain)
    match s0.choose ch drain with
    | some (.rd e) => (s0.share ch (.rd e)).issueRead e errs.toNat
    | some (.wr e) => (s0.share ch (.wr e)).issueWrite e errs.toNat
    | none => s0
  else s)

/-! ### Step sets and set points (spec/15 R386 to R390) -/

/-- A step set starts on the channel. -/
def State.startStep (s : State) (ch : Nat) : State :=
  (((s.set (I.CH_STEPSET ch) 1).set (I.CH_STEPWAIT ch) 0).set (R.CH_STAT_STATE ch) 3).set (I.CH_TEMP ch)
    (s.get (I.CH_MR4 ch))

/-- A step set falls due (spec/15 R386): deferred by panic and by a change, but by panic for one further period only. -/
def State.dueStep (s : State) (ch : Nat) : State :=
  let st := s.get (R.CH_STAT_STATE ch)
  if st = 2 then
    if s.on I.PANIC && !s.on (I.CH_STEPWAIT ch) then s.set (I.CH_STEPWAIT ch) 1 else s.startStep ch
  else if st = 4 then s.set (I.CH_STEPWAIT ch) 1
  else s

/-- Drain the write queue of a channel: every write that may issue. -/
def State.drainWrites (s : State) (ch : Nat) : State :=
  (s.cands ch).foldl (fun s c => match c with | .wr e => s.issueWrite e 0 | .rd _ => s) s

/-- A change begins (spec/15 R389 steps 1 and 2): STATE becomes SWITCH, the write queue drains and all rows close. -/
def State.startChange (s : State) (ch sp down : Nat) : State :=
  let s1 := s.drainWrites ch
  ((((({ s1 with rows := s1.rows.filter (fun r => decide (r.ch ≠ ch)) } : State).set (R.CH_STAT_STATE ch) 4).set
    (I.CH_CHANGE ch) (sp + 1)).set (I.CH_CHDOWN ch) down).set (R.CH_STAT_PEND ch) 0).set (I.CH_FORCE ch) 0

/-- BAR0 offset of a channel's block. -/
def chBase (ch : Nat) : Nat := 0x00E01000 + 0x100 * ch

/-- FREQ_REQ (spec/15 R389, R390): a request for a set point. A set point that is absent or unavailable is a range
violation. -/
def State.freqReq (s : State) (ch sp : Nat) (urgent : Bool) : State :=
  if (s.spRate ch sp).isNone then s.wrRange 14 (chBase ch + 0x10)
  else
    let st := s.get (R.CH_STAT_STATE ch)
    if st = 4 then (s.set (I.CH_NEXT ch) (sp + 1)).set (I.CH_NEXTURG ch) (ofBool urgent)
    else if urgent && decide (st = 3) then
      ((((s.set (I.CH_STEPSET ch) 0).set (I.CH_STEPWAIT ch) 1).set (R.CH_EVT_ABORTED ch) 1)).startChange ch sp 0
    else if urgent && decide (st = 2) then s.startChange ch sp 0
    else s.pendChange ch sp 0

/-- FREQ_REQ. -/
def execFreqReq (ch : Fin 8) (sp : Fin 4) (urgent : Bool) (s : State) : Res :=
  .next (s.hostToBead 14 ch (·.freqReq ch sp urgent))

/-- A change ends (spec/15 R389 step 5): the new set point is in force and traffic resumes; a step-down is told; the
declared load is checked (R391); a request made meanwhile is applied if it names another set point, and a step set that
waited runs (R390). -/
def State.freqChangeDone (s : State) (ch : Nat) : State :=
  if s.get (R.CH_STAT_STATE ch) = 4 ∧ s.on (I.CH_CHANGE ch) then
    let sp := s.get (I.CH_CHANGE ch) - 1
    let s1 := (((s.set (R.CH_STAT_SP ch) sp).set (R.CH_STAT_RATE ch) ((s.strg.setPoint ch sp).getD 0)).set
      (R.CH_STAT_STATE ch) 2).set (I.CH_CHANGE ch) 0
    let s2 := (s1.raise (E.memFreqDone ch)).when (s.on (I.CH_CHDOWN ch))
      (fun s => ((s.set (R.CH_EVT_STEPDOWN ch) 1).set (I.CH_CHDOWN ch) 0).raise (E.memStepdown ch))
    let s3 := s2.bwCheck
    let nx := s3.get (I.CH_NEXT ch)
    let s4 := s3.set (I.CH_NEXT ch) 0
    if nx ≠ 0 ∧ nx ≠ sp + 1 then
      if s4.on (I.CH_NEXTURG ch) then s4.startChange ch (nx - 1) 0
      else (s4.pendChange ch (nx - 1) 0).when (s4.on (I.CH_STEPWAIT ch)) (·.startStep ch)
    else s4.when (s4.on (I.CH_STEPWAIT ch)) (·.startStep ch)
  else s

/-- RETRAIN_TIMER (spec/15 R386). -/
def execRetrainTimer (ch : Fin 8) (s : State) : Res := .next (s.dueStep ch)

/-- STEP_SET_DONE (spec/15 R387): `works` tells whether every step found a working setting. -/
def execStepSetDone (ch : Fin 8) (works : Bool) (s : State) : Res :=
  .next (if s.on (I.CH_STEPSET ch) then
    let s1 := (s.set (I.CH_STEPSET ch) 0).set (R.CH_STAT_STATE ch) 2
    if works then s1.set (R.CH_STAT_MARGIN_LOW ch) 0
    else ((s1.set (R.CH_STAT_MARGIN_LOW ch) 1).set (R.CH_EVT_MARGIN_LOW ch) 1).raise (E.memMarginLow ch)
  else s)

/-- CE_WINDOW (spec/15 R388, R377): the counts of the window start again. -/
def execCeWindow (ch : Fin 8) (s : State) : Res :=
  .next ((List.range 10).foldl (fun s d => s.set (I.CH_DEVCNT ch d) 0) (s.set (I.CH_CEWIN ch) 0))

/-- SAFE_POINT_TIMEOUT (spec/15 R388): the pending change no longer waits for a safe point. -/
def execSafePointTimeout (ch : Fin 8) (s : State) : Res :=
  .next (s.when (s.on (R.CH_STAT_PEND ch)) (·.set (I.CH_FORCE ch) 1))

/-! ### Refresh (spec/15 R384) -/

/-- What happens at a refresh point: the channel's domain commits (spec/22 R505), a pending change is applied at a safe
point or by force (R388), a deferred step set starts when no panic is in force (R386). -/
def State.refreshPoint (s : State) (ch : Nat) : State :=
  let s1 := if s.commitPending 14 ch then (s.tryCommit 14 ch (memRules s (s.asked 14 ch) ch)).1 else s
  let safe := !s1.on I.PANIC && (s1.cands ch).all (fun c => decide (c.cls ≠ 0))
  if s1.on (R.CH_STAT_PEND ch) && !s1.on (I.CH_STEPSET ch) && (safe || s1.on (I.CH_FORCE ch)) then
    let s2 := s1.when (s1.on (I.CH_FORCE ch)) (·.set (R.CH_EVT_SAFE_FORCED ch) 1)
    s2.startChange ch (s2.get (R.CH_STAT_SP_PEND ch)) (s2.get (I.CH_DOWN ch))
  else s1.when (s1.on (I.CH_STEPWAIT ch) && !s1.on I.PANIC && decide (s1.get (R.CH_STAT_STATE ch) = 2)) (·.startStep ch)

/-- One refresh of a rank is issued: rows close, all of the rank with REF_MODE 0, one bank of every group with REF_MODE 1;
rank 0's all-bank refresh, or the first same-bank refresh of a group of four, is a refresh point. -/
def State.refresh (s : State) (ch rank : Nat) : State :=
  let same := s.inForce (R.CH_CFG_REF_MODE ch) = 1
  let k := if rank = 0 then s.get (I.CH_SAMEBANK ch) else 0
  let s1 : State := { s with rows := s.rows.filter (fun r =>
    decide (¬(r.ch = ch ∧ r.bank / 32 = rank ∧ (¬same ∨ r.bank / 8 % 4 = k)))) }
  let s2 := s1.when (decide (same ∧ rank = 0)) (·.set (I.CH_SAMEBANK ch) ((k + 1) % 4))
  if rank = 0 ∧ (¬same ∨ k = 0) then s2.refreshPoint ch else s2

/-- Refreshes of a rank that 15.6 µs hold: at the interval of 3.9 µs, or four same-bank ones in 1.95 µs, or at half
the interval in the high-temperature range. -/
def State.postponeMax (s : State) (ch rank : Nat) : Nat :=
  (if s.inForce (R.CH_CFG_REF_MODE ch) = 1 then 32 else 4) * (if s.on (I.CH_HOT ch rank) then 2 else 1)

/-- REFRESH (spec/15 R384): a refresh falls due on a rank. Under panic it is postponed, by at most 15.6 µs in all;
otherwise it is issued, with one postponed refresh to catch up. -/
def execRefresh (ch : Fin 8) (rank : Fin 2) (s : State) : Res :=
  .next (if s.chRuns ch ∧ rank.val ≤ s.get (R.CH_CFG_RANKS ch) then
    let p := s.get (I.CH_POSTPONED ch rank)
    if s.on I.PANIC ∧ p < s.postponeMax ch rank then s.set (I.CH_POSTPONED ch rank) (p + 1)
    else (s.set (I.CH_POSTPONED ch rank) (p - 1)).refresh ch rank
  else s)

/-- REFRESH_POSTPONE_LIMIT (spec/15 R384): the postponed refreshes of a rank are issued regardless of panic. -/
def execRefreshPostponeLimit (ch : Fin 8) (rank : Fin 2) (s : State) : Res :=
  .next (if s.chRuns ch then
    let p := s.get (I.CH_POSTPONED ch rank)
    (List.range p).foldl (fun s _ => if s.chRuns ch then s.refresh ch rank else s) (s.set (I.CH_POSTPONED ch rank) 0)
  else s)

/-- MR4_POLL (spec/15 R384, R386): the ranks that report their high-temperature range, and the device temperature in
°C. -/
def execMr4Poll (ch : Fin 8) (hot : BitVec 2) (temp : BitVec 9) (s : State) : Res :=
  .next (if s.chRuns ch then
    let t := (temp.toInt + 1000).toNat
    let s1 := ((s.set (I.CH_HOT ch 0) (ofBool (bit hot.toNat 0))).set (I.CH_HOT ch 1) (ofBool (bit hot.toNat 1))).set
      (I.CH_MR4 ch) t
    let t0 := s.get (I.CH_TEMP ch)
    s1.when (decide (t0 ≠ 0 ∧ s.get (R.CH_TRAIN_TEMP_DELTA ch) ≤ (max t t0 - min t t0))) (·.dueStep ch)
  else s)

/-- SCRUB_READ (spec/15 R375): the patrol scrub reads its next codeword, whose devices `errs` are in error. A correctable
error is written back, unless a write of the codeword is queued; the bytes stored stay what they are. -/
def execScrubRead (ch : Fin 8) (errs : BitVec 10) (s : State) : Res :=
  .next (if s.on R.SCRUB_EN ∧ s.chRuns ch ∧ s.strg.capacity ch ≠ 0 then
    let cw := s.get (I.CH_SCRUB ch)
    (s.memDecode ch cw errs.toNat).2.set (I.CH_SCRUB ch) ((cw + 1) % (s.strg.capacity ch * 2 ^ 23))
  else s)

/-! ### Panic (spec/15 R383) -/

/-- PANIC_START: an enabled source asserts. -/
def execPanicStart (k : Fin 15) (s : State) : Res :=
  .next (if bit (s.inForce R.PANIC_CFG_EN) k then
    (s.set R.PANIC_STAT_LIVE (setBit (s.get R.PANIC_STAT_LIVE) k)).set I.PANIC 1
  else s)

/-- PANIC_END: a source deasserts; panic ends with the last of them. -/
def execPanicEnd (k : Fin 15) (s : State) : Res :=
  .next (
    let v := clrBit (s.get R.PANIC_STAT_LIVE) k
    let s1 := s.set R.PANIC_STAT_LIVE v
    if v &&& s.inForce R.PANIC_CFG_EN = 0 then (s1.set I.PANIC 0).set I.PANIC_LONGED 0 else s1)

/-- PANIC_LONG: panic has lasted longer than PANIC_MAX × 10 µs. -/
def execPanicLong (s : State) : Res :=
  .next (if s.on I.PANIC && !s.on I.PANIC_LONGED then
    (((s.set R.PANIC_STAT_LONG 1).inc R.PANIC_STAT_LONG_CNT).set I.PANIC_LONGED 1).raise E.panicLong
  else s)

/-! ### Reset of one channel (spec/15 R392) -/

/-- Resets of channel or rod `k` in the 10 s before now. -/
def State.recentResets (s : State) (k : Nat) : Nat :=
  (s.autoTimes.filter (fun e => decide (e.1 = k ∧ s.up ≤ e.2 + 10 * tSec))).length

/-- The requests that wait in a channel, one per port and transaction. -/
def State.waiting (s : State) (ch : Nat) : List (Nat × Nat) :=
  ((s.rdQ.filter (fun e => decide (e.ch = ch))).map (fun e => (e.port, e.txn)) ++
   (s.rdParts.filter (fun e => decide (e.ch = ch))).map (fun e => (e.port, e.txn))).eraseDups

/-- The channel is hung and is reset alone: its proxy answers, its queued requests are answered RETIRED. A channel that
was reset LIMIT times in 10 s steps down with this reset. -/
def State.chanReset (s : State) (ch : Nat) : State :=
  if s.get (R.CH_STAT_STATE ch) = 0 ∨ s.get (R.CH_STAT_STATE ch) = 6 then s
  else
    let many := decide (s.get R.RST_AUTO_LIMIT ≤ s.recentResets (16 + ch))
    let s1 := (s.waiting ch).foldl (fun s p => s.emit (.beamReply p.1 (19 + ch) (s.epoch 14) p.2 1 [])) s
    let s2 : State := { s1 with
      rdQ := s1.rdQ.filter (fun e => decide (e.ch ≠ ch)),
      wrQ := s1.wrQ.filter (fun e => decide (e.ch ≠ ch)),
      rdParts := s1.rdParts.filter (fun e => decide (e.ch ≠ ch)),
      rows := s1.rows.filter (fun e => decide (e.ch ≠ ch)),
      autoTimes := (16 + ch, s1.up) :: s1.autoTimes }
    let s3 := [I.CH_STEPSET ch, I.CH_STEPWAIT ch, I.CH_CHANGE ch, I.CH_NEXT ch, I.CH_INIT ch, I.CH_DRAIN ch,
      I.CH_CHTO ch, I.CH_CHDOWN ch].foldl (fun s f => s.set f 0) s2
    let s4 := ((s3.set (I.CH_PROXY ch) 1).set (R.CH_STAT_STATE ch) 6).set (R.CH_EVT_CH_RESET ch) 1
    let s5 := if many then
        match s4.lowerSp ch with
        | some k => s4.set (I.CH_CHTO ch) (k + 1)
        | none => (s4.set (R.CH_EVT_NO_STEP ch) 1).raise (E.memNoStep ch)
      else s4
    s5.raise (E.memChReset ch)

/-- CH_HANG: a probe of the channel ended in TIMEOUT, or its scheduler stalled for 100 µs. -/
def execChHang (ch : Fin 8) (s : State) : Res := .next (s.chanReset ch)

/-- CH_INIT_DONE (spec/15 R392 step 3): the trained values of the set point in force, or of the lower one, are loaded,
and a step set has run; `works` tells whether it found working settings. -/
def execChInitDone (ch : Fin 8) (works : Bool) (s : State) : Res :=
  .next (if s.get (R.CH_STAT_STATE ch) = 6 ∧ !s.on (I.CH_INIT ch) then
    let tgt := s.get (I.CH_CHTO ch)
    let s1 := if tgt = 0 then s
      else ((s.set (R.CH_STAT_SP ch) (tgt - 1)).set (R.CH_STAT_RATE ch) ((s.strg.setPoint ch (tgt - 1)).getD 0)).set
        (I.CH_CHDOWN ch) 1
    let s2 := s1.set (I.CH_INIT ch) 1
    if works then s2.set (R.CH_STAT_MARGIN_LOW ch) 0
    else ((s2.set (R.CH_STAT_MARGIN_LOW ch) 1).set (R.CH_EVT_MARGIN_LOW ch) 1).raise (E.memMarginLow ch)
  else s)

/-- CH_POISON_FILL_DONE (spec/15 R392 steps 4 and 5): every codeword holds poison, the proxy withdraws and traffic
resumes. -/
def execChPoisonFillDone (ch : Fin 8) (s : State) : Res :=
  .next (if s.get (R.CH_STAT_STATE ch) = 6 ∧ s.on (I.CH_INIT ch) then
    let s1 : State := { s with
      dram := clearBytes s.dram (lin ch 0) (lin (ch + 1) 0),
      dramBad := s.dramBad.filter (fun w => decide (w / 2 ^ 29 ≠ ch.val))
      refs := [] }
    let s2 := ((((s1.set (I.CH_FILL ch) 1).set (I.CH_PROXY ch) 0).set (I.CH_INIT ch) 0).set (I.CH_CHTO ch) 0).set
      (R.CH_STAT_STATE ch) 2
    if s.on (I.CH_CHDOWN ch) then
      ((s2.set (I.CH_CHDOWN ch) 0).set (R.CH_EVT_STEPDOWN ch) 1).raise (E.memStepdown ch) |>.bwCheck
    else s2
  else s)

end Sys2Proof.Machine
end

