-- ==== Sys2Proof/Machine/Pic.lean ====
section
/-!
DEFINITION. Pictures of the source (spec/07 R195 to R202, spec/06 R140 to R142): geometry of stripes, picture buffers
and descriptors, concealment of a stripe, statistics blocks.
-/

namespace Sys2Proof.Machine

/-! ### Frames -/

/-- A Tally time in the 12-byte form of spec/05 R122. -/
def timeBytes (t : Time) : List Byte := leBytes 2 (timeFrac t) ++ leBytes 4 (timeNs t) ++ leBytes 6 (timeSec t)

/-- The 64 bytes of a frame record (spec/05 R122). -/
def Frame.bytes (f : Frame) : List Byte :=
  leBytes 4 f.tag ++ leBytes 4 f.fcnt ++ leBytes 1 f.port ++ leBytes 1 f.info ++ leBytes 2 f.ctags ++ leBytes 2 f.ctx ++
  leBytes 2 f.setId ++ leBytes 2 f.fillSet ++ leBytes 2 f.width ++ leBytes 2 f.lines ++ leBytes 2 f.real.length ++
  leBytes 2 f.firstMissing ++ leBytes 2 f.discarded ++ leBytes 1 f.depth ++ leBytes 1 f.dcg ++ leBytes 2 f.ob.length ++
  timeBytes f.fsTime ++ timeBytes f.closeTime ++ zeros 8

/-- The frame as its picture's products show it: STRIPE_SUB where a stripe was concealed, which LNK's own record does not carry
(spec/05 R122). -/
def Frame.pictured (f : Frame) : Frame := if f.subs.isEmpty then f else { f with ctags := setBit f.ctags 3 }

/-- The line map of a frame (spec/05 R122). -/
def Frame.lineMap (f : Frame) : List Byte :=
  leBytes (ceilDiv f.lines 64 * 8) (f.real.foldl (fun a j => if j < f.lines then setBit a j else a) 0)

/-- The frame of a tag. -/
def State.frame (s : State) (tag : Nat) : Option Frame := s.frames.find? (fun f => decide (f.tag = tag))

/-- Change the frame of a tag. -/
def State.modFrame (s : State) (tag : Nat) (g : Frame → Frame) : State :=
  { s with frames := s.frames.map (fun f => if f.tag = tag then g f else f) }

/-! ### Draining (spec/02 R69, spec/18 R452) -/

/-- A rod that a patch or a power-state entry drains begins no job of a tag at or after T. -/
def State.draining (s : State) (rod tag : Nat) : Bool :=
  let late (t : Nat) : Bool := decide (t = 0) || !tagLater t tag
  (decide (s.get R.PATCH_STAT_STATE = 3) && bit s.patch.hdr.rodMask rod && late (s.get R.PATCH_TAG_T)) ||
  (bit (s.get I.PWR_MASK) rod && late (s.get I.PWR_T))

/-- LNK has issued a tag, or a later one. -/
def State.tagIssued (s : State) (t : Nat) : Bool :=
  decide (s.get R.FTAG_LAST_TAG = t) || tagLater (s.get R.FTAG_LAST_TAG) t

/-- The tags T of the patch and the power-state entry that drain a rod. -/
def State.drainTags (s : State) (rod : Nat) : List Nat :=
  (if s.get R.PATCH_STAT_STATE = 3 ∧ bit s.patch.hdr.rodMask rod then [s.get R.PATCH_TAG_T] else []) ++
  (if bit (s.get I.PWR_MASK) rod then [s.get I.PWR_T] else [])

/-- A rod without frames drains for a T whose frame has started (spec/02 R69). -/
def State.holdNow (s : State) (rod : Nat) : Bool := (s.drainTags rod).any (fun t => decide (t = 0) || s.tagIssued t)

/-! ### The source and its stripes (spec/06 R140, R141) -/

/-- The raw stream of port `p` reaches the image rods or MOT. -/
def Stringing.routed (g : Stringing) (p : Nat) : Bool :=
  g.streams.any (fun r => decide (r.src = 1 + p) && r.dst.any (fun d => decide (2 ≤ portRod d ∧ portRod d ≤ 7)))

/-- The source: port 0, 1, 2 for the pair, or none. -/
def Stringing.source (g : Stringing) : Option Nat :=
  if g.routed 0 && g.routed 1 then some 2 else if g.routed 0 then some 0 else if g.routed 1 then some 1 else none

/-- Core width of a stripe: C = 16 × ceil(W ÷ (16 × S)). -/
def coreWidth (w n : Nat) : Nat := 16 * ceilDiv w (16 * n)

/-- First core column and core width of stripe `k`. -/
def stripeSpan (w n k : Nat) : Nat × Nat :=
  let c := coreWidth w n
  (k * c, min ((k + 1) * c) w - min (k * c) w)

/-- The rod that runs stripe `k`. -/
def State.stripeRod (s : State) (k : Nat) : Nat :=
  if s.on (I.STRIPE_MOVED k) then s.get (I.STRIPE_MOVED k) else 2 + k

/-- An image rod that processes a stripe, by its number n: every such rod holds the same registers (spec/06 R144). -/
def State.mosaicRod (s : State) : Nat :=
  (((List.range s.stripes).find? (fun k => !s.on (I.STRIPE_OUT k))).map s.stripeRod).getD 2 - 2

/-- The stripe that a rod runs. -/
def State.rodStripe (s : State) (rod : Nat) : Option Nat :=
  (List.range s.stripes).find? (fun k => decide (s.stripeRod k = rod))

/-- STRIPE.ACTIVE of an image rod (spec/06 R140): it runs a stripe of the source. -/
def State.stripeOn (s : State) (n : Nat) : Bool :=
  s.strung && s.strg.source.isSome && !s.isolated (2 + n) && (s.rodStripe (2 + n)).isSome

/-! ### The raw store (spec/08 R228) and the raw input (spec/01 R32) -/

/-- Bytes of a whole line of a frame, and its stride in the raw store (R228). -/
def Frame.lineBytes (f : Frame) : Nat := ceilDiv (f.width * (1 + f.dcg) * (10 + 2 * f.depth)) 64 * 8
def Frame.stride (f : Frame) : Nat := roundUp f.lineBytes 64

/-- Byte of the raw store at which a line of a frame stands: OB lines first (R228). -/
def State.rawAddr (s : State) (f : Frame) (row : Nat) : Nat :=
  f.slot * s.get (R.RAW_RING_SLOT_MIB (if f.port = 2 then 0 else f.port)) * 2 ^ 20 + 4096 + f.stride * row

/-- A line of the raw store as a reader has it; what poisoned bytes hold is unstated. -/
def State.storeLine (s : State) (f : Frame) (row : Nat) : List Byte :=
  let region := s.get (R.RAW_RING_REGION (if f.port = 2 then 0 else f.port))
  let a := s.rawAddr f row
  if s.dramPoison region a f.lineBytes then
    (List.range f.lineBytes).map (fun i =>
      if s.dramPoison region (a + i) 1 then BitVec.ofNat 8 (Config.poisoned (a + i)) else s.dramByte region (a + i))
  else s.dramRead region a f.lineBytes

/-- The frame as an image rod takes it: inline in the latency position, read back from the raw store in the quality position. -/
def State.rawInput (s : State) (f : Frame) : Frame :=
  if s.tnrQuality then
    { f with
      data := (List.range f.lines).map (fun j => (j, s.storeLine f (f.obLines + j)))
      ob := (List.range f.obLines).map (fun i => (i, s.storeLine f i)) }
  else f

/-! ### Formats (spec/07 R191, R192) -/

/-- Planes of a format: bytes of a line of width `w`, and lines of height `h`, for each. -/
def planesOf (fmt w h : Nat) : List (Nat × Nat) :=
  let l10 (n : Nat) := ceilDiv (n * 10) 8
  if fmt = 0 then [(l10 w, h), (l10 w, h)]
  else if fmt = 1 then [(l10 w, h), (l10 w, ceilDiv h 2)]
  else if fmt = 2 ∨ fmt = 3 then [(l10 w, h), (l10 w, h), (l10 w, h)]
  else if fmt = 4 then [(w, h), (w, h)]
  else if fmt = 5 then [(w, h), (w, ceilDiv h 2)]
  else if fmt = 6 then [(2 * w, h), (2 * w, h), (2 * w, h)]
  else []

/-- Offset and stride of each plane: planes in order, each on a 64-byte boundary, strides multiples of 64. -/
def planeLayout (fmt w h : Nat) : List (Nat × Nat) :=
  ((planesOf fmt w h).foldl (fun (acc : List (Nat × Nat) × Nat) p =>
    let st := roundUp p.1 64
    (acc.1 ++ [(acc.2, st)], acc.2 + st * p.2)) ([], 0)).1

/-- Bytes of a picture. -/
def pictureBytes (fmt w h : Nat) : Nat := (planesOf fmt w h).foldl (fun a p => a + roundUp p.1 64 * p.2) 0

/-! ### Descriptors (spec/07 R196, R197) -/

/-- Tray address of a descriptor slot. -/
def State.descAddr (s : State) (slot : Nat) : Nat := s.get R.PIC_DESC_GRAN * granBytes + slot * 256

/-- A descriptor slot is fully released: all 16 RELEASED bytes are 1. A slot that no picture of this run has used is
free. -/
def State.slotFree (s : State) (slot : Nat) : Bool :=
  !(s.pics.any (fun p => decide (p.slot = some slot))) ||
  (s.trayRead (s.descAddr slot + 0xC0) 16).all (fun b => decide (b = 1))

/-- Does a descriptor name a buffer, as BUF or in a stripe entry? -/
def State.descNames (s : State) (slot buf : Nat) : Bool :=
  let d := s.trayRead (s.descAddr slot) 256
  decide (fieldLE d 5 1 = buf) || (List.range 4).any (fun k =>
    decide (k < fieldLE d 6 1 ∧ fieldLE d (0x40 + 16 * k + 5) 1 ≠ 0 ∧ fieldLE d (0x40 + 16 * k + 4) 1 = buf))

/-- A buffer is free when every descriptor that names it is fully released. -/
def State.bufFree (s : State) (buf : Nat) : Bool :=
  s.pics.all (fun p => match p.slot with
    | some k => !s.descNames k buf || s.slotFree k
    | none => true)

/-- The picture of a tag. -/
def State.pic (s : State) (tag : Nat) : Option Pic := s.pics.find? (fun p => decide (p.tag = tag))

/-- STATE of a stripe entry of a picture; none where the picture has no descriptor. -/
def State.entryState (s : State) (tag k : Nat) : Option Nat :=
  match s.pic tag with
  | some ⟨_, some slot, _⟩ => some (fieldLE (s.trayRead (s.descAddr slot + 0x40 + 16 * k) 16) 5 1)
  | _ => none

/-- The picture is complete: every stripe entry has a STATE other than 0. -/
def State.picComplete (s : State) (tag : Nat) : Bool :=
  (List.range s.stripes).all (fun k => match s.entryState tag k with
    | some st => decide (st ≠ 0)
    | none => false)

/-- The 16 bytes of a stripe entry. -/
def stripeEntry (first cw buf st src : Nat) : List Byte :=
  leBytes 2 first ++ leBytes 2 cw ++ leBytes 1 buf ++ leBytes 1 st ++ zeros 2 ++ leBytes 4 src ++ zeros 4

/-- Write a stripe entry as a rod, unless it was already written, together with the frame record whose CTAGS are those
in force (spec/07 R196, R197). -/
def State.writeEntry (s : State) (rod tag k buf st src : Nat) : State :=
  match s.pic tag, s.frame tag with
  | some ⟨_, some slot, _⟩, some f =>
    if s.entryState tag k = some 0 then
      let sp := stripeSpan f.width s.stripes k
      (s.trayPut rod (s.descAddr slot + 0x40 + 16 * k) (stripeEntry sp.1 sp.2 buf st src)).trayPut rod
        (s.descAddr slot + 0x80) f.pictured.bytes
    else s
  | _, _ => s

/-! ### Statistics blocks (spec/07 R202) -/

/-- Bytes of a statistics block for `n` stripes. -/
def stsBytes (n : Nat) : Nat := ceilDiv (256 + n * 73728) granBytes * granBytes

/-- Tray address of a statistics block. -/
def State.stsAddr (s : State) (blk : Nat) : Nat := s.get R.STS_RING_GRAN * granBytes + blk * stsBytes s.stripes

/-- Is the STS bead strung, and does it stand before DMS (the RAW position)? -/
def State.stsStrung (s : State) : Bool := s.strg.strungBead 2 9
def State.stsRaw (s : State) : Bool :=
  match s.strg.rodSec 2 with
  | some r =>
    match r.beads.find? (fun b => decide (b.1 = 9)), r.beads.find? (fun b => decide (b.1 = 5)) with
    | some a, some d => decide (a.2 < d.2)
    | _, _ => false
  | none => false

/-- The header of a stripe's section. -/
def stsHead (tag st k first cw used : Nat) : List Byte :=
  leBytes 4 tag ++ leBytes 1 st ++ leBytes 1 k ++ leBytes 2 first ++ leBytes 2 cw ++ leBytes 2 used ++ zeros 244

/-- A zone record of which only COUNT is not zero. -/
def zoneOnly (count : Nat) : List Byte := leBytes 4 count ++ zeros 28

/-- Mark a stripe's section concealed: STATE 2 and every zone EMPTY (spec/07 R202). -/
def State.stsConceal (s : State) (tag k : Nat) : State :=
  match s.pic tag, s.frame tag with
  | some p, some f =>
    if s.stsStrung then
      let a := s.stsAddr p.blk + 256 + 73728 * k
      let sp := stripeSpan f.width s.stripes k
      s.trayPut 0 a (stsHead tag 2 k sp.1 sp.2 0 ++ (List.range 2048).flatMap (fun _ => zoneOnly 0x40000000))
    else s
  | _, _ => s

/-- The record of a frame in its statistics block is that of the frame as it stands (spec/05 R134). -/
def State.stsRecord (s : State) (tag : Nat) : State :=
  match s.pic tag, s.frame tag with
  | some p, some f => if s.stsStrung then s.trayPut 0 (s.stsAddr p.blk + 0x40) f.pictured.bytes else s
  | _, _ => s

/-- The picture's descriptor has REPEAT set: its frame has a slot and no buffer (spec/07 R197). -/
def State.picRepeat (s : State) (tag : Nat) : Bool :=
  match s.pic tag with
  | some ⟨_, some slot, _⟩ => fieldLE (s.trayRead (s.descAddr slot) 8) 7 1 == 1
  | _ => false

/-- The frame's record reaches the metadata of what has no later writer at its close: the statistics block's header and the
descriptor of a frame without a buffer, whose entries were written at its start (spec/05 R122). -/
def State.picClosed (s : State) (tag : Nat) : State :=
  let s1 := s.stsRecord tag
  match s1.pic tag, s1.frame tag with
  | some ⟨_, some slot, _⟩, some f =>
    if s1.picRepeat tag then s1.trayPut 0 (s1.descAddr slot + 0x80) f.pictured.bytes else s1
  | _, _ => s1

/-! ### Concealment of a stripe (spec/06 R169, R170) -/

/-- The stripe of a frame is still to be processed: its entry is pending, or the frame has no entry that a job writes (spec/07 R197);
and it was not concealed. -/
def State.stripeWaits (s : State) (f : Frame) (k : Nat) : Bool :=
  !f.subs.contains k && (match s.entryState f.tag k with
    | some st => decide (st = 0) || s.picRepeat f.tag
    | none => true)

/-- Stripe `k` of a picture is concealed by reference, and its section with it; the frame carries STRIPE_SUB and is counted once. A
frame without a descriptor has no entry to be written. -/
def State.conceal (s : State) (tag k : Nat) : State :=
  match s.frame tag with
  | some f =>
    if s.stripeWaits f k then
      let s1 := s.modFrame tag (fun f => { f with subs := f.subs ++ [k] })
      let s2 := (s1.writeEntry 0 tag k (s.get (I.STRIPE_BUF k)) 2 (s.get (I.STRIPE_TAG k))).stsConceal tag k
      (s2.stsRecord tag).when f.subs.isEmpty (·.inc R.SUBST_STAT_CONC_CNT)
    else s
  | none => s

/-! ### The start of a frame of the source (spec/07 R195 to R197) -/

/-- CTL counts a frame that got no buffer or no slot. -/
def State.picNobuf (s : State) : State :=
  ((s.set R.PIC_STAT_NOBUF 1).inc R.PIC_STAT_CNT).raise E.picNobuf

/-- The first free buffer after the one last used, in ring order. -/
def State.pickBuf (s : State) : Option Nat :=
  let n := s.get R.PIC_RING_NBUF
  ((List.range n).map (fun i => (s.get I.PIC_LASTBUF + i) % n)).find? s.bufFree

/-- The 256 bytes of a new descriptor: every entry pending, or, without a buffer, a copy of the previous frame's entries
as references. -/
def State.newDesc (s : State) (f : Frame) (buf : Option Nat) : List Byte :=
  let n := s.mosaicRod
  let fmt := s.inForce (R.FMT_CFG_FORMAT n)
  let planes := planeLayout fmt f.width f.lines
  let plane (i : Nat) : List Byte := match planes[i]? with
    | some p => leBytes 8 p.1 ++ leBytes 4 p.2 ++ zeros 4
    | none => zeros 16
  let prev := s.pics.head?.bind (·.slot)
  let entry (k : Nat) : List Byte :=
    if s.stripes ≤ k then zeros 16
    else
      let sp := stripeSpan f.width s.stripes k
      match buf with
      | some b => stripeEntry sp.1 sp.2 b 0 0
      | none =>
        match prev with
        | some slot =>
          let e := s.trayRead (s.descAddr slot + 0x40 + 16 * k) 16
          if fieldLE e 5 1 = 0 ∨ fieldLE e 4 1 = 0xFF then stripeEntry sp.1 sp.2 0xFF 2 0
          else stripeEntry sp.1 sp.2 (fieldLE e 4 1) 2 (fieldLE e 8 4)
        | none => stripeEntry sp.1 sp.2 0xFF 2 0
  let readers := s.get R.PIC_READERS_MASK
  leBytes 4 f.tag ++ leBytes 1 fmt ++ leBytes 1 (buf.getD 0xFF) ++ leBytes 1 s.stripes ++
  leBytes 1 (ofBool buf.isNone) ++ leBytes 2 f.width ++ leBytes 2 f.lines ++
  leBytes 1 (s.inForce (R.FMT_COLOUR_PRIM n)) ++ leBytes 1 (s.inForce (R.FMT_COLOUR_TRC n)) ++
  leBytes 1 (s.inForce (R.FMT_COLOUR_MATRIX n)) ++ leBytes 1 (s.inForce (R.FMT_CFG_RANGE n)) ++
  plane 0 ++ plane 1 ++ plane 2 ++ entry 0 ++ entry 1 ++ entry 2 ++ entry 3 ++ f.pictured.bytes ++
  (List.range 16).map (fun r => if bit readers r then 0 else 1) ++ zeros 48

/-- The header of a statistics block. -/
def State.stsBlockHead (s : State) (f : Frame) : List Byte :=
  leBytes 4 f.tag ++ leBytes 1 s.stripes ++ leBytes 1 (if s.stsRaw then 0 else 1) ++ leBytes 2 f.width ++ leBytes 2 f.lines ++
  zeros 54 ++ f.bytes ++ zeros 128

/-- The sections of a statistics block at the frame's start: pending (spec/07 R202). -/
def State.stsPending (s : State) (f : Frame) (blk : Nat) : State :=
  (List.range s.stripes).foldl (fun (s : State) k =>
    let sp := stripeSpan f.width s.stripes k
    s.trayPut 0 (s.stsAddr blk + 256 + 73728 * k) (stsHead f.tag 0 k sp.1 sp.2 0)) s

/-- The pictures that are kept: the last of each descriptor slot, and the latest of those without one. -/
def keepPics (l : List Pic) : List Pic := keepEach (fun p => match p.slot with | some k => k + 1 | none => 0) 64 [] l

/-- A frame of the source starts: its buffer, its descriptor, its statistics block. -/
def State.picStart (s : State) (f : Frame) : State :=
  let slot := s.get I.PIC_NEXT
  let blk := s.get I.STS_NEXT
  let s1 := if s.stsStrung then
      ((s.trayPut 0 (s.stsAddr blk) (s.stsBlockHead f)).stsPending f blk).set I.STS_NEXT ((blk + 1) % s.get R.STS_RING_DEPTH)
    else s
  if s1.slotFree slot then
    let buf := s1.pickBuf
    let s2 := (s1.trayPut 0 (s1.descAddr slot) (s1.newDesc f buf)).set I.PIC_NEXT ((slot + 1) % s1.get R.PIC_DESC_DEPTH)
    let s3 : State := { s2 with
      pics := keepPics (⟨f.tag, some slot, blk⟩ :: s2.pics.map (fun p => if p.slot = some slot then { p with slot := none } else p)) }
    match buf with
    | some b => s3.set I.PIC_LASTBUF (b + 1)
    | none => s3.picNobuf
  else
    ({ s1 with pics := keepPics (⟨f.tag, none, blk⟩ :: s1.pics) } : State).picNobuf

end Sys2Proof.Machine
end

