-- ==== Sys2Proof/Machine/V24.lean ====
section
/-!
DEFINITION. Exact fractions, the V24 format and its conversions (spec/07 R174 to R176), the transfer curves (spec/07 R188, R189). Values
between the roundings of a bead are exact but for a free error no larger than that of binary32 (notes/assumptions/701.md).
-/

namespace Sys2Proof

/-! ### Fractions -/

/-- An integer as a fraction. -/
def Frac.int (i : Int) : Frac := ⟨i, 1⟩

/-- The fraction `a` over `b`. -/
def Frac.over (a : Int) (b : Nat) : Frac := ⟨a, b⟩

def Frac.add (a b : Frac) : Frac := if a.den = b.den then ⟨a.num + b.num, a.den⟩ else ⟨a.num * b.den + b.num * a.den, a.den * b.den⟩
def Frac.neg (a : Frac) : Frac := ⟨-a.num, a.den⟩
def Frac.sub (a b : Frac) : Frac := a.add b.neg
def Frac.mul (a b : Frac) : Frac := ⟨a.num * b.num, a.den * b.den⟩
def Frac.abs (a : Frac) : Frac := ⟨a.num.natAbs, a.den⟩

/-- A quotient; by 0 it is 0. -/
def Frac.div (a b : Frac) : Frac := if b.num < 0 then ⟨-(a.num * b.den), a.den * b.num.natAbs⟩ else ⟨a.num * b.den, a.den * b.num.natAbs⟩

/-- Order of fractions with positive denominators. -/
def Frac.le (a b : Frac) : Bool := decide (a.num * b.den ≤ b.num * a.den)
def Frac.lt (a b : Frac) : Bool := decide (a.num * b.den < b.num * a.den)

def Frac.min (a b : Frac) : Frac := if a.le b then a else b
def Frac.max (a b : Frac) : Frac := if a.le b then b else a

/-- Clamp to 0 to 1. -/
def Frac.unit (a : Frac) : Frac := (a.max (.int 0)).min (.int 1)

/-- A power of two. -/
def Frac.pow2 (e : Int) : Frac := if e < 0 then ⟨1, 2 ^ e.natAbs⟩ else ⟨2 ^ e.natAbs, 1⟩

/-- The largest integer not above. -/
def Frac.floor (a : Frac) : Int := a.num / a.den

/-- The sum of a list. -/
def Frac.sum (l : List Frac) : Frac := l.foldl Frac.add (.int 0)

/-- The nearest integer, ties away from zero. -/
def Frac.round (a : Frac) : Int :=
  let m := (2 * a.num.natAbs + a.den) / (2 * a.den)
  if a.num < 0 then -(m : Int) else m

/-- The nearest integer of a fraction that is not negative, ties to even. -/
def Frac.roundEven (a : Frac) : Nat :=
  let n := a.num.natAbs
  let q := n / a.den
  let r := 2 * (n % a.den)
  if a.den < r ∨ (r = a.den ∧ q % 2 = 1) then q + 1 else q

/-- Exponent of the largest power of two not above a positive fraction. -/
def Frac.log2 (a : Frac) : Int :=
  let e : Int := (Nat.log2 a.num.natAbs : Int) - Nat.log2 a.den
  if (Frac.pow2 e).le a then (if (Frac.pow2 (e + 1)).le a then e + 1 else e) else e - 1

namespace Machine

/-! ### Free errors -/

/-- A value as near to an exact one as `tol`: what the hardware makes of it, at place `k` of the pipeline. -/
def nearTol (k : Nat) (tol x : Frac) : Frac :=
  let y := Config.inter k x
  if 0 < y.den ∧ ((y.sub x).abs).le tol then y else x

/-- A value with at least the precision of binary32 (spec/07 R175). -/
def near (k : Nat) (x : Frac) : Frac := nearTol k (x.abs.mul (.pow2 (-24))) x

/-- A sum of binary32 precision in any order. -/
def nearSum (k : Nat) (l : List Frac) : Frac :=
  nearTol k (((Frac.sum (l.map Frac.abs)).mul (.int l.length)).mul (.pow2 (-24))) (Frac.sum l)

/-! ### Floating point codes -/

/-- The code of a value in a format of `eb` exponent and `mb` mantissa bits without denormals: nearest, ties to even, the largest finite
value beyond it, zero with its sign below the smallest (spec/07 R175, spec/06 R160). -/
def floatCode (eb mb : Nat) (x : Frac) : Nat :=
  let sg := if x.num < 0 then 2 ^ (eb + mb) else 0
  if x.num = 0 then 0
  else
    let a := x.abs
    let e := a.log2
    let q := (a.mul (.pow2 (mb - e))).roundEven
    let e1 := if q = 2 ^ (mb + 1) then e + 1 else e
    let m := if q = 2 ^ (mb + 1) then 0 else q - 2 ^ mb
    let b := e1 + (2 ^ (eb - 1) - 1 : Nat)
    if b < 1 then sg
    else if (2 ^ eb - 1 : Nat) ≤ b then sg + (2 ^ eb - 2) * 2 ^ mb + (2 ^ mb - 1)
    else sg + b.toNat * 2 ^ mb + m

/-- The value of a code. -/
def floatVal (eb mb c : Nat) : Frac :=
  let e := c / 2 ^ mb % 2 ^ eb
  if e = 0 then .int 0
  else
    let v := (Frac.int (2 ^ mb + c % 2 ^ mb : Nat)).mul (.pow2 ((e : Int) - (2 ^ (eb - 1) - 1 : Nat) - mb))
    if c / 2 ^ (eb + mb) % 2 = 1 then v.neg else v

/-- V24 (R174): the code of a value, the value of a code. -/
def v24 (x : Frac) : Nat := floatCode 8 15 x
def v24Val (c : Nat) : Frac := floatVal 8 15 c

/-- Order key of a V24 code. -/
def v24Key (c : Nat) : Int := if c / 2 ^ 23 % 2 = 1 then -((c % 2 ^ 23 : Nat) : Int) else (c % 2 ^ 23 : Nat)

/-- binary16 of a V24 code (R160, R176): a zero keeps its sign. -/
def half (c : Nat) : Nat := if c % 2 ^ 23 = 0 then c / 2 ^ 23 * 2 ^ 15 else floatCode 5 10 (v24Val c)

/-- The V24 code of a binary16 sample, exact. -/
def unhalf (h : Nat) : Nat := if h % 2 ^ 15 = 0 then h / 2 ^ 15 * 2 ^ 23 else v24 (floatVal 5 10 h)

/-- binary32 of a sum. -/
def single (x : Frac) : Nat := floatCode 8 23 x

/-- Integer code of `n` bits (R176). -/
def intCode (n : Nat) (x : Frac) : Nat := ((x.unit.mul (.int (2 ^ n - 1 : Nat))).round).toNat

/-! ### Logarithm, powers and curves, to 2^-30 -/

/-- One squaring of a mantissa of 64 fraction bits from 1 to 2: whether it passed 2, and the mantissa. -/
def logStep (m : Nat) : Nat × Nat :=
  let q := m * m / 2 ^ 64
  if 2 ^ 65 ≤ q then (1, q / 2) else (0, q)

/-- `n` more bits of a logarithm. -/
def logBits : Nat → Nat → Nat → Nat
  | 0, _, acc => acc
  | n + 1, m, acc => logBits n (logStep m).2 (2 * acc + (logStep m).1)

/-- The binary logarithm of a positive fraction, with 40 fraction bits. -/
def logTwo (a : Frac) : Frac :=
  let e := a.log2
  (Frac.int e).add (.over (logBits 40 ((a.mul (.pow2 (64 - e))).floor.toNat) 0) (2 ^ 40))

/-- Factors 2^(1/2), 2^(1/4) and so on, of 64 fraction bits. -/
def expFactors : Nat → Nat → List Nat
  | 0, _ => []
  | n + 1, r =>
    let q := Nat.sqrt (r * 2 ^ 64)
    q :: expFactors n q

/-- Two to the power of a fraction. -/
def expTwo (a : Frac) : Frac :=
  let e := a.floor
  let f := ((a.sub (.int e)).mul (.int (2 ^ 40 : Nat))).floor.toNat
  let m := ((expFactors 40 (2 ^ 65)).zipIdx).foldl (fun (m : Nat) q => if bit f (39 - q.2) then m * q.1 / 2 ^ 64 else m) (2 ^ 64)
  (Frac.over m (2 ^ 64)).mul (.pow2 e)

/-- A power of a fraction that is not negative. -/
def fracPow (x p : Frac) : Frac := if x.num ≤ 0 then .int 0 else expTwo ((logTwo x).mul p)

/-- The square root of a fraction that is not negative. -/
def fracSqrt (x : Frac) : Frac := ⟨Nat.sqrt (x.num.toNat * x.den * 2 ^ 128), x.den * 2 ^ 64⟩

/-- The LOMMOND_LOG curve (R189). -/
def lommondLog (x : Frac) : Frac :=
  let y := if x.num < 0 then ((Frac.over 1 8).add ((Frac.over 23083 1000).mul x)).max (.int 0)
    else ((logTwo (x.add (.over 1 256))).add (.int 10)).mul (.over 1 16)
  y.min (.int 1)

/-- The OETF of ITU-R BT.709-6. -/
def oetf709 (x : Frac) : Frac :=
  if x.lt (.over 18 1000) then x.mul (.over 9 2)
  else ((fracPow x (.over 45 100)).mul (.over 1099 1000)).sub (.over 99 1000)

/-- The encoding of IEC 61966-2-1. -/
def oetfSrgb (x : Frac) : Frac :=
  if x.le (.over 31308 10000000) then x.mul (.over 1292 100)
  else ((fracPow x (.over 10 24)).mul (.over 1055 1000)).sub (.over 55 1000)

/-- The inverse EOTF of SMPTE ST 2084, with 1 at 10,000 cd/m². -/
def oetfPq (x : Frac) : Frac :=
  let l := fracPow x (.over 2610 16384)
  let a := (Frac.over 3424 4096).add ((Frac.over 2413 128).mul l)
  let b := (Frac.int 1).add ((Frac.over 2392 128).mul l)
  fracPow (a.div b) (.over 2523 32)

/-- The HLG OETF of ITU-R BT.2100-2. -/
def oetfHlg (x : Frac) : Frac :=
  if x.le (.over 1 12) then fracSqrt (x.mul (.int 3))
  else
    let ln := (logTwo ((x.mul (.int 12)).sub (.over 28466892 100000000))).mul (.over 693147180559945 1000000000000000)
    (ln.mul (.over 17883277 100000000)).add (.over 55991073 100000000)

/-- The transfer curves of FMT (R188) without their error. -/
def curveExact (o : Nat) (x : Frac) : Frac :=
  if o = 1 then oetf709 x.unit
  else if o = 2 then oetfSrgb x.unit
  else if o = 3 then oetfPq x.unit
  else if o = 4 then oetfHlg x.unit
  else if o = 5 then lommondLog x
  else x.unit

/-- A transfer curve of FMT: exact for NONE and LINEAR, otherwise within 2^-14 (R188). -/
def curve (k o : Nat) (x : Frac) : Frac :=
  let y := curveExact o x
  if o = 0 ∨ o = 6 then y else (nearTol k (.pow2 (-14)) y).unit

end Machine

end Sys2Proof
end

