-- ==== Sys2Proof/Machine/Pixel.lean ====
section
/-!
DEFINITION. The samples of a stripe in the front end: black level, defective pixels, shading, dual gain, temporal noise reduction
(spec/06 R142, R149 to R162). Samples between beads are V24 codes.
-/

namespace Sys2Proof.Machine

/-! ### Grids of samples -/

/-- Rows of samples of a stripe's input span. -/
abbrev Grid (α : Type) := Array (Array α)

/-- The grid of a function of column and line. -/
def gridOf {α : Type} (h lo hi : Nat) (g : Nat → Nat → α) : Grid α :=
  ((List.range h).map (fun y => ((List.range (hi - lo)).map (fun i => g (lo + i) y)).toArray)).toArray

/-- A coordinate outside 0 to `n - 1` repeats the edge period (R142). -/
def foldEdge (p n : Nat) (x : Int) : Nat :=
  if x < 0 then (x % (p : Int)).toNat
  else if (n : Int) ≤ x then (n - p) + ((x - n) % (p : Int)).toNat
  else x.toNat

/-- A stripe on which an image rod works: the rod's number, the frame, the core, the columns of the input span inside the frame
(R141, R142), the mosaic period (spec/07 R179). -/
structure Work where
  n : Nat
  f : Frame
  first : Nat
  cw : Nat
  lo : Nat
  hi : Nat
  px : Nat
  py : Nat

/-- The stripe `k` of a frame on image rod `n`. -/
def State.work (s : State) (n k : Nat) (f : Frame) : Work :=
  let sp := stripeSpan f.width s.stripes k
  ⟨n, s.rawInput f, sp.1, sp.2, sp.1 - 64, min f.width (sp.1 + sp.2 + 64), max 1 (s.inForce (R.DMS_MOSAIC_PX n)), max 1 (s.inForce (R.DMS_MOSAIC_PY n))⟩

/-- Column and line in the frame that a tap reads. -/
def Work.col (w : Work) (x : Int) : Nat := foldEdge w.px w.f.width x
def Work.row (w : Work) (y : Int) : Nat := foldEdge w.py w.f.lines y

/-- A tap of a grid. -/
def Work.tap {α : Type} (w : Work) (d : α) (g : Grid α) (x y : Int) : α := (g.getD (w.row y) #[]).getD (w.col x - w.lo) d

/-- A grid over the input span. -/
def Work.grid {α : Type} (w : Work) (g : Nat → Nat → α) : Grid α := gridOf w.f.lines w.lo w.hi g

/-- The columns and lines of the core. -/
def Work.core (w : Work) : List (Nat × Nat) :=
  (List.range w.f.lines).flatMap (fun y => (List.range w.cw).map (fun i => (w.first + i, y)))

/-- The columns and lines of the input span inside the frame. -/
def Work.span (w : Work) : List (Nat × Nat) :=
  (List.range w.f.lines).flatMap (fun y => (List.range (w.hi - w.lo)).map (fun i => (w.lo + i, y)))

/-- Class of the sample at a place of the frame (spec/07 R179). -/
def State.classAt (s : State) (w : Work) (x y : Nat) : Nat := s.inForce (R.DMS_MAP_CLS w.n (y % w.py) (x % w.px))

/-- Is a line real, not filled (R124)? -/
def Work.real (w : Work) (y : Nat) : Bool := w.f.real.contains y

/-! ### Black level (R148, R149) -/

/-- Level of gain and class `c` in force, in 1/16 code. -/
def State.blackLevel (s : State) (n c : Nat) : Nat :=
  if s.inForce (R.BLK_CFG_MODE n) = 1 ∧ s.on (I.BLK_B n c) then s.get (I.BLK_B n c) - 1 else s.inForce (R.BLK_LEVEL_B n c)

/-- Sample depth D of a frame (spec/04 R106). -/
def Frame.bits (f : Frame) : Nat := 10 + 2 * f.depth

/-- Codes of the samples of gain `k`. -/
def Work.raw (w : Work) (k : Nat) : Grid Nat :=
  let rows := (List.range w.f.lines).map (fun y =>
    let d := ((w.f.data.find? (fun e => decide (e.1 = y))).map (·.2)).getD []
    ((lineSamples d w.f.bits (1 + w.f.dcg) w.lo (w.hi - w.lo)).getD k []).toArray)
  rows.toArray

/-- The output of BLK: (s - B) × 2^-D. -/
def State.blkOut (s : State) (w : Work) (k : Nat) (raw : Grid Nat) : Grid Nat :=
  w.grid (fun x y =>
    let b := s.blackLevel w.n (6 * k + s.classAt w x y)
    v24 (.over ((16 * w.tap 0 raw x y : Nat) - (b : Int)) (2 ^ (w.f.bits + 4))))

/-! ### Defective pixels (R150 to R152) -/

/-- An entry of the defect map marks sample `k` of a pixel. -/
def entryMarks (b : List Byte) (k x y : Nat) : Bool :=
  let x0 := fieldLE b 0 2
  let y0 := fieldLE b 2 2
  let kind := fieldLE b 4 1
  let len := fieldLE b 6 2
  bit (fieldLE b 5 1) k && (
    if kind = 1 then decide (x = x0 ∧ y0 ≤ y ∧ y < y0 + len)
    else if kind = 2 then decide (y = y0 ∧ x0 ≤ x ∧ x < x0 + len)
    else decide (x = x0 ∧ y = y0))

/-- One mosaic period away in each direction. -/
def Work.around (w : Work) (x y : Nat) : List (Nat × Nat) :=
  [(-1, -1), (0, -1), (1, -1), (-1, 0), (1, 0), (-1, 1), (0, 1), (1, 1)].map (fun d : Int × Int =>
    (w.col (x + d.1 * w.px), w.row (y + d.2 * w.py)))

/-- Insertion of a code in ascending order. -/
def v24Ins : List Nat → Nat → List Nat
  | [], c => [c]
  | a :: t, c => if v24Key c ≤ v24Key a then c :: a :: t else a :: v24Ins t c

/-- V24 codes in ascending order of their values. -/
def v24Sort (l : List Nat) : List Nat := l.foldl v24Ins []

/-- The median; of an even count the mean of the two middle values. -/
def v24Median (l : List Nat) : Nat :=
  let s := v24Sort l
  let m := s.length / 2
  if s.length % 2 = 1 then s.getD m 0
  else v24 (near 1 (((v24Val (s.getD (m - 1) 0)).add (v24Val (s.getD m 0))).mul (.over 1 2)))

/-- The usable neighbours of a pixel. -/
def Work.usable (w : Work) (g : Grid Nat) (bad : Nat → Nat → Bool) (x y : Nat) : List Nat :=
  ((w.around x y).filter (fun p => !bad p.1 p.2)).map (fun p => w.tap 0 g p.1 p.2)

/-- A pixel is detected as defective (R152): its sample lies outside its neighbours that the map does not mark by more than T. -/
def State.detect (s : State) (w : Work) (g : Grid Nat) (marked : Nat → Nat → Bool) (x y : Nat) : Bool :=
  match v24Sort (w.usable g marked x y) with
  | [] => false
  | a :: l =>
    let med := v24Val (v24Median (a :: l))
    let t := near 2 ((Frac.over (s.inForce (R.DPC_DYN_T_ABS w.n)) (2 ^ w.f.bits)).add (med.mul (.over (s.inForce (R.DPC_DYN_T_REL w.n)) 256)))
    let v := v24Val (w.tap 0 g x y)
    (near 3 ((v24Val ((a :: l).getLastD a)).add t)).lt v || v.lt (near 3 ((v24Val a).sub t))

/-- What DPC makes of the samples: the grids of each gain, detected pixels, pixels left unchanged for want of neighbours. -/
def State.dpcOut (s : State) (w : Work) (map : List (List Byte)) (gs : List (Grid Nat)) : List (Grid Nat) × Grid Bool × Grid Bool :=
  let marks (k x y : Nat) : Bool := map.any (fun e => entryMarks e k x y)
  let det := if s.inForce (R.DPC_DYN_EN w.n) = 1 then w.grid (fun x y => s.detect w (gs.headD #[]) (marks 0) x y)
    else w.grid (fun _ _ => false)
  let bad (k x y : Nat) : Bool := marks k x y || w.tap false det x y
  let fixed := gs.zipIdx.map (fun e => w.grid (fun x y =>
    if bad e.2 x y then
      match w.usable e.1 (bad e.2) x y with
      | [] => w.tap 0 e.1 x y
      | l => v24Median l
    else w.tap 0 e.1 x y))
  let stuck := w.grid (fun x y => gs.zipIdx.any (fun e => bad e.2 x y && (w.usable e.1 (bad e.2) x y).isEmpty))
  (fixed, det, stuck)

/-! ### Lens shading (R153, R154) -/

/-- Node (i, j) of class `c` of a grid slot. -/
def gridNode (g : List Byte) (i j c : Nat) : Frac := .over (fieldLE g (2 * (6 * (65 * j + i) + c)) 2) 4096

/-- A weight to 16 fraction bits. -/
def weight16 (x : Frac) : Frac := .over ((nearTol 4 (.pow2 (-17)) x).mul (.int 65536)).floor 65536

/-- The gain of a slot at a pixel. -/
def slotGain (g : List Byte) (w h x y c : Nat) : Frac :=
  let u := Frac.over ((2 * x + 1) * 32 : Nat) (max 1 w)
  let v := Frac.over ((2 * y + 1) * 16 : Nat) (max 1 h)
  let i := min u.floor.toNat 63
  let j := min v.floor.toNat 31
  let a := weight16 (u.sub (.int i))
  let b := weight16 (v.sub (.int j))
  let a1 := (Frac.int 1).sub a
  let b1 := (Frac.int 1).sub b
  near 5 (Frac.sum [(a1.mul b1).mul (gridNode g i j c), (a.mul b1).mul (gridNode g (i + 1) j c),
    (a1.mul b).mul (gridNode g i (j + 1) c), (a.mul b).mul (gridNode g (i + 1) (j + 1) c)])

/-- The output of LSC for one gain, from the grids that the job copied. -/
def State.lscOut (s : State) (w : Work) (ga gb : List Byte) (g : Grid Nat) : Grid Nat :=
  if s.inForce (R.LSC_SEL_EN w.n) ≠ 1 then g
  else w.grid (fun x y =>
    let c := s.classAt w x y
    let a := slotGain ga w.f.width w.f.lines x y c
    let b := slotGain gb w.f.width w.f.lines x y c
    let m := near 6 (a.add ((b.sub a).mul (.over (s.inForce (R.LSC_SEL_BLEND w.n)) 256)))
    v24 ((m.min (.over (s.inForce (R.LSC_CFG_MAX_GAIN w.n)) 4096)).mul (v24Val (w.tap 0 g x y))))

/-! ### Dual gain (R156) -/

/-- The merge of the two samples of a pixel: `code` is the high-gain code before black subtraction. -/
def State.dcgPixel (s : State) (n code : Nat) (h l : Frac) : Frac :=
  let t1 := s.inForce (R.DCG_KNEE_T1 n)
  let t2 := s.inForce (R.DCG_KNEE_T2 n)
  let w := (near 7 ((Frac.int ((code : Int) - t1)).div (.int ((t2 : Int) - t1)))).unit
  let g := Frac.over (s.inForce (R.DCG_RATIO_G n)) 65536
  (near 8 (((Frac.int 1).sub w).mul h)).add (near 8 ((w.mul g).mul l))

/-- The output of DCG. -/
def State.dcgOut (s : State) (w : Work) (raw h l : Grid Nat) : Grid Nat :=
  w.grid (fun x y => v24 (near 8 (s.dcgPixel w.n (w.tap 0 raw x y) (v24Val (w.tap 0 h x y)) (v24Val (w.tap 0 l x y)))))

/-- What DCG accumulates over the core pixels with T1 ÷ 4 ≤ h_raw < T1: their number, the sums of h × l and l × l as binary32. -/
def State.dcgSums (s : State) (w : Work) (raw h l : Grid Nat) : Nat × Nat × Nat :=
  let t1 := s.inForce (R.DCG_KNEE_T1 w.n)
  let px := w.core.filter (fun p => decide (t1 ≤ 4 * w.tap 0 raw p.1 p.2 ∧ w.tap 0 raw p.1 p.2 < t1))
  let hv (p : Nat × Nat) := v24Val (w.tap 0 h p.1 p.2)
  let lv (p : Nat × Nat) := v24Val (w.tap 0 l p.1 p.2)
  (px.length, single (nearSum 9 (px.map (fun p => (hv p).mul (lv p)))), single (nearSum 9 (px.map (fun p => (lv p).mul (lv p)))))

/-! ### Temporal noise reduction (R159 to R162) -/

/-- Does a reference stripe hold what a job of the previous frame `tag` wrote, in the geometry of a frame (R160)? -/
def RefStripe.usable (r : RefStripe) (tag : Nat) (f : Frame) : Bool :=
  decide (r.tag = tag ∧ r.width = f.width ∧ r.lines = f.lines)

/-- The reference sample at a place of the frame. -/
def refAt (refs : List RefStripe) (x y : Nat) : Option Frac :=
  (refs.find? (fun r => decide (r.first ≤ x ∧ x < r.first + r.cw))).map (fun r =>
    v24Val (unhalf ((r.rows.getD y []).getD (x - r.first) 0)))

/-- The vector word of a block, from the set at Tray address `a` (R165). -/
def State.vecWord (s : State) (a : Nat) (w : Work) (x y : Nat) : Nat :=
  fieldLE (s.trayRead (a + 64 + 4 * (ceilDiv w.f.width 32 * (y / 32) + x / 32)) 4) 0 4

/-- The vector of a pixel's block and whether it is used: not where V is 0 or COST exceeds COST_MAX (R159). -/
def State.vecAt (s : State) (set : Option Nat) (w : Work) (x y : Nat) : Int × Int × Bool :=
  match set with
  | none => (0, 0, false)
  | some a =>
    let v := s.vecWord a w x y
    if bit v 31 ∧ Machine.bits v 24 7 ≤ s.inForce (R.TNR_CFG_COST_MAX w.n) then
      (signed 12 (Machine.bits v 0 12), signed 12 (Machine.bits v 12 12), true)
    else (0, 0, false)

/-- The displaced reference of a pixel (R159 step 1). -/
def State.refPixel (s : State) (refs : List RefStripe) (set : Option Nat) (w : Work) (x y : Nat) : Option Frac :=
  let v := s.vecAt set w x y
  let get (dx dy : Int) : Option Frac := refAt refs (w.col (x + dx)) (w.row (y + dy))
  if s.inForce (R.TNR_CFG_ALIGN w.n) = 0 then
    get ((Frac.over v.1 w.px).round * w.px) ((Frac.over v.2.1 w.py).round * w.py)
  else
    let i := (Frac.over v.1 w.px).floor
    let j := (Frac.over v.2.1 w.py).floor
    let fx := Frac.over (v.1 - i * w.px) w.px
    let fy := Frac.over (v.2.1 - j * w.py) w.py
    let t (a b : Int) := get ((i + a) * w.px) ((j + b) * w.py)
    match t 0 0, t 1 0, t 0 1, t 1 1 with
    | some a, some b, some c, some d =>
      let l (p q r : Frac) : Frac := (((Frac.int 1).sub r).mul p).add (r.mul q)
      some (near 10 (l (l a b fx) (l c d fx) fy))
    | _, _, _, _ => none

/-- The blend of a pixel with its reference (R159): `cur`, `ref`, whether its vector is used, the mean of |cur - ref| over the pixel
and its same-class neighbours. -/
def State.tnrBlend (s : State) (n : Nat) (cur ref : Frac) (used : Bool) (mean : Frac) : Frac :=
  let a := v24Val (s.inForce (R.TNR_NOISE_V n 0))
  let b := v24Val (s.inForce (R.TNR_NOISE_V n 1))
  let sigma := near 11 (fracSqrt (near 11 ((a.mul (ref.max (.int 0))).add b)))
  let d := if sigma.num = 0 then Config.divZero mean else near 12 (mean.div sigma)
  let hi := Frac.over (s.inForce (R.TNR_THR_T_HI n)) 16
  let lo := Frac.over (s.inForce (R.TNR_THR_T_LO n)) 16
  let k0 := Frac.over (if used then s.inForce (R.TNR_CFG_K_MAX n) else s.inForce (R.TNR_CFG_K_NOVEC n)) 256
  let k := near 13 (k0.mul ((near 13 ((hi.sub d).div (hi.sub lo))).unit))
  near 14 (cur.add (near 14 (k.mul (ref.sub cur))))

/-- The output of TNR with the reference stripes that are usable (R144, R160): a column whose own stripe is not, or a pixel without a
reference, passes unchanged, in the core and in the overlap alike; a filled line takes the
reference at its own place (R162). -/
def State.tnrOut (s : State) (w : Work) (refs : List RefStripe) (set : Option Nat) (g : Grid Nat) : Grid Nat :=
  let ref := w.grid (fun x y => s.refPixel refs set w x y)
  let diff (x y : Nat) : Option Frac := (w.tap none ref x y).map (fun r => near 15 ((v24Val (w.tap 0 g x y)).sub r).abs)
  w.grid (fun x y =>
    let cur := w.tap 0 g x y
    if !refs.any (fun r => decide (r.first ≤ x ∧ x < r.first + r.cw)) then cur
    else if !w.real y then ((refAt refs x y).map v24).getD cur
    else
      let ds := ((x, y) :: w.around x y).filterMap (fun p => diff p.1 p.2)
      match w.tap none ref x y with
      | some r =>
        if ds.length < 9 then cur
        else v24 (s.tnrBlend w.n (v24Val cur) r (s.vecAt set w x y).2.2 (near 16 ((Frac.sum ds).mul (.over 1 9))))
      | none => cur)

/-- The reference stripe that a job leaves (R160). -/
def Work.refOf (w : Work) (k : Nat) (g : Grid Nat) : RefStripe :=
  ⟨k, w.f.tag, w.f.width, w.f.lines, w.first, w.cw,
    (List.range w.f.lines).map (fun y => (List.range w.cw).map (fun i => half (w.tap 0 g (w.first + i : Nat) y)))⟩

/-! ### The front end of a job -/

/-- What the front end makes of a stripe: the raw image, DPC's detections and stuck pixels, DCG's sums. -/
structure FrontOut where
  clean : Grid Nat
  det : Grid Bool
  stuck : Grid Bool
  sums : Nat × Nat × Nat

/-- The strung beads in the order BLK, DPC, LSC, DCG, TNR (R146). `map` holds the entries of the defect map in use, `ga` and `gb` the
grids copied, `refs` the usable reference stripes where TNR uses a reference. -/
def State.front (s : State) (w : Work) (map : List (List Byte)) (ga gb : List Byte) (refs : Option (List RefStripe))
    (set : Option Nat) : FrontOut :=
  let strung (b : Nat) : Bool := s.strg.strungBead (2 + w.n) b
  let raws := (List.range (1 + w.f.dcg)).map w.raw
  let blk := raws.zipIdx.map (fun e => s.blkOut w e.2 e.1)
  let dpc := if strung 1 then s.dpcOut w map blk else (blk, #[], #[])
  let lsc := if strung 2 then dpc.1.map (s.lscOut w ga gb) else dpc.1
  let raw := raws.headD #[]
  let h := lsc.headD #[]
  let dual := strung 3 && decide (w.f.dcg = 1)
  let merged := if dual then s.dcgOut w raw h (lsc.getD 1 #[]) else h
  let sums := if dual then s.dcgSums w raw h (lsc.getD 1 #[]) else (0, 0, 0)
  let out := match refs with | some r => s.tnrOut w r set merged | none => merged
  ⟨out, dpc.2.1, dpc.2.2, sums⟩

end Sys2Proof.Machine
end

