-- ==== Sys2Proof/Machine/Colour.lean ====
section
/-!
DEFINITION. The samples of a stripe in the back half of an image rod: demosaic, spectral matrix, white balance, 3D LUT, formatter,
statistics (spec/07 R180 to R202).
-/

namespace Sys2Proof.Machine

/-! ### Demosaic (R180, R181) -/

/-- A class is present where an entry inside the period carries its code (R179). -/
def State.classPresent (s : State) (w : Work) (c : Nat) : Bool :=
  (List.range w.py).any (fun j => (List.range w.px).any (fun i => decide (s.classAt w i j = c)))

/-- Distances of a window of `p + 1` samples centred on a pixel. -/
def window (p : Nat) : List Int :=
  let a : Nat := if p % 2 = 0 then p / 2 else if Config.windowLow then (p + 1) / 2 else (p - 1) / 2
  (List.range (p + 1)).map (fun i => (i : Int) - a)

/-- The weighted mean over the sites of class `c` in the window of a pixel, of what `val` gives for a site. -/
def State.windowMean (s : State) (w : Work) (c : Nat) (val : Nat → Nat → Option Frac) (x y : Nat) : Option Frac :=
  let taps := (window w.py).flatMap (fun dy => (window w.px).filterMap (fun dx =>
    let cx := w.col (x + dx)
    let cy := w.row (y + dy)
    if s.classAt w cx cy = c then
      (val cx cy).map (fun v => (((w.px + 1 - dx.natAbs) * (w.py + 1 - dy.natAbs) : Nat), v))
    else none))
  match taps with
  | [] => none
  | _ => some ((Frac.sum (taps.map (fun t => (Frac.int t.1).mul t.2))).mul (.over 1 (taps.foldl (fun a t => a + t.1) 0)))

/-- The four directions of R181 step 1, as one step of columns and lines: horizontal, vertical, the two diagonals. -/
def guideDirs : List (Int × Int) := [(1, 0), (0, 1), (1, 1), (1, -1)]

/-- The estimate along a direction from its guide sites: on the line between the nearest site of either side. -/
def guideAlong (l : List (Int × Frac)) : Frac :=
  match l.find? (fun t => decide (0 < t.1)), (l.filter (fun t => decide (t.1 < 0))).getLast? with
  | some (p, a), some (m, b) => near 44 (((a.mul (.int (-m))).add (b.mul (.int p))).mul (.over 1 (p - m).toNat))
  | _, _ => Config.guideOneSided l

/-- The direction of R181 step 1: the estimate of the smallest gradient where that is smaller than the next by the ratio EDGE_T (8
fraction bits), else the mean of the four. A list of gradient and estimate. -/
def guideChoice (edge : Nat) (l : List (Frac × Frac)) : Frac :=
  match (sortBy (fun a b => a.1.le b.1) l) with
  | a :: b :: _ =>
    if (a.1.mul (.over edge 256)).le b.1 && a.1.lt b.1 then a.2 else near 45 ((Frac.sum (l.map (·.2))).mul (.over 1 l.length))
  | _ => .int 0

/-- The guide at every site (R181 step 1): the sample itself, or interpolated along a direction. A direction reaches as far as the
period, within which R181 finds guide sites of its rows and columns on both sides. -/
def State.guideGrid (s : State) (w : Work) (g : Grid Nat) : Grid Frac :=
  let gc := s.inForce (R.DMS_CFG_GUIDE w.n)
  let p := max w.px w.py
  w.grid (fun x y =>
    if s.classAt w x y = gc then v24Val (w.tap 0 g x y)
    else
      guideChoice (s.inForce (R.DMS_CFG_EDGE_T w.n)) (guideDirs.map (fun d =>
        let sites := (List.range (2 * p + 1)).filterMap (fun i =>
          let t : Int := (i : Int) - p
          let cx := w.col (x + t * d.1)
          let cy := w.row (y + t * d.2)
          if s.classAt w cx cy = gc then some (t, v24Val (w.tap 0 g cx cy)) else none)
        (Config.guideGrad sites, guideAlong sites))))

/-- The median of an odd number of values; false-colour suppression at strength `st` of a pixel's ratio, with the ratios of the 3 x 3
pixels about it (R181 step 3). -/
def medianOf (l : List Frac) : Frac := ((sortBy Frac.le l)[l.length / 2]?).getD (.int 0)
def falseColour (st : Nat) (r : Frac) (l : List Frac) : Frac :=
  if st = 0 then r
  else if l.length ≠ 9 then Config.falseColour st l
  else if st = 255 then medianOf l
  else Config.falseMix st r (medianOf l)

/-- Class `c` of GUIDED mode at a pixel (R181 steps 2 and 3): ratios to the guide, differences at marked sites. -/
def State.guided (s : State) (w : Work) (g : Grid Nat) (guide : Grid Frac) (c x y : Nat) : Frac :=
  let gd (x y : Nat) : Frac := w.tap (.int 0) guide x y
  let marked (x y : Nat) : Bool := (gd x y).lt (.pow2 (-12))
  let ratio (cx cy : Nat) : Option Frac := if marked cx cy then none else some (near 21 ((v24Val (w.tap 0 g cx cy)).div (gd cx cy)))
  let diff (cx cy : Nat) : Option Frac := if marked cx cy then some (near 21 ((v24Val (w.tap 0 g cx cy)).sub (gd cx cy))) else none
  let here := gd x y
  let st := s.inForce (R.DMS_CFG_FALSE_C w.n)
  let at_ (x y : Nat) : Option Frac := s.windowMean w c ratio x y
  let smooth : Option Frac := (at_ x y).map (fun r =>
    falseColour st r ((List.range 9).filterMap (fun i => at_ (w.col (x + (i % 3 : Nat) - 1)) (w.row (y + (i / 3 : Nat) - 1)))))
  match smooth, s.windowMean w c diff x y with
  | some r, none => near 22 (r.mul here)
  | none, some d => near 22 (here.add d)
  | some r, some d => Config.guidedMix (r.mul here) (here.add d)
  | none, none => .int 0

/-- The six values that DMS gives a pixel, V24 (R180). -/
def State.dmsPixel (s : State) (w : Work) (g : Grid Nat) (guide : Grid Frac) (x y : Nat) : List Nat :=
  let own := w.tap 0 g x y
  let mode := s.inForce (R.DMS_CFG_MODE w.n)
  (List.range 6).map (fun c =>
    if !s.classPresent w c then 0
    else if mode = 2 ∨ s.classAt w x y = c then own
    else if mode = 1 then
      if c = s.inForce (R.DMS_CFG_GUIDE w.n) then v24 (w.tap (.int 0) guide x y) else v24 (s.guided w g guide c x y)
    else v24 (((s.windowMean w c (fun cx cy => some (v24Val (w.tap 0 g cx cy))) x y).map (near 20)).getD (.int 0)))

/-! ### Matrices (R182, R183) -/

/-- The sum of products of binary32 precision and a constant. -/
def dot (k : Nat) (l : List (Frac × Frac)) (o : Frac) : Frac := nearSum k (o :: l.map (fun p => p.1.mul p.2))

/-- SPM: camera RGB of a pixel. -/
def State.spmPixel (s : State) (n : Nat) (v : List Nat) : List Nat :=
  (List.range 3).map (fun k => v24 (dot 23 ((List.range 6).map (fun c =>
    (v24Val (s.inForce (R.SPM_M_V n (6 * k + c))), v24Val (v.getD c 0)))) (v24Val (s.inForce (R.SPM_O_V n k)))))

/-- WBM: white balance, the clamp to WHITE, the camera matrix. -/
def State.wbmPixel (s : State) (n : Nat) (v : List Nat) : List Nat :=
  let white := v24Val (s.inForce (R.WBM_HL_WHITE n))
  let bal := (List.range 3).map (fun k =>
    let x := near 24 ((v24Val (s.inForce (R.WBM_WB_V n k))).mul (v24Val (v.getD k 0)))
    if s.inForce (R.WBM_HL_EN n) = 1 then x.min white else x)
  (List.range 3).map (fun j => v24 (dot 25 ((List.range 3).map (fun k =>
    (v24Val (s.inForce (R.WBM_CM_V n (3 * j + k))), bal.getD k (.int 0)))) (v24Val (s.inForce (R.WBM_CO_V n j)))))

/-! ### 3D LUT (R184, R187) -/

/-- A node of a LUT slot: its address, its three outputs. -/
def State.lutAddr (s : State) (m r g b : Nat) : Nat := s.get (R.SLOT_BASE_GRAN m) * granBytes + 6 * (r + 65 * (g + 65 * b))
def State.lutNode (s : State) (m r g b : Nat) : List Frac :=
  let d := s.trayRead (s.lutAddr m r g b) 6
  (List.range 3).map (fun j => .over (fieldLE d (2 * j) 2) 65535)

/-- A channel scaled and shaped. -/
def State.lutShape (s : State) (n : Nat) (v : Nat) : Frac :=
  let x := near 26 ((v24Val v).mul (v24Val (s.inForce (R.LUT_SCALE_V n))))
  match s.inForce (R.LUT_CFG_SHAPER n) with
  | 1 => curve 27 5 x
  | 2 => curve 27 3 x
  | _ => x.unit

/-- The nodes of the tetrahedron of a shaped triple, each with its weight: from the cell's corner along the channels in order of
their fractions, the largest first. -/
def lutTetra (x : List Frac) : List ((Nat × Nat × Nat) × Frac) :=
  let c := x.map (fun v =>
    let u := v.mul (.int 64)
    let i := min u.floor.toNat 63
    (i, u.sub (.int i)))
  let i (k : Nat) := (c.getD k (0, .int 0)).1
  let f (k : Nat) : Frac := (c.getD k (0, .int 0)).2
  let ge (a b : Nat) : Bool := (f b).le (f a)
  let order : Nat × Nat × Nat :=
    if ge 0 1 && ge 1 2 then (0, 1, 2) else if ge 0 2 && ge 2 1 then (0, 2, 1) else if ge 1 0 && ge 0 2 then (1, 0, 2)
    else if ge 1 2 && ge 2 0 then (1, 2, 0) else if ge 2 0 && ge 0 1 then (2, 0, 1) else (2, 1, 0)
  let up (l : List Nat) : Nat × Nat × Nat := (i 0 + ofBool (l.contains 0), i 1 + ofBool (l.contains 1), i 2 + ofBool (l.contains 2))
  [(up [], (Frac.int 1).sub (f order.1)), (up [order.1], (f order.1).sub (f order.2.1)),
    (up [order.1, order.2.1], (f order.2.1).sub (f order.2.2)), (up [0, 1, 2], f order.2.2)]

/-- A pixel of the LUT bead with the slot in use, and whether a node read returned POISON. -/
def State.lutPixel (s : State) (n : Nat) (slot : Option Nat) (v : List Nat) : List Nat × Bool :=
  if !s.strg.strungBead (2 + n) 8 || decide (s.inForce (R.LUT_CFG_EN n) ≠ 1) then (v, false)
  else
    let x := v.map (s.lutShape n)
    match slot with
    | none => (x.map v24, false)
    | some m =>
      let t := lutTetra x
      if t.any (fun e => s.trayPoison (s.lutAddr m e.1.1 e.1.2.1 e.1.2.2) 6) then (x.map v24, true)
      else ((List.range 3).map (fun j => v24 (nearSum 28 (t.map (fun e =>
        e.2.mul ((s.lutNode m e.1.1 e.1.2.1 e.1.2.2).getD j (.int 0)))))), false)

/-! ### Formatter (R188, R191 to R194) -/

/-- Kr and Kb of MATRIX (R193). -/
def lumaWeights (m : Nat) : Frac × Frac := if m = 9 then (.over 2627 10000, .over 593 10000) else (.over 2126 10000, .over 722 10000)

/-- The encoded R'G'B' of a pixel. -/
def State.fmtEncode (s : State) (n : Nat) (v : List Nat) : List Frac :=
  v.map (fun c => curve 30 (s.inForce (R.FMT_CFG_OETF n)) (near 29 ((v24Val c).mul (v24Val (s.inForce (R.FMT_SCALE_V n))))))

/-- Y', Cb, Cr of an encoded pixel; Cb and Cr from -1/2 to 1/2. -/
def State.fmtYcc (s : State) (n : Nat) (v : List Frac) : Frac × Frac × Frac :=
  let k := lumaWeights (s.inForce (R.FMT_COLOUR_MATRIX n))
  let r := v.getD 0 (.int 0)
  let g := v.getD 1 (.int 0)
  let b := v.getD 2 (.int 0)
  let y := nearSum 31 [k.1.mul r, (((Frac.int 1).sub k.1).sub k.2).mul g, k.2.mul b]
  let c (x kx : Frac) : Frac := near 32 ((x.sub y).div ((Frac.int 2).mul ((Frac.int 1).sub kx)))
  (y, c b k.2, c r k.1)

/-- A picture code of `n` bits: narrow codes start at `lo`, span `range` and are clamped (R193); full ones cover all (R176). -/
def picCode (n : Nat) (full : Bool) (lo range : Nat) (x : Frac) : Nat :=
  if full then intCode n x
  else
    let m := 2 ^ (n - 8)
    let v := ((x.mul (.int (range * m))).add (.int (lo * m))).round
    max (if n = 10 then 4 else 1) (min (if n = 10 then 1019 else 254) v.toNat)

/-- A luma code, or one of R'G'B'; a chroma code. Whether a full-range chroma code lies about 2^(n-1), or half a code below, is open. -/
def lumaCode (n : Nat) (full : Bool) (x : Frac) : Nat := picCode n full 16 219 x
def chromaCode (n : Nat) (full : Bool) (x : Frac) : Nat :=
  if full then
    min (2 ^ n - 1) ((nearTol 35 (.over 1 4) ((x.mul (.int (2 ^ n - 1 : Nat))).add (.over (2 ^ (n + 1) - 1 : Nat) 4))).round.toNat)
  else picCode n false 128 224 x

/-- Samples of `b` bits as a plane line (R192). -/
def packLine (b : Nat) (l : List Nat) : List Byte :=
  leBytes (ceilDiv (b * l.length) 8) (l.foldr (fun c a => c % 2 ^ b + 2 ^ b * a) 0)

/-- The plane lines of a stripe's core, plane by plane (R191 to R194): `rgb` is what FMT receives. -/
def State.fmtLines (s : State) (w : Work) (rgb : Grid (List Nat)) : List (List Byte) :=
  let n := w.n
  let fmt := s.inForce (R.FMT_CFG_FORMAT n)
  let full := decide (s.inForce (R.FMT_CFG_RANGE n) = 1)
  let bd := if fmt = 4 ∨ fmt = 5 then 8 else 10
  let enc := w.grid (fun x y => s.fmtEncode n (w.tap [0, 0, 0] rgb x y))
  let ycc := w.grid (fun x y => s.fmtYcc n (w.tap [] enc x y))
  let z : Frac × Frac × Frac := (.int 0, .int 0, .int 0)
  let ys := List.range w.f.lines
  let xs := (List.range w.cw).map (fun i => w.first + i)
  let px (x y : Nat) : Frac × Frac × Frac := w.tap z ycc (min x (w.f.width - 1) : Nat) (min y (w.f.lines - 1) : Nat)
  let plane (g : Nat → Nat → Nat) : List (List Byte) := ys.map (fun y => packLine bd (xs.map (fun x => g x y)))
  let co (c : Frac × Frac × Frac → Frac) (x y : Nat) : Frac :=
    near 33 ((Frac.sum [c (px (x - 1) y), (Frac.int 2).mul (c (px x y)), c (px (x + 1) y)]).mul (.over 1 4))
  let cbcr (at_ : (Frac × Frac × Frac → Frac) → Nat → Frac) : List Byte :=
    packLine bd ((xs.filter (fun x => decide (x % 2 = 0))).flatMap (fun x =>
      [chromaCode bd full (at_ (·.2.1) x), chromaCode bd full (at_ (·.2.2) x)]))
  let luma := plane (fun x y => lumaCode bd full (px x y).1)
  if fmt = 0 ∨ fmt = 4 then luma ++ ys.map (fun y => cbcr (fun c x => co c x y))
  else if fmt = 1 ∨ fmt = 5 then
    luma ++ (List.range (ceilDiv w.f.lines 2)).map (fun j =>
      cbcr (fun c x => near 34 (((co c x (2 * j)).add (co c x (min (2 * j + 1) (w.f.lines - 1)))).mul (.over 1 2))))
  else if fmt = 2 then luma ++ plane (fun x y => chromaCode bd full (px x y).2.1) ++ plane (fun x y => chromaCode bd full (px x y).2.2)
  else if fmt = 3 then
    (List.range 3).flatMap (fun k => plane (fun x y => lumaCode bd full ((w.tap [] enc x y).getD k (.int 0))))
  else
    (List.range 3).flatMap (fun k => ys.map (fun y => packLine 16 (xs.map (fun x =>
      half (v24 (near 29 ((v24Val ((w.tap [0, 0, 0] rgb x y).getD k 0)).mul (v24Val (s.inForce (R.FMT_SCALE_V n))))))))))

/-! ### Statistics (R198 to R201) -/

/-- What STS measures of a pixel: its channels with their values; Y in the RGB position. -/
def State.stsPixel (s : State) (w : Work) (raw : Bool) (clean : Grid Nat) (rgb : Grid (List Nat)) (x y : Nat) : List (Nat × Frac) :=
  if raw then [(s.classAt w x y, v24Val (w.tap 0 clean x y))]
  else ((w.tap [0, 0, 0] rgb x y).zipIdx).map (fun e => (e.2, v24Val e.1))

/-- Y of the RGB position. -/
def stsLuma (l : List (Nat × Frac)) : Frac :=
  nearSum 40 (([.over 2126 10000, .over 7152 10000, .over 722 10000].zip (l.map (·.2))).map (fun p => Frac.mul p.1 p.2))

/-- A zone record of measured pixels (R199). -/
def State.zoneSums (s : State) (n : Nat) (px : List (List (Nat × Frac))) : List Byte :=
  let clip := v24Val (s.inForce (R.STS_CLIP_V n))
  leBytes 4 px.length ++ leBytes 4 (px.filter (fun l => l.any (fun e => clip.le e.2))).length ++
    (List.range 6).flatMap (fun c => leBytes 4 (single (nearSum 41 (px.flatMap (fun l =>
      (l.filter (fun e => decide (e.1 = c))).map (·.2))))))

/-- The bin of a value (R200). -/
def stsBin (href v : Frac) : Nat :=
  if v.num ≤ 0 ∨ href.num ≤ 0 then 0
  else
    let r := near 42 (v.div href)
    let r2 := r.mul r
    let r4 := r2.mul r2
    let r8 := r4.mul r4
    (min 255 ((r8.mul r8).log2 + 192)).toNat

/-- The four histograms (R200). -/
def State.stsHist (s : State) (n : Nat) (raw : Bool) (px : List (List (Nat × Frac))) : List Byte :=
  let href := v24Val (s.inForce (R.STS_HREF_V n))
  (List.range 4).flatMap (fun h =>
    let sel := s.inForce (R.STS_HSEL n h)
    let vals := if sel = 6 ∧ !raw then px.map stsLuma
      else px.flatMap (fun l => (l.filter (fun e => decide (e.1 = sel ∧ sel < 6))).map (·.2))
    let bins := vals.map (stsBin href)
    (List.range 256).flatMap (fun b => leBytes 4 (bins.filter (fun x => decide (x = b))).length))

/-- The focus record of a cell's pixels (R201): `v` gives the measured value at a place, `d` and `e` the taps' distances. -/
def Work.focus (w : Work) (v : Int → Int → Frac) (d e : Nat) (px : List (Nat × Nat)) : List Byte :=
  let okRow (y : Int) : Bool := w.real (w.row y)
  let ok := px.filter (fun p => [(e : Int), -e, 4 * e, -(4 * e)].all (fun k => okRow (p.2 + k)))
  let sq (x : Frac) : Frac := x.mul x
  let m (k : Int) (p : Nat × Nat) : Frac :=
    let c := (Frac.int 2).mul (v p.1 p.2)
    (sq ((c.sub (v (p.1 - k * d) p.2)).sub (v (p.1 + k * d) p.2))).add
      (sq ((c.sub (v p.1 (p.2 - k * e))).sub (v p.1 (p.2 + k * e))))
  leBytes 4 (single (nearSum 43 (ok.map (m 1)))) ++ leBytes 4 (single (nearSum 43 (ok.map (m 4)))) ++
    leBytes 4 ok.length ++ zeros 4

/-- The measured part of a stripe's section after its header: zone records, histograms, focus cells (R202). -/
def State.stsSection (s : State) (w : Work) (raw : Bool) (clean : Grid Nat) (rgb : Grid (List Nat)) : List Byte :=
  let f := w.f
  let inCore (x : Nat) : Bool := decide (w.first ≤ x ∧ x < w.first + w.cw)
  let cells (x0 x1 y0 y1 : Nat) : List (Nat × Nat) :=
    ((List.range (y1 - y0)).map (· + y0)).flatMap (fun y =>
      if w.real y then (((List.range (x1 - x0)).map (· + x0)).filter inCore).map (fun x => (x, y)) else [])
  let vals (l : List (Nat × Nat)) := l.map (fun p => s.stsPixel w raw clean rgb p.1 p.2)
  let zone (z : Nat) : List Byte :=
    let i := z % 64
    let j := z / 64
    if !decide (i * f.width / 64 < w.first + w.cw ∧ w.first < (i + 1) * f.width / 64) then leBytes 4 0x80000000 ++ zeros 28
    else
      match cells (i * f.width / 64) ((i + 1) * f.width / 64) (j * f.lines / 32) ((j + 1) * f.lines / 32) with
      | [] => leBytes 4 0x40000000 ++ zeros 28
      | l => s.zoneSums w.n (vals l)
  let v (x y : Int) : Frac :=
    let l := s.stsPixel w raw clean rgb (w.col x) (w.row y)
    if raw then ((l.head?).map (·.2)).getD (.int 0) else stsLuma l
  let guide := s.inForce (R.DMS_CFG_GUIDE w.n)
  let cell (z : Nat) : List Byte :=
    let i := z % 16
    let j := z / 16
    let l := cells (4 * i * f.width / 64) ((4 * i + 4) * f.width / 64) (4 * j * f.lines / 32) ((4 * j + 4) * f.lines / 32)
    w.focus v (if raw then w.px else 1) (if raw then w.py else 1)
      (if raw then l.filter (fun p => decide (s.classAt w p.1 p.2 = guide)) else l)
  (List.range 2048).flatMap zone ++ s.stsHist w.n raw (vals (cells w.first (w.first + w.cw) 0 f.lines)) ++ (List.range 128).flatMap cell

/-! ### The back half of a job -/

/-- What the back half makes of a stripe: the plane lines of its core, the pixels whose LUT read was POISON, the measured part of its
statistics. -/
structure BackOut where
  lines : List (List Byte)
  poisoned : List (Nat × Nat)
  sts : List Byte

/-- The beads from DMS on, with the LUT slot in use. -/
def State.back (s : State) (w : Work) (clean : Grid Nat) (slot : Option Nat) (stsRaw : Bool) : BackOut :=
  let guide := if s.inForce (R.DMS_CFG_MODE w.n) = 1 then s.guideGrid w clean else #[]
  let rgb := w.grid (fun x y => s.wbmPixel w.n (s.spmPixel w.n (s.dmsPixel w clean guide x y)))
  let lut := w.grid (fun x y => s.lutPixel w.n slot (w.tap [0, 0, 0] rgb x y))
  ⟨s.fmtLines w (w.grid (fun x y => (w.tap ([], false) lut x y).1)),
    w.span.filter (fun p => (w.tap ([], false) lut p.1 p.2).2),
    s.stsSection w stsRaw clean rgb⟩

end Sys2Proof.Machine
end

