-- ==== Sys2Proof/Machine/Compose.lean ====
section
/-!
DEFINITION. The pixels that a composer makes (spec/11 R285 to R288, R293) and that a head sends (spec/12 R308, R309).
-/

namespace Sys2Proof.Machine

/-! ### The source of a layer (spec/11 R281) -/

/-- The picture that a layer reads: its memory (a DRAM region, or the Tray), offset and stride of each plane, the address of a
column's buffer, the place of its window and the size of that, format, MATRIX and range. -/
structure LayerSrc where
  region : Option Nat
  planes : List (Nat × Nat)
  base : Nat → Option Nat
  x0 : Nat
  y0 : Nat
  w : Nat
  h : Nat
  fmt : Nat
  matrix : Nat
  full : Bool

/-- Little-endian number of `n` bytes of a source. -/
def State.srcNum (s : State) (g : LayerSrc) (a n : Nat) : Nat :=
  match g.region with
  | some r => if s.dramPoison r a n then Config.poisoned a else fieldLE (s.dramRead r a n) 0 n
  | none => fieldLE (s.rodRead 11 (a % trayBytes) n) 0 n

/-- The picture in force of a layer. -/
def State.layerPic (s : State) (n j : Nat) : Option LayerPic := s.lays.find? (fun p => decide (p.n = n ∧ p.j = j))

/-- Planes of a descriptor (spec/07 R196), from its byte 0 or 0x20. -/
def descPlanes (d : List Byte) (o : Nat) : List (Nat × Nat) := (List.range 3).map (fun p => (fieldLE d (o + 16 * p) 8, fieldLE d (o + 8 + 16 * p) 4))

/-- A picture of the picture ring as a source, by its descriptor (spec/07 R196): each column in the buffer of its stripe. -/
def State.ringSrc (s : State) (d : List Byte) : LayerSrc :=
  ⟨some (s.get R.PIC_RING_REGION), descPlanes d 0x10,
    fun x => ((List.range (fieldLE d 6 1)).find? (fun k =>
        decide (fieldLE d (0x40 + 16 * k) 2 ≤ x ∧ x < fieldLE d (0x40 + 16 * k) 2 + fieldLE d (0x42 + 16 * k) 2 ∧
          fieldLE d (0x44 + 16 * k) 1 ≠ 0xFF))).map (fun k => fieldLE d (0x44 + 16 * k) 1 * s.get R.PIC_RING_BUF_MIB * 2 ^ 20),
    0, 0, fieldLE d 8 2, fieldLE d 0xA 2, fieldLE d 4 1, fieldLE d 0xE 1, decide (fieldLE d 0xF 1 = 1)⟩

/-- Source of a video layer; none where it has no picture. -/
def State.layerSrc (s : State) (n j : Nat) : Option LayerSrc :=
  let kind := s.inForce (R.LAYER_FMT_KIND n j)
  if kind ≤ 1 then
    let b := 64 * s.inForce (R.LAYER_BUF_OFF64 n j)
    let pitch := 64 * s.inForce (R.LAYER_PITCH_PITCH n j)
    let m := s.inForce (R.LAYER_FMT_MATRIX n j)
    some ⟨if kind = 0 then some (s.inForce (R.LAYER_FMT_REGION n j)) else none,
      (List.range 3).map (fun p => (p * s.inForce (R.LAYER_PITCH_P1_OFF n j) * 65536, pitch)), fun _ => some b, 0, 0,
      s.inForce (R.LAYER_SRC_XY_X n j) + s.inForce (R.LAYER_SRC_WH_W n j), s.inForce (R.LAYER_SRC_XY_Y n j) + s.inForce (R.LAYER_SRC_WH_H n j),
      s.inForce (R.LAYER_FMT_FORMAT n j), if m = 2 then 9 else m, decide (s.inForce (R.LAYER_FMT_RANGE n j) = 1)⟩
  else
    (s.layerPic n j).map (fun p =>
      let d := s.rodRead 11 p.addr 256
      if p.ring = 0 then s.ringSrc d
      else
        let r := p.ring - 1
        ⟨some (s.inForce (R.DEC_BUF_REGION r)), descPlanes d 0x20,
          fun _ => some ((s.inForce (R.DEC_BUF_BASE_MIB r) + fieldLE d 5 1 * s.inForce (R.DEC_BUF_BUF_MIB r)) * 2 ^ 20),
          fieldLE d 0xC 2, fieldLE d 0xE 2, fieldLE d 8 2, fieldLE d 0xA 2, fieldLE d 4 1, fieldLE d 0x12 1, decide (fieldLE d 0x13 1 = 1)⟩)

/-! ### Video samples as R'G'B' (spec/11 R285) -/

/-- Bits of a sample of a format (spec/07 R191). -/
def fmtBits (fmt : Nat) : Nat := if fmt = 4 ∨ fmt = 5 then 8 else 10

/-- Sample `i` of line `y` of plane `p`, in the buffer of column `x` (spec/07 R192). -/
def State.srcSample (s : State) (g : LayerSrc) (x p i y : Nat) : Nat :=
  let b := fmtBits g.fmt
  let l := g.planes.getD p (0, 0)
  match g.base x with
  | some a => s.srcNum g (a + l.1 + l.2 * y + b * i / 8) (if b = 8 then 1 else 2) / 2 ^ (b * i % 8) % 2 ^ b
  | none => 0

/-- Component `c` of the stored sample at a pixel of a format without vertical subsampling; in 4:2:2 the chroma of its pair. -/
def State.srcCode (s : State) (g : LayerSrc) (c x y : Nat) : Nat :=
  if c = 0 ∨ g.fmt = 2 ∨ g.fmt = 3 then s.srcSample g (x + g.x0) c (x + g.x0) (y + g.y0)
  else s.srcSample g (x + g.x0) 1 ((x + g.x0) / 2 * 2 + (c - 1)) (y + g.y0)

/-- The second or third component of a subsampled format at chroma sample `cx` of chroma line `cy` of the window. -/
def State.srcChroma (s : State) (g : LayerSrc) (c cx cy : Nat) : Frac :=
  let v := decide (g.fmt = 1 ∨ g.fmt = 5)
  let x := min (cx + g.x0 / 2) ((g.x0 + g.w - 1) / 2)
  let y := if v then min (cy + g.y0 / 2) ((g.y0 + g.h - 1) / 2) else min (cy + g.y0) (g.y0 + g.h - 1)
  .int (s.srcSample g (2 * x) 1 (2 * x + (c - 1)) y)

/-- Component `c` at a pixel of the window, in codes: chroma brought to 4:4:4 by linear interpolation. -/
def State.srcComp (s : State) (g : LayerSrc) (c x y : Nat) : Frac :=
  if c = 0 then .int (s.srcSample g (x + g.x0) 0 (x + g.x0) (y + g.y0))
  else if g.fmt = 2 ∨ g.fmt = 3 then .int (s.srcSample g (x + g.x0) c (x + g.x0) (y + g.y0))
  else
    let hor (cy : Nat) : Frac :=
      let a := s.srcChroma g c (x / 2) cy
      if x % 2 = 0 then a else (a.add (s.srcChroma g c (x / 2 + 1) cy)).mul (.over 1 2)
    if g.fmt = 1 ∨ g.fmt = 5 then
      let near_ := hor (y / 2)
      let far := hor (if y % 2 = 0 then y / 2 - 1 else y / 2 + 1)
      (((Frac.int 3).mul near_).add far).mul (.over 1 4)
    else hor y

/-- Kr and Kb of a MATRIX code of a picture (R285). -/
def codeWeights (m : Nat) : Frac × Frac :=
  if m = 5 ∨ m = 6 then (.over 299 1000, .over 114 1000) else lumaWeights m

/-- A 12-bit code of a component. -/
def code12 (k : Nat) (x : Frac) : Nat := intCode 12 (near k x)

/-- A pixel of the window as R'G'B' of 12 bits. -/
def State.srcRgb (s : State) (g : LayerSrc) (x y : Nat) : List Nat :=
  let b := fmtBits g.fmt
  let m : Nat := 2 ^ (b - 8)
  let luma (v : Frac) : Frac := if g.full then v.mul (.over 1 (2 ^ b - 1)) else (v.sub (.int (16 * m))).mul (.over 1 (219 * m))
  let chroma (v : Frac) : Frac :=
    if g.full then nearTol 50 (.over 1 (4 * (2 ^ b - 1))) (((v.sub (.over (2 ^ (b + 1) - 1 : Nat) 4))).mul (.over 1 (2 ^ b - 1)))
    else (v.sub (.int (128 * m))).mul (.over 1 (224 * m))
  let c (i : Nat) := s.srcComp g i x y
  if g.matrix = 0 then (List.range 3).map (fun i => code12 51 (luma (c i)))
  else
    let k := codeWeights g.matrix
    let yy := luma (c 0)
    let r := yy.add (((Frac.int 2).mul ((Frac.int 1).sub k.1)).mul (chroma (c 2)))
    let bl := yy.add (((Frac.int 2).mul ((Frac.int 1).sub k.2)).mul (chroma (c 1)))
    let gr := ((yy.sub (k.1.mul r)).sub (k.2.mul bl)).div (((Frac.int 1).sub k.1).sub k.2)
    [r, gr, bl].map (code12 51)

/-! ### Scalers (R287, R288) -/

/-- LBUF_LEN of a video layer (R288). -/
def State.lbuf (s : State) (n j : Nat) : Nat := s.strg.limit 0x0020 11 (if n = 8 then 32 + j else 4 * n + j) 0

/-- T, source columns in use, whether T was reduced, whether the layer is cropped. -/
def sclMode (l srcW srcH dstH : Nat) : Nat × Nat × Bool × Bool :=
  let cap (t : Nat) := 8 * (l / t)
  if srcH = dstH then (1, min srcW (cap 1), false, decide (cap 1 < srcW))
  else
    match [8, 6, 4, 2].find? (fun t => decide (srcW ≤ cap t)) with
    | some t => (t, srcW, decide (t < 8), false)
    | none => (2, cap 2, true, true)

/-- Source position of destination pixel `i`, in 64ths of a pixel. -/
def sclPos (src dst i : Nat) : Int :=
  (nearTol 52 (.over 1 2) (((Frac.over ((2 * i + 1) * src : Nat) (2 * dst)).sub (.over 1 2)).mul (.int 64))).floor

/-- The taps of destination pixel `i` with their coefficients: source pixels inside `len` (R287). -/
def sclTaps (src dst len t i : Nat) : List (Nat × Frac) :=
  let p := sclPos src dst i
  (List.range t).map (fun (k : Nat) =>
    ((max 0 (min ((len : Int) - 1) (p / 64 - (t / 2 : Nat) + 1 + (k : Int)))).toNat, Config.scalerCoef (src, dst) t (p % 64).toNat k))

/-- The pixel that a video layer draws at a place of its destination: none where it does not cover it. -/
def State.videoPixel (s : State) (n j : Nat) (g : LayerSrc) (i k : Nat) : Option (List Nat) :=
  let sx := s.inForce (R.LAYER_SRC_XY_X n j)
  let sy := s.inForce (R.LAYER_SRC_XY_Y n j)
  let sw := s.inForce (R.LAYER_SRC_WH_W n j)
  let sh := s.inForce (R.LAYER_SRC_WH_H n j)
  let dw := max 1 (s.inForce (R.LAYER_DST_WH_W n j))
  let dh := max 1 (s.inForce (R.LAYER_DST_WH_H n j))
  let m := sclMode (s.lbuf n j) sw sh dh
  let wide := if m.2.2.2 then dw * m.2.1 / max 1 sw else dw
  let x := sx + (max 0 ((sclPos sw dw i + 32) / 64)).toNat
  let y := sy + (max 0 ((sclPos sh dh k + 32) / 64)).toNat
  if wide ≤ i ∨ dh ≤ k ∨ g.w ≤ x ∨ g.h ≤ y then none
  else
    let xs := sclTaps sw dw (min m.2.1 (g.w - sx)) 8 i
    let ys := if m.1 = 1 then [(min k (g.h - sy - 1), Frac.int 1)] else sclTaps sh dh (min sh (g.h - sy)) m.1 k
    some ((List.range 3).map (fun c => code12 53 (nearSum 54 (ys.flatMap (fun b => xs.map (fun a =>
      (a.2.mul b.2).mul (.over ((s.srcRgb g (sx + a.1) (sy + b.1)).getD c 0) 4095)))))))

/-! ### Graphic layers (R285) -/

/-- An 8-bit code as one of 10 bits. -/
def code10 (c : Nat) : Nat := 4 * c + c / 64

/-- A pixel of a graphic layer: alpha on the 0 to 255 scale, R'G'B' of 12 bits. -/
def State.graphicPixel (s : State) (n j i k : Nat) : Option (Nat × List Nat) :=
  if s.inForce (R.LAYER_SRC_WH_W n j) ≤ i ∨ s.inForce (R.LAYER_SRC_WH_H n j) ≤ k then none
  else
    let g : LayerSrc := ⟨if s.inForce (R.LAYER_FMT_KIND n j) = 0 then some (s.inForce (R.LAYER_FMT_REGION n j)) else none,
      [], fun _ => none, 0, 0, 0, 0, 0, 0, true⟩
    let v := s.srcNum g (64 * s.inForce (R.LAYER_BUF_OFF64 n j) + 64 * s.inForce (R.LAYER_PITCH_PITCH n j) * (s.inForce (R.LAYER_SRC_XY_Y n j) + k) +
      4 * (s.inForce (R.LAYER_SRC_XY_X n j) + i)) 4
    let to12 (c : Nat) : Nat := intCode 12 (.over c 1023)
    if s.inForce (R.LAYER_FMT_FORMAT n j) = 1 then
      some (bits v 30 2 * 85, [to12 (bits v 20 10), to12 (bits v 10 10), to12 (bits v 0 10)])
    else some (bits v 24 8, [to12 (code10 (bits v 16 8)), to12 (code10 (bits v 8 8)), to12 (code10 (bits v 0 8))])

/-! ### Blending (R286) -/

/-- What layer `j` shows at a place of the raster: alpha, R'G'B'. -/
def State.layerPixel (s : State) (n j x y : Nat) : Option (Nat × List Nat) :=
  let dx := s.inForce (R.LAYER_DST_XY_X n j)
  let dy := s.inForce (R.LAYER_DST_XY_Y n j)
  if x < dx ∨ y < dy then none
  else if j < 4 then (s.layerSrc n j).bind (fun g => (s.videoPixel n j g (x - dx) (y - dy)).map (fun c => (255, c)))
  else s.graphicPixel n j (x - dx) (y - dy)

/-- A layer blended over what lies below. -/
def State.blend (s : State) (n j : Nat) (p : Nat × List Nat) (c : List Nat) : List Nat :=
  let ga := s.inForce (R.LAYER_CTL_GALPHA n j)
  let a := Frac.over (p.1 * ga) (255 * 255)
  let k := if s.inForce (R.LAYER_FMT_PREMULT n j) = 1 then Frac.over ga 255 else a
  (List.range 3).map (fun i => intCode 12 (near 55 ((k.mul (.over (p.2.getD i 0) 4095)).add
    (((Frac.int 1).sub a).mul (.over (c.getD i 0) 4095)))))

/-- R'G'B' of 12 bits in the output space, three codes of 10 bits. -/
def State.outSpace (s : State) (n : Nat) (c : List Nat) : List Nat :=
  let full := decide (s.inForce (R.CMP_CFG_RANGE n) = 1)
  let v := c.map (fun x => Frac.over x 4095)
  let m := s.inForce (R.CMP_CFG_MATRIX n)
  if m = 0 then v.map (lumaCode 10 full)
  else
    let k := lumaWeights (if m = 2 then 9 else 1)
    let r := v.getD 0 (.int 0)
    let g := v.getD 1 (.int 0)
    let b := v.getD 2 (.int 0)
    let y := near 56 (Frac.sum [k.1.mul r, (((Frac.int 1).sub k.1).sub k.2).mul g, k.2.mul b])
    let ch (x kx : Frac) : Frac := near 57 ((x.sub y).div ((Frac.int 2).mul ((Frac.int 1).sub kx)))
    [lumaCode 10 full y, chromaCode 10 full (ch b k.2), chromaCode 10 full (ch r k.1)]

/-- The background colour, 12 bits. -/
def State.background (s : State) (n : Nat) : List Nat :=
  let v := s.inForce (R.CMP_BG_RGB n)
  [bits v 20 10, bits v 10 10, bits v 0 10].map (fun c => intCode 12 (.over c 1023))

/-- The enabled layers from the lowest Z upwards. -/
def State.layersUp (s : State) (n : Nat) : List Nat :=
  (List.range 12).flatMap (fun z => (List.range 12).filter (fun j =>
    decide (s.inForce (R.LAYER_CTL_EN n j) = 1 ∧ s.inForce (R.LAYER_CTL_Z n j) = z)))

/-- The guarded region whose fallback stands at a place. -/
def State.fallbackAt (s : State) (n x y : Nat) : Option Nat :=
  (List.range 16).find? (fun g => decide (s.inForce (R.GRD_XY_EN n g) = 1) && s.on (R.GRD_GSTAT_ACTIVE n g) &&
    decide (s.inForce (R.GRD_XY_X n g) ≤ x ∧ x < s.inForce (R.GRD_XY_X n g) + s.inForce (R.GRD_WH_W n g) ∧
      s.inForce (R.GRD_XY_Y n g) ≤ y ∧ y < s.inForce (R.GRD_XY_Y n g) + s.inForce (R.GRD_WH_H n g)))

/-- Three codes of a fallback word (R293). -/
def State.fallbackPixel (s : State) (n g x y : Nat) : List Nat :=
  let w := s.inForce (R.GRD_WH_W n g)
  let v := fieldLE (s.rodRead 11 (64 * s.inForce (R.GRD_FB_WORD n g) + (y - s.inForce (R.GRD_XY_Y n g)) * roundUp (4 * w) 64 +
    4 * (x - s.inForce (R.GRD_XY_X n g))) 4) 0 4
  [bits v 20 10, bits v 10 10, bits v 0 10]

/-- The pixel that a composer gives a place of its raster, in the output space. -/
def State.composed (s : State) (n x y : Nat) : List Nat :=
  match s.fallbackAt n x y with
  | some g => if s.on (R.GRD_GSTAT_FB_BAD n g) then s.outSpace n (s.background n) else s.fallbackPixel n g x y
  | none =>
    s.outSpace n ((s.layersUp n).foldl (fun c j => match s.layerPixel n j x y with
      | some p => s.blend n j p c
      | none => c) (s.background n))

/-! ### The Tray reads of a composed line (spec/01 R22, R24; log 209) -/

/-- The Tray spans that layer `j` reads for a line of the raster: lines of a graphic layer of KIND 1, or the plane lines that the
vertical taps of a video layer of KIND 1 need, with the chroma lines between which it interpolates. -/
def State.layerSpans (s : State) (n j y : Nat) : List (Nat × Nat) :=
  let k := y - s.inForce (R.LAYER_DST_XY_Y n j)
  let x := s.inForce (R.LAYER_SRC_XY_X n j)
  let sy := s.inForce (R.LAYER_SRC_XY_Y n j)
  let w := s.inForce (R.LAYER_SRC_WH_W n j)
  let h := s.inForce (R.LAYER_SRC_WH_H n j)
  let base := 64 * s.inForce (R.LAYER_BUF_OFF64 n j)
  let pitch := 64 * s.inForce (R.LAYER_PITCH_PITCH n j)
  if s.inForce (R.LAYER_CTL_EN n j) = 0 ∨ s.inForce (R.LAYER_FMT_KIND n j) ≠ 1 ∨ y < s.inForce (R.LAYER_DST_XY_Y n j) then []
  else if 4 ≤ j then (if h ≤ k then [] else [((base + pitch * (sy + k) + 4 * x) % trayBytes, 4 * w)])
  else
    let dh := max 1 (s.inForce (R.LAYER_DST_WH_H n j))
    let m := sclMode (s.lbuf n j) w h dh
    let rows := if m.1 = 1 then [min k (h - 1)] else (sclTaps h dh h m.1 k).map (·.1)
    let fmt := s.inForce (R.LAYER_FMT_FORMAT n j)
    let lo := planesOf fmt x (sy + h)
    let hi := planesOf fmt (x + m.2.1) (sy + h)
    if dh ≤ k then []
    else (List.range hi.length).flatMap (fun p =>
      let lines := if 1 ≤ p ∧ (fmt = 1 ∨ fmt = 5) then rows.flatMap (fun r =>
          [(sy + r) / 2, min ((hi.getD p (0, 0)).2 - 1) (if (sy + r) % 2 = 0 then (sy + r) / 2 - 1 else (sy + r) / 2 + 1)])
        else rows.map (· + sy)
      let b0 := (lo.getD p (0, 0)).1
      lines.eraseDups.map (fun l => ((base + p * s.inForce (R.LAYER_PITCH_P1_OFF n j) * 65536 + pitch * l + b0) % trayBytes,
        (hi.getD p (0, 0)).1 - b0)))

/-- The Tray spans of the fallback pictures that stand in a line. -/
def State.fallbackSpans (s : State) (n y : Nat) : List (Nat × Nat) :=
  ((List.range 16).filter (fun g => decide (s.inForce (R.GRD_XY_EN n g) = 1) && s.on (R.GRD_GSTAT_ACTIVE n g) &&
      !s.on (R.GRD_GSTAT_FB_BAD n g) &&
      decide (s.inForce (R.GRD_XY_Y n g) ≤ y ∧ y < s.inForce (R.GRD_XY_Y n g) + s.inForce (R.GRD_WH_H n g)))).map (fun g =>
    (64 * s.inForce (R.GRD_FB_WORD n g) + (y - s.inForce (R.GRD_XY_Y n g)) * roundUp (4 * s.inForce (R.GRD_WH_W n g)) 64,
      4 * s.inForce (R.GRD_WH_W n g)))

/-- Composing a line: what its Tray reads record. -/
def State.composeUse (s : State) (n y : Nat) : State :=
  ((List.range 12).flatMap (fun j => s.layerSpans n j y) ++ s.fallbackSpans n y).foldl
    (fun (s : State) e => s.rodUse 11 e.1 e.2) s

/-! ### What a head sends (spec/12 R308, R309) -/

/-- The first pixel of a line that came too late. -/
def State.underAt (s : State) (n y : Nat) : Option Nat := (s.unders.find? (fun u => decide (u.1 = n ∧ u.2.1 = y))).map (·.2.2)

/-- The last pixel that a head took from its queue by the end of the lines before `y`. -/
def State.lastTaken (s : State) (n : Nat) : Nat → List Nat
  | 0 => (List.range 3).map (fun i => Config.lastPixel (3 * n + i) (s.get (I.HEAD_FS n)) % 1024)
  | y + 1 =>
    match s.underAt n y with
    | some 0 => s.lastTaken n y
    | some (c + 1) => s.composed n c y
    | none => s.composed n (s.inForce (R.TG_HACT_V n) - 1) y

/-- The pixel that a head sends at a place of its raster, after any underrun repetition. -/
def State.sent (s : State) (n x y : Nat) : List Nat :=
  match s.underAt n y with
  | some c => if x < c then s.composed n x y else match c with
    | 0 => s.lastTaken n y
    | c + 1 => s.composed n c y
  | none => s.composed n x y

/-- A code of 10 bits reduced to the depth of BPC. -/
def reduceBpc (b v : Nat) : Nat :=
  if b = 0 then min 63 ((v + 8) / 16) else if b = 1 then min 255 ((v + 2) / 4) else v

/-- Chroma component `c` at an even column of a line, filtered 1, 2, 1 ÷ 4; three times over 4. -/
def State.sentChroma (s : State) (n c x y : Nat) : Frac :=
  let w := s.inForce (R.TG_HACT_V n)
  let v (x : Nat) : Nat := (s.sent n (min x (w - 1)) y).getD c 0
  .over (v (x - 1) + 2 * v x + v (x + 1)) 4

/-- The samples of a line that a head sends: luma, or all three components in 4:4:4; chroma. In 4:2:0 the even line of a pair carries
the chroma of both. -/
def State.headSamples (s : State) (n y : Nat) : List Nat × List Nat :=
  let w := s.inForce (R.TG_HACT_V n)
  let b := s.inForce (R.TG_CTL_BPC n)
  let smp := s.inForce (R.TG_CTL_SAMPLING n)
  let red (x : Frac) : Nat := reduceBpc b (min 1023 x.round.toNat)
  let even := (List.range w).filter (fun x => decide (x % 2 = 0))
  if smp = 0 then ((List.range w).flatMap (fun x => (s.sent n x y).map (reduceBpc b)), [])
  else
    let luma := (List.range w).map (fun x => reduceBpc b ((s.sent n x y).getD 0 0))
    if smp = 1 then (luma, even.flatMap (fun x => [red (s.sentChroma n 1 x y), red (s.sentChroma n 2 x y)]))
    else if y % 2 = 0 then
      (luma, even.flatMap (fun x => [1, 2].map (fun c => red (((s.sentChroma n c x y).add (s.sentChroma n c x (y + 1))).mul (.over 1 2)))))
    else (luma, [])

/-- The value of a guarded region's check (spec/11 R291) over the pixels that `px` gives. -/
def State.guardCrc (s : State) (n g : Nat) (px : Nat → Nat → List Nat) : Nat :=
  crc32 ((List.range (s.inForce (R.GRD_WH_H n g))).flatMap (fun y => (List.range (s.inForce (R.GRD_WH_W n g))).flatMap (fun x =>
    (px (s.inForce (R.GRD_XY_X n g) + x) (s.inForce (R.GRD_XY_Y n g) + y)).flatMap (leBytes 2))))

/-! ### What WCMP writes (spec/11 R295) -/

/-- Size of the canvas. -/
def State.canvasW (s : State) : Nat := s.strg.limit 0x0031 11 0 0
def State.canvasH (s : State) : Nat := s.strg.limit 0x0032 11 0 0

/-- The plane lines of a canvas frame of `w` × `h`. -/
def State.canvasLines (s : State) (fmt w h : Nat) : List (List Byte) :=
  let bd := fmtBits fmt
  let g : Grid (List Nat) := gridOf h 0 w (fun x y => s.composed 8 x y)
  let px (x y : Nat) : List Nat := (g.getD (min y (h - 1)) #[]).getD (min x (w - 1)) []
  let depth (v : Nat) : Nat := if bd = 8 then reduceBpc 1 v else v
  let rnd (x : Frac)  : Nat := depth (min 1023 x.round.toNat)
  let plane (c : Nat) : List (List Byte) := (List.range h).map (fun y => packLine bd ((List.range w).map (fun x => depth ((px x y).getD c 0))))
  let co (c x y : Nat) : Frac := .over ((px (x - 1) y).getD c 0 + 2 * (px x y).getD c 0 + (px (x + 1) y).getD c 0) 4
  let even := (List.range w).filter (fun x => decide (x % 2 = 0))
  if fmt = 0 ∨ fmt = 4 then
    plane 0 ++ (List.range h).map (fun y => packLine bd (even.flatMap (fun x => [rnd (co 1 x y), rnd (co 2 x y)])))
  else if fmt = 1 ∨ fmt = 5 then
    plane 0 ++ (List.range (ceilDiv h 2)).map (fun j => packLine bd (even.flatMap (fun x => [1, 2].map (fun c =>
      rnd (((co c x (2 * j)).add (co c x (2 * j + 1))).mul (.over 1 2))))))
  else plane 0 ++ plane 1 ++ plane 2

end Sys2Proof.Machine
end

