-- ==== Sys2Proof/Machine/Enc.lean ====
section
/-!
DEFINITION. The encoders' scheduler (spec/09 R233 to R246): stream descriptors and their commit, due pictures, the choice of
an encoder, the release of pictures.
-/

namespace Sys2Proof.Machine

/-! ### Clocks and frame rates -/

/-- The CK_CORE divider of a rod: the strung one, or 2 while throttle step 1 is in force on it (spec/01 R27, spec/19
R465). -/
def State.ckDiv (s : State) (rod : Nat) : Nat :=
  let strung := match s.strg.rodSec rod with | some r => max 1 r.ckDiv | none => 1
  if 1 ≤ s.get R.THM_STAT_STEP ∧ bit (s.get R.THM_BULK_MASK) rod then 2 else strung

/-- Time of CK_CORE cycles on a rod, in Tally units: CK_CORE runs at 1.2 GHz (spec/01 R26). -/
def State.coreTime (s : State) (rod cycles : Nat) : Time := cycles * s.ckDiv rod * tNs * 5 / 6

/-- Mean distance of the last frame starts of a port. -/
def State.measuredPeriod (s : State) (p : Nat) : Nat :=
  let l := ((s.frames.filter (fun f => decide (f.port = p))).map (·.fsTime)).take 9
  match l.head?, l.getLast? with
  | some a, some b => if l.length < 2 then 0 else (a - b) / (l.length - 1)
  | _, _ => 0

/-- The frame period of the source (notes/assumptions/20.md): its schedule's, else the measured one, else the limit of the
stringing. -/
def State.sourcePeriod (s : State) : Nat :=
  match s.strg.source with
  | some p =>
    let q := if p = 2 then 0 else p
    if s.get (R.EXS_CTL_MODE q) = 1 then
      1000000000 * (if s.inForce (R.EXS_RATE_DEN q) = 0 then 1000 else 1001) * tNs / max 1 (s.inForce (R.EXS_RATE_NUM q))
    else
      let m := s.measuredPeriod p
      if m = 0 then s.strg.limit 0x0003 1 q 4166666 * tNs else m
  | none => 4166666 * tNs

/-- The frame period of a head (spec/12 R303): HTOTAL × VTOTAL × d ÷ (4 × NUM) s. -/
def State.headPeriod (s : State) (h : Nat) : Nat :=
  s.inForce (R.TG_HTOTAL_V h) * s.inForce (R.TG_VTOTAL_V h) * (if s.inForce (R.TG_PCLK_DEN h) = 0 then 1000 else 1001) *
    (tSec / 1000) / max 1 (4 * s.inForce (R.TG_PCLK_NUM h))

/-! ### Stream descriptors (R237 to R239) -/

/-- A stream descriptor. -/
structure Desc where
  b : List Byte

/-- The fields of R238. -/
def Desc.u (d : Desc) (a n : Nat) : Nat := fieldLE d.b a n
def Desc.kind (d : Desc) : Nat := d.u 0x00 1
def Desc.fmt (d : Desc) : Nat := d.u 0x02 1
def Desc.src (d : Desc) : Nat := d.u 0x03 1
def Desc.w (d : Desc) : Nat := d.u 0x04 2
def Desc.h (d : Desc) : Nat := d.u 0x06 2
def Desc.x (d : Desc) : Nat := d.u 0x08 2
def Desc.y (d : Desc) : Nat := d.u 0x0A 2
def Desc.pool (d : Desc) : Nat := d.u 0x0C 1
def Desc.nref (d : Desc) : Nat := d.u 0x0D 1
def Desc.rateDiv (d : Desc) : Nat := d.u 0x0E 1
def Desc.level (d : Desc) : Nat := d.u 0x0F 1
def Desc.flags (d : Desc) : Nat := d.u 0x10 1
def Desc.rcMode (d : Desc) : Nat := d.u 0x11 1
def Desc.gdrN (d : Desc) : Nat := d.u 0x12 1
def Desc.slack (d : Desc) : Nat := d.u 0x13 1
def Desc.bitrate (d : Desc) : Nat := d.u 0x14 4
def Desc.cap (d : Desc) : Nat := d.u 0x18 4
def Desc.cpb (d : Desc) : Nat := d.u 0x1C 4
def Desc.deadline (d : Desc) : Nat := d.u 0x26 2
def Desc.sliceRows (d : Desc) : Nat := d.u 0x28 1
def Desc.out (d : Desc) : Nat := d.u 0x29 1
def Desc.vecS (d : Desc) : Nat := d.u 0x2C 4
def Desc.toRing (d : Desc) : Bool := bit d.out 7
def Desc.profile (d : Desc) : Nat := d.u 0x01 1
def Desc.highTier (d : Desc) : Bool := bit d.flags 0
def Desc.psRepeat (d : Desc) : Bool := bit d.flags 1
def Desc.hrd (d : Desc) : Bool := bit d.flags 2
def Desc.hash (d : Desc) : Bool := bit d.flags 3
def Desc.eos (d : Desc) : Bool := bit d.flags 4
def Desc.qpI (d : Desc) : Nat := d.u 0x20 1
def Desc.qpP (d : Desc) : Nat := d.u 0x21 1
def Desc.qpMin (d : Desc) : Nat := d.u 0x22 1
def Desc.qpMax (d : Desc) : Nat := d.u 0x23 1
def Desc.qpCeil (d : Desc) : Nat := d.u 0x24 1
def Desc.skipBias (d : Desc) : Nat := d.u 0x25 1
def Desc.vecOx (d : Desc) : Int := signed 32 (d.u 0x30 4)
def Desc.vecOy (d : Desc) : Int := signed 32 (d.u 0x34 4)
def Desc.dpbBase (d : Desc) : Nat := d.u 0x38 8
def Desc.dpbRegion (d : Desc) : Nat := d.u 0x40 1

/-- Bytes of a reference picture's buffer (rule 0x57). -/
def Desc.bufBytes (d : Desc) : Nat := roundUp (pictureBytes d.fmt d.w d.h) 65536

/-- Luma columns and lines of a chroma sample: 4:2:0, 4:2:2, 4:4:4 (R235). -/
def Desc.subX (d : Desc) : Nat := if d.fmt = 2 ∨ d.fmt = 3 then 1 else 2
def Desc.subY (d : Desc) : Nat := if d.fmt = 1 ∨ d.fmt = 5 then 2 else 1

/-- Bits of a coded sample: an 8-bit source may be coded in Main 10 (R235). -/
def Desc.depth (d : Desc) : Nat := if (d.fmt = 5 ∧ d.profile = 1) ∨ d.fmt = 4 then 8 else 10

/-- CTUs of a row, rows of CTUs. -/
def Desc.wc (d : Desc) : Nat := ceilDiv d.w 64
def Desc.hc (d : Desc) : Nat := ceilDiv d.h 64

/-- Slices of a picture (R234). -/
def Desc.slices (d : Desc) : Nat := if d.sliceRows = 0 then 1 else ceilDiv d.hc d.sliceRows

/-- A COD rod that may read the stream table: the first that is strung and not isolated. -/
def State.tableRod (s : State) : Nat := if s.isolated 8 || !s.strg.powered 8 then 9 else 8

/-- Tray addresses of a stream's entries (R237). -/
def State.stagedAt (s : State) (r n : Nat) : Nat := s.inForce (R.SCHED_TABLE_STAGED_GRAN r) * granBytes + 128 * n
def State.forceAt (s : State) (r n : Nat) : Nat := s.inForce (R.SCHED_TABLE_FORCE_GRAN r) * granBytes + 128 * n
def State.statusAt (s : State) (r n : Nat) : Nat := s.inForce (R.SCHED_TABLE_FORCE_GRAN r) * granBytes + 327680 + 64 * n

/-- A stream's descriptor in force. -/
def State.desc (s : State) (n : Nat) : Desc := ⟨s.trayRead (s.forceAt (s.tableRod - 8) n) 128⟩

/-- Entry `n` of the region table in force (spec/11 R297): X, Y, W, H in units of 64, FLAGS. -/
def State.wallRegion (s : State) (n : Nat) : Nat × Nat × Nat × Nat × Nat :=
  let b := s.trayRead (s.inForce R.SLC_TABLE_GRAN * granBytes + 16384 + 8 * n) 8
  (fieldLE b 0 2, fieldLE b 2 2, fieldLE b 4 1, fieldLE b 5 1, fieldLE b 6 1)

/-- Number of wall regions. -/
def State.wallRegions (s : State) : Nat := s.strg.limit 0x0030 11 0 0

/-- MaxLumaPs and MaxLumaSr of the levels of the standard (notes/assumptions/21.md). -/
def hevcLevels : List (Nat × Nat × Nat) :=
  [(30, 36864, 552960), (60, 122880, 3686400), (63, 245760, 7372800), (90, 552960, 16588800), (93, 983040, 33177600),
   (120, 2228224, 66846720), (123, 2228224, 133693440), (150, 8912896, 267386880), (153, 8912896, 534773760),
   (156, 8912896, 1069547520), (180, 35651584, 1069547520), (183, 35651584, 2139095040), (186, 35651584, 4278190080)]

/-- Rule 0x51: PROFILE against FORMAT (R235). -/
def profileOk (prof fmt : Nat) : Bool :=
  if fmt = 5 then decide (prof = 1 ∨ prof = 2)
  else if fmt = 1 then decide (prof = 2)
  else decide ((fmt = 4 ∨ fmt = 0 ∨ fmt = 2 ∨ fmt = 3) ∧ prof = 4)

/-- The frame period of a descriptor's source. -/
def State.descPeriod (s : State) (d : Desc) : Nat := if d.kind = 3 then s.headPeriod d.src else s.sourcePeriod

/-- Rule 0x52. -/
def State.levelOk (s : State) (d : Desc) : Bool :=
  match hevcLevels.find? (fun l => decide (l.1 = d.level)) with
  | some (lv, ps, sr) =>
    decide (d.w * d.h ≤ ps ∧ d.w * d.w ≤ 8 * ps ∧ d.h * d.h ≤ 8 * ps ∧
      d.w * d.h * tSec ≤ sr * d.rateDiv * s.descPeriod d) &&
    (!bit d.flags 0 || decide (120 ≤ lv)) &&
    (decide (d.kind ≠ 2) || (match s.pics.head?.bind (fun p => s.frame p.tag) with
      | some f => decide (d.x + d.w ≤ f.width ∧ d.y + d.h ≤ f.lines)
      | none =>
        let z := match s.strg.source with
          | some 2 => (2 * s.inForce (R.LINK_CTL_WIDTH 0), s.inForce (R.FRM_CFG_LINES 0))
          | some p => (s.inForce (R.LINK_CTL_WIDTH p), s.inForce (R.FRM_CFG_LINES p))
          | none => (0, 0)
        decide (d.x + d.w ≤ z.1 ∧ d.y + d.h ≤ z.2)))
  | none => false

/-- Rule 0x58: every field in range and every reserved byte 0. -/
def Desc.fieldsOk (d : Desc) : Bool :=
  decide (d.kind ≤ 3 ∧ (d.kind = 3 → d.src ≤ 7) ∧ (d.kind ≠ 3 → d.src = 0) ∧
    128 ≤ d.w ∧ d.w ≤ 8192 ∧ d.w % 8 = 0 ∧ 128 ≤ d.h ∧ d.h ≤ 4320 ∧ d.h % 8 = 0 ∧
    d.x % 2 = 0 ∧ d.y % 2 = 0 ∧ (d.kind ≠ 2 → d.x = 0 ∧ d.y = 0) ∧
    1 ≤ d.nref ∧ d.nref ≤ 4 ∧ 1 ≤ d.rateDiv ∧ d.rateDiv ≤ 4 ∧ 30 ≤ d.level ∧ d.level ≤ 186 ∧ d.flags < 32 ∧
    d.rcMode ≤ 2 ∧ 8 ≤ d.gdrN ∧ d.gdrN ≤ 64 ∧ d.slack ≤ 7) &&
  decide ((d.rcMode = 0 → d.bitrate = 0 ∧ d.cpb = 0) ∧ 100 ≤ d.deadline ∧ d.sliceRows ≤ 68 ∧ d.out / 4 % 32 = 0 ∧
    d.u 0x38 8 % 65536 = 0 ∧ d.u 0x50 4 % 4096 = 0) &&
  (List.range 5).all (fun i => decide (d.u (0x20 + i) 1 ≤ 51)) &&
  decide (d.u 0x2A 2 = 0 ∧ d.u 0x42 2 = 0 ∧ d.u 0x54 44 = 0)

/-- The rules of R239 for stream `n`, in order. They hold for an unused entry (KIND 0) as for another. -/
def State.descRules (s : State) (n : Nat) (d : Desc) : List (Nat × Bool) :=
    let g := s.wallRegion n
    let pb := d.bufBytes
    let qi := d.qpI
    let qp := d.qpP
    let lo := d.qpMin
    let hi := d.qpMax
    [(0x50, decide (d.kind ≠ 1 ∨ (n < s.wallRegions ∧ d.w = 64 * g.2.2.1 ∧ d.h = 64 * g.2.2.2.1))),
     (0x51, profileOk d.profile d.fmt),
     (0x52, s.levelOk d),
     (0x53, decide (d.pool ≠ 0) && (List.range 8).all (fun e => !bit d.pool e || s.strg.strungBead (8 + e / 4) (e % 4))),
     (0x54, decide (lo ≤ qi ∧ qi ≤ hi ∧ lo ≤ qp ∧ qp ≤ hi ∧ hi ≤ d.qpCeil)),
     (0x55, decide (512 + 32 * d.slices + 12 * (d.wc * d.hc) ≤ d.cap)),
     (0x56, decide (d.rcMode = 0 ∨ (0 < d.bitrate ∧ d.cap ≤ d.cpb))),
     (0x57, decide ((d.nref + 1) * pb ≤ d.u 0x44 4 ∧ d.dpbBase + d.u 0x44 4 ≤ s.strg.regionSize d.dpbRegion) &&
        (!d.toRing || decide (d.u 0x48 8 + d.u 0x50 4 ≤ s.strg.regionSize (d.u 0x41 1)))),
     (0x58, d.fieldsOk)]

/-! ### Streams -/

/-- A stream's record. -/
def State.strm (s : State) (n : Nat) : Option Strm := s.strms.find? (fun x => decide (x.num = n))

/-- Change a stream's record. -/
def State.modStrm (s : State) (n : Nat) (g : Strm → Strm) : State :=
  { s with strms := s.strms.map (fun x => if x.num = n then g x else x) }

/-- A stream has a record. -/
def State.withStrm (s : State) (n : Nat) : State :=
  if (s.strm n).isSome then s else { s with strms := s.strms ++ [({ num := n } : Strm)] }

/-- Write a stream's status entry (R241). -/
def State.putStatus (s : State) (rod n : Nat) : State :=
  match s.strm n with
  | some x => s.trayPut rod (s.statusAt (rod - 8) n)
      (leBytes 4 x.lastTag ++ leBytes 4 x.codedTag ++ leBytes 4 x.poc ++ leBytes 1 (ofBool x.run) ++ leBytes 1 x.j ++
       leBytes 2 x.todo.length ++ leBytes 4 x.cpb ++ leBytes 4 x.lastBytes ++ leBytes 4 x.repCnt ++ leBytes 4 x.exhCnt ++
       leBytes 1 x.enc ++ zeros 31)
  | none => s

/-- A descriptor change that needs an IDR (R236). -/
def descIdr (a b : Desc) : Bool :=
  decide (a.w ≠ b.w ∨ a.h ≠ b.h ∨ a.profile ≠ b.profile ∨ a.fmt ≠ b.fmt ∨ a.level ≠ b.level ∨ a.nref ≠ b.nref ∨
    a.highTier ≠ b.highTier)

/-- Commit stream `n`'s staged descriptor on a rod (R239). -/
def State.commitDesc (s : State) (rod n : Nat) : State :=
  let r := rod - 8
  let new : Desc := ⟨s.trayRead (s.stagedAt r n) 128⟩
  let old := s.desc n
  let s1 := s.modStrm n (fun x => { x with commit := none })
  match (s.descRules n new).find? (fun q => !q.2) with
  | some q =>
    let s2 := if s1.on (R.SCHED_BAD_BAD r) then s1
      else ((s1.set (R.SCHED_BAD_BAD r) 1).set (R.SCHED_BAD_RULE r) q.1).set (R.SCHED_BAD_STREAM r) n
    s2.raise (E.strmBad r)
  | none =>
    (s1.trayPut rod (s1.forceAt r n) new.b).modStrm n (fun x => { x with
      idr := x.idr || descIdr old new, cnt := if old.rateDiv = new.rateDiv then x.cnt else 0 })

/-! ### Readiness (R242) -/

/-- The vector set of a tag, COMPLETE in the vector ring (spec/06 R165, R166): its Tray address. -/
def State.vecSet (s : State) (tag : Nat) : Option Nat :=
  let w := match s.frame tag with | some f => (f.width, f.lines) | none => (0, 0)
  let gr := ceilDiv (64 + 4 * (ceilDiv w.1 32 * ceilDiv w.2 32)) granBytes
  ((List.range (s.inForce R.VST_RING_DEPTH)).map (fun i => (s.inForce R.VST_RING_GRAN + i * gr) * granBytes)).find?
    (fun a => let h := s.trayRead a 12; decide (fieldLE h 0 4 = tag) && bit (fieldLE h 10 2) 0)

/-- The stripe entries of a picture that a descriptor's rectangle meets. -/
def State.rectStripes (s : State) (d : Desc) (tag : Nat) : List Nat :=
  match s.frame tag with
  | some f => (List.range s.stripes).filter (fun k =>
      let sp := stripeSpan f.width s.stripes k
      decide (sp.1 < d.x + d.w ∧ d.x < sp.1 + sp.2))
  | none => []

/-- The source of a due picture is ready. -/
def State.srcReady (s : State) (d : Desc) (u : Due) : Bool :=
  if d.kind = 2 then
    (s.rectStripes d u.tag).all (fun k => match s.entryState u.tag k with | some st => decide (st ≠ 0) | none => false)
  else u.src

/-- The rectangle meets a stripe whose entry names no picture (spec/07 R197). -/
def State.srcHole (s : State) (d : Desc) (u : Due) : Bool :=
  decide (d.kind = 2) && (s.rectStripes d u.tag).any (fun k => match s.pic u.tag with
    | some ⟨_, some slot, _⟩ =>
      let e := s.trayRead (s.descAddr slot + 0x40 + 16 * k) 16
      decide (fieldLE e 5 1 = 2 ∧ fieldLE e 4 1 = 0xFF)
    | _ => false)

/-- A due picture is ready on a rod. -/
def State.dueReady (s : State) (d : Desc) (rod : Nat) (u : Due) : Bool :=
  s.srcReady d u && (decide (d.vecS = 0) || (s.vecSet u.tag).isSome || bit u.vecTo (rod - 8))

/-- Note what has become ready, or a repeat for want of a stripe. -/
def State.dueMark (s : State) : State :=
  { s with strms := s.strms.map (fun x =>
      let d := s.desc x.num
      { x with dues := x.dues.map (fun u =>
          if u.rep.isSome then u
          else if s.srcHole d u then { u with rep := some s.now }
          else { u with ready := u.ready ++ ([8, 9].filter (fun r =>
              !(u.ready.any (fun e => decide (e.1 = r))) && s.dueReady d r u)).map (fun r => (r, s.now)) }) }) }

/-! ### Encoders -/

/-- An encoder is running: strung, in use, its rod not isolated (R245). -/
def State.encRuns (s : State) (e : Nat) : Bool :=
  let r := e / 4
  s.strg.strungBead (8 + r) (e % 4) && decide (s.inForce (R.ENC_CFG_EN r (e % 4)) ≠ 0) && !s.isolated (8 + r)

/-- A running encoder without a picture. -/
def State.encFree (s : State) (e : Nat) : Bool := s.encRuns e && decide (s.get (R.ENC_STAT_STATE (e / 4) (e % 4)) = 0)

/-- Deadline of a due picture on a rod; none where it may not be taken there. -/
def dueD (d : Desc) (rod : Nat) (u : Due) : Option Time :=
  match u.rep with
  | some t => some (match u.ready.find? (fun e => decide (e.1 = rod)) with | some e => e.2 + d.deadline * tUs | none => t)
  | none => (u.ready.find? (fun e => decide (e.1 = rod))).map (fun e => e.2 + d.deadline * tUs)

/-- A candidate before another (R244): earliest D, then oldest CODED_TAG, then lowest stream. -/
def rankBefore (a b : Strm × Due × Time) : Bool :=
  if a.2.2 ≠ b.2.2 then decide (a.2.2 < b.2.2)
  else if a.1.codedTag ≠ b.1.codedTag then tagLater b.1.codedTag a.1.codedTag
  else decide (a.1.num < b.1.num)

/-- The picture that an encoder takes. -/
def State.encPick (s : State) (e : Nat) : Option (Strm × Due × Time) :=
  (s.strms.filterMap (fun x =>
    let d := s.desc x.num
    if x.run && x.busy.isNone && bit d.pool e then
      match x.dues with
      | u :: _ => if s.draining (8 + e / 4) u.tag then none else (dueD d (8 + e / 4) u).map (fun t => (x, u, t))
      | [] => none
    else none)).foldl (fun best c => match best with
      | some b => if rankBefore c b then some c else some b
      | none => some c) none

/-- Cost of a picture in CK_CORE cycles (R233). -/
def Desc.cost (d : Desc) : Nat := d.wc * d.hc * 2234 + 4000 + d.hc * 1500

/-- Bits 31:16 and 11:0 of the job of a picture (R261). -/
def encJobOf (num : Nat) (j : EncJob) : Job := ⟨8 + j.enc / 4, j.enc % 4, 6, num + j.poc % 65536 * 65536, j.tag⟩

/-- Commit rules of a COD rod's SCHED domain (rules 0x5B, 0x5C). -/
def schedRules (rod : Nat) (s : State) (ask : Fld → Nat) (_d : Nat) : List (Nat × Bool) :=
  let r := rod - 8
  let o := 1 - r
  let stg := ask (R.SCHED_TABLE_STAGED_GRAN r)
  let frc := ask (R.SCHED_TABLE_FORCE_GRAN r)
  let g (first n : Nat) (p : TrayRec → Bool) : Bool := (List.range n).all (fun i =>
    match s.strg.granule (first + i) with | some t => p t | none => false)
  let cods := [8, 9]
  [(0x5B, !(s.strg.powered 8 && s.strg.powered 9) ||
      decide (stg = s.inForce (R.SCHED_TABLE_STAGED_GRAN o) ∧ frc = s.inForce (R.SCHED_TABLE_FORCE_GRAN o))),
   (0x5C, g stg 5 (fun t => bit t.write 0 && cods.all (fun c => bit t.read c)) &&
      g frc 8 (fun t => bit t.read 0 && cods.all (fun c => bit t.write c)))]

/-- An encoder starts the picture it takes (R239, R243, R252). A picture that is to be an IDR is one as a repeat too. VEC_TO that has
passed leaves an empty set (R242). -/
def State.encStart (s : State) (e : Nat) (c : Strm × Due × Time) : State :=
  let rod := 8 + e / 4
  let r := e / 4
  let k := e % 4
  let n := c.1.num
  let s1 := (s.commitAt rod k (fun _ _ _ => [])).commitAt rod 5 (schedRules rod)
  if s1.inForce (R.ENC_CFG_EN r k) = 0 then s1 else
  let s2 := if c.1.commit.isSome then s1.commitDesc rod n else s1
  let d := s2.desc n
  let late := c.2.1.rep.isNone && decide (c.2.2 < s2.now + s2.coreTime rod d.cost)
  let rep := c.2.1.rep.isSome || late
  match s2.strm n with
  | none => s2
  | some x =>
    let idr := x.idr
    let j := if idr || x.sweepEnd then 0 else x.j + 1
    let expired := bit c.2.1.vecTo r
    let seeds := if rep || decide (d.vecS = 0) || expired then none else s2.vecSet c.2.1.tag
    let job : EncJob := ⟨e, c.2.1.tag, rep, idr, if idr then 0 else x.poc + 1, j, seeds⟩
    let s3 := (s2.modStrm n (fun x => { x with dues := x.dues.drop 1, busy := some job, idr := false })).beginJob (encJobOf n job)
    let s4 := s3.sets [(R.ENC_STAT_STATE r k, if rep then 2 else 1), (R.ENC_STAT_STREAM r k, n),
      (R.ENC_STAT_EFFORT r k, ofBool (decide (2 ≤ s3.get R.THM_STAT_STEP)))]
    let s5 := if rep then ((s4.set (R.ENC_EVT_LATE r k) 1).inc (R.ENC_EVT_REP_CNT r k)).raise (E.encRepeat r k) else s4
    if !rep && decide (d.vecS ≠ 0) && expired then
      ((s5.set (R.ENC_EVT_VEC_MISS r k) 1).inc (R.ENC_EVT_MISS_CNT r k)).raise (E.encVecMiss r k)
    else s5

/-- COD releases the pictures of the source and of the canvas ring that no stream of its pool needs (R246). -/
def State.encRelease (s : State) : State :=
  let needs (r tag : Nat) : Bool := s.strms.any (fun x =>
    decide ((s.desc x.num).pool / 16 ^ r % 16 ≠ 0) &&
    (x.dues.any (fun u => decide (u.tag = tag)) ||
      (match x.busy with | some j => decide (j.tag = tag) | none => false)))
  let one (s : State) (r : Nat) : State :=
    if s.isolated (8 + r) || !s.strg.powered (8 + r) then s
    else
      let s1 := s.pics.foldl (fun (s : State) p => match p.slot with
        | some slot =>
          if needs r p.tag || decide (s.trayRead (s.descAddr slot + 0xC0 + 9 + r) 1 = [1]) then s
          else s.trayPut (8 + r) (s.descAddr slot + 0xC0 + 9 + r) [1]
        | none => s) s
      { s1 with canv := s1.canv.map (fun c => if needs r c.tag then c else { c with held := clrBit c.held r }) }
  one (one s 0) 1

/-- Free encoders take pictures, in ascending number (R244); then rods release what they no longer need. -/
def State.encKick (s : State) : State :=
  let s1 := (List.range 8).foldl (fun (s : State) e =>
    if s.encFree e then match s.encPick e with
      | some c => s.encStart e c
      | none => s
    else s) s.dueMark
  s1.encRelease

/-- A frame of a source starts: it becomes due for the streams that `p` picks (R242, R238). -/
def State.encDue (s : State) (p : Desc → Bool) (tag : Nat) : State :=
  let s1 : State := { s with strms := s.strms.map (fun x =>
      let d := s.desc x.num
      if x.run && p d then
        let x1 := { x with cnt := x.cnt + 1 }
        if x.cnt % max 1 d.rateDiv = 0 ∧ (List.range 8).any (fun e => bit d.pool e && s.encRuns e) then
          { x1 with dues := x.dues.map (fun u => if u.rep.isSome then u else { u with rep := some s.now }) ++ [{ tag := tag }] }
        else x1
      else x) }
  s1.encKick

/-- A frame of the source starts. -/
def State.encSource (s : State) (tag : Nat) : State := s.encDue (fun d => decide (d.kind = 1 ∨ d.kind = 2)) tag

/-! ### Cuts (R245) -/

/-- The picture in progress of an encoder is cut. -/
def State.encCut (s : State) (e : Nat) : State :=
  let r := e / 4
  let k := e % 4
  match s.strms.find? (fun x => match x.busy with | some j => decide (j.enc = e) | none => false) with
  | some x =>
    match x.busy with
    | some j =>
      let s1 := (s.modStrm x.num (fun x => { x with busy := none, idr := x.idr || j.idr })).endJob (encJobOf x.num j) 1
      ((s1.set (R.ENC_STAT_STATE r k) 0).set (R.ENC_EVT_CUT r k) 1).raise (E.encCut r k)
    | none => s
  | none => s

/-! ### Commands -/

/-- A command that does not suit its stream's state (R240). -/
def State.schedIgn (s : State) (r : Nat) : State := (s.set (R.SCHED_BAD_CMD_IGN r) 1).raise (E.strmCmdIgn r)

/-- A scheduler command from the host: rejected where STREAM is out of range. -/
def State.sched (s : State) (cod stream : Nat) (g : State → State) : State :=
  s.hostTo (8 + cod) fun s =>
    if 2079 < stream then s.wrRange (8 + cod) (0x800000 + 0x100000 * cod + 0x804)
    else (g (s.withStrm stream)).encKick

/-- SCHED_COMMIT (R239, R240). -/
def execSchedCommit (cod : Fin 2) (stream : BitVec 12) (s : State) : Res :=
  .next (s.sched cod stream.toNat fun s =>
    let n := stream.toNat
    if (s.strm n).any (fun x => x.run) then s.modStrm n (fun x => { x with commit := some cod })
    else s.commitDesc (8 + cod) n)

/-- SCHED_START (R240): the stream's next due picture is an IDR. What the coded picture buffer holds is not stated. -/
def execSchedStart (cod : Fin 2) (stream : BitVec 12) (s : State) : Res :=
  .next (s.sched cod stream.toNat fun s =>
    let n := stream.toNat
    if (s.strm n).any (fun x => x.run) then s.schedIgn cod
    else
      let d := s.desc n
      s.drawn.modStrm n (fun x => { x with
        run := true, idr := true, sweepEnd := true, todo := [], cnt := 0, dues := [], fill := 0, eos := false,
        refs := [], rows := [], qps := (0, 0), ceilRow := 0, cpb := s.free % (d.cpb + 1) }))

/-- SCHED_IDR (R240). -/
def execSchedIdr (cod : Fin 2) (stream : BitVec 12) (s : State) : Res :=
  .next (s.sched cod stream.toNat fun s =>
    let n := stream.toNat
    if (s.strm n).any (fun x => x.run) then s.modStrm n (fun x => { x with idr := true }) else s.schedIgn cod)

/-- The slicer's report of region `r` of a canvas frame (spec/11 R299): a size that differs from the stream's is no
readiness. -/
def State.regionReport (s : State) (r tag : Nat) : State :=
  let g := s.wallRegion r
  let d := s.desc r
  if d.kind = 1 ∧ (s.strm r).any (fun x => x.run) ∧ (d.w ≠ 64 * g.2.2.1 ∨ d.h ≠ 64 * g.2.2.2.1) then
    let s1 := if s.on R.SLC_STAT_GEOM_MM then s else (s.set R.SLC_STAT_GEOM_MM 1).set R.SLC_STAT_REGION r
    (s1.inc R.SLC_STAT_GEOM_CNT).raise E.slcGeomMm
  else
    (s.modStrm r (fun x => { x with dues := x.dues.map (fun u =>
      if u.tag = tag ∧ d.kind = 1 then { u with src := true } else u) })).encKick

/-- VEC_TO_EXPIRY (R242): on a COD rod, the set of a frame counts as complete and empty. -/
def execVecToExpiry (cod : Fin 2) (tag : BitVec 32) (s : State) : Res :=
  .next (if s.isolated (8 + cod) ∨ (s.vecSet tag.toNat).isSome then s
    else ({ s with strms := s.strms.map (fun x => { x with dues := x.dues.map (fun u =>
        if u.tag = tag.toNat then { u with vecTo := setBit u.vecTo cod } else u) }) } : State).encKick)

/-- PICTURE_DEADLINE (R243): a picture that is not ready becomes a repeat. -/
def execPictureDeadline (stream : BitVec 12) (tag : BitVec 32) (s : State) : Res :=
  .next ((s.modStrm stream.toNat (fun x => { x with dues := x.dues.map (fun u =>
      if u.tag = tag.toNat ∧ u.ready.isEmpty ∧ u.rep.isNone then { u with rep := some s.now } else u) })).encKick)

/-- A commit that waits for an encoder is applied at once when its EN clears, the scheduler's when that of every encoder has
(spec/22 R505). -/
def State.encIdle (s : State) (cod k : Nat) : State :=
  let s1 := s.commitAt (8 + cod) k (fun _ _ _ => [])
  if (List.range 4).all (fun i => decide (s1.inForce (R.ENC_CFG_EN cod i) = 0)) then s1.commitAt (8 + cod) 5 (schedRules (8 + cod)) else s1

/-- ENC_DISABLE (R245): EN clears by a commit of the encoder's domain, and the picture in progress is cut. -/
def execEncDisable (cod : Fin 2) (k : Fin 4) (s : State) : Res :=
  .next (s.hostToBead (8 + cod) k fun s =>
    let s1 := (s.set (R.ENC_CFG_EN cod k) 0).setInf (R.ENC_CFG_EN cod k) 0
    (((s1.encCut (4 * cod + k)).encRelease).encIdle cod k).encKick)

end Sys2Proof.Machine
end

