-- ==== Sys2Proof/Machine/Nal.lean ====
section
/-!
DEFINITION. The NAL units of an encoder but for what its CTUs add (spec/09 R234 to R236, R255, R257): parameter sets, SEI messages, slice
headers, filler data, as ITU-T H.265 writes them (notes/assumptions/907.md). An element that neither the spec nor a value of the
descriptor fixes is free.
-/

namespace Sys2Proof.Machine

/-! ### Bits -/

/-- An unsigned number of `n` bits; a flag. -/
def uBits (n v : Nat) : List Bool := msbBits v n
def flag (b : Bool) : List Bool := [b]

/-- Exponential Golomb codes of H.265 (9.2): unsigned, signed. -/
def ueBits (v : Nat) : List Bool :=
  let n := Nat.log2 (v + 1)
  List.replicate n false ++ msbBits (v + 1) (n + 1)
def seBits (v : Int) : List Bool := ueBits (if 0 < v then 2 * v.toNat - 1 else 2 * v.natAbs)

/-- The end of a raw byte sequence payload: a one bit, zeros up to a byte. -/
def rbsp (l : List Bool) : List Byte := packMsb (l ++ [true])

/-- Emulation prevention: 3 before a byte below 4 that follows two zeros. -/
def escape : Nat → List Byte → List Byte
  | _, [] => []
  | z, b :: t =>
    if 2 ≤ z ∧ b.toNat ≤ 3 then 3 :: b :: escape (if b = 0 then 1 else 0) t
    else b :: escape (if b = 0 then z + 1 else 0) t

/-- A NAL unit of a type from its payload: layer 0, temporal sub-layer 0. -/
def nal (type : Nat) (p : List Byte) : List Byte := [BitVec.ofNat 8 (2 * type), 1] ++ escape 0 p

/-- Types of NAL units. -/
def nalTrail : Nat := 1
def nalIdr : Nat := 19
def nalEos : Nat := 36

/-! ### Elements that are left to the encoder -/

/-- Element `k`, one of `n` values: the same in every set of a stream. -/
def el (k n : Nat) : Nat := Config.hevcElement 0 k % n

/-- Bits of the POC's low part; of the delays of HRD. -/
def pocBits : Nat := 4 + el 0 13
def initBits : Nat := el 1 32 + 1
def delayBits : Nat := el 2 32 + 1
def dpbBits : Nat := el 3 32 + 1

/-! ### Parameter sets (R234 to R236) -/

/-- The colour description of a stream's source (R235): PRIM, TRC, MATRIX, RANGE. -/
structure Colour where
  prim : Nat
  trc : Nat
  matrix : Nat
  full : Bool

/-- profile_tier_level: the profile, its compatibility flag, the tier, the level; the constraint flags are the encoder's. -/
def ptlBits (d : Desc) : List Bool :=
  uBits 2 0 ++ flag d.highTier ++ uBits 5 d.profile ++
    (List.range 32).map (fun i => decide (i = d.profile) || decide (i = 2 ∧ d.profile = 1)) ++
    flag true ++ flag false ++ flag false ++ flag true ++ uBits 43 (Config.hevcElement 0 4) ++ flag false ++ uBits 8 d.level

/-- Buffering of the only sub-layer: NREF references and the picture in progress, no reordering. -/
def orderBits (d : Desc) : List Bool := flag true ++ ueBits d.nref ++ ueBits 0 ++ ueBits 0

def vps (d : Desc) : List Byte :=
  nal 32 (rbsp (uBits 4 (el 5 16) ++ flag true ++ flag true ++ uBits 6 0 ++ uBits 3 0 ++ flag true ++ uBits 16 0xFFFF ++ ptlBits d ++
    orderBits d ++ uBits 6 0 ++ ueBits 0 ++ flag false ++ flag false))

/-- hrd_parameters of one sub-layer with one coded picture buffer: BITRATE and CPB of the descriptor. -/
def hrdBits (d : Desc) : List Bool :=
  flag true ++ flag false ++ flag false ++ uBits 4 0 ++ uBits 4 0 ++ uBits 5 (initBits - 1) ++ uBits 5 (delayBits - 1) ++
    uBits 5 (dpbBits - 1) ++ flag true ++ ueBits 0 ++ ueBits 0 ++
    ueBits (ceilDiv (d.bitrate * 1000) 64 - 1) ++ ueBits (ceilDiv (d.cpb * 8) 16 - 1) ++ flag (decide (d.rcMode = 1))

/-- VUI: colour description, range, timing information, HRD. -/
def vuiBits (d : Desc) (c : Colour) (period : Nat) : List Bool :=
  flag false ++ flag false ++ flag true ++ uBits 3 (el 6 6) ++ flag c.full ++ flag true ++ uBits 8 c.prim ++ uBits 8 c.trc ++
    uBits 8 (if d.fmt = 3 then 0 else c.matrix) ++ flag false ++ flag false ++ flag false ++ flag false ++ flag false ++ flag true ++
    uBits 32 (Config.timeScale * d.rateDiv * period / tSec) ++ uBits 32 Config.timeScale ++ flag false ++ flag d.hrd ++
    (if d.hrd then hrdBits d else []) ++ flag false

/-- SPS: 4:2:0, 4:2:2 or 4:4:4; coding blocks from 8 to 64, transform blocks from 4 to 32; SAO on; the other tools off. -/
def sps (d : Desc) (c : Colour) (period : Nat) : List Byte :=
  let chroma := if d.subX = 1 then 3 else if d.subY = 2 then 1 else 2
  nal 33 (rbsp (uBits 4 (el 5 16) ++ uBits 3 0 ++ flag true ++ ptlBits d ++ ueBits (el 7 16) ++ ueBits chroma ++
    (if chroma = 3 then flag false else []) ++ ueBits d.w ++ ueBits d.h ++ flag false ++ ueBits (d.depth - 8) ++ ueBits (d.depth - 8) ++
    ueBits (pocBits - 4) ++ orderBits d ++ ueBits 0 ++ ueBits 3 ++ ueBits 0 ++ ueBits 3 ++ ueBits (el 8 5) ++ ueBits (el 9 5) ++
    flag false ++ flag false ++ flag true ++ flag false ++ ueBits 0 ++ flag false ++ flag false ++ flag false ++
    flag true ++ vuiBits d c period ++ flag false))

/-- PPS: sign data hiding, transform skip, one QP per CTU; deblocking and SAO across slices; one tile, no wavefronts. -/
def pps : List Byte :=
  nal 34 (rbsp (ueBits (el 10 64) ++ ueBits (el 7 16) ++ flag false ++ flag false ++ uBits 3 0 ++ flag true ++ flag false ++
    ueBits (el 11 15) ++ ueBits (el 12 15) ++ seBits ((el 13 52 : Nat) - 26) ++ flag false ++ flag true ++ flag true ++ ueBits 0 ++
    seBits 0 ++ seBits 0 ++ flag false ++ flag false ++ flag false ++ flag false ++ flag false ++ flag false ++ flag true ++
    flag false ++ flag false ++ flag false ++ ueBits 0 ++ flag false ++ flag false))

/-! ### SEI (R234, R255, R257) -/

/-- An SEI message of a payload type in a NAL unit of its own: 39 before the slices, 40 behind them. -/
def sei (nalType type : Nat) (l : List Bool) : List Byte :=
  let p := if l.length % 8 = 0 then packMsb l else packMsb (l ++ [true])
  nal nalType ([BitVec.ofNat 8 type, BitVec.ofNat 8 p.length] ++ p ++ [0x80])

/-- Recovery point: recovery_poc_cnt GDR_N - 1 + SLACK, exact_match_flag 1, broken_link_flag 0 (R255). -/
def seiRecovery (d : Desc) : List Byte := sei 39 6 (seBits (d.gdrN - 1 + d.slack : Nat) ++ flag true ++ flag false)

/-- Buffering period: the delay that a buffer of `fill` bytes gives at BITRATE, in units of 1/90,000 s. -/
def seiBuffering (d : Desc) (fill : Nat) : List Byte :=
  let t (n : Nat) := 90000 * 8 * n / max 1 (1000 * d.bitrate)
  sei 39 0 (ueBits (el 7 16) ++ flag false ++ flag false ++ uBits delayBits 0 ++ uBits initBits (t fill) ++
    uBits initBits (t (d.cpb - fill)))

/-- Picture timing: pictures since the last buffering period. -/
def seiTiming (n : Nat) : List Byte := sei 39 1 (uBits delayBits (n - 1) ++ uBits dpbBits 0)

/-- The CRC of a component of a decoded picture (H.265 D.3.19). -/
def picCrc (depth : Nat) (samples : List Nat) : Nat :=
  let one (c : Nat) (b : Bool) : Nat :=
    let x := (2 * c + ofBool b) % 65536
    if bit c 15 then x ^^^ 0x1021 else x
  let bits_ := samples.flatMap (fun v => msbBits (v % 256) 8 ++ if depth = 8 then [] else msbBits (v / 256) 8)
  (bits_ ++ List.replicate 16 false).foldl one 0xFFFF

/-- Decoded picture hash: the CRC of every component. -/
def seiHash (depth : Nat) (comps : List (List Nat)) : List Byte :=
  sei 40 132 (uBits 8 1 ++ comps.flatMap (fun l => uBits 16 (picCrc depth l)))

/-! ### Slices and filler -/

/-- The header of a slice at CTU `addr` (R234): I in an IDR, else P with the references as short-term ones, the nearest first; five merge
candidates; SAO for luma and chroma. -/
def sliceHead (d : Desc) (draw addr poc : Nat) (idr : Bool) (refs : List Nat) : List Byte :=
  let delta := ((poc :: refs).zip refs).map (fun p => p.1 - p.2 - 1)
  packMsb (flag (decide (addr = 0)) ++ (if idr then flag false else []) ++ ueBits (el 10 64) ++
    (if addr = 0 then [] else uBits (Nat.log2 (2 * (d.wc * d.hc) - 1)) addr) ++ ueBits (if idr then 2 else 1) ++
    (if idr then []
     else uBits pocBits (poc % 2 ^ pocBits) ++ flag false ++ ueBits refs.length ++ ueBits 0 ++
       delta.flatMap (fun v => ueBits v ++ flag true)) ++
    flag true ++ flag true ++
    (if idr then [] else flag true ++ ueBits (refs.length - 1) ++ ueBits 0) ++
    seBits ((Config.hevcElement draw addr % 52 : Nat) - ((el 13 52 : Nat) : Int)) ++ flag true ++ [true])

/-- Filler data NAL units of `n` bytes, of 3 at least. -/
def filler (n : Nat) : List Byte := [BitVec.ofNat 8 (2 * 38), 1] ++ List.replicate (n - 3) 0xFF ++ [0x80]

/-- The end of a sequence. -/
def endOfSequence : List Byte := [BitVec.ofNat 8 (2 * nalEos), 1]

/-- NAL units as an access unit holds them: each behind its length (R261). -/
def nalBytes (l : List (List Byte)) : List Byte := l.flatMap (fun n => beBytes 4 n.length ++ n)

end Sys2Proof.Machine
end

