-- ==== Sys2Proof/Machine/Coding.lean ====
section
/-!
DEFINITION. How an encoder codes a picture (spec/09 R234, R247 to R260): the source and the reference windows, the seeds, what the rules
allow of a CTU's coding, gradual refresh, rate control. What it chooses among the allowed is free (notes/assumptions/901.md).
-/

namespace Sys2Proof.Machine

/-! ### Source and references (R238, R248, R250) -/

/-- Width and height of a component. -/
def Desc.compW (d : Desc) (c : Nat) : Nat := if c = 0 then d.w else d.w / d.subX
def Desc.compH (d : Desc) (c : Nat) : Nat := if c = 0 then d.h else d.h / d.subY

/-- Sample of component `c` of stored planes, at a place in samples of that component. -/
def State.compSample (s : State) (d : Desc) (g : LayerSrc) (c x y : Nat) : Nat :=
  if c = 0 ∨ d.subX = 1 then s.srcSample g (x + g.x0) c (x + g.x0) (y + g.y0)
  else s.srcSample g (2 * x + g.x0) 1 (2 * (x + g.x0 / 2) + (c - 1)) (y + g.y0 / d.subY)

/-- Where a stream's picture is stored: region `n` of a canvas frame, a rectangle of the processed picture. -/
def State.streamSrc (s : State) (n : Nat) (d : Desc) (tag : Nat) : Option LayerSrc :=
  if d.kind = 1 then
    let fmt := s.inForce R.CANVAS_FORMAT
    let g := s.wallRegion n
    (s.canv.find? (fun c => decide (c.tag = tag))).map (fun c =>
      ⟨some (s.inForce R.CANVAS_REGION), planeLayout fmt s.canvasW s.canvasH,
        fun _ => some (c.buf * s.inForce R.CANVAS_BUF_MIB * 2 ^ 20), 64 * g.1, 64 * g.2.1, d.w, d.h, fmt, 0, true⟩)
  else
    ((s.pic tag).bind (·.slot)).map (fun slot => { s.ringSrc (s.trayRead (s.descAddr slot) 256) with x0 := d.x, y0 := d.y })

/-- The bits that a sample of `b` bits takes when it is coded with those of the stream. -/
def Desc.widen (d : Desc) (b v : Nat) : Nat := if b ≤ d.depth then v * 2 ^ (d.depth - b) else v / 2 ^ (b - d.depth)

/-- A source sample of component `c`, beyond the picture that of its edge. -/
def State.encSample (s : State) (n : Nat) (d : Desc) (tag c x y : Nat) : Nat :=
  let x := min x (d.compW c - 1)
  let y := min y (d.compH c - 1)
  if d.kind = 3 then
    d.widen 10 (if c = 0 ∨ d.subX = 1 then (s.sent d.src x y).getD c 0
      else (s.sentChroma d.src c (2 * x) (d.subY * y)).round.toNat)
  else match s.streamSrc n d tag with
    | some g => d.widen (fmtBits g.fmt) (s.compSample d g c x y)
    | none => 0

/-- The stored form of reference pictures: 1 byte per sample in 8-bit coding, packed in 10-bit coding (R250). -/
def Desc.refFmt (d : Desc) : Nat := if d.fmt = 5 ∧ d.depth = 10 then 1 else d.fmt

/-- Byte offset of a DPB buffer; its planes as a source. -/
def Desc.bufAt (d : Desc) (slot : Nat) : Nat := d.dpbBase + slot * d.bufBytes
def Desc.refSrc (d : Desc) (slot : Nat) : LayerSrc :=
  ⟨some d.dpbRegion, planeLayout d.refFmt d.w d.h, fun _ => some (d.bufAt slot), 0, 0, d.w, d.h, d.refFmt, 0, true⟩

/-- Samples of a reference, `n` of each of `lines` lines from a place on; beyond the picture those of its edge, which are not read. -/
def State.strip (s : State) (d : Desc) (slot c : Nat) (x0 : Int) (n : Nat) (y0 : Int) (lines : Nat) : List (List Nat) :=
  (List.range lines).map (fun j => (List.range n).map (fun i =>
    s.compSample d (d.refSrc slot) c (clampI (x0 + i) 0 (d.compW c - 1 : Nat)).toNat (clampI (y0 + j) 0 (d.compH c - 1 : Nat)).toNat))

/-- Columns and lines of a window, and how far left of and above the CTU it begins, for a component (R248). -/
def Desc.winDx (d : Desc) (c : Nat) : Nat := if c = 0 then 1 else d.subX
def Desc.winDy (d : Desc) (c : Nat) : Nat := if c = 0 then 1 else d.subY

/-- The window of a reference at the start of CTU row `r`. -/
def State.windowFill (s : State) (d : Desc) (slot c r : Nat) : List (List Nat) :=
  s.strip d slot c (-((192 / d.winDx c : Nat) : Int)) (448 / d.winDx c) (((64 * r : Nat) : Int) / d.winDy c - (96 / d.winDy c : Nat))
    (256 / d.winDy c)

/-- One step to the right, to CTU column `col`: the oldest strip of 64 luma columns is retired, the next is loaded. -/
def State.windowStep (s : State) (d : Desc) (slot c r col : Nat) (w : List (List Nat)) : List (List Nat) :=
  let n := 64 / d.winDx c
  (w.zip (s.strip d slot c ((64 * col + 192 : Nat) / d.winDx c : Nat) n
    (((64 * r : Nat) : Int) / d.winDy c - (96 / d.winDy c : Nat)) (256 / d.winDy c))).map (fun p => p.1.drop n ++ p.2)

/-- The source samples of a CTU by component. -/
def State.ctuSource (s : State) (n : Nat) (d : Desc) (tag r col : Nat) : List (List Nat) :=
  (List.range 3).map (fun c =>
    let w := 64 / d.winDx c
    let h := 64 / d.winDy c
    (List.range h).flatMap (fun j => (List.range w).map (fun i => s.encSample n d tag c (col * w + i) (r * h + j))))

/-! ### Seeds (R247, R249, R251) -/

/-- Where the stream's picture begins in the stream space (R238). -/
def State.streamOrigin (s : State) (n : Nat) (d : Desc) : Nat × Nat :=
  if d.kind = 1 then (64 * (s.wallRegion n).1, 64 * (s.wallRegion n).2.1) else if d.kind = 2 then (d.x, d.y) else (0, 0)

/-- The vector of the set at a Tray address that seeds a CTU: DX and DY, none outside the set, with V 0 or with COST 127. -/
def State.seedVec (s : State) (n : Nat) (d : Desc) (set r col : Nat) : Option (Int × Int) :=
  let o := s.streamOrigin n d
  let block (c org : Nat) (off : Int) : Int := (((64 * c + 32 + org : Nat) : Int) - off) * 65536 / (32 * d.vecS : Nat)
  let bx := block col o.1 d.vecOx
  let by_ := block r o.2 d.vecOy
  let h := s.trayRead set 10
  let bw := fieldLE h 6 2
  if bx < 0 ∨ by_ < 0 ∨ (bw : Int) ≤ bx ∨ (fieldLE h 8 2 : Int) ≤ by_ then none
  else
    let v := fieldLE (s.trayRead (set + 64 + 4 * (by_.toNat * bw + bx.toNat)) 4) 0 4
    if !bit v 31 || decide (bits v 24 7 = 127) then none else some (signed 12 (bits v 0 12), signed 12 (bits v 12 12))

/-- The seed for a reference `dist` source frames away, in full luma samples, clipped to ±184 and ±88 (R249). -/
def seedFor (vecS : Nat) (dist : Nat) (v : Int × Int) : Mv :=
  let f (x lim : Int) : Int := clampI ((Frac.over (x * (vecS * dist : Nat)) 65536).round) (-lim) lim
  ⟨f v.1 184, f v.2 88⟩

/-- A vector of full samples in quarter samples. -/
def mvFull (v : Mv) : Mv := ⟨4 * v.x, 4 * v.y⟩

/-- The candidates about which an encoder refines, for a reference (R247): the seed, the zero vector, the vectors of the CTU to the
left. -/
def candidates (seed : Option Mv) (ref : Nat) (left : List Pu) : List Mv :=
  (seed.toList.map mvFull) ++ [⟨0, 0⟩] ++ ((left.filter (fun p => decide (p.ref = ref))).map (·.mv))

/-! ### What the rules allow of a CTU (R234, R249, R253, R254) -/

/-- The nearest vector that keeps a block, with 3 samples before it and 4 behind, inside the window (R249). -/
def puClip (p : Pu) : Pu :=
  { p with mv := ⟨clampI p.mv.x (-4 * (189 + p.x : Nat)) (4 * (252 - p.x - p.w : Nat) + 3),
    clampI p.mv.y (-4 * (93 + p.y : Nat)) (4 * (156 - p.y - p.h : Nat) + 3)⟩ }

/-- Does a reference's column lie in its clean area: in a clean CTU column, and 8 samples from an unclean one to the right (R253)? -/
def cleanAt (clean : List Bool) (x : Nat) : Bool :=
  clean.getD (x / 64) true && (clean.getD (x / 64 + 1) true || decide (x % 64 < 56))

/-- Do the columns from `lo` to `hi`, beyond the picture those of its edge, lie in the clean area? -/
def cleanSpan (clean : List Bool) (w : Nat) (lo hi : Int) : Bool :=
  let a := (clampI lo 0 (w - 1 : Nat)).toNat
  let b := (clampI hi 0 (w - 1 : Nat)).toNat
  (List.range (b + 1 - a)).all (fun i => cleanAt clean (a + i))

/-- Does a block reference the clean area alone, interpolation taps of luma and chroma included (R253)? `x` is its luma column. -/
def puClean (d : Desc) (ref : EncRef) (x : Nat) (p : Pu) : Bool :=
  let u := d.subX
  let f (whole n : Int) (before after : Int) (frac : Bool) (unit : Nat) : Bool :=
    cleanSpan ref.clean d.w ((whole - if frac then before else 0) * unit) ((whole + n - 1 + if frac then after else 0) * unit + unit - 1)
  f (x + p.mv.x / 4) p.w 3 4 (decide (p.mv.x % 4 ≠ 0)) 1 &&
    f ((x / u : Nat) + p.mv.x / (4 * u : Nat)) (p.w / u : Nat) 1 2 (decide (p.mv.x % (4 * u : Nat) ≠ 0)) u

/-- What bears on the coding of a CTU: its column, whether it lies in the clean area, which columns do, the references. -/
structure CtuPlace where
  col : Nat
  row : Nat
  clean : Bool
  cols : List Bool
  refs : List EncRef

/-- Is a vector one that the search finds or a merge candidate (R247)? At reduced effort the seed alone is refined (R251). -/
def vecFound (t : CtuTask) (reduced : Bool) (p : Pu) : Bool :=
  p.merge || ((t.cands.getD p.ref []).zipIdx).any (fun c =>
    let range : Int := if reduced && !(t.seeded && decide (c.2 = 0)) then 0 else 4 * t.range + 3
    decide ((p.mv.x - c.1.x).natAbs ≤ range ∧ (p.mv.y - c.1.y).natAbs ≤ range))

/-- Is a unit's form one of R234: 2N x 2N, 2N x N, N x 2N; intra with one mode, or four in an 8 x 8 unit? -/
def cuForm (c : Cu) : Bool :=
  let h := c.size / 2
  let parts := c.inter.map (fun p => (p.x, p.y, p.w, p.h))
  ([8, 16, 32, 64].contains c.size && decide (c.x % c.size = 0 ∧ c.y % c.size = 0)) &&
  (if c.inter.isEmpty then (decide (c.intra.length = 1) || decide (c.intra.length = 4 ∧ c.size = 8)) && c.intra.all (fun m => decide (m ≤ 34))
   else c.intra.isEmpty &&
    (decide (parts = [(c.x, c.y, c.size, c.size)]) || decide (parts = [(c.x, c.y, c.size, h), (c.x, c.y + h, c.size, h)]) ||
      decide (parts = [(c.x, c.y, h, c.size), (c.x + h, c.y, h, c.size)])))

/-- Do the units tile the part of the CTU that lies in the picture? -/
def cuTiles (d : Desc) (k : CtuPlace) (l : List Cu) : Bool :=
  let w := min 64 (d.w - 64 * k.col)
  let h := min 64 (d.h - 64 * k.row)
  let apart (a b : Cu) : Bool := decide (a.x + a.size ≤ b.x ∨ b.x + b.size ≤ a.x ∨ a.y + a.size ≤ b.y ∨ b.y + b.size ≤ a.y)
  l.all (fun c => decide (c.x + c.size ≤ w ∧ c.y + c.size ≤ h)) &&
    (l.zipIdx).all (fun a => (l.zipIdx).all (fun b => decide (a.2 = b.2) || apart a.1 b.1)) &&
    decide (l.foldl (fun a c => a + c.size * c.size) 0 = w * h)

/-- An intra unit of a clean CTU (R253, R254): beside an unclean column to the right only DC, horizontal and vertical, which read no
sample above and to the right; beside an unclean column to the left only what reads no sample there. -/
def intraClean (k : CtuPlace) (c : Cu) : Bool :=
  (decide (c.x + c.size < 64) || k.cols.getD (k.col + 1) true || c.intra.all (fun m => decide (m = 1 ∨ m = 10 ∨ m = 26))) &&
  (decide (0 < c.x ∨ k.col = 0) || k.cols.getD (k.col - 1) true || (c.intra.all (fun m => decide (m = 26)) && decide (32 ≤ c.size)))

/-- May a CTU be coded so? -/
def ctuAllowed (d : Desc) (t : CtuTask) (reduced : Bool) (k : CtuPlace) (c : CtuCode) : Bool :=
  cuTiles d k c.cus && c.cus.all (fun u => cuForm u && (!t.intra || u.inter.isEmpty) && (!k.clean || intraClean k u) &&
    u.inter.all (fun p => match k.refs[p.ref]? with
      | some r => vecFound t reduced p && (!p.merge || decide (puClip p = p)) && (!k.clean || puClean d r (64 * k.col + p.x) (puClip p))
      | none => false))

/-- A coding with the vectors that the window allows. -/
def ctuClip (c : CtuCode) : CtuCode := { c with cus := c.cus.map (fun u => { u with inter := u.inter.map puClip }) }

/-- The first coding that the encoder prefers and the rules allow. -/
def ctuBest (d : Desc) (t : CtuTask) (reduced : Bool) (k : CtuPlace) : Option CtuCode :=
  ((Config.ctuChoices t).find? (ctuAllowed d t reduced k)).map ctuClip

/-! ### Gradual refresh (R252, R253, R256) -/

/-- Columns refreshed with the group of picture `j` of a sweep. -/
def Desc.swept (d : Desc) (j : Nat) : Nat := if d.gdrN ≤ j + 1 then d.wc else (j + 1) * d.wc / d.gdrN

/-- The refresh group of picture `j` as CTU addresses. -/
def Desc.group (d : Desc) (j : Nat) : List Nat :=
  if j < d.gdrN then (List.range (d.wc * d.hc)).filter (fun a => decide (j * d.wc / d.gdrN ≤ a % d.wc ∧ a % d.wc < (j + 1) * d.wc / d.gdrN))
  else []

/-- CTU columns of which `n` are swept and no CTU is in a list. -/
def Desc.cleanCols (d : Desc) (n : Nat) (todo : List Nat) : List Bool :=
  (List.range d.wc).map (fun c => decide (c < n) && todo.all (fun a => decide (a % d.wc ≠ c)))

/-! ### Rate control (R257 to R259) -/

/-- T of R257, bytes per picture. -/
def State.rcTarget (s : State) (d : Desc) : Nat := d.bitrate * 125 * d.rateDiv * s.descPeriod d / tSec

/-- The cap K (R257). -/
def Desc.rcCap (d : Desc) (f : Nat) : Nat := if d.rcMode = 0 then d.cap else min d.cap f

/-- The budget B (R257). CQP has none. -/
def State.rcBudget (s : State) (d : Desc) (f draw : Nat) (idr : Bool) : Nat :=
  let t := s.rcTarget d
  let k := d.rcCap f
  let lim (v : Int) : Nat := min (max v (t / 4 : Nat)).toNat k
  if idr then min k (8 * t)
  else if d.rcMode = 1 then lim ((t : Int) + ((f : Int) - (d.cpb / 2 : Nat)) / 4)
  else lim ((Config.vbrRatio draw).mul (.int t)).floor

/-- round(6 log2(a / b)), exactly: half of the whole part of 12 log2 and one. -/
def sixLog (a b : Nat) : Int :=
  if b = 0 then 1000 else if a = 0 then -1000 else ((Frac.over (a ^ 12 : Nat) (b ^ 12)).log2 + 1) / 2

/-- QP_base (R258): from the last picture's mean QP, bytes and budget; QP_I or QP_P for the first. -/
def Desc.qpBase (d : Desc) (x : Strm) (idr : Bool) : Nat :=
  if x.qps.2 = 0 then (if idr then d.qpI else d.qpP)
  else (clampI ((Frac.over x.qps.1 x.qps.2).round + sixLog x.lastBytes x.lastB) d.qpMin d.qpMax).toNat

/-- row_qp (R258): `share` are the bytes of the last picture's rows. -/
def Desc.rowQp (d : Desc) (base b s r : Nat) (share : List Nat) : Nat :=
  let l := if share.length = d.hc then share else List.replicate d.hc 1
  if r = 0 then base
  else (clampI (base + sixLog (s * l.sum) (b * (l.take r).sum)) d.qpMin d.qpMax).toNat

/-- What is fixed for a picture: stream, descriptor, job, references, the CTUs to refresh, whether none may be deferred, clean columns,
budget and cap, QP_base, reduced effort, the range, a fresh number. -/
structure PicPlan where
  x : Strm
  d : Desc
  j : EncJob
  refs : List EncRef
  refresh : List Nat
  last : Bool
  clean : List Bool
  b : Nat
  k : Nat
  base : Nat
  reduced : Bool
  range : Nat
  draw : Nat

/-- Is the fallback of a CTU flat intra (R259)? -/
def PicPlan.flatAt (p : PicPlan) (a : Nat) : Bool :=
  let col := a % p.d.wc
  p.j.idr || (p.refresh.contains a && p.last) || (p.clean.getD col false && !p.refresh.contains a &&
    !p.refs.any (fun r => cleanSpan r.clean p.d.w (64 * col : Nat) (64 * col + 63 : Nat)))

/-- Its bound. -/
def PicPlan.bound (p : PicPlan) (a : Nat) : Nat := if p.flatAt a then 12 else 2

/-- The reserve R with the CTUs from `a` on not yet coded (R259): their bounds, slice headers not yet written, 8 bytes. -/
def PicPlan.reserve (p : PicPlan) (a : Nat) : Nat :=
  let rows := if p.d.sliceRows = 0 then p.d.hc else p.d.sliceRows
  let begun := ceilDiv (ceilDiv a p.d.wc) rows
  ((List.range (p.d.wc * p.d.hc - a)).map (fun i => p.bound (a + i))).sum + 32 * (p.d.slices - max 1 begun) + 8

/-- How far the coding of a picture has come: bytes committed S; the state (0 NORMAL, 1 STARVED, 2 SKIP); codings so far; bytes of the
slice that is open, NAL units of those that are closed; the prediction blocks of the CTU to the left; windows; S at the row's start,
bytes of rows; rows in STARVED or SKIP; the largest row at QP_CEIL; deferred CTUs; whether one was coded flat; QPs with their number. -/
structure PicRun where
  s : Nat
  st : Nat := 0
  codes : List CtuCode := []
  slice : List Byte := []
  slices : List (List Byte) := []
  left : List Pu := []
  luma : List (List (List Nat)) := []
  chroma : List (List (List Nat)) := []
  rowAt : Nat := 0
  rows : List Nat := []
  bad : Nat := 0
  ceilRow : Nat := 0
  todo : List Nat := []
  flat : Bool := false
  qps : Nat × Nat := (0, 0)

/-- Bytes of the header of the slice at a CTU: of 32 at most, of which 6 are the NAL unit's. -/
def PicPlan.head (p : PicPlan) (a : Nat) : List Byte :=
  (escape 0 (sliceHead p.d p.draw a p.j.poc p.j.idr (p.refs.map (·.poc)))).take 26

/-- The type of a picture's slices. -/
def PicPlan.type (p : PicPlan) : Nat := if p.j.idr then nalIdr else nalTrail

/-- The NAL unit of a slice from what it holds. -/
def PicPlan.nalOf (p : PicPlan) (d : List Byte) : List Byte := [BitVec.ofNat 8 (2 * p.type), 1] ++ d

/-- The windows of all references at a CTU. -/
def State.windowsAt (s : State) (p : PicPlan) (r col : Nat) (q : PicRun) : PicRun :=
  let at_ (old : List (List (List Nat))) (i slot c : Nat) : List (List Nat) :=
    if col = 0 then s.windowFill p.d slot c r else s.windowStep p.d slot c r col (old.getD i [])
  { q with
    luma := (p.refs.zipIdx).map (fun e => at_ q.luma e.2 e.1.slot 0)
    chroma := (p.refs.zipIdx).flatMap (fun e => [at_ q.chroma (2 * e.2) e.1.slot 1, at_ q.chroma (2 * e.2 + 1) e.1.slot 2]) }

/-- The start of a CTU row (R258): a new slice where one begins, and the transitions to STARVED and SKIP. -/
def PicPlan.rowStart (p : PicPlan) (r : Nat) (q : PicRun) : PicRun :=
  let a := r * p.d.wc
  let q1 := if r ≠ 0 ∧ p.d.sliceRows ≠ 0 ∧ r % p.d.sliceRows = 0 then
      { q with slices := q.slices ++ [p.nalOf q.slice], slice := p.head a, s := q.s + 6 + (p.head a).length }
    else q
  let st1 := if q1.st = 0 ∧ p.d.rcMode ≠ 0 ∧ p.b ≤ q1.s ∧ r + 1 < p.d.hc then 1 else q1.st
  let st2 := if st1 = 1 ∧ p.k < q1.s + (p.d.hc - r) * max q1.ceilRow p.x.ceilRow + p.reserve (a + p.d.wc) then 2 else st1
  { q1 with st := st2, rowAt := q1.s, left := [] }

/-- The end of a CTU row: its bytes, whether it was in STARVED or SKIP, the largest row at QP_CEIL. A repeat passes through no state. -/
def PicPlan.rowEnd (p : PicPlan) (q : PicRun) : PicRun :=
  let n := q.s - q.rowAt
  { q with
    rows := q.rows ++ [n], bad := q.bad + ofBool (decide (q.st ≠ 0) && !p.j.rep),
    ceilRow := if q.st = 1 then max q.ceilRow n else q.ceilRow }

/-- What the encoder has before it at a CTU. -/
def State.ctuTask (s : State) (p : PicPlan) (q : PicRun) (a : Nat) (intra : Bool) : CtuTask :=
  let r := a / p.d.wc
  let col := a % p.d.wc
  let v := p.j.vec.bind (fun set => s.seedVec p.x.num p.d set r col)
  let qp := if p.d.rcMode = 0 then (if intra then p.d.qpI else p.d.qpP)
    else if q.st = 0 then p.d.rowQp p.base p.b q.rowAt r p.x.rows else p.d.qpCeil
  ⟨p.draw, a, p.d.refFmt, s.ctuSource p.x.num p.d p.j.tag r col, q.luma, q.chroma,
    (p.refs.zipIdx).map (fun e => candidates (v.map (seedFor p.d.vecS ((p.j.tag + 2 ^ 32 - e.1.tag) % 2 ^ 32))) e.2 q.left),
    v.isSome, p.range, intra, qp, if q.st = 1 then p.d.skipBias else 0, q.codes⟩

/-- A CTU (R256, R258, R259). -/
def State.codeCtu (s : State) (p : PicPlan) (q0 : PicRun) (a : Nat) : PicRun :=
  let r := a / p.d.wc
  let col := a % p.d.wc
  let q1 := s.windowsAt p r col (if col = 0 then p.rowStart r q0 else q0)
  let due := p.refresh.contains a && !p.j.idr
  let put (q : PicRun) (c : CtuCode) (flat kept : Bool) (qp : Nat) : PicRun :=
    let q2 : PicRun := { q with
      s := q.s + c.data.length, codes := q.codes ++ [c], slice := q.slice ++ c.data, left := c.cus.flatMap (·.inter),
      todo := if due && !kept then q.todo ++ [a] else q.todo, flat := q.flat || flat, qps := (q.qps.1 + qp, q.qps.2 + 1) }
    if col + 1 = p.d.wc then p.rowEnd q2 else q2
  let flatCode (t : CtuTask) : CtuCode := ⟨[], (Config.ctuFlat t).take 12⟩
  let fallback (q : PicRun) (t : CtuTask) : PicRun :=
    if p.flatAt a then put q (flatCode t) (due || p.j.idr) due t.qp else put q ⟨[], (Config.ctuSkip t).take 2⟩ false false t.qp
  let intra := p.j.idr || (due && decide (q1.st = 0))
  let t := s.ctuTask p q1 a intra
  if q1.st = 2 then fallback q1 t
  else if due && p.last && decide (q1.st = 1) then put q1 (flatCode t) true true t.qp
  else
    match ctuBest p.d t p.reduced ⟨col, r, p.clean.getD col false && (intra || !due), p.clean, p.refs⟩ with
    | some c => if p.k < q1.s + c.data.length + p.reserve (a + 1) then fallback { q1 with st := 2 } t else put q1 c false intra t.qp
    | none => fallback q1 t

/-! ### The picture -/

/-- The colour that a stream's source has (R235): a picture's descriptor, or what the composer is set to. -/
def State.streamColour (s : State) (d : Desc) (tag : Nat) : Colour :=
  if d.kind = 2 then
    match (s.pic tag).bind (·.slot) with
    | some slot =>
      let b := s.trayRead (s.descAddr slot + 0xC) 4
      ⟨fieldLE b 0 1, fieldLE b 1 1, fieldLE b 2 1, decide (fieldLE b 3 1 = 1)⟩
    | none => ⟨2, 2, 2, false⟩
  else
    let n := if d.kind = 1 then 8 else d.src
    let m := s.inForce (R.CMP_CFG_MATRIX n)
    ⟨s.inForce (R.CMP_CFG_PRIM n), s.inForce (R.CMP_CFG_TRC n), if m = 2 then 9 else m, decide (s.inForce (R.CMP_CFG_RANGE n) = 1)⟩

/-- What an encoder makes of a picture: its NAL units without hash and end of sequence, its slices, how the coding went, the plan. -/
structure PicCode where
  front : List (List Byte)
  slices : List (List Byte)
  run : PicRun
  plan : PicPlan

/-- The plan of a picture of stream `x` (R252, R257, R258). -/
def State.picPlan (s : State) (x : Strm) (j : EncJob) : PicPlan :=
  let d := s.desc x.num
  let r := j.enc / 4
  let k := j.enc % 4
  let last := decide (d.gdrN - 1 + d.slack ≤ j.j)
  let refresh := if j.idr then [] else x.todo ++ (d.group j.j).filter (fun a => !x.todo.contains a)
  let reduced := s.on (R.ENC_STAT_EFFORT r k)
  let sr := s.inForce (R.ENC_CFG_SRANGE r k)
  { x := x, d := d, j := j, refs := if j.idr then [] else x.refs.take d.nref, refresh := refresh, last := last,
    clean := d.cleanCols (d.swept j.j) (if j.rep && !last then refresh else []),
    b := s.rcBudget d x.cpb s.free j.idr, k := d.rcCap x.cpb, base := d.qpBase x j.idr, reduced := reduced,
    range := if reduced then sr / 2 else sr, draw := s.free }

/-- Code a picture. -/
def State.codePicture (s : State) (x : Strm) (j : EncJob) : PicCode :=
  let p := s.picPlan x j
  let d := p.d
  let sweep := decide (j.j = 0) && !j.idr
  let ps := if j.idr || (sweep && d.psRepeat) then [vps d, sps d (s.streamColour d j.tag) (s.descPeriod d), pps] else []
  let front := ps ++ (if d.hrd && (j.idr || sweep) then [seiBuffering d x.cpb] else []) ++ (if sweep then [seiRecovery d] else []) ++
    (if d.hrd then [seiTiming (if j.j = 0 then x.j + 1 else j.j)] else [])
  let fill := if x.fill = 0 then 0 else 4 + max 3 x.fill
  let hash := if d.hash then 4 + (seiHash d.depth [[], [], []]).length else 0
  let run0 : PicRun :=
    { s := (nalBytes front).length + fill + hash + 6 + (p.head 0).length, st := if j.rep then 2 else 0, slice := p.head 0 }
  let run := (List.range (d.wc * d.hc)).foldl (fun q a => s.codeCtu p q a) run0
  ⟨front, run.slices ++ [p.nalOf run.slice], run, p⟩

/-- The reconstructed picture, as it is stored (R250). -/
def State.picRecon (s : State) (c : PicCode) : List Byte :=
  let d := c.plan.d
  let n := pictureBytes d.refFmt d.w d.h
  slice (Config.hevcDecode d.refFmt d.w d.h c.slices (c.plan.refs.map (fun r => s.dramRead d.dpbRegion (d.bufAt r.slot) n))) 0 n

/-- The DPB buffer that a picture is stored in: the first that holds no reference. -/
def PicPlan.slot (p : PicPlan) : Nat :=
  ((List.range (p.d.nref + 1)).find? (fun i => p.refs.all (fun r => decide (r.slot ≠ i)))).getD 0

/-- The samples of a stored picture by component. -/
def State.picSamples (s : State) (d : Desc) (slot : Nat) : List (List Nat) :=
  (List.range 3).map (fun c => (List.range (d.compH c)).flatMap (fun y => (List.range (d.compW c)).map (fun x =>
    s.compSample d (d.refSrc slot) c x y)))

end Sys2Proof.Machine
end

