-- ==== Sys2Proof/Machine/Dec.lean ====
section
/-!
DEFINITION. The decoders (spec/10): the input ring, buffers and references, marking and recovery, output.
-/

namespace Sys2Proof.Machine

/-! ### Configuration -/

/-- Bytes of the input ring, and of a buffer. -/
def State.decRing (s : State) (r : Nat) : Nat := s.inForce (R.DEC_IN_SIZE r) * 4096
def State.decBufBytes (s : State) (r : Nat) : Nat := s.inForce (R.DEC_BUF_BUF_MIB r) * 2 ^ 20

/-- The rod of a reader (spec/07 R197); the host is none. -/
def readerRod (q : Nat) : Option Nat :=
  if q ≤ 8 then some 11 else if q = 9 then some 8 else if q = 10 then some 9 else if q ≤ 14 then some 12 else none

/-- Commit rules of a decoder's domain (rules 0x60 to 0x64). -/
def decRules (r : Nat) (s : State) (ask : Fld → Nat) (_d : Nat) : List (Nat × Bool) :=
  let rod := 8 + r
  let gran := ask (R.DEC_OUT_GRAN r)
  let n := ceilDiv (ask (R.DEC_OUT_DEPTH r) * 128) granBytes
  let g (i : Nat) (p : TrayRec → Bool) : Bool := match s.strg.granule i with | some t => p t | none => false
  let same (f : Fld) : Bool := decide (ask f = s.inForce f)
  [(0x60, decide ((ask (R.DEC_BUF_BASE_MIB r) + ask (R.DEC_BUF_NBUF r) * ask (R.DEC_BUF_BUF_MIB r)) * 2 ^ 20 ≤
      s.strg.regionSize (ask (R.DEC_BUF_REGION r)))),
   (0x61, decide ((ask (R.DEC_IN_BASE_BASE r) + ask (R.DEC_IN_SIZE r)) * 4096 ≤
      s.strg.regionSize (ask (R.DEC_IN_REGION r)))),
   (0x62, (List.range n).all (fun i => g (gran + i) (fun t => bit t.write rod &&
      (List.range 16).all (fun q => !bit (ask (R.DEC_CFG_READERS r)) q ||
        (match readerRod q with | some x => bit t.read x | none => true))))),
   (0x63, decide (ask (R.DEC_FENCE_EN r) = 0) ||
      g (ask (R.DEC_FENCE_WORD r) * 64 / granBytes) (fun t => bit t.write rod)),
   (0x64, decide (s.inForce (R.DEC_CFG_EN r) = 0) ||
      [R.DEC_BUF_REGION r, R.DEC_BUF_NBUF r, R.DEC_BUF_BUF_MIB r, R.DEC_BUF_BASE_MIB r, R.DEC_IN_REGION r, R.DEC_IN_SIZE r,
       R.DEC_IN_BASE_BASE r, R.DEC_OUT_DEPTH r, R.DEC_OUT_GRAN r].all same)]

/-! ### The input ring (R266, R267) -/

/-- Bytes of the input ring from an offset, with its wrap. -/
def State.decRead (s : State) (r off n : Nat) : List Byte :=
  let size := s.decRing r
  let base := s.inForce (R.DEC_IN_BASE_BASE r) * 4096
  let reg := s.inForce (R.DEC_IN_REGION r)
  let o := off % max 1 size
  let a := min n (size - o)
  s.dramRead reg (base + o) a ++ s.dramRead reg base (n - a)

/-- The NAL lengths of an entry sum to its BYTES: `l` is what is left, `n` the NAL units still to come. -/
def nalsOk : Nat → List Byte → Bool
  | 0, l => l.isEmpty
  | n + 1, l => decide (4 ≤ l.length) && decide (beNat (l.take 4) ≤ l.length - 4) &&
      nalsOk n (l.drop (4 + beNat (l.take 4)))

/-- DEC_IN_WR (R266): the offset is a multiple of 64 below the ring size. -/
def execDecInWr (r : Fin 2) (off : BitVec 30) (s : State) : Res :=
  .next (s.hostToBead (8 + r) 4 fun s =>
    if off.toNat % 64 = 0 ∧ off.toNat < s.decRing r then s.set (R.DEC_IN_WR_OFF r) off.toNat
    else s.wrRange (8 + r) (0x803014 + 0x100000 * r))

/-! ### The decoded picture buffer -/

/-- Pictures of a decoder that the DPB holds. -/
def State.dpb (s : State) (r : Nat) : List DecPic := s.decs.filter (fun p => decide (p.r = r) && (p.ref || p.need))

/-- A decoder's picture in progress. -/
def State.decJob (s : State) (r : Nat) : Option DecJob := s.decJobs.find? (fun j => decide (j.r = r))

/-- Change a decoder's picture in progress. -/
def State.modDec (s : State) (r : Nat) (g : DecJob → DecJob) : State :=
  { s with decJobs := s.decJobs.map (fun j => if j.r = r then g j else j) }

/-- Forget the pictures that are neither needed nor waiting for their descriptor (spec/10 R276). -/
def State.decPrune (s : State) : State := { s with decs := s.decs.filter (fun p => p.ref || p.need || p.bumped) }

/-- A buffer is free (R276). -/
def State.decFree (s : State) (r b : Nat) : Bool :=
  !(s.decs.any (fun p => decide (p.r = r ∧ p.buf = some b))) &&
  !(s.decJobs.any (fun j => decide (j.r = r ∧ j.pic.buf = some b))) &&
  s.decOut.all (fun e => decide (e.1 ≠ r ∨ e.2.2 ≠ b) || (s.trayRead (e.2.1 + 0x68) 16).all (fun x => decide (x = 1)))

/-- The free buffers. -/
def State.decFrees (s : State) (r : Nat) : List Nat :=
  (List.range (s.inForce (R.DEC_BUF_NBUF r))).filter (s.decFree r)

/-- The next picture that bumping takes: the lowest POC that is needed for output. -/
def bumpNext (l : List DecPic) : Option DecPic := l.foldl (fun best p => if !p.need then best else match best with
  | some b => if p.poc < b.poc then some p else some b
  | none => some p) none

/-- One bump (R275): the picture waits for its descriptor. -/
def State.bump (s : State) (r : Nat) : State :=
  match bumpNext (s.dpb r) with
  | some p =>
    { s with decs := (s.decs.erase p) ++ [{ p with need := false, bumped := true }] }
  | none => s

/-- Bump while a condition holds, at most `n` times. -/
def bumpWhile (r : Nat) (p : State → Bool) : Nat → State → State
  | 0, s => s
  | n + 1, s => if p s then bumpWhile r p n (s.bump r).decPrune else s

/-- More pictures wait than the SPS lets be reordered, or one waits too long. -/
def State.bumpDue (s : State) (r reorder latency : Nat) : Bool :=
  let need := (s.dpb r).filter (·.need)
  decide (reorder < need.length) || (decide (latency ≠ 0) && need.any (fun p => decide (latency ≤ p.lat)))

/-- The last picture decoded, in decode order, that is no generated one. -/
def State.lastDec (s : State) (r : Nat) : Option DecPic :=
  (s.decs.filter (fun p => decide (p.r = r) && !p.gen)).foldl (fun best p => match best with
    | some b => if b.num < p.num then some p else some b
    | none => some p) none

/-- Raise the event that a damage brings, with its counts (R271). -/
def State.decErr (s : State) (r : Nat) (f : Fld) (e : E.Src) : State := ((s.set f 1).inc (R.DEC_EVT_ERR_CNT r)).raise e

/-- Set or drop the recovery target (R273). -/
def State.decTarget (s : State) (r : Nat) (t : Option Int) : State :=
  match t with
  | some v => ((s.set (R.DEC_STAT_PENDING r) 1).set (R.DEC_STAT_TARGET r) (unsigned 16 v)).set (I.DEC_TARGET r) (unsigned 32 v)
  | none => s.set (R.DEC_STAT_PENDING r) 0

/-- A damage ends the pending target and what the last recovery covers. -/
def State.decDamage (s : State) (r : Nat) : State := (s.decTarget r none).set (I.DEC_COVER r) 0

/-- A generated reference (R272). -/
def State.decGen (s : State) (r num : Nat) (poc : Int) : State :=
  let src := if s.inForce (R.DEC_CFG_GEN r) = 1 then none else (s.lastDec r).bind (·.buf)
  let s1 : State := { s with decs := s.decs ++ [{ r := r, num := num, poc := poc, buf := src, gen := true, taint := true }] }
  (((s1.set (R.DEC_EVT_REF_GEN r) 1).inc (R.DEC_EVT_GEN_CNT r)).raise (E.decRefGen r)).decDamage r

/-- A waiting picture takes a buffer, when one is free; which one is not stated. -/
def State.decKick (s : State) (r : Nat) : State :=
  match s.decJob r with
  | some j =>
    if j.pic.buf.isSome || s.isolated (8 + r) then s
    else match s.decFrees r with
      | [] => s.set (R.DEC_STAT_STATE r) 3
      | b :: l =>
        let pick := ((b :: l)[s.free % (l.length + 1)]?).getD b
        (s.drawn.modDec r (fun j => { j with pic := { j.pic with buf := some pick } })).set (R.DEC_STAT_STATE r) 2
  | none => s

/-- Both decoders look for a buffer again. -/
def State.decKickAll (s : State) : State := (s.decKick 0).decKick 1

/-- The carry-log job of a picture. -/
def decJobOf (j : DecJob) : Job := ⟨8 + j.r, 4, 7, unsigned 16 j.pic.poc * 65536 + j.pic.num % 65536, j.pic.tag⟩

/-! ### Taking an entry (R265, R267, R271 to R273) -/

/-- The SPS of an access unit is unsupported (R264, R265). -/
def State.decUnsup (s : State) (r : Nat) (au : AuInfo) : Bool :=
  au.unsup || decide (8192 < au.width.toNat ∨ 4320 < au.height.toNat ∨
    s.inForce (R.DEC_BUF_NBUF r) < au.maxDec.toNat + 2 ∨
    s.decBufBytes r < pictureBytes au.fmt au.width.toNat au.height.toNat)

/-- The picture of an access unit starts. -/
def State.decStart (s : State) (r : Nat) (h : List Byte) (au : AuInfo) : State :=
  let poc := au.poc.toInt
  let num := s.get (I.DEC_CNT r) + 1
  let curr := au.curr.map (·.toInt)
  let rps := au.rps.map (·.toInt)
  let s1 := s.set (I.DEC_CNT r) num
  let s2 : State := { s1 with decs := s1.decs.map (fun p =>
      if p.r = r then { p with
        ref := p.ref && !au.noRasl && rps.contains p.poc
        need := p.need && !(au.noRasl && au.noPrior) } else p) }
  let s3 := s2.decPrune
  let most := s3.decs.length
  let s4 := if au.noRasl then bumpWhile r (fun s => (s.dpb r).any (·.need)) most s3
    else bumpWhile r (fun s => s.bumpDue r au.reorder.toNat au.latency.toNat ||
      (decide (au.maxDec.toNat ≤ ((s.dpb r).filter (fun p => !p.gen)).length) && (s.dpb r).any (·.need))) most s3
  let missing := curr.eraseDups.filter (fun c => !((s4.dpb r).any (fun p => p.ref && decide (p.poc = c))))
  let s5 := missing.foldl (fun (s : State) c => s.decGen r num c) s4
  let setter := au.recov.isSome && !s5.on (R.DEC_STAT_PENDING r)
  let s6 := match au.recov with
    | some c => if setter then s5.decTarget r (some (poc + c.toInt)) else s5
    | none => s5
  let pic : DecPic :=
    { r := r, num := num, poc := poc, tag := fieldLE h 4 4, irap := au.irap, refGen := !missing.isEmpty
      ctags := fieldLE h 0x1C 2, fsTime := slice h 0x10 12, fmt := au.fmt, mono := au.mono
      desc := leBytes 2 au.winW.toNat ++ leBytes 2 au.winH.toNat ++ leBytes 2 au.cropX.toNat ++ leBytes 2 au.cropY.toNat ++
        leBytes 4 au.colour.toNat
      width := au.width.toNat, height := au.height.toNat }
  let j : DecJob :=
    { r := r, pic := pic, uses := au.uses.map (·.toInt), output := au.output, reorder := au.reorder.toNat
      latency := au.latency.toNat, setter := setter }
  (({ s6 with decJobs := s6.decJobs ++ [j] } : State).beginJob (decJobOf j)).decKick r

/-- An entry whose framing holds. -/
def State.decEntry (s : State) (r : Nat) (h : List Byte) (au : AuInfo) : State :=
  if s.decUnsup r au then
    ((s.set (R.DEC_EVT_UNSUP r) 1).set (I.DEC_UNSUP r) 1).raise (E.decUnsup r)
  else if s.on (I.DEC_UNSUP r) && !au.irap then s
  else
    let s1 := s.set (I.DEC_UNSUP r) 0
    if s1.get (R.DEC_STAT_STATE r) = 1 ∧ !au.irap ∧ au.recov.isNone then s1
    else (s1.set (R.DEC_STAT_STATE r) 2).decStart r h au

/-- DEC_ENTRY: a decoder without a picture takes the next entry, once the whole of it lies between IN_RD and IN_WR. Where a
broken BYTES leaves no next entry to be found, everything up to IN_WR goes with it. -/
def execDecEntry (r : Fin 2) (au : AuInfo) (s : State) : Res :=
  .next (
    let size := s.decRing r
    let rd := s.get (R.DEC_IN_RD_OFF r)
    let wr := s.get (R.DEC_IN_WR_OFF r)
    let avail := (wr + size - rd) % max 1 size
    if s.isolated (8 + r) ∨ s.inForce (R.DEC_CFG_EN r) = 0 ∨ (s.decJob r).isSome ∨ avail < 32 then s
    else
      let h := s.decRead r rd 32
      let n := fieldLE h 8 4
      let bad (s : State) (next : Nat) : State :=
        ((s.set (R.DEC_IN_RD_OFF r) next).set (R.DEC_EVT_IN_BAD r) 1).raise (E.decInBad r)
      if size - 32 < n then bad s wr
      else if avail < 32 + n then s
      else
        let next := (rd + roundUp (32 + n) 64) % size
        if fieldLE h 0xC 2 = 0 ∨ !nalsOk (fieldLE h 0xC 2) (s.decRead r (rd + 32) n) then bad s next
        else ((s.set (R.DEC_IN_RD_OFF r) next).commitAt (8 + r) 4 (decRules r)).decEntry r h au)

/-! ### The end of a picture (R268 to R273) -/

/-- `n` samples of 512 in 10 bits each (spec/07 R192). -/
def grey10 (n : Nat) : List Byte := leBytes (ceilDiv (10 * n) 8) ((2 ^ (10 * n) - 1) / 1023 * 512)

/-- The decoded samples in the buffer: what the HEVC standard gives them is not worked out here, so that they are free
values, but for the chroma of a picture without chroma (R268). -/
def State.decStore (s : State) (p : DecPic) : State :=
  match p.buf with
  | some b =>
    let reg := s.inForce (R.DEC_BUF_REGION p.r)
    let base := (s.inForce (R.DEC_BUF_BASE_MIB p.r) + b * s.inForce (R.DEC_BUF_BUF_MIB p.r)) * 2 ^ 20
    let ls := planesOf p.fmt p.width p.height
    let lay := planeLayout p.fmt p.width p.height
    (List.range ls.length).foldl (fun (s : State) i =>
      match ls[i]?, lay[i]? with
      | some l, some y => (List.range l.2).foldl (fun (s : State) j =>
          let a := base + y.1 + j * y.2
          if p.mono ∧ i = 1 then s.dramPut reg a (if p.fmt = 5 then List.replicate l.1 128 else grey10 p.width)
          else s.drawn.dramPut reg a (s.freeBytes l.1)) s
      | _, _ => s) s
  | none => s

/-- A picture is tainted (R273): partly generated, or one of its slices references a tainted picture, unless it is an IRAP
or a recovery covers it. `cover` is the decode number plus 1 from which the recovery covers. -/
def State.decTaint (s : State) (j : DecJob) (part reached : Bool) (cover : Nat) : Bool :=
  let us := (s.dpb j.r).filter (fun p => j.uses.contains p.poc)
  part || (us.any (·.taint) && !j.pic.irap && !reached &&
    !(decide (cover ≠ 0) && us.all (fun p => !p.gen && decide (cover ≤ p.num + 1))))

/-- The picture in progress ends: it reaches the target or not, is marked and enters the DPB, and bumping follows. -/
def State.decEnd (s : State) (j : DecJob) (part : Bool) (status : Nat) : State :=
  let r := j.r
  let reached := s.on (R.DEC_STAT_PENDING r) && decide (signed 32 (s.get (I.DEC_TARGET r)) ≤ j.pic.poc)
  let s1 := if reached then ((s.decTarget r none).raise (E.decRecovered r)).set (I.DEC_COVER r) (j.pic.num + 1) else s
  let taint := s1.decTaint j part reached (s1.get (I.DEC_COVER r))
  let s2 := if part then
      (if reached || !j.setter then s1.decDamage r else s1.set (I.DEC_COVER r) 0)
    else s1
  let p : DecPic := { j.pic with taint := taint, part := part, reached := reached, need := j.output, ref := true }
  let s3 := s2.decStore p
  let s4 : State := { s3 with
    decJobs := s3.decJobs.filter (fun x => decide (x.r ≠ r))
    decs := (s3.decs.map (fun q => if q.r = r ∧ q.need ∧ p.poc < q.poc then { q with lat := q.lat + 1 } else q)) ++ [p] }
  (bumpWhile r (fun s => s.bumpDue r j.reorder j.latency) s4.decs.length s4).endJob (decJobOf j) status

/-- DEC_PICTURE_DONE (R264, R269, R271): what the decoder found in the picture's data, and whether a CTU was concealed. -/
def execDecPictureDone (r : Fin 2) (syntaxErr conceal hashBad : Bool) (oobWrites oobReads : BitVec 32) (s : State) : Res :=
  .next (match s.decJob r with
    | some j =>
      if j.pic.buf.isNone then s
      else
        let s1 := if syntaxErr then s.decErr r (R.DEC_EVT_SYNTAX r) (E.decSyntax r) else s
        let oob := oobWrites.toNat + oobReads.toNat
        let s2 := if oob ≠ 0 then ((s1.set (R.DEC_EVT_OOB r) 1).addSat (R.DEC_OOB_CNT_CNT r) oob).raise (E.decOob r) else s1
        let s3 := if hashBad ∧ s2.inForce (R.DEC_CFG_HASH r) = 1 then s2.set (R.DEC_EVT_HASH_MM r) 1 else s2
        let part := conceal || decide (oobWrites.toNat ≠ 0)
        s3.decEnd j part (if part then 3 else 0)
    | none => s)

/-- DEC_WATCHDOG (R270, R271): a picture that runs is ended with its rest concealed; one that waits for a buffer is not
decoded. -/
def execDecWatchdog (r : Fin 2) (s : State) : Res :=
  .next (match s.decJob r with
    | some j =>
      if s.isolated (8 + r) then s
      else if j.pic.buf.isSome then (s.decErr r (R.DEC_EVT_WD r) (E.decWatchdog r)).decEnd j true 5
      else
        let s1 : State := { s with decJobs := s.decJobs.filter (fun x => decide (x.r ≠ r.val)) }
        (((s1.endJob (decJobOf j) 4).set (R.DEC_EVT_NOBUF r) 1).set (R.DEC_STAT_STATE r) 2).raise (E.decNobuf r)
    | none => s)

/-! ### Output (R274 to R276) -/

/-- Tray address of a slot of the descriptor ring. -/
def State.decSlot (s : State) (r k : Nat) : Nat := s.inForce (R.DEC_OUT_GRAN r) * granBytes + 128 * k

/-- The CTAGS of an output picture (R267, R274). -/
def DecPic.tags (p : DecPic) : Nat :=
  let a := if p.part || p.refGen then setBit p.ctags 4 else p.ctags
  if p.taint then setBit a 5 else a

/-- The 128 bytes of an output descriptor (R275). -/
def State.decDesc (s : State) (p : DecPic) (seq : Nat) : List Byte :=
  let lay := planeLayout p.fmt p.width p.height
  let plane (i : Nat) : List Byte := match lay[i]? with
    | some y => leBytes 8 y.1 ++ leBytes 4 y.2 ++ zeros 4
    | none => zeros 16
  leBytes 4 p.tag ++ leBytes 1 p.fmt ++ leBytes 1 (p.buf.getD 0) ++ leBytes 1 (ofBool p.irap + 2 * ofBool p.reached) ++
  leBytes 1 p.r ++ p.desc ++ leBytes 4 (unsigned 32 p.poc) ++ leBytes 2 p.tags ++ zeros 2 ++ leBytes 4 seq ++
  plane 0 ++ plane 1 ++ plane 2 ++ p.fsTime ++ timeBytes s.now ++
  (List.range 16).map (fun q => if bit (s.inForce (R.DEC_CFG_READERS p.r)) q then 0 else 1) ++ zeros 8

/-- DEC_OUTPUT: the first picture that waits takes the next slot, when its RELEASED bytes are all 1. -/
def execDecOutput (r : Fin 2) (s : State) : Res :=
  .next (
    let k := s.get (I.DEC_NEXT r) % max 1 (s.inForce (R.DEC_OUT_DEPTH r))
    let a := s.decSlot r k
    let free := s.decOut.all (fun e => decide (e.2.1 ≠ a)) || (s.trayRead (a + 0x68) 16).all (fun x => decide (x = 1))
    match s.decs.find? (fun p => decide (p.r = r.val) && p.bumped) with
    | some p =>
      if !free ∨ s.isolated (8 + r) then s
      else
        let seq := s.get (I.DEC_SEQ r) + 1
        let s1 := s.trayPut (8 + r) a (s.decDesc p seq)
        let s2 : State := { s1 with
          decs := s1.decs.map (fun q => if q = p then { q with bumped := false } else q)
          decOut := s1.decOut.filter (fun e => decide (e.2.1 ≠ a)) ++ [(r.val, a, p.buf.getD 0)] }
        let s3 := s2.sets [(I.DEC_NEXT r, (k + 1) % max 1 (s.inForce (R.DEC_OUT_DEPTH r))), (I.DEC_SEQ r, seq),
          (R.DEC_STAT_TAINT r, ofBool p.taint)]
        let s4 := if s3.inForce (R.DEC_FENCE_EN r) = 1 then
            s3.trayPut (8 + r) (64 * s3.inForce (R.DEC_FENCE_WORD r)) (leBytes 4 seq)
          else s3
        ((s4.raise (E.decOut r)).decPrune).decKick r
    | none => s)

/-! ### Start and cut (R265, R277) -/

/-- The decoder is cut: picture in progress and DPB go; descriptors stay. -/
def State.decCut (s : State) (r : Nat) : State :=
  let s1 := match s.decJob r with
    | some j => s.endJob (decJobOf j) 1
    | none => s
  let s2 : State := { s1 with
    decJobs := s1.decJobs.filter (fun x => decide (x.r ≠ r))
    decs := s1.decs.filter (fun p => decide (p.r ≠ r)) }
  s2.sets [(R.DEC_STAT_STATE r, 0), (R.DEC_STAT_PENDING r, 0), (R.DEC_IN_RD_OFF r, 0), (I.DEC_SEQ r, 0), (I.DEC_UNSUP r, 0),
    (I.DEC_COVER r, 0)]

/-- EN in force has risen. -/
def State.decOn (s : State) (r : Nat) : State :=
  if s.inForce (R.DEC_CFG_EN r) = 1 ∧ s.get (R.DEC_STAT_STATE r) = 0 then
    s.set (R.DEC_STAT_STATE r) (if s.inForce (R.DEC_CFG_START r) = 1 then 2 else 1)
  else s

/-- DEC_DISABLE: EN clears; a commit that waits is applied at once (spec/22 R505). -/
def execDecDisable (r : Fin 2) (s : State) : Res :=
  .next (s.hostToBead (8 + r) 4 fun s =>
    (((s.set (R.DEC_CFG_EN r) 0).setInf (R.DEC_CFG_EN r) 0).decCut r).commitAt (8 + r) 4 (decRules r))

end Sys2Proof.Machine
end

