-- ==== Sys2Proof/Machine/Nvme.lean ====
section
/-!
DEFINITION. NVMe as NVQ uses it (spec/08 R215, R223): the members of a volume, the queue pairs of a drive, the commands and their
transfers.
-/

namespace Sys2Proof.Machine

/-- Change what RRC holds. -/
def State.modRec (s : State) (g : Rec → Rec) : State := { s with recd := g s.recd }

/-- Is it a Write of the NVM command set? -/
def NvOp.isWrite : NvOp → Bool
  | .write _ | .directory | .volume => true
  | _ => false

/-- Does it move the media's data: an I/O command (R223)? Others are admin commands. -/
def NvOp.isIo : NvOp → Bool
  | .write _ | .directory | .volume | .flush | .deallocate | .read _ => true
  | _ => false

/-- Is it an Abort? -/
def NvOp.isAbort : NvOp → Bool
  | .abort _ => true
  | _ => false

/-- One ×16 root port, or four ×4 (spec/02 R61). -/
def State.rpSplit (s : State) : Bool := decide (s.strg.limit 0x0051 10 0 1 = 1)

/-- The drive of a member (R215). -/
def State.recDrive (s : State) (m : Nat) : Nat := if s.rpSplit then s.get (R.REC_MEMBER_DRIVE m) else 0

/-- I/O queue pairs of a drive; the commands that a pair holds at once, one fewer than its entries (R223). -/
def State.nvPairs (s : State) (d : Nat) : Nat := s.get (R.NVQ_CFG_QUEUES d) + 1
def State.nvRoom (s : State) (d pair : Nat) : Nat := (if pair = 0 then 32 else 2 ^ s.get (R.NVQ_CFG_QDEPTH d)) - 1

/-- Queue a command for a drive. -/
def State.nvIssue (s : State) (d : Nat) (a : NvAsk) : State :=
  let id := s.recd.nextCmd
  let pair := if a.op.isIo then 1 + Config.nvPair id % s.nvPairs d else 0
  s.modRec (fun r => { r with cmds := r.cmds ++ [⟨id, d, pair, a, false, false, false, false⟩], nextCmd := id + 1 })

/-- Queue a command for a member. -/
def State.nvMember (s : State) (a : NvAsk) : State :=
  s.nvIssue (s.recDrive a.member) { a with nsid := s.get (R.REC_MEMBER_NSID a.member) }

/-- A ready drive gets a command that its pair has room for. -/
def State.nvSend (s : State) (id : Nat) : State :=
  match s.recd.cmds.find? (fun c => decide (c.id = id)) with
  | some c =>
    let busy := (s.recd.cmds.filter (fun e => decide (e.drive = c.drive ∧ e.pair = c.pair) && e.sent)).length
    if c.sent || decide (s.get (R.NVQ_STAT_STATE c.drive) ≠ 2) || decide (s.nvRoom c.drive c.pair ≤ busy) then s
    else (s.modRec (fun r => { r with cmds := r.cmds.map (fun e => if e.id = id then { e with sent := true } else e) })).emit
      (.nvme c.drive c.pair c.ask)
  | none => s

/-- Every drive gets what its pairs have room for, in order. -/
def State.nvPump (s : State) : State := s.recd.cmds.foldl (fun (s : State) c => s.nvSend c.id) s

/-! ### The volume's blocks (R215) -/

/-- Blocks in a chunk (R215, R216). -/
def chunkBlocks (c : Nat) : Nat := if c = 0 then 64 else if c = 1 then 256 else 1024

/-- Where a volume block lies with `b` blocks per chunk and `m` members: member and LBA (R215). -/
def volPlace (b m v : Nat) : Nat × Nat := (v / b % m, v / b / m * b + v % b)

/-- Blocks that one transfer of a drive takes at most: 1 MiB, or its MDTS (R223). -/
def State.nvLimit (s : State) (d : Nat) : Nat :=
  if s.get (I.NVQ_MDTS d) = 0 then 256 else min 256 (2 ^ s.get (I.NVQ_MDTS d))

/-- The transfers of a run of `len` blocks from block `v`: its first volume block, and what a command asks. -/
def State.recPieces (s : State) (op : Nat → NvOp) : Nat → Nat → Nat → List NvAsk
  | 0, _, _ => []
  | fuel + 1, v, len =>
    if len = 0 then []
    else
      let b := s.recd.chunk
      let p := volPlace b s.recd.members v
      let n := max 1 (min len (min (b - v % b) (s.nvLimit (s.recDrive p.1))))
      ⟨op v, p.1, 0, p.2, n⟩ :: s.recPieces op fuel (v + n) (len - n)

/-- Queue the transfers of a run of blocks. -/
def State.volMove (s : State) (op : Nat → NvOp) (v len : Nat) : State :=
  ((s.recPieces op len v len).foldl (fun (s : State) a => s.nvMember a) s).nvPump

/-- Write blocks of the volume. -/
def State.volWrite (s : State) (blk : Nat) (data : List Byte) (op : NvOp) : State :=
  let len := ceilDiv data.length 4096
  (s.emit (.volume blk (slice data 0 (len * 4096)))).volMove (fun _ => op) blk len

/-- One command for every member. -/
def State.volAll (s : State) (a : NvAsk) : State :=
  ((List.range s.recd.members).foldl (fun (s : State) m => s.nvMember { a with member := m }) s).nvPump

/-- Flush every member. -/
def State.volFlush (s : State) : State := s.volAll ⟨.flush, 0, 0, 0, 0⟩

/-- What NVQ gives a controller that has become ready, before I/O: Identify, the features, the health log, its queue pairs (R223). -/
def nvStart (pairs : Nat) : List NvOp :=
  [.identify 1, .identify 2, .setFeature 7, .getFeature 6, .setFeature 6, .logPage 2] ++
    (List.range pairs).flatMap (fun q => [.createCq (q + 1), .createSq (q + 1)])

/-- What NVQ gives a controller that it lets go: its queue pairs are deleted. -/
def nvEnd (pairs : Nat) : List NvOp := (List.range pairs).flatMap (fun q => [.deleteSq (q + 1), .deleteCq (q + 1)])

/-- Admin commands of a drive's start or end. -/
def State.nvAdmin (s : State) (d : Nat) (l : List NvOp) : State :=
  l.foldl (fun (s : State) op => s.emit (.nvme d 0 ⟨op, 0, 0, 0, 0⟩)) s

end Sys2Proof.Machine
end

