-- ==== Sys2Proof/Machine/Recorder.lean ====
section
/-!
DEFINITION. The recorder (spec/08): the coders' jobs, the recorder ring, the log of the volume, pre-roll, faults of drives.
-/

namespace Sys2Proof.Machine

/-- Change a take. -/
def State.modTake (s : State) (n : Nat) (g : Take → Take) : State :=
  s.modRec (fun r => { r with takes := r.takes.map (fun t => if t.num = n then g t else t) })

/-! ### Sources and stripes (spec/08 R204) -/

/-- The ports recorded under a SRC: 0, 1, 2 for the pair. -/
def recPorts (src : Nat) : List Nat := if src = 3 then [0, 1] else [src]

/-- Stripes of a recorded frame. -/
def recStripes (src : Nat) : Nat := if src = 3 then 2 else 4

/-- The coders of a port. -/
def recCoders (src port : Nat) : List Nat := if src = 3 then [2 * port, 2 * port + 1] else [0, 1, 2, 3]

/-- The stripe that a coder runs. -/
def coderStripe (src coder : Nat) : Nat := if src = 3 then coder % 2 else coder

/-- Width of the frame that a recorded port delivers: the pair's is both halves (R98). -/
def recWidth (ask : Fld → Nat) (port : Nat) : Nat :=
  if port = 2 then 2 * ask (R.LINK_CTL_WIDTH 0) else ask (R.LINK_CTL_WIDTH port) * (1 + ask (R.LINK_CTL_PAIR port))

/-- Commit rules of RRC (R205, rules 0x40 to 0x45). -/
def rrcRules (s : State) (ask : Fld → Nat) (_d : Nat) : List (Nat × Bool) :=
  let src := ask R.REC_CFG_SRC
  let ports := recPorts src
  let sp (p : Nat) := if p = 2 then 0 else p
  let cr (p : Nat) := coreWidth (recWidth ask p) (recStripes src)
  let lines (p : Nat) := ask (R.FRM_CFG_LINES (sp p)) + ask (R.FRM_CFG_OB_LINES (sp p))
  let ckDiv := match s.strg.rodSec 10 with | some r => r.ckDiv | none => 1
  let fixed := [R.REC_CFG_SRC, R.REC_CFG_MODE, R.REC_CFG_E_BOUND, R.REC_CFG_T1] ++
    (List.range 2).flatMap (fun p => [R.REC_MOSAIC_PX p, R.REC_MOSAIC_PY p] ++
      (List.range 8).flatMap (fun j => (List.range 8).map (fun i => R.REC_MAP_CLS p j i)))
  [(0x40, ports.all (fun p => decide (cr p ≤ 6400))),
   (0x41, ports.all (fun p => decide
      (cr p * lines p * ckDiv * 10 ≤ 96 * s.strg.limit 0x0003 1 (sp p) 4166666))),
   (0x42, decide ((ask R.REC_CFG_MODE = 1 → 1 ≤ ask R.REC_CFG_E_BOUND) ∧
      (ask R.REC_CFG_MODE = 2 → 1 ≤ ask R.REC_CFG_E_MAX))),
   (0x43, (List.range 2).all (fun p => (List.range (ask (R.REC_MOSAIC_PY p))).all (fun j =>
      (List.range (ask (R.REC_MOSAIC_PX p))).all (fun i => decide (ask (R.REC_MAP_CLS p j i) ≤ 5))))),
   (0x44, decide (s.get R.REC_STAT_STATE ≠ 2) || fixed.all (fun f => decide (ask f = s.inForce f))),
   (0x45, ports.all (fun p => decide (
      ask R.REC_RING_PREROLL + 3 ≤ s.get (R.RAW_RING_DEPTH (sp p)))))]

/-- A commit that waits is applied at once while the recorder is not RECORDING (spec/22 R505). -/
def State.recIdle (s : State) : State := if s.get R.REC_STAT_STATE = 2 then s else s.commitAt 10 0 rrcRules

/-! ### Records (spec/08 R217 to R222) -/

/-- A record's bytes, padded to whole blocks. -/
def recBytes (kind take seq tag prev : Nat) (time : Time) (body : List Byte) : List Byte :=
  let len := ceilDiv (64 + body.length) 4096
  let h := leBytes 4 0x4C525856 ++ leBytes 1 kind ++ zeros 1 ++ leBytes 2 take ++ leBytes 8 seq ++ leBytes 4 len ++
    leBytes 4 body.length ++ leBytes 4 tag ++ leBytes 8 prev ++ timeBytes time ++ leBytes 4 (crc32c body) ++ zeros 8
  slice (h ++ leBytes 4 (crc32c h) ++ body) 0 (len * 4096)

/-- Append a record to the log; its REC_EXTENT job begins (R231). -/
def State.recAppend (s : State) (take kind tag : Nat) (body : List Byte) : State :=
  let seq := s.recd.seq
  let blk := s.recd.head
  let prev := ((s.recd.takes.find? (fun t => decide (t.num = take))).map (·.lastIndex)).getD 0
  let data := recBytes kind take seq tag prev s.now body
  let len := data.length / 4096
  let s1 := s.modRec (fun r => { r with
    seq := r.seq + 1, head := r.head + len,
    recs := r.recs ++ [⟨seq, kind, take, tag, blk, len, if kind = 2 then len else 0⟩] })
  (s1.beginJob ⟨10, 4, 5, seq % 2 ^ 32, tag⟩).volWrite blk data (.write seq)

/-- The 64 bytes of a directory entry (R217). -/
def dirEntry (t : Take) (st frames lastIndex lastTag : Nat) : List Byte :=
  let h := leBytes 2 t.num ++ leBytes 1 st ++ leBytes 1 t.port ++ zeros 4 ++ leBytes 8 ((t.opened.map (·.1)).getD 0) ++
    leBytes 8 lastIndex ++ leBytes 4 frames ++ leBytes 4 ((t.opened.map (·.2)).getD 0) ++ leBytes 4 lastTag ++
    timeBytes t.start ++ zeros 12
  h ++ leBytes 4 (crc32c h)

/-- Rewrite a directory entry: its block goes to the volume. -/
def State.recDir (s : State) (n : Nat) (e : List Byte) : State :=
  let s1 := s.modRec (fun r => { r with dir := mapIns natLt (mapErase r.dir n) n e })
  let blk := n / 64
  s1.volWrite (2 * s.recd.chunk + blk)
    ((List.range 64).flatMap (fun i => mapGet (zeros 64) s1.recd.dir (blk * 64 + i))) .directory

/-- The take of a number. -/
def State.take (s : State) (n : Nat) : Option Take := s.recd.takes.find? (fun t => decide (t.num = n))

/-- The body of TAKE_OPEN (R219). -/
def State.takeOpenBody (s : State) (t : Take) (f : Frame) (firstTag preroll : Nat) : List Byte :=
  let p := if t.port = 2 then 0 else t.port
  let px := s.inForce (R.REC_MOSAIC_PX p)
  let py := s.inForce (R.REC_MOSAIC_PY p)
  let off := decide (s.get (R.EXS_CTL_MODE p) = 0)
  leBytes 1 t.port ++ leBytes 1 (10 + 2 * f.depth) ++ leBytes 1 f.dcg ++ leBytes 1 px ++
  leBytes 1 py ++ leBytes 1 (s.inForce R.REC_CFG_MODE) ++ leBytes 1 (s.inForce R.REC_CFG_E_BOUND) ++
  leBytes 1 (s.inForce R.REC_CFG_E_MAX) ++
  leBytes 2 f.width ++ leBytes 2 f.lines ++ leBytes 1 f.obLines ++ leBytes 1 (recStripes (s.inForce R.REC_CFG_SRC)) ++ zeros 2 ++
  leBytes 4 (if off then 0 else s.inForce (R.EXS_RATE_NUM p)) ++ leBytes 2 (if off then 0 else s.inForce (R.EXS_RATE_DEN p)) ++
  zeros 2 ++ leBytes 4 (s.inForce R.REC_BUDGET_KIB) ++ leBytes 2 (s.inForce R.REC_CFG_T1) ++ zeros 2 ++
  leBytes 4 firstTag ++ leBytes 2 preroll ++ zeros 2 ++ timeBytes t.start ++ zeros 4 ++ leBytes 8 s.fuses.serial ++
  leBytes 4 (s.get R.IMAGE_ID_ID) ++ zeros 12 ++
  (List.range 8).flatMap (fun j => (List.range 8).flatMap (fun i =>
    leBytes 1 (if j < py ∧ i < px then s.inForce (R.REC_MAP_CLS p j i) else 0xFF)))

/-- A take opens on the media (R222): its TAKE_OPEN record, and its directory entry with it. -/
def State.recOpen (s : State) (t : Take) (f : Frame) (firstTag : Nat) (pre : List Nat) : State :=
  let t1 := { t with opened := some (s.recd.head, firstTag), todo := pre }
  ((s.recAppend t.num 1 0 (s.takeOpenBody t f firstTag pre.length)).modTake t.num (fun _ => t1)).recDir t.num (dirEntry t1 1 0 0 0)

/-- An entry of an INDEX body (R221). -/
def IdxEnt.bytes (e : IdxEnt) : List Byte := leBytes 4 e.tag ++ leBytes 8 e.block ++ leBytes 3 e.len ++ leBytes 1 e.flags

/-- Append an INDEX record of a take's entries, and queue what follows it (R222). -/
def State.recIndex (s : State) (n : Nat) : State :=
  match s.take n with
  | some t =>
    let blk := s.recd.head
    let seq := s.recd.seq
    let frames := t.count + t.idx.length
    let last := (t.idx.getLast?.map (·.tag)).getD t.lastTag
    let s1 := s.recAppend n 3 0 (leBytes 4 t.idx.length ++ zeros 12 ++ t.idx.flatMap IdxEnt.bytes)
    (s1.modTake n (fun t => { t with lastIndex := blk, idx := [], count := frames, lastTag := last })).modRec
      (fun r => { r with posts := r.posts ++ [⟨n, seq, blk, frames, last, false, 0⟩] })
  | none => s

/-- Add an entry to a take's index; an INDEX record follows every 1,024 entries. -/
def State.recEntry (s : State) (n : Nat) (e : IdxEnt) : State :=
  let s1 := s.modTake n (fun t => { t with idx := t.idx ++ [e] })
  match s1.take n with
  | some t => if t.idx.length = 1024 then s1.recIndex n else s1
  | none => s1

/-- Append the closing records of a take: the final INDEX and TAKE_CLOSE. -/
def State.recSeal (s : State) (t : Take) (reason : Nat) : State :=
  let s1 := s.recIndex t.num
  let t1 := (s1.take t.num).getD t
  let seq := s1.recd.seq
  let s2 := s1.recAppend t.num 4 0 (slice (leBytes 4 t1.count ++ leBytes 4 t1.lastTag ++ timeBytes s.now ++ leBytes 1 reason) 0 32)
  (s2.modTake t.num (fun t => { t with sealed := true })).modRec
    (fun r => { r with posts := r.posts ++ [⟨t.num, seq, t1.lastIndex, t1.count, t1.lastTag, true, 0⟩] })

/-- The take's first frame has not come: its TAKE_OPEN goes to the log before its close. -/
def State.recOpenEmpty (s : State) (t : Take) : State :=
  if t.opened.isSome then s
  else
    let p := if t.port = 2 then 0 else t.port
    let f : Frame :=
      { tag := 0, fcnt := 0, port := t.port, width := recWidth s.inForce t.port,
        lines := s.inForce (R.FRM_CFG_LINES p), obLines := s.inForce (R.FRM_CFG_OB_LINES p),
        depth := (s.rawDepth p - 10) / 2, dcg := ofBool (s.dcg p), fsTime := s.now }
    s.recOpen t f 0 []

/-- Takes that are to close do so once their frames are in the log. -/
def State.recSettle (s : State) : State :=
  s.recd.takes.foldl (fun s t =>
    match t.closing with
    | some reason =>
      if !t.sealed && t.todo.isEmpty && s.recd.frames.all (fun f => decide (f.take ≠ t.num)) then
        let s1 := s.recOpenEmpty t
        s1.recSeal ((s1.take t.num).getD t) reason
      else s
    | none => s) s

/-- Is a command outstanding that writes no record, Aborts apart? What follows an INDEX or a close goes stage by stage (R222). -/
def Rec.staged (r : Rec) : Bool :=
  r.cmds.any (fun c => match c.ask.op with | .write _ | .abort _ => false | _ => true)

/-- The next stage of what waits first, once the commands of the stage before are done. -/
def State.recStage (s : State) : State :=
  match s.recd.posts with
  | [] => s
  | p :: rest =>
    if s.recd.staged then s
    else
      let setStage (s : State) (k : Nat) : State := s.modRec (fun r => { r with posts := { p with stage := k } :: rest })
      let dir (s : State) (st : Nat) : State :=
        match s.take p.take with
        | some t => s.recDir p.take (dirEntry t st p.frames p.blk p.lastTag)
        | none => s
      if p.stage = 0 then
        if s.recd.recs.any (fun r => decide (r.seq = p.seq)) then s
        else if p.close then dir (setStage s 2) 2 else (setStage s 1).volFlush
      else if p.stage = 1 then dir (setStage s 2) 1
      else if p.stage = 2 then (setStage s 3).volFlush
      else
        let s1 := s.modRec (fun r => { r with posts := rest })
        if p.close then s1.modRec (fun r => { r with takes := r.takes.filter (fun t => decide (t.num ≠ p.take)) })
        else s1.set R.REC_FLUSHED_TAG p.lastTag

/-- As many stages as can go now: a stage that gives a drive commands waits for them, and one without lets the next begin. -/
def State.recAdvance (s : State) : State :=
  (List.range (4 * s.recd.posts.length)).foldl (fun (s : State) _ => s.recStage) s

/-- A record is complete when every Write that covers it is (R222): its REC_EXTENT job ends, its room in the ring returns. -/
def State.recDone (s : State) : State :=
  (s.recd.recs.filter (fun r => s.recd.cmds.all (fun c => decide (c.ask.op ≠ .write r.seq)))).foldl
    (fun s r =>
      let s1 := (s.modRec (fun q => { q with recs := q.recs.erase r })).endJob ⟨10, 4, 5, r.seq % 2 ^ 32, r.tag⟩ 0
      if r.kind = 2 then s1.set R.REC_LAST_TAG r.tag else s1) s

/-- What follows a change of the commands, frames or takes. -/
def State.recFlow (s : State) : State := s.recSettle.recDone.recAdvance.nvPump

/-! ### The ring (spec/08 R214) -/


/-- Blocks reserved for each stripe of a frame. -/
def State.ringNeed (s : State) (f : Frame) : List (Nat × Nat) :=
  let src := s.inForce R.REC_CFG_SRC
  let n := recStripes src
  (List.range n).map (fun k =>
    let cap := if s.inForce R.REC_CFG_MODE = 2 then s.inForce R.REC_BUDGET_KIB * 1024
      else ceilDiv ((f.obLines + f.lines) * (stripeSpan f.width n k).2 * (1 + f.dcg) * rscLimit (10 + 2 * f.depth)) 8
    (k, ceilDiv (128 + cap) 4096))

/-- Bytes of the first part of a FRAME record before its embedded data. -/
def Frame.recHead (f : Frame) : Nat := 64 + 0x60 + ceilDiv f.lines 64 * 8 + 8

/-- Blocks of the first part of a FRAME record. -/
def Frame.recFirst (f : Frame) : Nat := ceilDiv (f.recHead + f.emb.length) 4096

/-- Blocks that a frame in the ring takes for its first part: with the embedded data that has come (R214). -/
def State.recFirstNow (s : State) (q : RecFrame) : Nat := max q.first (((s.frame q.tag).map Frame.recFirst).getD 0)

/-- Blocks of the ring that are taken. -/
def State.ringTaken (s : State) : Nat :=
  s.recd.frames.foldl (fun a f => a + s.recFirstNow f + f.held.foldl (fun b h => b + h.2) 0) 0 +
    s.recd.recs.foldl (fun a q => a + q.ring) 0

/-- Free blocks of the ring. -/
def State.ringFree (s : State) : Nat := s.strg.regionSize (s.inForce R.REC_RING_REGION) / 4096 - s.ringTaken

/-- Blocks that a reservation takes. -/
def needBlocks (first : Nat) (l : List (Nat × Nat)) : Nat := l.foldl (fun a h => a + h.2) first

/-- Begin the coders' jobs of a frame (R231). -/
def State.rawJobs (s : State) (src : Nat) (t : Take) (tag : Nat) (pre : Bool) : State :=
  (recCoders src t.port).foldl (fun s n =>
    s.beginJob ⟨10, n, 4, coderStripe src n + (if pre then 4 else 0), tag⟩) s

/-- A frame is dropped: an entry with DROPPED (R214, R230). -/
def State.recDropped (s : State) (take tag : Nat) (pre : Bool) : State :=
  s.recEntry take ⟨tag, 0, 0, 8 + (if pre then 4 else 0)⟩

/-- Is a take to record the frame starts of its port now? A frame start after RECORD was written counts (R226). -/
def Take.live (t : Take) (port : Nat) : Bool := decide (t.port = port) && t.closing.isNone

/-- The pre-roll frames of a port (R230): the most recent `p` that its raw store still holds, oldest first. -/
def State.prerollOf (s : State) (port tag p : Nat) : List Nat :=
  (((s.frames.filter (fun f => decide (f.port = port ∧ f.tag ≠ tag) && f.closed && !f.gone)).take p).map (·.tag)).reverse

/-- All takes close with a REASON (R222, R225 to R227). -/
def State.recClose (s : State) (reason : Nat) : State :=
  s.modRec (fun r => { r with takes := r.takes.map (fun t => if t.closing.isNone then { t with closing := some reason } else t) })

/-- A frame start on a recorded port (R214, R222, R226). -/
def State.recFrameStart (s : State) (f : Frame) : State :=
  match s.recd.takes.find? (fun t => t.live f.port) with
  | none => s
  | some t =>
    let src := s.inForce R.REC_CFG_SRC
    let p := if f.port = 2 then 0 else f.port
    let pre := s.prerollOf f.port f.tag (min (s.inForce R.REC_RING_PREROLL) (s.get (R.RAW_RING_DEPTH p)))
    let s1 := if t.opened.isSome then s else s.recOpen t f f.tag pre
    let need := s1.ringNeed f
    let n := needBlocks 1 need
    let pend := s1.recd.frames.foldl (fun a g => needBlocks (a + s1.recFirstNow g) g.held) 0
    if s1.recd.cap < s1.recd.head + pend + n + 16 then
      (((((s1.recClose 1).set R.REC_EVT_VOL_FULL 1).set R.REC_STAT_STATE 1).raise E.recVolumeFull).recFlow).recIdle
    else if s1.ringFree < n then
      (((s1.recDropped t.num f.tag false).set R.REC_EVT_DROP 1).inc R.REC_EVT_DROP_CNT).raise E.recDrop |>.recFlow
    else
      (s1.modRec (fun r => { r with frames := r.frames ++
        [⟨t.num, f.tag, false, 1, need, s1.inForce R.REC_BUDGET_KIB * 1024, s1.inForce R.REC_CFG_E_MAX, [], false⟩] })).rawJobs
        src t f.tag false

/-! ### The end of a stripe (spec/08 R212, R220) -/

/-- The codec's parameters for a stripe of a frame. -/
def State.rscPar (s : State) (f : Frame) (q : RecFrame) (k : Nat) : RscPar :=
  let p := if f.port = 2 then 0 else f.port
  let n := recStripes (s.inForce R.REC_CFG_SRC)
  let sp := stripeSpan f.width n k
  { d := 10 + 2 * f.depth, mode := s.inForce R.REC_CFG_MODE, eBound := s.inForce R.REC_CFG_E_BOUND, eMax := q.eMax,
    t1 := s.inForce R.REC_CFG_T1, budget := q.budget, px := s.inForce (R.REC_MOSAIC_PX p), py := s.inForce (R.REC_MOSAIC_PY p),
    cls := fun i j => s.inForce (R.REC_MAP_CLS p j i), first := sp.1, cols := sp.2, planes := 1 + f.dcg,
    total := f.obLines + f.lines }

/-- A line for a coder: from the stream, or from the raw store for pre-roll. -/
def State.coderLine (s : State) (f : Frame) (pre ob : Bool) (i : Nat) : List Byte :=
  if pre then
    s.storeLine f (if ob then i else f.obLines + i)
  else mapGet [] (if ob then f.ob else f.data) i

/-- The body of a FRAME record (R220), with the stripes behind its first part. -/
def frameBody (f : Frame) (coded : List (Nat × List Byte)) (pre : Bool) : List Byte :=
  let first := f.recFirst
  let pads := coded.map (fun c => slice c.2 0 (roundUp c.2.length 4096))
  let blks := (List.range 4).map (fun k =>
    if k < pads.length then first + (pads.take k).foldl (fun a c => a + c.length / 4096) 0 else 0)
  let head := f.bytes ++ leBytes 4 f.emb.length ++ leBytes 1 pads.length ++ leBytes 1 (ofBool pre) ++ zeros 2 ++
    blks.flatMap (leBytes 4) ++ zeros 8 ++ f.lineMap ++
    leBytes 8 (f.ob.foldl (fun a o => setBit a o.1) 0) ++ f.emb
  slice head 0 (first * 4096 - 64) ++ pads.flatten

/-- The last stripe has ended: the FRAME record goes to the log and the frame into the index. -/
def State.recFrameEnd (s : State) (f : Frame) (q : RecFrame) : State :=
  let f1 := if q.exhausted then { f with ctags := setBit f.ctags 6 } else f
  let body := frameBody f1 ((List.range q.coded.length).map (fun k => (k, mapGet [] q.coded k))) q.pre
  let blk := s.recd.head
  let s1 := (s.modRec (fun r => { r with frames := r.frames.filter (fun g => decide (¬(g.tag = q.tag ∧ g.take = q.take))) })).recAppend
    q.take 2 f.tag body
  s1.recEntry q.take ⟨f.tag, blk, s1.recd.head - blk,
    ofBool q.exhausted + 2 * ofBool (decide (f1.ctags ≠ 0)) + 4 * ofBool q.pre⟩

/-- A coder ends its oldest stripe of a context. The frame must have closed, since its lines are then all delivered. -/
def State.stripeEnd (s : State) (coder : Nat) (pre : Bool) : State :=
  let src := s.inForce R.REC_CFG_SRC
  let k := coderStripe src coder
  match s.recd.frames.find? (fun q => decide (q.pre = pre) && q.coded.all (fun c => decide (c.1 ≠ k)) &&
      (match s.take q.take with | some t => (recCoders src t.port).contains coder | none => false)) with
  | none => s
  | some q =>
    match s.frame q.tag with
    | none => s
    | some f =>
      if !f.closed then s
      else
        let p := s.rscPar f q k
        let cut (l : List Byte) := lineSamples l p.d p.planes p.first p.cols
        let run := rscStripe p (f.ob.map (fun o => (o.1, cut (s.coderLine f pre true o.1))))
          (f.real.map (fun j => (j, cut (s.coderLine f pre false j))))
        let data := rscHeader p f.tag k (recStripes src) pre f.ob.length f.real.length run ++ run.out
        let exh := run.zr.isSome
        let q1 := { q with
          held := q.held.map (fun h => if h.1 = k then (k, ceilDiv data.length 4096) else h),
          coded := mapIns natLt q.coded k data, exhausted := q.exhausted || exh }
        let s1 := s.modRec (fun r => { r with frames := r.frames.map (fun g =>
          if g.tag = q.tag ∧ g.take = q.take then q1 else g) })
        let s2 := (s1.set (R.RSC_STAT_E_END coder) run.e).set (R.RSC_BYTES_LEN coder) run.out.length
        let s3 := if exh then ((s2.set (R.RSC_STAT_EXH coder) 1).set (R.RSC_STAT_ZR_ROWS coder)
            (run.n - run.zr.getD 0)).raise (E.rscBudget coder) else s2
        let s4 := s3.endJob ⟨10, coder, 4, k + (if pre then 4 else 0), f.tag⟩ (if exh ∨ f.ctags ≠ 0 then 3 else 0)
        (if q1.coded.length = q1.held.length then s4.recFrameEnd f q1 else s4).recFlow

/-- LNK overwrites a slot: the catch-up of its frame ends as cut, or never begins, and the frame is dropped from the
pre-roll (R230). -/
def State.recSlotLost (s : State) (tag : Nat) : State :=
  let src := s.inForce R.REC_CFG_SRC
  s.recd.takes.foldl (fun s t =>
    let busy := s.recd.frames.any (fun q => decide (q.tag = tag ∧ q.take = t.num) && q.pre)
    if t.todo.contains tag || busy then
      let s1 := (s.modTake t.num (fun t => { t with todo := t.todo.filter (fun x => decide (x ≠ tag)) })).modRec
        (fun r => { r with frames := r.frames.filter (fun q => !(decide (q.tag = tag ∧ q.take = t.num) && q.pre)) })
      let s2 := (recCoders src t.port).foldl (fun s n =>
        let j : Job := ⟨10, n, 4, coderStripe src n + 4, tag⟩
        if s.open j then s.endJob j 1 else s) s1
      (((s2.recDropped t.num tag true).set R.REC_EVT_PREROLL_LOST 1).raise E.recPrerollLost).recFlow
    else s) s

/-! ### Faults of drives (spec/08 R224) -/

/-- The volume is lost: open takes stay OPEN on the media. -/
def State.recLost (s : State) : State :=
  if s.get R.REC_STAT_STATE = 0 ∧ !s.on R.REC_STAT_BUSY then s
  else
    let ended (j : Job) : Bool := decide (j.rod = 10 ∧ (j.kind = 4 ∨ j.kind = 5))
    let was := s.on R.REC_STAT_BUSY
    let s1 : State := (s.jobs.filter ended).foldl (fun s j => s.endJob j (if j.kind = 4 then 1 else 2)) s
    let s2 := (s1.modRec (fun r => { nextCmd := r.nextCmd })).sets
      [(R.REC_STAT_STATE, 0), (R.REC_STAT_BUSY, 0), (R.REC_STAT_RESULT, 8), (I.REC_CODE, 0), (I.REC_FAIL, 0)]
    (s2.raiseIf was E.recCmdDone).recIdle

/-- Does the volume, or a command that runs, use a drive? -/
def State.recUses (s : State) (d : Nat) : Bool :=
  let m := if s.get R.REC_STAT_STATE = 0 then s.get R.REC_VOL_M + 1 else s.recd.members
  (List.range m).any (fun k => decide (s.recDrive k = d))

/-- A member faults. -/
def State.driveFault (s : State) (d : Nat) : State :=
  let s1 := ((s.set (R.NVQ_STAT_STATE d) 3).set (R.NVQ_STAT_FAULT_EV d) 1).raise (E.nvqFault d)
  let s2 := s1.modRec (fun r => { r with cmds := r.cmds.filter (fun c => decide (c.drive ≠ d)) })
  if s1.recUses d then s2.recLost else s2

/-- Change a command. -/
def State.modCmd (s : State) (id : Nat) (g : NvCmd → NvCmd) : State :=
  s.modRec (fun r => { r with cmds := r.cmds.map (fun c => if c.id = id then g c else c) })

/-- The command of a number that its drive has: an event of another is impossible. -/
def State.nvSent (s : State) (id : Nat) : Option NvCmd :=
  s.recd.cmds.find? (fun c => decide (c.id = id) && c.sent && decide (s.get (R.NVQ_STAT_STATE c.drive) = 2))

/-- NVME_CMD_TIMEOUT (R224): Abort first, then a reset of the controller; a command that failed before faults the member. -/
def execNvmeCmdTimeout (id : Nat) (s : State) : Res :=
  .next (match s.nvSent id with
    | none => s
    | some c =>
      if c.ask.op.isAbort then s
      else
        let s1 := ((s.set (R.NVQ_STAT_TIMEOUT_EV c.drive) 1).inc (R.NVQ_STAT_TO_CNT c.drive)).raise (E.nvqTimeout c.drive)
        if !c.aborted then
          ((s1.modCmd id (fun c => { c with aborted := true })).nvIssue c.drive ⟨.abort id, 0, 0, 0, 0⟩).nvPump
        else if c.failed then s1.driveFault c.drive
        else
          ((s1.modCmd id (fun c => { c with failed := true, aborted := false })).modRec (fun r => { r with
            cmds := r.cmds.filter (fun e => decide (e.drive ≠ c.drive) || !e.ask.op.isAbort) })).set (R.NVQ_STAT_STATE c.drive) 1)

/-- NVQ_ENABLE (R223): the root port comes up and the drive is initialised. -/
def execNvqEnable (d : Fin 4) (s : State) : Res :=
  .next (s.hostToBead 10 4 fun s =>
    if s.on (R.NVQ_CFG_EN d) then s else (s.set (R.NVQ_CFG_EN d) 1).set (R.NVQ_STAT_STATE d) 1)

/-- NVQd.CFG.EN is cleared: the drive's queue pairs go, and the drive is ABSENT. -/
def State.nvqDisable (s : State) (d : Nat) : State :=
  (if s.get (R.NVQ_STAT_STATE d) = 2 then s.nvAdmin d (nvEnd (s.nvPairs d)) else s).sets
    [(R.NVQ_CFG_EN d, 0), (R.NVQ_STAT_STATE d, 0)]

/-- NVQ_READY (R223, R224): a controller is ready; its Identify data give MDTS. After a reset of the controller every outstanding
command is reissued, once. -/
def execNvqReady (d : Fin 4) (mdts : Fin 256) (s : State) : Res :=
  .next (if s.get (R.NVQ_STAT_STATE d) = 1 then
    let mine := s.recd.cmds.filter (fun c => decide (c.drive = d.val) && c.sent)
    if mine.any (fun c => c.reissued) then s.driveFault d
    else
      let s1 := s.modRec (fun r => { r with cmds := r.cmds.map (fun c =>
        if c.drive = d.val then { c with reissued := c.reissued || c.sent, aborted := false, sent := false } else c) })
      (((((s1.addSat (R.NVQ_STAT_RETRY_CNT d) (mine.filter (fun c => c.ask.op.isWrite)).length).set
        (R.NVQ_STAT_STATE d) 2).set (I.NVQ_MDTS d) mdts).nvAdmin d (nvStart (s.nvPairs d))).raise (E.nvqReady d)).nvPump
  else s)

/-- NVQ_READY_TIMEOUT (R224). -/
def execNvqReadyTimeout (d : Fin 4) (s : State) : Res :=
  .next (if s.get (R.NVQ_STAT_STATE d) = 1 then s.driveFault d else s)

/-- RP_LINK_DOWN (R224): the drive of the root port faults. One ×16 port is RP0. -/
def execRpLinkDown (rp : Fin 4) (s : State) : Res :=
  let st := s.get (R.NVQ_STAT_STATE rp)
  .next (if (st = 1 ∨ st = 2) ∧ (s.rpSplit ∨ rp.val = 0) then s.driveFault rp else s)

/-- RSC_STRIPE_END. -/
def execRscStripeEnd (coder : Fin 4) (catchUp : Bool) (s : State) : Res := .next (s.stripeEnd coder catchUp)

/-- PREROLL_CATCH_START (R230): the oldest waiting pre-roll frame of a port takes its room in the ring and its jobs begin.
`sp` 2 is the pair. -/
def execPrerollCatchStart (sp : Fin 3) (s : State) : Res :=
  .next (match s.recd.takes.find? (fun t => decide (t.port = sp.val) && !t.todo.isEmpty) with
    | none => s
    | some t =>
      match t.todo with
      | [] => s
      | tag :: rest =>
        match s.frame tag with
        | none => s
        | some f =>
          let need := s.ringNeed f
          if s.recd.frames.any (fun q => decide (q.take = t.num) && q.pre) then s
          else if s.ringFree < needBlocks f.recFirst need then s
          else
            ((s.modTake t.num (fun t => { t with todo := rest })).modRec (fun r => { r with frames := r.frames ++
              [⟨t.num, tag, true, f.recFirst, need, s.inForce R.REC_BUDGET_KIB * 1024, s.inForce R.REC_CFG_E_MAX, [], false⟩] })).rawJobs
              (s.inForce R.REC_CFG_SRC) t tag true)

end Sys2Proof.Machine
end

