-- ==== Sys2Proof/Machine/Exposure.lean ====
section
/-!
DEFINITION. The frame schedule and the exposure queue (spec/05 R129 to R138).
-/

namespace Sys2Proof.Machine

/-- Change what LNK holds. -/
def State.modLnk (s : State) (g : Lnk → Lnk) : State := { s with lnk := g s.lnk }

/-- The register index of a logical port: the pair uses port 0's. -/
def sp (p : Nat) : Nat := if p = 2 then 0 else p

/-- Pair mode is in force. -/
def State.pairOn (s : State) : Bool := decide (s.inForce (R.LINK_CTL_PAIR 0) ≠ 0 ∧ s.inForce (R.LINK_CTL_PAIR 1) ≠ 0)

/-- The logical port of a physical port: 2 for the pair. -/
def State.lport (s : State) (p : Nat) : Nat := if s.pairOn then 2 else p

/-! ### The schedule (spec/05 R136 to R138, spec/19 R466) -/

/-- Thousandths of d of R136. -/
def State.exsD (s : State) (p : Nat) : Nat := if s.inForce (R.EXS_RATE_DEN p) = 0 then 1000 else 1001

/-- Mean of the good REFIN periods. -/
def State.refMean (s : State) : Nat :=
  if s.lnk.refs.isEmpty then 0 else s.lnk.refs.foldl (· + ·) 0 / s.lnk.refs.length

/-- The frame period of a port's schedule; 0 where there is none. -/
def State.exsPeriod (s : State) (p : Nat) : Nat :=
  if s.get (R.EXS_CTL_MODE p) = 1 then 1000000000 * s.exsD p * tNs / max 1 (s.inForce (R.EXS_RATE_NUM p))
  else if s.get (R.EXS_CTL_MODE p) = 2 then s.refMean / max 1 (s.get R.REF_CFG_DIV)
  else 0

/-- The first scheduled start at or after a time. -/
def State.schedAt (s : State) (p : Nat) (t : Time) : Option Time :=
  let ph := s.inForce (R.EXS_PHASE_NS p) * tNs
  if s.get (R.EXS_CTL_MODE p) = 1 then
    let num := max 1 (s.inForce (R.EXS_RATE_NUM p))
    let q := 1000000000 * s.exsD p * tNs
    let n := if t ≤ ph then 0 else ceilDiv ((t - ph) * num) q
    some (ph + n * q / num)
  else if s.get (R.EXS_CTL_MODE p) = 2 ∧ s.on I.REF_EDGE ∧ s.refMean ≠ 0 then
    let b := s.get I.REF_EDGE - 1 + ph
    let dv := max 1 (s.get R.REF_CFG_DIV)
    let k := if t ≤ b then 0 else ceilDiv ((t - b) * dv) s.refMean
    some (b + k * s.refMean / dv)
  else none

/-- The line period of a port. -/
def State.exsLine (s : State) (p : Nat) : Nat := s.inForce (R.EXS_LINE_LINE_PER p) * tNs / 16

/-- Store the next slot. -/
def State.setSlot (s : State) (p : Nat) (t : Option Time) : State := s.set (I.EXS_SLOT p) ((t.map (· + 1)).getD 0)

/-- Throttle step 4 is in force (spec/19 R466). -/
def State.exsHalf (s : State) : Bool := decide (s.get R.THM_STAT_STEP = 4)

/-- Step to the slot after one at time `t` (R138): never earlier than a period on, but for a move within a line period; two
periods under throttle step 4. -/
def State.slotAfter (s : State) (p : Nat) (t : Time) : State :=
  let per := s.exsPeriod p * (if s.exsHalf then 2 else 1)
  (s.set (I.EXS_PREV p) (t + 1)).setSlot p (s.schedAt p (t + per - s.exsLine p))

/-- Start the schedule (R136): the first start whose pulse still lies ahead. -/
def State.slotStart (s : State) (p : Nat) : State :=
  (s.set (I.EXS_PREV p) 0).setSlot p (s.schedAt p (s.now + s.inForce (R.EXS_LEAD_LEAD p) * 10 * tNs + 1))

/-- The schedule has moved (R138); a Tally step moves the last start's reading by `fwd - back`. A move beyond a line period
raises REPHASE. -/
def State.rephase (s : State) (p fwd back : Nat) : State :=
  if s.get (R.EXS_CTL_MODE p) = 0 then s
  else if !s.on (I.EXS_PREV p) then s.slotStart p
  else
    let t := s.get (I.EXS_PREV p) - 1 + fwd - back
    let s1 := s.slotAfter p t
    let want := t + s1.exsPeriod p * (if s1.exsHalf then 2 else 1)
    let got := s1.get (I.EXS_SLOT p) - 1
    if s1.on (I.EXS_SLOT p) ∧ (want + s1.exsLine p < got) then (s1.set R.REF_STAT_REPHASE 1).raise E.refRephase else s1

/-- Distance of two times. -/
def timeDist (a b : Time) : Nat := (a - b) + (b - a)

/-! ### Sets and windows (spec/05 R129 to R132) -/

/-- Latency of a write's class. -/
def State.latency (s : State) (p cls : Nat) : Nat :=
  s.get (if cls = 0 then R.EXQ_TIM_L_INT p else if cls = 1 then R.EXQ_TIM_L_GAIN p else R.EXQ_TIM_L_AUX p)

/-- Largest latency of a set's writes. -/
def State.maxLat (s : State) (e : ExpSet) : Nat := e.writes.foldl (fun a w => max a (s.latency (sp e.port) w.cls)) 0

/-- FCNT before the window in which a write of latency `l` goes for target frame `f`. -/
def windowOf (f l : Nat) : Nat := (f + 2 ^ 24 - 1 - l) % 2 ^ 24

/-- FCNT `a` is at or before `b`, modulo 2^24 (R132). -/
def fcntLe (a b : Nat) : Bool := decide ((b + 2 ^ 24 - a % 2 ^ 24) % 2 ^ 24 < 2 ^ 23)

/-- The window of a set's first class, once its target is fixed. -/
def State.firstWindow (s : State) (e : ExpSet) : Option Nat := e.target.map (fun f => windowOf f (s.maxLat e))

/-- Change a set, named by its port and slot. -/
def State.modSet (s : State) (e : ExpSet) (g : ExpSet → ExpSet) : State :=
  s.modLnk (fun l => { l with sets := l.sets.map (fun x => if x.port = e.port ∧ x.slot = e.slot then g x else x) })

/-- A set moves a frame on (R131). -/
def State.setSlip (s : State) (e : ExpSet) : State :=
  match e.target with
  | none => s
  | some f =>
    let first := decide (s.firstWindow e = some (s.get (I.EXQ_K e.port))) || e.writes.all (fun w => !w.done)
    let s1 := s.modSet e (fun x => { x with
      target := some ((f + 1) % 2 ^ 24), writes := x.writes.map (fun w => { w with sent := false, done := false }) })
    let q := sp e.port
    if first then (((s1.set (R.EXQ_STAT_SLIPPED q) 1).inc (R.EXQ_STAT_SLIP_CNT q))).raise (E.setSlipped q)
    else
      ((s1.modLnk (fun l => { l with unsure := (e.port, f) :: l.unsure })).set (R.EXQ_STAT_UNSURE q) 1).raise (E.setUnsure q)

/-- A set is missed (R131). Sets are applied in posting order (R135): those posted after it for the frame that it leaves move with it. -/
def State.setMiss (s : State) (e : ExpSet) : State :=
  let after := (s.lnk.sets.filter (fun x => decide (x.port = e.port))).dropWhile (fun x => decide (x.slot ≠ e.slot)) |>.drop 1
  ((after.filter (fun x => x.target.isSome && decide (x.target = e.target))).foldl (fun (s : State) x => s.setSlip x)) (s.setSlip e)

/-- The sets of a port. -/
def State.setsOf (s : State) (p : Nat) : List ExpSet := s.lnk.sets.filter (fun e => decide (e.port = p))

/-- PENDING follows the sets. -/
def State.setCount (s : State) (p : Nat) : State := s.set (R.EXQ_STAT_PENDING (sp p)) (s.setsOf p).length

/-- Tag that a frame `j` frames after the last of a port would take: every port in use takes its turn. -/
def State.predictTag (s : State) (j : Nat) : Nat :=
  let ports := if s.pairOn then 1 else max 1 ((List.range 2).filter (fun p => s.on (R.LINK_CTL_EN p))).length
  s.get R.FTAG_LAST_TAG + (j - 1) * ports + 1

/-- The next write that the window takes (R130): later-class writes of sets whose first window has passed, in posting
order, then the first-window writes of the set that the window has taken or takes now. A new set waits while one posted before it
has a later target (R135). -/
def State.exqPick (s : State) (p : Nat) : Option (ExpSet × Nat) :=
  let k := s.get (I.EXQ_K p)
  let sets := s.setsOf p
  let due (e : ExpSet) : Option (ExpSet × Nat) :=
    match e.target with
    | some f =>
      ((List.range e.writes.length).find? (fun i => match e.writes[i]? with
        | some w => !w.sent && !w.done && decide (windowOf f (s.latency (sp p) w.cls) = k)
        | none => false)).map (fun i => (e, i))
    | none => none
  let old := (sets.filter (fun e => decide (s.firstWindow e ≠ some k))).findSome? due
  let cur := (sets.filter (fun e => decide (s.firstWindow e = some k))).findSome? due
  match old, cur with
  | some r, _ => some r
  | none, some r => some r
  | none, none =>
    if s.on (I.EXQ_NEW p) ∨ sets.any (fun e => decide (s.firstWindow e = some k)) then none
    else
      match sets.find? (fun e => e.target.isNone) with
      | some e =>
        let l := s.maxLat e
        let f := (k + 1 + l) % 2 ^ 24
        let ahead := sets.any (fun x => match x.target with | some t => decide (t ≠ f) && fcntLe f t | none => false)
        if (e.at_ && tagLater e.tag (s.predictTag (1 + l))) || ahead then none
        else due { e with target := some f }
      | none => none

/-- Estimated length of a write (R130) in Tally units: CK_CORE runs at 1.2 GHz. -/
def State.writeTime (s : State) (w : ExpWrite) : Nat :=
  (if w.bus < 2 then (9 * (3 + w.len) + 2) * s.get (R.I3C_SCL_DIV w.bus)
   else (8 * (3 + w.len) + 2) * s.get (R.SPI_SCK_DIV (w.bus % 2))) * tNs * 5 / 6

/-- Mean of the last 8 measured frame periods of a port. -/
def State.meanPeriod (s : State) (p : Nat) : Option Nat :=
  let l := ((s.lnk.starts.filter (fun e => decide (e.1 = p))).map (·.2)).take 9
  match l.head?, l.getLast? with
  | some a, some b => if l.length < 2 then none else some ((a - b) / (l.length - 1))
  | _, _ => none

/-- The time at which the write window closes (R130). -/
def State.windowEnd (s : State) (p : Nat) : Option Time :=
  let start := if s.get (R.EXS_CTL_MODE (sp p)) ≠ 0 then (if s.on (I.EXS_SLOT (sp p)) then some (s.get (I.EXS_SLOT (sp p)) - 1) else none)
    else (s.lnk.starts.find? (fun e => decide (e.1 = p))).bind (fun e => (s.meanPeriod p).map (fun m => e.2 + m))
  start.map (fun t => t - s.get (R.EXQ_TIM_GUARD (sp p)) * tUs)

/-- Does a write end before the close of the window? A window without a predicted end has room. -/
def State.writeFits (s : State) (p : Nat) (w : ExpWrite) : Bool :=
  match s.windowEnd p with
  | some t => decide (s.now + s.writeTime w < t)
  | none => true

/-- A write of the port is on its bus. -/
def State.busBusy (s : State) (p : Nat) : Bool := (s.setsOf p).any (fun e => e.writes.any (fun w => w.sent && !w.done))

/-- A write of either queue is on the bus: it completes first (R130). -/
def State.busTaken (s : State) (bus : Nat) : Bool :=
  s.lnk.sets.any (fun e => e.writes.any (fun w => w.sent && !w.done && decide (w.bus = bus)))

/-- The bytes of a register write on its bus (spec/04 R115): the 16-bit address with its most significant byte first, then the
data; on SPI after the command byte 0x02. -/
def ExpWrite.wire (w : ExpWrite) : List Byte := (if w.bus < 2 then [] else [0x02]) ++ beBytes 2 w.addr ++ w.data

/-- Issue writes while the window is open and no write is on its bus; one that does not fit misses its set. -/
def State.exqIssue (s : State) (p : Nat) : Nat → State
  | 0 => s
  | fuel + 1 =>
    if !s.on (I.EXQ_OPEN p) || s.busBusy p then s
    else
      match s.exqPick p with
      | none => s
      | some (e, i) =>
        let s1 := (s.modSet e (fun x => { x with target := e.target })).when
          (decide (s.firstWindow e = some (s.get (I.EXQ_K p)))) (·.set (I.EXQ_NEW p) 1)
        match e.writes[i]? with
        | none => s1
        | some w =>
          if s.busTaken w.bus then s
          else if s1.writeFits p w then
            (s1.modSet e (fun x => { x with writes := x.writes.set i { w with sent := true } })).emit
              (.sensorWrite w.bus (if w.bus < 2 then w.target else w.target / 256) w.wire)
          else (s1.setMiss e).exqIssue p fuel

/-- A set has writes that a window now past should have carried. -/
def State.exqLate (s : State) (p : Nat) (e : ExpSet) : Bool :=
  match e.target with
  | some f => e.writes.any (fun w =>
      let k := windowOf f (s.latency (sp p) w.cls)
      !w.done && decide (k ≠ s.get (I.EXQ_K p)) && fcntLe k (s.get (I.EXQ_K p)))
  | none => false

/-- Miss the sets whose windows have passed, a frame at a time. -/
def State.exqCatch (s : State) (p : Nat) : Nat → State
  | 0 => s
  | fuel + 1 =>
    match (s.setsOf p).find? (s.exqLate p) with
    | some e => (s.setMiss e).exqCatch p fuel
    | none => s

/-- The window after frame FCNT `k` opens (R130). -/
def State.exqOpen (s : State) (p k : Nat) : State :=
  ((s.sets [(I.EXQ_OPEN p, 1), (I.EXQ_K p, k), (I.EXQ_NEW p, 0)]).exqCatch p 64).exqIssue p 300

/-- The window closes: a set whose writes for it are not all done is missed (R131). -/
def State.exqClose (s : State) (p : Nat) : State :=
  if !s.on (I.EXQ_OPEN p) then s
  else
    let k := s.get (I.EXQ_K p)
    let due (e : ExpSet) : Bool := match e.target with
      | some f => e.writes.any (fun w => !w.done && decide (windowOf f (s.latency (sp p) w.cls) = k))
      | none => false
    (((s.setsOf p).filter due).foldl (fun s e => s.setMiss e) s).set (I.EXQ_OPEN p) 0

/-- The last set whose target is at or before a frame (R132). -/
def State.setAt (s : State) (p fcnt : Nat) : Option ExpSet :=
  ((s.setsOf p).filter (fun e => match e.target with
    | some f => fcntLe f fcnt && e.writes.all (·.done)
    | none => false)).getLast?

/-- A frame is accepted (R132, R133): its set comes into force, and its bindings are to be met by jobs of the frame's tag. -/
def State.setAccept (s : State) (p fcnt tag : Nat) : State :=
  match s.setAt p fcnt with
  | none => s
  | some e =>
    let gone := ((s.setsOf p).takeWhile (fun x => decide (x.slot ≠ e.slot))).filter (fun x => match x.target with
      | some t => fcntLe t fcnt
      | none => false) ++ [e]
    let s1 := s.modLnk (fun l => { l with sets := l.sets.filter (fun x => !gone.contains x) })
    let s2 : State := { s1 with binds := s1.binds ++ gone.flatMap (fun x =>
      ((List.range 5).filter (fun n => bit x.bind (2 + n))).map (fun n => (2 + n, tag, sp p))) }
    let q := sp p
    let new := decide (s.get (R.EXQ_STAT_IN_FORCE q) ≠ e.setId)
    ((s2.set (R.EXQ_STAT_IN_FORCE q) e.setId).setCount p).raiseIf new (E.setDone q)

/-- Does a posted set that is not in force bind a rod (R133)? -/
def State.boundLater (s : State) (rod : Nat) : Bool := s.lnk.sets.any (fun e => bit e.bind rod)

/-! ### Posting (spec/05 R135) -/

/-- The fields of a write entry; none where a reserved bit is set. -/
def expWrite (b : List Byte) : Option ExpWrite :=
  let bus := fieldLE b 0 1
  let ctl := fieldLE b 4 1
  let len := bits ctl 2 2 + 1
  if 16 ≤ bus ∨ 3 < bits bus 0 3 ∨ (bits bus 0 3 < 2 ∧ bit bus 3) ∨ (2 ≤ bits bus 0 3 ∧ fieldLE b 1 1 ≠ 0) ∨
      16 ≤ ctl ∨ bits ctl 0 2 = 3 ∨ len = 4 then none
  else some ⟨bits bus 0 3, bits ctl 0 2, len, fieldLE b 1 1 + 256 * ofBool (bit bus 3), fieldLE b 2 2, slice b 5 len, false, false⟩

/-- A set descriptor (R135); none where it is to be discarded. -/
def expSet (p slot : Nat) (b : List Byte) : Option ExpSet :=
  let mode := fieldLE b 2 1
  let n := fieldLE b 3 1
  let bind := fieldLE b 8 2
  let ws := (List.range n).map (fun i => expWrite (slice b (0x10 + 8 * i) 8))
  if fieldLE b 0 2 = 0 ∨ 1 < mode ∨ n = 0 ∨ 30 < n ∨ bind &&& 0x7C ≠ bind ∨ fieldLE b 0xA 6 ≠ 0 ∨ ws.any (·.isNone) then none
  else some ⟨p, slot, fieldLE b 0 2, decide (mode = 1), fieldLE b 4 4, bind, ws.filterMap id, none⟩

/-- A set is discarded, or a GO ignored. -/
def State.badDesc (s : State) (q : Nat) : State := (s.set (R.EXQ_STAT_BAD_DESC q) 1).raise (E.setBad q)

/-- A write of EXQ.POSTp with GO. In pair mode only port 0's queue is used. -/
def State.exqPost (s : State) (q slot : Nat) : State :=
  let p := s.lport q
  if (s.pairOn ∧ q = 1) ∨ (s.setsOf p).any (fun e => decide (e.slot = slot)) then s.badDesc q
  else
    let r := s.trayReadAs 1 1 (s.get R.EXQ_RING_GRAN * granBytes + 4096 * q + 256 * slot) 256
    match (if r.2.1 = 0 then expSet p slot r.1 else none) with
    | none => r.2.2.badDesc q
    | some e => ((r.2.2.modLnk (fun l => { l with sets := l.sets ++ [e] })).setCount p).exqIssue p 300

/-- EXQ_POST. -/
def execExqPost (port : Fin 2) (slot : Fin 8) (s : State) : Res :=
  .next (s.hostToBead 1 6 fun s => (s.set (R.EXQ_POST_SLOT port) slot).exqPost port slot)

/-- EXQ_BUS_DONE (R130, R131): the write on the bus completes, or is NACKed and misses its set. -/
def execExqBusDone (port : Fin 2) (ack : Bool) (s : State) : Res :=
  let p := s.lport port
  .next (match (s.setsOf p).find? (fun e => e.writes.any (fun w => w.sent && !w.done)) with
    | none => s
    | some e =>
      let s1 := if ack then s.modSet e (fun x => { x with writes := x.writes.map (fun w => if w.sent then { w with done := true } else w) })
        else s.setMiss e
      (s1.exqIssue p 300).exqIssue (1 - p) 300)

/-- EXQ_WINDOW_CLOSE (R130). -/
def execExqWindowClose (port : Fin 2) (s : State) : Res := .next (s.exqClose (s.lport port))

/-! ### EXPSYNC (spec/05 R136) -/

/-- The schedule of a port starts or stops with a write of MODE. -/
def State.exsMode (s : State) (p mode : Nat) : State :=
  let s1 := s.set (R.EXS_CTL_MODE p) mode
  if mode = 0 then
    s1.sets [(I.EXS_SLOT p, 0), (I.EXS_PREV p, 0), (I.SYNTH_WAIT p, 0), (I.PIN_FRAME p, 0), (I.PIN_LINE p, 0), (I.LINE_SENT p, 0)]
  else s1.slotStart p

/-- EXS_MODE_CHANGE: mode 3 is out of range. -/
def execExsModeChange (port : Fin 2) (mode : Fin 4) (s : State) : Res :=
  .next (s.hostToBead 1 (7 + port) fun s =>
    if mode.val = 3 then s.wrRange 1 (0x102400 + 0x40 * port.val)
    else if s.get (R.EXS_CTL_MODE port) = mode.val then s else s.exsMode port mode)

/-- EXPSYNC_FRAME_PULSE: the frame pulse starts, and the line train with it. -/
def execExpsyncFramePulse (port : Fin 2) (s : State) : Res :=
  .next (if s.isolated 1 ∨ s.get (R.EXS_CTL_MODE port) = 0 then s
    else
      let le := s.on (R.EXS_CTL_LINE_EN port)
      s.sets [(I.PIN_FRAME port, 1), (I.PIN_LINE port, ofBool le), (I.LINE_SENT port, ofBool le)])

/-- EXPSYNC_LINE_PULSE: up to LINE_CNT pulses. -/
def execExpsyncLinePulse (port : Fin 2) (s : State) : Res :=
  let n := s.get (I.LINE_SENT port)
  .next (if !s.isolated 1 ∧ s.on (R.EXS_CTL_LINE_EN port) ∧ s.get (R.EXS_CTL_MODE port) ≠ 0 ∧ n ≠ 0 ∧ n < s.inForce (R.EXS_LEAD_LINE_CNT port)
    then s.sets [(I.PIN_LINE port, 1), (I.LINE_SENT port, n + 1)] else s)

/-- EXPSYNC_PULSE_END. -/
def execExpsyncPulseEnd (port : Fin 2) (line : Bool) (s : State) : Res :=
  .next (s.set (if line then I.PIN_LINE port else I.PIN_FRAME port) 0)

/-! ### REFIN (spec/05 R137) -/

/-- Frame timing enters holdover. -/
def State.refHold (s : State) : State :=
  if s.on R.REF_STAT_HOLDOVER then s
  else ((s.set R.REF_STAT_HOLDOVER 1).set R.REF_STAT_HOLD_EV 1).raise E.refHoldover

/-- Do two periods agree within WIN parts per million of the second? -/
def State.refAgree (s : State) (a m : Nat) : Bool := decide (timeDist a m * 1000000 ≤ m * s.get R.REF_CFG_WIN)

/-- The mean of the good periods and the last edge that the schedule goes by. -/
def State.refEdge (s : State) : State := (s.set I.REF_EDGE (s.now + 1)).set R.REF_PERIOD_NS (s.refMean / tNs)

/-- A good period: it joins the mean, and the schedule follows this edge: the next slot is the scheduled start nearest to the one
that was expected (R136). -/
def State.refGood (s : State) (dt : Nat) : State :=
  let s1 := (s.modLnk (fun l => { l with refs := (dt :: l.refs).take 16 })).refEdge
  (List.range 2).foldl (fun (s : State) p =>
    if s.get (R.EXS_CTL_MODE p) = 2 ∧ s.on (I.EXS_SLOT p) then
      s.setSlot p (s.schedAt p (s.get (I.EXS_SLOT p) - 1 - s.exsPeriod p / 2))
    else s) s1

/-- The trial is over: no period is on trial. -/
def State.refNoTrial (s : State) : State := (s.modLnk (fun l => { l with trial := [] })).set I.REF_CAND 0

/-- The periods on trial have held for STABLE_N periods: they are adopted, and the ports in REFIN mode follow. The last good
periods stay in the mean where the trial agrees with them. -/
def State.refAdopt (s : State) : State :=
  let old := if s.refMean ≠ 0 ∧ s.refAgree (s.get I.REF_CAND) s.refMean then s.lnk.refs else []
  let s1 := ((s.modLnk (fun l => { l with refs := (l.trial ++ old).take 16 })).refEdge.set R.REF_STAT_HOLDOVER 0).refNoTrial
  (List.range 2).foldl (fun s p => if s.get (R.EXS_CTL_MODE p) = 2 then s.rephase p 0 0 else s) s1

/-- A period counts towards the trial. -/
def State.refTrial (s : State) (dt : Nat) : State :=
  let same := s.on I.REF_CAND && s.refAgree dt (s.get I.REF_CAND)
  let s1 := if same then s.modLnk (fun l => { l with trial := dt :: l.trial })
    else (s.modLnk (fun l => { l with trial := [dt] })).set I.REF_CAND dt
  if s.get R.REF_CFG_STABLE_N ≤ s1.lnk.trial.length then s1.refAdopt else s1

/-- REFIN_EDGE: an edge of REFIN with the width of the pulse it begins, in ns. -/
def execRefinEdge (falling : Bool) (pulse : BitVec 32) (s : State) : Res :=
  .next (if pulse.toNat < 100 ∨ falling ≠ s.on R.REF_CFG_EDGE then s
    else if !s.on I.REF_LAST then s.set I.REF_LAST (s.now + 1)
    else
      let dt := s.now + 1 - s.get I.REF_LAST
      let s1 := s.set I.REF_LAST (s.now + 1)
      let m := s.refMean
      if m = 0 then s1.refTrial dt
      else if s.refAgree dt m then
        if s.on R.REF_STAT_HOLDOVER then s1.refTrial dt else (s1.refGood dt).refNoTrial
      else
        let s2 := (s1.set R.REF_STAT_RATE_EV 1).raise E.refRate
        s2.refHold.refTrial dt)

/-- REFIN_LOSS: no edge for (1 + WIN) periods. -/
def execRefinLoss (s : State) : Res :=
  .next (if s.refMean = 0 then s else s.refHold.refNoTrial)

end Sys2Proof.Machine
end

