-- ==== Sys2Proof/Machine/Fuse.lean ====
section
/-!
DEFINITION. The security fuses (spec/18 R434 to R436) as words (spec/22 R511).
-/

namespace Sys2Proof.Machine

/-- Word `k` of FUSE.WORD (spec/22 R511). A key hash is a little-endian number. -/
def Fuses.word (f : Fuses) (k : Nat) : Nat :=
  if k < 48 then bits (f.lroot.getD (k / 12) 0) (32 * (k % 12)) 32
  else if k < 96 then bits (f.croot.getD (k / 12 - 4) 0) (32 * (k % 12)) 32
  else if k = 96 then f.lrev % 16 + f.crev % 16 * 16 + f.life % 8 * 256
  else if k ≤ 98 then bits f.lsvn (32 * (k - 97)) 32
  else if k ≤ 100 then bits f.csvn (32 * (k - 99)) 32
  else if k = 109 then f.lot
  else if k = 110 then f.die
  else if k = 111 then f.serial % 2 ^ 32
  else if k = 112 then f.serial / 2 ^ 32 % 2 ^ 32
  else 0

/-- Bit `b` of word `k` is burnt. SEC burns slots, revocations, the lifecycle and the counters. -/
def Fuses.burn (f : Fuses) (k b : Nat) : Fuses :=
  if k < 48 then { f with lroot := f.lroot.mapIdx (fun i h => if i = k / 12 then setBit h (32 * (k % 12) + b) else h) }
  else if k < 96 then { f with croot := f.croot.mapIdx (fun i h => if i = k / 12 - 4 then setBit h (32 * (k % 12) + b) else h) }
  else if k = 96 then
    if b < 4 then { f with lrev := setBit f.lrev b } else if b < 8 then { f with crev := setBit f.crev (b - 4) }
    else { f with life := setBit f.life (b - 8) }
  else if k ≤ 98 then { f with lsvn := setBit f.lsvn (32 * (k - 97) + b) }
  else if k ≤ 100 then { f with csvn := setBit f.csvn (32 * (k - 99) + b) }
  else f

/-- The lifecycle: the highest LIFE bit, 0 BLANK to 3 RETURNED. -/
def Fuses.lifecycle (f : Fuses) : Nat := if bit f.life 2 then 3 else if bit f.life 1 then 2 else if bit f.life 0 then 1 else 0

/-- Value of an anti-rollback counter. -/
def svnOf (bits : Nat) : Nat := popcount bits 64

/-- Roots: 0 Lommond, 1 customer. The key hash of a slot, whether it is revoked, programmed, usable (R436). -/
def Fuses.slot (f : Fuses) (root s : Nat) : Nat := (if root = 0 then f.lroot else f.croot).getD s 0
def Fuses.revoked (f : Fuses) (root s : Nat) : Bool := bit (if root = 0 then f.lrev else f.crev) s
def Fuses.programmed (f : Fuses) (root s : Nat) : Bool := decide (f.slot root s ≠ 0)
def Fuses.usable (f : Fuses) (root s : Nat) : Bool := f.programmed root s && !f.revoked root s

/-- Customer slots that are programmed, as a mask. -/
def Fuses.cprog (f : Fuses) : Nat := ((List.range 4).filter (fun s => f.programmed 1 s)).foldl setBit 0

/-- The stepping code. -/
def Fuses.step (f : Fuses) : Nat := bits f.die 24 8

/-- A burn cut short leaves the bit at its old or its new value (R435): which is unstated. -/
def State.burnCut (s : State) : State :=
  match s.sec.op with
  | some o =>
    match o.burns with
    | e :: _ => ({ s with fuses := if s.free % 2 = 1 then s.fuses.burn e.1 e.2 else s.fuses } : State).drawn
    | [] => s
  | none => s

end Sys2Proof.Machine
end

