-- ==== Sys2Proof/Machine/Lanes.lean ====
section
/-!
DEFINITION. The serial lanes (spec/03): bring-up, failures, detectors, electrical idle, adaptation.
-/

namespace Sys2Proof.Machine

/-- States of a lane (spec/03 R76). -/
def lnOff : Nat := 0
def lnPower : Nat := 1
def lnPll : Nat := 2
def lnSignal : Nat := 3
def lnLock : Nat := 4
def lnAdapt : Nat := 5
def lnAlign : Nat := 6
def lnUp : Nat := 7
def lnIdle : Nat := 8
def lnFault : Nat := 9

/-- The lanes of group `g` of a rod (spec/03 R73): a sensor port, the endpoint, a quarter of the root complex, a MAC, an
SDI output, a DisplayPort or eDP port. -/
def groupLanes (rod g : Nat) : List Nat :=
  if rod = 1 then (if g < 2 then (List.range 34).map (· + 34 * g) else [])
  else if rod = 0 then (if g = 0 then List.range 4 else [])
  else if rod = 10 ∨ rod = 12 then (if g < 4 then (List.range 4).map (· + 4 * g) else [])
  else if rod = 11 then
    (if g < 4 then [g] else if g < 8 then (List.range 4).map (· + (4 + 4 * (g - 4))) else [])
  else []

/-- An event source of the bead that owns a lane (spec/03 R95): 0 LOS, 1 LOL, 2 FAULT, 3 INFO. -/
def State.laneSrc (s : State) (rod l k : Nat) : E.Src :=
  (rod, E.laneBase rod l (s.strg.limit 0x0051 10 0 1) + k)

/-- State of a lane. -/
def State.lane (s : State) (rod l : Nat) : Nat := s.get (R.LN_STAT_STATE rod l)

/-- Put a lane into a state. -/
def State.setLane (s : State) (rod l st : Nat) : State := s.set (R.LN_STAT_STATE rod l) st

/-- Write 0 to several fields. -/
def State.zero (s : State) (l : List Fld) : State := l.foldl (fun s f => s.set f 0) s

/-- What a bring-up begins with (spec/03 R79, R84): no fault, no failure counted, no slow exit, no window of a run. -/
def laneFresh (rod l : Nat) : List Fld :=
  [R.LN_STAT_FAULT rod l, R.LN_STAT_RETRY rod l, R.LN_STAT_LOL rod l, I.LANE_SLOW rod l, I.LANE_LOCKF rod l,
    I.LANE_OUTWIN rod l]

/-- Bring-up begins (spec/03 R77, R79): POWER, with no fault and no retry. -/
def State.laneStart (s : State) (rod l : Nat) : State := (s.setLane rod l lnPower).zero (laneFresh rod l)

/-- A lane goes to OFF (spec/03 R80): no rate, no live bit. -/
def State.laneOff (s : State) (rod l : Nat) : State :=
  let s1 := (s.setLane rod l lnOff).zero (laneFresh rod l ++ [R.LN_STAT_LOS rod l, R.LN_STAT_FROZEN rod l, I.LANE_RATE rod l])
  if laneUse rod l = 0 then s1 else s1.set (R.LN_RATE_KBPS rod l) 0

/-- The logical lane that receive lane `k` of a sensor port carries (spec/04 R107). -/
def State.logicalOf (s : State) (p k : Nat) : Option Nat :=
  (List.range 32).find? (fun i => s.on (R.LMAP_V p (i / 4) (i % 4)) && decide (s.get (R.LMAP_PHY p (i / 4) (i % 4)) = k))

/-- The place in LHk of a receive lane: its logical lane, else the sensor's lane on it, else itself (notes/assumptions/8.md). -/
def State.lhIndex (s : State) (p k : Nat) : Nat :=
  match s.logicalOf p k with
  | some i => i
  | none => if s.on (I.SRX_ID p k) then s.get (I.SRX_ID p k) - 1 else k

/-- Mark a logical lane bad with a reason (spec/04 R112): 1 LOS or LOL, 2 FAULT, 3 block lock or ALIGN, 4 BIP-8. -/
def State.markBad (s : State) (p i reason : Nat) : State :=
  if s.on (R.LH_BAD p i) then s
  else ((s.set (R.LH_BAD p i) 1).set (R.LH_REASON p i) reason).raise (E.laneBad p)

/-- A lane of a sensor port is lost: its logical lane is bad, and the port re-aligns (spec/04 R109, R112). -/
def State.srxLost (s : State) (rod l reason : Nat) : State :=
  if rod ≠ 1 then s
  else
    let p := l / 34
    match s.logicalOf p (l % 34) with
    | some i => (s.when (decide (s.get (R.LINK_STAT_STATE p) = 3)) (·.set (R.LINK_STAT_STATE p) 5)).markBad p i reason
    | none => s

/-- A lane enters FAULT with a cause (spec/03 R79): 1 PLL, 2 LOCK, 3 REF. -/
def State.laneFault (s : State) (rod l cause : Nat) : State :=
  ((((s.setLane rod l lnFault).set (R.LN_STAT_FAULT rod l) cause).set (R.LN_EVT_FAULT_EV rod l) 1)).raise (s.laneSrc rod l 2) |>.srxLost rod l 2

/-- Every lane of a group that is in use enters FAULT, where the state of one of them lets it happen. -/
def State.groupFault (s : State) (rod g cause : Nat) (p : Nat → Bool) : State :=
  if (groupLanes rod g).any (fun l => p (s.lane rod l)) then
    (groupLanes rod g).foldl (fun (s : State) l =>
      if s.lane rod l = lnOff ∨ s.lane rod l = lnFault then s else s.laneFault rod l cause) s
  else s

/-- Restart a lane at a stage (spec/03 R80): a lane in an earlier stage of its bring-up goes on from there; a transmit-only lane
passes the stages after PLL in no time (R78). The time of the GO is kept: no automatic restart follows in the same cycle (R85). -/
def State.laneGo (s : State) (rod l stage : Nat) : State :=
  let st := s.lane rod l
  if !s.on (R.LN_CTL_EN rod l) then s
  else if 1 ≤ st ∧ st ≤ 6 ∧ st < stage then s
  else
    ((s.setLane rod l (if txOnly rod l ∧ lnPll < stage then lnUp else stage)).zero (laneFresh rod l)).set
      (I.LANE_GO_T rod l) (s.up + 1)

/-- The lane is a lane of the rod. -/
def isLane (rod l : Nat) : Bool := decide (l < laneCount rod)

/-- BAR0 offset of a lane's registers (spec/03 R74). -/
def laneAddr (rod l : Nat) : Nat := rod * 0x100000 + 0x70000 + 0x40 * l

/-- EXTEST or CLAMP holds a transmitting lane OFF in DEPLOYED (spec/18 R445). -/
def State.jtagHolds (s : State) (rod l : Nat) : Bool :=
  decide (s.get I.JTAG_IR = 3 ∨ s.get I.JTAG_IR = 4) && decide (s.fuses.lifecycle = 2 ∧ laneUse rod l ≠ 0)

/-- LANE_ENABLE (spec/03 R77): a write of EN = 1 starts the bring-up of a lane that is not in use. -/
def execLaneEnable (rod : Fin 16) (l : Fin 70) (s : State) : Res :=
  .next (s.hostTo rod fun s =>
    if !isLane rod l then s
    else if s.jtagHolds rod l then s.wrRange rod (laneAddr rod l)
    else if s.on (R.LN_CTL_EN rod l) then s
    else (s.set (R.LN_CTL_EN rod l) 1).laneStart rod l)

/-- LANE_DISABLE (spec/03 R80): a write of EN = 0 takes the lane to OFF at once. -/
def execLaneDisable (rod : Fin 16) (l : Fin 70) (s : State) : Res :=
  .next (s.hostTo rod fun s => if isLane rod l then (s.set (R.LN_CTL_EN rod l) 0).laneOff rod l else s)

/-- LANE_GO (spec/03 R80): a stage of 0 or 7 is out of range. -/
def execLaneGo (rod : Fin 16) (l : Fin 70) (stage : Fin 8) (s : State) : Res :=
  .next (s.hostTo rod fun s =>
    if !isLane rod l then s
    else if stage.val = 0 ∨ stage.val = 7 then s.wrRange rod (laneAddr rod l + 8)
    else s.laneGo rod l stage)

/-- LANE_POWER_DONE (spec/03 R77 step 2). -/
def execLanePowerDone (rod : Fin 16) (l : Fin 70) (s : State) : Res :=
  .next (if isLane rod l ∧ s.lane rod l = lnPower then s.setLane rod l lnPll else s)

/-- The rates of each use (spec/03 R72), in kbit/s rounded to the nearest: none stands for a sensor lane, whose rate is LN_RATE. -/
def laneRates (use : Nat) : List Nat :=
  match use with
  | 1 | 2 => [2500000, 5000000, 8000000, 16000000, 32000000]
  | 3 => [25781250]
  | 4 => [1485000, 2970000, 5940000, 11880000, 1483516, 2967033, 5934066, 11868132]
  | 5 => [1620000, 2700000, 5400000, 8100000, 10000000, 13500000, 20000000]
  | 6 => [1620000, 2160000, 2430000, 2700000, 3240000, 4320000, 5400000, 6750000, 8100000]
  | _ => []

/-- A group of lanes can run at the rate: one of its use's list; a sensor or an Ethernet lane takes none from its bead. -/
def rateOk (rod g kbps : Nat) : Bool :=
  (groupLanes rod g).all (fun l => laneUse rod l == 0 || laneUse rod l == 3 || (laneRates (laneUse rod l)).contains kbps)

/-- LANE_PLL_LOCK (spec/03 R72, R77, R78): the group PLL locks and its lanes in PLL move on; `kbps` is the rate that the owning
bead's protocol runs at, one of the list of the lanes' use. A sensor lane takes LN_RATE, an Ethernet lane has one rate. -/
def execLanePllLock (rod : Fin 16) (g : Fin 8) (kbps : BitVec 25) (s : State) : Res :=
  .next (if !rateOk rod g kbps.toNat then s else (groupLanes rod g).foldl (fun s l =>
    if s.lane rod l = lnPll then
      let s1 := s.setLane rod l (if txOnly rod l then lnUp else lnSignal)
      if laneUse rod l = 0 then s1.set (I.LANE_RATE rod l) (s.get (R.LN_RATE_KBPS rod l))
      else s1.set (R.LN_RATE_KBPS rod l) (if laneUse rod l = 3 then 25781250 else kbps.toNat)
    else s) s)

/-- LANE_LOS_CLEAR (spec/03 R83, R77 step 4): filtered LOS clears, and a lane in SIGNAL enters LOCK. -/
def execLaneLosClear (rod : Fin 16) (l : Fin 70) (s : State) : Res :=
  .next (if isLane rod l ∧ !txOnly rod l then
    let s1 := s.set (R.LN_STAT_LOS rod l) 0
    if s1.lane rod l = lnSignal then s1.setLane rod l lnLock else s1
  else s)

/-- LANE_LOCK (spec/03 R77, R91, R92): the CDR has locked; the slow path out of idle skips ADAPT with the coefficients held, MODE
HOLD skips it with those of the last completed ADAPT. -/
def execLaneLock (rod : Fin 16) (l : Fin 70) (s : State) : Res :=
  .next (if isLane rod l ∧ s.lane rod l = lnLock then
    let hold := decide (s.get (R.LN_ADAPT_MODE rod l) = 2)
    ((s.zero [R.LN_STAT_LOL rod l, I.LANE_LOCKF rod l]).when hold
      (fun s => s.set (I.LANE_COEF rod l) (s.get (I.LANE_COEF_ADP rod l)))).setLane rod l
      (if s.on (I.LANE_SLOW rod l) ∨ hold then lnAlign else lnAdapt)
  else s)

/-- LANE_LOCK_TIMEOUT (spec/03 R79): back to SIGNAL, or FAULT at the eighth consecutive failure. -/
def execLaneLockTimeout (rod : Fin 16) (l : Fin 70) (s : State) : Res :=
  .next (if isLane rod l ∧ s.lane rod l = lnLock then
    let n := s.get (I.LANE_LOCKF rod l) + 1
    let s1 := s.sets [(R.LN_STAT_RETRY rod l, min (s.get (R.LN_STAT_RETRY rod l) + 1) 8), (I.LANE_LOCKF rod l, n)]
    if 8 ≤ n then s1.laneFault rod l 2 else s1.setLane rod l lnSignal
  else s)

/-- The equaliser has new coefficients, which the spec does not state; at the end of ADAPT they are kept for HOLD too (spec/03
R79, R92). -/
def State.laneCoef (s : State) (rod l : Nat) (done : Bool) : State :=
  ((s.set (I.LANE_COEF rod l) s.free).when done (·.set (I.LANE_COEF_ADP rod l) s.free)).drawn

/-- LANE_ADAPT_DONE (spec/03 R77). -/
def execLaneAdaptDone (rod : Fin 16) (l : Fin 70) (s : State) : Res :=
  .next (if isLane rod l ∧ s.lane rod l = lnAdapt then
    ((s.setLane rod l lnAlign).set (R.LN_STAT_FROZEN rod l) 0).laneCoef rod l true
  else s)

/-- LANE_ADAPT_TIMEOUT (spec/03 R79): the best coefficients found are kept, ADAPT_WEAK, and on to ALIGN. -/
def execLaneAdaptTimeout (rod : Fin 16) (l : Fin 70) (s : State) : Res :=
  .next (if isLane rod l ∧ s.lane rod l = lnAdapt then
    (((s.setLane rod l lnAlign).set (R.LN_EVT_ADAPT_WEAK rod l) 1).raise (s.laneSrc rod l 3)).laneCoef rod l true
  else s)

/-- Link training has written MAIN, PRE and POST of a lane; what it wrote is unstated. -/
def State.txTrained (s : State) (rod l : Nat) : State :=
  (s.sets [(R.LN_TXFIR_MAIN rod l, s.free), (R.LN_TXFIR_PRE rod l, s.free / 2 ^ 7), (R.LN_TXFIR_POST rod l, s.free / 2 ^ 12)]).drawn

/-- Lane 0 of a PCIe port, which alone shows a reversal (spec/03 R74, R87): with RP_SPLIT 0 RP0 has all sixteen lanes. -/
def State.lane0 (s : State) (rod l : Nat) : Bool :=
  decide (laneUse rod l = 1 ∧ l = 0) || decide (laneUse rod l = 2 ∧ l % (if s.strg.limit 0x0051 10 0 1 = 0 then 16 else 4) = 0)

/-- LANE_ALIGNED (spec/03 R77, R87, R88, R94): the bead reports alignment with the polarity it found; the lane enters UP
unless its PRBS checker is on. A sensor lane needs block lock and a known identity (spec/04 R107, R109). -/
def execLaneAligned (rod : Fin 16) (l : Fin 70) (inverted reversed : Bool) (s : State) : Res :=
  .next (if isLane rod l ∧ s.lane rod l = lnAlign ∧ !s.on (R.LN_PRBS_CHK_EN rod l) ∧
      (laneUse rod l ≠ 0 ∨ (s.on (I.SRX_BLK (l / 34) (l % 34)) ∧ s.on (I.SRX_ID (l / 34) (l % 34)))) then
    let auto := decide (s.get (R.LN_CTL_POL_MODE rod l) = 0)
    let found := if inverted then 2 else 1
    let prev := s.get (I.LANE_POLPREV rod l)
    let pol := if auto then ofBool inverted else ofBool (decide (s.get (R.LN_CTL_POL_MODE rod l) = 2))
    let s1 := ((((s.setLane rod l lnUp).set (I.LANE_SLOW rod l) 0).set (R.LN_STAT_POL rod l) pol)).when (decide (laneUse rod l = 0))
      (fun s => s.set (R.LH_ALIGN_FAIL (l / 34) (s.lhIndex (l / 34) (l % 34))) 0)
    let s2 := (s1.when (s.lane0 rod l)
      (·.set (R.LN_STAT_REVERSED rod l) (ofBool reversed))).when (decide (laneUse rod l ≠ 0)) (·.txTrained rod l)
    if auto then
      (s2.set (I.LANE_POLPREV rod l) found).when (decide (prev ≠ 0 ∧ prev ≠ found))
        (fun s => (s.set (R.LN_EVT_POL_FLIP rod l) 1).raise (s.laneSrc rod l 3))
    else s2
  else s)

/-- A command of the lane that waits, as `p` picks it: commands that wait fall in one CK_TALLY cycle (notes/assumptions/9.md),
since time passes on an empty queue alone. -/
def State.coming (s : State) (p : Instr → Bool) : Bool := s.pending.any p

/-- An automatic restart gives way to a GO of the same cycle (spec/03 R85): one that waits, as a command or as a write of LN_CMD,
or one just taken. -/
def State.goWins (s : State) (rod l : Nat) : Bool :=
  decide (s.get (I.LANE_GO_T rod l) = s.up + 1) || s.coming (fun c => match c with
    | .laneGo r k _ => decide (r.val = rod ∧ k.val = l)
    | .registerWrite a _ v => decide (a.toNat = laneAddr rod l + 8) && v.getLsbD 3
    | _ => false)

/-- A lane restarts from UP by itself (spec/03 R86); its coefficients are kept. -/
def State.autoRestart (s : State) (rod l stage : Nat) : State :=
  if s.on (R.LN_CTL_AUTO_RETRAIN rod l) && !s.goWins rod l then
    (s.setLane rod l stage).zero [R.LN_STAT_RETRY rod l, I.LANE_LOCKF rod l]
  else s

/-- A sensor lane has no block lock after LOS, LOL or idle (spec/04 R109, R111). -/
def State.blkLost (s : State) (rod l : Nat) : State :=
  if rod = 1 then s.zero [I.SRX_BLK (l / 34) (l % 34), I.SRX_TSCNT (l / 34) (l % 34)] else s

/-- Filtered LOS sets on a lane (spec/03 R79, R83, R85, R86): not in IDLE, and not where an idle announcement falls in the same
cycle. -/
def State.laneLos (s : State) (rod l : Nat) : State :=
  let st := s.lane rod l
  let idle := decide (st = lnUp) && s.coming (fun c => match c with
    | .laneIdleEntry r k => decide (r.val = rod ∧ k.val = l)
    | _ => false)
  if !isLane rod l || txOnly rod l || decide (st = lnOff ∨ st = lnIdle) || idle || s.on (R.LN_STAT_LOS rod l) then s
  else
    let s1 := (s.set (R.LN_STAT_LOS rod l) 1).set (R.LN_STAT_LOL rod l) 0
    let s2 := s1.when (decide (st = lnAlign ∨ st = lnUp))
      (fun s => (((s.set (R.LN_EVT_LOS_EV rod l) 1).inc (R.LN_EVT_LOS_CNT rod l)).raise (s.laneSrc rod l 0)).blkLost rod l)
    if (st = lnLock ∨ st = lnAdapt) ∧ !s.goWins rod l then
      (s2.setLane rod l lnSignal).set (R.LN_STAT_RETRY rod l) (min (s.get (R.LN_STAT_RETRY rod l) + 1) 8)
    else if st = lnUp then (s2.srxLost rod l 1).autoRestart rod l lnSignal
    else s2

/-- LOL is declared on a lane (spec/03 R84 to R86): not while LOS is set or sets in the same cycle, not in IDLE. The spec does not
say when the live bit of a lane that stays in UP clears: it stands until LOS, IDLE, GO, LANE_LOCK or OFF (notes/assumptions/306.md). -/
def State.laneLol (s : State) (rod l : Nat) : State :=
  let st := s.lane rod l
  let los := s.coming (fun c => match c with
    | .laneLos r k => decide (r.val = rod ∧ k.val = l)
    | _ => false)
  if !isLane rod l || txOnly rod l || decide (st = lnOff ∨ st = lnIdle ∨ st < lnLock) || los || s.on (R.LN_STAT_LOS rod l) then s
  else
    let s1 := s.set (R.LN_STAT_LOL rod l) 1
    let s2 := s1.when (decide (st = lnAlign ∨ st = lnUp))
      (fun s => (((s.set (R.LN_EVT_LOL_EV rod l) 1).inc (R.LN_EVT_LOL_CNT rod l)).raise (s.laneSrc rod l 1)).blkLost rod l)
    if st = lnUp then (s2.srxLost rod l 1).autoRestart rod l lnLock else s2

/-- A measurement window of the recovered clock ends (spec/03 R84): `ppm` is the mean's distance from the lane rate. The
answer tells whether LOL falls due. -/
def State.laneWindow (s : State) (rod l ppm : Nat) : State × Bool :=
  if s.get (R.LN_DET_FREQ_WIN rod l) * 10 < ppm then
    let n := s.get (I.LANE_OUTWIN rod l) + 1
    if s.get (R.LN_DET_LOL_WIN rod l) + 1 ≤ n then (s.set (I.LANE_OUTWIN rod l) 0, true)
    else (s.set (I.LANE_OUTWIN rod l) n, false)
  else (s.set (I.LANE_OUTWIN rod l) 0, false)

/-- A lane in UP enters IDLE (spec/03 R89). -/
def State.laneIdle (s : State) (rod l : Nat) : State :=
  if isLane rod l ∧ s.lane rod l = lnUp then
    (((s.setLane rod l lnIdle).sets [(R.LN_STAT_FROZEN rod l, 1), (I.LANE_IDLE_T rod l, s.up)]).zero [I.LANE_SQ rod l,
      R.LN_STAT_LOS rod l, R.LN_STAT_LOL rod l, I.LANE_HIGH rod l, I.LANE_OUTWIN rod l]).when (decide (rod = 1))
      (fun s => (s.blkLost rod l).set (I.SRX_WAKE (l / 34) (l % 34)) 1)
  else s

/-- LANE_LOS. -/
def execLaneLos (rod : Fin 16) (l : Fin 70) (s : State) : Res := .next (s.laneLos rod l)

/-- LANE_LOL. -/
def execLaneLol (rod : Fin 16) (l : Fin 70) (s : State) : Res := .next (s.laneLol rod l)

/-- LANE_FREQ_WINDOW: a window that ends in another state breaks the run of consecutive windows (spec/03 R84). -/
def execLaneFreqWindow (rod : Fin 16) (l : Fin 70) (ppm : BitVec 20) (s : State) : Res :=
  .next (if isLane rod l ∧ lnLock ≤ s.lane rod l ∧ s.lane rod l ≤ lnUp then
    let r := s.laneWindow rod l ppm.toNat
    if r.2 then r.1.laneLol rod l else r.1
  else if isLane rod l then s.set (I.LANE_OUTWIN rod l) 0 else s)

/-- LANE_PLL_TIMEOUT (spec/03 R79). -/
def execLanePllTimeout (rod : Fin 16) (g : Fin 8) (s : State) : Res :=
  .next (s.groupFault rod g 1 (fun st => decide (st = lnPll)))

/-- GROUP_PLL_LOSS (spec/03 R79): once a lane of the group is past PLL; every lane of it enters FAULT with REF. -/
def execGroupPllLoss (rod : Fin 16) (g : Fin 8) (s : State) : Res :=
  .next (s.groupFault rod g 3 (fun st => decide (lnSignal ≤ st ∧ st ≤ lnIdle)))

/-- LANE_IDLE_ENTRY. -/
def execLaneIdleEntry (rod : Fin 16) (l : Fin 70) (s : State) : Res := .next (s.laneIdle rod l)

/-- LANE_SQUELCH_CONFIRM (spec/03 R90): the idle counts as within IDLE_HOLD when it has lasted no longer. -/
def execLaneSquelchConfirm (rod : Fin 16) (l : Fin 70) (s : State) : Res :=
  .next (if isLane rod l ∧ s.lane rod l = lnIdle then
    s.set (I.LANE_SQ rod l)
      (if s.up - s.get (I.LANE_IDLE_T rod l) ≤ s.get (R.LN_ADAPT_IDLE_HOLD rod l) * tMs then 1 else 2)
  else s)

/-- LANE_PHASE_LOCK (spec/03 R90): the fast path back to UP, with the coefficients held. A freeze that the bead requests stands
until the bead ends it (spec/04 R110). -/
def execLanePhaseLock (rod : Fin 16) (l : Fin 70) (s : State) : Res :=
  .next (if isLane rod l ∧ s.lane rod l = lnIdle ∧ s.get (I.LANE_SQ rod l) = 1 then
    (s.setLane rod l lnUp).set (I.LANE_SQ rod l) 0
  else s)

/-- LANE_PHASE_LOCK_TIMEOUT (spec/03 R91): the slow path through LOCK and ALIGN, with the coefficients held. -/
def execLanePhaseLockTimeout (rod : Fin 16) (l : Fin 70) (s : State) : Res :=
  .next (if isLane rod l ∧ s.lane rod l = lnIdle ∧ s.get (I.LANE_SQ rod l) ≠ 0 then
    ((s.setLane rod l lnLock).sets [(I.LANE_SQ rod l, 0), (I.LANE_SLOW rod l, 1), (R.LN_EVT_EXIT_SLOW rod l, 1)]).raise
      (s.laneSrc rod l 3)
  else s)

/-- ADAPT_WINDOW (spec/03 R93): a window of 4,096 UI ends with `density` transitions. Adaptation that is not frozen moves the
coefficients. In MODE 1 and 2 no density window counts: what FROZEN shows after an idle stays until the next ADAPT or OFF, a point
the spec leaves open (notes/assumptions/306.md). -/
def execAdaptWindow (rod : Fin 16) (l : Fin 70) (density : BitVec 13) (s : State) : Res :=
  .next (if isLane rod l ∧ !txOnly rod l ∧ s.lane rod l = lnUp ∧ s.get (R.LN_ADAPT_MODE rod l) = 0 then
    let s1 := if density.toNat * 64 < s.get (R.LN_ADAPT_DENS_MIN rod l) * 4096 then
        let n := s.get (I.LANE_LOW rod l) + 1
        (s.sets [(I.LANE_LOW rod l, n), (I.LANE_HIGH rod l, 0)]).when (decide (s.get (R.LN_ADAPT_FRZ_RUN rod l) ≤ n))
          (·.set (R.LN_STAT_FROZEN rod l) 1)
      else
        let n := s.get (I.LANE_HIGH rod l) + 1
        (s.sets [(I.LANE_HIGH rod l, n), (I.LANE_LOW rod l, 0)]).when
          (decide (s.get (R.LN_ADAPT_THAW_RUN rod l) ≤ n) && !s.on (I.LANE_FRZREQ rod l)) (·.set (R.LN_STAT_FROZEN rod l) 0)
    if s1.on (R.LN_STAT_FROZEN rod l) then s1 else s1.laneCoef rod l false
  else s)

/-- A nanosecond of the PRBS checkers that are on (spec/03 R94): whether each is locked to its pattern and how many bits it finds
wrong are unstated; its first error sets PRBS_ERR. -/
def State.prbsTick (s : State) : State :=
  (s.regs.filter (fun e => decide (e.1.2.1 = (R.LN_PRBS_CHK_EN 0 0).id ∧ e.2 ≠ 0))).foldl (fun (s : State) e =>
    let rod := e.1.1
    let l := e.1.2.2
    let n := s.free / 2
    let first := decide (s.get (R.LN_PRBS_ERR rod l) = 0 ∧ n ≠ 0)
    (((s.set (R.LN_PRBS_SYNC rod l) s.free).addSat (R.LN_PRBS_ERR rod l) n).when first
      (fun s => (s.set (R.LN_EVT_PRBS_ERR rod l) 1).raise (s.laneSrc rod l 3))).drawn) s

end Sys2Proof.Machine
end

