-- ==== Sys2Proof/Machine/Tally.lean ====
section
/-!
DEFINITION. Tally, PTP, timestamps, triggers, captures and timecode (spec/13 R320 to R337).
-/

namespace Sys2Proof.Machine

/-! ### Tally (R323 to R327) -/

/-- ADJ as an integer. -/
def State.adj (s : State) : Int := signed 32 (s.get R.TLY_RATE_ADJ)

/-- A nanosecond of Tally and of the timers: Tally counts where NET is powered (spec/13 R323, R327), but not while the core is held
in reset. -/
def State.tallyTick (s : State) : State :=
  if s.on I.DEV || (s.strung && !s.strg.powered 12) then { s with up := s.up + tNs }
  else { s with now := ((s.now : Int) + (2 ^ 32 + s.adj)).toNat, up := s.up + tNs }

/-- A nanosecond passes: the clocks count and the PRBS checkers check (spec/03 R94). -/
def State.tallyCycle (s : State) : State := s.tallyTick.prbsTick

/-- A Tally time of whole nanoseconds. -/
def wholeNs (t : Time) : Time := t / tNs * tNs

/-- The first point of the grid `t0 + k × per` that is after `t`, or at or after it where `at_` holds. -/
def gridNext (t0 per t : Nat) (at_ : Bool) : Nat :=
  if t < t0 ∨ (at_ ∧ t = t0) then t0
  else
    let k := (t - t0) / per
    if at_ ∧ t0 + k * per = t then t else t0 + (k + 1) * per

/-- A comparator fires (R334). In DOZE the one that WAKE_TRG names wakes the device to RUN (spec/18 R454). -/
def State.trgFire (s : State) (i : Nat) : State :=
  let per := s.get (R.TRG_PERIOD_V i) * tNs
  let s0 := if s.get R.PWR_STAT_STATE = 2 ∧ s.get R.PWR_REQ_WAKE_TRG = i then s.sets [(R.PWR_STAT_STATE, 5), (R.PWR_STAT_TARGET, 0)]
    else s
  let s1 := ((s0.set (R.TRG_STAT_FIRED i) 1).raise (E.trgFire i)).when (decide (s.get (R.TRG_CTL_PIN i) ≠ 63))
    (·.set (I.TRG_PIN i) 1)
  if per = 0 then s1.set (R.TRG_CTL_ARMED i) 0
  else s1.set (I.TRG_T i) (gridNext (s1.get (I.TRG_T0 i)) per (max s1.now (s1.get (I.TRG_T i))) false)

/-- The comparators after a step (R335). -/
def State.trgStep (s : State) (forward : Bool) : State :=
  (List.range 16).foldl (fun (s : State) i =>
    let per := s.get (R.TRG_PERIOD_V i) * tNs
    if !s.on (R.TRG_CTL_ARMED i) then s
    else if forward then
      (if s.get (I.TRG_T i) ≤ s.now then ((s.set (R.TRG_STAT_LATE i) 1).raise E.trgLate).trgFire i else s)
    else if per = 0 then s
    else s.set (I.TRG_T i) (gridNext (s.get (I.TRG_T0 i)) per s.now true)) s

/-- A step of Tally to `t` (R325); out of range it is not made. The answer tells which. Edges of REFIN and the slots that go by them
keep their instants, which Tally now reads otherwise (spec/05 R138). -/
def State.tallyTo (s : State) (t : Int) : State × Bool :=
  if t < 0 ∨ (2 ^ 48 * tSec : Nat) ≤ t then (s, false)
  else
    let n := t.toNat
    let s1 := (({ s with
      now := n, auds := s.auds.map (fun a => { a with t0 := a.t0 + n - s.now }) } : State).set R.TLY_CMD_STEP_EV 1).raise E.tallyStep
    let move (s1 : State) (f : Fld) : State := if s1.on f then s1.set f (s1.get f + n - s.now) else s1
    let s2 := [I.REF_LAST, I.REF_EDGE].foldl move (s1.trgStep (decide (s.now < n)))
    ((List.range 2).foldl (fun (s2 : State) p =>
      if s2.get (R.EXS_CTL_MODE p) = 1 then s2.rephase p (n - s.now) (s.now - n)
      else if s2.get (R.EXS_CTL_MODE p) = 2 then [I.EXS_SLOT p, I.EXS_PREV p].foldl move s2
      else s2) s2, true)

/-- A step that the host commands; a rejected one is a range violation. -/
def State.hostStep (s : State) (t : Int) : State :=
  let r := s.tallyTo t
  if r.2 then r.1 else s.wrRange 12 0xC0201C

/-- The step value. -/
def State.stepValue (s : State) : Time := timeOf (s.get R.STEP_SEC_V + 2 ^ 32 * s.get R.STEP_HI_V) (s.get R.STEP_NS_V)

/-- TLY_SET. -/
def execTlySet (s : State) : Res := .next (s.hostToBead 12 8 fun s => s.hostStep s.stepValue)

/-- TLY_ADD. -/
def execTlyAdd (neg : Bool) (s : State) : Res :=
  .next (s.hostToBead 12 8 fun s => s.hostStep (if neg then (s.now : Int) - s.stepValue else (s.now : Int) + s.stepValue))

/-- ADJ is in its range (R323). -/
def adjOk (v : Nat) : Bool := decide (-4294967 ≤ signed 32 v ∧ signed 32 v ≤ 4294967)

/-- TLY_RATE_WRITE. -/
def execTlyRateWrite (adj : BitVec 32) (s : State) : Res :=
  .next (s.hostToBead 12 8 fun s => if adjOk adj.toNat then s.set R.TLY_RATE_ADJ adj.toNat else s.wrRange 12 0xC0200C)

/-- HI of a time: seconds bits 47:32 in 31:16, the fraction in 15:0. -/
def timeHi (t : Time) : Nat := timeSec t / 2 ^ 32 * 65536 + timeFrac t

/-- TLY_NOW_READ (R326). -/
def execTlyNowRead (s : State) : Res :=
  .next (s.hostReadBead 12 8 fun s =>
    (timeNs s.now, s.sets [(R.NOW_NS_V, timeNs s.now), (R.NOW_SEC_V, timeSec s.now % 2 ^ 32), (R.NOW_HI_V, timeHi s.now)]))

/-! ### PTP (R328 to R330) -/

/-- Put the servo into a state. -/
def State.ptpTo (s : State) (st : Nat) : State :=
  if s.get R.PTP_STAT_STATE = st then s else (s.set R.PTP_STAT_STATE st).raise E.ptpState

/-- Clamp to a symmetric range. -/
def clampTo (lim v : Int) : Int := max (-lim) (min lim v)

/-- An offset from the master, in ns (R329). -/
def State.ptpOffset (s : State) (off freq slew : Int) : State :=
  let lock := s.get R.PTP_SERVO_LOCK_NS
  let within := decide (off.natAbs ≤ lock)
  let a := if within then min 16 (s.get I.PTP_IN + 1) else 0
  let b := if within then 0 else min 16 (s.get I.PTP_OUTB + 1)
  let s1 := s.sets [(R.PTP_OFFSET_NS, unsigned 32 (max (-2 ^ 31) (min (2 ^ 31 - 1) off))), (I.PTP_IN, a), (I.PTP_OUTB, b)]
  let s2 :=
    if off.natAbs ≤ s1.get R.PTP_SERVO_STEP_TH * 1000 then
      let lim : Int := s1.get R.PTP_SERVO_SLEW_PPM * 2 ^ 32 / 1000000
      s1.set R.TLY_RATE_ADJ (unsigned 32 (clampTo 4294967 (freq + clampTo lim slew)))
    else (s1.tallyTo ((s1.now : Int) - off * tNs)).1
  let st := s2.get R.PTP_STAT_STATE
  if st = 0 ∨ st = 3 then (s2.sets [(I.PTP_IN, ofBool within), (I.PTP_OUTB, ofBool (!within))]).ptpTo 1
  else if st = 1 ∧ a = 16 then s2.ptpTo 2
  else if st = 2 ∧ b = 16 then s2.ptpTo 1
  else s2

/-- The grandmaster's clockIdentity (R330). -/
def State.ptpGm (s : State) (m id : Nat) : State :=
  let old := s.get (R.PTP_GM_ID 0) + 2 ^ 32 * s.get (R.PTP_GM_ID 1)
  if old = id then s
  else
    let s1 := s.sets [(R.PTP_GM_ID 0, id % 2 ^ 32), (R.PTP_GM_ID 1, id / 2 ^ 32), (R.PTP_STAT_PORT, m)]
    if old = 0 then s1 else (s1.set R.PTP_STAT_GM_CHANGE 1).raise E.ptpGm

/-- PTP_MESSAGE: firmware handles a message of a MAC that takes part. -/
def execPtpMessage (m : Fin 4) (msg : PtpMsg) (s : State) : Res :=
  .next (
    if s.isolated 12 ∨ s.get R.PTP_CFG_MODE = 0 ∨ !bit (s.get R.PTP_CFG_PORTS) m then s
    else
      let s1 := match msg.gm with | some g => s.ptpGm m g.toNat | none => s
      let s2 := match msg.utc with | some u => (s1.set R.LTC_UTC_OFF u.toNat).set R.LTC_UTC_VALID 1 | none => s1
      match msg.offset with
      | some o => s2.ptpOffset o.toInt msg.freq.toInt msg.slew.toInt
      | none => s2)

/-- PTP enters HOLDOVER (R330). -/
def State.ptpHold (s : State) : State :=
  if s.isolated 12 ∨ s.get R.PTP_CFG_MODE = 0 then s
  else ((s.set R.PTP_STAT_HOLD_EV 1).sets [(I.PTP_IN, 0), (I.PTP_OUTB, 0)]).ptpTo 3

/-- ANNOUNCE_TIMEOUT (R330). -/
def execAnnounceTimeout (s : State) : Res := .next s.ptpHold

/-! ### MACs and timestamps (R320, R322, R331 to R333) -/

/-- Replace bytes of a list from position `a`. -/
def patchBytes (l : List Byte) (a : Nat) (d : List Byte) : List Byte :=
  l.take a ++ d ++ l.drop (a + d.length)

/-- EtherType of a frame, behind an IEEE 802.1Q tag if it has one, and where the payload begins. -/
def etherType (f : List Byte) : Nat × Nat :=
  let t := beNat (slice f 12 2)
  if t = 0x8100 then (beNat (slice f 16 2), 18) else (t, 14)

/-- A frame matches what NET_RX named: an EtherType, or a UDP port behind 0x8000_0000 (spec/17 R423); UDP over IPv4. -/
def rxMatches (what : Nat) (f : List Byte) : Bool :=
  let (t, p) := etherType f
  if what < 2 ^ 31 then decide (t = what)
  else
    let ihl := fieldLE f p 1 % 16 * 4
    decide (t = 0x0800 ∧ fieldLE f (p + 9) 1 = 17 ∧ beNat (slice f (p + ihl + 2) 2) = what - 2 ^ 31)

/-- Firmware writes a received frame into the rings that match, one frame per slot after a 4-byte length; a frame that no slot
holds is not written. -/
def State.netRxDeliver (s : State) (m : Nat) (f : List Byte) : State :=
  if 2044 < f.length then s
  else (s.rings.filter (fun r => decide (r.mac = m) && rxMatches r.what f)).foldl (fun (s : State) r =>
    let s1 := s.trayPut 0 (r.gran * granBytes + 2048 * r.next) (leBytes 4 f.length ++ f)
    { s1 with rings := s1.rings.map (fun q => if q = r then { q with next := (q.next + 1) % max 1 q.slots } else q) }) s

/-- ETH_FRAME_RX: a frame that is not too long reaches firmware, a PTP event message with the time of its start; `frame` is without its
FCS, which counts for MAX_FRAME (R320). -/
def execEthFrameRx (m : Fin 4) (ptpEvent fecBad : Bool) (frame : List Byte) (s : State) : Res :=
  .next (
    if s.isolated 12 ∨ !s.on (R.MAC_STAT_LINK m) then s
    else if fecBad then ((s.set (R.MAC_EVT_FEC_UNCORR m) 1).inc (R.MAC_EVT_UNC_CNT m)).raise (E.ethFec m)
    else if s.get (R.MAC_CFG_MAX_FRAME m) < frame.length + 4 then s
    else (s.emit (.ethToCore m (if ptpEvent then some (wholeNs s.now - s.get (R.TS_LAT_RX m) * 2 ^ 24) else none)
      frame)).netRxDeliver m frame)

/-- Push a transmit timestamp (R333). -/
def State.tsqPush (s : State) (m id : Nat) (t : Time) : State :=
  if (s.tsq.filter (fun e => decide (e.1 = m))).length < 64 then
    ({ s with tsq := s.tsq ++ [(m, id, t)] } : State).set (R.TSQ_STAT_LEVEL m) (s.get (R.TSQ_STAT_LEVEL m) + 1)
  else ((s.set (R.TSQ_STAT_OVF m) 1).inc (R.TSQ_STAT_OVF_CNT m)).raise (E.tsqOvf m)

/-- PTP_EVENT_MESSAGE_TX (R332). -/
def execPtpEventMessageTx (m : Fin 4) (req : TxStamp) (frame : List Byte) (s : State) : Res :=
  .next (
    if s.isolated 12 ∨ !s.on (R.MAC_STAT_LINK m) then s
    else
      let t := wholeNs s.now + s.get (R.TS_LAT_TX m) * 2 ^ 24
      match req with
      | .oneStep off ck =>
        s.emit (.ethFrame m (patchBytes (patchBytes frame off.toNat (beBytes 6 (timeSec t) ++ beBytes 4 (timeNs t)))
          ck.toNat [0, 0]))
      | .twoStep id => (s.emit (.ethFrame m frame)).tsqPush m id.toNat t)

/-- TSQ_POP (R333). -/
def execTsqPop (m : Fin 4) (s : State) : Res :=
  .next (s.hostReadBead 12 m fun s =>
    match s.tsq.find? (fun e => decide (e.1 = m.val)) with
    | some e =>
      (2 ^ 31 + e.2.1, ({ s with tsq := s.tsq.erase e } : State).sets
        [(R.TSQ_POP_VALID m, 1), (R.TSQ_POP_ID m, e.2.1), (R.TSQ_NS_NS m, timeNs e.2.2),
         (R.TSQ_SEC_SEC m, timeSec e.2.2 % 2 ^ 32), (R.TSQ_HI_V m, timeHi e.2.2),
         (R.TSQ_STAT_LEVEL m, s.get (R.TSQ_STAT_LEVEL m) - 1)])
    | none => (s.get (R.TSQ_POP_ID m), s.set (R.TSQ_POP_VALID m) 0))

/-- The link of a MAC goes down (R322). -/
def State.ethDown (s : State) (m : Nat) : State :=
  if s.isolated 12 ∨ !s.on (R.MAC_STAT_LINK m) then s
  else ((s.sets [(R.MAC_STAT_LINK m, 0), (R.MAC_STAT_AN_DONE m, 0), (R.MAC_STAT_FEC_LOCK m, 0),
    (R.MAC_EVT_LINK_EV m, 1)]).inc (R.MAC_EVT_DOWN_CNT m)).raise (E.ethLink m)

/-- ETH_LINK_DOWN (R322). -/
def execEthLinkDown (m : Fin 4) (s : State) : Res := .next (s.ethDown m)

/-- ETH_LINK_UP (R320): a MAC in use. -/
def execEthLinkUp (m : Fin 4) (s : State) : Res :=
  .next (if s.isolated 12 ∨ !s.on (R.MAC_CFG_EN m) then s
    else s.sets [(R.MAC_STAT_LINK m, 1), (R.MAC_STAT_AN_DONE m, s.get (R.MAC_CFG_AN m)), (R.MAC_STAT_FEC_LOCK m, 1)])

/-! ### Triggers and captures (R334 to R336) -/

/-- TRG_ARM. -/
def execTrgArm (i : Fin 16) (s : State) : Res :=
  .next (s.hostToBead 12 8 fun s =>
    let t := timeOf (s.get (R.TRG_TIME_SEC_V i) + 2 ^ 32 * s.get (R.TRG_TIME_HI_V i)) (s.get (R.TRG_TIME_NS_V i))
    s.sets [(I.TRG_T i, t), (I.TRG_T0 i, t), (R.TRG_CTL_ARMED i, 1)])

/-- TRG_DISARM. -/
def execTrgDisarm (i : Fin 16) (s : State) : Res := .next (s.hostToBead 12 8 fun s => s.set (R.TRG_CTL_ARMED i) 0)

/-- TRG_FIRE: Tally has reached the time. -/
def execTrgFire (i : Fin 16) (s : State) : Res :=
  .next (if s.on (R.TRG_CTL_ARMED i) ∧ s.get (I.TRG_T i) ≤ s.now then s.trgFire i else s)

/-- TRG_PULSE_END. -/
def execTrgPulseEnd (i : Fin 16) (s : State) : Res := .next (s.set (I.TRG_PIN i) 0)

/-- CAP_EDGE. -/
def execCapEdge (j : Fin 8) (falling : Bool) (s : State) : Res :=
  .next (
    let e := s.get (R.CAP_CTL_EDGE j)
    if !s.on (R.CAP_CTL_EN j) ∨ (e = 0 ∧ falling) ∨ (e = 1 ∧ !falling) then s
    else
      let s1 := if s.on (R.CAP_STAT_VALID j) then
          ((s.set (R.CAP_STAT_OVR j) 1).inc (R.CAP_STAT_OVR_CNT j)).raise E.capOvr
        else s
      (s1.sets [(R.CAP_STAT_VALID j, 1), (I.CAP_T j, wholeNs s1.now)]).raise (E.capDone j))

/-- CAP_READ. -/
def execCapRead (j : Fin 8) (s : State) : Res :=
  .next (s.hostReadBead 12 8 fun s =>
    let t := s.get (I.CAP_T j)
    let s1 := if s.on (R.CAP_STAT_VALID j) then
        s.sets [(R.CAP_NS_V j, timeNs t), (R.CAP_SEC_V j, timeSec t % 2 ^ 32), (R.CAP_HI_V j, timeHi t), (R.CAP_STAT_VALID j, 0)]
      else s
    (s1.get (R.CAP_NS_V j), s1))

/-! ### Timecode (R337) -/

/-- Two BCD digits. -/
def bcd (n : Nat) : Nat := n / 10 % 10 * 16 + n % 10

/-- Timecode of a Tally time at a whole frame rate: hours, minutes, seconds, frames from bit 31 down. The counts of the
rates ÷ 1.001 are those of SMPTE ST 2059-1, which the spec does not work out: free values. -/
def State.timecode (s : State) (t : Time) (fps : Nat) (drop : Bool) : Nat :=
  let utc : Int := if s.on R.LTC_UTC_VALID then s.get R.LTC_UTC_OFF else 0
  let local_ : Int := (t : Int) + (signed 32 (s.get R.LTC_OFFSET_S) - utc) * tSec
  let d := (local_ % (86400 * tSec : Nat)).toNat
  let sec := d / tSec
  if drop then s.free % 2 ^ 32
  else
    bcd (sec / 3600) * 2 ^ 24 + bcd (sec / 60 % 60) * 2 ^ 16 + bcd (sec % 60) * 2 ^ 8 + bcd (d % tSec * fps / tSec)

/-- Frame rate of LTC_OUT, and whether it is one of those ÷ 1.001. -/
def ltcRate (r : Nat) : Nat × Bool := if r = 0 then (24, false) else if r = 1 then (25, false) else (30, decide (2 < r))

/-- LTC_FRAME_OUT. -/
def execLtcFrameOut (s : State) : Res :=
  .next (if s.isolated 12 ∨ !s.on R.LTC_CFG_OUT_EN then s
    else
      let r := ltcRate (s.get R.LTC_CFG_RATE)
      s.drawn.emit (.ltc (s.timecode s.now r.1 r.2)))

/-- LTC_IN_SYNC. -/
def execLtcInSync (tc : BitVec 32) (s : State) : Res :=
  .next (if s.isolated 12 ∨ !s.on R.LTC_CFG_IN_EN then s else s.set R.LTC_IN_TC tc.toNat)

end Sys2Proof.Machine
end

