-- ==== Sys2Proof/Machine/Flow.lean ====
section
/-!
DEFINITION. Flows (spec/13 R338 to R346): the flow table, packets, the access-unit queues, receive flows; and the end of an
encoder's picture, which feeds them (spec/09 R252 to R261).
-/

namespace Sys2Proof.Machine

/-! ### The flow table (R338, R339) -/

/-- A flow entry: its 64 bytes. -/
structure FlowEnt where
  b : List Byte

def FlowEnt.u (e : FlowEnt) (a n : Nat) : Nat := fieldLE e.b a n
def FlowEnt.kind (e : FlowEnt) : Nat := e.u 0x00 1
def FlowEnt.ctl (e : FlowEnt) : Nat := e.u 0x01 1
def FlowEnt.hdr (e : FlowEnt) : Bool := bit e.ctl 6
def FlowEnt.rx (e : FlowEnt) : Bool := bit e.ctl 7
def FlowEnt.payload (e : FlowEnt) : Nat := e.u 0x18 2
def FlowEnt.src (e : FlowEnt) : Nat := e.u 0x20 1
def FlowEnt.idx (e : FlowEnt) : Nat := e.u 0x21 1
def FlowEnt.latency (e : FlowEnt) : Time := e.u 0x1C 4 * tUs

/-- Tray addresses of an entry. -/
def State.flowStaged (s : State) (f : Nat) : Nat := s.inForce R.FLOW_TABLE_STAGED_GRAN * granBytes + 64 * f
def State.flowForce (s : State) (f : Nat) : Nat := s.inForce R.FLOW_TABLE_FORCE_GRAN * granBytes + 64 * f

/-- The entry in force. -/
def State.flowEnt (s : State) (f : Nat) : FlowEnt := ⟨s.trayRead (s.flowForce f) 64⟩

/-- The packetiser of a flow whose entry is `e`. -/
def State.flowPkt (s : State) (f : Nat) (e : FlowEnt) : Nat :=
  if 2080 ≤ f then e.ctl % 4
  else if f < 2048 ∧ bit (s.wallRegion f).2.2.2.2 1 then (s.wallRegion f).2.2.2.2 / 4 % 4
  else (s.desc f).out % 4

/-- Bytes of a pixel group and its pixels, for the formats of R344. -/
def pgroup (fmt : Nat) : Nat × Nat := if fmt = 0 then (5, 2) else if fmt = 4 then (4, 2) else (15, 4)

/-- The format that a head's output has in terms of spec/07 R191; none where R344 sends it not. -/
def State.headFmt (s : State) (h : Nat) : Option Nat :=
  let sm := s.inForce (R.TG_CTL_SAMPLING h)
  let bpc := s.inForce (R.TG_CTL_BPC h)
  if sm = 1 ∧ bpc = 2 then some 0 else if sm = 1 ∧ bpc = 1 then some 4
  else if sm = 0 ∧ bpc = 2 then some (if s.inForce (R.CMP_CFG_MATRIX h) = 0 then 3 else 2)
  else none

/-- Format, width and height of what a KIND 2 flow sends. -/
def State.flowGeo (s : State) (f : Nat) (e : FlowEnt) : Option (Nat × Nat × Nat) :=
  if e.src = 1 then
    let g := s.wallRegion f
    some (s.inForce R.CANVAS_FORMAT, 64 * g.2.2.1, 64 * g.2.2.2.1)
  else if e.src = 2 then some (s.inForce (R.FMT_CFG_FORMAT 0), e.u 0x26 2, e.u 0x28 2)
  else (s.headFmt e.idx).map (fun m => (m, s.inForce (R.TG_HACT_V e.idx), s.inForce (R.TG_VACT_V e.idx)))

/-- RTP payload lengths of a picture of a KIND 2 flow: a sample row data header and whole pixel groups of one line each. -/
def rawPackets (payload fmt w h : Nat) : List Nat :=
  let pg := pgroup fmt
  let groups := ceilDiv w pg.2
  let per := max 1 ((payload - 8) / pg.1)
  let line := (List.range (ceilDiv groups per)).map (fun i => 8 + pg.1 * min per (groups - i * per))
  (List.range h).flatMap (fun _ => line)

/-- A pixel group of ST 2110-20 (R344, notes/assumptions/1305.md): the codes of its pixels, most significant bit first; `code` gives component
`c` at a pixel of the line. -/
def pgroupBytes (fmt w : Nat) (code : Nat → Nat → Nat) (i : Nat) : List Byte :=
  let at_ (c x : Nat) : Nat := if x < w then code c x else 0
  let px := (List.range 4).map (fun k => 4 * i + k)
  let l := if fmt = 0 ∨ fmt = 4 then [at_ 1 (2 * i), at_ 0 (2 * i), at_ 2 (2 * i), at_ 0 (2 * i + 1)]
    else if fmt = 2 then px.flatMap (fun x => [at_ 1 x, at_ 0 x, at_ 2 x])
    else px.flatMap (fun x => [at_ 0 x, at_ 1 x, at_ 2 x])
  beBytes (pgroup fmt).1 (l.foldl (fun a v => a * 2 ^ fmtBits fmt + v) 0)

/-- The RTP payloads of a picture from its sample row data header on: length, row and column of the first pixel, whole pixel groups. -/
def rawPayloads (payload fmt w h : Nat) (code : Nat → Nat → Nat → Nat) : List (List Byte) :=
  let pg := pgroup fmt
  let groups := ceilDiv w pg.2
  let per := max 1 ((payload - 8) / pg.1)
  (List.range h).flatMap (fun y => (List.range (ceilDiv groups per)).map (fun i =>
    let n := min per (groups - i * per)
    beBytes 2 (pg.1 * n) ++ beBytes 2 y ++ beBytes 2 (i * per * pg.2) ++
      (List.range n).flatMap (fun k => pgroupBytes fmt w (fun c x => code c x y) (i * per + k))))

/-- What a KIND 2 flow sends at a pixel, by component: a region of canvas frame `buf`, a rectangle of the picture of descriptor slot
`buf`, or a frame of a head. -/
def State.flowCode (s : State) (f : Nat) (e : FlowEnt) (buf : Nat) : Nat → Nat → Nat → Nat :=
  if e.src = 1 then
    let fmt := s.inForce R.CANVAS_FORMAT
    let g := s.wallRegion f
    s.srcCode ⟨some (s.inForce R.CANVAS_REGION), planeLayout fmt s.canvasW s.canvasH,
      fun _ => some (buf * s.inForce R.CANVAS_BUF_MIB * 2 ^ 20), 64 * g.1, 64 * g.2.1, 64 * g.2.2.1, 64 * g.2.2.2.1, fmt, 0, true⟩
  else if e.src = 2 then
    let g := s.ringSrc (s.trayRead (s.descAddr buf) 256)
    s.srcCode { g with x0 := e.u 0x22 2, y0 := e.u 0x24 2 }
  else fun c x y =>
    let l := s.headSamples e.idx y
    if s.inForce (R.TG_CTL_SAMPLING e.idx) = 0 then l.1.getD (3 * x + c) 0
    else if c = 0 then l.1.getD x 0
    else l.2.getD (x / 2 * 2 + (c - 1)) 0

/-- Bytes on the wire of a packet: Ethernet, IPv4, UDP, RTP, FCS, preamble and gap. -/
def wireBytes (e : FlowEnt) (payload : Nat) : Nat := 14 + (if bit (e.u 0x0E 2) 12 then 4 else 0) + 20 + 8 + 12 + payload + 4 + 20

/-- The declared wire rate of an entry, in bit/s (rule 0x84). -/
def State.flowRate (s : State) (f : Nat) (e : FlowEnt) : Nat :=
  if e.rx then 0
  else if e.kind = 1 then
    let d := s.desc f
    if d.rcMode = 0 then d.cap * 8 * tSec / max 1 (d.rateDiv * s.descPeriod d) else d.bitrate * 1100
  else if e.kind = 3 then e.u 0x2C 4 * 1000
  else if e.kind = 2 then
    match s.flowGeo f e with
    | some (fmt, w, h) =>
      ((rawPackets (e.payload - (if e.hdr then 24 else 0)) fmt w h).foldl (fun a n => a + wireBytes e (n + (if e.hdr then 24 else 0))) 0)
        * 8 * tSec / max 1 (if e.src = 3 then s.headPeriod e.idx else s.sourcePeriod)
    | none => 0
  else if e.kind = 4 then
    let n := if bit (e.u 0x2B 1) 4 then 48 else 6
    wireBytes e (e.u 0x2B 1 % 16 * 3 * n) * 8 * (48000 / n)
  else if e.kind = 5 then wireBytes e e.payload * 8 * tSec / max 1 (s.headPeriod e.idx)
  else 0

/-- Rule 0x81: fields in range, reserved bytes 0. -/
def State.flowFields (s : State) (f : Nat) (e : FlowEnt) : Bool :=
  decide (e.ctl / 4 % 16 = 0 ∧ (f < 2080 → e.ctl % 4 = 0) ∧ (e.hdr = true → f < 2048) ∧ 96 ≤ e.u 2 1 ∧ e.u 2 1 ≤ 127 ∧
    e.u 3 1 < 64 ∧ 1 ≤ e.u 0x14 2 ∧ 512 ≤ e.payload ∧ e.payload + 62 ≤ s.get (R.MAC_CFG_MAX_FRAME (s.flowPkt f e)) ∧
    1 ≤ e.u 0x1B 1) &&
  decide ((e.kind = 2 → 1 ≤ e.src ∧ e.src ≤ 3 ∧ (e.src = 3 → e.idx ≤ 7)) ∧ (e.kind = 5 → e.idx ≤ 7) ∧
    (e.kind = 4 → e.idx ≤ 7 ∧ 1 ≤ e.u 0x2B 1 % 16 ∧ e.u 0x2B 1 % 16 ≤ 8 ∧ e.u 0x2B 1 < 32) ∧ (e.rx = true → e.src ≤ 1) ∧
    (List.range 4).all (fun i => decide (e.u (0x22 + 2 * i) 2 % 2 = 0)) = true ∧ e.u 0x2A 1 ≤ 1 ∧ e.u 0x30 16 = 0)

/-- The rules of a flow commit, in order. An unused entry (KIND 0) passes. -/
def State.flowRules (s : State) (f : Nat) (e : FlowEnt) : List (Nat × Bool) :=
  if e.kind = 0 then []
  else
    let flowBit := bit (s.wallRegion f).2.2.2.2 1
    let others := (List.range 2144).filter (fun g => decide (g ≠ f))
    [(0x80, if f < 2048 then !e.rx && (if flowBit then decide (e.kind = 2 ∧ e.src = 1) else decide (e.kind = 1 ∨ e.kind = 3))
        else if f < 2080 then !e.rx && decide (e.kind = 1 ∨ e.kind = 3)
        else if e.rx then decide (e.kind = 1) else decide ((e.kind = 2 ∧ e.src ≠ 1) ∨ e.kind = 4 ∨ e.kind = 5)),
     (0x81, s.flowFields f e),
     (0x82, decide (e.kind ≠ 2) || (match s.flowGeo f e with
        | some (fmt, _, _) => decide (fmt = 0 ∨ fmt = 2 ∨ fmt = 3 ∨ fmt = 4) && (decide (e.src ≠ 2) ||
            (match s.frames.head? with
             | some fr => decide (e.u 0x22 2 + e.u 0x26 2 ≤ fr.width ∧ e.u 0x24 2 + e.u 0x28 2 ≤ fr.lines)
             | none => true))
        | none => false)),
     (0x83, decide (e.kind ≠ 3) || (let d := s.desc f; decide (d.rcMode = 1 ∧ d.bitrate * 105 ≤ e.u 0x2C 4 * 100))),
     (0x84, decide (others.foldl (fun a g =>
        let o := s.flowEnt g
        if o.kind ≠ 0 ∧ s.flowPkt g o = s.flowPkt f e then a + s.flowRate g o else a) (s.flowRate f e) ≤ 95000000000)),
     (0x85, !e.rx || others.all (fun g => let o := s.flowEnt g; !(o.rx && decide (o.kind = 1 ∧ o.src = e.src))))]

/-! ### Flows -/

/-- A flow's record. -/
def State.flow (s : State) (f : Nat) : Option Flow := s.flows.find? (fun x => decide (x.num = f))

/-- Change a flow's record. -/
def State.modFlow (s : State) (f : Nat) (g : Flow → Flow) : State :=
  { s with flows := s.flows.map (fun x => if x.num = f then g x else x) }

/-- A flow has a record; where its sequence numbers begin is not stated. -/
def State.withFlow (s : State) (f : Nat) : State :=
  if (s.flow f).isSome then s else { s.drawn with flows := s.flows ++ [⟨f, s.free % 2 ^ 32, false, 0, []⟩] }

/-- Apply a flow's staged entry, or record why not. -/
def State.flowApply (s : State) (f : Nat) : State :=
  let e : FlowEnt := ⟨s.trayRead (s.flowStaged f) 64⟩
  let s1 := s.modFlow f (fun x => { x with commit := false })
  match (s1.flowRules f e).find? (fun r => !r.2) with
  | some r =>
    let s2 := if s1.on R.FLOW_BAD_BAD then s1
      else s1.sets [(R.FLOW_BAD_BAD, 1), (R.FLOW_BAD_RULE, r.1), (R.FLOW_BAD_FLOW, f)]
    s2.raise E.flowBad
  | none => s1.trayPut 12 (s1.flowForce f) e.b

/-- FLOW_COMMIT (R338): at once where the flow has no picture in progress. -/
def execFlowCommit (f : BitVec 12) (s : State) : Res :=
  .next (s.hostTo 12 fun s =>
    if 2143 < f.toNat then s.wrRange 12 0xC03004
    else
      let s1 := s.withFlow f.toNat
      if (s1.flow f.toNat).any (fun x => !x.pics.isEmpty) then s1.modFlow f.toNat (fun x => { x with commit := true })
      else s1.flowApply f.toNat)

/-- RTP timestamp (R341): floor(t × clock) mod 2^32. -/
def rtpTime (t : Time) (clock : Nat) : Nat := t * clock / tSec % 2 ^ 32

/-- The job of a flow's picture. -/
def flowJob (f tag : Nat) : Job := ⟨12, 0, 9, f, tag⟩

/-- A picture of a flow begins: a pending commit is applied first. -/
def State.flowBegin (s : State) (f : Nat) (mk : FlowEnt → Option FlowPic) : State :=
  let s1 := s.withFlow f
  let s2 := if (s1.flow f).any (fun x => x.commit && x.pics.isEmpty) then s1.flowApply f else s1
  match mk (s2.flowEnt f) with
  | some p => (s2.modFlow f (fun x => { x with pics := x.pics ++ [p] })).beginJob (flowJob f p.tag)
  | none => s2

/-! ### HEVC packets (R342) -/

/-- Fragments of a NAL unit after its 2-byte header, of at most `n` bytes. -/
def fragments (n : Nat) : Nat → List Byte → List (List Byte)
  | 0, _ => []
  | k + 1, l => if l.isEmpty then [] else l.take n :: fragments n k (l.drop n)

/-- RTP payloads of a NAL unit: itself, or fragmentation units of RFC 7798. -/
def nalPackets (p : Nat) (nal : List Byte) : List (List Byte) :=
  if nal.length ≤ p then [nal]
  else
    let b0 := (nal.headD 0).toNat
    let fs := fragments (max 1 (p - 3)) nal.length (nal.drop 2)
    (List.range fs.length).map (fun i =>
      let se := (if i = 0 then 128 else 0) + (if i + 1 = fs.length then 64 else 0)
      leBytes 1 (b0 / 128 * 128 + 49 * 2 + b0 % 2) ++ slice nal 1 1 ++ leBytes 1 (se + b0 / 2 % 64) ++ (fs[i]?).getD [])

/-! ### The end of an encoder's picture (spec/09 R252 to R261, R340, R416) -/

/-- Bytes of a packetiser's access-unit queue, and those in use. -/
def State.auqSize (s : State) (n : Nat) : Nat := s.inForce (R.PKT_AUQ_GRANS n) * granBytes
def State.auqUsed (s : State) (n : Nat) : Nat :=
  s.flows.foldl (fun a x => if s.flowPkt x.num (s.flowEnt x.num) = n then x.pics.foldl (fun a p => a + p.auq) a else a) 0

/-- Write bytes into a ring in the Tray at an offset, with its wrap. -/
def State.ringPut (s : State) (rod base size off : Nat) (d : List Byte) : State :=
  let a := min d.length (size - off)
  (s.trayPut rod (base + off) (d.take a)).trayPut rod base (d.drop a)

/-- An access unit goes to the queue of packetiser `n`, or is dropped (R340). -/
def State.auToPkt (s : State) (rod n f tag : Nat) (au : List Byte) (nals : List (List Byte)) (flags : Nat) (time : Time) :
    State :=
  let size := s.auqSize n
  if size < s.auqUsed n + au.length then
    ((s.set (R.PKT_STAT_AU_DROP n) 1).inc (R.PKT_STAT_DROP_CNT n)).raise (E.pktAuDrop n)
  else
    let w := s.get (I.AUQ_WR n) % max 1 size
    let s1 := (s.ringPut rod (s.inForce (R.PKT_AUQ_GRAN n) * granBytes) size w au).set (I.AUQ_WR n) ((w + au.length) % max 1 size)
    s1.flowBegin f (fun e =>
      if e.kind = 1 ∨ e.kind = 3 then
        let pk := nals.flatMap (nalPackets (e.payload - (if e.hdr then 24 else 0)))
        some ⟨tag, rtpTime time 90000, time, pk, 0, pk.length, flags, au.length⟩
      else none)

/-- An access unit goes to the host ring of its stream, or is dropped (spec/17 R416); the answer tells. -/
def State.auToRing (s : State) (rod n : Nat) (d : Desc) (au : List Byte) : State × Bool :=
  let p := s.get R.BAR4_GRAN * granBytes + 0x10000 + 16 * n
  let b := s.trayRead p 12
  let wr := fieldLE b 0 4
  let size := d.u 0x50 4
  let free := (fieldLE b 4 4 + 2 * size - wr - 64) % max 1 size
  let need := roundUp au.length 64
  if free < need then (s.trayPut rod (p + 8) (leBytes 4 (satInc 32 (fieldLE b 8 4))), false)
  else
    let reg := d.u 0x41 1
    let base := d.u 0x48 8
    let a := min au.length (size - wr)
    (((s.dramPut reg (base + wr) (au.take a)).dramPut reg base (au.drop a)).trayPut rod p (leBytes 4 ((wr + need) % size)), true)

/-- The 32-byte header of an access unit (R261). -/
def auHead (n flags tag bytes nnal poc : Nat) (time : Time) (ctags rows : Nat) : List Byte :=
  leBytes 2 n ++ leBytes 2 flags ++ leBytes 4 tag ++ leBytes 4 bytes ++ leBytes 2 nnal ++ leBytes 2 poc ++ timeBytes time ++
  leBytes 2 ctags ++ leBytes 1 rows ++ zeros 1

/-- An access unit of stream `n` goes to its output; the answer tells whether it found room. -/
def State.auOut (s : State) (rod n : Nat) (d : Desc) (tag : Nat) (au : List Byte) (nals : List (List Byte)) (wall : Nat) (time : Time) :
    State × Bool :=
  if d.toRing then s.auToRing rod n d au else (s.auToPkt rod (d.out % 4) n tag au nals wall time, true)

/-- The end of an encoder's picture (R250 to R261): its access unit, the reference picture, the stream's and the encoder's records. -/
def State.picDone (s0 : State) (e : Nat) (x : Strm) (j : EncJob) : State :=
  let r := e / 4
  let k := e % 4
  let rod := 8 + r
  let c := s0.codePicture x j
  let d := c.plan.d
  let run := c.run
  let s := s0.drawn.dramPut d.dpbRegion (d.bufAt c.plan.slot) (s0.picRecon c)
  let nals := c.front ++ c.slices ++ (if x.fill = 0 then [] else [filler (max 3 x.fill)]) ++
    (if d.hash then [seiHash d.depth (s.picSamples d c.plan.slot)] else []) ++ (if x.eos then [endOfSequence] else [])
  let body := nalBytes nals
  let fr := s.frame j.tag
  let todo := if c.plan.last || j.idr then [] else run.todo
  let sweepEnd := j.idr || (decide (d.gdrN - 1 ≤ j.j) && todo.isEmpty)
  let sei := decide (j.j = 0) && !j.idr
  let exh := decide (run.bad ≠ 0)
  let flags := ofBool j.idr + 2 * ofBool sei + 4 * ofBool j.rep + 8 * ofBool (j.idr || (sei && d.psRepeat)) +
    16 * ofBool (sweepEnd && !j.idr) + 32 * ofBool run.flat
  let ct := match fr with | some f => f.pictured.ctags | none => 0
  let ctags := if exh then setBit ct 6 else ct
  let time := if d.kind = 3 then s.get (I.HEAD_FS d.src) - 1 else match fr with | some f => f.fsTime | none => 0
  let fsTime := match fr with | some f => f.fsTime | none => 0
  let au := auHead x.num flags j.tag body.length nals.length (j.poc % 65536) fsTime ctags run.bad ++ body
  let s1 := if exh then
      (((s.set (R.ENC_EVT_EXH r k) 1).inc (R.ENC_EVT_EXH_CNT r k)).sets
        [(R.ENC_EXH_STREAM r k, x.num), (R.ENC_EXH_ROWS r k, run.bad), (R.ENC_EXH_SKIP r k, ofBool (decide (run.st = 2)))]).raise
        (E.encBudget r k)
    else s
  let s2 := s1.when run.flat (fun s => (s.set (R.ENC_EVT_FLAT r k) 1).raise (E.encFlat r k))
  let wall := 4 * ofBool j.rep + 8 * ofBool (j.idr || sei) + 16 * ofBool (decide (ctags ≠ 0)) + 32 * ofBool exh
  let o := s2.auOut rod x.num d j.tag au nals wall time
  let fill := x.cpb - body.length + s.rcTarget d
  let ref : EncRef := ⟨c.plan.slot, j.poc, j.tag, if sweepEnd then List.replicate d.wc true else d.cleanCols (d.swept j.j) todo⟩
  let s3 := o.1.modStrm x.num (fun y => { y with
    busy := none, lastTag := j.tag, codedTag := if j.rep then y.codedTag else j.tag, poc := j.poc, j := j.j
    todo := todo, sweepEnd := sweepEnd, idr := y.idr || !o.2
    cpb := min d.cpb fill, fill := if d.rcMode = 1 then fill - d.cpb else 0, lastBytes := body.length
    refs := (ref :: c.plan.refs).take d.nref, rows := run.rows, qps := run.qps, lastB := c.plan.b, ceilRow := run.ceilRow, eos := false
    repCnt := if j.rep then satInc 32 y.repCnt else y.repCnt
    exhCnt := if exh then satInc 32 y.exhCnt else y.exhCnt, enc := e })
  (((s3.putStatus rod x.num).set (R.ENC_STAT_STATE r k) 0).endJob (encJobOf x.num j) (if j.rep || exh then 3 else 0)).encKick

/-- ENC_PICTURE_DONE: the encoder ends its picture. -/
def execEncPictureDone (e : Fin 8) (s : State) : Res :=
  .next (match s.strms.find? (fun x => match x.busy with | some j => decide (j.enc = e.val) | none => false) with
    | some x => (match x.busy with | some j => s.picDone e x j | none => s)
    | none => s)

/-- The end of a sequence behind the last access unit, where no picture is in progress that could carry it (R240): an access unit of
that NAL unit alone. -/
def State.sendEos (s : State) (rod : Nat) (x : Strm) : State :=
  let d := s.desc x.num
  let body := nalBytes [endOfSequence]
  let fs := match s.frame x.lastTag with | some f => f.fsTime | none => 0
  (s.auOut rod x.num d x.lastTag (auHead x.num 0 x.lastTag body.length 1 (x.poc % 65536) fs 0 0 ++ body) [endOfSequence] 0 fs).1

/-- SCHED_STOP (R240): no further picture is taken; with EOS the last access unit ends with an end-of-sequence NAL unit. -/
def execSchedStop (cod : Fin 2) (stream : BitVec 12) (s : State) : Res :=
  .next (s.sched cod stream.toNat fun s =>
    let n := stream.toNat
    match s.strm n with
    | some x =>
      if !x.run then s.schedIgn cod
      else
        let eos := (s.desc n).eos
        let s1 := s.modStrm n (fun x => { x with run := false, dues := [], eos := eos && x.busy.isSome })
        if eos && x.busy.isNone && !x.refs.isEmpty then s1.sendEos (8 + cod) x else s1
    | none => s.schedIgn cod)

/-! ### Sending (R321, R322, R341 to R346) -/

/-- Ones' complement sum of the 16-bit words of a header, and its checksum. -/
def ipSum : List Byte → Nat
  | a :: b :: t => a.toNat * 256 + b.toNat + ipSum t
  | [a] => a.toNat * 256
  | [] => 0
def ipCheck (l : List Byte) : Nat :=
  let x := ipSum l
  let y := x % 65536 + x / 65536
  65535 - (y % 65536 + y / 65536)

/-- The frame of a packet of a flow (R339, R341): Ethernet, IPv4 with DF, UDP with checksum 0, RTP. The IPv4 identification is
not stated. -/
def State.rtpFrame (s : State) (m : Nat) (e : FlowEnt) (seq ts : Nat) (last : Bool) (payload : List Byte) : List Byte :=
  let n := payload.length + 12
  let src := s.get (R.MAC_IPV4_IP m)
  let h1 := [0x45, BitVec.ofNat 8 (4 * e.u 3 1)] ++ beBytes 2 (20 + 8 + n) ++ beBytes 2 (s.free % 65536) ++ beBytes 2 0x4000 ++
    slice e.b 0x1A 1 ++ [17]
  let h2 := beBytes 4 src ++ slice e.b 0x10 4
  slice e.b 0x08 6 ++ beBytes 2 (s.get (R.MAC_ADDR_HI_A m)) ++ beBytes 4 (s.get (R.MAC_ADDR_LO_A m)) ++
  (if bit (e.u 0x0E 2) 12 then beBytes 2 0x8100 ++ beBytes 2 (e.u 0x0E 2 / 8192 * 8192 + e.u 0x0E 2 % 4096) else []) ++
  beBytes 2 0x0800 ++ h1 ++ beBytes 2 (ipCheck (h1 ++ h2)) ++ h2 ++
  beBytes 2 (e.u 0x16 2) ++ beBytes 2 (e.u 0x14 2) ++ beBytes 2 (8 + n) ++ beBytes 2 0 ++
  [0x80] ++ beBytes 1 (e.u 2 1 + 128 * ofBool last) ++ beBytes 2 seq ++ beBytes 4 ts ++ beBytes 4 (e.u 4 4) ++ payload

/-- The wall payload header (R346). -/
def State.wallHeader (s : State) (f : Nat) (e : FlowEnt) (p : FlowPic) : List Byte :=
  let pt := p.time + e.latency
  let per := if e.kind = 2 then s.sourcePeriod else (s.desc f).rateDiv * s.descPeriod (s.desc f)
  let h := leBytes 1 (16 + ofBool (decide (e.kind = 2))) ++
    leBytes 1 (ofBool (decide (p.idx = 0)) + 2 * ofBool (decide (p.idx + 1 = p.total)) + p.flags) ++
    beBytes 2 (f % 2048) ++ beBytes 4 p.tag ++ beBytes 4 (timeSec pt) ++ beBytes 4 (timeNs pt) ++ beBytes 2 p.idx ++
    beBytes 2 p.total ++ beBytes 2 ((2 * per + tUs) / (2 * tUs)) ++ slice e.b 0x1B 1
  h ++ leBytes 1 (crc8 h)

/-- The next picture of a flow that takes its pictures itself: a region of the canvas, a rectangle of the picture, a head's
frame, a head's ancillary data. The form of the last is RFC 8331's, which the spec does not work out: free values. -/
def State.flowTake (s : State) (f : Nat) : State :=
  let e := s.flowEnt f
  let last := ((s.flow f).map (·.last)).getD 0
  let mark (s : State) (n : Nat) : State := s.modFlow f (fun x => { x with last := n })
  let raw (s : State) (buf tag flags : Nat) (time : Time) : State :=
    s.flowBegin f (fun e => match s.flowGeo f e with
      | some (fmt, w, h) =>
        let ls := rawPayloads (e.payload - (if e.hdr then 24 else 0)) fmt w h (s.flowCode f e buf)
        some ⟨tag, rtpTime time 90000, time, ls, 0, ls.length, flags, 0⟩
      | none => none)
  if e.kind = 2 ∧ e.src = 1 then
    match s.canv.find? (fun c => c.reported.contains f) with
    | some c =>
      if last = c.tag + 1 then s
      else
        let fr := s.frame c.tag
        raw (mark s (c.tag + 1)) c.buf c.tag (8 + 16 * ofBool (fr.any (fun x => decide (x.pictured.ctags ≠ 0)))) ((fr.map (·.fsTime)).getD 0)
    | none => s
  else if e.kind = 2 ∧ e.src = 2 then
    match s.pics.find? (fun p => p.slot.isSome && s.picComplete p.tag) with
    | some p => if last = p.tag + 1 then s else raw (mark s (p.tag + 1)) (p.slot.getD 0) p.tag 0 (((s.frame p.tag).map (·.fsTime)).getD 0)
    | none => s
  else if e.kind = 2 ∨ e.kind = 5 then
    let t := s.get (I.HEAD_FS e.idx)
    if t = 0 ∨ last = t then s
    else if e.kind = 2 then raw (mark s t) 0 (s.get (R.CMP_FRAME_TAG e.idx)) 0 (t - 1)
    else
      let s1 := mark s t
      s1.drawn.flowBegin f (fun e =>
        some ⟨s1.get (R.CMP_FRAME_TAG e.idx), rtpTime (t - 1) 90000, t - 1, [s1.freeBytes (s1.free % (e.payload + 1))], 0, 1, 0, 0⟩)
  else s

/-- PKTs release the pictures of the source and of the canvas that no flow of theirs has still to send (R340). -/
def State.pktRelease (s : State) : State :=
  let busy (s : State) (n tag : Nat) : Bool := s.flows.any (fun x =>
    let e := s.flowEnt x.num
    decide (s.flowPkt x.num e = n ∧ e.kind = 2) && (x.pics.any (fun p => decide (p.tag = tag)) ||
      (decide (e.src ≠ 3) && tagLater tag (x.last - 1) && decide (x.last ≠ 0))))
  if s.isolated 12 then s
  else
    (List.range 4).foldl (fun (s : State) n =>
      let s1 := s.pics.foldl (fun (s : State) p => match p.slot with
        | some slot =>
          if !s.picComplete p.tag || busy s n p.tag || decide (s.trayRead (s.descAddr slot + 0xC0 + 11 + n) 1 = [1]) then s
          else s.trayPut 12 (s.descAddr slot + 0xC0 + 11 + n) [1]
        | none => s) s
      { s1 with canv := s1.canv.map (fun c => if busy s1 n c.tag then c else { c with held := clrBit c.held (2 + n) }) }) s

/-- The first picture of a flow is over. -/
def State.flowEnd (s : State) (f : Nat) (p : FlowPic) (status : Nat) : State :=
  ((s.modFlow f (fun x => { x with pics := x.pics.drop 1 })).endJob (flowJob f p.tag) status).pktRelease

/-- FLOW_PACKET_TX (R321, R322): the flow's next packet reaches its paced time; `late` tells that it cannot leave within one
packet time. -/
def execFlowPacketTx (f : BitVec 12) (late : Bool) (s : State) : Res :=
  .next (
    let n := f.toNat
    if s.isolated 12 ∨ 2143 < n ∨ (s.flowEnt n).kind = 0 ∨ (s.flowEnt n).rx then s
    else
      let s0 := s.withFlow n
      let s1 := if (s0.flow n).any (fun x => x.pics.isEmpty) then s0.flowTake n else s0
      let e := s1.flowEnt n
      let m := s1.flowPkt n e
      match s1.flow n with
      | some x =>
        match x.pics with
        | [] => s1.pktRelease
        | p :: _ =>
          if !s1.on (R.MAC_STAT_LINK m) then (s1.inc (R.PKT_STAT_DROP_CNT m)).flowEnd n p 4
          else if late then
            (((s1.set (R.PKT_STAT_TX_DROP m) 1).inc (R.PKT_STAT_DROP_CNT m)).raise (E.pktTxDrop m)).flowEnd n p 4
          else
            match p.pkts with
            | [] => s1.flowEnd n p 0
            | d :: rest =>
              let d2 := if e.kind = 2 then beBytes 2 (x.seq / 65536) ++ d else d
              let body := if e.hdr then s1.wallHeader n e p ++ d2 else d2
              let s2 := s1.drawn.emit (.ethFrame m (s1.rtpFrame m e x.seq p.ts rest.isEmpty body))
              let s3 := s2.modFlow n (fun x => { x with
                seq := (x.seq + 1) % 2 ^ 32
                pics := match x.pics with
                  | q :: t => { q with pkts := rest, idx := q.idx + 1 } :: t
                  | [] => [] })
              if rest.isEmpty then s3.flowEnd n p 0 else s3
      | none => s1)

/-! ### Receiving (R343) -/

/-- An access unit that is whole goes to a decoder's input ring in the form of spec/10 R267; one that does not fit is lost. -/
def State.rxFlush (s : State) (m r : Nat) (x : RxFlow) : State :=
  let body := x.nals.flatMap (fun n => beBytes 4 n.length ++ n)
  let au := auHead 0 0 x.tag body.length x.nals.length 0 x.time 0 0 ++ body
  let size := s.decRing r
  let wr := s.get (R.DEC_IN_WR_OFF r)
  let rd := s.get (R.DEC_IN_RD_OFF r)
  let need := roundUp au.length 64
  if x.nals.isEmpty then s
  else if (rd + 2 * size - wr - 64) % max 1 size < need ∨ s.isolated (8 + r) then
    (s.set (R.PKT_STAT_RX_LOST m) 1).raise (E.pktRxLost m)
  else
    let base := s.inForce (R.DEC_IN_BASE_BASE r) * 4096
    let reg := s.inForce (R.DEC_IN_REGION r)
    let a := min au.length (size - wr)
    ((s.dramPut reg (base + wr) (au.take a)).dramPut reg base (au.drop a)).set (R.DEC_IN_WR_OFF r) ((wr + need) % size)

/-- A payload joins the reassembly; the answer tells whether it was an aggregation packet. -/
def RxFlow.take (x : RxFlow) (p : List Byte) (gap : Bool) : RxFlow × Bool :=
  let t := (p.headD 0).toNat / 2 % 64
  if t = 48 then ({ x with part := none }, true)
  else if t = 49 then
    let fu := fieldLE p 2 1
    let head := leBytes 1 ((p.headD 0).toNat / 128 * 128 + fu % 64 * 2 + (p.headD 0).toNat % 2) ++ slice p 1 1
    let part := if bit fu 7 then some (head ++ p.drop 3) else if gap then none else x.part.map (· ++ p.drop 3)
    if bit fu 6 then
      (match part with
       | some n => { x with nals := x.nals ++ [n], part := none }
       | none => { x with part := none }, false)
    else ({ x with part := part }, false)
  else ({ x with nals := x.nals ++ [p], part := none }, false)

/-- The upper seconds of a presentation time whose low 32 bits are given: those nearest to the own time (R347). -/
def nearSec (own low : Nat) : Nat :=
  let b := own / 2 ^ 32 * 2 ^ 32 + low
  let c := [b - 2 ^ 32, b, b + 2 ^ 32]
  c.foldl (fun best v => if (v - own) + (own - v) < (best - own) + (own - best) then v else best) b

/-- RTP_RX_PACKET: a packet of a receive flow of PKT `m`. -/
def execRtpRxPacket (m : Fin 4) (pkt : RtpPkt) (s : State) : Res :=
  .next (
    let hit (f : Nat) : Bool :=
      let e := s.flowEnt f
      e.rx && decide (e.kind = 1 ∧ e.ctl % 4 = m.val ∧ beNat (slice e.b 0x10 4) = pkt.ip.toNat ∧ e.u 0x14 2 = pkt.port.toNat)
    match if s.isolated 12 ∨ !s.on (R.MAC_STAT_LINK m) then none else ((List.range 64).map (· + 2080)).find? hit with
    | none => s
    | some f =>
      let e := s.flowEnt f
      let old := s.rxs.find? (fun x => decide (x.num = f))
      let gap := old.any (fun x => decide (x.seq ≠ pkt.seq.toNat))
      let s1 := if gap then (s.set (R.PKT_STAT_RX_LOST m) 1).raise (E.pktRxLost m) else s
      let s2 := match old with
        | some x => if x.ts ≠ pkt.ts.toNat then s1.rxFlush m e.src x else s1
        | none => s1
      let w := pkt.payload
      let pt := timeOf (nearSec (timeSec s.now) (beNat (slice w 8 4))) (beNat (slice w 12 4))
      let fresh : RxFlow :=
        { num := f, seq := pkt.seq.toNat, ts := pkt.ts.toNat
          tag := if pkt.wall then beNat (slice w 4 4) else pkt.ts.toNat
          time := if pkt.wall then pt - e.latency else s.now }
      let x := match old with
        | some x => if x.ts ≠ pkt.ts.toNat then fresh else x
        | none => fresh
      let g := x.take (if pkt.wall then w.drop 24 else w) gap
      let s3 := s2.when g.2 (·.set (R.PKT_STAT_RX_AP m) 1)
      let x1 := { g.1 with seq := (pkt.seq.toNat + 1) % 65536 }
      let keep := s3.rxs.filter (fun x => decide (x.num ≠ f))
      if pkt.marker then
        { s3.rxFlush m e.src x1 with rxs := keep ++ [{ x1 with nals := [], part := none, ts := 2 ^ 32 }] }
      else { s3 with rxs := keep ++ [x1] })

end Sys2Proof.Machine
end

