-- ==== Sys2Proof/Machine/Comp.lean ====
section
/-!
DEFINITION. The composers (spec/11): commit rules, flips and fences, the choice and the release of pictures, scalers, guarded
regions, the wall canvas and the slicer.
-/

namespace Sys2Proof.Machine

/-! ### Commit rules (rules 0x68 to 0x72) -/

/-- Bytes granted to a rod for reading, all of `n` bytes from a Tray address. -/
def State.readable (s : State) (rod a n : Nat) : Bool := (granSpan a n).all (fun g => s.granted rod g false)

/-- Planes of a layer's source up to column `w` and line `h`: bytes of a line and lines. -/
def layerPlanes (video : Bool) (fmt w h : Nat) : List (Nat × Nat) := if video then planesOf fmt w h else [(4 * w, h)]

/-- Does a layer with a buffer of its own stay inside it (rule 0x69)? -/
def State.layerInside (s : State) (ask : Fld → Nat) (n j : Nat) : Bool :=
  let base := 64 * ask (R.LAYER_BUF_OFF64 n j)
  let pitch := 64 * ask (R.LAYER_PITCH_PITCH n j)
  let w := ask (R.LAYER_SRC_XY_X n j) + ask (R.LAYER_SRC_WH_W n j)
  let h := ask (R.LAYER_SRC_XY_Y n j) + ask (R.LAYER_SRC_WH_H n j)
  let ps := layerPlanes (decide (j < 4)) (ask (R.LAYER_FMT_FORMAT n j)) w h
  let ends := (List.range ps.length).map (fun p => match ps[p]? with
    | some l => base + p * ask (R.LAYER_PITCH_P1_OFF n j) * 65536 + (l.2 - 1) * pitch + l.1
    | none => 0)
  if ask (R.LAYER_FMT_KIND n j) = 0 then ends.all (fun e => decide (e ≤ s.strg.regionSize (ask (R.LAYER_FMT_REGION n j))))
  else
    match s.strg.granule (base % trayBytes / granBytes) with
    | some t => ends.all (fun e => decide (e ≤ (t.first + t.count) * granBytes))
    | none => false

/-- Commit rules of composer `n` for an output of `w` × `h`. -/
def cmpRules (n w h : Nat) (s : State) (ask : Fld → Nat) : List (Nat × Bool) :=
  let en (j : Nat) : Bool := decide (ask (R.LAYER_CTL_EN n j) = 1)
  let ls := (List.range 12).filter en
  let kind (j : Nat) := ask (R.LAYER_FMT_KIND n j)
  let own (j : Nat) : Bool := decide (kind j ≤ 1)
  let ratio (a b : Nat) : Bool := decide (b ≤ 16 * a ∧ a ≤ 8 * b)
  let gs := (List.range 16).filter (fun g => decide (ask (R.GRD_XY_EN n g) = 1))
  let x g := ask (R.GRD_XY_X n g)
  let y g := ask (R.GRD_XY_Y n g)
  let gw g := ask (R.GRD_WH_W n g)
  let gh g := ask (R.GRD_WH_H n g)
  [(0x68, ls.all (fun i => ls.all (fun j => decide (i = j) || decide (ask (R.LAYER_CTL_Z n i) ≠ ask (R.LAYER_CTL_Z n j))))),
   (0x69, ls.all (fun j => !own j || s.layerInside ask n j)),
   (0x6A, ls.all (fun j => decide (4 ≤ j) || (ratio (ask (R.LAYER_SRC_WH_W n j)) (ask (R.LAYER_DST_WH_W n j)) &&
      ratio (ask (R.LAYER_SRC_WH_H n j)) (ask (R.LAYER_DST_WH_H n j))))),
   (0x6B, ls.all (fun j => if j < 4 then
        decide (kind j ≤ 4 ∧ ask (R.LAYER_FMT_PREMULT n j) = 0 ∧ (own j = true → ask (R.LAYER_FMT_FORMAT n j) ≤ 5))
      else decide (kind j ≤ 1 ∧ ask (R.LAYER_FMT_FORMAT n j) ≤ 1))),
   (0x6C, ls.all (fun j => decide (4 ≤ j) || decide (128 ≤ s.lbuf n j))),
   (0x6D, gs.all (fun g => decide (x g + gw g ≤ w ∧ y g + gh g ≤ h) &&
      gs.all (fun k => decide (k = g) || decide (x g + gw g ≤ x k ∨ x k + gw k ≤ x g ∨ y g + gh g ≤ y k ∨ y k + gh k ≤ y g)) &&
      (decide (ask (R.GRD_XY_FB_EN n g) = 0) ||
        s.readable 11 (64 * ask (R.GRD_FB_WORD n g)) (roundUp (4 * gw g) 64 * gh g)))),
   (0x6E, ls.all (fun j => (decide (kind j ≠ 1) || s.readable 11 (64 * ask (R.LAYER_BUF_OFF64 n j) % trayBytes) 1) &&
      (List.range 4).all (fun k => decide (ask (R.LAYER_FADDR_EN n j k) = 0) ||
        s.readable 11 (64 * ask (R.LAYER_FADDR_WORD n j k)) 4)))]

/-- Entry `i` of the staged region table as OUT reads it: none where the read is denied or returns POISON. -/
def State.stagedRegion (s : State) (gran i : Nat) : Option (List Byte) :=
  let a := gran * granBytes + 8 * i
  if s.rodClean 11 a 8 then some (s.trayRead a 8) else none

/-- Rule 0x70 on an entry. -/
def State.regionOk (s : State) (b : List Byte) : Bool :=
  let w := fieldLE b 4 1
  let h := fieldLE b 5 1
  !bit (fieldLE b 6 1) 0 || decide (fieldLE b 0 2 ≤ 511 ∧ fieldLE b 2 2 ≤ 127 ∧ 2 ≤ w ∧ w ≤ 30 ∧ 2 ≤ h ∧ h ≤ 17 ∧
    fieldLE b 6 1 < 16 ∧ 64 * (fieldLE b 0 2 + w) ≤ s.canvasW ∧ 64 * (fieldLE b 2 2 + h) ≤ s.canvasH)

/-- Commit rules of the wall domain. An entry of a region in use that OUT cannot read passes no rule; one beyond WALL_REGIONS that it
cannot read is not seen to have EN (log 209). -/
def wallRules (s : State) (ask : Fld → Nat) (_d : Nat) : List (Nat × Bool) :=
  let gran := ask R.SLC_TABLE_GRAN
  cmpRules 8 s.canvasW s.canvasH s ask ++
  [(0x70, (List.range s.wallRegions).all (fun i =>
      match s.stagedRegion gran i with | some b => s.regionOk b | none => false)),
   (0x71, decide (ask R.CANVAS_NBUF * ask R.CANVAS_BUF_MIB * 2 ^ 20 ≤ s.strg.regionSize (ask R.CANVAS_REGION) ∧
      pictureBytes (ask R.CANVAS_FORMAT) s.canvasW s.canvasH ≤ ask R.CANVAS_BUF_MIB * 2 ^ 20)),
   (0x72, (List.range 2048).all (fun i => decide (i < s.wallRegions) ||
      (match s.stagedRegion gran i with | some b => !bit (fieldLE b 6 1) 0 | none => true)))]

/-! ### Flips (R280, R289, R290, R292) -/

/-- Numbers of the flip set's fields, and of a guarded region's. -/
def isFlip (id : Nat) : Bool := decide ((3043 ≤ id ∧ id ≤ 3059) ∨ (3071 ≤ id ∧ id ≤ 3073))
def isGuard (id : Nat) : Bool := decide (3060 ≤ id ∧ id ≤ 3070)

/-- Layer of a flip field's key, of any composer: 12 × composer + layer. -/
def layerOf (k : Key) : Nat := if k.2.1 < 3060 then k.2.2 else k.2.2 / 4

/-- The keys of composer `n` that take effect at every commit: not the flip sets, and no guarded region with BIND. -/
def State.layoutKey (s : State) (n : Nat) (k : Key) : Bool :=
  inDom 11 n k && !isFlip k.2.1 && !(isGuard k.2.1 && s.on (R.GRD_XY_BIND n (k.2.2 % 16)))

/-- The keys that flip with group `g` of composer `n`. -/
def State.flipKey (s : State) (n g : Nat) (k : Key) : Bool :=
  inDom 11 n k &&
    ((isFlip k.2.1 && decide (s.inForce (R.LAYER_CTL_GROUP n (layerOf k % 12)) = g)) ||
     (isGuard k.2.1 && s.on (R.GRD_XY_BIND n (k.2.2 % 16)) && decide (s.get (R.GRD_WH_GROUP n (k.2.2 % 16)) = g)))

/-- The layers of a group. -/
def State.groupLayers (s : State) (n g : Nat) : List Nat :=
  (List.range 12).filter (fun j => decide (s.inForce (R.LAYER_CTL_GROUP n j) = g))

/-- One fence (R290): whether it is signalled, and what its reading records. -/
def State.fence (s : State) (n j k : Nat) : Bool × State :=
  if !s.on (R.LAYER_FADDR_EN n j k) then (true, s)
  else
    let r := s.trayReadAs 11 (rodPort 11) (64 * s.get (R.LAYER_FADDR_WORD n j k)) 4
    if r.2.1 ≠ 0 then (false, (r.2.2.set (R.CMP_STAT_FENCE_ERR n) 1).raise (E.cmpFenceErr n))
    else (decide ((leNat r.1 + 2 ^ 32 - s.get (R.LAYER_FVAL_VAL n j k)) % 2 ^ 32 < 2 ^ 31), r.2.2)

/-- All fences of a group. -/
def State.groupFences (s : State) (n g : Nat) : Bool × State :=
  (s.groupLayers n g).foldl (fun (acc : Bool × State) j => (List.range 4).foldl (fun (acc : Bool × State) k =>
    let r := acc.2.fence n j k
    (acc.1 && r.1, r.2)) acc) (true, s)

/-- The groups that `p` picks are tried: each flips or is deferred. -/
def State.flips (s : State) (n : Nat) (p : Nat → Bool) : State :=
  ((List.range 8).filter p).foldl (fun (s : State) g =>
    let r := s.groupFences n g
    if r.1 then
      (s.groupLayers n g).foldl (fun (s : State) j => s.set (I.LAYER_DIRTY n j) 0) (r.2.commitWhere (r.2.flipKey n g))
    else
      ((r.2.set (R.CMP_STAT_GROUPS n) (setBit (r.2.get (R.CMP_STAT_GROUPS n)) g)).set (R.CMP_STAT_FENCE_DEFER n) 1).inc
        (R.CMP_STAT_DEFER_CNT n) |>.raise (E.cmpFenceDefer n)) (s.set (R.CMP_STAT_GROUPS n) 0)

/-- A group is pending. -/
def State.groupPending (s : State) (n g : Nat) : Bool := (s.groupLayers n g).any (fun j => s.on (I.LAYER_DIRTY n j))

/-- The composer's sets at a commit that has passed its checks. -/
def State.cmpApply (s : State) (n : Nat) : State :=
  let s1 := s.commitWhere (s.layoutKey n)
  s1.flips n (s1.groupPending n)

/-- At a commit point without a request, or whose commit failed: groups that were deferred before are tried again, where the
staged sets pass the checks. -/
def State.cmpRetry (s : State) (n : Nat) (pass : Bool) : State :=
  let d := s.get (R.CMP_STAT_GROUPS n)
  if pass then s.flips n (bit d) else s

/-! ### Scalers (R288) -/

/-- Set the modes of the video layers. -/
def State.scalers (s : State) (n : Nat) : State :=
  (List.range 4).foldl (fun (s : State) j =>
    if s.inForce (R.LAYER_CTL_EN n j) = 0 then s.sets [(R.CMP_SCL_TAPS n j, 0), (R.CMP_SCL_WIDTH n j, 0)]
    else
      let m := sclMode (s.lbuf n j) (s.inForce (R.LAYER_SRC_WH_W n j)) (s.inForce (R.LAYER_SRC_WH_H n j))
        (s.inForce (R.LAYER_DST_WH_H n j))
      let s1 := s.sets [(R.CMP_SCL_TAPS n j, m.1), (R.CMP_SCL_WIDTH n j, m.2.1)]
      let s2 := if m.2.2.1 then (s1.set (R.CMP_STAT_TAPS_REDUCED n) 1).raise (E.cmpTapsReduced n) else s1
      if m.2.2.2 then (s2.set (R.CMP_STAT_LAYER_CROPPED n) 1).raise (E.cmpLayerCropped n) else s2) s

/-! ### Choice of pictures (R282 to R284) -/

/-- The layer's source rectangle meets a stripe whose entry names no picture (spec/07 R197). -/
def State.layerHole (s : State) (n j a : Nat) : Bool :=
  let x := s.inForce (R.LAYER_SRC_XY_X n j)
  let w := s.inForce (R.LAYER_SRC_WH_W n j)
  let d := s.rodRead 11 a 256
  (List.range 4).any (fun k =>
    let f := fieldLE d (0x40 + 16 * k) 2
    let cw := fieldLE d (0x42 + 16 * k) 2
    decide (k < fieldLE d 6 1 ∧ fieldLE d (0x45 + 16 * k) 1 = 2 ∧ fieldLE d (0x44 + 16 * k) 1 = 0xFF ∧ f < x + w ∧ x < f + cw))

/-- The picture that layer `j` of composer `n` would take: ring, descriptor address, tag, CTAGS. `shown` is the picture of a
PIC layer of WCMP. -/
def State.layerWants (s : State) (n j : Nat) (shown : Option Nat) : Option LayerPic :=
  let kind := s.inForce (R.LAYER_FMT_KIND n j)
  if kind = 2 then
    let newest := s.pics.dropWhile (fun p => !(p.slot.isSome && s.picComplete p.tag))
    let pick := if n = 8 then s.pics.find? (fun p => decide (some p.tag = shown))
      else (newest.drop (s.inForce (R.LAYER_CTL_DELAY n j))).head?
    match pick with
    | some ⟨tag, some slot, _⟩ =>
      let a := s.descAddr slot
      if s.picComplete tag && !s.layerHole n j a then some ⟨n, j, 0, a, tag, fieldLE (s.rodRead 11 (a + 0x8A) 2) 0 2⟩ else none
    | _ => none
  else if kind = 3 ∨ kind = 4 then
    match (s.decOut.filter (fun e => decide (e.1 = kind - 3))).getLast? with
    | some e => some ⟨n, j, kind - 2, e.2.1, fieldLE (s.rodRead 11 e.2.1 4) 0 4, fieldLE (s.rodRead 11 (e.2.1 + 0x18) 2) 0 2⟩
    | none => none
  else none

/-- Put a picture in force, or none. -/
def State.setLayer (s : State) (n j : Nat) (p : Option LayerPic) : State :=
  { s with lays := s.lays.filter (fun q => decide (q.n ≠ n ∨ q.j ≠ j)) ++ p.toList }

/-- A picture's colour codes do not suit the composer (R285). -/
def State.colourMm (s : State) (p : LayerPic) : Bool :=
  let b := s.rodRead 11 (p.addr + (if p.ring = 0 then 0x0C else 0x10)) 3
  decide (fieldLE b 0 1 ≠ s.inForce (R.CMP_CFG_PRIM p.n) ∨ fieldLE b 1 1 ≠ s.inForce (R.CMP_CFG_TRC p.n)) ||
  !([0, 1, 5, 6, 9].contains (fieldLE b 2 1))

/-- One video layer at a commit point. -/
def State.layerChoose (s : State) (n j : Nat) (shown : Option Nat) : State :=
  if s.inForce (R.LAYER_CTL_EN n j) = 0 ∨ s.inForce (R.LAYER_FMT_KIND n j) < 2 then
    (s.setLayer n j none).set (I.LAYER_HOLD n j) 0
  else
    let old := (s.layerPic n j).filter (fun p => decide (p.ring + 2 = s.inForce (R.LAYER_FMT_KIND n j)))
    let s1 := match s.layerWants n j shown with
      | some p =>
        let held := s.get (I.LAYER_HOLD n j)
        if s.inForce (R.LAYER_CTL_CONC n j) = 1 ∧ bit p.ctags 5 ∧ held < s.inForce (R.LAYER_CTL_HOLD_MAX n j) ∧ old ≠ some p then
          (((s.setLayer n j old).set (I.LAYER_HOLD n j) (held + 1)).set (R.CMP_STAT_HOLD n) 1).raise (E.cmpHold n)
        else (s.setLayer n j (some p)).set (I.LAYER_HOLD n j) 0
      | none => s.setLayer n j old
    match s1.layerPic n j with
    | some p =>
      let s2 := s1.rodUse 11 p.addr 256
      if s2.colourMm p then (s2.set (R.CMP_STAT_COLOUR_MM n) 1).raise (E.cmpColourMm n) else s2
    | none => s1

/-- Reader `n` of a descriptor writes its RELEASED byte. -/
def State.releaseAt (s : State) (rod a : Nat) : State := if s.trayRead a 1 = [1] then s else s.trayPut rod a [1]

/-- Composer `n` releases the pictures that it does not show and that no later choice can take: those older than the newest
complete picture by more than the largest DELAY, and descriptors of a decoder before the last (R283). -/
def State.cmpRelease (s : State) (n : Nat) (shown : Option Nat) : State :=
  let uses (s : State) (a : Nat) : Bool := s.lays.any (fun p => decide (p.n = n ∧ p.addr = a))
  let depth := (List.range 4).foldl (fun m j =>
    if s.inForce (R.LAYER_CTL_EN n j) = 1 ∧ s.inForce (R.LAYER_FMT_KIND n j) = 2 then max m (1 + s.inForce (R.LAYER_CTL_DELAY n j))
    else m) 0
  let old := if n = 8 then s.pics.filter (fun p => match shown with | some t => !tagLater p.tag t | none => false)
    else (s.pics.dropWhile (fun p => !(p.slot.isSome && s.picComplete p.tag))).drop depth
  let s1 := old.foldl (fun (s : State) p => match p.slot with
    | some slot => if uses s (s.descAddr slot) then s else s.releaseAt 11 (s.descAddr slot + 0xC0 + n)
    | none => s) s
  let s2 := [0, 1].foldl (fun (s : State) r =>
    let l := s.decOut.filter (fun e => decide (e.1 = r))
    let keep := (List.range 4).any (fun j => decide (s.inForce (R.LAYER_CTL_EN n j) = 1 ∧ s.inForce (R.LAYER_FMT_KIND n j) = 3 + r))
    (if keep then l.dropLast else l).foldl (fun (s : State) e =>
      if uses s e.2.1 then s else s.releaseAt 11 (e.2.1 + 0x68 + n)) s) s1
  s2.decKickAll

/-- A composer's commit point but for the sets themselves: pending clears of fallbacks, scalers, pictures. -/
def State.cmpPoint (s : State) (n : Nat) (shown : Option Nat) : State :=
  let s1 := (List.range 16).foldl (fun (s : State) g =>
    if s.on (R.GRD_GSTAT_CLR n g) then s.sets [(R.GRD_GSTAT_CLR n g, 0), (R.GRD_GSTAT_ACTIVE n g, 0)] else s) s
  ((List.range 4).foldl (fun (s : State) j => s.layerChoose n j shown) (s1.scalers n)).cmpRelease n shown

/-- TAG of the composed frame, and its CTAGS (R284). -/
def State.cmpTag (s : State) (n : Nat) : Nat := (((List.range 4).findSome? (fun j => s.layerPic n j)).map (·.tag)).getD 0
def State.cmpCtags (s : State) (n : Nat) : Nat :=
  (s.lays.filter (fun p => decide (p.n = n))).foldl (fun a p => a ||| p.ctags) 0

/-! ### Guarded regions (R291 to R294) -/

/-- The check of a region as its last pixel is taken: `crc` is the value over its pixels as sent or written. A fallback word that OUT
may not read counts as one that returns POISON (log 209). -/
def State.guardCheck (s : State) (n g crc : Nat) : State :=
  if s.inForce (R.GRD_XY_EN n g) = 0 then s
  else if s.on (R.GRD_GSTAT_ACTIVE n g) then
    let a := 64 * s.inForce (R.GRD_FB_WORD n g)
    let w := s.inForce (R.GRD_WH_W n g)
    let h := s.inForce (R.GRD_WH_H n g)
    if s.on (R.GRD_GSTAT_FB_BAD n g) then s
    else if !s.rodClean 11 a (roundUp (4 * w) 64 * h) ∨ crc ≠ s.inForce (R.GRD_FB_CRC_CRC n g) then
      (s.sets [(R.GRD_GSTAT_FB_BAD n g, 1), (R.GRD_GSTAT_CLR n g, 0)]).raise (E.guardFbBad n)
    else s
  else if crc = s.inForce (R.GRD_EXPECT_CRC n g) then s
  else
    let s1 := ((s.sets [(R.GRD_GSTAT_MISMATCH n g, 1), (R.GRD_MEAS_CRC n g, crc)]).inc (R.GRD_GSTAT_MM_CNT n g)).raise
      (E.guardMismatch n)
    if s1.inForce (R.GRD_XY_FB_EN n g) = 1 then s1.set (R.GRD_GSTAT_ACTIVE n g) 1 else s1

/-- GUARD_CLR (R294). -/
def execGuardClr (n : Fin 9) (g : Fin 16) (s : State) : Res :=
  .next (s.hostToBead 11 n fun s => if s.on (R.GRD_GSTAT_ACTIVE n g) then s.set (R.GRD_GSTAT_CLR n g) 1 else s)

/-! ### The wall canvas (R295 to R299) -/

/-- The wall commit point (R297): a commit that passes copies the staged region table and tags it. -/
def State.wallCommit (s : State) (tag : Nat) : State :=
  if s.commitPending 11 8 then
    let ask := s.asked 11 8
    match (wallRules s ask 8).find? (fun r => !r.2) with
    | some r => (((s.rodUse 11 (ask R.SLC_TABLE_GRAN * granBytes) 16384).clearPend 11 8).commitBad 11 8 r.1).cmpRetry 8 false
    | none =>
      let s1 := (s.clearPend 11 8).cmpApply 8
      let a := s1.inForce R.SLC_TABLE_GRAN * granBytes
      ((s1.rodUse 11 a 16384).trayPut 11 (a + 16384) (s1.rodRead 11 a 16384)).set R.SLC_TABLE_TAG_TAG tag
  else s.cmpRetry 8 (((wallRules s (s.asked 11 8) 8).all (fun r => r.2)))

/-- The first free canvas buffer after the one last used. -/
def State.canvasBuf (s : State) : Option Nat :=
  let n := s.inForce R.CANVAS_NBUF
  ((List.range n).map (fun i => (s.get I.WC_BUF + i) % max 1 n)).find?
    (fun b => s.canv.all (fun c => decide (c.buf ≠ b ∨ c.held = 0)))

/-- A canvas frame is written into buffer `b`. -/
def State.canvasStore (s : State) (b : Nat) : State :=
  let fmt := s.inForce R.CANVAS_FORMAT
  let ls := planesOf fmt s.canvasW s.canvasH
  let lay := planeLayout fmt s.canvasW s.canvasH
  let base := b * s.inForce R.CANVAS_BUF_MIB * 2 ^ 20
  let at_ := (ls.zip lay).flatMap (fun p => (List.range p.1.2).map (fun y => base + p.2.1 + y * p.2.2))
  (at_.zip (s.canvasLines fmt s.canvasW s.canvasH)).foldl (fun (s : State) l => s.dramPut (s.inForce R.CANVAS_REGION) l.1 l.2) s

/-- Canvas frame `tag` is composed, its PIC layers showing picture `shown`. -/
def State.wallFrame (s : State) (tag : Nat) (shown : Option Nat) : State :=
  let s0 := s.pktRelease.set I.WC_LAST (tag + 1)
  match s0.canvasBuf with
  | none => (s0.set (R.CMP_STAT_CANVAS_SKIP 8) 1).raise E.wallCanvasSkip
  | some b =>
    let j : Job := ⟨11, 8, 8, 8, tag⟩
    let s1 := ((List.range s0.canvasH).foldl (fun (s : State) y => s.composeUse 8 y)
      (((s0.wallCommit tag).beginJob j).cmpPoint 8 shown)).canvasStore b
    let s2 := (List.range 16).foldl (fun (s : State) g =>
      if s.inForce (R.GRD_XY_EN 8 g) = 1 then s.guardCheck 8 g (s1.guardCrc 8 g (s1.composed 8)) else s) s1
    let ct := s2.cmpCtags 8
    let s3 := s2.sets [(R.CMP_FRAME_TAG 8, s2.cmpTag 8), (R.CMP_CTAGS_V 8, ct), (I.WC_BUF, b + 1)]
    let s4 : State := { s3 with canv := (⟨tag, b, s3.inForce R.WREADERS_MASK, true, []⟩ ::
      s3.canv.filter (fun c => decide (c.buf ≠ b))).take 16 }
    (s4.endJob j (if ct = 0 then 0 else 3)).encKick

/-- WCMP runs and has not yet come to canvas frame `tag`. -/
def State.wallDue (s : State) (tag : Nat) : Bool :=
  s.strg.strungBead 11 8 && !s.isolated 11 && !s.draining 11 tag && (s.frame tag).isSome &&
  (!s.on I.WC_LAST || tagLater tag (s.get I.WC_LAST - 1))

/-- CANVAS_FRAME_START (R298). -/
def execCanvasFrameStart (tag : BitVec 32) (s : State) : Res :=
  .next (if s.wallDue tag.toNat ∧ s.picComplete tag.toNat then s.wallFrame tag.toNat (some tag.toNat) else s)

/-- CWAIT_TIMEOUT (R298): the newest complete picture takes the place of one that is late. -/
def execCwaitTimeout (tag : BitVec 32) (s : State) : Res :=
  .next (if s.wallDue tag.toNat ∧ !s.picComplete tag.toNat then
    ((s.set (R.CMP_STAT_PIC_LATE 8) 1).raise E.wallPicLate).wallFrame tag.toNat
      ((s.pics.find? (fun p => p.slot.isSome && s.picComplete p.tag)).map (·.tag))
  else s)

/-- REGION_COMPLETE (R299): a region that the table in force enables, once per canvas frame. -/
def execRegionComplete (r : BitVec 11) (tag : BitVec 32) (s : State) : Res :=
  .next (match s.canv.find? (fun c => decide (c.tag = tag.toNat)) with
    | some c =>
      if s.isolated 11 ∨ s.wallRegions ≤ r.toNat ∨ !bit (s.wallRegion r.toNat).2.2.2.2 0 ∨ c.reported.contains r.toNat then s
      else
        ({ s with canv := s.canv.map (fun x =>
            if x.tag = tag.toNat then { x with reported := r.toNat :: x.reported } else x) } : State).regionReport r.toNat tag.toNat
    | none => s)

end Sys2Proof.Machine
end

