-- ==== Sys2Proof/Machine/Heads.lean ====
section
/-!
DEFINITION. The output heads and the physical outputs (spec/12): timing, the commit window, underruns, routing, SDI,
DisplayPort and eDP, AUX.
-/

namespace Sys2Proof.Machine

/-! ### SDI formats (R311) -/

/-- A row of the table of R311: FMT, HACT values, VACT, HTOTAL, VTOTAL, NUM of CK_HEADn, whether ÷ 1.001 is allowed, RATE
of SDIn.STAT. -/
structure SdiRow where
  fmt : Nat
  hacts : List Nat
  vact : Nat
  htotal : Nat
  vtotal : Nat
  num : Nat
  den : Bool
  rate : Nat

def sdiRows : List SdiRow :=
  [⟨0, [1280], 720, 1650, 750, 18562500, true, 1⟩, ⟨1, [1280], 720, 1980, 750, 18562500, false, 1⟩,
   ⟨2, [1920, 2048], 1080, 2200, 1125, 18562500, true, 1⟩, ⟨3, [1920, 2048], 1080, 2640, 1125, 18562500, false, 1⟩,
   ⟨4, [1920, 2048], 1080, 2750, 1125, 18562500, true, 1⟩, ⟨5, [1920, 2048], 1080, 2200, 1125, 37125000, true, 2⟩,
   ⟨6, [1920, 2048], 1080, 2640, 1125, 37125000, false, 2⟩, ⟨7, [3840, 4096], 2160, 4400, 2250, 74250000, true, 3⟩,
   ⟨8, [3840, 4096], 2160, 5280, 2250, 74250000, false, 3⟩, ⟨9, [3840, 4096], 2160, 5500, 2250, 74250000, true, 3⟩,
   ⟨10, [3840, 4096], 2160, 4400, 2250, 148500000, true, 4⟩, ⟨11, [3840, 4096], 2160, 5280, 2250, 148500000, false, 4⟩]

/-- The row that a head's timing matches. -/
def sdiRow (ask : Fld → Nat) (n : Nat) : Option SdiRow :=
  sdiRows.find? (fun r => r.hacts.contains (ask (R.TG_HACT_V n)) && decide (ask (R.TG_VACT_V n) = r.vact ∧
    ask (R.TG_HTOTAL_V n) = r.htotal ∧ ask (R.TG_VTOTAL_V n) = r.vtotal ∧ ask (R.TG_PCLK_NUM n) = r.num ∧
    (ask (R.TG_PCLK_DEN n) = 1 → r.den = true)))

/-! ### DisplayPort rates (R315, spec/03 R72) -/

/-- Link rate of an index, in kbit/s. -/
def dpRate (q i : Nat) : Nat :=
  ((if q < 2 then [1620000, 2700000, 5400000, 8100000, 10000000, 13500000, 20000000]
    else [1620000, 2160000, 2430000, 2700000, 3240000, 4320000, 5400000, 6750000, 8100000])[i]?).getD 0

/-- Bits of a component for BPC. -/
def bpcBits (b : Nat) : Nat := if b = 0 then 6 else if b = 1 then 8 else 10

/-- The link carries the head's stream (R315): lanes coded 0 one, 1 two, 2 four. -/
def dpFits (ask : Fld → Nat) (n q lanes rate : Nat) : Bool :=
  let m := if ask (R.TG_CTL_SAMPLING n) = 0 then 6 else if ask (R.TG_CTL_SAMPLING n) = 1 then 4 else 3
  let k := dpRate q rate
  let f := if k ≤ 8100000 then 8000 else 9671
  let d := if ask (R.TG_PCLK_DEN n) = 1 then 1001 else 1000
  decide (4 * ask (R.TG_PCLK_NUM n) * 1000 * m * bpcBits (ask (R.TG_CTL_BPC n)) * 10000 ≤
    2 * 2 ^ lanes * k * 1000 * f * d)

/-! ### Commit rules (rules 0x78 to 0x7D) -/

/-- The head that an output's staged ROUTE names; output 0 to 3 SDI, 4 to 7 DisplayPort and eDP. -/
def State.named (s : State) (o : Nat) : Nat := s.get (R.ROUTE_HEAD o)

/-- The output whose commit follows its route, for a field of OUT. -/
def outOf (k : Key) : Option Nat :=
  match domKind 11 k.2.1 with
  | .route => some k.2.2
  | .sdi => some k.2.2
  | .dp => some (4 + k.2.2)
  | _ => none

/-- The keys that commit with head `n` because its outputs' routes name it. -/
def State.routeKey (s : State) (n : Nat) (k : Key) : Bool :=
  decide (k.1 = 11) && (match outOf k with | some o => decide (s.named o = n) | none => false)

/-- What a rule of head `n` reads. -/
def State.headAsk (s : State) (n : Nat) (f : Fld) : Nat :=
  if inDom 11 n f.key || s.routeKey n f.key then s.get f else s.inForce f

/-- Commit rules of a head together with its composer. -/
def headRuleList (n : Nat) (s : State) (ask : Fld → Nat) : List (Nat × Bool) :=
  let num := ask (R.TG_PCLK_NUM n)
  let d := if ask (R.TG_PCLK_DEN n) = 1 then 1001 else 1000
  let ht := ask (R.TG_HTOTAL_V n)
  let vt := ask (R.TG_VTOTAL_V n)
  let va := ask (R.TG_VACT_V n)
  let mx := ask (R.CMP_CFG_MATRIX n)
  let sm := ask (R.TG_CTL_SAMPLING n)
  let routed (o : Nat) : Bool := decide (ask (R.ROUTE_EN o) = 1 ∧ ask (R.ROUTE_HEAD o) = n ∧ s.named o = n)
  let cl := ask (R.TG_COMMIT_COMMIT_LINE n)
  cmpRules n (ask (R.TG_HACT_V n)) va s ask ++
  [(0x78, decide (ask (R.TG_HACT_V n) < ask (R.TG_HSYNC_HS_START n) ∧ ask (R.TG_HSYNC_HS_START n) < ask (R.TG_HSYNC_HS_END n) ∧
      ask (R.TG_HSYNC_HS_END n) ≤ ht ∧ va ≤ ask (R.TG_VSYNC_VS_START n) ∧ ask (R.TG_VSYNC_VS_START n) < ask (R.TG_VSYNC_VS_END n) ∧
      ask (R.TG_VSYNC_VS_END n) ≤ vt)),
   (0x79, decide (va ≤ cl ∧ cl + ask (R.TG_CTL_PREFETCH n) + 1 ≤ vt)),
   (0x7A, decide (10000000 * d ≤ num * 1000 ∧ num * 1000 ≤ 1200000000 * d ∧
      (ask (R.TG_CTL_MODE n) = 1 → ask (R.TG_CTL_SRC n) = 1) ∧
      ask (R.TG_PHASE_NS n) * 4 * num * 1000 < ht * vt * d * 1000000000)),
   (0x7B, (List.range 4).all (fun o => !routed o || (match sdiRow ask n with
      | some r => decide (sm = 1 ∧ ask (R.TG_CTL_BPC n) = 2 ∧ (mx = 1 ∨ mx = 2) ∧ ask (R.CMP_CFG_RANGE n) = 0) &&
          (decide (ask (R.SDI_CFG_PSF o) = 0) || decide (2 ≤ r.fmt ∧ r.fmt ≤ 4)) &&
          (decide (ask (R.SDI_CFG_UANC_EN o) = 0) ||
            (decide (va ≤ ask (R.SDI_CFG_UANC_LINE o) ∧ ask (R.SDI_CFG_UANC_LINE o) < vt) &&
             s.readable 11 (ask (R.SDI_CFG_UANC_GRAN o) * granBytes) 4096))
      | none => false))),
   (0x7C, (List.range 4).all (fun q => !routed (4 + q) ||
      (dpFits ask n q (ask (R.DP_CFG_MAX_LANES q)) (ask (R.DP_CFG_MAX_RATE q)) &&
       (decide (2 ≤ q) || decide (ask (R.TG_CTL_BPC n) ≠ 0)) && decide ((mx = 0 → sm = 0) ∧ (sm = 2 → va % 2 = 0)) &&
       (decide (ask (R.DP_CFG_HDR_SDP q) = 0) || s.readable 11 (ask (R.DP_CFG_HDR_GRAN q) * granBytes) 32)))),
   (0x7D, decide (sm = 0 ∨ mx = 1 ∨ mx = 2))]

/-- The rules of domain n: those of a composer or of a head that is not strung do not count (spec/02 R47). -/
def headRules (n : Nat) (s : State) (ask : Fld → Nat) : List (Nat × Bool) :=
  (headRuleList n s ask).filter (fun r => s.strg.strungBead 11 (if r.1 < 0x78 then n else 10 + n))

/-! ### Outputs (R310 to R316) -/

/-- An output in force is driven by head `n`. -/
def State.drives (s : State) (n o : Nat) : Bool := decide (s.inForce (R.ROUTE_EN o) = 1 ∧ s.inForce (R.ROUTE_HEAD o) = n)

/-- SDIn.STAT of an output: the format in force while its head runs. -/
def State.sdiStat (s : State) (o : Nat) : State :=
  let n := s.inForce (R.ROUTE_HEAD o)
  if s.drives n o && decide (s.get (R.HEAD_STAT_STATE n) = 2) then
    match sdiRow s.inForce n with
    | some r => s.sets [(R.SDI_STAT_RATE o, r.rate), (R.SDI_STAT_FMT o, r.fmt)]
    | none => s.sets [(R.SDI_STAT_RATE o, 0), (R.SDI_STAT_FMT o, 0)]
  else s.sets [(R.SDI_STAT_RATE o, 0), (R.SDI_STAT_FMT o, 0)]

/-- Firmware records a link event. -/
def State.dpLinkEv (s : State) (q : Nat) : State := (s.set (R.DP_EVT_LINK_EV q) 1).raise (E.dpLink q)

/-- STREAM and BW_SHORT of a port (R316). -/
def State.dpStream (s : State) (q : Nat) : State :=
  let n := s.inForce (R.ROUTE_HEAD (4 + q))
  if !s.drives n (4 + q) || !s.on (R.DP_STAT_TRAINED q) || decide (s.get (R.HEAD_STAT_STATE n) ≠ 2) then s.set (R.DP_STAT_STREAM q) 0
  else if dpFits s.inForce n q (s.get (R.DP_STAT_LANES q)) (s.get (R.DP_STAT_RATE q)) then
    s.sets [(R.DP_STAT_STREAM q, 1), (R.DP_STAT_BW_SHORT q, 0)]
  else
    let s1 := s.sets [(R.DP_STAT_STREAM q, 0), (R.DP_STAT_BW_SHORT q, 1)]
    if s.on (R.DP_STAT_BW_SHORT q) then s1 else s1.dpLinkEv q

/-- What the outputs of a head send or not, as the head starts or stops. -/
def State.outputs (s : State) : State :=
  (List.range 4).foldl (fun (s : State) q => (s.sdiStat q).dpStream q) s

/-- The outputs that switch to head `n` at its line 0 (R310). -/
def State.outSwitch (s : State) (n : Nat) : State :=
  ((List.range 8).foldl (fun (s : State) o =>
    if s.on (I.OUT_SW o) && s.drives n o then
      let s1 := s.set (I.OUT_SW o) 0
      if o < 4 then s1.laneGo 11 o lnPll else s1
    else s) s).outputs

/-- The copies that outputs take at a commit point (R313, R314). -/
def State.outCopies (s : State) (n : Nat) : State :=
  (List.range 4).foldl (fun (s : State) o =>
    let s1 : State := if s.drives n o ∧ s.inForce (R.SDI_CFG_UANC_EN o) = 1 then
        let r := s.trayReadAs 11 (rodPort 11) (s.inForce (R.SDI_CFG_UANC_GRAN o) * granBytes) 4096
        { r.2.2 with uanc := r.2.2.uanc.filter (fun e => decide (e.1 ≠ o)) ++ [(o, r.1)] }
      else s
    if s1.drives n (4 + o) ∧ s1.inForce (R.DP_CFG_HDR_SDP o) = 1 then
      let r := s1.trayReadAs 11 (rodPort 11) (s1.inForce (R.DP_CFG_HDR_GRAN o) * granBytes) 32
      { r.2.2 with hdrs := r.2.2.hdrs.filter (fun e => decide (e.1 ≠ o)) ++ [(o, r.1)] }
    else s1) s

/-- The user packets of an output in a frame (R313): slots in order, those that cannot be sent counted. The space of the
line is taken as one word for each active sample. -/
def State.userPackets (s : State) (o space : Nat) : State :=
  match s.uanc.find? (fun e => decide (e.1 = o)) with
  | none => s
  | some e =>
    let r := (List.range 8).foldl (fun (acc : List (List Byte) × Nat × State) i =>
      let b := slice e.2 (512 * i) 512
      let dc := fieldLE b 3 1
      if !bit (fieldLE b 0 1) 0 then acc
      else if fieldLE b 1 1 = 0 ∨ dc = 0 ∨ acc.2.1 < dc + 7 then
        (acc.1, acc.2.1, ((acc.2.2.set (R.SDI_STAT_UANC_DROP o) 1).inc (R.SDI_STAT_DROP_CNT o)).raise (E.sdiUancDrop o))
      else (acc.1 ++ [slice b 1 (3 + dc)], acc.2.1 - (dc + 7), acc.2.2)) ([], space, s)
    r.2.2.emit (.sdiUser o r.1)

/-- Whole frame rate of a head for timecode, and whether it is ÷ 1.001. -/
def State.headFps (s : State) (n : Nat) : Nat × Bool :=
  (4 * s.inForce (R.TG_PCLK_NUM n) / max 1 (s.inForce (R.TG_HTOTAL_V n) * s.inForce (R.TG_VTOTAL_V n)),
   decide (s.inForce (R.TG_PCLK_DEN n) = 1))

/-- What the outputs of a head insert at its line 0: timecode and metadata (R312, R314). -/
def State.outInsert (s : State) (n : Nat) : State :=
  (List.range 4).foldl (fun (s : State) o =>
    let s1 := if s.drives n o ∧ s.inForce (R.SDI_CFG_TC_EN o) = 1 then
        let t := if s.inForce (R.SDI_CFG_TC_SRC o) = 0 then s.now else ((s.frame (s.cmpTag n)).map (·.fsTime)).getD s.now
        let f := s.headFps n
        s.drawn.emit (.sdiTc o (s.timecode t f.1 f.2))
      else s
    if s1.drives n (4 + o) ∧ s1.inForce (R.DP_CFG_HDR_SDP o) = 1 ∧ s1.on (R.DP_STAT_STREAM o) then
      s1.emit (.dpHdr o (((s1.hdrs.find? (fun e => decide (e.1 = o))).map (·.2)).getD (zeros 32)))
    else s1) s

/-! ### The commit point (R306, R307) -/

/-- The sets of a head, its composer and the routes that name it come into force. -/
def State.headApply (s : State) (n : Nat) : State :=
  let clk (s : State) := (s.inForce (R.TG_PCLK_NUM n), s.inForce (R.TG_PCLK_DEN n), s.inForce (R.TG_CTL_SRC n))
  let s1 := (s.cmpApply n).commitWhere (s.routeKey n)
  let s2 := (List.range 8).foldl (fun (s1 : State) o =>
    let was := (s.inForce (R.ROUTE_EN o), s.inForce (R.ROUTE_HEAD o))
    if s.named o = n then
      (if s1.drives n o ∧ was ≠ (1, n) then s1.set (I.OUT_SW o) 1 else s1)
    else if was = (1, n) then s1.setInf (R.ROUTE_EN o) 0
    else s1) s1
  let s3 := if clk s2 ≠ clk s ∧ s2.get (R.HEAD_STAT_STATE n) = 2 then s2.set (I.HEAD_RELK n) 1 else s2
  (s3.outCopies n).outputs

/-- A request at the commit point of head `n`. -/
def State.headCommit (s : State) (n : Nat) : State :=
  let rules := headRules n s (s.headAsk n)
  if s.commitPending 11 n then
    match rules.find? (fun r => !r.2) with
    | some r => ((s.clearPend 11 n).commitBad 11 n r.1).cmpRetry n false
    | none => (s.clearPend 11 n).headApply n
  else s.cmpRetry n (rules.all (fun r => r.2))

/-! ### Timing (R302 to R305) -/

/-- The frame in progress takes its timing. -/
def State.headLatch (s : State) (n : Nat) : State :=
  s.sets [(I.HEAD_VT n, s.inForce (R.TG_VTOTAL_V n)), (I.HEAD_VA n, s.inForce (R.TG_VACT_V n)),
    (I.HEAD_CL n, s.inForce (R.TG_COMMIT_COMMIT_LINE n)), (I.HEAD_PF n, s.inForce (R.TG_CTL_PREFETCH n))]

/-- The compose job of a head. -/
def cmpJob (n tag : Nat) : Job := ⟨11, n, 8, n, tag⟩

/-- End the compose jobs of a head. -/
def State.cmpEnd (s : State) (n status : Nat) : State :=
  (s.jobs.filter (fun j => decide (j.rod = 11 ∧ j.kind = 8 ∧ j.bead = n))).foldl (fun (s : State) j => s.endJob j status) s

/-- In TALLY mode a frame start is compared with the schedule (R304): an error of more than a line period lengthens the
blanking by whole lines. Times are taken in units of 1 ÷ (4 × NUM × 1,000) of a Tally unit. -/
def State.headCompare (s : State) (n : Nat) : State :=
  if s.inForce (R.TG_CTL_MODE n) = 0 then s
  else
    let k := 4 * s.inForce (R.TG_PCLK_NUM n) * 1000
    let d := if s.inForce (R.TG_PCLK_DEN n) = 1 then 1001 else 1000
    let line := s.inForce (R.TG_HTOTAL_V n) * d * tSec
    let per := line * s.inForce (R.TG_VTOTAL_V n)
    let x := (((s.now : Int) - (s.inForce (R.TG_PHASE_NS n) * tNs : Nat)) * k % max 1 per).toNat
    if x ≤ line ∨ per - x ≤ line then s
    else
      ((s.set (I.HEAD_MORE n) (min (s.get (I.HEAD_VT n)) ((per - x) / max 1 line))).set (R.HEAD_EVT_REPHASE n) 1).raise
        (E.headRephase n)

/-- In FREE mode a head's frames drift against the stream grid: when the drift reaches a sample frame, the SDI outputs with
audio drop or repeat one (spec/14 R365). -/
def State.headDrift (s : State) (n : Nat) : State :=
  if s.inForce (R.TG_CTL_MODE n) = 1 ∨ !s.on (I.HEAD_FS n) then s.set (I.HEAD_DRIFT n) 0
  else
    let old : Int := if s.on (I.HEAD_DRIFT n) then (s.get (I.HEAD_DRIFT n) : Int) - 2 ^ 100 else 0
    let d : Int := old + (s.now + 1 : Nat) - (s.get (I.HEAD_FS n) : Int) - (s.headPeriod n : Int)
    if d.natAbs * 48000 < tSec then s.set (I.HEAD_DRIFT n) (d + 2 ^ 100).toNat
    else
      let d1 := if 0 ≤ d then d - (tSec / 48000 : Nat) else d + (tSec / 48000 : Nat)
      (List.range 4).foldl (fun (s : State) o =>
        let a := s.inForce (R.SDI_MAP_STREAM o)
        if s.drives n o ∧ s.inForce (R.SDI_CFG_AUD_EN o) = 1 ∧ s.inForce (R.AS_CFG_EN a) = 1 then
          ((s.set (R.AS_STAT_SDI_SLIP a) 1).inc (R.AS_STAT_SLIP_CNT a)).raise (E.asSdiSlip a)
        else s) (s.set (I.HEAD_DRIFT n) (d1 + 2 ^ 100).toNat)

/-- Line 0: the frame starts. -/
def State.headFrame (s : State) (n : Nat) : State :=
  let s0 : State := { s with unders := s.unders.filter (fun u => decide (u.1 ≠ n)) }
  let s1 := (((s0.headDrift n).headLatch n).sets [(I.HEAD_FS n, s.now + 1), (I.HEAD_UR n, 0)]).headCompare n
  ((s1.outSwitch n).outInsert n).encDue (fun d => decide (d.kind = 3 ∧ d.src = n)) (s1.cmpTag n)

/-- Line VACT: the composed frame has been sent (R284, R309, R319). -/
def State.headBlank (s : State) (n : Nat) : State :=
  let ct := if s.on (I.HEAD_UR n) then setBit (s.cmpCtags n) 7 else s.cmpCtags n
  let s1 := ((s.sets [(R.CMP_FRAME_TAG n, s.cmpTag n), (R.CMP_CTAGS_V n, ct)]).cmpEnd n (if ct = 0 then 0 else 3)).raise
    (E.headVblank n)
  ({ s1 with strms := s1.strms.map (fun x =>
      let d := s1.desc x.num
      if d.kind = 3 ∧ d.src = n then { x with dues := x.dues.map (fun u => { u with src := true }) } else x) } : State).encKick

/-- The guarded regions whose last line was the one before `y`. -/
def State.headGuards (s : State) (n y : Nat) : State :=
  (List.range 16).foldl (fun (t : State) g =>
    if t.inForce (R.GRD_XY_EN n g) = 1 ∧ t.inForce (R.GRD_XY_Y n g) + t.inForce (R.GRD_WH_H n g) = y then
      t.guardCheck n g (s.guardCrc n g (s.sent n))
    else t) s

/-- The line before `y` has left (R308). -/
def State.headOut (s : State) (n y : Nat) : State :=
  if 1 ≤ y ∧ y ≤ s.get (I.HEAD_VA n) ∧ (List.range 8).any (s.drives n) then
    let l := s.headSamples n (y - 1)
    s.emit (.headLine n (y - 1) l.1 l.2)
  else s

/-- What the start of line `y` brings about (R302, R306, R308, R309). -/
def State.headLine (s : State) (n y : Nat) (under : Option Nat) : State :=
  let s1 := s.set (R.HEAD_STAT_LINE n) y
  let s2 := if y = 0 then s1.headFrame n else s1
  let s3 := if y = s2.get (I.HEAD_VA n) then s2.headBlank n else s2
  let s4 := if y = s3.get (I.HEAD_CL n) then (s3.headCommit n).cmpPoint n none else s3
  let s5 := (List.range 4).foldl (fun (s : State) o =>
    if s.drives n o ∧ s.inForce (R.SDI_CFG_UANC_EN o) = 1 ∧ s.inForce (R.SDI_CFG_UANC_LINE o) = y then
      s.userPackets o (s.inForce (R.TG_HACT_V n))
    else s) s4
  let s6 := if y + s5.get (I.HEAD_PF n) = s5.get (I.HEAD_VT n) ∧ !s5.draining 11 (s5.cmpTag n) then
      (s5.cmpEnd n 1).beginJob (cmpJob n (s5.cmpTag n))
    else s5
  let s6 := s6.when (decide (y < s6.get (I.HEAD_VA n))) (·.composeUse n y)
  match under with
  | some c =>
    if y < s6.get (I.HEAD_VA n) ∧ c < s6.inForce (R.TG_HACT_V n) then
      let s7 := if s6.on (R.HEAD_EVT_UNDERRUN n) then s6
        else s6.sets [(R.HEAD_EVT_UNDERRUN n, 1), (R.HEAD_UR_LAST_LINE n, y), (R.HEAD_UR_LAST_COLUMN n, c)]
      (({ s7 with unders := (n, y, c) :: s7.unders } : State).inc (R.HEAD_UR_LINES n) |>.set (I.HEAD_UR n) 1).raise (E.headUnderrun n)
    else s6
  | none => s6

/-- The head starts at line VACT (R305). -/
def State.headRun (s : State) (n : Nat) : State :=
  let s1 := (s.set (R.HEAD_STAT_STATE n) 2).headLatch n
  (s1.sets [(I.HEAD_MORE n, 0), (I.HEAD_RELK n, 0), (I.HEAD_UR n, 0)]).headLine n (s1.get (I.HEAD_VA n)) none

/-- The head starts as its mode says. -/
def State.headStart (s : State) (n : Nat) : State :=
  if s.inForce (R.TG_CTL_MODE n) = 1 then s.set (R.HEAD_STAT_STATE n) 1 else s.headRun n

/-- The head stops in a state. -/
def State.headStop (s : State) (n st : Nat) : State :=
  ((s.cmpEnd n 1).sets [(R.HEAD_STAT_STATE n, st), (R.HEAD_STAT_LINE n, 0), (I.HEAD_RELK n, 0), (I.HEAD_MORE n, 0),
    (I.HEAD_FS n, 0)]).outputs

/-- The head enters RELOCK. -/
def State.headRelock (s : State) (n : Nat) : State :=
  ((s.headStop n 3).set (R.HEAD_EVT_RELOCK n) 1).raise (E.headRelock n)

/-- EN rises. -/
def State.headOn (s : State) (n : Nat) : State :=
  if s.get (R.HEAD_STAT_STATE n) = 0 then (s.set (R.TG_CTL_EN n) 1).headStart n else s.set (R.TG_CTL_EN n) 1

/-- EN clears: a commit that waits is applied at once (spec/22 R505). -/
def State.headOff (s : State) (n : Nat) : State :=
  let s1 := (s.set (R.TG_CTL_EN n) 0).headStop n 0
  if s1.commitPending 11 n then s1.headCommit n else s1

/-- HEAD_ENABLE. -/
def execHeadEnable (n : Fin 8) (s : State) : Res := .next (s.hostToBead 11 (10 + n) fun s => s.headOn n)

/-- HEAD_DISABLE. -/
def execHeadDisable (n : Fin 8) (s : State) : Res := .next (s.hostToBead 11 (10 + n) fun s => s.headOff n)

/-- HEAD_START. -/
def execHeadStart (n : Fin 8) (s : State) : Res :=
  .next (if s.isolated 11 ∨ s.get (R.HEAD_STAT_STATE n) ≠ 1 then s else s.headRun n)

/-- HEAD_LINE_START: the next line; after the last one line 0, or RELOCK, or a line by which the blanking is lengthened.
`under` is the first pixel of the line that comes too late. -/
def execHeadLineStart (n : Fin 8) (under : Option (BitVec 14)) (s : State) : Res :=
  .next (
    if s.isolated 11 ∨ s.get (R.HEAD_STAT_STATE n) ≠ 2 then s
    else
      let y := s.get (R.HEAD_STAT_LINE n) + 1
      if y < s.get (I.HEAD_VT n) then ((s.headOut n y).headGuards n y).headLine n y (under.map (·.toNat))
      else if s.on (I.HEAD_MORE n) then s.set (I.HEAD_MORE n) (s.get (I.HEAD_MORE n) - 1)
      else if s.on (I.HEAD_RELK n) then s.headRelock n
      else s.headLine n 0 (under.map (·.toNat)))

/-- HEAD_PLL_LOCK (R305): SDI lanes of the head restart from PLL. -/
def execHeadPllLock (n : Fin 8) (s : State) : Res :=
  .next (if s.isolated 11 ∨ s.get (R.HEAD_STAT_STATE n) ≠ 3 then s
    else ((List.range 4).foldl (fun (s : State) o => if s.drives n o then s.laneGo 11 o lnPll else s) s).headStart n)

/-- HEAD_PLL_UNLOCK (spec/21 R494). -/
def execHeadPllUnlock (n : Fin 8) (s : State) : Res :=
  .next (if s.isolated 11 ∨ s.get (R.HEAD_STAT_STATE n) = 0 ∨ s.get (R.HEAD_STAT_STATE n) = 3 then s else s.headRelock n)

/-! ### Hot plug and training (R316) -/

/-- The link is down. -/
def State.dpDown (s : State) (q : Nat) : State :=
  s.sets [(R.DP_STAT_TRAINED q, 0), (R.DP_STAT_STREAM q, 0), (R.DP_STAT_BW_SHORT q, 0), (R.DP_STAT_RATE q, 0),
    (R.DP_STAT_LANES q, 0)]

/-- Firmware begins to train a port in use whose sink is connected. -/
def State.dpTrain (s : State) (q : Nat) : State :=
  if s.on (R.DP_CFG_EN q) && s.on (R.DP_STAT_HPD q) then (s.dpDown q).set (I.DP_TRAIN q) 1 else s

/-- HPD_CHANGE: a connect or a disconnect. -/
def execHpdChange (q : Fin 4) (level : Bool) (s : State) : Res :=
  .next (if s.isolated 11 ∨ s.on (R.DP_STAT_HPD q) = level then s
    else
      let s1 := ((s.set (R.DP_STAT_HPD q) (ofBool level)).set (R.DP_EVT_HPD_EV q) 1).raise (E.dpHpd q)
      if level then s1.dpTrain q
      else
        let s2 := (s1.dpDown q).set (I.DP_TRAIN q) 0
        if s.on (I.DP_TRAIN q) then s2.dpLinkEv q else s2)

/-- IRQ_HPD: firmware reads the link status; `lost` tells that it shows a lost link. -/
def execIrqHpd (q : Fin 4) (lost : Bool) (s : State) : Res :=
  .next (if s.isolated 11 ∨ !s.on (R.DP_STAT_HPD q) then s
    else
      let s1 := (s.set (R.DP_EVT_IRQ_EV q) 1).raise (E.dpIrq q)
      if lost ∧ s.on (R.DP_STAT_TRAINED q) then s1.dpTrain q else s1)

/-- The bytes of the AUX data registers. -/
def State.auxData (s : State) (q n : Nat) : List Byte :=
  ((List.range 4).flatMap (fun k => leBytes 4 (s.get (R.DP_AUX_DATA_D q k)))).take n

/-- Send the transfer that is in hand. -/
def State.auxSend (s : State) (q : Nat) : State :=
  let op := s.get (R.DP_AUX_CMD_OP q)
  let n := s.get (R.DP_AUX_CMD_LEN q) + 1
  s.emit (.aux q op (s.get (R.DP_AUX_CMD_ADDR q)) (n - 1) (if op % 2 = 0 then s.auxData q n else []))

/-- DP_TRAINED: training ends, with the rate and lanes found, or fails. A transfer that has waited starts. -/
def execDpTrained (q : Fin 4) (ok : Bool) (rate : Fin 9) (lanes : Fin 3) (s : State) : Res :=
  .next (if s.isolated 11 ∨ !s.on (I.DP_TRAIN q) then s
    else
      let s1 := (groupLanes 11 (4 + q)).foldl (fun (s : State) l => s.txTrained 11 l) (s.set (I.DP_TRAIN q) 0)
      let s2 := if ok then
          (s1.sets [(R.DP_STAT_TRAINED q, 1), (R.DP_STAT_RATE q, min rate.val (s1.inForce (R.DP_CFG_MAX_RATE q))),
            (R.DP_STAT_LANES q, min lanes.val (s1.inForce (R.DP_CFG_MAX_LANES q)))]).dpStream q
        else (s1.inc (R.DP_EVT_FAIL_CNT q)).dpLinkEv q
      if s2.on (R.DP_AUX_STAT_BUSY q) then s2.auxSend q else s2)

/-! ### AUX (R317) -/

/-- A transfer ends. -/
def State.auxEnd (s : State) (q result count : Nat) : State :=
  s.sets [(R.DP_AUX_STAT_BUSY q, 0), (R.DP_AUX_STAT_RESULT q, result), (R.DP_AUX_STAT_COUNT q, count)]

/-- A GO: ignored while a transfer runs or waits. -/
def State.auxGo (s : State) (q op len addr : Nat) : State :=
  s.hostToBead 11 (22 + q) fun s =>
    if s.on (R.DP_AUX_STAT_BUSY q) then s
    else
      let s1 := s.sets [(R.DP_AUX_CMD_OP q, op), (R.DP_AUX_CMD_LEN q, len), (R.DP_AUX_CMD_ADDR q, addr), (I.AUX_TRY q, 0)]
      if !s1.on (R.DP_STAT_HPD q) then s1.auxEnd q 4 0
      else
        let s2 := s1.set (R.DP_AUX_STAT_BUSY q) 1
        if s2.on (I.DP_TRAIN q) then s2 else s2.auxSend q

/-- AUX_NATIVE_WRITE. -/
def execAuxNativeWrite (q : Fin 4) (len : Fin 16) (addr : BitVec 20) (s : State) : Res := .next (s.auxGo q 0 len addr.toNat)
/-- AUX_NATIVE_READ. -/
def execAuxNativeRead (q : Fin 4) (len : Fin 16) (addr : BitVec 20) (s : State) : Res := .next (s.auxGo q 1 len addr.toNat)
/-- AUX_I2C_WRITE. -/
def execAuxI2cWrite (q : Fin 4) (len : Fin 16) (addr : BitVec 20) (s : State) : Res := .next (s.auxGo q 2 len addr.toNat)
/-- AUX_I2C_READ. -/
def execAuxI2cRead (q : Fin 4) (len : Fin 16) (addr : BitVec 20) (s : State) : Res := .next (s.auxGo q 3 len addr.toNat)
/-- AUX_I2C_WRITE_MOT. -/
def execAuxI2cWriteMot (q : Fin 4) (len : Fin 16) (addr : BitVec 20) (s : State) : Res := .next (s.auxGo q 4 len addr.toNat)
/-- AUX_I2C_READ_MOT. -/
def execAuxI2cReadMot (q : Fin 4) (len : Fin 16) (addr : BitVec 20) (s : State) : Res := .next (s.auxGo q 5 len addr.toNat)

/-- Bytes read go into the data registers from byte 0. -/
def State.auxStore (s : State) (q : Nat) (d : List Byte) : State :=
  let all := d ++ (s.auxData q 16).drop d.length
  s.sets ((List.range 4).map (fun k => (R.DP_AUX_DATA_D q k, fieldLE all (4 * k) 4)))

/-- AUX_REPLY: `count` bytes were transferred; the eighth DEFER ends the transfer. -/
def execAuxReply (q : Fin 4) (kind : AuxKind) (count : Fin 17) (data : List Byte) (s : State) : Res :=
  .next (if s.isolated 11 ∨ !s.on (R.DP_AUX_STAT_BUSY q) ∨ s.on (I.DP_TRAIN q) then s
    else
      let n := min count.val (s.get (R.DP_AUX_CMD_LEN q) + 1)
      let s1 := if s.get (R.DP_AUX_CMD_OP q) % 2 = 1 then s.auxStore q (data.take n) else s
      match kind with
      | .ack => s1.auxEnd q 0 n
      | .nack => s1.auxEnd q 1 n
      | .defer =>
        if 7 ≤ s.get (I.AUX_TRY q) then s.auxEnd q 2 0
        else (s.set (I.AUX_TRY q) (s.get (I.AUX_TRY q) + 1)).auxSend q)

/-- AUX_TIMEOUT. -/
def execAuxTimeout (q : Fin 4) (s : State) : Res :=
  .next (if s.isolated 11 ∨ !s.on (R.DP_AUX_STAT_BUSY q) ∨ s.on (I.DP_TRAIN q) then s else s.auxEnd q 3 0)

end Sys2Proof.Machine
end

