-- ==== Sys2Proof/Machine/Audio.lean ====
section
/-!
DEFINITION. Audio (spec/14): ports, blocks, slips, clock monitoring, the ASRC, start groups, streams.
-/

namespace Sys2Proof.Machine

/-! ### Configuration and commit rules -/

/-- The CLOCK record of CK_AUDn. -/
def Stringing.audClock (g : Stringing) (n : Nat) : Option ClockRec :=
  g.clocks.find? (fun c => decide (c.domain = 6 ∧ c.index = n))

/-- Slot width in bits, and depth. -/
def widthBits (v : Nat) : Nat := if v = 0 then 16 else if v = 1 then 24 else 32
def depthBits (v : Nat) : Nat := if v = 0 then 16 else 24

/-- Sample rates of R350. -/
def audRates : List Nat := [32000, 44100, 48000, 88200, 96000, 176400, 192000]

/-- The port resamples (R360). -/
def State.asrc (s : State) (n : Nat) : Bool := decide (6 ≤ n) && s.on (R.AP_CFG_ASRC n)

/-- Commit rules of an audio port (rules 0x90 to 0x94). -/
def apRules (n : Nat) (s : State) (ask : Fld → Nat) (_d : Nat) : List (Nat × Bool) :=
  let w := widthBits (ask (R.AP_FMT_WIDTH n))
  let d := depthBits (ask (R.AP_FMT_DEPTH n))
  let ns := ask (R.AP_FMT_NSLOT n)
  let fs := ask (R.AP_RATE_FS n)
  let clk := s.get (R.AP_CFG_CLK n)
  let pack := ask (R.AP_FMT_PACK n)
  let mode := ask (R.AP_FMT_MODE n)
  let mask := ask (R.AP_SLOTS_MASK n)
  let eqs (c : ClockRec) (hz : Nat) : Bool := if c.den = 1001 then decide (c.num * 1000 = hz * 1001) else decide (c.num = hz)
  let okBit (hz : Nat) : Bool := decide (1024000 ≤ hz ∧ hz ≤ 98304000)
  let same (f : Fld) : Bool := decide (ask f = s.inForce f)
  [(0x90, (decide (2 ≤ mode) || decide (ns = 2)) && (match s.strg.audClock n with
      | some c => if s.asrc n then okBit c.num && audRates.any (fun r => eqs c (r * ns * w))
          else okBit (fs * ns * w) && eqs c (fs * ns * w)
      | none => false)),
   (0x91, decide (d ≤ w ∧ (pack = 0 → d = 16) ∧ (pack = 1 → d = 24))),
   (0x92, decide (mask ≠ 0 ∧ mask < 2 ^ ns)),
   (0x93, (match s.strg.audClock n with
      | some c => decide (c.source = if clk = 2 then 1 else 2)
      | none => false) && (!s.asrc n || decide (clk ≤ 1))),
   (0x94, !s.on (R.AP_CFG_EN n) ||
      [R.AP_FMT_MODE n, R.AP_FMT_FS_PULSE n, R.AP_FMT_DELAY n, R.AP_FMT_FS_POL n, R.AP_FMT_BCLK_EDGE n, R.AP_FMT_WIDTH n,
       R.AP_FMT_DEPTH n, R.AP_FMT_PACK n, R.AP_FMT_NSLOT n, R.AP_RATE_FS n].all same)]

/-- Commit rules of the streams (rules 0x95, 0x96). -/
def asRules (s : State) (ask : Fld → Nat) (_d : Nat) : List (Nat × Bool) :=
  let en (a : Nat) : Bool := decide (ask (R.AS_CFG_EN a) = 1)
  [(0x95, (List.range 8).all (fun a => !en a || (List.range (ask (R.AS_CFG_NCH a) + 1)).all (fun c =>
      decide (ask (R.AS_CHMAP_EN a (c / 4) (c % 4)) = 0) ||
      (let p := ask (R.AS_CHMAP_PORT a (c / 4) (c % 4))
       !s.on (R.AP_CFG_DIR p) && decide (s.inForce (R.AP_RATE_FS p) = 48000))))),
   (0x96, (List.range 64).all (fun i =>
        let e := s.flowEnt (2080 + i)
        decide (e.kind ≠ 4) || decide (ofBool (bit (e.u 0x2B 1) 4) = ask (R.AS_CFG_BLK (e.idx % 8)))) &&
      (List.range 4).all (fun o => decide (s.inForce (R.SDI_CFG_AUD_EN o) = 0) || en (ask (R.SDI_MAP_STREAM o))))]

/-! ### Ports -/

/-- A running port. -/
def State.aud (s : State) (n : Nat) : Option AudPort := s.auds.find? (fun a => decide (a.n = n))

/-- Change a running port. -/
def State.modAud (s : State) (n : Nat) (g : AudPort → AudPort) : State :=
  { s with auds := s.auds.map (fun a => if a.n = n then g a else a) }

/-- The armed start group of a port. -/
def State.audGroup (s : State) (n : Nat) : Option Nat :=
  (List.range 4).find? (fun g => s.on (R.SG_CTL_ARMED g) && bit (s.get (R.SG_CTL_MASK g)) n)

/-- The first whole millisecond at least 100 µs after a time (R361, R362). -/
def nextMs (t : Time) : Time := roundUp (t + 100 * tUs) tMs

/-- The job of a block. -/
def audJob (n seq : Nat) : Job := ⟨13, n, 10, n * 2 ^ 24 + seq % 2 ^ 24, 0⟩

/-- FLAGS of a block as it opens. -/
def State.blkFlags (s : State) (n : Nat) : Nat :=
  let fb := decide (s.get (R.AP_STAT_CLK_STATE n) = 3) || (s.asrc n && !s.on (R.AP_STAT_ASRC_LOCK n))
  8 * ofBool fb + 16 * ofBool (s.asrc n)

/-- Mark the open block. -/
def State.blkFlag (s : State) (n b : Nat) : State := s.modAud n (fun a => { a with blk := { a.blk with flags := setBit a.blk.flags b } })

/-- A port starts with its schedule (R353): t0, and the index of its first system frame. -/
def State.audStart (s : State) (n : Nat) (t0 k : Nat) : State :=
  let s1 := s.sets [(R.AP_STAT_CLK_STATE n, if s.on (I.AP_NOCLK n) then 3 else 2), (I.AP_GRP n, 0), (R.AP_STAT_DRIFT n, 0)]
  let blk : AudBlk := ⟨0, k, s1.get (R.AP_BLK_LEN n), s1.blkFlags n, s1.inForce (R.AP_SLOTS_MASK n), false, false⟩
  (({ s1 with auds := s1.auds.filter (fun a => decide (a.n ≠ n)) ++
      [({ n := n, t0 := t0, base := k, blk := blk } : AudPort)] } : State)).beginJob (audJob n 0)

/-- EN rises (R361, R362): the port waits, for its group, for a boundary of a group that it has missed, or for a whole
millisecond. -/
def State.audEnable (s : State) (n : Nat) : State :=
  if s.get (R.AP_STAT_CLK_STATE n) ≠ 0 then s.set (R.AP_CFG_EN n) 1
  else s.sets [(R.AP_CFG_EN n, 1), (R.AP_STAT_CLK_STATE n, 1), (I.AP_T n, nextMs s.now), (I.AP_NOCLK n, 0), (I.AP_AGREE n, 0),
    (I.AP_RET n, 0)]

/-- EN clears: the port stops and its open blocks are cut. -/
def State.audDisable (s : State) (n : Nat) : State :=
  let s1 := (s.jobs.filter (fun j => decide (j.rod = 13 ∧ j.kind = 10 ∧ j.bead = n))).foldl (fun (s : State) j => s.endJob j 1) s
  let s2 := ({ s1 with auds := s1.auds.filter (fun a => decide (a.n ≠ n)) } : State).sets
    [(R.AP_CFG_EN n, 0), (R.AP_STAT_CLK_STATE n, 0), (R.AP_STAT_ASRC_LOCK n, 0), (R.AP_STAT_DRIFT n, 0)]
  if s2.commitPending 13 n then (s2.tryCommit 13 n (apRules n s2 (s2.asked 13 n) n)).1 else s2

/-- AUD_PORT_ENABLE. -/
def execAudPortEnable (n : Fin 8) (s : State) : Res := .next (s.hostToBead 13 n fun s => s.audEnable n)

/-- AUD_PORT_START: a waiting port of no armed group has come to its time; one whose group has started comes to the first
block boundary of the group's schedule. -/
def execAudPortStart (n : Fin 8) (s : State) : Res :=
  .next (
    if s.isolated 13 ∨ s.get (R.AP_STAT_CLK_STATE n) ≠ 1 ∨ (s.audGroup n).isSome then s
    else if s.on (I.AP_GRP n) then
      let t := s.get (I.AP_GRP n) - 1
      let fs := max 1 (s.inForce (R.AP_RATE_FS n))
      let j := (s.now - t) * fs / (tSec * max 1 (s.get (R.AP_BLK_LEN n)))
      s.audStart n t (j * s.get (R.AP_BLK_LEN n))
    else if s.get (I.AP_T n) ≤ s.now then s.audStart n (s.get (I.AP_T n)) 0
    else s)

/-! ### Start groups (R361) -/

/-- SG_ARM. -/
def execSgArm (g : Fin 4) (s : State) : Res :=
  .next (s.hostTo 13 fun s =>
    let m := s.get (R.SG_CTL_MASK g)
    let members := (List.range 8).filter (bit m)
    let clash := (List.range 4).any (fun h => decide (h ≠ g.val) && s.on (R.SG_CTL_ARMED h) &&
      members.any (bit (s.get (R.SG_CTL_MASK h))))
    if 4 < members.length ∨ clash ∨ members.any (fun n => decide (2 ≤ s.get (R.AP_STAT_CLK_STATE n))) then
      s.wrRange 13 (0xD00800 + 0x20 * g)
    else
      let t := timeOf (s.get (R.SG_TIME_SEC_V g) + 2 ^ 32 * s.get (R.SG_TIME_HI_V g)) (s.get (R.SG_TIME_NS_V g))
      let s1 := s.set (R.SG_CTL_ARMED g) 1
      if t ≤ s.now then ((s1.set (I.SG_T g) (nextMs s.now)).set (R.SG_CTL_LATE g) 1).raise (E.sgLate g)
      else s1.set (I.SG_T g) t)

/-- The group disarms; members that still wait start by themselves. -/
def State.sgDisarm (s : State) (g : Nat) : State :=
  ((List.range 8).filter (bit (s.get (R.SG_CTL_MASK g)))).foldl (fun (s : State) n =>
    if s.get (R.AP_STAT_CLK_STATE n) = 1 then s.set (I.AP_T n) (nextMs s.now) else s) (s.set (R.SG_CTL_ARMED g) 0)

/-- SG_DISARM. -/
def execSgDisarm (g : Fin 4) (s : State) : Res :=
  .next (s.hostTo 13 fun s => if s.on (R.SG_CTL_ARMED g) then s.sgDisarm g else s)

/-- SG_START. -/
def execSgStart (g : Fin 4) (s : State) : Res :=
  .next (
    if s.isolated 13 ∨ !s.on (R.SG_CTL_ARMED g) ∨ s.now < s.get (I.SG_T g) then s
    else
      let t := s.get (I.SG_T g)
      let members := (List.range 8).filter (bit (s.get (R.SG_CTL_MASK g)))
      let s1 := members.foldl (fun (s : State) n =>
        if s.get (R.AP_STAT_CLK_STATE n) = 1 then s.audStart n t 0
        else ((s.set (I.AP_GRP n) (t + 1)).set (R.SG_CTL_MISS g) 1).raise (E.sgMiss g)) s
      (s1.set (R.SG_CTL_ARMED g) 0).raise (E.sgStart g))

/-! ### Samples (R350, R351) -/

/-- A sample in its container. -/
def packSample (pack depth v : Nat) : List Byte :=
  if pack = 0 then leBytes 2 v else if pack = 1 then leBytes 3 v else if pack = 2 then leBytes 4 (v * 2 ^ (32 - depth))
  else leBytes 4 (unsigned 32 (signed depth v))

/-- Bytes of a container. -/
def packBytes (pack : Nat) : Nat := if pack = 0 then 2 else if pack = 1 then 3 else 4

/-- A sample from its container. -/
def unpackSample (pack depth : Nat) (b : List Byte) : Nat :=
  if pack = 2 then leNat b / 2 ^ (32 - depth) else leNat b % 2 ^ depth

/-- Slots of a mask. -/
def maskSlots (m : Nat) : List Nat := (List.range 16).filter (bit m)

/-- Bytes of a ring slot (R354). -/
def State.audSlotBytes (s : State) (n : Nat) : Nat :=
  roundUp (32 + s.get (R.AP_BLK_LEN n) * s.inForce (R.AP_FMT_NSLOT n) * 4) 64

/-- Offset of a ring slot in its region. -/
def State.audSlot (s : State) (n k : Nat) : Nat := s.get (R.AP_RING_BASE_BASE n) * 4096 + k * s.audSlotBytes n

/-- Count a ring fault (R354). -/
def State.audRingErr (s : State) (n c : Nat) : State :=
  ((s.set (R.AP_EVT_RING n) 1).addSat (R.AP_CNT_RING_CNT n) c).raise (E.audRing n)

/-! ### Blocks of a receive port (R354, R355) -/

/-- The 32-byte header of a block. -/
def State.blkHead (s : State) (a : AudPort) (b : AudBlk) (flags : Nat) : List Byte :=
  let fs := s.inForce (R.AP_RATE_FS a.n)
  leBytes 4 b.seq ++ leBytes 1 a.n ++ leBytes 1 flags ++ leBytes 2 b.n ++ leBytes 2 b.mask ++
  leBytes 1 (maskSlots b.mask).length ++ leBytes 1 (s.inForce (R.AP_FMT_PACK a.n)) ++
  timeBytes (a.t0 + b.k * tSec / max 1 fs) ++ leBytes 4 fs ++ zeros 4

/-- Write a block of a receive port, or discard it where the ring is full. -/
def State.blkWrite (s : State) (a : AudPort) (b : AudBlk) (frames : List (List Nat)) : State :=
  let n := a.n
  let wr := s.get (R.AP_WR_SLOT n)
  let nb := max 1 (s.get (R.AP_RING_NBLK n))
  let next := (wr + 1) % nb
  if next = s.get (R.AP_RD_SLOT n) then ((s.modAud n (fun a => { a with gap := true })).audRingErr n 1).endJob (audJob n b.seq) 4
  else
    let flags := if a.gap then setBit b.flags 5 else b.flags
    let depth := depthBits (s.inForce (R.AP_FMT_DEPTH n))
    let pack := s.inForce (R.AP_FMT_PACK n)
    let body := frames.flatMap (fun f => (maskSlots b.mask).flatMap (fun i => packSample pack depth ((f[i]?).getD 0)))
    (((s.modAud n (fun a => { a with gap := false })).dramPut (s.get (R.AP_RING_REGION n)) (s.audSlot n wr)
      (s.blkHead a b flags ++ body)).set (R.AP_WR_SLOT n) next).raise (E.audBlock n)
      |>.endJob (audJob n b.seq) (if bit flags 3 then 3 else 0)

/-- Frames that a closed block takes from those that wait. -/
def AudBlk.need (b : AudBlk) : Nat := b.n + ofBool b.drop - ofBool b.rep

/-- Closed blocks whose frames have all come are written, at most `m` of them. -/
def State.audDrain (s : State) (n : Nat) : Nat → State
  | 0 => s
  | m + 1 =>
    match s.aud n with
    | some a =>
      match a.due with
      | b :: t =>
        if a.wait.length < b.need then s
        else
          let l := if b.drop then a.wait.drop 1 else a.wait
          let own := l.take (b.need - ofBool b.drop)
          let frames := if b.rep then a.last :: own else own
          let s1 := s.blkWrite a b frames
          (s1.modAud n (fun a => { a with
            due := t, wait := l.drop (b.need - ofBool b.drop), last := (frames.getLast?).getD a.last })).audDrain n m
      | [] => s
    | none => s

/-- The open block of a receive port closes with `cnt` frames. -/
def State.blkClose (s : State) (n cnt : Nat) (short : Bool) : State :=
  s.modAud n (fun a => { a with
    due := a.due ++ [{ a.blk with n := cnt, flags := if short then setBit a.blk.flags 0 else a.blk.flags }] })

/-- The next block opens. -/
def State.blkOpen (s : State) (n : Nat) (drop rep : Bool) : State :=
  match s.aud n with
  | some a =>
    let k := a.blk.k + ((a.due.getLast?).map (·.n)).getD a.blk.n
    let tx := s.on (R.AP_CFG_DIR n)
    let fl := s.blkFlags n + 2 * ofBool (if tx then rep else drop) + 4 * ofBool (if tx then drop else rep)
    let b : AudBlk := ⟨a.blk.seq + 1, k, s.get (R.AP_BLK_LEN n), fl, s.inForce (R.AP_SLOTS_MASK n), drop, rep⟩
    (s.modAud n (fun a => { a with blk := b })).beginJob (audJob n b.seq)
  | none => s

/-- Frames of the open block that have come. -/
def AudPort.inOpen (a : AudPort) : Nat := a.wait.length - a.due.foldl (fun n b => n + b.need) 0

/-! ### Blocks of a transmit port (R354) -/

/-- Take the next host block; blocks that do not suit are skipped, at most `m`. -/
def State.txTake (s : State) (n : Nat) : Nat → Option (List (List Nat)) × State
  | 0 => (none, s)
  | m + 1 =>
    let rd := s.get (R.AP_RD_SLOT n)
    if rd = s.get (R.AP_WR_SLOT n) then (none, s)
    else
      let reg := s.get (R.AP_RING_REGION n)
      let base := s.audSlot n rd
      let h := s.dramRead reg base 32
      let mask := s.inForce (R.AP_SLOTS_MASK n)
      let pack := s.inForce (R.AP_FMT_PACK n)
      let slots := maskSlots mask
      let cnt := fieldLE h 6 2
      let s1 := s.set (R.AP_RD_SLOT n) ((rd + 1) % max 1 (s.get (R.AP_RING_NBLK n)))
      if fieldLE h 8 2 = mask ∧ fieldLE h 0xA 1 = slots.length ∧ fieldLE h 0xB 1 = pack ∧ 1 ≤ cnt ∧ cnt ≤ s.get (R.AP_BLK_LEN n) then
        let w := packBytes pack
        let depth := depthBits (s.inForce (R.AP_FMT_DEPTH n))
        let d := s.dramRead reg (base + 32) (cnt * slots.length * w)
        let frame (i : Nat) : List Nat := (List.range 16).map (fun sl =>
          match slots.findIdx? (fun x => decide (x = sl)) with
          | some c => unpackSample pack depth (slice d ((i * slots.length + c) * w) w)
          | none => 0)
        (some ((List.range cnt).map frame), s1)
      else ((s1.set (R.AP_EVT_BAD_BLK n) 1).raise (E.audBadBlk n) |>.audRingErr n 1).txTake n m

/-- A transmit port comes to a boundary: it loads its next block, or zeros. -/
def State.txLoad (s : State) (n : Nat) (drop rep : Bool) : State :=
  let r := s.txTake n (s.get (R.AP_RING_NBLK n))
  let len := s.get (R.AP_BLK_LEN n)
  let zero := List.replicate 16 0
  let frames := match r.1 with
    | some l => l ++ List.replicate (len - l.length) zero
    | none => List.replicate len zero
  let s1 := if r.1.isNone then r.2.audRingErr n 1 else r.2
  let sent := if drop then frames.take 1 ++ frames else if rep then frames.drop 1 else frames
  s1.modAud n (fun a => { a with tx := a.tx ++ sent })

/-! ### Boundaries (R354, R356, R359) -/

/-- D in units of 1/256 frame at the boundary that ends the open block. -/
def AudPort.drift (a : AudPort) (phase : Nat) : Int := (a.count - ((a.blk.k + a.blk.n - a.base : Nat) : Int)) * 256 + phase

/-- The next block, but where AUD drains: there the port stops at its block boundary (spec/02 R69). -/
def State.blkNext (s : State) (n : Nat) (drop rep : Bool) : State :=
  if s.holdNow 13 then { s with auds := s.auds.filter (fun a => decide (a.n ≠ n)) } else s.blkOpen n drop rep

/-- AUD_BLOCK_BOUNDARY: a boundary on the system audio clock; `phase` is the part of the port frame in progress, in 1/256. A
fast port drops or sends twice, a slow one repeats or leaves out. -/
def execAudBlockBoundary (n : Fin 8) (phase : BitVec 8) (s : State) : Res :=
  .next (
    if s.isolated 13 then s
    else match s.aud n with
    | none => s
    | some a =>
      let back := s.on (I.AP_RET n) && decide (s.get (R.AP_STAT_CLK_STATE n) = 3)
      let s1 := if back then
          ((s.sets [(R.AP_STAT_CLK_STATE n, 2), (I.AP_RET n, 0), (I.AP_NOCLK n, 0)]).inc (R.AP_CNT_RECOVER_CNT n)).raise
            (E.audClkRecover n)
        else s
      let fixed := s.asrc n || decide (s.get (R.AP_CFG_CLK n) = 2) || decide (s.get (R.AP_STAT_CLK_STATE n) = 3)
      let d : Int := if fixed || back then 0 else a.drift phase.toNat
      let drop := decide (256 ≤ d)
      let rep := decide (d ≤ -256)
      let d1 : Int := if drop then d - 256 else if rep then d + 256 else d
      let due : Int := ((a.blk.k + a.blk.n - a.base : Nat) : Int)
      let s2 := (s1.modAud n (fun a => { a with
          count := if fixed || back then due else if drop then a.count - 1 else if rep then a.count + 1 else a.count })).set
        (R.AP_STAT_DRIFT n) (unsigned 16 (max (-32768) (min 32767 d1)))
      let tx := s2.on (R.AP_CFG_DIR n)
      let s3 := if drop || rep then
          ((s2.set (R.AP_EVT_SLIP n) 1).inc (if drop != tx then R.AP_EVT_DROP_CNT n else R.AP_EVT_REP_CNT n)).raise (E.audSlip n)
        else s2
      if tx then ((s3.endJob (audJob n a.blk.seq) 0).blkNext n drop rep).txLoad n drop rep
      else if s3.asrc n then
        let zero := List.replicate 16 0
        let frames := (List.range a.blk.n).map (fun i => if s3.on (R.AP_STAT_ASRC_LOCK n) then
          (List.range 16).map (fun c => s3.free / 2 ^ (24 * (16 * i + c)) % 2 ^ 24) else zero)
        ((s3.drawn.blkWrite a a.blk frames).modAud n (fun a => { a with wait := [] })).blkNext n false false
      else ((s3.blkClose n a.blk.n false).blkNext n drop rep).audDrain n 4)

/-! ### Sample frames (R350, R352, R363) -/

/-- The commit point of a port, at a frame sync (R363): a block that is open beyond its first frame closes short. -/
def State.audCommit (s : State) (n : Nat) : State :=
  if !s.commitPending 13 n then s
  else
    let r := s.tryCommit 13 n (apRules n s (s.asked 13 n) n)
    if !r.2 ∨ r.1.inForce (R.AP_SLOTS_MASK n) = s.inForce (R.AP_SLOTS_MASK n) then r.1
    else
      match r.1.aud n with
      | none => r.1
      | some a =>
        if r.1.on (R.AP_CFG_DIR n) then
          (r.1.audRingErr n a.tx.length |>.modAud n (fun a => { a with
            tx := [], blk := { a.blk with n := a.blk.n - a.tx.length } })).endJob (audJob n a.blk.seq) 4
            |>.blkOpen n false false |>.txLoad n false false
        else if a.inOpen = 0 then r.1.modAud n (fun a => { a with blk := { a.blk with mask := r.1.inForce (R.AP_SLOTS_MASK n) } })
        else ((r.1.blkClose n (a.inOpen - ofBool a.blk.drop + ofBool a.blk.rep) true).blkOpen n false false).audDrain n 4

/-- AUD_SAMPLE_FRAME: a frame sync; `samples` are those of the frame that it ends, `fsErr` that it came at a wrong bit count. -/
def execAudSampleFrame (n : Fin 8) (fsErr : Bool) (samples : List (BitVec 24)) (s : State) : Res :=
  .next (
    if s.isolated 13 then s
    else match s.aud n with
    | none => s.audCommit n
    | some a =>
      if !a.synced then (s.modAud n (fun a => { a with synced := true })).audCommit n
      else
        let s1 := if fsErr then
            (((s.set (R.AP_EVT_FS_ERR n) 1).inc (R.AP_CNT_FS_ERR_CNT n)).raise (E.audFsErr n)).blkFlag n 6
          else s
        let fb := decide (s.get (R.AP_STAT_CLK_STATE n) = 3 ∧ s.get (R.AP_CFG_CLK n) = 0)
        let s2 := if s1.on (R.AP_CFG_DIR n) then
            let s2 := s1.modAud n (fun a => { a with tx := a.tx.drop 1, count := a.count + 1 })
            if fb || fsErr then s2 else s2.emit (.audFrame n ((a.tx.head?).getD (List.replicate 16 0)))
          else
            let depth := depthBits (s1.inForce (R.AP_FMT_DEPTH n))
            let f := if fb then List.replicate 16 0
              else if fsErr then (a.wait.getLast?).getD a.last
              else samples.map (fun v => v.toNat % 2 ^ depth)
            let idx := a.blk.k + a.inOpen + ofBool a.blk.rep - ofBool a.blk.drop
            (s1.modAud n (fun a => { a with
              wait := a.wait ++ [f], count := a.count + 1
              hist := ((idx, f) :: a.hist.filter (fun e => decide (e.1 ≠ idx))).take 256 })).audDrain n 4
        s2.audCommit n)

/-! ### The external clock (R357 to R360) -/

/-- The ASRC unlocks. -/
def State.asrcDrop (s : State) (n : Nat) : State :=
  if s.on (R.AP_STAT_ASRC_LOCK n) then ((s.set (R.AP_STAT_ASRC_LOCK n) 0).set (R.AP_EVT_ASRC_UNLOCK n) 1).raise (E.asrcUnlock n)
  else s

/-- The port leaves its external clock (R358). -/
def State.audFallback (s : State) (n : Nat) : State :=
  let s1 := s.sets [(I.AP_NOCLK n, 1), (I.AP_AGREE n, 0), (I.AP_RET n, 0)]
  if s1.get (R.AP_STAT_CLK_STATE n) = 2 then ((s1.set (R.AP_STAT_CLK_STATE n) 3).asrcDrop n).blkFlag n 3 else s1

/-- A port in use with an external clock. -/
def State.audWatches (s : State) (n : Nat) : Bool :=
  !s.isolated 13 && s.on (R.AP_CFG_EN n) && decide (s.get (R.AP_CFG_CLK n) ≤ 1)

/-- AUD_CLK_LOSS. -/
def execAudClkLoss (n : Fin 8) (s : State) : Res :=
  .next (if s.audWatches n then ((s.set (R.AP_EVT_CLK_LOST n) 1).raise (E.audClkLost n)).audFallback n else s)

/-- AUD_GLITCH. -/
def execAudGlitch (n : Fin 8) (s : State) : Res :=
  .next (if s.audWatches n then (s.set (R.AP_EVT_GLITCH n) 1).inc (R.AP_CNT_GLITCH_CNT n) else s)

/-- Two rates agree within WIN_PPM of the second. -/
def ppmClose (a b ppm : Nat) : Bool := decide (((a - b) + (b - a)) * 1000000 ≤ ppm * b)

/-- AUD_MON_WINDOW: the rate of the external clock over a window. -/
def execAudMonWindow (n : Fin 8) (hz : BitVec 32) (s : State) : Res :=
  .next (
    if !s.audWatches n then s
    else
      let old := s.get (R.AP_MEAS_HZ n)
      let v := hz.toNat
      let ppm := s.get (R.AP_MON_WIN_PPM n)
      let bitClk := match s.strg.audClock n with
        | some c => if c.den = 1001 then c.num * 1000 / 1001 else c.num
        | none => 0
      let nom := bitClk * (if s.get (R.AP_CFG_CLK n) = 1 then 2 ^ s.get (R.AP_CFG_MCLK_DIV n) else 1)
      let s1 := s.set (R.AP_MEAS_HZ n) v
      let inWin := ppmClose v nom ppm
      if !s1.on (I.AP_NOCLK n) then
        (if inWin ∨ s1.asrc n then s1 else (s1.set (R.AP_EVT_RATE_EV n) 1).audFallback n)
      else
        let k := if ppmClose v old ppm then min 255 (s1.get (I.AP_AGREE n) + 1) else 1
        let s2 := s1.set (I.AP_AGREE n) k
        if k < s2.get (R.AP_MON_STABLE_N n) then s2
        else if inWin ∨ s2.asrc n then
          (if s2.get (R.AP_STAT_CLK_STATE n) = 3 then s2.set (I.AP_RET n) 1 else s2.set (I.AP_NOCLK n) 0)
        else ((s2.set (I.AP_AGREE n) 0).set (I.AP_RET n) 0).raise (E.audClkRate n))

/-- ASRC_LOCK. -/
def execAsrcLock (n : Fin 8) (ratio : BitVec 32) (s : State) : Res :=
  .next (if s.isolated 13 ∨ !s.asrc n ∨ s.get (R.AP_STAT_CLK_STATE n) ≠ 2 then s
    else (s.sets [(R.AP_STAT_ASRC_LOCK n, 1), (R.AP_ASRC_RATIO_RATIO n, ratio.toNat)]).raise (E.asrcLock n))

/-! ### Streams (R364, R365) -/

/-- The sample that a port delivers for a grid frame, at 24 bits; what the ASRC makes is a free value (R360). -/
def State.gridSample (s : State) (g port slot : Nat) : Nat :=
  match s.aud port with
  | some a =>
    if s.on (R.AP_CFG_DIR port) ∨ !bit (s.inForce (R.AP_SLOTS_MASK port)) slot then 0
    else if s.asrc port then
      (if s.on (R.AP_STAT_ASRC_LOCK port) then s.free / 2 ^ (24 * (128 * (g % 48) + 16 * port + slot)) % 2 ^ 24 else 0)
    else
      let t := g * tSec / 48000
      let i := if t < a.t0 then 0 else (t - a.t0) * s.inForce (R.AP_RATE_FS port) / tSec
      let f := (a.hist.filter (fun e => decide (e.1 ≤ i))).foldl (fun (best : Option (Nat × List Nat)) e => match best with
        | some b => if b.1 < e.1 then some e else some b
        | none => some e) none
      let v := match f with | some e => (e.2[slot]?).getD 0 | none => 0
      if s.inForce (R.AP_FMT_DEPTH port) = 0 then v * 256 else v
  | none => 0

/-- The frames of a stream block: a sample for each channel. -/
def State.streamBlock (s : State) (a g0 n : Nat) : List (List Nat) :=
  (List.range n).map (fun i => (List.range (s.inForce (R.AS_CFG_NCH a) + 1)).map (fun c =>
    let j := c / 4
    let k := c % 4
    if s.inForce (R.AS_CHMAP_EN a j k) = 0 then 0
    else s.gridSample (g0 + i) (s.inForce (R.AS_CHMAP_PORT a j k)) (s.inForce (R.AS_CHMAP_SLOT a j k))))

/-- AUD_STREAM_BLOCK: the block of stream `a` that has just ended on the grid goes to the SDI outputs and the ST 2110-30
flows that carry it; a commit of the streams takes effect at a grid frame that is a multiple of 48. -/
def execAudStreamBlock (a : Fin 8) (s : State) : Res :=
  .next (
    if s.isolated 13 then s
    else
      let g := s.now * 48000 / tSec
      let s0 := if g % 48 = 0 then s.commitAt 13 8 asRules else s
      if s0.inForce (R.AS_CFG_EN a) = 0 then s0
      else
        let n := if s0.inForce (R.AS_CFG_BLK a) = 1 then 48 else 6
        let g0 := g / n * n - n
        let fr := s0.streamBlock a g0 n
        let s1 := (List.range 4).foldl (fun (s : State) o =>
          if s.inForce (R.SDI_MAP_STREAM o) = a.val ∧ s.inForce (R.SDI_CFG_AUD_EN o) = 1 ∧ s.inForce (R.ROUTE_EN o) = 1 then
            s.emit (.sdiAudio o fr)
          else s) s0.drawn
        if s1.isolated 12 then s1
        else (List.range 64).foldl (fun (s : State) i =>
          let f := 2080 + i
          let e := s.flowEnt f
          if e.kind = 4 ∧ e.idx = a.val then
            s.flowBegin f (fun e => if e.kind ≠ 4 then none else
              some ⟨0, g0 % 2 ^ 32, g0 * tSec / 48000,
                [fr.flatMap (fun x => (x.take (e.u 0x2B 1 % 16)).flatMap (fun v => beBytes 3 v))], 0, 1, 0, 0⟩)
          else s) s1)

end Sys2Proof.Machine
end

