-- ==== Sys2Proof/Machine/Deflate.lean ====
section
/-!
DEFINITION. The coding of the DEFLATE engines (spec/16): an inflater for RFC 1951, the framing of zlib (RFC 1950) and gzip
(RFC 1952), the stored form, and the check values. Images are unpacked with the same inflater (spec/02 R41).
-/

namespace Sys2Proof.Machine

/-- Adler-32 (RFC 1950). -/
def adler32 (l : List Byte) : Nat :=
  let p := l.foldl (fun (e : Nat × Nat) x =>
    let a := (e.1 + x.toNat) % 65521
    (a, (e.2 + a) % 65521)) (1, 0)
  p.2 * 65536 + p.1

/-! ### Inflating -/

/-- `n` bits from bit `p` up, bit 0 of a byte first; none where the input ends. -/
def takeBits (src : List Byte) (p n : Nat) : Option Nat :=
  if 8 * src.length < p + n then none
  else some (leNat ((src.drop (p / 8)).take (n / 8 + 2)) / 2 ^ (p % 8) % 2 ^ n)

/-- Where an inflater stands: at a block header, in a stored block with bytes left, in a coded block with its code lengths, in
a match that is still to be copied, at the end of the final block, out of input, at its output limit, or stopped by an
error with its RESULT (spec/16 R397). -/
inductive InfPhase where
  | block
  | stored (left : Nat) (fin : Bool)
  | codes (lit dist : List Nat) (fin : Bool)
  | copy (left dist : Nat) (lits dists : List Nat) (fin : Bool)
  | ended
  | more
  | full
  | bad (result : Nat)
  deriving DecidableEq, Repr

/-- An inflater: bits used, output with the newest byte first, phase. -/
structure Inf where
  pos : Nat
  out : List Byte := []
  phase : InfPhase := .block
  deriving DecidableEq, Repr

/-- The answer of a search for a code: the input ends, no such code, or a symbol with the bit after it. -/
inductive Sym where
  | more
  | bad
  | sym (v pos : Nat)
  deriving DecidableEq, Repr

/-- Symbols of a code length, in order. -/
def symsOf (lens : List Nat) (n : Nat) : List Nat := (List.range lens.length).filter (fun i => decide (lens.getD i 0 = n))

/-- Decode one symbol of a canonical code: `code` and `first` are the bits so far and the first code of their length. -/
def huffSym (src : List Byte) (lens : List Nat) : Nat → Nat → Nat → Nat → Nat → Sym
  | 0, _, _, _, _ => .bad
  | fuel + 1, n, p, code, first =>
    match takeBits src p 1 with
    | none => .more
    | some b =>
      let c := 2 * code + b
      let f := 2 * first
      let l := symsOf lens n
      if c < f + l.length then .sym (l.getD (c - f) 0) (p + 1)
      else huffSym src lens fuel (n + 1) (p + 1) c (f + l.length)

/-- Decode one symbol. -/
def huff (src : List Byte) (lens : List Nat) (p : Nat) : Sym := huffSym src lens 15 1 p 0 0

/-- Kraft sum of a code in units of 2^-15. -/
def kraft (lens : List Nat) : Nat := lens.foldl (fun a n => a + if n = 0 then 0 else 2 ^ (15 - n)) 0

/-- A set of code lengths is complete; a distance set may be empty, or one code of one bit (RFC 1951 3.2.7). -/
def litSetOk (lens : List Nat) : Bool := decide (kraft lens = 2 ^ 15)
def distSetOk (lens : List Nat) : Bool :=
  decide (kraft lens = 2 ^ 15) || lens.all (fun n => decide (n = 0)) ||
    (decide (kraft lens = 2 ^ 14) && decide ((symsOf lens 1).length = 1))

/-- Order of the lengths of the code-length codes (RFC 1951 3.2.7). -/
def lenOrder : List Nat := [16, 17, 18, 0, 8, 7, 9, 6, 10, 5, 11, 4, 12, 3, 13, 2, 14, 1, 15]

/-- Read the `n` code lengths of a dynamic block with the code-length code `cl`; `acc` holds the lengths read, newest
first. None: the input ends; a second `none`: a bad set. -/
def readLens (src : List Byte) (cl : List Nat) (n : Nat) : Nat → Nat → List Nat → Option (Option (List Nat × Nat))
  | 0, _, _ => some none
  | fuel + 1, p, acc =>
    if n ≤ acc.length then (if acc.length = n then some (some (acc.reverse, p)) else some none)
    else match huff src cl p with
      | .more => none
      | .bad => some none
      | .sym v q =>
        if v < 16 then readLens src cl n fuel q (v :: acc)
        else
          let w := if v = 16 then 2 else if v = 17 then 3 else 7
          match takeBits src q w with
          | none => none
          | some k =>
            let cnt := k + (if v = 18 then 11 else 3)
            match v, acc with
            | 16, [] => some none
            | 16, a :: t => readLens src cl n fuel (q + w) (List.replicate cnt a ++ (a :: t))
            | _, acc => readLens src cl n fuel (q + w) (List.replicate cnt 0 ++ acc)

/-- Code lengths of the fixed codes (RFC 1951 3.2.6). -/
def fixedLit : List Nat :=
  List.replicate 144 8 ++ List.replicate 112 9 ++ List.replicate 24 7 ++ List.replicate 8 8
def fixedDist : List Nat := List.replicate 32 5

/-- Length and extra bits of length code 257 + i, distance and extra bits of distance code i (RFC 1951 3.2.5). -/
def lenExtra (i : Nat) : Nat := if i < 8 ∨ i = 28 then 0 else i / 4 - 1
def lenBase (i : Nat) : Nat := if i < 8 then 3 + i else if i = 28 then 258 else 3 + (4 + i % 4) * 2 ^ (i / 4 - 1)
def distExtra (i : Nat) : Nat := if i < 4 then 0 else i / 2 - 1
def distBase (i : Nat) : Nat := if i < 4 then 1 + i else 1 + (2 + i % 2) * 2 ^ (i / 2 - 1)

/-- A block header, with the code lengths of a dynamic block. -/
def infBlock (src : List Byte) (s : Inf) : Inf :=
  match takeBits src s.pos 3 with
  | none => { s with phase := .more }
  | some h =>
    let fin := decide (h % 2 = 1)
    let p := s.pos + 3
    match h / 2 with
    | 0 =>
      let q := roundUp p 8
      match takeBits src q 32 with
      | none => { s with phase := .more }
      | some v =>
        if v % 2 ^ 16 + v / 2 ^ 16 = 2 ^ 16 - 1 then { s with pos := q + 32, phase := .stored (v % 2 ^ 16) fin }
        else { s with pos := q, phase := .bad 0x14 }
    | 1 => { s with pos := p, phase := .codes fixedLit fixedDist fin }
    | 2 =>
      match takeBits src p 14 with
      | none => { s with phase := .more }
      | some v =>
        let hl := v % 32 + 257
        let hd := v / 32 % 32 + 1
        let hc := v / 1024 + 4
        match takeBits src (p + 14) (3 * hc) with
        | none => { s with phase := .more }
        | some c =>
          let cl := (List.range 19).map (fun i =>
            let j := lenOrder.idxOf i
            if j < hc then bits c (3 * j) 3 else 0)
          if !litSetOk cl then { s with phase := .bad 0x12 }
          else match readLens src cl (hl + hd) 321 (p + 14 + 3 * hc) [] with
            | none => { s with phase := .more }
            | some none => { s with phase := .bad 0x12 }
            | some (some (l, q)) =>
              if litSetOk (l.take hl) && distSetOk (l.drop hl) then
                { s with pos := q, phase := .codes (l.take hl) (l.drop hl) fin }
              else { s with phase := .bad 0x12 }
    | _ => { s with phase := .bad 0x11 }

/-- One symbol of a coded block; the distance of a match reaches back at most to the start of the stream. -/
def infSymbol (src : List Byte) (limit : Nat) (lit dist : List Nat) (fin : Bool) (s : Inf) : Inf :=
  match huff src lit s.pos with
  | .more => { s with phase := .more }
  | .bad => { s with phase := .bad 0x12 }
  | .sym v p =>
    if v < 256 then
      if s.out.length < limit then { s with pos := p, out := BitVec.ofNat 8 v :: s.out } else { s with phase := .full }
    else if v = 256 then { s with pos := p, phase := if fin then .ended else .block }
    else if 285 < v then { s with phase := .bad 0x12 }
    else
      let i := v - 257
      match takeBits src p (lenExtra i) with
      | none => { s with phase := .more }
      | some e =>
        let q := p + lenExtra i
        match huff src dist q with
        | .more => { s with phase := .more }
        | .bad => { s with phase := .bad 0x12 }
        | .sym d q2 =>
          if 29 < d then { s with phase := .bad 0x12 }
          else match takeBits src q2 (distExtra d) with
            | none => { s with phase := .more }
            | some f =>
              let dd := distBase d + f
              if s.out.length < dd then { s with phase := .bad 0x13 }
              else { s with pos := q2 + distExtra d, phase := .copy (lenBase i + e) dd lit dist fin }

/-- One step of the inflater, whose output holds at most `limit` bytes. -/
def infStep (src : List Byte) (limit : Nat) (s : Inf) : Inf :=
  match s.phase with
  | .block => infBlock src s
  | .stored 0 fin => { s with phase := if fin then .ended else .block }
  | .stored (n + 1) fin =>
    match takeBits src s.pos 8 with
    | none => { s with phase := .more }
    | some v =>
      if s.out.length < limit then { pos := s.pos + 8, out := BitVec.ofNat 8 v :: s.out, phase := .stored n fin }
      else { s with phase := .full }
  | .codes lit dist fin => infSymbol src limit lit dist fin s
  | .copy 0 _ lit dist fin => { s with phase := .codes lit dist fin }
  | .copy (n + 1) d lit dist fin =>
    if s.out.length < limit then { s with out := s.out.getD (d - 1) 0 :: s.out, phase := .copy n d lit dist fin }
    else { s with phase := .full }
  | _ => s

/-- Repeat a step. -/
def infRun (src : List Byte) (limit : Nat) : Nat → Inf → Inf
  | 0, s => s
  | n + 1, s => infRun src limit n (infStep src limit s)

/-- Inflate from a byte of the input up; every step uses a bit, writes a byte or ends a phase. -/
def inflateRaw (src : List Byte) (start limit : Nat) : Inf :=
  infRun src limit (24 * src.length + 3 * limit + 8) { pos := 8 * start }

/-! ### Framing (spec/16 R399) -/

/-- Position after the zero byte that ends a string from `p` up. -/
def afterZero : Nat → List Byte → Option Nat
  | _, [] => none
  | p, b :: t => if b = 0 then some (p + 1) else afterZero (p + 1) t

/-- What a header says: the input ends within it, an error with its RESULT, or the first byte of the DEFLATE data. -/
inductive Head where
  | more
  | bad (result : Nat)
  | at_ (pos : Nat)
  deriving DecidableEq, Repr

/-- A zlib header. -/
def zlibHead (src : List Byte) : Head :=
  if src.length < 2 then .more
  else
    let cmf := fieldLE src 0 1
    let flg := fieldLE src 1 1
    if cmf % 16 ≠ 8 ∨ 7 < cmf / 16 ∨ (cmf * 256 + flg) % 31 ≠ 0 then .bad 0x10
    else if bit flg 5 then .bad 0x18 else .at_ 2

/-- A gzip header with its optional fields. -/
def gzipHead (src : List Byte) : Head :=
  if src.length < 10 then .more
  else
    let flg := fieldLE src 3 1
    if fieldLE src 0 2 ≠ 0x8B1F ∨ fieldLE src 2 1 ≠ 8 ∨ 32 ≤ flg then .bad 0x10
    else
      let p1 : Option Nat := if bit flg 2 then
          (if src.length < 12 then none else some (12 + fieldLE src 10 2)) else some 10
      let p2 := p1.bind (fun p => if bit flg 3 then afterZero p (src.drop p) else some p)
      let p3 := p2.bind (fun p => if bit flg 4 then afterZero p (src.drop p) else some p)
      match p3 with
      | none => .more
      | some p =>
        if bit flg 1 then
          if src.length < p + 2 then .more
          else if fieldLE src p 2 = crc32 (src.take p) % 2 ^ 16 then .at_ (p + 2) else .bad 0x10
        else if src.length < p then .more else .at_ p

/-- The header of a framing: 0 raw, 1 zlib, 2 gzip. -/
def frameHead (frame : Nat) (src : List Byte) : Head :=
  if frame = 1 then zlibHead src else if frame = 2 then gzipHead src else .at_ 0

/-- What a stream unpacks to: RESULT 0 at its end with the bytes used, 1 where the input ends, 2 at the output limit, or
an error of spec/16 R397; bits used, output in order. -/
structure Unpacked where
  result : Nat
  used : Nat
  out : List Byte
  deriving DecidableEq, Repr

/-- Unpack a stream from its start, to at most `limit` bytes. -/
def unpack (frame : Nat) (src : List Byte) (limit : Nat) : Unpacked :=
  match frameHead frame src with
  | .more => ⟨1, 8 * src.length, []⟩
  | .bad r => ⟨r, 8 * min src.length 1, []⟩
  | .at_ p =>
    let r := inflateRaw src p limit
    let out := r.out.reverse
    match r.phase with
    | .bad e => ⟨e, r.pos, out⟩
    | .full => ⟨2, r.pos, out⟩
    | .ended =>
      let q := roundUp r.pos 8 / 8
      let n := if frame = 1 then 4 else if frame = 2 then 8 else 0
      if src.length < q + n then ⟨1, 8 * src.length, out⟩
      else
        let good := if frame = 1 then decide (beNat (slice src q 4) = adler32 out)
          else if frame = 2 then decide (fieldLE src q 4 = crc32 out ∧ fieldLE src (q + 4) 4 = out.length % 2 ^ 32)
          else true
        ⟨if good then 0 else 0x15, 8 * (if good then q + n else q), out⟩
    | _ => ⟨1, 8 * src.length, out⟩

/-! ### Compressing -/

/-- Bits of bytes, bit 0 of each first. -/
def bitsOf (l : List Byte) : List Bool := l.flatMap (fun b => (List.range 8).map (fun i => bit b.toNat i))

/-- Bytes of bits; the last byte is filled with zeros. -/
def bytesOf : Nat → List Bool → List Byte
  | 0, _ => []
  | _, [] => []
  | n + 1, l => BitVec.ofNat 8 ((List.range 8).foldl (fun a i => a + (if l.getD i false then 2 ^ i else 0)) 0) ::
      bytesOf n (l.drop 8)

/-- Pieces of at most 32,768 bytes; at least one. -/
def pieces : Nat → List Byte → List (List Byte)
  | 0, l => [l]
  | n + 1, l => if l.length ≤ 32768 then [l] else l.take 32768 :: pieces n (l.drop 32768)

/-- The stored form of an input that begins after `used` bits of the stream (spec/16 R398). -/
def storedBits (used : Nat) (input : List Byte) (fin : Bool) : List Bool :=
  let ps := pieces input.length input
  (List.range ps.length).foldl (fun acc i =>
    let p := ps.getD i []
    let h := [fin && decide (i + 1 = ps.length), false, false]
    let n := used + acc.length + 3
    acc ++ h ++ List.replicate (roundUp n 8 - n) false ++
      bitsOf (leBytes 2 p.length ++ leBytes 2 (2 ^ 16 - 1 - p.length) ++ p)) []

/-- The blocks of a job's input (spec/16 R398): stored with CODES 3; otherwise the engine's own coding, which is never
longer than the stored form (R401). -/
def packBits (codes level block used : Nat) (hist input : List Byte) (fin : Bool) : List Bool :=
  let st := storedBits used input fin
  if codes = 3 then st
  else
    let c := Config.deflateBits codes level block hist input fin
    if c.length ≤ st.length then c else st

/-- The header of a compressed stream (spec/16 R399). -/
def packHead (frame codes level mtime : Nat) : List Byte :=
  if frame = 1 then
    let f := (if codes = 3 then 0 else level) * 64
    [0x78, BitVec.ofNat 8 (f + (31 - (0x7800 + f) % 31) % 31)]
  else if frame = 2 then
    [0x1F, 0x8B, 8, 0] ++ leBytes 4 mtime ++ [if level = 3 then 2 else if level = 1 then 4 else 0, 0xFF]
  else []

/-- The trailer of a compressed stream. -/
def packTail (frame : Nat) (data : List Byte) : List Byte :=
  if frame = 1 then beBytes 4 (adler32 data)
  else if frame = 2 then leBytes 4 (crc32 data) ++ leBytes 4 data.length
  else []

end Sys2Proof.Machine
end

