-- ==== Sys2Proof/Machine/Utl.lean ====
section
/-!
DEFINITION. The DEFLATE engines (spec/16) and the DMA engines (spec/17 R415) of UTL.
-/

namespace Sys2Proof.Machine

/-! ### Draining of UTL (spec/02 R69) -/

/-- An engine whose next slot is `head` may begin a job; `lim` is its first slot that waits, plus 1. -/
def State.utlMay (s : State) (head lim : Nat) : Bool :=
  !s.isolated 15 && (s.drainTags 15).all (fun t => decide (t ≠ 0)) && (!(s.holdNow 15) || decide (lim ≠ head + 1))

/-- A tail is written: the slots posted while UTL drains wait. -/
def State.utlPost (s : State) (lim tail : Fld) (v : Nat) : State :=
  (s.set lim (if (s.holdNow 15) then (if s.get lim = 0 then s.get tail + 1 else s.get lim) else 0)).set tail v

/-! ### Buffers -/

/-- A buffer lies inside its region, or inside one Tray allocation. -/
def State.bufIn (s : State) (tray : Bool) (region off n : Nat) : Bool :=
  if tray then decide (off + n ≤ trayBytes) && (granSpan off n).all (fun g =>
      (s.strg.granule g).isSome && decide (s.strg.granule g = s.strg.granule (off / granBytes)))
  else (s.strg.region region).isSome && decide (off + n ≤ s.strg.regionSize region)

/-- The Tray allocations of a buffer grant UTL an access. -/
def State.bufGranted (s : State) (tray : Bool) (off n : Nat) (wr : Bool) : Bool :=
  !tray || (granSpan off n).all (fun g => s.granted 15 g wr)

/-- Read a buffer: its bytes, whether the read was good, and the state with what it records. -/
def State.bufRead (s : State) (tray : Bool) (region off n : Nat) : List Byte × Bool × State :=
  if tray then
    let r := s.trayReadAs 15 (rodPort 15) off n
    (r.1, decide (r.2.1 = 0), r.2.2)
  else (s.dramRead region off n, !s.dramPoison region off n, s)

/-- Write a buffer; a denied write is recorded and not made. -/
def State.bufWrite (s : State) (tray : Bool) (region off : Nat) (d : List Byte) : State :=
  if tray then s.trayPut 15 off d else s.dramPut region off d

/-! ### DEFLATE: descriptors and state records -/

/-- Fields of a descriptor (spec/16 R395). -/
def UtlJob.u (j : UtlJob) (a n : Nat) : Nat := fieldLE j.desc a n
def UtlJob.flag (j : UtlJob) (i : Nat) : Bool := bit (j.u 7 1) i
def UtlJob.first (j : UtlJob) : Bool := j.flag 0
def UtlJob.last (j : UtlJob) : Bool := j.flag 1
def UtlJob.save (j : UtlJob) : Bool := j.flag 2
def UtlJob.codes (j : UtlJob) : Nat := j.u 6 1 % 4
def UtlJob.level (j : UtlJob) : Nat := j.u 6 1 / 4 % 4

/-- The job has a state record. -/
def UtlJob.stateful (j : UtlJob) : Bool := !(j.first && j.last)

/-- Bytes of a state record, and of each of its halves (spec/16 R403). -/
def stateBytes : Nat := 73792
def halfBytes : Nat := 36864

/-- A descriptor breaks no rule (spec/16 R395). -/
def State.dflDescOk (s : State) (j : UtlJob) : Bool :=
  let src := j.u 0x0C 4
  let dst := j.u 0x20 4
  decide (j.u 4 1 ≤ 1 ∧ j.u 5 1 ≤ 2 ∧ j.u 6 1 < 16 ∧ j.u 7 1 < 64 ∧ j.u 0x0B 1 = 0 ∧ j.u 0x3C 4 = 0 ∧ src ≤ 2 ^ 31 ∧
    1 ≤ dst ∧ dst ≤ 2 ^ 31) &&
  (if j.u 4 1 = 0 then decide (j.u 0x30 8 = 0 ∧ j.level ≠ 0) else decide (1 ≤ j.u 0x30 8 ∧ j.u 0x30 8 ≤ 2 ^ 48)) &&
  s.bufIn (j.flag 4) (j.u 8 1) (j.u 0x10 8) src && s.bufIn (j.flag 5) (j.u 9 1) (j.u 0x18 8) dst &&
  s.bufGranted (j.flag 4) (j.u 0x10 8) src false && s.bufGranted (j.flag 5) (j.u 0x18 8) dst true &&
  (!j.stateful || (decide (j.u 0x28 8 % 64 = 0) && s.bufIn false (j.u 0x0A 1) (j.u 0x28 8) stateBytes))

/-- The header of a state record and the half that it names, as the engine wrote them: the bytes beyond SEQ are the
engine's own, and free values of the record's draw. -/
def DflStrm.head (r : DflStrm) : List Byte :=
  leBytes 4 0x54534644 ++ leBytes 4 r.seq ++ (List.range 56).map (fun i => Config.freeByte r.draw i)
def DflStrm.body (r : DflStrm) : List Byte := (List.range halfBytes).map (fun i => Config.freeByte r.draw (56 + i))

/-- Restore the state record of a job: none where it is bad or has another SEQ. -/
def State.dflRestore (s : State) (j : UtlJob) : Option DflStrm :=
  let reg := j.u 0x0A 1
  let off := j.u 0x28 8
  s.dflRecs.find? (fun r => decide (r.seq = j.u 0x24 4 ∧ r.op = j.u 4 1 ∧ r.frame = j.u 5 1 ∧
    s.dramRead reg off 64 = r.head ∧ s.dramRead reg (off + 64 + halfBytes * r.half) halfBytes = r.body))

/-- Write the state record of a job: the other half, then the header (spec/16 R403). -/
def State.dflSave (s : State) (j : UtlJob) (r : DflStrm) : State :=
  let n : DflStrm := { r with
    seq := (if j.first then 1 else (r.seq + 1) % 2 ^ 32), draw := s.freeCtr, half := 1 - r.half }
  let reg := j.u 0x0A 1
  let off := j.u 0x28 8
  let s1 := (s.drawn.dramPut reg (off + 64 + halfBytes * n.half) n.body).dramPut reg off n.head
  { s1 with dflRecs := n :: s1.dflRecs }

/-! ### DEFLATE: what a job computes -/

/-- The result of a job: RESULT, CONSUMED, destination bytes, CHECK, TOTAL_IN, TOTAL_OUT, ERR_POS, the stream after it. -/
structure DflRun where
  result : Nat
  consumed : Nat := 0
  out : List Byte := []
  check : Nat := 0
  tin : Nat := 0
  tout : Nat := 0
  err : Nat := 0xFFFFFFFF
  strm : DflStrm := {}

/-- Check value of the original data so far (spec/16 R396). -/
def dflCheck (frame : Nat) (data : List Byte) : Nat := if frame = 1 then adler32 data else crc32 data

/-- A compression job (spec/16 R398 to R401); `pos` is the unstated place at which a full destination was found. -/
def dflCompress (j : UtlJob) (block pos : Nat) (r : DflStrm) (src : List Byte) : DflRun :=
  let frame := j.u 5 1
  let all := r.src ++ src
  let head := if j.first then packHead frame j.codes j.level (j.u 0x38 4) else []
  let bits := r.left ++ packBits j.codes j.level block r.left.length r.src src j.last
  let k := if j.last then roundUp bits.length 8 else bits.length / 8 * 8
  let out := head ++ bytesOf (k / 8) (bits.take k) ++ (if j.last then packTail frame all else [])
  let dst := j.u 0x20 4
  let tout := r.done + out.length
  let base : DflRun :=
    { result := 0, consumed := src.length, out := out, check := dflCheck frame all, tin := all.length, tout := tout,
      strm := { r with op := 0, frame := frame, src := all, done := tout, left := bits.drop k } }
  if dst < out.length then
    { base with result := 0x1B, out := out.take dst, consumed := pos, err := pos, tout := r.done + dst }
  else if j.last && decide (all.length ≤ tout) then { base with result := 1 }
  else base

/-- A decompression job (spec/16 R399, R400, R402). -/
def dflDecompress (j : UtlJob) (r : DflStrm) (src : List Byte) : DflRun :=
  let frame := j.u 5 1
  let all := r.src ++ src
  let dst := j.u 0x20 4
  let tmax := j.u 0x30 8
  let u := unpack frame all (min (r.done + dst) tmax)
  let used := ceilDiv u.used 8
  let consumed := min (used - r.src.length) src.length
  let result :=
    if u.result = 0 then (if j.last && decide (consumed < src.length) then 3 else 0)
    else if u.result = 1 then (if j.last then 0x16 else 0)
    else if u.result = 2 then (if tmax ≤ r.done + dst then 0x17 else if j.save then 2 else 0x1B)
    else u.result
  { result := result, consumed := consumed, out := u.out.drop r.done, check := dflCheck frame u.out, tin := u.out.length,
    tout := used, err := if 0x10 ≤ result then consumed else 0xFFFFFFFF,
    strm := { r with op := 1, frame := frame, src := all.take used, done := u.out.length } }

/-- What a job in progress comes to, with the state that its reads leave. -/
def State.dflRun (s : State) (j : UtlJob) : DflRun × State :=
  if j.bad then (⟨0x1A, 0, [], 0, 0, 0, 0, {}⟩, s)
  else if !s.dflDescOk j then ({ result := 0x1C, err := 0 }, s)
  else
    let bad := j.stateful && !j.first && s.dramPoison (j.u 0x0A 1) (j.u 0x28 8) stateBytes
    match (if j.first then some {} else s.dflRestore j) with
    | none => ({ result := if bad then 0x1A else 0x19, err := 0 }, s)
    | some r =>
      let rd := s.bufRead (j.flag 4) (j.u 8 1) (j.u 0x10 8) (j.u 0x0C 4)
      if bad || !rd.2.1 then ({ result := 0x1A, err := 0 }, rd.2.2)
      else if j.u 4 1 = 0 then
        let s1 := rd.2.2
        (dflCompress j (s1.get (R.DFL_CFG_BLOCK j.n)) (s1.free % (rd.1.length + 1)) r rd.1, s1.drawn)
      else (dflDecompress j r rd.1, rd.2.2)

/-! ### DEFLATE: the engine -/

/-- Address of a ring slot. -/
def State.dflSlot (s : State) (n slot : Nat) : Nat := s.get (R.DFL_RING_GRAN n) * granBytes + 128 * slot

/-- The job's entry in the carry log (spec/16 R406); the DEFLATE engines are UTL's first beads. -/
def dflJobOf (j : UtlJob) : Job := ⟨15, j.n, 11, j.u 0 4, 0⟩

/-- The completion word (spec/16 R396). -/
def dflWord (r : DflRun) (seq : Nat) (t : Time) : List Byte :=
  [1, BitVec.ofNat 8 r.result, 0, 0] ++ leBytes 4 r.consumed ++ leBytes 4 r.out.length ++ leBytes 4 r.check ++
  leBytes 8 r.tin ++ leBytes 8 r.tout ++ leBytes 4 seq ++ timeBytes t ++ leBytes 4 r.err ++ zeros 12

/-- The engine is idle: its claim ends. -/
def State.dflFree (s : State) (n : Nat) : State :=
  ((({ s with dfls := s.dfls.filter (fun k => decide (k.n ≠ n)) } : State).set (R.DFL_STAT_STATE n) 0).set
    (I.DFL_REGION n) 0).set (I.DFL_OFF n) 0

/-- A job ends: its data, its state record, its completion word, its events and the advance of HEAD. -/
def State.dflEnd (s : State) (j : UtlJob) : State :=
  let n := j.n
  let rs := s.dflRun j
  let r := rs.1
  let ok := decide (r.result < 0x10)
  let s1 := if r.out = [] then rs.2 else rs.2.bufWrite (j.flag 5) (j.u 9 1) (j.u 0x18 8) r.out
  let keep := ok && (j.save || !j.last)
  let s2 := if keep then s1.dflSave j r.strm else s1
  let seq := if keep then (s2.dflRecs.head?.map (·.seq)).getD 0 else 0
  let s3 := (s2.trayPut 15 (s2.dflSlot n j.slot + 0x40) (dflWord r seq s2.now)).dflFree n
  let s4 := if ok then s3 else
    let e := if s3.on (R.DFL_EVT_ERR n) then s3 else s3.set (R.DFL_EVT_FIRST_ERR n) r.result
    ((e.set (R.DFL_EVT_ERR n) 1).inc (R.DFL_EVT_ERR_CNT n)).raise (E.dflErr n)
  let s5 := s4.when (decide (r.result = 1)) (fun s => (s.set (R.DFL_EVT_NO_GAIN n) 1).raise (E.dflNoGain n))
  let s6 := s5.when (decide (r.result = 0x1C)) (fun s => (s.set (R.DFL_EVT_DESC_BAD n) 1).raise (E.dflDescBad n))
  let depth := s6.get (R.DFL_RING_DEPTH n)
  ((s6.set (R.DFL_HEAD_SLOT n) (if j.slot + 1 < depth then j.slot + 1 else 0)).raiseIf (j.flag 3) (E.dflDone n)).endJob
    (dflJobOf j) (if ok then 0 else 2)

/-- The other engine claims a job's state record (spec/16 R404). -/
def State.dflClaimed (s : State) (j : UtlJob) : Bool :=
  j.stateful && decide (s.get (I.DFL_REGION (1 - j.n)) = j.u 0x0A 1 + 1 ∧ s.get (I.DFL_OFF (1 - j.n)) = j.u 0x28 8)

/-- BAR0 offset of an engine's block. -/
def dflBase (n : Nat) : Nat := 0xF01000 + 0x100 * n

/-- DFL_TAIL_WRITE (spec/16 R394). -/
def execDflTailWrite (n : Fin 2) (slot : BitVec 8) (s : State) : Res :=
  .next (s.hostToBead 15 n fun s =>
    if slot.toNat < s.get (R.DFL_RING_DEPTH n) then s.utlPost (I.DFL_LIM n) (R.DFL_TAIL_SLOT n) slot.toNat
    else s.wrRange 15 (dflBase n + 8))

/-- DFL_JOB_START (spec/16 R394, R395, R404): the engine takes its next slot; a descriptor that breaks a rule completes at
once. -/
def execDflJobStart (n : Fin 2) (s : State) : Res :=
  .next (
    let head := s.get (R.DFL_HEAD_SLOT n)
    if !s.on (R.DFL_CFG_EN n) || decide (s.get (R.DFL_STAT_STATE n) = 1 ∨ head = s.get (R.DFL_TAIL_SLOT n)) ||
        !s.utlMay head (s.get (I.DFL_LIM n)) then s
    else
      let rd := s.trayReadAs 15 (rodPort 15) (s.dflSlot n head) 64
      let j : UtlJob := ⟨n, head, rd.1, decide (rd.2.1 ≠ 0)⟩
      let s1 := rd.2.2.set (R.DFL_STAT_SLOT n) head
      if s1.dflClaimed j then s1.set (R.DFL_STAT_STATE n) 2
      else
        let s2 := ({ s1 with dfls := s1.dfls ++ [j] } : State).set (R.DFL_STAT_STATE n) 1
        let s3 := if j.stateful then (s2.set (I.DFL_REGION n) (j.u 0x0A 1 + 1)).set (I.DFL_OFF n) (j.u 0x28 8) else s2
        let s4 := s3.beginJob (dflJobOf j)
        if j.bad || !s4.dflDescOk j then s4.dflEnd j else s4)

/-- DFL_JOB_DONE (spec/16 R396). -/
def execDflJobDone (n : Fin 2) (s : State) : Res :=
  .next (match s.dfls.find? (fun j => decide (j.n = n.val)) with
    | some j => s.dflEnd j
    | none => s)

/-- The job in progress is cut: an unstated part of its output is in its buffer (spec/16 R406). -/
def State.dflCut (s : State) (n : Nat) (log : Bool) : State :=
  match s.dfls.find? (fun j => decide (j.n = n)) with
  | none => s.dflFree n
  | some j =>
    let out := (s.dflRun j).1.out
    let part := out.take (s.free % (out.length + 1))
    let s1 := (if part = [] then s.drawn else s.drawn.bufWrite (j.flag 5) (j.u 9 1) (j.u 0x18 8) part).dflFree n
    let s2 := (s1.set (R.DFL_EVT_CUT n) 1).raise (E.dflCut n)
    if log then s2.endJob (dflJobOf j) 1 else { s2 with jobs := s2.jobs.erase (dflJobOf j) }

/-- DFL_DISABLE (spec/16 R406). -/
def execDflDisable (n : Fin 2) (s : State) : Res :=
  .next (s.hostToBead 15 n fun s => (s.set (R.DFL_CFG_EN n) 0).dflCut n true)

/-! ### DMA -/

/-- Address of a ring slot (spec/17 R414). -/
def State.dmaSlot (s : State) (d slot : Nat) : Nat := s.get R.BAR4_GRAN * granBytes + 0x2000 * d + 32 * slot

/-- The job's entry in the carry log; the DMA engines follow the DEFLATE engines in UTL's list of beads. -/
def dmaJobOf (j : UtlJob) : Job := ⟨15, 2 + j.n, 12, j.u 0 4, 0⟩

/-- DIR and FLAGS of a descriptor (spec/17 R415). -/
def UtlJob.dir (j : UtlJob) : Nat := j.u 4 1
def UtlJob.dflag (j : UtlJob) (i : Nat) : Bool := bit (j.u 5 1) i

/-- A descriptor breaks no rule (spec/17 R415). -/
def State.dmaDescOk (s : State) (j : UtlJob) : Bool :=
  let n := j.u 0x18 4
  decide (j.dir ≤ 2 ∧ bits (j.u 5 1) 3 4 = 0 ∧ j.u 0x1D 3 = 0 ∧ 1 ≤ n ∧ n ≤ 2 ^ 30) &&
  (decide (j.dir = 0) || s.bufIn (j.dflag 1) (j.u 6 1) (j.u 8 8) n) &&
  (decide (j.dir = 1) || s.bufIn (j.dflag 2) (j.u 0x1C 1) (j.u 0x10 8) n)

/-- A job ends with a STATUS: STATUS and DONE are written and HEAD advances. -/
def State.dmaEnd (s : State) (j : UtlJob) (status : Nat) : State :=
  let d := j.n
  let a := s.dmaSlot d j.slot
  let s1 := (({ s with dmas := s.dmas.filter (fun k => decide (k.n ≠ d)) } : State).trayPut 15 (a + 7) (leBytes 1 status)).trayPut
    15 (a + 5) (leBytes 1 (setBit (j.u 5 1) 7))
  let s2 := if status = 0 then s1 else
    let e := if s1.on (R.DMA_EVT_ERR d) then s1 else s1.set (R.DMA_EVT_FIRST d) status
    ((e.set (R.DMA_EVT_ERR d) 1).inc (R.DMA_EVT_ERR_CNT d)).raise (E.dmaErr d)
  ((s2.set (R.DMA_CFG_HEAD d) (j.slot + 1)).raiseIf (j.dflag 0) (E.dmaDone d)).endJob (dmaJobOf j) (if status = 0 then 0 else 2)

/-- The engine takes its next slot; the answer tells whether that slot has ended at once. -/
def State.dmaTake (s : State) (d : Nat) : State × Bool :=
  let head := s.get (R.DMA_CFG_HEAD d)
  if !s.on (R.DMA_CFG_EN d) || s.dmas.any (fun j => decide (j.n = d)) || decide (head = s.get (R.DMA_CFG_TAIL d)) ||
      !s.utlMay head (s.get (I.DMA_LIM d)) then (s, false)
  else
    let rd := s.trayReadAs 15 (rodPort 15) (s.dmaSlot d head) 32
    let j : UtlJob := ⟨d, head, rd.1, decide (rd.2.1 ≠ 0)⟩
    let s1 := ({ rd.2.2 with dmas := rd.2.2.dmas ++ [j] } : State).beginJob (dmaJobOf j)
    if j.bad then (s1.dmaEnd j 1, true) else if s1.dmaDescOk j then (s1, false) else (s1.dmaEnd j 3, true)

/-- The engine goes on to its next slot, past those that end at once. -/
def State.dmaGo (d : Nat) : Nat → State → State
  | 0, s => s
  | n + 1, s =>
    let r := s.dmaTake d
    if r.2 then State.dmaGo d n r.1 else r.1

/-- The engine takes jobs. -/
def State.dmaKick (s : State) (d : Nat) : State := State.dmaGo d 256 s

/-- DMA_TAIL_WRITE (spec/17 R415). -/
def execDmaTailWrite (d : Fin 8) (slot : BitVec 8) (s : State) : Res :=
  .next (s.hostToBead 15 (2 + d) fun s => (s.utlPost (I.DMA_LIM d) (R.DMA_CFG_TAIL d) slot.toNat).dmaKick d)

/-- The data of a job, whether its source read was good, and the state with what the read records: the host's bytes for
DIR 0. -/
def State.dmaData (s : State) (j : UtlJob) (host : List Byte) : List Byte × Bool × State :=
  if j.dir = 0 then (slice host 0 (j.u 0x18 4), true, s)
  else s.bufRead (j.dflag 1) (j.u 6 1) (j.u 8 8) (j.u 0x18 4)

/-- Put bytes at the destination of a job. -/
def State.dmaPut (s : State) (j : UtlJob) (d : List Byte) : State :=
  if d = [] then s
  else if j.dir = 1 then s.emit (.hostWrite (j.u 0x10 8) d)
  else s.bufWrite (j.dflag 2) (j.u 0x1C 1) (j.u 0x10 8) d

/-- DMA_JOB_DONE (spec/17 R415): the job in progress ends. `ok` tells that the host's side completed it, `data` are the bytes that
the host returned. A job ended by ACCESS or HOST has moved an unstated part of its bytes. -/
def execDmaJobDone (d : Fin 8) (ok : Bool) (data : List Byte) (s : State) : Res :=
  .next (match s.dmas.find? (fun j => decide (j.n = d.val)) with
    | none => s
    | some j =>
      let r := s.dmaData j data
      let s1 := r.2.2
      let dstBad := decide (j.dir ≠ 1) && j.dflag 2 && !s1.bufGranted true (j.u 0x10 8) (j.u 0x18 4) true
      let host := !ok && decide (j.dir ≠ 2)
      let st := if host then 2 else if !r.2.1 || dstBad then 1 else 0
      let s2 := if st = 0 then s1.dmaPut j r.1
        else if dstBad then s1.dmaPut j r.1
        else s1.drawn.dmaPut j (r.1.take (s1.free % (r.1.length + 1)))
      (s2.dmaEnd j st).dmaKick d)

/-- The job in progress is cut. -/
def State.dmaCut (s : State) (d : Nat) (log : Bool) : State :=
  match s.dmas.find? (fun j => decide (j.n = d)) with
  | none => s
  | some j =>
    let s1 := ({ s with dmas := s.dmas.filter (fun k => decide (k.n ≠ d)) } : State).set (R.DMA_EVT_CUT d) 1
    let r := s1.dmaData j (s1.drawn.freeBytes (j.u 0x18 4))
    let s2 := s1.drawn.drawn.dmaPut j (r.1.take (s1.free % (r.1.length + 1)))
    if log then s2.endJob (dmaJobOf j) 1 else { s2 with jobs := s2.jobs.erase (dmaJobOf j) }

/-- DMA_DISABLE (spec/17 R415). -/
def execDmaDisable (d : Fin 8) (s : State) : Res :=
  .next (s.hostToBead 15 (2 + d) fun s => (s.set (R.DMA_CFG_EN d) 0).dmaCut d true)

/-- UTL has drained for T (spec/02 R69): every job posted before T's frame start has ended. -/
def State.utlDrained (s : State) (t : Nat) : Bool :=
  s.dfls.isEmpty && s.dmas.isEmpty && (decide (t = 0) || (s.tagIssued t &&
    (List.range 2).all (fun n => !s.on (R.DFL_CFG_EN n) || decide (s.get (R.DFL_HEAD_SLOT n) =
      if s.get (I.DFL_LIM n) = 0 then s.get (R.DFL_TAIL_SLOT n) else s.get (I.DFL_LIM n) - 1)) &&
    (List.range 8).all (fun d => !s.on (R.DMA_CFG_EN d) || decide (s.get (R.DMA_CFG_HEAD d) =
      if s.get (I.DMA_LIM d) = 0 then s.get (R.DMA_CFG_TAIL d) else s.get (I.DMA_LIM d) - 1))))

end Sys2Proof.Machine
end

