-- ==== Sys2Proof/Machine/Mail.lean ====
section
/-!
DEFINITION. Control cores, the host port, mailboxes, doorbells, the services of every firmware, the fault history and the
carry log (spec/17).
-/

namespace Sys2Proof.Machine

/-! ### Agents and mailboxes (spec/17 R417 to R422) -/

/-- Lower and higher agent of mailbox pair `p` (spec/17 R417): 0 the host, 1 to 4 the cores, 5 SEC. -/
def mbAgents (p : Nat) : Nat × Nat :=
  if p < 8 then (0, 1 + p % 4)
  else [(1, 2), (1, 3), (1, 4), (2, 3), (2, 4), (3, 4), (1, 5), (2, 5)].getD (p - 8) (1, 5)

/-- Sender and receiver of mailbox `m`. -/
def mbSender (m : Nat) : Nat := if m % 2 = 0 then (mbAgents (m / 2)).1 else (mbAgents (m / 2)).2
def mbReceiver (m : Nat) : Nat := if m % 2 = 0 then (mbAgents (m / 2)).2 else (mbAgents (m / 2)).1

/-- BAR0 offset of a mailbox's block. -/
def mbBase (m : Nat) : Nat := 0x1000000 + 0x100 * m

/-- Both mailboxes of a pair are FULL and both senders have armed WAIT_ACK (spec/17 R422). -/
def State.mbBoth (s : State) (p : Nat) : Bool :=
  s.on (R.MB_STAT_FULL (2 * p)) && s.on (R.MB_STAT_FULL (2 * p + 1)) && s.on (R.MB_STAT_WAIT_ACK (2 * p)) &&
  s.on (R.MB_STAT_WAIT_ACK (2 * p + 1))

/-- CROSS sets in both mailboxes of a pair when that comes about. -/
def State.mbCrossing (s old : State) (p : Nat) : State :=
  if s.mbBoth p && !old.mbBoth p then
    ((s.set (R.MB_STAT_CROSS (2 * p)) 1).set (R.MB_STAT_CROSS (2 * p + 1)) 1).raise E.mbCross
  else s

/-- A write to DATA or GO of a FULL mailbox collides (spec/17 R420). -/
def State.mbCollision (s : State) (m : Nat) : State :=
  if s.on (R.MB_STAT_FULL m) then (s.set (R.MB_STAT_COLLIDE m) 1).raise E.mbCollide else s

/-- A data word is written. -/
def State.mbData (s : State) (m i v : Nat) : State :=
  ((s.mbCollision m).when (s.on (R.MB_STAT_FULL m)) (·.set (R.MB_STAT_DIRTY m) 1)).set (R.MB_DATA_D m i) v

/-- GO posts the message of `len` words (spec/17 R419). -/
def State.mbPost (s : State) (m len : Nat) : State :=
  let s1 := (((((s.mbCollision m).set (R.MB_CTRL_LEN m) len).set (R.MB_STAT_FULL m) 1).set (R.MB_STAT_SEQ m)
    (s.get (R.MB_STAT_SEQ m) + 1)).set (R.MB_EPOCH_TX_EPOCH m) (s.get (I.AGENT_EPOCH (mbSender m)))).set (R.MB_STAT_DIRTY m) 0
  ((s1.set (R.MB_STAT_LEN m) len).raiseIf (decide (m % 2 = 1 ∧ m < 16)) (E.mbPosted (m / 2))).mbCrossing s (m / 2)

/-- The message is taken: FULL and WAIT_ACK clear (spec/17 R419, R422). -/
def State.mbTaken (s : State) (m : Nat) : State :=
  ((s.set (R.MB_STAT_FULL m) 0).set (R.MB_STAT_WAIT_ACK m) 0).raiseIf (decide (m % 2 = 0 ∧ m < 16)) (E.mbTaken (m / 2))

/-- The word that a read of TAKE with FULL set returns. -/
def State.mbTakeWord (s : State) (m : Nat) : Nat :=
  2 ^ 31 + s.get (R.MB_STAT_DIRTY m) * 2 ^ 30 + s.get (R.MB_STAT_LEN m) * 2 ^ 16 + s.get (R.MB_STAT_SEQ m)

/-- An agent is reset (spec/17 R418, R421). -/
def State.agentReset (s : State) (a : Nat) : State :=
  let s1 := s.set (I.AGENT_EPOCH a) ((s.get (I.AGENT_EPOCH a) + 1) % 256)
  (List.range 32).foldl (fun (s : State) m =>
    if mbReceiver m = a then
      if s.on (R.MB_STAT_FULL m) then (s.set (R.MB_STAT_RX_RESET_SEEN m) 1).raise E.mbRxReset else s
    else if mbSender m = a ∧ ¬s.on (R.MB_STAT_FULL m) then
      ((List.range 16).foldl (fun (s : State) i => s.set (R.MB_DATA_D m i) 0) s).set (R.MB_CTRL_LEN m) 8
    else s) s1

/-- MB_DATA_WRITE (spec/17 R417, R420): an agent writes a data word; only the sender may. -/
def execMbDataWrite (agent : Fin 6) (m : Fin 32) (i : Fin 16) (v : BitVec 32) (s : State) : Res :=
  .next (if s.on I.DEV ∨ agent.val ≠ mbSender m then s else s.mbData m i v.toNat)

/-- A message has 8 to 16 words. -/
def mbLenOk (len : Nat) : Bool := decide (8 ≤ len ∧ len ≤ 16)

/-- MB_GO (spec/17 R419, R420): the sender writes CTRL with LEN and GO, and with ARM_WAIT where `arm` is set. -/
def execMbGo (agent : Fin 6) (m : Fin 32) (len : BitVec 5) (arm : Bool) (s : State) : Res :=
  .next (if s.on I.DEV ∨ agent.val ≠ mbSender m then s
    else if !mbLenOk len.toNat then s.wrRange 17 (mbBase m + 0x40)
    else
      let s1 := s.when arm (·.set (R.MB_STAT_WAIT_ACK m) 1)
      (s1.mbPost m len.toNat).mbCrossing s (m / 2))

/-- MB_ARM_WAIT (spec/17 R422): the sender writes CTRL with ARM_WAIT alone. -/
def execMbArmWait (agent : Fin 6) (m : Fin 32) (len : BitVec 5) (s : State) : Res :=
  .next (if s.on I.DEV ∨ agent.val ≠ mbSender m then s
    else if !mbLenOk len.toNat then s.wrRange 17 (mbBase m + 0x40)
    else ((s.set (R.MB_CTRL_LEN m) len.toNat).set (R.MB_STAT_WAIT_ACK m) 1).mbCrossing s (m / 2))

/-- MB_TAKE (spec/17 R419): an agent reads TAKE. With FULL set the receiver takes the message; any other read changes
nothing. The host is answered, with 0 where it is not the receiver or no message waits. -/
def execMbTake (agent : Fin 6) (m : Fin 32) (s : State) : Res :=
  .next (
    let mine := decide (agent.val = mbReceiver m ∧ ¬s.on I.DEV) && s.on (R.MB_STAT_FULL m)
    let s1 := if mine then s.mbTaken m else s
    if agent.val = 0 then s1.emit (.hostWord (if mine then s.mbTakeWord m else 0)) else s1)

/-! ### Doorbells (spec/17 R424) -/

/-- A host doorbell is set. -/
def State.hostBell (s : State) : Bool := s.on (R.DB_STAT_B 0 0) || s.on (R.DB_STAT_B 0 1)

/-- Bits of agent `a`'s doorbells are set. -/
def State.ring (s : State) (a h v : Nat) : State :=
  let s1 := s.set (R.DB_STAT_B a h) (s.get (R.DB_STAT_B a h) ||| v)
  s1.raiseIf (decide (a = 0) && s1.hostBell) E.doorbell

/-- DB_SET (spec/17 R424): an agent writes 1s to SET_LO or SET_HI; the host rings the cores alone. -/
def execDbSet (agent : Fin 6) (a : Fin 6) (hi : Bool) (v : BitVec 32) (s : State) : Res :=
  .next (if s.on I.DEV ∨ (agent.val = 0 ∧ ¬(1 ≤ a.val ∧ a.val ≤ 4)) then s else s.ring a (ofBool hi) v.toNat)

/-- DB_CLEAR (spec/17 R424): only agent `a` clears its bits. -/
def execDbClear (agent : Fin 6) (a : Fin 6) (hi : Bool) (v : BitVec 32) (s : State) : Res :=
  .next (if s.on I.DEV ∨ agent ≠ a then s else
    let b := s.get (R.DB_STAT_B a (ofBool hi))
    s.set (R.DB_STAT_B a (ofBool hi)) (b - (b &&& v.toNat)))

/-! ### Control cores and the host port (spec/17 R409, R413, R426) -/

/-- CORE_WATCHDOG (spec/17 R409): a core that missed check-in for 50 ms is reset and restarts. -/
def execCoreWatchdog (k : Fin 4) (s : State) : Res :=
  .next ((s.agentReset (1 + k)).raise (E.coreRestart k))

/-- HEP is reset (spec/17 R413): its registers but the sticky ones, its MSI-X table and the pending bits; agent 0. -/
def State.hepReset (s : State) : State :=
  let s1 := ([R.BAR4_GRAN, R.HEP_STAT_RETIRED_CNT, I.HEP_LINK, I.HEP_MSIX] ++
    (List.range 64).flatMap (fun v => (List.range 4).map (I.MSIX_TAB v))).foldl (fun (s : State) f => s.set f f.rst) s
  ({ s1 with pba := [] } : State).agentReset 0

/-- HEP_RESET. -/
def execHepReset (s : State) : Res := .next s.hepReset

/-- MSIX_ENABLE (spec/17 R426): every asserted vector sends its message, or sets its pending bit. -/
def execMsixEnable (s : State) : Res :=
  .next ((List.range 64).foldl (fun (s : State) v => if s.vecAsserted v then s.msix v else s)
    ((s.set I.HEP_LINK 1).set I.HEP_MSIX 1))

/-! ### Services (spec/17 R423) -/

/-- The codes of the services: the general ones, security (spec/18 R457) and calibration (spec/20 R479). -/
def services : List Nat := [1, 2, 3] ++ (List.range 13).map (0x10 + ·) ++ [0x20, 0x21, 0x22, 0x23, 0x24]

/-- Words of the message in mailbox `m`. -/
def State.mbWords (s : State) (m : Nat) : List Nat := (List.range 16).map (fun i => s.get (R.MB_DATA_D m i))

/-- Firmware posts a reply on mailbox 2p + 1: eight words, or more where it needs them. -/
def State.reply (s : State) (p code result token : Nat) (ws : List Nat) : State :=
  let l := (code * 2 ^ 24 + result * 2 ^ 16 + token) :: ws
  let n := max 8 l.length
  ((List.range n).foldl (fun (s : State) i => s.mbData (2 * p + 1) i (l.getD i 0)) s).mbPost (2 * p + 1) n

/-- RESULT codes. -/
def rOk : Nat := 0
def rBadService : Nat := 1
def rBadArg : Nat := 2
def rBusy : Nat := 3

/-- SEC works on a request of pair `p` that is answered when the work ends (spec/18 R457); the pair's next request waits. -/
def State.secHolds (s : State) (p : Nat) : Bool :=
  match s.sec.op with
  | some o => decide (o.pair = some p)
  | none => false

/-- A firmware core serves the request that waits in mailbox 2p, if it is one of `code`: `f` answers the result, the reply's words
1 to 7 and the state. A request of a service that does not exist is answered BAD_SERVICE; a message with DIRTY is
lost (spec/17 R420); a request waits while the reply's mailbox is FULL. -/
def State.serve (s : State) (p code : Nat) (f : List Nat → State → Nat × List Nat × State) : State :=
  let m := 2 * p
  if !s.on (I.CORE_RUN (p % 4)) || !s.on (R.MB_STAT_FULL m) || s.on (R.MB_STAT_FULL (m + 1)) || s.secHolds p then s
  else
    let ws := s.mbWords m
    let w0 := ws.getD 0 0
    let sv := w0 / 2 ^ 24
    if s.on (R.MB_STAT_DIRTY m) then s.mbTaken m
    else if sv = code then
      let r := f ws (s.mbTaken m)
      r.2.2.reply p code r.1 (w0 % 2 ^ 16) r.2.1
    else if services.contains sv then s
    else (s.mbTaken m).reply p sv rBadService (w0 % 2 ^ 16) []

/-- ECHO (spec/17 R423). -/
def execEcho (p : Fin 8) (s : State) : Res := .next (s.serve p 1 (fun ws s => (rOk, (ws.drop 1).take 7, s)))

/-- Service NET_TX: a frame from the Tray leaves on the general queue of its MAC, if its link is up. -/
def State.netTx (ws : List Nat) (s : State) : Nat × List Nat × State :=
  let m := ws.getD 1 0
  let n := ws.getD 3 0
  if 3 < m ∨ n < 60 ∨ s.get (R.MAC_CFG_MAX_FRAME m) < n + 4 ∨ trayBytes < ws.getD 2 0 + n then (rBadArg, [], s)
  else
    let r := s.trayReadAs 0 (rodPort 0) (ws.getD 2 0) n
    if r.2.1 ≠ 0 then (rBadArg, [], r.2.2)
    else (rOk, [], r.2.2.when (!s.isolated 12 && s.on (R.MAC_STAT_LINK m)) (·.emit (.ethFrame m r.1)))

/-- NET_TX (spec/17 R423, spec/13 R321). -/
def execNetTx (p : Fin 8) (s : State) : Res := .next (s.serve p 2 State.netTx)

/-- Service NET_RX: a ring in host-visible granules for the frames that match; it takes the place of an earlier ring for
the same frames. -/
def State.netRx (ws : List Nat) (s : State) : Nat × List Nat × State :=
  let m := ws.getD 1 0
  let w := ws.getD 2 0
  let g := ws.getD 3 0
  let n := ws.getD 4 0
  if 3 < m ∨ n = 0 ∨ trayBytes < g * granBytes + 2048 * n ∨ (65535 < w ∧ w < 2 ^ 31) ∨ 2 ^ 31 + 65535 < w ∨
      !(granSpan (g * granBytes) (2048 * n)).all s.hostVisible then (rBadArg, [], s)
  else (rOk, [], { s with rings := s.rings.filter (fun r => decide (¬(r.mac = m ∧ r.what = w))) ++ [⟨m, w, g, n, 0⟩] })

/-- NET_RX (spec/17 R423). -/
def execNetRx (p : Fin 8) (s : State) : Res := .next (s.serve p 3 State.netRx)

/-! ### The keep store and the fault history (spec/17 R428, spec/20 R471) -/

/-- Write and read bytes of the keep store. -/
def State.keepPut (s : State) (a : Nat) (d : List Byte) : State := { s with keep := wrBytes s.keep a d }
def State.keepRead (s : State) (a n : Nat) : List Byte := rdBytes s.keep a n

/-- First byte of the FAULT area. -/
def keepFault : Nat := 0x3000

/-- FAULT_HISTORY_WRITE (spec/17 R428): the oldest transition that waits enters the history. -/
def execFaultHistoryWrite (s : State) : Res :=
  .next (match s.fhPend with
    | [] => s
    | e :: rest =>
      let h := s.get R.FH_HEAD_NEXT
      ((({ s with fhPend := rest } : State).keepPut (keepFault + 16 * h)
        (leBytes 2 e.source ++ zeros 2 ++ leBytes 4 (s.get R.POWER_ON_COUNT) ++ leBytes 4 (timeSec e.time) ++
          leBytes 4 (timeNs e.time))).set R.FH_HEAD_NEXT (h + 1)))

/-! ### The carry log (spec/17 R430 to R433) -/

/-- The carry-log region. -/
def Stringing.clogRegion (g : Stringing) : Option DramRec := g.drams.find? (fun r => decide (r.kind = 1 ∧ r.size ≠ 0))

/-- A record's 32 bytes (spec/17 R431). -/
def ClogRec.bytes (r : ClogRec) (seq : Nat) : List Byte :=
  let b := leBytes 1 r.rod ++ leBytes 1 r.bead ++ leBytes 1 r.kind ++ leBytes 1 r.flags ++ leBytes 4 r.jobId ++
    leBytes 4 r.tag ++ leBytes 4 seq ++ timeBytes r.time ++ leBytes 1 r.epoch ++ zeros 1
  b ++ leBytes 2 (crc32c b)

/-- CTL.EVT numbers a record and writes it into the ring; SEQ skips 0. -/
def State.clogWrite (s : State) (r : ClogRec) : State :=
  let q := s.get R.CLOG_SEQ_NEXT_SEQ
  let s1 := s.set R.CLOG_SEQ_NEXT_SEQ (if q + 1 = 2 ^ 32 then 1 else q + 1)
  match s.strg.clogRegion with
  | some g => s1.dramPut g.region ((q - 1) % max 1 (g.size / 32) * 32) (r.bytes q)
  | none => s1

/-- Once its queue has room, a rod that lost records sends a LOST marker with their count. -/
def State.clogLostMark (s : State) (rod : Nat) : State :=
  let n := s.get (I.CLOG_DROPPED rod)
  if n = 0 then s
  else ({ s with clogQ := s.clogQ ++ [⟨rod, 0, 15, 0, n, 0, s.now, s.epoch rod⟩] } : State).set (I.CLOG_DROPPED rod) 0

/-- CLOG_RECORD (spec/17 R430): the oldest record of a rod arrives at CTL.EVT. -/
def execClogRecord (rod : Fin 16) (s : State) : Res :=
  .next (match s.clogQ.find? (fun r => decide (r.rod = rod.val)) with
    | none => s
    | some r => (({ s with clogQ := s.clogQ.erase r } : State).clogWrite r).clogLostMark rod)

end Sys2Proof.Machine
end

