-- ==== Sys2Proof/Machine/Cal.lean ====
section
/-!
DEFINITION. The calibration store, the trims and the calibration routines (spec/20 R470 to R481).
-/

namespace Sys2Proof.Machine

/-! ### Trims (R474 to R476) -/

/-- Lane groups with a PLL of their own: rod and group (spec/03 R73). -/
def laneGroups : List (Nat × Nat) :=
  [(0, 0), (1, 0), (1, 1)] ++ (List.range 4).map (fun g => (10, g)) ++ (List.range 8).map (fun g => (11, g)) ++
  (List.range 4).map (fun g => (12, g))

/-- Lowest lane of a group. -/
def lowLane (rod g : Nat) : Nat := (groupLanes rod g).headD 0

/-- Lanes of a rod that receive, and lanes that transmit (spec/03 R72). -/
def rxLane (rod l : Nat) : Bool := isLane rod l && !txOnly rod l
def txLane (rod l : Nat) : Bool := isLane rod l && decide (rod ≠ 1)

/-- Does a trim exist? -/
def trimExists (kind inst : Nat) : Bool :=
  let rod := inst / 256
  let l := inst % 256
  if kind ≤ 1 then decide (inst = 0)
  else if kind = 2 then decide (inst < 24)
  else if kind = 3 ∨ kind = 5 then rxLane rod l
  else if kind = 4 then txLane rod l
  else if kind = 6 then laneGroups.any (fun e => decide (e.1 = rod ∧ lowLane e.1 e.2 = l))
  else false

/-- Width of a kind's codes, and whether they are signed. -/
def trimWidth (kind : Nat) : Nat × Bool :=
  if kind ≤ 1 then (8, false) else if kind = 2 then (7, true) else if kind ≤ 4 then (5, false) else if kind = 5 then (6, true)
  else (4, false)

/-- Default code of a kind. -/
def trimDefault (kind : Nat) : Int :=
  if kind ≤ 1 then 0x80 else if kind = 3 ∨ kind = 4 then 0x10 else if kind = 6 then 8 else 0

/-- A code lies in its kind's width. -/
def trimCodeOk (kind : Nat) (c : Int) : Bool :=
  let w := (trimWidth kind).1
  if (trimWidth kind).2 then decide (-(2 ^ (w - 1) : Nat) ≤ c ∧ c < (2 ^ (w - 1) : Nat)) else decide (0 ≤ c ∧ c < (2 ^ w : Nat))

/-- The code that 16 bits spell: sign-extended for a signed kind. -/
def trimCode (kind v : Nat) : Int := if (trimWidth kind).2 then signed 16 v else (v % 2 ^ 16 : Nat)

/-- A trim; one that has no entry is at its default. -/
def State.trim (s : State) (kind inst : Nat) : Trim :=
  (s.trims.find? (fun t => decide (t.kind = kind ∧ t.inst = inst))).getD ⟨kind, inst, trimDefault kind, trimDefault kind, 0⟩

/-- Order of trims by kind and instance. -/
def trimBefore (a b : Trim) : Bool := decide (a.kind < b.kind ∨ (a.kind = b.kind ∧ a.inst < b.inst))

/-- Put a trim in its place. -/
def trimPut : List Trim → Trim → List Trim
  | [], t => [t]
  | e :: l, t => if trimBefore t e then t :: e :: l else if e.kind = t.kind ∧ e.inst = t.inst then t :: l else e :: trimPut l t

/-- Is the trim walked now (R474)? -/
def State.trimWalked (s : State) (kind inst : Nat) : Bool :=
  let rod := inst / 256
  let l := inst % 256
  if kind ≤ 1 then true
  else if kind = 2 then false
  else if kind ≤ 5 then decide (s.lane rod l ≠ lnOff)
  else laneGroups.any (fun e => decide (e.1 = rod ∧ lowLane e.1 e.2 = l) && (groupLanes e.1 e.2).any (fun k =>
    decide (3 ≤ s.lane rod k ∧ s.lane rod k ≤ 8)))

/-- A walk is in progress. -/
def State.walking (s : State) : Bool := s.trims.any (fun t => decide (t.code ≠ t.target))

/-- A new target: walked, or set at once (R475, R476). -/
def State.trimTo (s : State) (kind inst : Nat) (target : Int) (src : Nat) : State :=
  let t := s.trim kind inst
  let code := if s.trimWalked kind inst then t.code else target
  { s with trims := trimPut s.trims ⟨kind, inst, code, target, src⟩ }

/-- The trims of a rod take their targets as it powers up (R476). -/
def State.trimRestore (s : State) (rod : Nat) : State :=
  { s with trims := s.trims.map (fun t => if 3 ≤ t.kind ∧ t.inst / 256 = rod then { t with code := t.target } else t) }

/-- One code towards the target. -/
def stepTo (c t : Int) : Int := if c < t then c + 1 else if t < c then c - 1 else c

/-- TRIM_WALK_STEP (R475): every walking trim moves one code; one that is no longer walked takes its target. The end of the
last walk lets an XO round settle (R477). -/
def execTrimWalkStep (s : State) : Res :=
  .next (if s.isolated 15 || !s.walking then s
    else
      let s1 : State := { s with trims := s.trims.map (fun t =>
        { t with code := if s.trimWalked t.kind t.inst then stepTo t.code t.target else t.target }) }
      if s1.walking then s1
      else (({ s1 with cal := s1.cal.map (fun r => if r.phase = 1 then { r with phase := 2 } else r) } : State)).raise E.calWalkDone)

/-! ### Routines (R477, R478) -/

/-- The trims that a routine sets. -/
def calTrims (routine arg : Nat) : List (Nat × Nat) :=
  let rod := arg / 256
  if routine = 1 then [(0, 0)]
  else if routine = 2 then [(1, 0)]
  else if routine = 3 then (List.range 24).map (fun i => (2, i))
  else
    match laneGroups.find? (fun e => decide (e.1 = rod ∧ lowLane e.1 e.2 = arg % 256)) with
    | none => []
    | some e =>
      if routine = 5 then [(6, arg)]
      else (groupLanes e.1 e.2).flatMap (fun l =>
        ([3, 4, 5].filter (fun k => trimExists k (256 * rod + l))).map (fun k => (k, 256 * rod + l)))

/-- The lane group of LANE and PLL exists and every lane of it is OFF. -/
def State.calGroupOff (s : State) (arg : Nat) : Bool :=
  laneGroups.any (fun e => decide (e.1 = arg / 256 ∧ lowLane e.1 e.2 = arg % 256) &&
    (groupLanes e.1 e.2).all (fun l => decide (s.lane e.1 l = lnOff)))

/-- A routine ends: a result other than OK gives every trim that it sets the target it had at GO. -/
def State.calEnd (s : State) (result : Nat) : State :=
  match s.cal with
  | none => s
  | some r =>
    let s1 : State := { s with cal := none }
    let s2 := if result = 0 then s1 else r.old.foldl (fun (s : State) e => s.trimTo e.1 e.2.1 e.2.2.1 e.2.2.2) s1
    let s3 := s2.sets [(R.CAL_STAT_STATE, if result = 0 then 2 else 3), (R.CAL_STAT_RESULT, result)]
    if result = 0 then s3.raise E.calDone
    else
      let s4 := (s3.set R.CAL_EVT_ABANDON 1).raise E.calAbandon
      if result = 1 then
        (((s4.when (!s4.on R.CAL_EVT_CAL_TIMEOUT) (·.set R.CAL_EVT_ROUTINE r.routine)).set R.CAL_EVT_CAL_TIMEOUT 1).inc
          R.CAL_EVT_TO_CNT).raise E.calTimeout
      else s4

/-- GO: a second one is ignored and sets BUSY; a precondition that does not hold ends the routine at once. -/
def State.calGo (s : State) (routine arg : Nat) (pre : State → Bool) : State :=
  s.hostToBead 15 10 fun s =>
    if s.cal.isSome then s.set R.CAL_EVT_BUSY 1
    else
      let s1 := s.sets [(R.CAL_STAT_STATE, 1), (R.CAL_STAT_ROUTINE, routine), (R.CAL_STAT_RESULT, 0)]
      let old := (calTrims routine arg).map (fun e => let t := s.trim e.1 e.2; (e.1, e.2, t.target, t.src))
      if pre s then { s1 with cal := some ⟨routine, arg, old, 0⟩ }
      else ({ s1 with cal := some ⟨routine, arg, [], 0⟩ } : State).calEnd 2

/-- CAL_BGR (R477): `vref` tells that 1.200 V is applied to VREF_CAL. -/
def execCalBgr (vref : Bool) (s : State) : Res := .next (s.calGo 1 0 (fun _ => vref))

/-- CAL_XO (R477): PTP must be LOCKED. -/
def execCalXo (s : State) : Res := .next (s.calGo 2 0 (fun s => decide (s.get R.PTP_STAT_STATE = 2)))

/-- CAL_TS (R477): the power state must be HOLD. -/
def execCalTs (arg : BitVec 16) (s : State) : Res :=
  .next (s.calGo 3 arg.toNat (fun s => decide (s.get R.PWR_STAT_STATE = 1)))

/-- CAL_LANE (R477). -/
def execCalLane (arg : BitVec 16) (s : State) : Res := .next (s.calGo 4 arg.toNat (·.calGroupOff arg.toNat))

/-- CAL_PLL (R477). -/
def execCalPll (arg : BitVec 16) (s : State) : Res := .next (s.calGo 5 arg.toNat (·.calGroupOff arg.toNat))

/-- CAL_ABORT (R478). -/
def execCalAbort (s : State) : Res := .next (s.hostToBead 15 10 (·.calEnd 5))

/-- The target of a trim moves; outside the width the routine ends with RANGE. -/
def State.calMove (s : State) (kind inst : Nat) (c : Int) : State :=
  if s.cal.isNone then s else if trimCodeOk kind c then s.trimTo kind inst c 1 else s.calEnd 6

/-- A quotient rounded to the nearest whole number, halves away from 0. -/
def roundDiv (n : Int) (d : Nat) : Int :=
  let q : Nat := (2 * n.natAbs + d) / (2 * d)
  if n < 0 then -(q : Int) else (q : Int)

/-- XO_ROUND (R477): in a round, `mean` is the mean of ADJ over 2 s, in units of 2^-32 (spec/13 R323). Within 0.5 ppm the
routine ends; otherwise the target moves by ADJ in ppm over 0.4. After the settling the next round begins. -/
def execXoRound (mean : BitVec 32) (s : State) : Res :=
  .next (match s.cal with
    | some r =>
      if s.isolated 15 ∨ r.routine ≠ 2 then s
      else if r.phase = 2 then { s with cal := some { r with phase := 0 } }
      else if r.phase = 1 then s
      else
        let m := mean.toInt
        if m.natAbs * 2000000 < 2 ^ 32 then s.calEnd 0
        else
          let s1 := s.calMove 1 0 ((s.trim 1 0).target + roundDiv (m * 2500000) (2 ^ 32))
          { s1 with cal := s1.cal.map (fun r => { r with phase := if s1.walking then 1 else 2 }) }
    | none => s)

/-- CAL_CONVERGED (R477, R478): the codes that the routine found, as kind, instance and code, become targets; a code that the
search needed outside its trim's range ends the routine with RANGE. -/
def execCalConverged (codes : List (Fin 7 × BitVec 16 × BitVec 16)) (s : State) : Res :=
  .next (match s.cal with
    | some r =>
      if s.isolated 15 then s
      else
        let mine := codes.filter (fun c => (calTrims r.routine r.arg).contains (c.1.val, c.2.1.toNat))
        (mine.foldl (fun (s : State) c => s.calMove c.1 c.2.1.toNat (trimCode c.1 c.2.2.toNat)) s).calEnd 0
    | none => s)

/-- CAL_ROUTINE_TIMEOUT (R478). -/
def execCalRoutineTimeout (s : State) : Res := .next (if s.isolated 15 then s else s.calEnd 1)

/-- CAL_PRECOND_LOST (R478). -/
def execCalPrecondLost (s : State) : Res := .next (if s.isolated 15 then s else s.calEnd 2)

/-- A reset, restringing or power-down of a rod ends a routine that sets a trim of it (R478). -/
def State.calRod (s : State) (rod : Nat) : State :=
  match s.cal with
  | some r => if rod = 15 ∨ (r.routine = 3) ∨ ((r.routine = 4 ∨ r.routine = 5) ∧ r.arg / 256 = rod) then s.calEnd 4 else s
  | none => s

/-- The host writes a target that the routine sets (R478). An import meets no routine: it is BUSY while one runs (R479). -/
def State.calPreempt (s : State) (l : List (Nat × Nat)) : State :=
  match s.cal with
  | some r => if (calTrims r.routine r.arg).any (fun e => l.contains e) then s.calEnd 3 else s
  | none => s

/-- TRIM_TARGET_WRITE (R475): TRIM_VAL.TARGET of the selected trim; a code outside the trim's width is out of range. -/
def execTrimTargetWrite (v : BitVec 16) (s : State) : Res :=
  .next (s.hostToBead 15 10 fun s =>
    let k := s.get R.TRIM_SEL_KIND
    let i := s.get R.TRIM_SEL_INSTANCE
    let c := trimCode k v.toNat
    if !trimExists k i || !trimCodeOk k c then s.wrRange 15 0xF04008
    else (s.calPreempt [(k, i)]).trimTo k i c 2)

/-! ### The calibration set (R472, R473) -/

/-- First byte of a copy: A is 0, B is 1. -/
def calBase (c : Nat) : Nat := 0x4000 + 0x20000 * c

/-- Bytes of a set by the COUNT of its header. -/
def calLen (l : List Byte) : Nat := 64 + 8 * min (fieldLE l 6 2) 16376

/-- The set in a copy. -/
def State.calCopy (s : State) (c : Nat) : List Byte := s.keepRead (calBase c) (calLen (s.keepRead (calBase c) 64))

/-- MAGIC, FORMAT and CRC of a set. -/
def calHeadOk (l : List Byte) : Bool :=
  decide (fieldLE l 0 4 = 0x4C414356 ∧ fieldLE l 4 2 = 1 ∧ fieldLE l 6 2 ≤ 16376 ∧
    fieldLE l 0x3C 4 = crc32c (slice l 0 0x3C ++ l.drop 64))

/-- A copy is valid. -/
def State.calValid (s : State) (c : Nat) : Bool := calHeadOk (s.calCopy c) && decide (fieldLE (s.calCopy c) 8 8 = s.fuses.serial)

/-- The entries of a set as trims at their codes. -/
def calEntries (l : List Byte) : List Trim :=
  (List.range (fieldLE l 6 2)).map (fun i =>
    let a := 64 + 8 * i
    let k := fieldLE l a 1
    let c := trimCode k (fieldLE l (a + 4) 2)
    ⟨k, fieldLE l (a + 2) 2, c, c, fieldLE l (a + 6) 1⟩)

/-- The boot uses the valid copy with the higher GEN and sets every trim at once (R473, R476). -/
def State.calBoot (s : State) : State :=
  let gen (c : Nat) := fieldLE (s.calCopy c) 0x10 4
  let use := if s.calValid 0 ∧ (¬s.calValid 1 ∨ gen 1 ≤ gen 0) then some 0 else if s.calValid 1 then some 1 else none
  match use with
  | some c => ({ s with trims := calEntries (s.calCopy c) } : State).sets [(R.KEEP_STAT_COPY, c), (R.KEEP_GEN_GEN, gen c)]
  | none => (({ s with trims := [] } : State).set R.KEEP_STAT_CAL_BAD 1).raise E.keepCalBad

/-- A set with its header. -/
def State.calBytes (s : State) (gen : Nat) (l : List Trim) : List Byte :=
  let head := leBytes 4 0x4C414356 ++ leBytes 2 1 ++ leBytes 2 l.length ++ leBytes 8 s.fuses.serial ++ leBytes 4 gen ++
    timeBytes s.now ++ zeros 28
  let body := l.flatMap (fun t => leBytes 1 t.kind ++ zeros 1 ++ leBytes 2 t.inst ++ leBytes 2 (unsigned 16 t.target) ++
    leBytes 1 t.src ++ zeros 1)
  head ++ leBytes 4 (crc32c (head ++ body)) ++ body

/-- A save (R473): the copy not in use is written and, where its read-back agrees, comes into use. -/
def State.calSave (s : State) (l : List Trim) (readBack : Bool) : Nat × State :=
  let c := 1 - s.get R.KEEP_STAT_COPY
  let gen := s.get R.KEEP_GEN_GEN + 1
  let s1 := ({ s with keep := clearBytes s.keep (calBase c) (calBase c + 0x20000) } : State).keepPut (calBase c) (s.calBytes gen l)
  if readBack then (0, (s1.sets [(R.KEEP_STAT_COPY, c), (R.KEEP_GEN_GEN, gen)]).raise E.keepSaved)
  else (0x43, (s1.set R.KEEP_STAT_WRITE_ERR 1).raise E.keepWriteErr)

/-! ### Services (R479, R480) -/

/-- A calibration service while a routine runs is BUSY. -/
def State.calServe (s : State) (p code : Nat) (f : List Nat → State → Nat × List Nat × State) : State :=
  s.serve p code (fun ws s => if s.cal.isSome then (rBusy, [], s) else f ws s)

/-- A run of Tray bytes exists and the stringing grants CTL the access. -/
def State.trayAsk (s : State) (a n : Nat) (wr : Bool) : Bool :=
  decide (a + n ≤ trayBytes) && (granSpan a n).all (fun g => s.granted 0 g wr)

/-- CAL_EXPORT. -/
def execCalExport (p : Fin 8) (s : State) : Res :=
  .next (s.calServe p 0x20 (fun ws s =>
    let l := s.calCopy (s.get R.KEEP_STAT_COPY)
    let a := ws.getD 1 0
    if ws.getD 2 0 < l.length ∨ !s.trayAsk a l.length true then (rBadArg, [], s)
    else (rOk, [0, l.length], s.trayPut 0 a l)))

/-- A set may be imported: the code of R480, or 0. -/
def State.calImportCode (s : State) (l : List Byte) : Nat :=
  let es := calEntries l
  let sorted := (es.zip (es.drop 1)).all (fun e => trimBefore e.1 e.2)
  let spare := (slice l 0x20 28).all (fun b => decide (b = 0)) && (List.range es.length).all (fun i =>
    decide (fieldLE l (64 + 8 * i + 1) 1 = 0 ∧ fieldLE l (64 + 8 * i + 7) 1 = 0))
  if l.length < 64 || !calHeadOk l || decide (fieldLE l 6 2 = 0) || decide (l.length ≠ 64 + 8 * fieldLE l 6 2) || !sorted || !spare
  then 0x40
  else if fieldLE l 8 8 ≠ s.fuses.serial then 0x41
  else if !es.all (fun t => trimExists t.kind t.inst && trimCodeOk t.kind t.code) then 0x42
  else 0

/-- CAL_IMPORT: the set is checked and saved, and its codes become targets. -/
def execCalImport (p : Fin 8) (readBack : Bool) (s : State) : Res :=
  .next (s.calServe p 0x21 (fun ws s =>
    let a := ws.getD 1 0
    let n := ws.getD 2 0
    if !s.trayAsk a n false then (rBadArg, [], s)
    else
      let r := s.trayReadAs 0 (rodPort 0) a n
      let l := r.1
      let s0 := r.2.2
      let code := if r.2.1 ≠ 0 then 0x40 else s0.calImportCode l
      if code ≠ 0 then (rOk, [code], s0.raise E.keepImportRefused)
      else
        let es := calEntries l
        let sv := s0.calSave es readBack
        if sv.1 ≠ 0 then (rOk, [sv.1], sv.2.raise E.keepImportRefused)
        else
          let s1 := sv.2
          let gone := s1.trims.filter (fun t => !es.any (fun e => decide (e.kind = t.kind ∧ e.inst = t.inst)))
          let s2 := gone.foldl (fun (s : State) t => s.trimTo t.kind t.inst (trimDefault t.kind) 0) s1
          (rOk, [0], es.foldl (fun (s : State) t => s.trimTo t.kind t.inst t.target t.src) s2)))

/-- CAL_SAVE: the current targets as a new set. -/
def execCalSave (p : Fin 8) (readBack : Bool) (s : State) : Res :=
  .next (s.calServe p 0x22 (fun _ s => let r := s.calSave s.trims readBack; (rOk, [r.1], r.2)))

/-- First byte and length of the USER area (R471). -/
def userBase : Nat := 0x44000
def userBytes : Nat := 3824 * 1024

/-- USER_READ. -/
def execUserRead (p : Fin 8) (s : State) : Res :=
  .next (s.calServe p 0x23 (fun ws s =>
    let a := ws.getD 1 0
    let o := ws.getD 2 0
    let n := ws.getD 3 0
    if userBytes < o + n then (rOk, [0x44], s)
    else if !s.trayAsk a n true then (rBadArg, [], s)
    else (rOk, [0], s.trayPut 0 a (s.keepRead (userBase + o) n))))

/-- USER_WRITE. -/
def execUserWrite (p : Fin 8) (readBack : Bool) (s : State) : Res :=
  .next (s.calServe p 0x24 (fun ws s =>
    let a := ws.getD 1 0
    let o := ws.getD 2 0
    let n := ws.getD 3 0
    if userBytes < o + n then (rOk, [0x44], s)
    else if !s.trayAsk a n false then (rBadArg, [], s)
    else
      let r := s.trayReadAs 0 (rodPort 0) a n
      if r.2.1 ≠ 0 then (rBadArg, [], r.2.2)
      else
        let s1 := r.2.2.keepPut (userBase + o) r.1
        if readBack then (rOk, [0], s1) else (rOk, [0x43], (s1.set R.KEEP_STAT_WRITE_ERR 1).raise E.keepWriteErr)))

end Sys2Proof.Machine
end

