-- ==== Sys2Proof/Machine/Block.lean ====
section
/-!
DEFINITION. The 66-bit blocks of the sensor link (spec/04 R99 to R103): sync headers, the self-synchronous scrambler, block types,
BIP-8, and the packet that a run of blocks makes.
-/

namespace Sys2Proof.Machine

/-! ### Scrambling (R99) -/

/-- The payload under the scrambling of x^58 + x^39 + 1: each bit is the XOR of the line bit with those 39 and 58 bits before it
on the lane. -/
def descramble (prev : BitVec 58) (line : BitVec 64) : BitVec 64 :=
  let x : BitVec 122 := line ++ prev
  (x >>> 58 ^^^ x >>> 19 ^^^ x).setWidth 64

/-- The line bits of a payload: what a sensor's scrambler sends after the line bits `prev`. -/
def scramble (prev : BitVec 58) (payload : BitVec 64) : BitVec 64 :=
  let e := payload ^^^ (prev >>> 19).setWidth 64 ^^^ prev.setWidth 64
  e ^^^ e <<< 39 ^^^ e <<< 58

/-- The payload bytes of a block, bit 0 of byte 0 first. -/
def blockBytes (b : Block66) : List Byte := leBytes 8 (descramble b.prev b.line).toNat

/-! ### Block types (R100) -/

/-- What a block is: an invalid header or control type, data, or a control block with its eight bytes. -/
inductive Blk where
  | bad
  | data (w : List Byte)
  | idle
  | ts (b : List Byte)
  | am (b : List Byte)
  | eidle
  | sop (b : List Byte)
  | eop (b : List Byte)
  deriving DecidableEq, Repr

/-- Byte `i` of a block. -/
def byteAt (b : List Byte) (i : Nat) : Nat := (b.getD i 0).toNat

/-- A header is valid: 0b01 for data, 0b10 for control (R99). -/
def headerOk (h : BitVec 2) : Bool := h = 1 || h = 2

/-- A block read by its header and, for a control block, its type. Reserved bytes are not checked (notes/assumptions/407.md). -/
def blockOf (b : Block66) : Blk :=
  let d := blockBytes b
  if b.hdr = 1 then .data d
  else if b.hdr = 2 then
    match byteAt d 0 with
    | 0x1E => .idle
    | 0x2D => .ts d
    | 0x4B => .am d
    | 0x55 => .eidle
    | 0x78 => .sop d
    | 0xE1 => .eop d
    | _ => .bad
  else .bad

/-- The check byte of a control block: CRC-8 over its bytes 1 to 6 stands in byte 7 (R101). -/
def checkOk (d : List Byte) : Bool := crc8 (slice d 1 6) == byteAt d 7

/-- BIP-8 of the line words of a lane (R101): bit b is the XOR of bit b of every payload byte before descrambling. -/
def bip8 (l : List (BitVec 64)) : Nat :=
  let fold8 (v : Nat) : Nat := (leBytes 8 v).foldl (fun a b => Nat.xor a b.toNat) 0
  fold8 (l.foldl (fun a w => Nat.xor a w.toNat) 0)

/-! ### Packets (R103, R105) -/

/-- A packet as its blocks make it: PTYPE, ARG and LEN of the SOP block, whether its HCRC is good, the payload that came and how
it ended: `none` where all is well, else what lost it. -/
inductive PktErr where
  | hcrc
  | pcrc
  | len
  deriving DecidableEq, Repr

structure Pkt where
  ptype : Nat
  len : Nat
  arg : Nat
  payload : List Byte
  err : Option PktErr
  deriving DecidableEq, Repr

/-- The blocks of a packet after its SOP block: `n` data blocks still to come, `acc` the words that came, last first. An invalid
header or type loses the packet; another control block than an EOP after exactly LEN data blocks breaks its length. An EOP of another
PTYPE fails as its check would (notes/assumptions/407.md). -/
def pktBody (head : List Byte) (ptype : Nat) : Nat → List (List Byte) → List Blk → Option PktErr × List Byte
  | _, acc, [] => (some .len, acc.reverse.flatten)
  | n, acc, .data w :: t =>
    match n with
    | 0 => (some .len, acc.reverse.flatten)
    | m + 1 => pktBody head ptype m (w :: acc) t
  | n, acc, .eop b :: _ =>
    let p := acc.reverse.flatten
    (if n ≠ 0 then some .len
     else if byteAt b 1 ≠ ptype ∨ crc32c (head ++ p) ≠ fieldLE b 4 4 then some .pcrc else none, p)
  | _, acc, .bad :: _ => (some .pcrc, acc.reverse.flatten)
  | _, acc, _ :: _ => (some .len, acc.reverse.flatten)

/-- The packet that an SOP block and the blocks after it make. -/
def pktOf (d : List Byte) (rest : List Blk) : Pkt :=
  let head := slice d 1 6
  let ptype := byteAt d 1
  let n := fieldLE d 2 2
  if !checkOk d then ⟨ptype, n, fieldLE d 4 3, [], some .hcrc⟩
  else
    let r := pktBody head ptype n [] rest
    ⟨ptype, n, fieldLE d 4 3, r.2, r.1⟩

/-- The blocks of the port's stream up to a packet: the places of those that count as invalid headers, and the packet. Blocks of
other kinds are ignored there (R113). -/
def streamOf : Nat → List Blk → List Nat × Option Pkt
  | _, [] => ([], none)
  | i, .bad :: t => let r := streamOf (i + 1) t; (i :: r.1, r.2)
  | _, .sop d :: t => ([], some (pktOf d t))
  | i, _ :: t => streamOf (i + 1) t

end Sys2Proof.Machine
end

