-- ==== Sys2Proof/Machine/Motion.lean ====
section
/-!
DEFINITION. The luma of MOT.QLD, the pyramid of MOT.PYR and the search of MOT.SRCH (spec/06 R163 to R165).
-/

namespace Sys2Proof.Machine

/-! ### QLD (R163) -/

/-- A frame as one piece, for MOT, with the mosaic of the active image rods. -/
def State.wholeFrame (s : State) (f : Frame) : Work :=
  let n := s.mosaicRod
  ⟨n, f, 0, f.width, 0, f.width, max 1 (s.inForce (R.DMS_MOSAIC_PX n)), max 1 (s.inForce (R.DMS_MOSAIC_PY n))⟩

/-- round(1,023 × sqrt(q)) of the fraction `num` over `den`, at most 1. -/
def sqrtCode (num den : Nat) : Nat :=
  if den = 0 then 0 else (Nat.sqrt (4 * 1023 * 1023 * min num den / den) + 1) / 2

/-- The luma sample of a cell of 4 × 4 raw pixels (R163). -/
def State.qldCell (s : State) (w : Work) (raw : Grid Nat) (i j : Nat) : Nat :=
  let at_ := (List.range 16).map (fun k => (w.col (4 * i + k % 4 : Nat), w.row (4 * j + k / 4 : Nat)))
  let wt (p : Nat × Nat) : Nat := s.inForce (R.QLD_CLASS_W (s.classAt w p.1 p.2))
  let sum := at_.foldl (fun a p => a + wt p * (w.tap 0 raw p.1 p.2 - s.inForce R.QLD_BLACK)) 0
  let den := at_.foldl (fun a p => a + wt p) 0
  sqrtCode sum (den * s.inForce R.QLD_CFG_SCALE)

/-- The output of QLD for a frame. -/
def State.qldLuma (s : State) (f : Frame) : List (List Nat) :=
  let w := s.wholeFrame f
  let raw := w.raw (if f.dcg = 1 then s.inForce R.QLD_CFG_GAIN_SEL else 0)
  (List.range (ceilDiv f.lines 4)).map (fun j => (List.range (ceilDiv f.width 4)).map (fun i => s.qldCell w raw i j))

/-- QLD has made the luma of a frame, inline, with the registers in force as its lines came: those of the last two frames stand. -/
def State.qldPut (s : State) (f : Frame) : State := { s with lumas := ((f.tag, s.qldLuma f) :: s.lumas).take 2 }

/-- The luma of a frame, where QLD made it. -/
def State.lumaOf (s : State) (tag : Nat) : Option (List (List Nat)) := (s.lumas.find? (fun e => decide (e.1 = tag))).map (·.2)

/-! ### PYR and SRCH (R164) -/

/-- A sample of a level; beyond an edge, that of the edge, a point that the spec leaves open (notes/assumptions/605.md). -/
def lumaAt (g : Grid Nat) (x y : Int) : Nat :=
  let row := g.getD (min y.toNat (g.size - 1)) #[]
  row.getD (min x.toNat (row.size - 1)) 0

/-- The next level: averages of 2 × 2 samples, whose rounding the spec leaves open. -/
def pyrHalf (g : Grid Nat) : Grid Nat :=
  gridOf (ceilDiv g.size 2) 0 (ceilDiv (g.getD 0 #[]).size 2) (fun x y =>
    let sum := lumaAt g (2 * x) (2 * y) + lumaAt g (2 * x + 1) (2 * y) + lumaAt g (2 * x) (2 * y + 1) + lumaAt g (2 * x + 1) (2 * y + 1)
    sum / 4 + (if sum % 4 = 0 then 0 else ofBool (Config.pyrUp sum)))

/-- A vector: columns and lines. -/
abbrev Vec2 := Int × Int

/-- A sample of the reference at a vector of quarter samples: exact at a whole one, else interpolated, which the spec leaves open. -/
def quarterAt (g : Grid Nat) (x y : Nat) (v : Vec2) : Nat :=
  let px := (x : Int) + v.1 / 4
  let py := (y : Int) + v.2 / 4
  let fx := (v.1 % 4).toNat
  let fy := (v.2 % 4).toNat
  if fx = 0 ∧ fy = 0 then lumaAt g px py
  else Config.motSub (fx, fy) (lumaAt g px py, lumaAt g (px + 1) py, lumaAt g px (py + 1), lumaAt g (px + 1) (py + 1))

/-- SAD of block (i, j) of `n` × `n` samples, those inside the level, at a vector of quarter samples. -/
def blockSad (cur ref : Grid Nat) (n i j : Nat) (v : Vec2) : Nat :=
  (List.range n).foldl (fun a dy => (List.range n).foldl (fun a dx =>
    let x := n * i + dx
    let y := n * j + dy
    if y < cur.size ∧ x < (cur.getD y #[]).size then
      let c := lumaAt cur x y
      let r := quarterAt ref x y v
      a + ((c - r) + (r - c))
    else a) a) 0

/-- The candidate of least cost; between equal ones the choice is open. -/
def leastCost (cost : Vec2 → Nat) : Vec2 → List Vec2 → Vec2
  | b, [] => b
  | b, v :: t => leastCost cost (if cost v < cost b ∨ (cost v = cost b ∧ Config.motPrefer v b) then v else b) t

/-- The square of ±`r` around a vector, in steps of `step`. -/
def square (c : Vec2) (r step : Nat) : List Vec2 :=
  let d := (List.range (2 * r + 1)).map (fun i => ((i : Int) - r) * step)
  d.flatMap (fun y => d.map (fun x => (c.1 + x, c.2 + y)))

/-- Median of three. -/
def med3 (a b c : Int) : Int := max (min a b) (min (max a b) c)
def vecMed (a b c : Vec2) : Vec2 := (med3 a.1 b.1 c.1, med3 a.2 b.2 c.2)

/-- What a search knows: SRCH.CFG, blocks of a row and rows, the previous set's vector of a block in full-resolution pixels. -/
structure Search where
  temporal : Bool
  lambda : Nat
  range3 : Nat
  bw : Nat
  bh : Nat
  past : Nat → Nat → Option Vec2

/-- The cost of a vector at L0 in quarters (R164): SAD plus LAMBDA times its distance from the median of its three candidates. -/
def Search.cost0 (q : Search) (cur ref : Grid Nat) (i j : Nat) (med v : Vec2) : Nat :=
  4 * blockSad cur ref 8 i j v + q.lambda * Config.motDist (v.1 - med.1, v.2 - med.2)

/-- The vectors of a level in row order; `pick i j left up` gives that of a block from its neighbours'. -/
def Search.level (q : Search) (pick : Nat → Nat → Vec2 → Vec2 → Vec2) : Array Vec2 :=
  (List.range (q.bw * q.bh)).foldl (fun (a : Array Vec2) b =>
    let i := b % q.bw
    let j := b / q.bw
    let left := if i = 0 then (0, 0) else a.getD (b - 1) (0, 0)
    let up := if j = 0 then (0, 0) else a.getD (b - q.bw) (0, 0)
    a.push (pick i j left up)) #[]

/-- Vectors at L3: the full search of ±RANGE3 samples. A vector of whole samples is held in quarters of its level's. -/
def Search.top (q : Search) (cur ref : Grid Nat) : Array Vec2 :=
  q.level (fun i j _ _ => leastCost (blockSad cur ref 1 i j) (0, 0) (square (0, 0) q.range3 4))

/-- Vectors at a lower level `l`: ±2 samples around twice the parent's, and the neighbours' and the previous set's vectors. At L0 the
cost is that of R164; at the levels above it is the level's own SAD. -/
def Search.refine (q : Search) (cur ref : Grid Nat) (l : Nat) (parent : Array Vec2) : Array Vec2 :=
  q.level (fun i j left up =>
    let p := parent.getD (j * q.bw + i) (0, 0)
    let twice : Vec2 := (2 * p.1, 2 * p.2)
    let old := if q.temporal then ((q.past i j).map (fun v => (v.1 / 2 ^ l / 4 * 4, v.2 / 2 ^ l / 4 * 4))).toList else []
    let cands := square twice 2 4 ++ [left, up] ++ old
    let cost := if l = 0 then q.cost0 cur ref i j (vecMed twice left up) else blockSad cur ref (8 / 2 ^ l) i j
    leastCost cost twice cands)

/-- The refinement at L0 to a quarter sample, and the vector word of each block (R165): COST = min(127, SAD ÷ 16); which vectors are
valid is open. -/
def Search.words (q : Search) (cur ref : Grid Nat) (parent : Array Vec2) : List Nat :=
  let whole := q.refine cur ref 0 parent
  (List.range (q.bw * q.bh)).map (fun b =>
    let i := b % q.bw
    let j := b / q.bw
    let v0 := whole.getD b (0, 0)
    let p := parent.getD b (0, 0)
    let left := if i = 0 then (0, 0) else whole.getD (b - 1) (0, 0)
    let up := if j = 0 then (0, 0) else whole.getD (b - q.bw) (0, 0)
    let v := leastCost (q.cost0 cur ref i j (vecMed (2 * p.1, 2 * p.2) left up)) v0 (square v0 3 1)
    let sad := blockSad cur ref 8 i j v
    ofBool (Config.motValid sad v) * 2 ^ 31 + min 127 (sad / 16) * 2 ^ 24 + unsigned 12 v.2 * 2 ^ 12 + unsigned 12 v.1)

/-- The search over the pyramids of the two lumas (R164). -/
def Search.run (q : Search) (cur ref : List (List Nat)) : List Nat :=
  let c0 := (cur.map List.toArray).toArray
  let r0 := (ref.map List.toArray).toArray
  let c1 := pyrHalf c0
  let r1 := pyrHalf r0
  let c2 := pyrHalf c1
  let r2 := pyrHalf r1
  q.words c0 r0 (q.refine c1 r1 1 (q.refine c2 r2 2 (q.top (pyrHalf c2) (pyrHalf r2))))

/-- The vectors of a frame of `w` by `h` against the previous one, in row order (R164, R165); `past` is the set of the previous
frame. -/
def State.motVectors (s : State) (w h : Nat) (cur ref : List (List Nat)) (past : List Byte) : List Byte :=
  let bw := ceilDiv w 32
  let word (i j : Nat) : Nat := fieldLE past (4 * (j * bw + i)) 4
  let q : Search := ⟨decide (s.inForce R.SRCH_CFG_TEMPORAL = 1), s.inForce R.SRCH_CFG_LAMBDA, s.inForce R.SRCH_CFG_RANGE3, bw, ceilDiv h 32,
    fun i j => if bit (word i j) 31 then some (signed 12 (bits (word i j) 0 12), signed 12 (bits (word i j) 12 12)) else none⟩
  (q.run cur ref).flatMap (leBytes 4)

end Sys2Proof.Machine
end

