-- ==== Sys2Proof/Machine/Source.lean ====
section
/-!
DEFINITION. The source as the image rods and MOT read it (spec/06 R140 to R146, R163 to R171): commit rules of the image
rods and of MOT, the vector ring, what a frame start and a frame close of the source bring about there.
-/

namespace Sys2Proof.Machine

/-! ### Geometry of the source (R140) -/

/-- Port, width, lines and OB lines of the source; none where no source is routed. -/
def srcGeo (s : State) (ask : Fld → Nat) : Option (Nat × Nat × Nat × Nat) :=
  match s.strg.source with
  | some 2 => some (0, 2 * ask (R.LINK_CTL_WIDTH 0), ask (R.FRM_CFG_LINES 0), ask (R.FRM_CFG_OB_LINES 0))
  | some p => some (p, ask (R.LINK_CTL_WIDTH p), ask (R.FRM_CFG_LINES p), ask (R.FRM_CFG_OB_LINES p))
  | none => none

/-- MIN_PERIOD of the source: the larger of the two ports' for the pair. -/
def State.minPeriod (s : State) : Nat :=
  match s.strg.source with
  | some 2 => max (s.strg.limit 0x0003 1 0 4166666) (s.strg.limit 0x0003 1 1 4166666)
  | some p => s.strg.limit 0x0003 1 p 4166666
  | none => min (s.strg.limit 0x0003 1 0 4166666) (s.strg.limit 0x0003 1 1 4166666)

/-- Is a V24 value greater than 0 (spec/07 R174)? -/
def v24Pos (v : Nat) : Bool := decide (0 < v ∧ v < 2 ^ 23)

/-- The entries of the class map inside the period of image rod `n` (spec/07 R179). -/
def mosaicCells (ask : Fld → Nat) (n : Nat) : List (Nat × Nat × Nat) :=
  (List.range (ask (R.DMS_MOSAIC_PY n))).flatMap (fun j => (List.range (ask (R.DMS_MOSAIC_PX n))).map (fun i =>
    (i, j, ask (R.DMS_MAP_CLS n j i))))

/-- Does image rod `n` process a stripe, or stand ready as the armed spare? -/
def State.imgInUse (s : State) (n : Nat) : Bool := decide (n < s.stripes) || (decide (n = 4) && s.spareArmed)

/-- Commit rules of an image rod (spec/06, spec/07: rules 0x20 to 0x2F). -/
def imgRules (n : Nat) (s : State) (ask : Fld → Nat) (_d : Nat) : List (Nat × Bool) :=
  let geo := srcGeo s ask
  let rod := 2 + n
  let div := match s.strg.rodSec rod with | some r => max 1 r.ckDiv | none => 1
  let cells := mosaicCells ask n
  let present (c : Nat) : Bool := cells.any (fun e => decide (e.2.2 = c))
  let px := ask (R.DMS_MOSAIC_PX n)
  let py := ask (R.DMS_MOSAIC_PY n)
  let guide := ask (R.DMS_CFG_GUIDE n)
  let gc := cells.filter (fun e => decide (e.2.2 = guide))
  let oetf := ask (R.FMT_CFG_OETF n)
  let trc := ask (R.FMT_COLOUR_TRC n)
  let fmt := ask (R.FMT_CFG_FORMAT n)
  let mx := ask (R.FMT_COLOUR_MATRIX n)
  let beads := match s.strg.rodSec rod with | some r => r.beads | none => []
  let posOf (b : Nat) : Option Nat := (beads.find? (fun e => decide (e.1 = b))).map (·.2)
  [(0x20, match geo with
      | some (_, w, lines, _) =>
        let c := coreWidth w s.stripes
        !s.imgInUse n || decide (c + 128 ≤ 6400 ∧ (c + 128) * lines * div * 10 ≤ 96 * s.minPeriod)
      | none => true),
   (0x21, match geo with
      | some (_, w, _, _) => decide (ask (R.BLK_OBWIN_OB_X0 n) + ask (R.BLK_OBWIN_OB_W n) ≤ w)
      | none => true),
   (0x22, match geo with
      | some (_, _, _, ob) => decide (ob ≠ 0 ∨ ask (R.BLK_CFG_MODE n) = 0)
      | none => true),
   (0x23, decide (ask (R.DPC_MAP_CNT_EN n) = 0 ∨
      (ask (R.DPC_MAP_OFF8 n) + ask (R.DPC_MAP_CNT_CNT n)) * 8 ≤ s.strg.regionSize (ask (R.DPC_MAP_REGION n)))),
   (0x24, match geo with
      | some (p, _, _, _) => !s.strg.strungBead rod 3 ||
          decide (ask (R.DCG_KNEE_T1 n) < ask (R.DCG_KNEE_T2 n) ∧ ask (R.DCG_KNEE_T2 n) < 2 ^ s.rawDepth p)
      | none => true),
   (0x25, decide (ask (R.TNR_THR_T_LO n) < ask (R.TNR_THR_T_HI n))),
   (0x26, decide (ask (R.TNR_CFG_K_NOVEC n) ≤ ask (R.TNR_CFG_K_MAX n))),
   (0x27, decide (ask (R.TNR_NOISE_V n 0) < 2 ^ 23 ∧ ask (R.TNR_NOISE_V n 1) < 2 ^ 23)),
   (0x28, cells.all (fun e => decide (e.2.2 ≤ 5)) && (match geo with
      | some (_, w, lines, _) => decide (w % max 1 px = 0 ∧ lines % max 1 py = 0)
      | none => true)),
   (0x29, decide (ask (R.DMS_CFG_MODE n) ≠ 1) ||
      ((List.range px).all (fun i => gc.any (fun e => decide (e.1 = i))) &&
       (List.range py).all (fun j => gc.any (fun e => decide (e.2.1 = j))) && decide (px * py ≤ 4 * gc.length))),
   (0x2A, (List.range 3).all (fun k => (List.range 6).all (fun c =>
      present c || decide (ask (R.SPM_M_V n (6 * k + c)) % 2 ^ 23 = 0)))),
   (0x2B, (List.range 3).all (fun k => v24Pos (ask (R.WBM_WB_V n k))) && v24Pos (ask (R.WBM_HL_WHITE n))),
   (0x2C, decide (ask (R.LUT_CFG_EN n) = 0 ∨ s.get (R.SLOT_STAT_STATE (ask (R.LUT_CFG_SLOT n))) = 2)),
   (0x2D, if oetf = 1 then decide (trc = 1 ∨ trc = 14) else if oetf = 2 then decide (trc = 13)
      else if oetf = 3 then decide (trc = 16) else if oetf = 4 then decide (trc = 18)
      else if oetf = 5 then decide (trc = 2) else if oetf = 6 then decide (trc = 8) else true),
   (0x2E, decide (fmt = 6 → oetf = 0) &&
      (if fmt = 3 ∨ fmt = 6 then decide (mx = 0) else decide (mx = 1 ∨ mx = 9))),
   (0x2F, match posOf 9, posOf 5 with
      | some a, some d => (List.range 4).all (fun h =>
          let v := ask (R.STS_HSEL n h)
          decide (v = 7) || (if a < d then decide (v ≤ 5) && present v else decide (v ≤ 2 ∨ v = 6)))
      | _, _ => true)]

/-! ### MOT and the vector ring (R163 to R167) -/

/-- Blocks of a vector set for a frame of `w` by `h`, and granules of its slot (R165, R166). -/
def vecBlocks (w h : Nat) : Nat := ceilDiv w 32 * ceilDiv h 32
def vecGranules (w h : Nat) : Nat := ceilDiv (64 + 4 * vecBlocks w h) granBytes

/-- Commit rules of MOT. -/
def motRules (s : State) (ask : Fld → Nat) (_d : Nat) : List (Nat × Bool) :=
  [(0x30, match srcGeo s ask with
    | some (_, w, h, _) => decide (ask R.VST_RING_GRAN + ask R.VST_RING_DEPTH * vecGranules w h ≤ 1024)
    | none => true)]

/-- Tray address of slot `i` of the vector ring for a frame. -/
def State.vecSlot (s : State) (f : Frame) (i : Nat) : Nat :=
  (s.inForce R.VST_RING_GRAN + i * vecGranules f.width f.lines) * granBytes

/-- A consumer reads the set at an address: a TNR job, or an encoder with a picture of the set's tag (R166). -/
def State.vecHeld (s : State) (a : Nat) : Bool :=
  s.imgs.any (fun j => decide (j.vec = some a)) ||
  s.strms.any (fun x => match x.busy with
    | some j => !j.rep && decide ((s.desc x.num).vecS ≠ 0) && decide (s.vecSet j.tag = some a)
    | none => false)

/-- The job of MOT for a frame. -/
def motJob (tag : Nat) : Job := ⟨7, 6, 3, 0, tag⟩

/-- MOT begins the set of a frame: its commit point, and its slot, which is lost to a consumer that holds it (R166, spec/22
R505). -/
def State.motStart (s : State) (tag : Nat) : State :=
  if s.isolated 7 || !s.strg.strungBead 7 6 || s.draining 7 tag || s.jobs.any (fun j => decide (j.rod = 7 ∧ j.tag = tag)) then s
  else
    let s1 := s.commitAt 7 0 motRules
    match s1.frame tag with
    | none => s1
    | some f =>
      let i := s1.get I.VST_NEXT % max 1 (s1.inForce R.VST_RING_DEPTH)
      let a := s1.vecSlot f i
      if s1.vecHeld a then
        (((s1.set R.VST_STAT_VEC_DROP 1).inc R.VST_STAT_DROP_CNT).raise E.vecDrop).beginJob (motJob tag)
      else
        ((s1.trayPut 7 a (leBytes 4 tag ++ leBytes 2 f.setId ++ leBytes 2 (ceilDiv f.width 32) ++
          leBytes 2 (ceilDiv f.lines 32) ++ zeros 54)).set I.VST_NEXT (i + 1)).beginJob (motJob tag)

/-! ### What a frame brings about (R169 to R171) -/

/-- Stripes that wait for the spare, or are lost, are concealed in a frame. -/
def State.concealOut (s : State) (tag : Nat) : State :=
  ((List.range s.stripes).filter (fun k => s.on (I.STRIPE_OUT k))).foldl (fun (s : State) k => s.conceal tag k) s

/-- A frame of the source has started: the latency position is due at once. -/
def State.srcStart (s : State) (tag : Nat) : State := if s.tnrQuality then s else (s.concealOut tag).encKick

/-- A frame of the source has closed: MOT has its lines, the quality position is due. -/
def State.srcClosed (s : State) (tag : Nat) : State :=
  let s0 := s.motStart tag
  let s1 := match s0.frame tag with
    | some f => if s0.jobs.any (fun j => decide (j.rod = 7 ∧ j.tag = tag)) then s0.qldPut f else s0
    | none => s0
  if s1.tnrQuality then (s1.concealOut tag).encKick else s1

end Sys2Proof.Machine
end

