-- ==== Sys2Proof/Machine/Frames.lean ====
section
/-!
DEFINITION. Frames of the sensor ports (spec/05 R118 to R128, spec/04 R105, R106, R113): tags, frame starts, lines, fills,
closes, synthesised frames.
-/

namespace Sys2Proof.Machine

/-! ### Commit rules (spec/04, spec/05, spec/06: rules 0x10 to 0x18, 0x30) -/

/-- Commit rules of LNK domain `d`. -/
def lnkRules (s : State) (ask : Fld → Nat) (d : Nat) : List (Nat × Bool) :=
  let both (f : Nat → Fld) : Bool := decide (ask (f 0) = ask (f 1))
  let pair := decide (ask (R.LINK_CTL_PAIR d) ≠ 0)
  let num := ask (R.EXS_RATE_NUM d)
  let q := 1000000000 * (if ask (R.EXS_RATE_DEN d) = 0 then 1000 else 1001)
  [(0x10, !pair || (both R.LINK_CTL_PAIR && both R.LINK_CTL_N && both R.LINK_CTL_WIDTH)),
   (0x11, decide (ask (R.LINK_CTL_WIDTH d) * (1 + ask (R.LINK_CTL_PAIR d)) ≤ s.strg.limit 0x0001 1 d 24576)),
   (0x12, decide (ask (R.FRM_CFG_LINES d) ≤ s.strg.limit 0x0002 1 d 10240)),
   (0x13, !pair || (both R.FRM_CFG_LINES && both R.FRM_CFG_OB_LINES)),
   (0x14, decide (s.strg.limit 0x0003 1 d 4166666 * num ≤ q)),
   (0x15, decide (ask (R.EXS_LEAD_LINE_CNT d) * ask (R.EXS_LINE_LINE_PER d) * num ≤ 16 * q)),
   (0x16, decide (ask (R.EXS_LEAD_LEAD d) * 10 * num < q)),
   (0x17, decide (ask (R.EXS_PHASE_NS d) * num < q)),
   (0x18, !(s.strg.routed 0 && s.strg.routed 1) || pair)] ++
  -- rules of other rods that read the port's size (spec/22 R507)
  (if s.strg.source = some d ∨ s.strg.source = some 2 then
    (List.range 5).flatMap (fun n => if s.strg.powered (2 + n) then
      (imgRules n s ask 0).filter (fun r => [0x20, 0x21, 0x22, 0x28].contains r.1) else []) ++
    (if s.strg.powered 7 then motRules s ask 0 else [])
  else []) ++
  (if s.strg.powered 10 then (rrcRules s ask 0).filter (fun r => [0x40, 0x41].contains r.1) else [])

/-- The rules in ascending number (R507). -/
def byRule (l : List (Nat × Bool)) : List (Nat × Bool) := sortBy (fun a b => decide (a.1 ≤ b.1)) l

/-- The two LNK domains are judged as one (spec/22 R507). -/
def State.commitPair (s : State) : State :=
  if !s.commitPending 1 0 && !s.commitPending 1 1 then s
  else
    let ask (f : Fld) : Nat := if f.rod = 1 then s.get f else s.inForce f
    let rules := lnkRules s ask 0 ++ lnkRules s ask 1
    let bad := (rules.filter (fun r => !r.2)).foldl (fun a r => min a r.1) 0x100
    let s1 := (s.clearPend 1 0).clearPend 1 1
    if bad < 0x100 then
      s1.commitBad 1 (if (lnkRules s ask 0).any (fun r => decide (r.1 = bad) && !r.2) then 0 else 1) bad
    else (s1.commitDom 1 0).commitDom 1 1

/-- The LNK domains commit together when PAIR is in force, or staged, on both ports. -/
def State.pairAsked (s : State) : Bool :=
  s.pairOn || decide (s.get (R.LINK_CTL_PAIR 0) ≠ 0 ∧ s.get (R.LINK_CTL_PAIR 1) ≠ 0)

/-- The commit point of a port's domain (spec/22 R505); a schedule that its commit moves is rephased (spec/05 R138). -/
def State.commitLnk (s : State) (p : Nat) : State :=
  let key (s : State) (p : Nat) : Nat × Nat × Nat := (s.inForce (R.EXS_RATE_NUM p), s.inForce (R.EXS_RATE_DEN p), s.inForce (R.EXS_PHASE_NS p))
  let s1 := if s.pairAsked then s.commitPair else s.commitAt 1 (sp p) (fun s ask d => byRule (lnkRules s ask d))
  (List.range 2).foldl (fun t q => if key s q = key s1 q then t else t.rephase q 0 0) s1

/-! ### Open frames -/

/-- The last frame of a logical port. -/
def State.lastFrame (s : State) (p : Nat) : Option Frame := s.frames.find? (fun f => decide (f.port = p))

/-- The open frame of a logical port. -/
def State.openFrame (s : State) (p : Nat) : Option Frame := s.frames.find? (fun f => decide (f.port = p) && !f.closed)

/-- The frame that supplies the fills of a frame (spec/05 R124): the previous one of the port, of equal width, depth and gain
mode. -/
def State.fillFrom (s : State) (f : Frame) : Option Frame :=
  if s.on (I.PORT_FRESH f.port) then none
  else
    match s.frames.find? (fun g => decide (g.port = f.port ∧ g.tag ≠ f.tag)) with
    | some g => if g.width = f.width ∧ g.depth = f.depth ∧ g.dcg = f.dcg then some g else none
    | none => none

/-- A line whose samples all hold a value. -/
def Frame.flat (f : Frame) (v : Nat) : List Byte :=
  let d := 10 + 2 * f.depth
  leBytes f.lineBytes ((List.range (f.width * (1 + f.dcg))).foldl (fun a i => a + v % 2 ^ d * 2 ^ (i * d)) 0)

/-- The slots of a raw store that LNK overwrites lose their frames. -/
def State.slotTaken (s : State) (f : Frame) : State :=
  (s.frames.filter (fun g => decide (g.port = f.port ∧ g.slot = f.slot ∧ g.tag ≠ f.tag) && !g.gone)).foldl
    (fun s g => (s.modFrame g.tag (fun g => { g with gone := true })).recSlotLost g.tag) s

/-- Write bytes of a frame's slot in the raw store (spec/08 R228). -/
def State.rawPut (s : State) (f : Frame) (a : Nat) (d : List Byte) : State :=
  (s.slotTaken f).dramPut (s.get (R.RAW_RING_REGION (sp f.port))) a d

/-- A line as delivered: into the frame and the raw store. -/
def State.putLine (s : State) (tag j : Nat) (d : List Byte) : State :=
  match s.frame tag with
  | some f => (s.modFrame tag (fun f => { f with data := mapIns natLt f.data j d })).rawPut f (s.rawAddr f (f.obLines + j)) d
  | none => s

/-- Fill line `j` of a frame (R124). -/
def State.fillLine (s : State) (tag j : Nat) : State :=
  match s.frame tag with
  | none => s
  | some f =>
    match (s.fillFrom f).bind (fun g => (g.data.find? (fun e => decide (e.1 = j))).map (fun e => (g.setId, e.2))) with
    | some (id, d) => (s.modFrame tag (fun f => { f with fillSet := id })).putLine tag j d
    | none => (s.modFrame tag (fun f => { f with info := setBit f.info 2 })).putLine tag j
        (f.flat (s.get (R.FRM_FILL_VALUE (sp f.port))))

/-- Fill lines `a` to `b - 1`. -/
def State.fillGap (s : State) (tag a b : Nat) : State :=
  (List.range (b - a)).foldl (fun s i => s.fillLine tag (a + i)) s

/-! ### Starts (R118 to R120, R140) -/

/-- The next tag (R118): 0 is skipped. -/
def State.nextTag (s : State) : Nat :=
  let t := (s.get R.FTAG_LAST_TAG + 1) % 2 ^ 32
  if t = 0 then 1 else t

/-- The frame that takes a tag on a port now. -/
def State.newFrame (s : State) (p fcnt ctx info : Nat) : Frame :=
  let q := sp p
  { tag := s.nextTag, fcnt := fcnt % 2 ^ 24, port := p, info := info, ctx := ctx,
    setId := ((s.setAt p fcnt).map (·.setId)).getD (s.get (R.EXQ_STAT_IN_FORCE q)),
    width := if p = 2 then 2 * s.inForce (R.LINK_CTL_WIDTH 0) else s.inForce (R.LINK_CTL_WIDTH p),
    lines := s.inForce (R.FRM_CFG_LINES q), obLines := s.inForce (R.FRM_CFG_OB_LINES q),
    depth := (s.rawDepth q - 10) / 2, dcg := ofBool (s.dcg q), fsTime := s.now, slot := s.get (I.RAW_NEXT p),
    fresh := s.on (I.PORT_FRESH p) }

/-- A frame takes its tag: the frame list (a raw store has at most 63 slots, so that 80 frames of each port hold all it keeps), its LNK_FRAME job, and its picture where the port is the source. -/
def State.enterFrame (s : State) (f : Frame) : State :=
  let s1 : State := { s with frames := keepEach (·.port) 80 [] (f :: s.frames) }
  let s2 := (s1.sets [(R.FTAG_LAST_TAG, f.tag), (I.RAW_NEXT f.port, (f.slot + 1) % max 1 (s.get (R.RAW_RING_DEPTH (sp f.port))))]).beginJob
    ⟨1, sp f.port, 1, f.port, f.tag⟩
  if s2.strg.source = some f.port then ((s2.picStart f).encSource f.tag).srcStart f.tag else s2

/-! ### Closes (R122 to R127) -/

/-- A frame is tagged SHORT. -/
def State.tagShort (s : State) (q : Nat) : State :=
  ((s.set (R.FRM_STAT_SHORT q) 1).inc (R.FRM_STAT_SHORT_CNT q)).raise (E.frameShort q)

/-- Raise an error flag of a port. -/
def State.linkFlag (s : State) (p : Nat) (f : Fld) : State := (s.set f 1).raise (E.linkErr p)

/-- A packet is lost. -/
def State.lost (s : State) (p : Nat) : State := s.inc (R.LINK_ERR_LOST_CNT p)

/-- A packet is lost with a flag. -/
def State.lostFor (s : State) (p : Nat) (f : Fld) : State := (s.lost p).linkFlag p f

/-- Halves that still wait are lost. -/
def State.dropHalves (s : State) (l : List Half) : State :=
  l.foldl (fun s h => (s.modLnk (fun x => { x with halves := x.halves.erase h })).lostFor h.port (R.LINK_ERR_PAIR h.port)) s

/-- The open frame of a logical port closes: fills, tags, record, job, write window. -/
def State.closeFrame (s : State) (p : Nat) : State :=
  match s.openFrame p with
  | none => s
  | some f0 =>
    let s1 := (if p = 2 then s.dropHalves s.lnk.halves else s).fillGap f0.tag f0.next f0.lines
    let miss := (List.range f0.lines).filter (fun j => !f0.real.contains j)
    let short := miss.any (fun j => match f0.overflow with | some k => decide (j < k) | none => true)
    let s2 := s1.modFrame f0.tag (fun f => { f with
      closed := true, closeTime := s.now, next := f.lines,
      firstMissing := miss.headD 0xFFFF,
      ctags := if short then setBit f.ctags 0 else f.ctags })
    let q := sp p
    let s3 := (if short then s2.tagShort q else s2).set (I.PORT_FRESH p) 0
    match s3.frame f0.tag with
    | none => s3
    | some f =>
      let a := f.slot * s3.get (R.RAW_RING_SLOT_MIB q) * 2 ^ 20
      let s4 := (s3.rawPut f a (f.bytes ++ f.lineMap)).endJob ⟨1, q, 1, p, f.tag⟩ (if f.ctags = 0 then 0 else 3)
      (if s4.strg.source = some p then (s4.picClosed f.tag).srcClosed f.tag else s4).exqOpen p f.fcnt

/-- A frame is recorded: every rod of RRC that drains leaves it (spec/08 R214). -/
def State.recEnter (s : State) (p : Nat) (f : Frame) : State :=
  if s.recd.takes.any (fun t => t.live p) && !s.isolated 10 && !s.draining 10 f.tag then
    (s.commitAt 10 0 rrcRules).recFrameStart f
  else s

/-- The frame that a port's set marks EXP_UNSURE (R131). -/
def State.unsureNow (s : State) (p fcnt : Nat) : Bool := s.lnk.unsure.contains (p, fcnt % 2 ^ 24)

/-- A frame of an exposure set has taken its tag: marks of EXP_UNSURE for it are spent, its set comes into force (R131 to R133). -/
def State.exqFrame (s : State) (p fcnt tag : Nat) : State :=
  (s.modLnk (fun l => { l with unsure := l.unsure.filter (fun u => decide (u ≠ (p, fcnt % 2 ^ 24))) })).setAccept p (fcnt % 2 ^ 24) tag

/-- A frame is synthesised (R128): it takes a tag, is filled whole, recorded with empty stripes (spec/08 R206), and closes. -/
def State.synth (s : State) (p : Nat) : State :=
  let q := sp p
  let s1 := (s.exqClose p).commitLnk p
  let fcnt := (s1.get (I.FCNT_LAST p) - 1) + (if s1.on (I.FCNT_LAST p) then 1 else 0)
  let f := s1.newFrame p fcnt 0 (2 + (if s1.unsureNow p fcnt then 8 else 0))
  let s2 := (((s1.enterFrame f).set (I.FCNT_LAST p) (f.fcnt + 1)).exqFrame p fcnt f.tag).recEnter p f
  let s3 := ((s2.set (R.FRM_STAT_SYNTH q) 1).raise (E.frameSynth q)).set (I.SYNTH_WAIT q) 0
  s3.closeFrame p

/-- A synthesis that waited for the close happens now. -/
def State.synthWaiting (s : State) (p : Nat) : State := if s.on (I.SYNTH_WAIT (sp p)) then s.synth p else s

/-- PHASE_ERR of a frame start, and the slot that it serves (R128, R136): the waiting one, or the nearest within FS_WIN. -/
def State.serveSlot (s : State) (p : Nat) : Bool × State :=
  let q := sp p
  if s.get (R.EXS_CTL_MODE q) = 0 then (false, s)
  else
    let win := s.get (R.EXS_CTL_FS_WIN q) * tUs
    if s.on (I.EXS_SLOT q) ∧ timeDist s.now (s.get (I.EXS_SLOT q) - 1) ≤ win then
      (s.on (I.SYNTH_WAIT q), (s.slotAfter q (s.get (I.EXS_SLOT q) - 1)).set (I.SYNTH_WAIT q) 0)
    else if (s.on (I.EXS_PREV q) ∧ timeDist s.now (s.get (I.EXS_PREV q) - 1) ≤ win ∨
        (!s.exsHalf ∧ (s.schedAt q (s.now - win)).any (fun t => decide (t ≤ s.now + win)))) ∧ !s.on (I.SYNTH_WAIT q) then (false, s)
    else (true, s.set (I.SYNTH_WAIT q) 0)

/-- A frame start is accepted on a logical port (R119, R132, R140; spec/08 R214): the schedule moves after the slot that the start
serves (R138): `info` holds FS_LOST, `mask` the port whose
packet started it. -/
def State.startFrame (s : State) (p fcnt ctx info mask : Nat) : State :=
  let s0 := s.exqClose p
  let s1 := match s0.openFrame p with
    | some f =>
      let late := (if p = 2 then [0, 1] else [p]).filter (fun k => !bit f.feMask k)
      (late.foldl (fun (s : State) k => s.linkFlag k (R.LINK_ERR_FE_LOST k)) s0).closeFrame p
    | none => s0
  let r := (s1.exqClose p).serveSlot p
  let s3 := r.2.commitLnk p
  let q := sp p
  let f := s3.newFrame p fcnt ctx (info + (if s3.unsureNow p fcnt then 8 else 0) + (if r.1 then 16 else 0))
  let f := { f with fsMask := mask }
  let s4 := if r.1 then (s3.set (R.FRM_STAT_PHASE_ERR q) 1).raise (E.phaseErr q) else s3
  let s5 := (s4.modLnk (fun l => { l with
    starts := keepEach (·.1) 9 [] ((p, s.now) :: l.starts), halves := [] })).set
    (I.FCNT_LAST p) (f.fcnt + 1)
  ((s5.enterFrame f).exqFrame p f.fcnt f.tag).recEnter p f

/-! ### Packets (spec/04 R105, R106, R113) -/

/-- The port takes packets: it is in use and UP. -/
def State.portUp (s : State) (p : Nat) : Bool := s.on (R.LINK_CTL_EN p) && decide (s.get (R.LINK_STAT_STATE p) = 3)

/-- Data lanes of a port in force. -/
def State.srxN (s : State) (p : Nat) : Nat := 4 * 2 ^ s.inForce (R.LINK_CTL_N p)

/-- The flag of a packet's error (R113). -/
def PktErr.flag : PktErr → Nat → Fld
  | .hcrc, p => R.LINK_ERR_HCRC p
  | .pcrc, p => R.LINK_ERR_PCRC p
  | .len, p => R.LINK_ERR_LEN p

/-- The share of the input FIFOs of a port, in bytes (spec/01 R25, spec/02 R61): FIFO_SP0 divides LNK's store. -/
def Stringing.fifoBytes (g : Stringing) (p : Nat) : Nat :=
  let sp0 := g.limit 0x0006 1 0 8
  (if p = 0 then sp0 else 16 - sp0) * (beadStore 1 / 16)

/-- The input FIFO of the port has no room for a packet (spec/05 R127). -/
def State.fifoFull (s : State) (p : Nat) (k : Packet) (x : Pkt) : Bool :=
  decide (s.strg.fifoBytes p < k.level.toNat + x.payload.length)

/-- Invalid headers or control types outside a packet (R113), at places of the port's stream: its blocks are dealt to the logical
lanes in turn (R103). -/
def State.shdr (s : State) (p : Nat) (places : List Nat) : State :=
  places.foldl (fun (s : State) i => s.inc (R.LH_SHDR_CNT p (i % s.srxN p))) s

/-- Handle a packet of a port that is up, of one of the types `ok`: one that fails a check is lost and counted. A run of blocks
without such a packet is no such command. -/
def State.packet (s : State) (p : Nat) (ok : Nat → Bool) (k : Packet) (g : Pkt → State → State) : State :=
  if !s.portUp p then s
  else
    let r := streamOf k.first.val (k.blocks.map blockOf)
    match r.2 with
    | none => s
    | some x =>
      let s1 := s.shdr p r.1
      match x.err with
      | some .hcrc => s1.lostFor p (R.LINK_ERR_HCRC p)
      | e => if !ok x.ptype then s else match e with
        | some e => s1.lostFor p (e.flag p)
        | none => g x s1

/-- The FS of a frame differs from the configuration (R113). -/
def State.fsMismatch (s : State) (p : Nat) (d : List Byte) : Bool :=
  decide (fieldLE d 0 2 ≠ s.inForce (R.LINK_CTL_WIDTH p) ∨ fieldLE d 4 1 ≠ (s.rawDepth p - 10) / 2 ∨
    fieldLE d 5 1 % 2 ≠ ofBool (s.dcg p))

/-- An FS packet: the first of a frame starts it, the second of a pair joins it. -/
def State.fsPacket (s : State) (p : Nat) (k : Pkt) : State :=
  let lp := s.lport p
  let fcnt := k.arg
  let second := match s.openFrame lp with
    | some f => decide (lp = 2 ∧ f.fcnt = fcnt) && !bit f.fsMask p
    | none => false
  let s1 := if second then
      match s.openFrame lp with
      | some f => s.modFrame f.tag (fun f => { f with fsMask := setBit f.fsMask p })
      | none => s
    else s.startFrame lp fcnt (fieldLE k.payload 2 2) 0 (2 ^ p)
  if s1.fsMismatch p k.payload then
    match s1.openFrame (s1.lport p) with
    | some f => (s1.modFrame f.tag (fun f => { f with mismatch := true })).linkFlag p (R.LINK_ERR_FS_MM p)
    | none => s1
  else s1

/-- FS_PACKET (R105, R119). -/
def execFsPacket (port : Fin 2) (pkt : Packet) (s : State) : Res := .next (s.packet port (· == 0x01) pkt (fun x s => s.fsPacket port x))

/-- FE_PACKET (R105, R123): the frame closes at its FE, the pair's at the later of two. The spec does not say what an FE with the
FCNT of another frame does: it is ignored (notes/assumptions/407.md). -/
def execFePacket (port : Fin 2) (pkt : Packet) (s : State) : Res :=
  .next (s.packet port (· == 0x02) pkt fun x s =>
    let lp := s.lport port
    match s.openFrame lp with
    | some f =>
      if f.fcnt = x.arg then
        let m := setBit f.feMask port
        let s1 := s.modFrame f.tag (fun f => { f with feMask := m })
        if lp ≠ 2 ∨ m = 3 then (s1.closeFrame lp).synthWaiting lp else s1
      else s
    | none => s)

/-- Bytes of a port's half of a line, or of its whole line, without padding. -/
def State.portBytes (s : State) (p : Nat) : Nat :=
  s.inForce (R.LINK_CTL_WIDTH p) * (1 + ofBool (s.dcg p)) * s.rawDepth p / 8

/-- LEN of a LINE or OB packet of a port (R106). -/
def State.portLen (s : State) (p : Nat) : Nat :=
  ceilDiv (s.inForce (R.LINK_CTL_WIDTH p) * (1 + ofBool (s.dcg p)) * s.rawDepth p) 64

/-- FCNT[7:0] `v` is new on a logical port (R113). -/
def State.fcntNew (s : State) (p v : Nat) : Bool :=
  let last := s.get (I.FCNT_LAST p)
  decide (last = 0) || (let d := (v + 256 - (last - 1) % 256) % 256; decide (1 ≤ d ∧ d ≤ 127))

/-- The FCNT that a lost FS carried, from its low eight bits. -/
def State.fcntGuess (s : State) (p v : Nat) : Nat :=
  let last := s.get (I.FCNT_LAST p)
  if last = 0 then v else (last - 1 + (v + 256 - (last - 1) % 256) % 256) % 2 ^ 24

/-- A line beyond the geometry (R126). -/
def State.lineLong (s : State) (f : Frame) : State :=
  let q := sp f.port
  let s1 := s.modFrame f.tag (fun f => { f with discarded := min (f.discarded + 1) 0xFFFF, ctags := setBit f.ctags 1 })
  if bit f.ctags 1 then s1 else ((s1.set (R.FRM_STAT_LONG q) 1).inc (R.FRM_STAT_LONG_CNT q)).raise (E.frameLong q)

/-- The overflow point of a frame (R125, R127): `j` is the first line that the dropped packet or a later one would have brought. -/
def State.frameOverflow (s : State) (f : Frame) (j : Nat) : State :=
  let q := sp f.port
  if f.overflow.isSome then s
  else
    let s1 := s.modFrame f.tag (fun f => { f with overflow := some j, ctags := setBit f.ctags 2 })
    ((s1.set (R.FRM_STAT_OVERFLOW q) 1).inc (R.FRM_STAT_OVF_CNT q)).raise (E.frameOverflow q)

/-- A whole real line goes on, with the gap before it filled; the first line of the source's frame is MOT's commit point. -/
def State.lineReal (s : State) (f : Frame) (j : Nat) (d : List Byte) : State :=
  let s0 := if f.real.isEmpty ∧ s.strg.source = some f.port then s.motStart f.tag else s
  ((s0.fillGap f.tag f.next j).putLine f.tag j d).modFrame f.tag
    (fun f => { f with real := f.real ++ [j], next := j + 1 })

/-- A whole OB line goes on. -/
def State.obReal (s : State) (f : Frame) (i : Nat) (d : List Byte) : State :=
  (s.modFrame f.tag (fun f => { f with ob := mapIns natLt f.ob i d, nextOb := i + 1 })).rawPut f (s.rawAddr f i) d

/-- A line or OB line of one port, of the right length and frame: geometry, order, and the joining of a pair's halves. -/
def State.lineIn (s : State) (p : Nat) (ob : Bool) (f : Frame) (j : Nat) (d : List Byte) : State :=
  let go (s : State) (d : List Byte) : State :=
    if ob then s.obReal f j d else s.lineReal f j (slice d 0 f.lineBytes)
  if (if ob then f.obLines else f.lines) ≤ j then s.lineLong f
  else if j < (if ob then f.nextOb else f.next) ∨
      s.lnk.halves.any (fun h => decide (h.port = p ∧ h.ob = ob ∧ j ≤ h.num)) then s.lostFor p (R.LINK_ERR_SEQ p)
  else if f.port ≠ 2 then go s d
  else
    match s.lnk.halves.find? (fun h => decide (h.port ≠ p ∧ h.ob = ob ∧ h.num = j)) with
    | some h =>
      let cut (x : List Byte) := slice x 0 (s.portBytes 0)
      let whole := if p = 0 then cut d ++ cut h.data else cut h.data ++ cut d
      go (s.modLnk (fun l => { l with halves := l.halves.erase h })) (slice whole 0 f.lineBytes)
    | none => s.modLnk (fun l => { l with halves := l.halves ++ [⟨p, ob, j, d⟩] })

/-- A LINE or OB packet (R106, R113, R126, R127). -/
def State.linePacket (s : State) (p : Nat) (ob full : Bool) (k : Pkt) : State :=
  let lp := s.lport p
  let v := k.arg / 2 ^ 16
  let j := k.arg % 2 ^ 14
  if k.len ≠ s.portLen p then s.lostFor p (R.LINK_ERR_LEN p)
  else
    let cur := match s.openFrame lp with
      | some f => decide (f.fcnt % 256 = v)
      | none => false
    let s1 := if !cur && !ob && s.fcntNew lp v then
        (s.startFrame lp (s.fcntGuess lp v) 0 1 0).linkFlag p (R.LINK_ERR_FS_LOST p)
      else s
    match s1.openFrame (s1.lport p) with
    | some f =>
      if f.fcnt % 256 ≠ v then s1.lostFor p (R.LINK_ERR_SEQ p)
      else if f.overflow.isSome then s1
      else if full then s1.frameOverflow f (if ob then f.next else max f.next j)
      else if f.mismatch then s1.lost p
      else s1.lineIn p ob f j k.payload
    | none => s1.lostFor p (R.LINK_ERR_SEQ p)

/-- LINE_PACKET. -/
def execLinePacket (port : Fin 2) (pkt : Packet) (s : State) : Res :=
  .next (s.packet port (· == 0x10) pkt fun x s => s.linePacket port false (s.fifoFull port pkt x) x)

/-- OB_PACKET. -/
def execObPacket (port : Fin 2) (pkt : Packet) (s : State) : Res :=
  .next (s.packet port (· == 0x11) pkt fun x s => s.linePacket port true (s.fifoFull port pkt x) x)

/-- EMB_PACKET (R106): up to 32 KiB for a frame; what lies beyond is counted in words of 8 bytes. -/
def execEmbPacket (port : Fin 2) (pkt : Packet) (s : State) : Res :=
  .next (s.packet port (· == 0x20) pkt fun x s =>
    match s.openFrame (s.lport port) with
    | some f =>
      if f.fcnt % 256 ≠ x.arg / 2 ^ 16 ∨ f.overflow.isSome then s
      else if s.fifoFull port pkt x then s.frameOverflow f f.next
      else
        let room := 32768 - f.emb.length
        (s.modFrame f.tag (fun f => { f with emb := f.emb ++ x.payload.take room })).addSat (R.VENDOR_CNT_EMB_DROP port)
          ((x.payload.length - room) / 8)
    | none => s)

/-- VENDOR_PACKET (R105): discarded and counted. -/
def execVendorPacket (port : Fin 2) (pkt : Packet) (s : State) : Res :=
  .next (s.packet port (· / 16 == 3) pkt fun _ s => s.inc (R.VENDOR_CNT_VENDOR port))

/-- PAIR_TIMEOUT (R113): the halves of a line or OB line that `port` has waiting are lost, or, for an FS, every line of
the frame is, the waiting halves among them. -/
def execPairTimeout (port : Fin 2) (fs : Bool) (s : State) : Res :=
  .next (if fs then
    match s.openFrame 2 with
    | some f =>
      if f.fsMask = 3 then s
      else (s.lnk.halves.foldl (fun (s : State) h => s.lost h.port)
        ((s.modFrame f.tag (fun f => { f with mismatch := true })).modLnk (fun l => { l with halves := [] }))).linkFlag port
        (R.LINK_ERR_PAIR port)
    | none => s
  else s.dropHalves (s.lnk.halves.filter (fun h => decide (h.port = port.val)) |>.take 1))

/-- A port comes into use (R124): it trains, or, with its lanes' map already known, re-aligns (spec/04 R109). -/
def State.portEnable (s : State) (p : Nat) : State :=
  let s1 := s.set (R.LINK_CTL_EN p) 1
  let lp := s1.lport p
  let known := (List.range (s.srxN p)).all (fun i => s.on (R.LMAP_V p (i / 4) (i % 4)))
  (s1.sets [(R.LINK_STAT_STATE p, if known then 5 else 1), (I.PORT_FRESH lp, 1), (I.FCNT_LAST lp, 0)]).when (!known)
    (·.set (I.SRX_TRAINED p) 0)

/-- PORT_ENABLE. -/
def execPortEnable (port : Fin 2) (s : State) : Res :=
  .next (s.hostToBead 1 port fun s => if s.on (R.LINK_CTL_EN port) then s else s.portEnable port)

/-- A port goes out of use (R123): its open frame, or the pair's, closes at once; a commit that waits is applied (spec/22
R505). -/
def State.portDisable (s : State) (p : Nat) : State :=
  let lp := s.lport p
  (((s.set (R.LINK_CTL_EN p) 0).set (R.LINK_STAT_STATE p) 0).when (s.openFrame lp).isSome
    (fun s => (s.closeFrame lp).synthWaiting lp)).commitLnk p

/-- PORT_DISABLE. -/
def execPortDisable (port : Fin 2) (s : State) : Res :=
  .next (s.hostToBead 1 port fun s => if s.on (R.LINK_CTL_EN port) then s.portDisable port else s)

/-- FRAME_TIMEOUT (R123). -/
def execFrameTimeout (port : Fin 2) (s : State) : Res :=
  let lp := s.lport port
  .next (if (s.openFrame lp).isSome then (s.closeFrame lp).synthWaiting lp else s)

/-- SLOT_DEADLINE (R128): a slot that no frame start has served. -/
def execSlotDeadline (port : Fin 2) (s : State) : Res :=
  let lp := s.lport port
  .next (if s.isolated 1 ∨ s.get (R.EXS_CTL_MODE port) = 0 ∨ !s.on (I.EXS_SLOT port) ∨ (lp = 2 ∧ port.val = 1) then s
    else
      let s1 := s.slotAfter port (s.get (I.EXS_SLOT port) - 1)
      if !s.on (R.LINK_CTL_EN port) then s1
      else if (s1.openFrame lp).isSome then s1.set (I.SYNTH_WAIT port) 1
      else s1.synth lp)

end Sys2Proof.Machine
end

