-- ==== Sys2Proof/Machine/Img.lean ====
section
/-!
DEFINITION. The image rods' stripe jobs (spec/06 R145 to R162, spec/07 R184 to R202), the end of a MOT set, and the LUT
slots.
-/

namespace Sys2Proof.Machine

/-! ### The next job of a rod (R140, R145, R161) -/

/-- A tag is later than another, which 0 leaves open. -/
def after0 (a b : Nat) : Bool := decide (b = 0) || tagLater a b

/-- The frame whose stripe a rod takes next: the oldest that it has not taken, closed in the quality position. -/
def State.imgNext (s : State) (n : Nat) : Option (Frame × Nat) :=
  match s.rodStripe (2 + n), s.strg.source with
  | some k, some p =>
    if s.on (I.STRIPE_OUT k) then none
    else
      let last := s.get (I.IMG_LAST n)
      ((s.frames.filter (fun f => decide (f.port = p) && !f.gone && after0 f.tag last &&
        (f.closed || !s.tnrQuality) && s.stripeWaits f k &&
        decide (s.entryState f.tag k = some 0 ∨ last ≠ 0))).getLast?).map
        (fun f => (f, k))
  | _, _ => none

/-- The previous frame of the source. -/
def State.prevFrame (s : State) (f : Frame) : Option Frame :=
  if f.fresh then none else s.frames.find? (fun g => decide (g.port = f.port) && tagLater f.tag g.tag)

/-- TNR is forced to ZERO (spec/19 R465). -/
def State.tnrForced (s : State) : Bool := decide (3 ≤ s.get R.THM_STAT_STEP)

/-- A rod's TNR is strung and takes vectors: MODE MC, not forced. -/
def State.tnrVectors (s : State) (n : Nat) : Bool :=
  s.strg.strungBead (2 + n) 4 && decide (s.inForce (R.TNR_CFG_MODE n) = 1) && !s.tnrForced

/-- The vector set that a job of frame `f` uses: complete, of the right tag and dimensions (R161). -/
def State.tnrSet (s : State) (f : Frame) : Option Nat :=
  let g := if s.tnrQuality then some f else s.prevFrame f
  match g.bind (fun g => s.vecSet g.tag) with
  | some a =>
    let h := s.trayRead a 12
    if fieldLE h 6 2 = ceilDiv f.width 32 ∧ fieldLE h 8 2 = ceilDiv f.lines 32 then some a else none
  | none => none

/-! ### Commits (R145, R133) -/

/-- Rules and commit of an image rod's domain; levels of BLK start afresh where the filter says so (R148). -/
def State.imgCommit (s : State) (n : Nat) : State × Bool :=
  let rod := 2 + n
  let wasFixed := decide (s.inForce (R.BLK_CFG_MODE n) = 0)
  let r := s.tryCommit rod 0 (imgRules n s (s.asked rod 0) 0)
  if r.2 then
    let all := wasFixed && decide (r.1.inForce (R.BLK_CFG_MODE n) = 1)
    ((List.range 12).foldl (fun (t : State) c =>
      let t1 := if all || t.on (I.BLK_WR n c) then t.set (I.BLK_B n c) 0 else t
      t1.set (I.BLK_WR n c) 0) r.1, true)
  else r

/-- The commit point of an image rod at the start of a job of tag `tag`: an exposure set's, or its own request's. -/
def State.imgPoint (s : State) (n tag : Nat) : State :=
  let rod := 2 + n
  let due := s.binds.filter (fun b => decide (b.1 = rod) && !tagLater b.2.1 tag)
  match due.getLast? with
  | some b =>
    let r := ({ s with binds := s.binds.filter (fun b => !due.contains b) } : State).imgCommit n
    let s1 := r.1.set (I.AT_NEXT n) 0
    if r.2 then s1
    else
      (s1.set (R.EXQ_STAT_BIND_FAIL b.2.2) 1).raise (E.bindFail b.2.2)
  | none =>
  if s.commitPending rod 0 && !s.boundLater rod && s.binds.all (fun b => decide (b.1 ≠ rod)) then
    let at_ := s.get (R.COMMIT_AT_TAG n)
    if at_ = 0 ∨ s.on (I.AT_NEXT n) ∨ !tagLater at_ tag then (s.imgCommit n).1.set (I.AT_NEXT n) 0 else s
  else s

/-- A commit request of an image rod (R145): pending, at the next job where it came too late, at once where nothing keeps the
rod from it. -/
def State.imgAsk (s : State) (n : Nat) : State :=
  let rod := 2 + n
  let s1 := s.set (R.COMMIT_PEND rod) (setBit (s.get (R.COMMIT_PEND rod)) 0)
  let at_ := s.get (R.COMMIT_AT_TAG n)
  if at_ ≠ 0 ∧ s.on (I.IMG_LAST n) ∧ !tagLater at_ (s.get (I.IMG_LAST n)) then
    ((s1.set (I.AT_NEXT n) 1).set (R.IMG_STAT_AT_MISSED n) 1).raise (E.atMissed n)
  else s1

/-! ### Black level (R147, R148) -/

/-- Window samples of gain `g` and class `c` of a frame's OB lines. -/
def State.obSamples (s : State) (n : Nat) (f : Frame) (g c : Nat) : List Nat :=
  let x0 := s.inForce (R.BLK_OBWIN_OB_X0 n)
  let px := max 1 (s.inForce (R.DMS_MOSAIC_PX n))
  let py := max 1 (s.inForce (R.DMS_MOSAIC_PY n))
  f.ob.flatMap (fun e =>
    let l := (lineSamples e.2 (10 + 2 * f.depth) (1 + f.dcg) x0 (s.inForce (R.BLK_OBWIN_OB_W n))).getD g []
    (l.zipIdx).filterMap (fun v =>
      if s.inForce (R.DMS_MAP_CLS n (e.1 % py) ((x0 + v.2) % px)) = c then some v.1 else none))

/-- One step of the filter for gain and class `i = 6 g + c`; none where fewer than 64 samples qualify. -/
def State.blackStep (s : State) (n : Nat) (f : Frame) (i : Nat) : Option Nat :=
  let b := s.blackLevel n i
  let clip := s.inForce (R.BLK_CFG_CLIP n)
  let l := (s.obSamples n f (i / 6) (i % 6)).filter (fun v => decide (timeDist (16 * v) b ≤ 16 * clip))
  if l.length < 64 then none
  else
    let den := l.length * 2 ^ s.inForce (R.BLK_CFG_K n)
    let num := b * (den - l.length) + 16 * l.foldl (· + ·) 0
    some ((2 * num + den) / (2 * den))

/-- BLK measures a frame (R148). -/
def State.blackMeasure (s : State) (n : Nat) (f : Frame) : State :=
  if f.ob.isEmpty then (s.set (R.BLK_STAT_NO_OB n) 1).raise (E.blkNoOb n)
  else if s.inForce (R.BLK_CFG_MODE n) ≠ 1 then s
  else
    let present (i : Nat) : Bool :=
      decide (i / 6 ≤ f.dcg) && (mosaicCells s.inForce n).any (fun e => decide (e.2.2 = i % 6))
    (List.range 12).foldl (fun (t : State) i =>
      if present i then match s.blackStep n f i with
        | some b => t.set (I.BLK_B n i) (b + 1)
        | none => t.set (R.BLK_STAT_CNT_LOW n) 1
      else t) s

/-! ### Defect map and shading grids (R150, R155) -/

/-- An entry of the defect map is valid. -/
def mapEntryOk (b : List Byte) : Bool :=
  let kind := fieldLE b 4 1
  let smp := fieldLE b 5 1
  let len := fieldLE b 6 2
  decide (fieldLE b 0 2 ≤ 24575 ∧ fieldLE b 2 2 ≤ 10239 ∧ kind ≤ 2 ∧ 1 ≤ smp ∧ smp ≤ 3 ∧ 1 ≤ len ∧ len ≤ 1024 ∧
    (kind = 0 → len = 1))

/-- The columns of an entry meet an input span. -/
def mapEntryMeets (b : List Byte) (x0 x1 : Nat) : Bool :=
  let x := fieldLE b 0 2
  let x2 := if fieldLE b 4 1 = 2 then x + fieldLE b 6 2 else x + 1
  decide (x < x1 ∧ x0 < x2)

/-- The entries of a defect map that a stripe uses, whether one was skipped, whether a read failed: only those that meet the input
span are read, and entries after a failed read are not used. -/
def State.defectMap (s : State) (n x0 x1 : Nat) : List (List Byte) × Bool × Bool :=
  let region := s.inForce (R.DPC_MAP_REGION n)
  let base := 8 * s.inForce (R.DPC_MAP_OFF8 n)
  let met := (List.range (s.inForce (R.DPC_MAP_CNT_CNT n))).filter (fun i => mapEntryMeets (s.dramRead region (base + 8 * i) 8) x0 x1)
  let r := met.foldl
    (fun (acc : List (List Byte) × Bool × Bool × Nat) i =>
      if acc.2.2.1 then acc
      else if s.dramPoison region (base + 8 * i) 8 then (acc.1, acc.2.1, true, acc.2.2.2)
      else
        let b := s.dramRead region (base + 8 * i) 8
        let key := (fieldLE b 2 2 * 32768 + fieldLE b 0 2) + 1
        if !mapEntryOk b || decide (key < acc.2.2.2) then (acc.1, true, acc.2.2)
        else (acc.1 ++ [b], acc.2.1, acc.2.2.1, key)) ([], false, false, 0)
  (r.1, r.2.1, r.2.2.1)

/-- DPC reads its map at the start of a job: the entries in use, and what the read records. -/
def State.dpcStart (s : State) (n x0 x1 : Nat) : List (List Byte) × State :=
  if s.strg.strungBead (2 + n) 1 ∧ s.inForce (R.DPC_MAP_CNT_EN n) = 1 then
    let m := s.defectMap n x0 x1
    let s1 := if m.2.1 then s.set (R.DPC_STAT_MAP_ORDER n) 1 else s
    (m.1, if m.2.2 then (s1.set (R.DPC_STAT_MAP_ERR n) 1).raise (E.dpcMapErr n) else s1)
  else ([], s)

/-- Bytes of the nodes of a grid slot. -/
def gridBytes : Nat := 25740

/-- An image rod holds new grids. -/
def State.gridPut (s : State) (rod : Nat) (a b : List Byte) : State :=
  { s with grids := s.grids.filter (fun g => decide (g.1 ≠ rod)) ++ [(rod, a, b)] }

/-- First byte and length of the nodes of grid row `j` that an input span needs: from the node before its first pixel to that after its
last (R154). -/
def gridNeed (w x0 x1 j : Nat) : Nat × Nat :=
  let i (x : Nat) : Nat := min ((2 * x + 1) * 32 / max 1 w) 63
  (12 * (65 * j + i x0), 12 * (i (x1 - 1) + 2 - i x0))

/-- LSC copies what its span needs of a grid slot over `old`, row by row, until a read fails; the answer tells whether none did. -/
def State.gridCopy (s : State) (rod w x0 x1 base : Nat) (old : List Byte) : List Byte × Bool × State :=
  (List.range 33).foldl (fun (a : List Byte × Bool × State) j =>
    if !a.2.1 then a
    else
      let e := gridNeed w x0 x1 j
      let r := a.2.2.trayReadAs rod (rodPort rod) (base + e.1) e.2
      (a.1.take e.1 ++ r.1 ++ a.1.drop (e.1 + e.2), decide (r.2.1 = 0), r.2.2)) (old, true, s)

/-- LSC copies its grids at the start of a job, for the columns `x0` to `x1 - 1` of its input span (R155); a copy that fails leaves
those of the job before. What a rod that has never copied any then holds is unstated. -/
def State.lscStart (s : State) (n w x0 x1 : Nat) : State :=
  if s.strg.strungBead (2 + n) 2 then
    let rod := 2 + n
    let base := s.inForce (R.LSC_CFG_TABLE n) * granBytes
    let old := (s.grids.find? (fun g => decide (g.1 = rod))).getD (rod, zeros gridBytes, zeros gridBytes)
    let a := s.gridCopy rod w x0 x1 (base + 32768 * s.inForce (R.LSC_SEL_GRID_A n)) old.2.1
    let b := a.2.2.gridCopy rod w x0 x1 (base + 32768 * s.inForce (R.LSC_SEL_GRID_B n)) old.2.2
    if a.2.1 && b.2.1 then b.2.2.gridPut rod a.1 b.1
    else
      let s1 := (b.2.2.set (R.LSC_CFG_GRID_ERR n) 1).raise (E.lscGridErr n)
      if s1.grids.any (fun g => decide (g.1 = rod)) then s1
      else s1.drawn.drawn.gridPut rod (s1.freeBytes gridBytes) (s1.drawn.freeBytes gridBytes)
  else s

/-! ### The start of a job -/

/-- The LUT slot of a job, with FELL_BACK where SLOT is BAD (spec/07 R186). -/
def State.lutPick (s : State) (n : Nat) : Option Nat × State :=
  if s.strg.strungBead (2 + n) 8 ∧ s.inForce (R.LUT_CFG_EN n) = 1 then
    let a := s.inForce (R.LUT_CFG_SLOT n)
    let b := s.inForce (R.LUT_CFG_FALLBACK n)
    if s.get (R.SLOT_STAT_STATE a) = 2 then (some a, s)
    else
      let s1 := (s.set (R.LUT_STAT_FELL_BACK n) 1).raise (E.lutFallback n)
      (if s.get (R.SLOT_STAT_STATE b) = 2 then some b else none, s1)
  else (none, s)

/-- The usable reference stripes for a frame (R160). -/
def State.refsFor (s : State) (f : Frame) : List RefStripe :=
  match s.prevFrame f with
  | some g => s.refs.filter (fun r => r.usable g.tag f)
  | none => []

/-- TNR at the start of a job (R158, R160, R161): its vector set, whether it uses a reference, whether that of its stripe is usable. -/
def State.tnrStart (s : State) (n k : Nat) (f : Frame) (poison : Bool) : (Option Nat × Bool × Bool) × State :=
  if s.strg.strungBead (2 + n) 4 ∧ s.inForce (R.TNR_CFG_MODE n) ≠ 0 then
    let bad := poison || !(s.refsFor f).any (fun r => decide (r.k = k))
    let s1 := if bad then ((s.set (R.TNR_STAT_REF_RESET n) 1).inc (R.TNR_STAT_REF_CNT n)).raise (E.tnrRefReset n) else s
    if s1.tnrVectors n then
      match s1.tnrSet f with
      | some a => ((some a, true, !bad), s1)
      | none => ((none, true, !bad), ((s1.set (R.TNR_STAT_VEC_MISS n) 1).inc (R.TNR_STAT_MISS_CNT n)).raise (E.tnrVecMiss n))
    else ((none, true, !bad), s1)
  else ((none, false, false), s)

/-- The job of a stripe. -/
def stripeJob (n k tag : Nat) : Job := ⟨2 + n, 0, 2, k, tag⟩

/-- A job begins. -/
def State.imgStart (s : State) (n k : Nat) (f : Frame) (poison : Bool) : State :=
  let s1 := s.imgPoint n f.tag
  let spn := stripeSpan f.width s1.stripes k
  let m := s1.dpcStart n (spn.1 - 64) (spn.1 + spn.2 + 64)
  let s2 := m.2.lscStart n f.width (spn.1 - 64) (min f.width (spn.1 + spn.2 + 64))
  let s3 := if s2.tnrQuality then s2.blackMeasure n f else s2
  let l := s3.lutPick n
  let v := l.2.tnrStart n k f poison
  let s4 := v.2.sets [(R.STRIPE_IDX n, k), (R.STRIPE_FIRST n, spn.1), (R.STRIPE_WIDTH n, spn.2), (I.IMG_LAST n, f.tag)]
  ({ s4 with imgs := s4.imgs ++ [⟨2 + n, k, f.tag, v.1.1, v.1.2.1, l.1, v.1.2.2, m.1⟩] } : State).beginJob (stripeJob n k f.tag)

/-- The job of a rod may begin: the rod runs and is idle, the frame is there. -/
def State.imgReady (s : State) (n : Nat) : Option (Frame × Nat) :=
  if s.isolated (2 + n) || s.imgs.any (fun j => decide (j.rod = 2 + n)) then none
  else (s.imgNext n).filter (fun f => !s.draining (2 + n) f.1.tag)

/-- IMG_JOB_START (R145): in the quality position with MODE MC, the job waits for the set of its frame. -/
def execImgJobStart (n : Fin 5) (refPoison : Bool) (s : State) : Res :=
  .next (match s.imgReady n with
    | some (f, k) =>
      if s.tnrQuality && s.tnrVectors n && (s.vecSet f.tag).isNone then s else s.imgStart n k f refPoison
    | none => s)

/-- VEC_WAIT_TIMEOUT (R161): VEC_WAIT µs after the frame's close the job begins without its set. -/
def execVecWaitTimeout (n : Fin 5) (refPoison : Bool) (s : State) : Res :=
  .next (match s.imgReady n with
    | some (f, k) => if s.tnrQuality && (s.vecSet f.tag).isNone then s.imgStart n k f refPoison else s
    | none => s)

/-! ### The end of a job -/

/-- Lines and columns of the picture that a stripe covers, for each plane: offset in the buffer and bytes of each line. -/
def stripeRuns (fmt w h first cw : Nat) : List (Nat × Nat) :=
  let lay := planeLayout fmt w h
  ((planesOf fmt w h).zipIdx).flatMap (fun p =>
    let o := lay.getD p.2 (0, 0)
    let lo := p.1.1 * first / max 1 w
    let hi := p.1.1 * (first + cw) / max 1 w
    (List.range p.1.2).map (fun y => (o.1 + o.2 * y + lo, hi - lo)))

/-- What the beads make of the stripe of a job: the front end, then the back half (R146, spec/07 R177). -/
def State.jobFront (s : State) (j : ImgJob) (f : Frame) : FrontOut :=
  let w := s.work (j.rod - 2) j.k f
  let g := (s.grids.find? (fun g => decide (g.1 = j.rod))).getD (0, [], [])
  let refs := if !j.ref then none else some ((s.refsFor f).filter (fun r => j.refOk || decide (r.k ≠ j.k)))
  s.front w j.map g.2.1 g.2.2 refs j.vec
def State.jobBack (s : State) (j : ImgJob) (f : Frame) (clean : Grid Nat) : BackOut :=
  s.back (s.work (j.rod - 2) j.k f) clean j.lut s.stsRaw

/-- Write the lines of a stripe's columns into the picture buffer. -/
def State.putStripe (s : State) (tag first cw : Nat) (lines : List (List Byte)) : State :=
  match s.pic tag, s.frame tag with
  | some ⟨_, some slot, _⟩, some f =>
    let d := s.trayRead (s.descAddr slot) 8
    let buf := fieldLE d 5 1
    if buf = 0xFF then s
    else
      let base := buf * s.get R.PIC_RING_BUF_MIB * 2 ^ 20
      ((stripeRuns (fieldLE d 4 1) f.width f.lines first cw).zip lines).foldl (fun (t : State) r =>
        t.dramPut (t.get R.PIC_RING_REGION) (base + r.1.1) r.2) s
  | _, _ => s

/-- A rod writes the section of its stripe (spec/07 R199 to R202). -/
def State.stsWrite (s : State) (n k : Nat) (f : Frame) (first cw : Nat) (section_ : List Byte) : State :=
  match s.pic f.tag with
  | some p =>
    if s.stsStrung then
      let a := s.stsAddr p.blk + 256 + 73728 * k
      let used := (f.real.filter (fun y => decide (y < f.lines))).length
      ((s.trayPut (2 + n) (a + 256) section_).trayPut (2 + n) a (stsHead f.tag 1 k first cw used)).raise (E.stsDone n)
    else s
  | none => s

/-- DCG writes its tag and sums (R156). -/
def State.dcgEnd (s : State) (n tag : Nat) (sums : Nat × Nat × Nat) : State :=
  if s.strg.strungBead (2 + n) 3 then
    (s.sets [(R.DCG_SUM_S n 0, tag), (R.DCG_SUM_S n 1, sums.1), (R.DCG_SUM_S n 2, sums.2.1), (R.DCG_SUM_S n 3, sums.2.2)]).raise (E.dcgSum n)
  else s

/-- A count that a job makes of its pixels: at least those of its core, at most those of its input span; which overlap columns it
counts is unstated. -/
def State.jobCount (s : State) (w : Work) (hit : Nat → Nat → Bool) : Nat :=
  let a := (w.core.filter (fun p => hit p.1 p.2)).length
  let b := (w.span.filter (fun p => hit p.1 p.2)).length
  a + s.free % (b - a + 1)

/-- DPC's count of detections, saturating, and UNFIX (R151, R152). -/
def State.dpcEnd (s : State) (n : Nat) (w : Work) (o : FrontOut) : State :=
  if s.strg.strungBead (2 + n) 1 then
    let s1 := (s.set (R.DPC_STAT_DYN_CNT n) (min (s.jobCount w (fun x y => w.tap false o.det x y)) (2 ^ 24 - 1))).drawn
    let stuck := s1.jobCount w (fun x y => w.tap false o.stuck x y)
    if stuck ≠ 0 then s1.drawn.set (R.DPC_STAT_UNFIX n) 1 else s1.drawn
  else s

/-- The TNR reference takes a stripe; of each stripe the last two stand. -/
def State.refPut (s : State) (r : RefStripe) : State :=
  { s with refs := r :: (s.refs.filter (fun q => decide (q.k = r.k))).take 1 ++ s.refs.filter (fun q => decide (q.k ≠ r.k)) }

/-- BUF of the descriptor of a picture. -/
def State.picBuf (s : State) (tag : Nat) : Nat :=
  match s.pic tag with
  | some ⟨_, some slot, _⟩ => fieldLE (s.trayRead (s.descAddr slot) 8) 5 1
  | _ => 0xFF

/-- A job ends: the picture's columns and the stripe entry, the statistics section, DCG's and DPC's results, the new reference, the LUT
reads that met POISON. -/
def State.imgEnd (s : State) (j : ImgJob) : State :=
  let n := j.rod - 2
  match s.frame j.tag with
  | none => { s with imgs := s.imgs.erase j }
  | some f =>
    let w := s.work n j.k f
    let fo := s.jobFront j f
    let bo := s.jobBack j f fo.clean
    let s1 := if s.tnrQuality then s else s.blackMeasure n f
    let wrote := decide (s1.entryState j.tag j.k = some 0)
    let measured := s1.stripeWaits f j.k
    let s2 := (s1.putStripe j.tag w.first w.cw bo.lines).writeEntry j.rod j.tag j.k (s1.picBuf j.tag) 1 j.tag
    let s3 := if wrote then s2.sets [(I.STRIPE_BUF j.k, s2.picBuf j.tag), (I.STRIPE_TAG j.k, j.tag)] else s2
    let s4 := if measured then s3.stsWrite n j.k f w.first w.cw bo.sts else s3
    let s5 := (s4.dcgEnd n j.tag fo.sums).dpcEnd n w fo
    let s6 := if j.ref then s5.refPut (w.refOf j.k fo.clean) else s5
    let bad := s6.jobCount w (fun x y => bo.poisoned.contains (x, y))
    let s7 := if bad ≠ 0 then
        ((s6.drawn.set (R.LUT_STAT_POISON n) 1).addSat (R.LUT_STAT_POISON_CNT n) bad).raise (E.lutPoison n)
      else s6
    let status := match s7.frame j.tag with | some g => if g.pictured.ctags = 0 then 0 else 3 | none => 0
    ((({ s7 with imgs := s7.imgs.erase j } : State).endJob (stripeJob n j.k j.tag) status)).encKick

/-- Tray words that the job's LUT reads find upset (spec/01 R24). -/
def State.trayUpset (s : State) (l : List Nat) : State :=
  { s with trayBad := s.trayBad ++ (l.eraseDups.filter (fun w => !s.trayBad.contains w)) }

/-- IMG_JOB_END (R196): in the latency position a job ends after its frame has closed. -/
def execImgJobEnd (n : Fin 5) (upset : List (BitVec 23)) (s : State) : Res :=
  .next (match s.imgs.find? (fun j => decide (j.rod = 2 + n.val)) with
    | some j => if (s.frame j.tag).any (fun f => !f.closed) then s else (s.trayUpset (upset.map (·.toNat))).imgEnd j
    | none => s)

/-! ### The dual-gain ratio (R157) -/

/-- The value of a binary32 number that is positive and finite, as numerator and denominator. -/
def bin32 (v : Nat) : Nat × Nat :=
  let e := v / 2 ^ 23 % 256
  let m := if e = 0 then v % 2 ^ 23 else v % 2 ^ 23 + 2 ^ 23
  let e1 := if e = 0 then 1 else e
  if 2 ^ 31 ≤ v then (0, 1) else if 150 ≤ e1 then (m * 2 ^ (e1 - 150), 1) else (m, 2 ^ (150 - e1))

/-- The sum of fractions. -/
def fracSum (l : List (Nat × Nat)) : Nat × Nat := l.foldl (fun a b => (a.1 * b.2 + b.1 * a.2, a.2 * b.2)) (0, 1)

/-- The new ratio from the sums of the active rods; none where too few pixels or too far a value. -/
def State.dcgRatio (s : State) (rods : List Nat) (n : Nat) : Option Nat :=
  let total := rods.foldl (fun a r => a + s.get (R.DCG_SUM_S r 1)) 0
  let hl := fracSum (rods.map (fun r => bin32 (s.get (R.DCG_SUM_S r 2))))
  let ll := fracSum (rods.map (fun r => bin32 (s.get (R.DCG_SUM_S r 3))))
  let g := s.inForce (R.DCG_RATIO_G n)
  let num := hl.1 * ll.2 * 65536
  let den := hl.2 * ll.1
  if total < 4096 ∨ den = 0 ∨ 2 * num < g * den ∨ 2 * g * den < num then none
  else
    let k := 2 ^ s.inForce (R.DCG_RATIO_K n)
    some ((2 * (g * den * (k - 1) + num) + den * k) / (2 * den * k))

/-- The tag two frames of the source after `n` (R157): that of a frame that has started, else the one expected from the last step between
tags of the source (notes/assumptions/610.md). -/
def State.tagAfter (s : State) (n : Nat) : Nat :=
  let own := (s.frames.filter (fun f => decide (some f.port = s.strg.source))).map (·.tag)
  let step := match own with | a :: b :: _ => (a + 2 ^ 32 - b) % 2 ^ 32 | _ => 1
  let later := (own.filter (fun t => tagLater t n)).reverse
  (match later with
    | _ :: b :: _ => b
    | [a] => a + step
    | [] => n + 2 * step) % 2 ^ 32

/-- DCG_RATIO_UPDATE (R157): firmware stages the ratio in every active rod, and in the armed spare, for the second frame of
the source after `tag`. -/
def execDcgRatioUpdate (tag : BitVec 32) (s : State) : Res :=
  let rods := (List.range s.stripes).map (fun k => s.stripeRod k - 2)
  .next (match rods with
    | [] => s
    | n :: _ =>
      if s.inForce (R.DCG_RATIO_AUTO n) = 1 ∧ rods.all (fun r => decide (s.get (R.DCG_SUM_S r 0) = tag.toNat)) then
        match s.dcgRatio rods n with
        | some g =>
          let all := if s.spareArmed ∧ !rods.contains 4 then rods ++ [4] else rods
          all.foldl (fun (t : State) r => if t.isolated (2 + r) then t else
            ((t.set (R.DCG_RATIO_G r) g).set (R.COMMIT_AT_TAG r) (s.tagAfter tag.toNat)).imgAsk r) s
        | none => s
      else s)

/-! ### MOT (R165, R167) -/

/-- MOT_SET_COMPLETE (R167): the set of the oldest open job, whose frame has closed, is complete in its slot. Without a previous frame,
or where MOT did not have it, every V is 0. -/
def execMotSetComplete (s : State) : Res :=
  .next (match s.jobs.find? (fun j => decide (j.rod = 7)) with
    | none => s
    | some j =>
      match s.frame j.tag with
      | none => s.endJob j 4
      | some f =>
        if !f.closed then s
        else
          match ((List.range (s.inForce R.VST_RING_DEPTH)).map (s.vecSlot f)).find? (fun a => decide (fieldLE (s.trayRead a 4) 0 4 = f.tag)) with
          | none => s.endJob j 4
          | some a =>
            let part := decide ((f.real.filter (fun y => decide (y < f.lines))).length < f.lines)
            let lumas := match s.lumaOf f.tag, (s.prevFrame f).bind (fun g => s.lumaOf g.tag) with
              | some a, some b => some (a, b)
              | _, _ => none
            let n := 4 * vecBlocks f.width f.lines
            let past : List Byte := match (s.prevFrame f).bind (fun g => s.vecSet g.tag) with
              | some b => s.trayRead (b + 64) n
              | none => []
            let s1 := s.trayPut 7 (a + 64) (match lumas with
              | some l => s.motVectors f.width f.lines l.1 l.2 past
              | none => zeros n)
            let s2 := s1.trayPut 7 a (leBytes 4 f.tag ++ leBytes 2 f.setId ++ leBytes 2 (ceilDiv f.width 32) ++
              leBytes 2 (ceilDiv f.lines 32) ++ leBytes 2 (1 + 2 * ofBool part + 4 * ofBool lumas.isNone) ++
              timeBytes s1.now ++ zeros 40)
            ((s2.set R.VST_LAST_TAG f.tag).endJob j (if f.ctags = 0 then 0 else 3)).encKick)

/-! ### LUT slots (spec/07 R184 to R186) -/

/-- Bytes of a LUT. -/
def lutBytes : Nat := 1647750

/-- A rod names slot `m`: LUT strung, the rod in use, EN in its staged or in-force set with `m` as SLOT or FALLBACK. -/
def State.lutNamed (s : State) (m : Nat) : Bool :=
  (List.range 5).any (fun n => s.strg.strungBead (2 + n) 8 && s.imgInUse n &&
    [s.get, s.inForce].any (fun g => decide (g (R.LUT_CFG_EN n) = 1 ∧
      (g (R.LUT_CFG_SLOT n) = m ∨ g (R.LUT_CFG_FALLBACK n) = m))))

/-- Address of SLOTn.CMD. -/
def lutCmdAddr (m : Nat) : Nat := 0xC508 + 16 * m

/-- LUT_INVAL (R185). -/
def execLutInval (m : Fin 4) (s : State) : Res :=
  .next (s.hostTo 0 fun s => if s.lutNamed m then s.wrRange 0 (lutCmdAddr m) else s.set (R.SLOT_STAT_STATE m) 0)

/-- LUT_CHECK (R185): ignored unless the slot is EMPTY or BAD. -/
def execLutCheck (m : Fin 4) (s : State) : Res :=
  .next (s.hostTo 0 fun s =>
    let st := s.get (R.SLOT_STAT_STATE m)
    if st = 0 ∨ st = 3 then s.set (R.SLOT_STAT_STATE m) 1 else s)

/-- A slot becomes BAD. -/
def State.lutBad (s : State) (m : Nat) : State :=
  ((s.set (R.SLOT_STAT_STATE m) 3).set (R.SLOT_STAT_BAD_EV m) 1).raise (E.lutBad)

/-- The table of a slot is whole and matches CRC. -/
def State.lutGood (s : State) (m : Nat) : Bool × State :=
  let r := s.trayReadAs 0 0 (s.get (R.SLOT_BASE_GRAN m) * granBytes) lutBytes
  (decide (r.2.1 = 0) && decide (crc32 r.1 = s.get (R.SLOT_CRC_CRC m)), r.2.2)

/-- LUT_CHECK_DONE (R185). -/
def execLutCheckDone (m : Fin 4) (s : State) : Res :=
  .next (if s.get (R.SLOT_STAT_STATE m) = 1 then
      let r := s.lutGood m
      if r.1 then (r.2.set (R.SLOT_STAT_STATE m) 2).raise E.lutReady else r.2.lutBad m
    else s)

/-- LUT_RECHECK (R186): the next READY slot in turn. -/
def execLutRecheck (s : State) : Res :=
  .next (match ((List.range 4).map (fun i => (s.get I.LUT_PTR + i) % 4)).find? (fun m => decide (s.get (R.SLOT_STAT_STATE m) = 2)) with
    | some m =>
      let r := s.lutGood m
      let s1 := r.2.set I.LUT_PTR ((m + 1) % 4)
      if r.1 then s1 else s1.lutBad m
    | none => s)

end Sys2Proof.Machine
end

