-- ==== Sys2Proof/Machine/Srx.lean ====
section
/-!
DEFINITION. The sensor link below its packets (spec/04 R107 to R112, R115, R116): training, alignment markers, spare lanes,
idle, control buses, reference clocks.
-/

namespace Sys2Proof.Machine

/-- ROLE that the receiver expects (R100). -/
def State.srxRole (s : State) (p : Nat) : Nat := if s.inForce (R.LINK_CTL_PAIR p) = 0 then 0 else 1 + p

/-- Every logical lane has a lane: the port goes to DESKEW, and firmware ends the sensor's training (R108). -/
def State.srxMapped (s : State) (p : Nat) : State :=
  if s.get (R.LINK_STAT_STATE p) = 1 ∧ (List.range (s.srxN p)).all (fun i => s.on (R.LMAP_V p (i / 4) (i % 4))) then
    (s.set (R.LINK_STAT_STATE p) 2).emit (.sensorPage p 0xFF07 0)
  else s

/-- A block outside a packet with an invalid header or type is ignored and counted (R113). -/
def State.badBlock (s : State) (p k : Nat) (b : Blk) : State :=
  if b = .bad then s.inc (R.LH_SHDR_CNT p (s.lhIndex p k)) else s

/-- A good TS block of a lane in ALIGN (R107): the identity of the lane after 8 of equal content. -/
def State.tsBlock (s : State) (p k : Nat) (d : List Byte) : State :=
  let i := byteAt d 1
  if !checkOk d then s.set (I.SRX_TSCNT p k) 0
  else if byteAt d 3 ≠ s.srxN p ∨ fieldLE d 4 3 ≠ s.get (I.LANE_RATE 1 (p * 34 + k)) ∨ byteAt d 2 ≠ s.srxRole p then
    (s.linkFlag p (R.LINK_ERR_TRAIN_MM p)).set (I.SRX_TSCNT p k) 0
  else
    let v := i + 1
    let c := if s.get (I.SRX_TSVAL p k) = v then s.get (I.SRX_TSCNT p k) + 1 else 1
    let s1 := s.sets [(I.SRX_TSVAL p k, v), (I.SRX_TSCNT p k, min c 8)]
    if c < 8 then s1
    else
      let s2 := s1.sets [(I.SRX_ID p k, v), (I.SRX_LOG p k, if i < s.srxN p then v else 0x40)]
      let s3 := if i < s.srxN p ∧ !s.on (R.LMAP_V p (i / 4) (i % 4)) then
          s2.sets [(R.LMAP_V p (i / 4) (i % 4), 1), (R.LMAP_PHY p (i / 4) (i % 4), k)]
        else s2
      s3.srxMapped p

/-- TS_BLOCK (R107): a block of the training pattern, compared with the rate that the lane took at its PLL (spec/03 R80). -/
def execTsBlock (port : Fin 2) (lane : Fin 34) (blk : Block66) (s : State) : Res :=
  .next (if !s.on (R.LINK_CTL_EN port) ∨ s.lane 1 (port * 34 + lane) ≠ lnAlign ∨ !s.on (I.SRX_BLK port lane) then s
    else match blockOf blk with
      | .ts d => s.tsBlock port lane d
      | b => s.badBlock port lane b)

/-- The last `n` headers that a lane has seen are there and valid (R107). -/
def validRun (n : Nat) (headers : List (BitVec 2)) : Bool :=
  decide (n ≤ headers.length) && (headers.drop (headers.length - n)).all headerOk

/-- BLOCK_LOCK (R107, R111): 64 valid headers in a row at one offset, or 32 after a wake. -/
def execBlockLock (port : Fin 2) (lane : Fin 34) (headers : List (BitVec 2)) (s : State) : Res :=
  let st := s.lane 1 (port * 34 + lane)
  .next (if (st = lnAlign ∨ st = lnUp) ∧ validRun (if s.on (I.SRX_WAKE port lane) then 32 else 64) headers then
    s.sets [(I.SRX_BLK port lane, 1), (I.SRX_WAKE port lane, 0)]
  else s)

/-- BLOCK_LOCK_LOSS (R107, R109, R112): 16 of at most 64 headers are invalid; the lane finds its framing again in ALIGN, its
logical lane is bad, and the port re-aligns. -/
def execBlockLockLoss (port : Fin 2) (lane : Fin 34) (headers : List (BitVec 2)) (s : State) : Res :=
  let l := port.val * 34 + lane.val
  let n := (headers.filter (fun h => !headerOk h)).length
  .next (if s.on (I.SRX_BLK port lane) ∧ headers.length ≤ 64 ∧ 16 ≤ n then
    let s1 := ((s.blkLost 1 l).addSat (R.LH_SHDR_CNT port (s.lhIndex port lane)) n).srxLost 1 l 3
    if s.lane 1 l = lnUp then s1.setLane 1 l lnAlign else s1
  else s)

/-- ALIGN_TIMEOUT (R108): back to LOCK, or, at the eighth failure, bad and left in ALIGN. -/
def execAlignTimeout (port : Fin 2) (lane : Fin 34) (s : State) : Res :=
  let l := port.val * 34 + lane.val
  .next (if s.lane 1 l ≠ lnAlign then s
    else
      let i := s.lhIndex port lane
      let n := min (s.get (R.LH_ALIGN_FAIL port i) + 1) 8
      let s1 := s.set (R.LH_ALIGN_FAIL port i) n
      if n = 8 then s1.markBad port i 3
      else (s1.setLane 1 l lnLock).sets [(I.SRX_BLK port lane, 0), (I.SRX_TSCNT port lane, 0)])

/-- The map as one AM row's markers show it (R112): LOGICAL `i` of a lane that carried another. A change is taken on a FRAME row
alone; on another it sets MAP_ERR. -/
def State.amMap (s : State) (p k i : Nat) (frame : Bool) : State :=
  let id := s.get (I.SRX_ID p k)
  let spare := decide (id = 33 ∨ id = 34)
  let log := if id = 33 then R.SPARE_CTL_SPARE0_LOG p else R.SPARE_CTL_SPARE1_LOG p
  let was := s.get (I.SRX_LOG p k) - 1
  if !s.on (I.SRX_LOG p k) ∨ i = was then s
  else if !frame then s.linkFlag p (R.LINK_ERR_MAP_ERR p)
  else if i ≠ 0x3F ∧ s.srxN p ≤ i then s
  else
    let s1 := (s.set (I.SRX_LOG p k) (i + 1)).when (decide (i ≠ 0x3F))
      (·.sets [(R.LMAP_V p (i / 4) (i % 4), 1), (R.LMAP_PHY p (i / 4) (i % 4), k)])
    if !spare then s1
    else if i = 0x3F then
      let home := (List.range 34).find? (fun j => decide (s.get (I.SRX_ID p j) = was + 1))
      (s1.set log i).sets [(R.LMAP_V p (was / 4) (was % 4), ofBool home.isSome), (R.LMAP_PHY p (was / 4) (was % 4), home.getD 0)]
    else (s1.set log i).raise (E.spareSwap p)

/-- A BIP-8 mismatch of a receive lane (R112). -/
def State.amBip (s : State) (p k : Nat) : State :=
  let i := s.lhIndex p k
  let n := s.get (I.SRX_BIPF p k) + 1
  let s1 := (s.inc (R.LH_BIP_CNT p i)).set (I.SRX_BIPF p k) n
  if s.get (R.SPARE_CTL_BIP_TH p) ≤ n ∧ (s.logicalOf p k).isSome then s1.markBad p i 4 else s1

/-- The good markers of a row: receive lane, bytes of the marker, and whether its BIP-8 mismatches. -/
def goodMarks (marks : List AmLane) : List (Nat × List Byte × Bool) :=
  marks.filterMap (fun m => match blockOf m.blk with
    | .am d => if checkOk d then some (m.lane.val, d, byteAt d 2 != bip8 m.since) else none
    | _ => none)

/-- AM_ROW (R104, R108 to R113): AM_SEQ and FRAME are those of the first good marker (notes/assumptions/407.md). A row with too
much skew loses the packet that was open, if one was. -/
def execAmRow (port : Fin 2) (skew : BitVec 16) (inPacket : Bool) (marks : List AmLane) (s : State) : Res :=
  let p := port.val
  let st := s.get (R.LINK_STAT_STATE p)
  .next (match goodMarks marks with
    | [] => s
    | (k0, d0, b0) :: t =>
      if !s.on (R.LINK_CTL_EN p) ∨ st < 2 then s
      else
        let good := (k0, d0, b0) :: t
        let frame := byteAt d0 6 % 2 == 1
        let s0 := marks.foldl (fun (s : State) m => s.badBlock p m.lane (blockOf m.blk)) s
        let s1 := s0.set (R.LINK_STAT_AM_SEQ p) (fieldLE d0 4 2)
        let s2 := (good.filter (·.2.2)).foldl (fun (s : State) m => s.amBip p m.1) s1
        let s3 := s2.when frame (fun s => s.zero ((List.range 34).map (fun k => I.SRX_BIPF p k)))
        let s4 := good.foldl (fun (s : State) m => s.amMap p m.1 (byteAt m.2.1 1) frame) s3
        let s5 := s4.zero ((List.range 34).map (fun k => I.LANE_FRZREQ 1 (p * 34 + k)))
        if 264 < skew.toNat then
          ((s5.set (R.LINK_STAT_STATE p) 2).when inPacket (·.lost p)).linkFlag p (R.LINK_ERR_DESKEW p)
        else
          let s6 := s5.set (R.LINK_STAT_STATE p) 3
          if s.on (I.SRX_TRAINED p) then s6 else (s6.set (I.SRX_TRAINED p) 1).raise (E.trained p))

/-- EIDLE_ROW (R110): the port idles and SRX requests the adaptation freeze of its lanes. One good EIDLE block makes the row
(notes/assumptions/407.md). -/
def execEidleRow (port : Fin 2) (row : List LaneBlock) (s : State) : Res :=
  .next (if s.get (R.LINK_STAT_STATE port) = 3 ∧ row.any (fun b => blockOf b.blk == .eidle) then
    let s0 := row.foldl (fun (s : State) b => s.badBlock port b.lane (blockOf b.blk)) s
    (List.range 34).foldl (fun s k =>
      let l := port.val * 34 + k
      if s.lane 1 l = lnUp then s.sets [(I.LANE_FRZREQ 1 l, 1), (R.LN_STAT_FROZEN 1 l, 1)] else s)
      (s0.set (R.LINK_STAT_STATE port) 4)
  else s)

/-- Full training begins (R109, R112): the map is cleared, and firmware sets the sensor's TRAIN. -/
def State.retrain (s : State) (p : Nat) : State :=
  let s1 := (List.range 32).foldl (fun s i => s.sets [(R.LMAP_V p (i / 4) (i % 4), 0), (R.LMAP_PHY p (i / 4) (i % 4), 0)]) s
  let s2 := (List.range 34).foldl (fun s k =>
    let s1 := s.sets [(I.SRX_ID p k, 0), (I.SRX_LOG p k, 0), (I.SRX_TSCNT p k, 0)]
    if s1.lane 1 (p * 34 + k) = lnUp then s1.setLane 1 (p * 34 + k) lnAlign else s1) s1
  (s2.sets [(R.SPARE_CTL_SPARE0_LOG p, 0x3F), (R.SPARE_CTL_SPARE1_LOG p, 0x3F), (I.SRX_TRAINED p, 0)]).when
    (s.on (R.LINK_CTL_EN p)) (fun s => (s.set (R.LINK_STAT_STATE p) 1).emit (.sensorPage p 0xFF07 1))

/-- RETRAIN. -/
def execRetrain (port : Fin 2) (s : State) : Res := .next (s.hostToBead 1 port (·.retrain port))

/-- SPARE_MAP_WRITE (R112): between frames, for a bad lane, with AUTO and a free spare. -/
def execSpareMapWrite (port : Fin 2) (spare : Fin 2) (logical : Fin 32) (s : State) : Res :=
  let log := if spare.val = 0 then R.SPARE_CTL_SPARE0_LOG port else R.SPARE_CTL_SPARE1_LOG port
  .next (if s.on (R.SPARE_CTL_AUTO port) ∧ s.on (R.LH_BAD port logical) ∧ s.get log = 0x3F ∧ (s.openFrame (s.lport port)).isNone then
    s.emit (.sensorPage port (0xFF08 + spare.val) logical)
  else s)

/-- SCKn starts or stops (R116): it runs while EN is 1. -/
def State.sck (s : State) (n : Nat) (on : Bool) : State := s.sets [(R.SCK_EN n, ofBool on), (I.PIN_SCK n, ofBool on)]

/-- SCK_ENABLE. -/
def execSckEnable (n : Fin 2) (s : State) : Res := .next (s.hostToBead 1 (9 + n) (·.sck n true))

/-- SCK_DISABLE: the clock stops low at the end of its period. -/
def execSckDisable (n : Fin 2) (s : State) : Res := .next (s.hostToBead 1 (9 + n) (·.sck n false))

/-- IBI (R115): an in-band interrupt, its mandatory byte and up to 3 further bytes go to firmware and are counted; a hot-join request
is NACKed. -/
def execIbi (bus : Fin 2) (req : IbiReq) (s : State) : Res :=
  .next (if s.isolated 1 || !s.on (R.I3C_EN bus) then s else match req with
    | .ibi a b => (s.inc (R.I3C_IBI_CNT bus)).emit (.i3cIbi bus a.toNat (b.take 4))
    | .hotJoin => s.emit (.i3cNack bus))

end Sys2Proof.Machine
end

