-- ==== Sys2Proof/Machine/Reset.lean ====
section
/-!
DEFINITION. Resets of rods and of the device (spec/21 R482 to R492, spec/23 R520, R521), and the loading of a rod's
registers from the stringing in force (spec/02 R66, R70).
-/

namespace Sys2Proof.Machine

/-! ### What a rod's reset cuts (R487 step 1, R492) -/

/-- Run a change whose carry-log records are not sent: a job that a reset cuts has no end record (spec/17 R432). -/
def State.silently (s : State) (g : State → State) : State := { g { s with clogQ := [] } with clogQ := s.clogQ }

/-- Every throttle step is undone at once (R492). -/
def State.thmOff (s : State) : State :=
  ([0, 1].foldl (fun (s : State) p =>
      if s.exsHalf ∧ s.get (R.EXS_CTL_MODE p) ≠ 0 then (s.set R.THM_STAT_STEP 0).rephase p 0 0 else s) s).sets
    [(R.THM_STAT_STEP, 0), (R.THM_STAT_REQ, 0), (R.THM_STAT_GRACE, 0), (R.THM_STAT_FRDIV_NA, 0), (R.THM_HOT_SRC_S, 0),
     (I.PIN_THERM, 0)]

/-- Every open job of a rod is cut. An open sensor frame is closed, SHORT. -/
def State.cutJobs (s : State) (rod : Nat) : State :=
  let s1 := s.silently (fun s =>
    if rod = 1 then { s with frames := s.frames.map (fun f =>
      if f.closed then f else { f with closed := true, closeTime := s.now, ctags := setBit f.ctags 0 }) }
    else if 2 ≤ rod ∧ rod ≤ 6 then { s with imgs := s.imgs.filter (fun j => decide (j.rod ≠ rod)) }
    else if rod = 8 ∨ rod = 9 then
      ((List.range 4).foldl (fun (s : State) k => s.encCut (4 * (rod - 8) + k)) s).decCut (rod - 8)
    else if rod = 13 then { s with auds := [] }
    else if rod = 15 then
      (List.range 8).foldl (fun (s : State) d => s.dmaCut d false)
        ((List.range 2).foldl (fun (s : State) n => s.dflCut n false) s)
    else s)
  { s1 with jobs := s1.jobs.filter (fun j => decide (j.rod ≠ rod)) }

/-- The bead stores and jobs of a rod go, and its lanes. -/
def State.cutRod (s : State) (rod : Nat) : State :=
  let s0 := s.cutJobs rod
  let s1 : State :=
    if rod = 1 then ({ s0 with lnk := {} } : State).zero ([0, 1].flatMap (fun p => [R.LINK_STAT_STATE p, I.EXS_SLOT p, I.EXS_PREV p,
      I.SYNTH_WAIT p, I.PIN_FRAME p, I.PIN_LINE p, I.LINE_SENT p, I.PIN_SCK p]))
    else if 2 ≤ rod ∧ rod ≤ 6 then { s0 with grids := s0.grids.filter (fun g => decide (g.1 ≠ rod)) }
    else if rod = 7 then { s0 with lumas := [] }
    else if rod = 10 then { s0 with recd := {} }
    else if rod = 11 then { s0 with lays := [], canv := [], unders := [], uanc := [], hdrs := [] }
    else if rod = 12 then { s0 with flows := [], rxs := [], tsq := [] }
    else if rod = 15 then s0.thmOff
    else s0
  let s2 := (List.range (laneCount rod)).foldl (fun (s : State) l => s.laneOff rod l) (s1.calRod rod)
  { s2 with
    binds := s2.binds.filter (fun b => decide (b.1 ≠ rod))
    flits := s2.flits.filter (fun f => decide (portRod f.src ≠ rod))
    quarantine := (s2.txns.filter (fun t => decide (portRod t.port = rod))).map (fun t => (t.port, t.txn, s2.up + 40 * tUs)) ++
      s2.quarantine
    txns := s2.txns.filter (fun t => decide (portRod t.port ≠ rod)) }

/-- The epoch of a rod advances; LAST records it, and its marker follows every record of the rod (R489, spec/17 R432). -/
def State.advance (s : State) (rod cause : Nat) : State :=
  let e := (s.epoch rod + 1) % 256
  let s1 := s.sets [(R.EPOCH_E (rod / 4) (rod % 4), e), (R.RST_LAST_ROD, rod), (R.RST_LAST_CAUSE, cause), (R.RST_LAST_EPOCH, e)]
  { s1 with clogQ := s1.clogQ ++ [⟨rod, 0, 0, 0, e, 0, s1.now, e⟩] }

/-- A rod reset is asserted (R487): on a rod that is released but not yet ready it begins again, with no new epoch (R489). -/
def State.assertReset (s : State) (rod cause : Nat) : State :=
  if !s.on (I.PWR_ON rod) ∨ s.get (I.RSTST rod) = 1 then s
  else if s.get (I.RSTST rod) = 2 then s.set (I.RSTST rod) 1
  else ((s.cutRod rod).advance rod cause).sets [(I.RSTST rod, 1), (I.PROXY rod, 1), (I.RST_QUIET rod, 0), (I.GATED rod, 0)]

/-- Something holds the rod in reset (R486). -/
def State.held (s : State) (rod : Nat) : Bool :=
  bit (s.get R.ROD_HOLD_HOLD) rod || s.on (I.HOLD_AUTO rod) || s.on (I.HOLD_PATCH rod) || s.on (I.HOLD_BOOT rod)

/-- The rod is released once every cause has let it go. -/
def State.tryRelease (s : State) (rod : Nat) : State :=
  if s.get (I.RSTST rod) = 1 ∧ s.on (I.PWR_ON rod) ∧ !s.held rod then s.set (I.RSTST rod) 2 else s

/-! ### Loading a rod's registers (spec/02 R66 items 7 to 9, R70) -/

/-- A field that a rod's reset leaves: those of other blocks, sticky bits, what NET keeps of Tally (spec/13 R327), which
sensors are broken (spec/19 R461), what MEM knows of its trained channels (spec/18 R452). -/
def keptField (rod : Nat) (k : Key) : Bool :=
  decide (k.1 ≠ rod ∨ 5000 ≤ k.2.1 ∨ (rod = 12 ∧ (122 ≤ k.2.1 ∧ k.2.1 ≤ 131 ∨ 145 ≤ k.2.1 ∧ k.2.1 ≤ 162)) ∨
    (rod = 15 ∧ 130 ≤ k.2.1 ∧ k.2.1 ≤ 132) ∨
    (rod = 14 ∧ (k.2.1 ≤ 101 ∨ 111 ≤ k.2.1 ∧ k.2.1 ≤ 118 ∨ 2000 ≤ k.2.1 ∧ k.2.1 < 3000)))

/-- Every other field of the rod takes its reset value. -/
def State.clearRod (s : State) (rod : Nat) : State :=
  { s with regs := s.regs.filter (fun e => keptField rod e.1), inf := s.inf.filter (fun e => decide (e.1.1 ≠ rod)) }

/-- The event defaults of a rod. -/
def State.loadEvents (s : State) (rod : Nat) : State :=
  s.strg.events.foldl (fun (s : State) e =>
    let x := E.ofNumber e.source
    if x.1 = rod then s.sets [(R.EVT_MASK x.1 x.2, ofBool e.masked), (R.EVT_RT_ROUTE x.1 x.2, e.route), (R.EVT_RT_VECTOR x.1 x.2, e.vector)]
    else s) s

/-- The clocks of the heads (spec/12 R301). -/
def State.loadClocks (s : State) (rod : Nat) : State :=
  if rod ≠ 11 then s
  else s.strg.clocks.foldl (fun (s : State) c =>
    if c.domain = 5 ∧ s.strg.strungBead 11 (10 + c.index) then s.sets [(R.TG_PCLK_NUM c.index, c.num), (R.TG_PCLK_DEN c.index, ofBool (decide (c.den = 1001))),
      (R.TG_CTL_SRC c.index, c.source)]
    else s) s

/-- The presets of a rod, in the order stored. -/
def State.loadPresets (s : State) (rod : Nat) : State :=
  s.strg.presets.foldl (fun (s : State) p => if p.offset / 0x100000 = rod then s.preset p else s) s

/-- Clocks, event defaults, presets and the commit of a rod. What NET keeps of Tally takes no preset but at a full load. -/
def State.loadRod (s : State) (rod : Nat) (full : Bool) : State :=
  let s1 := ((s.loadClocks rod).loadEvents rod).loadPresets rod
  let kept := s.regs.filter (fun e => decide (e.1.1 = rod) && keptField rod e.1)
  let s2 : State := if full then s1 else
    { s1 with regs := mapOver keyLt kept (s1.regs.filter (fun e => !(decide (e.1.1 = rod) && keptField rod e.1))) }
  s2.commitWhere (fun k => decide (k.1 = rod))

/-- The units of a rod start (R487 step 6, R492). -/
def State.startRod (s : State) (rod : Nat) : State :=
  let s1 := (List.range (laneCount rod)).foldl (fun (s : State) l => if s.on (R.LN_CTL_EN rod l) then s.laneStart rod l else s) s
  if rod = 1 then
    [0, 1].foldl (fun (s : State) p =>
      let s2 := if s.on (R.LINK_CTL_EN p) then s.portEnable p else s
      let s3 := s2.set (I.PIN_SCK p) (s2.get (R.SCK_EN p))
      if s3.get (R.EXS_CTL_MODE p) ≠ 0 then s3.exsMode p (s3.get (R.EXS_CTL_MODE p)) else s3) s1
  else if rod = 8 ∨ rod = 9 then (s1.decOn (rod - 8)).encKick
  else if rod = 10 then (List.range 4).foldl (fun (s : State) d => if s.on (R.NVQ_CFG_EN d) then s.set (R.NVQ_STAT_STATE d) 1 else s) s1
  else if rod = 11 then (List.range 8).foldl (fun (s : State) n => if s.on (R.TG_CTL_EN n) then s.headOn n else s) s1
  else if rod = 12 then (if s1.get R.PTP_CFG_MODE ≠ 0 then s1.ptpTo 1 else s1)
  else if rod = 13 then (List.range 8).foldl (fun (s : State) n => if s.on (R.AP_CFG_EN n) then s.audEnable n else s) s1
  else if rod = 15 then (List.range 8).foldl (fun (s : State) d => s.dmaKick d) s1
  else s1

/-- Rods that HOLD does not gate (spec/18 R452). -/
def holdRuns (rod : Nat) : Bool := decide (rod = 0 ∨ rod = 12 ∨ rod = 14 ∨ rod = 15)

/-- Flits that waited for a rod reach it, in order (spec/01 R19, spec/02 R50). -/
def State.flitsOut (s : State) (rod : Nat) : State :=
  { s with
    out := s.out ++ (s.flits.filter (fun f => decide (portRod f.dst = rod))).map (fun f =>
      .beamFlit f.stream f.src f.dst f.mark f.tag f.data)
    flits := s.flits.filter (fun f => decide (portRod f.dst ≠ rod)) }

/-- The rod is ready: its registers are loaded, the proxy withdraws and its units start. In HOLD a rod that HOLD gates stays
gated (spec/18 R452). -/
def State.rodReady (s : State) (rod : Nat) (full ev : Bool) : State :=
  let s1 := ((s.clearRod rod).loadRod rod full).sets [(I.RSTST rod, 0), (I.RST_QUIET rod, 0)]
  let gate := decide (s1.get R.PWR_STAT_STATE = 1 ∧ s1.strung) && !full && !holdRuns rod
  let s2 := if gate then s1.set (I.GATED rod) 1 else ((s1.set (I.PROXY rod) 0).flitsOut rod).startRod rod
  let s3 := if rod = 6 then s2.set I.SPARE_BAD 0 else s2
  let s4 := (List.range 4).foldl (fun (s : State) k =>
    if s.get (I.STRIPE_OUT k) = 3 ∧ rod = 2 + k then s.set (I.STRIPE_OUT k) 2 else s) s3
  s4.raiseIf ev E.rodReady

/-- A powered-down rod powers up: its epoch advances, and its trims are restored (R489, spec/20 R476). -/
def State.powerUp (s : State) (rod : Nat) : State :=
  if s.on (I.PWR_ON rod) then s
  else (((s.set (I.PWR_ON rod) 1).trimRestore rod).advance rod 6).sets [(I.RSTST rod, 1), (I.PROXY rod, 1), (I.GATED rod, 0)]

/-- A rod is powered down. -/
def State.powerDown (s : State) (rod : Nat) : State :=
  if !s.on (I.PWR_ON rod) then s
  else (s.cutRod rod).sets [(I.PWR_ON rod, 0), (I.RSTST rod, 1), (I.PROXY rod, 1), (I.GATED rod, 0)]

/-! ### Rod reset commands (R486, R487) -/

/-- A rod that a patch in VERIFY, CHECK or DRAIN names (R486). -/
def State.patchNames (s : State) (rod : Nat) : Bool :=
  let st := s.get R.PATCH_STAT_STATE
  decide (1 ≤ st ∧ st ≤ 3) && bit s.patch.hdr.rodMask rod

/-- ROD_RESET_RELEASE (R487 step 5): 10 µs after an automatic reset. -/
def execRodResetRelease (rod : Fin 16) (s : State) : Res := .next ((s.set (I.HOLD_AUTO rod) 0).tryRelease rod)

/-- ROD_READY (R487 step 6): a released rod becomes ready; the reset of a patch raises no event. -/
def execRodReady (rod : Fin 16) (s : State) : Res :=
  .next (if s.get (I.RSTST rod) = 2 then s.rodReady rod false (!s.on (I.RST_QUIET rod)) else s)

/-- ROD_HOLD_CLEAR (R486): a write clears a ROD_HOLD bit. -/
def execRodHoldClear (rod : Fin 16) (s : State) : Res :=
  .next (s.hostTo 16 fun s =>
    ((s.set R.ROD_HOLD_HOLD (clrBit (s.get R.ROD_HOLD_HOLD) rod)).set (I.HOLD_PEND rod) 0).tryRelease rod)

/-! ### Resets of the device (R482 to R485) -/

/-- Kinds of device reset. -/
inductive DevKind where
  | full | core | warm
  deriving DecidableEq, Repr

/-- A field that a device reset leaves. A full reset leaves what the keep store holds; a core reset also AON; a warm reset
also every sticky bit and the lanes' last polarity. Epochs go in each. -/
def keptDev (kind : DevKind) (k : Key) : Bool :=
  let epoch := decide (k.1 = 16 ∧ k.2.1 = (R.EPOCH_E 0 0).id)
  let store := decide (k.1 = 19 ∨ k = R.FH_HEAD_NEXT.key ∨ k = R.POWER_ON_COUNT.key)
  match kind with
  | .full => store
  | .core => store || (decide (k.1 = 16) && !epoch)
  | .warm => store || ((decide (k.1 = 16) || (decide (5000 ≤ k.2.1) && decide (k.1 < 18)) ||
      decide (k.1 = 18 ∧ k.2.1 = (I.LANE_POLPREV 0 0).id)) && !epoch)

/-- The device takes its reset state; `cause` is the value of RST.CAUSE.LAST. A burn in progress is cut (spec/18 R435), debug
closes (spec/18 R446). -/
def State.devReset (s0 : State) (kind : DevKind) (cause : Nat) : State :=
  let s := s0.burnCut
  let s1 : State := { State.reset with
    pending := s.pending
    regs := s.regs.filter (fun e => keptDev kind e.1)
    keep := s.keep
    fuses := s.fuses
    out := s.out
    freeCtr := s.freeCtr
    up := if kind = .full then 0 else s.up
    autoTimes := if kind = .full then [] else s.autoTimes }
  let s2 := s1.sets [(R.RST_CAUSE_LAST, cause), (I.DEBUG, 0)]
  match kind with
  | .full => (s2.inc R.POWER_ON_COUNT).set R.THR_REC_RESTARTS (s2.get I.KEEP_RESTARTS)
  | .core => s2.inc R.POWER_ON_COUNT
  | .warm => s2

/-- The voter starts afresh (spec/19 R461, R484). -/
def State.voterFresh (s : State) : State :=
  ((List.range 3).foldl (fun (s : State) v => s.sets [(I.V_UP v, 0), (I.V_DN v, 0), (I.V_HOT v, 0), (I.V_BROKEN v, 0)]) s).sets
    ((I.V_VOTES, 0) :: (List.range 24).map (fun i => (I.SENS_STUCK i, 0)))

/-- A full power-on reset: AON is in reset, CORE_EN low. -/
def State.fullReset (s : State) (cause : Nat) : State := (s.devReset .full cause).sets [(I.DEV, 1), (I.CORE_EN, 0)]

/-- Power-up from step 3 of R520 as a core power-on reset. -/
def State.coreReset (s : State) (cause : Nat) : State :=
  ((s.devReset .core cause).voterFresh).sets [(I.DEV, 2), (I.CORE_EN, 1), (I.CORE_TRY, 0), (I.PIN_HELD, 0)]

/-- A warm device reset is asserted; `dev` tells what it waits for. -/
def State.warmReset (s : State) (cause dev : Nat) : State := (s.devReset .warm cause).set I.DEV dev

/-- POWER_ON (spec/23 R520 step 1): VDD_AON rises. -/
def execPowerOn (s : State) : Res := .next (s.fullReset 0)

/-- VDD_AON_LOSS (R482, spec/23 R517): nothing is powered. -/
def execVddAonLoss (s : State) : Res := .next ((s.fullReset 0).set I.DEV 10)

/-- RESET_N (R482): held low for 1 µs. During the 10 ms after a loss of CORE_PG it waits (spec/23 R521). -/
def execResetN (s : State) : Res :=
  .next (if s.get I.DEV = 10 ∨ s.get I.DEV = 1 then s else if s.get I.DEV = 7 then s.set I.PIN_HELD 2 else s.fullReset 1)

/-- AON_LEAVES_RESET (spec/23 R520 steps 2, 3): fuses are sensed and CORE_EN is asserted. -/
def execAonLeavesReset (s : State) : Res :=
  .next (if s.get I.DEV = 1 then s.sets [(I.DEV, 2), (I.CORE_EN, 1), (I.CORE_TRY, 0)] else s)

/-- CORE_PG_RISE (spec/23 R520 step 6). -/
def execCorePgRise (s : State) : Res := .next (if s.get I.DEV = 2 then s.set I.DEV 3 else s)

/-- CORE_PG_TIMEOUT (spec/23 R520): CORE_EN is released; a third failure waits for RESET_N or WAKE_N. -/
def execCorePgTimeout (s : State) : Res :=
  .next (if s.get I.DEV = 2 then
    let n := s.get I.CORE_TRY + 1
    s.sets [(I.CORE_TRY, n), (I.CORE_EN, 0), (I.DEV, if 3 ≤ n then 5 else 4)]
  else s)

/-- CORE_EN_RETRY (spec/23 R520): CORE_EN is asserted again. -/
def execCoreEnRetry (s : State) : Res := .next (if s.get I.DEV = 4 then s.sets [(I.DEV, 2), (I.CORE_EN, 1)] else s)

/-- CORE_RESET_RELEASE (spec/23 R520 step 7): the core is released, and the boot may begin. -/
def execCoreResetRelease (s : State) : Res := .next (if s.get I.DEV = 3 then s.set I.DEV 0 else s)

/-- CORE_PG_LOSS (spec/23 R521): everything outside AON stops and CORE_EN is released; during a thermal shutdown it stays
asserted. -/
def execCorePgLoss (s : State) : Res :=
  .next (
    if s.get I.DEV = 0 ∨ s.get I.DEV = 3 ∨ s.get I.DEV = 9 then
      (s.devReset .core 0).sets [(R.POWER_ON_COUNT, s.get R.POWER_ON_COUNT), (I.DEV, 7), (I.CORE_EN, 0)]
    else if s.get I.DEV = 8 then s.set I.DEV 11 else s)

/-- CORE_PG_RETRY (spec/23 R521): 10 ms later the core powers up again, as a core power-on reset; a RESET_N that came meanwhile is a
full one. -/
def execCorePgRetry (s : State) : Res :=
  .next (if s.get I.DEV = 7 then (if s.get I.PIN_HELD = 2 then (s.fullReset 1).set I.PIN_HELD 0 else s.coreReset 0) else s)

/-- WAKE_N (spec/18 R455, spec/23 R520): held low for 1 ms. -/
def execWakeN (s : State) : Res :=
  .next (if s.get I.DEV = 6 ∨ s.get I.DEV = 5 then s.coreReset 2
    else if s.get I.DEV = 7 ∧ s.get I.PIN_HELD = 0 then s.set I.PIN_HELD 1 else s)

/-- RST_DEV_WARM (R485): the host writes KEY and WARM. -/
def execRstDevWarm (s : State) : Res :=
  .next (s.hostTo 16 fun s => ((((s.warmReset 4 9).voterFresh).inc R.RST_CAUSE_WARM_CNT).sets
    [(I.BOOT_EV, 1), (I.PIN_FAULT, 0), (I.PIN_THERM, 0)]))

/-- THERMAL_RESTART (spec/19 R467 step 4): at least two voter sensors work. Where CORE_PG was lost meanwhile, the core powers up
again instead (spec/23 R521). -/
def execThermalRestart (s : State) : Res :=
  .next (
    let good := ((List.range 3).filter (fun v => !s.on (I.V_BROKEN v))).length
    if good < 2 then s
    else if s.get I.DEV = 8 then
      (((s.warmReset 3 0).voterFresh).inc R.RST_CAUSE_WARM_CNT).sets [(I.BOOT_EV, 2), (I.PIN_FAULT, 0), (I.PIN_THERM, 0)]
    else if s.get I.DEV = 11 then (s.coreReset 0).sets [(I.BOOT_EV, 2), (I.PIN_FAULT, 0), (I.PIN_THERM, 0)]
    else s)

end Sys2Proof.Machine
end

