-- ==== Sys2Proof/Machine/Power.lean ====
section
/-!
DEFINITION. Draining (spec/02 R69), the power states (spec/18 R452 to R455) and what waits for them.
-/

namespace Sys2Proof.Machine

/-! ### Draining (spec/02 R69) -/

/-- T: the tag of the next frame start; 0 where LNK is powered down. -/
def State.drainTag (s : State) : Nat := if s.isolated 1 then 0 else s.nextTag

/-- A tag is earlier than T. -/
def beforeT (tag t : Nat) : Bool := tagLater t tag

/-- A rod has drained: every job tagged earlier than T has ended, none is still to begin; the rods without frames as R69
says. -/
def State.rodDrained (s : State) (rod t : Nat) : Bool :=
  if rod = 13 then s.auds.isEmpty
  else if rod = 15 then s.utlDrained t
  else if t = 0 then s.jobs.all (fun j => decide (j.rod ≠ rod))
  else
    s.jobs.all (fun j => decide (j.rod ≠ rod) || !beforeT j.tag t) &&
    (if rod = 1 ∨ rod = 7 then s.frames.all (fun f => f.closed || !beforeT f.tag t)
     else if 2 ≤ rod ∧ rod ≤ 6 then (s.isolated rod || (match s.imgNext (rod - 2) with | some e => !beforeT e.1.tag t | none => true))
     else if rod = 8 ∨ rod = 9 then
       s.isolated rod || s.strms.all (fun x => !x.run || x.dues.all (fun u => u.rep.isSome || !beforeT u.tag t) ||
         !(List.range 4).any (fun k => bit (s.desc x.num).pool (4 * (rod - 8) + k)))
     else if rod = 10 then s.recd.takes.all (fun x => x.closing.isNone || x.sealed) && s.recd.posts.isEmpty && s.recd.cmds.isEmpty
     else true)

/-- Slots posted while UTL drained wait no longer. -/
def State.utlFree (s : State) : State :=
  s.sets ((List.range 2).map (fun n => (I.DFL_LIM n, 0)) ++ (List.range 8).map (fun d => (I.DMA_LIM d, 0)))

/-- What a drain held back goes on (spec/02 R71): audio ports start again, engines take their next job. -/
def State.resume (s : State) : State :=
  let s1 := if s.isolated 13 then s else (List.range 8).foldl (fun (s : State) n =>
    if s.on (R.AP_CFG_EN n) ∧ (s.aud n).isNone ∧ 2 ≤ s.get (R.AP_STAT_CLK_STATE n) then (s.set (R.AP_STAT_CLK_STATE n) 0).audEnable n
    else s) s
  let s2 := s1.utlFree.encKick
  if s2.isolated 15 then s2 else (List.range 8).foldl (fun (s : State) d => s.dmaKick d) s2

/-! ### Power states (spec/18 R452 to R455) -/

/-- Codes of PWR.STAT.STATE. -/
def pwRun : Nat := 0
def pwHold : Nat := 1
def pwDoze : Nat := 2
def pwOff : Nat := 3
def pwEntering : Nat := 4
def pwLeaving : Nat := 5

/-- The rods that an entry drains: all that run but those that the state leaves running. -/
def drainMask (target : Nat) : List Nat :=
  (List.range 16).filter (fun r => if target = pwHold then !holdRuns r else if target = pwDoze then decide (r ≠ 0 ∧ r ≠ 12 ∧ r ≠ 14)
    else true)

/-- A mask of rods. -/
def maskOf (l : List Nat) : Nat := l.foldl setBit 0

/-- The state is reached. -/
def State.pwrAt (s : State) (st : Nat) : State := (s.sets [(R.PWR_STAT_STATE, st), (I.PWR_MASK, 0), (I.PWR_T, 0)]).raise E.pwrDone

/-- Leaving HOLD (R453): the gated rods run again, lanes with EN restart. -/
def State.unhold (s : State) : State :=
  let s1 := (List.range 16).foldl (fun (s : State) r =>
    if s.on (I.GATED r) then
      (List.range (laneCount r)).foldl (fun (s : State) l => if s.on (R.LN_CTL_EN r l) then s.laneStart r l else s)
        ((s.sets [(I.GATED r, 0), (I.PROXY r, 0)]).flitsOut r)
    else s) s
  s1.resume

/-- A rod is gated (R452): its lanes go to OFF with EN kept, and its proxy answers. -/
def State.gate (s : State) (r : Nat) : State :=
  if s.isolated r then s
  else ((List.range (laneCount r)).foldl (fun (s : State) l => s.laneOff r l) s).sets [(I.GATED r, 1), (I.PROXY r, 1)]

/-- Entry into OFF (R455): debug closes and the core loses its supplies. -/
def State.powerOff (s : State) : State :=
  let s1 := s.raiseIf (s.on I.DEBUG) E.secDebugClose
  (s1.devReset .core (s.get R.RST_CAUSE_LAST)).sets
    [(R.POWER_ON_COUNT, s.get R.POWER_ON_COUNT), (I.DEV, 6), (I.CORE_EN, 0), (I.JTAG_IR, 1), (I.PIN_FAULT, 0), (I.PIN_THERM, 0)]

/-- The rods have drained, or were cut: the state is entered (R452, R454, R455). -/
def State.pwrEnter (s : State) : State :=
  let t := s.get R.PWR_STAT_TARGET
  if t = pwHold then ((drainMask pwHold).foldl (fun (s : State) r => s.gate r) s).pwrAt pwHold
  else if t = pwDoze then
    let s1 := (drainMask pwDoze).foldl (fun (s : State) r => s.powerDown r) s
    let s2 := (List.range 8).foldl (fun (s : State) ch => s.drainWrites ch) s1
    (s2.sets [(I.PWR_ON 14, 0), (I.PROXY 14, 1)]).pwrAt pwDoze
  else s.powerOff

/-- A request that is accepted begins (R453). -/
def State.pwrStart (s : State) (target : Nat) : State :=
  let st := s.get R.PWR_STAT_STATE
  let s1 := s.set R.PWR_STAT_TARGET target
  if st = pwDoze ∧ target ≠ pwOff then s1.set R.PWR_STAT_STATE pwLeaving
  else if target = pwRun then s1.unhold.pwrAt pwRun
  else s1.utlFree.sets [(R.PWR_STAT_STATE, pwEntering), (I.PWR_MASK, maskOf (drainMask target)), (I.PWR_T, s.drainTag)]

/-- A patch is in VERIFY to RESTRING, or a MEM channel changes its set point. -/
def State.pwrBusy (s : State) : Bool :=
  decide (1 ≤ s.get R.PATCH_STAT_STATE ∧ s.get R.PATCH_STAT_STATE ≤ 4) ||
  (List.range 8).any (fun ch => decide (s.get (R.CH_STAT_STATE ch) = 4))

/-- A request that waited begins once nothing holds it. -/
def State.pwrResume (s : State) : State :=
  let w := s.get I.PWR_WAIT
  if w = 0 ∨ s.pwrBusy then s else (s.set I.PWR_WAIT 0).pwrStart (w - 1)

/-- The table of R453, with the lifecycle's rule. -/
def State.pwrAllowed (s : State) (target : Nat) : Bool :=
  let st := s.get R.PWR_STAT_STATE
  (decide (target = pwOff) || decide (s.fuses.lifecycle ≠ 0)) &&
  (if st = pwRun then decide (target ≠ pwRun)
   else if st = pwHold then decide (target = pwOff) || (decide (target ≠ pwHold) && s.strung && !s.on R.PWR_STAT_IMAGE_WAIT)
   else if st = pwDoze then decide (target ≠ pwDoze)
   else false)

/-- PWR.REQ with GO, TARGET and WAKE_TRG (R453): refused outside the table; it waits for a patch or a MEM frequency change. -/
def State.pwrReq (s : State) (target wake : Nat) : State :=
  s.hostTo 0 fun s =>
    if 16 ≤ wake ∧ wake ≤ 30 then s.wrRange 0 0xC900
    else
      let s1 := s.set R.PWR_REQ_WAKE_TRG wake
      if !s1.pwrAllowed target then (s1.set R.PWR_STAT_REFUSED 1).raise E.pwrRefused
      else if s1.pwrBusy then s1.set I.PWR_WAIT (target + 1)
      else s1.pwrStart target

/-- PWR_RUN, PWR_HOLD, PWR_DOZE, PWR_OFF. -/
def execPwrRun (wake : BitVec 5) (s : State) : Res := .next (s.pwrReq pwRun wake.toNat)
def execPwrHold (wake : BitVec 5) (s : State) : Res := .next (s.pwrReq pwHold wake.toNat)
def execPwrDoze (wake : BitVec 5) (s : State) : Res := .next (s.pwrReq pwDoze wake.toNat)
def execPwrOff (wake : BitVec 5) (s : State) : Res := .next (s.pwrReq pwOff wake.toNat)

/-- Every rod of the entry has drained. -/
def State.pwrDrained (s : State) : Bool :=
  (List.range 16).all (fun r => !bit (s.get I.PWR_MASK) r || s.isolated r || s.rodDrained r (s.get I.PWR_T))

/-- POWER_DRAINED (R453 to R455). -/
def execPowerDrained (s : State) : Res :=
  .next (if s.get R.PWR_STAT_STATE = pwEntering ∧ s.pwrDrained then s.pwrEnter else s)

/-- POWER_DRAIN_TIMEOUT (R453): open jobs are cut, DRAIN_CUT is set, and the entry proceeds. -/
def execPowerDrainTimeout (s : State) : Res :=
  .next (if s.get R.PWR_STAT_STATE = pwEntering ∧ !s.pwrDrained then
      (((List.range 16).foldl (fun (s : State) r => if bit (s.get I.PWR_MASK) r then s.cutJobs r else s) s).set
        R.PWR_STAT_DRAIN_CUT 1).pwrEnter
    else s)

/-- FREQ_CHANGE_DONE (spec/15 R389 step 5): the change ends, and a power-state request that waited for it begins. -/
def execFreqChangeDone (ch : Fin 8) (s : State) : Res := .next (s.freqChangeDone ch).pwrResume

/-- DOZE_MEM_RESTORED (R454 exit 2): MEM powers up with its trained values, each channel runs a step set, and the full image is
awaited. -/
def execDozeMemRestored (s : State) : Res :=
  .next (if s.get R.PWR_STAT_STATE = pwLeaving ∧ !s.on (I.PWR_ON 14) then
    let s1 := (s.powerUp 14).rodReady 14 true true
    let s2 := (List.range 8).foldl (fun (s : State) ch => if s.get (R.CH_STAT_STATE ch) = 2 then s.startStep ch else s) s1
    s2.set R.PWR_STAT_IMAGE_WAIT 1
  else s)

end Sys2Proof.Machine
end

