-- ==== Sys2Proof/Machine/Crypto.lean ====
section
/-!
DEFINITION. The hashes and signature checks that the spec names by their standards: SHA-256 and SHA-384 (FIPS 180-4), ECDSA on
P-384 (spec/02 R64, SEC 1) and LMS (RFC 8554 with LMS_SHA256_M32_H10 and LMOTS_SHA256_N32_W8).
-/

namespace Sys2Proof.Machine

/-! ### SHA-2 -/

/-- The constants of SHA-384 (FIPS 180-4 4.2.3); their upper halves are those of SHA-256. -/
def shaK : List Nat :=
  [0x428A2F98D728AE22, 0x7137449123EF65CD, 0xB5C0FBCFEC4D3B2F, 0xE9B5DBA58189DBBC,
   0x3956C25BF348B538, 0x59F111F1B605D019, 0x923F82A4AF194F9B, 0xAB1C5ED5DA6D8118,
   0xD807AA98A3030242, 0x12835B0145706FBE, 0x243185BE4EE4B28C, 0x550C7DC3D5FFB4E2,
   0x72BE5D74F27B896F, 0x80DEB1FE3B1696B1, 0x9BDC06A725C71235, 0xC19BF174CF692694,
   0xE49B69C19EF14AD2, 0xEFBE4786384F25E3, 0x0FC19DC68B8CD5B5, 0x240CA1CC77AC9C65] ++
  [0x2DE92C6F592B0275, 0x4A7484AA6EA6E483, 0x5CB0A9DCBD41FBD4, 0x76F988DA831153B5,
   0x983E5152EE66DFAB, 0xA831C66D2DB43210, 0xB00327C898FB213F, 0xBF597FC7BEEF0EE4,
   0xC6E00BF33DA88FC2, 0xD5A79147930AA725, 0x06CA6351E003826F, 0x142929670A0E6E70,
   0x27B70A8546D22FFC, 0x2E1B21385C26C926, 0x4D2C6DFC5AC42AED, 0x53380D139D95B3DF,
   0x650A73548BAF63DE, 0x766A0ABB3C77B2A8, 0x81C2C92E47EDAEE6, 0x92722C851482353B] ++
  [0xA2BFE8A14CF10364, 0xA81A664BBC423001, 0xC24B8B70D0F89791, 0xC76C51A30654BE30,
   0xD192E819D6EF5218, 0xD69906245565A910, 0xF40E35855771202A, 0x106AA07032BBD1B8,
   0x19A4C116B8D2D0C8, 0x1E376C085141AB53, 0x2748774CDF8EEB99, 0x34B0BCB5E19B48A8,
   0x391C0CB3C5C95A63, 0x4ED8AA4AE3418ACB, 0x5B9CCA4F7763E373, 0x682E6FF3D6B2B8A3,
   0x748F82EE5DEFB2FC, 0x78A5636F43172F60, 0x84C87814A1F0AB72, 0x8CC702081A6439EC] ++
  [0x90BEFFFA23631E28, 0xA4506CEBDE82BDE9, 0xBEF9A3F7B2C67915, 0xC67178F2E372532B,
   0xCA273ECEEA26619C, 0xD186B8C721C0C207, 0xEADA7DD6CDE0EB1E, 0xF57D4F7FEE6ED178,
   0x06F067AA72176FBA, 0x0A637DC5A2C898A6, 0x113F9804BEF90DAE, 0x1B710B35131C471B,
   0x28DB77F523047D84, 0x32CAAB7B40C72493, 0x3C9EBE0A15C9BEBC, 0x431D67C49C100D4C,
   0x4CC5D4BECB3E42B6, 0x597F299CFC657E2A, 0x5FCB6FAB3AD6FAEC, 0x6C44198C4A475817]

/-- Initial hash values of SHA-256 and SHA-384 (FIPS 180-4 5.3). -/
def sha256Init : List Nat :=
  [0x6A09E667, 0xBB67AE85, 0x3C6EF372, 0xA54FF53A,
   0x510E527F, 0x9B05688C, 0x1F83D9AB, 0x5BE0CD19]

def sha384Init : List Nat :=
  [0xCBBB9D5DC1059ED8, 0x629A292A367CD507, 0x9159015A3070DD17, 0x152FECD8F70E5939,
   0x67332667FFC00B31, 0x8EB44A8768581511, 0xDB0C2E0D64F98FA7, 0x47B5481DBEFA4FA4]

/-- The parameters of a hash: word width, bytes of a block, rotations of the two big and the two small sigmas (the last of a
small sigma is a shift), rounds. -/
structure Sha where
  w : Nat
  blk : Nat
  big0 : Nat × Nat × Nat
  big1 : Nat × Nat × Nat
  small0 : Nat × Nat × Nat
  small1 : Nat × Nat × Nat
  k : List Nat

def sha256P : Sha := ⟨32, 64, (2, 13, 22), (6, 11, 25), (7, 18, 3), (17, 19, 10), (shaK.take 64).map (· / 2 ^ 32)⟩
def sha512P : Sha := ⟨64, 128, (28, 34, 39), (14, 18, 41), (1, 8, 7), (19, 61, 6), shaK⟩

/-- Rotation to the right by `n` of a word of `w` bits. -/
def rotR (w x n : Nat) : Nat := x / 2 ^ n + x % 2 ^ n * 2 ^ (w - n)

/-- Exclusive or of three. -/
def xor3 (a b c : Nat) : Nat := Nat.xor (Nat.xor a b) c

/-- A big sigma: three rotations; a small one: two rotations and a shift. -/
def Sha.bigS (h : Sha) (r : Nat × Nat × Nat) (x : Nat) : Nat := xor3 (rotR h.w x r.1) (rotR h.w x r.2.1) (rotR h.w x r.2.2)
def Sha.smallS (h : Sha) (r : Nat × Nat × Nat) (x : Nat) : Nat := xor3 (rotR h.w x r.1) (rotR h.w x r.2.1) (x / 2 ^ r.2.2)

/-- Extend the message schedule, kept newest first, by `n` words. -/
def Sha.extend (h : Sha) : Nat → List Nat → List Nat
  | 0, l => l
  | n + 1, l =>
    h.extend n ((h.smallS h.small1 (l.getD 1 0) + l.getD 6 0 + h.smallS h.small0 (l.getD 14 0) + l.getD 15 0) % 2 ^ h.w :: l)

/-- A round on the eight working words. -/
def Sha.round (h : Sha) (v : List Nat) (kw : Nat) : List Nat :=
  match v with
  | [a, b, c, d, e, f, g, x] =>
    let ch := Nat.xor (Nat.land e f) (Nat.land (2 ^ h.w - 1 - e) g)
    let maj := xor3 (Nat.land a b) (Nat.land a c) (Nat.land b c)
    let t1 := x + h.bigS h.big1 e + ch + kw
    let t2 := h.bigS h.big0 a + maj
    [(t1 + t2) % 2 ^ h.w, a, b, c, (d + t1) % 2 ^ h.w, e, f, g]
  | v => v

/-- Words of a block, oldest first. -/
def Sha.words (h : Sha) (l : List Byte) : List Nat :=
  (List.range 16).map (fun i => beNat (slice l (i * (h.w / 8)) (h.w / 8)))

/-- The compression of one block. -/
def Sha.block (h : Sha) (v : List Nat) (l : List Byte) : List Nat :=
  let ws := (h.extend (h.k.length - 16) (h.words l).reverse).reverse
  let r := (h.k.zip ws).foldl (fun v e => h.round v (e.1 + e.2)) v
  (v.zip r).map (fun e => (e.1 + e.2) % 2 ^ h.w)

/-- The blocks of a message, `n` of them. -/
def Sha.blocks (h : Sha) : Nat → List Nat → List Byte → List Nat
  | 0, v, _ => v
  | n + 1, v, l => h.blocks n (h.block v (l.take h.blk)) (l.drop h.blk)

/-- The padding of a message of `n` bytes. -/
def Sha.pad (h : Sha) (n : Nat) : List Byte :=
  let len := h.blk / 8
  let z := (2 * h.blk - 1 - len - n % h.blk) % h.blk
  [0x80] ++ zeros z ++ beBytes len (8 * n)

/-- The hash of a message from an initial value. -/
def Sha.run (h : Sha) (init : List Nat) (l : List Byte) : List Byte :=
  let m := l ++ h.pad l.length
  (h.blocks (m.length / h.blk) init m).flatMap (fun x => beBytes (h.w / 8) x)

/-- SHA-256: 32 bytes. -/
def sha256 (l : List Byte) : List Byte := sha256P.run sha256Init l

/-- SHA-384: 48 bytes. -/
def sha384 (l : List Byte) : List Byte := (sha512P.run sha384Init l).take 48

/-! ### ECDSA on P-384 (spec/02 R64 step 3) -/

/-- The field prime, the order, the coefficient b and the base point. -/
def p384 : Nat := 2 ^ 384 - 2 ^ 128 - 2 ^ 96 + 2 ^ 32 - 1
def n384 : Nat := 0xFFFFFFFFFFFFFFFFFFFFFFFFFFFFFFFFFFFFFFFFFFFFFFFFC7634D81F4372DDF581A0DB248B0A77AECEC196ACCC52973
def b384 : Nat := 0xB3312FA7E23EE7E4988E056BE3F82D19181D9C6EFE8141120314088F5013875AC656398D8A2ED19D2A85C8EDD3EC2AEF
def g384 : Nat × Nat :=
  (0xAA87CA22BE8B05378EB1C71EF320AD746E1D3B628BA79B9859F741E082542A385502F25DBF55296C3A545E3872760AB7,
   0x3617DE4A96262C6F5D9E98BF9292DC29F8F41DBD289A147CE9DA3113B5F0B8C00A60B1CE1D7E819D7A431D7C90EA0E5F)

/-- Power modulo `m`, with `n` bits of exponent. -/
def powMod (m : Nat) : Nat → Nat → Nat → Nat
  | 0, _, _ => 1 % m
  | n + 1, b, e =>
    let r := powMod m n (b * b % m) (e / 2)
    if e % 2 = 1 then r * b % m else r

/-- Inverse modulo a prime of 384 bits. -/
def invMod (m x : Nat) : Nat := powMod m 384 x (m - 2)

/-- Difference modulo `m`. -/
def subMod (m a b : Nat) : Nat := (a % m + (m - b % m)) % m

/-- A point of the curve in Jacobian coordinates; Z is 0 at infinity. -/
abbrev Jac := Nat × Nat × Nat

/-- Twice a point. -/
def jacDouble (a : Jac) : Jac :=
  let x := a.1
  let y := a.2.1
  let z := a.2.2
  let yy := y * y % p384
  let s := 4 * x * yy % p384
  let zz := z * z % p384
  let m := 3 * (subMod p384 x zz * ((x + zz) % p384)) % p384
  let x3 := subMod p384 (m * m) (2 * s)
  (x3, subMod p384 (m * subMod p384 s x3) (8 * yy * yy), 2 * y * z % p384)

/-- The sum of two points. -/
def jacAdd (a b : Jac) : Jac :=
  if a.2.2 % p384 = 0 then b else if b.2.2 % p384 = 0 then a
  else
    let za := a.2.2 * a.2.2 % p384
    let zb := b.2.2 * b.2.2 % p384
    let u1 := a.1 * zb % p384
    let u2 := b.1 * za % p384
    let s1 := a.2.1 * zb * b.2.2 % p384
    let s2 := b.2.1 * za * a.2.2 % p384
    if u1 = u2 then (if s1 = s2 then jacDouble a else (1, 1, 0))
    else
      let h := subMod p384 u2 u1
      let r := subMod p384 s2 s1
      let hh := h * h % p384
      let hhh := h * hh % p384
      let v := u1 * hh % p384
      let x3 := subMod p384 (r * r) (hhh + 2 * v)
      (x3, subMod p384 (r * subMod p384 v x3) (s1 * hhh), h * a.2.2 * b.2.2 % p384)

/-- A multiple of a point, with `n` bits of factor. -/
def jacMul : Nat → Nat → Jac → Jac
  | 0, _, _ => (1, 1, 0)
  | n + 1, k, a =>
    let r := jacMul n (k / 2) (jacDouble a)
    if k % 2 = 1 then jacAdd r a else r

/-- The x coordinate of a point; none at infinity. -/
def jacX (a : Jac) : Option Nat :=
  if a.2.2 % p384 = 0 then none
  else
    let i := invMod p384 a.2.2
    some (a.1 * i % p384 * i % p384)

/-- The signature (r, s) of a digest verifies under a public key in the SEC 1 uncompressed form of 97 bytes. -/
def ecdsaOk (pub rB sB digest : List Byte) : Bool :=
  let qx := beNat (slice pub 1 48)
  let qy := beNat (slice pub 49 48)
  let r := beNat rB
  let s := beNat sB
  let onCurve := decide (fieldLE pub 0 1 = 4 ∧ qx < p384 ∧ qy < p384 ∧
    qy * qy % p384 = (qx * qx * qx + (p384 - 3) * qx + b384) % p384)
  if !onCurve ∨ r = 0 ∨ n384 ≤ r ∨ s = 0 ∨ n384 ≤ s then false
  else
    let w := invMod n384 s
    let u1 := beNat digest * w % n384
    let u2 := r * w % n384
    match jacX (jacAdd (jacMul 384 u1 (g384.1, g384.2, 1)) (jacMul 384 u2 (qx, qy, 1))) with
    | some x => decide (x % n384 = r)
    | none => false

/-! ### LMS (spec/02 R64 step 4, RFC 8554) -/

/-- Types of spec/02 R64, and the places of the types in a key and a signature. -/
def lmsType : Nat := 6
def lmotsType : Nat := 4
def lmsSigTypeAt : Nat := 1128

/-- Steps of a Winternitz chain from `j`, `n` of them. -/
def lmsChain (pre : List Byte) : Nat → Nat → List Byte → List Byte
  | 0, _, x => x
  | n + 1, j, x => lmsChain pre n (j + 1) (sha256 (pre ++ beBytes 1 j ++ x))

/-- The candidate for the one-time public key of leaf `q` (RFC 8554 4.6). -/
def lmotsKey (i : List Byte) (q : Nat) (c : List Byte) (y : List Byte) (msg : List Byte) : List Byte :=
  let iq := i ++ beBytes 4 q
  let d := sha256 (iq ++ beBytes 2 0x8181 ++ c ++ msg)
  let sum := d.foldl (fun a b => a + (255 - b.toNat)) 0
  let dc := d ++ beBytes 2 sum
  let z := (List.range 34).flatMap (fun k =>
    let a := fieldLE dc k 1
    lmsChain (iq ++ beBytes 2 k) (255 - a) a (slice y (32 * k) 32))
  sha256 (iq ++ beBytes 2 0x8080 ++ z)

/-- Up the tree from a node to its root along a path (RFC 8554 5.4.2). -/
def lmsUp (i : List Byte) : Nat → Nat → List Byte → List Byte → List Byte
  | 0, _, _, x => x
  | n + 1, node, path, x =>
    let p := path.take 32
    lmsUp i n (node / 2) (path.drop 32)
      (sha256 (i ++ beBytes 4 (node / 2) ++ beBytes 2 0x8383 ++ (if node % 2 = 1 then p ++ x else x ++ p)))

/-- The types of a key of 56 bytes and a signature of 1,452 are those of spec/02 R64. -/
def lmsTypesOk (pub sig : List Byte) : Bool :=
  decide (beNat (slice pub 0 4) = lmsType ∧ beNat (slice pub 4 4) = lmotsType ∧ beNat (slice sig 4 4) = lmotsType ∧
    beNat (slice sig lmsSigTypeAt 4) = lmsType)

/-- The LMS signature of a message verifies. -/
def lmsOk (pub sig msg : List Byte) : Bool :=
  let i := slice pub 8 16
  let q := beNat (slice sig 0 4)
  if !lmsTypesOk pub sig ∨ 1024 ≤ q then false
  else
    let kc := lmotsKey i q (slice sig 8 32) (slice sig 40 1088) msg
    let leaf := sha256 (i ++ beBytes 4 (1024 + q) ++ beBytes 2 0x8282 ++ kc)
    lmsUp i 10 (1024 + q) (slice sig 1132 320) leaf = slice pub 24 32

end Sys2Proof.Machine
end

