-- ==== Sys2Proof/Machine/Image.lean ====
section
/-!
DEFINITION. The stored form of images, patches and firmware (spec/02 R40 to R64, spec/18 R438): the header, the signature block, the
unpacking, the directory, the records; steps 1 to 10 of the validation (R65) and the merge of a patch (R67).
-/

namespace Sys2Proof.Machine

/-- A rejection: code and detail of R65. -/
structure Rej where
  code : Nat
  sect : Nat := 0xFF
  record : Nat := 0xFFFF
  deriving DecidableEq, Repr

/-- The first check that fails. -/
def firstRej (l : List (Bool × Rej)) : Option Rej := (l.find? (fun e => !e.1)).map (·.2)

/-- Bytes of the header and of the signature block; their MAGIC numbers. -/
def hdrLen : Nat := 96
def sigLen : Nat := 1712
def imgMagic : Nat := 0x49535856
def fwMagic : Nat := 0x57465856
def sigMagic : Nat := 0x47495356

/-- All bytes are 0. -/
def allZero (l : List Byte) : Bool := l.all (fun b => decide (b = 0))

/-! ### The header (R42, R43, spec/18 R438) -/

/-- The header of a stored object. -/
def parseHdr (l : List Byte) : ImgHdr where
  kind := fieldLE l 6 1
  wrapped := bit (fieldLE l 7 1) 0
  minStep := fieldLE l 9 1
  svn := fieldLE l 10 1
  imageId := fieldLE l 12 4
  totalLen := fieldLE l 16 4
  sigOffset := fieldLE l 20 4
  unpackedLen := fieldLE l 24 4
  nsect := fieldLE l 28 2
  rodMask := fieldLE l 30 2
  baseDigest := slice l 32 48

/-- What MAGIC checks of every object. -/
def hdrOk (magic : Nat) (l : List Byte) : Bool :=
  let h := parseHdr l
  decide (fieldLE l 0 4 = magic ∧ fieldLE l 4 2 = 1 ∧ fieldLE l 11 1 = 0 ∧ h.imageId ≠ 0 ∧ h.svn ≤ 64) && allZero (slice l 0x54 12)

/-- Steps 1 and 2 that firmware and images share: MEMBER and stepping. -/
def deviceChecks (l : List Byte) (f : Fuses) : List (Bool × Rej) :=
  [(decide (fieldLE l 8 1 = 9), { code := 3 }), (decide (fieldLE l 9 1 ≤ f.step), { code := 4 })]

/-- The lengths that R42 fixes for every object. -/
def lengthOk (l : List Byte) : Bool :=
  let h := parseHdr l
  decide (hdrLen ≤ l.length ∧ h.sigOffset % 16 = 0 ∧ hdrLen ≤ h.sigOffset ∧ h.totalLen = h.sigOffset + sigLen ∧ h.totalLen = l.length)

/-- Steps 1 and 2 of R65 for an image; `patch` tells what it is offered as. -/
def imgHead (patch : Bool) (l : List Byte) (f : Fuses) : Option Rej :=
  let h := parseHdr l
  let most := if h.kind = 0 then 4 * 2 ^ 20 else 2 ^ 20
  firstRej ([
    (hdrOk imgMagic l && decide (h.kind ≤ 1 ∧ fieldLE l 7 1 ≤ 1) && (decide (h.kind = 1) || allZero h.baseDigest), { code := 1 }),
    (lengthOk l && decide (h.totalLen ≤ most ∧ h.unpackedLen ≤ 2 * most ∧ (h.wrapped ∨ h.unpackedLen = h.sigOffset - hdrLen)),
      { code := 2 })] ++ deviceChecks l f ++ [(decide (h.kind = ofBool patch), { code := 5 })])

/-- Steps 1 and 2 for a firmware container (spec/18 R438). -/
def fwHead (l : List Byte) (f : Fuses) : Option Rej :=
  let h := parseHdr l
  firstRej ([
    (hdrOk fwMagic l && decide (h.kind = 2 ∧ fieldLE l 7 1 = 0 ∧ h.nsect = 0 ∧ h.rodMask = 0) && allZero h.baseDigest, { code := 1 }),
    (lengthOk l && decide (h.unpackedLen = h.sigOffset - hdrLen ∧ h.unpackedLen ≤ 1572864), { code := 2 })] ++ deviceChecks l f)

/-! ### The signature block (R63, R64) -/

/-- Steps 3 to 5: the block at `off` of an object whose signed region is its bytes before `off`, under a root. -/
def sigCheck (l : List Byte) (off root : Nat) (f : Fuses) : Option Rej :=
  let b := slice l off sigLen
  let slot := fieldLE b 5 1
  let pub := slice b 8 97
  let lms := slice b 0x6C 56
  let digest := sha384 (l.take off)
  let key := leNat (sha384 (pub ++ lms))
  firstRej [
    (decide (fieldLE b 0 4 = sigMagic ∧ fieldLE b 4 1 = root ∧ fieldLE b 6 2 = 0 ∧ fieldLE b 0x69 3 = 0 ∧ slot ≤ 3) &&
      f.programmed root slot && decide (key = f.slot root slot), { code := 6, record := slot }),
    (!f.revoked root slot, { code := 7, record := slot }),
    (ecdsaOk pub (slice b 0xA4 48) (slice b 0xD4 48) digest, { code := 8 }),
    (lmsOk lms (slice b 0x104 1452) digest, { code := 9 })]

/-- Steps 1 to 7 of R65. `base` is the digest of the full image in force, `subst` that a substitution is in force. -/
def imgFront (patch : Bool) (l : List Byte) (f : Fuses) (base : List Byte) (subst : Bool) : Option Rej :=
  let h := parseHdr l
  (imgHead patch l f) <|> (sigCheck l h.sigOffset 1 f) <|>
    firstRej ([(decide (svnOf f.csvn ≤ h.svn), { code := 10 })] ++
      (if patch then [(decide (h.baseDigest = base), { code := 11 }), (decide (h.rodMask ≠ 0) && !bit h.rodMask 0 && !bit h.rodMask 14, { code := 12 }),
        (!subst || decide (bits h.rodMask 2 5 = 0), { code := 0x20 })] else []))

/-- Steps 1 to 6 for firmware (spec/18 R438). -/
def fwFront (l : List Byte) (f : Fuses) : Option Rej :=
  let h := parseHdr l
  (fwHead l f) <|> (sigCheck l h.sigOffset 0 f) <|> firstRej [(decide (svnOf f.lsvn ≤ h.svn), { code := 10 })]

/-- Step 8: the unpacked body (R41). -/
def imgBody (l : List Byte) : Option (List Byte) :=
  let h := parseHdr l
  let stored := slice l hdrLen (h.sigOffset - hdrLen)
  if !h.wrapped then some stored
  else
    let r := unpack 1 stored h.unpackedLen
    let rest := stored.drop (r.used / 8)
    if r.result = 0 ∧ r.out.length = h.unpackedLen ∧ rest.length ≤ 15 ∧ allZero rest then some r.out else none

/-! ### The directory (R44, R45) -/

/-- A directory entry. -/
structure DirEnt where
  typ : Nat
  rod : Nat
  off : Nat
  len : Nat
  count : Nat
  deriving DecidableEq, Repr

/-- Pieces of `n` bytes. -/
def chunks (n : Nat) : Nat → List Byte → List (List Byte)
  | 0, _ => []
  | k + 1, l => l.take n :: chunks n k (l.drop n)

/-- The entries of a body. -/
def dirOf (nsect : Nat) (body : List Byte) : List DirEnt :=
  (chunks 16 nsect body).map (fun b => ⟨fieldLE b 0 2, fieldLE b 2 1, fieldLE b 4 4, fieldLE b 8 4, fieldLE b 12 4⟩)

/-- Record size and largest count of a type (R45). -/
def sectShape (typ : Nat) : Option (Nat × Nat) :=
  [(1, 4, 32), (2, 20, 512), (3, 16, 2048), (4, 32, 256), (5, 12, 64), (6, 4, 1152), (7, 8, 8192), (8, 8, 1024), (9, 1, 4096)].lookup typ

/-- An entry keeps R44 and R45, with the entry before it if there is one, in a body. -/
def entOk (nsect : Nat) (body : List Byte) (before : Option DirEnt) (i : Nat) (e : DirEnt) : Bool :=
  let first := match before with | some b => b.off + roundUp b.len 16 | none => 16 * nsect
  let sorted := match before with | some b => decide (b.typ < e.typ ∨ (b.typ = e.typ ∧ b.rod < e.rod)) | none => true
  let pad := roundUp e.len 16 - e.len
  (match sectShape e.typ with
    | some (size, most) =>
      if e.typ = 1 then decide (e.rod ≤ 15 ∧ e.count ≤ most ∧ e.len = 16 + 4 * e.count ∧ fieldLE body (e.off + 3) 1 = e.count)
      else decide (e.rod = 0xFF ∧ e.count ≤ most ∧ e.len = size * e.count)
    | none => false) &&
  decide (fieldLE body (16 * i + 3) 1 = 0 ∧ e.off % 16 = 0 ∧ first ≤ e.off ∧ e.off + e.len + pad ≤ body.length) && sorted &&
  allZero (slice body (e.off + e.len) pad)

/-- Rods that have a ROD section, as a mask. -/
def rodsOf (l : List DirEnt) : Nat := (l.filter (fun e => decide (e.typ = 1))).foldl (fun a e => setBit a e.rod) 0

/-- Step 9, the directory and the required sections. -/
def dirCheck (h : ImgHdr) (body : List Byte) : Option Rej :=
  let l := dirOf h.nsect body
  if h.nsect = 0 ∨ 64 < h.nsect then some { code := 14 }
  else
    (firstRej ((List.range l.length).map (fun i =>
      (entOk h.nsect body (if i = 0 then none else l[i - 1]?) i (l.getD i ⟨0, 0, 0, 0, 0⟩), { code := 14, sect := i })))) <|>
    (firstRej [(decide (rodsOf l = h.rodMask), { code := 14 })]) <|>
    (if h.kind ≠ 0 then none
     else firstRej ((List.range 8).map (fun t =>
      (if t = 0 then decide (rodsOf l = 0xFFFF) else l.any (fun e => decide (e.typ = t + 1)), { code := 15, record := t + 1 }))))

/-! ### Records (R46 to R61) -/

/-- A record with its place in the directory (none where it was kept from the stringing in force), and whether its fields lie
in their ranges. -/
structure Rec1 (α : Type) where
  loc : Option (Nat × Nat)
  ok : Bool
  v : α

/-- The detail of a record. -/
def recRej {α : Type} (r : Rec1 α) (code : Nat) : Rej :=
  match r.loc with
  | some p => ⟨code, p.1, p.2⟩
  | none => { code := code }

/-- A ROD section: its place, whether head and beads lie in their ranges. -/
structure RodIn where
  sect : Option Nat
  ok : Bool
  sec : RodSec
  beadOk : List Bool

/-- A candidate stringing. -/
structure CandStrg where
  rods : List RodIn := []
  streams : List (Rec1 StreamRec) := []
  trays : List (Rec1 TrayRec) := []
  drams : List (Rec1 DramRec) := []
  clocks : List (Rec1 ClockRec) := []
  events : List (Rec1 EventRec) := []
  presets : List (Rec1 PresetRec) := []
  limits : List (Rec1 LimitRec) := []

/-- The stringing of a candidate. -/
def CandStrg.strg (c : CandStrg) : Stringing where
  rods := c.rods.map (·.sec)
  streams := c.streams.map (·.v)
  trays := c.trays.map (·.v)
  drams := c.drams.map (·.v)
  clocks := c.clocks.map (·.v)
  events := c.events.map (·.v)
  presets := c.presets.map (·.v)
  limits := c.limits.map (·.v)

/-- Beads of each rod (spec/01 R15). -/
def beadCount (rod : Nat) : Nat := [13, 14, 11, 11, 11, 11, 11, 7, 5, 5, 9, 26, 10, 9, 8, 12].getD rod 0

/-- The ROD section of a directory entry (R46): its head must name the entry's rod; CTL, MEM and UTL are powered, and a rod that is not has no bead (R48). -/
def parseRod (sect : Nat) (e : DirEnt) (b : List Byte) : RodIn :=
  let recs := chunks 4 e.count (b.drop 16)
  let beads := recs.map (fun r => (fieldLE r 0 1, fieldLE r 1 1))
  let sec : RodSec := ⟨e.rod, fieldLE b 1 1, fieldLE b 2 1, beads⟩
  ⟨some sect, decide (fieldLE b 0 1 = e.rod ∧ sec.power ≤ 1 ∧ (sec.ckDiv = 1 ∨ sec.ckDiv = 2) ∧ fieldLE b 3 1 ≤ 32 ∧
      (sec.power = 0 → e.count = 0 ∧ ¬(e.rod = 0 ∨ e.rod = 14 ∨ e.rod = 15))) && allZero (slice b 4 12), sec,
    (recs.zipIdx).map (fun r =>
      let x := beads.getD r.2 (0, 0)
      decide (fieldLE r.1 2 2 = 0 ∧ x.1 < beadCount e.rod ∧ x.2 < e.count) &&
        (beads.take r.2).all (fun y => decide (y.1 ≠ x.1 ∧ y.2 ≠ x.2)))⟩

/-- A BEAM record (R49). -/
def parseStream (b : List Byte) : Bool × StreamRec :=
  let n := fieldLE b 3 1
  let ports := (slice b 4 8).map (·.toNat)
  let r : StreamRec := ⟨fieldLE b 0 2, fieldLE b 2 1, ports.take n, fieldLE b 12 2, fieldLE b 14 1, fieldLE b 15 1, fieldLE b 16 4⟩
  (decide (r.stream ≤ 511 ∧ 1 ≤ n ∧ n ≤ 8 ∧ r.queue ≤ 1023 ∧ r.policy ≤ 2 ∧ r.cls ≤ 3) && (ports.drop n).all (fun p => decide (p = 0xFF)), r)

/-- A TRAY record (R52). -/
def parseTray (b : List Byte) : Bool × TrayRec :=
  let r : TrayRec := ⟨fieldLE b 0 2, fieldLE b 2 1, fieldLE b 3 1, fieldLE b 4 2, fieldLE b 6 2, fieldLE b 8 2, fieldLE b 10 2⟩
  (decide (r.alloc ≤ 1023 ∧ r.owner ≤ 15 ∧ r.flags ≤ 3 ∧ 1 ≤ r.count ∧ r.first + r.count ≤ 1024 ∧ fieldLE b 12 4 = 0), r)

/-- A DRAM record (R54). A CHMASK of 0, for which the spec gives no code, is rejected as a field out of range (log 211). -/
def parseDram (b : List Byte) : Bool × DramRec :=
  let r : DramRec := ⟨fieldLE b 0 2, fieldLE b 2 1, fieldLE b 3 1, fieldLE b 4 1, fieldLE b 8 8, fieldLE b 16 8, fieldLE b 24 4, fieldLE b 28 4⟩
  (decide (r.region ≤ 255 ∧ r.owner ≤ 15 ∧ r.kind ≤ 1 ∧ r.chmask ≠ 0 ∧ r.base % 2 ^ 20 = 0 ∧ r.size % 2 ^ 20 = 0 ∧ fieldLE b 5 3 = 0), r)

/-- A CLOCK record (R57). -/
def parseClock (b : List Byte) : Bool × ClockRec :=
  let r : ClockRec := ⟨fieldLE b 0 1, fieldLE b 1 1, fieldLE b 2 1, fieldLE b 3 1, fieldLE b 4 4, fieldLE b 8 2⟩
  (decide (r.domain ≤ 9 ∧ r.index ≤ 7 ∧ r.source ≤ 2 ∧ r.setpoint ≤ 3 ∧ (r.den = 1 ∨ r.den = 1001) ∧ fieldLE b 10 2 = 0), r)

/-- An EVENT record (R58). -/
def parseEvent (b : List Byte) : Bool × EventRec :=
  let w := fieldLE b 0 2
  let r : EventRec := ⟨w % 2048, bit w 15, fieldLE b 2 1, fieldLE b 3 1⟩
  (decide (bits w 11 4 = 0 ∧ r.source ≤ 1151 ∧ r.route ≤ 63) && (if bit r.route 5 then decide (r.vector ≤ 63) else decide (r.vector = 0xFF)), r)

/-- A PRESET record (R59). -/
def parsePreset (b : List Byte) : Bool × PresetRec := (true, ⟨fieldLE b 0 4, fieldLE b 4 4⟩)

/-- A LIMIT record's KEY, ROD, INDEX and VALUE are those of R61. -/
def limitOk (r : LimitRec) : Bool :=
  let at_ (rod n : Nat) : Bool := decide (r.rod = rod ∧ r.index < n)
  let v := r.value
  match r.key with
  | 0x01 => at_ 1 2 && decide (64 ≤ v ∧ v ≤ 24576 ∧ v % 16 = 0)
  | 0x02 => at_ 1 2 && decide (16 ≤ v ∧ v ≤ 10240)
  | 0x03 => at_ 1 2 && decide (4166666 ≤ v)
  | 0x04 => at_ 1 2 && decide (v = 10 ∨ v = 12 ∨ v = 14 ∨ v = 16)
  | 0x05 => at_ 1 2 && decide (v ≤ 1)
  | 0x06 => at_ 1 1 && decide (v ≤ 16)
  | 0x10 => decide (2 ≤ r.rod ∧ r.rod ≤ 6 ∧ r.index = 0 ∧ v ≤ 1)
  | 0x11 => at_ 0xFF 1 && decide (v = 2 ∨ v = 4)
  | 0x12 => at_ 6 1 && decide (v ≤ 1)
  | 0x20 => at_ 11 36 && decide (v = 0 ∨ (128 ≤ v ∧ v ≤ 16384 ∧ v % 64 = 0))
  | 0x30 => at_ 11 1 && decide (v ≤ 2048)
  | 0x31 => at_ 11 1 && decide (v ≤ 32768 ∧ v % 64 = 0)
  | 0x32 => at_ 11 1 && decide (v ≤ 8192 ∧ v % 64 = 0)
  | 0x50 => at_ 10 1 && decide (v ≤ 4)
  | 0x51 => at_ 10 1 && decide (v ≤ 1)
  | 0x60 => at_ 14 8 && decide (v ≤ 32)
  | _ => false

/-- A LIMIT record (R61). -/
def parseLimit (b : List Byte) : Bool × LimitRec :=
  let r : LimitRec := ⟨fieldLE b 0 2, fieldLE b 2 1, fieldLE b 3 1, fieldLE b 4 4⟩
  (limitOk r, r)

/-- The records of a type. -/
def parseSect {α : Type} (l : List DirEnt) (body : List Byte) (typ size : Nat) (p : List Byte → Bool × α) : List (Rec1 α) :=
  (l.zipIdx.filter (fun e => decide (e.1.typ = typ))).flatMap (fun e =>
    ((chunks size e.1.count (body.drop e.1.off)).map p).zipIdx.map (fun r => ⟨some (e.2, r.2), r.1.1, r.1.2⟩))

/-- The records of a body whose directory is good. -/
def parseBody (h : ImgHdr) (body : List Byte) : CandStrg :=
  let l := dirOf h.nsect body
  { rods := (l.zipIdx.filter (fun e => decide (e.1.typ = 1))).map (fun e => parseRod e.2 e.1 (slice body e.1.off e.1.len))
    streams := parseSect l body 2 20 parseStream
    trays := parseSect l body 3 16 parseTray
    drams := parseSect l body 4 32 parseDram
    clocks := parseSect l body 5 12 parseClock
    events := parseSect l body 6 4 parseEvent
    presets := parseSect l body 7 8 parsePreset
    limits := parseSect l body 8 8 parseLimit }

/-! ### A patch on the stringing in force (R67) -/

/-- Rod of a stream's source, of a clock, of a preset; none where it names no rod. -/
def streamRod (r : StreamRec) : Option Nat := if r.src ≤ 27 then some (portRod r.src) else none
def clockRod (r : ClockRec) : Option Nat := if r.domain = 5 then some 11 else if r.domain = 6 then some 13 else none
def presetRod (r : PresetRec) : Option Nat := if r.offset < 0x1000000 then some (r.offset / 0x100000) else none

/-- A rod is named. -/
def namedRod (mask : Nat) (r : Option Nat) : Bool := match r with | some n => decide (n < 16) && bit mask n | none => false

/-- The records of a type after a patch: those of named rods are replaced where the patch carries the type. -/
def mergeSect {α : Type} (mask : Nat) (has : Bool) (rod : α → Option Nat) (base : List α) (new : List (Rec1 α)) : List (Rec1 α) :=
  let old : List (Rec1 α) := base.map (fun v => ⟨none, true, v⟩)
  if has then old.filter (fun r => !namedRod mask (rod r.v)) ++ new else old

/-- A stream whose source is unnamed takes the place of the record with its number. The records of the patch stand in their stored
order, in which step 10 and step 11 walk them (R65). -/
def mergeStreams (mask : Nat) (has : Bool) (base : List StreamRec) (new : List (Rec1 StreamRec)) : List (Rec1 StreamRec) :=
  let others := new.filter (fun r => !namedRod mask (streamRod r.v))
  let kept := (mergeSect mask has streamRod base []).filter (fun o => !others.any (fun r => decide (r.v.stream = o.v.stream)))
  if has then kept ++ new else kept

/-- The stringing that a patch would result in. -/
def mergePatch (base : Stringing) (h : ImgHdr) (body : List Byte) : CandStrg :=
  let new := parseBody h body
  let has (t : Nat) : Bool := (dirOf h.nsect body).any (fun e => decide (e.typ = t))
  let m := h.rodMask
  { rods := (List.range 16).filterMap (fun n =>
      match new.rods.find? (fun r => decide (r.sec.rod = n) && bit m n) with
      | some r => some r
      | none => (base.rodSec n).map (fun s => ⟨none, true, s, s.beads.map (fun _ => true)⟩))
    streams := mergeStreams m (has 2) base.streams new.streams
    trays := mergeSect m (has 3) (fun r => some r.owner) base.trays new.trays
    drams := mergeSect m (has 4) (fun r => some r.owner) base.drams new.drams
    clocks := mergeSect m (has 5) clockRod base.clocks new.clocks
    events := mergeSect m (has 6) (fun r => some (E.ofNumber r.source).1) base.events new.events
    presets := mergeSect m (has 7) presetRod base.presets new.presets
    limits := mergeSect m (has 8) (fun r => some r.rod) base.limits new.limits }

/-! ### Step 9, the required beads (R48) -/

/-- Beads that every stringing has, by rod. -/
def requiredBeads (g : Stringing) : List (Nat × Nat) :=
  (List.range 13).map (fun b => (0, b)) ++
  ((List.range 8).filter (fun c => decide (g.limit 0x60 14 c 0 ≠ 0))).map (fun c => (14, c)) ++ [(15, 10), (15, 11)]

/-- REQUIRED. -/
def requiredCheck (c : CandStrg) : Option Rej :=
  let g := c.strg
  ((requiredBeads g).find? (fun e => !g.strungBead e.1 e.2)).map (fun e =>
    { code := 15, sect := ((c.rods.find? (fun r => decide (r.sec.rod = e.1))).bind (·.sect)).getD 0xFF, record := e.2 })

/-! ### Step 10: RECORD, ORDER, PATCH_SCOPE -/

/-- A record repeats the key of an earlier one. -/
def repeats {α κ : Type} [DecidableEq κ] (key : α → κ) (l : List (Rec1 α)) (i : Nat) (r : Rec1 α) : Bool :=
  (l.take i).any (fun x => decide (key x.v = key r.v))

/-- The beads of a section in string order. -/
def RodSec.order (s : RodSec) : List Nat :=
  (List.range s.beads.length).filterMap (fun p => (s.beads.find? (fun b => decide (b.2 = p))).map (·.1))

/-- The orders that an image rod's beads may take (spec/06 R146, spec/07 R177). -/
def imgOrders (dcg : Bool) : List (List Nat) :=
  let opt (b : Nat) : List (List Nat) := [[], [b]]
  (opt 1).flatMap fun dpc => (opt 2).flatMap fun lsc => (opt 4).flatMap fun tnr => (opt 8).flatMap fun lut =>
    [0, 1, 2].map fun sts =>
      [0] ++ dpc ++ lsc ++ (if dcg then [3] else []) ++ tnr ++ (if sts = 1 then [9] else []) ++ [5, 6, 7] ++
        (if sts = 2 then [9] else []) ++ lut ++ [10]

/-- The bead of the ORDER detail (R65, which does not say which): the BEAD index of the first bead that no allowed order has in its
place, and 0xFFFF where beads are missing at the end (log 211). -/
def orderBreak (orders : List (List Nat)) (l : List Nat) : Nat :=
  match (List.range l.length).find? (fun i => !orders.any (fun o => decide (o.take (i + 1) = l.take (i + 1)))) with
  | some i => l.getD i 0
  | none => 0xFFFF

/-- The DCG limit of the source port (spec/06 R140). -/
def sourceDcg (g : Stringing) : Bool :=
  match g.source with
  | some p => decide (g.limit 0x05 1 (if p = 1 then 1 else 0) 0 = 1)
  | none => false

/-- Image rods whose sections are identical (spec/06 R146). -/
def stripeGroup (g : Stringing) : List Nat :=
  (List.range (g.limit 0x11 0xFF 0 4)).map (2 + ·) ++ (if g.limit 0x12 6 0 0 = 1 then [6] else [])

/-- ORDER of one rod: the RECORD of the detail. -/
def orderCheck (g : Stringing) (s : RodSec) : Option Nat :=
  if s.rod < 2 ∨ 6 < s.rod ∨ s.beads.isEmpty then none
  else
    let orders := imgOrders (sourceDcg g)
    if !orders.contains s.order then some (orderBreak orders s.order)
    else
      let grp := (stripeGroup g).filterMap g.rodSec |>.filter (fun x => !x.beads.isEmpty)
      match grp with
      | x :: _ =>
        if (stripeGroup g).contains s.rod ∧ ¬(x.power = s.power ∧ x.ckDiv = s.ckDiv ∧ x.beads = s.beads) then some 0xFFFF else none
      | [] => none

/-- RECORD and ORDER of a ROD section. -/
def rodCheck (g : Stringing) (r : RodIn) : Option Rej :=
  let sect := r.sect.getD 0xFF
  let bad := (List.range r.beadOk.length).find? (fun i => !r.beadOk.getD i true)
  if !r.ok then some ⟨0x10, sect, 0xFFFF⟩
  else match bad with
    | some i => some ⟨0x10, sect, i⟩
    | none => (orderCheck g r.sec).map (fun b => ⟨0x11, sect, b⟩)

/-- Check the records of a section in order. -/
def sectCheck {α : Type} (l : List (Rec1 α)) (bad : Nat → Rec1 α → Option Nat) : Option Rej :=
  l.zipIdx.findSome? (fun e => (bad e.2 e.1).map (recRej e.1))

/-- What PATCH_SCOPE needs of the stringing in force: the mask of the named rods. -/
structure Scope where
  base : Stringing
  mask : Nat

/-- A stream of a patch keeps R67. -/
def Scope.stream (c : Scope) (r : StreamRec) : Bool :=
  namedRod c.mask (streamRod r) ||
  (match c.base.streams.find? (fun b => decide (b.stream = r.stream)) with
    | some b => decide (b.src = r.src ∧ b.queue = r.queue ∧ b.cls = r.cls ∧ b.policy = r.policy ∧ b.rate = r.rate) &&
        ((b.dst.filter (fun p => !r.dst.contains p)) ++ (r.dst.filter (fun p => !b.dst.contains p))).all (fun p =>
          decide (p ≤ 27) && bit c.mask (portRod p))
    | none => false)

/-- A TRAY record of a patch: granules that no unnamed rod holds. -/
def Scope.tray (c : Scope) (r : TrayRec) : Bool :=
  bit c.mask r.owner &&
  !c.base.trays.any (fun b => !bit c.mask b.owner && decide (b.first < r.first + r.count ∧ r.first < b.first + b.count))

/-- A DRAM record of a patch: it defines no region of an unnamed rod. -/
def Scope.dram (c : Scope) (r : DramRec) : Bool :=
  bit c.mask r.owner && (decide (r.size = 0) ||
    !c.base.drams.any (fun b => decide (b.size ≠ 0 ∧ b.region = r.region) && !bit c.mask b.owner))

/-- Step 10 for one record: out of range or repeated, outside the scope of a patch. -/
def recCode {α : Type} (sc : Option Scope) (bad : Bool) (ok : Scope → α → Bool) (r : Rec1 α) : Option Nat :=
  if !r.ok || bad then some 0x10
  else match sc with
    | some c => if r.loc.isSome && !ok c r.v then some 0x1D else none
    | none => none

/-- Step 10. Records of one ALLOC that differ in OWNER, FLAGS, READ or WRITE (R52 gives no code) are rejected with RECORD (log 211). -/
def step10 (c : CandStrg) (sc : Option Scope) : Option Rej :=
  let g := c.strg
  (c.rods.findSome? (rodCheck g)) <|>
  (sectCheck c.streams (fun i r => recCode sc (repeats (·.stream) c.streams i r) Scope.stream r)) <|>
  (sectCheck c.trays (fun i r => recCode sc ((c.trays.take i).any (fun x => decide (x.v.alloc = r.v.alloc ∧
      ¬(x.v.owner = r.v.owner ∧ x.v.flags = r.v.flags ∧ x.v.read = r.v.read ∧ x.v.write = r.v.write)))) Scope.tray r)) <|>
  (sectCheck c.drams (fun _ r => recCode sc false Scope.dram r)) <|>
  (sectCheck c.clocks (fun i r => recCode sc (repeats (fun x => (x.domain, x.index, x.setpoint)) c.clocks i r)
    (fun c x => namedRod c.mask (clockRod x)) r)) <|>
  (sectCheck c.events (fun i r => recCode sc (repeats (·.source) c.events i r)
    (fun c x => namedRod c.mask (some (E.ofNumber x.source).1)) r)) <|>
  (sectCheck c.presets (fun _ r => recCode sc false (fun c x => namedRod c.mask (presetRod x)) r)) <|>
  (sectCheck c.limits (fun i r => recCode sc (repeats (fun x => (x.key, x.rod, x.index)) c.limits i r)
    (fun c x => namedRod c.mask (some x.rod)) r))

end Sys2Proof.Machine
end

