-- ==== Sys2Proof/Machine/RegCheck.lean ====
section
/-!
DEFINITION. The checks that a register write meets (spec/22 R504): the range of every field and the rules that each chapter
checks on write. Presets meet the same checks (spec/02 R59).
-/

namespace Sys2Proof.Machine

/-! ### V24 fields (spec/07 R175) -/

/-- A V24 field of an image rod. -/
def isV24 (f : Fld) : Bool :=
  decide (2 ≤ f.rod ∧ f.rod ≤ 6) && [3032, 3040, 3041, 3042, 3043, 3044, 3046, 3051, 3052, 3053, 3054].contains f.id

/-- Neither an infinity nor a denormal. -/
def v24Ok (v : Nat) : Bool := decide (bits v 15 8 ≠ 255 ∧ (bits v 15 8 = 0 → bits v 0 15 = 0))

/-! ### The rules -/

/-- A word that is written: block, offset and value. -/
structure RegWord where
  blk : Nat
  off : Nat
  v : Nat

/-- Fields of the word. -/
def RegWord.hits (w : RegWord) : List Hit := wordHits w.blk w.off

/-- The word holds a field; the value that it brings to it. -/
def RegWord.has (w : RegWord) (f : Fld) : Bool := w.hits.any (fun h => decide ((h.fld w.blk).key = f.key))
def RegWord.new (w : RegWord) (f : Fld) : Nat :=
  match w.hits.find? (fun h => decide ((h.fld w.blk).key = f.key)) with
  | some h => h.value w.blk w.v
  | none => 0

/-- The write changes one of the fields. -/
def State.changes (s : State) (w : RegWord) (l : List Fld) : Bool := l.any (fun f => w.has f && decide (w.new f ≠ s.get f))

/-- A lane register's rules (spec/03, spec/18 R445). -/
def State.laneWriteOk (s : State) (w : RegWord) : Bool :=
  let l := (w.off - 0x70000) / 64
  let use := laneUse w.blk l
  match w.off % 64 with
  | 0 => !(decide (bits w.v 24 2 = 1 ∧ use < 5)) && !(bit w.v 31 && s.jtagHolds w.blk l)
  | 4 => decide (use ≠ 0) || decide (2500000 ≤ bits w.v 0 25 ∧ bits w.v 0 25 ≤ 16000000)
  | 8 => !bit w.v 3 || decide (bits w.v 0 3 ≠ 0 ∧ bits w.v 0 3 ≠ 7)
  | 0x1C =>
    let m := bits w.v 24 7
    let p := bits w.v 16 5 + bits w.v 8 5
    decide (use = 0) || decide (m + p ≤ 64 ∧ 16 + p ≤ m)
  | 0x20 => !(bit w.v 31 && txOnly w.blk l) && !(bit w.v 30 && decide (use = 0))
  | _ => true

/-- Masks of a start group that may not be armed (spec/14 R361). -/
def State.sgMaskBad (s : State) (g m : Nat) : Bool :=
  let members := (List.range 8).filter (bit m)
  decide (4 < members.length) ||
  (List.range 4).any (fun h => decide (h ≠ g) && s.on (R.SG_CTL_ARMED h) && members.any (bit (s.get (R.SG_CTL_MASK h)))) ||
  members.any (fun n => decide (2 ≤ s.get (R.AP_STAT_CLK_STATE n)))

/-- The time that TLY.CMD asks for (spec/13 R325); none where SET and ADD are both clear. -/
def State.tlyAsked (s : State) (v : Nat) : Option Int :=
  if bit v 31 then some s.stepValue
  else if bit v 30 then some (if bit v 29 then (s.now : Int) - s.stepValue else (s.now : Int) + s.stepValue)
  else none

/-- The rules of a chapter that are checked on write. -/
def State.chapterOk (s : State) (w : RegWord) : Bool :=
  match w.blk with
  | 0 =>
    if w.has R.PIC_RING_REGION || w.has R.PIC_DESC_GRAN || w.has R.PIC_READERS_MASK || w.has R.STS_RING_GRAN then
      !(List.range 5).any s.stripeOn
    else if [0, 1, 2, 3].any (fun m => w.has (R.SLOT_BASE_GRAN m)) then
      [0, 1, 2, 3].all (fun m => !w.has (R.SLOT_BASE_GRAN m) || decide (s.get (R.SLOT_STAT_STATE m) = 0))
    else [0, 1, 2, 3].all (fun m => !w.has (R.SLOT_CMD_INVAL m) || !bit w.v 1 || !s.lutNamed m)
  | 1 =>
    [0, 1].all (fun p =>
      !(s.on (R.SCK_EN p) && s.changes w [R.SCK_SRC p, R.SCK_DEN p, R.SCK_NUM p]) &&
      !(w.has (R.EXQ_TIM_GUARD p) && s.lnk.sets.any (fun e => decide (e.port = p ∨ e.port = 2 ∧ p = 0))) &&
      (!w.has (R.FRM_FILL_VALUE p) || decide (w.new (R.FRM_FILL_VALUE p) < 2 ^ s.rawDepth p)) &&
      !(w.has (R.RAW_RING_REGION p) && s.on (R.LINK_CTL_EN p)))
  | 8 | 9 =>
    let r := w.blk - 8
    (!w.has (R.SCHED_CMD_GO r) || !bit w.v 31 || decide (1 ≤ bits w.v 28 3 ∧ bits w.v 28 3 ≤ 4)) &&
    (!w.has (R.DEC_IN_WR_OFF r) || decide (bits w.v 0 30 % 64 = 0 ∧ bits w.v 0 30 < s.decRing r))
  | 10 => decide (s.get R.REC_STAT_STATE = 0) ||
      !(w.has R.REC_VOL_CHUNK || (List.range 4).any (fun m => w.has (R.REC_MEMBER_NSID m)))
  | 12 =>
    if w.has R.TLY_CMD_SET then
      !(bit w.v 31 && bit w.v 30) &&
      (match s.tlyAsked w.v with | some t => decide (0 ≤ t ∧ t < (2 ^ 48 * tSec : Nat)) | none => true)
    else true
  | 13 =>
    (List.range 8).all (fun n =>
      !(s.on (R.AP_CFG_EN n) && (s.changes w [R.AP_CFG_DIR n, R.AP_CFG_CLK n, R.AP_CFG_ASRC n, R.AP_CFG_MCLK_DIV n] ||
        w.has (R.AP_BLK_LEN n) || w.has (R.AP_RING_NBLK n) || w.has (R.AP_RING_BASE_BASE n)))) &&
    (List.range 4).all (fun g => !w.has (R.SG_CTL_ARM g) || !bit w.v 31 || !s.sgMaskBad g (w.new (R.SG_CTL_MASK g)))
  | 14 =>
    (List.range 8).all (fun c =>
      !(decide (s.get (R.CH_STAT_STATE c) ≠ 0) && s.changes w [R.CH_CFG_DENSITY c, R.CH_CFG_RANKS c]) &&
      (!w.has (R.CH_FREQ_REQ c) || !bit w.v 31 || (s.spRate c (bits w.v 0 2)).isSome))
  | 15 =>
    (List.range 2).all (fun n => !(w.has (R.DFL_RING_DEPTH n) && s.on (R.DFL_CFG_EN n)) &&
      (!w.has (R.DFL_TAIL_SLOT n) || decide (bits w.v 0 8 < s.get (R.DFL_RING_DEPTH n)))) &&
    (!w.has R.THM_THR_WARN || decide (w.new R.THM_THR_WARN + 2 ≤ w.new R.THM_THR_HOT)) &&
    (!w.has R.TRIM_SEL_KIND || trimExists (w.new R.TRIM_SEL_KIND) (w.new R.TRIM_SEL_INSTANCE)) &&
    (!w.has R.TRIM_VAL_TARGET || trimCodeOk (s.get R.TRIM_SEL_KIND) (trimCode (s.get R.TRIM_SEL_KIND) (w.new R.TRIM_VAL_TARGET))) &&
    (!w.has R.CAL_RUN_GO || !bit w.v 31 || decide (1 ≤ bits w.v 24 4 ∧ bits w.v 24 4 ≤ 5))
  | 16 => !w.has R.RST_DEV_WARM || !bit w.v 0 || decide (bits w.v 16 16 = 0x5752)
  | _ => true

/-- A vector goes with bit 5 of its ROUTE (spec/17 R426). -/
def eventWriteOk (w : RegWord) : Bool :=
  if 0x78800 ≤ w.off ∧ w.off < 0x79000 then
    (if bit w.v 5 then decide (bits w.v 8 8 ≤ 63) else decide (bits w.v 8 8 = 0xFF))
  else true

/-- Every field of the word lies in its range. -/
def RegWord.inRange (w : RegWord) : Bool :=
  w.hits.all (fun h =>
    let f := h.fld w.blk
    let v := h.value w.blk w.v
    decide (h.ty = .ro) || laneFixed w.blk f || (h.row.rng.ok v && (!isV24 f || v24Ok v)))

/-- A write is accepted (R504). -/
def State.writeOk (s : State) (w : RegWord) : Bool :=
  w.inRange && (if 0x70000 ≤ w.off ∧ w.off < 0x78000 then decide (16 ≤ w.blk) || s.laneWriteOk w
    else if 0x78000 ≤ w.off then decide (16 < w.blk) || eventWriteOk w
    else s.chapterOk w)

end Sys2Proof.Machine
end

