-- ==== Sys2Proof/Machine/Validate.lean ====
section
/-!
DEFINITION. Step 11 of the validation of images and patches (spec/02 R48 to R62, R65, R541), and the model of the staged sets that
R60 judges.
-/

namespace Sys2Proof.Machine

/-! ### The commit rules of a rod as R60 judges them -/

/-- Commit rules of domain `d` of a rod: those that the rod's own chapter states, each with the reading `ask`. -/
def domRules (rod d : Nat) (s : State) (ask : Fld → Nat) : List (Nat × Bool) :=
  if rod = 1 then (if d < 2 then (lnkRules s ask d).filter (fun r => decide (r.1 < 0x20)) else [])
  else if rod < 2 then []
  else if rod ≤ 6 then (if d = 0 then imgRules (rod - 2) s ask 0 else [])
  else if rod = 7 then (if d = 0 then motRules s ask 0 else [])
  else if rod ≤ 9 then (if d = 4 then decRules (rod - 8) s ask 4 else if d = 5 then schedRules rod s ask 5 else [])
  else if rod = 10 then (if d = 0 then rrcRules s ask 0 else [])
  else if rod = 11 then (if d < 8 then headRules d s ask else if d = 8 then wallRules s ask 8 else [])
  else if rod = 13 then (if d < 8 then apRules d s ask d else if d = 8 then asRules s ask 8 else [])
  else if rod = 14 then (if d < 8 then memRules s ask d else [])
  else []

/-- The lowest rule that a rod's set fails. -/
def State.rodRule (s : State) (rod : Nat) : Option Nat :=
  (byRule (((List.range 9).flatMap (fun d =>
    if domStrung s.strg rod d then (domRules rod d s s.inForce).filter (fun r => !r.2) else [])))).head?.map (·.1)

/-! ### The model of R60 -/

/-- The state in which a candidate is judged: the rods of the mask hold their reset values and nothing else that lives in them, with
the clocks and the event defaults of the candidate; of the rods that it does not name the registers stand as they are. -/
def State.modelBase (s : State) (g : Stringing) (mask : Nat) : State :=
  let keep (l : List (Key × Nat)) := l.filter (fun e => !(decide (e.1.1 < 16) && bit mask e.1.1))
  let s0 : State := { State.reset with
    strg := g, strung := s.strung, now := s.now, up := s.up, fuses := s.fuses, tray := s.tray, trayBad := s.trayBad,
    regs := keep s.regs, inf := keep s.inf }
  ((List.range 16).filter (bit mask)).foldl (fun (s : State) r => (s.loadClocks r).loadEvents r) s0

/-- Every set in force. -/
def State.modelRules (s : State) (mask : Nat) : State := s.commitWhere (fun k => bit mask k.1)

/-- Whether a preset names a register that presets may write (R59). -/
def presetReg (p : PresetRec) : Bool :=
  match placeOf p.offset with
  | some pl =>
    let h := wordHits pl.blk pl.off
    decide (p.offset % 4 = 0 ∧ p.offset < 0x1000000) && !pl.ali && !h.isEmpty && h.all (fun x => decide (x.ty = .rw ∨ x.ty = .ro))
  | none => false

/-- Reserved and read-only bits are 0, and every field lies in its range; in a rod that is judged, every rule checked on
write holds too (R59). -/
def State.presetOk (s : State) (p : PresetRec) (judged : Bool) : Bool :=
  match placeOf p.offset with
  | some pl =>
    let w : RegWord := ⟨pl.blk, pl.off, p.value⟩
    let free := w.hits.foldl (fun a h =>
      if h.ty = .rw ∧ !laneFixed pl.blk (h.fld pl.blk) then Nat.lor a ((2 ^ (h.fld pl.blk).w - 1) * 2 ^ h.lo) else a) 0
    decide (p.value &&& free = p.value) && w.inRange && (!judged || s.writeOk w)
  | none => false

/-- The presets, one by one: the model after them, or the first record that fails. -/
def State.modelPresets (s : State) (mask : Nat) : List (Rec1 PresetRec) → State × Option Rej
  | [] => (s, none)
  | r :: t =>
    if !presetReg r.v then (s, some (recRej r 0x1A))
    else if !s.presetOk r.v (bit mask (r.v.offset / 0x100000)) then (s, some (recRej r 0x1B))
    else (if bit mask (r.v.offset / 0x100000) then s.preset r.v else s).modelPresets mask t

/-! ### The records, one by one -/

/-- Directory index of the section of a type. -/
def sectOf (dir : List DirEnt) (typ : Nat) : Nat := (dir.findIdx? (fun e => decide (e.typ = typ))).getD 0xFF

/-- A BEAM record: QUEUE, ports, POLICY (R48 to R50). -/
def streamCode (g : Stringing) (r : StreamRec) : Option Nat :=
  if !g.trays.any (fun t => decide (t.alloc = r.queue)) then some 0x13
  else if (r.src :: r.dst).any (fun p => decide (27 < p) || !g.powered (portRod p)) then some 0x14
  else if (portRod r.src = 1 ∨ portRod r.src = 12 ∨ portRod r.src = 13) ∧ r.policy = 0 then some 0x16
  else none

/-- A TRAY record of a patch window keeps R53: no other allocation is one, 48 granules in all, owned by CTL, host-visible, on the
lists of CTL alone. -/
def windowOk (g : Stringing) (i : Nat) (r : TrayRec) : Bool :=
  !bit r.flags 1 ||
    (!(g.trays.take i).any (fun b => bit b.flags 1 && decide (b.alloc ≠ r.alloc)) &&
      decide (((g.trays.filter (fun b => decide (b.alloc = r.alloc))).foldl (fun a b => a + b.count) 0) = 48 ∧ r.owner = 0 ∧
        bit r.flags 0 ∧ r.read = 1 ∧ r.write = 1))

/-- A TRAY record: no granule is granted twice, a patch window keeps its rules, it names powered rods (R48, R53). -/
def trayCode (g : Stringing) (i : Nat) (r : TrayRec) : Option Nat :=
  if (g.trays.take i).any (fun b => decide (b.first < r.first + r.count ∧ r.first < b.first + b.count)) || !windowOk g i r then some 0x12
  else if !g.powered r.owner || (List.range 16).any (fun n => (bit r.read n || bit r.write n) && !g.powered n) then some 0x13
  else none

/-- Channel offsets that a region takes on each channel of its mask (spec/15 R371): first and one past the last. -/
def regionSpan (r : DramRec) : Nat × Nat :=
  let c := max 1 (popcount r.chmask 8)
  (r.base / (256 * c) * 256, ceilDiv (r.base + r.size) (256 * c) * 256)

/-- A DRAM record: OWNER, and DRAM_FIT (R48, R55). -/
def dramCode (g : Stringing) (i : Nat) (r : DramRec) : Option Nat :=
  if !g.powered r.owner then some 0x13
  else
    match g.region r.region with
    | none => some 0x1E
    | some d =>
      if r.size = 0 then (if r.chmask ≠ d.chmask ∨ r.base ≠ 0 then some 0x1E else none)
      else
        let x := regionSpan r
        let twice := (g.drams.take i).any (fun b => decide (b.size ≠ 0 ∧ b.region = r.region))
        let beyond := (List.range 8).any (fun ch => bit r.chmask ch &&
          g.limits.any (fun l => decide (l.key = 0x60 ∧ l.rod = 14 ∧ l.index = ch ∧ l.value * 2 ^ 30 < x.2)))
        let hits := (g.drams.take i).any (fun b => decide (b.size ≠ 0 ∧ b.chmask &&& r.chmask ≠ 0) &&
          (let y := regionSpan b; decide (y.1 < x.2 ∧ x.1 < y.2)))
        if twice || beyond || hits then some 0x1E else none

/-- A frequency lies between two numbers of hertz. -/
def ClockRec.within (r : ClockRec) (lo hi : Nat) : Bool :=
  if r.den = 1001 then decide (lo * 1001 ≤ r.num * 1000 ∧ r.num * 1000 ≤ hi * 1001) else decide (lo ≤ r.num ∧ r.num ≤ hi)

/-- A CLOCK record (R57). -/
def ClockRec.good (r : ClockRec) : Bool :=
  (decide (r.domain = 2) || decide (r.setpoint = 0)) && (decide (r.domain = 2 ∨ r.domain = 5 ∨ r.domain = 6) || decide (r.index = 0)) &&
  (match r.domain with
    | 0 => decide (r.source = 0 ∧ r.num = 1200000000 ∧ r.den = 1)
    | 1 => decide (r.source = 0 ∧ r.num = 800000000 ∧ r.den = 1)
    | 2 => decide (r.source = 0 ∧ r.den = 1) && [600, 650, 700, 750, 800, 900, 1000, 1100].any (fun m => decide (r.num = m * 1000000))
    | 4 => decide (r.source = 0 ∧ r.num = 805664062 ∧ r.den = 1)
    | 5 => decide (r.source ≤ 1) && r.within 10000000 1200000000
    | 6 => decide (1 ≤ r.source) && r.within 1024000 98304000
    | 7 => decide (r.source = 0 ∧ r.num = 1000000000 ∧ r.den = 1)
    | 8 => decide (r.source = 0 ∧ r.num = 1000000000 ∧ r.den = 1)
    | _ => false)

/-! ### The sums and the cases that concern no single record -/

/-- A port lies in the first half of the switch (spec/01 R16). -/
def halfA (p : Nat) : Bool := decide (p ≤ 8 ∨ (19 ≤ p ∧ p ≤ 22) ∨ p = 27)

/-- Sum of the rates of the streams that a test picks. -/
def rateSum (g : Stringing) (p : StreamRec → Bool) : Nat := (g.streams.filter p).foldl (fun a r => a + r.rate) 0

/-- R51: port by port, then the two directions of the cut. -/
def beamCheck (g : Stringing) (sect : Nat) : Option Rej :=
  match (List.range 28).find? (fun p =>
      decide (69120 < rateSum g (fun r => decide (r.src = p))) || decide (69120 < rateSum g (fun r => r.dst.contains p))) with
  | some p => some ⟨0x15, sect, p⟩
  | none =>
    if [true, false].any (fun a => decide (552960 < rateSum g (fun r =>
        decide (halfA r.src = a) && r.dst.any (fun p => decide (halfA p ≠ a))))) then some ⟨0x15, sect, 0xFFFF⟩ else none

/-- The clock records that R57 requires. -/
def clockCheck (g : Stringing) (sect : Nat) : Option Rej :=
  let has (d i : Nat) : Bool := g.clocks.any (fun c => decide (c.domain = d ∧ c.index = i ∧ c.setpoint = 0))
  let need := (g.clocks.filter (fun c => decide (c.domain = 2))).map (fun c => (2, c.index)) ++
    ((List.range 8).filter (fun i => g.strungBead 14 i)).map (fun i => (2, i)) ++
    ((List.range 8).filter (fun i => g.strungBead 11 (10 + i))).map (fun i => (5, i)) ++
    ((List.range 8).filter (fun i => g.strungBead 13 i)).map (fun i => (6, i))
  if need.all (fun e => has e.1 e.2) then none else some ⟨0x17, sect, 0xFFFF⟩

/-- The detail of a LIMIT that fails on a key. -/
def limitRej (c : CandStrg) (sect key rod index : Nat) : Rej :=
  match c.limits.find? (fun r => decide (r.v.key = key ∧ r.v.rod = rod ∧ r.v.index = index)) with
  | some r => recRej r 0x18
  | none => ⟨0x18, sect, 0xFFFF⟩

/-- The detail of a fit check: the last preset that wrote a register that the check reads, else the LIMIT record. -/
def fitRej (c : CandStrg) (sect : Nat) (reads : List Fld) (key rod index : Nat) : Rej :=
  match (c.presets.filter (fun r => match placeOf r.v.offset with
      | some pl => (wordHits pl.blk pl.off).any (fun h => reads.any (fun f => decide ((h.fld pl.blk).key = f.key)))
      | none => false)).getLast? with
  | some r => recRej r 0x18
  | none => limitRej c sect key rod index

/-- A rod with beads that is powered. -/
def Stringing.strungRod (g : Stringing) (rod : Nat) : Bool :=
  match g.rodSec rod with | some r => decide (r.power = 1) && !r.beads.isEmpty | none => false

/-- The cases of R541 and the missing CH_CAPACITY of R62, in the order of the table: those that fail. -/
def limitCases (c : CandStrg) (sect : Nat) : List Rej :=
  let g := c.strg
  let lim := g.limit
  let no (key rod index : Nat) (ok : Bool) : List Rej := if ok then [] else [limitRej c sect key rod index]
  let cw := lim 0x31 11 0 0
  let ch := lim 0x32 11 0 0
  let wcmp := g.strungBead 11 8
  let imgs := (List.range 5).filter (fun n => g.strungRod (2 + n))
  let tnr (n : Nat) := lim 0x10 (2 + n) 0 1
  let drv := lim 0x50 10 0 4
  (List.range 8).flatMap (fun n => no 0x60 14 n (c.limits.any (fun r => decide (r.v.key = 0x60 ∧ r.v.rod = 14 ∧ r.v.index = n)))) ++
  no 0x11 0xFF 0 ((List.range (lim 0x11 0xFF 0 4)).all (fun n => g.strungRod (2 + n))) ++
  no 0x12 6 0 (decide (lim 0x12 6 0 0 = 0) || g.strungRod 6) ++
  (imgs.flatMap (fun n => no 0x10 (2 + n) 0 (decide (tnr n = tnr (imgs.headD 0))))) ++
  (List.range 36).flatMap (fun i => no 0x20 11 i (decide (lim 0x20 11 i 0 = 0) || g.strungBead 11 (if i < 32 then i / 4 else 8))) ++
  no 0x31 11 0 (decide (cw = 0) || (decide (ch ≠ 0) && wcmp)) ++
  no 0x32 11 0 (decide (ch = 0) || (decide (cw ≠ 0) && wcmp)) ++
  no 0x30 11 0 (decide (lim 0x30 11 0 0 = 0) || (decide (cw ≠ 0 ∧ ch ≠ 0) && wcmp && g.strungBead 11 9)) ++
  no 0x50 10 0 (decide (drv = 0) || (g.strungBead 10 4 &&
    (List.range (if lim 0x51 10 0 1 = 0 then 1 else drv)).all (fun i => g.strungBead 10 (5 + i))))

/-- The fit checks that reject with LIMIT: R143, CTL.PIC.RING, LNK.RAWp.RING, R205, R296, on the model of the staged sets. -/
def State.fitCases (m : State) (c : CandStrg) (sect : Nat) : List Rej :=
  let g := c.strg
  let ask := m.inForce
  let port := match g.source with | some p => sp p | none => 0
  let size (p : Nat) : List Fld := [R.LINK_CTL_WIDTH p, R.FRM_CFG_LINES p]
  let mp := if g.source = some 2 ∧ g.limit 3 1 0 4166666 < g.limit 3 1 1 4166666 then 1 else port
  let fail (n rule : Nat) : Bool := (imgRules n m ask 0).any (fun r => decide (r.1 = rule) && !r.2)
  let r143 := g.source.isSome && (List.range 5).any (fun n => g.strungRod (2 + n) && fail n 0x20)
  let geo := match g.source with
    | some p => (recWidth ask p, ask (R.FRM_CFG_LINES (sp p)))
    | none => (0, 0)
  let mib := 2 ^ 20
  let picBad := g.source.isSome && g.strungRod 2 &&
    (decide (ask R.PIC_RING_BUF_MIB * mib < pictureBytes (ask (R.FMT_CFG_FORMAT 0)) geo.1 geo.2) ||
     decide (g.regionSize (ask R.PIC_RING_REGION) < ask R.PIC_RING_NBUF * ask R.PIC_RING_BUF_MIB * mib))
  let rawBad (p : Nat) : Bool :=
    let used := (g.routed p || decide (ask (R.RAW_RING_SLOT_MIB p) ≠ 0)) && (decide (p = 0) || decide (ask (R.LINK_CTL_PAIR 0) = 0))
    let w := ask (R.LINK_CTL_WIDTH p) * (1 + ask (R.LINK_CTL_PAIR p))
    let stride := roundUp (ceilDiv (w * (1 + g.limit 5 1 p 0) * g.limit 4 1 p 16) 8) 64
    used && (decide (ask (R.RAW_RING_SLOT_MIB p) * mib < 4096 + stride * (ask (R.FRM_CFG_OB_LINES p) + ask (R.FRM_CFG_LINES p))) ||
      decide (g.regionSize (ask (R.RAW_RING_REGION p)) < ask (R.RAW_RING_DEPTH p) * ask (R.RAW_RING_SLOT_MIB p) * mib))
  let rec_ := g.strungRod 10 && (rrcRules m ask 0).any (fun r => decide (r.1 = 0x40 ∨ r.1 = 0x41) && !r.2)
  let rp := sp ((recPorts (ask R.REC_CFG_SRC)).headD 0)
  let div := match g.rodSec 11 with | some r => max 1 r.ckDiv | none => 1
  let wall := decide (192 * m.minPeriod < m.canvasW * m.canvasH * div * 10)
  (if r143 then [fitRej c sect (size port ++ [R.LINK_CTL_PAIR port]) 3 1 mp] else []) ++
  (if picBad then [fitRej c sect (size port ++ [R.PIC_RING_REGION, R.FMT_CFG_FORMAT 0]) 0 0 0] else []) ++
  ([0, 1].filter rawBad).map (fun p => fitRej c sect (size p ++ [R.RAW_RING_REGION p, R.FRM_CFG_OB_LINES p]) 4 1 p) ++
  (if rec_ then [fitRej c sect (size rp ++ [R.FRM_CFG_OB_LINES rp, R.REC_CFG_SRC]) 3 1 rp] else []) ++
  (if wall then [limitRej c sect 0x31 11 0] else [])

/-- LBUF (R62). -/
def lbufOk (g : Stringing) : Bool := decide ((List.range 36).foldl (fun a i => a + g.limit 0x20 11 i 0) 0 ≤ 131072)

/-- PRESET_RULE (R60): the rods of the mask that the candidate powers. -/
def State.ruleCheck (m : State) (g : Stringing) (mask : Nat) : Option Rej :=
  (List.range 16).findSome? (fun r => if bit mask r && g.powered r then (m.rodRule r).map (fun n => ⟨0x1C, r, n⟩) else none)

/-- One carry-log region, owned by CTL (R55). -/
def clogCheck (c : CandStrg) : Option Rej :=
  match c.drams.filter (fun r => decide (r.v.kind = 1 ∧ r.v.size ≠ 0)) with
  | [] => some { code := 0x1E }
  | r :: [] => if r.v.owner = 0 then none else some (recRej r 0x1E)
  | _ :: r :: _ => some (recRej r 0x1E)

/-- BW_CEILING (R56). -/
def ceilingOk (g : Stringing) : Bool :=
  g.drams.all (fun r =>
    let peak := ((List.range 8).filter (bit r.chmask)).foldl (fun a ch => a + 8 * (g.setPoint ch 0).getD 0) 0
    decide (g.load r.chmask * 100 ≤ peak * 85))

/-! ### Step 11 -/

/-- Step 11 for a candidate. `mask` names the rods that it strings anew: all of them for a full image. -/
def State.step11 (s : State) (c : CandStrg) (dir : List DirEnt) (mask : Nat) : Option Rej :=
  let g := c.strg
  let p := (s.modelBase g mask).modelPresets mask c.presets
  let m := p.1.modelRules mask
  let lim := sectOf dir 8
  (sectCheck c.streams (fun _ r => streamCode g r.v)) <|>
  (sectCheck c.trays (fun i r => trayCode g i r.v)) <|>
  (sectCheck c.drams (fun i r => dramCode g i r.v)) <|>
  (sectCheck c.clocks (fun _ r => if r.v.good then none else some 0x17)) <|>
  p.2 <|>
  (beamCheck g (sectOf dir 2)) <|>
  (clockCheck g (sectOf dir 5)) <|>
  (limitCases c lim).head? <|>
  (m.fitCases c lim).head? <|>
  (if lbufOk g then none else some ⟨0x19, lim, 0xFFFF⟩) <|>
  (m.ruleCheck g mask) <|>
  (clogCheck c) <|>
  (if ceilingOk g then none else some ⟨0x1F, sectOf dir 4, 0xFFFF⟩)

/-- Steps 9 to 11 for a full image's body (R65). -/
def State.fullCheck (s : State) (h : ImgHdr) (body : List Byte) : Option Rej :=
  let c := parseBody h body
  (dirCheck h body) <|> (requiredCheck c) <|> (step10 c none) <|> (s.step11 c (dirOf h.nsect body) 0xFFFF)

/-- Steps 9 to 11 for a patch's body on the stringing in force. -/
def State.patchCheck (s : State) (h : ImgHdr) (body : List Byte) : Option Rej :=
  let c := mergePatch s.strg h body
  (dirCheck h body) <|> (requiredCheck c) <|> (step10 c (some ⟨s.strg, h.rodMask⟩)) <|>
    (s.step11 c (dirOf h.nsect body) h.rodMask)

end Sys2Proof.Machine
end

