-- ==== Sys2Proof/Machine/Patch.lean ====
section
/-!
DEFINITION. Rod patches (spec/02 R67 to R71) and the beginning of a substitution (spec/06 R169 to R171), which a patch may hold back.
-/

namespace Sys2Proof.Machine

/-! ### The patch window (R53, R68) -/

/-- Granules of the window. Where its allocation has several runs the spec does not say which granule an offset falls in: the model takes
them in ascending order (log 211). -/
def State.windowGrans (s : State) : List Nat :=
  sortBy (fun a b => decide (a ≤ b))
    ((s.strg.trays.filter (fun r => bit r.flags 1)).flatMap (fun r => (List.range r.count).map (fun i => r.first + i)))

/-- Pieces of `n` bytes at a window offset: Tray address and length. -/
def windowSpan (grans : List Nat) (off n : Nat) : List (Nat × Nat) :=
  (grans.zipIdx).filterMap (fun g =>
    let lo := max off (g.2 * granBytes)
    let hi := min (off + n) ((g.2 + 1) * granBytes)
    if lo < hi then some (g.1 * granBytes + (lo - g.2 * granBytes), hi - lo) else none)

/-- Bytes of the window, as CTL reads them; an uncorrectable word is recorded (spec/01 R24). -/
def State.windowRead (s : State) (off n : Nat) : List Byte × State :=
  (windowSpan s.windowGrans off n).foldl (fun (a : List Byte × State) e =>
    let r := a.2.trayReadAs 0 0 e.1 e.2
    (a.1 ++ r.1, r.2.2)) ([], s)

/-- Write bytes to the window. -/
def State.windowWrite (s : State) (off : Nat) (d : List Byte) : State :=
  ((windowSpan s.windowGrans off d.length).foldl (fun (a : State × List Byte) e =>
    (a.1.trayPut 0 e.1 (a.2.take e.2), a.2.drop e.2)) (s, d)).1

/-! ### Ends of a patch (R65, R71) -/

/-- The carry-log job of a patch (spec/17 R431). -/
def State.patchJob (s : State) : Job := ⟨0, 0, 13, s.patch.hdr.imageId, 0⟩

/-- A patch has gone: what it held back goes on. -/
def State.patchOver (s : State) : State := s.resume.pwrResume

/-- A patch is rejected (R65). -/
def State.patchRefuse (s : State) (r : Rej) : State :=
  (((s.sets [(R.PATCH_STAT_STATE, 6), (R.PATCH_STAT_CODE, r.code), (R.PATCH_DETAIL_SECT, r.sect), (R.PATCH_DETAIL_RECORD, r.record)]).endJob
    s.patchJob 2).raise E.patchReject).patchOver

/-- Named rods that have drained, as a mask. -/
def State.patchDrained (s : State) : Nat :=
  maskOf ((List.range 16).filter (fun r => bit s.patch.hdr.rodMask r && s.rodDrained r (s.get R.PATCH_TAG_T)))

/-- A patch is abandoned (R71): every named rod resumes. -/
def State.patchAbandon (s : State) (code : Nat) : State :=
  let d := if s.get R.PATCH_STAT_STATE = 3 then s.patchDrained else 0
  (((s.sets [(R.PATCH_STAT_STATE, 7), (R.PATCH_STAT_CODE, code), (R.PATCH_STAT_DRAINED, d)]).endJob s.patchJob 2).raise
    E.patchAbandon).patchOver

/-- A patch in DRAIN that names a rod is abandoned when the rod reports a fatal fault (R71, spec/21 R491). -/
def State.patchFault (s : State) (rod : Nat) : State :=
  if s.get R.PATCH_STAT_STATE = 3 ∧ bit s.patch.hdr.rodMask rod then s.patchAbandon 0x24 else s

/-! ### Substitution begins (spec/06 R169, R171) -/

/-- A frame's stripe is still to be done by its rod, or its job runs. -/
def State.stripeToDo (s : State) (f : Frame) (k : Nat) : Bool :=
  s.stripeWaits f k && (decide (s.entryState f.tag k = some 0) || s.imgs.any (fun j => decide (j.k = k ∧ j.tag = f.tag)) ||
    tagLater f.tag (s.get (I.IMG_LAST (s.stripeRod k - 2))))

/-- Frames whose stripe `k` is due and not done. -/
def State.stripeDue (s : State) (k : Nat) : List Nat :=
  ((s.frames.filter (fun f => decide (some f.port = s.strg.source) && (f.closed || !s.tnrQuality) &&
    s.stripeToDo f k)).map (·.tag)).reverse

/-- Stripe `k` of every frame that is due is concealed. -/
def State.stripeHide (s : State) (k : Nat) : State := (s.stripeDue k).foldl (fun (s : State) t => s.conceal t k) s

/-- The substitution of stripe `k` begins; `tag` is its first concealed frame. It abandons a patch in DRAIN that names an image rod
(spec/02 R71). -/
def State.substBegin (s : State) (k tag : Nat) : State :=
  let s1 := if s.get R.PATCH_STAT_STATE = 3 ∧ bits s.patch.hdr.rodMask 2 5 ≠ 0 then s.patchAbandon 0x23 else s
  ((s1.sets [(R.SUBST_STAT_ACTIVE, 1), (R.SUBST_STAT_STRIPE, k), (R.SUBST_STAT_FROM, 2 + k), (R.SUBST_STAT_SUB_EV, 1),
    (R.SUBST_TAG_TAG, tag), (I.STRIPE_OUT k, 1)]).stripeHide k).raise E.stripeSub

/-- Stripe `k` is lost: every frame has it concealed (R171), until its own rod is out of reset and has its sets. -/
def State.stripeLose (s : State) (k : Nat) : State :=
  ((s.sets [(I.STRIPE_OUT k, if s.isolated (2 + k) then 3 else 2), (R.SUBST_STAT_LOST, 1)]).stripeHide k).raise E.stripeLost

/-- Stripe `k` has lost its rod: a substitution begins, waits for IMG4's RESTRING, or does not take place. -/
def State.substAsk (s : State) (k tag : Nat) : State :=
  if !s.spareArmed || s.on R.SUBST_STAT_ACTIVE || s.on I.SPARE_BAD || s.on I.SUBST_WAIT then s.stripeLose k
  else if s.get R.PATCH_STAT_STATE = 4 ∧ bit s.patch.hdr.rodMask 6 then
    (s.sets [(I.SUBST_WAIT, k + 1), (I.SUBST_WTAG, tag), (I.STRIPE_OUT k, 1)]).stripeHide k
  else s.substBegin k tag

/-! ### The commands -/

/-- PATCH_GO (R68, R69 step 1): ignored while a patch runs, and in DOZE (spec/18 R453). TOTAL_LEN of the header in the window tells how
many bytes are supplied. -/
def execPatchGo (s : State) : Res :=
  .next (s.hostTo 0 fun s =>
    let st := s.get R.PATCH_STAT_STATE
    let pw := s.get R.PWR_STAT_STATE
    if (1 ≤ st ∧ st ≤ 4) ∨ pw = pwDoze ∨ pw = pwLeaving then s.set R.PATCH_STAT_BUSY_GO 1
    else
      let head := (s.windowRead 0 hdrLen).1
      let n := max hdrLen (min (fieldLE head 16 4) (48 * granBytes))
      let r := s.windowRead 0 n
      let s1 : State := { r.2 with patch := { stored := r.1, hdr := parseHdr r.1 } }
      (s1.sets [(R.PATCH_STAT_STATE, 1), (R.PATCH_STAT_CODE, 0), (R.PATCH_STAT_DRAINED, 0), (R.PATCH_DETAIL_SECT, 0xFF),
        (R.PATCH_DETAIL_RECORD, 0xFFFF)]).beginJob s1.patchJob)

/-- PATCH_ABORT (R71): ignored outside VERIFY, CHECK and DRAIN. -/
def execPatchAbort (s : State) : Res :=
  .next (s.hostTo 0 fun s =>
    let st := s.get R.PATCH_STAT_STATE
    if 1 ≤ st ∧ st ≤ 3 then s.patchAbandon 0x25 else s)

/-- The digest of the full image in force. -/
def State.imageDigest (s : State) : List Byte := (List.range 12).flatMap (fun k => leBytes 4 (s.get (R.DIGEST_D k)))

/-- PATCH_VERIFY_DONE (R69 step 2): steps 1 to 8. Without a patch window nothing can be read, and the patch is abandoned. -/
def execPatchVerifyDone (s : State) : Res :=
  .next (if s.get R.PATCH_STAT_STATE ≠ 1 then s
    else if s.windowGrans.isEmpty then (s.set R.PATCH_STAT_STATE 2).patchAbandon 0x21
    else
      match imgFront true s.patch.stored s.fuses s.imageDigest (s.on R.SUBST_STAT_ACTIVE) with
      | some r => s.patchRefuse r
      | none =>
        match imgBody s.patch.stored with
        | none => s.patchRefuse { code := 13 }
        | some b => (({ s with patch := { s.patch with body := b } } : State).windowWrite (2 ^ 20) b).set R.PATCH_STAT_STATE 2)

/-- T of a patch (R69): 0 where LNK is powered down in the stringing in force; in HOLD no job is open and a patch drains at once
(spec/18 R453). -/
def State.patchT (s : State) : Nat :=
  if !s.strg.powered 1 ∨ s.get R.PWR_STAT_STATE = pwHold then 0 else s.nextTag

/-- PATCH_CHECK_DONE (R69 step 3): steps 9 to 11. -/
def execPatchCheckDone (s : State) : Res :=
  .next (if s.get R.PATCH_STAT_STATE ≠ 2 then s
    else
      let h := s.patch.hdr
      match s.patchCheck h s.patch.body with
      | some r => s.patchRefuse r
      | none =>
        let s1 : State := { s with patch := { s.patch with strg := (mergePatch s.strg h s.patch.body).strg } }
        let s2 := s1.utlFree.sets [(R.PATCH_TAG_T, s1.patchT), (R.PATCH_STAT_STATE, 3)]
        if s2.on R.SUBST_STAT_ACTIVE ∧ bits h.rodMask 2 5 ≠ 0 then s2.patchAbandon 0x23
        else if bit h.rodMask 10 && !s2.isolated 10 then (s2.recClose 2).recFlow
        else s2)

/-- The frame start of T has come, if LNK is to issue one. -/
def State.patchSeen (s : State) : Bool :=
  let t := s.get R.PATCH_TAG_T
  decide (t = 0) || !s.strg.strungRod 1 || s.tagIssued t

/-- Every named rod has drained. -/
def State.patchReady (s : State) : Bool := s.patchSeen && decide (s.patchDrained = s.patch.hdr.rodMask)

/-- PATCH_RESTRING (R69 step 4): the named rods are reset together. -/
def execPatchRestring (s : State) : Res :=
  .next (if s.get R.PATCH_STAT_STATE = 3 ∧ s.patchReady then
    let m := s.patch.hdr.rodMask
    (List.range 16).foldl (fun (s : State) r =>
        if bit m r then (s.assertReset r 5).sets [(I.HOLD_PATCH r, 1), (I.RST_QUIET r, 1)] else s)
      (s.sets [(R.PATCH_STAT_STATE, 4), (R.PATCH_STAT_DRAINED, m)])
    else s)

/-- A named rod is strung anew (R69 step 5, R70): it powers up or down, its presets are committed, and it runs unless ROD_HOLD held it
before; a hold written during RESTRING takes effect now (spec/21 R486). -/
def State.restrung (s : State) (r id svn : Nat) : State :=
  let s1 := s.sets [(I.HOLD_PATCH r, 0), (R.ROD_SRC_ID r, id), (I.ROD_SVN r, svn)]
  if !s1.strg.powered r then (s1.powerDown r).set (I.HOLD_PEND r) 0
  else
    let s2 := s1.powerUp r
    let late := s2.on (I.HOLD_PEND r)
    if s2.held r ∧ !late then s2.set (I.RST_QUIET r) 0
    else
      let s3 := (s2.rodReady r false false).set (I.HOLD_PEND r) 0
      if late then s3.assertReset r 1 else s3

/-- Held flits of streams that no longer reach their rod are discarded and counted (R69 step 6). -/
def State.dropUnreached (s : State) : State :=
  let gone := s.flits.filter (fun f => !s.strg.streams.any (fun r => decide (r.stream = f.stream) && r.dst.contains f.dst))
  gone.foldl (fun (s : State) f =>
    let s1 := if s.on R.DROP_STAT_DROPPED then s else s.set R.DROP_STAT_STREAM f.stream
    ((s1.set R.DROP_STAT_DROPPED 1).inc R.DROP_STAT_CNT).raise E.strgDrop)
    { s with flits := s.flits.filter (fun f => !gone.contains f) }

/-- A substitution that waited for IMG4's RESTRING begins. -/
def State.substResume (s : State) : State :=
  let w := s.get I.SUBST_WAIT
  if w = 0 then s else (s.set I.SUBST_WAIT 0).substAsk (w - 1) (s.get I.SUBST_WTAG)

/-- PATCH_DONE (R69 steps 5 and 6). -/
def execPatchDone (s : State) : Res :=
  .next (if s.get R.PATCH_STAT_STATE ≠ 4 then s
    else
      let h := s.patch.hdr
      let dig := sha384 (s.patch.stored.take h.sigOffset)
      let s1 := ({ s with strg := s.patch.strg } : State).dropUnreached
      let s2 := (List.range 16).foldl (fun (s : State) r => if bit h.rodMask r then s.restrung r h.imageId h.svn else s) s1
      let s3 := s2.sets ([(R.PATCH_STAT_STATE, 5), (R.PATCH_STAT_CODE, 0)] ++
        (List.range 12).map (fun k => (I.PATCH_DIG k, fieldLE dig (4 * k) 4)))
      (((s3.endJob s3.patchJob 0).raise E.patchDone).substResume).patchOver)

/-- PATCH_DRAIN_TIMEOUT (R71): ARM_TIMEOUT has passed in DRAIN. -/
def execPatchDrainTimeout (s : State) : Res :=
  .next (if s.get R.PATCH_STAT_STATE ≠ 3 ∨ s.patchReady then s
    else s.patchAbandon (if s.patchSeen then 0x22 else 0x26))

end Sys2Proof.Machine
end

