-- ==== Sys2Proof/Machine/Faults.lean ====
section
/-!
DEFINITION. Fatal faults and what follows (spec/06 R168 to R172, spec/21 R486, R491), and lost reference clocks (spec/21 R493, R494).
-/

namespace Sys2Proof.Machine

/-! ### Fatal faults of image rods (spec/06 R168 to R171) -/

/-- The controller holds a rod in reset: its ROD_HOLD bit, and the reset with the cause that LAST records. -/
def State.holdRod (s : State) (rod cause : Nat) : State :=
  (s.set R.ROD_HOLD_HOLD (setBit (s.get R.ROD_HOLD_HOLD) rod)).assertReset rod cause

/-- The first frame whose stripe `k` a fault of its rod conceals: that of the job, else the oldest that is due, else the next. -/
def State.faultTag (s : State) (n k : Nat) : Nat :=
  match s.imgs.find? (fun j => decide (j.rod = 2 + n)) with
  | some j => j.tag
  | none => ((s.stripeDue k).head?).getD s.nextTag

/-- A fatal fault of image rod `n`; `cause` is the field of its ROD_STAT, `last` what RST.LAST records. The idle spare, where it is
armed, is lost without being held (R171); a stripe that waits for it is lost with it. -/
def State.imgFatal (s : State) (n : Nat) (cause : Fld) (last : Nat) : State :=
  let rod := 2 + n
  if s.isolated rod then s
  else
    let s1 := ((s.patchFault rod).set cause 1).raise (E.rodFatal n)
    match s1.rodStripe rod with
    | some k => ((s1.holdRod rod last).when (decide (n = 4)) (·.set I.SPARE_BAD 1)).substAsk k (s1.faultTag n k)
    | none =>
      if n = 4 then
        let s2 := s1.set I.SPARE_BAD 1
        if s1.on I.SPARE_BAD || !s1.spareArmed then s2
        else
          let s3 := (s2.set R.SUBST_STAT_SPARE_LOST 1).raise E.spareLost
          if s1.on R.SUBST_STAT_ACTIVE ∧ s1.get (I.STRIPE_OUT (s1.get R.SUBST_STAT_STRIPE)) = 1 then
            (s3.set R.SUBST_STAT_ACTIVE 0).stripeLose (s1.get R.SUBST_STAT_STRIPE)
          else s3
      else s1.holdRod rod last

/-- JOB_WATCHDOG (R168): HANG of a rod whose job runs. -/
def execJobWatchdog (n : Fin 5) (s : State) : Res :=
  .next (if s.imgs.any (fun j => decide (j.rod = 2 + n.val)) then s.imgFatal n (R.IMG_STAT_HANG n) 1 else s)

/-- LB_PARITY (R168). -/
def execLbParity (n : Fin 5) (s : State) : Res := .next (s.imgFatal n (R.IMG_STAT_LB_PARITY n) 1)

/-- SUBST_TEST (R168): SUBST.CMD.TEST; ROD from 2 to 6. -/
def execSubstTest (rod : BitVec 4) (s : State) : Res :=
  .next (s.hostTo 0 fun s =>
    let r := rod.toNat
    if r < 2 ∨ 6 < r then s.wrRange 0 0xC300 else s.imgFatal (r - 2) (R.IMG_STAT_HANG (r - 2)) 1)

/-! ### Copies of sets (R169, R171, R172) -/

/-- Firmware copies the staged and in-force sets of a rod into another. -/
def State.copySets (s : State) (src dst : Nat) : State :=
  let move (l : List (Key × Nat)) : List (Key × Nat) :=
    mapOver keyLt ((l.filter (fun e => decide (e.1.1 = src) && isSh e.1.2.1)).map (fun e => ((dst, e.1.2), e.2)))
      (l.filter (fun e => !(decide (e.1.1 = dst) && isSh e.1.2.1)))
  { s with regs := move s.regs, inf := move s.inf }

/-- An active image rod that a fault of stripe `k` leaves unaffected. -/
def State.goodRod (s : State) (k : Nat) : Option Nat :=
  ((List.range s.stripes).filter (fun j => decide (j ≠ k) && !s.on (I.STRIPE_OUT j))).map s.stripeRod |>.find? (fun r => !s.isolated r)

/-- BLK levels and DCG ratio of image rod `n` are seeded from rod `g` (R169 step 3). -/
def State.seedRod (s : State) (n : Nat) (g : Option Nat) : State :=
  match g with
  | some r =>
    let s1 := (List.range 12).foldl (fun (s : State) c => s.set (I.BLK_B n c) (s.get (I.BLK_B (r - 2) c))) s
    s1.setInf (R.DCG_RATIO_G n) (s.inForce (R.DCG_RATIO_G (r - 2)))
  | none => s

/-- SUBST_COPY_DONE (R169 step 3, R171): the sets of the faulted rod are in IMG4, which takes the stripe; or, where no substitution took
place, those of an unaffected rod are in the stripe's own rod, which takes it back. -/
def execSubstCopyDone (k : Fin 4) (s : State) : Res :=
  .next (
    let o := s.get (I.STRIPE_OUT k)
    if o = 1 ∧ !s.on I.SUBST_WAIT ∧ !s.isolated 6 ∧ !s.on I.SPARE_BAD then
      ((s.copySets (2 + k) 6).seedRod 4 (s.goodRod k)).sets
        [(I.STRIPE_OUT k, 0), (I.STRIPE_MOVED k, 6), (I.IMG_LAST 4, s.get (I.IMG_LAST k))]
    else if o = 2 ∧ !s.isolated (2 + k) then
      let s1 := match s.goodRod k with
        | some r => (s.copySets r (2 + k)).seedRod k (some r)
        | none => s
      (s1.sets [(I.STRIPE_OUT k, 0), (I.STRIPE_MOVED k, 0)]).when
        (s1.on R.SUBST_STAT_ACTIVE && decide (s1.get R.SUBST_STAT_STRIPE = k.val)) (·.set R.SUBST_STAT_ACTIVE 0)
    else s)

/-- SUBST_RETURN (R172): SUBST.CMD.RETURN; ignored while no substitution is in force or IMGk is in reset. -/
def execSubstReturn (s : State) : Res :=
  .next (s.hostTo 0 fun s =>
    let k := s.get R.SUBST_STAT_STRIPE
    if !s.on R.SUBST_STAT_ACTIVE ∨ s.isolated (2 + k) ∨ s.get (I.STRIPE_MOVED k) ≠ 6 then s
    else
      (((s.copySets 6 (2 + k)).seedRod k (some 6)).sets
        [(I.STRIPE_MOVED k, 0), (I.IMG_LAST k, s.get (I.IMG_LAST 4)), (R.SUBST_STAT_ACTIVE, 0)]).raise E.substReturn)

/-! ### Hung rods (spec/21 R491) -/

/-- A rod is hung; `cause` is the value of RST.LAST.CAUSE: 2 a probe, 3 a request, 4 register parity. -/
def State.rodHung (s : State) (rod cause : Nat) : State :=
  if rod = 0 ∨ rod = 14 ∨ s.isolated rod then s
  else if 2 ≤ rod ∧ rod ≤ 6 then s.imgFatal (rod - 2) (R.IMG_STAT_PORT (rod - 2)) cause
  else
    let s1 := s.patchFault rod
    if bit (s1.get R.RST_AUTO_MASK) rod && decide (s1.recentResets rod < s1.get R.RST_AUTO_LIMIT) then
      let s2 := ((s1.set (I.HOLD_AUTO rod) 1).assertReset rod cause).set R.ROD_STAT_FAULT_RST 1
      ({ s2 with autoTimes := (rod, s2.up) :: s2.autoTimes } : State).inc R.RST_LAST_AUTO_CNT |>.raise E.rodFaultReset
    else ((s1.holdRod rod cause).set R.ROD_STAT_HELD 1).raise E.rodHeld

/-- A request to a port ended in TIMEOUT: RST.BEAM records it. -/
def State.beamTimeout (s : State) (port : Nat) : State :=
  let s1 := if s.on R.RST_BEAM_TIMEOUT then s else s.set R.RST_BEAM_TO_PORT port
  ((s1.set R.RST_BEAM_TIMEOUT 1).inc R.RST_BEAM_TO_CNT).raise E.beamTimeout

/-- The target of a request is hung: its rod, or its channel of MEM (spec/15 R392). -/
def State.portHung (s : State) (port cause : Nat) : State :=
  if 19 ≤ port ∧ port ≤ 26 then s.chanReset (port - 19) else s.rodHung (portRod port) cause

/-- TIMEOUT (spec/01 R18): the requester's port ends the request. A TIMEOUT at an image rod's own port is that rod's fatal fault too
(spec/06 R168). -/
def execTimeout (port : Fin 28) (txn : BitVec 10) (s : State) : Res :=
  .next (match s.txns.find? (fun t => decide (t.port = port.val ∧ t.txn = txn.toNat)) with
    | none => s
    | some t =>
      let s1 := ((({ s with txns := s.txns.erase t } : State).emit (.beamEnd t.port t.txn 5 [])).beamTimeout t.dst).portHung t.dst 3
      let r := portRod port
      if 2 ≤ r ∧ r ≤ 6 then s1.rodHung r 3 else s1)

/-- ROD_PROBE (R491): `silent` marks the rods that do not answer CTL's read within 20 µs. -/
def execRodProbe (silent : BitVec 16) (s : State) : Res :=
  .next ((List.range 16).foldl (fun (s : State) r =>
    if bit silent.toNat r ∧ r ≠ 0 ∧ r ≠ 14 ∧ !s.isolated r then (s.beamTimeout (rodPort r)).rodHung r 2 else s) s)

/-- REG_PARITY (R491). -/
def execRegParity (rod : Fin 16) (s : State) : Res := .next (s.rodHung rod 4)

/-- ROD_HOLD_SET (R486): a write of a ROD_HOLD bit. A hold of a rod that a patch names abandons the patch, or waits for its RESTRING. -/
def State.holdSet (s : State) (rod : Nat) : State :=
  if rod = 0 ∨ rod = 14 then s.wrRange 16 0x1100200
  else
    let s1 := if s.patchNames rod then s.patchAbandon 0x24 else s
    if s1.get R.PATCH_STAT_STATE = 4 ∧ bit s1.patch.hdr.rodMask rod ∧ !bit (s1.get R.ROD_HOLD_HOLD) rod then
      s1.sets [(R.ROD_HOLD_HOLD, setBit (s1.get R.ROD_HOLD_HOLD) rod), (I.HOLD_PEND rod, 1)]
    else if bit (s1.get R.ROD_HOLD_HOLD) rod then s1
    else s1.holdRod rod 1

/-- ROD_HOLD_SET. -/
def execRodHoldSet (rod : Fin 16) (s : State) : Res := .next (s.hostTo 16 (·.holdSet rod))

/-! ### Lost reference clocks (R493, R494) -/

/-- Lanes of a rod that are in use lose their reference. -/
def State.refLanes (s : State) (rod : Nat) : State :=
  if s.isolated rod then s
  else (List.range 4).foldl (fun (s : State) g => s.groupFault rod g 3 (fun st => decide (st ≠ lnOff ∧ st ≠ lnFault))) s

/-- The controller writes GO with FROM 1 to every lane of a rod that has EN set. -/
def State.refGo (s : State) (rod : Nat) : State :=
  if s.isolated rod then s
  else (List.range (laneCount rod)).foldl (fun (s : State) l => if s.on (R.LN_CTL_EN rod l) then s.laneGo rod l lnPll else s) s

/-- XO_LOSS: the PLLs freeze; rods and Tally go on. -/
def execXoLoss (s : State) : Res :=
  .next ((s.sets [(R.CLK_STAT_XO_EV, 1), (R.CLK_STAT_XO_LOST, 1)]).raise E.xoLoss)

/-- PCIE_REF_LOSS: lanes fault, the endpoint's link is down, the drives' links are down. -/
def execPcieRefLoss (s : State) : Res :=
  .next (
    let s1 := (((s.sets [(R.CLK_STAT_PCIE_EV, 1), (R.CLK_STAT_PCIE_LOST, 1)]).raise E.pcieRefLoss).refLanes 0).refLanes 10
    let s2 := if s1.isolated 10 then s1 else (List.range 4).foldl (fun (s : State) d =>
      if s.get (R.NVQ_STAT_STATE d) = 1 ∨ s.get (R.NVQ_STAT_STATE d) = 2 then s.driveFault d else s) s1
    if s2.on I.HEP_LINK then s2.hepReset else s2)

/-- ETH_REF_LOSS: MAC lanes fault, links are down, PTP holds over. -/
def execEthRefLoss (s : State) : Res :=
  .next (
    let s1 := ((s.sets [(R.CLK_STAT_ETH_EV, 1), (R.CLK_STAT_ETH_LOST, 1)]).raise E.ethRefLoss).refLanes 12
    ((List.range 4).foldl (fun (s : State) m => s.ethDown m) s1).ptpHold)

/-- REF_BACK: 0 the crystal, 1 the PCIe reference, 2 the Ethernet reference. -/
def execRefBack (which : Fin 3) (s : State) : Res :=
  .next (
    let f := match which with | 0 => R.CLK_STAT_XO_LOST | 1 => R.CLK_STAT_PCIE_LOST | 2 => R.CLK_STAT_ETH_LOST
    if !s.on f then s
    else
      let s1 := (s.set f 0).raise E.refBack
      match which with
      | 0 => s1
      | 1 => (s1.refGo 0).refGo 10
      | 2 => s1.refGo 12)

end Sys2Proof.Machine
end

