-- ==== Sys2Proof/Machine/Boot.lean ====
section
/-!
DEFINITION. The boot (spec/24 R534 to R540): firmware and full images from the flash or the host, the application of a full image
(spec/02 R66), and the image offered again after DOZE (spec/18 R454).
-/

namespace Sys2Proof.Machine

/-- Codes of BOOT.STAT.STATE. -/
def btRom : Nat := 0
def btFwFlash : Nat := 1
def btWaitFw : Nat := 2
def btFwHost : Nat := 3
def btImgFlash : Nat := 4
def btWaitImg : Nat := 5
def btImgHost : Nat := 6
def btApply : Nat := 7
def btTrain : Nat := 8
def btReady : Nat := 9

/-- STATE of the boot. -/
def State.boot (s : State) : Nat := s.get R.BOOT_STAT_STATE

/-- SEC draws a new challenge (spec/18 R442). -/
def State.newChallenge (s : State) : State := ({ s with sec := { s.sec with challenge := s.freeBytes 32 } } : State).drawn

/-! ### From reset to the firmware (R534 to R536) -/

/-- BOOT_START (R537 steps 1 and 2): a reset is released; AON raises what R483 says, SEC starts, every trim is set from the set, the
HEP lanes begin bring-up. -/
def execBootStart (s : State) : Res :=
  .next (if (s.get I.DEV = 0 ∧ s.get I.BOOT_STEP = 0) ∨ s.get I.DEV = 9 then
    let ev := s.get I.BOOT_EV
    let s1 := ((s.sets [(I.DEV, 0), (I.BOOT_EV, 0), (I.BOOT_STEP, 1), (I.BOOT_T, s.up)]).raiseIf (decide (ev = 1)) E.warmReset).raiseIf
      (decide (ev = 2)) E.thermRestart
    let s2 := s1.newChallenge.calBoot
    (List.range 4).foldl (fun (s : State) l => if s.on (R.LN_CTL_EN 0 l) then s.laneStart 0 l else s) s2
  else s)

/-- The flash directory keeps the table of R534. -/
def flashDirOk (d : List Byte) : Bool :=
  decide (d.length = 64 ∧ fieldLE d 0 4 = 0x54425856 ∧ fieldLE d 4 2 = 1 ∧ fieldLE d 6 1 ≤ 1 ∧ 25 ≤ fieldLE d 7 1 ∧ fieldLE d 7 1 ≤ 133 ∧
    fieldLE d 0x3C 4 = crc32c (d.take 0x3C)) &&
  (List.range 4).all (fun e => decide (fieldLE d (8 + 8 * e) 4 % 4096 = 0)) && allZero (slice d 0x28 20)

/-- The next copy of the flash at or after `i` for the entries from `e` up, or the host's. -/
def State.nextCopy (s : State) (e i : Nat) : Nat := ([0, 1].find? (fun k => decide (i ≤ k) && s.on (I.BOOT_DIR (e + k)))).getD 2

/-- Firmware copies are offered from copy `i` up. -/
def State.offerFw (s : State) (i : Nat) : State :=
  let c := s.nextCopy 0 i
  s.sets [(I.BOOT_COPY, c), (R.BOOT_STAT_STATE, if c = 2 then btWaitFw else btFwFlash)]

/-- Full images are offered from copy `i` up. -/
def State.offerImg (s : State) (i : Nat) : State :=
  let c := s.nextCopy 2 i
  s.sets [(I.BOOT_COPY, c), (I.BOOT_STEP, 2), (R.BOOT_STAT_STATE, if c = 2 then btWaitImg else btImgFlash)]

/-- FLASH_DIR_READ (R534). -/
def execFlashDirRead (dir : List Byte) (s : State) : Res :=
  .next (if s.get I.DEV = 0 ∧ s.get I.BOOT_STEP = 1 ∧ s.boot = btRom then
    let ok := flashDirOk dir
    let s1 := s.sets ((R.BOOT_STAT_DIR_BAD, ofBool (!ok || s.on R.BOOT_STAT_DIR_BAD)) ::
      (List.range 4).map (fun e => (I.BOOT_DIR e, ofBool (ok && decide (fieldLE dir (12 + 8 * e) 4 ≠ 0)))))
    s1.offerFw 0
  else s)

/-- FW_GO and IMG_GO (R535): ignored outside their waiting states. -/
def execFwGo (s : State) : Res :=
  .next (s.hostTo 0 fun s =>
    if s.boot = btWaitFw then s.set R.BOOT_STAT_STATE btFwHost else s.set R.BOOT_STAT_GO_IGN 1)
def execImgGo (s : State) : Res :=
  .next (s.hostTo 0 fun s =>
    if s.boot = btWaitImg then s.set R.BOOT_STAT_STATE btImgHost else s.set R.BOOT_STAT_GO_IGN 1)

/-- The object that the host wrote at BAR2 offset 0: TOTAL_LEN bytes, at most 4 MiB. -/
def State.hostObject (s : State) : List Byte :=
  s.trayRead 0 (max hdrLen (min (fieldLE (s.trayRead 0 hdrLen) 16 4) (4 * 2 ^ 20)))

/-- The firmware starts (R536, R537 step 5, spec/18 R438): the cores run, host doorbell bit 0 is rung, the thermal record is copied to
the keep store (spec/19 R468). -/
def State.fwStart (s : State) (copy : Nat) (obj : List Byte) : State :=
  let h := parseHdr obj
  let dig := sha384 (obj.take h.sigOffset)
  let s1 := s.sets ([(R.BOOT_STAT_FW_SRC, copy), (R.FW_STAT_SVN, h.svn), (I.KEEP_RESTARTS, s.get R.THR_REC_RESTARTS)] ++
    (List.range 12).map (fun k => (I.FW_DIG k, fieldLE dig (4 * k) 4)) ++ (List.range 4).map (fun k => (I.CORE_RUN k, 1)))
  (s1.ring 0 0 1).offerImg 0

/-- FW_READ_DONE (R535, spec/18 R438): a copy of the flash, or the host's, has been read and checked. -/
def execFwReadDone (obj : List Byte) (s : State) : Res :=
  .next (if s.get I.DEV = 0 ∧ (s.boot = btFwFlash ∨ s.boot = btFwHost) then
    let host := decide (s.boot = btFwHost)
    let copy := if host then 2 else s.get I.BOOT_COPY
    let o := if host then s.hostObject else obj
    match fwFront o s.fuses with
    | some r => (s.set R.FW_STAT_CODE r.code).offerFw (if host then 2 else copy + 1)
    | none => s.fwStart copy o
  else s)

/-! ### The full image (R535, R537 steps 6 to 8) -/

/-- A copy of the image fails (R539): its code stays, the next copy is offered. -/
def State.imgFail (s : State) (r : Rej) : State :=
  let s1 := s.sets [(R.LOAD_STAT_CODE, r.code), (R.LOAD_STAT_SECT, r.sect), (R.LOAD_STAT_RECORD, r.record)]
  (({ s1 with img := {} } : State).raise E.bootImgFail).offerImg (if s.get I.BOOT_COPY = 2 then 2 else s.get I.BOOT_COPY + 1)

/-- Tray addresses of the staging granules (spec/02 R66). -/
def stageBody : Nat := 64 * granBytes

/-- IMG_READ_DONE (R537 step 6): steps 1 to 8. -/
def execImgReadDone (obj : List Byte) (s : State) : Res :=
  .next (if s.get I.DEV = 0 ∧ s.get I.BOOT_STEP = 2 ∧ (s.boot = btImgFlash ∨ s.boot = btImgHost) then
    let host := decide (s.boot = btImgHost)
    let o := if host then s.hostObject else obj
    let s1 := if host then s.set I.BOOT_COPY 2 else s.trayStore 0 (o.take (4 * 2 ^ 20))
    match imgFront false o s1.fuses [] false with
    | some r => s1.imgFail r
    | none =>
      match imgBody o with
      | none => s1.imgFail { code := 13 }
      | some b => ({ s1 with img := { stored := o, hdr := parseHdr o, body := b } } : State).set I.BOOT_STEP 3
  else s)

/-- IMG_UNPACK_DONE (R537 step 7): the body stands at granule 64. -/
def execImgUnpackDone (s : State) : Res :=
  .next (if s.get I.DEV = 0 ∧ s.get I.BOOT_STEP = 3 then (s.trayStore stageBody s.img.body).set I.BOOT_STEP 4 else s)

/-- Items 1 to 5 of R66: clocks, Tray map, rod power, bead stringing, Beam routes. -/
def State.applyImage (s : State) (g : Stringing) : State :=
  let s1 : State := { s with strg := g, img := { s.img with strg := g } }
  (List.range 16).foldl (fun (s : State) r =>
    if r = 0 then s else if g.powered r then (s.set (I.PWR_ON r) 1).trimRestore r else s.set (I.PWR_ON r) 0) s1

/-- IMG_CHECK_DONE (R537 step 8): steps 9 to 11 pass and items 1 to 5 are applied; MEM begins to train. -/
def execImgCheckDone (s : State) : Res :=
  .next (if s.get I.DEV = 0 ∧ s.get I.BOOT_STEP = 4 then
    match s.fullCheck s.img.hdr s.img.body with
    | some r => s.imgFail r
    | none =>
      let s1 := s.applyImage (parseBody s.img.hdr s.img.body).strg
      (s1.sets [(R.BOOT_STAT_STATE, btTrain), (I.BOOT_STEP, 5)]).sets
        (((List.range 8).filter (fun c => decide (s1.strg.capacity c ≠ 0))).map (fun c => (R.CH_STAT_STATE c, 1)))
  else s)

/-! ### MEM trains (R537 steps 9 and 10, spec/15 R385) -/

/-- An image that DRAM_INIT rejects is taken away again. -/
def State.trainFail (s : State) (ch : Nat) : State :=
  let s1 := ({ s with strg := {} } : State).sets
    ((List.range 15).map (fun r => (I.PWR_ON (r + 1), 0)) ++ (List.range 8).map (fun c => (R.CH_STAT_STATE c, 0)))
  s1.imgFail { code := 0x27, sect := ch }

/-- A set point of a channel that the image gives has failed. -/
def State.spFail (s : State) (ch k : Nat) : State :=
  if (s.strg.setPoint ch k).isNone ∨ s.strg.capacity ch = 0 then s
  else
    let s1 := s.sets [(I.CH_NA ch k, 1), (R.CH_EVT_TRAIN_FAIL ch, 1)]
    s1.raiseIf (decide (k ≠ 0)) (E.memTrainFail ch)

/-- MEM_TRAIN_DONE: `found` is the GiB that MEM finds on each channel, `bad` the set points that found no working setting. -/
def execMemTrainDone (found : List Nat) (bad : List (Fin 8 × Fin 4)) (s : State) : Res :=
  .next (if s.get I.DEV = 0 ∧ s.get I.BOOT_STEP = 5 then
    let s1 := bad.foldl (fun (s : State) e => s.spFail e.1 e.2) s
    match (List.range 8).find? (fun c => decide (found.getD c 0 ≠ s1.strg.capacity c) ||
        (decide (s1.strg.capacity c ≠ 0) && s1.on (I.CH_NA c 0))) with
    | some c => s1.trainFail c
    | none =>
      (s1.set I.BOOT_STEP 6).sets (((List.range 8).filter (fun c => decide (s1.strg.capacity c ≠ 0))).flatMap (fun c =>
        [(R.CH_STAT_STATE c, 2), (R.CH_STAT_SP c, 0), (R.CH_STAT_RATE c, (s1.strg.setPoint c 0).getD 0)]))
  else s)

/-! ### Ready (R537 steps 10 and 11) -/

/-- The image's identity (spec/02 "Registers", R69): IMAGE_ID, the digest, and the object that strung each rod. -/
def State.imageIdentity (s : State) : State :=
  let h := s.img.hdr
  let dig := sha384 (s.img.stored.take h.sigOffset)
  s.sets ([(R.IMAGE_ID_ID, h.imageId), (R.LOAD_STAT_CODE, 0), (R.LOAD_STAT_SECT, 0xFF), (R.LOAD_STAT_RECORD, 0xFFFF)] ++
    (List.range 12).map (fun k => (R.DIGEST_D k, fieldLE dig (4 * k) 4)) ++
    (List.range 12).map (fun k => (I.PATCH_DIG k, 0)) ++
    (List.range 16).flatMap (fun r => [(R.ROD_SRC_ID r, h.imageId), (I.ROD_SVN r, h.svn)]))

/-- Items 7 to 9 of R66 on a rod that the boot has held: it is loaded, committed and runs, unless ROD_HOLD holds it. -/
def State.bootRod (s : State) (r : Nat) : State :=
  let s1 := s.set (I.HOLD_BOOT r) 0
  if r = 0 then s1.loadRod 0 true
  else if !s1.strg.powered r ∨ s1.held r then s1
  else s1.rodReady r true false

/-- BOOT_READY: items 6 to 9 are applied. The carry log begins at SEQ 1 (spec/17 R432). -/
def execBootReady (s : State) : Res :=
  .next (if s.get I.DEV = 0 ∧ s.get I.BOOT_STEP = 6 then
    let s1 := (List.range 16).foldl (fun (s : State) r => s.bootRod r) { s with strung := true }
    let s2 := s1.imageIdentity.sets [(R.BOOT_STAT_STATE, btReady), (R.BOOT_STAT_IMG_SRC, s.get I.BOOT_COPY), (R.CLOG_SEQ_NEXT_SEQ, 1),
      (R.BOOT_STAT_MS, min ((s.up - s.get I.BOOT_T) / tMs) 0xFFFF), (R.PWR_STAT_STATE, pwRun), (I.BOOT_STEP, 7)]
    (s2.bwCheck).raise E.bootReady
  else s)

/-! ### The image after DOZE (spec/18 R454 exit 3) -/

/-- A rod takes the full image again: it powers up, or, where it ran through DOZE, its defaults and presets apply. -/
def State.dozeRod (s : State) (r : Nat) : State :=
  if r = 0 ∨ r = 14 then s.loadRod r true
  else if !s.strg.powered r then s.powerDown r
  else if s.on (I.PWR_ON r) then s.loadRod r true
  else
    let s1 := s.powerUp r
    if s1.held r then s1 else s1.rodReady r true true

/-- DOZE_IMAGE_CHECKED: `obj` is the image as its boot source offers it. The DRAM regions and the Tray map stay as they were. -/
def execDozeImageChecked (obj : List Byte) (s : State) : Res :=
  .next (if !s.on R.PWR_STAT_IMAGE_WAIT then s
    else if sha384 (obj.take (parseHdr obj).sigOffset) = s.imageDigest then
      let g : Stringing := { s.img.strg with trays := s.strg.trays, drams := s.strg.drams }
      let s1 := (List.range 16).foldl (fun (s : State) r => s.dozeRod r) { s with strg := g }
      let s2 := s1.imageIdentity.set R.PWR_STAT_IMAGE_WAIT 0
      if s2.get R.PWR_STAT_TARGET = pwHold then
        ((drainMask pwHold).foldl (fun (s : State) r => s.gate r) s2).pwrAt pwHold
      else s2.pwrAt pwRun
    else s.sets [(R.LOAD_STAT_CODE, 0x28), (R.LOAD_STAT_SECT, 0xFF), (R.LOAD_STAT_RECORD, 0xFFFF), (R.PWR_STAT_STATE, pwHold)])

end Sys2Proof.Machine
end

