-- ==== Sys2Proof/Machine/Sec.lean ====
section
/-!
DEFINITION. The secure core (spec/18): tokens, lifecycle, fuse burns, identity and attestation, the TAP.
-/

namespace Sys2Proof.Machine

/-! ### Codes of spec/18 R435 to R457 -/

def scTokenFormat : Nat := 0x30
def scSerial : Nat := 0x31
def scNonce : Nat := 0x32
def scState : Nat := 0x33
def scLastSlot : Nat := 0x34
def scSlotUsed : Nat := 0x35
def scSameSlot : Nat := 0x36
def scNoVpp : Nat := 0x37
def scSlotBad : Nat := 0x38
def scExhausted : Nat := 0x39
def scRestart : Nat := 0x3F

/-- SEC runs: its boot ROM has started (spec/24 R537 step 2). -/
def State.secUp (s : State) : Bool := decide (s.get I.DEV = 0 ∧ 1 ≤ s.get I.BOOT_STEP)

/-! ### The Tray as SEC reaches it -/

/-- Until a full image is in force the granules that an image is offered in stand open (spec/24 R535). -/
def State.secVisible (s : State) (a n : Nat) : Bool :=
  decide (a + n ≤ trayBytes) && (granSpan a n).all (fun g => if s.strung then s.hostVisible g else decide (g < 64))

/-- SEC reads and writes as CTL does (spec/01 R22). -/
def State.secRead (s : State) (a n : Nat) : List Byte × Nat × State :=
  if s.strung then s.trayReadAs 0 (rodPort 0) a n
  else if s.secVisible a n then
    match s.badWords a n with
    | [] => (s.trayRead a n, 0, s)
    | w :: _ => (s.poisonRead a n, 2, s.trayUnc (w / 8192))
  else ([], 3, s)

def State.secWrite (s : State) (a : Nat) (d : List Byte) : Nat × State :=
  if s.strung then s.trayWriteAs 0 (rodPort 0) a d
  else if s.secVisible a d.length then (0, s.trayStore a d) else (3, s)

/-! ### Operations (R442, R457) -/

/-- OP shows a service: 1 busy, 2 done, 3 failed. -/
def State.secShow (s : State) (svc code state : Nat) : State :=
  s.sets [(R.SEC_OP_STATE, state), (R.SEC_OP_SERVICE, svc), (R.SEC_OP_CODE, code)]

/-- Services marked long: ATTEST, PROVISION, SVN_COMMIT. -/
def longService (svc : Nat) : Bool := decide (svc = 0x12 ∨ svc = 0x14 ∨ svc = 0x16)

/-- A service ends at once with a code. A long one that fails raises SEC_DONE. -/
def State.secQuick (s : State) (svc code : Nat) : State :=
  (s.secShow svc code (if code = 0 then 2 else 3)).raiseIf (longService svc && decide (code ≠ 0)) E.secDone

/-- An operation begins. -/
def State.secStart (s : State) (o : SecOp) : State :=
  ({ s with sec := { s.sec with op := some o } } : State).secShow o.svc 0 1

/-- The operation ends with a code: OP, SEC_DONE for a long service, the reply that waits. -/
def State.secEnd (s : State) (o : SecOp) (code : Nat) : State :=
  let s1 := (({ s with sec := { s.sec with op := none } } : State).secShow o.svc code (if code = 0 then 2 else 3)).raiseIf
    (longService o.svc) E.secDone
  match o.pair with
  | some p => s1.reply p o.svc rOk o.token [code]
  | none => s1

/-- A request of service `code` waits in mailbox 2p and can be served. -/
def State.secAsked (s : State) (p code : Nat) : Bool :=
  s.on (I.CORE_RUN (p % 4)) && s.on (R.MB_STAT_FULL (2 * p)) && !s.on (R.MB_STAT_FULL (2 * p + 1)) && !s.secHolds p &&
    !s.on (R.MB_STAT_DIRTY (2 * p)) && decide ((s.mbWords (2 * p)).getD 0 0 / 2 ^ 24 = code)

/-- A request for SEC on pair `p`: BUSY while another service runs (R442). `f` takes the words and the TOKEN of the request, and
answers the result with the reply's words from 1 up, or none where the reply waits for the end of the operation. -/
def State.secServe (s : State) (p code : Nat) (f : List Nat → Nat → State → Option (Nat × List Nat) × State) : State :=
  if !s.secUp then s
  else if s.secAsked p code then
    let ws := s.mbWords (2 * p)
    let tok := ws.getD 0 0 % 2 ^ 16
    let s1 := s.mbTaken (2 * p)
    if s.sec.op.isSome then s1.reply p code rBusy tok []
    else
      match f ws tok s1 with
      | (some r, s2) => s2.reply p code r.1 tok r.2
      | (none, s2) => s2
  else s.serve p code (fun _ s => (rOk, [], s))

/-! ### Tokens (R440 to R442) -/

def tokenLen : Nat := 1840
def tokenMagic : Nat := 0x4B545856

/-- Step 1. -/
def tokenFormatOk (t : List Byte) : Bool :=
  let kind := fieldLE t 6 1
  decide (t.length = tokenLen ∧ fieldLE t 0 4 = tokenMagic ∧ fieldLE t 4 2 = 1 ∧ kind ≤ 4 ∧
    fieldLE t 7 1 ≤ (if kind = 2 ∨ kind = 3 then 3 else 0)) &&
  (decide (kind = 3) || allZero (slice t 0x30 48)) && allZero (slice t 0x60 32)

/-- The root that the kind requires; a REVOKE names its own. -/
def tokenRoot (t : List Byte) : Nat :=
  let kind := fieldLE t 6 1
  if kind = 1 then 0 else if kind = 2 then (if fieldLE t 132 1 = 0 then 0 else 1) else 1

/-- Step 5: the lifecycle, debug and power states that allow a kind. -/
def State.tokenAllowed (s : State) (kind : Nat) : Bool :=
  let life := s.fuses.lifecycle
  if kind = 0 then decide (1 ≤ life ∧ s.get I.DEBUG ≠ 2)
  else if kind = 1 then decide (life = 3 ∧ s.get R.PWR_STAT_STATE = pwHold)
  else decide (life = 1 ∨ life = 2)

/-- Step 6: another slot of the root is usable. -/
def Fuses.otherUsable (f : Fuses) (root s : Nat) : Bool := (List.range 4).any (fun k => decide (k ≠ s) && f.usable root k)

/-- The first step of R441 that fails, 0 where none does. -/
def State.tokenCode (s : State) (t : List Byte) : Nat :=
  let kind := fieldLE t 6 1
  let arg := fieldLE t 7 1
  let root := tokenRoot t
  let early := [(tokenFormatOk t, scTokenFormat), (decide (fieldLE t 8 8 = s.fuses.serial), scSerial),
    (decide (slice t 0x10 32 = s.sec.challenge), scNonce)]
  let late := [(s.tokenAllowed kind, scState), (decide (kind ≠ 2) || s.fuses.otherUsable root arg, scLastSlot),
    (decide (kind ≠ 3 ∨ s.fuses.slot 1 arg = 0), scSlotUsed), (decide (kind ≠ 2 ∨ fieldLE t 133 1 ≠ arg), scSameSlot)]
  match early.find? (fun e => !e.1) with
  | some e => e.2
  | none =>
    match sigCheck t 128 root s.fuses with
    | some r => r.code
    | none => match late.find? (fun e => !e.1) with
      | some e => e.2
      | none => 0

/-- The fuse bits that a hash needs in customer slot `k`. -/
def slotBurns (k : Nat) (h : List Byte) : List (Nat × Nat) :=
  ((List.range 384).filter (bit (leNat h))).map (fun i => (48 + 12 * k + i / 32, i % 32))

/-- Debug closes (R446). -/
def State.debugClose (s : State) : State :=
  (s.set I.DEBUG 0).raiseIf (decide (s.get I.DEBUG ≠ 0)) E.secDebugClose

/-- A token has passed: its effect, with the code where it ends at once, none where it goes on. -/
def State.tokenEffect (s : State) (t : List Byte) (vpp : Bool) (o : SecOp) : Option Nat × State :=
  let kind := fieldLE t 6 1
  let arg := fieldLE t 7 1
  if kind = 0 then (some 0, (s.set I.DEBUG 1).raiseIf (decide (s.get I.DEBUG = 0)) E.secDebugOpen)
  else if kind = 1 then (none, s.secStart o)
  else if !vpp then (some scNoVpp, s)
  else if kind = 2 then (none, s.secStart { o with burns := [(96, if tokenRoot t = 0 then arg else 4 + arg)] })
  else if kind = 3 then
    (none, s.secStart { o with burns := slotBurns arg (slice t 0x30 48), slots := [(arg, slice t 0x30 48)] })
  else (none, s.debugClose.secStart { o with burns := [(96, 10)] })

/-- A token is checked, and a new challenge drawn (R441, R442). -/
def State.tokenRun (s : State) (t : List Byte) (vpp : Bool) (pair : Option Nat) (token : Nat) : Option Nat × State :=
  let code := s.tokenCode t
  let s1 := s.newChallenge
  if code ≠ 0 then (some code, ((s1.set R.SEC_EVT_TOKEN_BAD 1).raise E.secTokenBad).secQuick 0x11 code)
  else
    match (s1.raise E.secTokenOk).tokenEffect t vpp { svc := 0x11, kind := fieldLE t 6 1, pair := pair, token := token } with
    | (some c, s2) => (some c, s2.secQuick 0x11 c)
    | (none, s2) => (none, s2)

/-- Does the command of a token of `kind` take this one? A token of no kind falls to whichever comes first. -/
def tokenFor (kind : Nat) (t : List Byte) : Bool := decide (fieldLE t 6 1 = kind ∨ 4 < fieldLE t 6 1 ∨ t.length ≠ tokenLen)

/-- The token of a request: word 1 its address, word 2 its length. -/
def State.tokenWaits (s : State) (p : Nat) : List Byte :=
  let ws := s.mbWords (2 * p)
  if ws.getD 2 0 = tokenLen then (s.secRead (ws.getD 1 0) tokenLen).1 else []

/-- Service TOKEN. -/
def State.tokenService (p : Nat) (vpp : Bool) (ws : List Nat) (tok : Nat) (s : State) : Option (Nat × List Nat) × State :=
  let a := ws.getD 1 0
  let n := ws.getD 2 0
  let r := if n = tokenLen then s.secRead a n else ([], 0, s)
  if r.2.1 ≠ 0 then (some (rBadArg, []), r.2.2)
  else
    match r.2.2.tokenRun r.1 vpp (some p) tok with
    | (some c, s1) => (some (rOk, [c]), s1)
    | (none, s1) => (none, s1)

/-- SEC_MBX is the instruction in force, and SEC is free to serve it (R445). -/
def State.tapMbx (s : State) : Bool := s.secUp && decide (s.get I.JTAG_IR = 0x10) && s.sec.op.isNone

/-- A token of `kind` comes through pair `src`, or through the TAP. -/
def State.tokenCommand (s : State) (kind : Nat) (src : Option (Fin 8)) (token : List Byte) (vpp : Bool) : State :=
  match src with
  | some p =>
    if s.secUp && s.secAsked p 0x11 && !tokenFor kind (s.tokenWaits p) then s
    else s.secServe p 0x11 (State.tokenService p vpp)
  | none => if s.tapMbx && tokenFor kind token then (s.tokenRun token vpp none 0).2 else s

/-- CHALLENGE (R442): the reply's words 1 to 8, or the TAP's register, hold the challenge. -/
def execChallenge (src : Option (Fin 8)) (s : State) : Res :=
  .next (match src with
    | some p => s.secServe p 0x10 (fun _ _ s =>
        (some (rOk, (List.range 8).map (fun i => fieldLE s.sec.challenge (4 * i) 4)), s.secQuick 0x10 0))
    | none => if s.tapMbx then s.emit (.jtag s.sec.challenge) else s)

/-- DEBUG_USER (R440, kind 0): debug becomes USER_OPEN. -/
def execDebugUser (src : Option (Fin 8)) (token : List Byte) (s : State) : Res := .next (s.tokenCommand 0 src token true)

/-- DEBUG_VENDOR (R447, kind 1): the wipe begins. -/
def execDebugVendor (src : Option (Fin 8)) (token : List Byte) (s : State) : Res := .next (s.tokenCommand 1 src token true)

/-- REVOKE (R436, kind 2): the slot's revoke fuse is to be burnt. -/
def execRevoke (src : Option (Fin 8)) (token : List Byte) (vpp : Bool) (s : State) : Res :=
  .next (s.tokenCommand 2 src token vpp)

/-- ADD_KEY (R436, kind 3): the customer slot is to be burnt. -/
def execAddKey (src : Option (Fin 8)) (token : List Byte) (vpp : Bool) (s : State) : Res :=
  .next (s.tokenCommand 3 src token vpp)

/-- RETURN (R440, kind 4): debug closes, and LIFE bit 2 is to be burnt. -/
def execReturn (src : Option (Fin 8)) (token : List Byte) (vpp : Bool) (s : State) : Res :=
  .next (s.tokenCommand 4 src token vpp)

/-- Bytes of the keep store's user area (spec/20 R471). -/
def keepUser : Nat := 0x44000
def keepUserLen : Nat := 3824 * 1024

/-- VENDOR_WIPE_DONE (R447 steps 2 to 5): user settings, Tray and DRAM are zero, and debug is VENDOR_OPEN. -/
def execVendorWipeDone (s : State) : Res :=
  .next (match s.sec.op with
    | some o =>
      if o.svc = 0x11 ∧ o.kind = 1 then
        let s1 : State := { s with
          keep := clearBytes s.keep keepUser (keepUser + keepUserLen)
          tray := []
          trayBad := []
          dram := []
          dramBad := []
          refs := []
          wrQ := [] }
        ((((s1.sets ((List.range 8).map (fun c => (I.CH_FILL c, 0)))).set I.DEBUG 2).secEnd o 0).raise E.secDebugOpen)
      else s
    | none => s)

/-! ### Identity and attestation (R448 to R451) -/

/-- The public keys: 97 and 60 bytes. -/
def Fuses.identity (f : Fuses) : List Byte :=
  [4] ++ (List.range 96).map (Config.pubKeyByte f.ds 0) ++ beBytes 4 2 ++ beBytes 4 lmsType ++ beBytes 4 lmotsType ++
    (List.range 48).map (Config.pubKeyByte f.ds 1)

/-- The LMS public key of bottom tree `t`: 56 bytes. -/
def Fuses.bottomKey (f : Fuses) (t : Nat) : List Byte :=
  beBytes 4 lmsType ++ beBytes 4 lmotsType ++ (List.range 48).map (Config.pubKeyByte f.ds (2 + t))

/-- The LMS signature of a message with leaf `q` of a tree, 1,452 bytes; `leaf` numbers the leaf among all. -/
def Fuses.lmsSign (f : Fuses) (leaf q : Nat) (msg : List Byte) : List Byte :=
  let c := Config.lmsSignByte f.ds leaf msg
  beBytes 4 q ++ beBytes 4 lmotsType ++ (List.range 1120).map c ++ beBytes 4 lmsType ++ (List.range 320).map (fun i => c (1120 + i))

/-- Places of the LMS area (spec/20 R471, R449). -/
def keepLms (b : Nat) : Nat := 0x1000 + 0x40 * b
def keepLink : Nat := 0x1080
def linkLen : Nat := 1508
def keepIdentity : Nat := 0x2000

/-- A record is valid. -/
def lmsValid (r : List Byte) : Bool :=
  decide (fieldLE r 0 4 = 0x53544D4C ∧ fieldLE r 8 4 ≤ 1024 ∧ fieldLE r 12 4 ≤ 1023 ∧ fieldLE r 60 4 = crc32c (r.take 60))

/-- A record's bytes. -/
def lmsRecord (seq leaf : Nat) : List Byte :=
  let b := leBytes 4 0x53544D4C ++ leBytes 4 seq ++ leBytes 4 (leaf / 1024) ++ leBytes 4 (leaf % 1024) ++ zeros 44
  b ++ leBytes 4 (crc32c b)

/-- The valid record with the higher SEQ: which of A and B, SEQ, and the next leaf. -/
def State.lmsState (s : State) : Option (Nat × Nat × Nat) :=
  let rec2 (b : Nat) : Option (Nat × Nat × Nat) :=
    let r := s.keepRead (keepLms b) 64
    if lmsValid r then some (b, fieldLE r 4 4, fieldLE r 8 4 * 1024 + fieldLE r 12 4) else none
  match rec2 0, rec2 1 with
  | some a, some b => some (if a.2.1 < b.2.1 then b else a)
  | some a, none => some a
  | none, b => b

/-- Signatures in all. -/
def lmsLeaves : Nat := 1024 * 1024

/-- Take the leaf of the state record: LINK where a tree begins, then the advance in the other record (R449). -/
def State.lmsAdvance (s : State) (b seq leaf : Nat) : State :=
  let t := leaf / 1024
  let s1 := if leaf % 1024 = 0 then
      s.keepPut keepLink (s.fuses.lmsSign (2 ^ 20 + t) t (s.fuses.bottomKey t) ++ s.fuses.bottomKey t)
    else s
  s1.keepPut (keepLms (1 - b)) (lmsRecord (seq + 1) (leaf + 1))

/-- Bytes 0x000 to 0x13F of a report (R450). -/
def State.reportBody (s : State) (nonce : List Byte) (leaf : Nat) : List Byte :=
  let f := s.fuses
  let words (l : List Nat) : List Byte := l.flatMap (leBytes 4)
  leBytes 4 0x54415856 ++ leBytes 2 1 ++ leBytes 1 f.lifecycle ++ leBytes 1 (s.get I.DEBUG) ++
    leBytes 1 (s.get R.PWR_STAT_STATE) ++ leBytes 1 f.step ++ leBytes 2 (f.lrev % 16 + f.crev % 16 * 16 + f.cprog * 256) ++
    leBytes 4 f.lot ++ leBytes 4 (bits f.die 0 5 + bits f.die 8 8 * 2 ^ 8 + bits f.die 16 8 * 2 ^ 16) ++
    leBytes 1 (svnOf f.lsvn) ++ leBytes 1 (svnOf f.csvn) ++ zeros 2 ++ leBytes 8 f.serial ++
    words ((List.range 12).map (fun k => s.get (I.FW_DIG k))) ++ words ((List.range 12).map (fun k => s.get (R.DIGEST_D k))) ++
    words ((List.range 16).map (fun r => s.get (R.ROD_SRC_ID r))) ++ words ((List.range 12).map (fun k => s.get (I.PATCH_DIG k))) ++
    nonce ++ leBytes 4 (s.get R.POWER_ON_COUNT) ++ leBytes 4 (s.get R.THR_REC_RESTARTS) ++ timeBytes s.now ++
    leBytes 4 (lmsLeaves - (leaf + 1)) ++ zeros 24

/-- The whole report. -/
def State.report (s : State) (nonce : List Byte) (leaf : Nat) : List Byte :=
  let body := s.reportBody nonce leaf
  let dig := sha384 body
  body ++ (List.range 96).map (Config.ecdsaSignByte s.fuses.ds dig) ++ beBytes 4 1 ++ s.keepRead keepLink linkLen ++
    s.fuses.lmsSign leaf (leaf % 1024) dig

/-- Service ATTEST is accepted, or fails. -/
def State.attest (ws : List Nat) (_tok : Nat) (s : State) : Option (Nat × List Nat) × State :=
  let a := ws.getD 9 0
  let fail (c : Nat) (s : State) : Option (Nat × List Nat) × State := (some (rOk, [c]), s.secQuick 0x12 c)
  if a % 4096 ≠ 0 ∨ !s.secVisible a 4096 then (some (rBadArg, []), s)
  else if s.get I.DEBUG = 2 then fail scState s
  else if (match s.sec.last with | some t => decide (s.up < t + 60 * tSec) | none => false) then (some (rBusy, []), s)
  else
    match s.lmsState with
    | none => fail (s.free % 256) (((s.drawn).set R.SEC_EVT_LMS_BAD 1).raise E.secLmsBad)
    | some (b, seq, leaf) =>
      if lmsLeaves ≤ leaf then fail scExhausted s
      else
        let nonce := ((ws.drop 1).take 8).flatMap (leBytes 4)
        let s1 := ({ s with sec := { s.sec with last := some s.up } } : State).lmsAdvance b seq leaf
        let s2 := s1.raiseIf (decide (lmsLeaves - (leaf + 1) < 65536)) E.secLmsLow
        (some (rOk, [0]), s2.secStart { svc := 0x12, addr := a, nonce := nonce, leaf := leaf })

/-- ATTEST (R451). -/
def execAttest (p : Fin 8) (s : State) : Res := .next (s.secServe p 0x12 State.attest)

/-- The report and then its completion word are written. -/
def State.attestWrite (s : State) (o : SecOp) : State :=
  let s1 := (s.secWrite o.addr (s.report o.nonce o.leaf)).2
  (s1.secWrite (o.addr + 0xFC0) ([1, 0] ++ leBytes 2 0 ++ zeros 60)).2

/-- GET_ID (R448): the public keys are written to the Tray. -/
def execGetId (p : Fin 8) (s : State) : Res :=
  .next (s.secServe p 0x13 (fun ws _ s =>
    let a := ws.getD 1 0
    if !s.secVisible a 157 then (some (rBadArg, []), s)
    else if s.get I.DEBUG = 2 then (some (rOk, [scState]), s.secQuick 0x13 scState)
    else
      let r := s.secWrite a s.fuses.identity
      if r.1 ≠ 0 then (some (rBadArg, []), r.2) else (some (rOk, [0]), r.2.secQuick 0x13 0)))

/-! ### Lifecycle and counters (R439, R443) -/

/-- Service PROVISION is accepted, or fails. -/
def State.provision (vpp : Bool) (ws : List Nat) (_tok : Nat) (s : State) : Option (Nat × List Nat) × State :=
  let n := ws.getD 2 0
  let fail (c : Nat) : Option (Nat × List Nat) × State := (some (rOk, [c]), s.secQuick 0x14 c)
  if n = 0 ∨ 4 < n then (some (rBadArg, []), s)
  else
    let r := s.secRead (ws.getD 1 0) (48 * n)
    if r.2.1 ≠ 0 then (some (rBadArg, []), r.2.2)
    else if s.fuses.lifecycle ≠ 0 then fail scState
    else if !vpp then fail scNoVpp
    else
      let hs := (List.range n).map (fun k => (k, slice r.1 (48 * k) 48))
      (some (rOk, [0]), r.2.2.secStart { svc := 0x14, burns := slotBurns 0 (slice r.1 0 48), slots := hs })

/-- PROVISION (R443). -/
def execProvision (p : Fin 8) (vpp : Bool) (s : State) : Res := .next (s.secServe p 0x14 (State.provision vpp))

/-- DEPLOY (R443): LIFE bit 1 is to be burnt; the reply waits for it. -/
def execDeploy (p : Fin 8) (vpp : Bool) (s : State) : Res :=
  .next (s.secServe p 0x15 (fun ws tok s =>
    let quick (c : Nat) : Option (Nat × List Nat) × State := (some (rOk, [c]), s.secQuick 0x15 c)
    if ws.getD 1 0 ≠ 0x4445504C then (some (rBadArg, []), s)
    else if s.fuses.lifecycle ≠ 1 then quick scState
    else if !vpp then quick scNoVpp
    else (none, s.secStart { svc := 0x15, pair := some p, token := tok, burns := [(96, 9)] })))

/-- The SVN that a counter rises to (R439): the firmware's, or the lowest of the full image and the patches in force. -/
def State.svnTarget (s : State) (root : Nat) : Nat :=
  if root = 0 then s.get R.FW_STAT_SVN
  else if s.strung then
    (s.strg.rods.map (fun r => s.get (I.ROD_SVN r.rod))).foldl min s.img.hdr.svn
  else 0

/-- The fuse bits that bring a counter to `n`, from bit 0 upwards. -/
def svnBurns (root cur n : Nat) : List (Nat × Nat) :=
  ((List.range (min n 64)).filter (fun i => decide (i < n) && !bit cur i)).map (fun i => ((if root = 0 then 97 else 99) + i / 32, i % 32))

/-- SVN_COMMIT (R439). -/
def execSvnCommit (p : Fin 8) (vpp : Bool) (s : State) : Res :=
  .next (s.secServe p 0x16 (fun ws _ s =>
    let root := ws.getD 1 0
    let fail (c : Nat) : Option (Nat × List Nat) × State := (some (rOk, [c]), s.secQuick 0x16 c)
    if 1 < root then (some (rBadArg, []), s)
    else if s.fuses.lifecycle = 0 ∨ s.fuses.lifecycle = 3 then fail scState
    else
      let cur := if root = 0 then s.fuses.lsvn else s.fuses.csvn
      let l := if s.svnTarget root ≤ svnOf cur then [] else svnBurns root cur (s.svnTarget root)
      if !l.isEmpty ∧ !vpp then fail scNoVpp
      else (some (rOk, [0]), s.secStart { svc := 0x16, burns := l })))

/-- DEBUG_CLOSE (R446). -/
def execDebugClose (p : Fin 8) (s : State) : Res :=
  .next (s.secServe p 0x17 (fun _ _ s => (some (rOk, [0]), s.debugClose.secQuick 0x17 0)))

/-! ### Burns and ends (R435, R436, R457) -/

/-- The events of a bit that has been burnt (R458). -/
def State.burnEvent (s : State) (k b : Nat) : State :=
  if k = 96 then s.raise (if b < 8 then E.secRevoke else E.secLifecycle)
  else if 97 ≤ k ∧ k ≤ 100 then s.raise E.secSvn else s

/-- A slot whose burns have ended reads back good: it equals the hash asked, and is usable. -/
def Fuses.readsBack (f : Fuses) (k : Nat) (h : List Byte) : Bool := decide (f.slot 1 k = leNat h) && f.programmed 1 k && !f.revoked 1 k

/-- What follows once the burns of an operation have ended: the slot is read back, and revoked where it is bad; the next slot is
burnt; PROVISION ends with LIFE bit 0 where a slot is good. -/
def State.burnNext (s : State) (o : SecOp) : SecOp :=
  if !o.burns.isEmpty then o
  else
    match o.slots with
    | [] => o
    | (k, h) :: rest =>
      let ok := s.fuses.readsBack k h
      let good := o.good || ok
      let next := match rest with | [] => [] | e :: _ => slotBurns e.1 e.2
      let life := if rest.isEmpty && decide (o.svc = 0x14) && good then [(96, 8)] else []
      { o with
        burns := (if ok || s.fuses.revoked 1 k then [] else [(96, 4 + k)]) ++ next ++ life
        slots := rest
        good := good
        code := if ok then o.code else scSlotBad }

/-- Go on until a burn is due or nothing is left. -/
def State.burnSettle (s : State) : Nat → SecOp → SecOp
  | 0, o => o
  | n + 1, o => if o.burns.isEmpty && !o.slots.isEmpty then s.burnSettle n (s.burnNext o) else o

/-- FUSE_BURN_DONE (R435): a pair has been burnt; `ok` tells that it reads back as blown. A service that is not long ends with its
last burn. -/
def execFuseBurnDone (ok : Bool) (s : State) : Res :=
  .next (match s.sec.op with
    | none => s
    | some o =>
      match o.burns with
      | [] => s
      | e :: rest =>
        let s1 := if ok then ({ s with fuses := s.fuses.burn e.1 e.2 } : State).burnEvent e.1 e.2 else s
        let s2 := s1.when (ok && decide (e = (96, 8))) (fun s => s.keepPut keepIdentity s.fuses.identity)
        let o1 := s2.burnSettle 5 { o with burns := rest }
        if o1.burns.isEmpty && !longService o1.svc then s2.secEnd o1 o1.code
        else ({ s2 with sec := { s2.sec with op := some o1 } } : State))

/-- SEC_DONE (R457): the work of a long service has ended; nothing ends while burns are due. -/
def execSecDone (s : State) : Res :=
  .next (match s.sec.op with
    | none => s
    | some o =>
      let o1 := s.burnSettle 5 o
      if !longService o.svc then s
      else if !o1.burns.isEmpty then ({ s with sec := { s.sec with op := some o1 } } : State)
      else if o.svc = 0x12 then (s.attestWrite o).secEnd o 0
      else s.secEnd o1 o1.code)

/-- SEC_WATCHDOG (R457): SEC restarts; a service that was running fails with RESTART. -/
def execSecWatchdog (s : State) : Res :=
  .next (if !s.secUp then s else
    let s1 := (((s.burnCut.agentReset 5).set R.SEC_EVT_SEC_RESTART 1).raise E.secRestart).newChallenge
    match s.sec.op with
    | some o => s1.secEnd o scRestart
    | none => s1)

/-! ### The TAP (R445) -/

/-- The instructions of the TAP. -/
def tapOps : List Nat := [0xFF, 1, 2, 3, 4, 5, 0x10, 0x11]

/-- Every transmitting lane is OFF. -/
def State.txLanesOff (s : State) : Bool :=
  [0, 10, 11, 12].all (fun r => (List.range (laneCount r)).all (fun l => decide (s.lane r l = lnOff)))

/-- An instruction that may load. -/
def State.tapAllowed (s : State) (op : Nat) : Bool :=
  if op = 3 ∨ op = 4 then decide (s.fuses.lifecycle ≠ 2) || s.txLanesOff
  else if op = 0x11 then decide (s.get I.DEBUG ≠ 0) else true

/-- JTAG_INSTRUCTION (R445). An opcode that the table does not list loads as BYPASS, as IEEE 1149.1 has it; in OFF the TAP is
held in Test-Logic-Reset (R456). -/
def execJtagInstruction (op : Byte) (s : State) : Res :=
  .next (if s.get I.DEV ≠ 0 then s
    else if !tapOps.contains op.toNat then s.set I.JTAG_IR 0xFF
    else if s.tapAllowed op.toNat then s.set I.JTAG_IR op.toNat
    else ((s.set I.JTAG_IR 0xFF).set R.SEC_EVT_JTAG_DENY 1).raise E.secJtagDeny)

end Sys2Proof.Machine
end

