-- ==== Sys2Proof/Machine/Live.lean ====
section
/-!
DEFINITION. What a read of a register returns (spec/22 R499 to R502, R511): fields that show something live are computed from the
rest of the state.
-/

namespace Sys2Proof.Machine

/-! ### Live fields -/

/-- Active sources of a block. -/
def State.actives (s : State) (blk : Nat) : List (Nat × Nat) := s.raised.filter (fun e => decide (e.1 = blk) && s.active e.1 e.2)

/-- A block has an active source; one with a ROUTE bit. -/
def State.anyActive (s : State) (blk : Nat) : Bool := !(s.actives blk).isEmpty
def State.drives4 (s : State) (blk r : Nat) : Bool := (s.actives blk).any (fun e => bit (s.route e.1 e.2) r)

/-- A mask of the rods that `p` picks. -/
def rodMask (p : Nat → Bool) : Nat := maskOf ((List.range 16).filter p)

/-- The IRQ_N pins that are low, as a mask (spec/17 R426). -/
def State.irqLow (s : State) : Nat := maskOf ((List.range 4).filter (fun k => (List.range 17).any (fun b => s.drives4 b k)))

/-- Live fields of CTL (spec/17 R425, spec/18 R457, spec/22 R509, spec/02 R69). -/
def State.liveCtl (s : State) (f : Fld) : Option Nat :=
  if f = R.ROD_PEND_AON then some (ofBool (s.anyActive 16))
  else if f = R.ROD_PEND_ROD then some (rodMask s.anyActive)
  else if f = R.IRQ_AON f.ix then some (ofBool (s.drives4 16 f.ix))
  else if f = R.IRQ_ROD f.ix then some (rodMask (fun b => s.drives4 b f.ix))
  else if f = R.SEC_STAT_LIFECYCLE then some s.fuses.lifecycle
  else if f = R.SEC_STAT_DEBUG then some (s.get I.DEBUG)
  else if f = R.SEC_STAT_CREV then some (s.fuses.crev % 16)
  else if f = R.SEC_STAT_LREV then some (s.fuses.lrev % 16)
  else if f = R.SEC_STAT_CPROG then some s.fuses.cprog
  else if f = R.SEC_STAT_CSVN then some (svnOf s.fuses.csvn)
  else if f = R.SEC_STAT_LSVN then some (svnOf s.fuses.lsvn)
  else if f = R.SEC_LMS_EXHAUSTED then some (match s.lmsState with | some l => ofBool (decide (lmsLeaves ≤ l.2.2)) | none => 0)
  else if f = R.SEC_LMS_STATE_BAD then some (ofBool s.lmsState.isNone)
  else if f = R.SEC_LMS_LEFT then some (match s.lmsState with | some l => lmsLeaves - l.2.2 | none => 0)
  else if f = R.PWR_STAT_ROD_ON then some (rodMask (fun r => s.on (I.PWR_ON r)))
  else if f = R.BAD_ROD_ROD then some (rodMask (fun r => s.on (R.COMMIT_BAD_BAD r)))
  else if f = R.WR_ROD_ROD then some (maskOf ((List.range 17).filter (fun r => s.on (R.WR_RANGE_WR r))))
  else if f = R.PATCH_STAT_DRAINED ∧ s.get R.PATCH_STAT_STATE = 3 then some s.patchDrained
  else none

/-- Live fields of an image rod. -/
def State.liveImg (s : State) (n : Nat) (f : Fld) : Option Nat :=
  if f = R.STRIPE_ACTIVE n then some (ofBool (s.stripeOn n))
  else if f = R.STRIPE_IDX n ∧ s.stripeOn n then s.rodStripe (2 + n)
  else if f = R.TNR_STAT_FORCED n then some (ofBool s.tnrForced)
  else none

/-- Live fields of AON (spec/21 R488, spec/22 R511). -/
def State.liveAon (s : State) (f : Fld) : Option Nat :=
  if f = R.ROD_STAT_IN_RESET then some (rodMask s.isolated)
  else if f = R.ID_LOT_LOT then some s.fuses.lot
  else if f = R.ID_DIE_STEP then some s.fuses.step
  else if f = R.ID_DIE_Y then some (bits s.fuses.die 16 8)
  else if f = R.ID_DIE_X then some (bits s.fuses.die 8 8)
  else if f = R.ID_DIE_WAFER then some (bits s.fuses.die 0 5)
  else if f = R.ID_SERIAL_V f.ix then some (bits s.fuses.serial (32 * f.ix) 32)
  else if f = R.FUSE_WORD_W f.ix then some (s.fuses.word f.ix)
  else none

/-- Loads of an encoder and of a DEFLATE engine are measurements: unstated, in permille. -/
def State.measured (s : State) (f : Fld) : Option Nat :=
  if f = R.ENC_LOAD_PERMILLE (f.rod - 8) f.ix ∨ f = R.DFL_LOAD_PERMILLE f.ix then some (s.free % 1001) else none

/-- The selected trim (spec/20 R475) and the walk. -/
def State.liveUtl (s : State) (f : Fld) : Option Nat :=
  let t := s.trim (s.get R.TRIM_SEL_KIND) (s.get R.TRIM_SEL_INSTANCE)
  if f = R.TRIM_VAL_CODE then some (unsigned 16 t.code)
  else if f = R.TRIM_VAL_TARGET then some (unsigned 16 t.target)
  else if f = R.CAL_STAT_WALKING then some (ofBool s.walking)
  else s.measured f

/-- Lane and event fields of any block. A forced polarity is in force at once (spec/03 R87). -/
def State.liveAny (s : State) (f : Fld) : Option Nat :=
  if f = R.EVT_AGG_PEND f.rod then some (ofBool (s.anyActive f.rod))
  else if f = R.EVT_AGG_ROUTES f.rod then some (maskOf ((List.range 6).filter (s.drives4 f.rod)))
  else if f = R.LN_CTL_USE f.rod f.ix then some (laneUse f.rod f.ix)
  else if f = R.LN_STAT_POL f.rod f.ix ∧ s.on (R.LN_CTL_POL_MODE f.rod f.ix) ∧ !txOnly f.rod f.ix ∧ s.lane f.rod f.ix ≠ lnOff then
    some (ofBool (decide (s.get (R.LN_CTL_POL_MODE f.rod f.ix) = 2)))
  else none

/-- A graphic layer is not scaled: its DST_WH reads as its SRC_WH (spec/11 R288). -/
def State.liveOut (s : State) (f : Fld) : Option Nat :=
  let n := f.ix / 12
  let j := f.ix % 12
  if j < 4 then none
  else if f = R.LAYER_DST_WH_W n j then some (s.get (R.LAYER_SRC_WH_W n j))
  else if f = R.LAYER_DST_WH_H n j then some (s.get (R.LAYER_SRC_WH_H n j))
  else none

/-- The live value of a field, if it has one. -/
def State.live (s : State) (f : Fld) : Option Nat :=
  if f.rod = 17 then
    (if f = R.MB_EPOCH_RX_EPOCH f.ix then some (s.get (I.AGENT_EPOCH (mbReceiver f.ix)))
     else if f = R.MB_EPOCH_SENDER_EPOCH f.ix then some (s.get (I.AGENT_EPOCH (mbSender f.ix)))
     else none)
  else s.liveAny f <|>
    (if f.rod = 0 then s.liveCtl f else if 2 ≤ f.rod ∧ f.rod ≤ 6 then s.liveImg (f.rod - 2) f
     else if f.rod = 8 ∨ f.rod = 9 then s.measured f else if f.rod = 11 then s.liveOut f else if f.rod = 15 then s.liveUtl f
     else if f.rod = 16 then s.liveAon f else none)

/-- A field as it reads: command bits and the lane fields reserved on a lane read 0 (spec/00 R8); the in-force alias of a LEVEL shows the filter's level (spec/06 R148). -/
def State.readField (s : State) (ali : Bool) (h : Hit) (blk : Nat) : Nat :=
  let f := h.fld blk
  match h.ty with
  | .w1s => 0
  | .wo => 0
  | _ =>
    if laneReserved blk f then 0
    else match s.live f with
    | some v => v
    | none =>
      if !ali then s.get f
      else if 2 ≤ blk ∧ blk ≤ 6 ∧ f.id = (R.BLK_LEVEL_B 0 0).id then s.blackLevel (blk - 2) f.ix
      else s.inForce f

/-! ### Words -/

/-- The word of a place made of its fields; a bead that is not strung shows reset values (spec/02 R47). -/
def State.readPlace (s : State) (p : Place) : Nat :=
  let value (h : Hit) : Nat := if s.beadOpen p.blk p.off then s.readField p.ali h p.blk else (h.fld p.blk).rst
  (wordHits p.blk p.off).foldl (fun a h => a + value h % 2 ^ (h.fld p.blk).w * 2 ^ h.lo) 0

/-- Words of CTL that are no register: the MSI-X table and its pending bits (spec/17 R413), the mirrors of the fault history
(R428) and of the firmware digest (spec/18 R457). -/
def State.readMirror (s : State) (off : Nat) : Option Nat :=
  if off % 4 ≠ 0 then none
  else if 0xE000 ≤ off ∧ off < 0xE400 then some (s.get (I.MSIX_TAB ((off - 0xE000) / 16) ((off - 0xE000) / 4 % 4)))
  else if off = 0xE400 ∨ off = 0xE404 then
    some (maskOf ((List.range 32).filter (fun i => s.pba.contains ((off - 0xE400) * 8 + i))))
  else if 0xF000 ≤ off ∧ off < 0x10000 then some (leNat (s.keepRead (keepFault + (off - 0xF000)) 4))
  else if 0xC840 ≤ off ∧ off < 0xC870 then some (s.get (I.FW_DIG ((off - 0xC840) / 4)))
  else none

/-- The word at a BAR0 offset; 0 where nothing is mapped (R502). -/
def State.readWord (s : State) (a : Nat) : Nat :=
  match placeOf a with
  | none => 0
  | some p => (if p.blk = 0 then s.readMirror p.off else none).getD (s.readPlace p)

end Sys2Proof.Machine
end

