-- ==== Sys2Proof/Machine/Volume.lean ====
section
/-!
DEFINITION. The recorder's commands (spec/08 R225): FORMAT, MOUNT with recovery (R229), RECORD, STOP, UNMOUNT; what the completion of
an NVMe command leads to.
-/

namespace Sys2Proof.Machine

/-- A command that is accepted runs; another is ignored with BAD_STATE. -/
def State.recCmd (s : State) (code : Nat) (start : State → State) : State :=
  let st := s.get R.REC_STAT_STATE
  let from_ := if code ≤ 2 then 0 else if code = 4 then 2 else 1
  let s0 := s.set R.REC_CMD_CODE code
  if s.on R.REC_STAT_BUSY ∨ st ≠ from_ then s0.set R.REC_STAT_RESULT 1
  else start (s0.sets [(R.REC_STAT_BUSY, 1), (I.REC_CODE, code), (I.REC_FAIL, 0)])

/-- Is every member's drive READY, its DRIVE number in range, and no two members one namespace of a drive (R215)? -/
def State.recMembersOk (s : State) : Bool :=
  let m := s.get R.REC_VOL_M + 1
  (List.range m).all (fun k =>
    decide (s.recDrive k < s.strg.limit 0x0050 10 0 4 ∧ s.get (R.NVQ_STAT_STATE (s.recDrive k)) = 2) &&
    (List.range k).all (fun j => decide (s.recDrive j ≠ s.recDrive k ∨ s.get (R.REC_MEMBER_NSID j) ≠ s.get (R.REC_MEMBER_NSID k))))

/-- A FORMAT or MOUNT comes to a phase. -/
def State.recPhaseTo (s : State) (p : RecPhase) : State := s.modRec (fun r => { r with phase := p })

/-- A FORMAT or MOUNT is found to fail with a RESULT. -/
def State.recFails (s : State) (result : Nat) : State := (s.recPhaseTo .done).set I.REC_FAIL result

/-- FORMAT and MOUNT begin: Identify of every member's controller and namespace; a member that is not there ends them with
NO_MEMBER. -/
def State.recIdentify (s : State) : State :=
  let s1 := s.modRec (fun r => { nextCmd := r.nextCmd, members := s.get R.REC_VOL_M + 1, chunk := chunkBlocks (s.get R.REC_VOL_CHUNK) })
  if s.recMembersOk then
    ((s1.recPhaseTo .identify).volAll ⟨.identify 1, 0, 0, 0, 0⟩).volAll ⟨.identify 0, 0, 0, 0, 0⟩
  else s1.recFails 2

/-- RECORD (R217, R225, R226): a take for each recorded port, OPEN in the directory, with DIR_FULL where that has no free entry.
FIRST_BLK and FIRST_TAG follow with the TAKE_OPEN record. -/
def State.recRecord (s : State) : State :=
  let ports := recPorts (s.inForce R.REC_CFG_SRC)
  let t := s.recd.used + 1
  if 4095 < s.recd.used + ports.length then s.set I.REC_FAIL 6
  else
    let new : List Take := (List.range ports.length).map (fun i => { num := t + i, port := ports.getD i 0, start := s.now })
    let s1 := (s.modRec (fun r => { r with used := r.used + ports.length, takes := r.takes ++ new })).set R.REC_STAT_TAKE t
    new.foldl (fun (s : State) x => s.recDir x.num (dirEntry x 1 0 0 0)) s1

/-- STOP (R226). -/
def State.recStop (s : State) : State := (s.recClose 0).recFlow

/-- REC_FORMAT, REC_MOUNT, REC_RECORD, REC_STOP, REC_UNMOUNT: the write of REC.CMD. -/
def execRecFormat (s : State) : Res := .next (s.hostTo 10 (·.recCmd 1 State.recIdentify))
def execRecMount (s : State) : Res := .next (s.hostTo 10 (·.recCmd 2 State.recIdentify))
def execRecRecord (s : State) : Res := .next (s.hostTo 10 (·.recCmd 3 State.recRecord))
def execRecStop (s : State) : Res := .next (s.hostTo 10 (·.recCmd 4 State.recStop))
def execRecUnmount (s : State) : Res := .next (s.hostTo 10 (·.recCmd 5 State.volFlush))

/-! ### Members -/

/-- Identify data of a member: of its controller, of its namespace. -/
def Rec.ctrl (r : Rec) (m : Nat) : List Byte := mapGet [] r.ids (2 * m)
def Rec.space (r : Rec) (m : Nat) : List Byte := mapGet [] r.ids (2 * m + 1)

/-- Is a namespace's LBA format one of 4,096 bytes with no metadata (R215)? The data are those of Identify Namespace. -/
def lbaOk (d : List Byte) : Bool :=
  let f := 128 + 4 * (fieldLE d 26 1 % 16)
  decide (fieldLE d f 2 = 0 ∧ fieldLE d (f + 2) 1 = 12)

/-- The 48 bytes of a member in the superblock (R216). -/
def State.memberOf (s : State) (m : Nat) : List Byte :=
  slice (s.recd.ctrl m) 4 20 ++ leBytes 4 (s.get (R.REC_MEMBER_NSID m)) ++ slice (s.recd.space m) 104 16 ++ slice (s.recd.space m) 0 8

/-- Every member. -/
def State.membersNow (s : State) : List (List Byte) := (List.range s.recd.members).map s.memberOf

/-- Capacity in blocks of members of the given sizes (R215). -/
def volCap (b : Nat) (members : List (List Byte)) : Nat :=
  min (members.length * ((members.foldl (fun a m => min a (fieldLE m 40 8)) (2 ^ 64)) / b * b)) 15625000000

/-- A superblock (R216). -/
def superblock (m chunk cap serial : Nat) (volId : List Byte) (time : Time) (members : List (List Byte)) : List Byte :=
  let h := slice (leBytes 4 0x4C565856 ++ leBytes 2 1 ++ leBytes 1 m ++ leBytes 1 chunk ++ volId ++ leBytes 8 cap ++
    timeBytes time ++ zeros 4 ++ slice (members.flatMap (fun x => slice x 0 48)) 0 192 ++ leBytes 8 serial) 0 0xFFC
  h ++ leBytes 4 (crc32c h)

/-- Is a superblock good (R225)? -/
def superOk (b : List Byte) : Bool :=
  decide (fieldLE b 0 4 = 0x4C565856 ∧ fieldLE b 0xFFC 4 = crc32c (slice b 0 0xFFC))

/-! ### FORMAT (R225) -/

/-- Deallocate every member's namespace. -/
def State.fmtDeallocate (s : State) : State :=
  (List.range s.recd.members).foldl (fun (s : State) m => s.nvMember ⟨.deallocate, m, 0, 0, fieldLE (s.recd.space m) 0 8⟩)
    (s.recPhaseTo .deallocate)

/-- Write both superblocks and an empty directory; the log is to begin at block 3b. The first SEQ is unstated. -/
def State.fmtWrite (s : State) : State :=
  let c := s.get R.REC_VOL_CHUNK
  let b := s.recd.chunk
  let cap := volCap b s.membersNow
  let sb := superblock s.recd.members c cap s.fuses.serial (s.freeBytes 16) s.now s.membersNow
  let seq := s.drawn.free
  let s1 := s.drawn.drawn.modRec (fun r => { r with cap := cap, head := 3 * b, seq := seq, phase := .blank })
  ((s1.volWrite 0 sb .volume).volWrite b sb .volume).volWrite (2 * b) (zeros (64 * 4096)) .volume

/-! ### MOUNT (R225, R229) -/

/-- Read both superblocks. The copy lies at block b, which is LBA 0 of member 1; with one member it lies at LBA b, where every CHUNK
that there is is tried. -/
def State.mntSuper (s : State) : State :=
  let ask (key m lba : Nat) : NvAsk := ⟨.read key, m, 0, lba, 1⟩
  (if s.recd.members = 1 then [ask 0 0 0, ask 64 0 64, ask 256 0 256, ask 1024 0 1024] else [ask 0 0 0, ask 1 1 0]).foldl
    (fun (s : State) a => s.nvMember a) (s.recPhaseTo .super)

/-- The superblock that is used: block 0 where it is good, else the copy. -/
def Rec.super (r : Rec) : Option (List Byte) :=
  let at_ (k : Nat) := mapGet [] r.got k
  if superOk (at_ 0) then some (at_ 0)
  else ((if r.members = 1 then [64, 256, 1024] else [1]).find? (fun k => superOk (at_ k) &&
    decide (k = 1 ∨ chunkBlocks (fieldLE (at_ k) 7 1) = k))).map at_

/-- The superblocks are there: check them against the members, then read the directory. -/
def State.mntDirectory (s : State) : State :=
  match s.recd.super with
  | none => s.recFails 4
  | some sb =>
    let m := fieldLE sb 6 1
    if m ≠ s.recd.members ∨ (List.range m).any (fun k => decide (slice (s.memberOf k) 0 40 ≠ slice sb (0x30 + 48 * k) 40)) then s.recFails 3
    else
      let b := chunkBlocks (fieldLE sb 7 1)
      (s.modRec (fun r => { r with chunk := b, cap := fieldLE sb 0x18 8, got := [], phase := .directory })).volMove .read (2 * b) 64

/-- Is a record of the log good (R229)? `seq` is the number expected, where one is. -/
def recGood (open_ : List Nat) (seq : Option Nat) (d : List Byte) : Bool :=
  let kind := fieldLE d 4 1
  decide (fieldLE d 0 4 = 0x4C525856 ∧ 1 ≤ kind ∧ kind ≤ 4 ∧ fieldLE d 0x3C 4 = crc32c (slice d 0 0x3C)) &&
  open_.contains (fieldLE d 6 2) && (match seq with | some n => decide (fieldLE d 8 8 = n) | none => true)

/-- Is the body of a record good? -/
def recBodyGood (d : List Byte) : Bool := decide (fieldLE d 0x30 4 = crc32c (slice d 64 (fieldLE d 0x14 4)))

/-- The takes that a directory shows OPEN. -/
def openTakes (dir : List (List Byte)) : List (List Byte) := dir.filter (fun e => decide (fieldLE e 2 1 = 1))


/-- The block whence the records of a take are found: that of its last INDEX, or of its TAKE_OPEN, or 0. -/
def dirStart (e : List Byte) : Nat := if fieldLE e 0x10 8 = 0 then fieldLE e 8 8 else fieldLE e 0x10 8

/-- Directory entries as the volume holds them. -/
def Rec.entries (r : Rec) : List (List Byte) := r.dir.map (·.2)

/-- Takes whose records a walk accepts: the OPEN ones, or, in the walk that only finds the end of the log, all. -/
def Rec.walkTakes (r : Rec) (tail : Bool) : List Nat := ((if tail then r.entries else openTakes r.entries).map (fun e => fieldLE e 0 2))

/-- Read the header of the next record of a walk. -/
def State.mntHeader (s : State) (tail : Bool) : State :=
  (s.modRec (fun r => { r with got := [], phase := .header tail })).volMove .read s.recd.cursor 1

/-- The walk that finds the end of the log: from the last take that is not OPEN, or from the log's first block. -/
def State.mntTail (s : State) : State :=
  let starts := (s.recd.entries.filter (fun e => decide (fieldLE e 2 1 ≠ 1))).map dirStart
  (s.modRec (fun r => { r with cursor := starts.foldl max (3 * r.chunk) })).mntHeader true

/-- The directory is there: its entries; the walk begins at the earliest block whence an OPEN take is recovered (R229). -/
def State.mntOpen (s : State) : State :=
  let d := (sortBy (fun a b => decide (a.1 ≤ b.1)) s.recd.got).flatMap (·.2)
  let all := (List.range 4096).map (fun i => slice d (64 * i) 64)
  let used := all.filter (fun e => decide (fieldLE e 0 2 ≠ 0 ∧ fieldLE e 2 1 ≠ 0 ∧ fieldLE e 0x3C 4 = crc32c (slice e 0 0x3C)))
  let dir := used.foldl (fun m e => mapIns natLt (mapErase m (fieldLE e 0 2)) (fieldLE e 0 2) e) []
  let s1 := s.modRec (fun r => { r with dir := dir, used := dir.foldl (fun a e => max a e.1) 0, walk := [] })
  match ((openTakes s1.recd.entries).map dirStart).filter (fun b => decide (b ≠ 0)) with
  | [] => s1.mntTail
  | b :: l => (s1.modRec (fun r => { r with cursor := l.foldl min b })).mntHeader false

/-- A take as its directory entry and the records found behind its last INDEX tell it (R229): INDEX records found add their entries
to FRAMES, frames behind the last of them are to be indexed. -/
def recoverTake (e : List Byte) (found : List (Nat × List Byte)) : Take :=
  let num := fieldLE e 0 2
  let mine := found.filter (fun r => decide (fieldLE r.2 6 2 = num))
  let ixs := mine.filter (fun r => decide (fieldLE r.2 4 1 = 3 ∧ fieldLE e 0x10 8 < r.1))
  let from_ := ((ixs.getLast?.map (·.1)).getD (fieldLE e 0x10 8))
  let frames := mine.filter (fun r => decide (fieldLE r.2 4 1 = 2 ∧ from_ ≤ r.1))
  let count (d : List Byte) := fieldLE d 64 4
  let opened := (mine.find? (fun r => decide (fieldLE r.2 4 1 = 1))).map (fun r => (r.1, fieldLE r.2 (64 + 0x20) 4))
  { num := num, port := fieldLE e 3 1, start := timeOf (fieldLE e 0x2A 6) (fieldLE e 0x26 4) + fieldLE e 0x24 2 * 2 ^ 16,
    opened := some (opened.getD (fieldLE e 8 8, fieldLE e 0x1C 4)), lastIndex := from_,
    count := ixs.foldl (fun a r => a + count r.2) (fieldLE e 0x18 4),
    lastTag := ((ixs.filter (fun r => decide (0 < count r.2))).getLast?.map (fun r => fieldLE r.2 (64 + 16 * count r.2) 4)).getD
      (fieldLE e 0x20 4),
    idx := frames.map (fun r =>
      ⟨fieldLE r.2 0x18 4, r.1, fieldLE r.2 0x10 4,
        (if bit (fieldLE r.2 (64 + 0x0A) 2) 6 then 1 else 0) + (if fieldLE r.2 (64 + 0x0A) 2 = 0 then 0 else 2) +
        (if bit (fieldLE r.2 (64 + 0x45) 1) 0 then 4 else 0)⟩),
    closing := some 3 }

/-- The walk has ended: the log's head lies after the last good record; an INDEX and a TAKE_CLOSE are appended for every OPEN take,
and its directory entry is marked RECOVERED (R229). A volume without a record has no SEQ that the spec states. -/
def State.mntRecover (s : State) : State :=
  let last := s.recd.walk.getLast?
  let head := match last with | some r => r.1 + fieldLE r.2 0x10 4 | none => s.recd.cursor
  let seq := match last with | some r => fieldLE r.2 8 8 + 1 | none => s.free
  let takes := (openTakes s.recd.entries).map (fun e => recoverTake e s.recd.walk)
  let s1 := (if last.isNone then s.drawn else s).modRec (fun r =>
    { r with head := head, seq := seq, takes := takes, got := [], walk := [], phase := if takes.isEmpty then .done else .recover })
  let s2 := takes.foldl (fun (s : State) t =>
    let s2 := s.recSeal t 3
    let t1 := (s2.take t.num).getD t
    s2.recDir t.num (dirEntry t1 3 t1.count t1.lastIndex t1.lastTag)) s1
  s2.modRec (fun r => { r with takes := [], posts := [] })

/-- A walk ends: without a good record of an OPEN take, the end of the log is looked for behind the takes before. -/
def State.mntEnd (s : State) (tail : Bool) : State :=
  if s.recd.walk.isEmpty && !tail then s.mntTail else s.mntRecover

/-- The record at the cursor is good: the walk goes on behind it. -/
def State.mntAccept (s : State) (tail : Bool) (d : List Byte) : State :=
  let s1 := s.modRec (fun r => { r with walk := r.walk ++ [(r.cursor, d)], cursor := r.cursor + fieldLE d 0x10 4 })
  if s1.recd.cursor < s1.recd.cap then s1.mntHeader tail else s1.mntRecover

/-- What the Reads of a walk have brought, in the volume's order. -/
def Rec.bytes (r : Rec) : List Byte := (sortBy (fun a b => decide (a.1 ≤ b.1)) r.got).flatMap (·.2)

/-- The header of a record has come: the rest of a record that it describes is read; a bad one ends the walk. -/
def State.mntRecord (s : State) (tail : Bool) : State :=
  let d := s.recd.bytes
  let n := fieldLE d 0x10 4
  let next := (s.recd.walk.getLast?).map (fun r => fieldLE r.2 8 8 + 1)
  if recGood (s.recd.walkTakes tail) next d && decide (1 ≤ n ∧ s.recd.cursor + n ≤ s.recd.cap ∧ 64 + fieldLE d 0x14 4 ≤ n * 4096) then
    if n = 1 then (if recBodyGood d then s.mntAccept tail d else s.mntEnd tail)
    else (s.recPhaseTo (.record tail)).volMove .read (s.recd.cursor + 1) (n - 1)
  else s.mntEnd tail

/-- A whole record has come. -/
def State.mntBody (s : State) (tail : Bool) : State :=
  if recBodyGood s.recd.bytes then s.mntAccept tail s.recd.bytes else s.mntEnd tail

/-- The next phase of a FORMAT or MOUNT, once the commands of the one before are done. -/
def State.recNext (s : State) : State :=
  if !s.recd.cmds.isEmpty then s
  else match s.recd.phase with
    | .idle | .done => s
    | .identify =>
      if !(List.range s.recd.members).all (fun m => lbaOk (s.recd.space m)) then s.recFails 5
      else if s.get I.REC_CODE = 1 then s.fmtDeallocate
      else s.mntSuper
    | .deallocate => s.fmtWrite
    | .blank | .recover => (s.recPhaseTo .flush).volFlush
    | .super => s.mntDirectory
    | .directory => s.mntOpen
    | .header tail => s.mntRecord tail
    | .record tail => s.mntBody tail
    | .flush => s.recPhaseTo .done

/-- What a command brought is kept: Identify data, blocks read. -/
def NvCmd.keep (c : NvCmd) (data : List Byte) (r : Rec) : Rec :=
  let put (m : List (Nat × List Byte)) (k n : Nat) := mapIns natLt (mapErase m k) k (slice data 0 n)
  match c.ask.op with
  | .identify cns => { r with ids := put r.ids (2 * c.ask.member + ofBool (decide (cns = 0))) 4096 }
  | .read k => { r with got := put r.got k (c.ask.blocks * 4096) }
  | _ => r

/-- NVME_COMPLETION (R222, R224, R225): a command of NVQ completes with its status, and with what it brought. A command that fails is
issued once more; a second failure faults its member. -/
def execNvmeCompletion (id : Nat) (ok : Bool) (data : List Byte) (s : State) : Res :=
  .next (match s.nvSent id with
    | none => s
    | some c =>
      if ok || c.ask.op.isAbort then
        (((s.modRec (fun r => { r with cmds := r.cmds.filter (fun c => decide (c.id ≠ id)) })).modRec (c.keep data)).recFlow.recNext).nvPump
      else if c.failed then s.driveFault c.drive
      else
        let s1 := s.modCmd id (fun c => { c with failed := true, aborted := false, sent := false })
        (if c.ask.op.isWrite then s1.inc (R.NVQ_STAT_RETRY_CNT c.drive) else s1).nvPump)

/-- REC_CMD_DONE (R225): the running command ends. FORMAT and MOUNT end once their last command is done, STOP once its takes are on
the media, UNMOUNT once every member is flushed. -/
def execRecCmdDone (s : State) : Res :=
  let code := s.get I.REC_CODE
  let fail := s.get I.REC_FAIL
  let fin (s : State) (st result : Nat) : State :=
    ((s.sets [(R.REC_STAT_STATE, st), (R.REC_STAT_BUSY, 0), (R.REC_STAT_RESULT, result), (I.REC_CODE, 0), (I.REC_FAIL, 0)]).raise
      E.recCmdDone).recIdle
  .next (if !s.on R.REC_STAT_BUSY then s
    else if code = 1 ∨ code = 2 then
      if s.recd.phase ≠ .done then s
      else if fail ≠ 0 then fin (s.modRec (fun r => { nextCmd := r.nextCmd })) 0 fail
      else fin (s.modRec (fun r => { r with phase := .idle, ids := [] })) 1 0
    else if fail ≠ 0 then fin s 1 fail
    else if code = 3 then fin s (if s.recd.takes.any (fun t => t.closing.isNone) then 2 else 1) 0
    else if code = 4 then (if s.recd.takes.isEmpty then fin s 1 0 else s)
    else if s.recd.cmds.isEmpty ∧ s.recd.takes.isEmpty then fin (s.modRec (fun r => { nextCmd := r.nextCmd })) 0 0
    else s)

end Sys2Proof.Machine
end

