-- ==== Sys2Proof/Machine/RegWrite.lean ====
section
/-!
DEFINITION. Commit requests, EVT_STAT words and BAR0 writes in general (spec/22 R504 to R508, spec/17 R410 to R412, R426).
-/

namespace Sys2Proof.Machine

/-! ### Commit requests (R505, R506) -/

/-- Commit domains of a rod. -/
def domains (rod : Nat) : Nat :=
  if rod = 1 then 2 else if 2 ≤ rod ∧ rod ≤ 7 then 1 else if rod = 8 ∨ rod = 9 then 6 else if rod = 10 ∨ rod = 12 then 1
  else if rod = 11 ∨ rod = 13 ∨ rod = 14 then 9 else 0

/-- No port of the source is in use. -/
def State.sourceOff (s : State) : Bool :=
  match s.strg.source with
  | none => true
  | some p => if p = 2 then !s.on (R.LINK_CTL_EN 0) && !s.on (R.LINK_CTL_EN 1) else !s.on (R.LINK_CTL_EN p)

/-- The domain's unit cannot reach its commit point (R505); a commit that clears EN of an encoder cuts its picture and waits for none
(spec/09 R245). -/
def State.domainIdle (s : State) (rod d : Nat) : Bool :=
  if rod = 1 then !s.on (R.LINK_CTL_EN d)
  else if rod ≤ 7 then s.sourceOff
  else if rod ≤ 9 then
    (if d < 4 then decide (s.inForce (R.ENC_CFG_EN (rod - 8) d) = 0) || decide (s.get (R.ENC_CFG_EN (rod - 8) d) = 0)
     else if d = 4 then decide (s.inForce (R.DEC_CFG_EN (rod - 8)) = 0)
     else (List.range 4).all (fun k => decide (s.inForce (R.ENC_CFG_EN (rod - 8) k) = 0)))
  else if rod = 10 then decide (s.get R.REC_STAT_STATE ≠ 2)
  else if rod = 11 then decide (d < 8) && !s.on (R.TG_CTL_EN d)
  else if rod = 12 then true
  else if rod = 13 then decide (d < 8) && !s.on (R.AP_CFG_EN d)
  else if d = 8 then true else decide (s.get (R.CH_STAT_STATE d) = 0)

/-- The commit of a domain now, outside its commit point. -/
def State.domainNow (s : State) (rod d : Nat) : State :=
  if rod = 1 then s.commitLnk d
  else if rod ≤ 6 then (s.imgCommit (rod - 2)).1
  else if rod = 7 then s.commitAt 7 0 motRules
  else if rod ≤ 9 then
    (if d < 4 then
       (((if s.get (R.ENC_CFG_EN (rod - 8) d) = 0 then s.encCut (4 * (rod - 8) + d) else s).commitAt rod d (fun _ _ _ => [])).encIdle
         (rod - 8) d).encKick
     else if d = 4 then (s.commitAt rod 4 (decRules (rod - 8))).decOn (rod - 8)
     else (s.commitAt rod 5 (schedRules rod)).encKick)
  else if rod = 10 then s.commitAt 10 0 rrcRules
  else if rod = 11 then s.headCommit d
  else if rod = 13 then s.commitAt 13 d (apRules d)
  else if rod = 14 ∧ d < 8 then s.commitAt 14 d memRules
  else s.commitAt rod d (fun _ _ _ => [])

/-- A request that reaches a running head after the start of its commit line is late (spec/12 R306). -/
def State.headLate (s : State) (n : Nat) : State :=
  if s.get (R.HEAD_STAT_STATE n) = 2 ∧ s.get (I.HEAD_CL n) ≤ s.get (R.HEAD_STAT_LINE n) then
    ((s.set (R.HEAD_EVT_COMMIT_LATE n) 1).inc (R.HEAD_EVT_LATE_CNT n)).raise (E.headCommitLate n)
  else s

/-- COMMIT.REQ is written: every domain is pending, and those that cannot reach their commit point apply at once. -/
def State.commitReq (s : State) (rod : Nat) : State :=
  let s1 := s.set (R.COMMIT_PEND rod) (2 ^ domains rod - 1)
  let s2 := if 2 ≤ rod ∧ rod ≤ 6 then s1.imgAsk (rod - 2)
    else if rod = 11 then (List.range 8).foldl State.headLate s1 else s1
  (List.range (domains rod)).foldl (fun (s : State) d =>
    if s.commitPending rod d && s.domainIdle rod d then s.domainNow rod d else s) s2

/-- COMMIT_REQ (R506). -/
def execCommitReq (rod : Fin 16) (s : State) : Res := .next (s.hostTo rod (·.commitReq rod))

/-! ### Events (spec/17 R426) -/

/-- Vectors of the MSI-X table. -/
def vectors : List Nat := List.range 64

/-- Deliver the vectors that a change has asserted. -/
def State.msixRise (old s : State) : State :=
  vectors.foldl (fun (s : State) v => if s.vecAsserted v && !old.vecAsserted v then s.msix v else s) s

/-- A W1C write to word `w` of a block's EVT_STAT: the sources clear, DOORBELL but while a bit of agent 0 is set (spec/17 R424);
every vector still asserted is sent again. -/
def State.evtClear (s : State) (blk w v : Nat) : State :=
  let s1 := ((List.range 32).filter (bit v)).foldl (fun (s : State) b =>
    let e : E.Src := (blk, 32 * w + b)
    if e = E.doorbell && s.hostBell then s else s.set (R.EVT_STAT e.1 e.2) 0) s
  vectors.foldl (fun (s : State) x => if s.vecAsserted x then s.msix x else s) s1

/-- EVT_STAT_CLEAR. A block has six words. -/
def execEvtStatClear (blk : Fin 17) (w : Fin 8) (v : BitVec 32) (s : State) : Res :=
  .next (s.hostTo blk fun s => if w.val < 6 then s.evtClear blk w v.toNat else s)

/-! ### Fields whose write acts at once -/

/-- The state after a command, for the writes that are one. -/
def State.via (s : State) (r : Res) : State :=
  match r with
  | .next t => t
  | _ => s

/-- RW fields that an action writes. -/
def actedRw (f : Fld) : Bool :=
  f = R.LN_CTL_EN f.rod f.ix || f = R.LN_PRBS_CHK_EN f.rod f.ix || f = R.LINK_CTL_EN f.ix || f = R.EXS_CTL_MODE f.ix ||
  f = R.NVQ_CFG_EN f.ix || f = R.TG_CTL_EN f.ix || f = R.AP_CFG_EN f.ix || f = R.DFL_CFG_EN f.ix || f = R.DFL_TAIL_SLOT f.ix ||
  f = R.DMA_CFG_EN f.ix || f = R.DMA_CFG_TAIL f.ix || f = R.TRIM_VAL_TARGET || f = R.PTP_CFG_MODE || f = R.TLY_RATE_ADJ ||
  f = R.ROD_HOLD_HOLD || (decide (f.rod = 8 ∨ f.rod = 9) && (f = R.DEC_IN_WR_OFF (f.rod - 8))) || f = R.DP_CFG_EN f.ix ||
  f = R.MB_DATA_D (f.ix / 16) (f.ix % 16) || f = R.MB_CTRL_LEN f.ix

/-- A lane's EN, GO and PRBS checker. What the checker has counted when it is turned off is unstated (spec/03 R94). -/
def State.actLane (s : State) (w : RegWord) (f : Fld) (v : Nat) : State :=
  let r : Fin 16 := Fin.ofNat 16 f.rod
  let l : Fin 70 := Fin.ofNat 70 f.ix
  if f = R.LN_CTL_EN f.rod f.ix then
    (if v = 1 then s.via (execLaneEnable r l s) else if s.on f then s.via (execLaneDisable r l s) else s)
  else if f = R.LN_CMD_GO f.rod f.ix then (if v = 1 then s.via (execLaneGo r l (Fin.ofNat 8 (bits w.v 0 3)) s) else s)
  else if f = R.LN_PRBS_CHK_EN f.rod f.ix then
    (if v = 1 ∧ !s.on f then
      let s1 := s.sets [(f, 1), (R.LN_PRBS_ERR f.rod f.ix, 0), (R.LN_PRBS_SYNC f.rod f.ix, 0)]
      if s1.lane f.rod f.ix = lnUp then s1.setLane f.rod f.ix lnAlign else s1
    else if v = 0 ∧ s.on f then s.sets [(f, 0), (R.LN_PRBS_SYNC f.rod f.ix, 0)]
    else s)
  else s

/-- CTL (spec/02 R67, R71, spec/06 R172, spec/07 R185, spec/18 R453, spec/24 R535). -/
def State.actCtl (s : State) (w : RegWord) (f : Fld) (v : Nat) : State :=
  if v ≠ 1 then s
  else if f = R.PATCH_CMD_GO then s.via (execPatchGo s)
  else if f = R.PATCH_CMD_ABORT then s.via (execPatchAbort s)
  else if f = R.SUBST_CMD_TEST then s.via (execSubstTest (BitVec.ofNat 4 (bits w.v 8 4)) s)
  else if f = R.SUBST_CMD_RETURN then s.via (execSubstReturn s)
  else if f = R.SLOT_CMD_INVAL f.ix then s.via (execLutInval (Fin.ofNat 4 f.ix) s)
  else if f = R.SLOT_CMD_CHECK f.ix then s.via (execLutCheck (Fin.ofNat 4 f.ix) s)
  else if f = R.PWR_REQ_GO then s.pwrReq (bits w.v 29 2) (bits w.v 16 5)
  else if f = R.BOOT_CMD_FW_GO then s.via (execFwGo s)
  else if f = R.BOOT_CMD_IMG_GO then s.via (execImgGo s)
  else s

/-- LNK. -/
def State.actLnk (s : State) (w : RegWord) (f : Fld) (v : Nat) : State :=
  let p : Fin 2 := Fin.ofNat 2 f.ix
  if f = R.LINK_CTL_EN f.ix then
    (if v = 1 then s.via (execPortEnable p s) else if s.on f then s.via (execPortDisable p s) else s)
  else if f = R.SCK_EN f.ix then s.set (I.PIN_SCK f.ix) v
  else if f = R.LINK_CTL_RETRAIN f.ix then (if v = 1 then s.via (execRetrain p s) else s)
  else if f = R.EXQ_POST_GO f.ix then (if v = 1 then s.via (execExqPost p (Fin.ofNat 8 (bits w.v 0 3)) s) else s)
  else if f = R.EXS_CTL_MODE f.ix then s.via (execExsModeChange p (Fin.ofNat 4 v) s)
  else s

/-- COD: an operation of SCHED.CMD (spec/09 R240), DEC.IN.WR. -/
def State.actCod (s : State) (w : RegWord) (f : Fld) (v : Nat) : State :=
  let r : Fin 2 := Fin.ofNat 2 (f.rod - 8)
  let n := BitVec.ofNat 12 (bits w.v 0 12)
  if f = R.SCHED_CMD_GO (f.rod - 8) then
    (if v ≠ 1 then s else match bits w.v 28 3 with
      | 1 => s.via (execSchedCommit r n s)
      | 2 => s.via (execSchedStart r n s)
      | 3 => s.via (execSchedStop r n s)
      | 4 => s.via (execSchedIdr r n s)
      | _ => s)
  else if f = R.DEC_IN_WR_OFF (f.rod - 8) then s.via (execDecInWr r (BitVec.ofNat 30 v) s)
  else s

/-- RRC: a recorder command (spec/08 R225), a drive's EN. -/
def State.actRrc (s : State) (w : RegWord) (f : Fld) (v : Nat) : State :=
  if f = R.REC_CMD_GO then
    (if v ≠ 1 then s else match bits w.v 0 3 with
      | 1 => s.via (execRecFormat s)
      | 2 => s.via (execRecMount s)
      | 3 => s.via (execRecRecord s)
      | 4 => s.via (execRecStop s)
      | 5 => s.via (execRecUnmount s)
      | _ => s)
  else if f = R.NVQ_CFG_EN f.ix then
    (if v = 1 then s.via (execNvqEnable (Fin.ofNat 4 f.ix) s) else s.nvqDisable f.ix)
  else s

/-- OUT: heads, guards, AUX transfers (spec/12 R317), DisplayPort and eDP ports. -/
def State.actOut (s : State) (w : RegWord) (f : Fld) (v : Nat) : State :=
  if f = R.TG_CTL_EN f.ix then (if v = 1 then s.headOn f.ix else if s.on f then s.headOff f.ix else s)
  else if f = R.GRD_GSTAT_CLR (f.ix / 16) (f.ix % 16) then
    (if v = 1 then s.via (execGuardClr (Fin.ofNat 9 (f.ix / 16)) (Fin.ofNat 16 (f.ix % 16)) s) else s)
  else if f = R.DP_AUX_CMD_GO f.ix then
    (if v = 1 then s.auxGo f.ix (bits w.v 28 3) (bits w.v 24 4) (bits w.v 0 20) else s)
  else if f = R.DP_CFG_EN f.ix then
    (if v = 1 ∧ !s.on f then (s.set f 1).dpTrain f.ix else if v = 0 ∧ s.on f then ((s.set f 0).dpDown f.ix).set (I.DP_TRAIN f.ix) 0 else s)
  else s

/-- NET: Tally, PTP, comparators, flows. -/
def State.actNet (s : State) (w : RegWord) (f : Fld) (v : Nat) : State :=
  if f = R.TLY_CMD_SET then (if v = 1 then s.via (execTlySet s) else s)
  else if f = R.TLY_CMD_ADD then (if v = 1 then s.via (execTlyAdd (bit w.v 29) s) else s)
  else if f = R.TLY_RATE_ADJ then s.via (execTlyRateWrite (BitVec.ofNat 32 v) s)
  else if f = R.PTP_CFG_MODE then
    (if v = s.get f then s else
      let s1 := s.set f v
      if v = 0 then s1.ptpTo 0 else if s.get f = 0 then s1.ptpTo 1 else s1)
  else if f = R.TRG_CTL_ARM f.ix then (if v = 1 then s.via (execTrgArm (Fin.ofNat 16 f.ix) s) else s)
  else if f = R.TRG_CTL_DISARM f.ix then (if v = 1 then s.via (execTrgDisarm (Fin.ofNat 16 f.ix) s) else s)
  else if f = R.FLOW_CMD_GO then (if v = 1 then s.via (execFlowCommit (BitVec.ofNat 12 (bits w.v 0 12)) s) else s)
  else s

/-- AUD. -/
def State.actAud (s : State) (_w : RegWord) (f : Fld) (v : Nat) : State :=
  if f = R.AP_CFG_EN f.ix then (if v = 1 then s.audEnable f.ix else if s.on f then s.audDisable f.ix else s)
  else if f = R.SG_CTL_ARM f.ix then (if v = 1 then s.via (execSgArm (Fin.ofNat 4 f.ix) s) else s)
  else if f = R.SG_CTL_DISARM f.ix then (if v = 1 then s.via (execSgDisarm (Fin.ofNat 4 f.ix) s) else s)
  else s

/-- UTL: engines, trims, calibration routines. Whether the reference of a bandgap trim stands on its pin is unstated (spec/20
R477). -/
def State.actUtl (s : State) (w : RegWord) (f : Fld) (v : Nat) : State :=
  let arg := BitVec.ofNat 16 (bits w.v 0 16)
  if f = R.DFL_CFG_EN f.ix then
    (if v = 1 then s.set f 1 else if s.on f then s.via (execDflDisable (Fin.ofNat 2 f.ix) s) else s)
  else if f = R.DFL_TAIL_SLOT f.ix then s.via (execDflTailWrite (Fin.ofNat 2 f.ix) (BitVec.ofNat 8 v) s)
  else if f = R.DMA_CFG_EN f.ix then
    (if v = 1 then s.set f 1 else if s.on f then s.via (execDmaDisable (Fin.ofNat 8 f.ix) s) else s)
  else if f = R.DMA_CFG_TAIL f.ix then s.via (execDmaTailWrite (Fin.ofNat 8 f.ix) (BitVec.ofNat 8 v) s)
  else if f = R.TRIM_VAL_TARGET then s.via (execTrimTargetWrite (BitVec.ofNat 16 v) s)
  else if f = R.CAL_RUN_GO then
    (if v ≠ 1 then s else match bits w.v 24 4 with
      | 1 => s.via (execCalBgr (decide (s.free % 2 = 1)) s.drawn)
      | 2 => s.via (execCalXo s)
      | 3 => s.via (execCalTs arg s)
      | 4 => s.via (execCalLane arg s)
      | 5 => s.via (execCalPll arg s)
      | _ => s)
  else if f = R.CAL_RUN_ABORT then (if v = 1 then s.via (execCalAbort s) else s)
  else s

/-- AON: warm reset and rod holds (spec/21 R485, R486). -/
def State.actAon (s : State) (_w : RegWord) (f : Fld) (v : Nat) : State :=
  if f = R.RST_DEV_WARM then (if v = 1 then s.via (execRstDevWarm s) else s)
  else if f = R.ROD_HOLD_HOLD then
    (List.range 16).foldl (fun (s : State) r =>
      if bit v r = bit (s.get R.ROD_HOLD_HOLD) r then s
      else s.via (if bit v r then execRodHoldSet (Fin.ofNat 16 r) s else execRodHoldClear (Fin.ofNat 16 r) s)) s
  else s

/-- The window of mailboxes and doorbells as the host, agent 0, writes it (spec/17 R417 to R424). -/
def State.actWin (s : State) (w : RegWord) (f : Fld) (v : Nat) : State :=
  let m := f.ix
  let len := BitVec.ofNat 5 (bits w.v 0 5)
  if f = R.MB_DATA_D (f.ix / 16) (f.ix % 16) then
    s.via (execMbDataWrite 0 (Fin.ofNat 32 (f.ix / 16)) (Fin.ofNat 16 (f.ix % 16)) (BitVec.ofNat 32 v) s)
  else if f = R.MB_CTRL_LEN m then
    (if bit w.v 31 then s.via (execMbGo 0 (Fin.ofNat 32 m) len (bit w.v 30) s)
     else if bit w.v 30 then s.via (execMbArmWait 0 (Fin.ofNat 32 m) len s)
     else if mbSender m = 0 then s.set f v else s)
  else if f = R.DB_SET_B (f.ix / 2) (f.ix % 2) then
    s.via (execDbSet 0 (Fin.ofNat 6 (f.ix / 2)) (decide (f.ix % 2 = 1)) (BitVec.ofNat 32 v) s)
  else if f = R.DB_STAT_B (f.ix / 2) (f.ix % 2) then
    s.via (execDbClear 0 (Fin.ofNat 6 (f.ix / 2)) (decide (f.ix % 2 = 1)) (BitVec.ofNat 32 v) s)
  else s

/-- What the write of a field does at once. -/
def State.act (s : State) (w : RegWord) (h : Hit) : State :=
  let f := h.fld w.blk
  let v := h.value w.blk w.v
  if 0x70000 ≤ w.off ∧ w.off < 0x78000 then s.actLane w f v
  else if f = R.COMMIT_REQ f.rod then (if v = 1 then s.commitReq w.blk else s)
  else match w.blk with
    | 0 => s.actCtl w f v
    | 1 => s.actLnk w f v
    | 8 => s.actCod w f v
    | 9 => s.actCod w f v
    | 10 => s.actRrc w f v
    | 11 => s.actOut w f v
    | 12 => s.actNet w f v
    | 13 => s.actAud w f v
    | 14 => if f = R.CH_FREQ_REQ f.ix ∧ v = 1 then s.freqReq f.ix (bits w.v 0 2) (bit w.v 30) else s
    | 15 => s.actUtl w f v
    | 16 => s.actAon w f v
    | 17 => s.actWin w f v
    | _ => s

/-! ### The write of a word -/

/-- A field takes its new value; a status bit written with 1 clears, with the counts that go with it. A write of a layer's flip
register makes its group pending (spec/11 R289), one of a black level starts the filter afresh at the commit (spec/06 R148). -/
def State.putField (s : State) (w : RegWord) (h : Hit) : State :=
  let f := h.fld w.blk
  let v := h.value w.blk w.v
  match h.ty with
  | .rw =>
    if laneFixed w.blk f || actedRw f then s
    else
      let s1 := s.set f v
      if w.blk = 11 ∧ isFlip f.id then s1.set (I.LAYER_DIRTY (layerOf f.key / 12) (layerOf f.key % 12)) 1
      else if 2 ≤ w.blk ∧ w.blk ≤ 6 ∧ f.id = (R.BLK_LEVEL_B 0 0).id then s1.set (I.BLK_WR (w.blk - 2) f.ix) 1
      else s1
  | .stk => if v = 1 then (h.row.clr w.blk h.ix).foldl (fun (s : State) g => s.set g 0) (s.set f 0) else s
  | _ => s

/-- The MSI-X table: an entry that is unmasked while its pending bit is set sends its message (PCIe, spec/17 R413). -/
def State.msixTable (s : State) (off v : Nat) : State :=
  let i := (off - 0xE000) / 16
  let s1 := s.set (I.MSIX_TAB i ((off - 0xE000) / 4 % 4)) v
  if s1.pba.contains i ∧ !bit (s1.get (I.MSIX_TAB i 3)) 0 then ({ s1 with pba := s1.pba.filter (· ≠ i) } : State).msix i else s1

/-- An accepted write: the fields, then what they do. -/
def State.putWord (s : State) (w : RegWord) : State :=
  if 0x78000 ≤ w.off ∧ w.off < 0x78018 ∧ w.blk ≤ 16 then s.evtClear w.blk ((w.off - 0x78000) / 4) w.v
  else
    let s1 := w.hits.foldl (fun (s : State) h => s.putField w h) s
    let s2 := if 0x78000 ≤ w.off ∧ w.blk ≤ 16 then s.msixRise s1 else s1
    w.hits.foldl (fun (s : State) h => s.act w h) s2

/-- A word is written at a BAR0 offset whose block answers. The registers of a bead that is not strung hold their reset values, and
a write leaves them (spec/02 R47; log 208). -/
def State.regWrite (s : State) (a v : Nat) : State :=
  match placeOf a with
  | none => s
  | some p =>
    let w : RegWord := ⟨p.blk, p.off, v⟩
    if w.hits.isEmpty then (if p.blk = 0 ∧ !p.ali ∧ 0xE000 ≤ p.off ∧ p.off < 0xE400 ∧ a % 4 = 0 then s.msixTable p.off v else s)
    else if !s.beadOpen p.blk p.off then s
    else if p.ali ∨ !s.writeOk w then s.wrRange p.blk a
    else s.putWord w

/-- Rod whose isolation governs a BAR0 offset: AON, the window and what is not mapped are never isolated (R412). -/
def regRod (a : Nat) : Nat :=
  match placeOf a with
  | some p => if p.blk = 17 then 16 else p.blk
  | none => 16

/-- REGISTER_WRITE (R410, R504): a host write of `len` bytes to BAR0. -/
def execRegisterWrite (addr : BitVec 25) (len : BitVec 4) (v : BitVec 32) (s : State) : Res :=
  .next (s.hostTo (regRod addr.toNat) fun s =>
    if len.toNat ≠ 4 ∨ addr.toNat % 4 ≠ 0 then s.set R.HEP_STAT_SIZE_ERR 1 else s.regWrite addr.toNat v.toNat)

end Sys2Proof.Machine
end

