-- ==== Sys2Proof/Machine/Beam.lean ====
section
/-!
DEFINITION. Beam transactions (spec/01 R17 to R20, spec/21 R488 to R490), the host's Tray windows (spec/17 R410, spec/22 R503) and the
debug access port (spec/18 R444).
-/

namespace Sys2Proof.Machine

/-! ### Reads of registers that change something -/

/-- The word that a command of the host's answers, and the state without that answer. -/
def State.sideRead (s : State) (g : State → Res) : Nat × State :=
  match g { s with out := [] } with
  | .next t =>
    let word (o : Out) : Option Nat := match o with | .hostWord v => some v | _ => none
    ((t.out.findSome? word).getD 0, { t with out := s.out ++ t.out.filter (fun o => (word o).isNone) })
  | _ => (0, s)

/-- A register word as agent 0 reads it: NOW_NS, CAP_NS, TSQ_POP and TAKE change what they show (spec/13 R324, R333, R336, spec/17
R419), through the in-force alias too (spec/22 R501). -/
def State.readReg (s : State) (a : Nat) : Nat × State :=
  match placeOf a with
  | none => (0, s)
  | some p =>
    let w : RegWord := ⟨p.blk, p.off, 0⟩
    if a % 4 ≠ 0 then (s.readWord a, s)
    else if p.blk = 12 then
      (if w.has R.NOW_NS_V then s.sideRead execTlyNowRead
       else match (List.range 8).find? (fun j => w.has (R.CAP_NS_V j)), (List.range 4).find? (fun m => w.has (R.TSQ_POP_VALID m)) with
         | some j, _ => s.sideRead (execCapRead (Fin.ofNat 8 j))
         | none, some m => s.sideRead (execTsqPop (Fin.ofNat 4 m))
         | none, none => (s.readWord a, s))
    else if p.blk = 17 ∧ p.off < 0x2000 ∧ p.off % 0x100 = 0x48 then s.sideRead (execMbTake 0 (Fin.ofNat 32 (p.off / 0x100)))
    else (s.readWord a, s)

/-! ### Requests (R17 to R19, R490) -/

/-- A port drops a request or a reply (R490). -/
def State.beamStale (s : State) : State := ((s.set R.RST_BEAM_STALE 1).inc R.RST_BEAM_STALE_CNT).raise E.beamStale

/-- Is a port's transaction open? -/
def State.txnOpen (s : State) (port txn : Nat) : Bool := s.txns.any (fun t => decide (t.port = port ∧ t.txn = txn))

/-- The number is out of use after a reset (R490). -/
def State.txnQuarantined (s : State) (port txn : Nat) : Bool :=
  s.quarantine.any (fun e => decide (e.1 = port ∧ e.2.1 = txn ∧ s.up < e.2.2))

/-- A request is under way: its transaction stands open at a source that has not been reset since. -/
def State.txnBegin (s : State) (src dst epoch txn : Nat) (read : Bool) : State :=
  if s.isolated (portRod src) ∨ epoch ≠ s.epoch (portRod src) then s
  else { s with txns := s.txns ++ [⟨src, txn, dst, read⟩] }

/-- A request reaches port `dst`: dropped on an old epoch, answered RETIRED by a proxy, otherwise served by `serve`, which answers
false where the target has no room and the request waits at the Beam. -/
def State.request (s : State) (src dst epoch txn : Nat) (read : Bool) (serve : State → State × Bool) : State :=
  if s.txnOpen src txn || s.txnQuarantined src txn then s
  else
    let s1 := s.txnBegin src dst epoch txn read
    if epoch ≠ s.get (I.PEPOCH dst (portRod src)) then s1.beamStale
    else if s.isolated (portRod dst) || (decide (19 ≤ dst ∧ dst ≤ 26) && s.on (I.CH_PROXY (dst - 19))) then
      s1.emit (.beamReply src dst (s.epoch (portRod dst)) txn 1 [])
    else if (serve s1).2 then (serve s1).1 else s

/-- BAR0 offset of a register of the rod of a port. -/
def portReg (dst off : Nat) : Nat := portRod dst * 0x100000 + off

/-- A Tray read finds what the memory does on its way: a corrected error, or a word that a particle has upset (spec/01 R24). -/
def State.trayWear (s : State) (a : Nat) (corrected upset : Bool) : State :=
  (s.when upset (fun s => if s.trayBad.contains (a / 8) then s else { s with trayBad := s.trayBad ++ [a / 8] })).when corrected State.trayCor

/-- READ_REQUEST. A register read returns its word; what the rest of its beats holds is unstated. The Tray controller is a bead of
CTL (spec/01 R15), and its port BP0 alone reaches the Tray; at another port no target exists at a Tray address (log 210). -/
def execReadRequest (src dst : Fin 28) (epoch : BitVec 8) (txn : BitVec 10) (cls : Fin 4) (len : Fin 4) (addr : BeamAddr)
    (corrected upset : Bool) (s : State) : Res :=
  let n := 64 * (len.val + 1)
  let answer (s : State) (st : Nat) (d : List Byte) : State × Bool := (s.emit (.beamReply src dst (s.epoch (portRod dst)) txn.toNat st d), true)
  .next (s.request src dst epoch.toNat txn.toNat true fun s =>
    match addr with
    | .tray a =>
      if dst.val ≠ 0 ∨ trayBytes < a + n then answer s 4 []
      else
        let may := (granSpan a n).all (fun g => s.granted (portRod src) g false)
        let r := (s.when may (·.trayWear a corrected upset)).trayReadAs (portRod src) src a n
        answer r.2.2 r.2.1 r.1
    | .dram region off =>
      match s.regionAddr region off with
      | some (ch, x) => if dst.val ≠ 19 + ch then answer s 4 [] else s.memRead ch src txn.toNat cls x n
      | none => answer s 4 []
    | .reg off =>
      if 0x100000 ≤ off then answer s 4 []
      else
        let r := s.readReg (portReg dst off)
        answer r.2.drawn 0 (leBytes 4 r.1 ++ r.2.freeBytes (n - 4))
    | .nothing => answer s 4 [])

/-- WRITE_REQUEST. A register write carries its word in the first four bytes. -/
def execWriteRequest (src dst : Fin 28) (epoch : BitVec 8) (txn : BitVec 10) (cls : Fin 4) (addr : BeamAddr) (data : List Byte)
    (s : State) : Res :=
  let answer (s : State) (st : Nat) : State × Bool := (s.emit (.beamReply src dst (s.epoch (portRod dst)) txn.toNat st []), true)
  .next (s.request src dst epoch.toNat txn.toNat false fun s =>
    match addr with
    | .tray a =>
      if dst.val ≠ 0 ∨ trayBytes < a + data.length then answer s 4
      else
        let r := s.trayWriteAs (portRod src) src a data
        answer r.2 r.1
    | .dram region off =>
      match s.regionAddr region off with
      | some (ch, x) =>
        if dst.val ≠ 19 + ch then answer s 4
        else
          let r := s.memWrite ch cls x data
          if r.2 then answer r.1 0 else r
      | none => answer s 4
    | .reg off => if 0x100000 ≤ off then answer s 4 else answer (s.regWrite (portReg dst off) (fieldLE data 0 4)) 0
    | .nothing => answer s 4)

/-- REPLY (R18, R488, R490): from port `src` to the requester `dst`. TIMEOUT never crosses the Beam. -/
def execReply (src dst : Fin 28) (epoch : BitVec 8) (txn : BitVec 10) (status : Fin 6) (data : List Byte) (s : State) : Res :=
  .next (
    if status.val = 5 then s
    else match s.txns.find? (fun t => decide (t.port = dst.val ∧ t.txn = txn.toNat)) with
    | none => s.beamStale
    | some t =>
      if s.isolated (portRod dst) then s.beamStale
      else
        let s1 : State := { s with txns := s.txns.erase t }
        if status.val ≠ 1 ∧ epoch.toNat ≠ s.get (I.PEPOCH dst (portRod src)) then s1.beamStale.emit (.beamEnd dst txn.toNat 1 [])
        else s1.emit (.beamEnd dst txn.toNat status data))

/-- EVENT_MESSAGE (R490): an epoch advance arrives at a port. -/
def execEventMessage (port : Fin 28) (rod : Fin 16) (epoch : BitVec 8) (s : State) : Res :=
  .next (s.set (I.PEPOCH port rod) epoch.toNat)

/-! ### Streams (R19, spec/02 R50) -/

/-- Bytes of a stream that its queue holds, and the bytes that the queue takes. Of two streams that share a QUEUE allocation each counts
its own held flits against the whole of it: the spec does not say how a shared queue fills (log 210). -/
def State.queued (s : State) (stream : Nat) : Nat := (s.flits.filter (fun f => decide (f.stream = stream))).foldl (fun a f => a + f.data.length) 0
def Stringing.queueBytes (g : Stringing) (alloc : Nat) : Nat :=
  (g.trays.filter (fun r => decide (r.alloc = alloc))).foldl (fun a r => a + r.count * granBytes) 0

/-- A flit is discarded and counted. -/
def State.flitDrop (s : State) (stream : Nat) : State :=
  let s1 := if s.on R.DROP_STAT_DROPPED then s else s.set R.DROP_STAT_STREAM stream
  ((s1.set R.DROP_STAT_DROPPED 1).inc R.DROP_STAT_CNT).raise E.strgDrop

/-- STREAM_FLIT, of the frame `tag` (R34). The stream's POLICY governs a flit for a rod that its proxy stands for. -/
def execStreamFlit (stream : Fin 512) (dst : Fin 28) (mark : Fin 4) (tag : BitVec 32) (data : List Byte) (s : State) : Res :=
  .next (match s.strg.streams.find? (fun r => decide (r.stream = stream.val) && r.dst.contains dst.val) with
    | none => s
    | some r =>
      if !s.isolated (portRod dst) then s.emit (.beamFlit stream r.src dst mark tag.toNat data)
      else if r.policy = 1 then s.flitDrop stream
      else if s.queued stream + data.length ≤ s.strg.queueBytes r.queue then
        { s with flits := s.flits ++ [⟨stream, r.src, dst, mark, tag.toNat, data⟩] }
      else if r.policy = 2 then s.flitDrop stream
      else s)

/-! ### The host's windows (R22, R410, spec/22 R503) -/

/-- A host access is an access of CTL, to host-visible granules alone. -/
def State.hostMay (s : State) (gran : Nat) (wr : Bool) : Bool := s.hostVisible gran && s.granted 0 gran wr

/-- The pieces of `n` bytes from an address, one for each granule: granule, address, length. -/
def granPieces (a n : Nat) : List (Nat × Nat × Nat) :=
  (granSpan a n).map (fun g =>
    let lo := max a (g * granBytes)
    (g, lo, min (a + n) ((g + 1) * granBytes) - lo))

/-- A host read: granules that it may not read are 0 and recorded; what a poisoned read brings is unstated. -/
def State.hostTray (s : State) (a n : Nat) : List Byte × State :=
  (granPieces a n).foldl (fun (acc : List Byte × State) p =>
    let s := acc.2
    if !s.hostMay p.1 false then (acc.1 ++ zeros p.2.2, s.trayDeny 0 false p.1)
    else
      match s.badWords p.2.1 p.2.2 with
      | [] => (acc.1 ++ s.trayRead p.2.1 p.2.2, s)
      | w :: _ => (acc.1 ++ s.freeBytes p.2.2, (s.trayUnc (w / 8192)).drawn)) ([], s)

/-- The boot awaits an object in granules 0 to 63 (spec/24 R535). -/
def State.bootTakes (s : State) (gran : Nat) : Bool := decide (gran < 64 ∧ (s.boot = btWaitFw ∨ s.boot = btWaitImg))

/-- A host write: what it may not write, and what a patch locks, is dropped and recorded. -/
def State.hostTrayWrite (s : State) (a : Nat) (d : List Byte) : State :=
  (granPieces a d.length).foldl (fun (s : State) p =>
    if s.bootTakes p.1 || (s.hostMay p.1 true && !s.windowLocked p.1) then s.trayStore p.2.1 (slice d (p.2.1 - a) p.2.2)
    else s.trayDeny 0 true p.1) s

/-- A read through a window at Tray byte `a`. -/
def State.windowReadAt (s : State) (a n : Nat) (corrected upset : Bool) : State :=
  let r := (s.when (s.hostMay (a / granBytes) false) (·.trayWear a corrected upset)).hostTray a n
  r.2.emit (.hostBytes r.1)

/-- Bytes of an access that lie inside a window of `size` bytes. -/
def inside (size a n : Nat) : Nat := min n (size - a)

/-- BAR2_READ. -/
def execBar2Read (addr : BitVec 26) (len : BitVec 13) (corrected upset : Bool) (s : State) : Res :=
  .next (s.hostTo 0 (·.windowReadAt addr.toNat (inside trayBytes addr.toNat len.toNat) corrected upset))

/-- BAR2_WRITE. -/
def execBar2Write (addr : BitVec 26) (data : List Byte) (s : State) : Res :=
  .next (s.hostTo 0 (·.hostTrayWrite addr.toNat (data.take (inside trayBytes addr.toNat data.length))))

/-- Tray byte of a BAR4 offset. -/
def State.bar4 (s : State) (off : Nat) : Nat := granBytes * s.get R.BAR4_GRAN + off

/-- BAR4_READ. -/
def execBar4Read (off : BitVec 20) (len : BitVec 13) (corrected upset : Bool) (s : State) : Res :=
  .next (s.hostTo 0 fun s => s.windowReadAt (s.bar4 off.toNat) (inside (2 ^ 20) off.toNat len.toNat) corrected upset)

/-- BAR4_WRITE. -/
def execBar4Write (off : BitVec 20) (data : List Byte) (s : State) : Res :=
  .next (s.hostTo 0 fun s => s.hostTrayWrite (s.bar4 off.toNat) (data.take (inside (2 ^ 20) off.toNat data.length)))

/-! ### The debug access port (spec/18 R444) -/

/-- CTL.SEC and the KEEP registers, which VENDOR_OPEN alone reaches. -/
def secRegs (a : Nat) : Bool :=
  let o := a % 0x80000
  decide (a < 0x100000) && (decide (0xC800 ≤ o ∧ o < 0xC900) || decide (0xCA00 ≤ o ∧ o < 0xCB00))

/-- The LMS state and the identity area of the keep store, which no debug access writes. -/
def keepLocked (a : Nat) : Bool := decide (0x1000 ≤ a ∧ a < 0x3000)

/-- What the port answers where it reaches nothing, and what the memories of cores hold, is unstated. -/
def State.dapNothing (s : State) (w : Option (BitVec 32)) : State :=
  match w with
  | some _ => s
  | none => s.drawn.emit (.dapWord (s.free % 2 ^ 32))

/-- An access to BAR0 space. -/
def State.dapBar0 (s : State) (a : Nat) (w : Option (BitVec 32)) : State :=
  if a % 4 ≠ 0 then
    let s1 := s.set R.HEP_STAT_SIZE_ERR 1
    match w with | some _ => s1 | none => s1.emit (.dapWord 0xFFFFFFFF)
  else if secRegs a ∧ s.get I.DEBUG ≠ 2 then s.dapNothing w
  else if !s.blockOpen (regRod a) then
    match w with | some _ => s.hostRetired | none => s.hostRetired.emit (.dapWord 0xFFFFFFFF)
  else
    match w with
    | some v => s.regWrite a v.toNat
    | none =>
      let r := s.readReg a
      r.2.emit (.dapWord r.1)

/-- DAP_ACCESS. The port needs the TAP's DEBUG instruction and open debug. -/
def execDapAccess (acc : DapAccess) (s : State) : Res :=
  .next (
    if s.get I.DEV ≠ 0 ∨ s.get I.JTAG_IR ≠ 0x11 ∨ s.get I.DEBUG = 0 then s
    else match acc with
    | .bar0 a w => s.dapBar0 a.toNat w
    | .tray a w =>
      if a.toNat % 4 ≠ 0 then s.dapNothing w
      else match w with
        | none =>
          let r := s.hostTray a.toNat 4
          r.2.emit (.dapWord (leNat r.1))
        | some v => s.hostTrayWrite a.toNat (leBytes 4 v.toNat)
    | .keep a w =>
      if s.get I.DEBUG ≠ 2 ∨ a.toNat % 4 ≠ 0 then s.dapNothing w
      else match w with
        | none => s.emit (.dapWord (leNat (s.keepRead a.toNat 4)))
        | some v => if keepLocked a.toNat then s else s.keepPut a.toNat (leBytes 4 v.toNat)
    | .core _ _ w => s.dapNothing w)

end Sys2Proof.Machine
end

