-- ==== Sys2Proof/Machine/Therm.lean ====
section
/-!
DEFINITION. Temperature sensing, throttling and the hardware shutdown (spec/19 R459 to R469).
-/

namespace Sys2Proof.Machine

/-- Sensors, and the first of the voter's (R459). -/
def sensors : Nat := 24
def firstVoter : Nat := 21

/-- SHUT, COOL, the reading of a broken sensor, the band of R460 and the voter's hysteresis, in 1/16 °C (R460 to R463). The voter
does not depend on THM, so its hysteresis is the reset value of HYST (notes/assumptions). -/
def tShut : Int := 1840
def tHigh : Int := 2400
def tLow : Int := -800
def tBand : Nat := 80
def voterHyst : Int := 48

/-- THM runs: UTL answers and no device reset or shutdown is in force (R460). -/
def State.thmOn (s : State) : Bool := !s.on I.DEV && !s.isolated 15

/-- The voter runs: the core is powered, or shut down hot (R468). -/
def State.voterOn (s : State) : Bool :=
  decide (s.get I.DEV = 0 ∨ s.get I.DEV = 3 ∨ s.get I.DEV = 8 ∨ s.get I.DEV = 9 ∨ s.get I.DEV = 11)

/-- The sensor is broken. -/
def State.sensBroken (s : State) (i : Nat) : Bool :=
  if firstVoter ≤ i then s.on (I.V_BROKEN (i - firstVoter)) else bit (s.get R.THM_BROKEN_S) i

/-- Is the sensor converted at all? -/
def State.sensOn (s : State) (i : Nat) : Bool := if firstVoter ≤ i then s.voterOn else s.thmOn

/-- THM shows a sensor as broken for a reason. -/
def State.thmShowBroken (s : State) (i reason : Nat) : State :=
  s.sets [(R.THM_BROKEN_S, setBit (s.get R.THM_BROKEN_S) i), (R.THM_TEMP_BROKEN i, 1), (R.THM_TEMP_REASON i, reason)]

/-- A sensor breaks (R461); a second reason changes nothing. -/
def State.sensorBreak (s : State) (i reason : Nat) : State :=
  if s.sensBroken i then s
  else
    let s1 := if s.thmOn then ((s.thmShowBroken i reason).set R.THM_EVT_BROKEN 1).raise E.thmBroken else s
    if firstVoter ≤ i then (s1.set (I.V_BROKEN (i - firstVoter)) reason).raise E.voterBroken else s1

/-- One conversion pair of a sensor: its reading and the difference that the self-test offset made (R461). -/
def State.sensTake (s : State) (i : Nat) (t : Int) (diff : Int) : State :=
  if !s.sensOn i then s
  else
    let bad := if 24 ≤ diff ∧ diff ≤ 40 then 0 else min 8 (s.get (I.SENS_STUCK i) + 1)
    let s1 := s.set (I.SENS_STUCK i) bad
    let s2 := if s1.thmOn then s1.set (R.THM_TEMP_T i) (unsigned 16 t) else s1
    let s3 := if firstVoter ≤ i then s2.set (I.V_T (i - firstVoter)) (unsigned 16 t) else s2
    if t < tLow ∨ tHigh < t then s3.sensorBreak i 2 else if bad = 8 then s3.sensorBreak i 1 else s3

/-- The reading that comparisons use. -/
def State.sensRead (s : State) (i : Nat) (t : Int) : Int := if s.sensBroken i then tHigh else t

/-- The dwell counts after a sample (R463): consecutive samples above and below, whether the threshold is crossed. -/
def dwell (up dn crossed : Nat) (v th hyst : Int) : Nat × Nat × Nat :=
  let u := if th < v then min 4 (up + 1) else 0
  let d := if v < th - hyst then min 16 (dn + 1) else 0
  (u, d, if u = 4 then 1 else if d = 16 then 0 else crossed)

/-! ### The voter (R467, R468) -/

/-- A voter sensor votes hot. -/
def State.votesHot (s : State) (v : Nat) : Bool := s.on (I.V_HOT v) || s.on (I.V_BROKEN v)

/-- The votes as a mask, and the voter sensors that are broken. -/
def State.voteMask (s : State) : Nat := maskOf ((List.range 3).filter s.votesHot)
def State.voterBad (s : State) : Nat := maskOf ((List.range 3).filter (fun v => s.on (I.V_BROKEN v)))

/-- The larger of two readings. -/
def maxInt (a b : Int) : Int := if a < b then b else a

/-- The highest reading of the voter sensors that are not broken. -/
def State.voterPeak (s : State) : Option Int :=
  (List.range 3).foldl (fun a v =>
    if s.on (I.V_BROKEN v) then a
    else
      let t := signed 16 (s.get (I.V_T v))
      some (match a with | none => t | some b => maxInt b t)) none

/-- The hardware shutdown (R467 steps 1 to 3): the record is made, FAULT_N and THERM_N are asserted, everything outside AON
stops and takes its reset state. -/
def State.shutdown (s : State) : State :=
  let s1 := s.sets [(R.THR_REC_VALID, 1), (R.THR_REC_VOTES, s.voteMask), (R.THR_REC_VBROKEN, s.voterBad),
    (R.THR_PEAK_AT_SHUT, unsigned 16 (s.voterPeak.getD 0))]
  ((s1.inc R.THR_REC_RESTARTS).warmReset (s.get R.RST_CAUSE_LAST) 8).sets [(I.PIN_FAULT, 1), (I.PIN_THERM, 1)]

/-- The votes are counted: the first raises VOTER_HOT, two shut the device down. -/
def State.vote (s : State) : State :=
  let n := popcount s.voteMask 3
  let s1 := s.raiseIf (decide (s.get I.V_VOTES = 0 ∧ n ≠ 0)) E.voterHot |>.set I.V_VOTES n
  if 2 ≤ n ∧ s.get I.DEV ≠ 8 ∧ s.get I.DEV ≠ 11 then s1.shutdown else s1

/-- The voter takes a sample of sensor `v`. -/
def State.voterTake (s : State) (v : Nat) : State :=
  let t := signed 16 (s.get (I.V_T v))
  let d := dwell (s.get (I.V_UP v)) (s.get (I.V_DN v)) (s.get (I.V_HOT v)) (s.sensRead (firstVoter + v) t) tShut voterHyst
  let s1 := s.sets [(I.V_UP v, d.1), (I.V_DN v, d.2.1), (I.V_HOT v, d.2.2)]
  if s.on (I.V_BROKEN v) ∨ (s.on I.PEAK_SEEN ∧ t ≤ signed 16 (s.get R.THR_PEAK_MAX)) then s1
  else s1.sets [(I.PEAK_SEEN, 1), (R.THR_PEAK_MAX, unsigned 16 t)]

/-! ### Throttling (R464 to R466) -/

/-- The highest step in force becomes `k`; leaving step 4, the full frame schedule resumes at the next t_n (R466). -/
def State.thmStepTo (s : State) (k : Nat) : State :=
  let was := s.get R.THM_STAT_STEP
  let s1 := (s.set R.THM_STAT_STEP k).raise E.thmStep
  if was = 4 ∧ k ≠ 4 then
    [0, 1].foldl (fun (s : State) p => if s.isolated 1 then s else s.rephase p 0 0) (s1.set R.THM_STAT_FRDIV_NA 0)
  else s1

/-- A sensor port in use whose schedule is off: it cannot be divided (R466). -/
def State.frdivNa (s : State) : Bool :=
  !s.isolated 1 && [0, 1].any (fun p => s.on (R.LINK_CTL_EN p) && decide (s.get (R.EXS_CTL_MODE p) = 0))

/-- A step is applied (R465). -/
def State.thmApply (s : State) : State :=
  let k := s.get R.THM_STAT_STEP + 1
  let s1 := (s.thmStepTo k).set R.THM_EVT_STEP_EV 1
  if k = 4 ∧ s.frdivNa then (s1.set R.THM_STAT_FRDIV_NA 1).raise E.thmFrdivNa else s1

/-- The highest step is undone; THERM_N is released with step 1 (R465). -/
def State.thmUndo (s : State) : State :=
  let k := s.get R.THM_STAT_STEP - 1
  let s1 := s.thmStepTo k
  if k = 0 then s1.set I.PIN_THERM 0 else s1

/-- The request begins (R464): it takes its times; a request that returns during the undoing has no grace time (R465). -/
def State.thmBegin (s : State) : State :=
  ((s.sets [(R.THM_STAT_REQ, 1), (R.THM_EVT_HOT, 1), (I.PIN_THERM, 1), (R.THM_STAT_GRACE, ofBool (!s.on R.THM_STAT_STEP)),
    (I.THM_GRACE_L, s.get R.THM_CFG_GRACE_MS), (I.THM_STEP_L, s.get R.THM_CFG_STEP_MS),
    (I.THM_MAX_L, s.get R.THM_CFG_MAX_STEP), (I.THM_HYST_L, s.get R.THM_CFG_HYST)]).inc R.THM_EVT_HOT_CNT).raise E.thmHot

/-- The request ends (R464, R465). -/
def State.thmEnd (s : State) : State :=
  let s1 := (s.sets [(R.THM_STAT_REQ, 0), (R.THM_STAT_GRACE, 0)]).raise E.thmClear
  if s1.on R.THM_STAT_STEP then s1.thmUndo else s1.set I.PIN_THERM 0

/-- A sensor's sample meets threshold `k` (0 WARN, 1 HOT). -/
def State.thmCompare (s : State) (i k : Nat) (v : Int) : State :=
  let th : Int := 16 * (s.get (if k = 0 then R.THM_THR_WARN else R.THM_THR_HOT) : Nat)
  let hyst : Int := 16 * (s.get I.THM_HYST_L : Nat)
  let was := s.get (I.TH_OVER i k)
  let d := dwell (s.get (I.TH_UP i k)) (s.get (I.TH_DN i k)) was v th hyst
  let s1 := s.sets [(I.TH_UP i k, d.1), (I.TH_DN i k, d.2.1), (I.TH_OVER i k, d.2.2)]
  if d.2.2 = was then s1
  else if k = 0 then (if d.2.2 = 1 then (s1.set R.THM_EVT_WARN 1).raise E.thmWarn else s1)
  else s1.set R.THM_HOT_SRC_S (if d.2.2 = 1 then setBit (s1.get R.THM_HOT_SRC_S) i else clrBit (s1.get R.THM_HOT_SRC_S) i)

/-- The reading lies within 5 °C of a threshold that applies to the sensor (R460). -/
def State.thmNear (s : State) (i : Nat) (v : Int) : Bool :=
  ([(16 * (s.get R.THM_THR_WARN : Nat) : Int), (16 * (s.get R.THM_THR_HOT : Nat) : Int)] ++
    (if firstVoter ≤ i then [tShut] else [])).any (fun th => decide ((v - th).natAbs ≤ tBand))

/-- The sample rate (R460). -/
def State.thmRate (s : State) (near : Bool) : State :=
  if near then s.sets [(R.THM_STAT_RATE, 1), (I.THM_CALM, 0)]
  else if s.on R.THM_STAT_RATE then
    let c := s.get I.THM_CALM + 1
    if c = 64 then s.sets [(R.THM_STAT_RATE, 0), (I.THM_CALM, 0)] else s.set I.THM_CALM c
  else s

/-- THM compares every sensor and begins or ends the request. -/
def State.thmTake (s : State) : State :=
  let l := List.range sensors
  let s0 := (List.range 3).foldl (fun (s : State) v =>
    if s.on (I.V_BROKEN v) ∧ !bit (s.get R.THM_BROKEN_S) (firstVoter + v) then
      s.thmShowBroken (firstVoter + v) (s.get (I.V_BROKEN v)) else s) s
  let v (i : Nat) : Int := s0.sensRead i (signed 16 (s0.get (R.THM_TEMP_T i)))
  let s1 := l.foldl (fun (s : State) i => (s.thmCompare i 0 (v i)).thmCompare i 1 (v i)) s0
  let s2 := s1.thmRate (l.any (fun i => s1.thmNear i (v i)))
  if s2.on R.THM_HOT_SRC_S then (if s2.on R.THM_STAT_REQ then s2 else s2.thmBegin)
  else if s2.on R.THM_STAT_REQ then s2.thmEnd else s2

/-! ### The commands -/

/-- THM_SAMPLE (R460 to R463): a conversion pair of each sensor, in the order of R459; a sensor that the list does not reach gives no
result yet. Where THM is off only the voter's sensors are converted. -/
def execThmSample (l : List TempSample) (s : State) : Res :=
  .next (
    let s1 := (l.zipIdx.filter (fun e => decide (e.2 < sensors))).foldl
      (fun (s : State) e => s.sensTake e.2 e.1.t.toInt e.1.diff.toInt) s
    let s2 := if s1.voterOn then ((List.range 3).foldl (fun (s : State) v => s.voterTake v) s1).vote else s1
    if s2.thmOn then s2.thmTake else s2)

/-- SENSOR_TIMEOUT (R461). -/
def execSensorTimeout (i : Fin 24) (s : State) : Res :=
  .next (if s.sensOn i then
      let s1 := s.sensorBreak i 3
      if firstVoter ≤ i.val then s1.vote else s1
    else s)

/-- GRACE_EXPIRY (R464, R465): step 1 is applied. -/
def execGraceExpiry (s : State) : Res :=
  .next (if s.thmOn ∧ s.on R.THM_STAT_GRACE then
      let s1 := s.set R.THM_STAT_GRACE 0
      if s1.on R.THM_STAT_REQ ∧ 1 ≤ s1.get I.THM_MAX_L then s1.thmApply else s1
    else s)

/-- THM_STEP_TIMER (R465): STEP_MS after a step the next is applied, or the next one down is undone. -/
def execThmStepTimer (s : State) : Res :=
  .next (if s.thmOn ∧ s.on R.THM_STAT_STEP then
      if s.on R.THM_STAT_REQ then (if s.get R.THM_STAT_STEP < s.get I.THM_MAX_L then s.thmApply else s)
      else s.thmUndo
    else s)

end Sys2Proof.Machine
end

