-- ==== Sys2Proof/Machine/Dispatch.lean ====
section
/-!
DEFINITION. The meaning of every command but its place in the queue: one arm per constructor, each a direct call.
-/

namespace Sys2Proof.Machine

def exec (i : Instr) (s : State) : Host.Outcome State Fault Refusal :=
  match i with
  | .readRequest src dst epoch txn cls len addr corrected upset => Sys2Proof.Machine.execReadRequest src dst epoch txn cls len addr corrected upset s
  | .writeRequest src dst epoch txn cls addr data => Sys2Proof.Machine.execWriteRequest src dst epoch txn cls addr data s
  | .reply src dst epoch txn status data => Sys2Proof.Machine.execReply src dst epoch txn status data s
  | .streamFlit stream dst mark tag data => Sys2Proof.Machine.execStreamFlit stream dst mark tag data s
  | .eventMessage port rod epoch => Sys2Proof.Machine.execEventMessage port rod epoch s
  | .timeout port txn => Sys2Proof.Machine.execTimeout port txn s
  | .bar2Read addr len corrected upset => Sys2Proof.Machine.execBar2Read addr len corrected upset s
  | .bar2Write addr data => Sys2Proof.Machine.execBar2Write addr data s
  | .bar4Read off len corrected upset => Sys2Proof.Machine.execBar4Read off len corrected upset s
  | .bar4Write off data => Sys2Proof.Machine.execBar4Write off data s
  | .registerWrite addr len v => Sys2Proof.Machine.execRegisterWrite addr len v s
  | .commitReq rod => Sys2Proof.Machine.execCommitReq rod s
  | .evtStatClear blk w v => Sys2Proof.Machine.execEvtStatClear blk w v s
  | .patchGo => Sys2Proof.Machine.execPatchGo s
  | .patchAbort => Sys2Proof.Machine.execPatchAbort s
  | .patchVerifyDone => Sys2Proof.Machine.execPatchVerifyDone s
  | .patchCheckDone => Sys2Proof.Machine.execPatchCheckDone s
  | .patchRestring => Sys2Proof.Machine.execPatchRestring s
  | .patchDone => Sys2Proof.Machine.execPatchDone s
  | .patchDrainTimeout => Sys2Proof.Machine.execPatchDrainTimeout s
  | .laneEnable rod l => Sys2Proof.Machine.execLaneEnable rod l s
  | .laneDisable rod l => Sys2Proof.Machine.execLaneDisable rod l s
  | .laneGo rod l stage => Sys2Proof.Machine.execLaneGo rod l stage s
  | .lanePowerDone rod l => Sys2Proof.Machine.execLanePowerDone rod l s
  | .lanePllLock rod g kbps => Sys2Proof.Machine.execLanePllLock rod g kbps s
  | .lanePllTimeout rod g => Sys2Proof.Machine.execLanePllTimeout rod g s
  | .laneLosClear rod l => Sys2Proof.Machine.execLaneLosClear rod l s
  | .laneLock rod l => Sys2Proof.Machine.execLaneLock rod l s
  | .laneLockTimeout rod l => Sys2Proof.Machine.execLaneLockTimeout rod l s
  | .laneAdaptDone rod l => Sys2Proof.Machine.execLaneAdaptDone rod l s
  | .laneAdaptTimeout rod l => Sys2Proof.Machine.execLaneAdaptTimeout rod l s
  | .laneAligned rod l inverted reversed => Sys2Proof.Machine.execLaneAligned rod l inverted reversed s
  | .laneLos rod l => Sys2Proof.Machine.execLaneLos rod l s
  | .laneLol rod l => Sys2Proof.Machine.execLaneLol rod l s
  | .laneFreqWindow rod l ppm => Sys2Proof.Machine.execLaneFreqWindow rod l ppm s
  | .groupPllLoss rod g => Sys2Proof.Machine.execGroupPllLoss rod g s
  | .laneIdleEntry rod l => Sys2Proof.Machine.execLaneIdleEntry rod l s
  | .laneSquelchConfirm rod l => Sys2Proof.Machine.execLaneSquelchConfirm rod l s
  | .lanePhaseLock rod l => Sys2Proof.Machine.execLanePhaseLock rod l s
  | .lanePhaseLockTimeout rod l => Sys2Proof.Machine.execLanePhaseLockTimeout rod l s
  | .adaptWindow rod l density => Sys2Proof.Machine.execAdaptWindow rod l density s
  | .tsBlock port lane blk => Sys2Proof.Machine.execTsBlock port lane blk s
  | .blockLock port lane headers => Sys2Proof.Machine.execBlockLock port lane headers s
  | .blockLockLoss port lane headers => Sys2Proof.Machine.execBlockLockLoss port lane headers s
  | .alignTimeout port lane => Sys2Proof.Machine.execAlignTimeout port lane s
  | .amRow port skew inPacket marks => Sys2Proof.Machine.execAmRow port skew inPacket marks s
  | .eidleRow port row => Sys2Proof.Machine.execEidleRow port row s
  | .fsPacket port pkt => Sys2Proof.Machine.execFsPacket port pkt s
  | .fePacket port pkt => Sys2Proof.Machine.execFePacket port pkt s
  | .linePacket port pkt => Sys2Proof.Machine.execLinePacket port pkt s
  | .obPacket port pkt => Sys2Proof.Machine.execObPacket port pkt s
  | .embPacket port pkt => Sys2Proof.Machine.execEmbPacket port pkt s
  | .vendorPacket port pkt => Sys2Proof.Machine.execVendorPacket port pkt s
  | .pairTimeout port fs => Sys2Proof.Machine.execPairTimeout port fs s
  | .retrain port => Sys2Proof.Machine.execRetrain port s
  | .portEnable port => Sys2Proof.Machine.execPortEnable port s
  | .portDisable port => Sys2Proof.Machine.execPortDisable port s
  | .spareMapWrite port spare logical => Sys2Proof.Machine.execSpareMapWrite port spare logical s
  | .sckEnable n => Sys2Proof.Machine.execSckEnable n s
  | .sckDisable n => Sys2Proof.Machine.execSckDisable n s
  | .ibi bus req => Sys2Proof.Machine.execIbi bus req s
  | .frameTimeout port => Sys2Proof.Machine.execFrameTimeout port s
  | .slotDeadline port => Sys2Proof.Machine.execSlotDeadline port s
  | .expsyncFramePulse port => Sys2Proof.Machine.execExpsyncFramePulse port s
  | .expsyncLinePulse port => Sys2Proof.Machine.execExpsyncLinePulse port s
  | .expsyncPulseEnd port line => Sys2Proof.Machine.execExpsyncPulseEnd port line s
  | .exsModeChange port mode => Sys2Proof.Machine.execExsModeChange port mode s
  | .refinEdge falling pulse => Sys2Proof.Machine.execRefinEdge falling pulse s
  | .refinLoss => Sys2Proof.Machine.execRefinLoss s
  | .exqPost port slot => Sys2Proof.Machine.execExqPost port slot s
  | .exqBusDone port ack => Sys2Proof.Machine.execExqBusDone port ack s
  | .exqWindowClose port => Sys2Proof.Machine.execExqWindowClose port s
  | .imgJobStart n refPoison => Sys2Proof.Machine.execImgJobStart n refPoison s
  | .imgJobEnd n upset => Sys2Proof.Machine.execImgJobEnd n upset s
  | .vecWaitTimeout n refPoison => Sys2Proof.Machine.execVecWaitTimeout n refPoison s
  | .jobWatchdog n => Sys2Proof.Machine.execJobWatchdog n s
  | .lbParity n => Sys2Proof.Machine.execLbParity n s
  | .substCopyDone k => Sys2Proof.Machine.execSubstCopyDone k s
  | .substReturn => Sys2Proof.Machine.execSubstReturn s
  | .substTest rod => Sys2Proof.Machine.execSubstTest rod s
  | .dcgRatioUpdate tag => Sys2Proof.Machine.execDcgRatioUpdate tag s
  | .motSetComplete => Sys2Proof.Machine.execMotSetComplete s
  | .lutInval m => Sys2Proof.Machine.execLutInval m s
  | .lutCheck m => Sys2Proof.Machine.execLutCheck m s
  | .lutCheckDone m => Sys2Proof.Machine.execLutCheckDone m s
  | .lutRecheck => Sys2Proof.Machine.execLutRecheck s
  | .recFormat => Sys2Proof.Machine.execRecFormat s
  | .recMount => Sys2Proof.Machine.execRecMount s
  | .recRecord => Sys2Proof.Machine.execRecRecord s
  | .recStop => Sys2Proof.Machine.execRecStop s
  | .recUnmount => Sys2Proof.Machine.execRecUnmount s
  | .recCmdDone => Sys2Proof.Machine.execRecCmdDone s
  | .rscStripeEnd coder catchUp => Sys2Proof.Machine.execRscStripeEnd coder catchUp s
  | .nvmeCompletion id ok data => Sys2Proof.Machine.execNvmeCompletion id ok data s
  | .nvmeCmdTimeout id => Sys2Proof.Machine.execNvmeCmdTimeout id s
  | .nvqEnable d => Sys2Proof.Machine.execNvqEnable d s
  | .nvqReady d mdts => Sys2Proof.Machine.execNvqReady d mdts s
  | .nvqReadyTimeout d => Sys2Proof.Machine.execNvqReadyTimeout d s
  | .rpLinkDown rp => Sys2Proof.Machine.execRpLinkDown rp s
  | .prerollCatchStart sp => Sys2Proof.Machine.execPrerollCatchStart sp s
  | .schedCommit cod stream => Sys2Proof.Machine.execSchedCommit cod stream s
  | .schedStart cod stream => Sys2Proof.Machine.execSchedStart cod stream s
  | .schedStop cod stream => Sys2Proof.Machine.execSchedStop cod stream s
  | .schedIdr cod stream => Sys2Proof.Machine.execSchedIdr cod stream s
  | .regionComplete r tag => Sys2Proof.Machine.execRegionComplete r tag s
  | .vecToExpiry cod tag => Sys2Proof.Machine.execVecToExpiry cod tag s
  | .pictureDeadline stream tag => Sys2Proof.Machine.execPictureDeadline stream tag s
  | .encPictureDone e => Sys2Proof.Machine.execEncPictureDone e s
  | .encDisable cod k => Sys2Proof.Machine.execEncDisable cod k s
  | .decInWr r off => Sys2Proof.Machine.execDecInWr r off s
  | .decEntry r au => Sys2Proof.Machine.execDecEntry r au s
  | .decPictureDone r syntaxErr conceal hashBad oobWrites oobReads => Sys2Proof.Machine.execDecPictureDone r syntaxErr conceal hashBad oobWrites oobReads s
  | .decWatchdog r => Sys2Proof.Machine.execDecWatchdog r s
  | .decOutput r => Sys2Proof.Machine.execDecOutput r s
  | .decDisable r => Sys2Proof.Machine.execDecDisable r s
  | .canvasFrameStart tag => Sys2Proof.Machine.execCanvasFrameStart tag s
  | .cwaitTimeout tag => Sys2Proof.Machine.execCwaitTimeout tag s
  | .guardClr n g => Sys2Proof.Machine.execGuardClr n g s
  | .headEnable n => Sys2Proof.Machine.execHeadEnable n s
  | .headDisable n => Sys2Proof.Machine.execHeadDisable n s
  | .headStart n => Sys2Proof.Machine.execHeadStart n s
  | .headLineStart n under => Sys2Proof.Machine.execHeadLineStart n under s
  | .headPllLock n => Sys2Proof.Machine.execHeadPllLock n s
  | .headPllUnlock n => Sys2Proof.Machine.execHeadPllUnlock n s
  | .hpdChange q level => Sys2Proof.Machine.execHpdChange q level s
  | .irqHpd q lost => Sys2Proof.Machine.execIrqHpd q lost s
  | .dpTrained q ok rate lanes => Sys2Proof.Machine.execDpTrained q ok rate lanes s
  | .auxNativeWrite q len addr => Sys2Proof.Machine.execAuxNativeWrite q len addr s
  | .auxNativeRead q len addr => Sys2Proof.Machine.execAuxNativeRead q len addr s
  | .auxI2cWrite q len addr => Sys2Proof.Machine.execAuxI2cWrite q len addr s
  | .auxI2cRead q len addr => Sys2Proof.Machine.execAuxI2cRead q len addr s
  | .auxI2cWriteMot q len addr => Sys2Proof.Machine.execAuxI2cWriteMot q len addr s
  | .auxI2cReadMot q len addr => Sys2Proof.Machine.execAuxI2cReadMot q len addr s
  | .auxReply q kind count data => Sys2Proof.Machine.execAuxReply q kind count data s
  | .auxTimeout q => Sys2Proof.Machine.execAuxTimeout q s
  | .ethFrameRx m ptpEvent fecBad frame => Sys2Proof.Machine.execEthFrameRx m ptpEvent fecBad frame s
  | .flowPacketTx f late => Sys2Proof.Machine.execFlowPacketTx f late s
  | .ethLinkDown m => Sys2Proof.Machine.execEthLinkDown m s
  | .ethLinkUp m => Sys2Proof.Machine.execEthLinkUp m s
  | .tlySet => Sys2Proof.Machine.execTlySet s
  | .tlyAdd neg => Sys2Proof.Machine.execTlyAdd neg s
  | .tlyRateWrite adj => Sys2Proof.Machine.execTlyRateWrite adj s
  | .tlyNowRead => Sys2Proof.Machine.execTlyNowRead s
  | .ptpMessage m msg => Sys2Proof.Machine.execPtpMessage m msg s
  | .announceTimeout => Sys2Proof.Machine.execAnnounceTimeout s
  | .tsqPop m => Sys2Proof.Machine.execTsqPop m s
  | .trgArm n => Sys2Proof.Machine.execTrgArm n s
  | .trgDisarm n => Sys2Proof.Machine.execTrgDisarm n s
  | .trgFire n => Sys2Proof.Machine.execTrgFire n s
  | .trgPulseEnd n => Sys2Proof.Machine.execTrgPulseEnd n s
  | .capEdge j falling => Sys2Proof.Machine.execCapEdge j falling s
  | .capRead j => Sys2Proof.Machine.execCapRead j s
  | .ltcFrameOut => Sys2Proof.Machine.execLtcFrameOut s
  | .ltcInSync tc => Sys2Proof.Machine.execLtcInSync tc s
  | .flowCommit f => Sys2Proof.Machine.execFlowCommit f s
  | .rtpRxPacket m pkt => Sys2Proof.Machine.execRtpRxPacket m pkt s
  | .audPortEnable n => Sys2Proof.Machine.execAudPortEnable n s
  | .audPortStart n => Sys2Proof.Machine.execAudPortStart n s
  | .audSampleFrame n fsErr samples => Sys2Proof.Machine.execAudSampleFrame n fsErr samples s
  | .audBlockBoundary n phase => Sys2Proof.Machine.execAudBlockBoundary n phase s
  | .audMonWindow n hz => Sys2Proof.Machine.execAudMonWindow n hz s
  | .audClkLoss n => Sys2Proof.Machine.execAudClkLoss n s
  | .audGlitch n => Sys2Proof.Machine.execAudGlitch n s
  | .asrcLock n ratio => Sys2Proof.Machine.execAsrcLock n ratio s
  | .sgArm g => Sys2Proof.Machine.execSgArm g s
  | .sgDisarm g => Sys2Proof.Machine.execSgDisarm g s
  | .sgStart g => Sys2Proof.Machine.execSgStart g s
  | .audStreamBlock a => Sys2Proof.Machine.execAudStreamBlock a s
  | .refresh ch rank => Sys2Proof.Machine.execRefresh ch rank s
  | .refreshPostponeLimit ch rank => Sys2Proof.Machine.execRefreshPostponeLimit ch rank s
  | .mr4Poll ch hot temp => Sys2Proof.Machine.execMr4Poll ch hot temp s
  | .scrubRead ch errs => Sys2Proof.Machine.execScrubRead ch errs s
  | .retrainTimer ch => Sys2Proof.Machine.execRetrainTimer ch s
  | .stepSetDone ch works => Sys2Proof.Machine.execStepSetDone ch works s
  | .ceWindow ch => Sys2Proof.Machine.execCeWindow ch s
  | .safePointTimeout ch => Sys2Proof.Machine.execSafePointTimeout ch s
  | .freqReq ch sp urgent => Sys2Proof.Machine.execFreqReq ch sp urgent s
  | .freqChangeDone ch => Sys2Proof.Machine.execFreqChangeDone ch s
  | .panicStart k => Sys2Proof.Machine.execPanicStart k s
  | .panicEnd k => Sys2Proof.Machine.execPanicEnd k s
  | .panicLong => Sys2Proof.Machine.execPanicLong s
  | .chHang ch => Sys2Proof.Machine.execChHang ch s
  | .chInitDone ch works => Sys2Proof.Machine.execChInitDone ch works s
  | .chPoisonFillDone ch => Sys2Proof.Machine.execChPoisonFillDone ch s
  | .dflTailWrite n slot => Sys2Proof.Machine.execDflTailWrite n slot s
  | .dflJobStart n => Sys2Proof.Machine.execDflJobStart n s
  | .dflJobDone n => Sys2Proof.Machine.execDflJobDone n s
  | .dflDisable n => Sys2Proof.Machine.execDflDisable n s
  | .dmaTailWrite d slot => Sys2Proof.Machine.execDmaTailWrite d slot s
  | .dmaJobDone d ok data => Sys2Proof.Machine.execDmaJobDone d ok data s
  | .dmaDisable d => Sys2Proof.Machine.execDmaDisable d s
  | .coreWatchdog k => Sys2Proof.Machine.execCoreWatchdog k s
  | .hepReset => Sys2Proof.Machine.execHepReset s
  | .msixEnable => Sys2Proof.Machine.execMsixEnable s
  | .mbDataWrite agent m n v => Sys2Proof.Machine.execMbDataWrite agent m n v s
  | .mbGo agent m len arm => Sys2Proof.Machine.execMbGo agent m len arm s
  | .mbArmWait agent m len => Sys2Proof.Machine.execMbArmWait agent m len s
  | .mbTake agent m => Sys2Proof.Machine.execMbTake agent m s
  | .dbSet agent a hi v => Sys2Proof.Machine.execDbSet agent a hi v s
  | .dbClear agent a hi v => Sys2Proof.Machine.execDbClear agent a hi v s
  | .echo p => Sys2Proof.Machine.execEcho p s
  | .netTx p => Sys2Proof.Machine.execNetTx p s
  | .netRx p => Sys2Proof.Machine.execNetRx p s
  | .faultHistoryWrite => Sys2Proof.Machine.execFaultHistoryWrite s
  | .clogRecord rod => Sys2Proof.Machine.execClogRecord rod s
  | .challenge src => Sys2Proof.Machine.execChallenge src s
  | .debugUser src token => Sys2Proof.Machine.execDebugUser src token s
  | .debugVendor src token => Sys2Proof.Machine.execDebugVendor src token s
  | .vendorWipeDone => Sys2Proof.Machine.execVendorWipeDone s
  | .revoke src token vpp => Sys2Proof.Machine.execRevoke src token vpp s
  | .addKey src token vpp => Sys2Proof.Machine.execAddKey src token vpp s
  | .return src token vpp => Sys2Proof.Machine.execReturn src token vpp s
  | .attest p => Sys2Proof.Machine.execAttest p s
  | .getId p => Sys2Proof.Machine.execGetId p s
  | .provision p vpp => Sys2Proof.Machine.execProvision p vpp s
  | .deploy p vpp => Sys2Proof.Machine.execDeploy p vpp s
  | .svnCommit p vpp => Sys2Proof.Machine.execSvnCommit p vpp s
  | .debugClose p => Sys2Proof.Machine.execDebugClose p s
  | .secDone => Sys2Proof.Machine.execSecDone s
  | .fuseBurnDone ok => Sys2Proof.Machine.execFuseBurnDone ok s
  | .secWatchdog => Sys2Proof.Machine.execSecWatchdog s
  | .jtagInstruction op => Sys2Proof.Machine.execJtagInstruction op s
  | .dapAccess acc => Sys2Proof.Machine.execDapAccess acc s
  | .pwrRun wake => Sys2Proof.Machine.execPwrRun wake s
  | .pwrHold wake => Sys2Proof.Machine.execPwrHold wake s
  | .pwrDoze wake => Sys2Proof.Machine.execPwrDoze wake s
  | .pwrOff wake => Sys2Proof.Machine.execPwrOff wake s
  | .powerDrained => Sys2Proof.Machine.execPowerDrained s
  | .powerDrainTimeout => Sys2Proof.Machine.execPowerDrainTimeout s
  | .dozeMemRestored => Sys2Proof.Machine.execDozeMemRestored s
  | .dozeImageChecked obj => Sys2Proof.Machine.execDozeImageChecked obj s
  | .wakeN => Sys2Proof.Machine.execWakeN s
  | .thmSample l => Sys2Proof.Machine.execThmSample l s
  | .sensorTimeout n => Sys2Proof.Machine.execSensorTimeout n s
  | .graceExpiry => Sys2Proof.Machine.execGraceExpiry s
  | .thmStepTimer => Sys2Proof.Machine.execThmStepTimer s
  | .thermalRestart => Sys2Proof.Machine.execThermalRestart s
  | .trimWalkStep => Sys2Proof.Machine.execTrimWalkStep s
  | .trimTargetWrite v => Sys2Proof.Machine.execTrimTargetWrite v s
  | .calBgr vref => Sys2Proof.Machine.execCalBgr vref s
  | .calXo => Sys2Proof.Machine.execCalXo s
  | .calTs arg => Sys2Proof.Machine.execCalTs arg s
  | .calLane arg => Sys2Proof.Machine.execCalLane arg s
  | .calPll arg => Sys2Proof.Machine.execCalPll arg s
  | .calAbort => Sys2Proof.Machine.execCalAbort s
  | .xoRound mean => Sys2Proof.Machine.execXoRound mean s
  | .calConverged codes => Sys2Proof.Machine.execCalConverged codes s
  | .calRoutineTimeout => Sys2Proof.Machine.execCalRoutineTimeout s
  | .calPrecondLost => Sys2Proof.Machine.execCalPrecondLost s
  | .calExport p => Sys2Proof.Machine.execCalExport p s
  | .calImport p readBack => Sys2Proof.Machine.execCalImport p readBack s
  | .calSave p readBack => Sys2Proof.Machine.execCalSave p readBack s
  | .userRead p => Sys2Proof.Machine.execUserRead p s
  | .userWrite p readBack => Sys2Proof.Machine.execUserWrite p readBack s
  | .powerOn => Sys2Proof.Machine.execPowerOn s
  | .resetN => Sys2Proof.Machine.execResetN s
  | .corePgRise => Sys2Proof.Machine.execCorePgRise s
  | .corePgTimeout => Sys2Proof.Machine.execCorePgTimeout s
  | .coreResetRelease => Sys2Proof.Machine.execCoreResetRelease s
  | .corePgLoss => Sys2Proof.Machine.execCorePgLoss s
  | .corePgRetry => Sys2Proof.Machine.execCorePgRetry s
  | .rstDevWarm => Sys2Proof.Machine.execRstDevWarm s
  | .rodHoldSet rod => Sys2Proof.Machine.execRodHoldSet rod s
  | .rodHoldClear rod => Sys2Proof.Machine.execRodHoldClear rod s
  | .rodResetRelease rod => Sys2Proof.Machine.execRodResetRelease rod s
  | .rodReady rod => Sys2Proof.Machine.execRodReady rod s
  | .rodProbe silent => Sys2Proof.Machine.execRodProbe silent s
  | .regParity rod => Sys2Proof.Machine.execRegParity rod s
  | .xoLoss => Sys2Proof.Machine.execXoLoss s
  | .pcieRefLoss => Sys2Proof.Machine.execPcieRefLoss s
  | .ethRefLoss => Sys2Proof.Machine.execEthRefLoss s
  | .refBack which => Sys2Proof.Machine.execRefBack which s
  | .bootStart => Sys2Proof.Machine.execBootStart s
  | .flashDirRead dir => Sys2Proof.Machine.execFlashDirRead dir s
  | .fwGo => Sys2Proof.Machine.execFwGo s
  | .imgGo => Sys2Proof.Machine.execImgGo s
  | .fwReadDone obj => Sys2Proof.Machine.execFwReadDone obj s
  | .imgReadDone obj => Sys2Proof.Machine.execImgReadDone obj s
  | .imgUnpackDone => Sys2Proof.Machine.execImgUnpackDone s
  | .imgCheckDone => Sys2Proof.Machine.execImgCheckDone s
  | .memTrainDone found bad => Sys2Proof.Machine.execMemTrainDone found bad s
  | .bootReady => Sys2Proof.Machine.execBootReady s
  | .schedulingDecision ch errs => Sys2Proof.Machine.execSchedulingDecision ch errs s
  | .ptpEventMessageTx m req frame => Sys2Proof.Machine.execPtpEventMessageTx m req frame s
  | .vddAonLoss => Sys2Proof.Machine.execVddAonLoss s
  | .aonLeavesReset => Sys2Proof.Machine.execAonLeavesReset s
  | .coreEnRetry => Sys2Proof.Machine.execCoreEnRetry s

end Sys2Proof.Machine
end

