-- ==== Sys2Proof/Machine/Step.lean ====
section
/-!
DEFINITION. A step of the device: the command at the front of the queue, or a nanosecond that passes (notes/assumptions/9.md).
-/

namespace Sys2Proof.Machine

/-- Take the command at the front of the queue; on an empty queue a nanosecond of Tally and of the timers passes. -/
def step (s : State) : Host.Outcome State Fault Refusal :=
  match s.pending with
  | [] => .next s.tallyCycle
  | c :: rest => exec c { s with pending := rest }

/-- The state with the command that a word spells at the front of its queue; no word spells one. -/
def State.withFetchWord (s : State) (nbits w : Nat) : State :=
  match decodeTableWord nbits w with
  | some c => { s with pending := c :: s.pending }
  | none => s

end Sys2Proof.Machine
end

