-- ==== Sys2Proof/Safety.lean ====
section
/-!
DEFINITION. What counts as a safe run: every state has its stores in canonical form. With it the words in which the statements
speak of a state: which rods a command reaches, which event sources are raised, what a command leaves as it was.
-/

namespace Sys2Proof.Safety

open Sys2Proof.Machine

/-- The register stores: keys rise strictly. -/
def regsOk (m : List (Key × Nat)) : Bool := mapSorted keyLt m

/-- The sparse stores of the device are in canonical form: registers, the Tray, DRAM and the keep store. -/
def storesOk (s : State) : Bool := regsOk s.regs && regsOk s.inf && Bytes.wf s.tray && Bytes.wf s.dram && Bytes.wf s.keep

/-- A step answers a next state. -/
def goesOn (s : State) : Prop := ∃ t, step s = .next t

/-- A host command reaches the rod: no device reset holds it off, and its register blocks answer (spec/17 R412, spec/18 R452). -/
abbrev reaches (s : State) (rod : Nat) : Prop := s.on I.DEV = false ∧ s.blockOpen rod = true

/-- A host command reaches a bead's registers: its rod answers, and the bead is strung (spec/02 R47). -/
abbrev reachesBead (s : State) (rod bead : Nat) : Prop := reaches s rod ∧ s.strg.strungBead rod bead = true

/-- An event source's bit is set (spec/17 R425). -/
abbrev isRaised (s : State) (e : E.Src) : Prop := s.on (R.EVT_STAT e.1 e.2) = true

/-- One of the fields of a list. -/
def among (l : List Fld) (f : Fld) : Prop := f.key ∈ l.map Fld.key

/-- A field of the same block and number as one of a list, at any instance. -/
def kindred (l : List Fld) (f : Fld) : Prop := (f.rod, f.id) ∈ l.map (fun g => (g.rod, g.id))

/-- The fields of the sources of a list. -/
def sources (l : List E.Src) : List Fld := l.map (fun e => R.EVT_STAT e.1 e.2)

/-- Every register field that `p` does not pick holds its value, and its value in force. -/
def keeps (p : Fld → Prop) (s t : State) : Prop := ∀ f : Fld, ¬ p f → t.get f = s.get f ∧ t.inForce f = s.inForce f

/-- The fields that an access to a retired rod writes (spec/17 R412). -/
def retireFields : List Fld := [R.HEP_STAT_RETIRED, R.HEP_STAT_RETIRED_CNT] ++ sources [E.hepRetired]

/-- The fields that a rejected write of a block writes (spec/22 R504, R509). -/
def rangeFields (rod : Nat) : List Fld := [R.WR_RANGE_WR rod, R.WR_RANGE_ADDR rod, R.WR_RANGE_CNT rod] ++ sources [E.wrRange]

/-- The fields that the loss of a receive lane of sensor port `p` writes (spec/04 R109, R112). -/
def lostFields (p : Nat) : List Fld :=
  R.LINK_STAT_STATE p :: (List.range 32).flatMap (fun i => [R.LH_BAD p i, R.LH_REASON p i]) ++ sources [E.laneBad p]

/-- The fields that record a denied or erroneous Tray access (spec/01 R22, R24). -/
def trayFields : List Fld :=
  [R.TRAY_ACC_DENIED, R.TRAY_ACC_PORT, R.TRAY_ACC_WR, R.TRAY_ACC_GRAN, R.TRAY_ACC_CNT, R.TRAY_ECC_UNCORR, R.TRAY_ECC_UNC_GRAN] ++
    sources [E.trayDenied, E.trayUncorr]

/-- The fields that record a corrected word of the Tray (spec/01 R24). -/
def corrFields : List Fld := [R.TRAY_ECC_CORR, R.TRAY_ECC_CORR_CNT] ++ sources [E.trayCorr]

/-- Every field that `p` does not pick holds its value; its value in force too, but for the blocks of `rods`, whose staged sets the
command may bring into force (spec/22 R507). -/
def keepsBut (p : Fld → Prop) (rods : List Nat) (s t : State) : Prop :=
  ∀ f : Fld, ¬ p f → t.get f = s.get f ∧ (f.rod ∉ rods → t.inForce f = s.inForce f)

/-- A field of the list, or one of the block and number of a field of the second list. -/
def either (l k : List Fld) (f : Fld) : Prop := among l f ∨ kindred k f

/-- A field of one of the blocks, or one of the list. -/
def inBlocks (rods : List Nat) (l : List Fld) (f : Fld) : Prop := f.rod ∈ rods ∨ among l f

/-- A field of one of the blocks, or of the block and number of one of the list. -/
def inBlocksKin (rods : List Nat) (k : List Fld) (f : Fld) : Prop := f.rod ∈ rods ∨ kindred k f

/-- The fields that a carry-log record of a rod writes where it finds no place (spec/17 R433). -/
def recordFields (rod : Nat) : List Fld :=
  [I.CLOG_DROPPED rod, R.CLOG_STAT_LOST, R.CLOG_STAT_LOST_CNT] ++ sources [E.clogLost]

/-- The fields of a commit point of a block: the requests, and the record of a rejected set (spec/22 R507, R509). -/
def commitFields (rod : Nat) : List Fld :=
  [R.COMMIT_PEND rod, R.COMMIT_BAD_BAD rod, R.COMMIT_BAD_RULE rod, R.COMMIT_BAD_DOMAIN rod, R.COMMIT_BAD_CNT rod] ++
    sources [E.commitReject]

/-- The fields that a service writes that answers pair `p` (spec/17 R418 to R423). -/
def replyFields (p : Nat) : List Fld :=
  [2 * p, 2 * p + 1].flatMap (fun m => [R.MB_EPOCH_TX_EPOCH m, R.MB_STAT_FULL m, R.MB_STAT_DIRTY m, R.MB_STAT_WAIT_ACK m,
    R.MB_STAT_COLLIDE m, R.MB_STAT_SEQ m, R.MB_STAT_LEN m, R.MB_CTRL_LEN m, R.MB_STAT_CROSS m] ++
    (List.range 16).map (R.MB_DATA_D m)) ++
    sources [E.mbTaken p, E.mbPosted p, E.mbCollide, E.mbCross]

/-- The fields that correction, erasure and the steps of a channel write (spec/15 R388 to R396). -/
def memFields (ch : Nat) : List Fld :=
  [I.CH_DOWN ch, I.CH_FORCE ch, I.CH_CEWIN ch, R.CH_STAT_SP_PEND ch, R.CH_STAT_PEND ch, R.CH_STAT_ERASED ch,
    R.CH_STAT_ERASED_DEV ch, R.CH_EVT_CE ch, R.CH_EVT_UE ch, R.CH_EVT_UE_CNT ch, R.CH_EVT_CE_RATE ch, R.CH_EVT_ERASE ch,
    R.CH_EVT_NO_STEP ch, R.CH_ERR_INFO_DEV ch, R.CH_ERR_ADDR_CW ch, R.CH_CE_CNT_CNT ch, R.CH_ERR_INFO_RMW_CNT ch,
    R.CH_EVT_RMW_POISON ch] ++ (List.range 64).flatMap (fun i => [I.CH_DEVCNT ch i]) ++
    sources [E.memUe ch, E.memNoStep ch, E.memCeRate ch, E.memErase ch]

/-- The fields of a DMA engine's jobs (spec/16 R405 to R407). -/
def dmaFields (d : Nat) : List Fld :=
  [R.DMA_EVT_FIRST d, R.DMA_EVT_ERR_CNT d, R.DMA_EVT_ERR d, R.DMA_CFG_HEAD d] ++ sources [E.dmaErr d, E.dmaDone d]

/-- The fields of a calibration routine's end (spec/20 R475, R476). -/
def calFields : List Fld :=
  [R.CAL_STAT_STATE, R.CAL_STAT_RESULT, R.CAL_STAT_ROUTINE, R.CAL_EVT_CAL_TIMEOUT, R.CAL_EVT_TO_CNT, R.CAL_EVT_ROUTINE,
    R.CAL_EVT_ABANDON] ++ sources [E.calDone, E.calAbandon, E.calTimeout]

/-- The fields of a power state's change (spec/18 R461 to R464). -/
def powerFields : List Fld := [I.PWR_MASK, I.PWR_T, I.PWR_WAIT, R.PWR_STAT_STATE, R.PWR_STAT_TARGET] ++ sources [E.pwrDone]

/-- The records of a service of SEC (spec/18 R457, R459). -/
def secFields : List Fld := [R.SEC_OP_CODE, R.SEC_OP_SERVICE, R.SEC_OP_STATE] ++ sources [E.secDone]

/-- The fields of encoders and streams that a picture's start or end may write, one of each kind (spec/09). -/
def encFields : List Fld :=
  [R.ENC_EVT_MISS_CNT 0 0, R.ENC_EVT_LATE 0 0, R.ENC_EVT_REP_CNT 0 0, R.ENC_EVT_VEC_MISS 0 0, R.ENC_STAT_STREAM 0 0,
    R.ENC_STAT_STATE 0 0, R.ENC_STAT_EFFORT 0 0, R.SCHED_BAD_BAD 0, R.SCHED_BAD_STREAM 0, R.SCHED_BAD_RULE 0,
    R.ENC_EVT_MISS_CNT 1 0, R.ENC_EVT_LATE 1 0, R.ENC_EVT_REP_CNT 1 0, R.ENC_EVT_VEC_MISS 1 0, R.ENC_STAT_STREAM 1 0,
    R.ENC_STAT_STATE 1 0, R.ENC_STAT_EFFORT 1 0, R.SCHED_BAD_BAD 1, R.SCHED_BAD_STREAM 1, R.SCHED_BAD_RULE 1]

/-- The events of encoders and streams, and of what their commits raise. -/
def encSources : List Fld :=
  sources ((List.range 2).flatMap (fun r => E.strmBad r :: (List.range 4).flatMap (fun k =>
    [E.encBudget r k, E.encVecMiss r k, E.encRepeat r k, E.encCut r k, E.encFlat r k])))

/-- The fields of a step of the Tally of the clock's users (spec/05 R127, R137, spec/13 R336). -/
def stepFields : List Fld :=
  [I.REF_LAST, I.REF_EDGE, R.TLY_CMD_STEP_EV, R.REF_STAT_REPHASE, R.PWR_STAT_STATE, R.PWR_STAT_TARGET] ++
    (List.range 2).flatMap (fun p => [I.EXS_PREV p, I.EXS_SLOT p]) ++
    (List.range 16).flatMap (fun n => [I.TRG_PIN n, I.TRG_T n, R.TRG_CTL_ARMED n, R.TRG_STAT_FIRED n, R.TRG_STAT_LATE n]) ++
    sources ([E.refRephase, E.tallyStep, E.trgLate] ++ (List.range 16).map E.trgFire)

/-- The fields that map sensor port `p`'s logical lanes (spec/04 R110, R112). -/
def mapFields (p : Nat) : List Fld :=
  [R.SPARE_CTL_SPARE0_LOG p, R.SPARE_CTL_SPARE1_LOG p] ++
    (List.range 8).flatMap (fun j => (List.range 4).flatMap (fun i => [R.LMAP_V p j i, R.LMAP_PHY p j i]))

/-- The errors that any packet of sensor port `p` may record (spec/04 R113, R117). -/
def packetErrors (p : Nat) : List Fld :=
  [R.LINK_ERR_HCRC p, R.LINK_ERR_PCRC p, R.LINK_ERR_LEN p, R.LINK_ERR_LOST_CNT p] ++ sources [E.linkErr p]

/-- The fields of block 0 that the start, the arrival and the close of a source's frame write (spec/03). -/
def pictureFields : List Fld :=
  [R.FTAG_LAST_TAG, I.PIC_NEXT, I.PIC_LASTBUF, I.STS_NEXT, R.PIC_STAT_CNT, R.PIC_STAT_NOBUF, R.SUBST_STAT_CONC_CNT] ++ sources [E.picNobuf] ++
    trayFields ++ [R.CLOG_STAT_LOST, R.CLOG_STAT_LOST_CNT] ++ sources [E.clogLost] ++
    (List.range 16).map I.CLOG_DROPPED ++ sources [E.commitReject]

/-- Every byte of the Tray that lies in a granule no rod of the list may write reads as before (spec/01 R22). -/
def trayOf (rods : List Nat) (s t : State) : Prop :=
  ∀ a, (∀ r ∈ rods, s.granted r (a / granBytes) true = false) → rdByte t.tray a = rdByte s.tray a

/-- Every byte outside `n` bytes from `a` reads as before: of the Tray, of DRAM, of the keep store. -/
def trayOutside (a n : Nat) (s t : State) : Prop := ∀ x, x < a ∨ a + n ≤ x → rdByte t.tray x = rdByte s.tray x
def dramOutside (a n : Nat) (s t : State) : Prop := ∀ x, x < a ∨ a + n ≤ x → rdByte t.dram x = rdByte s.dram x
def keepOutside (a n : Nat) (s t : State) : Prop := ∀ x, x < a ∨ a + n ≤ x → rdByte t.keep x = rdByte s.keep x

/-- Every byte of DRAM outside the regions of the list reads as before (spec/15 R371). -/
def dramOf (l : List Nat) (s t : State) : Prop :=
  ∀ a, (∀ r ∈ l, ∀ off, (s.regionAddr r off).map (fun p => lin p.1 p.2) ≠ some a) → rdByte t.dram a = rdByte s.dram a

/-- The fields of substitution (spec/06 R169 to R172), but for those of blocks 16 and 18. -/
def substFields : List Fld :=
  [R.SUBST_STAT_ACTIVE, R.SUBST_STAT_STRIPE, R.SUBST_STAT_FROM, R.SUBST_STAT_SUB_EV, R.SUBST_STAT_LOST, R.SUBST_STAT_SPARE_LOST,
    R.SUBST_STAT_CONC_CNT, R.SUBST_TAG_TAG, I.SPARE_BAD, I.SUBST_WAIT, I.SUBST_WTAG] ++ (List.range 4).map I.STRIPE_OUT ++ sources [E.stripeSub, E.stripeLost, E.spareLost, E.commitReject] ++
    recordFields 8 ++ recordFields 9 ++ trayFields

/-- The fields of the lanes that start or stop with a power state (spec/03 R77, spec/18 R452). -/
def laneFields : List Fld :=
  [0, 1, 10, 11, 12].flatMap (fun r => (List.range (laneCount r)).flatMap (fun l =>
    R.LN_STAT_STATE r l :: laneFresh r l))

/-- The fields outside the blocks of encoders, audio and UTL that a drain's end or a change of power state writes (spec/02 R71, spec/18
R453). -/
def resumeFields : List Fld :=
  powerFields ++ laneFields ++ (List.range 16).flatMap (fun r => [I.GATED r, I.PROXY r]) ++ trayFields ++ recordFields 8 ++
    recordFields 9 ++ recordFields 15 ++ sources [E.commitReject]

/-- The fields of the agent `a`'s reset (spec/17 R418, R421). -/
def agentFields (a : Nat) : List Fld :=
  I.AGENT_EPOCH a :: (List.range 32).flatMap (fun m =>
    if mbReceiver m = a then [R.MB_STAT_RX_RESET_SEEN m]
    else if mbSender m = a then R.MB_CTRL_LEN m :: (List.range 16).map (R.MB_DATA_D m) else []) ++ sources [E.mbRxReset]

/-- The fields that the end of SEC's operation writes: what it shows, and the reply where a pair waits for it (spec/18 R457). -/
def opFields (s : State) : List Fld := secFields ++ (s.sec.op.toList.flatMap (fun o => o.pair.toList)).flatMap replyFields

/-- The fields that a token writes (spec/18 R441, R446). -/
def tokenFields (src : Option (Fin 8)) : List Fld :=
  [I.DEBUG, R.SEC_EVT_TOKEN_BAD] ++ secFields ++ trayFields ++ src.toList.flatMap (fun p => replyFields p) ++
    sources [E.secDebugClose, E.secDebugOpen, E.secTokenBad, E.secTokenOk]

/-- The fuses are as before, but for the one bit whose burn was cut (spec/18 R435). -/
def fusesButCut (s t : State) : Prop :=
  t.fuses = s.fuses ∨ ∃ o e rest, s.sec.op = some o ∧ o.burns = e :: rest ∧ t.fuses = s.fuses.burn e.1 e.2

/-- Words of the request that waits for pair `p`. -/
def asked (s : State) (p i : Nat) : Nat := (s.mbWords (2 * p)).getD i 0

/-- Every byte of DRAM outside the codewords of the queued writes reads as before. -/
def dramQueued (s t : State) : Prop :=
  ∀ a, (∀ e ∈ s.wrQ, a / 128 ≠ lin e.ch (e.cw * 128) / 128) → rdByte t.dram a = rdByte s.dram a

/-- What the voter counts (spec/19 R461). -/
def voterFields : List Fld :=
  (List.range 3).flatMap (fun v => [I.V_UP v, I.V_DN v, I.V_HOT v, I.V_BROKEN v]) ++
    (I.V_VOTES :: (List.range 24).map (fun i => I.SENS_STUCK i))

/-- A reset of a kind leaves every field that it keeps, but for those of the list (spec/21 R482 to R485). -/
def survives (kind : DevKind) (l : List Fld) (s t : State) : Prop :=
  ∀ f : Fld, keptDev kind f.key = true → ¬ among l f → t.get f = s.get f

/-- No patch is between GO and the end of its drain (spec/02 R69). -/
abbrev unpatched (s : State) : Prop := ¬ (1 ≤ s.get R.PATCH_STAT_STATE ∧ s.get R.PATCH_STAT_STATE ≤ 3)

/-- What a state holds beyond its register fields, what leaves the device, and the traces of an event (spec/17 R426, R428). -/
def beyond (s : State) : State := { s with regs := [], inf := [], fhPend := [], pba := [], out := [] }

/-- What a state holds beyond that, the records of jobs (spec/17 R430 to R433) and the counter of free values. -/
def deepBeyond (s : State) : State := { beyond s with jobs := [], clogQ := [], freeCtr := 0 }

/-- Every byte of the Tray, of DRAM and of the keep store reads as before. -/
def sameBytes (s t : State) : Prop :=
  ∀ a, rdByte t.tray a = rdByte s.tray a ∧ rdByte t.dram a = rdByte s.dram a ∧ rdByte t.keep a = rdByte s.keep a

end Sys2Proof.Safety
end

