-- ==== Sys2Proof/Certificates/Slice0/Obligations.lean ====
section
/-!
DEFINITION. The statements about the device that are to be proved.
-/

open Sys2Proof Sys2Proof.Machine

section

set_option linter.unusedVariables false

/-- For every command c and state s, a step at s with c at the front of its queue answers what exec answers for c on s
with the rest of the queue. The queue is the form of this model and no state of the spec's; commands come to the
device as Beam transactions, host accesses and events. (spec R17, R410) -/
def Obligations.StepRunsFrontCommand : Prop :=
  (∀ (c : Instr) (rest : List Instr) (s : State), s.pending = c :: rest → step s = exec c { s with pending := rest })

/-- With an empty queue a step advances the timers' clock by one nanosecond and, unless the core is held in reset or
NET is strung but not powered, Tally by 2^32 + ADJ units of 2^-32 ns, where ADJ is the signed value of TLY.RATE
(R323). PRBS checkers that are on (R94) write SYNC, ERR and PRBS_ERR of their lanes with its event and draw free
values; nothing else changes, and with every checker off nothing but the two clocks does. That the step on an empty
queue stands for a nanosecond is the model's choice (notes/assumptions/9.md). (spec R94, R323, R327) -/
def Obligations.IdleStepAdvancesTime : Prop :=
  (∀ s : State, s.pending = [] →
    ∃ t : State, step s = .next t ∧ t.up = s.up + 2 ^ 32 ∧
      Safety.keeps (fun f => f.id ∈ [(R.LN_PRBS_SYNC 0 0).id, (R.LN_PRBS_ERR 0 0).id, (R.LN_EVT_PRBS_ERR 0 0).id,
        (R.EVT_STAT 0 0).id]) s t ∧
      Safety.beyond t = { Safety.beyond s with now := t.now, up := t.up, freeCtr := t.freeCtr } ∧
      (Safety.regsOk s.regs = true → (∀ rod l : Nat, s.get (R.LN_PRBS_CHK_EN rod l) = 0) →
        t = { s with now := t.now, up := t.up }) ∧
      (s.on I.DEV = false → s.strung = false ∨ s.strg.powered 12 = true →
        t.now = ((s.now : Int) + (2 ^ 32 + (if s.get R.TLY_RATE_ADJ < 2 ^ 31 then (s.get R.TLY_RATE_ADJ : Int)
          else (s.get R.TLY_RATE_ADJ : Int) - 2 ^ 32))).toNat) ∧
      (s.on I.DEV = true ∨ (s.strung = true ∧ s.strg.powered 12 = false) → t.now = s.now))

/-- Every command answers a next state in every state, since the spec gives each an effect, and leaves the queue of
waiting commands as it is handed over. So a step answers a next state in every state, with the front command gone from
the queue. (spec R3, R410, R502) -/
def Obligations.EveryCommandGoesOn : Prop :=
  (∀ (c : Instr) (s : State), ∃ t : State, exec c s = .next t ∧ t.pending = s.pending) ∧
  (∀ s : State, Safety.goesOn s) ∧
  (∀ s t : State, step s = .next t → t.pending = s.pending.tail)

/-- After power-on reset every register field holds the value of the Reset column, staged and in force, shown with
values written out for fields of every block; no Tray or DRAM byte is listed, no transaction, job or frame is open,
and no command waits. A value that the spec's Reset column does not state (a field marked as coming from fuses or
straps, a model's own counter) is the model's choice, named in the assumption log. (spec R9, R22, R81, R118, R452,
R471, R483) -/
def Obligations.ResetValues : Prop :=
  (∀ f : Fld, State.reset.get f = f.rst ∧ State.reset.inForce f = f.rst) ∧
  (State.reset.pending = [] ∧ State.reset.tray = [] ∧ State.reset.dram = [] ∧ State.reset.txns = [] ∧ State.reset.jobs = [] ∧
    State.reset.frames = [] ∧ State.reset.strung = false) ∧
  (∀ e ∈ [(R.QLD_CFG_SCALE, 0x3FFF), (R.QLD_BLACK, 0x100), (R.SRCH_CFG_RANGE3, 16), (R.LINK_CTL_WIDTH 1, 0x4000),
      (R.SPARE_CTL_BIP_TH 0, 16), (R.FRM_CFG_LINES 0, 8640), (R.EXS_RATE_NUM 1, 60000), (R.JOB_WD_LIMIT 4, 500),
      (R.BLK_LEVEL_B 2 3, 0x1000), (R.DCG_RATIO_G 0, 0x100000), (R.TNR_CFG_K_MAX 1, 192), (R.LUT_CFG_SHAPER 3, 1),
      (R.ENC_CFG_EN 0 5, 1), (R.DEC_BUF_NBUF 1, 8), (R.REC_BUDGET_KIB, 8000), (R.NVQ_CFG_CMD_TO 3, 500),
      (R.LAYER_CTL_GALPHA 1 2, 255), (R.CANVAS_FORMAT, 5), (R.TG_PCLK_NUM 0, 148500000), (R.DP_CFG_MAX_LANES 2, 2),
      (R.MAC_CFG_MAX_FRAME 1, 9216), (R.PTP_CFG_DOMAIN, 127), (R.TRG_CTL_PIN 15, 63), (R.AP_RATE_FS 7, 48000),
      (R.AS_CFG_NCH 0, 1), (R.CH_QOS_WR_HI 7, 48), (R.CH_ERR_INFO_DEV 0, 15), (R.PANIC_CFG_EN, 0x7FFF), (R.SCRUB_HOURS, 24),
      (R.DFL_RING_DEPTH 2, 16), (R.THM_THR_WARN, 95), (R.THM_THR_HOT, 100), (R.RST_AUTO_LIMIT, 3), (R.PWR_STAT_STATE, 1),
      (R.CLOG_SEQ_NEXT_SEQ, 1), (R.LOAD_STAT_RECORD, 0xFFFF), (R.LN_TXFIR_MAIN 1 4, 64), (R.MB_CTRL_LEN 31, 8),
      (R.COMMIT_PEND 7, 0), (R.EVT_RT_VECTOR 3 9, 255)],
    State.reset.get e.1 = e.2)

/-- At reset the register stores are sorted without repeats, and so are the bytes of the Tray, of DRAM and of the keep
store, none of them listed with the value that an unlisted byte reads as. That form is this model's; the spec's
sections cited give the stores. (spec R9, R22, R371, R471) -/
def Obligations.StoresCanonicalAtReset : Prop :=
  Safety.storesOk State.reset = true

/-- If the register stores, the Tray, DRAM and the keep store of a state are in canonical form (keys strictly rising,
no listed byte equal to what an unlisted byte reads as), and a step answers a next state, then they are in canonical
form in that state too: for every command, resets, commits and power states among them. Equal contents are then equal
data. (spec R22, R371, R376, R435, R471, R482, R487, R505, R507) -/
def Obligations.StepKeepsStoresCanonical : Prop :=
  (∀ s t : State, Safety.storesOk s = true → step s = .next t → Safety.storesOk t = true)

/-- Whatever the command, a fuse bit that is burnt before a step is burnt after it: of key hashes, revocations,
lifecycle and anti-rollback counters, as FUSE.WORD shows them. So the lifecycle never goes back, and no counter of
either root falls. (spec R434, R435, R436, R439, R443) -/
def Obligations.FusesOnlyRise : Prop :=
  (∀ s t : State, step s = .next t →
    (∀ k b : Nat, bit (s.fuses.word k) b = true → bit (t.fuses.word k) b = true) ∧
    s.fuses.lifecycle ≤ t.fuses.lifecycle ∧
    svnOf s.fuses.lsvn ≤ svnOf t.fuses.lsvn ∧ svnOf s.fuses.csvn ≤ svnOf t.fuses.csvn)

/-- Of the 32 MiB of BAR0, the offset n × 0x0010_0000 + x with n below 16 and x below 1 MiB lies in the block of rod
n; the 8 KiB from 0x0100_0000 are the mailboxes and the 192 bytes from 0x0100_2000 the doorbells, which form one
window; the 1 MiB from 0x0110_0000 is the AON block; every other offset is unmapped. (spec R499) -/
def Obligations.BarZeroLayout : Prop :=
  (∀ n x : Nat, n < 16 → x < 0x100000 → (placeOf (n * 0x100000 + x)).map (fun p => p.blk) = some n) ∧
  (∀ x : Nat, x < 0x2000 → placeOf (0x1000000 + x) = some ⟨17, x, false⟩) ∧
  (∀ x : Nat, x < 0xC0 → placeOf (0x1002000 + x) = some ⟨17, 0x2000 + x, false⟩) ∧
  (∀ m i : Nat, m < 32 → i < 16 → ((wordHits 17 (0x100 * m + 4 * i)).map (fun h => (h.fld 17).key)) = [(R.MB_DATA_D m i).key]) ∧
  (∀ d i : Nat, d < 6 → i < 2 → ((wordHits 17 (0x2000 + 32 * d + 4 * i)).map (fun h => (h.fld 17).key)) = [(R.DB_SET_B d i).key]) ∧
  (∀ x : Nat, x < 0x100000 → (placeOf (0x1100000 + x)).map (fun p => p.blk) = some 16) ∧
  (∀ a : Nat, (0x10020C0 ≤ a ∧ a < 0x1100000) ∨ (0x1200000 ≤ a ∧ a < 0x2000000) → placeOf a = none)

/-- An aligned BAR0 offset is unmapped where it lies in no block, or where no field stands there and it belongs to
none of the arrays of CTL that hold no fields (the firmware digest, the MSI-X table and its pending bits, the mirror
of the fault history). It reads 0 and the read changes nothing; a four-byte write to it, while its block answers,
leaves the whole state as it was, so that it is no range violation. (spec R502) -/
def Obligations.UnmappedOffsets : Prop :=
  (∀ (a : Nat) (s : State), a % 4 = 0 →
    (placeOf a = none ∨ ∃ p : Place, placeOf a = some p ∧ wordHits p.blk p.off = [] ∧
      (p.blk = 0 → ¬ (0xC840 ≤ p.off ∧ p.off < 0xC870) ∧ ¬ (0xE000 ≤ p.off ∧ p.off < 0xE408) ∧ ¬ (0xF000 ≤ p.off ∧ p.off < 0x10000))) →
    s.readReg a = (0, s)) ∧
  (∀ (addr : BitVec 25) (v : BitVec 32) (s : State), addr.toNat % 4 = 0 → Safety.reaches s (regRod addr.toNat) →
    (placeOf addr.toNat = none ∨ ∃ p : Place, placeOf addr.toNat = some p ∧ wordHits p.blk p.off = [] ∧
      (p.blk = 0 → ¬ (0xC840 ≤ p.off ∧ p.off < 0xC870) ∧ ¬ (0xE000 ≤ p.off ∧ p.off < 0xE408) ∧ ¬ (0xF000 ≤ p.off ∧ p.off < 0x10000))) →
    exec (.registerWrite addr 4 v) s = .next s)

/-- In the block of a rod or of AON, a word none of whose fields is SH reads the same through its in-force alias,
0x8_0000 further on, with the same effect on the state. A four-byte write to the alias of a word that holds a field,
while its block answers and the bead whose registers stand there, if any, is strung, sets WR_RANGE of the block with
the first rejected address, raises REG_WR_RANGE and changes nothing else. (spec R501) -/
def Obligations.InForceAlias : Prop :=
  (∀ (a : Nat) (p : Place) (s : State), placeOf a = some p → p.ali = false → p.blk ≤ 16 →
    (∀ h ∈ wordHits p.blk p.off, isSh (h.fld p.blk).id = false) → s.readReg (a + 0x80000) = s.readReg a) ∧
  (∀ (addr : BitVec 25) (v : BitVec 32) (p : Place) (s : State), placeOf addr.toNat = some p → p.ali = true → addr.toNat % 4 = 0 →
    wordHits p.blk p.off ≠ [] → Safety.reaches s (regRod addr.toNat) → s.beadOpen p.blk p.off = true →
    ∃ t : State, exec (.registerWrite addr 4 v) s = .next t ∧
      t.get (R.WR_RANGE_WR p.blk) ≠ 0 ∧
      (s.on (R.WR_RANGE_WR p.blk) = false → t.get (R.WR_RANGE_ADDR p.blk) = addr.toNat % 2 ^ (R.WR_RANGE_ADDR p.blk).w) ∧
      Safety.isRaised t E.wrRange ∧
      Safety.keeps (Safety.among (Safety.rangeFields p.blk)) s t ∧ Safety.beyond t = Safety.beyond s)

/-- Each of these commands completes: exec answers a next state, for every state and operands that meet the conditions
named. (1) readRequest and writeRequest for Tray bytes inside the Tray, to port BP0 while CTL is not isolated, on the
epoch that BP0 holds of the source's rod, from a source port that has no such transaction open or in quarantine, where
the rod is granted every granule touched: the read, where no uncorrectable word is met, is answered OK with the bytes
of the Tray and leaves the Tray and DRAM as they were, and every register too, but for CORR of TRAY.ECC_STAT, which a
corrected word sets; the write stores its bytes and is answered OK. (2) reply with a status other than TIMEOUT, for an
open transaction of the rod it goes to, that rod not isolated, on the epoch that port holds of the answering rod or
with the status RETIRED: the transaction ends, with the reply's status and data. (3) streamFlit of a stream that the
stringing routes to its destination, whose rod is not isolated: the flit is delivered with its source, mark, frame tag
and data. (4) eventMessage, in every state: the port holds the epoch that it brings. (5) timeout of an open
transaction to port BP0 whose requester is no image rod: the transaction ends with TIMEOUT, which RST.BEAM records and
BEAM_TIMEOUT announces. (spec R17, R18, R19, R22, R24, R34, R490) -/
def Obligations.BeamCompletes : Prop :=
  (∀ (src dst : Fin 28) (epoch : BitVec 8) (txn : BitVec 10) (cls len : Fin 4) (addr : BeamAddr) (corrected upset : Bool) (a : Nat) (s : State),
      addr = .tray a →
      dst = 0 →
      s.txnOpen src txn.toNat = false →
      s.txnQuarantined src txn.toNat = false →
      s.isolated 0 = false →
      epoch.toNat = s.get (I.PEPOCH 0 (portRod src)) →
      upset = false →
      a + 64 * (len.val + 1) ≤ trayBytes →
      ∀ g ∈ granSpan a (64 * (len.val + 1)), s.granted (portRod src) g false = true →
      s.badWords a (64 * (len.val + 1)) = [] →
      ∃ t : State, exec (.readRequest src dst epoch txn cls len addr corrected upset) s = .next t ∧
        Out.beamReply src dst (s.epoch 0) txn.toNat 0 (s.trayRead a (64 * (len.val + 1))) ∈ t.out ∧
        t.tray = s.tray ∧ t.dram = s.dram ∧
        (corrected = false → t.regs = s.regs) ∧
        (corrected = true → t.get R.TRAY_ECC_CORR = 1)) ∧
  (∀ (src dst : Fin 28) (epoch : BitVec 8) (txn : BitVec 10) (cls : Fin 4) (addr : BeamAddr) (data : List Byte) (a : Nat) (s : State),
      addr = .tray a →
      dst = 0 →
      s.txnOpen src txn.toNat = false →
      s.txnQuarantined src txn.toNat = false →
      s.isolated 0 = false →
      epoch.toNat = s.get (I.PEPOCH 0 (portRod src)) →
      a + data.length ≤ trayBytes →
      ∀ g ∈ granSpan a data.length, s.granted (portRod src) g true = true →
      ∃ t : State, exec (.writeRequest src dst epoch txn cls addr data) s = .next t ∧
        t.tray = wrBytes s.tray a data ∧
        Out.beamReply src dst (s.epoch 0) txn.toNat 0 [] ∈ t.out) ∧
  (∀ (src dst : Fin 28) (epoch : BitVec 8) (txn : BitVec 10) (status : Fin 6) (data : List Byte) (u : Txn) (s : State),
      status.val ≠ 5 →
      s.txns.find? (fun x => decide (x.port = dst.val ∧ x.txn = txn.toNat)) = some u →
      s.isolated (portRod dst) = false →
      status.val = 1 ∨ epoch.toNat = s.get (I.PEPOCH dst (portRod src)) →
      ∃ t : State, exec (.reply src dst epoch txn status data) s = .next t ∧
        t.txns = s.txns.erase u ∧
        t.out = s.out ++ [Out.beamEnd dst txn.toNat status data] ∧
        t.regs = s.regs) ∧
  (∀ (stream : Fin 512) (dst : Fin 28) (mark : Fin 4) (tag : BitVec 32) (data : List Byte) (r : StreamRec) (s : State),
      s.strg.streams.find? (fun x => decide (x.stream = stream.val) && x.dst.contains dst.val) = some r →
      s.isolated (portRod dst) = false →
      ∃ t : State, exec (.streamFlit stream dst mark tag data) s = .next t ∧
        t.out = s.out ++ [Out.beamFlit stream r.src dst mark tag.toNat data] ∧
        t.flits = s.flits ∧
        t.regs = s.regs) ∧
  (∀ (port : Fin 28) (rod : Fin 16) (epoch : BitVec 8) (s : State),
      ∃ t : State, exec (.eventMessage port rod epoch) s = .next t ∧
        t.get (I.PEPOCH port rod) = epoch.toNat) ∧
  (∀ (port : Fin 28) (txn : BitVec 10) (u : Txn) (s : State),
      s.txns.find? (fun x => decide (x.port = port.val ∧ x.txn = txn.toNat)) = some u →
      u.dst = 0 →
      ¬ (2 ≤ portRod port ∧ portRod port ≤ 6) →
      ∃ t : State, exec (.timeout port txn) s = .next t ∧
        t.txns = s.txns.erase u ∧
        Out.beamEnd port txn.toNat 5 [] ∈ t.out ∧
        t.get R.RST_BEAM_TIMEOUT = 1 ∧
        Safety.isRaised t E.beamTimeout)

/-- Each clause is about a request whose source port has no such transaction open or in quarantine, and each
completes. A read request to BP0 for a register, CTL not isolated and the epoch the one held, is answered OK. A write
request to BP0 for the Tray by a rod without the grant is answered DENIED, stores nothing and is recorded in
TRAY.ACC_STAT (its port, the direction, the lowest granule denied, which is the model's choice of log 210); a read
request alike. A read request that meets an uncorrectable word is answered POISON and recorded in TRAY.ECC_STAT. A
read or write request that names nothing is answered DECODE. A request on an epoch other than the one that the port
holds of the source's rod is dropped and counted; one for an isolated rod is answered RETIRED by its proxy. A write
request for DRAM of one codeword that no queued write holds enters the write queue of its channel and is answered OK,
where the queue has room and the rod and the channel are not isolated. A reply (other than TIMEOUT) for which no
transaction is open is dropped and counted. A flit of a stream of the drop-newest policy for an isolated rod is
discarded and counted, with the stream of the first. (spec R17, R18, R20, R22, R24, R47, R50, R379, R488, R490) -/
def Obligations.BeamStatuses : Prop :=
  (∀ (src dst : Fin 28) (epoch : BitVec 8) (txn : BitVec 10) (cls len : Fin 4) (addr : BeamAddr) (corrected upset : Bool) (off : Nat) (s : State),
      addr = .reg off →
      dst = 0 →
      s.txnOpen src txn.toNat = false →
      s.txnQuarantined src txn.toNat = false →
      s.isolated 0 = false →
      epoch.toNat = s.get (I.PEPOCH 0 (portRod src)) →
      off < 0x100000 →
      ∃ t : State, exec (.readRequest src dst epoch txn cls len addr corrected upset) s = .next t ∧
        t.out.any (fun o => match o with | .beamReply p d e x st l => decide (p = src.val ∧ d = dst.val ∧ e = s.epoch 0 ∧ x = txn.toNat ∧ st = 0 ∧ l.length = 64 * (len.val + 1)) | _ => false) = true) ∧
  (∀ (src dst : Fin 28) (epoch : BitVec 8) (txn : BitVec 10) (cls : Fin 4) (addr : BeamAddr) (data : List Byte) (ch x : Nat) (region off : Nat) (s : State),
      addr = .dram region off →
      dst.val = 19 + ch →
      s.txnOpen src txn.toNat = false →
      s.txnQuarantined src txn.toNat = false →
      s.isolated (portRod dst) = false ∧ s.get (I.CH_PROXY ch) = 0 →
      epoch.toNat = s.get (I.PEPOCH dst (portRod src)) →
      s.regionAddr region off = some (ch, x) →
      ch < 8 →
      0 < data.length →
      x % 128 + data.length ≤ 128 →
      s.queuedWr ch (x / 128) = none →
      s.wrLen ch < classRoom cls →
      ∃ t : State, exec (.writeRequest src dst epoch txn cls addr data) s = .next t ∧
        t.wrQ = s.wrQ ++ [⟨ch, cls, s.get (I.CH_SEQ ch), s.up, x / 128, (List.range data.length).map (fun i => (x % 128 + i, data.getD i 0))⟩] ∧
        t.dram = s.dram ∧
        Out.beamReply src dst (s.epoch (portRod dst)) txn.toNat 0 [] ∈ t.out) ∧
  (∀ (src dst : Fin 28) (epoch : BitVec 8) (txn : BitVec 10) (cls len : Fin 4) (addr : BeamAddr) (corrected upset : Bool) (s : State),
      s.txnOpen src txn.toNat = false →
      s.txnQuarantined src txn.toNat = false →
      epoch.toNat ≠ s.get (I.PEPOCH dst (portRod src)) →
      ∃ t : State, exec (.readRequest src dst epoch txn cls len addr corrected upset) s = .next t ∧
        t.get R.RST_BEAM_STALE = 1 ∧
        Safety.isRaised t E.beamStale ∧
        t.tray = s.tray) ∧
  (∀ (src dst : Fin 28) (epoch : BitVec 8) (txn : BitVec 10) (cls : Fin 4) (addr : BeamAddr) (data : List Byte) (s : State),
      s.txnOpen src txn.toNat = false →
      s.txnQuarantined src txn.toNat = false →
      epoch.toNat ≠ s.get (I.PEPOCH dst (portRod src)) →
      ∃ t : State, exec (.writeRequest src dst epoch txn cls addr data) s = .next t ∧
        t.get R.RST_BEAM_STALE = 1 ∧
        Safety.isRaised t E.beamStale ∧
        t.tray = s.tray) ∧
  (∀ (src dst : Fin 28) (epoch : BitVec 8) (txn : BitVec 10) (cls len : Fin 4) (addr : BeamAddr) (corrected upset : Bool) (s : State),
      s.txnOpen src txn.toNat = false →
      s.txnQuarantined src txn.toNat = false →
      epoch.toNat = s.get (I.PEPOCH dst (portRod src)) →
      s.isolated (portRod dst) = true →
      ∃ t : State, exec (.readRequest src dst epoch txn cls len addr corrected upset) s = .next t ∧
        t.out = s.out ++ [Out.beamReply src dst (s.epoch (portRod dst)) txn.toNat 1 []] ∧
        t.regs = s.regs) ∧
  (∀ (src dst : Fin 28) (epoch : BitVec 8) (txn : BitVec 10) (cls : Fin 4) (addr : BeamAddr) (data : List Byte) (s : State),
      s.txnOpen src txn.toNat = false →
      s.txnQuarantined src txn.toNat = false →
      epoch.toNat = s.get (I.PEPOCH dst (portRod src)) →
      s.isolated (portRod dst) = true →
      ∃ t : State, exec (.writeRequest src dst epoch txn cls addr data) s = .next t ∧
        t.out = s.out ++ [Out.beamReply src dst (s.epoch (portRod dst)) txn.toNat 1 []] ∧
        t.regs = s.regs) ∧
  (∀ (src dst : Fin 28) (epoch : BitVec 8) (txn : BitVec 10) (cls len : Fin 4) (addr : BeamAddr) (corrected upset : Bool) (s : State),
      addr = .nothing →
      s.txnOpen src txn.toNat = false →
      s.txnQuarantined src txn.toNat = false →
      epoch.toNat = s.get (I.PEPOCH dst (portRod src)) →
      s.isolated (portRod dst) = false →
      ¬ (19 ≤ dst.val ∧ dst.val ≤ 26) →
      ∃ t : State, exec (.readRequest src dst epoch txn cls len addr corrected upset) s = .next t ∧
        t.out = s.out ++ [Out.beamReply src dst (s.epoch (portRod dst)) txn.toNat 4 []] ∧
        t.regs = s.regs) ∧
  (∀ (src dst : Fin 28) (epoch : BitVec 8) (txn : BitVec 10) (cls : Fin 4) (addr : BeamAddr) (data : List Byte) (s : State),
      addr = .nothing →
      s.txnOpen src txn.toNat = false →
      s.txnQuarantined src txn.toNat = false →
      epoch.toNat = s.get (I.PEPOCH dst (portRod src)) →
      s.isolated (portRod dst) = false →
      ¬ (19 ≤ dst.val ∧ dst.val ≤ 26) →
      ∃ t : State, exec (.writeRequest src dst epoch txn cls addr data) s = .next t ∧
        t.out = s.out ++ [Out.beamReply src dst (s.epoch (portRod dst)) txn.toNat 4 []] ∧
        t.regs = s.regs) ∧
  (∀ (src dst : Fin 28) (epoch : BitVec 8) (txn : BitVec 10) (cls len : Fin 4) (addr : BeamAddr) (corrected upset : Bool) (a g : Nat) (s : State),
      addr = .tray a →
      dst = 0 →
      s.txnOpen src txn.toNat = false →
      s.txnQuarantined src txn.toNat = false →
      s.isolated 0 = false →
      epoch.toNat = s.get (I.PEPOCH 0 (portRod src)) →
      a + 64 * (len.val + 1) ≤ trayBytes →
      (granSpan a (64 * (len.val + 1))).find? (fun g => !s.granted (portRod src) g false) = some g →
      ∃ t : State, exec (.readRequest src dst epoch txn cls len addr corrected upset) s = .next t ∧
        Out.beamReply src dst (s.epoch 0) txn.toNat 3 [] ∈ t.out ∧
        t.get R.TRAY_ACC_DENIED = 1 ∧
        (s.on R.TRAY_ACC_DENIED = false → t.get R.TRAY_ACC_PORT = src.val ∧ t.get R.TRAY_ACC_WR = 0 ∧ t.get R.TRAY_ACC_GRAN = g % 1024) ∧
        Safety.isRaised t E.trayDenied) ∧
  (∀ (src dst : Fin 28) (epoch : BitVec 8) (txn : BitVec 10) (cls : Fin 4) (addr : BeamAddr) (data : List Byte) (a g : Nat) (s : State),
      addr = .tray a →
      dst = 0 →
      s.txnOpen src txn.toNat = false →
      s.txnQuarantined src txn.toNat = false →
      s.isolated 0 = false →
      epoch.toNat = s.get (I.PEPOCH 0 (portRod src)) →
      a + data.length ≤ trayBytes →
      (granSpan a data.length).find? (fun g => !s.granted (portRod src) g true) = some g →
      ∃ t : State, exec (.writeRequest src dst epoch txn cls addr data) s = .next t ∧
        Out.beamReply src dst (s.epoch 0) txn.toNat 3 [] ∈ t.out ∧
        t.tray = s.tray ∧
        t.get R.TRAY_ACC_DENIED = 1 ∧
        (s.on R.TRAY_ACC_DENIED = false → t.get R.TRAY_ACC_PORT = src.val ∧ t.get R.TRAY_ACC_WR = 1 ∧ t.get R.TRAY_ACC_GRAN = g % 1024) ∧
        Safety.isRaised t E.trayDenied) ∧
  (∀ (src dst : Fin 28) (epoch : BitVec 8) (txn : BitVec 10) (cls len : Fin 4) (addr : BeamAddr) (corrected upset : Bool) (a w : Nat) (l : List Nat) (s : State),
      addr = .tray a →
      dst = 0 →
      s.txnOpen src txn.toNat = false →
      s.txnQuarantined src txn.toNat = false →
      s.isolated 0 = false →
      epoch.toNat = s.get (I.PEPOCH 0 (portRod src)) →
      upset = false →
      a + 64 * (len.val + 1) ≤ trayBytes →
      ∀ g ∈ granSpan a (64 * (len.val + 1)), s.granted (portRod src) g false = true →
      s.badWords a (64 * (len.val + 1)) = w :: l →
      ∃ t : State, exec (.readRequest src dst epoch txn cls len addr corrected upset) s = .next t ∧
        t.out.any (fun o => match o with | .beamReply p d _ x st _ => decide (p = src.val ∧ d = dst.val ∧ x = txn.toNat ∧ st = 2) | _ => false) = true ∧
        t.get R.TRAY_ECC_UNCORR = 1 ∧
        t.get R.TRAY_ECC_UNC_GRAN = w / 8192 % 1024 ∧
        Safety.isRaised t E.trayUncorr) ∧
  (∀ (src dst : Fin 28) (epoch : BitVec 8) (txn : BitVec 10) (status : Fin 6) (data : List Byte) (s : State),
      status.val ≠ 5 →
      ∀ x ∈ s.txns, ¬ (x.port = dst.val ∧ x.txn = txn.toNat) →
      ∃ t : State, exec (.reply src dst epoch txn status data) s = .next t ∧
        t.txns = s.txns ∧
        t.get R.RST_BEAM_STALE = 1 ∧
        Safety.isRaised t E.beamStale) ∧
  (∀ (stream : Fin 512) (dst : Fin 28) (mark : Fin 4) (tag : BitVec 32) (data : List Byte) (r : StreamRec) (s : State),
      s.strg.streams.find? (fun x => decide (x.stream = stream.val) && x.dst.contains dst.val) = some r →
      s.isolated (portRod dst) = true →
      r.policy = 1 →
      ∃ t : State, exec (.streamFlit stream dst mark tag data) s = .next t ∧
        t.flits = s.flits ∧
        t.get R.DROP_STAT_DROPPED = 1 ∧
        (s.on R.DROP_STAT_DROPPED = false → t.get R.DROP_STAT_STREAM = stream.val) ∧
        Safety.isRaised t E.strgDrop)

/-- Each of these commands completes, for every state in which the host reaches the block and every operand, under the
conditions named. (1) bar2Read and bar4Read of bytes inside the window, at least one, all in granules that are host-
visible and that CTL may read, where no particle upsets a word and none of the words is uncorrectable: the host gets
the bytes of the Tray, at the offset through BAR2 and from granule BAR4_GRAN up through BAR4; a corrected word is
counted and no register changes otherwise. (2) bar2Write and bar4Write of bytes inside the window to granules that are
host-visible, that CTL may write and that no patch locks: the bytes are stored there. (3) registerWrite of four
aligned bytes: to the word of BAR4_GRAN, a value up to 1008 is what it holds; to any word of MOT beyond the rod's
common registers, named directly and not through the in-force alias, whose bead is strung, whose fields are all RW and
whose new values the block accepts, each field takes its bits, staged, and what is in force of QLD and SRCH stays; a
word of QLD with SCALE 0 is rejected whole and recorded in WR_RANGE. An access of another size or alignment sets
HEP_STAT.SIZE_ERR. (4) commitReq of LNK, MOT, RRC, AUD or MEM leaves pending every domain of the rod whose unit can
reach its commit point; of MOT while no source is strung, its staged SCALE and GAIN_SEL of QLD, LAMBDA and RANGE3 of
SRCH, and GRAN and DEPTH of VST are in force at once and nothing stays pending. (5) evtStatClear of one of the six
words of a block clears each source whose bit is written 1, but DOORBELL, which agent 0's doorbells hold. (spec R22,
R24, R47, R410, R426, R502, R503, R504, R505, R506) -/
def Obligations.HostWindows : Prop :=
  (∀ (addr : BitVec 26) (len : BitVec 13) (corrected upset : Bool) (s : State),
      Safety.reaches s 0 →
      upset = false →
      0 < len.toNat →
      addr.toNat + len.toNat ≤ trayBytes →
      ∀ g ∈ granSpan addr.toNat len.toNat, s.hostMay g false = true →
      s.badWords addr.toNat len.toNat = [] →
      ∃ t : State, exec (.bar2Read addr len corrected upset) s = .next t ∧
        Out.hostBytes (s.trayRead addr.toNat len.toNat) ∈ t.out ∧
        (corrected = false → t.regs = s.regs) ∧
        (corrected = true → t.get R.TRAY_ECC_CORR = 1)) ∧
  (∀ (addr : BitVec 26) (data : List Byte) (s : State),
      Safety.reaches s 0 →
      addr.toNat + data.length ≤ trayBytes →
      ∀ g ∈ granSpan addr.toNat data.length, s.hostMay g true = true ∧ s.windowLocked g = false →
      ∃ t : State, exec (.bar2Write addr data) s = .next t ∧
        t.tray = wrBytes s.tray addr.toNat data) ∧
  (∀ (off : BitVec 20) (len : BitVec 13) (corrected upset : Bool) (s : State),
      Safety.reaches s 0 →
      upset = false →
      0 < len.toNat →
      off.toNat + len.toNat ≤ 2 ^ 20 →
      ∀ g ∈ granSpan (65536 * s.get R.BAR4_GRAN + off.toNat) len.toNat, s.hostMay g false = true →
      s.badWords (65536 * s.get R.BAR4_GRAN + off.toNat) len.toNat = [] →
      ∃ t : State, exec (.bar4Read off len corrected upset) s = .next t ∧
        Out.hostBytes (s.trayRead (65536 * s.get R.BAR4_GRAN + off.toNat) len.toNat) ∈ t.out ∧
        (corrected = false → t.regs = s.regs) ∧
        (corrected = true → t.get R.TRAY_ECC_CORR = 1)) ∧
  (∀ (off : BitVec 20) (data : List Byte) (s : State),
      Safety.reaches s 0 →
      off.toNat + data.length ≤ 2 ^ 20 →
      ∀ g ∈ granSpan (65536 * s.get R.BAR4_GRAN + off.toNat) data.length, s.hostMay g true = true ∧ s.windowLocked g = false →
      ∃ t : State, exec (.bar4Write off data) s = .next t ∧
        t.tray = wrBytes s.tray (65536 * s.get R.BAR4_GRAN + off.toNat) data) ∧
  (∀ (addr : BitVec 25) (len : BitVec 4) (v : BitVec 32) (s : State),
      addr = 0xD100 ∧ len = 4 →
      Safety.reaches s 0 →
      v.toNat ≤ 1008 →
      ∃ t : State, exec (.registerWrite addr len v) s = .next t ∧
        t.get R.BAR4_GRAN = v.toNat) ∧
  (∀ (addr : BitVec 25) (len : BitVec 4) (v : BitVec 32) (off : Nat) (s : State),
      placeOf addr.toNat = some ⟨7, off, false⟩ ∧ len = 4 →
      0x1000 ≤ off ∧ off < 0x70000 →
      Safety.reaches s 7 →
      s.beadOpen 7 off = true →
      wordHits 7 off ≠ [] →
      ∀ h ∈ wordHits 7 off, h.ty = .rw →
      s.writeOk ⟨7, off, v.toNat⟩ = true →
      ∃ t : State, exec (.registerWrite addr len v) s = .next t ∧
        ∀ h ∈ wordHits 7 off, t.get (h.fld 7) = h.value 7 v.toNat ∧
        t.inForce R.QLD_CFG_SCALE = s.inForce R.QLD_CFG_SCALE ∧
        t.inForce R.SRCH_CFG_LAMBDA = s.inForce R.SRCH_CFG_LAMBDA) ∧
  (∀ (addr : BitVec 25) (len : BitVec 4) (v : BitVec 32) (s : State),
      addr = 0x701000 ∧ len = 4 →
      Safety.reachesBead s 7 0 →
      v.toNat % 65536 = 0 →
      ∃ t : State, exec (.registerWrite addr len v) s = .next t ∧
        t.get R.QLD_CFG_SCALE = s.get R.QLD_CFG_SCALE ∧
        t.get R.QLD_CFG_GAIN_SEL = s.get R.QLD_CFG_GAIN_SEL ∧
        t.get (R.WR_RANGE_WR 7) ≠ 0 ∧
        (s.on (R.WR_RANGE_WR 7) = false → t.get (R.WR_RANGE_ADDR 7) = 0x701000) ∧
        Safety.isRaised t E.wrRange) ∧
  (∀ (addr : BitVec 25) (len : BitVec 4) (v : BitVec 32) (s : State),
      Safety.reaches s (regRod addr.toNat) →
      len ≠ 4 ∨ addr.toNat % 4 ≠ 0 →
      ∃ t : State, exec (.registerWrite addr len v) s = .next t ∧
        t.get R.HEP_STAT_SIZE_ERR = 1) ∧
  (∀ (rod : Fin 16) (s : State),
      rod = 1 ∨ rod = 7 ∨ rod = 10 ∨ rod = 13 ∨ rod = 14 →
      Safety.reaches s rod →
      ∃ t : State, exec (.commitReq rod) s = .next t ∧
        ∀ d ∈ List.range (domains rod), s.domainIdle rod d = false → t.commitPending rod d = true) ∧
  (∀ (rod : Fin 16) (s : State),
      rod = 7 →
      Safety.reaches s 7 →
      s.strg.source = none →
      ∃ t : State, exec (.commitReq rod) s = .next t ∧
        t.get (R.COMMIT_PEND 7) = 0 ∧
        ∀ f ∈ [R.QLD_CFG_SCALE, R.QLD_CFG_GAIN_SEL, R.SRCH_CFG_LAMBDA, R.SRCH_CFG_RANGE3, R.VST_RING_GRAN, R.VST_RING_DEPTH], t.inForce f = s.get f) ∧
  (∀ (blk : Fin 17) (w : Fin 8) (v : BitVec 32) (b : Nat) (s : State),
      Safety.reaches s blk →
      w.val < 6 →
      b < 32 →
      bit v.toNat b = true →
      (blk.val, 32 * w.val + b) ≠ E.doorbell →
      ∃ t : State, exec (.evtStatClear blk w v) s = .next t ∧
        t.get (R.EVT_STAT blk (32 * w + b)) = 0)

/-- A reply, an epoch advance and a stream flit write only the fields that count what a port drops, the port's copy of
the epoch, the open transactions and the waiting flits. A Tray read, from the Beam or through BAR2 or BAR4, draws what
an uncorrectable word brings as a free value and writes no byte of any memory and no field but those that record
denials and errors. A read of DRAM from the Beam writes beyond the fields that count what a port drops only the
sequence numbers of channels, and changes the open transactions and the waiting reads; a write of DRAM the same
fields, the open transactions and the waiting writes. A read of a register from the Beam writes beyond the fields that
count what a port drops only the latches of the time, of time stamps and of captures and the state of the mailbox that
it takes, and pops a time stamp; a write of one puts no command in the queue and changes no fuse but the one whose
burn is cut; one at an address with no target writes only the fields that count what a port drops and the open
transactions. A Tray write, from the Beam or through BAR2 or BAR4, changes no byte outside the bytes written, whose
address is that of the request, or granule BAR4_GRAN and the offset, no byte of DRAM or of the keep store, and no
field but those. A W1C write of an EVT_STAT word writes no field but the sources of that word. All other state is
unchanged. (spec R17, R18, R19, R22, R24, R410, R490, R503, R426) -/
def Obligations.BeamFrames : Prop :=
  (∀ (src dst : Fin 28) (epoch : BitVec 8) (txn : BitVec 10) (status : Fin 6) (data : List Byte) (s t : State), exec (.reply src dst epoch txn status data) s = .next t →
      Safety.keeps (Safety.among ([R.RST_BEAM_STALE, R.RST_BEAM_STALE_CNT] ++ Safety.sources [E.beamStale])) s t ∧
        Safety.beyond t = { Safety.beyond s with txns := t.txns }) ∧
  (∀ (port : Fin 28) (rod : Fin 16) (epoch : BitVec 8) (s t : State), exec (.eventMessage port rod epoch) s = .next t →
      Safety.keeps (Safety.among ([I.PEPOCH port rod])) s t ∧
        Safety.beyond t = Safety.beyond s) ∧
  (∀ (stream : Fin 512) (dst : Fin 28) (mark : Fin 4) (tag : BitVec 32) (data : List Byte) (s t : State), exec (.streamFlit stream dst mark tag data) s = .next t →
      Safety.keeps (Safety.among ([R.DROP_STAT_DROPPED, R.DROP_STAT_STREAM, R.DROP_STAT_CNT] ++ Safety.sources [E.strgDrop])) s t ∧
        Safety.beyond t = { Safety.beyond s with flits := t.flits }) ∧
  (∀ (src dst : Fin 28) (epoch : BitVec 8) (txn : BitVec 10) (cls len : Fin 4) (addr : BeamAddr) (corrected upset : Bool) (a : Nat) (s t : State), exec (.readRequest src dst epoch txn cls len addr corrected upset) s = .next t →
      addr = .tray a →
      Safety.keeps (Safety.among ([R.RST_BEAM_STALE, R.RST_BEAM_STALE_CNT] ++ Safety.sources [E.beamStale] ++ Safety.trayFields ++ Safety.corrFields)) s t ∧
        Safety.beyond t = { Safety.beyond s with txns := t.txns, trayBad := t.trayBad, freeCtr := t.freeCtr }) ∧
  (∀ (src dst : Fin 28) (epoch : BitVec 8) (txn : BitVec 10) (cls : Fin 4) (addr : BeamAddr) (data : List Byte) (a : Nat) (s t : State), exec (.writeRequest src dst epoch txn cls addr data) s = .next t →
      addr = .tray a →
      Safety.keeps (Safety.among ([R.RST_BEAM_STALE, R.RST_BEAM_STALE_CNT] ++ Safety.sources [E.beamStale] ++ Safety.trayFields)) s t ∧
        Safety.beyond t = { Safety.beyond s with txns := t.txns, tray := t.tray, trayBad := t.trayBad } ∧
        Safety.trayOutside a data.length s t) ∧
  (∀ (src dst : Fin 28) (epoch : BitVec 8) (txn : BitVec 10) (cls len : Fin 4) (addr : BeamAddr) (corrected upset : Bool) (region off : Nat) (s t : State), exec (.readRequest src dst epoch txn cls len addr corrected upset) s = .next t →
      addr = .dram region off →
      Safety.keeps (Safety.either ([R.RST_BEAM_STALE, R.RST_BEAM_STALE_CNT] ++ Safety.sources [E.beamStale]) ([I.CH_SEQ 0])) s t ∧
        Safety.beyond t = { Safety.beyond s with txns := t.txns, rdQ := t.rdQ, rdParts := t.rdParts }) ∧
  (∀ (src dst : Fin 28) (epoch : BitVec 8) (txn : BitVec 10) (cls : Fin 4) (addr : BeamAddr) (data : List Byte) (region off : Nat) (s t : State), exec (.writeRequest src dst epoch txn cls addr data) s = .next t →
      addr = .dram region off →
      Safety.keeps (Safety.either ([R.RST_BEAM_STALE, R.RST_BEAM_STALE_CNT] ++ Safety.sources [E.beamStale]) ([I.CH_SEQ 0])) s t ∧
        Safety.beyond t = { Safety.beyond s with txns := t.txns, wrQ := t.wrQ }) ∧
  (∀ (src dst : Fin 28) (epoch : BitVec 8) (txn : BitVec 10) (cls len : Fin 4) (addr : BeamAddr) (corrected upset : Bool) (off : Nat) (s t : State), exec (.readRequest src dst epoch txn cls len addr corrected upset) s = .next t →
      addr = .reg off →
      Safety.keeps (Safety.either ([R.RST_BEAM_STALE, R.RST_BEAM_STALE_CNT] ++ Safety.sources [E.beamStale] ++ Safety.retireFields ++ Safety.sources ((List.range 8).map E.mbTaken)) ([R.TSQ_HI_V 0, R.TSQ_NS_NS 0, R.TSQ_POP_ID 0, R.TSQ_POP_VALID 0, R.TSQ_SEC_SEC 0, R.TSQ_STAT_LEVEL 0, R.CAP_HI_V 0, R.CAP_NS_V 0, R.CAP_SEC_V 0, R.CAP_STAT_VALID 0, R.NOW_HI_V, R.NOW_NS_V, R.NOW_SEC_V, R.MB_STAT_FULL 0, R.MB_STAT_WAIT_ACK 0])) s t ∧
        Safety.beyond t = { Safety.beyond s with txns := t.txns, tsq := t.tsq, freeCtr := t.freeCtr }) ∧
  (∀ (src dst : Fin 28) (epoch : BitVec 8) (txn : BitVec 10) (cls len : Fin 4) (addr : BeamAddr) (corrected upset : Bool) (s t : State), exec (.readRequest src dst epoch txn cls len addr corrected upset) s = .next t →
      addr = .nothing →
      Safety.keeps (Safety.among ([R.RST_BEAM_STALE, R.RST_BEAM_STALE_CNT] ++ Safety.sources [E.beamStale])) s t ∧
        Safety.beyond t = { Safety.beyond s with txns := t.txns }) ∧
  (∀ (src dst : Fin 28) (epoch : BitVec 8) (txn : BitVec 10) (cls : Fin 4) (addr : BeamAddr) (data : List Byte) (off : Nat) (s t : State), exec (.writeRequest src dst epoch txn cls addr data) s = .next t →
      addr = .reg off →
      t.pending = s.pending ∧
        Safety.fusesButCut s t) ∧
  (∀ (src dst : Fin 28) (epoch : BitVec 8) (txn : BitVec 10) (cls : Fin 4) (addr : BeamAddr) (data : List Byte) (s t : State), exec (.writeRequest src dst epoch txn cls addr data) s = .next t →
      addr = .nothing →
      Safety.keeps (Safety.among ([R.RST_BEAM_STALE, R.RST_BEAM_STALE_CNT] ++ Safety.sources [E.beamStale])) s t ∧
        Safety.beyond t = { Safety.beyond s with txns := t.txns }) ∧
  (∀ (addr : BitVec 26) (len : BitVec 13) (corrected upset : Bool) (s t : State), exec (.bar2Read addr len corrected upset) s = .next t →
      Safety.keeps (Safety.among (Safety.trayFields ++ Safety.retireFields ++ Safety.corrFields)) s t ∧
        Safety.deepBeyond t = { Safety.deepBeyond s with trayBad := t.trayBad } ∧
        t.jobs = s.jobs ∧
        t.clogQ = s.clogQ) ∧
  (∀ (addr : BitVec 26) (data : List Byte) (s t : State), exec (.bar2Write addr data) s = .next t →
      Safety.keeps (Safety.among (Safety.trayFields ++ Safety.retireFields)) s t ∧
        Safety.beyond t = { Safety.beyond s with tray := t.tray, trayBad := t.trayBad } ∧
        Safety.trayOutside addr.toNat data.length s t) ∧
  (∀ (off : BitVec 20) (len : BitVec 13) (corrected upset : Bool) (s t : State), exec (.bar4Read off len corrected upset) s = .next t →
      Safety.keeps (Safety.among (Safety.trayFields ++ Safety.retireFields ++ Safety.corrFields)) s t ∧
        Safety.deepBeyond t = { Safety.deepBeyond s with trayBad := t.trayBad } ∧
        t.jobs = s.jobs ∧
        t.clogQ = s.clogQ) ∧
  (∀ (off : BitVec 20) (data : List Byte) (s t : State), exec (.bar4Write off data) s = .next t →
      Safety.keeps (Safety.among (Safety.trayFields ++ Safety.retireFields)) s t ∧
        Safety.beyond t = { Safety.beyond s with tray := t.tray, trayBad := t.trayBad } ∧
        Safety.trayOutside (65536 * s.get R.BAR4_GRAN + off.toNat) data.length s t) ∧
  (∀ (blk : Fin 17) (w : Fin 8) (v : BitVec 32) (s t : State), exec (.evtStatClear blk w v) s = .next t →
      Safety.keeps (Safety.among ((List.range 32).map (fun b => R.EVT_STAT blk (32 * w + b)) ++ Safety.retireFields)) s t ∧
        Safety.beyond t = Safety.beyond s)

/-- A write of COMMIT.REQ changes no register field and no value in force outside its own rod and the two recorders,
but the fields that record a retired access, a Tray access, a rejected set and a carry-log record that finds no place,
and no byte of DRAM or of the keep store; what it writes to the Tray lies in granules that its rod and the recorders
may write. A register write and a debug access put no command in the queue and change no fuse but the one whose burn
is cut; a register write of a configuration word of QLD writes no field outside QLD but the records of a range error
and a retired access. (spec R22, R410, R412, R431, R433, R438, R504, R505, R507, R509) -/
def Obligations.CommitFrame : Prop :=
  (∀ (rod : Fin 16) (s t : State), exec (.commitReq rod) s = .next t →
      Safety.keepsBut (Safety.inBlocks [rod.val, 8, 9] (Safety.retireFields ++ Safety.trayFields ++ Safety.recordFields rod.val ++ Safety.recordFields 8 ++ Safety.recordFields 9 ++ Safety.sources [E.commitReject])) [rod.val, 8, 9] s t ∧
        Safety.beyond t = { Safety.beyond s with strms := t.strms, jobs := t.jobs, trayBad := t.trayBad, hdrs := t.hdrs, uanc := t.uanc, tray := t.tray, clogQ := t.clogQ, canv := t.canv } ∧
        Safety.trayOf [rod.val, 8, 9] s t) ∧
  (∀ (addr : BitVec 25) (len : BitVec 4) (v : BitVec 32) (s t : State), exec (.registerWrite addr len v) s = .next t →
      t.pending = s.pending ∧
        Safety.fusesButCut s t) ∧
  (∀ (addr : BitVec 25) (len : BitVec 4) (v : BitVec 32) (s t : State), exec (.registerWrite addr len v) s = .next t →
      regRod addr.toNat = 7 →
      0x1000 ≤ addr.toNat % 2 ^ 19 ∧ addr.toNat % 2 ^ 19 < 0x70000 →
      Safety.keeps (Safety.inBlocks [7] (Safety.retireFields ++ Safety.rangeFields 7 ++ [R.HEP_STAT_SIZE_ERR])) s t ∧
        Safety.beyond t = Safety.beyond s) ∧
  (∀ (acc : DapAccess) (s t : State), exec (.dapAccess acc) s = .next t →
      t.pending = s.pending ∧
        Safety.fusesButCut s t)

/-- Each of these commands completes, for every state that meets the conditions named. (1) patchGo, the host reaching
CTL: with no patch in VERIFY to RESTRING and no DOZE in force or being left, a patch starts in VERIFY with code 0 and
no location; with one there, BUSY_GO is set and that patch goes on as it was. (2) patchAbort, the host reaching CTL
and a patch in VERIFY, CHECK or DRAIN: the patch ends ABANDONED with code 0x25. (3) patchVerifyDone of a patch in
VERIFY, the stringing having a patch window: CHECK where every check of the stored image passes and its body unpacks,
REJECTED otherwise. (4) patchCheckDone of a patch in CHECK while no substitution is active: DRAIN with the tag T where
every check of the merged stringing passes, REJECTED with the code of the first that fails otherwise. (5)
patchRestring in DRAIN once every named rod has drained, for a patch that does not name CTL: RESTRING, every named rod
is shown drained, and the proxy of each named rod that is powered and not in reset acts for it. (6) patchDone in
RESTRING, no substitution waiting, for a patch that does not name CTL: the merged stringing is in force and the patch
is DONE with code 0. (7) patchDrainTimeout in DRAIN while some named rod has not drained: ABANDONED with DRAIN_TIMEOUT
where the frame start of T has come and NO_FRAME where it has not. (spec R65, R67, R68, R69, R70, R71) -/
def Obligations.PatchCourse : Prop :=
  (∀ (s : State),
      Safety.reaches s 0 →
      ¬ (1 ≤ s.get R.PATCH_STAT_STATE ∧ s.get R.PATCH_STAT_STATE ≤ 4) →
      s.get R.PWR_STAT_STATE ≠ pwDoze →
      s.get R.PWR_STAT_STATE ≠ pwLeaving →
      ∃ t : State, exec .patchGo s = .next t ∧
        t.get R.PATCH_STAT_STATE = 1 ∧
        t.get R.PATCH_STAT_CODE = 0 ∧
        t.get R.PATCH_DETAIL_SECT = 0xFF ∧
        t.get R.PATCH_DETAIL_RECORD = 0xFFFF) ∧
  (∀ (s : State),
      Safety.reaches s 0 →
      1 ≤ s.get R.PATCH_STAT_STATE →
      s.get R.PATCH_STAT_STATE ≤ 4 →
      ∃ t : State, exec .patchGo s = .next t ∧
        t.get R.PATCH_STAT_BUSY_GO = 1 ∧
        t.get R.PATCH_STAT_STATE = s.get R.PATCH_STAT_STATE ∧
        t.patch = s.patch) ∧
  (∀ (s : State),
      Safety.reaches s 0 →
      1 ≤ s.get R.PATCH_STAT_STATE →
      s.get R.PATCH_STAT_STATE ≤ 3 →
      ∃ t : State, exec .patchAbort s = .next t ∧
        t.get R.PATCH_STAT_STATE = 7 ∧
        t.get R.PATCH_STAT_CODE = 0x25) ∧
  (∀ (s : State),
      s.get R.PATCH_STAT_STATE = 1 →
      s.windowGrans ≠ [] →
      ∃ t : State, exec .patchVerifyDone s = .next t ∧
        t.get R.PATCH_STAT_STATE = (if (imgFront true s.patch.stored s.fuses s.imageDigest (s.on R.SUBST_STAT_ACTIVE)).isNone ∧ (imgBody s.patch.stored).isSome then 2 else 6)) ∧
  (∀ (s : State),
      s.get R.PATCH_STAT_STATE = 2 →
      s.on R.SUBST_STAT_ACTIVE = false →
      ∃ t : State, exec .patchCheckDone s = .next t ∧
        (s.patchCheck s.patch.hdr s.patch.body = none → t.get R.PATCH_STAT_STATE = 3 ∧ t.get R.PATCH_TAG_T = s.patchT % 2 ^ 32) ∧
        (∀ r, s.patchCheck s.patch.hdr s.patch.body = some r → t.get R.PATCH_STAT_STATE = 6 ∧ t.get R.PATCH_STAT_CODE = r.code % 64)) ∧
  (∀ (s : State),
      s.get R.PATCH_STAT_STATE = 3 →
      s.patchReady = true →
      bit s.patch.hdr.rodMask 0 = false →
      ∃ t : State, exec .patchRestring s = .next t ∧
        t.get R.PATCH_STAT_STATE = 4 ∧
        t.get R.PATCH_STAT_DRAINED = s.patch.hdr.rodMask % 65536 ∧
        (∀ r ∈ List.range 16, bit s.patch.hdr.rodMask r = true ∧ s.on (I.PWR_ON r) = true ∧ s.get (I.RSTST r) = 0 → t.isolated r = true)) ∧
  (∀ (s : State),
      s.get R.PATCH_STAT_STATE = 4 →
      s.get I.SUBST_WAIT = 0 →
      bit s.patch.hdr.rodMask 0 = false →
      ∃ t : State, exec .patchDone s = .next t ∧
        t.get R.PATCH_STAT_STATE = 5 ∧
        t.get R.PATCH_STAT_CODE = 0 ∧
        t.strg = s.patch.strg) ∧
  (∀ (s : State),
      s.get R.PATCH_STAT_STATE = 3 →
      s.patchReady = false →
      ∃ t : State, exec .patchDrainTimeout s = .next t ∧
        t.get R.PATCH_STAT_STATE = 7 ∧
        t.get R.PATCH_STAT_CODE = (if s.patchSeen then 0x22 else 0x26))

/-- Each of these commands completes, for every lane of the rod and every state that meets the conditions named. (1)
laneEnable of a lane that is not in use and that JTAG does not hold, the host reaching the rod: EN is 1 and the lane
stands in POWER with no fault, no retry and no LOL. (2) laneDisable, the host reaching the rod: EN is 0 and the lane
is OFF, with no LOS, no fault and, unless it is a sensor lane, no rate. (3) laneGo of a stage from 1 to 6 on a lane in
use that is not in an earlier stage of its bring-up, the host reaching the rod: the lane stands in that stage, or in
UP where it only transmits and the stage is past PLL, with no fault and no retry. (4) lanePowerDone in POWER: PLL. (5)
lanePllLock of a group at a rate that its use has: every lane of the group in PLL enters SIGNAL, or UP where it only
transmits. (6) laneLosClear of a receiving lane in SIGNAL: LOCK with LOS clear. (7) laneLock in LOCK: ADAPT, or ALIGN
on the slow way out of idle and where adaptation holds; LOL is clear. (8) laneAdaptDone in ADAPT: ALIGN, not frozen.
(9) laneAligned in ALIGN with the PRBS checker off, and for a sensor lane with block lock and a known identity: UP,
with the polarity found where it is automatic and the one that is set where it is not. (10) laneAdaptTimeout in ADAPT:
ALIGN, with ADAPT_WEAK and LANE_INFO. (spec R77, R78, R79, R80, R83, R87) -/
def Obligations.LaneBringUp : Prop :=
  (∀ (rod : Fin 16) (l : Fin 70) (s : State),
      Safety.reaches s rod →
      l.val < laneCount rod →
      s.jtagHolds rod l = false →
      s.on (R.LN_CTL_EN rod l) = false →
      ∃ t : State, exec (.laneEnable rod l) s = .next t ∧
        t.get (R.LN_CTL_EN rod l) = 1 ∧
        t.lane rod l = lnPower ∧
        t.get (R.LN_STAT_FAULT rod l) = 0 ∧
        t.get (R.LN_STAT_RETRY rod l) = 0 ∧
        t.get (R.LN_STAT_LOL rod l) = 0) ∧
  (∀ (rod : Fin 16) (l : Fin 70) (s : State),
      Safety.reaches s rod →
      l.val < laneCount rod →
      ∃ t : State, exec (.laneDisable rod l) s = .next t ∧
        t.get (R.LN_CTL_EN rod l) = 0 ∧
        t.lane rod l = lnOff ∧
        t.get (R.LN_STAT_LOS rod l) = 0 ∧
        t.get (R.LN_STAT_FAULT rod l) = 0 ∧
        (laneUse rod l ≠ 0 → t.get (R.LN_RATE_KBPS rod l) = 0)) ∧
  (∀ (rod : Fin 16) (l : Fin 70) (stage : Fin 8) (s : State),
      Safety.reaches s rod →
      l.val < laneCount rod →
      s.on (R.LN_CTL_EN rod l) = true →
      1 ≤ stage.val ∧ stage.val ≤ 6 →
      ¬ (1 ≤ s.lane rod l ∧ s.lane rod l ≤ 6 ∧ s.lane rod l < stage.val) →
      ∃ t : State, exec (.laneGo rod l stage) s = .next t ∧
        t.lane rod l = (if 4 ≤ laneUse rod l ∧ 2 < stage.val then lnUp else stage.val) ∧
        t.get (R.LN_STAT_RETRY rod l) = 0 ∧
        t.get (R.LN_STAT_FAULT rod l) = 0) ∧
  (∀ (rod : Fin 16) (l : Fin 70) (s : State),
      l.val < laneCount rod →
      s.lane rod l = lnPower →
      ∃ t : State, exec (.lanePowerDone rod l) s = .next t ∧
        t.lane rod l = lnPll) ∧
  (∀ (rod : Fin 16) (g : Fin 8) (kbps : BitVec 25) (l : Nat) (s : State),
      rateOk rod g kbps.toNat = true →
      l ∈ groupLanes rod g →
      s.lane rod l = lnPll →
      ∃ t : State, exec (.lanePllLock rod g kbps) s = .next t ∧
        t.lane rod l = (if 4 ≤ laneUse rod l then lnUp else lnSignal)) ∧
  (∀ (rod : Fin 16) (l : Fin 70) (s : State),
      l.val < laneCount rod →
      laneUse rod l < 4 →
      s.lane rod l = lnSignal →
      ∃ t : State, exec (.laneLosClear rod l) s = .next t ∧
        t.lane rod l = lnLock ∧
        t.get (R.LN_STAT_LOS rod l) = 0) ∧
  (∀ (rod : Fin 16) (l : Fin 70) (s : State),
      l.val < laneCount rod →
      s.lane rod l = lnLock →
      ∃ t : State, exec (.laneLock rod l) s = .next t ∧
        t.lane rod l = (if s.on (I.LANE_SLOW rod l) ∨ s.get (R.LN_ADAPT_MODE rod l) = 2 then lnAlign else lnAdapt) ∧
        t.get (R.LN_STAT_LOL rod l) = 0) ∧
  (∀ (rod : Fin 16) (l : Fin 70) (s : State),
      l.val < laneCount rod →
      s.lane rod l = lnAdapt →
      ∃ t : State, exec (.laneAdaptDone rod l) s = .next t ∧
        t.lane rod l = lnAlign ∧
        t.get (R.LN_STAT_FROZEN rod l) = 0) ∧
  (∀ (rod : Fin 16) (l : Fin 70) (inverted reversed : Bool) (s : State),
      l.val < laneCount rod →
      s.lane rod l = lnAlign →
      s.on (R.LN_PRBS_CHK_EN rod l) = false →
      laneUse rod l ≠ 0 ∨ (s.on (I.SRX_BLK (l / 34) (l % 34)) = true ∧ s.on (I.SRX_ID (l / 34) (l % 34)) = true) →
      ∃ t : State, exec (.laneAligned rod l inverted reversed) s = .next t ∧
        t.lane rod l = lnUp ∧
        t.get (R.LN_STAT_POL rod l) = (if s.get (R.LN_CTL_POL_MODE rod l) = 0 then ofBool inverted else if s.get (R.LN_CTL_POL_MODE rod l) = 2 then 1 else 0)) ∧
  (∀ (rod : Fin 16) (l : Fin 70) (s : State),
      l.val < laneCount rod →
      s.lane rod l = lnAdapt →
      ∃ t : State, exec (.laneAdaptTimeout rod l) s = .next t ∧
        t.lane rod l = lnAlign ∧
        t.get (R.LN_EVT_ADAPT_WEAK rod l) = 1 ∧
        Safety.isRaised t (s.laneSrc rod l 3))

/-- Each of these commands completes, for every lane of the rod and every state that meets the conditions named. (1)
laneLockTimeout in LOCK: RETRY counts one more, up to 8, and the lane returns to SIGNAL, or at the eighth failure in a
row enters FAULT with the cause LOCK. (2) lanePllTimeout of a group: every lane of it in PLL enters FAULT with the
cause PLL. (3) groupPllLoss with some lane of the group from SIGNAL to IDLE: every lane of it that is in use and not
in FAULT enters FAULT with the cause REF. (4) laneLos of a receiving lane in UP whose LOS is clear and for which no
idle entry waits: LOS and LOS_EV set, and with AUTO_RETRAIN the lane restarts at SIGNAL unless a GO of the same cycle
wins; otherwise it stays in UP. (5) laneLol of a receiving lane in UP whose LOS is clear and for which no LOS waits:
LOL and LOL_EV set, and the lane restarts at LOCK in the same way. (6) laneFreqWindow, of a mean outside FREQ_WIN that
completes the run of LOL_WIN + 1 windows on a receiving lane in UP whose LOS is clear and for which no LOS waits: LOL
is declared and the run starts afresh. (7) laneIdleEntry in UP: IDLE, frozen, with LOS clear. (8) laneSquelchConfirm
in IDLE: the lane stays there, on the fast way out where it has idled no longer than IDLE_HOLD, on the slow way
otherwise. (9) lanePhaseLock in IDLE on the fast way: UP. (10) lanePhaseLockTimeout in IDLE after a confirmed squelch:
LOCK, with EXIT_SLOW and LANE_INFO. (11) adaptWindow on a receiving lane in UP whose adaptation tracks: a sparse
window that completes FRZ_RUN freezes it, and a dense one that completes THAW_RUN while the bead asks for no freeze
thaws it. (spec R79, R83, R84, R86, R89, R90, R91, R93) -/
def Obligations.LaneFailures : Prop :=
  (∀ (rod : Fin 16) (l : Fin 70) (s : State),
      l.val < laneCount rod →
      s.lane rod l = lnLock →
      ∃ t : State, exec (.laneLockTimeout rod l) s = .next t ∧
        t.get (R.LN_STAT_RETRY rod l) = min (s.get (R.LN_STAT_RETRY rod l) + 1) 8 ∧
        (s.get (I.LANE_LOCKF rod l) < 7 → t.lane rod l = lnSignal) ∧
        (7 ≤ s.get (I.LANE_LOCKF rod l) → t.lane rod l = lnFault ∧ t.get (R.LN_STAT_FAULT rod l) = 2)) ∧
  (∀ (rod : Fin 16) (g : Fin 8) (l : Nat) (s : State),
      l ∈ groupLanes rod g →
      s.lane rod l = lnPll →
      ∃ t : State, exec (.lanePllTimeout rod g) s = .next t ∧
        t.lane rod l = lnFault ∧
        t.get (R.LN_STAT_FAULT rod l) = 1) ∧
  (∀ (rod : Fin 16) (g : Fin 8) (l m : Nat) (s : State),
      l ∈ groupLanes rod g →
      m ∈ groupLanes rod g →
      lnSignal ≤ s.lane rod m ∧ s.lane rod m ≤ lnIdle →
      s.lane rod l ≠ lnOff →
      s.lane rod l ≠ lnFault →
      ∃ t : State, exec (.groupPllLoss rod g) s = .next t ∧
        t.lane rod l = lnFault ∧
        t.get (R.LN_STAT_FAULT rod l) = 3) ∧
  (∀ (rod : Fin 16) (l : Fin 70) (s : State),
      l.val < laneCount rod →
      laneUse rod l < 4 →
      s.lane rod l = lnUp →
      s.on (R.LN_STAT_LOS rod l) = false →
      Instr.laneIdleEntry rod l ∉ s.pending →
      ∃ t : State, exec (.laneLos rod l) s = .next t ∧
        t.get (R.LN_STAT_LOS rod l) = 1 ∧
        t.get (R.LN_EVT_LOS_EV rod l) = 1 ∧
        t.lane rod l = (if s.on (R.LN_CTL_AUTO_RETRAIN rod l) = true ∧ s.goWins rod l = false then lnSignal else lnUp)) ∧
  (∀ (rod : Fin 16) (l : Fin 70) (s : State),
      l.val < laneCount rod →
      laneUse rod l < 4 →
      s.lane rod l = lnUp →
      s.on (R.LN_STAT_LOS rod l) = false →
      Instr.laneLos rod l ∉ s.pending →
      ∃ t : State, exec (.laneLol rod l) s = .next t ∧
        t.get (R.LN_STAT_LOL rod l) = 1 ∧
        t.get (R.LN_EVT_LOL_EV rod l) = 1 ∧
        t.lane rod l = (if s.on (R.LN_CTL_AUTO_RETRAIN rod l) = true ∧ s.goWins rod l = false then lnLock else lnUp)) ∧
  (∀ (rod : Fin 16) (l : Fin 70) (ppm : BitVec 20) (s : State),
      l.val < laneCount rod →
      laneUse rod l < 4 →
      s.lane rod l = lnUp →
      s.on (R.LN_STAT_LOS rod l) = false →
      s.get (R.LN_DET_FREQ_WIN rod l) * 10 < ppm.toNat →
      Instr.laneLos rod l ∉ s.pending →
      s.get (R.LN_DET_LOL_WIN rod l) ≤ s.get (I.LANE_OUTWIN rod l) →
      ∃ t : State, exec (.laneFreqWindow rod l ppm) s = .next t ∧
        t.get (R.LN_STAT_LOL rod l) = 1 ∧
        t.get (I.LANE_OUTWIN rod l) = 0) ∧
  (∀ (rod : Fin 16) (l : Fin 70) (s : State),
      l.val < laneCount rod →
      s.lane rod l = lnUp →
      ∃ t : State, exec (.laneIdleEntry rod l) s = .next t ∧
        t.lane rod l = lnIdle ∧
        t.get (R.LN_STAT_FROZEN rod l) = 1 ∧
        t.get (R.LN_STAT_LOS rod l) = 0) ∧
  (∀ (rod : Fin 16) (l : Fin 70) (s : State),
      l.val < laneCount rod →
      s.lane rod l = lnIdle →
      ∃ t : State, exec (.laneSquelchConfirm rod l) s = .next t ∧
        t.get (I.LANE_SQ rod l) = (if s.up - s.get (I.LANE_IDLE_T rod l) ≤ s.get (R.LN_ADAPT_IDLE_HOLD rod l) * tMs then 1 else 2) ∧
        t.lane rod l = lnIdle) ∧
  (∀ (rod : Fin 16) (l : Fin 70) (s : State),
      l.val < laneCount rod →
      s.lane rod l = lnIdle →
      s.get (I.LANE_SQ rod l) = 1 →
      ∃ t : State, exec (.lanePhaseLock rod l) s = .next t ∧
        t.lane rod l = lnUp) ∧
  (∀ (rod : Fin 16) (l : Fin 70) (s : State),
      l.val < laneCount rod →
      s.lane rod l = lnIdle →
      s.on (I.LANE_SQ rod l) = true →
      ∃ t : State, exec (.lanePhaseLockTimeout rod l) s = .next t ∧
        t.lane rod l = lnLock ∧
        t.get (R.LN_EVT_EXIT_SLOW rod l) = 1 ∧
        Safety.isRaised t (s.laneSrc rod l 3)) ∧
  (∀ (rod : Fin 16) (l : Fin 70) (density : BitVec 13) (s : State),
      l.val < laneCount rod →
      laneUse rod l < 4 →
      s.lane rod l = lnUp →
      s.get (R.LN_ADAPT_MODE rod l) = 0 →
      density.toNat * 64 < s.get (R.LN_ADAPT_DENS_MIN rod l) * 4096 →
      s.get (R.LN_ADAPT_FRZ_RUN rod l) ≤ s.get (I.LANE_LOW rod l) + 1 →
      ∃ t : State, exec (.adaptWindow rod l density) s = .next t ∧
        t.get (R.LN_STAT_FROZEN rod l) = 1 ∧
        t.get (I.LANE_HIGH rod l) = 0) ∧
  (∀ (rod : Fin 16) (l : Fin 70) (density : BitVec 13) (s : State),
      l.val < laneCount rod →
      laneUse rod l < 4 →
      s.lane rod l = lnUp →
      s.get (R.LN_ADAPT_MODE rod l) = 0 →
      s.get (R.LN_ADAPT_DENS_MIN rod l) * 4096 ≤ density.toNat * 64 →
      s.get (R.LN_ADAPT_THAW_RUN rod l) ≤ s.get (I.LANE_HIGH rod l) + 1 →
      s.on (I.LANE_FRZREQ rod l) = false →
      ∃ t : State, exec (.adaptWindow rod l density) s = .next t ∧
        t.get (R.LN_STAT_FROZEN rod l) = 0 ∧
        t.get (I.LANE_LOW rod l) = 0)

/-- Each lane command, where it answers a next state, writes only the fields of its own lane (or of the lanes of its
group) that the spec names, the counters that this model keeps of that lane, for a sensor lane its block lock and the
link fields that the alignment, the loss or the failure of a lane writes, and the traces of a rejected or retired host
access; every other register field, staged and in force, and all memory, queues and buffers are unchanged. Where the
equaliser or a transmitter takes new coefficients, which the spec does not state, free values are drawn. (spec R77,
R79, R80, R83, R84, R90, R93, R112) -/
def Obligations.LaneFrames : Prop :=
  (∀ (rod : Fin 16) (l : Fin 70) (s t : State), exec (.laneEnable rod l) s = .next t →
      Safety.keeps (Safety.among ([R.LN_CTL_EN rod l, R.LN_STAT_STATE rod l, R.LN_STAT_FAULT rod l, R.LN_STAT_RETRY rod l, R.LN_STAT_LOL rod l, I.LANE_SLOW rod l, I.LANE_LOCKF rod l, I.LANE_OUTWIN rod l] ++ Safety.rangeFields rod ++ Safety.retireFields)) s t ∧
        Safety.beyond t = Safety.beyond s) ∧
  (∀ (rod : Fin 16) (l : Fin 70) (s t : State), exec (.laneDisable rod l) s = .next t →
      Safety.keeps (Safety.among ([R.LN_CTL_EN rod l, R.LN_STAT_STATE rod l, R.LN_STAT_FAULT rod l, R.LN_STAT_RETRY rod l, R.LN_STAT_LOS rod l, R.LN_STAT_LOL rod l, R.LN_STAT_FROZEN rod l, I.LANE_RATE rod l, R.LN_RATE_KBPS rod l, I.LANE_SLOW rod l, I.LANE_LOCKF rod l, I.LANE_OUTWIN rod l] ++ Safety.retireFields)) s t ∧
        Safety.beyond t = Safety.beyond s) ∧
  (∀ (rod : Fin 16) (l : Fin 70) (stage : Fin 8) (s t : State), exec (.laneGo rod l stage) s = .next t →
      Safety.keeps (Safety.among ([R.LN_STAT_STATE rod l, R.LN_STAT_FAULT rod l, R.LN_STAT_RETRY rod l, R.LN_STAT_LOL rod l, I.LANE_SLOW rod l, I.LANE_LOCKF rod l, I.LANE_OUTWIN rod l, I.LANE_GO_T rod l] ++ Safety.rangeFields rod ++ Safety.retireFields)) s t ∧
        Safety.beyond t = Safety.beyond s) ∧
  (∀ (rod : Fin 16) (l : Fin 70) (s t : State), exec (.lanePowerDone rod l) s = .next t →
      Safety.keeps (Safety.among ([R.LN_STAT_STATE rod l])) s t ∧
        Safety.beyond t = Safety.beyond s) ∧
  (∀ (rod : Fin 16) (g : Fin 8) (kbps : BitVec 25) (s t : State), exec (.lanePllLock rod g kbps) s = .next t →
      Safety.keeps (Safety.among ((groupLanes rod g).flatMap (fun l => [R.LN_STAT_STATE rod l, I.LANE_RATE rod l, R.LN_RATE_KBPS rod l]))) s t ∧
        Safety.beyond t = Safety.beyond s) ∧
  (∀ (rod : Fin 16) (l : Fin 70) (s t : State), exec (.laneLosClear rod l) s = .next t →
      Safety.keeps (Safety.among ([R.LN_STAT_STATE rod l, R.LN_STAT_LOS rod l])) s t ∧
        Safety.beyond t = Safety.beyond s) ∧
  (∀ (rod : Fin 16) (l : Fin 70) (s t : State), exec (.laneLock rod l) s = .next t →
      Safety.keeps (Safety.among ([R.LN_STAT_STATE rod l, R.LN_STAT_LOL rod l, I.LANE_LOCKF rod l, I.LANE_COEF rod l])) s t ∧
        Safety.beyond t = Safety.beyond s) ∧
  (∀ (rod : Fin 16) (l : Fin 70) (s t : State), exec (.laneLockTimeout rod l) s = .next t →
      Safety.keeps (Safety.among ([R.LN_STAT_STATE rod l, R.LN_STAT_RETRY rod l, R.LN_STAT_FAULT rod l, R.LN_EVT_FAULT_EV rod l, I.LANE_LOCKF rod l] ++ Safety.sources [s.laneSrc rod l 2] ++ Safety.lostFields (l / 34))) s t ∧
        Safety.beyond t = Safety.beyond s) ∧
  (∀ (rod : Fin 16) (l : Fin 70) (s t : State), exec (.laneAdaptDone rod l) s = .next t →
      Safety.keeps (Safety.among ([R.LN_STAT_STATE rod l, R.LN_STAT_FROZEN rod l, I.LANE_COEF rod l, I.LANE_COEF_ADP rod l])) s t ∧
        Safety.beyond t = { Safety.beyond s with freeCtr := t.freeCtr }) ∧
  (∀ (rod : Fin 16) (l : Fin 70) (s t : State), exec (.laneAdaptTimeout rod l) s = .next t →
      Safety.keeps (Safety.among ([R.LN_STAT_STATE rod l, R.LN_EVT_ADAPT_WEAK rod l, I.LANE_COEF rod l, I.LANE_COEF_ADP rod l] ++ Safety.sources [s.laneSrc rod l 3])) s t ∧
        Safety.beyond t = { Safety.beyond s with freeCtr := t.freeCtr }) ∧
  (∀ (rod : Fin 16) (l : Fin 70) (inverted reversed : Bool) (s t : State), exec (.laneAligned rod l inverted reversed) s = .next t →
      Safety.keeps (Safety.among ([R.LN_STAT_STATE rod l, I.LANE_SLOW rod l, R.LN_STAT_POL rod l, R.LN_STAT_REVERSED rod l, I.LANE_POLPREV rod l, R.LN_EVT_POL_FLIP rod l, R.LN_TXFIR_MAIN rod l, R.LN_TXFIR_PRE rod l, R.LN_TXFIR_POST rod l] ++ (List.range 32).map (R.LH_ALIGN_FAIL (l / 34)) ++ Safety.sources [s.laneSrc rod l 3])) s t ∧
        Safety.beyond t = { Safety.beyond s with freeCtr := t.freeCtr }) ∧
  (∀ (rod : Fin 16) (l : Fin 70) (s t : State), exec (.laneLos rod l) s = .next t →
      Safety.keeps (Safety.among ([I.LANE_LOCKF rod l, I.SRX_BLK (l / 34) (l % 34), I.SRX_TSCNT (l / 34) (l % 34), R.LN_STAT_STATE rod l, R.LN_STAT_LOS rod l, R.LN_STAT_LOL rod l, R.LN_STAT_RETRY rod l, R.LN_EVT_LOS_EV rod l, R.LN_EVT_LOS_CNT rod l] ++ Safety.sources [s.laneSrc rod l 0] ++ Safety.lostFields (l / 34))) s t ∧
        Safety.beyond t = Safety.beyond s) ∧
  (∀ (rod : Fin 16) (l : Fin 70) (s t : State), exec (.laneLol rod l) s = .next t →
      Safety.keeps (Safety.among ([I.LANE_LOCKF rod l, I.SRX_BLK (l / 34) (l % 34), I.SRX_TSCNT (l / 34) (l % 34), R.LN_STAT_STATE rod l, R.LN_STAT_LOL rod l, R.LN_STAT_RETRY rod l, R.LN_EVT_LOL_EV rod l, R.LN_EVT_LOL_CNT rod l] ++ Safety.sources [s.laneSrc rod l 1] ++ Safety.lostFields (l / 34))) s t ∧
        Safety.beyond t = Safety.beyond s) ∧
  (∀ (rod : Fin 16) (l : Fin 70) (ppm : BitVec 20) (s t : State), exec (.laneFreqWindow rod l ppm) s = .next t →
      Safety.keeps (Safety.among ([I.LANE_LOCKF rod l, I.SRX_BLK (l / 34) (l % 34), I.SRX_TSCNT (l / 34) (l % 34), R.LN_STAT_STATE rod l, R.LN_STAT_LOL rod l, R.LN_STAT_RETRY rod l, R.LN_EVT_LOL_EV rod l, R.LN_EVT_LOL_CNT rod l, I.LANE_OUTWIN rod l] ++ Safety.sources [s.laneSrc rod l 1] ++ Safety.lostFields (l / 34))) s t ∧
        Safety.beyond t = Safety.beyond s) ∧
  (∀ (rod : Fin 16) (g : Fin 8) (s t : State), exec (.lanePllTimeout rod g) s = .next t →
      Safety.keeps (Safety.among ((groupLanes rod g).flatMap (fun l => [R.LN_STAT_STATE rod l, R.LN_STAT_FAULT rod l, R.LN_EVT_FAULT_EV rod l] ++ Safety.sources [s.laneSrc rod l 2] ++ Safety.lostFields (l / 34)))) s t ∧
        Safety.beyond t = Safety.beyond s) ∧
  (∀ (rod : Fin 16) (g : Fin 8) (s t : State), exec (.groupPllLoss rod g) s = .next t →
      Safety.keeps (Safety.among ((groupLanes rod g).flatMap (fun l => [R.LN_STAT_STATE rod l, R.LN_STAT_FAULT rod l, R.LN_EVT_FAULT_EV rod l] ++ Safety.sources [s.laneSrc rod l 2] ++ Safety.lostFields (l / 34)))) s t ∧
        Safety.beyond t = Safety.beyond s) ∧
  (∀ (rod : Fin 16) (l : Fin 70) (s t : State), exec (.laneIdleEntry rod l) s = .next t →
      Safety.keeps (Safety.among ([R.LN_STAT_STATE rod l, R.LN_STAT_FROZEN rod l, I.LANE_IDLE_T rod l, I.LANE_SQ rod l, R.LN_STAT_LOS rod l, R.LN_STAT_LOL rod l, I.LANE_HIGH rod l, I.LANE_OUTWIN rod l, I.SRX_BLK (l / 34) (l % 34), I.SRX_TSCNT (l / 34) (l % 34), I.SRX_WAKE (l / 34) (l % 34)])) s t ∧
        Safety.beyond t = Safety.beyond s) ∧
  (∀ (rod : Fin 16) (l : Fin 70) (s t : State), exec (.laneSquelchConfirm rod l) s = .next t →
      Safety.keeps (Safety.among ([I.LANE_SQ rod l])) s t ∧
        Safety.beyond t = Safety.beyond s) ∧
  (∀ (rod : Fin 16) (l : Fin 70) (s t : State), exec (.lanePhaseLock rod l) s = .next t →
      Safety.keeps (Safety.among ([R.LN_STAT_STATE rod l, I.LANE_SQ rod l])) s t ∧
        Safety.beyond t = Safety.beyond s) ∧
  (∀ (rod : Fin 16) (l : Fin 70) (s t : State), exec (.lanePhaseLockTimeout rod l) s = .next t →
      Safety.keeps (Safety.among ([R.LN_STAT_STATE rod l, I.LANE_SQ rod l, I.LANE_SLOW rod l, R.LN_EVT_EXIT_SLOW rod l] ++ Safety.sources [s.laneSrc rod l 3])) s t ∧
        Safety.beyond t = Safety.beyond s) ∧
  (∀ (rod : Fin 16) (l : Fin 70) (density : BitVec 13) (s t : State), exec (.adaptWindow rod l density) s = .next t →
      Safety.keeps (Safety.among ([I.LANE_COEF_ADP rod l, R.LN_STAT_FROZEN rod l, I.LANE_LOW rod l, I.LANE_HIGH rod l, I.LANE_COEF rod l])) s t ∧
        Safety.beyond t = { Safety.beyond s with freeCtr := t.freeCtr })

/-- Each of these commands completes, for every port and lane and every state that meets the conditions named. (1)
tsBlock on a lane in ALIGN with block lock of a port in use, a TS block whose check byte is good and that shows the
port's lanes, rate and role, of the physical lane that the seven before it showed, while the port is not in TRAIN:
that is the lane's identity, and where it is a logical lane its place in the map is known. (2) blockLock on a lane in
ALIGN or UP after 64 valid headers in a row, or 32 after a wake: the lane has block lock and stays in its state. (3)
blockLockLoss on a lane in UP with block lock, of at most 64 headers of which 16 or more are invalid: the lane has no
block lock and stands in ALIGN, and its invalid headers are counted. (4) alignTimeout of a lane in ALIGN: one failure
more, up to 8; before the eighth the lane restarts at LOCK without block lock, at the eighth it stays in ALIGN and is
marked bad. (5) amRow on a port in use past training, some marker of the row being good: AM_SEQ is that of the first
good one and no lane is asked to freeze any more; with a skew up to 264 the port is UP and trained, with more it goes
back to DESKEW with the DESKEW flag. (6) eidleRow with an EIDLE block on a port that is UP: the port idles, and every
lane of it in UP is frozen. (7) retrain of a port in use, the host reaching the port's bead: the port trains, its map
and the identities of its lanes are unknown, and the sensor is told to train. (8) spareMapWrite of a bad logical lane
onto a free spare, with AUTO and between frames: the sensor is told. (9) sckEnable and sckDisable, the host reaching
the clock's bead: EN is 1, and 0. (10) ibi on a control bus in use while LNK is not isolated: an in-band interrupt is
counted and goes to firmware with its address and at most four bytes, and a hot-join request is not acknowledged.
(spec R99, R100, R101, R104, R107, R108, R109, R110, R112, R113, R115, R116) -/
def Obligations.LinkTraining : Prop :=
  (∀ (port : Fin 2) (lane : Fin 34) (blk : Block66) (d : List Byte) (s : State),
      s.on (R.LINK_CTL_EN port) = true →
      s.lane 1 (port.val * 34 + lane.val) = lnAlign →
      s.on (I.SRX_BLK port lane) = true →
      blockOf blk = .ts d →
      checkOk d = true →
      byteAt d 3 = s.srxN port ∧ fieldLE d 4 3 = s.get (I.LANE_RATE 1 (port.val * 34 + lane.val)) ∧ byteAt d 2 = s.srxRole port →
      s.get (I.SRX_TSVAL port lane) = byteAt d 1 + 1 →
      7 ≤ s.get (I.SRX_TSCNT port lane) →
      s.get (R.LINK_STAT_STATE port) ≠ 1 →
      ∃ t : State, exec (.tsBlock port lane blk) s = .next t ∧
        t.get (I.SRX_ID port lane) = (byteAt d 1 + 1) % 2 ^ (I.SRX_ID 0 0).w ∧
        (byteAt d 1 < s.srxN port → t.on (R.LMAP_V port (byteAt d 1 / 4) (byteAt d 1 % 4)) = true)) ∧
  (∀ (port : Fin 2) (lane : Fin 34) (headers : List (BitVec 2)) (s : State),
      s.lane 1 (port.val * 34 + lane.val) = lnAlign ∨ s.lane 1 (port.val * 34 + lane.val) = lnUp →
      validRun (if s.on (I.SRX_WAKE port lane) then 32 else 64) headers = true →
      ∃ t : State, exec (.blockLock port lane headers) s = .next t ∧
        t.on (I.SRX_BLK port lane) = true ∧
        t.lane 1 (port.val * 34 + lane.val) = s.lane 1 (port.val * 34 + lane.val)) ∧
  (∀ (port : Fin 2) (lane : Fin 34) (headers : List (BitVec 2)) (s : State),
      s.on (I.SRX_BLK port lane) = true →
      s.lane 1 (port.val * 34 + lane.val) = lnUp →
      headers.length ≤ 64 →
      16 ≤ (headers.filter (fun h => !headerOk h)).length →
      ∃ t : State, exec (.blockLockLoss port lane headers) s = .next t ∧
        t.on (I.SRX_BLK port lane) = false ∧
        t.lane 1 (port.val * 34 + lane.val) = lnAlign ∧
        t.get (R.LH_SHDR_CNT port (s.lhIndex port lane)) = min (s.get (R.LH_SHDR_CNT port (s.lhIndex port lane)) + (headers.filter (fun h => !headerOk h)).length) 0xFFFF) ∧
  (∀ (port : Fin 2) (lane : Fin 34) (s : State),
      s.lane 1 (port.val * 34 + lane.val) = lnAlign →
      ∃ t : State, exec (.alignTimeout port lane) s = .next t ∧
        t.get (R.LH_ALIGN_FAIL port (s.lhIndex port lane)) = min (s.get (R.LH_ALIGN_FAIL port (s.lhIndex port lane)) + 1) 8 ∧
        (s.get (R.LH_ALIGN_FAIL port (s.lhIndex port lane)) < 7 → t.lane 1 (port.val * 34 + lane.val) = lnLock ∧ t.on (I.SRX_BLK port lane) = false) ∧
        (7 ≤ s.get (R.LH_ALIGN_FAIL port (s.lhIndex port lane)) → t.lane 1 (port.val * 34 + lane.val) = lnAlign ∧ t.on (R.LH_BAD port (s.lhIndex port lane)) = true)) ∧
  (∀ (port : Fin 2) (skew : BitVec 16) (inPacket : Bool) (marks : List AmLane) (k : Nat) (d : List Byte) (b : Bool) (rest : List (Nat × List Byte × Bool)) (s : State),
      s.on (R.LINK_CTL_EN port) = true →
      2 ≤ s.get (R.LINK_STAT_STATE port) →
      goodMarks marks = (k, d, b) :: rest →
      ∃ t : State, exec (.amRow port skew inPacket marks) s = .next t ∧
        t.get (R.LINK_STAT_AM_SEQ port) = fieldLE d 4 2 ∧
        (∀ j ∈ List.range 34, t.get (I.LANE_FRZREQ 1 (port.val * 34 + j)) = 0) ∧
        (skew.toNat ≤ 264 → t.get (R.LINK_STAT_STATE port) = 3 ∧ t.on (I.SRX_TRAINED port) = true) ∧
        (264 < skew.toNat → t.get (R.LINK_STAT_STATE port) = 2 ∧ t.get (R.LINK_ERR_DESKEW port) = 1)) ∧
  (∀ (port : Fin 2) (row : List LaneBlock) (s : State),
      s.get (R.LINK_STAT_STATE port) = 3 →
      row.any (fun b => blockOf b.blk == .eidle) = true →
      ∃ t : State, exec (.eidleRow port row) s = .next t ∧
        t.get (R.LINK_STAT_STATE port) = 4 ∧
        (∀ k ∈ List.range 34, s.lane 1 (port.val * 34 + k) = lnUp → t.get (R.LN_STAT_FROZEN 1 (port.val * 34 + k)) = 1)) ∧
  (∀ (port : Fin 2) (s : State),
      Safety.reachesBead s 1 port →
      s.on (R.LINK_CTL_EN port) = true →
      ∃ t : State, exec (.retrain port) s = .next t ∧
        t.get (R.LINK_STAT_STATE port) = 1 ∧
        (∀ i ∈ List.range 32, t.on (R.LMAP_V port (i / 4) (i % 4)) = false) ∧
        (∀ k ∈ List.range 34, t.get (I.SRX_ID port k) = 0) ∧
        t.out = s.out ++ [Out.sensorPage port 0xFF07 1]) ∧
  (∀ (port spare : Fin 2) (logical : Fin 32) (s : State),
      s.on (R.SPARE_CTL_AUTO port) = true →
      s.on (R.LH_BAD port logical) = true →
      s.get (if spare.val = 0 then R.SPARE_CTL_SPARE0_LOG port else R.SPARE_CTL_SPARE1_LOG port) = 0x3F →
      s.openFrame (s.lport port) = none →
      ∃ t : State, exec (.spareMapWrite port spare logical) s = .next t ∧
        t.out = s.out ++ [Out.sensorPage port (0xFF08 + spare.val) logical]) ∧
  (∀ (n : Fin 2) (s : State),
      Safety.reachesBead s 1 (9 + n.val) →
      ∃ t : State, exec (.sckEnable n) s = .next t ∧
        t.get (R.SCK_EN n) = 1 ∧
        t.get (I.PIN_SCK n) = 1) ∧
  (∀ (n : Fin 2) (s : State),
      Safety.reachesBead s 1 (9 + n.val) →
      ∃ t : State, exec (.sckDisable n) s = .next t ∧
        t.get (R.SCK_EN n) = 0 ∧
        t.get (I.PIN_SCK n) = 0) ∧
  (∀ (bus : Fin 2) (req : IbiReq) (a : BitVec 7) (l : List Byte) (s : State),
      s.isolated 1 = false →
      s.on (R.I3C_EN bus) = true →
      req = .ibi a l →
      ∃ t : State, exec (.ibi bus req) s = .next t ∧
        t.get (R.I3C_IBI_CNT bus) = min (s.get (R.I3C_IBI_CNT bus) + 1) (2 ^ (R.I3C_IBI_CNT bus).w - 1) ∧
        t.out = s.out ++ [Out.i3cIbi bus a.toNat (l.take 4)]) ∧
  (∀ (bus : Fin 2) (req : IbiReq) (s : State),
      s.isolated 1 = false →
      s.on (R.I3C_EN bus) = true →
      req = .hotJoin →
      ∃ t : State, exec (.ibi bus req) s = .next t ∧
        t.out = s.out ++ [Out.i3cNack bus] ∧
        t.regs = s.regs)

/-- Each of these commands completes, for every port and every state that meets the conditions named; a packet is one
that the blocks make, with no error, on a port that is UP, and the port stands alone unless the pair is named. (1)
fsPacket, with no commit of LNK pending and no open frame of the pair that waits for this port's FS: the next tag is
taken, and the open frame of the port, or of the pair, has that tag and the packet's FCNT. (2) fePacket with the FCNT
of the open frame: the frame closes now; the first FE of a pair's frame is noted. (3) linePacket of the port's length
and the open frame's FCNT, of a line not before the next one and within the frame, where the frame has neither
overflowed nor been found to differ from the configuration and the FIFO has room: that line is real and the next one
is expected after it; of a pair, the first half waits for the other. (4) obPacket in the same conditions: the next
optical black line is expected. (5) embPacket: its payload joins the frame's metadata, up to 32 KiB. (6) vendorPacket:
counted, and no frame changes. (7) an fsPacket that fails its header check is lost, counted, flagged and announced.
(8) pairTimeout of the one line half that waits for a port: it is lost with the PAIR flag. (9) portEnable of a port
not in use, the host reaching its bead: in use, re-aligning where its map is known and training where it is not. (10)
portDisable of a port in use without an open frame, the host reaching its bead: out of use. (11) frameTimeout of an
open frame while no synthesis waits: the frame closes now. (spec R101, R103, R105, R106, R113, R118, R119, R123, R124,
R126, R127) -/
def Obligations.SensorPackets : Prop :=
  (∀ (port : Fin 2) (pkt : Packet) (x : Pkt) (s : State),
      s.portUp port = true →
      (streamOf pkt.first.val (pkt.blocks.map blockOf)).2 = some x →
      x.err = none ∧ x.ptype = 1 →
      s.get (R.COMMIT_PEND 1) = 0 →
      s.lport port = port ∨ s.openFrame 2 = none →
      ∃ t : State, exec (.fsPacket port pkt) s = .next t ∧
        t.get R.FTAG_LAST_TAG = s.nextTag ∧
        (t.openFrame (s.lport port)).map (fun f : Frame => (f.tag, f.fcnt, f.port)) = some (s.nextTag, x.arg % 2 ^ 24, s.lport port)) ∧
  (∀ (port : Fin 2) (pkt : Packet) (x : Pkt) (f : Frame) (s : State),
      s.portUp port = true →
      (streamOf pkt.first.val (pkt.blocks.map blockOf)).2 = some x →
      x.err = none ∧ x.ptype = 1 →
      s.lport port = 2 →
      s.openFrame 2 = some f →
      s.frame f.tag = some f →
      f.fcnt = x.arg ∧ bit f.fsMask port = false →
      ∃ t : State, exec (.fsPacket port pkt) s = .next t ∧
        t.get R.FTAG_LAST_TAG = s.get R.FTAG_LAST_TAG ∧
        (t.frame f.tag).map (fun g : Frame => g.fsMask) = some (setBit f.fsMask port)) ∧
  (∀ (port : Fin 2) (pkt : Packet) (x : Pkt) (f : Frame) (s : State),
      s.portUp port = true →
      (streamOf pkt.first.val (pkt.blocks.map blockOf)).2 = some x →
      x.err = none ∧ x.ptype = 2 →
      s.openFrame (s.lport port) = some f →
      s.frame f.tag = some f →
      f.fcnt = x.arg →
      s.lport port = port ∨ setBit f.feMask port = 3 →
      s.on (I.SYNTH_WAIT (sp (s.lport port))) = false →
      ∃ t : State, exec (.fePacket port pkt) s = .next t ∧
        (t.frame f.tag).map (fun g : Frame => (g.closed, g.closeTime)) = some (true, s.now)) ∧
  (∀ (port : Fin 2) (pkt : Packet) (x : Pkt) (f : Frame) (s : State),
      s.portUp port = true →
      (streamOf pkt.first.val (pkt.blocks.map blockOf)).2 = some x →
      x.err = none ∧ x.ptype = 2 →
      s.lport port = 2 →
      s.openFrame 2 = some f →
      s.frame f.tag = some f →
      f.fcnt = x.arg →
      setBit f.feMask port ≠ 3 →
      ∃ t : State, exec (.fePacket port pkt) s = .next t ∧
        (t.frame f.tag).map (fun g : Frame => (g.closed, g.feMask)) = some (false, setBit f.feMask port)) ∧
  (∀ (port : Fin 2) (pkt : Packet) (x : Pkt) (f : Frame) (s : State),
      s.portUp port = true →
      (streamOf pkt.first.val (pkt.blocks.map blockOf)).2 = some x →
      x.err = none ∧ x.ptype = 0x10 →
      s.lport port = port →
      x.len = s.portLen port →
      s.openFrame port = some f →
      s.frame f.tag = some f →
      f.fcnt % 256 = x.arg / 2 ^ 16 →
      f.overflow = none ∧ s.fifoFull port pkt x = false ∧ f.mismatch = false →
      f.next ≤ x.arg % 2 ^ 14 ∧ x.arg % 2 ^ 14 < f.lines →
      ∀ h ∈ s.lnk.halves, h.port ≠ port.val →
      ∃ t : State, exec (.linePacket port pkt) s = .next t ∧
        (t.frame f.tag).map (fun g : Frame => (g.real, g.next)) = some (f.real ++ [x.arg % 2 ^ 14], x.arg % 2 ^ 14 + 1)) ∧
  (∀ (port : Fin 2) (pkt : Packet) (x : Pkt) (f : Frame) (s : State),
      s.portUp port = true →
      (streamOf pkt.first.val (pkt.blocks.map blockOf)).2 = some x →
      x.err = none ∧ x.ptype = 0x10 →
      s.lport port = 2 →
      x.len = s.portLen port →
      s.openFrame 2 = some f →
      f.fcnt % 256 = x.arg / 2 ^ 16 →
      f.overflow = none ∧ s.fifoFull port pkt x = false ∧ f.mismatch = false →
      f.next ≤ x.arg % 2 ^ 14 ∧ x.arg % 2 ^ 14 < f.lines →
      s.lnk.halves = [] →
      ∃ t : State, exec (.linePacket port pkt) s = .next t ∧
        t.lnk.halves = [⟨port.val, false, x.arg % 2 ^ 14, x.payload⟩] ∧
        t.frames = s.frames) ∧
  (∀ (port : Fin 2) (pkt : Packet) (x : Pkt) (f : Frame) (s : State),
      s.portUp port = true →
      (streamOf pkt.first.val (pkt.blocks.map blockOf)).2 = some x →
      x.err = none ∧ x.ptype = 0x11 →
      s.lport port = port →
      x.len = s.portLen port →
      s.openFrame port = some f →
      s.frame f.tag = some f →
      f.fcnt % 256 = x.arg / 2 ^ 16 →
      f.overflow = none ∧ s.fifoFull port pkt x = false ∧ f.mismatch = false →
      f.nextOb ≤ x.arg % 2 ^ 14 ∧ x.arg % 2 ^ 14 < f.obLines →
      ∀ h ∈ s.lnk.halves, h.port ≠ port.val →
      ∃ t : State, exec (.obPacket port pkt) s = .next t ∧
        (t.frame f.tag).map (fun g : Frame => g.nextOb) = some (x.arg % 2 ^ 14 + 1)) ∧
  (∀ (port : Fin 2) (pkt : Packet) (x : Pkt) (f : Frame) (s : State),
      s.portUp port = true →
      (streamOf pkt.first.val (pkt.blocks.map blockOf)).2 = some x →
      x.err = none ∧ x.ptype = 0x20 →
      s.openFrame (s.lport port) = some f →
      s.frame f.tag = some f →
      f.fcnt % 256 = x.arg / 2 ^ 16 →
      f.overflow = none ∧ s.fifoFull port pkt x = false →
      ∃ t : State, exec (.embPacket port pkt) s = .next t ∧
        (t.frame f.tag).map (fun g : Frame => g.emb) = some (f.emb ++ x.payload.take (32768 - f.emb.length))) ∧
  (∀ (port : Fin 2) (pkt : Packet) (x : Pkt) (s : State),
      s.portUp port = true →
      (streamOf pkt.first.val (pkt.blocks.map blockOf)).2 = some x →
      x.err = none ∧ x.ptype / 16 = 3 →
      ∃ t : State, exec (.vendorPacket port pkt) s = .next t ∧
        t.get (R.VENDOR_CNT_VENDOR port) = min (s.get (R.VENDOR_CNT_VENDOR port) + 1) (2 ^ (R.VENDOR_CNT_VENDOR port).w - 1) ∧
        t.frames = s.frames) ∧
  (∀ (port : Fin 2) (pkt : Packet) (x : Pkt) (s : State),
      s.portUp port = true →
      (streamOf pkt.first.val (pkt.blocks.map blockOf)).2 = some x →
      x.err = some .hcrc →
      ∃ t : State, exec (.fsPacket port pkt) s = .next t ∧
        t.get (R.LINK_ERR_HCRC port) = 1 ∧
        t.get (R.LINK_ERR_LOST_CNT port) = min (s.get (R.LINK_ERR_LOST_CNT port) + 1) (2 ^ (R.LINK_ERR_LOST_CNT port).w - 1) ∧
        t.frames = s.frames ∧
        Safety.isRaised t (E.linkErr port)) ∧
  (∀ (port : Fin 2) (fs : Bool) (h : Half) (s : State),
      fs = false →
      s.lnk.halves.filter (fun x => decide (x.port = port.val)) = [h] →
      ∃ t : State, exec (.pairTimeout port fs) s = .next t ∧
        t.lnk.halves = s.lnk.halves.erase h ∧
        t.get (R.LINK_ERR_PAIR port) = 1) ∧
  (∀ (port : Fin 2) (s : State),
      Safety.reachesBead s 1 port →
      s.on (R.LINK_CTL_EN port) = false →
      ∃ t : State, exec (.portEnable port) s = .next t ∧
        t.get (R.LINK_CTL_EN port) = 1 ∧
        t.get (R.LINK_STAT_STATE port) = (if (List.range (4 * 2 ^ s.inForce (R.LINK_CTL_N port))).all (fun i => s.on (R.LMAP_V port (i / 4) (i % 4))) then 5 else 1) ∧
        t.get (I.PORT_FRESH (s.lport port)) = 1) ∧
  (∀ (port : Fin 2) (s : State),
      Safety.reachesBead s 1 port →
      s.on (R.LINK_CTL_EN port) = true →
      s.openFrame (s.lport port) = none →
      ∃ t : State, exec (.portDisable port) s = .next t ∧
        t.get (R.LINK_CTL_EN port) = 0 ∧
        t.get (R.LINK_STAT_STATE port) = 0) ∧
  (∀ (port : Fin 2) (f : Frame) (s : State),
      s.openFrame (s.lport port) = some f →
      s.frame f.tag = some f →
      s.on (I.SYNTH_WAIT (sp (s.lport port))) = false →
      ∃ t : State, exec (.frameTimeout port) s = .next t ∧
        (t.frame f.tag).map (fun g : Frame => (g.closed, g.closeTime)) = some (true, s.now))

/-- Each of these commands completes, for every port and every state that meets the conditions named; a host command
needs that the host reaches the bead of its registers. (1) exqPost of a slot whose set still waits: ignored, flagged
BAD_DESC and announced, and no set changes. (2) exqPost of a free slot, not of port 1 in pair mode, whose descriptor
reads OK and is good: its set is the last of the queue, as the descriptor has it while no write window is open, and
PENDING counts one more. (3) exqBusDone with an acknowledge, while no write window is open or no write of the queue
still waits to be sent: every sent write of the set is done, and the queue's other sets stay. (4) exqBusDone without
one, while no window is open: the set is missed, which SLIPPED or UNSURE shows. (5) exqWindowClose of an open window:
it is closed. (6) exsModeChange to 0 from another mode: the schedule has no slot and the pins are released; to 1 or 2
from 0: the mode is taken and no slot has passed. (7) expsyncFramePulse with the schedule on, LNK not isolated: the
frame pin is active, and with LINE_EN the line pin, one line pulse being sent. (8) expsyncLinePulse within a train of
LINE_CNT pulses: one pulse more. (9) expsyncPulseEnd, in every state: its pin is released. (10) refinEdge of the
selected polarity and at least 100 ns wide: it is the last edge known; and while a good period is known and there is
no holdover, one that agrees with it is the edge that the schedule goes by. (11) refinLoss with a good period known
and no holdover: holdover, announced, with nothing on trial. (12) slotDeadline of a slot that waits, LNK not isolated,
the schedule on and the port in use (port 0 stands for the pair): with a frame open the synthesis waits for its close;
with none a frame of the next tag is synthesised and closes. (spec R128, R129, R130, R131, R135, R136, R137) -/
def Obligations.ExposureAndTiming : Prop :=
  (∀ (port : Fin 2) (slot : Fin 8) (s : State),
      Safety.reachesBead s 1 6 →
      (s.setsOf (s.lport port)).any (fun e => decide (e.slot = slot.val)) = true →
      ∃ t : State, exec (.exqPost port slot) s = .next t ∧
        t.get (R.EXQ_STAT_BAD_DESC port) = 1 ∧
        t.lnk = s.lnk ∧
        Safety.isRaised t (E.setBad port)) ∧
  (∀ (port : Fin 2) (slot : Fin 8) (e : ExpSet) (s : State),
      Safety.reachesBead s 1 6 →
      s.pairOn = false ∨ port.val = 0 →
      (s.setsOf (s.lport port)).any (fun e => decide (e.slot = slot.val)) = false →
      (s.trayReadAs 1 1 (s.get R.EXQ_RING_GRAN * granBytes + 4096 * port.val + 256 * slot.val) 256).2.1 = 0 →
      expSet (s.lport port) slot (s.trayReadAs 1 1 (s.get R.EXQ_RING_GRAN * granBytes + 4096 * port.val + 256 * slot.val) 256).1 = some e →
      ∃ t : State, exec (.exqPost port slot) s = .next t ∧
        t.lnk.sets.map (fun x : ExpSet => (x.port, x.slot, x.setId)) = s.lnk.sets.map (fun x : ExpSet => (x.port, x.slot, x.setId)) ++ [(e.port, e.slot, e.setId)] ∧
        (s.on (I.EXQ_OPEN (s.lport port)) = false → t.lnk.sets = s.lnk.sets ++ [e]) ∧
        t.get (R.EXQ_STAT_PENDING (sp (s.lport port))) = ((s.setsOf (s.lport port)).length + 1) % 2 ^ (R.EXQ_STAT_PENDING 0).w) ∧
  (∀ (port : Fin 2) (ack : Bool) (e : ExpSet) (s : State),
      ack = true →
      (s.setsOf (s.lport port)).find? (fun e => e.writes.any (fun w => w.sent && !w.done)) = some e →
      s.on (I.EXQ_OPEN (s.lport port)) = false ∨ ∀ x ∈ s.setsOf (s.lport port), ∀ w ∈ x.writes, w.sent = true ∨ w.done = true →
      ∃ t : State, exec (.exqBusDone port ack) s = .next t ∧
        t.setsOf (s.lport port) = (s.setsOf (s.lport port)).map (fun x : ExpSet => if x.slot = e.slot then { x with writes := x.writes.map (fun w : ExpWrite => if w.sent then { w with done := true } else w) } else x)) ∧
  (∀ (port : Fin 2) (ack : Bool) (e : ExpSet) (s : State),
      ack = false →
      (s.setsOf (s.lport port)).find? (fun e => e.writes.any (fun w => w.sent && !w.done)) = some e →
      e.target.isSome = true →
      s.on (I.EXQ_OPEN (s.lport port)) = false →
      ∃ t : State, exec (.exqBusDone port ack) s = .next t ∧
        t.get (R.EXQ_STAT_SLIPPED (sp (s.lport port))) = 1 ∨ t.get (R.EXQ_STAT_UNSURE (sp (s.lport port))) = 1) ∧
  (∀ (port : Fin 2) (s : State),
      s.on (I.EXQ_OPEN (s.lport port)) = true →
      ∃ t : State, exec (.exqWindowClose port) s = .next t ∧
        t.get (I.EXQ_OPEN (s.lport port)) = 0) ∧
  (∀ (port : Fin 2) (mode : Fin 4) (s : State),
      Safety.reachesBead s 1 (7 + port.val) →
      mode = 0 →
      s.get (R.EXS_CTL_MODE port) ≠ 0 →
      ∃ t : State, exec (.exsModeChange port mode) s = .next t ∧
        t.get (R.EXS_CTL_MODE port) = 0 ∧
        t.get (I.EXS_SLOT port) = 0 ∧
        t.get (I.PIN_FRAME port) = 0 ∧
        t.get (I.PIN_LINE port) = 0) ∧
  (∀ (port : Fin 2) (mode : Fin 4) (s : State),
      Safety.reachesBead s 1 (7 + port.val) →
      mode = 1 ∨ mode = 2 →
      s.get (R.EXS_CTL_MODE port) = 0 →
      ∃ t : State, exec (.exsModeChange port mode) s = .next t ∧
        t.get (R.EXS_CTL_MODE port) = mode.val ∧
        t.get (I.EXS_PREV port) = 0) ∧
  (∀ (port : Fin 2) (s : State),
      s.isolated 1 = false →
      s.get (R.EXS_CTL_MODE port) ≠ 0 →
      ∃ t : State, exec (.expsyncFramePulse port) s = .next t ∧
        t.get (I.PIN_FRAME port) = 1 ∧
        t.get (I.PIN_LINE port) = ofBool (s.on (R.EXS_CTL_LINE_EN port)) ∧
        t.get (I.LINE_SENT port) = ofBool (s.on (R.EXS_CTL_LINE_EN port))) ∧
  (∀ (port : Fin 2) (s : State),
      s.isolated 1 = false →
      s.on (R.EXS_CTL_LINE_EN port) = true →
      s.get (R.EXS_CTL_MODE port) ≠ 0 →
      s.get (I.LINE_SENT port) ≠ 0 →
      s.get (I.LINE_SENT port) < s.inForce (R.EXS_LEAD_LINE_CNT port) →
      ∃ t : State, exec (.expsyncLinePulse port) s = .next t ∧
        t.get (I.PIN_LINE port) = 1 ∧
        t.get (I.LINE_SENT port) = (s.get (I.LINE_SENT port) + 1) % 2 ^ 200) ∧
  (∀ (port : Fin 2) (line : Bool) (s : State),
      ∃ t : State, exec (.expsyncPulseEnd port line) s = .next t ∧
        t.get (if line then I.PIN_LINE port else I.PIN_FRAME port) = 0) ∧
  (∀ (falling : Bool) (pulse : BitVec 32) (s : State),
      100 ≤ pulse.toNat →
      falling = s.on R.REF_CFG_EDGE →
      ∃ t : State, exec (.refinEdge falling pulse) s = .next t ∧
        t.get I.REF_LAST = (s.now + 1) % 2 ^ 200 ∧
        (s.get I.REF_LAST ≠ 0 → s.refMean ≠ 0 → s.on R.REF_STAT_HOLDOVER = false → s.refAgree (s.now + 1 - s.get I.REF_LAST) s.refMean = true → t.get I.REF_EDGE = (s.now + 1) % 2 ^ 200 ∧ t.lnk.trial = [])) ∧
  (∀ (s : State),
      s.refMean ≠ 0 →
      s.on R.REF_STAT_HOLDOVER = false →
      ∃ t : State, exec .refinLoss s = .next t ∧
        t.get R.REF_STAT_HOLDOVER = 1 ∧
        t.get R.REF_STAT_HOLD_EV = 1 ∧
        t.lnk.trial = [] ∧
        Safety.isRaised t E.refHoldover) ∧
  (∀ (port : Fin 2) (s : State),
      s.isolated 1 = false →
      s.get (R.EXS_CTL_MODE port) ≠ 0 →
      s.on (I.EXS_SLOT port) = true →
      s.lport port = port ∨ port.val = 0 →
      s.on (R.LINK_CTL_EN port) = true →
      s.openFrame (s.lport port) = none →
      ∃ t : State, exec (.slotDeadline port) s = .next t ∧
        t.get R.FTAG_LAST_TAG = s.nextTag ∧
        t.get (R.FRM_STAT_SYNTH port) = 1 ∧
        (t.frame s.nextTag).map (fun g : Frame => (g.closed, bit g.info 1)) = some (true, true)) ∧
  (∀ (port : Fin 2) (s : State),
      s.isolated 1 = false →
      s.get (R.EXS_CTL_MODE port) ≠ 0 →
      s.on (I.EXS_SLOT port) = true →
      s.lport port = port ∨ port.val = 0 →
      s.on (R.LINK_CTL_EN port) = true →
      (s.openFrame (s.lport port)).isSome = true →
      ∃ t : State, exec (.slotDeadline port) s = .next t ∧
        t.get (I.SYNTH_WAIT port) = 1 ∧
        t.get (I.EXS_PREV port) = s.get (I.EXS_SLOT port) % 2 ^ 200)

/-- Each of these commands completes, for every image rod or LUT slot and every state that meets the conditions named.
(1) imgJobStart of a rod that is ready for a frame, in the latency position, or without vectors, or with the vector
set of that frame there: the rod runs the job of the frame and stripe that it is ready for, the job is open, and
STRIPE tells the stripe. (2) vecWaitTimeout of a rod in the quality position that is ready for a frame whose vector
set has not come: the job begins without it. (3) imgJobEnd of a rod's job whose frame is not open: the job is over.
(4) dcgRatioUpdate with AUTO and sums of the tag named in every active rod that together give a ratio: the ratio is
staged in each of them that is not isolated, and in the spare where it is armed, and the values in force stay. (5)
motSetComplete where the oldest open job of MOT is of a closed frame whose set stands in a slot: LAST_TAG is the
frame's tag. (6) lutInval, the host reaching CTL: a slot that no rod names is EMPTY; one that a rod names stays as it
is, and the write is rejected. (7) lutCheck of an EMPTY or BAD slot, the host reaching CTL: CHECK. (8) lutCheckDone of
a slot in CHECK: READY and announced where its table reads whole and matches its CRC; BAD, recorded and announced
otherwise. (9) lutRecheck: the next READY slot is READY or BAD in the same way, and the one after it is next. (spec
R140, R145, R161, R196, R157, R167, R184, R185, R186) -/
def Obligations.ImageJobs : Prop :=
  (∀ (n : Fin 5) (refPoison : Bool) (f : Frame) (k : Nat) (s : State),
      s.imgReady n = some (f, k) →
      s.tnrQuality = false ∨ s.tnrVectors n = false ∨ (s.vecSet f.tag).isSome = true →
      ∃ t : State, exec (.imgJobStart n refPoison) s = .next t ∧
        t.imgs.any (fun j : ImgJob => decide (j.rod = 2 + n.val ∧ j.k = k ∧ j.tag = f.tag)) = true ∧
        stripeJob n k f.tag ∈ t.jobs ∧
        t.get (R.STRIPE_IDX n) = k % 2 ^ (R.STRIPE_IDX n).w ∧
        t.get (I.IMG_LAST n) = f.tag % 2 ^ 200) ∧
  (∀ (n : Fin 5) (refPoison : Bool) (f : Frame) (k : Nat) (s : State),
      s.imgReady n = some (f, k) →
      s.tnrQuality = true →
      s.vecSet f.tag = none →
      ∃ t : State, exec (.vecWaitTimeout n refPoison) s = .next t ∧
        t.imgs.any (fun j : ImgJob => decide (j.rod = 2 + n.val ∧ j.k = k ∧ j.tag = f.tag)) = true ∧
        t.get (R.STRIPE_IDX n) = k % 2 ^ (R.STRIPE_IDX n).w) ∧
  (∀ (n : Fin 5) (upset : List (BitVec 23)) (j : ImgJob) (s : State),
      s.imgs.find? (fun j => decide (j.rod = 2 + n.val)) = some j →
      (s.frame j.tag).any (fun f => !f.closed) = false →
      ∃ t : State, exec (.imgJobEnd n upset) s = .next t ∧
        t.imgs = s.imgs.erase j) ∧
  (∀ (tag : BitVec 32) (n g : Nat) (rest : List Nat) (s : State),
      (List.range s.stripes).map (fun k => s.stripeRod k - 2) = n :: rest →
      s.inForce (R.DCG_RATIO_AUTO n) = 1 →
      ∀ r ∈ n :: rest, s.get (R.DCG_SUM_S r 0) = tag.toNat →
      s.dcgRatio (n :: rest) n = some g →
      ∃ t : State, exec (.dcgRatioUpdate tag) s = .next t ∧
        (∀ r ∈ n :: rest, s.isolated (2 + r) = false → t.get (R.DCG_RATIO_G r) = g % 2 ^ 22) ∧
        (s.spareArmed = true → s.isolated 6 = false → t.get (R.DCG_RATIO_G 4) = g % 2 ^ 22) ∧
        (∀ r ∈ n :: rest, t.inForce (R.DCG_RATIO_G r) = s.inForce (R.DCG_RATIO_G r))) ∧
  (∀ (j : Job) (f : Frame) (a : Nat) (s : State),
      s.jobs.find? (fun j => decide (j.rod = 7)) = some j →
      s.frame j.tag = some f →
      f.closed = true →
      ((List.range (s.inForce R.VST_RING_DEPTH)).map (s.vecSlot f)).find? (fun a => decide (fieldLE (s.trayRead a 4) 0 4 = f.tag)) = some a →
      ∃ t : State, exec .motSetComplete s = .next t ∧
        t.get R.VST_LAST_TAG = f.tag % 2 ^ 32) ∧
  (∀ (m : Fin 4) (s : State),
      Safety.reaches s 0 →
      s.lutNamed m = false →
      ∃ t : State, exec (.lutInval m) s = .next t ∧
        t.get (R.SLOT_STAT_STATE m) = 0) ∧
  (∀ (m : Fin 4) (s : State),
      Safety.reaches s 0 →
      s.lutNamed m = true →
      ∃ t : State, exec (.lutInval m) s = .next t ∧
        t.get (R.SLOT_STAT_STATE m) = s.get (R.SLOT_STAT_STATE m) ∧
        t.get (R.WR_RANGE_WR 0) = 1) ∧
  (∀ (m : Fin 4) (s : State),
      Safety.reaches s 0 →
      s.get (R.SLOT_STAT_STATE m) = 0 ∨ s.get (R.SLOT_STAT_STATE m) = 3 →
      ∃ t : State, exec (.lutCheck m) s = .next t ∧
        t.get (R.SLOT_STAT_STATE m) = 1) ∧
  (∀ (m : Fin 4) (s : State),
      s.get (R.SLOT_STAT_STATE m) = 1 →
      ∃ t : State, exec (.lutCheckDone m) s = .next t ∧
        t.get (R.SLOT_STAT_STATE m) = (if (s.lutGood m).1 then 2 else 3) ∧
        ((s.lutGood m).1 = true → Safety.isRaised t E.lutReady) ∧
        ((s.lutGood m).1 = false → t.get (R.SLOT_STAT_BAD_EV m) = 1 ∧ Safety.isRaised t E.lutBad)) ∧
  (∀ (m : Nat) (s : State),
      ((List.range 4).map (fun i => (s.get I.LUT_PTR + i) % 4)).find? (fun m => decide (s.get (R.SLOT_STAT_STATE m) = 2)) = some m →
      ∃ t : State, exec .lutRecheck s = .next t ∧
        t.get I.LUT_PTR = (m + 1) % 4 ∧
        t.get (R.SLOT_STAT_STATE m) = (if (s.lutGood m).1 then 2 else 3))

/-- Each of these commands completes, for every rod or stripe and every state that meets the conditions named. (1)
jobWatchdog of an image rod with a job, lbParity, and substTest of an image rod with the host reaching CTL, where the
rod is powered, runs and is not the idle spare: the rod is in reset behind its proxy, its ROD_STAT shows HANG or
LB_PARITY, and ROD_FATAL is raised. A jobWatchdog of a rod that runs stripe k with no spare armed: the stripe is lost,
recorded and announced. lbParity or substTest of the idle and armed spare, which is not yet bad while no patch drains:
the spare is lost and announced; lbParity shows besides that it is marked bad and not held. substTest of a number
outside 2 to 6, the host reaching CTL: a range error. (2) substCopyDone of a stripe that waits for the spare, the
spare fit and not isolated: the spare runs it from the frames the faulted rod left; of a stripe that waits for its own
rod, which is not isolated: that rod runs it. (3) substReturn, the host reaching CTL, of a substitution in force whose
own rod is not isolated: that rod runs the stripe and STRIPE_RETURN is raised. (4) timeout of an open transaction to a
port of CTL whose requester is no image rod: it ends with TIMEOUT, recorded in RST.BEAM. (5) rodProbe of silent rods
and regParity, for a rod that is powered and runs and is none of CTL, MEM and the image rods, while no patch drains:
where RST.AUTO does not cover it, it is in reset behind its proxy, held by ROD_HOLD, shown HELD and announced; a
regParity that RST.AUTO covers, its limit not reached, puts it in reset, shown FAULT_RST and announced. (6)
rodHoldSet, the host reaching AON, of a powered rod other than CTL and MEM that no patch names or restrings and that
is not held: one that runs is in reset behind its proxy, and one that becomes ready is in reset again, with its bit of
ROD_HOLD set. (spec R168, R169, R171, R172, R486, R491, R18) -/
def Obligations.FatalFaults : Prop :=
  (∀ (n : Fin 5) (s : State),
      s.imgs.any (fun j => decide (j.rod = 2 + n.val)) = true →
      s.isolated (2 + n) = false →
      n.val ≠ 4 ∨ (s.rodStripe 6).isSome = true →
      s.get (I.RSTST (2 + n)) = 0 →
      s.on (I.PWR_ON (2 + n)) = true →
      ∃ t : State, exec (.jobWatchdog n) s = .next t ∧
        t.get (I.RSTST (2 + n)) = 1 ∧
        t.isolated (2 + n) = true ∧
        t.get (R.IMG_STAT_HANG n) = 1 ∧
        Safety.isRaised t (E.rodFatal n)) ∧
  (∀ (n : Fin 5) (k : Nat) (s : State),
      s.imgs.any (fun j => decide (j.rod = 2 + n.val)) = true →
      s.isolated (2 + n) = false →
      s.rodStripe (2 + n) = some k →
      s.spareArmed = false →
      ∃ t : State, exec (.jobWatchdog n) s = .next t ∧
        t.get (I.STRIPE_OUT k) = 3 ∧
        t.get R.SUBST_STAT_LOST = 1 ∧
        Safety.isRaised t E.stripeLost) ∧
  (∀ (n : Fin 5) (s : State),
      s.isolated (2 + n) = false →
      n.val ≠ 4 ∨ (s.rodStripe 6).isSome = true →
      s.get (I.RSTST (2 + n)) = 0 →
      s.on (I.PWR_ON (2 + n)) = true →
      ∃ t : State, exec (.lbParity n) s = .next t ∧
        t.get (I.RSTST (2 + n)) = 1 ∧
        t.isolated (2 + n) = true ∧
        t.get (R.IMG_STAT_LB_PARITY n) = 1 ∧
        Safety.isRaised t (E.rodFatal n)) ∧
  (∀ (n : Fin 5) (s : State),
      n = 4 →
      s.isolated 6 = false →
      s.rodStripe 6 = none →
      s.spareArmed = true →
      s.on I.SPARE_BAD = false →
      s.get R.PATCH_STAT_STATE ≠ 3 →
      ∃ t : State, exec (.lbParity n) s = .next t ∧
        t.get I.SPARE_BAD = 1 ∧
        t.get R.SUBST_STAT_SPARE_LOST = 1 ∧
        t.get (R.IMG_STAT_LB_PARITY 4) = 1 ∧
        Safety.isRaised t E.spareLost ∧
        Safety.isRaised t (E.rodFatal 4) ∧
        t.get R.ROD_HOLD_HOLD = s.get R.ROD_HOLD_HOLD) ∧
  (∀ (rod : BitVec 4) (n : Fin 5) (s : State),
      rod.toNat = 2 + n.val →
      Safety.reaches s 0 →
      s.isolated (2 + n) = false →
      n.val ≠ 4 ∨ (s.rodStripe 6).isSome = true →
      s.get (I.RSTST (2 + n)) = 0 →
      s.on (I.PWR_ON (2 + n)) = true →
      ∃ t : State, exec (.substTest rod) s = .next t ∧
        t.get (I.RSTST (2 + n)) = 1 ∧
        t.isolated (2 + n) = true ∧
        t.get (R.IMG_STAT_HANG n) = 1 ∧
        Safety.isRaised t (E.rodFatal n)) ∧
  (∀ (rod : BitVec 4) (s : State),
      Safety.reaches s 0 →
      rod = 6 →
      s.isolated 6 = false →
      s.rodStripe 6 = none →
      s.spareArmed = true →
      s.on I.SPARE_BAD = false →
      s.get R.PATCH_STAT_STATE ≠ 3 →
      ∃ t : State, exec (.substTest rod) s = .next t ∧
        t.get R.SUBST_STAT_SPARE_LOST = 1 ∧
        t.get (R.IMG_STAT_HANG 4) = 1 ∧
        Safety.isRaised t E.spareLost) ∧
  (∀ (rod : BitVec 4) (s : State),
      Safety.reaches s 0 →
      rod.toNat < 2 ∨ 6 < rod.toNat →
      ∃ t : State, exec (.substTest rod) s = .next t ∧
        t.get (R.WR_RANGE_WR 0) = 1 ∧
        Safety.isRaised t E.wrRange) ∧
  (∀ (k : Fin 4) (s : State),
      s.get (I.STRIPE_OUT k) = 1 →
      s.on I.SUBST_WAIT = false →
      s.on I.SPARE_BAD = false →
      s.isolated 6 = false →
      ∃ t : State, exec (.substCopyDone k) s = .next t ∧
        t.get (I.STRIPE_OUT k) = 0 ∧
        t.stripeRod k = 6 ∧
        t.get (I.IMG_LAST 4) = s.get (I.IMG_LAST k) % 2 ^ 200) ∧
  (∀ (k : Fin 4) (s : State),
      s.get (I.STRIPE_OUT k) = 2 →
      s.isolated (2 + k) = false →
      ∃ t : State, exec (.substCopyDone k) s = .next t ∧
        t.get (I.STRIPE_OUT k) = 0 ∧
        t.stripeRod k = 2 + k) ∧
  (∀ (s : State),
      Safety.reaches s 0 →
      s.on R.SUBST_STAT_ACTIVE = true →
      s.isolated (2 + s.get R.SUBST_STAT_STRIPE) = false →
      s.get (I.STRIPE_MOVED (s.get R.SUBST_STAT_STRIPE)) = 6 →
      ∃ t : State, exec .substReturn s = .next t ∧
        t.get R.SUBST_STAT_ACTIVE = 0 ∧
        t.stripeRod (s.get R.SUBST_STAT_STRIPE) = 2 + s.get R.SUBST_STAT_STRIPE ∧
        Safety.isRaised t E.substReturn) ∧
  (∀ (port : Fin 28) (txn : BitVec 10) (x : Txn) (s : State),
      s.txns.find? (fun t => decide (t.port = port.val ∧ t.txn = txn.toNat)) = some x →
      portRod x.dst = 0 ∧ x.dst < 19 →
      portRod port < 2 ∨ 6 < portRod port →
      ∃ t : State, exec (.timeout port txn) s = .next t ∧
        t.txns = s.txns.erase x ∧
        t.get R.RST_BEAM_TIMEOUT = 1 ∧
        Out.beamEnd x.port x.txn 5 [] ∈ t.out) ∧
  (∀ (silent : BitVec 16) (r : Fin 16) (s : State),
      bit silent.toNat r = true →
      r ≠ 0 ∧ r ≠ 14 ∧ ¬ (2 ≤ r.val ∧ r.val ≤ 6) →
      s.isolated r = false →
      bit (s.get R.RST_AUTO_MASK) r = false →
      s.get R.PATCH_STAT_STATE ≠ 3 →
      s.get (I.RSTST r) = 0 →
      s.on (I.PWR_ON r) = true →
      ∃ t : State, exec (.rodProbe silent) s = .next t ∧
        t.get (I.RSTST r) = 1 ∧
        t.isolated r = true ∧
        bit (t.get R.ROD_HOLD_HOLD) r = true ∧
        t.get R.ROD_STAT_HELD = 1 ∧
        Safety.isRaised t E.rodHeld ∧
        Safety.isRaised t E.beamTimeout) ∧
  (∀ (rod : Fin 16) (s : State),
      rod ≠ 0 ∧ rod ≠ 14 ∧ ¬ (2 ≤ rod.val ∧ rod.val ≤ 6) →
      s.isolated rod = false →
      bit (s.get R.RST_AUTO_MASK) rod = false →
      s.get R.PATCH_STAT_STATE ≠ 3 →
      s.get (I.RSTST rod) = 0 →
      s.on (I.PWR_ON rod) = true →
      ∃ t : State, exec (.regParity rod) s = .next t ∧
        t.get (I.RSTST rod) = 1 ∧
        t.isolated rod = true ∧
        bit (t.get R.ROD_HOLD_HOLD) rod = true ∧
        t.get R.ROD_STAT_HELD = 1 ∧
        Safety.isRaised t E.rodHeld) ∧
  (∀ (rod : Fin 16) (s : State),
      rod ≠ 0 ∧ rod ≠ 14 ∧ ¬ (2 ≤ rod.val ∧ rod.val ≤ 6) →
      s.isolated rod = false →
      bit (s.get R.RST_AUTO_MASK) rod = true →
      s.recentResets rod < s.get R.RST_AUTO_LIMIT →
      s.get R.PATCH_STAT_STATE ≠ 3 →
      s.get (I.RSTST rod) = 0 →
      s.on (I.PWR_ON rod) = true →
      ∃ t : State, exec (.regParity rod) s = .next t ∧
        t.get (I.RSTST rod) = 1 ∧
        t.isolated rod = true ∧
        t.get (I.HOLD_AUTO rod) = 1 ∧
        t.get R.ROD_STAT_FAULT_RST = 1 ∧
        Safety.isRaised t E.rodFaultReset) ∧
  (∀ (rod : Fin 16) (s : State),
      Safety.reaches s 16 →
      rod ≠ 0 ∧ rod ≠ 14 →
      s.patchNames rod = false →
      s.get R.PATCH_STAT_STATE ≠ 4 →
      bit (s.get R.ROD_HOLD_HOLD) rod = false →
      s.get (I.RSTST rod) = 0 →
      s.on (I.PWR_ON rod) = true →
      ∃ t : State, exec (.rodHoldSet rod) s = .next t ∧
        t.get (I.RSTST rod) = 1 ∧
        t.isolated rod = true) ∧
  (∀ (rod : Fin 16) (s : State),
      Safety.reaches s 16 →
      rod ≠ 0 ∧ rod ≠ 14 →
      s.patchNames rod = false →
      s.get R.PATCH_STAT_STATE ≠ 4 →
      bit (s.get R.ROD_HOLD_HOLD) rod = false →
      s.get (I.RSTST rod) = 2 →
      s.on (I.PWR_ON rod) = true →
      ∃ t : State, exec (.rodHoldSet rod) s = .next t ∧
        bit (t.get R.ROD_HOLD_HOLD) rod = true ∧
        t.get (I.RSTST rod) = 1)

/-- Each of these commands completes, for every rod and every state that meets the conditions named. (1)
rodResetRelease of a powered rod in reset that nothing else holds: released. (2) rodReady of a released rod other than
CTL: it runs; unless HOLD gates it, its proxy is withdrawn; unless a patch restrings it, ROD_READY is raised. (3)
rodHoldClear, the host reaching AON, of a powered rod in reset that nothing else holds: its bit of ROD_HOLD is clear
and it is released. (4) powerOn, in every state: the device is in reset with CORE_EN low, LAST is 0, the timers start
at 0, the Tray is empty and nothing is strung. (5) vddAonLoss, in every state: nothing is powered. (6) resetN outside
a reset, the loss of CORE_PG and the loss of VDD_AON: a full reset with the cause 1. (7) aonLeavesReset in reset:
CORE_EN is asserted for the first try. (8) corePgRise while CORE_PG is awaited: the core is powered. (9) corePgTimeout
then, before the third failure or at it: CORE_EN is released, and a third failure waits for RESET_N or WAKE_N. (10)
coreEnRetry: CORE_EN is asserted again. (11) coreResetRelease of the powered core: it is out of reset. (12) corePgLoss
of a running device: CORE_EN is released, and the count of power-ons and the timers' clock stand. (13) corePgRetry
with no pin held since: the core powers up again with LAST 0. (14) wakeN in OFF or after the third failure: the core
powers up with LAST 2. (15) rstDevWarm, the host reaching AON: a warm reset with the cause 4, debug is closed and the
FAULT pin released. (16) thermalRestart of a device shut down by temperature with two working voter sensors: it runs
again with the cause 3 and the THERM pin released. (17) xoLoss, pcieRefLoss and ethRefLoss, in every state: recorded
in CLK.STAT and announced; xoLoss leaves the time. (18) refBack of a reference that is lost: no longer lost, and
announced. (spec R482, R483, R484, R485, R487, R489, R493, R494, R517, R520, R521, R455) -/
def Obligations.RodAndDeviceResets : Prop :=
  (∀ (rod : Fin 16) (s : State),
      s.get (I.RSTST rod) = 1 →
      s.on (I.PWR_ON rod) = true →
      bit (s.get R.ROD_HOLD_HOLD) rod = false →
      s.on (I.HOLD_PATCH rod) = false →
      s.on (I.HOLD_BOOT rod) = false →
      ∃ t : State, exec (.rodResetRelease rod) s = .next t ∧
        t.get (I.HOLD_AUTO rod) = 0 ∧
        t.get (I.RSTST rod) = 2) ∧
  (∀ (rod : Fin 16) (s : State),
      rod ≠ 0 →
      s.get (I.RSTST rod) = 2 →
      ∃ t : State, exec (.rodReady rod) s = .next t ∧
        t.get (I.RSTST rod) = 0 ∧
        (s.get R.PWR_STAT_STATE ≠ 1 ∨ s.strung = false ∨ holdRuns rod = true → t.isolated rod = false) ∧
        (s.on (I.RST_QUIET rod) = false → Safety.isRaised t E.rodReady)) ∧
  (∀ (rod : Fin 16) (s : State),
      Safety.reaches s 16 →
      s.get (I.RSTST rod) = 1 →
      s.on (I.PWR_ON rod) = true →
      s.on (I.HOLD_AUTO rod) = false →
      s.on (I.HOLD_PATCH rod) = false →
      s.on (I.HOLD_BOOT rod) = false →
      ∃ t : State, exec (.rodHoldClear rod) s = .next t ∧
        bit (t.get R.ROD_HOLD_HOLD) rod = false ∧
        t.get (I.RSTST rod) = 2) ∧
  (∀ (s : State),
      ∃ t : State, exec .powerOn s = .next t ∧
        t.get I.DEV = 1 ∧
        t.get I.CORE_EN = 0 ∧
        t.get R.RST_CAUSE_LAST = 0 ∧
        t.up = 0 ∧
        t.tray = [] ∧
        t.strung = false) ∧
  (∀ (s : State),
      ∃ t : State, exec .vddAonLoss s = .next t ∧
        t.get I.DEV = 10 ∧
        t.get I.CORE_EN = 0) ∧
  (∀ (s : State),
      s.get I.DEV ≠ 1 ∧ s.get I.DEV ≠ 7 ∧ s.get I.DEV ≠ 10 →
      ∃ t : State, exec .resetN s = .next t ∧
        t.get I.DEV = 1 ∧
        t.get R.RST_CAUSE_LAST = 1 ∧
        t.up = 0) ∧
  (∀ (s : State),
      s.get I.DEV = 1 →
      ∃ t : State, exec .aonLeavesReset s = .next t ∧
        t.get I.DEV = 2 ∧
        t.get I.CORE_EN = 1 ∧
        t.get I.CORE_TRY = 0) ∧
  (∀ (s : State),
      s.get I.DEV = 2 →
      ∃ t : State, exec .corePgRise s = .next t ∧
        t.get I.DEV = 3) ∧
  (∀ (s : State),
      s.get I.DEV = 2 →
      s.get I.CORE_TRY < 3 →
      ∃ t : State, exec .corePgTimeout s = .next t ∧
        t.get I.CORE_TRY = s.get I.CORE_TRY + 1 ∧
        t.get I.CORE_EN = 0 ∧
        t.get I.DEV = (if s.get I.CORE_TRY = 2 then 5 else 4)) ∧
  (∀ (s : State),
      s.get I.DEV = 4 →
      ∃ t : State, exec .coreEnRetry s = .next t ∧
        t.get I.DEV = 2 ∧
        t.get I.CORE_EN = 1) ∧
  (∀ (s : State),
      s.get I.DEV = 3 →
      ∃ t : State, exec .coreResetRelease s = .next t ∧
        t.get I.DEV = 0) ∧
  (∀ (s : State),
      s.get I.DEV = 0 →
      ∃ t : State, exec .corePgLoss s = .next t ∧
        t.get I.DEV = 7 ∧
        t.get I.CORE_EN = 0 ∧
        t.get R.POWER_ON_COUNT = s.get R.POWER_ON_COUNT % 2 ^ (R.POWER_ON_COUNT).w ∧
        t.up = s.burnCut.up) ∧
  (∀ (s : State),
      s.get I.DEV = 7 →
      s.get I.PIN_HELD = 0 →
      ∃ t : State, exec .corePgRetry s = .next t ∧
        t.get I.DEV = 2 ∧
        t.get I.CORE_EN = 1 ∧
        t.get R.RST_CAUSE_LAST = 0) ∧
  (∀ (s : State),
      s.get I.DEV = 6 ∨ s.get I.DEV = 5 →
      ∃ t : State, exec .wakeN s = .next t ∧
        t.get I.DEV = 2 ∧
        t.get R.RST_CAUSE_LAST = 2 ∧
        t.get I.CORE_EN = 1) ∧
  (∀ (s : State),
      Safety.reaches s 16 →
      ∃ t : State, exec .rstDevWarm s = .next t ∧
        t.get I.DEV = 9 ∧
        t.get R.RST_CAUSE_LAST = 4 ∧
        t.get I.DEBUG = 0 ∧
        t.get I.PIN_FAULT = 0) ∧
  (∀ (s : State),
      s.get I.DEV = 8 →
      2 ≤ ((List.range 3).filter (fun v => !s.on (I.V_BROKEN v))).length →
      ∃ t : State, exec .thermalRestart s = .next t ∧
        t.get I.DEV = 0 ∧
        t.get R.RST_CAUSE_LAST = 3 ∧
        t.get I.PIN_THERM = 0) ∧
  (∀ (s : State),
      ∃ t : State, exec .xoLoss s = .next t ∧
        t.get R.CLK_STAT_XO_EV = 1 ∧
        t.get R.CLK_STAT_XO_LOST = 1 ∧
        Safety.isRaised t E.xoLoss ∧
        t.now = s.now) ∧
  (∀ (s : State),
      ∃ t : State, exec .pcieRefLoss s = .next t ∧
        t.get R.CLK_STAT_PCIE_EV = 1 ∧
        t.get R.CLK_STAT_PCIE_LOST = 1 ∧
        Safety.isRaised t E.pcieRefLoss) ∧
  (∀ (s : State),
      ∃ t : State, exec .ethRefLoss s = .next t ∧
        t.get R.CLK_STAT_ETH_EV = 1 ∧
        t.get R.CLK_STAT_ETH_LOST = 1 ∧
        Safety.isRaised t E.ethRefLoss) ∧
  (∀ (which : Fin 3) (s : State),
      s.on (match which with | 0 => R.CLK_STAT_XO_LOST | 1 => R.CLK_STAT_PCIE_LOST | 2 => R.CLK_STAT_ETH_LOST) = true →
      ∃ t : State, exec (.refBack which) s = .next t ∧
        t.get (match which with | 0 => R.CLK_STAT_XO_LOST | 1 => R.CLK_STAT_PCIE_LOST | 2 => R.CLK_STAT_ETH_LOST) = 0 ∧
        Safety.isRaised t E.refBack)

/-- Each of these commands completes, for every state that meets the conditions named; a host command needs that the
host reaches RRC, or the bead of NVQ. (1) recFormat and recMount in UNMOUNTED with no command running: BUSY, and
Identify of every member begins, or NO_MEMBER is to end the command. recMount otherwise: RESULT BAD_STATE, and nothing
runs or changes. (2) recRecord in MOUNTED with no command running: a take for each recorded port, numbered on, or an
end with DIR_FULL is due and no take opens. (3) recStop in RECORDING with no command running: every take that is there
is to close. (4) recUnmount in MOUNTED with no command running: a Flush is queued for every member. (5) recCmdDone of
a FORMAT or MOUNT at its end, of a RECORD, of a STOP whose takes are gone, of an UNMOUNT whose takes and commands are
gone: BUSY is clear, RESULT and STATE are those of its end, and it is announced. (6) nvmeCompletion of a command that
a ready drive has: done, it is gone; failed for the first time with no Abort, it stands as failed and a Write counts
as retried; failed again, its drive faults. (7) nvmeCmdTimeout of such a command other than an Abort: counted and
announced; the first has it aborted, a later one resets the controller, or faults the drive where the command had
failed. (8) nvqEnable of a drive not enabled: it initialises. (9) nvqReady of a drive that initialises: READY with its
MDTS, announced, its commands to be reissued; where one was reissued before, the drive faults. (10) nvqReadyTimeout
and rpLinkDown: the drive faults, announced; rpLinkDown shows that its commands are gone, nvqReadyTimeout that a
volume that uses it is lost with RESULT 8. (11) prerollCatchStart with a frame waiting, none being caught up and room
in the ring: its catch-up begins. (12) rscStripeEnd of a coder's oldest stripe of a closed frame: it is coded, and
with the last one the frame's record is in the log and the frame has left the ring. (spec R204, R215, R217, R222,
R223, R224, R225, R226, R230) -/
def Obligations.RecorderCommands : Prop :=
  (∀ (s : State),
      Safety.reaches s 10 →
      s.get R.REC_STAT_STATE = 0 →
      s.on R.REC_STAT_BUSY = false →
      ∃ t : State, exec .recFormat s = .next t ∧
        t.get R.REC_STAT_BUSY = 1 ∧
        t.get I.REC_CODE = 1 ∧
        t.get I.REC_FAIL = (if s.recMembersOk then 0 else 2) ∧
        t.recd.phase = (if s.recMembersOk then .identify else .done)) ∧
  (∀ (s : State),
      Safety.reaches s 10 →
      s.get R.REC_STAT_STATE = 0 →
      s.on R.REC_STAT_BUSY = false →
      ∃ t : State, exec .recMount s = .next t ∧
        t.get R.REC_STAT_BUSY = 1 ∧
        t.get I.REC_CODE = 2 ∧
        t.get I.REC_FAIL = (if s.recMembersOk then 0 else 2) ∧
        t.recd.phase = (if s.recMembersOk then .identify else .done)) ∧
  (∀ (s : State),
      Safety.reaches s 10 →
      s.get R.REC_STAT_STATE ≠ 0 ∨ s.on R.REC_STAT_BUSY = true →
      ∃ t : State, exec .recMount s = .next t ∧
        t.get R.REC_STAT_RESULT = 1 ∧
        t.get R.REC_STAT_BUSY = s.get R.REC_STAT_BUSY ∧
        t.recd = s.recd) ∧
  (∀ (s : State),
      Safety.reaches s 10 →
      s.get R.REC_STAT_STATE = 1 →
      s.on R.REC_STAT_BUSY = false →
      s.recd.used + (recPorts (s.inForce R.REC_CFG_SRC)).length ≤ 4095 →
      ∃ t : State, exec .recRecord s = .next t ∧
        t.get R.REC_STAT_BUSY = 1 ∧
        t.get I.REC_CODE = 3 ∧
        t.get R.REC_STAT_TAKE = (s.recd.used + 1) % 2 ^ (R.REC_STAT_TAKE).w ∧
        t.recd.takes.map (·.num) = s.recd.takes.map (·.num) ++ (List.range (recPorts (s.inForce R.REC_CFG_SRC)).length).map (fun i : Nat => s.recd.used + 1 + i)) ∧
  (∀ (s : State),
      Safety.reaches s 10 →
      s.get R.REC_STAT_STATE = 1 →
      s.on R.REC_STAT_BUSY = false →
      4095 < s.recd.used + (recPorts (s.inForce R.REC_CFG_SRC)).length →
      ∃ t : State, exec .recRecord s = .next t ∧
        t.get R.REC_STAT_BUSY = 1 ∧
        t.get I.REC_FAIL = 6 ∧
        t.recd = s.recd) ∧
  (∀ (s : State),
      Safety.reaches s 10 →
      s.get R.REC_STAT_STATE = 2 →
      s.on R.REC_STAT_BUSY = false →
      ∃ t : State, exec .recStop s = .next t ∧
        t.get R.REC_STAT_BUSY = 1 ∧
        t.get I.REC_CODE = 4 ∧
        t.recd.takes.all (fun x : Take => x.closing.isSome) = true) ∧
  (∀ (s : State),
      Safety.reaches s 10 →
      s.get R.REC_STAT_STATE = 1 →
      s.on R.REC_STAT_BUSY = false →
      ∃ t : State, exec .recUnmount s = .next t ∧
        t.get R.REC_STAT_BUSY = 1 ∧
        t.get I.REC_CODE = 5 ∧
        t.recd.cmds.length = s.recd.cmds.length + s.recd.members) ∧
  (∀ (s : State),
      s.on R.REC_STAT_BUSY = true →
      s.get I.REC_CODE = 1 ∨ s.get I.REC_CODE = 2 →
      s.recd.phase = .done →
      ∃ t : State, exec .recCmdDone s = .next t ∧
        t.get R.REC_STAT_BUSY = 0 ∧
        t.get R.REC_STAT_STATE = (if s.get I.REC_FAIL = 0 then 1 else 0) ∧
        t.get R.REC_STAT_RESULT = s.get I.REC_FAIL % 2 ^ (R.REC_STAT_RESULT).w ∧
        Safety.isRaised t E.recCmdDone) ∧
  (∀ (s : State),
      s.on R.REC_STAT_BUSY = true →
      s.get I.REC_CODE = 3 →
      ∃ t : State, exec .recCmdDone s = .next t ∧
        t.get R.REC_STAT_BUSY = 0 ∧
        t.get R.REC_STAT_STATE = (if s.get I.REC_FAIL = 0 ∧ s.recd.takes.any (fun x => x.closing.isNone) = true then 2 else 1) ∧
        t.get R.REC_STAT_RESULT = s.get I.REC_FAIL % 2 ^ (R.REC_STAT_RESULT).w ∧
        Safety.isRaised t E.recCmdDone) ∧
  (∀ (s : State),
      s.on R.REC_STAT_BUSY = true →
      s.get I.REC_CODE = 4 ∨ s.get I.REC_CODE = 5 →
      s.get I.REC_FAIL = 0 →
      s.recd.takes = [] →
      s.get I.REC_CODE = 5 → s.recd.cmds = [] →
      ∃ t : State, exec .recCmdDone s = .next t ∧
        t.get R.REC_STAT_BUSY = 0 ∧
        t.get R.REC_STAT_STATE = (if s.get I.REC_CODE = 4 then 1 else 0) ∧
        t.get R.REC_STAT_RESULT = 0 ∧
        Safety.isRaised t E.recCmdDone) ∧
  (∀ (id : Nat) (ok : Bool) (data : List Byte) (c : NvCmd) (s : State),
      ok = true →
      s.nvSent id = some c →
      id < s.recd.nextCmd →
      ∃ t : State, exec (.nvmeCompletion id ok data) s = .next t ∧
        (∀ e ∈ t.recd.cmds, e.id ≠ id)) ∧
  (∀ (id : Nat) (ok : Bool) (data : List Byte) (c : NvCmd) (s : State),
      ok = false →
      s.nvSent id = some c →
      c.ask.op.isAbort = false →
      c.failed = false →
      ∃ t : State, exec (.nvmeCompletion id ok data) s = .next t ∧
        t.recd.cmds.any (fun e : NvCmd => decide (e.id = id) && e.failed && !e.aborted) = true ∧
        (c.ask.op.isWrite = true → t.get (R.NVQ_STAT_RETRY_CNT c.drive) = min (s.get (R.NVQ_STAT_RETRY_CNT c.drive) + 1) (2 ^ (R.NVQ_STAT_RETRY_CNT c.drive).w - 1))) ∧
  (∀ (id : Nat) (ok : Bool) (data : List Byte) (c : NvCmd) (s : State),
      ok = false →
      s.nvSent id = some c →
      c.ask.op.isAbort = false →
      c.failed = true →
      ∃ t : State, exec (.nvmeCompletion id ok data) s = .next t ∧
        t.get (R.NVQ_STAT_STATE c.drive) = 3 ∧
        t.get (R.NVQ_STAT_FAULT_EV c.drive) = 1 ∧
        Safety.isRaised t (E.nvqFault c.drive)) ∧
  (∀ (id : Nat) (c : NvCmd) (s : State),
      s.nvSent id = some c →
      c.ask.op.isAbort = false →
      c.aborted = false →
      ∃ t : State, exec (.nvmeCmdTimeout id) s = .next t ∧
        t.recd.cmds.any (fun e : NvCmd => decide (e.id = id) && e.aborted) = true ∧
        t.recd.cmds.any (fun e : NvCmd => decide (e.drive = c.drive ∧ e.ask.op = .abort id)) = true ∧
        t.get (R.NVQ_STAT_TIMEOUT_EV c.drive) = 1 ∧
        Safety.isRaised t (E.nvqTimeout c.drive)) ∧
  (∀ (id : Nat) (c : NvCmd) (s : State),
      s.nvSent id = some c →
      c.ask.op.isAbort = false →
      c.aborted = true →
      ∃ t : State, exec (.nvmeCmdTimeout id) s = .next t ∧
        t.get (R.NVQ_STAT_STATE c.drive) = (if c.failed then 3 else 1) ∧
        t.get (R.NVQ_STAT_TIMEOUT_EV c.drive) = 1 ∧
        Safety.isRaised t (E.nvqTimeout c.drive)) ∧
  (∀ (d : Fin 4) (s : State),
      Safety.reachesBead s 10 4 →
      s.on (R.NVQ_CFG_EN d) = false →
      ∃ t : State, exec (.nvqEnable d) s = .next t ∧
        t.get (R.NVQ_CFG_EN d) = 1 ∧
        t.get (R.NVQ_STAT_STATE d) = 1) ∧
  (∀ (d : Fin 4) (mdts : Fin 256) (s : State),
      s.get (R.NVQ_STAT_STATE d) = 1 →
      (s.recd.cmds.filter (fun c => decide (c.drive = d.val) && c.sent)).any (fun c => c.reissued) = false →
      ∃ t : State, exec (.nvqReady d mdts) s = .next t ∧
        t.get (R.NVQ_STAT_STATE d) = 2 ∧
        t.get (I.NVQ_MDTS d) = mdts.val ∧
        t.recd.cmds.map (fun c : NvCmd => (c.id, c.reissued)) = s.recd.cmds.map (fun c : NvCmd => (c.id, c.reissued || (decide (c.drive = d.val) && c.sent))) ∧
        Safety.isRaised t (E.nvqReady d)) ∧
  (∀ (d : Fin 4) (mdts : Fin 256) (s : State),
      s.get (R.NVQ_STAT_STATE d) = 1 →
      (s.recd.cmds.filter (fun c => decide (c.drive = d.val) && c.sent)).any (fun c => c.reissued) = true →
      ∃ t : State, exec (.nvqReady d mdts) s = .next t ∧
        t.get (R.NVQ_STAT_STATE d) = 3 ∧
        t.get (R.NVQ_STAT_FAULT_EV d) = 1 ∧
        Safety.isRaised t (E.nvqFault d)) ∧
  (∀ (d : Fin 4) (s : State),
      s.get (R.NVQ_STAT_STATE d) = 1 →
      ∃ t : State, exec (.nvqReadyTimeout d) s = .next t ∧
        t.get (R.NVQ_STAT_STATE d) = 3 ∧
        t.get (R.NVQ_STAT_FAULT_EV d) = 1 ∧
        Safety.isRaised t (E.nvqFault d) ∧
        (s.recUses d = true → s.get R.REC_STAT_STATE ≠ 0 → t.get R.REC_STAT_STATE = 0 ∧ t.get R.REC_STAT_RESULT = 8)) ∧
  (∀ (rp : Fin 4) (s : State),
      s.get (R.NVQ_STAT_STATE rp) = 1 ∨ s.get (R.NVQ_STAT_STATE rp) = 2 →
      s.rpSplit = true ∨ rp = 0 →
      ∃ t : State, exec (.rpLinkDown rp) s = .next t ∧
        t.get (R.NVQ_STAT_STATE rp) = 3 ∧
        t.get (R.NVQ_STAT_FAULT_EV rp) = 1 ∧
        Safety.isRaised t (E.nvqFault rp) ∧
        (∀ c ∈ t.recd.cmds, c.drive ≠ rp.val)) ∧
  (∀ (sp : Fin 3) (k : Take) (tag : Nat) (rest : List Nat) (f : Frame) (s : State),
      s.recd.takes.find? (fun t => decide (t.port = sp.val) && !t.todo.isEmpty) = some k →
      k.todo = tag :: rest →
      s.frame tag = some f →
      s.recd.frames.any (fun q => decide (q.take = k.num) && q.pre) = false →
      needBlocks f.recFirst (s.ringNeed f) ≤ s.ringFree →
      ∃ t : State, exec (.prerollCatchStart sp) s = .next t ∧
        t.recd.frames.any (fun q : RecFrame => decide (q.take = k.num ∧ q.tag = tag) && q.pre) = true ∧
        t.recd.takes = s.recd.takes.map (fun x : Take => if x.num = k.num then { x with todo := rest } else x)) ∧
  (∀ (coder : Fin 4) (catchUp : Bool) (q : RecFrame) (f : Frame) (s : State),
      s.recd.frames.find? (fun q => decide (q.pre = catchUp) && q.coded.all (fun c => decide (c.1 ≠ coderStripe (s.inForce R.REC_CFG_SRC) coder)) && (match s.take q.take with | some t => (recCoders (s.inForce R.REC_CFG_SRC) t.port).contains coder | none => false)) = some q →
      s.frame q.tag = some f →
      f.closed = true →
      q.coded.length + 1 < q.held.length →
      ∃ t : State, exec (.rscStripeEnd coder catchUp) s = .next t ∧
        t.recd.frames.any (fun g : RecFrame => decide (g.tag = q.tag ∧ g.take = q.take) && g.coded.any (fun c => decide (c.1 = coderStripe (s.inForce R.REC_CFG_SRC) coder))) = true) ∧
  (∀ (coder : Fin 4) (catchUp : Bool) (q : RecFrame) (f : Frame) (s : State),
      s.recd.frames.find? (fun q => decide (q.pre = catchUp) && q.coded.all (fun c => decide (c.1 ≠ coderStripe (s.inForce R.REC_CFG_SRC) coder)) && (match s.take q.take with | some t => (recCoders (s.inForce R.REC_CFG_SRC) t.port).contains coder | none => false)) = some q →
      s.frame q.tag = some f →
      f.closed = true →
      q.coded.length + 1 = q.held.length →
      ∃ t : State, exec (.rscStripeEnd coder catchUp) s = .next t ∧
        (∀ g ∈ t.recd.frames, ¬ (g.tag = q.tag ∧ g.take = q.take)) ∧
        s.recd.head < t.recd.head)

/-- Each of these commands completes, for every state that meets the conditions named; a stream command needs that the
host reaches its COD rod. (1) schedCommit of a running stream while no running encoder waits for a picture: the commit
waits for the stream's next picture start. Of a stream that does not run, with a staged descriptor that breaks a rule:
SCHED.BAD holds the first failure with its rule and stream, and STRM_BAD is raised. (2) schedStart of a stream that
does not run: it runs, its next picture is an IDR, and nothing is due. (3) schedStop of a running stream: it does not
run and nothing is due. (4) schedIdr of a running stream: it runs, and its next picture, or the one that an encoder
starts at once, is an IDR. (5) schedStart of a running stream, and schedStop and schedIdr of one that does not run:
CMD_IGN is set and announced; a START leaves the stream running and a STOP leaves it stopped. (6) Each of the four
with a stream number above 2,079: a rejected write, recorded and announced, with every stream as it was. (7)
vecToExpiry on a COD rod that is not isolated, for a frame with no complete vector set: the set counts as there for
each picture of that frame still due. (8) pictureDeadline: a due picture of that stream and tag is ready on some rod
or is a repeat. (9) encDisable, where the host reaches the encoder's bead: EN is 0, staged and in force; a picture in
progress is cut, with CUT set and announced and STATE 0; with none CUT is as it was. (spec R239, R240, R242, R243,
R245) -/
def Obligations.EncoderSchedule : Prop :=
  (∀ (cod : Fin 2) (stream : BitVec 12) (s : State),
      Safety.reaches s (8 + cod) →
      stream.toNat ≤ 2079 →
      (List.range 8).all (fun e => !s.encFree e) = true →
      (s.strm stream.toNat).any (fun x => x.run) = true →
      ∃ t : State, exec (.schedCommit cod stream) s = .next t ∧
        (t.strm stream.toNat).any (fun x : Strm => decide (x.commit = some cod.val)) = true) ∧
  (∀ (cod : Fin 2) (stream : BitVec 12) (q : Nat × Bool) (s : State),
      Safety.reaches s (8 + cod) →
      stream.toNat ≤ 2079 →
      (s.strm stream.toNat).any (fun x => x.run) = false →
      ((s.withStrm stream.toNat).descRules stream.toNat ⟨s.trayRead (s.stagedAt cod stream.toNat) 128⟩).find? (fun q => !q.2) = some q →
      ∃ t : State, exec (.schedCommit cod stream) s = .next t ∧
        t.get (R.SCHED_BAD_BAD cod) ≠ 0 ∧
        s.on (R.SCHED_BAD_BAD cod) = false → t.get (R.SCHED_BAD_RULE cod) = q.1 % 2 ^ (R.SCHED_BAD_RULE cod).w ∧ t.get (R.SCHED_BAD_STREAM cod) = stream.toNat % 2 ^ (R.SCHED_BAD_STREAM cod).w ∧
        Safety.isRaised t (E.strmBad cod)) ∧
  (∀ (cod : Fin 2) (stream : BitVec 12) (s : State),
      Safety.reaches s (8 + cod) →
      2079 < stream.toNat →
      ∃ t : State, exec (.schedCommit cod stream) s = .next t ∧
        t.get (R.WR_RANGE_WR (8 + cod)) ≠ 0 ∧
        Safety.isRaised t E.wrRange ∧
        t.strms = s.strms) ∧
  (∀ (cod : Fin 2) (stream : BitVec 12) (s : State),
      Safety.reaches s (8 + cod) →
      stream.toNat ≤ 2079 →
      (s.strm stream.toNat).any (fun x => x.run) = false →
      ∃ t : State, exec (.schedStart cod stream) s = .next t ∧
        (t.strm stream.toNat).any (fun x : Strm => x.run && x.idr && x.dues.isEmpty) = true) ∧
  (∀ (cod : Fin 2) (stream : BitVec 12) (s : State),
      Safety.reaches s (8 + cod) →
      stream.toNat ≤ 2079 →
      (s.strm stream.toNat).any (fun x => x.run) = true →
      ∃ t : State, exec (.schedStart cod stream) s = .next t ∧
        t.get (R.SCHED_BAD_CMD_IGN cod) = 1 ∧
        Safety.isRaised t (E.strmCmdIgn cod) ∧
        (t.strm stream.toNat).any (fun x : Strm => x.run) = true) ∧
  (∀ (cod : Fin 2) (stream : BitVec 12) (s : State),
      Safety.reaches s (8 + cod) →
      2079 < stream.toNat →
      ∃ t : State, exec (.schedStart cod stream) s = .next t ∧
        t.get (R.WR_RANGE_WR (8 + cod)) ≠ 0 ∧
        Safety.isRaised t E.wrRange ∧
        t.strms = s.strms) ∧
  (∀ (cod : Fin 2) (stream : BitVec 12) (s : State),
      Safety.reaches s (8 + cod) →
      stream.toNat ≤ 2079 →
      (s.strm stream.toNat).any (fun x => x.run) = true →
      ∃ t : State, exec (.schedStop cod stream) s = .next t ∧
        (t.strm stream.toNat).any (fun x : Strm => !x.run && x.dues.isEmpty) = true) ∧
  (∀ (cod : Fin 2) (stream : BitVec 12) (s : State),
      Safety.reaches s (8 + cod) →
      stream.toNat ≤ 2079 →
      (s.strm stream.toNat).any (fun x => x.run) = false →
      ∃ t : State, exec (.schedStop cod stream) s = .next t ∧
        t.get (R.SCHED_BAD_CMD_IGN cod) = 1 ∧
        Safety.isRaised t (E.strmCmdIgn cod) ∧
        (t.strm stream.toNat).any (fun x : Strm => x.run) = false) ∧
  (∀ (cod : Fin 2) (stream : BitVec 12) (s : State),
      Safety.reaches s (8 + cod) →
      2079 < stream.toNat →
      ∃ t : State, exec (.schedStop cod stream) s = .next t ∧
        t.get (R.WR_RANGE_WR (8 + cod)) ≠ 0 ∧
        Safety.isRaised t E.wrRange ∧
        t.strms = s.strms) ∧
  (∀ (cod : Fin 2) (stream : BitVec 12) (s : State),
      Safety.reaches s (8 + cod) →
      stream.toNat ≤ 2079 →
      (s.strm stream.toNat).any (fun x => x.run) = true →
      ∃ t : State, exec (.schedIdr cod stream) s = .next t ∧
        (t.strm stream.toNat).any (fun x : Strm => x.run && (x.idr || x.busy.any (fun j => j.idr))) = true) ∧
  (∀ (cod : Fin 2) (stream : BitVec 12) (s : State),
      Safety.reaches s (8 + cod) →
      stream.toNat ≤ 2079 →
      (s.strm stream.toNat).any (fun x => x.run) = false →
      ∃ t : State, exec (.schedIdr cod stream) s = .next t ∧
        t.get (R.SCHED_BAD_CMD_IGN cod) = 1 ∧
        Safety.isRaised t (E.strmCmdIgn cod)) ∧
  (∀ (cod : Fin 2) (stream : BitVec 12) (s : State),
      Safety.reaches s (8 + cod) →
      2079 < stream.toNat →
      ∃ t : State, exec (.schedIdr cod stream) s = .next t ∧
        t.get (R.WR_RANGE_WR (8 + cod)) ≠ 0 ∧
        Safety.isRaised t E.wrRange ∧
        t.strms = s.strms) ∧
  (∀ (cod : Fin 2) (tag : BitVec 32) (s : State),
      s.isolated (8 + cod) = false →
      s.vecSet tag.toNat = none →
      ∃ t : State, exec (.vecToExpiry cod tag) s = .next t ∧
        t.strms.all (fun x : Strm => x.dues.all (fun u : Due => decide (u.tag ≠ tag.toNat) || bit u.vecTo cod)) = true ∧
        t.strms.map (·.num) = s.strms.map (·.num)) ∧
  (∀ (stream : BitVec 12) (tag : BitVec 32) (s : State),
      ∃ t : State, exec (.pictureDeadline stream tag) s = .next t ∧
        (t.strm stream.toNat).all (fun x : Strm => x.dues.all (fun u : Due => decide (u.tag ≠ tag.toNat) || u.rep.isSome || !u.ready.isEmpty)) = true ∧
        t.strms.map (·.num) = s.strms.map (·.num)) ∧
  (∀ (cod : Fin 2) (k : Fin 4) (x : Strm) (j : EncJob) (s : State),
      Safety.reachesBead s (8 + cod) k →
      s.strms.find? (fun x => match x.busy with | some j => decide (j.enc = 4 * cod.val + k.val) | none => false) = some x →
      x.busy = some j →
      ∃ t : State, exec (.encDisable cod k) s = .next t ∧
        t.get (R.ENC_CFG_EN cod k) = 0 ∧
        t.inForce (R.ENC_CFG_EN cod k) = 0 ∧
        t.get (R.ENC_STAT_STATE cod k) = 0 ∧
        t.get (R.ENC_EVT_CUT cod k) = 1 ∧
        Safety.isRaised t (E.encCut cod k)) ∧
  (∀ (cod : Fin 2) (k : Fin 4) (s : State),
      Safety.reachesBead s (8 + cod) k →
      s.strms.all (fun x => match x.busy with | some j => decide (j.enc ≠ 4 * cod.val + k.val) | none => true) = true →
      ∃ t : State, exec (.encDisable cod k) s = .next t ∧
        t.get (R.ENC_CFG_EN cod k) = 0 ∧
        t.inForce (R.ENC_CFG_EN cod k) = 0 ∧
        t.get (R.ENC_EVT_CUT cod k) = s.get (R.ENC_EVT_CUT cod k))

/-- Each of these commands completes, for every state that meets the conditions named; decInWr and decDisable need
that the host reaches the decoder's bead. (1) decInWr of an offset that is a multiple of 64 below the ring size: OFF
holds it. Of another: a rejected write, recorded and announced, with OFF as it was. (2) decEntry of an enabled decoder
of a rod that is not isolated, with no picture in progress and a whole entry in the ring: where its framing is broken,
IN_BAD is set and announced and no picture starts; where its SPS is unsupported, UNSUP is set and announced and no
picture starts; while the decoder waits for an IRAP picture or a recovery point and this has neither, or follows an
unsupported SPS and is no IRAP picture, no picture starts; else its picture is in progress with the entry's tag and
POC. In each of these cases the read pointer passes the entry. (3) decPictureDone of a picture that has its buffer: it
is no longer in progress, and SYNTAX, OOB and, where HASH is in force, HASH_MM are set as reported. (4) decWatchdog on
a rod that is not isolated: a picture that runs ends with WD set; one that waits for a buffer ends undecoded with
NOBUF set and announced. (5) decOutput on such a rod, with a picture that waits for its descriptor and the next slot
unused or released: DEC_SEQ counts, TAINT is the picture's, the slot holds the picture's buffer, and it is announced.
(6) decDisable: EN is 0, staged and in force, STATE and the read pointer are 0, and the decoder has no picture in
progress and none decoded. (spec R266, R267, R270, R271, R275, R276, R277, R505) -/
def Obligations.Decoders : Prop :=
  (∀ (r : Fin 2) (off : BitVec 30) (s : State),
      Safety.reachesBead s (8 + r) 4 →
      off.toNat % 64 = 0 →
      off.toNat < s.decRing r →
      ∃ t : State, exec (.decInWr r off) s = .next t ∧
        t.get (R.DEC_IN_WR_OFF r) = off.toNat) ∧
  (∀ (r : Fin 2) (off : BitVec 30) (s : State),
      Safety.reachesBead s (8 + r) 4 →
      off.toNat % 64 ≠ 0 ∨ s.decRing r ≤ off.toNat →
      ∃ t : State, exec (.decInWr r off) s = .next t ∧
        t.get (R.WR_RANGE_WR (8 + r)) ≠ 0 ∧
        Safety.isRaised t E.wrRange ∧
        t.get (R.DEC_IN_WR_OFF r) = s.get (R.DEC_IN_WR_OFF r)) ∧
  (∀ (r : Fin 2) (au : AuInfo) (n : Nat) (s : State),
      s.isolated (8 + r) = false →
      s.inForce (R.DEC_CFG_EN r) = 1 →
      s.decJob r = none →
      fieldLE (s.decRead r (s.get (R.DEC_IN_RD_OFF r)) 32) 8 4 = n →
      32 + n ≤ (s.get (R.DEC_IN_WR_OFF r) + s.decRing r - s.get (R.DEC_IN_RD_OFF r)) % max 1 (s.decRing r) →
      n ≤ s.decRing r - 32 →
      fieldLE (s.decRead r (s.get (R.DEC_IN_RD_OFF r)) 32) 0xC 2 ≠ 0 →
      nalsOk (fieldLE (s.decRead r (s.get (R.DEC_IN_RD_OFF r)) 32) 0xC 2) (s.decRead r (s.get (R.DEC_IN_RD_OFF r) + 32) n) = true →
      s.decUnsup r au = false →
      s.on (I.DEC_UNSUP r) = false ∨ au.irap = true →
      s.get (R.DEC_STAT_STATE r) ≠ 1 ∨ au.irap = true ∨ au.recov.isSome = true →
      ∃ t : State, exec (.decEntry r au) s = .next t ∧
        t.get (R.DEC_IN_RD_OFF r) = ((s.get (R.DEC_IN_RD_OFF r) + roundUp (32 + n) 64) % s.decRing r) % 2 ^ (R.DEC_IN_RD_OFF r).w ∧
        t.decJobs.any (fun j : DecJob => decide (j.r = r.val ∧ j.pic.tag = fieldLE (s.decRead r (s.get (R.DEC_IN_RD_OFF r)) 32) 4 4 ∧ j.pic.poc = au.poc.toInt)) = true) ∧
  (∀ (r : Fin 2) (au : AuInfo) (n : Nat) (s : State),
      s.isolated (8 + r) = false →
      s.inForce (R.DEC_CFG_EN r) = 1 →
      s.decJob r = none →
      fieldLE (s.decRead r (s.get (R.DEC_IN_RD_OFF r)) 32) 8 4 = n →
      32 + n ≤ (s.get (R.DEC_IN_WR_OFF r) + s.decRing r - s.get (R.DEC_IN_RD_OFF r)) % max 1 (s.decRing r) →
      n ≤ s.decRing r - 32 →
      fieldLE (s.decRead r (s.get (R.DEC_IN_RD_OFF r)) 32) 0xC 2 = 0 ∨ nalsOk (fieldLE (s.decRead r (s.get (R.DEC_IN_RD_OFF r)) 32) 0xC 2) (s.decRead r (s.get (R.DEC_IN_RD_OFF r) + 32) n) = false →
      ∃ t : State, exec (.decEntry r au) s = .next t ∧
        t.get (R.DEC_IN_RD_OFF r) = ((s.get (R.DEC_IN_RD_OFF r) + roundUp (32 + n) 64) % s.decRing r) % 2 ^ (R.DEC_IN_RD_OFF r).w ∧
        t.get (R.DEC_EVT_IN_BAD r) = 1 ∧
        Safety.isRaised t (E.decInBad r) ∧
        t.decJobs = s.decJobs) ∧
  (∀ (r : Fin 2) (au : AuInfo) (n : Nat) (s : State),
      s.isolated (8 + r) = false →
      s.inForce (R.DEC_CFG_EN r) = 1 →
      s.decJob r = none →
      fieldLE (s.decRead r (s.get (R.DEC_IN_RD_OFF r)) 32) 8 4 = n →
      32 + n ≤ (s.get (R.DEC_IN_WR_OFF r) + s.decRing r - s.get (R.DEC_IN_RD_OFF r)) % max 1 (s.decRing r) →
      n ≤ s.decRing r - 32 →
      fieldLE (s.decRead r (s.get (R.DEC_IN_RD_OFF r)) 32) 0xC 2 ≠ 0 →
      nalsOk (fieldLE (s.decRead r (s.get (R.DEC_IN_RD_OFF r)) 32) 0xC 2) (s.decRead r (s.get (R.DEC_IN_RD_OFF r) + 32) n) = true →
      s.decUnsup r au = true →
      ∃ t : State, exec (.decEntry r au) s = .next t ∧
        t.get (R.DEC_IN_RD_OFF r) = ((s.get (R.DEC_IN_RD_OFF r) + roundUp (32 + n) 64) % s.decRing r) % 2 ^ (R.DEC_IN_RD_OFF r).w ∧
        t.get (R.DEC_EVT_UNSUP r) = 1 ∧
        Safety.isRaised t (E.decUnsup r) ∧
        t.decJobs = s.decJobs) ∧
  (∀ (r : Fin 2) (au : AuInfo) (n : Nat) (s : State),
      s.isolated (8 + r) = false →
      s.inForce (R.DEC_CFG_EN r) = 1 →
      s.decJob r = none →
      fieldLE (s.decRead r (s.get (R.DEC_IN_RD_OFF r)) 32) 8 4 = n →
      32 + n ≤ (s.get (R.DEC_IN_WR_OFF r) + s.decRing r - s.get (R.DEC_IN_RD_OFF r)) % max 1 (s.decRing r) →
      n ≤ s.decRing r - 32 →
      fieldLE (s.decRead r (s.get (R.DEC_IN_RD_OFF r)) 32) 0xC 2 ≠ 0 →
      nalsOk (fieldLE (s.decRead r (s.get (R.DEC_IN_RD_OFF r)) 32) 0xC 2) (s.decRead r (s.get (R.DEC_IN_RD_OFF r) + 32) n) = true →
      s.decUnsup r au = false →
      au.irap = false →
      s.on (I.DEC_UNSUP r) = true ∨ (s.get (R.DEC_STAT_STATE r) = 1 ∧ au.recov = none) →
      ∃ t : State, exec (.decEntry r au) s = .next t ∧
        t.get (R.DEC_IN_RD_OFF r) = ((s.get (R.DEC_IN_RD_OFF r) + roundUp (32 + n) 64) % s.decRing r) % 2 ^ (R.DEC_IN_RD_OFF r).w ∧
        t.decJobs = s.decJobs ∧
        t.decs = s.decs) ∧
  (∀ (r : Fin 2) (syntaxErr conceal hashBad : Bool) (oobWrites oobReads : BitVec 32) (j : DecJob) (s : State),
      s.decJob r = some j →
      j.pic.buf.isSome = true →
      ∃ t : State, exec (.decPictureDone r syntaxErr conceal hashBad oobWrites oobReads) s = .next t ∧
        t.decJob r = none ∧
        (syntaxErr = true → t.get (R.DEC_EVT_SYNTAX r) = 1) ∧
        (oobWrites.toNat + oobReads.toNat ≠ 0 → t.get (R.DEC_EVT_OOB r) = 1) ∧
        (hashBad = true → s.inForce (R.DEC_CFG_HASH r) = 1 → t.get (R.DEC_EVT_HASH_MM r) = 1)) ∧
  (∀ (r : Fin 2) (j : DecJob) (s : State),
      s.decJob r = some j →
      j.pic.buf = none →
      s.isolated (8 + r) = false →
      ∃ t : State, exec (.decWatchdog r) s = .next t ∧
        t.decJob r = none ∧
        t.get (R.DEC_EVT_NOBUF r) = 1 ∧
        t.decs = s.decs ∧
        Safety.isRaised t (E.decNobuf r)) ∧
  (∀ (r : Fin 2) (j : DecJob) (s : State),
      s.decJob r = some j →
      j.pic.buf.isSome = true →
      s.isolated (8 + r) = false →
      ∃ t : State, exec (.decWatchdog r) s = .next t ∧
        t.decJob r = none ∧
        t.get (R.DEC_EVT_WD r) = 1) ∧
  (∀ (r : Fin 2) (p : DecPic) (s : State),
      s.decs.find? (fun p => decide (p.r = r.val) && p.bumped) = some p →
      s.isolated (8 + r) = false →
      (s.decOut.all (fun e => decide (e.2.1 ≠ s.decSlot r (s.get (I.DEC_NEXT r) % max 1 (s.inForce (R.DEC_OUT_DEPTH r))))) || (s.trayRead (s.decSlot r (s.get (I.DEC_NEXT r) % max 1 (s.inForce (R.DEC_OUT_DEPTH r))) + 0x68) 16).all (fun x => decide (x = 1))) = true →
      ∃ t : State, exec (.decOutput r) s = .next t ∧
        t.get (I.DEC_SEQ r) = (s.get (I.DEC_SEQ r) + 1) % 2 ^ 200 ∧
        t.get (R.DEC_STAT_TAINT r) = ofBool p.taint ∧
        t.decOut.any (fun e : Nat × Nat × Nat => decide (e.1 = r.val ∧ e.2.1 = s.decSlot r (s.get (I.DEC_NEXT r) % max 1 (s.inForce (R.DEC_OUT_DEPTH r))) ∧ e.2.2 = p.buf.getD 0)) = true ∧
        Safety.isRaised t (E.decOut r)) ∧
  (∀ (r : Fin 2) (s : State),
      Safety.reachesBead s (8 + r) 4 →
      ∃ t : State, exec (.decDisable r) s = .next t ∧
        t.get (R.DEC_CFG_EN r) = 0 ∧
        t.inForce (R.DEC_CFG_EN r) = 0 ∧
        t.get (R.DEC_STAT_STATE r) = 0 ∧
        t.get (R.DEC_IN_RD_OFF r) = 0 ∧
        t.decJob r = none ∧
        t.decs.all (fun p : DecPic => decide (p.r ≠ r.val)) = true)

/-- Each of these commands completes, for every state that meets the conditions named. (1) canvasFrameStart where the
wall composer runs and has not yet come to the frame, and the frame's picture is complete: with a free canvas buffer a
canvas frame of that tag stands in the first free one after the last used; with none CANVAS_SKIP is set and announced
and no canvas frame is made. (2) cwaitTimeout where the wall composer runs and has not yet come to the frame, and its
picture is not complete: PIC_LATE is set, and then the same. (3) regionComplete of a canvas frame that is there, for a
region that the table in force enables and that is not yet reported, while OUT is not isolated: it is reported. (4)
guardClr, where the host reaches the composer's bead: while a fallback is shown CLR is set, and else it is as it was;
the fallback goes on being shown. (spec R282, R294, R295, R298, R299) -/
def Obligations.WallCanvas : Prop :=
  (∀ (tag : BitVec 32) (b : Nat) (s : State),
      s.wallDue tag.toNat = true →
      s.picComplete tag.toNat = true →
      (s.pktRelease.set I.WC_LAST (tag.toNat + 1)).canvasBuf = some b →
      ∃ t : State, exec (.canvasFrameStart tag) s = .next t ∧
        t.canv.any (fun c : Canvas => decide (c.tag = tag.toNat ∧ c.buf = b)) = true) ∧
  (∀ (tag : BitVec 32) (s : State),
      s.wallDue tag.toNat = true →
      s.picComplete tag.toNat = true →
      (s.pktRelease.set I.WC_LAST (tag.toNat + 1)).canvasBuf = none →
      ∃ t : State, exec (.canvasFrameStart tag) s = .next t ∧
        t.get (R.CMP_STAT_CANVAS_SKIP 8) = 1 ∧
        Safety.isRaised t E.wallCanvasSkip ∧
        t.canv = s.pktRelease.canv) ∧
  (∀ (tag : BitVec 32) (b : Nat) (s : State),
      s.wallDue tag.toNat = true →
      s.picComplete tag.toNat = false →
      (((s.set (R.CMP_STAT_PIC_LATE 8) 1).raise E.wallPicLate).pktRelease.set I.WC_LAST (tag.toNat + 1)).canvasBuf = some b →
      ∃ t : State, exec (.cwaitTimeout tag) s = .next t ∧
        t.get (R.CMP_STAT_PIC_LATE 8) = 1 ∧
        t.canv.any (fun c : Canvas => decide (c.tag = tag.toNat ∧ c.buf = b)) = true) ∧
  (∀ (tag : BitVec 32) (s : State),
      s.wallDue tag.toNat = true →
      s.picComplete tag.toNat = false →
      (((s.set (R.CMP_STAT_PIC_LATE 8) 1).raise E.wallPicLate).pktRelease.set I.WC_LAST (tag.toNat + 1)).canvasBuf = none →
      ∃ t : State, exec (.cwaitTimeout tag) s = .next t ∧
        t.get (R.CMP_STAT_PIC_LATE 8) = 1 ∧
        t.get (R.CMP_STAT_CANVAS_SKIP 8) = 1 ∧
        Safety.isRaised t E.wallCanvasSkip) ∧
  (∀ (r : BitVec 11) (tag : BitVec 32) (c : Canvas) (s : State),
      s.canv.find? (fun c => decide (c.tag = tag.toNat)) = some c →
      s.isolated 11 = false →
      r.toNat < s.wallRegions →
      bit (s.wallRegion r.toNat).2.2.2.2 0 = true →
      c.reported.contains r.toNat = false →
      ∃ t : State, exec (.regionComplete r tag) s = .next t ∧
        t.canv.any (fun x : Canvas => decide (x.tag = tag.toNat) && x.reported.contains r.toNat) = true) ∧
  (∀ (n : Fin 9) (g : Fin 16) (s : State),
      Safety.reachesBead s 11 n →
      s.on (R.GRD_GSTAT_ACTIVE n g) = true →
      ∃ t : State, exec (.guardClr n g) s = .next t ∧
        t.get (R.GRD_GSTAT_CLR n g) = 1 ∧
        t.get (R.GRD_GSTAT_ACTIVE n g) = s.get (R.GRD_GSTAT_ACTIVE n g)) ∧
  (∀ (n : Fin 9) (g : Fin 16) (s : State),
      Safety.reachesBead s 11 n →
      s.on (R.GRD_GSTAT_ACTIVE n g) = false →
      ∃ t : State, exec (.guardClr n g) s = .next t ∧
        t.get (R.GRD_GSTAT_CLR n g) = s.get (R.GRD_GSTAT_CLR n g) ∧
        t.get (R.GRD_GSTAT_ACTIVE n g) = s.get (R.GRD_GSTAT_ACTIVE n g))

/-- Each of these commands completes, for every state that meets the conditions named; headEnable and headDisable need
that the host reaches the head's bead, the others that OUT is not isolated. (1) headEnable of a stopped head: EN is 1;
in TALLY mode the head waits, and in FREE mode it runs at line VACT. Of a head that does not stand stopped: EN is 1,
with its state and line as they were. (2) headDisable: EN, STATE and LINE are 0. (3) headStart of a head that waits:
it runs at line VACT, and HEAD_VBLANK is announced. (4) headLineStart of a head that runs: before the last line of the
frame, LINE goes up by one. After the last one: where the blanking is being lengthened, one line less is left of that,
with LINE as it was; else where a new clock waits, RELOCK is set and announced and the head is in RELOCK; else LINE is
0 and the frame takes the VTOTAL in force. (5) headPllLock of a head in RELOCK: it waits in TALLY mode, and runs at
line VACT in FREE mode. (6) headPllUnlock of a head that waits or runs: it is in RELOCK, with RELOCK set and
announced. (spec R302, R303, R305, R306, R505) -/
def Obligations.HeadTiming : Prop :=
  (∀ (n : Fin 8) (s : State),
      Safety.reachesBead s 11 (10 + n) →
      s.get (R.HEAD_STAT_STATE n) = 0 →
      s.inForce (R.TG_CTL_MODE n) = 1 →
      ∃ t : State, exec (.headEnable n) s = .next t ∧
        t.get (R.TG_CTL_EN n) = 1 ∧
        t.get (R.HEAD_STAT_STATE n) = 1) ∧
  (∀ (n : Fin 8) (s : State),
      Safety.reachesBead s 11 (10 + n) →
      s.get (R.HEAD_STAT_STATE n) = 0 →
      s.inForce (R.TG_CTL_MODE n) ≠ 1 →
      ∃ t : State, exec (.headEnable n) s = .next t ∧
        t.get (R.TG_CTL_EN n) = 1 ∧
        t.get (R.HEAD_STAT_STATE n) = 2 ∧
        t.get (R.HEAD_STAT_LINE n) = s.inForce (R.TG_VACT_V n) % 2 ^ (R.HEAD_STAT_LINE n).w) ∧
  (∀ (n : Fin 8) (s : State),
      Safety.reachesBead s 11 (10 + n) →
      s.get (R.HEAD_STAT_STATE n) ≠ 0 →
      ∃ t : State, exec (.headEnable n) s = .next t ∧
        t.get (R.TG_CTL_EN n) = 1 ∧
        t.get (R.HEAD_STAT_STATE n) = s.get (R.HEAD_STAT_STATE n) ∧
        t.get (R.HEAD_STAT_LINE n) = s.get (R.HEAD_STAT_LINE n)) ∧
  (∀ (n : Fin 8) (s : State),
      Safety.reachesBead s 11 (10 + n) →
      ∃ t : State, exec (.headDisable n) s = .next t ∧
        t.get (R.TG_CTL_EN n) = 0 ∧
        t.get (R.HEAD_STAT_STATE n) = 0 ∧
        t.get (R.HEAD_STAT_LINE n) = 0) ∧
  (∀ (n : Fin 8) (s : State),
      s.isolated 11 = false →
      s.get (R.HEAD_STAT_STATE n) = 1 →
      ∃ t : State, exec (.headStart n) s = .next t ∧
        t.get (R.HEAD_STAT_STATE n) = 2 ∧
        t.get (R.HEAD_STAT_LINE n) = s.inForce (R.TG_VACT_V n) % 2 ^ (R.HEAD_STAT_LINE n).w ∧
        Safety.isRaised t (E.headVblank n)) ∧
  (∀ (n : Fin 8) (under : Option (BitVec 14)) (s : State),
      s.isolated 11 = false →
      s.get (R.HEAD_STAT_STATE n) = 2 →
      s.get (R.HEAD_STAT_LINE n) + 1 < s.get (I.HEAD_VT n) →
      ∃ t : State, exec (.headLineStart n under) s = .next t ∧
        t.get (R.HEAD_STAT_LINE n) = (s.get (R.HEAD_STAT_LINE n) + 1) % 2 ^ (R.HEAD_STAT_LINE n).w ∧
        t.get (R.HEAD_STAT_STATE n) = 2) ∧
  (∀ (n : Fin 8) (under : Option (BitVec 14)) (s : State),
      s.isolated 11 = false →
      s.get (R.HEAD_STAT_STATE n) = 2 →
      s.get (I.HEAD_VT n) ≤ s.get (R.HEAD_STAT_LINE n) + 1 →
      s.on (I.HEAD_MORE n) = true →
      ∃ t : State, exec (.headLineStart n under) s = .next t ∧
        t.get (I.HEAD_MORE n) = s.get (I.HEAD_MORE n) - 1 ∧
        t.get (R.HEAD_STAT_LINE n) = s.get (R.HEAD_STAT_LINE n) ∧
        t.get (R.HEAD_STAT_STATE n) = 2) ∧
  (∀ (n : Fin 8) (under : Option (BitVec 14)) (s : State),
      s.isolated 11 = false →
      s.get (R.HEAD_STAT_STATE n) = 2 →
      s.get (I.HEAD_VT n) ≤ s.get (R.HEAD_STAT_LINE n) + 1 →
      s.on (I.HEAD_MORE n) = false →
      s.on (I.HEAD_RELK n) = true →
      ∃ t : State, exec (.headLineStart n under) s = .next t ∧
        t.get (R.HEAD_STAT_STATE n) = 3 ∧
        t.get (R.HEAD_EVT_RELOCK n) = 1 ∧
        Safety.isRaised t (E.headRelock n)) ∧
  (∀ (n : Fin 8) (under : Option (BitVec 14)) (s : State),
      s.isolated 11 = false →
      s.get (R.HEAD_STAT_STATE n) = 2 →
      s.get (I.HEAD_VT n) ≤ s.get (R.HEAD_STAT_LINE n) + 1 →
      s.on (I.HEAD_MORE n) = false →
      s.on (I.HEAD_RELK n) = false →
      ∃ t : State, exec (.headLineStart n under) s = .next t ∧
        t.get (R.HEAD_STAT_LINE n) = 0 ∧
        t.get (R.HEAD_STAT_STATE n) = 2 ∧
        t.get (I.HEAD_VT n) = s.inForce (R.TG_VTOTAL_V n) % 2 ^ (I.HEAD_VT n).w) ∧
  (∀ (n : Fin 8) (s : State),
      s.isolated 11 = false →
      s.get (R.HEAD_STAT_STATE n) = 3 →
      s.inForce (R.TG_CTL_MODE n) = 1 →
      ∃ t : State, exec (.headPllLock n) s = .next t ∧
        t.get (R.HEAD_STAT_STATE n) = 1) ∧
  (∀ (n : Fin 8) (s : State),
      s.isolated 11 = false →
      s.get (R.HEAD_STAT_STATE n) = 3 →
      s.inForce (R.TG_CTL_MODE n) ≠ 1 →
      ∃ t : State, exec (.headPllLock n) s = .next t ∧
        t.get (R.HEAD_STAT_STATE n) = 2 ∧
        t.get (R.HEAD_STAT_LINE n) = s.inForce (R.TG_VACT_V n) % 2 ^ (R.HEAD_STAT_LINE n).w) ∧
  (∀ (n : Fin 8) (s : State),
      s.isolated 11 = false →
      s.get (R.HEAD_STAT_STATE n) = 1 ∨ s.get (R.HEAD_STAT_STATE n) = 2 →
      ∃ t : State, exec (.headPllUnlock n) s = .next t ∧
        t.get (R.HEAD_STAT_STATE n) = 3 ∧
        t.get (R.HEAD_EVT_RELOCK n) = 1 ∧
        Safety.isRaised t (E.headRelock n))

/-- Each of these commands completes, for every state that meets the conditions named: a GO needs that the host
reaches the port's bead, the others that OUT is not isolated. (1) hpdChange to the other level: HPD has it, and HPD_EV
is set and announced; a connect begins to train a port in use; a disconnect takes the link down, and sets LINK_EV
where it cuts a training. (2) irqHpd with HPD high: IRQ_EV is set, and where it tells of a lost link, a trained port
in use trains again. (3) dpTrained of a port that trains: a success records the rate and lanes found, limited by
MAX_RATE and MAX_LANES; a failure sets LINK_EV and counts; no training runs. (4) A GO of each of the six kinds with no
transfer in hand: with HPD high the port is busy and, unless it trains, the transfer is sent; with HPD low it ends at
once with NO_SINK. With one in hand: nothing is sent and the transfer in hand stays. (5) auxReply to a transfer in
hand of a port that does not train: ACK and NACK end it with RESULT 0 and 1 and the COUNT reached, and a read leaves
the bytes it got in the data registers; DEFER has it tried again, and the eighth ends it with RESULT 2. (6) auxTimeout
of such a transfer ends it with RESULT 3. (spec R316, R317) -/
def Obligations.SinksAndAux : Prop :=
  (∀ (q : Fin 4) (level : Bool) (s : State),
      s.isolated 11 = false →
      s.on (R.DP_STAT_HPD q) = false →
      level = true →
      ∃ t : State, exec (.hpdChange q level) s = .next t ∧
        t.get (R.DP_STAT_HPD q) = 1 ∧
        t.get (R.DP_EVT_HPD_EV q) = 1 ∧
        Safety.isRaised t (E.dpHpd q) ∧
        (s.on (R.DP_CFG_EN q) = true → t.get (I.DP_TRAIN q) = 1)) ∧
  (∀ (q : Fin 4) (level : Bool) (s : State),
      s.isolated 11 = false →
      s.on (R.DP_STAT_HPD q) = true →
      level = false →
      ∃ t : State, exec (.hpdChange q level) s = .next t ∧
        t.get (R.DP_STAT_HPD q) = 0 ∧
        t.get (R.DP_EVT_HPD_EV q) = 1 ∧
        t.get (R.DP_STAT_TRAINED q) = 0 ∧
        t.get (R.DP_STAT_STREAM q) = 0 ∧
        (s.on (I.DP_TRAIN q) = true → t.get (R.DP_EVT_LINK_EV q) = 1)) ∧
  (∀ (q : Fin 4) (lost : Bool) (s : State),
      s.isolated 11 = false →
      s.on (R.DP_STAT_HPD q) = true →
      ∃ t : State, exec (.irqHpd q lost) s = .next t ∧
        t.get (R.DP_EVT_IRQ_EV q) = 1 ∧
        (lost = true → s.on (R.DP_STAT_TRAINED q) = true → s.on (R.DP_CFG_EN q) = true → t.get (I.DP_TRAIN q) = 1 ∧ t.get (R.DP_STAT_TRAINED q) = 0)) ∧
  (∀ (q : Fin 4) (ok : Bool) (rate : Fin 9) (lanes : Fin 3) (s : State),
      s.isolated 11 = false →
      s.on (I.DP_TRAIN q) = true →
      ok = true →
      ∃ t : State, exec (.dpTrained q ok rate lanes) s = .next t ∧
        t.get (I.DP_TRAIN q) = 0 ∧
        t.get (R.DP_STAT_TRAINED q) = 1 ∧
        t.get (R.DP_STAT_RATE q) = min rate.val (s.inForce (R.DP_CFG_MAX_RATE q)) % 2 ^ (R.DP_STAT_RATE q).w ∧
        t.get (R.DP_STAT_LANES q) = min lanes.val (s.inForce (R.DP_CFG_MAX_LANES q)) % 2 ^ (R.DP_STAT_LANES q).w) ∧
  (∀ (q : Fin 4) (ok : Bool) (rate : Fin 9) (lanes : Fin 3) (s : State),
      s.isolated 11 = false →
      s.on (I.DP_TRAIN q) = true →
      ok = false →
      ∃ t : State, exec (.dpTrained q ok rate lanes) s = .next t ∧
        t.get (I.DP_TRAIN q) = 0 ∧
        t.get (R.DP_EVT_LINK_EV q) = 1 ∧
        t.get (R.DP_EVT_FAIL_CNT q) = satInc (R.DP_EVT_FAIL_CNT q).w (s.get (R.DP_EVT_FAIL_CNT q))) ∧
  (∀ (q : Fin 4) (len : Fin 16) (addr : BitVec 20) (s : State),
      Safety.reachesBead s 11 (22 + q) →
      s.on (R.DP_AUX_STAT_BUSY q) = false →
      ∃ t : State, exec (.auxNativeWrite q len addr) s = .next t ∧
        s.on (R.DP_STAT_HPD q) = true → s.on (I.DP_TRAIN q) = false → t.get (R.DP_AUX_STAT_BUSY q) = 1 ∧ t.out = s.out ++ [Out.aux q 0 addr.toNat len (s.auxData q (len + 1))] ∧
        s.on (R.DP_STAT_HPD q) = true → s.on (I.DP_TRAIN q) = true → t.get (R.DP_AUX_STAT_BUSY q) = 1 ∧ t.out = s.out ∧
        s.on (R.DP_STAT_HPD q) = false → t.get (R.DP_AUX_STAT_BUSY q) = 0 ∧ t.get (R.DP_AUX_STAT_RESULT q) = 4 ∧ t.out = s.out) ∧
  (∀ (q : Fin 4) (len : Fin 16) (addr : BitVec 20) (s : State),
      Safety.reachesBead s 11 (22 + q) →
      s.on (R.DP_AUX_STAT_BUSY q) = true →
      ∃ t : State, exec (.auxNativeWrite q len addr) s = .next t ∧
        t.get (R.DP_AUX_STAT_BUSY q) = s.get (R.DP_AUX_STAT_BUSY q) ∧
        t.get (R.DP_AUX_CMD_OP q) = s.get (R.DP_AUX_CMD_OP q) ∧
        t.get (R.DP_AUX_CMD_ADDR q) = s.get (R.DP_AUX_CMD_ADDR q) ∧
        t.out = s.out) ∧
  (∀ (q : Fin 4) (len : Fin 16) (addr : BitVec 20) (s : State),
      Safety.reachesBead s 11 (22 + q) →
      s.on (R.DP_AUX_STAT_BUSY q) = false →
      ∃ t : State, exec (.auxNativeRead q len addr) s = .next t ∧
        s.on (R.DP_STAT_HPD q) = true → s.on (I.DP_TRAIN q) = false → t.get (R.DP_AUX_STAT_BUSY q) = 1 ∧ t.out = s.out ++ [Out.aux q 1 addr.toNat len []] ∧
        s.on (R.DP_STAT_HPD q) = true → s.on (I.DP_TRAIN q) = true → t.get (R.DP_AUX_STAT_BUSY q) = 1 ∧ t.out = s.out ∧
        s.on (R.DP_STAT_HPD q) = false → t.get (R.DP_AUX_STAT_BUSY q) = 0 ∧ t.get (R.DP_AUX_STAT_RESULT q) = 4 ∧ t.out = s.out) ∧
  (∀ (q : Fin 4) (len : Fin 16) (addr : BitVec 20) (s : State),
      Safety.reachesBead s 11 (22 + q) →
      s.on (R.DP_AUX_STAT_BUSY q) = true →
      ∃ t : State, exec (.auxNativeRead q len addr) s = .next t ∧
        t.get (R.DP_AUX_STAT_BUSY q) = s.get (R.DP_AUX_STAT_BUSY q) ∧
        t.get (R.DP_AUX_CMD_OP q) = s.get (R.DP_AUX_CMD_OP q) ∧
        t.get (R.DP_AUX_CMD_ADDR q) = s.get (R.DP_AUX_CMD_ADDR q) ∧
        t.out = s.out) ∧
  (∀ (q : Fin 4) (len : Fin 16) (addr : BitVec 20) (s : State),
      Safety.reachesBead s 11 (22 + q) →
      s.on (R.DP_AUX_STAT_BUSY q) = false →
      ∃ t : State, exec (.auxI2cWrite q len addr) s = .next t ∧
        s.on (R.DP_STAT_HPD q) = true → s.on (I.DP_TRAIN q) = false → t.get (R.DP_AUX_STAT_BUSY q) = 1 ∧ t.out = s.out ++ [Out.aux q 2 addr.toNat len (s.auxData q (len + 1))] ∧
        s.on (R.DP_STAT_HPD q) = true → s.on (I.DP_TRAIN q) = true → t.get (R.DP_AUX_STAT_BUSY q) = 1 ∧ t.out = s.out ∧
        s.on (R.DP_STAT_HPD q) = false → t.get (R.DP_AUX_STAT_BUSY q) = 0 ∧ t.get (R.DP_AUX_STAT_RESULT q) = 4 ∧ t.out = s.out) ∧
  (∀ (q : Fin 4) (len : Fin 16) (addr : BitVec 20) (s : State),
      Safety.reachesBead s 11 (22 + q) →
      s.on (R.DP_AUX_STAT_BUSY q) = true →
      ∃ t : State, exec (.auxI2cWrite q len addr) s = .next t ∧
        t.get (R.DP_AUX_STAT_BUSY q) = s.get (R.DP_AUX_STAT_BUSY q) ∧
        t.get (R.DP_AUX_CMD_OP q) = s.get (R.DP_AUX_CMD_OP q) ∧
        t.get (R.DP_AUX_CMD_ADDR q) = s.get (R.DP_AUX_CMD_ADDR q) ∧
        t.out = s.out) ∧
  (∀ (q : Fin 4) (len : Fin 16) (addr : BitVec 20) (s : State),
      Safety.reachesBead s 11 (22 + q) →
      s.on (R.DP_AUX_STAT_BUSY q) = false →
      ∃ t : State, exec (.auxI2cRead q len addr) s = .next t ∧
        s.on (R.DP_STAT_HPD q) = true → s.on (I.DP_TRAIN q) = false → t.get (R.DP_AUX_STAT_BUSY q) = 1 ∧ t.out = s.out ++ [Out.aux q 3 addr.toNat len []] ∧
        s.on (R.DP_STAT_HPD q) = true → s.on (I.DP_TRAIN q) = true → t.get (R.DP_AUX_STAT_BUSY q) = 1 ∧ t.out = s.out ∧
        s.on (R.DP_STAT_HPD q) = false → t.get (R.DP_AUX_STAT_BUSY q) = 0 ∧ t.get (R.DP_AUX_STAT_RESULT q) = 4 ∧ t.out = s.out) ∧
  (∀ (q : Fin 4) (len : Fin 16) (addr : BitVec 20) (s : State),
      Safety.reachesBead s 11 (22 + q) →
      s.on (R.DP_AUX_STAT_BUSY q) = true →
      ∃ t : State, exec (.auxI2cRead q len addr) s = .next t ∧
        t.get (R.DP_AUX_STAT_BUSY q) = s.get (R.DP_AUX_STAT_BUSY q) ∧
        t.get (R.DP_AUX_CMD_OP q) = s.get (R.DP_AUX_CMD_OP q) ∧
        t.get (R.DP_AUX_CMD_ADDR q) = s.get (R.DP_AUX_CMD_ADDR q) ∧
        t.out = s.out) ∧
  (∀ (q : Fin 4) (len : Fin 16) (addr : BitVec 20) (s : State),
      Safety.reachesBead s 11 (22 + q) →
      s.on (R.DP_AUX_STAT_BUSY q) = false →
      ∃ t : State, exec (.auxI2cWriteMot q len addr) s = .next t ∧
        s.on (R.DP_STAT_HPD q) = true → s.on (I.DP_TRAIN q) = false → t.get (R.DP_AUX_STAT_BUSY q) = 1 ∧ t.out = s.out ++ [Out.aux q 4 addr.toNat len (s.auxData q (len + 1))] ∧
        s.on (R.DP_STAT_HPD q) = true → s.on (I.DP_TRAIN q) = true → t.get (R.DP_AUX_STAT_BUSY q) = 1 ∧ t.out = s.out ∧
        s.on (R.DP_STAT_HPD q) = false → t.get (R.DP_AUX_STAT_BUSY q) = 0 ∧ t.get (R.DP_AUX_STAT_RESULT q) = 4 ∧ t.out = s.out) ∧
  (∀ (q : Fin 4) (len : Fin 16) (addr : BitVec 20) (s : State),
      Safety.reachesBead s 11 (22 + q) →
      s.on (R.DP_AUX_STAT_BUSY q) = true →
      ∃ t : State, exec (.auxI2cWriteMot q len addr) s = .next t ∧
        t.get (R.DP_AUX_STAT_BUSY q) = s.get (R.DP_AUX_STAT_BUSY q) ∧
        t.get (R.DP_AUX_CMD_OP q) = s.get (R.DP_AUX_CMD_OP q) ∧
        t.get (R.DP_AUX_CMD_ADDR q) = s.get (R.DP_AUX_CMD_ADDR q) ∧
        t.out = s.out) ∧
  (∀ (q : Fin 4) (len : Fin 16) (addr : BitVec 20) (s : State),
      Safety.reachesBead s 11 (22 + q) →
      s.on (R.DP_AUX_STAT_BUSY q) = false →
      ∃ t : State, exec (.auxI2cReadMot q len addr) s = .next t ∧
        s.on (R.DP_STAT_HPD q) = true → s.on (I.DP_TRAIN q) = false → t.get (R.DP_AUX_STAT_BUSY q) = 1 ∧ t.out = s.out ++ [Out.aux q 5 addr.toNat len []] ∧
        s.on (R.DP_STAT_HPD q) = true → s.on (I.DP_TRAIN q) = true → t.get (R.DP_AUX_STAT_BUSY q) = 1 ∧ t.out = s.out ∧
        s.on (R.DP_STAT_HPD q) = false → t.get (R.DP_AUX_STAT_BUSY q) = 0 ∧ t.get (R.DP_AUX_STAT_RESULT q) = 4 ∧ t.out = s.out) ∧
  (∀ (q : Fin 4) (len : Fin 16) (addr : BitVec 20) (s : State),
      Safety.reachesBead s 11 (22 + q) →
      s.on (R.DP_AUX_STAT_BUSY q) = true →
      ∃ t : State, exec (.auxI2cReadMot q len addr) s = .next t ∧
        t.get (R.DP_AUX_STAT_BUSY q) = s.get (R.DP_AUX_STAT_BUSY q) ∧
        t.get (R.DP_AUX_CMD_OP q) = s.get (R.DP_AUX_CMD_OP q) ∧
        t.get (R.DP_AUX_CMD_ADDR q) = s.get (R.DP_AUX_CMD_ADDR q) ∧
        t.out = s.out) ∧
  (∀ (q : Fin 4) (kind : AuxKind) (count : Fin 17) (data : List Byte) (s : State),
      s.isolated 11 = false →
      s.on (R.DP_AUX_STAT_BUSY q) = true →
      s.on (I.DP_TRAIN q) = false →
      kind ≠ .defer →
      ∃ t : State, exec (.auxReply q kind count data) s = .next t ∧
        t.get (R.DP_AUX_STAT_BUSY q) = 0 ∧
        t.get (R.DP_AUX_STAT_RESULT q) = (if kind = .ack then 0 else 1) ∧
        t.get (R.DP_AUX_STAT_COUNT q) = min count.val (s.get (R.DP_AUX_CMD_LEN q) + 1) % 2 ^ (R.DP_AUX_STAT_COUNT q).w ∧
        s.get (R.DP_AUX_CMD_OP q) % 2 = 1 → min count.val (s.get (R.DP_AUX_CMD_LEN q) + 1) ≤ data.length → t.auxData q (min count.val (s.get (R.DP_AUX_CMD_LEN q) + 1)) = data.take (min count.val (s.get (R.DP_AUX_CMD_LEN q) + 1))) ∧
  (∀ (q : Fin 4) (kind : AuxKind) (count : Fin 17) (data : List Byte) (s : State),
      s.isolated 11 = false →
      s.on (R.DP_AUX_STAT_BUSY q) = true →
      s.on (I.DP_TRAIN q) = false →
      kind = .defer →
      s.get (I.AUX_TRY q) < 7 →
      ∃ t : State, exec (.auxReply q kind count data) s = .next t ∧
        t.get (R.DP_AUX_STAT_BUSY q) = s.get (R.DP_AUX_STAT_BUSY q) ∧
        t.get (I.AUX_TRY q) = s.get (I.AUX_TRY q) + 1) ∧
  (∀ (q : Fin 4) (kind : AuxKind) (count : Fin 17) (data : List Byte) (s : State),
      s.isolated 11 = false →
      s.on (R.DP_AUX_STAT_BUSY q) = true →
      s.on (I.DP_TRAIN q) = false →
      kind = .defer →
      7 ≤ s.get (I.AUX_TRY q) →
      ∃ t : State, exec (.auxReply q kind count data) s = .next t ∧
        t.get (R.DP_AUX_STAT_BUSY q) = 0 ∧
        t.get (R.DP_AUX_STAT_RESULT q) = 2) ∧
  (∀ (q : Fin 4) (s : State),
      s.isolated 11 = false →
      s.on (R.DP_AUX_STAT_BUSY q) = true →
      s.on (I.DP_TRAIN q) = false →
      ∃ t : State, exec (.auxTimeout q) s = .next t ∧
        t.get (R.DP_AUX_STAT_BUSY q) = 0 ∧
        t.get (R.DP_AUX_STAT_RESULT q) = 3)

/-- Each of these commands completes, for every state that meets the conditions named; a host command needs that the
host reaches the bead of TLY. (1) tlySet of a step value in Tally's range, and tlyAdd where the sum or difference is
in it: Tally has that value, and STEP_EV is set; tlySet shows it announced too. Outside the range: a rejected write,
recorded and announced, and Tally runs on. (2) tlyRateWrite of an ADJ in its range: ADJ holds it. Of another: a
rejected write, with ADJ as it was. (3) tlyNowRead: NS, SEC and HI latch the whole time, and the host gets NS. (4)
trgArm takes the comparator's time and arms it; trgDisarm disarms it. (5) trgFire of an armed comparator whose time
Tally has reached: it is marked and announced as fired and its pin rises; without a period it is disarmed, and with
one, and Tally below the width that the comparator's time has by more than 2^65 ns, it stays armed, its next time
after now and within one period of now where its first time is not after now. trgPulseEnd: its pin returns. (6)
capEdge of an enabled capture at an edge that it takes: VALID with Tally's whole nanoseconds, announced, and OVR where
VALID was set. (7) capRead of a valid capture: its time is latched, the host gets NS, VALID clears; of another the
host gets NS as it stands. (8) ptpMessage of a MAC that takes part, while PTP is in use and NET is not isolated: a
grandmaster and a UTC offset that it brings are recorded; an offset within the step threshold sets a clamped rate,
leads out of the free and holdover states, and locks or unlocks with the sixteenth in a row; one beyond it steps Tally
by it where the result is in range; without an offset Tally and its rate stay. (9) announceTimeout while PTP is in
use: HOLDOVER, with the rate as it was. (spec R323, R325, R326, R328, R329, R330, R334, R335, R336) -/
def Obligations.TallyAndPtp : Prop :=
  (∀ (s : State),
      Safety.reachesBead s 12 8 →
      s.stepValue < 2 ^ 48 * tSec →
      ∃ t : State, exec .tlySet s = .next t ∧
        t.now = s.stepValue ∧
        t.get R.TLY_CMD_STEP_EV = 1 ∧
        Safety.isRaised t E.tallyStep) ∧
  (∀ (s : State),
      Safety.reachesBead s 12 8 →
      2 ^ 48 * tSec ≤ s.stepValue →
      ∃ t : State, exec .tlySet s = .next t ∧
        t.now = s.now ∧
        t.get (R.WR_RANGE_WR 12) ≠ 0 ∧
        Safety.isRaised t E.wrRange) ∧
  (∀ (neg : Bool) (s : State),
      Safety.reachesBead s 12 8 →
      neg = false →
      s.now + s.stepValue < 2 ^ 48 * tSec →
      ∃ t : State, exec (.tlyAdd neg) s = .next t ∧
        t.now = s.now + s.stepValue ∧
        t.get R.TLY_CMD_STEP_EV = 1) ∧
  (∀ (neg : Bool) (s : State),
      Safety.reachesBead s 12 8 →
      neg = true →
      s.stepValue ≤ s.now →
      s.now < 2 ^ 48 * tSec →
      ∃ t : State, exec (.tlyAdd neg) s = .next t ∧
        t.now = s.now - s.stepValue ∧
        t.get R.TLY_CMD_STEP_EV = 1) ∧
  (∀ (neg : Bool) (s : State),
      Safety.reachesBead s 12 8 →
      neg = true ∧ s.now < s.stepValue ∨ neg = false ∧ 2 ^ 48 * tSec ≤ s.now + s.stepValue →
      ∃ t : State, exec (.tlyAdd neg) s = .next t ∧
        t.now = s.now ∧
        t.get (R.WR_RANGE_WR 12) ≠ 0 ∧
        Safety.isRaised t E.wrRange) ∧
  (∀ (adj : BitVec 32) (s : State),
      Safety.reachesBead s 12 8 →
      adjOk adj.toNat = true →
      ∃ t : State, exec (.tlyRateWrite adj) s = .next t ∧
        t.get R.TLY_RATE_ADJ = adj.toNat ∧
        t.now = s.now) ∧
  (∀ (adj : BitVec 32) (s : State),
      Safety.reachesBead s 12 8 →
      adjOk adj.toNat = false →
      ∃ t : State, exec (.tlyRateWrite adj) s = .next t ∧
        t.get R.TLY_RATE_ADJ = s.get R.TLY_RATE_ADJ ∧
        t.get (R.WR_RANGE_WR 12) ≠ 0 ∧
        Safety.isRaised t E.wrRange) ∧
  (∀ (s : State),
      Safety.reachesBead s 12 8 →
      ∃ t : State, exec .tlyNowRead s = .next t ∧
        t.get R.NOW_NS_V = timeNs s.now % 2 ^ 32 ∧
        t.get R.NOW_SEC_V = timeSec s.now % 2 ^ 32 ∧
        t.get R.NOW_HI_V = timeHi s.now % 2 ^ 32 ∧
        t.out = s.out ++ [Out.hostWord (timeNs s.now)]) ∧
  (∀ (n : Fin 16) (s : State),
      Safety.reachesBead s 12 8 →
      ∃ t : State, exec (.trgArm n) s = .next t ∧
        t.get (R.TRG_CTL_ARMED n) = 1 ∧
        t.get (I.TRG_T n) = timeOf (s.get (R.TRG_TIME_SEC_V n) + 2 ^ 32 * s.get (R.TRG_TIME_HI_V n)) (s.get (R.TRG_TIME_NS_V n)) % 2 ^ 200) ∧
  (∀ (n : Fin 16) (s : State),
      Safety.reachesBead s 12 8 →
      ∃ t : State, exec (.trgDisarm n) s = .next t ∧
        t.get (R.TRG_CTL_ARMED n) = 0) ∧
  (∀ (n : Fin 16) (s : State),
      s.on (R.TRG_CTL_ARMED n) = true →
      s.get (I.TRG_T n) ≤ s.now →
      s.get (R.TRG_PERIOD_V n) = 0 →
      ∃ t : State, exec (.trgFire n) s = .next t ∧
        t.get (R.TRG_STAT_FIRED n) = 1 ∧
        t.get (R.TRG_CTL_ARMED n) = 0 ∧
        (s.get (R.TRG_CTL_PIN n) ≠ 63 → t.get (I.TRG_PIN n) = 1) ∧
        Safety.isRaised t (E.trgFire n)) ∧
  (∀ (n : Fin 16) (s : State),
      s.on (R.TRG_CTL_ARMED n) = true →
      s.get (I.TRG_T n) ≤ s.now →
      s.get (R.TRG_PERIOD_V n) ≠ 0 →
      s.now + 2 ^ 65 * tNs < 2 ^ (I.TRG_T n).w →
      ∃ t : State, exec (.trgFire n) s = .next t ∧
        t.get (R.TRG_STAT_FIRED n) = 1 ∧
        t.get (R.TRG_CTL_ARMED n) = s.get (R.TRG_CTL_ARMED n) ∧
        s.get (I.TRG_T0 n) ≤ s.now → s.now < t.get (I.TRG_T n) ∧ t.get (I.TRG_T n) ≤ s.now + s.get (R.TRG_PERIOD_V n) * tNs ∧
        (s.get (R.TRG_CTL_PIN n) ≠ 63 → t.get (I.TRG_PIN n) = 1) ∧
        Safety.isRaised t (E.trgFire n)) ∧
  (∀ (n : Fin 16) (s : State),
      ∃ t : State, exec (.trgPulseEnd n) s = .next t ∧
        t.get (I.TRG_PIN n) = 0) ∧
  (∀ (j : Fin 8) (falling : Bool) (s : State),
      s.on (R.CAP_CTL_EN j) = true →
      s.get (R.CAP_CTL_EDGE j) = 0 ∧ falling = false ∨ s.get (R.CAP_CTL_EDGE j) = 1 ∧ falling = true ∨ 2 ≤ s.get (R.CAP_CTL_EDGE j) →
      ∃ t : State, exec (.capEdge j falling) s = .next t ∧
        t.get (R.CAP_STAT_VALID j) = 1 ∧
        t.get (I.CAP_T j) = wholeNs s.now % 2 ^ 200 ∧
        (s.on (R.CAP_STAT_VALID j) = true → t.get (R.CAP_STAT_OVR j) = 1) ∧
        Safety.isRaised t (E.capDone j)) ∧
  (∀ (j : Fin 8) (s : State),
      Safety.reachesBead s 12 8 →
      s.on (R.CAP_STAT_VALID j) = true →
      ∃ t : State, exec (.capRead j) s = .next t ∧
        t.get (R.CAP_NS_V j) = timeNs (s.get (I.CAP_T j)) % 2 ^ 32 ∧
        t.get (R.CAP_SEC_V j) = timeSec (s.get (I.CAP_T j)) % 2 ^ 32 ∧
        t.get (R.CAP_STAT_VALID j) = 0 ∧
        t.out = s.out ++ [Out.hostWord (timeNs (s.get (I.CAP_T j)) % 2 ^ 32)]) ∧
  (∀ (j : Fin 8) (s : State),
      Safety.reachesBead s 12 8 →
      s.on (R.CAP_STAT_VALID j) = false →
      ∃ t : State, exec (.capRead j) s = .next t ∧
        t.get (R.CAP_NS_V j) = s.get (R.CAP_NS_V j) ∧
        t.out = s.out ++ [Out.hostWord (s.get (R.CAP_NS_V j))]) ∧
  (∀ (m : Fin 4) (msg : PtpMsg) (o : BitVec 64) (s : State),
      s.isolated 12 = false →
      s.get R.PTP_CFG_MODE ≠ 0 →
      bit (s.get R.PTP_CFG_PORTS) m = true →
      msg.offset = some o →
      o.toInt.natAbs ≤ s.get R.PTP_SERVO_STEP_TH * 1000 →
      ∃ t : State, exec (.ptpMessage m msg) s = .next t ∧
        t.now = s.now ∧
        t.get R.TLY_RATE_ADJ = unsigned 32 (clampTo 4294967 (msg.freq.toInt + clampTo (s.get R.PTP_SERVO_SLEW_PPM * 2 ^ 32 / 1000000 : Nat) msg.slew.toInt)) ∧
        (s.get R.PTP_STAT_STATE = 0 ∨ s.get R.PTP_STAT_STATE = 3 → t.get R.PTP_STAT_STATE = 1) ∧
        (s.get R.PTP_STAT_STATE = 1 → o.toInt.natAbs ≤ s.get R.PTP_SERVO_LOCK_NS → 15 ≤ s.get I.PTP_IN → t.get R.PTP_STAT_STATE = 2) ∧
        (s.get R.PTP_STAT_STATE = 2 → s.get R.PTP_SERVO_LOCK_NS < o.toInt.natAbs → 15 ≤ s.get I.PTP_OUTB → t.get R.PTP_STAT_STATE = 1) ∧
        (match msg.gm with | some g => decide (t.get (R.PTP_GM_ID 0) = g.toNat % 2 ^ 32 ∧ t.get (R.PTP_GM_ID 1) = g.toNat / 2 ^ 32) | none => decide (t.get (R.PTP_GM_ID 0) = s.get (R.PTP_GM_ID 0))) = true ∧
        (match msg.utc with | some u => decide (t.get R.LTC_UTC_OFF = u.toNat ∧ t.get R.LTC_UTC_VALID = 1) | none => decide (t.get R.LTC_UTC_OFF = s.get R.LTC_UTC_OFF)) = true) ∧
  (∀ (m : Fin 4) (msg : PtpMsg) (o : BitVec 64) (s : State),
      s.isolated 12 = false →
      s.get R.PTP_CFG_MODE ≠ 0 →
      bit (s.get R.PTP_CFG_PORTS) m = true →
      msg.offset = some o →
      s.get R.PTP_SERVO_STEP_TH * 1000 < o.toInt.natAbs →
      0 ≤ (s.now : Int) - o.toInt * tNs →
      (s.now : Int) - o.toInt * tNs < (2 ^ 48 * tSec : Nat) →
      ∃ t : State, exec (.ptpMessage m msg) s = .next t ∧
        (t.now : Int) = (s.now : Int) - o.toInt * tNs ∧
        t.get R.TLY_RATE_ADJ = s.get R.TLY_RATE_ADJ ∧
        Safety.isRaised t E.tallyStep ∧
        (match msg.gm with | some g => decide (t.get (R.PTP_GM_ID 0) = g.toNat % 2 ^ 32 ∧ t.get (R.PTP_GM_ID 1) = g.toNat / 2 ^ 32) | none => decide (t.get (R.PTP_GM_ID 0) = s.get (R.PTP_GM_ID 0))) = true ∧
        (match msg.utc with | some u => decide (t.get R.LTC_UTC_OFF = u.toNat ∧ t.get R.LTC_UTC_VALID = 1) | none => decide (t.get R.LTC_UTC_OFF = s.get R.LTC_UTC_OFF)) = true) ∧
  (∀ (m : Fin 4) (msg : PtpMsg) (s : State),
      s.isolated 12 = false →
      s.get R.PTP_CFG_MODE ≠ 0 →
      bit (s.get R.PTP_CFG_PORTS) m = true →
      msg.offset = none →
      ∃ t : State, exec (.ptpMessage m msg) s = .next t ∧
        t.now = s.now ∧
        t.get R.TLY_RATE_ADJ = s.get R.TLY_RATE_ADJ ∧
        (match msg.gm with | some g => decide (t.get (R.PTP_GM_ID 0) = g.toNat % 2 ^ 32 ∧ t.get (R.PTP_GM_ID 1) = g.toNat / 2 ^ 32) | none => decide (t.get (R.PTP_GM_ID 0) = s.get (R.PTP_GM_ID 0))) = true ∧
        (match msg.utc with | some u => decide (t.get R.LTC_UTC_OFF = u.toNat ∧ t.get R.LTC_UTC_VALID = 1) | none => decide (t.get R.LTC_UTC_OFF = s.get R.LTC_UTC_OFF)) = true) ∧
  (∀ (s : State),
      s.isolated 12 = false →
      s.get R.PTP_CFG_MODE ≠ 0 →
      ∃ t : State, exec .announceTimeout s = .next t ∧
        t.get R.PTP_STAT_HOLD_EV = 1 ∧
        t.get R.PTP_STAT_STATE = 3 ∧
        t.get R.TLY_RATE_ADJ = s.get R.TLY_RATE_ADJ)

/-- Each of these commands completes, for every state that meets the conditions named, NET not isolated. (1) ethLinkUp
of a MAC in use: LINK and FEC_LOCK, and AN_DONE where AN is in use. ethLinkDown of a link that is up: it is down,
counted and announced. (2) ethFrameRx on a link that is up: a frame within MAX_FRAME goes to firmware, with Tally's
whole nanoseconds less RX_LAT for an event message; one with a FEC failure is counted and announced. A frame that is
too long, or comes while the link is down, changes nothing. (3) ptpEventMessageTx on such a link: a two-step message
is sent and its time queued, or OVF set and announced where 64 are; a one-step message is sent with its time written
in. (4) tsqPop, where the host reaches the MAC's bead: the oldest timestamp leaves the queue and is latched and read;
from an empty queue VALID is 0. (5) ltcFrameOut and ltcInSync while enabled: the timecode is sent, or taken into TC.
(6) flowCommit, where the host reaches NET: of a flow with a picture in progress it waits, with the Tray as it was;
else an entry that breaks a rule is recorded and announced, with the Tray as it was, and one that breaks none is the
entry in force, where NET may write. A flow number above 2,143: a rejected write. (7) flowPacketTx of a sending flow
with a picture in progress: while its link is down, or late, the picture is dropped and counted, and when late
announced; else the next packet is the frame sent first, the sequence number goes up, and the last packet ends the
picture. (8) rtpRxPacket that a receive flow takes, on a link that is up: the flow's next sequence number and
timestamp are those that follow, and a gap is recorded and announced. One that no flow takes, or with the link down,
changes nothing. (9) encPictureDone of an encoder with a picture in progress: its stream's record has the picture's
tag, POC, sweep index and encoder; where no picture is due on any stream the stream is no longer busy and the encoder
stands idle. (spec R320, R322, R331, R332, R333, R337, R338, R340, R343, R244, R261) -/
def Obligations.NetworkTraffic : Prop :=
  (∀ (m : Fin 4) (s : State),
      s.isolated 12 = false →
      s.on (R.MAC_CFG_EN m) = true →
      ∃ t : State, exec (.ethLinkUp m) s = .next t ∧
        t.get (R.MAC_STAT_LINK m) = 1 ∧
        t.get (R.MAC_STAT_FEC_LOCK m) = 1 ∧
        t.get (R.MAC_STAT_AN_DONE m) = s.get (R.MAC_CFG_AN m) % 2 ^ (R.MAC_STAT_AN_DONE m).w) ∧
  (∀ (m : Fin 4) (s : State),
      s.isolated 12 = false →
      s.on (R.MAC_STAT_LINK m) = true →
      ∃ t : State, exec (.ethLinkDown m) s = .next t ∧
        t.get (R.MAC_STAT_LINK m) = 0 ∧
        t.get (R.MAC_EVT_LINK_EV m) = 1 ∧
        t.get (R.MAC_EVT_DOWN_CNT m) = satInc (R.MAC_EVT_DOWN_CNT m).w (s.get (R.MAC_EVT_DOWN_CNT m)) ∧
        Safety.isRaised t (E.ethLink m)) ∧
  (∀ (m : Fin 4) (ptpEvent fecBad : Bool) (frame : List Byte) (s : State),
      s.isolated 12 = false →
      s.on (R.MAC_STAT_LINK m) = true →
      fecBad = false →
      frame.length + 4 ≤ s.get (R.MAC_CFG_MAX_FRAME m) →
      ∃ t : State, exec (.ethFrameRx m ptpEvent fecBad frame) s = .next t ∧
        t.out.take (s.out.length + 1) = s.out ++ [Out.ethToCore m (if ptpEvent then some (wholeNs s.now - s.get (R.TS_LAT_RX m) * 2 ^ 24) else none) frame]) ∧
  (∀ (m : Fin 4) (ptpEvent fecBad : Bool) (frame : List Byte) (s : State),
      s.isolated 12 = false →
      s.on (R.MAC_STAT_LINK m) = true →
      fecBad = true →
      ∃ t : State, exec (.ethFrameRx m ptpEvent fecBad frame) s = .next t ∧
        t.get (R.MAC_EVT_FEC_UNCORR m) = 1 ∧
        t.get (R.MAC_EVT_UNC_CNT m) = satInc (R.MAC_EVT_UNC_CNT m).w (s.get (R.MAC_EVT_UNC_CNT m)) ∧
        Safety.isRaised t (E.ethFec m)) ∧
  (∀ (m : Fin 4) (ptpEvent fecBad : Bool) (frame : List Byte) (s : State),
      s.on (R.MAC_STAT_LINK m) = false ∨ fecBad = false ∧ s.get (R.MAC_CFG_MAX_FRAME m) < frame.length + 4 →
      ∃ t : State, exec (.ethFrameRx m ptpEvent fecBad frame) s = .next t ∧
        t = s) ∧
  (∀ (m : Fin 4) (req : TxStamp) (frame : List Byte) (id : BitVec 16) (s : State),
      s.isolated 12 = false →
      s.on (R.MAC_STAT_LINK m) = true →
      req = .twoStep id →
      (s.tsq.filter (fun e => decide (e.1 = m.val))).length < 64 →
      ∃ t : State, exec (.ptpEventMessageTx m req frame) s = .next t ∧
        t.out = s.out ++ [Out.ethFrame m frame] ∧
        t.tsq = s.tsq ++ [(m.val, id.toNat, wholeNs s.now + s.get (R.TS_LAT_TX m) * 2 ^ 24)]) ∧
  (∀ (m : Fin 4) (req : TxStamp) (frame : List Byte) (id : BitVec 16) (s : State),
      s.isolated 12 = false →
      s.on (R.MAC_STAT_LINK m) = true →
      req = .twoStep id →
      64 ≤ (s.tsq.filter (fun e => decide (e.1 = m.val))).length →
      ∃ t : State, exec (.ptpEventMessageTx m req frame) s = .next t ∧
        t.out.take (s.out.length + 1) = s.out ++ [Out.ethFrame m frame] ∧
        t.tsq = s.tsq ∧
        t.get (R.TSQ_STAT_OVF m) = 1 ∧
        Safety.isRaised t (E.tsqOvf m)) ∧
  (∀ (m : Fin 4) (req : TxStamp) (frame : List Byte) (off ck : BitVec 14) (s : State),
      s.isolated 12 = false →
      s.on (R.MAC_STAT_LINK m) = true →
      req = .oneStep off ck →
      ∃ t : State, exec (.ptpEventMessageTx m req frame) s = .next t ∧
        t.out = s.out ++ [Out.ethFrame m (patchBytes (patchBytes frame off.toNat (beBytes 6 (timeSec (wholeNs s.now + s.get (R.TS_LAT_TX m) * 2 ^ 24)) ++ beBytes 4 (timeNs (wholeNs s.now + s.get (R.TS_LAT_TX m) * 2 ^ 24)))) ck.toNat [0, 0])] ∧
        t.tsq = s.tsq) ∧
  (∀ (m : Fin 4) (s : State),
      Safety.reachesBead s 12 m →
      s.tsq.find? (fun e => decide (e.1 = m.val)) = none →
      ∃ t : State, exec (.tsqPop m) s = .next t ∧
        t.get (R.TSQ_POP_VALID m) = 0 ∧
        t.tsq = s.tsq) ∧
  (∀ (m : Fin 4) (e : Nat × Nat × Time) (s : State),
      Safety.reachesBead s 12 m →
      s.tsq.find? (fun e => decide (e.1 = m.val)) = some e →
      ∃ t : State, exec (.tsqPop m) s = .next t ∧
        t.tsq = s.tsq.erase e ∧
        t.get (R.TSQ_POP_VALID m) = 1 ∧
        t.get (R.TSQ_NS_NS m) = timeNs e.2.2 % 2 ^ (R.TSQ_NS_NS m).w ∧
        t.out = s.out ++ [Out.hostWord (2 ^ 31 + e.2.1)]) ∧
  (∀ (s : State),
      s.isolated 12 = false →
      s.on R.LTC_CFG_OUT_EN = true →
      ∃ t : State, exec .ltcFrameOut s = .next t ∧
        t.out = s.out ++ [Out.ltc (s.timecode s.now (ltcRate (s.get R.LTC_CFG_RATE)).1 (ltcRate (s.get R.LTC_CFG_RATE)).2)]) ∧
  (∀ (tc : BitVec 32) (s : State),
      s.isolated 12 = false →
      s.on R.LTC_CFG_IN_EN = true →
      ∃ t : State, exec (.ltcInSync tc) s = .next t ∧
        t.get R.LTC_IN_TC = tc.toNat) ∧
  (∀ (f : BitVec 12) (s : State),
      Safety.reaches s 12 →
      f.toNat ≤ 2143 →
      (s.flow f.toNat).any (fun x => !x.pics.isEmpty) = true →
      ∃ t : State, exec (.flowCommit f) s = .next t ∧
        (t.flow f.toNat).any (fun x : Flow => x.commit) = true ∧
        t.tray = s.tray) ∧
  (∀ (f : BitVec 12) (q : Nat × Bool) (s : State),
      Safety.reaches s 12 →
      f.toNat ≤ 2143 →
      (s.flow f.toNat).all (fun x => x.pics.isEmpty) = true →
      (((s.withFlow f.toNat).modFlow f.toNat (fun x => { x with commit := false })).flowRules f.toNat ⟨s.trayRead (s.flowStaged f.toNat) 64⟩).find? (fun r => !r.2) = some q →
      ∃ t : State, exec (.flowCommit f) s = .next t ∧
        t.get R.FLOW_BAD_BAD ≠ 0 ∧
        s.on R.FLOW_BAD_BAD = false → t.get R.FLOW_BAD_RULE = q.1 % 2 ^ (R.FLOW_BAD_RULE).w ∧ t.get R.FLOW_BAD_FLOW = f.toNat ∧
        Safety.isRaised t E.flowBad ∧
        t.tray = s.tray) ∧
  (∀ (f : BitVec 12) (s : State),
      Safety.reaches s 12 →
      f.toNat ≤ 2143 →
      (s.flow f.toNat).all (fun x => x.pics.isEmpty) = true →
      (((s.withFlow f.toNat).modFlow f.toNat (fun x => { x with commit := false })).flowRules f.toNat ⟨s.trayRead (s.flowStaged f.toNat) 64⟩).find? (fun r => !r.2) = none →
      s.granted 12 (s.flowForce f.toNat / granBytes) true = true →
      ∃ t : State, exec (.flowCommit f) s = .next t ∧
        t.get R.FLOW_BAD_BAD = s.get R.FLOW_BAD_BAD ∧
        t.trayRead (s.flowForce f.toNat) 64 = s.trayRead (s.flowStaged f.toNat) 64 ∧
        (t.flow f.toNat).any (fun x : Flow => !x.commit) = true) ∧
  (∀ (f : BitVec 12) (s : State),
      Safety.reaches s 12 →
      2143 < f.toNat →
      ∃ t : State, exec (.flowCommit f) s = .next t ∧
        t.get (R.WR_RANGE_WR 12) ≠ 0 ∧
        Safety.isRaised t E.wrRange ∧
        t.flows = s.flows) ∧
  (∀ (f : BitVec 12) (late : Bool) (x : Flow) (p : FlowPic) (more : List FlowPic) (s : State),
      s.isolated 12 = false →
      f.toNat ≤ 2143 →
      (s.flowEnt f.toNat).kind ≠ 0 →
      (s.flowEnt f.toNat).rx = false →
      s.flow f.toNat = some x →
      x.pics = p :: more →
      s.on (R.MAC_STAT_LINK (s.flowPkt f.toNat (s.flowEnt f.toNat))) = false ∨ late = true →
      ∃ t : State, exec (.flowPacketTx f late) s = .next t ∧
        (t.flow f.toNat).any (fun y : Flow => decide (y.pics = more ∧ y.seq = x.seq)) = true ∧
        t.get (R.PKT_STAT_DROP_CNT (s.flowPkt f.toNat (s.flowEnt f.toNat))) = satInc (R.PKT_STAT_DROP_CNT (s.flowPkt f.toNat (s.flowEnt f.toNat))).w (s.get (R.PKT_STAT_DROP_CNT (s.flowPkt f.toNat (s.flowEnt f.toNat)))) ∧
        s.on (R.MAC_STAT_LINK (s.flowPkt f.toNat (s.flowEnt f.toNat))) = true → t.get (R.PKT_STAT_TX_DROP (s.flowPkt f.toNat (s.flowEnt f.toNat))) = 1 ∧ Safety.isRaised t (E.pktTxDrop (s.flowPkt f.toNat (s.flowEnt f.toNat)))) ∧
  (∀ (f : BitVec 12) (late : Bool) (x : Flow) (p : FlowPic) (more : List FlowPic) (d : List Byte) (rest : List (List Byte)) (s : State),
      s.isolated 12 = false →
      f.toNat ≤ 2143 →
      (s.flowEnt f.toNat).kind ≠ 0 →
      (s.flowEnt f.toNat).rx = false →
      s.flow f.toNat = some x →
      x.pics = p :: more →
      p.pkts = d :: rest →
      late = false →
      s.on (R.MAC_STAT_LINK (s.flowPkt f.toNat (s.flowEnt f.toNat))) = true →
      ∃ t : State, exec (.flowPacketTx f late) s = .next t ∧
        t.out.take (s.out.length + 1) = s.out ++ [Out.ethFrame (s.flowPkt f.toNat (s.flowEnt f.toNat)) (s.rtpFrame (s.flowPkt f.toNat (s.flowEnt f.toNat)) (s.flowEnt f.toNat) x.seq p.ts rest.isEmpty (let d2 := if (s.flowEnt f.toNat).kind = 2 then beBytes 2 (x.seq / 65536) ++ d else d; if (s.flowEnt f.toNat).hdr then s.wallHeader f.toNat (s.flowEnt f.toNat) p ++ d2 else d2))] ∧
        (t.flow f.toNat).any (fun y : Flow => decide (y.seq = (x.seq + 1) % 2 ^ 32 ∧ y.pics = if rest = [] then more else { p with pkts := rest, idx := p.idx + 1 } :: more)) = true) ∧
  (∀ (m : Fin 4) (pkt : RtpPkt) (f : Nat) (s : State),
      s.isolated 12 = false →
      s.on (R.MAC_STAT_LINK m) = true →
      ((List.range 64).map (· + 2080)).find? (fun f => let e := s.flowEnt f; e.rx && decide (e.kind = 1 ∧ e.ctl % 4 = m.val ∧ beNat (slice e.b 0x10 4) = pkt.ip.toNat ∧ e.u 0x14 2 = pkt.port.toNat)) = some f →
      ∃ t : State, exec (.rtpRxPacket m pkt) s = .next t ∧
        t.rxs.any (fun x : RxFlow => decide (x.num = f ∧ x.seq = (pkt.seq.toNat + 1) % 65536 ∧ x.ts = if pkt.marker then 2 ^ 32 else pkt.ts.toNat)) = true ∧
        (s.rxs.find? (fun x => decide (x.num = f))).any (fun x => decide (x.seq ≠ pkt.seq.toNat)) = true → t.get (R.PKT_STAT_RX_LOST m) = 1 ∧ Safety.isRaised t (E.pktRxLost m)) ∧
  (∀ (m : Fin 4) (pkt : RtpPkt) (s : State),
      s.on (R.MAC_STAT_LINK m) = false ∨ ((List.range 64).map (· + 2080)).find? (fun f => let e := s.flowEnt f; e.rx && decide (e.kind = 1 ∧ e.ctl % 4 = m.val ∧ beNat (slice e.b 0x10 4) = pkt.ip.toNat ∧ e.u 0x14 2 = pkt.port.toNat)) = none →
      ∃ t : State, exec (.rtpRxPacket m pkt) s = .next t ∧
        t = s) ∧
  (∀ (e : Fin 8) (x : Strm) (j : EncJob) (s : State),
      s.strms.find? (fun x => match x.busy with | some j => decide (j.enc = e.val) | none => false) = some x →
      x.busy = some j →
      ∃ t : State, exec (.encPictureDone e) s = .next t ∧
        (t.strm x.num).any (fun y : Strm => decide (y.lastTag = j.tag ∧ y.poc = j.poc ∧ y.j = j.j ∧ y.enc = e.val)) = true) ∧
  (∀ (e : Fin 8) (x : Strm) (j : EncJob) (s : State),
      s.strms.find? (fun x => match x.busy with | some j => decide (j.enc = e.val) | none => false) = some x →
      x.busy = some j →
      s.strms.all (fun y => y.dues.isEmpty) = true →
      ∃ t : State, exec (.encPictureDone e) s = .next t ∧
        (t.strm x.num).any (fun y : Strm => y.busy.isNone) = true ∧
        t.get (R.ENC_STAT_STATE (e.val / 4) (e.val % 4)) = 0)

/-- Each of these commands completes, for every state that meets the conditions named; where not said otherwise AUD is
not isolated. (1) audPortEnable, where the host reaches the bead: EN is 1, and a stopped port waits for a whole
millisecond ahead. (2) audPortStart of a waiting port in no armed group: at its time, or a block boundary of its
group, it starts with block 0, in FALLBACK where its clock is missing. Of another port, or before its time: nothing
changes. (3) sgArm, where the host reaches AUD: with at most four members, none running or in another armed group, the
group is armed with its time; one that is past becomes a whole millisecond ahead, with LATE, announced. Otherwise a
rejected write. (4) sgDisarm, where the host reaches AUD: the group is not armed, and a waiting member waits for a
whole millisecond. (5) sgStart of an armed group at its time: it disarms, announced; a waiting member starts at that
time, and another is recorded and announced as missed. (6) audSampleFrame of a running port: the first frame sync
synchronises it; a later one counts a frame, takes a received frame where no block waits, sends the next transmit
frame unless clock or frame is bad, and records and announces an error. (7) audBlockBoundary: the next block opens,
with its number and index; DRIFT is 0 where drift is not followed, a slip of a frame is recorded and announced, and a
clock that has come back is used again, announced. Where AUD drains, the port stops. (8) audClkLoss of a port that
watches an external clock: recorded and announced, and a running port falls back. audGlitch: recorded and counted.
audMonWindow: the rate is recorded; a bit clock out of its window is recorded, and a running port without ASRC falls
back. (9) asrcLock of a running port with ASRC: locked with its ratio, announced. (10) audStreamBlock while no commit
of the streams is due: the block of an enabled stream goes to each SDI output that carries it, and that of another
nowhere. (spec R350, R352, R353, R354, R356, R357, R358, R359, R360, R361, R362, R364) -/
def Obligations.AudioPorts : Prop :=
  (∀ (n : Fin 8) (s : State),
      Safety.reachesBead s 13 n →
      s.get (R.AP_STAT_CLK_STATE n) = 0 →
      ∃ t : State, exec (.audPortEnable n) s = .next t ∧
        t.get (R.AP_CFG_EN n) = 1 ∧
        t.get (R.AP_STAT_CLK_STATE n) = 1 ∧
        t.get (I.AP_T n) = nextMs s.now % 2 ^ 200) ∧
  (∀ (n : Fin 8) (s : State),
      Safety.reachesBead s 13 n →
      s.get (R.AP_STAT_CLK_STATE n) ≠ 0 →
      ∃ t : State, exec (.audPortEnable n) s = .next t ∧
        t.get (R.AP_CFG_EN n) = 1 ∧
        t.get (R.AP_STAT_CLK_STATE n) = s.get (R.AP_STAT_CLK_STATE n)) ∧
  (∀ (n : Fin 8) (s : State),
      s.isolated 13 = false →
      s.get (R.AP_STAT_CLK_STATE n) = 1 →
      s.audGroup n = none →
      s.on (I.AP_GRP n) = true ∨ s.get (I.AP_T n) ≤ s.now →
      ∃ t : State, exec (.audPortStart n) s = .next t ∧
        t.get (R.AP_STAT_CLK_STATE n) = (if s.on (I.AP_NOCLK n) then 3 else 2) ∧
        (t.aud n).any (fun a : AudPort => decide ((a.t0 = if s.on (I.AP_GRP n) then s.get (I.AP_GRP n) - 1 else s.get (I.AP_T n)) ∧ a.blk.seq = 0)) = true) ∧
  (∀ (n : Fin 8) (s : State),
      s.get (R.AP_STAT_CLK_STATE n) ≠ 1 ∨ (s.audGroup n).isSome = true ∨ s.on (I.AP_GRP n) = false ∧ s.now < s.get (I.AP_T n) →
      ∃ t : State, exec (.audPortStart n) s = .next t ∧
        t = s) ∧
  (∀ (g : Fin 4) (s : State),
      Safety.reaches s 13 →
      ((List.range 8).filter (bit (s.get (R.SG_CTL_MASK g)))).length ≤ 4 →
      (List.range 4).all (fun h => decide (h = g.val) || !s.on (R.SG_CTL_ARMED h) || ((List.range 8).filter (bit (s.get (R.SG_CTL_MASK g)))).all (fun n => !bit (s.get (R.SG_CTL_MASK h)) n)) = true →
      ((List.range 8).filter (bit (s.get (R.SG_CTL_MASK g)))).all (fun n => decide (s.get (R.AP_STAT_CLK_STATE n) < 2)) = true →
      ∃ t : State, exec (.sgArm g) s = .next t ∧
        t.get (R.SG_CTL_ARMED g) = 1 ∧
        s.now < timeOf (s.get (R.SG_TIME_SEC_V g) + 2 ^ 32 * s.get (R.SG_TIME_HI_V g)) (s.get (R.SG_TIME_NS_V g)) → t.get (I.SG_T g) = timeOf (s.get (R.SG_TIME_SEC_V g) + 2 ^ 32 * s.get (R.SG_TIME_HI_V g)) (s.get (R.SG_TIME_NS_V g)) % 2 ^ 200 ∧
        timeOf (s.get (R.SG_TIME_SEC_V g) + 2 ^ 32 * s.get (R.SG_TIME_HI_V g)) (s.get (R.SG_TIME_NS_V g)) ≤ s.now → t.get (I.SG_T g) = nextMs s.now % 2 ^ 200 ∧ t.get (R.SG_CTL_LATE g) = 1 ∧ Safety.isRaised t (E.sgLate g)) ∧
  (∀ (g : Fin 4) (s : State),
      Safety.reaches s 13 →
      4 < ((List.range 8).filter (bit (s.get (R.SG_CTL_MASK g)))).length ∨ (List.range 4).all (fun h => decide (h = g.val) || !s.on (R.SG_CTL_ARMED h) || ((List.range 8).filter (bit (s.get (R.SG_CTL_MASK g)))).all (fun n => !bit (s.get (R.SG_CTL_MASK h)) n)) = false ∨ ((List.range 8).filter (bit (s.get (R.SG_CTL_MASK g)))).all (fun n => decide (s.get (R.AP_STAT_CLK_STATE n) < 2)) = false →
      ∃ t : State, exec (.sgArm g) s = .next t ∧
        t.get (R.SG_CTL_ARMED g) = s.get (R.SG_CTL_ARMED g) ∧
        t.get (R.WR_RANGE_WR 13) ≠ 0 ∧
        Safety.isRaised t E.wrRange) ∧
  (∀ (g : Fin 4) (n : Fin 8) (s : State),
      Safety.reaches s 13 →
      bit (s.get (R.SG_CTL_MASK g)) n = true →
      ∃ t : State, exec (.sgDisarm g) s = .next t ∧
        t.get (R.SG_CTL_ARMED g) = 0 ∧
        s.on (R.SG_CTL_ARMED g) = true → s.get (R.AP_STAT_CLK_STATE n) = 1 → t.get (I.AP_T n) = nextMs s.now % 2 ^ 200) ∧
  (∀ (g : Fin 4) (s : State),
      Safety.reaches s 13 →
      ∃ t : State, exec (.sgDisarm g) s = .next t ∧
        t.get (R.SG_CTL_ARMED g) = 0) ∧
  (∀ (g : Fin 4) (n : Fin 8) (s : State),
      s.isolated 13 = false →
      s.on (R.SG_CTL_ARMED g) = true →
      s.get (I.SG_T g) ≤ s.now →
      bit (s.get (R.SG_CTL_MASK g)) n = true →
      ∃ t : State, exec (.sgStart g) s = .next t ∧
        t.get (R.SG_CTL_ARMED g) = 0 ∧
        Safety.isRaised t (E.sgStart g) ∧
        s.get (R.AP_STAT_CLK_STATE n) = 1 → t.get (R.AP_STAT_CLK_STATE n) = (if s.on (I.AP_NOCLK n) then 3 else 2) ∧ (t.aud n).any (fun a : AudPort => decide (a.t0 = s.get (I.SG_T g))) = true ∧
        s.get (R.AP_STAT_CLK_STATE n) ≠ 1 → t.get (R.SG_CTL_MISS g) = 1 ∧ Safety.isRaised t (E.sgMiss g) ∧ t.get (R.AP_STAT_CLK_STATE n) = s.get (R.AP_STAT_CLK_STATE n)) ∧
  (∀ (n : Fin 8) (fsErr : Bool) (samples : List (BitVec 24)) (a : AudPort) (s : State),
      s.isolated 13 = false →
      s.aud n = some a →
      a.synced = false →
      ∃ t : State, exec (.audSampleFrame n fsErr samples) s = .next t ∧
        (t.aud n).any (fun b : AudPort => b.synced) = true) ∧
  (∀ (n : Fin 8) (fsErr : Bool) (samples : List (BitVec 24)) (a : AudPort) (s : State),
      s.isolated 13 = false →
      s.aud n = some a →
      a.synced = true →
      ∃ t : State, exec (.audSampleFrame n fsErr samples) s = .next t ∧
        (t.aud n).any (fun b : AudPort => decide (b.count = a.count + 1)) = true ∧
        s.on (R.AP_CFG_DIR n) = false → a.due = [] → s.commitPending 13 n = false → (t.aud n).any (fun b : AudPort => decide (b.wait.length = a.wait.length + 1)) = true ∧
        s.on (R.AP_CFG_DIR n) = true → fsErr = false → s.get (R.AP_STAT_CLK_STATE n) ≠ 3 → t.out.take (s.out.length + 1) = s.out ++ [Out.audFrame n ((a.tx.head?).getD (List.replicate 16 0))] ∧
        fsErr = true → t.get (R.AP_EVT_FS_ERR n) = 1 ∧ Safety.isRaised t (E.audFsErr n)) ∧
  (∀ (n : Fin 8) (phase : BitVec 8) (a : AudPort) (s : State),
      s.isolated 13 = false →
      s.aud n = some a →
      s.holdNow 13 = false →
      ∃ t : State, exec (.audBlockBoundary n phase) s = .next t ∧
        (t.aud n).any (fun b : AudPort => decide (b.blk.seq = a.blk.seq + 1)) = true ∧
        a.due = [] → (t.aud n).any (fun b : AudPort => decide (b.blk.k = a.blk.k + a.blk.n)) = true ∧
        s.asrc n = true ∨ s.get (R.AP_CFG_CLK n) = 2 ∨ s.get (R.AP_STAT_CLK_STATE n) = 3 → t.get (R.AP_STAT_DRIFT n) = 0 ∧
        s.asrc n = false → s.get (R.AP_CFG_CLK n) ≠ 2 → s.get (R.AP_STAT_CLK_STATE n) ≠ 3 → 256 ≤ a.drift phase.toNat ∨ a.drift phase.toNat ≤ -256 → t.get (R.AP_EVT_SLIP n) = 1 ∧ Safety.isRaised t (E.audSlip n) ∧
        s.on (I.AP_RET n) = true → s.get (R.AP_STAT_CLK_STATE n) = 3 → t.get (R.AP_STAT_CLK_STATE n) = 2 ∧ Safety.isRaised t (E.audClkRecover n)) ∧
  (∀ (n : Fin 8) (phase : BitVec 8) (a : AudPort) (s : State),
      s.isolated 13 = false →
      s.aud n = some a →
      s.holdNow 13 = true →
      ∃ t : State, exec (.audBlockBoundary n phase) s = .next t ∧
        t.aud n = none) ∧
  (∀ (n : Fin 8) (s : State),
      s.audWatches n = true →
      ∃ t : State, exec (.audClkLoss n) s = .next t ∧
        t.get (R.AP_EVT_CLK_LOST n) = 1 ∧
        t.get (I.AP_NOCLK n) = 1 ∧
        (s.get (R.AP_STAT_CLK_STATE n) = 2 → t.get (R.AP_STAT_CLK_STATE n) = 3) ∧
        Safety.isRaised t (E.audClkLost n)) ∧
  (∀ (n : Fin 8) (s : State),
      s.audWatches n = true →
      ∃ t : State, exec (.audGlitch n) s = .next t ∧
        t.get (R.AP_EVT_GLITCH n) = 1 ∧
        t.get (R.AP_CNT_GLITCH_CNT n) = satInc (R.AP_CNT_GLITCH_CNT n).w (s.get (R.AP_CNT_GLITCH_CNT n))) ∧
  (∀ (n : Fin 8) (hz : BitVec 32) (s : State),
      s.audWatches n = true →
      ∃ t : State, exec (.audMonWindow n hz) s = .next t ∧
        t.get (R.AP_MEAS_HZ n) = hz.toNat ∧
        s.on (I.AP_NOCLK n) = true ∨ s.asrc n = true → t.get (R.AP_STAT_CLK_STATE n) = s.get (R.AP_STAT_CLK_STATE n)) ∧
  (∀ (n : Fin 8) (hz : BitVec 32) (c : ClockRec) (s : State),
      s.audWatches n = true →
      s.on (I.AP_NOCLK n) = false →
      s.asrc n = false →
      s.get (R.AP_CFG_CLK n) = 0 →
      s.strg.audClock n = some c →
      c.den ≠ 1001 →
      ppmClose hz.toNat c.num (s.get (R.AP_MON_WIN_PPM n)) = false →
      ∃ t : State, exec (.audMonWindow n hz) s = .next t ∧
        t.get (R.AP_MEAS_HZ n) = hz.toNat ∧
        t.get (R.AP_EVT_RATE_EV n) = 1 ∧
        t.get (I.AP_NOCLK n) = 1 ∧
        s.get (R.AP_STAT_CLK_STATE n) = 2 → t.get (R.AP_STAT_CLK_STATE n) = 3) ∧
  (∀ (n : Fin 8) (ratio : BitVec 32) (s : State),
      s.isolated 13 = false →
      s.asrc n = true →
      s.get (R.AP_STAT_CLK_STATE n) = 2 →
      ∃ t : State, exec (.asrcLock n ratio) s = .next t ∧
        t.get (R.AP_STAT_ASRC_LOCK n) = 1 ∧
        t.get (R.AP_ASRC_RATIO_RATIO n) = ratio.toNat ∧
        Safety.isRaised t (E.asrcLock n)) ∧
  (∀ (a : Fin 8) (o : Fin 4) (s : State),
      s.isolated 13 = false →
      s.now * 48000 / tSec % 48 ≠ 0 ∨ s.commitPending 13 8 = false →
      s.inForce (R.AS_CFG_EN a) ≠ 0 →
      s.inForce (R.SDI_MAP_STREAM o) = a.val ∧ s.inForce (R.SDI_CFG_AUD_EN o) = 1 ∧ s.inForce (R.ROUTE_EN o) = 1 →
      ∃ t : State, exec (.audStreamBlock a) s = .next t ∧
        Out.sdiAudio o (s.streamBlock a (s.now * 48000 / tSec / (if s.inForce (R.AS_CFG_BLK a) = 1 then 48 else 6) * (if s.inForce (R.AS_CFG_BLK a) = 1 then 48 else 6) - (if s.inForce (R.AS_CFG_BLK a) = 1 then 48 else 6)) (if s.inForce (R.AS_CFG_BLK a) = 1 then 48 else 6)) ∈ t.out) ∧
  (∀ (a : Fin 8) (s : State),
      s.isolated 13 = false →
      s.now * 48000 / tSec % 48 ≠ 0 ∨ s.commitPending 13 8 = false →
      s.inForce (R.AS_CFG_EN a) = 0 →
      ∃ t : State, exec (.audStreamBlock a) s = .next t ∧
        t.regs = s.regs ∧
        t.out = s.out ∧
        t.flows = s.flows)

/-- Each of these commands completes, for every state that meets the conditions named. (1) schedulingDecision of a
channel that runs: a queued write leaves the queue and is stored over its codeword, whose row is open and which is
poison exactly when a part of it is merged with poison or an error; a read leaves the queue, and one that is all of
its request is answered with its bytes, as POISON where they are. Where nothing may issue: no queue, no byte, no
answer. (2) refresh of a fitted rank of a channel that runs: under panic below its limit it is postponed; else one is
made up, and the rows of the rank, or of its bank in turn, are closed. refreshPostponeLimit: none stays postponed, and
with all banks together the rows are closed. (3) mr4Poll of a channel that runs: ranks in high temperature and
temperature are kept, and a move by TEMP_DELTA starts a step set outside panic. (4) scrubRead with the scrub in use:
it goes on by one codeword, no byte changes, a corrected error is counted and an uncorrectable one announced. (5)
retrainTimer: a channel in RUN starts its step set unless panic defers it; there, and during a change, it waits.
stepSetDone: RUN, with MARGIN_LOW as found. (6) ceWindow: its counts are 0. (7) safePointTimeout: a pending change is
forced. (8) freqReq, where the host reaches the bead: of a set point that is there, during a change the next one, an
urgent one begun at once, another waiting; of another, a rejected write. (9) panicStart of an enabled source: panic,
with LIVE. panicEnd: LIVE is clear, and panic ends with the last source. panicLong: recorded, counted and announced
once. (10) chHang of a channel neither off nor in reset: in reset behind its proxy with empty queues, announced; past
the limit at the next lower set point. chInitDone: training ends with its target in force. chPoisonFillDone: RUN
without proxy, every codeword poison, a step-down announced. (spec R374, R375, R377, R379, R382, R383, R384, R386,
R387, R388, R389, R392) -/
def Obligations.DramChannels : Prop :=
  (∀ (ch : Fin 8) (errs : BitVec 10) (e : WrEnt) (s : State),
      s.chRuns ch = true →
      (s.set (I.CH_DRAIN ch) (ofBool (s.drainNow ch))).choose ch (s.drainNow ch) = some (.wr e) →
      ∃ t : State, exec (.schedulingDecision ch errs) s = .next t ∧
        t.wrQ = s.wrQ.erase e ∧
        t.rdQ = s.rdQ ∧
        t.dram = wrBytes s.dram ((lin e.ch (e.cw * 128) / 128) * 128) (overlay (s.cwBytes (lin e.ch (e.cw * 128) / 128)) e.data) ∧
        t.cwBad (lin e.ch (e.cw * 128) / 128) = (decide (e.data.length ≠ 128) && (s.cwBad (lin e.ch (e.cw * 128) / 128) || decide (s.ecc e.ch errs.toNat = .beyond))) ∧
        t.rows.any (fun r : OpenRow => decide (r.ch = e.ch ∧ r.row = rowOf (s.get (R.CH_CFG_RANKS e.ch)) (e.cw * 128))) = true) ∧
  (∀ (ch : Fin 8) (errs : BitVec 10) (e : RdEnt) (s : State),
      s.chRuns ch = true →
      (s.set (I.CH_DRAIN ch) (ofBool (s.drainNow ch))).choose ch (s.drainNow ch) = some (.rd e) →
      ∃ t : State, exec (.schedulingDecision ch errs) s = .next t ∧
        t.rdQ = s.rdQ.erase e ∧
        t.wrQ = s.wrQ ∧
        t.dram = s.dram ∧
        e.part = 0 → e.parts = 1 → s.rdParts.all (fun q => decide (q.port ≠ e.port ∨ q.txn ≠ e.txn ∨ q.ch ≠ e.ch)) = true → Out.beamReply e.port (19 + e.ch) (s.epoch 14) e.txn (if (s.cwBad (lin e.ch (e.cw * 128) / 128) || decide (s.ecc e.ch errs.toNat = .beyond)) then 2 else 0) (((overlay (s.cwBytes (lin e.ch (e.cw * 128) / 128)) e.copy).drop e.lo).take e.n) ∈ t.out) ∧
  (∀ (ch : Fin 8) (errs : BitVec 10) (s : State),
      s.chRuns ch = false ∨ (s.set (I.CH_DRAIN ch) (ofBool (s.drainNow ch))).choose ch (s.drainNow ch) = none →
      ∃ t : State, exec (.schedulingDecision ch errs) s = .next t ∧
        t.rdQ = s.rdQ ∧ t.wrQ = s.wrQ ∧
        t.dram = s.dram ∧
        t.out = s.out) ∧
  (∀ (ch : Fin 8) (rank : Fin 2) (s : State),
      s.chRuns ch = true →
      rank.val ≤ s.get (R.CH_CFG_RANKS ch) →
      s.on I.PANIC = true →
      s.get (I.CH_POSTPONED ch rank) < s.postponeMax ch rank →
      ∃ t : State, exec (.refresh ch rank) s = .next t ∧
        t.get (I.CH_POSTPONED ch rank) = (s.get (I.CH_POSTPONED ch rank) + 1) % 2 ^ 200 ∧
        t.rows = s.rows) ∧
  (∀ (ch : Fin 8) (rank : Fin 2) (s : State),
      s.chRuns ch = true →
      rank.val ≤ s.get (R.CH_CFG_RANKS ch) →
      s.on I.PANIC = false ∨ s.postponeMax ch rank ≤ s.get (I.CH_POSTPONED ch rank) →
      ∃ t : State, exec (.refresh ch rank) s = .next t ∧
        t.get (I.CH_POSTPONED ch rank) = (s.get (I.CH_POSTPONED ch rank) - 1) % 2 ^ 200 ∧
        t.rows.all (fun r : OpenRow => decide (r.ch ≠ ch.val ∨ r.bank / 32 ≠ rank.val ∨ s.inForce (R.CH_CFG_REF_MODE ch) = 1 ∧ r.bank / 8 % 4 ≠ if rank = 0 then s.get (I.CH_SAMEBANK ch) else 0)) = true) ∧
  (∀ (ch : Fin 8) (rank : Fin 2) (s : State),
      s.chRuns ch = true →
      s.get (I.CH_POSTPONED ch rank) ≠ 0 →
      ∃ t : State, exec (.refreshPostponeLimit ch rank) s = .next t ∧
        t.get (I.CH_POSTPONED ch rank) = 0 ∧
        s.inForce (R.CH_CFG_REF_MODE ch) ≠ 1 → t.rows.all (fun r : OpenRow => decide (r.ch ≠ ch.val ∨ r.bank / 32 ≠ rank.val)) = true) ∧
  (∀ (ch : Fin 8) (rank : Fin 2) (s : State),
      s.chRuns ch = true →
      s.get (I.CH_POSTPONED ch rank) = 0 →
      ∃ t : State, exec (.refreshPostponeLimit ch rank) s = .next t ∧
        t.get (I.CH_POSTPONED ch rank) = 0 ∧
        t.rows = s.rows) ∧
  (∀ (ch : Fin 8) (hot : BitVec 2) (temp : BitVec 9) (s : State),
      s.chRuns ch = true →
      ∃ t : State, exec (.mr4Poll ch hot temp) s = .next t ∧
        t.get (I.CH_HOT ch 0) = ofBool (bit hot.toNat 0) ∧
        t.get (I.CH_HOT ch 1) = ofBool (bit hot.toNat 1) ∧
        t.get (I.CH_MR4 ch) = (temp.toInt + 1000).toNat % 2 ^ 200 ∧
        s.get (I.CH_TEMP ch) ≠ 0 → s.get (R.CH_TRAIN_TEMP_DELTA ch) ≤ max (temp.toInt + 1000).toNat (s.get (I.CH_TEMP ch)) - min (temp.toInt + 1000).toNat (s.get (I.CH_TEMP ch)) → s.on I.PANIC = false → t.get (R.CH_STAT_STATE ch) = 3) ∧
  (∀ (ch : Fin 8) (errs : BitVec 10) (s : State),
      s.on R.SCRUB_EN = true →
      s.chRuns ch = true →
      s.strg.capacity ch ≠ 0 →
      ∃ t : State, exec (.scrubRead ch errs) s = .next t ∧
        t.get (I.CH_SCRUB ch) = (s.get (I.CH_SCRUB ch) + 1) % (s.strg.capacity ch * 2 ^ 23) % 2 ^ 200 ∧
        t.dram = s.dram ∧
        s.cwBad (lin ch (s.get (I.CH_SCRUB ch) * 128) / 128) = false → s.ecc ch errs.toNat = .beyond → t.get (R.CH_EVT_UE ch) = 1 ∧ Safety.isRaised t (E.memUe ch) ∧
        s.cwBad (lin ch (s.get (I.CH_SCRUB ch) * 128) / 128) = false → s.ecc ch errs.toNat ≠ .clean → s.ecc ch errs.toNat ≠ .beyond → t.get (R.CH_EVT_CE ch) = 1 ∧ t.get (R.CH_CE_CNT_CNT ch) = satInc (R.CH_CE_CNT_CNT ch).w (s.get (R.CH_CE_CNT_CNT ch))) ∧
  (∀ (ch : Fin 8) (s : State),
      s.get (R.CH_STAT_STATE ch) = 2 →
      s.on I.PANIC = false ∨ s.on (I.CH_STEPWAIT ch) = true →
      ∃ t : State, exec (.retrainTimer ch) s = .next t ∧
        t.get (R.CH_STAT_STATE ch) = 3 ∧
        t.get (I.CH_STEPSET ch) = 1) ∧
  (∀ (ch : Fin 8) (s : State),
      s.get (R.CH_STAT_STATE ch) = 2 ∧ s.on I.PANIC = true ∧ s.on (I.CH_STEPWAIT ch) = false ∨ s.get (R.CH_STAT_STATE ch) = 4 →
      ∃ t : State, exec (.retrainTimer ch) s = .next t ∧
        t.get (I.CH_STEPWAIT ch) = 1 ∧
        t.get (R.CH_STAT_STATE ch) = s.get (R.CH_STAT_STATE ch)) ∧
  (∀ (ch : Fin 8) (works : Bool) (s : State),
      s.on (I.CH_STEPSET ch) = true →
      ∃ t : State, exec (.stepSetDone ch works) s = .next t ∧
        t.get (R.CH_STAT_STATE ch) = 2 ∧
        t.get (R.CH_STAT_MARGIN_LOW ch) = ofBool (!works) ∧
        (works = false → t.get (R.CH_EVT_MARGIN_LOW ch) = 1 ∧ Safety.isRaised t (E.memMarginLow ch))) ∧
  (∀ (ch : Fin 8) (d : Fin 10) (s : State),
      ∃ t : State, exec (.ceWindow ch) s = .next t ∧
        t.get (I.CH_CEWIN ch) = 0 ∧
        t.get (I.CH_DEVCNT ch d) = 0 ∧
        t.get (R.CH_CE_CNT_CNT ch) = s.get (R.CH_CE_CNT_CNT ch)) ∧
  (∀ (ch : Fin 8) (s : State),
      s.on (R.CH_STAT_PEND ch) = true →
      ∃ t : State, exec (.safePointTimeout ch) s = .next t ∧
        t.get (I.CH_FORCE ch) = 1) ∧
  (∀ (ch : Fin 8) (s : State),
      s.on (R.CH_STAT_PEND ch) = false →
      ∃ t : State, exec (.safePointTimeout ch) s = .next t ∧
        t = s) ∧
  (∀ (ch : Fin 8) (sp : Fin 4) (urgent : Bool) (s : State),
      Safety.reachesBead s 14 ch →
      (s.spRate ch sp).isSome = true →
      ∃ t : State, exec (.freqReq ch sp urgent) s = .next t ∧
        s.get (R.CH_STAT_STATE ch) = 4 → t.get (I.CH_NEXT ch) = sp.val + 1 ∧ t.get (R.CH_STAT_STATE ch) = 4 ∧
        urgent = true → s.get (R.CH_STAT_STATE ch) = 2 ∨ s.get (R.CH_STAT_STATE ch) = 3 → t.get (R.CH_STAT_STATE ch) = 4 ∧ t.get (I.CH_CHANGE ch) = sp.val + 1 ∧
        urgent = true → s.get (R.CH_STAT_STATE ch) = 3 → t.get (R.CH_EVT_ABORTED ch) = 1 ∧
        urgent = false → s.get (R.CH_STAT_STATE ch) ≠ 4 → t.get (R.CH_STAT_PEND ch) = 1 ∧ t.get (R.CH_STAT_SP_PEND ch) = sp.val ∧ t.get (R.CH_STAT_STATE ch) = s.get (R.CH_STAT_STATE ch)) ∧
  (∀ (ch : Fin 8) (sp : Fin 4) (urgent : Bool) (s : State),
      Safety.reachesBead s 14 ch →
      s.spRate ch sp = none →
      ∃ t : State, exec (.freqReq ch sp urgent) s = .next t ∧
        t.get (R.CH_STAT_PEND ch) = s.get (R.CH_STAT_PEND ch) ∧
        t.get (R.CH_STAT_STATE ch) = s.get (R.CH_STAT_STATE ch) ∧
        t.get (R.WR_RANGE_WR 14) ≠ 0 ∧
        Safety.isRaised t E.wrRange) ∧
  (∀ (k : Fin 15) (s : State),
      bit (s.inForce R.PANIC_CFG_EN) k = true →
      ∃ t : State, exec (.panicStart k) s = .next t ∧
        t.get I.PANIC = 1 ∧
        bit (t.get R.PANIC_STAT_LIVE) k = true) ∧
  (∀ (k : Fin 15) (s : State),
      bit (s.inForce R.PANIC_CFG_EN) k = false →
      ∃ t : State, exec (.panicStart k) s = .next t ∧
        t = s) ∧
  (∀ (k : Fin 15) (s : State),
      ∃ t : State, exec (.panicEnd k) s = .next t ∧
        t.get R.PANIC_STAT_LIVE = clrBit (s.get R.PANIC_STAT_LIVE) k % 2 ^ R.PANIC_STAT_LIVE.w ∧
        clrBit (s.get R.PANIC_STAT_LIVE) k &&& s.inForce R.PANIC_CFG_EN = 0 → t.get I.PANIC = 0 ∧ t.get I.PANIC_LONGED = 0 ∧
        clrBit (s.get R.PANIC_STAT_LIVE) k &&& s.inForce R.PANIC_CFG_EN ≠ 0 → t.get I.PANIC = s.get I.PANIC) ∧
  (∀ (s : State),
      s.on I.PANIC = true →
      s.on I.PANIC_LONGED = false →
      ∃ t : State, exec .panicLong s = .next t ∧
        t.get R.PANIC_STAT_LONG = 1 ∧
        t.get R.PANIC_STAT_LONG_CNT = satInc R.PANIC_STAT_LONG_CNT.w (s.get R.PANIC_STAT_LONG_CNT) ∧
        Safety.isRaised t E.panicLong) ∧
  (∀ (s : State),
      s.on I.PANIC = false ∨ s.on I.PANIC_LONGED = true →
      ∃ t : State, exec .panicLong s = .next t ∧
        t = s) ∧
  (∀ (ch : Fin 8) (s : State),
      s.get (R.CH_STAT_STATE ch) ≠ 0 ∧ s.get (R.CH_STAT_STATE ch) ≠ 6 →
      ∃ t : State, exec (.chHang ch) s = .next t ∧
        t.get (R.CH_STAT_STATE ch) = 6 ∧
        t.get (I.CH_PROXY ch) = 1 ∧
        t.get (R.CH_EVT_CH_RESET ch) = 1 ∧
        t.wrQ.all (fun e : WrEnt => decide (e.ch ≠ ch.val)) = true ∧
        t.rdQ.all (fun e : RdEnt => decide (e.ch ≠ ch.val)) = true ∧
        Safety.isRaised t (E.memChReset ch) ∧
        t.get (I.CH_CHTO ch) = (if s.get R.RST_AUTO_LIMIT ≤ s.recentResets (16 + ch) then (match s.lowerSp ch with | some k => k + 1 | none => 0) else 0)) ∧
  (∀ (ch : Fin 8) (s : State),
      s.get (R.CH_STAT_STATE ch) = 0 ∨ s.get (R.CH_STAT_STATE ch) = 6 →
      ∃ t : State, exec (.chHang ch) s = .next t ∧
        t = s) ∧
  (∀ (ch : Fin 8) (works : Bool) (s : State),
      s.get (R.CH_STAT_STATE ch) = 6 →
      s.on (I.CH_INIT ch) = false →
      ∃ t : State, exec (.chInitDone ch works) s = .next t ∧
        t.get (I.CH_INIT ch) = 1 ∧
        t.get (R.CH_STAT_MARGIN_LOW ch) = ofBool (!works) ∧
        t.get (R.CH_STAT_STATE ch) = 6 ∧
        s.get (I.CH_CHTO ch) ≠ 0 → t.get (R.CH_STAT_SP ch) = (s.get (I.CH_CHTO ch) - 1) % 2 ^ (R.CH_STAT_SP ch).w) ∧
  (∀ (ch : Fin 8) (w : Nat) (s : State),
      s.get (R.CH_STAT_STATE ch) = 6 →
      s.on (I.CH_INIT ch) = true →
      w / 2 ^ 29 = ch.val →
      ∃ t : State, exec (.chPoisonFillDone ch) s = .next t ∧
        t.get (R.CH_STAT_STATE ch) = 2 ∧
        t.get (I.CH_PROXY ch) = 0 ∧
        t.cwBad w = true ∧
        s.on (I.CH_CHDOWN ch) = true → t.get (R.CH_EVT_STEPDOWN ch) = 1 ∧ Safety.isRaised t (E.memStepdown ch))

/-- Each of these commands completes, for every state that meets the conditions named; a tail write and a disable need
that the host reaches the engine's bead. (1) dflTailWrite of a slot below DEPTH: TAIL holds it and HEAD is as it was;
of another: a rejected write, with TAIL as it was. (2) dflJobStart of an enabled engine with no job and a slot to
take, which no drain holds back: with a descriptor that it can read and that keeps the rules the job runs, is open,
and STAT tells the slot; with another it ends at once as an error, announced, HEAD going on and, where it was read,
DESC_BAD set; while the other engine claims its state record it waits. Where a condition fails nothing changes. (3)
dflJobDone of a job in progress: the engine is free and HEAD goes on, wrapping at DEPTH; a RESULT from 0x10 up is
recorded and announced. (4) dflDisable: EN and STATE are 0 and HEAD is as it was; a job in progress is cut, recorded
and announced, and with none CUT is as it was. (5) dmaTailWrite: TAIL holds the slot; while UTL does not drain, an
enabled engine with no job and a descriptor that it can read and that keeps the rules takes it, HEAD being as it was;
an engine that is off, has a job or has no slot to take takes none. (6) dmaJobDone of the job in progress, the last
posted: HEAD goes past it and it is gone. Between DRAM and DRAM or the host, the host's side done and the source no
poison: the bytes are at their destination, and ERR is as it was. Failed by the host: ERR is set and announced. (7)
dmaDisable: EN is 0; a job in progress is cut and CUT set, HEAD being as it was, and with none CUT is as it was. (spec
R394, R396, R406, R414, R415, R431) -/
def Obligations.DeflateAndDma : Prop :=
  (∀ (n : Fin 2) (slot : BitVec 8) (s : State),
      Safety.reachesBead s 15 n →
      slot.toNat < s.get (R.DFL_RING_DEPTH n) →
      ∃ t : State, exec (.dflTailWrite n slot) s = .next t ∧
        t.get (R.DFL_TAIL_SLOT n) = slot.toNat ∧
        t.get (R.DFL_HEAD_SLOT n) = s.get (R.DFL_HEAD_SLOT n)) ∧
  (∀ (n : Fin 2) (slot : BitVec 8) (s : State),
      Safety.reachesBead s 15 n →
      s.get (R.DFL_RING_DEPTH n) ≤ slot.toNat →
      ∃ t : State, exec (.dflTailWrite n slot) s = .next t ∧
        t.get (R.DFL_TAIL_SLOT n) = s.get (R.DFL_TAIL_SLOT n) ∧
        t.get (R.WR_RANGE_WR 15) ≠ 0 ∧
        Safety.isRaised t E.wrRange) ∧
  (∀ (n : Fin 2) (j : UtlJob) (s : State),
      s.on (R.DFL_CFG_EN n) = true →
      s.get (R.DFL_STAT_STATE n) ≠ 1 →
      s.get (R.DFL_HEAD_SLOT n) ≠ s.get (R.DFL_TAIL_SLOT n) →
      s.utlMay (s.get (R.DFL_HEAD_SLOT n)) (s.get (I.DFL_LIM n)) = true →
      j = ⟨n, (s.get (R.DFL_HEAD_SLOT n)), (s.trayReadAs 15 (rodPort 15) (s.dflSlot n (s.get (R.DFL_HEAD_SLOT n))) 64).1, decide ((s.trayReadAs 15 (rodPort 15) (s.dflSlot n (s.get (R.DFL_HEAD_SLOT n))) 64).2.1 ≠ 0)⟩ →
      s.dflClaimed j = false →
      j.bad = false →
      s.dflDescOk j = true →
      ∃ t : State, exec (.dflJobStart n) s = .next t ∧
        t.get (R.DFL_STAT_STATE n) = 1 ∧
        t.get (R.DFL_STAT_SLOT n) = (s.get (R.DFL_HEAD_SLOT n)) % 2 ^ (R.DFL_STAT_SLOT n).w ∧
        t.dfls = s.dfls ++ [j] ∧
        dflJobOf j ∈ t.jobs) ∧
  (∀ (n : Fin 2) (j : UtlJob) (s : State),
      s.on (R.DFL_CFG_EN n) = true →
      s.get (R.DFL_STAT_STATE n) ≠ 1 →
      s.get (R.DFL_HEAD_SLOT n) ≠ s.get (R.DFL_TAIL_SLOT n) →
      s.utlMay (s.get (R.DFL_HEAD_SLOT n)) (s.get (I.DFL_LIM n)) = true →
      j = ⟨n, (s.get (R.DFL_HEAD_SLOT n)), (s.trayReadAs 15 (rodPort 15) (s.dflSlot n (s.get (R.DFL_HEAD_SLOT n))) 64).1, decide ((s.trayReadAs 15 (rodPort 15) (s.dflSlot n (s.get (R.DFL_HEAD_SLOT n))) 64).2.1 ≠ 0)⟩ →
      s.dflClaimed j = false →
      j.bad = true ∨ s.dflDescOk j = false →
      ∃ t : State, exec (.dflJobStart n) s = .next t ∧
        t.get (R.DFL_STAT_STATE n) = 0 ∧
        t.get (R.DFL_HEAD_SLOT n) = (if j.slot + 1 < s.get (R.DFL_RING_DEPTH n) then j.slot + 1 else 0) % 2 ^ (R.DFL_HEAD_SLOT n).w ∧
        t.get (R.DFL_EVT_ERR n) = 1 ∧
        j.bad = false → t.get (R.DFL_EVT_DESC_BAD n) = 1 ∧
        Safety.isRaised t (E.dflErr n)) ∧
  (∀ (n : Fin 2) (j : UtlJob) (s : State),
      s.on (R.DFL_CFG_EN n) = true →
      s.get (R.DFL_STAT_STATE n) ≠ 1 →
      s.get (R.DFL_HEAD_SLOT n) ≠ s.get (R.DFL_TAIL_SLOT n) →
      s.utlMay (s.get (R.DFL_HEAD_SLOT n)) (s.get (I.DFL_LIM n)) = true →
      j = ⟨n, (s.get (R.DFL_HEAD_SLOT n)), (s.trayReadAs 15 (rodPort 15) (s.dflSlot n (s.get (R.DFL_HEAD_SLOT n))) 64).1, decide ((s.trayReadAs 15 (rodPort 15) (s.dflSlot n (s.get (R.DFL_HEAD_SLOT n))) 64).2.1 ≠ 0)⟩ →
      s.dflClaimed j = true →
      ∃ t : State, exec (.dflJobStart n) s = .next t ∧
        t.get (R.DFL_STAT_STATE n) = 2 ∧
        t.get (R.DFL_HEAD_SLOT n) = s.get (R.DFL_HEAD_SLOT n) ∧
        t.dfls = s.dfls) ∧
  (∀ (n : Fin 2) (s : State),
      s.on (R.DFL_CFG_EN n) = false ∨ s.get (R.DFL_STAT_STATE n) = 1 ∨ s.get (R.DFL_HEAD_SLOT n) = s.get (R.DFL_TAIL_SLOT n) ∨ s.utlMay (s.get (R.DFL_HEAD_SLOT n)) (s.get (I.DFL_LIM n)) = false →
      ∃ t : State, exec (.dflJobStart n) s = .next t ∧
        t = s) ∧
  (∀ (n : Fin 2) (j : UtlJob) (s : State),
      s.dfls.find? (fun j => decide (j.n = n.val)) = some j →
      ∃ t : State, exec (.dflJobDone n) s = .next t ∧
        t.get (R.DFL_STAT_STATE n) = 0 ∧
        t.get (R.DFL_HEAD_SLOT n) = (if j.slot + 1 < s.get (R.DFL_RING_DEPTH n) then j.slot + 1 else 0) % 2 ^ (R.DFL_HEAD_SLOT n).w ∧
        t.dfls = s.dfls.filter (fun k => decide (k.n ≠ n.val)) ∧
        (0x10 ≤ (s.dflRun j).1.result → t.get (R.DFL_EVT_ERR n) = 1 ∧ Safety.isRaised t (E.dflErr n))) ∧
  (∀ (n : Fin 2) (j : UtlJob) (s : State),
      Safety.reachesBead s 15 n →
      s.dfls.find? (fun j => decide (j.n = n.val)) = some j →
      ∃ t : State, exec (.dflDisable n) s = .next t ∧
        t.get (R.DFL_CFG_EN n) = 0 ∧
        t.get (R.DFL_STAT_STATE n) = 0 ∧
        t.get (R.DFL_EVT_CUT n) = 1 ∧
        t.get (R.DFL_HEAD_SLOT n) = s.get (R.DFL_HEAD_SLOT n) ∧
        Safety.isRaised t (E.dflCut n)) ∧
  (∀ (n : Fin 2) (s : State),
      Safety.reachesBead s 15 n →
      s.dfls.find? (fun j => decide (j.n = n.val)) = none →
      ∃ t : State, exec (.dflDisable n) s = .next t ∧
        t.get (R.DFL_CFG_EN n) = 0 ∧
        t.get (R.DFL_STAT_STATE n) = 0 ∧
        t.get (R.DFL_EVT_CUT n) = s.get (R.DFL_EVT_CUT n)) ∧
  (∀ (d : Fin 8) (slot : BitVec 8) (b : List Byte) (s : State),
      Safety.reachesBead s 15 (2 + d) →
      s.holdNow 15 = false →
      s.on (R.DMA_CFG_EN d) = true →
      s.dmas.any (fun j => decide (j.n = d.val)) = false →
      s.get (R.DMA_CFG_HEAD d) ≠ slot.toNat →
      (granSpan (s.dmaSlot d (s.get (R.DMA_CFG_HEAD d))) 32).all (fun g => s.granted 15 g false) = true →
      s.badWords (s.dmaSlot d (s.get (R.DMA_CFG_HEAD d))) 32 = [] →
      s.trayRead (s.dmaSlot d (s.get (R.DMA_CFG_HEAD d))) 32 = b →
      s.dmaDescOk ⟨d, s.get (R.DMA_CFG_HEAD d), b, false⟩ = true →
      ∃ t : State, exec (.dmaTailWrite d slot) s = .next t ∧
        t.get (R.DMA_CFG_TAIL d) = slot.toNat ∧
        t.dmas = s.dmas ++ [⟨d, s.get (R.DMA_CFG_HEAD d), b, false⟩] ∧
        t.get (R.DMA_CFG_HEAD d) = s.get (R.DMA_CFG_HEAD d)) ∧
  (∀ (d : Fin 8) (slot : BitVec 8) (s : State),
      Safety.reachesBead s 15 (2 + d) →
      s.on (R.DMA_CFG_EN d) = false ∨ s.dmas.any (fun j => decide (j.n = d.val)) = true ∨ s.get (R.DMA_CFG_HEAD d) = slot.toNat →
      ∃ t : State, exec (.dmaTailWrite d slot) s = .next t ∧
        t.get (R.DMA_CFG_TAIL d) = slot.toNat ∧
        t.get (R.DMA_CFG_HEAD d) = s.get (R.DMA_CFG_HEAD d) ∧
        t.dmas = s.dmas) ∧
  (∀ (d : Fin 8) (ok : Bool) (data : List Byte) (j : UtlJob) (s : State),
      s.dmas.find? (fun j => decide (j.n = d.val)) = some j →
      s.get (R.DMA_CFG_TAIL d) = (j.slot + 1) % 2 ^ (R.DMA_CFG_TAIL d).w →
      ok = true ∨ j.dir = 2 →
      j.dflag 1 = false →
      j.dflag 2 = false →
      0 < j.u 0x18 4 →
      j.dir ≠ 0 → s.dramPoison (j.u 6 1) (j.u 8 8) (j.u 0x18 4) = false →
      ∃ t : State, exec (.dmaJobDone d ok data) s = .next t ∧
        t.get (R.DMA_CFG_HEAD d) = (j.slot + 1) % 2 ^ (R.DMA_CFG_HEAD d).w ∧
        t.dmas = s.dmas.filter (fun k => decide (k.n ≠ d.val)) ∧
        j.dir = 1 → Out.hostWrite (j.u 0x10 8) (s.dramRead (j.u 6 1) (j.u 8 8) (j.u 0x18 4)) ∈ t.out ∧
        j.dir = 0 → t.dram = (s.dramPut (j.u 0x1C 1) (j.u 0x10 8) (slice data 0 (j.u 0x18 4))).dram ∧
        j.dir ≠ 0 → j.dir ≠ 1 → t.dram = (s.dramPut (j.u 0x1C 1) (j.u 0x10 8) (s.dramRead (j.u 6 1) (j.u 8 8) (j.u 0x18 4))).dram ∧
        t.get (R.DMA_EVT_ERR d) = s.get (R.DMA_EVT_ERR d)) ∧
  (∀ (d : Fin 8) (ok : Bool) (data : List Byte) (j : UtlJob) (s : State),
      s.dmas.find? (fun j => decide (j.n = d.val)) = some j →
      s.get (R.DMA_CFG_TAIL d) = (j.slot + 1) % 2 ^ (R.DMA_CFG_TAIL d).w →
      ok = false ∧ j.dir ≠ 2 →
      ∃ t : State, exec (.dmaJobDone d ok data) s = .next t ∧
        t.get (R.DMA_CFG_HEAD d) = (j.slot + 1) % 2 ^ (R.DMA_CFG_HEAD d).w ∧
        t.dmas = s.dmas.filter (fun k => decide (k.n ≠ d.val)) ∧
        t.get (R.DMA_EVT_ERR d) = 1 ∧
        Safety.isRaised t (E.dmaErr d)) ∧
  (∀ (d : Fin 8) (j : UtlJob) (s : State),
      Safety.reachesBead s 15 (2 + d) →
      s.dmas.find? (fun j => decide (j.n = d.val)) = some j →
      ∃ t : State, exec (.dmaDisable d) s = .next t ∧
        t.get (R.DMA_CFG_EN d) = 0 ∧
        t.get (R.DMA_EVT_CUT d) = 1 ∧
        t.get (R.DMA_CFG_HEAD d) = s.get (R.DMA_CFG_HEAD d) ∧
        t.dmas = s.dmas.filter (fun k => decide (k.n ≠ d.val))) ∧
  (∀ (d : Fin 8) (s : State),
      Safety.reachesBead s 15 (2 + d) →
      s.dmas.find? (fun j => decide (j.n = d.val)) = none →
      ∃ t : State, exec (.dmaDisable d) s = .next t ∧
        t.get (R.DMA_CFG_EN d) = 0 ∧
        t.get (R.DMA_EVT_CUT d) = s.get (R.DMA_EVT_CUT d) ∧
        t.dmas = s.dmas)

/-- Each of these commands completes, for every state that meets the conditions named; those on mailboxes and
doorbells need that the device is not in reset, and a service that a request of its code waits on its pair, with the
reply's mailbox empty and its core running. (1) mbDataWrite of the sender: the word holds the value, and in a FULL
mailbox it sets COLLIDE and DIRTY. mbGo of the sender with 8 to 16 words: FULL, the length, the sender's epoch, the
next SEQ, DIRTY clear, and WAIT_ACK where asked. mbArmWait of the sender with such a length: WAIT_ACK and the length,
FULL as it was. Another length is a rejected write, with FULL as it was, and a write of another agent changes nothing.
(2) mbTake of the receiver of a FULL mailbox: FULL and WAIT_ACK clear, and the host is answered VALID, DIRTY, LEN and
SEQ. Any other read changes no register, and the host is answered 0. (3) dbSet: the bits are set, a host doorbell
announced; the host sets the cores' alone. dbClear of the agent itself clears the bits. (4) echo: the words come back,
with the request taken. netTx of a frame in range that CTL may read, with no bad word in it: it leaves on a link that
is up while NET is not isolated, and the reply is OK; with an argument out of range, or no access, BAD_ARG. netRx in
range, in host-visible granules: its ring is there, the reply OK; else BAD_ARG, the rings as they were. (5)
coreWatchdog: the core's epoch advances and its restart is announced. hepReset: link, MSI-X and the pending bits go,
and agent 0's epoch advances. (6) msixEnable: link and MSI-X are up; every asserted vector sends its message, or is
pending where masked. (7) faultHistoryWrite: the oldest transition that waits is in the keep store at NEXT, which goes
on. (8) clogRecord: the oldest record of the rod leaves its queue with the next SEQ, which skips 0, and is in the ring
where the carry log has a region; a rod that had lost records has a LOST marker in the queue. With none nothing
changes. (spec R413, R417, R418, R419, R420, R421, R422, R423, R424, R426, R428, R430) -/
def Obligations.MailboxesAndEvents : Prop :=
  (∀ (agent : Fin 6) (m : Fin 32) (n : Fin 16) (v : BitVec 32) (s : State),
      s.on I.DEV = false →
      agent.val = mbSender m →
      ∃ t : State, exec (.mbDataWrite agent m n v) s = .next t ∧
        t.get (R.MB_DATA_D m n) = v.toNat ∧
        t.get (R.MB_STAT_COLLIDE m) = (if s.on (R.MB_STAT_FULL m) then 1 else s.get (R.MB_STAT_COLLIDE m)) ∧
        t.get (R.MB_STAT_DIRTY m) = (if s.on (R.MB_STAT_FULL m) then 1 else s.get (R.MB_STAT_DIRTY m))) ∧
  (∀ (agent : Fin 6) (m : Fin 32) (n : Fin 16) (v : BitVec 32) (s : State),
      s.on I.DEV = false →
      agent.val ≠ mbSender m →
      ∃ t : State, exec (.mbDataWrite agent m n v) s = .next t ∧
        t = s) ∧
  (∀ (agent : Fin 6) (m : Fin 32) (len : BitVec 5) (arm : Bool) (s : State),
      s.on I.DEV = false →
      agent.val = mbSender m →
      mbLenOk len.toNat = true →
      ∃ t : State, exec (.mbGo agent m len arm) s = .next t ∧
        t.get (R.MB_STAT_FULL m) = 1 ∧
        t.get (R.MB_STAT_LEN m) = len.toNat ∧
        t.get (R.MB_STAT_SEQ m) = (s.get (R.MB_STAT_SEQ m) + 1) % 2 ^ (R.MB_STAT_SEQ m).w ∧
        t.get (R.MB_EPOCH_TX_EPOCH m) = s.get (I.AGENT_EPOCH agent) % 2 ^ (R.MB_EPOCH_TX_EPOCH m).w ∧
        t.get (R.MB_STAT_DIRTY m) = 0 ∧
        (arm = true → t.get (R.MB_STAT_WAIT_ACK m) = 1)) ∧
  (∀ (agent : Fin 6) (m : Fin 32) (len : BitVec 5) (arm : Bool) (s : State),
      s.on I.DEV = false →
      agent.val = mbSender m →
      mbLenOk len.toNat = false →
      ∃ t : State, exec (.mbGo agent m len arm) s = .next t ∧
        t.get (R.WR_RANGE_WR 0) ≠ 0 ∧
        Safety.isRaised t E.wrRange ∧
        t.get (R.MB_STAT_FULL m) = s.get (R.MB_STAT_FULL m)) ∧
  (∀ (agent : Fin 6) (m : Fin 32) (len : BitVec 5) (arm : Bool) (s : State),
      agent.val ≠ mbSender m →
      ∃ t : State, exec (.mbGo agent m len arm) s = .next t ∧
        t = s) ∧
  (∀ (agent : Fin 6) (m : Fin 32) (len : BitVec 5) (s : State),
      s.on I.DEV = false →
      agent.val = mbSender m →
      mbLenOk len.toNat = true →
      ∃ t : State, exec (.mbArmWait agent m len) s = .next t ∧
        t.get (R.MB_STAT_WAIT_ACK m) = 1 ∧
        t.get (R.MB_CTRL_LEN m) = len.toNat ∧
        t.get (R.MB_STAT_FULL m) = s.get (R.MB_STAT_FULL m)) ∧
  (∀ (agent : Fin 6) (m : Fin 32) (len : BitVec 5) (s : State),
      s.on I.DEV = false →
      agent.val = mbSender m →
      mbLenOk len.toNat = false →
      ∃ t : State, exec (.mbArmWait agent m len) s = .next t ∧
        t.get (R.WR_RANGE_WR 0) ≠ 0 ∧
        Safety.isRaised t E.wrRange ∧
        t.get (R.MB_STAT_FULL m) = s.get (R.MB_STAT_FULL m)) ∧
  (∀ (agent : Fin 6) (m : Fin 32) (len : BitVec 5) (s : State),
      agent.val ≠ mbSender m →
      ∃ t : State, exec (.mbArmWait agent m len) s = .next t ∧
        t = s) ∧
  (∀ (agent : Fin 6) (m : Fin 32) (s : State),
      s.on I.DEV = false →
      agent.val = mbReceiver m →
      s.on (R.MB_STAT_FULL m) = true →
      ∃ t : State, exec (.mbTake agent m) s = .next t ∧
        t.get (R.MB_STAT_FULL m) = 0 ∧
        t.get (R.MB_STAT_WAIT_ACK m) = 0 ∧
        (agent.val = 0 → t.out.getLast? = some (Out.hostWord (2 ^ 31 + s.get (R.MB_STAT_DIRTY m) * 2 ^ 30 + s.get (R.MB_STAT_LEN m) * 2 ^ 16 + s.get (R.MB_STAT_SEQ m))))) ∧
  (∀ (agent : Fin 6) (m : Fin 32) (s : State),
      agent.val ≠ mbReceiver m ∨ s.on (R.MB_STAT_FULL m) = false →
      ∃ t : State, exec (.mbTake agent m) s = .next t ∧
        t.regs = s.regs ∧
        t.out = (if agent.val = 0 then s.out ++ [Out.hostWord 0] else s.out)) ∧
  (∀ (agent a : Fin 6) (hi : Bool) (v : BitVec 32) (s : State),
      s.on I.DEV = false →
      agent.val = 0 → 1 ≤ a.val ∧ a.val ≤ 4 →
      ∃ t : State, exec (.dbSet agent a hi v) s = .next t ∧
        a.val = 0 → v.toNat ≠ 0 → Safety.isRaised t E.doorbell ∧
        t.get (R.DB_STAT_B a (ofBool hi)) = (s.get (R.DB_STAT_B a (ofBool hi)) ||| v.toNat) % 2 ^ (R.DB_STAT_B a (ofBool hi)).w) ∧
  (∀ (agent a : Fin 6) (hi : Bool) (v : BitVec 32) (s : State),
      agent.val = 0 ∧ (a.val = 0 ∨ a.val = 5) →
      ∃ t : State, exec (.dbSet agent a hi v) s = .next t ∧
        t = s) ∧
  (∀ (agent a : Fin 6) (hi : Bool) (v : BitVec 32) (s : State),
      s.on I.DEV = false →
      agent = a →
      ∃ t : State, exec (.dbClear agent a hi v) s = .next t ∧
        t.get (R.DB_STAT_B a (ofBool hi)) = (s.get (R.DB_STAT_B a (ofBool hi)) - (s.get (R.DB_STAT_B a (ofBool hi)) &&& v.toNat)) % 2 ^ (R.DB_STAT_B a (ofBool hi)).w) ∧
  (∀ (agent a : Fin 6) (hi : Bool) (v : BitVec 32) (s : State),
      agent ≠ a →
      ∃ t : State, exec (.dbClear agent a hi v) s = .next t ∧
        t = s) ∧
  (∀ (p : Fin 8) (s : State),
      s.secAsked p 1 = true →
      ∃ t : State, exec (.echo p) s = .next t ∧
        t.get (R.MB_STAT_FULL (2 * p)) = 0 ∧
        t.get (R.MB_STAT_FULL (2 * p + 1)) = 1 ∧
        t.get (R.MB_DATA_D (2 * p + 1) 0) = (2 ^ 24 + s.get (R.MB_DATA_D (2 * p) 0) % 2 ^ 16) % 2 ^ 32 ∧
        (List.range 7).all (fun i => decide (t.get (R.MB_DATA_D (2 * p + 1) (i + 1)) = s.get (R.MB_DATA_D (2 * p) (i + 1)) % 2 ^ 32)) = true) ∧
  (∀ (p : Fin 8) (m a n : Nat) (s : State),
      s.secAsked p 2 = true →
      s.get (R.MB_DATA_D (2 * p) 1) = m →
      s.get (R.MB_DATA_D (2 * p) 2) = a →
      s.get (R.MB_DATA_D (2 * p) 3) = n →
      m ≤ 3 ∧ 60 ≤ n ∧ n + 4 ≤ s.get (R.MAC_CFG_MAX_FRAME m) ∧ a + n ≤ trayBytes →
      (granSpan a n).all (fun g => s.granted 0 g false) = true →
      s.badWords a n = [] →
      ∃ t : State, exec (.netTx p) s = .next t ∧
        s.isolated 12 = false → s.on (R.MAC_STAT_LINK m) = true → Out.ethFrame m (s.trayRead a n) ∈ t.out ∧
        t.get (R.MB_STAT_FULL (2 * p + 1)) = 1 ∧
        t.get (R.MB_DATA_D (2 * p + 1) 0) = (2 * 2 ^ 24 + s.get (R.MB_DATA_D (2 * p) 0) % 2 ^ 16) % 2 ^ 32) ∧
  (∀ (p : Fin 8) (m a n : Nat) (s : State),
      s.secAsked p 2 = true →
      s.get (R.MB_DATA_D (2 * p) 1) = m →
      s.get (R.MB_DATA_D (2 * p) 2) = a →
      s.get (R.MB_DATA_D (2 * p) 3) = n →
      3 < m ∨ n < 60 ∨ s.get (R.MAC_CFG_MAX_FRAME m) < n + 4 ∨ trayBytes < a + n ∨ (granSpan a n).any (fun g => !s.granted 0 g false) = true →
      ∃ t : State, exec (.netTx p) s = .next t ∧
        t.get (R.MB_STAT_FULL (2 * p + 1)) = 1 ∧
        t.get (R.MB_DATA_D (2 * p + 1) 0) = (2 * 2 ^ 24 + 2 * 2 ^ 16 + s.get (R.MB_DATA_D (2 * p) 0) % 2 ^ 16) % 2 ^ 32) ∧
  (∀ (p : Fin 8) (m w g n : Nat) (s : State),
      s.secAsked p 3 = true →
      s.get (R.MB_DATA_D (2 * p) 1) = m →
      s.get (R.MB_DATA_D (2 * p) 2) = w →
      s.get (R.MB_DATA_D (2 * p) 3) = g →
      s.get (R.MB_DATA_D (2 * p) 4) = n →
      m ≤ 3 ∧ n ≠ 0 ∧ (w ≤ 65535 ∨ 2 ^ 31 ≤ w ∧ w ≤ 2 ^ 31 + 65535) ∧ g * granBytes + 2048 * n ≤ trayBytes →
      (granSpan (g * granBytes) (2048 * n)).all s.hostVisible = true →
      ∃ t : State, exec (.netRx p) s = .next t ∧
        t.rings = s.rings.filter (fun r => decide (¬(r.mac = m ∧ r.what = w))) ++ [⟨m, w, g, n, 0⟩] ∧
        t.get (R.MB_STAT_FULL (2 * p + 1)) = 1 ∧
        t.get (R.MB_DATA_D (2 * p + 1) 0) = (3 * 2 ^ 24 + s.get (R.MB_DATA_D (2 * p) 0) % 2 ^ 16) % 2 ^ 32) ∧
  (∀ (p : Fin 8) (m w g n : Nat) (s : State),
      s.secAsked p 3 = true →
      s.get (R.MB_DATA_D (2 * p) 1) = m →
      s.get (R.MB_DATA_D (2 * p) 2) = w →
      s.get (R.MB_DATA_D (2 * p) 3) = g →
      s.get (R.MB_DATA_D (2 * p) 4) = n →
      3 < m ∨ n = 0 ∨ 65535 < w ∧ w < 2 ^ 31 ∨ 2 ^ 31 + 65535 < w ∨ trayBytes < g * granBytes + 2048 * n ∨ (granSpan (g * granBytes) (2048 * n)).all s.hostVisible = false →
      ∃ t : State, exec (.netRx p) s = .next t ∧
        t.rings = s.rings ∧
        t.get (R.MB_STAT_FULL (2 * p + 1)) = 1 ∧
        t.get (R.MB_DATA_D (2 * p + 1) 0) = (3 * 2 ^ 24 + 2 * 2 ^ 16 + s.get (R.MB_DATA_D (2 * p) 0) % 2 ^ 16) % 2 ^ 32) ∧
  (∀ (k : Fin 4) (s : State),
      ∃ t : State, exec (.coreWatchdog k) s = .next t ∧
        t.get (I.AGENT_EPOCH (1 + k)) = (s.get (I.AGENT_EPOCH (1 + k)) + 1) % 256 ∧
        Safety.isRaised t (E.coreRestart k)) ∧
  (∀ (s : State),
      ∃ t : State, exec .hepReset s = .next t ∧
        t.get I.HEP_LINK = 0 ∧
        t.get I.HEP_MSIX = 0 ∧
        t.pba = [] ∧
        t.get (I.AGENT_EPOCH 0) = (s.get (I.AGENT_EPOCH 0) + 1) % 256) ∧
  (∀ (s : State),
      ∃ t : State, exec .msixEnable s = .next t ∧
        t.get I.HEP_LINK = 1 ∧
        t.get I.HEP_MSIX = 1 ∧
        s.raised = [] → t.out = s.out ∧ t.pba = s.pba) ∧
  (∀ (v : Fin 64) (s : State),
      s.vecAsserted v = true →
      ∃ t : State, exec .msixEnable s = .next t ∧
        bit (s.get (I.MSIX_TAB v 3)) 0 = false → Out.msix v (s.get (I.MSIX_TAB v 0) + 2 ^ 32 * s.get (I.MSIX_TAB v 1)) (s.get (I.MSIX_TAB v 2)) ∈ t.out ∧
        bit (s.get (I.MSIX_TAB v 3)) 0 = true → v.val ∈ t.pba) ∧
  (∀ (e : FhEntry) (rest : List FhEntry) (s : State),
      s.fhPend = e :: rest →
      ∃ t : State, exec .faultHistoryWrite s = .next t ∧
        t.fhPend = rest ∧
        t.get R.FH_HEAD_NEXT = (s.get R.FH_HEAD_NEXT + 1) % 2 ^ R.FH_HEAD_NEXT.w ∧
        t.keepRead (keepFault + 16 * s.get R.FH_HEAD_NEXT) 16 = leBytes 2 e.source ++ zeros 2 ++ leBytes 4 (s.get R.POWER_ON_COUNT) ++ leBytes 4 (timeSec e.time) ++ leBytes 4 (timeNs e.time)) ∧
  (∀ (s : State),
      s.fhPend = [] →
      ∃ t : State, exec .faultHistoryWrite s = .next t ∧
        t = s) ∧
  (∀ (rod : Fin 16) (r : ClogRec) (s : State),
      s.clogQ.find? (fun r => decide (r.rod = rod.val)) = some r →
      ∃ t : State, exec (.clogRecord rod) s = .next t ∧
        t.clogQ = s.clogQ.erase r ++ (if s.get (I.CLOG_DROPPED rod) = 0 then [] else [⟨rod, 0, 15, 0, s.get (I.CLOG_DROPPED rod), 0, s.now, s.epoch rod⟩]) ∧
        t.get (I.CLOG_DROPPED rod) = 0 ∧
        t.dram = (match s.strg.clogRegion with | some g => (s.dramPut g.region ((s.get R.CLOG_SEQ_NEXT_SEQ - 1) % max 1 (g.size / 32) * 32) (r.bytes (s.get R.CLOG_SEQ_NEXT_SEQ))).dram | none => s.dram) ∧
        t.get R.CLOG_SEQ_NEXT_SEQ = (if s.get R.CLOG_SEQ_NEXT_SEQ + 1 = 2 ^ 32 then 1 else s.get R.CLOG_SEQ_NEXT_SEQ + 1) % 2 ^ 32) ∧
  (∀ (rod : Fin 16) (s : State),
      s.clogQ.find? (fun r => decide (r.rod = rod.val)) = none →
      ∃ t : State, exec (.clogRecord rod) s = .next t ∧
        t = s)

/-- Each of these commands completes, for every state that meets the conditions named. (1) challenge through SEC_MBX
of the TAP: the challenge is read; through a mailbox pair whose request waits while SEC is free: the reply holds it,
and while SEC is at work the reply is BUSY and nothing of SEC changes. (2) debugUser, debugVendor, revoke, addKey and
return, through the TAP or through a pair whose token can be read, for a token that the command takes while SEC is
free: a new challenge is drawn. Where the token passes, DEBUG_USER opens debug and announces it as good, DEBUG_VENDOR
begins the wipe, and with the fuse supply REVOKE, ADD_KEY and RETURN have the burns that they need in work, RETURN
closing debug; without it the code is NO_VPP. Where it fails, TOKEN_BAD is set, OP shows the code of R441's first
failure, a pair is answered with it, and debug stays. (3) vendorWipeDone of a wipe: the user area, Tray and DRAM are
zero, and debug is VENDOR_OPEN and announced. (4) debugClose while SEC is free: debug is closed, and announced where
it was open. (5) jtagInstruction outside OFF: one that is listed and allowed loads; one that is not allowed loads as
BYPASS and is denied, recorded and announced; one not listed loads as BYPASS. In OFF nothing changes. (6) dapAccess
with the DEBUG instruction and debug open: the keep store is read and written in VENDOR_OPEN, but for its locked part;
the Tray is read and written where the host may and no patch locks it; a register is read where its block answers, but
those of SEC only in VENDOR_OPEN, and a misaligned access sets SIZE_ERR. An access to the memories of a core changes
no register and no memory, and without the instruction or with debug closed nothing changes. (spec R436, R440, R441,
R442, R444, R445, R446, R447) -/
def Obligations.TokensAndDebug : Prop :=
  (∀ (src : Option (Fin 8)) (s : State),
      src = none →
      s.tapMbx = true →
      ∃ t : State, exec (.challenge src) s = .next t ∧
        t.out = s.out ++ [Out.jtag s.sec.challenge]) ∧
  (∀ (src : Option (Fin 8)) (p : Fin 8) (s : State),
      src = some p →
      s.secUp = true →
      s.secAsked p 0x10 = true →
      s.sec.op = none →
      ∃ t : State, exec (.challenge src) s = .next t ∧
        t.get (R.MB_STAT_FULL (2 * p + 1)) = 1 ∧
        (List.range 8).all (fun i => decide (t.get (R.MB_DATA_D (2 * p + 1) (i + 1)) = fieldLE s.sec.challenge (4 * i) 4 % 2 ^ 32)) = true) ∧
  (∀ (src : Option (Fin 8)) (p : Fin 8) (s : State),
      src = some p →
      s.secUp = true →
      s.secAsked p 0x10 = true →
      s.sec.op ≠ none →
      ∃ t : State, exec (.challenge src) s = .next t ∧
        t.sec = s.sec ∧
        t.get (R.MB_STAT_FULL (2 * p + 1)) = 1 ∧
        t.get (R.MB_DATA_D (2 * p + 1) 0) = (0x10 * 2 ^ 24 + 3 * 2 ^ 16 + s.get (R.MB_DATA_D (2 * p) 0) % 2 ^ 16) % 2 ^ 32) ∧
  (∀ (src : Option (Fin 8)) (token : List Byte) (s : State),
      src = none →
      s.tapMbx = true →
      tokenFor 0 token = true →
      ∃ t : State, exec (.debugUser src token) s = .next t ∧
        t.sec.challenge = s.freeBytes 32 ∧
        (if s.tokenCode token = 0 then (t.get I.DEBUG = 1 ∧ t.get R.SEC_OP_STATE = 2 ∧ Safety.isRaised t E.secTokenOk) else t.get R.SEC_EVT_TOKEN_BAD = 1 ∧ t.get R.SEC_OP_STATE = 3 ∧ t.get R.SEC_OP_CODE = s.tokenCode token % 2 ^ R.SEC_OP_CODE.w ∧ t.get I.DEBUG = s.get I.DEBUG)) ∧
  (∀ (src : Option (Fin 8)) (token : List Byte) (p : Fin 8) (tok : List Byte) (s : State),
      src = some p →
      s.secUp = true →
      s.secAsked p 0x11 = true →
      s.sec.op = none →
      s.tokenWaits p = tok →
      s.get (R.MB_DATA_D (2 * p) 2) = tokenLen → (s.secRead (s.get (R.MB_DATA_D (2 * p) 1)) tokenLen).2.1 = 0 →
      tokenFor 0 tok = true →
      ∃ t : State, exec (.debugUser src token) s = .next t ∧
        t.sec.challenge = s.freeBytes 32 ∧
        (if s.tokenCode tok = 0 then (t.get I.DEBUG = 1 ∧ t.get R.SEC_OP_STATE = 2 ∧ Safety.isRaised t E.secTokenOk) else t.get R.SEC_EVT_TOKEN_BAD = 1 ∧ t.get R.SEC_OP_STATE = 3 ∧ t.get R.SEC_OP_CODE = s.tokenCode tok % 2 ^ R.SEC_OP_CODE.w ∧ t.get I.DEBUG = s.get I.DEBUG) ∧
        s.tokenCode tok ≠ 0 → t.get (R.MB_STAT_FULL (2 * p + 1)) = 1 ∧ t.get (R.MB_DATA_D (2 * p + 1) 1) = s.tokenCode tok % 2 ^ 32) ∧
  (∀ (src : Option (Fin 8)) (token : List Byte) (s : State),
      src = none →
      s.tapMbx = true →
      tokenFor 1 token = true →
      ∃ t : State, exec (.debugVendor src token) s = .next t ∧
        t.sec.challenge = s.freeBytes 32 ∧
        (if s.tokenCode token = 0 then (t.sec.op.any (fun o : SecOp => decide (o.svc = 0x11 ∧ o.kind = 1)) = true ∧ t.get R.SEC_OP_STATE = 1 ∧ t.get I.DEBUG = s.get I.DEBUG) else t.get R.SEC_EVT_TOKEN_BAD = 1 ∧ t.get R.SEC_OP_STATE = 3 ∧ t.get R.SEC_OP_CODE = s.tokenCode token % 2 ^ R.SEC_OP_CODE.w ∧ t.get I.DEBUG = s.get I.DEBUG)) ∧
  (∀ (src : Option (Fin 8)) (token : List Byte) (p : Fin 8) (tok : List Byte) (s : State),
      src = some p →
      s.secUp = true →
      s.secAsked p 0x11 = true →
      s.sec.op = none →
      s.tokenWaits p = tok →
      s.get (R.MB_DATA_D (2 * p) 2) = tokenLen → (s.secRead (s.get (R.MB_DATA_D (2 * p) 1)) tokenLen).2.1 = 0 →
      tokenFor 1 tok = true →
      ∃ t : State, exec (.debugVendor src token) s = .next t ∧
        t.sec.challenge = s.freeBytes 32 ∧
        (if s.tokenCode tok = 0 then (t.sec.op.any (fun o : SecOp => decide (o.svc = 0x11 ∧ o.kind = 1)) = true ∧ t.get R.SEC_OP_STATE = 1 ∧ t.get I.DEBUG = s.get I.DEBUG) else t.get R.SEC_EVT_TOKEN_BAD = 1 ∧ t.get R.SEC_OP_STATE = 3 ∧ t.get R.SEC_OP_CODE = s.tokenCode tok % 2 ^ R.SEC_OP_CODE.w ∧ t.get I.DEBUG = s.get I.DEBUG) ∧
        s.tokenCode tok ≠ 0 → t.get (R.MB_STAT_FULL (2 * p + 1)) = 1 ∧ t.get (R.MB_DATA_D (2 * p + 1) 1) = s.tokenCode tok % 2 ^ 32) ∧
  (∀ (src : Option (Fin 8)) (token : List Byte) (vpp : Bool) (s : State),
      src = none →
      s.tapMbx = true →
      tokenFor 2 token = true →
      ∃ t : State, exec (.revoke src token vpp) s = .next t ∧
        t.sec.challenge = s.freeBytes 32 ∧
        (if s.tokenCode token = 0 then (if vpp then t.sec.op.any (fun o : SecOp => decide (o.burns = [(96, if tokenRoot token = 0 then fieldLE token 7 1 else 4 + fieldLE token 7 1)])) = true ∧ t.get I.DEBUG = s.get I.DEBUG else t.get R.SEC_OP_CODE = 0x37 ∧ t.get R.SEC_OP_STATE = 3 ∧ t.get I.DEBUG = s.get I.DEBUG) else t.get R.SEC_EVT_TOKEN_BAD = 1 ∧ t.get R.SEC_OP_STATE = 3 ∧ t.get R.SEC_OP_CODE = s.tokenCode token % 2 ^ R.SEC_OP_CODE.w ∧ t.get I.DEBUG = s.get I.DEBUG)) ∧
  (∀ (src : Option (Fin 8)) (token : List Byte) (vpp : Bool) (p : Fin 8) (tok : List Byte) (s : State),
      src = some p →
      s.secUp = true →
      s.secAsked p 0x11 = true →
      s.sec.op = none →
      s.tokenWaits p = tok →
      s.get (R.MB_DATA_D (2 * p) 2) = tokenLen → (s.secRead (s.get (R.MB_DATA_D (2 * p) 1)) tokenLen).2.1 = 0 →
      tokenFor 2 tok = true →
      ∃ t : State, exec (.revoke src token vpp) s = .next t ∧
        t.sec.challenge = s.freeBytes 32 ∧
        (if s.tokenCode tok = 0 then (if vpp then t.sec.op.any (fun o : SecOp => decide (o.burns = [(96, if tokenRoot tok = 0 then fieldLE tok 7 1 else 4 + fieldLE tok 7 1)])) = true ∧ t.get I.DEBUG = s.get I.DEBUG else t.get R.SEC_OP_CODE = 0x37 ∧ t.get R.SEC_OP_STATE = 3 ∧ t.get I.DEBUG = s.get I.DEBUG) else t.get R.SEC_EVT_TOKEN_BAD = 1 ∧ t.get R.SEC_OP_STATE = 3 ∧ t.get R.SEC_OP_CODE = s.tokenCode tok % 2 ^ R.SEC_OP_CODE.w ∧ t.get I.DEBUG = s.get I.DEBUG) ∧
        s.tokenCode tok ≠ 0 → t.get (R.MB_STAT_FULL (2 * p + 1)) = 1 ∧ t.get (R.MB_DATA_D (2 * p + 1) 1) = s.tokenCode tok % 2 ^ 32) ∧
  (∀ (src : Option (Fin 8)) (token : List Byte) (vpp : Bool) (s : State),
      src = none →
      s.tapMbx = true →
      tokenFor 3 token = true →
      ∃ t : State, exec (.addKey src token vpp) s = .next t ∧
        t.sec.challenge = s.freeBytes 32 ∧
        (if s.tokenCode token = 0 then (if vpp then t.sec.op.any (fun o : SecOp => decide (o.burns = slotBurns (fieldLE token 7 1) (slice token 0x30 48) ∧ o.slots = [(fieldLE token 7 1, slice token 0x30 48)])) = true ∧ t.get I.DEBUG = s.get I.DEBUG else t.get R.SEC_OP_CODE = 0x37 ∧ t.get R.SEC_OP_STATE = 3 ∧ t.get I.DEBUG = s.get I.DEBUG) else t.get R.SEC_EVT_TOKEN_BAD = 1 ∧ t.get R.SEC_OP_STATE = 3 ∧ t.get R.SEC_OP_CODE = s.tokenCode token % 2 ^ R.SEC_OP_CODE.w ∧ t.get I.DEBUG = s.get I.DEBUG)) ∧
  (∀ (src : Option (Fin 8)) (token : List Byte) (vpp : Bool) (p : Fin 8) (tok : List Byte) (s : State),
      src = some p →
      s.secUp = true →
      s.secAsked p 0x11 = true →
      s.sec.op = none →
      s.tokenWaits p = tok →
      s.get (R.MB_DATA_D (2 * p) 2) = tokenLen → (s.secRead (s.get (R.MB_DATA_D (2 * p) 1)) tokenLen).2.1 = 0 →
      tokenFor 3 tok = true →
      ∃ t : State, exec (.addKey src token vpp) s = .next t ∧
        t.sec.challenge = s.freeBytes 32 ∧
        (if s.tokenCode tok = 0 then (if vpp then t.sec.op.any (fun o : SecOp => decide (o.burns = slotBurns (fieldLE tok 7 1) (slice tok 0x30 48) ∧ o.slots = [(fieldLE tok 7 1, slice tok 0x30 48)])) = true ∧ t.get I.DEBUG = s.get I.DEBUG else t.get R.SEC_OP_CODE = 0x37 ∧ t.get R.SEC_OP_STATE = 3 ∧ t.get I.DEBUG = s.get I.DEBUG) else t.get R.SEC_EVT_TOKEN_BAD = 1 ∧ t.get R.SEC_OP_STATE = 3 ∧ t.get R.SEC_OP_CODE = s.tokenCode tok % 2 ^ R.SEC_OP_CODE.w ∧ t.get I.DEBUG = s.get I.DEBUG) ∧
        s.tokenCode tok ≠ 0 → t.get (R.MB_STAT_FULL (2 * p + 1)) = 1 ∧ t.get (R.MB_DATA_D (2 * p + 1) 1) = s.tokenCode tok % 2 ^ 32) ∧
  (∀ (src : Option (Fin 8)) (token : List Byte) (vpp : Bool) (s : State),
      src = none →
      s.tapMbx = true →
      tokenFor 4 token = true →
      ∃ t : State, exec (.return src token vpp) s = .next t ∧
        t.sec.challenge = s.freeBytes 32 ∧
        (if s.tokenCode token = 0 then (if vpp then t.get I.DEBUG = 0 ∧ t.sec.op.any (fun o : SecOp => decide (o.burns = [(96, 10)])) = true else t.get R.SEC_OP_CODE = 0x37 ∧ t.get R.SEC_OP_STATE = 3 ∧ t.get I.DEBUG = s.get I.DEBUG) else t.get R.SEC_EVT_TOKEN_BAD = 1 ∧ t.get R.SEC_OP_STATE = 3 ∧ t.get R.SEC_OP_CODE = s.tokenCode token % 2 ^ R.SEC_OP_CODE.w ∧ t.get I.DEBUG = s.get I.DEBUG)) ∧
  (∀ (src : Option (Fin 8)) (token : List Byte) (vpp : Bool) (p : Fin 8) (tok : List Byte) (s : State),
      src = some p →
      s.secUp = true →
      s.secAsked p 0x11 = true →
      s.sec.op = none →
      s.tokenWaits p = tok →
      s.get (R.MB_DATA_D (2 * p) 2) = tokenLen → (s.secRead (s.get (R.MB_DATA_D (2 * p) 1)) tokenLen).2.1 = 0 →
      tokenFor 4 tok = true →
      ∃ t : State, exec (.return src token vpp) s = .next t ∧
        t.sec.challenge = s.freeBytes 32 ∧
        (if s.tokenCode tok = 0 then (if vpp then t.get I.DEBUG = 0 ∧ t.sec.op.any (fun o : SecOp => decide (o.burns = [(96, 10)])) = true else t.get R.SEC_OP_CODE = 0x37 ∧ t.get R.SEC_OP_STATE = 3 ∧ t.get I.DEBUG = s.get I.DEBUG) else t.get R.SEC_EVT_TOKEN_BAD = 1 ∧ t.get R.SEC_OP_STATE = 3 ∧ t.get R.SEC_OP_CODE = s.tokenCode tok % 2 ^ R.SEC_OP_CODE.w ∧ t.get I.DEBUG = s.get I.DEBUG) ∧
        s.tokenCode tok ≠ 0 → t.get (R.MB_STAT_FULL (2 * p + 1)) = 1 ∧ t.get (R.MB_DATA_D (2 * p + 1) 1) = s.tokenCode tok % 2 ^ 32) ∧
  (∀ (o : SecOp) (s : State),
      s.sec.op = some o →
      o.svc = 0x11 ∧ o.kind = 1 →
      ∃ t : State, exec .vendorWipeDone s = .next t ∧
        t.tray = [] ∧
        t.dram = [] ∧
        t.keep = clearBytes s.keep keepUser (keepUser + keepUserLen) ∧
        t.get I.DEBUG = 2 ∧
        t.sec.op = none ∧
        Safety.isRaised t E.secDebugOpen) ∧
  (∀ (p : Fin 8) (s : State),
      s.secUp = true →
      s.secAsked p 0x17 = true →
      s.sec.op = none →
      ∃ t : State, exec (.debugClose p) s = .next t ∧
        t.get I.DEBUG = 0 ∧
        t.get (R.MB_STAT_FULL (2 * p + 1)) = 1 ∧
        (s.get I.DEBUG ≠ 0 → Safety.isRaised t E.secDebugClose)) ∧
  (∀ (op : Byte) (s : State),
      s.get I.DEV = 0 →
      tapOps.contains op.toNat = true →
      s.tapAllowed op.toNat = true →
      ∃ t : State, exec (.jtagInstruction op) s = .next t ∧
        t.get I.JTAG_IR = op.toNat) ∧
  (∀ (op : Byte) (s : State),
      s.get I.DEV = 0 →
      tapOps.contains op.toNat = true →
      s.tapAllowed op.toNat = false →
      ∃ t : State, exec (.jtagInstruction op) s = .next t ∧
        t.get I.JTAG_IR = 0xFF ∧
        t.get R.SEC_EVT_JTAG_DENY = 1 ∧
        Safety.isRaised t E.secJtagDeny) ∧
  (∀ (op : Byte) (s : State),
      s.get I.DEV = 0 →
      tapOps.contains op.toNat = false →
      ∃ t : State, exec (.jtagInstruction op) s = .next t ∧
        t.get I.JTAG_IR = 0xFF ∧
        t.get R.SEC_EVT_JTAG_DENY = s.get R.SEC_EVT_JTAG_DENY) ∧
  (∀ (op : Byte) (s : State),
      s.get I.DEV ≠ 0 →
      ∃ t : State, exec (.jtagInstruction op) s = .next t ∧
        t = s) ∧
  (∀ (acc : DapAccess) (a : BitVec 22) (w : Option (BitVec 32)) (s : State),
      acc = .keep a w →
      s.get I.DEV = 0 →
      s.get I.JTAG_IR = 0x11 →
      s.get I.DEBUG = 2 →
      a.toNat % 4 = 0 →
      ∃ t : State, exec (.dapAccess acc) s = .next t ∧
        w = none → t.out = s.out ++ [Out.dapWord (leNat (s.keepRead a.toNat 4))] ∧ t.keep = s.keep ∧
        (match w with | some v => decide (t.keep = if keepLocked a.toNat then s.keep else wrBytes s.keep a.toNat (leBytes 4 v.toNat)) | none => true) = true) ∧
  (∀ (acc : DapAccess) (a : BitVec 26) (w : Option (BitVec 32)) (s : State),
      acc = .tray a w →
      s.get I.DEV = 0 →
      s.get I.JTAG_IR = 0x11 →
      s.get I.DEBUG ≠ 0 →
      a.toNat % 4 = 0 →
      ∃ t : State, exec (.dapAccess acc) s = .next t ∧
        w = none → s.hostMay (a.toNat / granBytes) false = true → s.badWords a.toNat 4 = [] → t.out = s.out ++ [Out.dapWord (leNat (s.trayRead a.toNat 4))] ∧
        (match w with | some v => !s.hostMay (a.toNat / granBytes) true || s.windowLocked (a.toNat / granBytes) || decide (t.tray = wrBytes s.tray a.toNat (leBytes 4 v.toNat)) | none => true) = true) ∧
  (∀ (acc : DapAccess) (a : BitVec 25) (w : Option (BitVec 32)) (s : State),
      acc = .bar0 a w →
      s.get I.DEV = 0 →
      s.get I.JTAG_IR = 0x11 →
      s.get I.DEBUG ≠ 0 →
      ∃ t : State, exec (.dapAccess acc) s = .next t ∧
        a.toNat % 4 ≠ 0 → t.get R.HEP_STAT_SIZE_ERR = 1 ∧
        a.toNat % 4 = 0 → secRegs a.toNat = true → s.get I.DEBUG ≠ 2 → t.regs = s.regs ∧
        w = none → a.toNat % 4 = 0 → secRegs a.toNat = false → s.blockOpen (regRod a.toNat) = true → t.out.getLast? = some (Out.dapWord (s.readReg a.toNat).1)) ∧
  (∀ (acc : DapAccess) (k : Fin 5) (a : BitVec 32) (w : Option (BitVec 32)) (s : State),
      acc = .core k a w →
      ∃ t : State, exec (.dapAccess acc) s = .next t ∧
        t.regs = s.regs ∧
        t.tray = s.tray ∧ t.keep = s.keep ∧ t.dram = s.dram) ∧
  (∀ (acc : DapAccess) (s : State),
      s.get I.DEV ≠ 0 ∨ s.get I.JTAG_IR ≠ 0x11 ∨ s.get I.DEBUG = 0 →
      ∃ t : State, exec (.dapAccess acc) s = .next t ∧
        t = s)

/-- Each of these commands completes, for every state that meets the conditions named; a service needs that its
request waits on its pair while SEC is up and free. (1) attest for an aligned visible buffer outside VENDOR_OPEN, 60 s
after the last, with a leaf left: it is accepted and answered OK, the leaf is used up in the other state record, and
it is at work. In VENDOR_OPEN it fails with STATE, within the 60 s it is answered BUSY, and for another buffer
BAD_ARG; SEC and the keep store stay as they were. (2) getId for a visible buffer that CTL may write, outside
VENDOR_OPEN: the public keys are in it and the reply is OK. For a buffer not visible BAD_ARG, and in VENDOR_OPEN the
code STATE, the Tray as it was. (3) provision of 1 to 4 hashes that can be read: in BLANK with the fuse supply the
burns of the first slot are in work; otherwise the code is STATE or NO_VPP and no fuse changes. With another number,
or hashes that cannot be read, BAD_ARG. (4) deploy with its magic word: in PROVISIONED with the supply its burn is in
work and the reply waits; otherwise STATE or NO_VPP. With another word BAD_ARG. (5) svnCommit of either root in
PROVISIONED or DEPLOYED: the burns that raise its counter are in work, unless they lack the supply; then NO_VPP, and
in another lifecycle STATE. For another root BAD_ARG. (6) secDone of PROVISION or SVN_COMMIT: with no burn left it
ends with its code, announced, and else goes on with the next; of ATTEST, the buffer writable: its completion word is
in the Tray and it ends, announced. With no long service nothing changes. (7) fuseBurnDone of a burn: the fuse bit is
blown where it reads back so, with its event; the next burn follows, and after the last one a service that is not long
ends where no slot waits. With no burn nothing changes. (8) secWatchdog: SEC restarts with a new epoch, recorded and
announced; a service that ran fails with RESTART, and where no burn was in work no fuse changes. (spec R435, R439,
R443, R448, R449, R450, R451, R457) -/
def Obligations.SecureServices : Prop :=
  (∀ (p : Fin 8) (a b seq leaf : Nat) (s : State),
      s.secUp = true →
      s.secAsked p 0x12 = true →
      s.sec.op = none →
      s.get (R.MB_DATA_D (2 * p) 9) = a →
      a % 4096 = 0 →
      s.secVisible a 4096 = true →
      s.get I.DEBUG ≠ 2 →
      s.sec.last.all (fun x => decide (x + 60 * tSec ≤ s.up)) = true →
      s.lmsState = some (b, seq, leaf) →
      leaf < lmsLeaves →
      ∃ t : State, exec (.attest p) s = .next t ∧
        t.sec.op.any (fun o : SecOp => decide (o.svc = 0x12 ∧ o.addr = a ∧ o.leaf = leaf)) = true ∧
        t.keepRead (keepLms (1 - b)) 64 = lmsRecord (seq + 1) (leaf + 1) ∧
        t.get (R.MB_STAT_FULL (2 * p + 1)) = 1 ∧
        t.sec.last = some s.up) ∧
  (∀ (p : Fin 8) (a : Nat) (s : State),
      s.secUp = true →
      s.secAsked p 0x12 = true →
      s.sec.op = none →
      s.get (R.MB_DATA_D (2 * p) 9) = a →
      a % 4096 = 0 →
      s.secVisible a 4096 = true →
      s.get I.DEBUG = 2 →
      ∃ t : State, exec (.attest p) s = .next t ∧
        t.sec = s.sec ∧
        t.keep = s.keep ∧
        t.get R.SEC_OP_CODE = 0x33 ∧
        t.get (R.MB_STAT_FULL (2 * p + 1)) = 1 ∧
        t.get (R.MB_DATA_D (2 * p + 1) 0) = (0x12 * 2 ^ 24 + 0 * 2 ^ 16 + s.get (R.MB_DATA_D (2 * p) 0) % 2 ^ 16) % 2 ^ 32 ∧
        t.get (R.MB_DATA_D (2 * p + 1) 1) = 0x33) ∧
  (∀ (p : Fin 8) (a : Nat) (s : State),
      s.secUp = true →
      s.secAsked p 0x12 = true →
      s.sec.op = none →
      s.get (R.MB_DATA_D (2 * p) 9) = a →
      a % 4096 ≠ 0 ∨ s.secVisible a 4096 = false →
      ∃ t : State, exec (.attest p) s = .next t ∧
        t.sec = s.sec ∧
        t.keep = s.keep ∧
        t.get (R.MB_STAT_FULL (2 * p + 1)) = 1 ∧
        t.get (R.MB_DATA_D (2 * p + 1) 0) = (0x12 * 2 ^ 24 + 2 * 2 ^ 16 + s.get (R.MB_DATA_D (2 * p) 0) % 2 ^ 16) % 2 ^ 32) ∧
  (∀ (p : Fin 8) (a : Nat) (s : State),
      s.secUp = true →
      s.secAsked p 0x12 = true →
      s.sec.op = none →
      s.get (R.MB_DATA_D (2 * p) 9) = a →
      a % 4096 = 0 →
      s.secVisible a 4096 = true →
      s.get I.DEBUG ≠ 2 →
      s.sec.last.any (fun x => decide (s.up < x + 60 * tSec)) = true →
      ∃ t : State, exec (.attest p) s = .next t ∧
        t.sec = s.sec ∧
        t.keep = s.keep ∧
        t.get (R.MB_STAT_FULL (2 * p + 1)) = 1 ∧
        t.get (R.MB_DATA_D (2 * p + 1) 0) = (0x12 * 2 ^ 24 + 3 * 2 ^ 16 + s.get (R.MB_DATA_D (2 * p) 0) % 2 ^ 16) % 2 ^ 32) ∧
  (∀ (p : Fin 8) (a : Nat) (s : State),
      s.secUp = true →
      s.secAsked p 0x13 = true →
      s.sec.op = none →
      s.get (R.MB_DATA_D (2 * p) 1) = a →
      s.secVisible a 157 = true →
      s.strung = true → (granSpan a 157).all (fun g => s.granted 0 g true) = true →
      s.get I.DEBUG ≠ 2 →
      ∃ t : State, exec (.getId p) s = .next t ∧
        t.trayRead a 157 = s.fuses.identity ∧
        t.get R.SEC_OP_STATE = 2 ∧
        t.get (R.MB_STAT_FULL (2 * p + 1)) = 1 ∧
        t.get (R.MB_DATA_D (2 * p + 1) 0) = (0x13 * 2 ^ 24 + 0 * 2 ^ 16 + s.get (R.MB_DATA_D (2 * p) 0) % 2 ^ 16) % 2 ^ 32 ∧
        t.get (R.MB_DATA_D (2 * p + 1) 1) = 0) ∧
  (∀ (p : Fin 8) (a : Nat) (s : State),
      s.secUp = true →
      s.secAsked p 0x13 = true →
      s.sec.op = none →
      s.get (R.MB_DATA_D (2 * p) 1) = a →
      s.secVisible a 157 = false ∨ s.get I.DEBUG = 2 →
      ∃ t : State, exec (.getId p) s = .next t ∧
        t.tray = s.tray ∧
        t.get (R.MB_STAT_FULL (2 * p + 1)) = 1 ∧
        t.get (R.MB_DATA_D (2 * p + 1) 0) = (0x13 * 2 ^ 24 + (if s.secVisible a 157 then 0 else 2) * 2 ^ 16 + s.get (R.MB_DATA_D (2 * p) 0) % 2 ^ 16) % 2 ^ 32 ∧
        s.secVisible a 157 = true → t.get (R.MB_DATA_D (2 * p + 1) 1) = 0x33) ∧
  (∀ (p : Fin 8) (vpp : Bool) (a n : Nat) (s : State),
      s.secUp = true →
      s.secAsked p 0x14 = true →
      s.sec.op = none →
      s.get (R.MB_DATA_D (2 * p) 1) = a →
      s.get (R.MB_DATA_D (2 * p) 2) = n →
      1 ≤ n ∧ n ≤ 4 →
      (s.secRead a (48 * n)).2.1 = 0 →
      s.fuses.lifecycle = 0 →
      vpp = true →
      ∃ t : State, exec (.provision p vpp) s = .next t ∧
        t.sec.op.any (fun o : SecOp => decide (o.svc = 0x14 ∧ o.burns = slotBurns 0 (slice (s.secRead a (48 * n)).1 0 48) ∧ o.slots.length = n)) = true ∧
        t.get R.SEC_OP_STATE = 1 ∧
        t.get (R.MB_STAT_FULL (2 * p + 1)) = 1 ∧
        t.get (R.MB_DATA_D (2 * p + 1) 0) = (0x14 * 2 ^ 24 + 0 * 2 ^ 16 + s.get (R.MB_DATA_D (2 * p) 0) % 2 ^ 16) % 2 ^ 32 ∧
        t.get (R.MB_DATA_D (2 * p + 1) 1) = 0) ∧
  (∀ (p : Fin 8) (vpp : Bool) (a n : Nat) (s : State),
      s.secUp = true →
      s.secAsked p 0x14 = true →
      s.sec.op = none →
      s.get (R.MB_DATA_D (2 * p) 1) = a →
      s.get (R.MB_DATA_D (2 * p) 2) = n →
      1 ≤ n ∧ n ≤ 4 →
      (s.secRead a (48 * n)).2.1 = 0 →
      s.fuses.lifecycle ≠ 0 ∨ vpp = false →
      ∃ t : State, exec (.provision p vpp) s = .next t ∧
        t.sec = s.sec ∧
        t.fuses = s.fuses ∧
        t.get R.SEC_OP_CODE = (if s.fuses.lifecycle = 0 then 0x37 else 0x33) ∧
        t.get (R.MB_STAT_FULL (2 * p + 1)) = 1 ∧
        t.get (R.MB_DATA_D (2 * p + 1) 0) = (0x14 * 2 ^ 24 + 0 * 2 ^ 16 + s.get (R.MB_DATA_D (2 * p) 0) % 2 ^ 16) % 2 ^ 32 ∧
        t.get (R.MB_DATA_D (2 * p + 1) 1) = (if s.fuses.lifecycle = 0 then 0x37 else 0x33)) ∧
  (∀ (p : Fin 8) (vpp : Bool) (a n : Nat) (s : State),
      s.secUp = true →
      s.secAsked p 0x14 = true →
      s.sec.op = none →
      s.get (R.MB_DATA_D (2 * p) 1) = a →
      s.get (R.MB_DATA_D (2 * p) 2) = n →
      n = 0 ∨ 4 < n ∨ (s.secRead a (48 * n)).2.1 ≠ 0 →
      ∃ t : State, exec (.provision p vpp) s = .next t ∧
        t.sec = s.sec ∧
        t.fuses = s.fuses ∧
        t.get (R.MB_STAT_FULL (2 * p + 1)) = 1 ∧
        t.get (R.MB_DATA_D (2 * p + 1) 0) = (0x14 * 2 ^ 24 + 2 * 2 ^ 16 + s.get (R.MB_DATA_D (2 * p) 0) % 2 ^ 16) % 2 ^ 32) ∧
  (∀ (p : Fin 8) (vpp : Bool) (s : State),
      s.secUp = true →
      s.secAsked p 0x15 = true →
      s.sec.op = none →
      s.get (R.MB_DATA_D (2 * p) 1) = 0x4445504C →
      s.fuses.lifecycle = 1 →
      vpp = true →
      ∃ t : State, exec (.deploy p vpp) s = .next t ∧
        t.sec.op = some { svc := 0x15, pair := some p.val, token := s.get (R.MB_DATA_D (2 * p) 0) % 2 ^ 16, burns := [(96, 9)] } ∧
        t.get (R.MB_STAT_FULL (2 * p)) = 0 ∧
        t.get (R.MB_STAT_FULL (2 * p + 1)) = 0) ∧
  (∀ (p : Fin 8) (vpp : Bool) (s : State),
      s.secUp = true →
      s.secAsked p 0x15 = true →
      s.sec.op = none →
      s.get (R.MB_DATA_D (2 * p) 1) = 0x4445504C →
      s.fuses.lifecycle ≠ 1 ∨ vpp = false →
      ∃ t : State, exec (.deploy p vpp) s = .next t ∧
        t.sec = s.sec ∧
        t.fuses = s.fuses ∧
        t.get R.SEC_OP_CODE = (if s.fuses.lifecycle = 1 then 0x37 else 0x33) ∧
        t.get (R.MB_STAT_FULL (2 * p + 1)) = 1 ∧
        t.get (R.MB_DATA_D (2 * p + 1) 0) = (0x15 * 2 ^ 24 + 0 * 2 ^ 16 + s.get (R.MB_DATA_D (2 * p) 0) % 2 ^ 16) % 2 ^ 32 ∧
        t.get (R.MB_DATA_D (2 * p + 1) 1) = (if s.fuses.lifecycle = 1 then 0x37 else 0x33)) ∧
  (∀ (p : Fin 8) (vpp : Bool) (s : State),
      s.secUp = true →
      s.secAsked p 0x15 = true →
      s.sec.op = none →
      s.get (R.MB_DATA_D (2 * p) 1) ≠ 0x4445504C →
      ∃ t : State, exec (.deploy p vpp) s = .next t ∧
        t.sec = s.sec ∧
        t.fuses = s.fuses ∧
        t.get (R.MB_STAT_FULL (2 * p + 1)) = 1 ∧
        t.get (R.MB_DATA_D (2 * p + 1) 0) = (0x15 * 2 ^ 24 + 2 * 2 ^ 16 + s.get (R.MB_DATA_D (2 * p) 0) % 2 ^ 16) % 2 ^ 32) ∧
  (∀ (p : Fin 8) (vpp : Bool) (root : Nat) (s : State),
      s.secUp = true →
      s.secAsked p 0x16 = true →
      s.sec.op = none →
      s.get (R.MB_DATA_D (2 * p) 1) = root →
      root ≤ 1 →
      s.fuses.lifecycle = 1 ∨ s.fuses.lifecycle = 2 →
      vpp = true ∨ (if s.svnTarget root ≤ svnOf (if root = 0 then s.fuses.lsvn else s.fuses.csvn) then [] else svnBurns root (if root = 0 then s.fuses.lsvn else s.fuses.csvn) (s.svnTarget root)) = [] →
      ∃ t : State, exec (.svnCommit p vpp) s = .next t ∧
        t.sec.op = some { svc := 0x16, burns := (if s.svnTarget root ≤ svnOf (if root = 0 then s.fuses.lsvn else s.fuses.csvn) then [] else svnBurns root (if root = 0 then s.fuses.lsvn else s.fuses.csvn) (s.svnTarget root)) } ∧
        t.get R.SEC_OP_STATE = 1 ∧
        t.get (R.MB_STAT_FULL (2 * p + 1)) = 1) ∧
  (∀ (p : Fin 8) (vpp : Bool) (root : Nat) (s : State),
      s.secUp = true →
      s.secAsked p 0x16 = true →
      s.sec.op = none →
      s.get (R.MB_DATA_D (2 * p) 1) = root →
      root ≤ 1 →
      s.fuses.lifecycle = 0 ∨ s.fuses.lifecycle = 3 ∨ vpp = false ∧ (if s.svnTarget root ≤ svnOf (if root = 0 then s.fuses.lsvn else s.fuses.csvn) then [] else svnBurns root (if root = 0 then s.fuses.lsvn else s.fuses.csvn) (s.svnTarget root)) ≠ [] →
      ∃ t : State, exec (.svnCommit p vpp) s = .next t ∧
        t.sec.op = none ∧
        t.fuses = s.fuses ∧
        t.get R.SEC_OP_CODE = (if s.fuses.lifecycle = 0 ∨ s.fuses.lifecycle = 3 then 0x33 else 0x37) ∧
        t.get (R.MB_STAT_FULL (2 * p + 1)) = 1) ∧
  (∀ (p : Fin 8) (vpp : Bool) (root : Nat) (s : State),
      s.secUp = true →
      s.secAsked p 0x16 = true →
      s.sec.op = none →
      s.get (R.MB_DATA_D (2 * p) 1) = root →
      1 < root →
      ∃ t : State, exec (.svnCommit p vpp) s = .next t ∧
        t.sec = s.sec ∧
        t.fuses = s.fuses ∧
        t.get (R.MB_STAT_FULL (2 * p + 1)) = 1 ∧
        t.get (R.MB_DATA_D (2 * p + 1) 0) = (0x16 * 2 ^ 24 + 2 * 2 ^ 16 + s.get (R.MB_DATA_D (2 * p) 0) % 2 ^ 16) % 2 ^ 32) ∧
  (∀ (o : SecOp) (s : State),
      s.sec.op = some o →
      o.svc = 0x14 ∨ o.svc = 0x16 →
      (s.burnSettle 5 o).burns = [] →
      ∃ t : State, exec .secDone s = .next t ∧
        t.sec.op = none ∧
        t.get R.SEC_OP_STATE = (if (s.burnSettle 5 o).code = 0 then 2 else 3) ∧
        t.get R.SEC_OP_CODE = (s.burnSettle 5 o).code % 2 ^ R.SEC_OP_CODE.w ∧
        Safety.isRaised t E.secDone) ∧
  (∀ (o : SecOp) (s : State),
      s.sec.op = some o →
      o.svc = 0x14 ∨ o.svc = 0x16 →
      (s.burnSettle 5 o).burns ≠ [] →
      ∃ t : State, exec .secDone s = .next t ∧
        t.sec.op = some (s.burnSettle 5 o) ∧
        t.get R.SEC_OP_STATE = s.get R.SEC_OP_STATE) ∧
  (∀ (o : SecOp) (s : State),
      s.sec.op = some o →
      o.svc = 0x12 ∧ o.burns = [] ∧ o.slots = [] →
      s.secVisible o.addr 4096 = true →
      s.strung = true → (granSpan o.addr 4096).all (fun g => s.granted 0 g true) = true →
      ∃ t : State, exec .secDone s = .next t ∧
        t.trayRead (o.addr + 0xFC0) 64 = [1] ++ zeros 63 ∧
        t.sec.op = none ∧
        t.get R.SEC_OP_STATE = 2 ∧
        Safety.isRaised t E.secDone) ∧
  (∀ (s : State),
      s.sec.op.all (fun o => !longService o.svc) = true →
      ∃ t : State, exec .secDone s = .next t ∧
        t = s) ∧
  (∀ (ok : Bool) (o : SecOp) (e : Nat × Nat) (rest : List (Nat × Nat)) (s : State),
      s.sec.op = some o →
      o.burns = e :: rest →
      ∃ t : State, exec (.fuseBurnDone ok) s = .next t ∧
        t.fuses = (if ok then s.fuses.burn e.1 e.2 else s.fuses) ∧
        ok = true → e.1 = 96 → Safety.isRaised t (if e.2 < 8 then E.secRevoke else E.secLifecycle) ∧
        ok = true → 97 ≤ e.1 ∧ e.1 ≤ 100 → Safety.isRaised t E.secSvn ∧
        rest ≠ [] → t.sec.op = some { o with burns := rest } ∧
        rest = [] → o.slots = [] → longService o.svc = true → t.sec.op = some { o with burns := [] } ∧
        rest = [] → o.slots = [] → longService o.svc = false → t.sec.op = none ∧ t.get R.SEC_OP_STATE = (if o.code = 0 then 2 else 3)) ∧
  (∀ (ok : Bool) (s : State),
      s.sec.op.all (fun o => o.burns.isEmpty) = true →
      ∃ t : State, exec (.fuseBurnDone ok) s = .next t ∧
        t = s) ∧
  (∀ (s : State),
      s.secUp = true →
      ∃ t : State, exec .secWatchdog s = .next t ∧
        t.sec.op = none ∧
        s.sec.op ≠ none → t.get R.SEC_OP_CODE = 0x3F ∧ t.get R.SEC_OP_STATE = 3 ∧
        t.get R.SEC_EVT_SEC_RESTART = 1 ∧
        Safety.isRaised t E.secRestart ∧
        t.get (I.AGENT_EPOCH 5) = (s.get (I.AGENT_EPOCH 5) + 1) % 256 ∧
        s.sec.op.all (fun o => o.burns.isEmpty) = true → t.fuses = s.fuses)

/-- Each of these commands completes, for every state that meets the conditions named; a request needs that the host
reaches CTL. (1) pwrHold, pwrDoze, pwrOff and pwrRun that R453's table allows, with a WAKE_TRG below 16 or 31: where
nothing holds it, HOLD from RUN, DOZE and OFF begin to drain the rods of their state for the tag T, RUN from HOLD is
reached and announced, and RUN or HOLD from DOZE begin the exit; while a patch or a frequency change holds it, it
waits with the state as it was. One that the table does not allow is refused, recorded and announced, with the state
as it was, and another WAKE_TRG is a rejected write. (2) powerDrained in ENTERING once the rods have drained: HOLD
gates each of its rods behind its proxy, DOZE takes MEM's supply away behind its proxy, each announced, and OFF takes
the supplies away and keeps the count of power-ons. Not drained, or in another state, nothing changes. (3)
powerDrainTimeout in ENTERING while they have not: HOLD or DOZE is entered with DRAIN_CUT set and announced, or OFF
is. Otherwise nothing changes. (4) dozeMemRestored while DOZE is left and MEM is off: MEM has its supply and the image
is awaited. (5) freqChangeDone of a change: its set point is in force with its rate, announced, a step-down too;
traffic resumes, or a step set that waited runs, and an urgent request for another set point begins. (6)
dozeImageChecked while the image is awaited: the same image ends the exit in RUN, or in HOLD where that is the target,
announced, with DRAM regions and Tray map kept; another is refused with DOZE_IMAGE in HOLD, and the image is awaited
still. Otherwise nothing changes. (spec R389, R390, R452, R453, R454, R455) -/
def Obligations.PowerStates : Prop :=
  (∀ (wake : BitVec 5) (s : State),
      Safety.reaches s 0 →
      wake.toNat < 16 ∨ wake.toNat = 31 →
      s.pwrAllowed pwHold = true →
      s.pwrBusy = false →
      ∃ t : State, exec (.pwrHold wake) s = .next t ∧
        t.get R.PWR_STAT_TARGET = pwHold ∧
        s.get R.PWR_STAT_STATE ≠ pwDoze → t.get R.PWR_STAT_STATE = pwEntering ∧ t.get I.PWR_MASK = maskOf (drainMask pwHold) ∧ t.get I.PWR_T = s.drainTag ∧
        s.get R.PWR_STAT_STATE = pwDoze → t.get R.PWR_STAT_STATE = pwLeaving ∧
        t.get R.PWR_REQ_WAKE_TRG = wake.toNat) ∧
  (∀ (wake : BitVec 5) (s : State),
      Safety.reaches s 0 →
      wake.toNat < 16 ∨ wake.toNat = 31 →
      s.pwrAllowed pwHold = true →
      s.pwrBusy = true →
      ∃ t : State, exec (.pwrHold wake) s = .next t ∧
        t.get I.PWR_WAIT = pwHold + 1 ∧
        t.get R.PWR_STAT_STATE = s.get R.PWR_STAT_STATE ∧
        t.get R.PWR_REQ_WAKE_TRG = wake.toNat) ∧
  (∀ (wake : BitVec 5) (s : State),
      Safety.reaches s 0 →
      wake.toNat < 16 ∨ wake.toNat = 31 →
      s.pwrAllowed pwHold = false →
      ∃ t : State, exec (.pwrHold wake) s = .next t ∧
        t.get R.PWR_STAT_STATE = s.get R.PWR_STAT_STATE ∧
        t.get R.PWR_STAT_REFUSED = 1 ∧
        Safety.isRaised t E.pwrRefused) ∧
  (∀ (wake : BitVec 5) (s : State),
      Safety.reaches s 0 →
      16 ≤ wake.toNat ∧ wake.toNat ≤ 30 →
      ∃ t : State, exec (.pwrHold wake) s = .next t ∧
        t.get (R.WR_RANGE_WR 0) ≠ 0 ∧
        Safety.isRaised t E.wrRange ∧
        t.get R.PWR_STAT_STATE = s.get R.PWR_STAT_STATE ∧
        t.get R.PWR_STAT_TARGET = s.get R.PWR_STAT_TARGET) ∧
  (∀ (wake : BitVec 5) (s : State),
      Safety.reaches s 0 →
      wake.toNat < 16 ∨ wake.toNat = 31 →
      s.pwrAllowed pwDoze = true →
      s.pwrBusy = false →
      ∃ t : State, exec (.pwrDoze wake) s = .next t ∧
        t.get R.PWR_STAT_TARGET = pwDoze ∧
        t.get R.PWR_STAT_STATE = pwEntering ∧ t.get I.PWR_MASK = maskOf (drainMask pwDoze) ∧ t.get I.PWR_T = s.drainTag ∧
        t.get R.PWR_REQ_WAKE_TRG = wake.toNat) ∧
  (∀ (wake : BitVec 5) (s : State),
      Safety.reaches s 0 →
      wake.toNat < 16 ∨ wake.toNat = 31 →
      s.pwrAllowed pwDoze = true →
      s.pwrBusy = true →
      ∃ t : State, exec (.pwrDoze wake) s = .next t ∧
        t.get I.PWR_WAIT = pwDoze + 1 ∧
        t.get R.PWR_STAT_STATE = s.get R.PWR_STAT_STATE ∧
        t.get R.PWR_REQ_WAKE_TRG = wake.toNat) ∧
  (∀ (wake : BitVec 5) (s : State),
      Safety.reaches s 0 →
      wake.toNat < 16 ∨ wake.toNat = 31 →
      s.pwrAllowed pwDoze = false →
      ∃ t : State, exec (.pwrDoze wake) s = .next t ∧
        t.get R.PWR_STAT_STATE = s.get R.PWR_STAT_STATE ∧
        t.get R.PWR_STAT_REFUSED = 1 ∧
        Safety.isRaised t E.pwrRefused) ∧
  (∀ (wake : BitVec 5) (s : State),
      Safety.reaches s 0 →
      16 ≤ wake.toNat ∧ wake.toNat ≤ 30 →
      ∃ t : State, exec (.pwrDoze wake) s = .next t ∧
        t.get (R.WR_RANGE_WR 0) ≠ 0 ∧
        Safety.isRaised t E.wrRange ∧
        t.get R.PWR_STAT_STATE = s.get R.PWR_STAT_STATE ∧
        t.get R.PWR_STAT_TARGET = s.get R.PWR_STAT_TARGET) ∧
  (∀ (wake : BitVec 5) (s : State),
      Safety.reaches s 0 →
      wake.toNat < 16 ∨ wake.toNat = 31 →
      s.pwrAllowed pwOff = true →
      s.pwrBusy = false →
      ∃ t : State, exec (.pwrOff wake) s = .next t ∧
        t.get R.PWR_STAT_TARGET = pwOff ∧
        t.get R.PWR_STAT_STATE = pwEntering ∧ t.get I.PWR_MASK = maskOf (drainMask pwOff) ∧ t.get I.PWR_T = s.drainTag ∧
        t.get R.PWR_REQ_WAKE_TRG = wake.toNat) ∧
  (∀ (wake : BitVec 5) (s : State),
      Safety.reaches s 0 →
      wake.toNat < 16 ∨ wake.toNat = 31 →
      s.pwrAllowed pwOff = true →
      s.pwrBusy = true →
      ∃ t : State, exec (.pwrOff wake) s = .next t ∧
        t.get I.PWR_WAIT = pwOff + 1 ∧
        t.get R.PWR_STAT_STATE = s.get R.PWR_STAT_STATE ∧
        t.get R.PWR_REQ_WAKE_TRG = wake.toNat) ∧
  (∀ (wake : BitVec 5) (s : State),
      Safety.reaches s 0 →
      wake.toNat < 16 ∨ wake.toNat = 31 →
      s.pwrAllowed pwOff = false →
      ∃ t : State, exec (.pwrOff wake) s = .next t ∧
        t.get R.PWR_STAT_STATE = s.get R.PWR_STAT_STATE ∧
        t.get R.PWR_STAT_REFUSED = 1 ∧
        Safety.isRaised t E.pwrRefused) ∧
  (∀ (wake : BitVec 5) (s : State),
      Safety.reaches s 0 →
      16 ≤ wake.toNat ∧ wake.toNat ≤ 30 →
      ∃ t : State, exec (.pwrOff wake) s = .next t ∧
        t.get (R.WR_RANGE_WR 0) ≠ 0 ∧
        Safety.isRaised t E.wrRange ∧
        t.get R.PWR_STAT_STATE = s.get R.PWR_STAT_STATE ∧
        t.get R.PWR_STAT_TARGET = s.get R.PWR_STAT_TARGET) ∧
  (∀ (wake : BitVec 5) (s : State),
      Safety.reaches s 0 →
      wake.toNat < 16 ∨ wake.toNat = 31 →
      s.pwrAllowed pwRun = true →
      s.pwrBusy = false →
      ∃ t : State, exec (.pwrRun wake) s = .next t ∧
        s.get R.PWR_STAT_STATE = pwHold → t.get R.PWR_STAT_STATE = pwRun ∧ t.get I.PWR_MASK = 0 ∧ Safety.isRaised t E.pwrDone ∧
        s.get R.PWR_STAT_STATE = pwDoze → t.get R.PWR_STAT_STATE = pwLeaving ∧ t.get R.PWR_STAT_TARGET = pwRun ∧
        t.get R.PWR_REQ_WAKE_TRG = wake.toNat) ∧
  (∀ (wake : BitVec 5) (s : State),
      Safety.reaches s 0 →
      wake.toNat < 16 ∨ wake.toNat = 31 →
      s.pwrAllowed pwRun = true →
      s.pwrBusy = true →
      ∃ t : State, exec (.pwrRun wake) s = .next t ∧
        t.get I.PWR_WAIT = pwRun + 1 ∧
        t.get R.PWR_STAT_STATE = s.get R.PWR_STAT_STATE ∧
        t.get R.PWR_REQ_WAKE_TRG = wake.toNat) ∧
  (∀ (wake : BitVec 5) (s : State),
      Safety.reaches s 0 →
      wake.toNat < 16 ∨ wake.toNat = 31 →
      s.pwrAllowed pwRun = false →
      ∃ t : State, exec (.pwrRun wake) s = .next t ∧
        t.get R.PWR_STAT_STATE = s.get R.PWR_STAT_STATE ∧
        t.get R.PWR_STAT_REFUSED = 1 ∧
        Safety.isRaised t E.pwrRefused) ∧
  (∀ (wake : BitVec 5) (s : State),
      Safety.reaches s 0 →
      16 ≤ wake.toNat ∧ wake.toNat ≤ 30 →
      ∃ t : State, exec (.pwrRun wake) s = .next t ∧
        t.get (R.WR_RANGE_WR 0) ≠ 0 ∧
        Safety.isRaised t E.wrRange ∧
        t.get R.PWR_STAT_STATE = s.get R.PWR_STAT_STATE ∧
        t.get R.PWR_STAT_TARGET = s.get R.PWR_STAT_TARGET) ∧
  (∀ (r : Fin 16) (s : State),
      s.get R.PWR_STAT_STATE = pwEntering →
      s.get R.PWR_STAT_TARGET = pwHold →
      s.pwrDrained = true →
      ∃ t : State, exec .powerDrained s = .next t ∧
        t.get R.PWR_STAT_STATE = pwHold ∧
        holdRuns r = false → s.isolated r = false → t.get (I.GATED r) = 1 ∧ t.get (I.PROXY r) = 1 ∧
        t.get I.PWR_MASK = 0 ∧
        Safety.isRaised t E.pwrDone) ∧
  (∀ (s : State),
      s.get R.PWR_STAT_STATE = pwEntering →
      s.get R.PWR_STAT_TARGET = pwDoze →
      s.pwrDrained = true →
      ∃ t : State, exec .powerDrained s = .next t ∧
        t.get R.PWR_STAT_STATE = pwDoze ∧
        t.get (I.PWR_ON 14) = 0 ∧
        t.get (I.PROXY 14) = 1 ∧
        t.get I.PWR_MASK = 0 ∧
        Safety.isRaised t E.pwrDone) ∧
  (∀ (s : State),
      s.get R.PWR_STAT_STATE = pwEntering →
      s.get R.PWR_STAT_TARGET = pwOff →
      s.pwrDrained = true →
      ∃ t : State, exec .powerDrained s = .next t ∧
        t.get I.DEV = 6 ∧ t.get I.CORE_EN = 0 ∧ t.get I.JTAG_IR = 1 ∧ t.get R.POWER_ON_COUNT = s.get R.POWER_ON_COUNT % 2 ^ R.POWER_ON_COUNT.w) ∧
  (∀ (s : State),
      s.get R.PWR_STAT_STATE ≠ pwEntering ∨ s.pwrDrained = false →
      ∃ t : State, exec .powerDrained s = .next t ∧
        t = s) ∧
  (∀ (s : State),
      s.get R.PWR_STAT_STATE = pwEntering →
      s.pwrDrained = false →
      ∃ t : State, exec .powerDrainTimeout s = .next t ∧
        s.get R.PWR_STAT_TARGET = pwHold ∨ s.get R.PWR_STAT_TARGET = pwDoze → t.get R.PWR_STAT_STATE = s.get R.PWR_STAT_TARGET ∧ t.get R.PWR_STAT_DRAIN_CUT = 1 ∧ Safety.isRaised t E.pwrDone ∧
        s.get R.PWR_STAT_TARGET = pwOff → t.get I.DEV = 6 ∧ t.get I.CORE_EN = 0) ∧
  (∀ (s : State),
      s.get R.PWR_STAT_STATE ≠ pwEntering ∨ s.pwrDrained = true →
      ∃ t : State, exec .powerDrainTimeout s = .next t ∧
        t = s) ∧
  (∀ (s : State),
      s.get R.PWR_STAT_STATE = pwLeaving →
      s.on (I.PWR_ON 14) = false →
      ∃ t : State, exec .dozeMemRestored s = .next t ∧
        t.get R.PWR_STAT_IMAGE_WAIT = 1 ∧
        t.get (I.PWR_ON 14) = 1) ∧
  (∀ (ch : Fin 8) (sp : Nat) (s : State),
      s.get (R.CH_STAT_STATE ch) = 4 →
      s.get (I.CH_CHANGE ch) = sp + 1 →
      sp ≤ 3 →
      ∃ t : State, exec (.freqChangeDone ch) s = .next t ∧
        t.get (R.CH_STAT_SP ch) = sp ∧
        t.get (R.CH_STAT_RATE ch) = (s.strg.setPoint ch sp).getD 0 % 2 ^ (R.CH_STAT_RATE ch).w ∧
        Safety.isRaised t (E.memFreqDone ch) ∧
        s.on (I.CH_CHDOWN ch) = true → Safety.isRaised t (E.memStepdown ch) ∧
        s.get (I.CH_NEXT ch) = 0 ∨ s.get (I.CH_NEXT ch) = sp + 1 → t.get (R.CH_STAT_STATE ch) = (if s.on (I.CH_STEPWAIT ch) then 3 else 2) ∧
        s.get (I.CH_NEXT ch) ≠ 0 → s.get (I.CH_NEXT ch) ≠ sp + 1 → s.on (I.CH_NEXTURG ch) = true → t.get (R.CH_STAT_STATE ch) = 4 ∧ t.get (I.CH_CHANGE ch) = s.get (I.CH_NEXT ch)) ∧
  (∀ (obj : List Byte) (s : State),
      s.on R.PWR_STAT_IMAGE_WAIT = true →
      sha384 (obj.take (parseHdr obj).sigOffset) = s.imageDigest →
      ∃ t : State, exec (.dozeImageChecked obj) s = .next t ∧
        t.get R.PWR_STAT_IMAGE_WAIT = 0 ∧
        t.get R.PWR_STAT_STATE = (if s.get R.PWR_STAT_TARGET = pwHold then pwHold else pwRun) ∧
        t.strg.drams = s.strg.drams ∧ t.strg.trays = s.strg.trays ∧
        Safety.isRaised t E.pwrDone) ∧
  (∀ (obj : List Byte) (s : State),
      s.on R.PWR_STAT_IMAGE_WAIT = true →
      sha384 (obj.take (parseHdr obj).sigOffset) ≠ s.imageDigest →
      ∃ t : State, exec (.dozeImageChecked obj) s = .next t ∧
        t.get R.LOAD_STAT_CODE = 0x28 ∧
        t.get R.PWR_STAT_STATE = pwHold ∧
        t.get R.PWR_STAT_IMAGE_WAIT = s.get R.PWR_STAT_IMAGE_WAIT) ∧
  (∀ (obj : List Byte) (s : State),
      s.on R.PWR_STAT_IMAGE_WAIT = false →
      ∃ t : State, exec (.dozeImageChecked obj) s = .next t ∧
        t = s)

/-- Each of these commands completes, for every state that meets the conditions named. (1) thmSample with up to 21
samples, THM running and the voters cold: a good first sample of sensor 0, not broken, becomes its reading and ends
its stuck count. The fourth in a row above HOT, with no request yet, makes it a throttle source: the request begins,
THM_HOT is raised, THERM_N is asserted, and grace starts where no step is in force. With a good sample of a voter
sensor that is not broken, the voter running: it becomes that sensor's reading, a fourth above SHUT in a row is a hot
vote, a sixteenth below SHUT minus the hysteresis ends one, and a new highest reading is the peak. With two hot votes
of sensors that are not broken and read no less than SHUT minus the hysteresis, the voter running and not shut down
yet: the device shuts down, FAULT_N and THERM_N are asserted and the shutdown, with its votes, is recorded and
counted. With neither THM nor the voter running, nothing changes. (2) sensorTimeout of a sensor of THM that is on and
not broken: it is broken with its reason, recorded and announced; of a sensor of the voter: it is broken for the
voter, announced. Where THM is off or the sensor already broken, or the voter is off, nothing changes. (3) graceExpiry
with grace running: with the request and a MAX_STEP of 1 or more step 1 is applied, recorded and announced; with none
only grace ends. With no grace nothing changes. (4) thmStepTimer with a step in force: while the request stands and
the step is below MAX_STEP the next is applied, recorded and announced, step 4 also with FRDIV_NA where a port in use
cannot be divided. Once the request has ended the highest step is undone, announced, and THERM_N is released with step
1. With no step, or at MAX_STEP, nothing changes. (spec R460, R461, R463, R464, R465, R467, R468) -/
def Obligations.ThermalControl : Prop :=
  (∀ (l : List TempSample) (x : TempSample) (l' : List TempSample) (s : State),
      l = x :: l' →
      l'.length ≤ 20 →
      s.thmOn = true →
      (List.range 3).all (fun v => decide (s.get (I.V_HOT v) = 0 ∧ s.get (I.V_BROKEN v) = 0 ∧ signed 16 (s.get (I.V_T v)) ≤ tShut)) = true →
      bit (s.get R.THM_BROKEN_S) 0 = false →
      tLow ≤ x.t.toInt ∧ x.t.toInt ≤ tHigh →
      24 ≤ x.diff.toInt ∧ x.diff.toInt ≤ 40 →
      ∃ t : State, exec (.thmSample l) s = .next t ∧
        t.get (R.THM_TEMP_T 0) = unsigned 16 x.t.toInt ∧
        t.get (I.SENS_STUCK 0) = 0 ∧
        bit (t.get R.THM_BROKEN_S) 0 = false ∧
        t.get I.DEV = s.get I.DEV ∧
        (s.get (I.TH_UP 0 1) = 3 ∧ s.get (I.TH_OVER 0 1) = 0 ∧ 16 * (s.get R.THM_THR_HOT : Int) < x.t.toInt ∧ s.get R.THM_STAT_REQ = 0 → t.get R.THM_STAT_REQ = 1 ∧ bit (t.get R.THM_HOT_SRC_S) 0 = true ∧ t.get I.PIN_THERM = 1 ∧ t.get R.THM_STAT_GRACE = (if s.on R.THM_STAT_STEP then 0 else 1) ∧ Safety.isRaised t E.thmHot)) ∧
  (∀ (l : List TempSample) (v : Fin 3) (x : TempSample) (s : State),
      l[21 + v.val]? = some x →
      s.voterOn = true →
      s.get (I.V_BROKEN v) = 0 →
      tLow ≤ x.t.toInt ∧ x.t.toInt ≤ tHigh →
      24 ≤ x.diff.toInt ∧ x.diff.toInt ≤ 40 →
      ∃ t : State, exec (.thmSample l) s = .next t ∧
        t.get (I.V_T v) = unsigned 16 x.t.toInt ∧
        t.get (I.V_BROKEN v) = 0 ∧
        3 ≤ s.get (I.V_UP v) → tShut < x.t.toInt → t.get (I.V_HOT v) = 1 ∧
        15 ≤ s.get (I.V_DN v) → x.t.toInt < tShut - voterHyst → t.get (I.V_HOT v) = 0 ∧
        s.on I.PEAK_SEEN = true → signed 16 (s.get R.THR_PEAK_MAX) < x.t.toInt → t.get R.THR_PEAK_MAX = unsigned 16 x.t.toInt) ∧
  (∀ (l : List TempSample) (s : State),
      l.length ≤ 21 →
      s.voterOn = true →
      s.get I.DEV ≠ 8 ∧ s.get I.DEV ≠ 11 →
      s.get (I.V_HOT 0) = 1 ∧ s.get (I.V_HOT 1) = 1 →
      s.get (I.V_BROKEN 0) = 0 ∧ s.get (I.V_BROKEN 1) = 0 →
      tShut - voterHyst ≤ signed 16 (s.get (I.V_T 0)) ∧ tShut - voterHyst ≤ signed 16 (s.get (I.V_T 1)) →
      ∃ t : State, exec (.thmSample l) s = .next t ∧
        t.get I.DEV = 8 ∧
        t.get I.PIN_FAULT = 1 ∧
        t.get I.PIN_THERM = 1 ∧
        t.get R.THR_REC_VALID = 1 ∧
        bit (t.get R.THR_REC_VOTES) 0 = true ∧ bit (t.get R.THR_REC_VOTES) 1 = true ∧
        t.get R.THR_REC_RESTARTS = satInc R.THR_REC_RESTARTS.w (s.get R.THR_REC_RESTARTS)) ∧
  (∀ (l : List TempSample) (s : State),
      s.thmOn = false →
      s.voterOn = false →
      ∃ t : State, exec (.thmSample l) s = .next t ∧
        t = s) ∧
  (∀ (n : Fin 24) (s : State),
      s.thmOn = true →
      n.val < firstVoter →
      s.sensBroken n = false →
      ∃ t : State, exec (.sensorTimeout n) s = .next t ∧
        t.get (R.THM_TEMP_BROKEN n) = 1 ∧
        t.get (R.THM_TEMP_REASON n) = 3 ∧
        bit (t.get R.THM_BROKEN_S) n = true ∧
        t.get R.THM_EVT_BROKEN = 1 ∧
        Safety.isRaised t E.thmBroken) ∧
  (∀ (n : Fin 24) (v : Fin 3) (s : State),
      n.val = firstVoter + v.val →
      s.voterOn = true →
      s.sensBroken n = false →
      ∃ t : State, exec (.sensorTimeout n) s = .next t ∧
        t.get (I.V_BROKEN v) = 3 ∧
        Safety.isRaised t E.voterBroken) ∧
  (∀ (n : Fin 24) (s : State),
      n.val < firstVoter →
      s.thmOn = false ∨ s.sensBroken n = true →
      ∃ t : State, exec (.sensorTimeout n) s = .next t ∧
        t = s) ∧
  (∀ (n : Fin 24) (s : State),
      firstVoter ≤ n.val →
      s.voterOn = false →
      ∃ t : State, exec (.sensorTimeout n) s = .next t ∧
        t = s) ∧
  (∀ (s : State),
      s.thmOn = true →
      s.get R.THM_STAT_GRACE = 1 →
      s.get R.THM_STAT_REQ = 1 →
      s.get R.THM_STAT_STEP = 0 →
      1 ≤ s.get I.THM_MAX_L →
      ∃ t : State, exec .graceExpiry s = .next t ∧
        t.get R.THM_STAT_STEP = 1 ∧
        t.get R.THM_STAT_GRACE = 0 ∧
        t.get R.THM_EVT_STEP_EV = 1 ∧
        Safety.isRaised t E.thmStep) ∧
  (∀ (s : State),
      s.thmOn = true →
      s.get R.THM_STAT_GRACE = 1 →
      s.get R.THM_STAT_REQ = 0 ∨ s.get I.THM_MAX_L = 0 →
      ∃ t : State, exec .graceExpiry s = .next t ∧
        t.get R.THM_STAT_GRACE = 0 ∧
        t.get R.THM_STAT_STEP = s.get R.THM_STAT_STEP ∧
        t.get R.THM_EVT_STEP_EV = s.get R.THM_EVT_STEP_EV) ∧
  (∀ (s : State),
      s.thmOn = false ∨ s.get R.THM_STAT_GRACE = 0 →
      ∃ t : State, exec .graceExpiry s = .next t ∧
        t = s) ∧
  (∀ (s : State),
      s.thmOn = true →
      s.get R.THM_STAT_REQ = 1 →
      1 ≤ s.get R.THM_STAT_STEP →
      s.get R.THM_STAT_STEP < s.get I.THM_MAX_L →
      s.get I.THM_MAX_L ≤ 4 →
      ∃ t : State, exec .thmStepTimer s = .next t ∧
        t.get R.THM_STAT_STEP = s.get R.THM_STAT_STEP + 1 ∧
        t.get R.THM_EVT_STEP_EV = 1 ∧
        Safety.isRaised t E.thmStep ∧
        s.get R.THM_STAT_STEP = 3 → s.frdivNa = true → t.get R.THM_STAT_FRDIV_NA = 1 ∧ Safety.isRaised t E.thmFrdivNa) ∧
  (∀ (s : State),
      s.thmOn = true →
      s.get R.THM_STAT_REQ = 0 →
      1 ≤ s.get R.THM_STAT_STEP →
      s.get R.THM_STAT_STEP ≤ 4 →
      ∃ t : State, exec .thmStepTimer s = .next t ∧
        t.get R.THM_STAT_STEP = s.get R.THM_STAT_STEP - 1 ∧
        t.get I.PIN_THERM = (if s.get R.THM_STAT_STEP = 1 then 0 else s.get I.PIN_THERM) ∧
        Safety.isRaised t E.thmStep) ∧
  (∀ (s : State),
      s.thmOn = false ∨ s.get R.THM_STAT_STEP = 0 ∨ s.get R.THM_STAT_REQ ≠ 0 ∧ s.get I.THM_MAX_L ≤ s.get R.THM_STAT_STEP →
      ∃ t : State, exec .thmStepTimer s = .next t ∧
        t = s)

/-- Each of these commands completes, for every state that meets the conditions named; a routine, ABORT and a target
need that the host reaches the bead of CAL. (1) calBgr, calXo, calTs, calLane and calPll with no routine at work:
where its precondition holds, the routine is at work with the targets and sources of its trims kept; where it does
not, it ends at once with PRECOND, announced. With a routine at work BUSY is set and that routine goes on. No trim
changes. (2) calAbort, and with CAL not isolated calRoutineTimeout and calPrecondLost, of a routine at work: it ends
with ABORT, TIMEOUT or PRECOND, announced, and its last kept trim has its target and source again, and its code where
it is not walked; the time limit also records the routine and counts. With none no trim and no result changes. (3)
calConverged of a routine at work, CAL not isolated: with every code of a trim of its own in range it ends with OK,
announced, and the last of the codes, if its trim is the routine's, is the target with SOURCE 1; with no codes no trim
changes; with a code of its trims out of range it ends with RANGE. With no routine nothing changes. (4) xoRound of an
XO routine, CAL not isolated: a mean within 0.5 ppm ends it with OK and no trim changed; another moves the target by
the mean over 0.4 ppm, after which it walks or settles, or ends with RANGE where the target leaves the width. After
the settling the next round begins. In the walk, or with no XO routine, nothing changes. (5) trimWalkStep while a trim
walks, CAL not isolated: each trim that is walked moves one code towards its target, and another takes it; the end of
the last walk is announced, and an XO round then settles. With none nothing changes. (6) trimTargetWrite of a trim
that exists, in its width: it is the target with SOURCE 2, at once the code where the trim is not walked, and it ends
a routine that sets this trim, with HOST_WRITE. Of another trim or code: a rejected write. (spec R474, R475, R476,
R477, R478) -/
def Obligations.TrimsAndRoutines : Prop :=
  (∀ (vref : Bool) (s : State),
      Safety.reachesBead s 15 10 →
      s.cal = none →
      vref = true →
      ∃ t : State, exec (.calBgr vref) s = .next t ∧
        t.cal.any (fun r : CalRun => decide (r.routine = 1 ∧ r.arg = 0 ∧ r.phase = 0 ∧ r.old = [(0, 0, (s.trim 0 0).target, (s.trim 0 0).src)])) = true ∧
        t.get R.CAL_STAT_STATE = 1 ∧
        t.get R.CAL_STAT_ROUTINE = 1 ∧
        t.get R.CAL_STAT_RESULT = 0 ∧
        t.trims = s.trims) ∧
  (∀ (vref : Bool) (s : State),
      Safety.reachesBead s 15 10 →
      s.cal = none →
      vref = false →
      ∃ t : State, exec (.calBgr vref) s = .next t ∧
        t.cal = none ∧
        t.get R.CAL_STAT_STATE = 3 ∧
        t.get R.CAL_STAT_ROUTINE = 1 ∧
        t.get R.CAL_STAT_RESULT = 2 ∧
        t.get R.CAL_EVT_ABANDON = 1 ∧
        t.trims = s.trims ∧
        Safety.isRaised t E.calAbandon) ∧
  (∀ (vref : Bool) (s : State),
      Safety.reachesBead s 15 10 →
      s.cal.isSome = true →
      ∃ t : State, exec (.calBgr vref) s = .next t ∧
        t.cal = s.cal ∧
        t.get R.CAL_EVT_BUSY = 1 ∧
        t.get R.CAL_STAT_STATE = s.get R.CAL_STAT_STATE ∧
        t.trims = s.trims) ∧
  (∀ (s : State),
      Safety.reachesBead s 15 10 →
      s.cal = none →
      s.get R.PTP_STAT_STATE = 2 →
      ∃ t : State, exec .calXo s = .next t ∧
        t.cal.any (fun r : CalRun => decide (r.routine = 2 ∧ r.arg = 0 ∧ r.phase = 0 ∧ r.old = [(1, 0, (s.trim 1 0).target, (s.trim 1 0).src)])) = true ∧
        t.get R.CAL_STAT_STATE = 1 ∧
        t.get R.CAL_STAT_ROUTINE = 2 ∧
        t.get R.CAL_STAT_RESULT = 0 ∧
        t.trims = s.trims) ∧
  (∀ (s : State),
      Safety.reachesBead s 15 10 →
      s.cal = none →
      s.get R.PTP_STAT_STATE ≠ 2 →
      ∃ t : State, exec .calXo s = .next t ∧
        t.cal = none ∧
        t.get R.CAL_STAT_STATE = 3 ∧
        t.get R.CAL_STAT_ROUTINE = 2 ∧
        t.get R.CAL_STAT_RESULT = 2 ∧
        t.get R.CAL_EVT_ABANDON = 1 ∧
        t.trims = s.trims ∧
        Safety.isRaised t E.calAbandon) ∧
  (∀ (s : State),
      Safety.reachesBead s 15 10 →
      s.cal.isSome = true →
      ∃ t : State, exec .calXo s = .next t ∧
        t.cal = s.cal ∧
        t.get R.CAL_EVT_BUSY = 1 ∧
        t.get R.CAL_STAT_STATE = s.get R.CAL_STAT_STATE ∧
        t.trims = s.trims) ∧
  (∀ (arg : BitVec 16) (s : State),
      Safety.reachesBead s 15 10 →
      s.cal = none →
      s.get R.PWR_STAT_STATE = 1 →
      ∃ t : State, exec (.calTs arg) s = .next t ∧
        t.cal.any (fun r : CalRun => decide (r.routine = 3 ∧ r.arg = arg.toNat ∧ r.phase = 0 ∧ r.old = (List.range 24).map (fun i => (2, i, (s.trim 2 i).target, (s.trim 2 i).src)))) = true ∧
        t.get R.CAL_STAT_STATE = 1 ∧
        t.get R.CAL_STAT_ROUTINE = 3 ∧
        t.get R.CAL_STAT_RESULT = 0 ∧
        t.trims = s.trims) ∧
  (∀ (arg : BitVec 16) (s : State),
      Safety.reachesBead s 15 10 →
      s.cal = none →
      s.get R.PWR_STAT_STATE ≠ 1 →
      ∃ t : State, exec (.calTs arg) s = .next t ∧
        t.cal = none ∧
        t.get R.CAL_STAT_STATE = 3 ∧
        t.get R.CAL_STAT_ROUTINE = 3 ∧
        t.get R.CAL_STAT_RESULT = 2 ∧
        t.get R.CAL_EVT_ABANDON = 1 ∧
        t.trims = s.trims ∧
        Safety.isRaised t E.calAbandon) ∧
  (∀ (arg : BitVec 16) (s : State),
      Safety.reachesBead s 15 10 →
      s.cal.isSome = true →
      ∃ t : State, exec (.calTs arg) s = .next t ∧
        t.cal = s.cal ∧
        t.get R.CAL_EVT_BUSY = 1 ∧
        t.get R.CAL_STAT_STATE = s.get R.CAL_STAT_STATE ∧
        t.trims = s.trims) ∧
  (∀ (arg : BitVec 16) (s : State),
      Safety.reachesBead s 15 10 →
      s.cal = none →
      s.calGroupOff arg.toNat = true →
      ∃ t : State, exec (.calLane arg) s = .next t ∧
        t.cal.any (fun r : CalRun => decide (r.routine = 4 ∧ r.arg = arg.toNat ∧ r.phase = 0 ∧ r.old.all (fun e => decide (3 ≤ e.1 ∧ e.1 ≤ 5 ∧ e.2.2 = ((s.trim e.1 e.2.1).target, (s.trim e.1 e.2.1).src))) = true)) = true ∧
        t.get R.CAL_STAT_STATE = 1 ∧
        t.get R.CAL_STAT_ROUTINE = 4 ∧
        t.get R.CAL_STAT_RESULT = 0 ∧
        t.trims = s.trims) ∧
  (∀ (arg : BitVec 16) (s : State),
      Safety.reachesBead s 15 10 →
      s.cal = none →
      s.calGroupOff arg.toNat = false →
      ∃ t : State, exec (.calLane arg) s = .next t ∧
        t.cal = none ∧
        t.get R.CAL_STAT_STATE = 3 ∧
        t.get R.CAL_STAT_ROUTINE = 4 ∧
        t.get R.CAL_STAT_RESULT = 2 ∧
        t.get R.CAL_EVT_ABANDON = 1 ∧
        t.trims = s.trims ∧
        Safety.isRaised t E.calAbandon) ∧
  (∀ (arg : BitVec 16) (s : State),
      Safety.reachesBead s 15 10 →
      s.cal.isSome = true →
      ∃ t : State, exec (.calLane arg) s = .next t ∧
        t.cal = s.cal ∧
        t.get R.CAL_EVT_BUSY = 1 ∧
        t.get R.CAL_STAT_STATE = s.get R.CAL_STAT_STATE ∧
        t.trims = s.trims) ∧
  (∀ (arg : BitVec 16) (s : State),
      Safety.reachesBead s 15 10 →
      s.cal = none →
      s.calGroupOff arg.toNat = true →
      ∃ t : State, exec (.calPll arg) s = .next t ∧
        t.cal.any (fun r : CalRun => decide (r.routine = 5 ∧ r.arg = arg.toNat ∧ r.phase = 0 ∧ r.old = [(6, arg.toNat, (s.trim 6 arg.toNat).target, (s.trim 6 arg.toNat).src)])) = true ∧
        t.get R.CAL_STAT_STATE = 1 ∧
        t.get R.CAL_STAT_ROUTINE = 5 ∧
        t.get R.CAL_STAT_RESULT = 0 ∧
        t.trims = s.trims) ∧
  (∀ (arg : BitVec 16) (s : State),
      Safety.reachesBead s 15 10 →
      s.cal = none →
      s.calGroupOff arg.toNat = false →
      ∃ t : State, exec (.calPll arg) s = .next t ∧
        t.cal = none ∧
        t.get R.CAL_STAT_STATE = 3 ∧
        t.get R.CAL_STAT_ROUTINE = 5 ∧
        t.get R.CAL_STAT_RESULT = 2 ∧
        t.get R.CAL_EVT_ABANDON = 1 ∧
        t.trims = s.trims ∧
        Safety.isRaised t E.calAbandon) ∧
  (∀ (arg : BitVec 16) (s : State),
      Safety.reachesBead s 15 10 →
      s.cal.isSome = true →
      ∃ t : State, exec (.calPll arg) s = .next t ∧
        t.cal = s.cal ∧
        t.get R.CAL_EVT_BUSY = 1 ∧
        t.get R.CAL_STAT_STATE = s.get R.CAL_STAT_STATE ∧
        t.trims = s.trims) ∧
  (∀ (r : CalRun) (l : List (Nat × Nat × Int × Nat)) (k i : Nat) (v : Int) (c : Nat) (s : State),
      Safety.reachesBead s 15 10 →
      s.cal = some r →
      ∃ t : State, exec .calAbort s = .next t ∧
        t.cal = none ∧
        t.get R.CAL_STAT_STATE = 3 ∧
        t.get R.CAL_STAT_RESULT = 5 ∧
        t.get R.CAL_EVT_ABANDON = 1 ∧
        r.old = l ++ [(k, i, v, c)] → (t.trim k i).target = v ∧ (t.trim k i).src = c ∧ (s.trimWalked k i = false → (t.trim k i).code = v) ∧
        r.old = [] → t.trims = s.trims ∧
        Safety.isRaised t E.calAbandon) ∧
  (∀ (s : State),
      Safety.reachesBead s 15 10 →
      s.cal = none →
      ∃ t : State, exec .calAbort s = .next t ∧
        t.cal = none ∧
        t.trims = s.trims ∧
        t.get R.CAL_STAT_STATE = s.get R.CAL_STAT_STATE ∧
        t.get R.CAL_STAT_RESULT = s.get R.CAL_STAT_RESULT) ∧
  (∀ (codes : List (Fin 7 × BitVec 16 × BitVec 16)) (r : CalRun) (l : List (Fin 7 × BitVec 16 × BitVec 16)) (c : Fin 7 × BitVec 16 × BitVec 16) (s : State),
      s.isolated 15 = false →
      s.cal = some r →
      codes = l ++ [c] →
      codes.all (fun c => !(calTrims r.routine r.arg).contains (c.1.val, c.2.1.toNat) || trimCodeOk c.1 (trimCode c.1 c.2.2.toNat)) = true →
      ∃ t : State, exec (.calConverged codes) s = .next t ∧
        t.cal = none ∧
        t.get R.CAL_STAT_STATE = 2 ∧
        t.get R.CAL_STAT_RESULT = 0 ∧
        (calTrims r.routine r.arg).contains (c.1.val, c.2.1.toNat) = true → (t.trim c.1 c.2.1.toNat).target = trimCode c.1 c.2.2.toNat ∧ (t.trim c.1 c.2.1.toNat).src = 1 ∧
        Safety.isRaised t E.calDone) ∧
  (∀ (codes : List (Fin 7 × BitVec 16 × BitVec 16)) (s : State),
      s.isolated 15 = false →
      s.cal.isSome = true →
      codes = [] →
      ∃ t : State, exec (.calConverged codes) s = .next t ∧
        t.cal = none ∧
        t.get R.CAL_STAT_STATE = 2 ∧
        t.get R.CAL_STAT_RESULT = 0 ∧
        t.trims = s.trims) ∧
  (∀ (codes : List (Fin 7 × BitVec 16 × BitVec 16)) (r : CalRun) (s : State),
      s.isolated 15 = false →
      s.cal = some r →
      codes.any (fun c => (calTrims r.routine r.arg).contains (c.1.val, c.2.1.toNat) && !trimCodeOk c.1 (trimCode c.1 c.2.2.toNat)) = true →
      ∃ t : State, exec (.calConverged codes) s = .next t ∧
        t.cal = none ∧
        t.get R.CAL_STAT_STATE = 3 ∧
        t.get R.CAL_STAT_RESULT = 6 ∧
        Safety.isRaised t E.calAbandon) ∧
  (∀ (codes : List (Fin 7 × BitVec 16 × BitVec 16)) (s : State),
      s.isolated 15 = true ∨ s.cal = none →
      ∃ t : State, exec (.calConverged codes) s = .next t ∧
        t = s) ∧
  (∀ (r : CalRun) (l : List (Nat × Nat × Int × Nat)) (k i : Nat) (v : Int) (c : Nat) (s : State),
      s.isolated 15 = false →
      r.routine ≤ 5 →
      s.cal = some r →
      ∃ t : State, exec .calRoutineTimeout s = .next t ∧
        t.cal = none ∧
        t.get R.CAL_STAT_STATE = 3 ∧
        t.get R.CAL_STAT_RESULT = 1 ∧
        t.get R.CAL_EVT_ABANDON = 1 ∧
        r.old = l ++ [(k, i, v, c)] → (t.trim k i).target = v ∧ (t.trim k i).src = c ∧ (s.trimWalked k i = false → (t.trim k i).code = v) ∧
        r.old = [] → t.trims = s.trims ∧
        Safety.isRaised t E.calAbandon ∧
        t.get R.CAL_EVT_CAL_TIMEOUT = 1 ∧
        t.get R.CAL_EVT_TO_CNT = satInc R.CAL_EVT_TO_CNT.w (s.get R.CAL_EVT_TO_CNT) ∧
        t.get R.CAL_EVT_ROUTINE = (if s.on R.CAL_EVT_CAL_TIMEOUT then s.get R.CAL_EVT_ROUTINE else r.routine) ∧
        Safety.isRaised t E.calTimeout) ∧
  (∀ (s : State),
      s.isolated 15 = true ∨ s.cal = none →
      ∃ t : State, exec .calRoutineTimeout s = .next t ∧
        t = s) ∧
  (∀ (r : CalRun) (l : List (Nat × Nat × Int × Nat)) (k i : Nat) (v : Int) (c : Nat) (s : State),
      s.isolated 15 = false →
      s.cal = some r →
      ∃ t : State, exec .calPrecondLost s = .next t ∧
        t.cal = none ∧
        t.get R.CAL_STAT_STATE = 3 ∧
        t.get R.CAL_STAT_RESULT = 2 ∧
        t.get R.CAL_EVT_ABANDON = 1 ∧
        r.old = l ++ [(k, i, v, c)] → (t.trim k i).target = v ∧ (t.trim k i).src = c ∧ (s.trimWalked k i = false → (t.trim k i).code = v) ∧
        r.old = [] → t.trims = s.trims ∧
        Safety.isRaised t E.calAbandon) ∧
  (∀ (s : State),
      s.isolated 15 = true ∨ s.cal = none →
      ∃ t : State, exec .calPrecondLost s = .next t ∧
        t = s) ∧
  (∀ (mean : BitVec 32) (r : CalRun) (s : State),
      s.isolated 15 = false →
      s.cal = some r →
      r.routine = 2 ∧ r.phase = 0 →
      mean.toInt.natAbs * 2000000 < 2 ^ 32 →
      ∃ t : State, exec (.xoRound mean) s = .next t ∧
        t.cal = none ∧
        t.get R.CAL_STAT_RESULT = 0 ∧
        t.get R.CAL_STAT_STATE = 2 ∧
        t.trims = s.trims ∧
        Safety.isRaised t E.calDone) ∧
  (∀ (mean : BitVec 32) (r : CalRun) (s : State),
      s.isolated 15 = false →
      s.cal = some r →
      r.routine = 2 ∧ r.phase = 0 →
      2 ^ 32 ≤ mean.toInt.natAbs * 2000000 →
      ∃ t : State, exec (.xoRound mean) s = .next t ∧
        0 ≤ (s.trim 1 0).target + roundDiv (mean.toInt * 2500000) (2 ^ 32) → (s.trim 1 0).target + roundDiv (mean.toInt * 2500000) (2 ^ 32) < 256 → (t.trim 1 0).target = (s.trim 1 0).target + roundDiv (mean.toInt * 2500000) (2 ^ 32) ∧ (t.trim 1 0).src = 1 ∧ (t.trim 1 0).code = (s.trim 1 0).code ∧ t.cal = some { r with phase := if t.walking then 1 else 2 } ∧
        (s.trim 1 0).target + roundDiv (mean.toInt * 2500000) (2 ^ 32) < 0 ∨ 256 ≤ (s.trim 1 0).target + roundDiv (mean.toInt * 2500000) (2 ^ 32) → t.cal = none ∧ t.get R.CAL_STAT_STATE = 3 ∧ t.get R.CAL_STAT_RESULT = 6 ∧ Safety.isRaised t E.calAbandon) ∧
  (∀ (mean : BitVec 32) (r : CalRun) (s : State),
      s.isolated 15 = false →
      s.cal = some r →
      r.routine = 2 ∧ r.phase = 2 →
      ∃ t : State, exec (.xoRound mean) s = .next t ∧
        t = { s with cal := some { r with phase := 0 } }) ∧
  (∀ (mean : BitVec 32) (s : State),
      s.isolated 15 = true ∨ s.cal.all (fun r => decide (r.routine ≠ 2 ∨ r.phase = 1)) = true →
      ∃ t : State, exec (.xoRound mean) s = .next t ∧
        t = s) ∧
  (∀ (r : Trim) (s : State),
      s.isolated 15 = false →
      s.walking = true →
      r ∈ s.trims →
      ∃ t : State, exec .trimWalkStep s = .next t ∧
        { r with code := if s.trimWalked r.kind r.inst then (if r.code < r.target then r.code + 1 else if r.target < r.code then r.code - 1 else r.code) else r.target } ∈ t.trims ∧
        t.trims.length = s.trims.length ∧
        t.walking = false → Safety.isRaised t E.calWalkDone ∧ t.cal = s.cal.map (fun r => if r.phase = 1 then { r with phase := 2 } else r) ∧
        t.walking = true → t.cal = s.cal) ∧
  (∀ (s : State),
      s.isolated 15 = true ∨ s.walking = false →
      ∃ t : State, exec .trimWalkStep s = .next t ∧
        t = s) ∧
  (∀ (v : BitVec 16) (k i : Nat) (s : State),
      Safety.reachesBead s 15 10 →
      s.get R.TRIM_SEL_KIND = k ∧ s.get R.TRIM_SEL_INSTANCE = i →
      trimExists k i = true →
      trimCodeOk k (trimCode k v.toNat) = true →
      ∃ t : State, exec (.trimTargetWrite v) s = .next t ∧
        (t.trim k i).target = trimCode k v.toNat ∧ (t.trim k i).src = 2 ∧
        s.trimWalked k i = false → (t.trim k i).code = trimCode k v.toNat ∧
        s.cal.any (fun r => (calTrims r.routine r.arg).contains (k, i)) = false → t.cal = s.cal ∧
        s.cal.any (fun r => (calTrims r.routine r.arg).contains (k, i)) = true → t.cal = none ∧ t.get R.CAL_STAT_STATE = 3 ∧ t.get R.CAL_STAT_RESULT = 3 ∧ Safety.isRaised t E.calAbandon) ∧
  (∀ (v : BitVec 16) (k i : Nat) (s : State),
      Safety.reachesBead s 15 10 →
      s.get R.TRIM_SEL_KIND = k ∧ s.get R.TRIM_SEL_INSTANCE = i →
      trimExists k i = false ∨ trimCodeOk k (trimCode k v.toNat) = false →
      ∃ t : State, exec (.trimTargetWrite v) s = .next t ∧
        t.trims = s.trims ∧
        t.cal = s.cal ∧
        t.get (R.WR_RANGE_WR 15) ≠ 0 ∧
        Safety.isRaised t E.wrRange)

/-- Each of these services completes, for every state in which its request waits on its pair and no routine is at
work. (1) calExport with room for the copy in use, in granules that CTL may write: that copy is in the Tray, and the
reply is OK with its length; else BAD_ARG, and nothing of store, trims or Tray changes. (2) calSave: where it reads
back, the copy not in use holds the targets in a set whose GEN is one higher and is the copy in use, announced; where
it does not, copy and GEN stay, WRITE_ERR is set and announced, and the reply holds 0x43. No trim changes. (3)
calImport of bytes that CTL may read: a set that R480 accepts, where it reads back, is in force, with targets and
sources of its entries, every other trim at its default, the other copy in use, GEN one higher, announced; one that
does not read back is refused with 0x43 and WRITE_ERR, and one that R480 refuses, or that holds a bad word, with its
code, the store as it was, each announced and with the trims as they were. Of other bytes: BAD_ARG, with nothing
changed. (4) userRead and userWrite within the USER area, in granules that CTL may access: the bytes are copied
between the area and the Tray, and the reply is OK; a write that does not read back sets WRITE_ERR, announced, and
holds 0x43. Beyond the area the reply holds 0x44; with no access to the Tray, or for a write a bad word in it,
BAD_ARG; the store stays as it was. (5) Each of the five while a routine is at work: BUSY, and nothing of store, trims
or Tray changes. (spec R471, R472, R473, R479, R480) -/
def Obligations.CalibrationServices : Prop :=
  (∀ (p : Fin 8) (a n : Nat) (s : State),
      s.secAsked p 0x20 = true →
      s.cal = none →
      s.get (R.MB_DATA_D (2 * p) 1) = a →
      s.get (R.MB_DATA_D (2 * p) 2) = n →
      (s.calCopy (s.get R.KEEP_STAT_COPY)).length ≤ n →
      s.trayAsk a (s.calCopy (s.get R.KEEP_STAT_COPY)).length true = true →
      ∃ t : State, exec (.calExport p) s = .next t ∧
        t.trayRead a (s.calCopy (s.get R.KEEP_STAT_COPY)).length = s.calCopy (s.get R.KEEP_STAT_COPY) ∧
        t.get (R.MB_STAT_FULL (2 * p + 1)) = 1 ∧
        t.get (R.MB_DATA_D (2 * p + 1) 0) = (0x20 * 2 ^ 24 + 0 * 2 ^ 16 + s.get (R.MB_DATA_D (2 * p) 0) % 2 ^ 16) % 2 ^ 32 ∧
        t.get (R.MB_DATA_D (2 * p + 1) 1) = 0 ∧
        t.get (R.MB_DATA_D (2 * p + 1) 2) = (s.calCopy (s.get R.KEEP_STAT_COPY)).length % 2 ^ 32 ∧
        t.trims = s.trims ∧
        t.keep = s.keep) ∧
  (∀ (p : Fin 8) (a n : Nat) (s : State),
      s.secAsked p 0x20 = true →
      s.cal = none →
      s.get (R.MB_DATA_D (2 * p) 1) = a →
      s.get (R.MB_DATA_D (2 * p) 2) = n →
      n < (s.calCopy (s.get R.KEEP_STAT_COPY)).length ∨ s.trayAsk a (s.calCopy (s.get R.KEEP_STAT_COPY)).length true = false →
      ∃ t : State, exec (.calExport p) s = .next t ∧
        t.get (R.MB_STAT_FULL (2 * p + 1)) = 1 ∧
        t.get (R.MB_DATA_D (2 * p + 1) 0) = (0x20 * 2 ^ 24 + 2 * 2 ^ 16 + s.get (R.MB_DATA_D (2 * p) 0) % 2 ^ 16) % 2 ^ 32 ∧
        t.trims = s.trims ∧
        t.keep = s.keep ∧
        t.tray = s.tray) ∧
  (∀ (p : Fin 8) (readBack : Bool) (s : State),
      s.secAsked p 0x22 = true →
      s.cal = none →
      readBack = true →
      ∃ t : State, exec (.calSave p readBack) s = .next t ∧
        t.get R.KEEP_STAT_COPY = (1 - s.get R.KEEP_STAT_COPY) % 2 ^ R.KEEP_STAT_COPY.w ∧
        t.get R.KEEP_GEN_GEN = (s.get R.KEEP_GEN_GEN + 1) % 2 ^ R.KEEP_GEN_GEN.w ∧
        t.keepRead (calBase (1 - s.get R.KEEP_STAT_COPY)) (s.calBytes (s.get R.KEEP_GEN_GEN + 1) s.trims).length = s.calBytes (s.get R.KEEP_GEN_GEN + 1) s.trims ∧
        t.trims = s.trims ∧
        Safety.isRaised t E.keepSaved ∧
        t.get (R.MB_STAT_FULL (2 * p + 1)) = 1 ∧
        t.get (R.MB_DATA_D (2 * p + 1) 0) = (0x22 * 2 ^ 24 + 0 * 2 ^ 16 + s.get (R.MB_DATA_D (2 * p) 0) % 2 ^ 16) % 2 ^ 32 ∧
        t.get (R.MB_DATA_D (2 * p + 1) 1) = 0) ∧
  (∀ (p : Fin 8) (readBack : Bool) (s : State),
      s.secAsked p 0x22 = true →
      s.cal = none →
      readBack = false →
      ∃ t : State, exec (.calSave p readBack) s = .next t ∧
        t.get R.KEEP_STAT_COPY = s.get R.KEEP_STAT_COPY ∧
        t.get R.KEEP_GEN_GEN = s.get R.KEEP_GEN_GEN ∧
        t.get R.KEEP_STAT_WRITE_ERR = 1 ∧
        t.trims = s.trims ∧
        Safety.isRaised t E.keepWriteErr ∧
        t.get (R.MB_STAT_FULL (2 * p + 1)) = 1 ∧
        t.get (R.MB_DATA_D (2 * p + 1) 0) = (0x22 * 2 ^ 24 + 0 * 2 ^ 16 + s.get (R.MB_DATA_D (2 * p) 0) % 2 ^ 16) % 2 ^ 32 ∧
        t.get (R.MB_DATA_D (2 * p + 1) 1) = 0x43) ∧
  (∀ (p : Fin 8) (readBack : Bool) (a n : Nat) (s : State),
      s.secAsked p 0x21 = true →
      s.cal = none →
      s.get (R.MB_DATA_D (2 * p) 1) = a →
      s.get (R.MB_DATA_D (2 * p) 2) = n →
      s.trayAsk a n false = true →
      s.badWords a n = [] →
      s.calImportCode (s.trayRead a n) = 0 →
      readBack = true →
      ∃ t : State, exec (.calImport p readBack) s = .next t ∧
        (calEntries (s.trayRead a n)).all (fun e : Trim => decide ((t.trim e.kind e.inst).target = e.target ∧ (t.trim e.kind e.inst).src = e.src)) = true ∧
        s.trims.all (fun u : Trim => (calEntries (s.trayRead a n)).any (fun e : Trim => decide (e.kind = u.kind ∧ e.inst = u.inst)) || decide ((t.trim u.kind u.inst).target = trimDefault u.kind ∧ (t.trim u.kind u.inst).src = 0)) = true ∧
        t.get R.KEEP_STAT_COPY = (1 - s.get R.KEEP_STAT_COPY) % 2 ^ R.KEEP_STAT_COPY.w ∧
        t.get R.KEEP_GEN_GEN = (s.get R.KEEP_GEN_GEN + 1) % 2 ^ R.KEEP_GEN_GEN.w ∧
        Safety.isRaised t E.keepSaved ∧
        t.get (R.MB_STAT_FULL (2 * p + 1)) = 1 ∧
        t.get (R.MB_DATA_D (2 * p + 1) 0) = (0x21 * 2 ^ 24 + 0 * 2 ^ 16 + s.get (R.MB_DATA_D (2 * p) 0) % 2 ^ 16) % 2 ^ 32 ∧
        t.get (R.MB_DATA_D (2 * p + 1) 1) = 0) ∧
  (∀ (p : Fin 8) (readBack : Bool) (a n : Nat) (s : State),
      s.secAsked p 0x21 = true →
      s.cal = none →
      s.get (R.MB_DATA_D (2 * p) 1) = a →
      s.get (R.MB_DATA_D (2 * p) 2) = n →
      s.trayAsk a n false = true →
      s.badWords a n = [] →
      s.calImportCode (s.trayRead a n) ≠ 0 →
      ∃ t : State, exec (.calImport p readBack) s = .next t ∧
        t.trims = s.trims ∧
        t.keep = s.keep ∧
        t.get (R.MB_STAT_FULL (2 * p + 1)) = 1 ∧
        t.get (R.MB_DATA_D (2 * p + 1) 0) = (0x21 * 2 ^ 24 + 0 * 2 ^ 16 + s.get (R.MB_DATA_D (2 * p) 0) % 2 ^ 16) % 2 ^ 32 ∧
        t.get (R.MB_DATA_D (2 * p + 1) 1) = s.calImportCode (s.trayRead a n) ∧
        Safety.isRaised t E.keepImportRefused) ∧
  (∀ (p : Fin 8) (readBack : Bool) (a n : Nat) (s : State),
      s.secAsked p 0x21 = true →
      s.cal = none →
      s.get (R.MB_DATA_D (2 * p) 1) = a →
      s.get (R.MB_DATA_D (2 * p) 2) = n →
      s.trayAsk a n false = true →
      s.badWords a n ≠ [] →
      ∃ t : State, exec (.calImport p readBack) s = .next t ∧
        t.trims = s.trims ∧
        t.keep = s.keep ∧
        t.get (R.MB_STAT_FULL (2 * p + 1)) = 1 ∧
        t.get (R.MB_DATA_D (2 * p + 1) 0) = (0x21 * 2 ^ 24 + 0 * 2 ^ 16 + s.get (R.MB_DATA_D (2 * p) 0) % 2 ^ 16) % 2 ^ 32 ∧
        t.get (R.MB_DATA_D (2 * p + 1) 1) = 0x40 ∧
        Safety.isRaised t E.keepImportRefused) ∧
  (∀ (p : Fin 8) (readBack : Bool) (a n : Nat) (s : State),
      s.secAsked p 0x21 = true →
      s.cal = none →
      s.get (R.MB_DATA_D (2 * p) 1) = a →
      s.get (R.MB_DATA_D (2 * p) 2) = n →
      s.trayAsk a n false = true →
      s.badWords a n = [] →
      s.calImportCode (s.trayRead a n) = 0 →
      readBack = false →
      ∃ t : State, exec (.calImport p readBack) s = .next t ∧
        t.trims = s.trims ∧
        t.get R.KEEP_STAT_COPY = s.get R.KEEP_STAT_COPY ∧
        t.get R.KEEP_STAT_WRITE_ERR = 1 ∧
        t.get (R.MB_STAT_FULL (2 * p + 1)) = 1 ∧
        t.get (R.MB_DATA_D (2 * p + 1) 0) = (0x21 * 2 ^ 24 + 0 * 2 ^ 16 + s.get (R.MB_DATA_D (2 * p) 0) % 2 ^ 16) % 2 ^ 32 ∧
        t.get (R.MB_DATA_D (2 * p + 1) 1) = 0x43 ∧
        Safety.isRaised t E.keepImportRefused) ∧
  (∀ (p : Fin 8) (readBack : Bool) (a n : Nat) (s : State),
      s.secAsked p 0x21 = true →
      s.cal = none →
      s.get (R.MB_DATA_D (2 * p) 1) = a →
      s.get (R.MB_DATA_D (2 * p) 2) = n →
      s.trayAsk a n false = false →
      ∃ t : State, exec (.calImport p readBack) s = .next t ∧
        t.get (R.MB_STAT_FULL (2 * p + 1)) = 1 ∧
        t.get (R.MB_DATA_D (2 * p + 1) 0) = (0x21 * 2 ^ 24 + 2 * 2 ^ 16 + s.get (R.MB_DATA_D (2 * p) 0) % 2 ^ 16) % 2 ^ 32 ∧
        t.trims = s.trims ∧
        t.keep = s.keep ∧
        t.tray = s.tray) ∧
  (∀ (p : Fin 8) (a o n : Nat) (s : State),
      s.secAsked p 0x23 = true →
      s.cal = none →
      s.get (R.MB_DATA_D (2 * p) 1) = a →
      s.get (R.MB_DATA_D (2 * p) 2) = o →
      s.get (R.MB_DATA_D (2 * p) 3) = n →
      o + n ≤ userBytes →
      s.trayAsk a n true = true →
      ∃ t : State, exec (.userRead p) s = .next t ∧
        t.trayRead a n = s.keepRead (userBase + o) n ∧
        t.keep = s.keep ∧
        t.get (R.MB_STAT_FULL (2 * p + 1)) = 1 ∧
        t.get (R.MB_DATA_D (2 * p + 1) 0) = (0x23 * 2 ^ 24 + 0 * 2 ^ 16 + s.get (R.MB_DATA_D (2 * p) 0) % 2 ^ 16) % 2 ^ 32 ∧
        t.get (R.MB_DATA_D (2 * p + 1) 1) = 0) ∧
  (∀ (p : Fin 8) (a o n : Nat) (s : State),
      s.secAsked p 0x23 = true →
      s.cal = none →
      s.get (R.MB_DATA_D (2 * p) 1) = a →
      s.get (R.MB_DATA_D (2 * p) 2) = o →
      s.get (R.MB_DATA_D (2 * p) 3) = n →
      o + n ≤ userBytes →
      s.trayAsk a n true = false →
      ∃ t : State, exec (.userRead p) s = .next t ∧
        t.get (R.MB_STAT_FULL (2 * p + 1)) = 1 ∧
        t.get (R.MB_DATA_D (2 * p + 1) 0) = (0x23 * 2 ^ 24 + 2 * 2 ^ 16 + s.get (R.MB_DATA_D (2 * p) 0) % 2 ^ 16) % 2 ^ 32 ∧
        t.trims = s.trims ∧
        t.keep = s.keep ∧
        t.tray = s.tray) ∧
  (∀ (p : Fin 8) (o n : Nat) (s : State),
      s.secAsked p 0x23 = true →
      s.cal = none →
      s.get (R.MB_DATA_D (2 * p) 2) = o →
      s.get (R.MB_DATA_D (2 * p) 3) = n →
      userBytes < o + n →
      ∃ t : State, exec (.userRead p) s = .next t ∧
        t.get (R.MB_STAT_FULL (2 * p + 1)) = 1 ∧
        t.get (R.MB_DATA_D (2 * p + 1) 0) = (0x23 * 2 ^ 24 + 0 * 2 ^ 16 + s.get (R.MB_DATA_D (2 * p) 0) % 2 ^ 16) % 2 ^ 32 ∧
        t.get (R.MB_DATA_D (2 * p + 1) 1) = 0x44 ∧
        t.trims = s.trims ∧
        t.keep = s.keep ∧
        t.tray = s.tray) ∧
  (∀ (p : Fin 8) (readBack : Bool) (a o n : Nat) (s : State),
      s.secAsked p 0x24 = true →
      s.cal = none →
      s.get (R.MB_DATA_D (2 * p) 1) = a →
      s.get (R.MB_DATA_D (2 * p) 2) = o →
      s.get (R.MB_DATA_D (2 * p) 3) = n →
      o + n ≤ userBytes →
      s.trayAsk a n false = true →
      s.badWords a n = [] →
      ∃ t : State, exec (.userWrite p readBack) s = .next t ∧
        t.keepRead (userBase + o) n = s.trayRead a n ∧
        t.get (R.MB_STAT_FULL (2 * p + 1)) = 1 ∧
        t.get (R.MB_DATA_D (2 * p + 1) 0) = (0x24 * 2 ^ 24 + 0 * 2 ^ 16 + s.get (R.MB_DATA_D (2 * p) 0) % 2 ^ 16) % 2 ^ 32 ∧
        t.get (R.MB_DATA_D (2 * p + 1) 1) = (if readBack then 0 else 0x43) ∧
        readBack = false → t.get R.KEEP_STAT_WRITE_ERR = 1 ∧ Safety.isRaised t E.keepWriteErr) ∧
  (∀ (p : Fin 8) (readBack : Bool) (a o n : Nat) (s : State),
      s.secAsked p 0x24 = true →
      s.cal = none →
      s.get (R.MB_DATA_D (2 * p) 1) = a →
      s.get (R.MB_DATA_D (2 * p) 2) = o →
      s.get (R.MB_DATA_D (2 * p) 3) = n →
      o + n ≤ userBytes →
      s.trayAsk a n false = false ∨ s.badWords a n ≠ [] →
      ∃ t : State, exec (.userWrite p readBack) s = .next t ∧
        t.keep = s.keep ∧
        t.get (R.MB_STAT_FULL (2 * p + 1)) = 1 ∧
        t.get (R.MB_DATA_D (2 * p + 1) 0) = (0x24 * 2 ^ 24 + 2 * 2 ^ 16 + s.get (R.MB_DATA_D (2 * p) 0) % 2 ^ 16) % 2 ^ 32) ∧
  (∀ (p : Fin 8) (readBack : Bool) (o n : Nat) (s : State),
      s.secAsked p 0x24 = true →
      s.cal = none →
      s.get (R.MB_DATA_D (2 * p) 2) = o →
      s.get (R.MB_DATA_D (2 * p) 3) = n →
      userBytes < o + n →
      ∃ t : State, exec (.userWrite p readBack) s = .next t ∧
        t.get (R.MB_STAT_FULL (2 * p + 1)) = 1 ∧
        t.get (R.MB_DATA_D (2 * p + 1) 0) = (0x24 * 2 ^ 24 + 0 * 2 ^ 16 + s.get (R.MB_DATA_D (2 * p) 0) % 2 ^ 16) % 2 ^ 32 ∧
        t.get (R.MB_DATA_D (2 * p + 1) 1) = 0x44 ∧
        t.trims = s.trims ∧
        t.keep = s.keep ∧
        t.tray = s.tray) ∧
  (∀ (p : Fin 8) (s : State),
      s.secAsked p 0x20 = true →
      s.cal.isSome = true →
      ∃ t : State, exec (.calExport p) s = .next t ∧
        t.get (R.MB_STAT_FULL (2 * p + 1)) = 1 ∧
        t.get (R.MB_DATA_D (2 * p + 1) 0) = (0x20 * 2 ^ 24 + 3 * 2 ^ 16 + s.get (R.MB_DATA_D (2 * p) 0) % 2 ^ 16) % 2 ^ 32 ∧
        t.trims = s.trims ∧
        t.keep = s.keep ∧
        t.tray = s.tray ∧
        t.cal = s.cal) ∧
  (∀ (p : Fin 8) (readBack : Bool) (s : State),
      s.secAsked p 0x22 = true →
      s.cal.isSome = true →
      ∃ t : State, exec (.calSave p readBack) s = .next t ∧
        t.get (R.MB_STAT_FULL (2 * p + 1)) = 1 ∧
        t.get (R.MB_DATA_D (2 * p + 1) 0) = (0x22 * 2 ^ 24 + 3 * 2 ^ 16 + s.get (R.MB_DATA_D (2 * p) 0) % 2 ^ 16) % 2 ^ 32 ∧
        t.trims = s.trims ∧
        t.keep = s.keep ∧
        t.tray = s.tray ∧
        t.cal = s.cal) ∧
  (∀ (p : Fin 8) (readBack : Bool) (s : State),
      s.secAsked p 0x21 = true →
      s.cal.isSome = true →
      ∃ t : State, exec (.calImport p readBack) s = .next t ∧
        t.get (R.MB_STAT_FULL (2 * p + 1)) = 1 ∧
        t.get (R.MB_DATA_D (2 * p + 1) 0) = (0x21 * 2 ^ 24 + 3 * 2 ^ 16 + s.get (R.MB_DATA_D (2 * p) 0) % 2 ^ 16) % 2 ^ 32 ∧
        t.trims = s.trims ∧
        t.keep = s.keep ∧
        t.tray = s.tray ∧
        t.cal = s.cal) ∧
  (∀ (p : Fin 8) (s : State),
      s.secAsked p 0x23 = true →
      s.cal.isSome = true →
      ∃ t : State, exec (.userRead p) s = .next t ∧
        t.get (R.MB_STAT_FULL (2 * p + 1)) = 1 ∧
        t.get (R.MB_DATA_D (2 * p + 1) 0) = (0x23 * 2 ^ 24 + 3 * 2 ^ 16 + s.get (R.MB_DATA_D (2 * p) 0) % 2 ^ 16) % 2 ^ 32 ∧
        t.trims = s.trims ∧
        t.keep = s.keep ∧
        t.tray = s.tray ∧
        t.cal = s.cal) ∧
  (∀ (p : Fin 8) (readBack : Bool) (s : State),
      s.secAsked p 0x24 = true →
      s.cal.isSome = true →
      ∃ t : State, exec (.userWrite p readBack) s = .next t ∧
        t.get (R.MB_STAT_FULL (2 * p + 1)) = 1 ∧
        t.get (R.MB_DATA_D (2 * p + 1) 0) = (0x24 * 2 ^ 24 + 3 * 2 ^ 16 + s.get (R.MB_DATA_D (2 * p) 0) % 2 ^ 16) % 2 ^ 32 ∧
        t.trims = s.trims ∧
        t.keep = s.keep ∧
        t.tray = s.tray ∧
        t.cal = s.cal)

/-- Each of these commands completes, for every state that meets the conditions named. (1) bootStart of a device that
a reset has left: SEC draws a new challenge, the reset is announced, and the trims are those of the one copy that is
valid, or none with CAL_BAD set and announced where neither is. (2) flashDirRead in ROM: a good directory leads to the
first firmware copy that it names, or, with none, to the host's; a bad one to the host's, with DIR_BAD. (3) fwGo and
imgGo, the host reaching CTL: in its waiting state the boot reads the host's object; in any other it stays, with
GO_IGN. (4) fwReadDone of a copy of the flash or of the host: one that passes its checks has the four cores run, its
SVN and source shown, and the first image copy offered; one that fails leaves its code, no core starts, and the next
copy is offered. (5) imgReadDone likewise: a copy of the flash stands at the Tray's start; an image that passes steps
1 to 8 is unpacked next; one that fails leaves its code, section and record, announced, and the next copy is offered;
one that does not unpack leaves code 13, announced. (6) imgUnpackDone: the body stands at granule 64, and the full
check is next. (7) imgCheckDone: an image that passes is applied, its rods have their supplies and its channels train;
one that fails leaves its code, announced, with the stringing as it was. (8) memTrainDone where every channel finds
its capacity and set point 0 works: each channel of the image runs at set point 0 with its rate, and another set point
that failed is marked and announced. At the first channel whose capacity differs, or whose set point 0 fails, the
image is taken away with DRAM_INIT for that channel, announced, and the next copy is offered. (9) bootReady: the
device is READY in RUN, announced, its image's identity is shown, at each rod too, and the carry log starts at 1. Each
outside its state of the boot, but for GO, changes nothing. (spec R385, R427, R434, R442, R473, R534, R535, R536,
R537, R539, R540) -/
def Obligations.BootSequence : Prop :=
  (∀ (s : State),
      s.get I.DEV = 0 ∧ s.get I.BOOT_STEP = 0 ∨ s.get I.DEV = 9 →
      ∃ t : State, exec .bootStart s = .next t ∧
        t.get I.DEV = 0 ∧
        t.get I.BOOT_STEP = 1 ∧
        t.get I.BOOT_EV = 0 ∧
        t.sec.challenge = s.freeBytes 32 ∧
        s.get I.BOOT_EV = 1 → Safety.isRaised t E.warmReset ∧
        s.get I.BOOT_EV = 2 → Safety.isRaised t E.thermRestart ∧
        s.calValid 0 = true → s.calValid 1 = false → t.trims = calEntries (s.calCopy 0) ∧ t.get R.KEEP_STAT_COPY = 0 ∧
        s.calValid 0 = false → s.calValid 1 = true → t.trims = calEntries (s.calCopy 1) ∧ t.get R.KEEP_STAT_COPY = 1 ∧
        s.calValid 0 = false → s.calValid 1 = false → t.trims = [] ∧ t.get R.KEEP_STAT_CAL_BAD = 1 ∧ Safety.isRaised t E.keepCalBad) ∧
  (∀ (s : State),
      ¬(s.get I.DEV = 0 ∧ s.get I.BOOT_STEP = 0 ∨ s.get I.DEV = 9) →
      ∃ t : State, exec .bootStart s = .next t ∧
        t = s) ∧
  (∀ (dir : List Byte) (s : State),
      s.get I.DEV = 0 →
      s.get I.BOOT_STEP = 1 →
      s.boot = btRom →
      ∃ t : State, exec (.flashDirRead dir) s = .next t ∧
        t.get R.BOOT_STAT_DIR_BAD = (if flashDirOk dir && !s.on R.BOOT_STAT_DIR_BAD then 0 else 1) ∧
        flashDirOk dir = true → fieldLE dir 12 4 ≠ 0 → t.get R.BOOT_STAT_STATE = btFwFlash ∧ t.get I.BOOT_COPY = 0 ∧
        flashDirOk dir = true → fieldLE dir 12 4 = 0 → fieldLE dir 20 4 ≠ 0 → t.get R.BOOT_STAT_STATE = btFwFlash ∧ t.get I.BOOT_COPY = 1 ∧
        flashDirOk dir = true → fieldLE dir 12 4 = 0 → fieldLE dir 20 4 = 0 → t.get R.BOOT_STAT_STATE = btWaitFw ∧
        flashDirOk dir = false → t.get R.BOOT_STAT_STATE = btWaitFw) ∧
  (∀ (dir : List Byte) (s : State),
      s.get I.DEV ≠ 0 ∨ s.get I.BOOT_STEP ≠ 1 ∨ s.boot ≠ btRom →
      ∃ t : State, exec (.flashDirRead dir) s = .next t ∧
        t = s) ∧
  (∀ (s : State),
      Safety.reaches s 0 →
      s.boot = btWaitFw →
      ∃ t : State, exec .fwGo s = .next t ∧
        t.get R.BOOT_STAT_STATE = btFwHost ∧
        t.get R.BOOT_STAT_GO_IGN = s.get R.BOOT_STAT_GO_IGN) ∧
  (∀ (s : State),
      Safety.reaches s 0 →
      s.boot ≠ btWaitFw →
      ∃ t : State, exec .fwGo s = .next t ∧
        t.get R.BOOT_STAT_STATE = s.get R.BOOT_STAT_STATE ∧
        t.get R.BOOT_STAT_GO_IGN = 1) ∧
  (∀ (s : State),
      Safety.reaches s 0 →
      s.boot = btWaitImg →
      ∃ t : State, exec .imgGo s = .next t ∧
        t.get R.BOOT_STAT_STATE = btImgHost ∧
        t.get R.BOOT_STAT_GO_IGN = s.get R.BOOT_STAT_GO_IGN) ∧
  (∀ (s : State),
      Safety.reaches s 0 →
      s.boot ≠ btWaitImg →
      ∃ t : State, exec .imgGo s = .next t ∧
        t.get R.BOOT_STAT_STATE = s.get R.BOOT_STAT_STATE ∧
        t.get R.BOOT_STAT_GO_IGN = 1) ∧
  (∀ (obj : List Byte) (o : List Byte) (s : State),
      s.get I.DEV = 0 →
      s.boot = btFwFlash ∧ o = obj ∨ s.boot = btFwHost ∧ o = s.hostObject →
      ∃ t : State, exec (.fwReadDone obj) s = .next t ∧
        fwFront o s.fuses = none → (List.range 4).all (fun k => decide (t.get (I.CORE_RUN k) = 1)) = true ∧ t.get R.FW_STAT_SVN = (parseHdr o).svn % 2 ^ R.FW_STAT_SVN.w ∧ t.get R.BOOT_STAT_FW_SRC = (if s.boot = btFwHost then 2 else s.get I.BOOT_COPY) % 2 ^ R.BOOT_STAT_FW_SRC.w ∧ t.get I.BOOT_STEP = 2 ∧ t.get R.BOOT_STAT_STATE = (if s.on (I.BOOT_DIR 2) = true ∨ s.on (I.BOOT_DIR 3) = true then btImgFlash else btWaitImg) ∧
        (fwFront o s.fuses).isSome = true → t.get R.FW_STAT_CODE = ((fwFront o s.fuses).map (fun r => r.code % 2 ^ R.FW_STAT_CODE.w)).getD 0 ∧ t.get R.BOOT_STAT_STATE = (if s.boot = btFwFlash ∧ s.get I.BOOT_COPY = 0 ∧ s.on (I.BOOT_DIR 1) = true then btFwFlash else btWaitFw) ∧ (List.range 4).all (fun k => decide (t.get (I.CORE_RUN k) = s.get (I.CORE_RUN k))) = true) ∧
  (∀ (obj : List Byte) (s : State),
      s.get I.DEV ≠ 0 ∨ s.boot ≠ btFwFlash ∧ s.boot ≠ btFwHost →
      ∃ t : State, exec (.fwReadDone obj) s = .next t ∧
        t = s) ∧
  (∀ (obj : List Byte) (o : List Byte) (s : State),
      s.get I.DEV = 0 →
      s.get I.BOOT_STEP = 2 →
      s.boot = btImgFlash ∧ o = obj ∨ s.boot = btImgHost ∧ o = s.hostObject →
      ∃ t : State, exec (.imgReadDone obj) s = .next t ∧
        imgFront false o s.fuses [] false = none → (imgBody o).isSome = true → t.get I.BOOT_STEP = 3 ∧ t.img.stored = o ∧ some t.img.body = imgBody o ∧
        imgFront false o s.fuses [] false = none → imgBody o = none → t.get R.LOAD_STAT_CODE = 13 ∧ t.get I.BOOT_STEP = 2 ∧ Safety.isRaised t E.bootImgFail ∧
        (imgFront false o s.fuses [] false).isSome = true → t.get R.LOAD_STAT_CODE = ((imgFront false o s.fuses [] false).map (fun r => r.code % 2 ^ R.LOAD_STAT_CODE.w)).getD 0 ∧ t.get R.LOAD_STAT_SECT = ((imgFront false o s.fuses [] false).map (fun r => r.sect % 2 ^ R.LOAD_STAT_SECT.w)).getD 0 ∧ t.get R.LOAD_STAT_RECORD = ((imgFront false o s.fuses [] false).map (fun r => r.record % 2 ^ R.LOAD_STAT_RECORD.w)).getD 0 ∧ t.get I.BOOT_STEP = 2 ∧ t.get R.BOOT_STAT_STATE = (if s.boot = btImgFlash ∧ s.get I.BOOT_COPY = 0 ∧ s.on (I.BOOT_DIR 3) = true then btImgFlash else btWaitImg) ∧ Safety.isRaised t E.bootImgFail ∧
        s.boot = btImgFlash → t.trayRead 0 (o.take (4 * 2 ^ 20)).length = o.take (4 * 2 ^ 20)) ∧
  (∀ (obj : List Byte) (s : State),
      s.get I.DEV ≠ 0 ∨ s.get I.BOOT_STEP ≠ 2 ∨ s.boot ≠ btImgFlash ∧ s.boot ≠ btImgHost →
      ∃ t : State, exec (.imgReadDone obj) s = .next t ∧
        t = s) ∧
  (∀ (s : State),
      s.get I.DEV = 0 →
      s.get I.BOOT_STEP = 3 →
      ∃ t : State, exec .imgUnpackDone s = .next t ∧
        t.get I.BOOT_STEP = 4 ∧
        t.trayRead stageBody s.img.body.length = s.img.body) ∧
  (∀ (s : State),
      s.get I.DEV ≠ 0 ∨ s.get I.BOOT_STEP ≠ 3 →
      ∃ t : State, exec .imgUnpackDone s = .next t ∧
        t = s) ∧
  (∀ (n : Fin 16) (s : State),
      s.get I.DEV = 0 →
      s.get I.BOOT_STEP = 4 →
      ∃ t : State, exec .imgCheckDone s = .next t ∧
        s.fullCheck s.img.hdr s.img.body = none → t.get R.BOOT_STAT_STATE = btTrain ∧ t.get I.BOOT_STEP = 5 ∧ t.strg = (parseBody s.img.hdr s.img.body).strg ∧ (n.val ≠ 0 → t.get (I.PWR_ON n) = (if t.strg.powered n then 1 else 0)) ∧ (n.val < 8 → t.strg.capacity n ≠ 0 → t.get (R.CH_STAT_STATE n) = 1) ∧
        s.fullCheck s.img.hdr s.img.body ≠ none → t.get R.LOAD_STAT_CODE = ((s.fullCheck s.img.hdr s.img.body).map (fun r => r.code % 2 ^ R.LOAD_STAT_CODE.w)).getD 0 ∧ t.get I.BOOT_STEP = 2 ∧ t.strg = s.strg ∧ Safety.isRaised t E.bootImgFail) ∧
  (∀ (s : State),
      s.get I.DEV ≠ 0 ∨ s.get I.BOOT_STEP ≠ 4 →
      ∃ t : State, exec .imgCheckDone s = .next t ∧
        t = s) ∧
  (∀ (found : List Nat) (bad : List (Fin 8 × Fin 4)) (c : Fin 8) (r : Nat) (s : State),
      s.get I.DEV = 0 →
      s.get I.BOOT_STEP = 5 →
      bad.all (fun e => decide (e.2 ≠ 0)) = true →
      (List.range 8).all (fun c => decide (found.getD c 0 = s.strg.capacity c ∧ s.get (I.CH_NA c 0) = 0)) = true →
      s.strg.capacity c ≠ 0 →
      s.strg.setPoint c 0 = some r →
      ∃ t : State, exec (.memTrainDone found bad) s = .next t ∧
        t.get I.BOOT_STEP = 6 ∧
        t.get (R.CH_STAT_STATE c) = 2 ∧
        t.get (R.CH_STAT_SP c) = 0 ∧
        t.get (R.CH_STAT_RATE c) = r % 2 ^ (R.CH_STAT_RATE c).w ∧
        (List.range 4).all (fun k => !bad.any (fun e => decide (e.1 = c ∧ e.2.val = k)) || (s.strg.setPoint c k).isNone || decide (t.get (I.CH_NA c k) = 1 ∧ t.get (R.CH_EVT_TRAIN_FAIL c) = 1 ∧ Safety.isRaised t (E.memTrainFail c))) = true) ∧
  (∀ (found : List Nat) (bad : List (Fin 8 × Fin 4)) (c : Fin 8) (s : State),
      s.get I.DEV = 0 →
      s.get I.BOOT_STEP = 5 →
      (List.range c).all (fun k => decide (found.getD k 0 = s.strg.capacity k ∧ (s.strg.capacity k = 0 ∨ s.get (I.CH_NA k 0) = 0)) && bad.all (fun e => decide (e.1.val ≠ k ∨ e.2 ≠ 0))) = true →
      found.getD c 0 ≠ s.strg.capacity c ∨ s.strg.capacity c ≠ 0 ∧ (s.strg.setPoint c 0).isSome = true ∧ bad.any (fun e => decide (e.1 = c ∧ e.2 = 0)) = true →
      ∃ t : State, exec (.memTrainDone found bad) s = .next t ∧
        t.get R.LOAD_STAT_CODE = 0x27 ∧
        t.get R.LOAD_STAT_SECT = c ∧
        t.get I.BOOT_STEP = 2 ∧
        t.strg = {} ∧
        t.get R.BOOT_STAT_STATE = (if s.get I.BOOT_COPY = 0 ∧ s.on (I.BOOT_DIR 3) = true then btImgFlash else btWaitImg) ∧
        Safety.isRaised t E.bootImgFail) ∧
  (∀ (found : List Nat) (bad : List (Fin 8 × Fin 4)) (s : State),
      s.get I.DEV ≠ 0 ∨ s.get I.BOOT_STEP ≠ 5 →
      ∃ t : State, exec (.memTrainDone found bad) s = .next t ∧
        t = s) ∧
  (∀ (n : Fin 16) (s : State),
      s.get I.DEV = 0 →
      s.get I.BOOT_STEP = 6 →
      ∃ t : State, exec .bootReady s = .next t ∧
        t.get R.BOOT_STAT_STATE = btReady ∧
        t.get R.PWR_STAT_STATE = pwRun ∧
        t.get R.CLOG_SEQ_NEXT_SEQ = 1 ∧
        t.get R.IMAGE_ID_ID = s.img.hdr.imageId % 2 ^ R.IMAGE_ID_ID.w ∧
        t.get (R.ROD_SRC_ID n) = s.img.hdr.imageId % 2 ^ (R.ROD_SRC_ID n).w ∧
        t.get R.LOAD_STAT_CODE = 0 ∧
        t.get I.BOOT_STEP = 7 ∧
        t.strung = true ∧
        Safety.isRaised t E.bootReady) ∧
  (∀ (s : State),
      s.get I.DEV ≠ 0 ∨ s.get I.BOOT_STEP ≠ 6 →
      ∃ t : State, exec .bootReady s = .next t ∧
        t = s)

/-- Whenever a command of the sensor ports answers a next state, every register field outside the ones listed for it
holds its value and its value in force, and everything the state holds beyond registers, outgoing messages and event
traces is as before but for the parts named: the lanes' commands touch only their port's health, map and lane stages;
packets touch the frame in progress, the pictures, the motion rod, encoders and the recorder it feeds, and memory. No
byte of the Tray changes outside granules that the rods concerned may write. (spec R22, R105, R107, R108, R110, R112,
R113, R116, R117, R119, R120, R433) -/
def Obligations.SensorLinkFrame : Prop :=
  (∀ (port : Fin 2) (lane : Fin 34) (blk : Block66) (s t : State), exec (.tsBlock port lane blk) s = .next t →
      Safety.keeps (Safety.among ([I.SRX_TSCNT port lane, I.SRX_TSVAL port lane, I.SRX_ID port lane, I.SRX_LOG port lane, R.LH_SHDR_CNT port (s.lhIndex port lane), R.LINK_STAT_STATE port, R.LINK_ERR_TRAIN_MM port] ++ Safety.mapFields port ++ Safety.sources [E.linkErr port])) s t ∧
        Safety.beyond t = Safety.beyond s) ∧
  (∀ (port : Fin 2) (lane : Fin 34) (headers : List (BitVec 2)) (s t : State), exec (.blockLock port lane headers) s = .next t →
      Safety.keeps (Safety.among ([I.SRX_BLK port lane, I.SRX_WAKE port lane])) s t ∧
        Safety.beyond t = Safety.beyond s) ∧
  (∀ (port : Fin 2) (lane : Fin 34) (headers : List (BitVec 2)) (s t : State), exec (.blockLockLoss port lane headers) s = .next t →
      Safety.keeps (Safety.among ([I.SRX_BLK port lane, I.SRX_TSCNT port lane, R.LN_STAT_STATE 1 (port * 34 + lane), R.LINK_STAT_STATE port] ++ (List.range 34).flatMap (fun i => [R.LH_SHDR_CNT port i, R.LH_BAD port i, R.LH_REASON port i]) ++ Safety.sources [E.laneBad port])) s t ∧
        Safety.beyond t = Safety.beyond s) ∧
  (∀ (port : Fin 2) (lane : Fin 34) (s t : State), exec (.alignTimeout port lane) s = .next t →
      Safety.keeps (Safety.among ([I.SRX_BLK port lane, I.SRX_TSCNT port lane, R.LN_STAT_STATE 1 (port * 34 + lane), R.LH_ALIGN_FAIL port (s.lhIndex port lane), R.LH_BAD port (s.lhIndex port lane), R.LH_REASON port (s.lhIndex port lane)] ++ Safety.sources [E.laneBad port])) s t ∧
        Safety.beyond t = Safety.beyond s) ∧
  (∀ (port : Fin 2) (skew : BitVec 16) (inPacket : Bool) (marks : List AmLane) (s t : State), exec (.amRow port skew inPacket marks) s = .next t →
      Safety.keeps (Safety.among ([I.SRX_TRAINED port, R.LINK_STAT_AM_SEQ port, R.LINK_STAT_STATE port, R.LINK_ERR_MAP_ERR port, R.LINK_ERR_DESKEW port, R.LINK_ERR_LOST_CNT port] ++ Safety.mapFields port ++ (List.range 34).flatMap (fun i => [I.LANE_FRZREQ 1 (port * 34 + i), I.SRX_BIPF port i, I.SRX_LOG port i, R.LH_BAD port i, R.LH_REASON port i, R.LH_BIP_CNT port i, R.LH_SHDR_CNT port i]) ++ Safety.sources [E.laneBad port, E.linkErr port, E.spareSwap port, E.trained port])) s t ∧
        Safety.beyond t = Safety.beyond s) ∧
  (∀ (port : Fin 2) (row : List LaneBlock) (s t : State), exec (.eidleRow port row) s = .next t →
      Safety.keeps (Safety.among ([R.LINK_STAT_STATE port] ++ (List.range 34).flatMap (fun i => [I.LANE_FRZREQ 1 (port * 34 + i), R.LN_STAT_FROZEN 1 (port * 34 + i), R.LH_SHDR_CNT port i]))) s t ∧
        Safety.beyond t = Safety.beyond s) ∧
  (∀ (port : Fin 2) (pkt : Packet) (s t : State), exec (.fsPacket port pkt) s = .next t →
      Safety.keeps (Safety.inBlocks [1, 7, 8, 9, 10] (Safety.pictureFields)) s t ∧
        Safety.beyond t = { Safety.beyond s with dram := t.dram, strms := t.strms, jobs := t.jobs, trayBad := t.trayBad, dramBad := t.dramBad, recd := t.recd, wrQ := t.wrQ, pics := t.pics, frames := t.frames, tray := t.tray, clogQ := t.clogQ, lnk := t.lnk, canv := t.canv, binds := t.binds, lumas := t.lumas } ∧
        Safety.trayOf [0, 7, 8, 9] s t) ∧
  (∀ (port : Fin 2) (pkt : Packet) (s t : State), exec (.fePacket port pkt) s = .next t →
      Safety.keeps (Safety.inBlocks [1, 7, 8, 9, 10] (Safety.pictureFields)) s t ∧
        Safety.beyond t = { Safety.beyond s with dram := t.dram, strms := t.strms, jobs := t.jobs, trayBad := t.trayBad, dramBad := t.dramBad, recd := t.recd, wrQ := t.wrQ, pics := t.pics, frames := t.frames, tray := t.tray, clogQ := t.clogQ, lnk := t.lnk, canv := t.canv, lumas := t.lumas, binds := t.binds } ∧
        Safety.trayOf [0, 7, 8, 9] s t) ∧
  (∀ (port : Fin 2) (pkt : Packet) (s t : State), exec (.linePacket port pkt) s = .next t →
      Safety.keeps (Safety.inBlocks [1, 7, 8, 9, 10] (Safety.pictureFields)) s t ∧
        Safety.beyond t = { Safety.beyond s with dram := t.dram, strms := t.strms, jobs := t.jobs, trayBad := t.trayBad, dramBad := t.dramBad, recd := t.recd, wrQ := t.wrQ, pics := t.pics, frames := t.frames, tray := t.tray, clogQ := t.clogQ, lnk := t.lnk, canv := t.canv, binds := t.binds, lumas := t.lumas } ∧
        Safety.trayOf [0, 7, 8, 9] s t) ∧
  (∀ (port : Fin 2) (pkt : Packet) (s t : State), exec (.obPacket port pkt) s = .next t →
      Safety.keeps (Safety.inBlocks [1, 7, 8, 9, 10] (Safety.pictureFields)) s t ∧
        Safety.beyond t = { Safety.beyond s with dram := t.dram, strms := t.strms, jobs := t.jobs, trayBad := t.trayBad, dramBad := t.dramBad, recd := t.recd, wrQ := t.wrQ, pics := t.pics, frames := t.frames, tray := t.tray, clogQ := t.clogQ, lnk := t.lnk, canv := t.canv, binds := t.binds, lumas := t.lumas } ∧
        Safety.trayOf [0, 7, 8, 9] s t) ∧
  (∀ (port : Fin 2) (pkt : Packet) (s t : State), exec (.embPacket port pkt) s = .next t →
      Safety.keeps (Safety.among ((List.range 32).map (R.LH_SHDR_CNT port) ++ [R.FRM_STAT_OVERFLOW (sp (s.lport port)), R.FRM_STAT_OVF_CNT (sp (s.lport port)), R.VENDOR_CNT_EMB_DROP port] ++ Safety.packetErrors port ++ Safety.sources [E.frameOverflow (sp (s.lport port))])) s t ∧
        Safety.beyond t = { Safety.beyond s with frames := t.frames }) ∧
  (∀ (port : Fin 2) (pkt : Packet) (s t : State), exec (.vendorPacket port pkt) s = .next t →
      Safety.keeps (Safety.among ((List.range 32).map (R.LH_SHDR_CNT port) ++ [R.VENDOR_CNT_VENDOR port] ++ Safety.packetErrors port)) s t ∧
        Safety.beyond t = Safety.beyond s) ∧
  (∀ (port : Fin 2) (fs : Bool) (s t : State), exec (.pairTimeout port fs) s = .next t →
      Safety.keeps (Safety.either ([R.LINK_ERR_PAIR port] ++ Safety.sources [E.linkErr port]) ([R.LINK_ERR_LOST_CNT 0])) s t ∧
        Safety.beyond t = { Safety.beyond s with frames := t.frames, lnk := t.lnk }) ∧
  (∀ (port : Fin 2) (s t : State), exec (.retrain port) s = .next t →
      Safety.keeps (Safety.among ([I.SRX_TRAINED port, R.LINK_STAT_STATE port] ++ Safety.retireFields ++ Safety.mapFields port ++ (List.range 34).flatMap (fun i => [I.SRX_ID port i, I.SRX_LOG port i, I.SRX_TSCNT port i, R.LN_STAT_STATE 1 (port * 34 + i)]))) s t ∧
        Safety.beyond t = Safety.beyond s) ∧
  (∀ (port : Fin 2) (s t : State), exec (.portEnable port) s = .next t →
      Safety.keeps (Safety.among ([I.FCNT_LAST (s.lport port), I.PORT_FRESH (s.lport port), I.SRX_TRAINED port, R.LINK_CTL_EN port, R.LINK_STAT_STATE port] ++ Safety.retireFields)) s t ∧
        Safety.beyond t = Safety.beyond s) ∧
  (∀ (port : Fin 2) (s t : State), exec (.portDisable port) s = .next t →
      Safety.keeps (Safety.inBlocks [1, 7, 8, 9, 10] (Safety.pictureFields ++ Safety.retireFields)) s t ∧
        Safety.beyond t = { Safety.beyond s with dram := t.dram, strms := t.strms, jobs := t.jobs, trayBad := t.trayBad, dramBad := t.dramBad, recd := t.recd, wrQ := t.wrQ, pics := t.pics, frames := t.frames, tray := t.tray, clogQ := t.clogQ, lnk := t.lnk, canv := t.canv, lumas := t.lumas, binds := t.binds } ∧
        Safety.trayOf [0, 7, 8, 9] s t) ∧
  (∀ (port spare : Fin 2) (logical : Fin 32) (s t : State), exec (.spareMapWrite port spare logical) s = .next t →
      Safety.keeps (Safety.among ([])) s t ∧
        Safety.beyond t = Safety.beyond s) ∧
  (∀ (n : Fin 2) (s t : State), exec (.sckEnable n) s = .next t →
      Safety.keeps (Safety.among ([R.SCK_EN n, I.PIN_SCK n] ++ Safety.retireFields)) s t ∧
        Safety.beyond t = Safety.beyond s) ∧
  (∀ (n : Fin 2) (s t : State), exec (.sckDisable n) s = .next t →
      Safety.keeps (Safety.among ([R.SCK_EN n, I.PIN_SCK n] ++ Safety.retireFields)) s t ∧
        Safety.beyond t = Safety.beyond s) ∧
  (∀ (bus : Fin 2) (req : IbiReq) (s t : State), exec (.ibi bus req) s = .next t →
      Safety.keeps (Safety.among ([R.I3C_IBI_CNT bus])) s t ∧
        Safety.beyond t = Safety.beyond s)

/-- Whenever a command of the exposure controller answers a next state, every register field outside the ones listed
for it holds its value and its value in force, and what the state holds beyond registers, outgoing messages and event
traces is as before but for the parts named: a pulse touches its pins and the line count; an exposure set touches its
queue; the reference touches its own measurement and the two ports' slots; a time-out that ends a frame touches the
frame, the pictures it feeds and memory, and no byte of the Tray outside granules of those rods. (spec R117, R122,
R123, R126, R127, R128, R129, R131, R134, R135, R136, R412) -/
def Obligations.ExposureFrame : Prop :=
  (∀ (port : Fin 2) (s t : State), exec (.frameTimeout port) s = .next t →
      Safety.keeps (Safety.inBlocks [1, 7, 8, 9, 10] (Safety.pictureFields)) s t ∧
        Safety.beyond t = { Safety.beyond s with dram := t.dram, strms := t.strms, jobs := t.jobs, trayBad := t.trayBad, dramBad := t.dramBad, recd := t.recd, wrQ := t.wrQ, pics := t.pics, frames := t.frames, tray := t.tray, clogQ := t.clogQ, lnk := t.lnk, canv := t.canv, lumas := t.lumas, binds := t.binds } ∧
        Safety.trayOf [0, 7, 8, 9] s t) ∧
  (∀ (port : Fin 2) (s t : State), exec (.slotDeadline port) s = .next t →
      Safety.keeps (Safety.inBlocks [1, 7, 8, 9, 10] (Safety.pictureFields)) s t ∧
        Safety.beyond t = { Safety.beyond s with dram := t.dram, strms := t.strms, jobs := t.jobs, trayBad := t.trayBad, dramBad := t.dramBad, recd := t.recd, wrQ := t.wrQ, pics := t.pics, frames := t.frames, tray := t.tray, clogQ := t.clogQ, lnk := t.lnk, canv := t.canv, lumas := t.lumas, binds := t.binds } ∧
        Safety.trayOf [0, 7, 8, 9] s t) ∧
  (∀ (port : Fin 2) (s t : State), exec (.expsyncFramePulse port) s = .next t →
      Safety.keeps (Safety.among ([I.LINE_SENT port, I.PIN_FRAME port, I.PIN_LINE port])) s t ∧
        Safety.beyond t = Safety.beyond s) ∧
  (∀ (port : Fin 2) (s t : State), exec (.expsyncLinePulse port) s = .next t →
      Safety.keeps (Safety.among ([I.LINE_SENT port, I.PIN_LINE port])) s t ∧
        Safety.beyond t = Safety.beyond s) ∧
  (∀ (port : Fin 2) (line : Bool) (s t : State), exec (.expsyncPulseEnd port line) s = .next t →
      Safety.keeps (Safety.among ([I.PIN_FRAME port, I.PIN_LINE port])) s t ∧
        Safety.beyond t = Safety.beyond s) ∧
  (∀ (port : Fin 2) (mode : Fin 4) (s t : State), exec (.exsModeChange port mode) s = .next t →
      Safety.keeps (Safety.among ([I.EXS_PREV port, I.EXS_SLOT port, I.LINE_SENT port, I.PIN_FRAME port, I.PIN_LINE port, I.SYNTH_WAIT port, R.EXS_CTL_MODE port] ++ Safety.retireFields ++ Safety.rangeFields 1)) s t ∧
        Safety.beyond t = Safety.beyond s) ∧
  (∀ (falling : Bool) (pulse : BitVec 32) (s t : State), exec (.refinEdge falling pulse) s = .next t →
      Safety.keeps (Safety.among ([I.REF_CAND, I.REF_EDGE, I.REF_LAST, R.REF_PERIOD_NS, R.REF_STAT_HOLDOVER, R.REF_STAT_HOLD_EV, R.REF_STAT_RATE_EV, R.REF_STAT_REPHASE] ++ (List.range 2).flatMap (fun p => [I.EXS_PREV p, I.EXS_SLOT p]) ++ Safety.sources [E.refHoldover, E.refRate, E.refRephase])) s t ∧
        Safety.beyond t = { Safety.beyond s with lnk := t.lnk }) ∧
  (∀ (s t : State), exec .refinLoss s = .next t →
      Safety.keeps (Safety.among ([I.REF_CAND, R.REF_STAT_HOLDOVER, R.REF_STAT_HOLD_EV] ++ Safety.sources [E.refHoldover])) s t ∧
        Safety.beyond t = { Safety.beyond s with lnk := t.lnk }) ∧
  (∀ (port : Fin 2) (slot : Fin 8) (s t : State), exec (.exqPost port slot) s = .next t →
      Safety.keeps (Safety.among ([I.EXQ_NEW (s.lport port), R.EXQ_POST_SLOT port, R.EXQ_STAT_BAD_DESC port, R.EXQ_STAT_PENDING port, R.EXQ_STAT_SLIPPED port, R.EXQ_STAT_SLIP_CNT port, R.EXQ_STAT_UNSURE port] ++ Safety.retireFields ++ Safety.trayFields ++ Safety.sources [E.setBad port, E.setSlipped port, E.setUnsure port])) s t ∧
        Safety.beyond t = { Safety.beyond s with lnk := t.lnk }) ∧
  (∀ (port : Fin 2) (ack : Bool) (s t : State), exec (.exqBusDone port ack) s = .next t →
      Safety.keeps (Safety.among ([I.EXQ_NEW (s.lport port), R.EXQ_STAT_SLIPPED (sp (s.lport port)), R.EXQ_STAT_SLIP_CNT (sp (s.lport port)), R.EXQ_STAT_UNSURE (sp (s.lport port))] ++ Safety.sources [E.setSlipped (sp (s.lport port)), E.setUnsure (sp (s.lport port))])) s t ∧
        Safety.beyond t = { Safety.beyond s with lnk := t.lnk }) ∧
  (∀ (port : Fin 2) (s t : State), exec (.exqWindowClose port) s = .next t →
      Safety.keeps (Safety.among ([I.EXQ_OPEN (s.lport port), R.EXQ_STAT_SLIPPED (sp (s.lport port)), R.EXQ_STAT_SLIP_CNT (sp (s.lport port)), R.EXQ_STAT_UNSURE (sp (s.lport port))] ++ Safety.sources [E.setSlipped (sp (s.lport port)), E.setUnsure (sp (s.lport port))])) s t ∧
        Safety.beyond t = { Safety.beyond s with lnk := t.lnk })

/-- Whenever a command of an image rod's job, of the dual-gain ratio, of the motion rod or of a LUT slot answers a
next state, every register field outside the ones listed for it holds its value and its value in force, what the state
holds beyond registers, outgoing messages and event traces is as before but for the parts named, no byte of the Tray
changes outside granules that the rods concerned may write, and a job's end writes DRAM only in the picture ring's
region. The commit that a job's start may make touches the sets of its own rod alone. (spec R22, R145, R148, R150,
R155, R156, R157, R160, R161, R167, R185, R186) -/
def Obligations.ImageFrame : Prop :=
  (∀ (n : Fin 5) (refPoison : Bool) (s t : State), exec (.imgJobStart n refPoison) s = .next t →
      Safety.keepsBut (Safety.among ([I.AT_NEXT n, I.IMG_LAST n, R.BLK_STAT_CNT_LOW n, R.BLK_STAT_NO_OB n, R.DPC_STAT_MAP_ERR n, R.DPC_STAT_MAP_ORDER n, R.LSC_CFG_GRID_ERR n, R.LUT_STAT_FELL_BACK n, R.STRIPE_FIRST n, R.STRIPE_IDX n, R.STRIPE_WIDTH n, R.TNR_STAT_MISS_CNT n, R.TNR_STAT_REF_CNT n, R.TNR_STAT_REF_RESET n, R.TNR_STAT_VEC_MISS n, R.EXQ_STAT_BIND_FAIL 0, R.EXQ_STAT_BIND_FAIL 1] ++ Safety.trayFields ++ Safety.recordFields (2 + n) ++ Safety.commitFields (2 + n) ++ (List.range 12).flatMap (fun i => [I.BLK_B n i, I.BLK_WR n i]) ++ Safety.sources [E.bindFail 0, E.bindFail 1, E.blkNoOb n, E.dpcMapErr n, E.lscGridErr n, E.lutFallback n, E.tnrRefReset n, E.tnrVecMiss n])) [2 + n] s t ∧
        Safety.beyond t = { Safety.beyond s with jobs := t.jobs, grids := t.grids, clogQ := t.clogQ, freeCtr := t.freeCtr, binds := t.binds, imgs := t.imgs }) ∧
  (∀ (n : Fin 5) (refPoison : Bool) (s t : State), exec (.vecWaitTimeout n refPoison) s = .next t →
      Safety.keepsBut (Safety.among ([I.AT_NEXT n, I.IMG_LAST n, R.BLK_STAT_CNT_LOW n, R.BLK_STAT_NO_OB n, R.DPC_STAT_MAP_ERR n, R.DPC_STAT_MAP_ORDER n, R.LSC_CFG_GRID_ERR n, R.LUT_STAT_FELL_BACK n, R.STRIPE_FIRST n, R.STRIPE_IDX n, R.STRIPE_WIDTH n, R.TNR_STAT_MISS_CNT n, R.TNR_STAT_REF_CNT n, R.TNR_STAT_REF_RESET n, R.TNR_STAT_VEC_MISS n, R.EXQ_STAT_BIND_FAIL 0, R.EXQ_STAT_BIND_FAIL 1] ++ Safety.trayFields ++ Safety.recordFields (2 + n) ++ Safety.commitFields (2 + n) ++ (List.range 12).flatMap (fun i => [I.BLK_B n i, I.BLK_WR n i]) ++ Safety.sources [E.bindFail 0, E.bindFail 1, E.blkNoOb n, E.dpcMapErr n, E.lscGridErr n, E.lutFallback n, E.tnrRefReset n, E.tnrVecMiss n])) [2 + n] s t ∧
        Safety.beyond t = { Safety.beyond s with jobs := t.jobs, grids := t.grids, clogQ := t.clogQ, freeCtr := t.freeCtr, binds := t.binds, imgs := t.imgs }) ∧
  (∀ (n : Fin 5) (upset : List (BitVec 23)) (s t : State), exec (.imgJobEnd n upset) s = .next t →
      Safety.keepsBut (Safety.either ([R.BLK_STAT_CNT_LOW n, R.BLK_STAT_NO_OB n, R.DPC_STAT_DYN_CNT n, R.DPC_STAT_UNFIX n, R.LUT_STAT_POISON n, R.LUT_STAT_POISON_CNT n] ++ Safety.trayFields ++ Safety.recordFields (2 + n) ++ Safety.recordFields 8 ++ Safety.recordFields 9 ++ Safety.commitFields 8 ++ Safety.commitFields 9 ++ (List.range 12).map (I.BLK_B n) ++ (List.range 4).flatMap (fun k => [R.DCG_SUM_S n k, I.STRIPE_BUF k, I.STRIPE_TAG k]) ++ Safety.encSources ++ Safety.sources [E.blkNoOb n, E.dcgSum n, E.lutPoison n, E.stsDone n]) (Safety.encFields)) [8, 9] s t ∧
        Safety.beyond t = { Safety.beyond s with dram := t.dram, strms := t.strms, jobs := t.jobs, trayBad := t.trayBad, dramBad := t.dramBad, wrQ := t.wrQ, tray := t.tray, clogQ := t.clogQ, freeCtr := t.freeCtr, refs := t.refs, canv := t.canv, imgs := t.imgs } ∧
        Safety.trayOf [2 + n, 8, 9] s t ∧
        Safety.dramOf [s.get R.PIC_RING_REGION] s t) ∧
  (∀ (tag : BitVec 32) (s t : State), exec (.dcgRatioUpdate tag) s = .next t →
      Safety.keeps (Safety.among ((List.range 5).flatMap (fun r => [R.COMMIT_PEND (2 + r), I.AT_NEXT r, R.COMMIT_AT_TAG r, R.DCG_RATIO_G r, R.IMG_STAT_AT_MISSED r] ++ Safety.sources [E.atMissed r]))) s t ∧
        Safety.beyond t = Safety.beyond s) ∧
  (∀ (s t : State), exec .motSetComplete s = .next t →
      Safety.keepsBut (Safety.either ([R.VST_LAST_TAG] ++ Safety.trayFields ++ Safety.recordFields 7 ++ Safety.recordFields 8 ++ Safety.recordFields 9 ++ Safety.commitFields 8 ++ Safety.commitFields 9 ++ Safety.encSources) (Safety.encFields)) [8, 9] s t ∧
        Safety.beyond t = { Safety.beyond s with strms := t.strms, jobs := t.jobs, trayBad := t.trayBad, tray := t.tray, clogQ := t.clogQ, canv := t.canv } ∧
        Safety.trayOf [7, 8, 9] s t) ∧
  (∀ (k : Fin 4) (s t : State), exec (.substCopyDone k) s = .next t →
      Safety.keeps (Safety.inBlocks [2 + k.val, 6] ([I.IMG_LAST 4, I.STRIPE_MOVED k, I.STRIPE_OUT k, R.SUBST_STAT_ACTIVE])) s t ∧
        Safety.beyond t = Safety.beyond s) ∧
  (∀ (s t : State), exec .substReturn s = .next t →
      Safety.keeps (Safety.inBlocks [2 + s.get R.SUBST_STAT_STRIPE] ([I.STRIPE_MOVED (s.get R.SUBST_STAT_STRIPE), R.SUBST_STAT_ACTIVE] ++ Safety.retireFields ++ Safety.sources [E.substReturn])) s t ∧
        Safety.beyond t = Safety.beyond s) ∧
  (∀ (m : Fin 4) (s t : State), exec (.lutInval m) s = .next t →
      Safety.keeps (Safety.among ([R.SLOT_STAT_STATE m] ++ Safety.retireFields ++ Safety.rangeFields 0)) s t ∧
        Safety.beyond t = Safety.beyond s) ∧
  (∀ (m : Fin 4) (s t : State), exec (.lutCheck m) s = .next t →
      Safety.keeps (Safety.among ([R.SLOT_STAT_STATE m] ++ Safety.retireFields)) s t ∧
        Safety.beyond t = Safety.beyond s) ∧
  (∀ (m : Fin 4) (s t : State), exec (.lutCheckDone m) s = .next t →
      Safety.keeps (Safety.among ([R.SLOT_STAT_BAD_EV m, R.SLOT_STAT_STATE m] ++ Safety.trayFields ++ Safety.sources [E.lutBad, E.lutReady])) s t ∧
        Safety.beyond t = Safety.beyond s) ∧
  (∀ (s t : State), exec .lutRecheck s = .next t →
      Safety.keeps (Safety.among ([I.LUT_PTR] ++ Safety.trayFields ++ (List.range 4).flatMap (fun m => [R.SLOT_STAT_BAD_EV m, R.SLOT_STAT_STATE m]) ++ Safety.sources [E.lutBad])) s t ∧
        Safety.beyond t = Safety.beyond s) ∧
  (∀ (n : Fin 5) (s t : State), exec (.jobWatchdog n) s = .next t →
      Safety.unpatched s →
      Safety.keeps (Safety.inBlocks [2 + n, 8, 9, 16, 18] (Safety.substFields ++ Safety.calFields)) s t ∧
        Safety.beyond t = { Safety.beyond s with imgs := t.imgs, grids := t.grids, jobs := t.jobs, trims := t.trims, cal := t.cal, binds := t.binds, flits := t.flits, quarantine := t.quarantine, txns := t.txns, clogQ := t.clogQ, frames := t.frames, tray := t.tray, trayBad := t.trayBad, strms := t.strms, canv := t.canv } ∧
        Safety.trayOf [0, 8, 9] s t) ∧
  (∀ (n : Fin 5) (s t : State), exec (.lbParity n) s = .next t →
      Safety.unpatched s →
      Safety.keeps (Safety.inBlocks [2 + n, 8, 9, 16, 18] (Safety.substFields ++ Safety.calFields)) s t ∧
        Safety.beyond t = { Safety.beyond s with imgs := t.imgs, grids := t.grids, jobs := t.jobs, trims := t.trims, cal := t.cal, binds := t.binds, flits := t.flits, quarantine := t.quarantine, txns := t.txns, clogQ := t.clogQ, frames := t.frames, tray := t.tray, trayBad := t.trayBad, strms := t.strms, canv := t.canv } ∧
        Safety.trayOf [0, 8, 9] s t) ∧
  (∀ (rod : BitVec 4) (s t : State), exec (.substTest rod) s = .next t →
      Safety.unpatched s →
      Safety.keeps (Safety.inBlocks [rod.toNat, 8, 9, 16, 18] (Safety.substFields ++ Safety.calFields ++ Safety.retireFields ++ Safety.rangeFields 0)) s t ∧
        Safety.beyond t = { Safety.beyond s with imgs := t.imgs, grids := t.grids, jobs := t.jobs, trims := t.trims, cal := t.cal, binds := t.binds, flits := t.flits, quarantine := t.quarantine, txns := t.txns, clogQ := t.clogQ, frames := t.frames, tray := t.tray, trayBad := t.trayBad, strms := t.strms, canv := t.canv } ∧
        Safety.trayOf [0, 8, 9] s t)

/-- Whenever one of these commands answers a next state: a reset of the device leaves the keep store, the waiting
commands and, but for a burn that it cuts, the fuses, and every register that its kind keeps; a power-up step leaves
everything but its own fields; the reset, hold or fault of one rod, with no patch in progress, leaves the registers of
every block but those of the rod, of the controllers and of what follows from it, and everything else the state holds
but the parts named. (spec R482, R483, R484, R485, R486, R487, R489, R491, R492, R517, R520, R521) -/
def Obligations.ResetFrame : Prop :=
  (∀ (s t : State), exec .powerOn s = .next t →
      Safety.survives .full [R.POWER_ON_COUNT] s t ∧
        t.keep = s.keep ∧
        t.pending = s.pending ∧
        Safety.fusesButCut s t) ∧
  (∀ (s t : State), exec .vddAonLoss s = .next t →
      Safety.survives .full [R.POWER_ON_COUNT] s t ∧
        t.keep = s.keep ∧
        t.pending = s.pending ∧
        Safety.fusesButCut s t) ∧
  (∀ (s t : State), exec .resetN s = .next t →
      Safety.survives .full [R.POWER_ON_COUNT] s t ∧
        t.keep = s.keep ∧
        t.pending = s.pending ∧
        Safety.fusesButCut s t) ∧
  (∀ (s t : State), exec .corePgLoss s = .next t →
      Safety.survives .core [R.RST_CAUSE_LAST, I.DEV, I.CORE_EN, I.DEBUG] s t ∧
        t.keep = s.keep ∧
        t.pending = s.pending ∧
        Safety.fusesButCut s t) ∧
  (∀ (s t : State), exec .corePgRetry s = .next t →
      Safety.survives .full [R.POWER_ON_COUNT] s t ∧
        t.keep = s.keep ∧
        t.pending = s.pending ∧
        Safety.fusesButCut s t) ∧
  (∀ (s t : State), exec .wakeN s = .next t →
      Safety.survives .core ([R.POWER_ON_COUNT, R.RST_CAUSE_LAST, I.DEV, I.CORE_EN, I.CORE_TRY, I.PIN_HELD, I.DEBUG] ++ Safety.voterFields) s t ∧
        t.keep = s.keep ∧
        t.pending = s.pending ∧
        Safety.fusesButCut s t) ∧
  (∀ (s t : State), exec .rstDevWarm s = .next t →
      Safety.survives .warm ([R.RST_CAUSE_LAST, R.RST_CAUSE_WARM_CNT, I.DEV, I.BOOT_EV, I.PIN_FAULT, I.PIN_THERM, I.DEBUG] ++ Safety.voterFields ++ Safety.retireFields) s t ∧
        t.keep = s.keep ∧
        t.pending = s.pending ∧
        Safety.fusesButCut s t) ∧
  (∀ (s t : State), exec .thermalRestart s = .next t →
      Safety.survives .core ([R.POWER_ON_COUNT, R.RST_CAUSE_LAST, R.RST_CAUSE_WARM_CNT, I.DEV, I.CORE_EN, I.CORE_TRY, I.PIN_HELD, I.BOOT_EV, I.PIN_FAULT, I.PIN_THERM, I.DEBUG] ++ Safety.voterFields) s t ∧
        t.keep = s.keep ∧
        t.pending = s.pending ∧
        Safety.fusesButCut s t) ∧
  (∀ (s t : State), exec .corePgRise s = .next t →
      Safety.keeps (Safety.among ([I.DEV])) s t ∧
        Safety.beyond t = Safety.beyond s) ∧
  (∀ (s t : State), exec .corePgTimeout s = .next t →
      Safety.keeps (Safety.among ([I.CORE_EN, I.CORE_TRY, I.DEV])) s t ∧
        Safety.beyond t = Safety.beyond s) ∧
  (∀ (s t : State), exec .coreResetRelease s = .next t →
      Safety.keeps (Safety.among ([I.DEV])) s t ∧
        Safety.beyond t = Safety.beyond s) ∧
  (∀ (s t : State), exec .aonLeavesReset s = .next t →
      Safety.keeps (Safety.among ([I.CORE_EN, I.CORE_TRY, I.DEV])) s t ∧
        Safety.beyond t = Safety.beyond s) ∧
  (∀ (s t : State), exec .coreEnRetry s = .next t →
      Safety.keeps (Safety.among ([I.CORE_EN, I.DEV])) s t ∧
        Safety.beyond t = Safety.beyond s) ∧
  (∀ (rod : Fin 16) (s t : State), exec (.rodHoldClear rod) s = .next t →
      Safety.keeps (Safety.among ([I.HOLD_PEND rod, I.RSTST rod, R.ROD_HOLD_HOLD] ++ Safety.retireFields)) s t ∧
        Safety.beyond t = Safety.beyond s) ∧
  (∀ (rod : Fin 16) (s t : State), exec (.rodResetRelease rod) s = .next t →
      Safety.keeps (Safety.among ([I.HOLD_AUTO rod, I.RSTST rod])) s t ∧
        Safety.beyond t = Safety.beyond s) ∧
  (∀ (rod : Fin 16) (s t : State), exec (.rodReady rod) s = .next t →
      Safety.keeps (Safety.inBlocks [rod.val, 8, 9, 13, 16, 18] (Safety.substFields ++ Safety.recordFields rod)) s t ∧
        Safety.beyond t = { Safety.beyond s with strms := t.strms, decJobs := t.decJobs, dmas := t.dmas, jobs := t.jobs, trayBad := t.trayBad, hdrs := t.hdrs, lays := t.lays, uanc := t.uanc, tray := t.tray, unders := t.unders, clogQ := t.clogQ, freeCtr := t.freeCtr, canv := t.canv, flits := t.flits } ∧
        Safety.trayOf [rod.val, 8, 9] s t) ∧
  (∀ (rod : Fin 16) (s t : State), exec (.rodHoldSet rod) s = .next t →
      Safety.unpatched s →
      Safety.keeps (Safety.inBlocks [rod.val, 1, 8, 9, 16, 18] (Safety.substFields ++ Safety.calFields ++ Safety.retireFields ++ Safety.rangeFields 16 ++ Safety.recordFields rod)) s t ∧
        Safety.beyond t = { Safety.beyond s with decs := t.decs, dram := t.dram, strms := t.strms, rxs := t.rxs, quarantine := t.quarantine, decJobs := t.decJobs, dmas := t.dmas, jobs := t.jobs, trayBad := t.trayBad, hdrs := t.hdrs, lays := t.lays, trims := t.trims, dramBad := t.dramBad, grids := t.grids, auds := t.auds, recd := t.recd, uanc := t.uanc, wrQ := t.wrQ, cal := t.cal, frames := t.frames, tray := t.tray, unders := t.unders, clogQ := t.clogQ, freeCtr := t.freeCtr, lnk := t.lnk, txns := t.txns, canv := t.canv, flows := t.flows, dfls := t.dfls, tsq := t.tsq, binds := t.binds, imgs := t.imgs, flits := t.flits, lumas := t.lumas } ∧
        Safety.trayOf [8, 9, 15] s t) ∧
  (∀ (rod : Fin 16) (s t : State), exec (.regParity rod) s = .next t →
      Safety.unpatched s →
      Safety.keeps (Safety.inBlocks [rod.val, 1, 8, 9, 16, 18] (Safety.substFields ++ Safety.calFields ++ Safety.recordFields rod)) s t ∧
        Safety.beyond t = { Safety.beyond s with decs := t.decs, dram := t.dram, strms := t.strms, rxs := t.rxs, quarantine := t.quarantine, decJobs := t.decJobs, dmas := t.dmas, jobs := t.jobs, trayBad := t.trayBad, hdrs := t.hdrs, lays := t.lays, trims := t.trims, dramBad := t.dramBad, grids := t.grids, auds := t.auds, recd := t.recd, uanc := t.uanc, wrQ := t.wrQ, cal := t.cal, frames := t.frames, tray := t.tray, unders := t.unders, clogQ := t.clogQ, freeCtr := t.freeCtr, lnk := t.lnk, txns := t.txns, canv := t.canv, flows := t.flows, dfls := t.dfls, tsq := t.tsq, binds := t.binds, imgs := t.imgs, flits := t.flits, autoTimes := t.autoTimes, lumas := t.lumas } ∧
        Safety.trayOf [0, 8, 9, 15] s t) ∧
  (∀ (silent : BitVec 16) (s t : State), exec (.rodProbe silent) s = .next t →
      Safety.unpatched s →
      Safety.keeps (Safety.inBlocks [1, 2, 3, 4, 5, 6, 7, 8, 9, 10, 11, 12, 13, 15, 16, 18] (Safety.substFields ++ Safety.calFields)) s t ∧
        Safety.beyond t = { Safety.beyond s with decs := t.decs, dram := t.dram, strms := t.strms, rxs := t.rxs, quarantine := t.quarantine, decJobs := t.decJobs, dmas := t.dmas, jobs := t.jobs, trayBad := t.trayBad, hdrs := t.hdrs, lays := t.lays, trims := t.trims, dramBad := t.dramBad, grids := t.grids, auds := t.auds, recd := t.recd, uanc := t.uanc, wrQ := t.wrQ, cal := t.cal, frames := t.frames, tray := t.tray, unders := t.unders, clogQ := t.clogQ, freeCtr := t.freeCtr, lnk := t.lnk, txns := t.txns, canv := t.canv, flows := t.flows, dfls := t.dfls, tsq := t.tsq, binds := t.binds, imgs := t.imgs, flits := t.flits, autoTimes := t.autoTimes, lumas := t.lumas } ∧
        Safety.trayOf [0, 8, 9, 15] s t) ∧
  (∀ (port : Fin 28) (txn : BitVec 10) (s t : State), exec (.timeout port txn) s = .next t →
      Safety.unpatched s →
      Safety.keeps (Safety.inBlocks [1, 2, 3, 4, 5, 6, 7, 8, 9, 10, 11, 12, 13, 14, 15, 16, 18] (Safety.substFields ++ Safety.calFields)) s t ∧
        Safety.beyond t = { Safety.beyond s with decs := t.decs, dram := t.dram, strms := t.strms, rxs := t.rxs, quarantine := t.quarantine, decJobs := t.decJobs, dmas := t.dmas, jobs := t.jobs, trayBad := t.trayBad, hdrs := t.hdrs, lays := t.lays, trims := t.trims, dramBad := t.dramBad, grids := t.grids, auds := t.auds, recd := t.recd, uanc := t.uanc, wrQ := t.wrQ, cal := t.cal, frames := t.frames, tray := t.tray, unders := t.unders, clogQ := t.clogQ, freeCtr := t.freeCtr, lnk := t.lnk, txns := t.txns, canv := t.canv, flows := t.flows, dfls := t.dfls, tsq := t.tsq, binds := t.binds, imgs := t.imgs, flits := t.flits, autoTimes := t.autoTimes, rdQ := t.rdQ, rows := t.rows, rdParts := t.rdParts, lumas := t.lumas } ∧
        Safety.trayOf [0, 8, 9, 15] s t) ∧
  (∀ (s t : State), exec .xoLoss s = .next t →
      Safety.keeps (Safety.among ([R.CLK_STAT_XO_EV, R.CLK_STAT_XO_LOST] ++ Safety.sources [E.xoLoss])) s t ∧
        Safety.beyond t = Safety.beyond s) ∧
  (∀ (s t : State), exec .pcieRefLoss s = .next t →
      Safety.keepsBut (Safety.kindred ([I.HEP_LINK, I.HEP_MSIX, I.REC_CODE, I.REC_FAIL, R.BAR4_GRAN, R.CLK_STAT_PCIE_EV, R.CLK_STAT_PCIE_LOST, R.REC_STAT_BUSY, R.REC_STAT_RESULT, R.REC_STAT_STATE, I.AGENT_EPOCH 0, I.MSIX_TAB 0 0, R.MB_CTRL_LEN 0, R.MB_DATA_D 0 0, R.MB_STAT_RX_RESET_SEEN 0, R.NVQ_STAT_FAULT_EV 0, R.NVQ_STAT_STATE 0] ++ Safety.retireFields ++ Safety.recordFields 10 ++ Safety.commitFields 10 ++ [0, 10].flatMap (fun r => [R.LN_EVT_FAULT_EV r 0, R.LN_STAT_FAULT r 0, R.LN_STAT_STATE r 0]) ++ Safety.sources [E.mbRxReset, E.pcieRefLoss, E.recCmdDone])) [10] s t ∧
        Safety.beyond t = { Safety.beyond s with jobs := t.jobs, recd := t.recd, clogQ := t.clogQ }) ∧
  (∀ (s t : State), exec .ethRefLoss s = .next t →
      Safety.keeps (Safety.kindred ([I.PTP_IN, I.PTP_OUTB, R.CLK_STAT_ETH_EV, R.CLK_STAT_ETH_LOST, R.PTP_STAT_HOLD_EV, R.PTP_STAT_STATE, R.LN_EVT_FAULT_EV 12 0, R.LN_STAT_FAULT 12 0, R.LN_STAT_STATE 12 0, R.MAC_EVT_DOWN_CNT 0, R.MAC_EVT_LINK_EV 0, R.MAC_STAT_AN_DONE 0, R.MAC_STAT_FEC_LOCK 0, R.MAC_STAT_LINK 0] ++ Safety.sources [E.ethRefLoss, E.ptpState, E.ethLink 0])) s t ∧
        Safety.beyond t = Safety.beyond s) ∧
  (∀ (which : Fin 3) (s t : State), exec (.refBack which) s = .next t →
      Safety.keeps (Safety.kindred ([R.CLK_STAT_ETH_LOST, R.CLK_STAT_PCIE_LOST, R.CLK_STAT_XO_LOST] ++ [0, 10, 12].flatMap (fun r => [I.LANE_SLOW r 0, I.LANE_LOCKF r 0, I.LANE_OUTWIN r 0, I.LANE_GO_T r 0, R.LN_STAT_FAULT r 0, R.LN_STAT_LOL r 0, R.LN_STAT_RETRY r 0, R.LN_STAT_STATE r 0]) ++ Safety.sources [E.refBack])) s t ∧
        Safety.beyond t = Safety.beyond s)

/-- Whenever a command of the recorder, of its coders or of its drives answers a next state, every register field
outside the ones listed for it holds its value and its value in force, and what the state holds beyond registers,
outgoing messages and event traces is as before but for the recorder's own store, its jobs and the waiting carry-log
records. Only a command that may end the running recorder command can bring the recorder's staged sets into force. No
byte of the Tray, of DRAM or of the keep store changes. (spec R223, R224, R225, R226, R227, R230, R412, R433, R507) -/
def Obligations.RecorderFrame : Prop :=
  (∀ (s t : State), exec .recFormat s = .next t →
      Safety.keeps (Safety.among ([I.REC_CODE, I.REC_FAIL, R.REC_STAT_BUSY, R.REC_STAT_RESULT, R.REC_CMD_CODE] ++ Safety.retireFields)) s t ∧
        Safety.beyond t = { Safety.beyond s with recd := t.recd }) ∧
  (∀ (s t : State), exec .recMount s = .next t →
      Safety.keeps (Safety.among ([I.REC_CODE, I.REC_FAIL, R.REC_STAT_BUSY, R.REC_STAT_RESULT, R.REC_CMD_CODE] ++ Safety.retireFields)) s t ∧
        Safety.beyond t = { Safety.beyond s with recd := t.recd }) ∧
  (∀ (s t : State), exec .recRecord s = .next t →
      Safety.keeps (Safety.among ([I.REC_CODE, I.REC_FAIL, R.REC_STAT_BUSY, R.REC_STAT_RESULT, R.REC_CMD_CODE, R.REC_STAT_TAKE] ++ Safety.retireFields)) s t ∧
        Safety.beyond t = { Safety.beyond s with recd := t.recd }) ∧
  (∀ (s t : State), exec .recStop s = .next t →
      Safety.keeps (Safety.among ([I.REC_CODE, I.REC_FAIL, R.REC_STAT_BUSY, R.REC_STAT_RESULT, R.REC_CMD_CODE, R.REC_FLUSHED_TAG, R.REC_LAST_TAG] ++ Safety.retireFields ++ Safety.recordFields 10)) s t ∧
        Safety.beyond t = { Safety.beyond s with jobs := t.jobs, recd := t.recd, clogQ := t.clogQ }) ∧
  (∀ (s t : State), exec .recUnmount s = .next t →
      Safety.keeps (Safety.among ([I.REC_CODE, I.REC_FAIL, R.REC_STAT_BUSY, R.REC_STAT_RESULT, R.REC_CMD_CODE] ++ Safety.retireFields)) s t ∧
        Safety.beyond t = { Safety.beyond s with recd := t.recd }) ∧
  (∀ (s t : State), exec .recCmdDone s = .next t →
      Safety.keepsBut (Safety.among ([I.REC_CODE, I.REC_FAIL, R.REC_STAT_BUSY, R.REC_STAT_RESULT, R.REC_STAT_STATE] ++ Safety.recordFields 10 ++ Safety.commitFields 10 ++ Safety.sources [E.recCmdDone])) [10] s t ∧
        Safety.beyond t = { Safety.beyond s with jobs := t.jobs, recd := t.recd, clogQ := t.clogQ, freeCtr := t.freeCtr }) ∧
  (∀ (coder : Fin 4) (catchUp : Bool) (s t : State), exec (.rscStripeEnd coder catchUp) s = .next t →
      Safety.keeps (Safety.among ([R.REC_FLUSHED_TAG, R.REC_LAST_TAG, R.RSC_BYTES_LEN coder, R.RSC_STAT_EXH coder, R.RSC_STAT_E_END coder, R.RSC_STAT_ZR_ROWS coder] ++ Safety.recordFields 10 ++ Safety.sources [E.rscBudget coder])) s t ∧
        Safety.beyond t = { Safety.beyond s with jobs := t.jobs, recd := t.recd, clogQ := t.clogQ }) ∧
  (∀ (id : Nat) (ok : Bool) (data : List Byte) (s t : State), exec (.nvmeCompletion id ok data) s = .next t →
      Safety.keepsBut (Safety.either ([I.REC_CODE, I.REC_FAIL, R.REC_STAT_BUSY, R.REC_STAT_RESULT, R.REC_STAT_STATE, R.REC_FLUSHED_TAG, R.REC_LAST_TAG] ++ Safety.recordFields 10 ++ Safety.commitFields 10 ++ Safety.sources [E.recCmdDone, E.nvqFault 0, E.nvqFault 1, E.nvqFault 2, E.nvqFault 3]) ([R.NVQ_STAT_FAULT_EV 0, R.NVQ_STAT_RETRY_CNT 0, R.NVQ_STAT_STATE 0])) [10] s t ∧
        Safety.beyond t = { Safety.beyond s with jobs := t.jobs, recd := t.recd, clogQ := t.clogQ, freeCtr := t.freeCtr }) ∧
  (∀ (id : Nat) (s t : State), exec (.nvmeCmdTimeout id) s = .next t →
      Safety.keepsBut (Safety.either ([I.REC_CODE, I.REC_FAIL, R.REC_STAT_BUSY, R.REC_STAT_RESULT, R.REC_STAT_STATE] ++ Safety.recordFields 10 ++ Safety.commitFields 10 ++ Safety.sources [E.recCmdDone, E.nvqFault 0, E.nvqFault 1, E.nvqFault 2, E.nvqFault 3, E.nvqTimeout 0, E.nvqTimeout 1, E.nvqTimeout 2, E.nvqTimeout 3]) ([R.NVQ_STAT_FAULT_EV 0, R.NVQ_STAT_STATE 0, R.NVQ_STAT_TIMEOUT_EV 0, R.NVQ_STAT_TO_CNT 0])) [10] s t ∧
        Safety.beyond t = { Safety.beyond s with jobs := t.jobs, recd := t.recd, clogQ := t.clogQ }) ∧
  (∀ (d : Fin 4) (s t : State), exec (.nvqEnable d) s = .next t →
      Safety.keeps (Safety.among ([R.NVQ_CFG_EN d, R.NVQ_STAT_STATE d] ++ Safety.retireFields)) s t ∧
        Safety.beyond t = Safety.beyond s) ∧
  (∀ (d : Fin 4) (mdts : Fin 256) (s t : State), exec (.nvqReady d mdts) s = .next t →
      Safety.keepsBut (Safety.among ([I.NVQ_MDTS d, I.REC_CODE, I.REC_FAIL, R.REC_STAT_BUSY, R.REC_STAT_RESULT, R.REC_STAT_STATE, R.NVQ_STAT_FAULT_EV d, R.NVQ_STAT_RETRY_CNT d, R.NVQ_STAT_STATE d] ++ Safety.recordFields 10 ++ Safety.commitFields 10 ++ Safety.sources [E.recCmdDone, E.nvqFault d, E.nvqReady d])) [10] s t ∧
        Safety.beyond t = { Safety.beyond s with jobs := t.jobs, recd := t.recd, clogQ := t.clogQ }) ∧
  (∀ (d : Fin 4) (s t : State), exec (.nvqReadyTimeout d) s = .next t →
      Safety.keepsBut (Safety.among ([I.REC_CODE, I.REC_FAIL, R.REC_STAT_BUSY, R.REC_STAT_RESULT, R.REC_STAT_STATE, R.NVQ_STAT_FAULT_EV d, R.NVQ_STAT_STATE d] ++ Safety.recordFields 10 ++ Safety.commitFields 10 ++ Safety.sources [E.recCmdDone, E.nvqFault d])) [10] s t ∧
        Safety.beyond t = { Safety.beyond s with jobs := t.jobs, recd := t.recd, clogQ := t.clogQ }) ∧
  (∀ (rp : Fin 4) (s t : State), exec (.rpLinkDown rp) s = .next t →
      Safety.keepsBut (Safety.among ([I.REC_CODE, I.REC_FAIL, R.REC_STAT_BUSY, R.REC_STAT_RESULT, R.REC_STAT_STATE, R.NVQ_STAT_FAULT_EV rp, R.NVQ_STAT_STATE rp] ++ Safety.recordFields 10 ++ Safety.commitFields 10 ++ Safety.sources [E.recCmdDone, E.nvqFault rp])) [10] s t ∧
        Safety.beyond t = { Safety.beyond s with jobs := t.jobs, recd := t.recd, clogQ := t.clogQ }) ∧
  (∀ (sp : Fin 3) (s t : State), exec (.prerollCatchStart sp) s = .next t →
      Safety.keeps (Safety.among (Safety.recordFields 10)) s t ∧
        Safety.beyond t = { Safety.beyond s with jobs := t.jobs, recd := t.recd, clogQ := t.clogQ })

/-- Whenever a command of the stream scheduler, of an encoder or of a decoder answers a next state, every register
field outside the ones listed for it holds its value and its value in force, and what the state holds beyond
registers, outgoing messages and event traces is as before but for the parts named. A stop that ends a sequence also
writes the stream's output. Encoders write the Tray only in granules granted to the coding rods, a decoder only in
granules granted to its own; a decoder's picture is written only in the region of its buffers. (spec R22, R237, R239,
R240, R244, R255, R258, R262, R267, R271, R272, R273) -/
def Obligations.CodecFrame : Prop :=
  (∀ (cod : Fin 2) (stream : BitVec 12) (s t : State), exec (.schedCommit cod stream) s = .next t →
      Safety.keepsBut (Safety.either (Safety.retireFields ++ Safety.rangeFields (8 + cod) ++ Safety.trayFields ++ Safety.recordFields 8 ++ Safety.recordFields 9 ++ Safety.commitFields 8 ++ Safety.commitFields 9 ++ Safety.encSources) (Safety.encFields)) [8, 9] s t ∧
        Safety.beyond t = { Safety.beyond s with strms := t.strms, jobs := t.jobs, trayBad := t.trayBad, tray := t.tray, clogQ := t.clogQ, canv := t.canv } ∧
        Safety.trayOf [8, 9] s t) ∧
  (∀ (cod : Fin 2) (stream : BitVec 12) (s t : State), exec (.schedStart cod stream) s = .next t →
      Safety.keepsBut (Safety.either ([R.SCHED_BAD_CMD_IGN cod] ++ Safety.sources [E.strmCmdIgn cod] ++ Safety.retireFields ++ Safety.rangeFields (8 + cod) ++ Safety.trayFields ++ Safety.recordFields 8 ++ Safety.recordFields 9 ++ Safety.commitFields 8 ++ Safety.commitFields 9 ++ Safety.encSources) (Safety.encFields)) [8, 9] s t ∧
        Safety.beyond t = { Safety.beyond s with strms := t.strms, jobs := t.jobs, trayBad := t.trayBad, tray := t.tray, clogQ := t.clogQ, canv := t.canv, freeCtr := t.freeCtr } ∧
        Safety.trayOf [8, 9] s t) ∧
  (∀ (cod : Fin 2) (stream : BitVec 12) (s t : State), exec (.schedStop cod stream) s = .next t →
      Safety.keepsBut (Safety.either ([R.SCHED_BAD_CMD_IGN cod, R.FLOW_BAD_BAD, R.FLOW_BAD_FLOW, R.FLOW_BAD_RULE] ++ Safety.sources [E.flowBad] ++ Safety.recordFields 12 ++ Safety.sources ((List.range 4).map E.pktAuDrop) ++ Safety.sources [E.strmCmdIgn cod] ++ Safety.retireFields ++ Safety.rangeFields (8 + cod) ++ Safety.trayFields ++ Safety.recordFields 8 ++ Safety.recordFields 9 ++ Safety.commitFields 8 ++ Safety.commitFields 9 ++ Safety.encSources) (Safety.encFields ++ [I.AUQ_WR 0, R.PKT_STAT_AU_DROP 0, R.PKT_STAT_DROP_CNT 0])) [8, 9] s t ∧
        Safety.beyond t = { Safety.beyond s with dram := t.dram, strms := t.strms, jobs := t.jobs, trayBad := t.trayBad, dramBad := t.dramBad, wrQ := t.wrQ, tray := t.tray, clogQ := t.clogQ, freeCtr := t.freeCtr, canv := t.canv, flows := t.flows } ∧
        Safety.trayOf [8, 9, 12] s t ∧
        Safety.dramOf [(s.desc stream.toNat).u 0x41 1] s t) ∧
  (∀ (cod : Fin 2) (stream : BitVec 12) (s t : State), exec (.schedIdr cod stream) s = .next t →
      Safety.keepsBut (Safety.either ([R.SCHED_BAD_CMD_IGN cod] ++ Safety.sources [E.strmCmdIgn cod] ++ Safety.retireFields ++ Safety.rangeFields (8 + cod) ++ Safety.trayFields ++ Safety.recordFields 8 ++ Safety.recordFields 9 ++ Safety.commitFields 8 ++ Safety.commitFields 9 ++ Safety.encSources) (Safety.encFields)) [8, 9] s t ∧
        Safety.beyond t = { Safety.beyond s with strms := t.strms, jobs := t.jobs, trayBad := t.trayBad, tray := t.tray, clogQ := t.clogQ, canv := t.canv } ∧
        Safety.trayOf [8, 9] s t) ∧
  (∀ (cod : Fin 2) (tag : BitVec 32) (s t : State), exec (.vecToExpiry cod tag) s = .next t →
      Safety.keepsBut (Safety.either ([] ++ Safety.trayFields ++ Safety.recordFields 8 ++ Safety.recordFields 9 ++ Safety.commitFields 8 ++ Safety.commitFields 9 ++ Safety.encSources) (Safety.encFields)) [8, 9] s t ∧
        Safety.beyond t = { Safety.beyond s with strms := t.strms, jobs := t.jobs, trayBad := t.trayBad, tray := t.tray, clogQ := t.clogQ, canv := t.canv } ∧
        Safety.trayOf [8, 9] s t) ∧
  (∀ (stream : BitVec 12) (tag : BitVec 32) (s t : State), exec (.pictureDeadline stream tag) s = .next t →
      Safety.keepsBut (Safety.either ([] ++ Safety.trayFields ++ Safety.recordFields 8 ++ Safety.recordFields 9 ++ Safety.commitFields 8 ++ Safety.commitFields 9 ++ Safety.encSources) (Safety.encFields)) [8, 9] s t ∧
        Safety.beyond t = { Safety.beyond s with strms := t.strms, jobs := t.jobs, trayBad := t.trayBad, tray := t.tray, clogQ := t.clogQ, canv := t.canv } ∧
        Safety.trayOf [8, 9] s t) ∧
  (∀ (cod : Fin 2) (k : Fin 4) (s t : State), exec (.encDisable cod k) s = .next t →
      Safety.keepsBut (Safety.either ([R.ENC_CFG_EN cod k, R.ENC_EVT_CUT cod k] ++ Safety.retireFields ++ Safety.trayFields ++ Safety.recordFields 8 ++ Safety.recordFields 9 ++ Safety.commitFields 8 ++ Safety.commitFields 9 ++ Safety.encSources) (Safety.encFields)) [8, 9] s t ∧
        Safety.beyond t = { Safety.beyond s with strms := t.strms, jobs := t.jobs, trayBad := t.trayBad, tray := t.tray, clogQ := t.clogQ, canv := t.canv } ∧
        Safety.trayOf [8, 9] s t) ∧
  (∀ (r : Fin 2) (off : BitVec 30) (s t : State), exec (.decInWr r off) s = .next t →
      Safety.keeps (Safety.among ([R.DEC_IN_WR_OFF r] ++ Safety.retireFields ++ Safety.rangeFields (8 + r))) s t ∧
        Safety.beyond t = Safety.beyond s) ∧
  (∀ (r : Fin 2) (au : AuInfo) (s t : State), exec (.decEntry r au) s = .next t →
      Safety.keepsBut (Safety.among ([I.DEC_CNT r, I.DEC_COVER r, I.DEC_TARGET r, I.DEC_UNSUP r, R.DEC_EVT_GEN_CNT r, R.DEC_EVT_IN_BAD r, R.DEC_EVT_REF_GEN r, R.DEC_EVT_UNSUP r, R.DEC_IN_RD_OFF r, R.DEC_STAT_PENDING r, R.DEC_STAT_STATE r, R.DEC_STAT_TARGET r] ++ Safety.recordFields (8 + r) ++ Safety.commitFields (8 + r) ++ Safety.sources [E.decInBad r, E.decRefGen r, E.decUnsup r])) [8 + r.val] s t ∧
        Safety.beyond t = { Safety.beyond s with decs := t.decs, decJobs := t.decJobs, jobs := t.jobs, clogQ := t.clogQ, freeCtr := t.freeCtr }) ∧
  (∀ (r : Fin 2) (syntaxErr conceal hashBad : Bool) (oobWrites oobReads : BitVec 32) (s t : State), exec (.decPictureDone r syntaxErr conceal hashBad oobWrites oobReads) s = .next t →
      Safety.keeps (Safety.among ([I.DEC_COVER r, I.DEC_TARGET r, R.DEC_EVT_ERR_CNT r, R.DEC_EVT_HASH_MM r, R.DEC_EVT_OOB r, R.DEC_OOB_CNT_CNT r, R.DEC_STAT_PENDING r, R.DEC_STAT_TARGET r, R.DEC_EVT_SYNTAX r] ++ Safety.recordFields (8 + r) ++ Safety.sources [E.decOob r, E.decRecovered r, E.decSyntax r])) s t ∧
        Safety.beyond t = { Safety.beyond s with decs := t.decs, dram := t.dram, decJobs := t.decJobs, jobs := t.jobs, dramBad := t.dramBad, wrQ := t.wrQ, clogQ := t.clogQ, freeCtr := t.freeCtr } ∧
        Safety.dramOf [s.inForce (R.DEC_BUF_REGION r)] s t) ∧
  (∀ (r : Fin 2) (s t : State), exec (.decWatchdog r) s = .next t →
      Safety.keeps (Safety.among ([I.DEC_COVER r, I.DEC_TARGET r, R.DEC_EVT_ERR_CNT r, R.DEC_EVT_NOBUF r, R.DEC_STAT_PENDING r, R.DEC_STAT_STATE r, R.DEC_STAT_TARGET r, R.DEC_EVT_WD r] ++ Safety.recordFields (8 + r) ++ Safety.sources [E.decNobuf r, E.decRecovered r, E.decWatchdog r])) s t ∧
        Safety.beyond t = { Safety.beyond s with decs := t.decs, dram := t.dram, decJobs := t.decJobs, jobs := t.jobs, dramBad := t.dramBad, wrQ := t.wrQ, clogQ := t.clogQ, freeCtr := t.freeCtr } ∧
        Safety.dramOf [s.inForce (R.DEC_BUF_REGION r)] s t) ∧
  (∀ (r : Fin 2) (s t : State), exec (.decOutput r) s = .next t →
      Safety.keeps (Safety.among ([I.DEC_NEXT r, I.DEC_SEQ r, R.DEC_STAT_STATE r, R.DEC_STAT_TAINT r] ++ Safety.trayFields ++ Safety.sources [E.decOut r])) s t ∧
        Safety.beyond t = { Safety.beyond s with decs := t.decs, decJobs := t.decJobs, trayBad := t.trayBad, tray := t.tray, freeCtr := t.freeCtr, decOut := t.decOut } ∧
        Safety.trayOf [8 + r.val] s t) ∧
  (∀ (r : Fin 2) (s t : State), exec (.decDisable r) s = .next t →
      Safety.keepsBut (Safety.among ([I.DEC_COVER r, I.DEC_SEQ r, I.DEC_UNSUP r, R.DEC_CFG_EN r, R.DEC_IN_RD_OFF r, R.DEC_STAT_PENDING r, R.DEC_STAT_STATE r] ++ Safety.retireFields ++ Safety.recordFields (8 + r) ++ Safety.commitFields (8 + r))) [8 + r.val] s t ∧
        Safety.beyond t = { Safety.beyond s with decs := t.decs, decJobs := t.decJobs, jobs := t.jobs, clogQ := t.clogQ })

/-- Whenever a command of the canvas, of an output head or of a display port answers a next state, every register
field outside its own block, the coding rods' it wakes and the fields listed for it holds its value and its value in
force; a command of a display port touches the fields of that port alone. What the state holds beyond registers,
outgoing messages and event traces is as before but for the parts named, no byte of the Tray changes outside granules
that the rods concerned may write, and a canvas frame writes DRAM only in the canvas's region. (spec R22, R280, R283,
R296, R298, R299, R304, R305, R307, R309, R316, R317) -/
def Obligations.OutputFrame : Prop :=
  (∀ (r : BitVec 11) (tag : BitVec 32) (s t : State), exec (.regionComplete r tag) s = .next t →
      Safety.keeps (Safety.inBlocks [8, 9] ([R.SLC_STAT_GEOM_CNT, R.SLC_STAT_GEOM_MM, R.SLC_STAT_REGION, R.COMMIT_PEND 11, R.COMMIT_BAD_BAD 11, R.COMMIT_BAD_RULE 11, R.COMMIT_BAD_DOMAIN 11, R.COMMIT_BAD_CNT 11] ++ Safety.sources [E.slcGeomMm] ++ Safety.trayFields ++ Safety.recordFields 8 ++ Safety.recordFields 9 ++ Safety.recordFields 11 ++ Safety.sources [E.commitReject])) s t ∧
        Safety.beyond t = { Safety.beyond s with strms := t.strms, jobs := t.jobs, trayBad := t.trayBad, tray := t.tray, clogQ := t.clogQ, canv := t.canv } ∧
        Safety.trayOf [8, 9, 11] s t) ∧
  (∀ (tag : BitVec 32) (s t : State), exec (.canvasFrameStart tag) s = .next t →
      Safety.keeps (Safety.inBlocks [8, 9, 11] (Safety.trayFields ++ Safety.recordFields 8 ++ Safety.recordFields 9 ++ Safety.recordFields 11 ++ Safety.sources [E.commitReject])) s t ∧
        Safety.beyond t = { Safety.beyond s with dram := t.dram, strms := t.strms, decJobs := t.decJobs, jobs := t.jobs, trayBad := t.trayBad, lays := t.lays, dramBad := t.dramBad, wrQ := t.wrQ, tray := t.tray, clogQ := t.clogQ, freeCtr := t.freeCtr, canv := t.canv } ∧
        Safety.trayOf [8, 9, 11] s t ∧
        Safety.dramOf [s.inForce R.CANVAS_REGION, t.inForce R.CANVAS_REGION] s t) ∧
  (∀ (tag : BitVec 32) (s t : State), exec (.cwaitTimeout tag) s = .next t →
      Safety.keeps (Safety.inBlocks [8, 9, 11] (Safety.trayFields ++ Safety.recordFields 8 ++ Safety.recordFields 9 ++ Safety.recordFields 11 ++ Safety.sources [E.commitReject])) s t ∧
        Safety.beyond t = { Safety.beyond s with dram := t.dram, strms := t.strms, decJobs := t.decJobs, jobs := t.jobs, trayBad := t.trayBad, lays := t.lays, dramBad := t.dramBad, wrQ := t.wrQ, tray := t.tray, clogQ := t.clogQ, freeCtr := t.freeCtr, canv := t.canv } ∧
        Safety.trayOf [8, 9, 11] s t ∧
        Safety.dramOf [s.inForce R.CANVAS_REGION, t.inForce R.CANVAS_REGION] s t) ∧
  (∀ (n : Fin 9) (g : Fin 16) (s t : State), exec (.guardClr n g) s = .next t →
      Safety.keeps (Safety.among ((List.range 64).map (R.GRD_GSTAT_CLR n) ++ Safety.retireFields)) s t ∧
        Safety.beyond t = Safety.beyond s) ∧
  (∀ (n : Fin 8) (s t : State), exec (.headEnable n) s = .next t →
      Safety.keeps (Safety.inBlocks [8, 9, 11, 13] (Safety.retireFields ++ Safety.trayFields ++ Safety.recordFields 8 ++ Safety.recordFields 9 ++ Safety.recordFields 11 ++ Safety.sources [E.commitReject])) s t ∧
        Safety.beyond t = { Safety.beyond s with strms := t.strms, decJobs := t.decJobs, jobs := t.jobs, trayBad := t.trayBad, hdrs := t.hdrs, lays := t.lays, uanc := t.uanc, tray := t.tray, unders := t.unders, clogQ := t.clogQ, freeCtr := t.freeCtr, canv := t.canv } ∧
        Safety.trayOf [8, 9, 11] s t) ∧
  (∀ (n : Fin 8) (s t : State), exec (.headDisable n) s = .next t →
      Safety.keeps (Safety.inBlocks [11] (Safety.retireFields ++ Safety.trayFields ++ Safety.recordFields 11 ++ Safety.commitFields 11)) s t ∧
        Safety.beyond t = { Safety.beyond s with jobs := t.jobs, hdrs := t.hdrs, uanc := t.uanc, clogQ := t.clogQ }) ∧
  (∀ (n : Fin 8) (s t : State), exec (.headStart n) s = .next t →
      Safety.keeps (Safety.inBlocks [8, 9, 11, 13] (Safety.trayFields ++ Safety.recordFields 8 ++ Safety.recordFields 9 ++ Safety.recordFields 11 ++ Safety.sources [E.commitReject])) s t ∧
        Safety.beyond t = { Safety.beyond s with strms := t.strms, decJobs := t.decJobs, jobs := t.jobs, trayBad := t.trayBad, hdrs := t.hdrs, lays := t.lays, uanc := t.uanc, tray := t.tray, unders := t.unders, clogQ := t.clogQ, freeCtr := t.freeCtr, canv := t.canv } ∧
        Safety.trayOf [8, 9, 11] s t) ∧
  (∀ (n : Fin 8) (under : Option (BitVec 14)) (s t : State), exec (.headLineStart n under) s = .next t →
      Safety.keeps (Safety.inBlocks [8, 9, 11, 13] (Safety.trayFields ++ Safety.recordFields 8 ++ Safety.recordFields 9 ++ Safety.recordFields 11 ++ Safety.sources [E.commitReject])) s t ∧
        Safety.beyond t = { Safety.beyond s with strms := t.strms, decJobs := t.decJobs, jobs := t.jobs, trayBad := t.trayBad, hdrs := t.hdrs, lays := t.lays, uanc := t.uanc, tray := t.tray, unders := t.unders, clogQ := t.clogQ, freeCtr := t.freeCtr, canv := t.canv } ∧
        Safety.trayOf [8, 9, 11] s t) ∧
  (∀ (n : Fin 8) (s t : State), exec (.headPllLock n) s = .next t →
      Safety.keeps (Safety.inBlocks [8, 9, 11, 13] (Safety.trayFields ++ Safety.recordFields 8 ++ Safety.recordFields 9 ++ Safety.recordFields 11 ++ Safety.sources [E.commitReject])) s t ∧
        Safety.beyond t = { Safety.beyond s with strms := t.strms, decJobs := t.decJobs, jobs := t.jobs, trayBad := t.trayBad, hdrs := t.hdrs, lays := t.lays, uanc := t.uanc, tray := t.tray, unders := t.unders, clogQ := t.clogQ, freeCtr := t.freeCtr, canv := t.canv } ∧
        Safety.trayOf [8, 9, 11] s t) ∧
  (∀ (n : Fin 8) (s t : State), exec (.headPllUnlock n) s = .next t →
      Safety.keeps (Safety.kindred ([I.HEAD_FS n, I.HEAD_MORE n, I.HEAD_RELK n, R.DP_EVT_LINK_EV 0, R.DP_STAT_BW_SHORT 0, R.DP_STAT_STREAM 0, R.HEAD_EVT_RELOCK n, R.HEAD_STAT_LINE n, R.HEAD_STAT_STATE n, R.SDI_STAT_FMT 0, R.SDI_STAT_RATE 0] ++ Safety.recordFields 11 ++ Safety.sources [E.headRelock n])) s t ∧
        Safety.beyond t = { Safety.beyond s with jobs := t.jobs, clogQ := t.clogQ }) ∧
  (∀ (q : Fin 4) (level : Bool) (s t : State), exec (.hpdChange q level) s = .next t →
      Safety.keeps (Safety.among ([I.DP_TRAIN q, R.DP_EVT_HPD_EV q, R.DP_EVT_LINK_EV q, R.DP_STAT_BW_SHORT q, R.DP_STAT_HPD q, R.DP_STAT_LANES q, R.DP_STAT_RATE q, R.DP_STAT_STREAM q, R.DP_STAT_TRAINED q] ++ Safety.sources [E.dpHpd q, E.dpLink q])) s t ∧
        Safety.beyond t = Safety.beyond s) ∧
  (∀ (q : Fin 4) (lost : Bool) (s t : State), exec (.irqHpd q lost) s = .next t →
      Safety.keeps (Safety.among ([I.DP_TRAIN q, R.DP_EVT_IRQ_EV q, R.DP_STAT_BW_SHORT q, R.DP_STAT_LANES q, R.DP_STAT_RATE q, R.DP_STAT_STREAM q, R.DP_STAT_TRAINED q] ++ Safety.sources [E.dpIrq q])) s t ∧
        Safety.beyond t = Safety.beyond s) ∧
  (∀ (q : Fin 4) (ok : Bool) (rate : Fin 9) (lanes : Fin 3) (s t : State), exec (.dpTrained q ok rate lanes) s = .next t →
      Safety.keeps (Safety.among ([I.DP_TRAIN q, R.DP_EVT_FAIL_CNT q, R.DP_EVT_LINK_EV q, R.DP_STAT_BW_SHORT q, R.DP_STAT_LANES q, R.DP_STAT_RATE q, R.DP_STAT_STREAM q, R.DP_STAT_TRAINED q] ++ (groupLanes 11 (4 + q)).flatMap (fun l => [R.LN_TXFIR_MAIN 11 l, R.LN_TXFIR_POST 11 l, R.LN_TXFIR_PRE 11 l]) ++ Safety.sources [E.dpLink q])) s t ∧
        Safety.beyond t = { Safety.beyond s with freeCtr := t.freeCtr }) ∧
  (∀ (q : Fin 4) (len : Fin 16) (addr : BitVec 20) (s t : State), exec (.auxNativeWrite q len addr) s = .next t →
      Safety.keeps (Safety.among ([I.AUX_TRY q, R.DP_AUX_CMD_ADDR q, R.DP_AUX_CMD_LEN q, R.DP_AUX_CMD_OP q, R.DP_AUX_STAT_BUSY q, R.DP_AUX_STAT_COUNT q, R.DP_AUX_STAT_RESULT q] ++ Safety.retireFields)) s t ∧
        Safety.beyond t = Safety.beyond s) ∧
  (∀ (q : Fin 4) (len : Fin 16) (addr : BitVec 20) (s t : State), exec (.auxNativeRead q len addr) s = .next t →
      Safety.keeps (Safety.among ([I.AUX_TRY q, R.DP_AUX_CMD_ADDR q, R.DP_AUX_CMD_LEN q, R.DP_AUX_CMD_OP q, R.DP_AUX_STAT_BUSY q, R.DP_AUX_STAT_COUNT q, R.DP_AUX_STAT_RESULT q] ++ Safety.retireFields)) s t ∧
        Safety.beyond t = Safety.beyond s) ∧
  (∀ (q : Fin 4) (len : Fin 16) (addr : BitVec 20) (s t : State), exec (.auxI2cWrite q len addr) s = .next t →
      Safety.keeps (Safety.among ([I.AUX_TRY q, R.DP_AUX_CMD_ADDR q, R.DP_AUX_CMD_LEN q, R.DP_AUX_CMD_OP q, R.DP_AUX_STAT_BUSY q, R.DP_AUX_STAT_COUNT q, R.DP_AUX_STAT_RESULT q] ++ Safety.retireFields)) s t ∧
        Safety.beyond t = Safety.beyond s) ∧
  (∀ (q : Fin 4) (len : Fin 16) (addr : BitVec 20) (s t : State), exec (.auxI2cRead q len addr) s = .next t →
      Safety.keeps (Safety.among ([I.AUX_TRY q, R.DP_AUX_CMD_ADDR q, R.DP_AUX_CMD_LEN q, R.DP_AUX_CMD_OP q, R.DP_AUX_STAT_BUSY q, R.DP_AUX_STAT_COUNT q, R.DP_AUX_STAT_RESULT q] ++ Safety.retireFields)) s t ∧
        Safety.beyond t = Safety.beyond s) ∧
  (∀ (q : Fin 4) (len : Fin 16) (addr : BitVec 20) (s t : State), exec (.auxI2cWriteMot q len addr) s = .next t →
      Safety.keeps (Safety.among ([I.AUX_TRY q, R.DP_AUX_CMD_ADDR q, R.DP_AUX_CMD_LEN q, R.DP_AUX_CMD_OP q, R.DP_AUX_STAT_BUSY q, R.DP_AUX_STAT_COUNT q, R.DP_AUX_STAT_RESULT q] ++ Safety.retireFields)) s t ∧
        Safety.beyond t = Safety.beyond s) ∧
  (∀ (q : Fin 4) (len : Fin 16) (addr : BitVec 20) (s t : State), exec (.auxI2cReadMot q len addr) s = .next t →
      Safety.keeps (Safety.among ([I.AUX_TRY q, R.DP_AUX_CMD_ADDR q, R.DP_AUX_CMD_LEN q, R.DP_AUX_CMD_OP q, R.DP_AUX_STAT_BUSY q, R.DP_AUX_STAT_COUNT q, R.DP_AUX_STAT_RESULT q] ++ Safety.retireFields)) s t ∧
        Safety.beyond t = Safety.beyond s) ∧
  (∀ (q : Fin 4) (kind : AuxKind) (count : Fin 17) (data : List Byte) (s t : State), exec (.auxReply q kind count data) s = .next t →
      Safety.keeps (Safety.among ([I.AUX_TRY q, R.DP_AUX_STAT_BUSY q, R.DP_AUX_STAT_COUNT q, R.DP_AUX_STAT_RESULT q] ++ (List.range 4).map (R.DP_AUX_DATA_D q))) s t ∧
        Safety.beyond t = Safety.beyond s) ∧
  (∀ (q : Fin 4) (s t : State), exec (.auxTimeout q) s = .next t →
      Safety.keeps (Safety.among ([R.DP_AUX_STAT_BUSY q, R.DP_AUX_STAT_COUNT q, R.DP_AUX_STAT_RESULT q])) s t ∧
        Safety.beyond t = Safety.beyond s)

/-- Whenever a command of the MACs, of the flows, of the Tally, of PTP, of the triggers and captures, or the end of an
encoder's picture answers a next state, every register field outside the ones listed for it holds its value and its
value in force, and what the state holds beyond registers, outgoing messages and event traces is as before but for the
parts named. Received frames go only to granules that block 0 may write, descriptors of flows to granules that NET may
write, access units and reconstructed pictures of an encoder to the regions that the descriptor of a stream names.
(spec R22, R319, R322, R327, R330, R332, R334, R335, R339, R348, R351, R352) -/
def Obligations.NetworkFrame : Prop :=
  (∀ (e : Fin 8) (s t : State), exec (.encPictureDone e) s = .next t →
      Safety.keepsBut (Safety.either ([R.FLOW_BAD_BAD, R.FLOW_BAD_FLOW, R.FLOW_BAD_RULE] ++ Safety.sources [E.flowBad] ++ Safety.recordFields 12 ++ Safety.sources ((List.range 4).map E.pktAuDrop) ++ Safety.trayFields ++ Safety.recordFields 8 ++ Safety.recordFields 9 ++ Safety.commitFields 8 ++ Safety.commitFields 9 ++ Safety.encSources) (Safety.encFields ++ (List.range 2).flatMap (fun r => [R.ENC_EVT_EXH r 0, R.ENC_EVT_EXH_CNT r 0, R.ENC_EVT_FLAT r 0, R.ENC_EXH_ROWS r 0, R.ENC_EXH_SKIP r 0, R.ENC_EXH_STREAM r 0]) ++ [I.AUQ_WR 0, R.PKT_STAT_AU_DROP 0, R.PKT_STAT_DROP_CNT 0])) [8, 9] s t ∧
        Safety.beyond t = { Safety.beyond s with dram := t.dram, strms := t.strms, jobs := t.jobs, trayBad := t.trayBad, dramBad := t.dramBad, wrQ := t.wrQ, tray := t.tray, clogQ := t.clogQ, freeCtr := t.freeCtr, canv := t.canv, flows := t.flows } ∧
        Safety.trayOf [8, 9, 12] s t ∧
        Safety.dramOf (s.strms.flatMap (fun x => [(s.desc x.num).u 0x41 1, (s.desc x.num).dpbRegion])) s t) ∧
  (∀ (m : Fin 4) (ptpEvent fecBad : Bool) (frame : List Byte) (s t : State), exec (.ethFrameRx m ptpEvent fecBad frame) s = .next t →
      Safety.keeps (Safety.among ([R.MAC_EVT_FEC_UNCORR m, R.MAC_EVT_UNC_CNT m] ++ Safety.trayFields ++ Safety.sources [E.ethFec m])) s t ∧
        Safety.beyond t = { Safety.beyond s with trayBad := t.trayBad, rings := t.rings, tray := t.tray } ∧
        Safety.trayOf [0] s t) ∧
  (∀ (f : BitVec 12) (late : Bool) (s t : State), exec (.flowPacketTx f late) s = .next t →
      Safety.keeps (Safety.either ([R.FLOW_BAD_BAD, R.FLOW_BAD_FLOW, R.FLOW_BAD_RULE] ++ Safety.sources [E.flowBad] ++ Safety.trayFields ++ Safety.recordFields 12 ++ Safety.sources ((List.range 4).map E.pktTxDrop)) ([R.PKT_STAT_DROP_CNT 0, R.PKT_STAT_TX_DROP 0])) s t ∧
        Safety.beyond t = { Safety.beyond s with jobs := t.jobs, trayBad := t.trayBad, tray := t.tray, clogQ := t.clogQ, freeCtr := t.freeCtr, canv := t.canv, flows := t.flows } ∧
        Safety.trayOf [12] s t) ∧
  (∀ (m : Fin 4) (s t : State), exec (.ethLinkDown m) s = .next t →
      Safety.keeps (Safety.among ([R.MAC_EVT_DOWN_CNT m, R.MAC_EVT_LINK_EV m, R.MAC_STAT_AN_DONE m, R.MAC_STAT_FEC_LOCK m, R.MAC_STAT_LINK m] ++ Safety.sources [E.ethLink m])) s t ∧
        Safety.beyond t = Safety.beyond s) ∧
  (∀ (m : Fin 4) (s t : State), exec (.ethLinkUp m) s = .next t →
      Safety.keeps (Safety.among ([R.MAC_STAT_AN_DONE m, R.MAC_STAT_FEC_LOCK m, R.MAC_STAT_LINK m])) s t ∧
        Safety.beyond t = Safety.beyond s) ∧
  (∀ (s t : State), exec .tlySet s = .next t →
      Safety.keeps (Safety.among (Safety.stepFields ++ Safety.retireFields ++ Safety.rangeFields 12)) s t ∧
        Safety.beyond t = { Safety.beyond s with now := t.now, auds := t.auds }) ∧
  (∀ (neg : Bool) (s t : State), exec (.tlyAdd neg) s = .next t →
      Safety.keeps (Safety.among (Safety.stepFields ++ Safety.retireFields ++ Safety.rangeFields 12)) s t ∧
        Safety.beyond t = { Safety.beyond s with now := t.now, auds := t.auds }) ∧
  (∀ (adj : BitVec 32) (s t : State), exec (.tlyRateWrite adj) s = .next t →
      Safety.keeps (Safety.among ([R.TLY_RATE_ADJ] ++ Safety.retireFields ++ Safety.rangeFields 12)) s t ∧
        Safety.beyond t = Safety.beyond s) ∧
  (∀ (s t : State), exec .tlyNowRead s = .next t →
      Safety.keeps (Safety.among ([R.NOW_HI_V, R.NOW_NS_V, R.NOW_SEC_V] ++ Safety.retireFields)) s t ∧
        Safety.beyond t = Safety.beyond s) ∧
  (∀ (m : Fin 4) (msg : PtpMsg) (s t : State), exec (.ptpMessage m msg) s = .next t →
      Safety.keeps (Safety.among ([I.PTP_IN, I.PTP_OUTB, R.LTC_UTC_OFF, R.LTC_UTC_VALID, R.PTP_GM_ID 0, R.PTP_GM_ID 1, R.PTP_OFFSET_NS, R.PTP_STAT_GM_CHANGE, R.PTP_STAT_PORT, R.PTP_STAT_STATE, R.TLY_RATE_ADJ] ++ Safety.stepFields ++ Safety.sources [E.ptpGm, E.ptpState])) s t ∧
        Safety.beyond t = { Safety.beyond s with now := t.now, auds := t.auds }) ∧
  (∀ (s t : State), exec .announceTimeout s = .next t →
      Safety.keeps (Safety.among ([I.PTP_IN, I.PTP_OUTB, R.PTP_STAT_HOLD_EV, R.PTP_STAT_STATE] ++ Safety.sources [E.ptpState])) s t ∧
        Safety.beyond t = Safety.beyond s) ∧
  (∀ (m : Fin 4) (s t : State), exec (.tsqPop m) s = .next t →
      Safety.keeps (Safety.among ([R.TSQ_HI_V m, R.TSQ_NS_NS m, R.TSQ_POP_ID m, R.TSQ_POP_VALID m, R.TSQ_SEC_SEC m, R.TSQ_STAT_LEVEL m] ++ Safety.retireFields)) s t ∧
        Safety.beyond t = { Safety.beyond s with tsq := t.tsq }) ∧
  (∀ (n : Fin 16) (s t : State), exec (.trgArm n) s = .next t →
      Safety.keeps (Safety.among ([I.TRG_T n, I.TRG_T0 n, R.TRG_CTL_ARMED n] ++ Safety.retireFields)) s t ∧
        Safety.beyond t = Safety.beyond s) ∧
  (∀ (n : Fin 16) (s t : State), exec (.trgDisarm n) s = .next t →
      Safety.keeps (Safety.among ([R.TRG_CTL_ARMED n] ++ Safety.retireFields)) s t ∧
        Safety.beyond t = Safety.beyond s) ∧
  (∀ (n : Fin 16) (s t : State), exec (.trgFire n) s = .next t →
      Safety.keeps (Safety.among ([I.TRG_PIN n, I.TRG_T n, R.PWR_STAT_STATE, R.PWR_STAT_TARGET, R.TRG_CTL_ARMED n, R.TRG_STAT_FIRED n] ++ Safety.sources [E.trgFire n])) s t ∧
        Safety.beyond t = Safety.beyond s) ∧
  (∀ (n : Fin 16) (s t : State), exec (.trgPulseEnd n) s = .next t →
      Safety.keeps (Safety.among ([I.TRG_PIN n])) s t ∧
        Safety.beyond t = Safety.beyond s) ∧
  (∀ (j : Fin 8) (falling : Bool) (s t : State), exec (.capEdge j falling) s = .next t →
      Safety.keeps (Safety.among ([I.CAP_T j, R.CAP_STAT_OVR j, R.CAP_STAT_OVR_CNT j, R.CAP_STAT_VALID j] ++ Safety.sources [E.capDone j, E.capOvr])) s t ∧
        Safety.beyond t = Safety.beyond s) ∧
  (∀ (j : Fin 8) (s t : State), exec (.capRead j) s = .next t →
      Safety.keeps (Safety.among ([R.CAP_HI_V j, R.CAP_NS_V j, R.CAP_SEC_V j, R.CAP_STAT_VALID j] ++ Safety.retireFields)) s t ∧
        Safety.beyond t = Safety.beyond s) ∧
  (∀ (s t : State), exec .ltcFrameOut s = .next t →
      Safety.keeps (Safety.among ([])) s t ∧
        Safety.beyond t = { Safety.beyond s with freeCtr := t.freeCtr }) ∧
  (∀ (tc : BitVec 32) (s t : State), exec (.ltcInSync tc) s = .next t →
      Safety.keeps (Safety.among ([R.LTC_IN_TC])) s t ∧
        Safety.beyond t = Safety.beyond s) ∧
  (∀ (f : BitVec 12) (s t : State), exec (.flowCommit f) s = .next t →
      Safety.keeps (Safety.among ([R.FLOW_BAD_BAD, R.FLOW_BAD_FLOW, R.FLOW_BAD_RULE] ++ Safety.sources [E.flowBad] ++ Safety.retireFields ++ Safety.rangeFields 12 ++ Safety.trayFields)) s t ∧
        Safety.beyond t = { Safety.beyond s with trayBad := t.trayBad, tray := t.tray, freeCtr := t.freeCtr, flows := t.flows } ∧
        Safety.trayOf [12] s t) ∧
  (∀ (m : Fin 4) (pkt : RtpPkt) (s t : State), exec (.rtpRxPacket m pkt) s = .next t →
      Safety.keeps (Safety.among ([R.DEC_IN_WR_OFF 0, R.DEC_IN_WR_OFF 1, R.PKT_STAT_RX_AP m, R.PKT_STAT_RX_LOST m] ++ Safety.sources [E.pktRxLost m])) s t ∧
        Safety.beyond t = { Safety.beyond s with dram := t.dram, rxs := t.rxs, dramBad := t.dramBad, wrQ := t.wrQ } ∧
        Safety.dramOf [s.inForce (R.DEC_IN_REGION 0), s.inForce (R.DEC_IN_REGION 1)] s t) ∧
  (∀ (m : Fin 4) (req : TxStamp) (frame : List Byte) (s t : State), exec (.ptpEventMessageTx m req frame) s = .next t →
      Safety.keeps (Safety.among ([R.TSQ_STAT_LEVEL m, R.TSQ_STAT_OVF m, R.TSQ_STAT_OVF_CNT m] ++ Safety.sources [E.tsqOvf m])) s t ∧
        Safety.beyond t = { Safety.beyond s with tsq := t.tsq })

/-- Whenever a command of an audio port, of a start group or of a stream block answers a next state, every register
field outside the ones listed for it holds its value and its value in force, and what the state holds beyond
registers, outgoing messages and event traces is as before but for the parts named. An audio port writes DRAM only in
the region of its own ring. (spec R22, R353, R357, R358, R360, R361, R363, R364, R366, R368, R369, R507) -/
def Obligations.AudioFrame : Prop :=
  (∀ (n : Fin 8) (s t : State), exec (.audPortEnable n) s = .next t →
      Safety.keeps (Safety.among ([I.AP_AGREE n, I.AP_NOCLK n, I.AP_RET n, I.AP_T n, R.AP_CFG_EN n, R.AP_STAT_CLK_STATE n] ++ Safety.retireFields)) s t ∧
        Safety.beyond t = Safety.beyond s) ∧
  (∀ (n : Fin 8) (s t : State), exec (.audPortStart n) s = .next t →
      Safety.keeps (Safety.among ([I.AP_GRP n, R.AP_STAT_CLK_STATE n, R.AP_STAT_DRIFT n] ++ Safety.recordFields 13)) s t ∧
        Safety.beyond t = { Safety.beyond s with jobs := t.jobs, auds := t.auds, clogQ := t.clogQ }) ∧
  (∀ (n : Fin 8) (fsErr : Bool) (samples : List (BitVec 24)) (s t : State), exec (.audSampleFrame n fsErr samples) s = .next t →
      Safety.keepsBut (Safety.among ([R.AP_CNT_FS_ERR_CNT n, R.AP_CNT_RING_CNT n, R.AP_EVT_BAD_BLK n, R.AP_EVT_FS_ERR n, R.AP_EVT_RING n, R.AP_RD_SLOT n, R.AP_WR_SLOT n] ++ Safety.recordFields 13 ++ Safety.commitFields 13 ++ Safety.sources [E.audBadBlk n, E.audBlock n, E.audFsErr n, E.audRing n])) [13] s t ∧
        Safety.beyond t = { Safety.beyond s with dram := t.dram, jobs := t.jobs, dramBad := t.dramBad, auds := t.auds, wrQ := t.wrQ, clogQ := t.clogQ } ∧
        Safety.dramOf [s.get (R.AP_RING_REGION n)] s t) ∧
  (∀ (n : Fin 8) (phase : BitVec 8) (s t : State), exec (.audBlockBoundary n phase) s = .next t →
      Safety.keeps (Safety.among ([I.AP_NOCLK n, I.AP_RET n, R.AP_CNT_RECOVER_CNT n, R.AP_CNT_RING_CNT n, R.AP_EVT_BAD_BLK n, R.AP_EVT_DROP_CNT n, R.AP_EVT_REP_CNT n, R.AP_EVT_RING n, R.AP_EVT_SLIP n, R.AP_RD_SLOT n, R.AP_STAT_ASRC_LOCK n, R.AP_STAT_CLK_STATE n, R.AP_STAT_DRIFT n, R.AP_WR_SLOT n] ++ Safety.recordFields 13 ++ Safety.sources [E.audBadBlk n, E.audBlock n, E.audClkRecover n, E.audRing n, E.audSlip n])) s t ∧
        Safety.beyond t = { Safety.beyond s with dram := t.dram, jobs := t.jobs, dramBad := t.dramBad, auds := t.auds, wrQ := t.wrQ, clogQ := t.clogQ, freeCtr := t.freeCtr } ∧
        Safety.dramOf [s.get (R.AP_RING_REGION n)] s t) ∧
  (∀ (n : Fin 8) (hz : BitVec 32) (s t : State), exec (.audMonWindow n hz) s = .next t →
      Safety.keeps (Safety.among ([I.AP_AGREE n, I.AP_NOCLK n, I.AP_RET n, R.AP_EVT_ASRC_UNLOCK n, R.AP_EVT_RATE_EV n, R.AP_MEAS_HZ n, R.AP_STAT_ASRC_LOCK n, R.AP_STAT_CLK_STATE n] ++ Safety.sources [E.asrcUnlock n, E.audClkRate n])) s t ∧
        Safety.beyond t = { Safety.beyond s with auds := t.auds }) ∧
  (∀ (n : Fin 8) (s t : State), exec (.audClkLoss n) s = .next t →
      Safety.keeps (Safety.among ([I.AP_AGREE n, I.AP_NOCLK n, I.AP_RET n, R.AP_EVT_ASRC_UNLOCK n, R.AP_EVT_CLK_LOST n, R.AP_STAT_ASRC_LOCK n, R.AP_STAT_CLK_STATE n] ++ Safety.sources [E.asrcUnlock n, E.audClkLost n])) s t ∧
        Safety.beyond t = { Safety.beyond s with auds := t.auds }) ∧
  (∀ (n : Fin 8) (s t : State), exec (.audGlitch n) s = .next t →
      Safety.keeps (Safety.among ([R.AP_CNT_GLITCH_CNT n, R.AP_EVT_GLITCH n])) s t ∧
        Safety.beyond t = Safety.beyond s) ∧
  (∀ (n : Fin 8) (ratio : BitVec 32) (s t : State), exec (.asrcLock n ratio) s = .next t →
      Safety.keeps (Safety.among ([R.AP_ASRC_RATIO_RATIO n, R.AP_STAT_ASRC_LOCK n] ++ Safety.sources [E.asrcLock n])) s t ∧
        Safety.beyond t = Safety.beyond s) ∧
  (∀ (g : Fin 4) (s t : State), exec (.sgArm g) s = .next t →
      Safety.keeps (Safety.among ([I.SG_T g, R.SG_CTL_ARMED g, R.SG_CTL_LATE g] ++ Safety.retireFields ++ Safety.rangeFields 13 ++ Safety.sources [E.sgLate g])) s t ∧
        Safety.beyond t = Safety.beyond s) ∧
  (∀ (g : Fin 4) (s t : State), exec (.sgDisarm g) s = .next t →
      Safety.keeps (Safety.among ((R.SG_CTL_ARMED g :: (List.range 8).map I.AP_T) ++ Safety.retireFields)) s t ∧
        Safety.beyond t = Safety.beyond s) ∧
  (∀ (g : Fin 4) (s t : State), exec (.sgStart g) s = .next t →
      Safety.keeps (Safety.among ([R.SG_CTL_ARMED g, R.SG_CTL_MISS g] ++ (List.range 8).flatMap (fun n => [I.AP_GRP n, R.AP_STAT_CLK_STATE n, R.AP_STAT_DRIFT n]) ++ Safety.recordFields 13 ++ Safety.sources [E.sgMiss g, E.sgStart g])) s t ∧
        Safety.beyond t = { Safety.beyond s with jobs := t.jobs, auds := t.auds, clogQ := t.clogQ }) ∧
  (∀ (a : Fin 8) (s t : State), exec (.audStreamBlock a) s = .next t →
      Safety.keepsBut (Safety.among ([R.FLOW_BAD_BAD, R.FLOW_BAD_FLOW, R.FLOW_BAD_RULE] ++ Safety.sources [E.flowBad] ++ Safety.trayFields ++ Safety.recordFields 13 ++ Safety.commitFields 13)) [13] s t ∧
        Safety.beyond t = { Safety.beyond s with jobs := t.jobs, trayBad := t.trayBad, tray := t.tray, clogQ := t.clogQ, freeCtr := t.freeCtr, flows := t.flows } ∧
        Safety.trayOf [12] s t)

/-- Whenever a command of a DRAM channel, of the panic lines, of a DEFLATE or of a DMA engine answers a next state,
every register field outside the ones listed for it holds its value and its value in force, and what the state holds
beyond registers, outgoing messages and event traces is as before but for the parts named. A channel's command changes
bytes of DRAM only where a queued write lies, the fill after a reset only in its own channel, an engine only in the
regions that its job names and in granules that UTL may write. (spec R22, R377, R381, R386, R387, R388, R389, R390,
R392, R394, R396, R406) -/
def Obligations.MemoryFrame : Prop :=
  (∀ (ch : Fin 8) (rank : Fin 2) (s t : State), exec (.refresh ch rank) s = .next t →
      Safety.keepsBut (Safety.among ([I.CH_CHANGE ch, I.CH_CHDOWN ch, I.CH_SAMEBANK ch, I.CH_STEPSET ch, I.CH_STEPWAIT ch, I.CH_TEMP ch, R.CH_EVT_SAFE_FORCED ch, R.CH_STAT_STATE ch, I.CH_POSTPONED ch rank] ++ Safety.memFields ch ++ Safety.commitFields 14)) [14] s t ∧
        Safety.beyond t = { Safety.beyond s with dram := t.dram, rows := t.rows, dramBad := t.dramBad, wrQ := t.wrQ } ∧
        Safety.dramQueued s t) ∧
  (∀ (ch : Fin 8) (rank : Fin 2) (s t : State), exec (.refreshPostponeLimit ch rank) s = .next t →
      Safety.keepsBut (Safety.among ([I.CH_CHANGE ch, I.CH_CHDOWN ch, I.CH_SAMEBANK ch, I.CH_STEPSET ch, I.CH_STEPWAIT ch, I.CH_TEMP ch, R.CH_EVT_SAFE_FORCED ch, R.CH_STAT_STATE ch, I.CH_POSTPONED ch rank] ++ Safety.memFields ch ++ Safety.commitFields 14)) [14] s t ∧
        Safety.beyond t = { Safety.beyond s with dram := t.dram, rows := t.rows, dramBad := t.dramBad, wrQ := t.wrQ } ∧
        Safety.dramQueued s t) ∧
  (∀ (ch : Fin 8) (hot : BitVec 2) (temp : BitVec 9) (s t : State), exec (.mr4Poll ch hot temp) s = .next t →
      Safety.keeps (Safety.among ([I.CH_MR4 ch, I.CH_STEPSET ch, I.CH_STEPWAIT ch, I.CH_TEMP ch, R.CH_STAT_STATE ch] ++ [I.CH_HOT ch 0, I.CH_HOT ch 1])) s t ∧
        Safety.beyond t = Safety.beyond s) ∧
  (∀ (ch : Fin 8) (errs : BitVec 10) (s t : State), exec (.scrubRead ch errs) s = .next t →
      Safety.keeps (Safety.among (I.CH_SCRUB ch :: Safety.memFields ch)) s t ∧
        Safety.beyond t = Safety.beyond s) ∧
  (∀ (ch : Fin 8) (s t : State), exec (.retrainTimer ch) s = .next t →
      Safety.keeps (Safety.among ([I.CH_STEPSET ch, I.CH_STEPWAIT ch, I.CH_TEMP ch, R.CH_STAT_STATE ch])) s t ∧
        Safety.beyond t = Safety.beyond s) ∧
  (∀ (ch : Fin 8) (works : Bool) (s t : State), exec (.stepSetDone ch works) s = .next t →
      Safety.keeps (Safety.among ([I.CH_STEPSET ch, R.CH_EVT_MARGIN_LOW ch, R.CH_STAT_MARGIN_LOW ch, R.CH_STAT_STATE ch] ++ Safety.sources [E.memMarginLow ch])) s t ∧
        Safety.beyond t = Safety.beyond s) ∧
  (∀ (ch : Fin 8) (s t : State), exec (.ceWindow ch) s = .next t →
      Safety.keeps (Safety.among (I.CH_CEWIN ch :: (List.range 10).map (I.CH_DEVCNT ch))) s t ∧
        Safety.beyond t = Safety.beyond s) ∧
  (∀ (ch : Fin 8) (s t : State), exec (.safePointTimeout ch) s = .next t →
      Safety.keeps (Safety.among ([I.CH_FORCE ch])) s t ∧
        Safety.beyond t = Safety.beyond s) ∧
  (∀ (ch : Fin 8) (sp : Fin 4) (urgent : Bool) (s t : State), exec (.freqReq ch sp urgent) s = .next t →
      Safety.keeps (Safety.among ([I.CH_CHANGE ch, I.CH_CHDOWN ch, I.CH_NEXT ch, I.CH_NEXTURG ch, I.CH_STEPSET ch, I.CH_STEPWAIT ch, R.CH_EVT_ABORTED ch, R.CH_STAT_STATE ch] ++ Safety.retireFields ++ Safety.rangeFields 14 ++ Safety.memFields ch)) s t ∧
        Safety.beyond t = { Safety.beyond s with dram := t.dram, rows := t.rows, dramBad := t.dramBad, wrQ := t.wrQ } ∧
        Safety.dramQueued s t) ∧
  (∀ (ch : Fin 8) (s t : State), exec (.freqChangeDone ch) s = .next t →
      Safety.keeps (Safety.inBlocks [8, 9, 13, 14, 15] (Safety.resumeFields)) s t ∧
        Safety.beyond t = { Safety.beyond s with dram := t.dram, rows := t.rows, dramBad := t.dramBad, wrQ := t.wrQ, strms := t.strms, dmas := t.dmas, jobs := t.jobs, trayBad := t.trayBad, tray := t.tray, clogQ := t.clogQ, canv := t.canv, flits := t.flits } ∧
        Safety.trayOf [8, 9, 15] s t ∧
        Safety.dramQueued s t) ∧
  (∀ (k : Fin 15) (s t : State), exec (.panicStart k) s = .next t →
      Safety.keeps (Safety.among ([I.PANIC, R.PANIC_STAT_LIVE])) s t ∧
        Safety.beyond t = Safety.beyond s) ∧
  (∀ (k : Fin 15) (s t : State), exec (.panicEnd k) s = .next t →
      Safety.keeps (Safety.among ([I.PANIC, I.PANIC_LONGED, R.PANIC_STAT_LIVE])) s t ∧
        Safety.beyond t = Safety.beyond s) ∧
  (∀ (s t : State), exec .panicLong s = .next t →
      Safety.keeps (Safety.among ([I.PANIC_LONGED, R.PANIC_STAT_LONG, R.PANIC_STAT_LONG_CNT] ++ Safety.sources [E.panicLong])) s t ∧
        Safety.beyond t = Safety.beyond s) ∧
  (∀ (ch : Fin 8) (s t : State), exec (.chHang ch) s = .next t →
      Safety.keeps (Safety.among ([I.CH_CHANGE ch, I.CH_CHDOWN ch, I.CH_CHTO ch, I.CH_DRAIN ch, I.CH_INIT ch, I.CH_NEXT ch, I.CH_PROXY ch, I.CH_STEPSET ch, I.CH_STEPWAIT ch, R.CH_EVT_CH_RESET ch, R.CH_EVT_NO_STEP ch, R.CH_STAT_STATE ch] ++ Safety.sources [E.memChReset ch, E.memNoStep ch])) s t ∧
        Safety.beyond t = { Safety.beyond s with rdQ := t.rdQ, rows := t.rows, wrQ := t.wrQ, rdParts := t.rdParts, autoTimes := t.autoTimes }) ∧
  (∀ (ch : Fin 8) (works : Bool) (s t : State), exec (.chInitDone ch works) s = .next t →
      Safety.keeps (Safety.among ([I.CH_CHDOWN ch, I.CH_INIT ch, R.CH_EVT_MARGIN_LOW ch, R.CH_STAT_MARGIN_LOW ch, R.CH_STAT_RATE ch, R.CH_STAT_SP ch] ++ Safety.sources [E.memMarginLow ch])) s t ∧
        Safety.beyond t = Safety.beyond s) ∧
  (∀ (ch : Fin 8) (s t : State), exec (.chPoisonFillDone ch) s = .next t →
      Safety.keeps (Safety.among ([I.CH_CHDOWN ch, I.CH_CHTO ch, I.CH_FILL ch, I.CH_INIT ch, I.CH_PROXY ch, R.BW_STAT_BW_CEILING, R.BW_STAT_OVER, R.BW_STAT_PERMILLE, R.CH_EVT_STEPDOWN ch, R.CH_STAT_STATE ch] ++ Safety.sources [E.bwCeiling, E.memStepdown ch])) s t ∧
        Safety.beyond t = { Safety.beyond s with dram := t.dram, dramBad := t.dramBad, refs := t.refs } ∧
        Safety.dramOutside (lin ch 0) (2 ^ 36) s t) ∧
  (∀ (ch : Fin 8) (errs : BitVec 10) (s t : State), exec (.schedulingDecision ch errs) s = .next t →
      Safety.keeps (Safety.among ([I.CH_DRAIN ch, I.CH_SHARE ch] ++ Safety.memFields ch)) s t ∧
        Safety.beyond t = { Safety.beyond s with dram := t.dram, rdQ := t.rdQ, rows := t.rows, dramBad := t.dramBad, wrQ := t.wrQ, rdParts := t.rdParts } ∧
        Safety.dramQueued s t) ∧
  (∀ (n : Fin 2) (slot : BitVec 8) (s t : State), exec (.dflTailWrite n slot) s = .next t →
      Safety.keeps (Safety.among ([I.DFL_LIM n, R.DFL_TAIL_SLOT n] ++ Safety.retireFields ++ Safety.rangeFields 15)) s t ∧
        Safety.beyond t = Safety.beyond s) ∧
  (∀ (n : Fin 2) (s t : State), exec (.dflJobStart n) s = .next t →
      Safety.keeps (Safety.among ([I.DFL_OFF n, I.DFL_REGION n, R.DFL_EVT_DESC_BAD n, R.DFL_EVT_ERR n, R.DFL_EVT_ERR_CNT n, R.DFL_EVT_FIRST_ERR n, R.DFL_HEAD_SLOT n, R.DFL_STAT_SLOT n, R.DFL_STAT_STATE n] ++ Safety.trayFields ++ Safety.recordFields 15 ++ Safety.sources [E.dflDescBad n, E.dflDone n, E.dflErr n])) s t ∧
        Safety.beyond t = { Safety.beyond s with jobs := t.jobs, trayBad := t.trayBad, tray := t.tray, clogQ := t.clogQ, dfls := t.dfls } ∧
        Safety.trayOutside (s.dflSlot n (s.get (R.DFL_HEAD_SLOT n)) + 0x40) 64 s t) ∧
  (∀ (n : Fin 2) (s t : State), exec (.dflJobDone n) s = .next t →
      Safety.keeps (Safety.among ([I.DFL_OFF n, I.DFL_REGION n, R.DFL_EVT_DESC_BAD n, R.DFL_EVT_ERR n, R.DFL_EVT_ERR_CNT n, R.DFL_EVT_FIRST_ERR n, R.DFL_EVT_NO_GAIN n, R.DFL_HEAD_SLOT n, R.DFL_STAT_STATE n] ++ Safety.trayFields ++ Safety.recordFields 15 ++ Safety.sources [E.dflDescBad n, E.dflDone n, E.dflErr n, E.dflNoGain n])) s t ∧
        Safety.beyond t = { Safety.beyond s with dram := t.dram, dflRecs := t.dflRecs, jobs := t.jobs, trayBad := t.trayBad, dramBad := t.dramBad, wrQ := t.wrQ, tray := t.tray, clogQ := t.clogQ, freeCtr := t.freeCtr, dfls := t.dfls } ∧
        Safety.trayOf [15] s t ∧
        Safety.dramOf ((s.dfls.filter (fun j => decide (j.n = n.val))).flatMap (fun j => [j.u 9 1, j.u 0x0A 1])) s t) ∧
  (∀ (n : Fin 2) (s t : State), exec (.dflDisable n) s = .next t →
      Safety.keeps (Safety.among ([I.DFL_OFF n, I.DFL_REGION n, R.DFL_CFG_EN n, R.DFL_EVT_CUT n, R.DFL_STAT_STATE n] ++ Safety.retireFields ++ Safety.trayFields ++ Safety.recordFields 15 ++ Safety.sources [E.dflCut n])) s t ∧
        Safety.beyond t = { Safety.beyond s with dram := t.dram, jobs := t.jobs, trayBad := t.trayBad, dramBad := t.dramBad, wrQ := t.wrQ, tray := t.tray, clogQ := t.clogQ, freeCtr := t.freeCtr, dfls := t.dfls } ∧
        Safety.trayOf [15] s t ∧
        Safety.dramOf ((s.dfls.filter (fun j => decide (j.n = n.val))).map (fun j => j.u 9 1)) s t) ∧
  (∀ (d : Fin 8) (slot : BitVec 8) (s t : State), exec (.dmaTailWrite d slot) s = .next t →
      Safety.keeps (Safety.among ([I.DMA_LIM d, R.DMA_CFG_TAIL d] ++ Safety.retireFields ++ Safety.trayFields ++ Safety.recordFields 15 ++ Safety.dmaFields d)) s t ∧
        Safety.beyond t = { Safety.beyond s with dmas := t.dmas, jobs := t.jobs, trayBad := t.trayBad, tray := t.tray, clogQ := t.clogQ } ∧
        Safety.trayOf [15] s t) ∧
  (∀ (d : Fin 8) (ok : Bool) (data : List Byte) (s t : State), exec (.dmaJobDone d ok data) s = .next t →
      Safety.keeps (Safety.among (Safety.trayFields ++ Safety.recordFields 15 ++ Safety.dmaFields d)) s t ∧
        Safety.beyond t = { Safety.beyond s with dram := t.dram, dmas := t.dmas, jobs := t.jobs, trayBad := t.trayBad, dramBad := t.dramBad, wrQ := t.wrQ, tray := t.tray, clogQ := t.clogQ, freeCtr := t.freeCtr } ∧
        Safety.trayOf [15] s t ∧
        Safety.dramOf ((s.dmas.filter (fun j => decide (j.n = d.val))).map (fun j => j.u 0x1C 1)) s t) ∧
  (∀ (d : Fin 8) (s t : State), exec (.dmaDisable d) s = .next t →
      Safety.keeps (Safety.among ([R.DMA_CFG_EN d, R.DMA_EVT_CUT d] ++ Safety.retireFields ++ Safety.trayFields ++ Safety.recordFields 15)) s t ∧
        Safety.beyond t = { Safety.beyond s with dram := t.dram, dmas := t.dmas, jobs := t.jobs, trayBad := t.trayBad, dramBad := t.dramBad, wrQ := t.wrQ, tray := t.tray, clogQ := t.clogQ, freeCtr := t.freeCtr } ∧
        Safety.trayOf [15] s t ∧
        Safety.dramOf ((s.dmas.filter (fun j => decide (j.n = d.val))).map (fun j => j.u 0x1C 1)) s t)

/-- Whenever a command of a mailbox, a doorbell, a core, the host port or one of the logs answers a next state, every
register field outside the ones listed for it holds its value and its value in force, and what the state holds beyond
registers, outgoing messages and event traces is as before but for the parts named. An entry of the fault history
changes its 16 bytes of the keep store alone, a carry-log record DRAM in the carry log's region alone. (spec R22,
R409, R413, R418, R419, R420, R421, R422, R423, R424, R426, R428) -/
def Obligations.MailFrame : Prop :=
  (∀ (k : Fin 4) (s t : State), exec (.coreWatchdog k) s = .next t →
      Safety.keeps (Safety.among (Safety.agentFields (1 + k.val) ++ Safety.sources [E.coreRestart k])) s t ∧
        Safety.beyond t = Safety.beyond s) ∧
  (∀ (s t : State), exec .hepReset s = .next t →
      Safety.keeps (Safety.among ([I.HEP_LINK, I.HEP_MSIX, R.BAR4_GRAN, R.HEP_STAT_RETIRED_CNT] ++ (List.range 64).flatMap (fun v => (List.range 4).map (I.MSIX_TAB v)) ++ Safety.agentFields 0)) s t ∧
        Safety.beyond t = Safety.beyond s) ∧
  (∀ (s t : State), exec .msixEnable s = .next t →
      Safety.keeps (Safety.among ([I.HEP_LINK, I.HEP_MSIX])) s t ∧
        Safety.beyond t = Safety.beyond s) ∧
  (∀ (agent : Fin 6) (m : Fin 32) (n : Fin 16) (v : BitVec 32) (s t : State), exec (.mbDataWrite agent m n v) s = .next t →
      Safety.keeps (Safety.among ([R.MB_DATA_D m n, R.MB_STAT_COLLIDE m, R.MB_STAT_DIRTY m] ++ Safety.sources [E.mbCollide])) s t ∧
        Safety.beyond t = Safety.beyond s) ∧
  (∀ (agent : Fin 6) (m : Fin 32) (len : BitVec 5) (arm : Bool) (s t : State), exec (.mbGo agent m len arm) s = .next t →
      Safety.keeps (Safety.among ([R.MB_CTRL_LEN m, R.MB_EPOCH_TX_EPOCH m, R.MB_STAT_COLLIDE m, R.MB_STAT_DIRTY m, R.MB_STAT_FULL m, R.MB_STAT_LEN m, R.MB_STAT_SEQ m, R.MB_STAT_WAIT_ACK m, R.MB_STAT_CROSS (2 * (m.val / 2)), R.MB_STAT_CROSS (2 * (m.val / 2) + 1)] ++ Safety.rangeFields 0 ++ Safety.sources [E.mbCollide, E.mbCross, E.mbPosted (m.val / 2)])) s t ∧
        Safety.beyond t = Safety.beyond s) ∧
  (∀ (agent : Fin 6) (m : Fin 32) (len : BitVec 5) (s t : State), exec (.mbArmWait agent m len) s = .next t →
      Safety.keeps (Safety.among ([R.MB_CTRL_LEN m, R.MB_STAT_WAIT_ACK m, R.MB_STAT_CROSS (2 * (m.val / 2)), R.MB_STAT_CROSS (2 * (m.val / 2) + 1)] ++ Safety.rangeFields 0 ++ Safety.sources [E.mbCross])) s t ∧
        Safety.beyond t = Safety.beyond s) ∧
  (∀ (agent : Fin 6) (m : Fin 32) (s t : State), exec (.mbTake agent m) s = .next t →
      Safety.keeps (Safety.among ([R.MB_STAT_FULL m, R.MB_STAT_WAIT_ACK m] ++ Safety.sources [E.mbTaken (m.val / 2)])) s t ∧
        Safety.beyond t = Safety.beyond s) ∧
  (∀ (agent a : Fin 6) (hi : Bool) (v : BitVec 32) (s t : State), exec (.dbSet agent a hi v) s = .next t →
      Safety.keeps (Safety.among ([R.DB_STAT_B a (ofBool hi)] ++ Safety.sources [E.doorbell])) s t ∧
        Safety.beyond t = Safety.beyond s) ∧
  (∀ (agent a : Fin 6) (hi : Bool) (v : BitVec 32) (s t : State), exec (.dbClear agent a hi v) s = .next t →
      Safety.keeps (Safety.among ([R.DB_STAT_B a (ofBool hi)])) s t ∧
        Safety.beyond t = Safety.beyond s) ∧
  (∀ (p : Fin 8) (s t : State), exec (.echo p) s = .next t →
      Safety.keeps (Safety.among (Safety.replyFields p)) s t ∧
        Safety.beyond t = Safety.beyond s) ∧
  (∀ (p : Fin 8) (s t : State), exec (.netTx p) s = .next t →
      Safety.keeps (Safety.among (Safety.trayFields ++ Safety.replyFields p)) s t ∧
        Safety.beyond t = Safety.beyond s) ∧
  (∀ (p : Fin 8) (s t : State), exec (.netRx p) s = .next t →
      Safety.keeps (Safety.among (Safety.replyFields p)) s t ∧
        Safety.beyond t = { Safety.beyond s with rings := t.rings }) ∧
  (∀ (s t : State), exec .faultHistoryWrite s = .next t →
      Safety.keeps (Safety.among ([R.FH_HEAD_NEXT])) s t ∧
        Safety.beyond t = { Safety.beyond s with keep := t.keep } ∧
        Safety.keepOutside (keepFault + 16 * s.get R.FH_HEAD_NEXT) 16 s t) ∧
  (∀ (rod : Fin 16) (s t : State), exec (.clogRecord rod) s = .next t →
      Safety.keeps (Safety.among ([I.CLOG_DROPPED rod, R.CLOG_SEQ_NEXT_SEQ])) s t ∧
        Safety.beyond t = { Safety.beyond s with dram := t.dram, dramBad := t.dramBad, wrQ := t.wrQ, clogQ := t.clogQ } ∧
        Safety.dramOf (s.strg.clogRegion.toList.map (fun g => g.region)) s t)

/-- Whenever a token, another service of SEC, the end of its work or the TAP answers a next state, every register
field outside the ones listed for it holds its value and its value in force, and what the state holds beyond
registers, outgoing messages and event traces is as before but for the parts named. Only a burn that ends, and a
restart of SEC that cuts one, touch the fuses; ATTEST writes the keep store only in the LMS area, GET_ID only the
bytes that it was asked to write. (spec R22, R435, R436, R439, R440, R441, R442, R446, R447, R448, R449, R457) -/
def Obligations.SecurityFrame : Prop :=
  (∀ (src : Option (Fin 8)) (s t : State), exec (.challenge src) s = .next t →
      Safety.keeps (Safety.among (Safety.secFields ++ src.toList.flatMap (fun p => Safety.replyFields p))) s t ∧
        Safety.beyond t = Safety.beyond s) ∧
  (∀ (src : Option (Fin 8)) (token : List Byte) (s t : State), exec (.debugUser src token) s = .next t →
      Safety.keeps (Safety.among (Safety.tokenFields src)) s t ∧
        Safety.beyond t = { Safety.beyond s with freeCtr := t.freeCtr, sec := t.sec }) ∧
  (∀ (src : Option (Fin 8)) (token : List Byte) (s t : State), exec (.debugVendor src token) s = .next t →
      Safety.keeps (Safety.among (Safety.tokenFields src)) s t ∧
        Safety.beyond t = { Safety.beyond s with freeCtr := t.freeCtr, sec := t.sec }) ∧
  (∀ (src : Option (Fin 8)) (token : List Byte) (vpp : Bool) (s t : State), exec (.revoke src token vpp) s = .next t →
      Safety.keeps (Safety.among (Safety.tokenFields src)) s t ∧
        Safety.beyond t = { Safety.beyond s with freeCtr := t.freeCtr, sec := t.sec }) ∧
  (∀ (src : Option (Fin 8)) (token : List Byte) (vpp : Bool) (s t : State), exec (.addKey src token vpp) s = .next t →
      Safety.keeps (Safety.among (Safety.tokenFields src)) s t ∧
        Safety.beyond t = { Safety.beyond s with freeCtr := t.freeCtr, sec := t.sec }) ∧
  (∀ (src : Option (Fin 8)) (token : List Byte) (vpp : Bool) (s t : State), exec (.return src token vpp) s = .next t →
      Safety.keeps (Safety.among (Safety.tokenFields src)) s t ∧
        Safety.beyond t = { Safety.beyond s with freeCtr := t.freeCtr, sec := t.sec }) ∧
  (∀ (s t : State), exec .vendorWipeDone s = .next t →
      Safety.keeps (Safety.among (I.DEBUG :: (List.range 8).map I.CH_FILL ++ Safety.opFields s ++ Safety.sources [E.secDebugOpen])) s t ∧
        Safety.beyond t = { Safety.beyond s with dram := t.dram, trayBad := t.trayBad, keep := t.keep, dramBad := t.dramBad, wrQ := t.wrQ, tray := t.tray, refs := t.refs, sec := t.sec } ∧
        Safety.keepOutside keepUser keepUserLen s t) ∧
  (∀ (p : Fin 8) (s t : State), exec (.attest p) s = .next t →
      Safety.keeps (Safety.among ([R.SEC_EVT_LMS_BAD] ++ Safety.secFields ++ Safety.replyFields p ++ Safety.sources [E.secLmsBad, E.secLmsLow])) s t ∧
        Safety.beyond t = { Safety.beyond s with keep := t.keep, freeCtr := t.freeCtr, sec := t.sec } ∧
        Safety.keepOutside (keepLms 0) (keepLink + linkLen - keepLms 0) s t) ∧
  (∀ (p : Fin 8) (s t : State), exec (.getId p) s = .next t →
      Safety.keeps (Safety.among (Safety.trayFields ++ Safety.secFields ++ Safety.replyFields p)) s t ∧
        Safety.beyond t = { Safety.beyond s with trayBad := t.trayBad, tray := t.tray } ∧
        Safety.trayOutside (Safety.asked s p 1) 157 s t) ∧
  (∀ (p : Fin 8) (vpp : Bool) (s t : State), exec (.provision p vpp) s = .next t →
      Safety.keeps (Safety.among (Safety.trayFields ++ Safety.secFields ++ Safety.replyFields p)) s t ∧
        Safety.beyond t = { Safety.beyond s with sec := t.sec }) ∧
  (∀ (p : Fin 8) (vpp : Bool) (s t : State), exec (.deploy p vpp) s = .next t →
      Safety.keeps (Safety.among (Safety.secFields ++ Safety.replyFields p)) s t ∧
        Safety.beyond t = { Safety.beyond s with sec := t.sec }) ∧
  (∀ (p : Fin 8) (vpp : Bool) (s t : State), exec (.svnCommit p vpp) s = .next t →
      Safety.keeps (Safety.among (Safety.secFields ++ Safety.replyFields p)) s t ∧
        Safety.beyond t = { Safety.beyond s with sec := t.sec }) ∧
  (∀ (p : Fin 8) (s t : State), exec (.debugClose p) s = .next t →
      Safety.keeps (Safety.among ([I.DEBUG] ++ Safety.secFields ++ Safety.replyFields p ++ Safety.sources [E.secDebugClose])) s t ∧
        Safety.beyond t = Safety.beyond s) ∧
  (∀ (s t : State), exec .secDone s = .next t →
      Safety.keeps (Safety.among (Safety.trayFields ++ Safety.opFields s)) s t ∧
        Safety.beyond t = { Safety.beyond s with trayBad := t.trayBad, tray := t.tray, sec := t.sec } ∧
        Safety.trayOutside ((s.sec.op.map (fun o => o.addr)).getD 0) 4096 s t) ∧
  (∀ (ok : Bool) (s t : State), exec (.fuseBurnDone ok) s = .next t →
      Safety.keeps (Safety.among (Safety.opFields s ++ Safety.sources [E.secLifecycle, E.secRevoke, E.secSvn])) s t ∧
        Safety.beyond t = { Safety.beyond s with keep := t.keep, fuses := t.fuses, sec := t.sec } ∧
        Safety.keepOutside keepIdentity 157 s t) ∧
  (∀ (s t : State), exec .secWatchdog s = .next t →
      Safety.keeps (Safety.among ([R.SEC_EVT_SEC_RESTART] ++ Safety.opFields s ++ Safety.agentFields 5 ++ Safety.sources [E.secRestart])) s t ∧
        Safety.beyond t = { Safety.beyond s with fuses := t.fuses, freeCtr := t.freeCtr, sec := t.sec } ∧
        Safety.fusesButCut s t) ∧
  (∀ (op : Byte) (s t : State), exec (.jtagInstruction op) s = .next t →
      Safety.keeps (Safety.among ([I.JTAG_IR, R.SEC_EVT_JTAG_DENY] ++ Safety.sources [E.secJtagDeny])) s t ∧
        Safety.beyond t = Safety.beyond s)

/-- Whenever a command of the power states answers a next state, the registers of every block but those that the state
drains, gates or restarts, and but for the fields listed, hold their values, and so does what the state holds beyond
them but for the parts named; the entry into OFF leaves the keep store and what a core reset leaves. A temperature
sample that shuts nothing down touches only the blocks of the sensors, of the exposure schedule and of AON; one that
does leaves what a warm reset leaves. Throttle steps touch their own fields and the two ports' slots. (spec R22, R452,
R453, R454, R455, R460, R461, R463, R464, R465, R466, R467) -/
def Obligations.PowerFrame : Prop :=
  (∀ (wake : BitVec 5) (s t : State), exec (.pwrRun wake) s = .next t →
      Safety.keeps (Safety.inBlocks [8, 9, 13, 15] (Safety.resumeFields ++ [R.PWR_REQ_WAKE_TRG, R.PWR_STAT_REFUSED] ++ Safety.retireFields ++ Safety.rangeFields 0 ++ Safety.sources [E.pwrRefused])) s t ∧
        Safety.beyond t = { Safety.beyond s with strms := t.strms, dmas := t.dmas, jobs := t.jobs, trayBad := t.trayBad, tray := t.tray, clogQ := t.clogQ, canv := t.canv, flits := t.flits } ∧
        Safety.trayOf [8, 9, 15] s t) ∧
  (∀ (wake : BitVec 5) (s t : State), exec (.pwrHold wake) s = .next t →
      Safety.keeps (Safety.inBlocks [8, 9, 13, 15] (Safety.resumeFields ++ [R.PWR_REQ_WAKE_TRG, R.PWR_STAT_REFUSED] ++ Safety.retireFields ++ Safety.rangeFields 0 ++ Safety.sources [E.pwrRefused])) s t ∧
        Safety.beyond t = { Safety.beyond s with strms := t.strms, dmas := t.dmas, jobs := t.jobs, trayBad := t.trayBad, tray := t.tray, clogQ := t.clogQ, canv := t.canv, flits := t.flits } ∧
        Safety.trayOf [8, 9, 15] s t) ∧
  (∀ (wake : BitVec 5) (s t : State), exec (.pwrDoze wake) s = .next t →
      Safety.keeps (Safety.inBlocks [8, 9, 13, 15] (Safety.resumeFields ++ [R.PWR_REQ_WAKE_TRG, R.PWR_STAT_REFUSED] ++ Safety.retireFields ++ Safety.rangeFields 0 ++ Safety.sources [E.pwrRefused])) s t ∧
        Safety.beyond t = { Safety.beyond s with strms := t.strms, dmas := t.dmas, jobs := t.jobs, trayBad := t.trayBad, tray := t.tray, clogQ := t.clogQ, canv := t.canv, flits := t.flits } ∧
        Safety.trayOf [8, 9, 15] s t) ∧
  (∀ (wake : BitVec 5) (s t : State), exec (.pwrOff wake) s = .next t →
      Safety.keeps (Safety.inBlocks [8, 9, 13, 15] (Safety.resumeFields ++ [R.PWR_REQ_WAKE_TRG, R.PWR_STAT_REFUSED] ++ Safety.retireFields ++ Safety.rangeFields 0 ++ Safety.sources [E.pwrRefused])) s t ∧
        Safety.beyond t = { Safety.beyond s with strms := t.strms, dmas := t.dmas, jobs := t.jobs, trayBad := t.trayBad, tray := t.tray, clogQ := t.clogQ, canv := t.canv, flits := t.flits } ∧
        Safety.trayOf [8, 9, 15] s t) ∧
  (∀ (s t : State), exec .powerDrained s = .next t →
      Safety.survives .full [R.POWER_ON_COUNT] s t ∧
        t.keep = s.keep ∧
        t.pending = s.pending ∧
        Safety.fusesButCut s t) ∧
  (∀ (s t : State), exec .powerDrained s = .next t →
      s.get R.PWR_STAT_TARGET = pwHold ∨ s.get R.PWR_STAT_TARGET = pwDoze →
      Safety.keeps (Safety.inBlocks [1, 2, 3, 4, 5, 6, 7, 8, 9, 10, 11, 12, 13, 14, 15, 18] (Safety.powerFields ++ Safety.substFields ++ [R.PWR_STAT_DRAIN_CUT])) s t ∧
        Safety.beyond t = { Safety.beyond s with decs := t.decs, dram := t.dram, strms := t.strms, rxs := t.rxs, quarantine := t.quarantine, decJobs := t.decJobs, dmas := t.dmas, jobs := t.jobs, trayBad := t.trayBad, hdrs := t.hdrs, lays := t.lays, trims := t.trims, dramBad := t.dramBad, grids := t.grids, auds := t.auds, recd := t.recd, uanc := t.uanc, wrQ := t.wrQ, cal := t.cal, frames := t.frames, tray := t.tray, unders := t.unders, clogQ := t.clogQ, freeCtr := t.freeCtr, lnk := t.lnk, txns := t.txns, canv := t.canv, flows := t.flows, dfls := t.dfls, tsq := t.tsq, binds := t.binds, imgs := t.imgs, flits := t.flits, rows := t.rows }) ∧
  (∀ (s t : State), exec .powerDrainTimeout s = .next t →
      Safety.survives .full [R.POWER_ON_COUNT] s t ∧
        t.keep = s.keep ∧
        t.pending = s.pending ∧
        Safety.fusesButCut s t) ∧
  (∀ (s t : State), exec .powerDrainTimeout s = .next t →
      s.get R.PWR_STAT_TARGET = pwHold ∨ s.get R.PWR_STAT_TARGET = pwDoze →
      Safety.keeps (Safety.inBlocks [1, 2, 3, 4, 5, 6, 7, 8, 9, 10, 11, 12, 13, 14, 15, 18] (Safety.powerFields ++ Safety.substFields ++ [R.PWR_STAT_DRAIN_CUT])) s t ∧
        Safety.beyond t = { Safety.beyond s with decs := t.decs, dram := t.dram, strms := t.strms, rxs := t.rxs, quarantine := t.quarantine, decJobs := t.decJobs, dmas := t.dmas, jobs := t.jobs, trayBad := t.trayBad, hdrs := t.hdrs, lays := t.lays, trims := t.trims, dramBad := t.dramBad, grids := t.grids, auds := t.auds, recd := t.recd, uanc := t.uanc, wrQ := t.wrQ, cal := t.cal, frames := t.frames, tray := t.tray, unders := t.unders, clogQ := t.clogQ, freeCtr := t.freeCtr, lnk := t.lnk, txns := t.txns, canv := t.canv, flows := t.flows, dfls := t.dfls, tsq := t.tsq, binds := t.binds, imgs := t.imgs, flits := t.flits, rows := t.rows }) ∧
  (∀ (s t : State), exec .dozeMemRestored s = .next t →
      Safety.keeps (Safety.inBlocks [14, 16, 18] ([R.PWR_STAT_IMAGE_WAIT])) s t ∧
        Safety.beyond t = { Safety.beyond s with trims := t.trims, clogQ := t.clogQ, flits := t.flits }) ∧
  (∀ (obj : List Byte) (s t : State), exec (.dozeImageChecked obj) s = .next t →
      Safety.keeps (Safety.inBlocks [0, 1, 2, 3, 4, 5, 6, 7, 8, 9, 10, 11, 12, 13, 14, 15, 16, 18] ([])) s t ∧
        Safety.beyond t = { Safety.beyond s with decs := t.decs, dram := t.dram, strms := t.strms, rxs := t.rxs, quarantine := t.quarantine, decJobs := t.decJobs, dmas := t.dmas, jobs := t.jobs, trayBad := t.trayBad, hdrs := t.hdrs, lays := t.lays, trims := t.trims, dramBad := t.dramBad, grids := t.grids, auds := t.auds, recd := t.recd, uanc := t.uanc, wrQ := t.wrQ, cal := t.cal, frames := t.frames, tray := t.tray, unders := t.unders, clogQ := t.clogQ, freeCtr := t.freeCtr, lnk := t.lnk, txns := t.txns, canv := t.canv, flows := t.flows, dfls := t.dfls, tsq := t.tsq, binds := t.binds, imgs := t.imgs, flits := t.flits, lumas := t.lumas, strg := t.strg }) ∧
  (∀ (l : List TempSample) (s t : State), exec (.thmSample l) s = .next t →
      (t.get I.DEV = s.get I.DEV → Safety.keeps (Safety.inBlocks [1, 15, 16] []) s t ∧ Safety.beyond t = Safety.beyond s) ∧
        Safety.survives .full [] s t ∧
        t.keep = s.keep ∧
        Safety.fusesButCut s t) ∧
  (∀ (n : Fin 24) (s t : State), exec (.sensorTimeout n) s = .next t →
      (t.get I.DEV = s.get I.DEV → Safety.keeps (Safety.inBlocks [1, 15, 16] []) s t ∧ Safety.beyond t = Safety.beyond s) ∧
        Safety.survives .full [] s t ∧
        t.keep = s.keep ∧
        Safety.fusesButCut s t) ∧
  (∀ (s t : State), exec .graceExpiry s = .next t →
      Safety.keeps (Safety.among ([R.REF_STAT_REPHASE, R.THM_EVT_STEP_EV, R.THM_STAT_FRDIV_NA, R.THM_STAT_GRACE, R.THM_STAT_STEP] ++ (List.range 2).flatMap (fun p => [I.EXS_PREV p, I.EXS_SLOT p]) ++ Safety.sources [E.refRephase, E.thmFrdivNa, E.thmStep])) s t ∧
        Safety.beyond t = Safety.beyond s) ∧
  (∀ (s t : State), exec .thmStepTimer s = .next t →
      Safety.keeps (Safety.among ([I.PIN_THERM, R.REF_STAT_REPHASE, R.THM_EVT_STEP_EV, R.THM_STAT_FRDIV_NA, R.THM_STAT_STEP] ++ (List.range 2).flatMap (fun p => [I.EXS_PREV p, I.EXS_SLOT p]) ++ Safety.sources [E.refRephase, E.thmFrdivNa, E.thmStep])) s t ∧
        Safety.beyond t = Safety.beyond s)

/-- Whenever a calibration command or service answers a next state, every register field outside the ones listed for
it holds its value and its value in force, and what the state holds beyond registers, outgoing messages and event
traces is as before but for the trims, the running routine and the parts named. A service writes the Tray or the keep
store only in the bytes that its request names; a save only in the copy that is not in use. (spec R22, R471, R473,
R475, R476, R477, R478, R479, R480) -/
def Obligations.CalibrationFrame : Prop :=
  (∀ (s t : State), exec .trimWalkStep s = .next t →
      Safety.keeps (Safety.among (Safety.sources [E.calWalkDone])) s t ∧
        Safety.beyond t = { Safety.beyond s with trims := t.trims, cal := t.cal }) ∧
  (∀ (v : BitVec 16) (s t : State), exec (.trimTargetWrite v) s = .next t →
      Safety.keeps (Safety.among (Safety.retireFields ++ Safety.rangeFields 15 ++ Safety.calFields)) s t ∧
        Safety.beyond t = { Safety.beyond s with trims := t.trims, cal := t.cal }) ∧
  (∀ (vref : Bool) (s t : State), exec (.calBgr vref) s = .next t →
      Safety.keeps (Safety.among (R.CAL_EVT_BUSY :: Safety.retireFields ++ Safety.calFields)) s t ∧
        Safety.beyond t = { Safety.beyond s with trims := t.trims, cal := t.cal }) ∧
  (∀ (s t : State), exec .calXo s = .next t →
      Safety.keeps (Safety.among (R.CAL_EVT_BUSY :: Safety.retireFields ++ Safety.calFields)) s t ∧
        Safety.beyond t = { Safety.beyond s with trims := t.trims, cal := t.cal }) ∧
  (∀ (arg : BitVec 16) (s t : State), exec (.calTs arg) s = .next t →
      Safety.keeps (Safety.among (R.CAL_EVT_BUSY :: Safety.retireFields ++ Safety.calFields)) s t ∧
        Safety.beyond t = { Safety.beyond s with trims := t.trims, cal := t.cal }) ∧
  (∀ (arg : BitVec 16) (s t : State), exec (.calLane arg) s = .next t →
      Safety.keeps (Safety.among (R.CAL_EVT_BUSY :: Safety.retireFields ++ Safety.calFields)) s t ∧
        Safety.beyond t = { Safety.beyond s with trims := t.trims, cal := t.cal }) ∧
  (∀ (arg : BitVec 16) (s t : State), exec (.calPll arg) s = .next t →
      Safety.keeps (Safety.among (R.CAL_EVT_BUSY :: Safety.retireFields ++ Safety.calFields)) s t ∧
        Safety.beyond t = { Safety.beyond s with trims := t.trims, cal := t.cal }) ∧
  (∀ (s t : State), exec .calAbort s = .next t →
      Safety.keeps (Safety.among (Safety.retireFields ++ Safety.calFields)) s t ∧
        Safety.beyond t = { Safety.beyond s with trims := t.trims, cal := t.cal }) ∧
  (∀ (mean : BitVec 32) (s t : State), exec (.xoRound mean) s = .next t →
      Safety.keeps (Safety.among (Safety.calFields)) s t ∧
        Safety.beyond t = { Safety.beyond s with trims := t.trims, cal := t.cal }) ∧
  (∀ (codes : List (Fin 7 × BitVec 16 × BitVec 16)) (s t : State), exec (.calConverged codes) s = .next t →
      Safety.keeps (Safety.among (Safety.calFields)) s t ∧
        Safety.beyond t = { Safety.beyond s with trims := t.trims, cal := t.cal }) ∧
  (∀ (s t : State), exec .calRoutineTimeout s = .next t →
      Safety.keeps (Safety.among (Safety.calFields)) s t ∧
        Safety.beyond t = { Safety.beyond s with trims := t.trims, cal := t.cal }) ∧
  (∀ (s t : State), exec .calPrecondLost s = .next t →
      Safety.keeps (Safety.among (Safety.calFields)) s t ∧
        Safety.beyond t = { Safety.beyond s with trims := t.trims, cal := t.cal }) ∧
  (∀ (p : Fin 8) (s t : State), exec (.calExport p) s = .next t →
      Safety.keeps (Safety.among (Safety.trayFields ++ Safety.replyFields p)) s t ∧
        Safety.beyond t = { Safety.beyond s with trayBad := t.trayBad, tray := t.tray } ∧
        Safety.trayOutside (Safety.asked s p 1) (s.calCopy (s.get R.KEEP_STAT_COPY)).length s t) ∧
  (∀ (p : Fin 8) (readBack : Bool) (s t : State), exec (.calImport p readBack) s = .next t →
      Safety.keeps (Safety.among ([R.KEEP_GEN_GEN, R.KEEP_STAT_COPY, R.KEEP_STAT_WRITE_ERR] ++ Safety.trayFields ++ Safety.replyFields p ++ Safety.sources [E.keepImportRefused, E.keepSaved, E.keepWriteErr])) s t ∧
        Safety.beyond t = { Safety.beyond s with keep := t.keep, trims := t.trims } ∧
        Safety.keepOutside (calBase (1 - s.get R.KEEP_STAT_COPY)) (max 0x20000 (64 + 8 * fieldLE (s.trayRead (Safety.asked s p 1) 8) 6 2)) s t) ∧
  (∀ (p : Fin 8) (readBack : Bool) (s t : State), exec (.calSave p readBack) s = .next t →
      Safety.keeps (Safety.among ([R.KEEP_GEN_GEN, R.KEEP_STAT_COPY, R.KEEP_STAT_WRITE_ERR] ++ Safety.replyFields p ++ Safety.sources [E.keepSaved, E.keepWriteErr])) s t ∧
        Safety.beyond t = { Safety.beyond s with keep := t.keep } ∧
        Safety.keepOutside (calBase (1 - s.get R.KEEP_STAT_COPY)) (max 0x20000 (64 + 8 * s.trims.length)) s t) ∧
  (∀ (p : Fin 8) (s t : State), exec (.userRead p) s = .next t →
      Safety.keeps (Safety.among (Safety.trayFields ++ Safety.replyFields p)) s t ∧
        Safety.beyond t = { Safety.beyond s with trayBad := t.trayBad, tray := t.tray } ∧
        Safety.trayOutside (Safety.asked s p 1) (Safety.asked s p 3) s t) ∧
  (∀ (p : Fin 8) (readBack : Bool) (s t : State), exec (.userWrite p readBack) s = .next t →
      Safety.keeps (Safety.among ([R.KEEP_STAT_WRITE_ERR] ++ Safety.trayFields ++ Safety.replyFields p ++ Safety.sources [E.keepWriteErr])) s t ∧
        Safety.beyond t = { Safety.beyond s with keep := t.keep } ∧
        Safety.keepOutside (userBase + Safety.asked s p 2) (Safety.asked s p 3) s t)

/-- Whenever a command of a patch or of the boot answers a next state, the registers of every block but those that it
loads, resets or restarts, and but for the fields listed, hold their values and their values in force, and so does
what the state holds beyond registers, outgoing messages and event traces but for the parts named. A step of the boot
that stores an object changes the Tray in the object's bytes alone; a patch writes its window. (spec R22, R52, R66,
R68, R69, R70, R473, R534, R535, R536, R537, R539) -/
def Obligations.PatchBootFrame : Prop :=
  (∀ (s t : State), exec .patchGo s = .next t →
      Safety.keeps (Safety.among ([R.PATCH_DETAIL_RECORD, R.PATCH_DETAIL_SECT, R.PATCH_STAT_BUSY_GO, R.PATCH_STAT_CODE, R.PATCH_STAT_DRAINED, R.PATCH_STAT_STATE] ++ Safety.retireFields ++ Safety.trayFields ++ Safety.recordFields 0)) s t ∧
        Safety.beyond t = { Safety.beyond s with jobs := t.jobs, clogQ := t.clogQ, patch := t.patch }) ∧
  (∀ (s t : State), exec .patchAbort s = .next t →
      Safety.keeps (Safety.inBlocks [8, 9, 13, 15] ([R.PATCH_STAT_CODE, R.PATCH_STAT_DRAINED, R.PATCH_STAT_STATE] ++ Safety.resumeFields ++ Safety.recordFields 0 ++ Safety.sources [E.patchAbandon] ++ Safety.retireFields)) s t ∧
        Safety.beyond t = { Safety.beyond s with strms := t.strms, dmas := t.dmas, jobs := t.jobs, trayBad := t.trayBad, tray := t.tray, clogQ := t.clogQ, canv := t.canv, flits := t.flits } ∧
        Safety.trayOf [8, 9, 15] s t) ∧
  (∀ (s t : State), exec .patchVerifyDone s = .next t →
      Safety.keeps (Safety.inBlocks [8, 9, 13, 15] ([R.PATCH_DETAIL_RECORD, R.PATCH_DETAIL_SECT, R.PATCH_STAT_CODE, R.PATCH_STAT_DRAINED, R.PATCH_STAT_STATE] ++ Safety.resumeFields ++ Safety.recordFields 0 ++ Safety.sources [E.patchAbandon, E.patchReject])) s t ∧
        Safety.beyond t = { Safety.beyond s with strms := t.strms, dmas := t.dmas, jobs := t.jobs, trayBad := t.trayBad, tray := t.tray, clogQ := t.clogQ, patch := t.patch, canv := t.canv, flits := t.flits } ∧
        Safety.trayOf [0, 8, 9, 15] s t) ∧
  (∀ (s t : State), exec .patchCheckDone s = .next t →
      Safety.keeps (Safety.inBlocks [8, 9, 10, 13, 15] ([R.PATCH_TAG_T] ++ [R.PATCH_DETAIL_RECORD, R.PATCH_DETAIL_SECT, R.PATCH_STAT_CODE, R.PATCH_STAT_DRAINED, R.PATCH_STAT_STATE] ++ Safety.resumeFields ++ Safety.recordFields 0 ++ Safety.sources [E.patchAbandon, E.patchReject] ++ Safety.recordFields 10)) s t ∧
        Safety.beyond t = { Safety.beyond s with strms := t.strms, dmas := t.dmas, jobs := t.jobs, trayBad := t.trayBad, recd := t.recd, tray := t.tray, clogQ := t.clogQ, patch := t.patch, canv := t.canv, flits := t.flits } ∧
        Safety.trayOf [8, 9, 15] s t) ∧
  (∀ (s t : State), exec .patchDrainTimeout s = .next t →
      Safety.keeps (Safety.inBlocks [8, 9, 13, 15] ([R.PATCH_STAT_CODE, R.PATCH_STAT_DRAINED, R.PATCH_STAT_STATE] ++ Safety.resumeFields ++ Safety.recordFields 0 ++ Safety.sources [E.patchAbandon])) s t ∧
        Safety.beyond t = { Safety.beyond s with strms := t.strms, dmas := t.dmas, jobs := t.jobs, trayBad := t.trayBad, tray := t.tray, clogQ := t.clogQ, canv := t.canv, flits := t.flits } ∧
        Safety.trayOf [8, 9, 15] s t) ∧
  (∀ (s t : State), exec .patchRestring s = .next t →
      bit s.patch.hdr.rodMask 0 = false →
      Safety.keeps (Safety.inBlocks [1, 2, 3, 4, 5, 6, 7, 8, 9, 10, 11, 12, 13, 14, 15, 16, 18] ([R.PATCH_STAT_DRAINED, R.PATCH_STAT_STATE] ++ Safety.substFields)) s t ∧
        Safety.beyond t = { Safety.beyond s with decs := t.decs, dram := t.dram, strms := t.strms, rxs := t.rxs, quarantine := t.quarantine, decJobs := t.decJobs, dmas := t.dmas, jobs := t.jobs, trayBad := t.trayBad, hdrs := t.hdrs, lays := t.lays, trims := t.trims, dramBad := t.dramBad, grids := t.grids, auds := t.auds, recd := t.recd, uanc := t.uanc, wrQ := t.wrQ, cal := t.cal, frames := t.frames, tray := t.tray, unders := t.unders, clogQ := t.clogQ, freeCtr := t.freeCtr, lnk := t.lnk, txns := t.txns, canv := t.canv, flows := t.flows, dfls := t.dfls, tsq := t.tsq, binds := t.binds, imgs := t.imgs, flits := t.flits, lumas := t.lumas }) ∧
  (∀ (s t : State), exec .patchDone s = .next t →
      bit s.patch.hdr.rodMask 0 = false →
      Safety.keeps (Safety.inBlocks [1, 2, 3, 4, 5, 6, 7, 8, 9, 10, 11, 12, 13, 14, 15, 16, 18] ([R.PATCH_STAT_CODE, R.PATCH_STAT_STATE, R.DROP_STAT_DROPPED, R.DROP_STAT_STREAM, R.DROP_STAT_CNT] ++ (List.range 12).map I.PATCH_DIG ++ (List.range 16).map R.ROD_SRC_ID ++ Safety.substFields ++ Safety.powerFields ++ Safety.laneFields ++ Safety.recordFields 0 ++ Safety.sources [E.patchDone, E.strgDrop])) s t ∧
        Safety.beyond t = { Safety.beyond s with decs := t.decs, dram := t.dram, strms := t.strms, rxs := t.rxs, quarantine := t.quarantine, decJobs := t.decJobs, dmas := t.dmas, jobs := t.jobs, trayBad := t.trayBad, hdrs := t.hdrs, lays := t.lays, trims := t.trims, dramBad := t.dramBad, grids := t.grids, auds := t.auds, recd := t.recd, uanc := t.uanc, wrQ := t.wrQ, cal := t.cal, frames := t.frames, tray := t.tray, unders := t.unders, clogQ := t.clogQ, freeCtr := t.freeCtr, lnk := t.lnk, txns := t.txns, canv := t.canv, flows := t.flows, dfls := t.dfls, tsq := t.tsq, binds := t.binds, imgs := t.imgs, flits := t.flits, lumas := t.lumas, strg := t.strg }) ∧
  (∀ (s t : State), exec .bootStart s = .next t →
      Safety.keeps (Safety.among ([I.BOOT_EV, I.BOOT_STEP, I.BOOT_T, I.DEV, R.KEEP_GEN_GEN, R.KEEP_STAT_CAL_BAD, R.KEEP_STAT_COPY] ++ (List.range 4).flatMap (fun l => R.LN_STAT_STATE 0 l :: laneFresh 0 l) ++ Safety.sources [E.keepCalBad, E.thermRestart, E.warmReset])) s t ∧
        Safety.beyond t = { Safety.beyond s with trims := t.trims, freeCtr := t.freeCtr, sec := t.sec }) ∧
  (∀ (dir : List Byte) (s t : State), exec (.flashDirRead dir) s = .next t →
      Safety.keeps (Safety.among ([I.BOOT_COPY, R.BOOT_STAT_DIR_BAD, R.BOOT_STAT_STATE] ++ (List.range 4).map I.BOOT_DIR)) s t ∧
        Safety.beyond t = Safety.beyond s) ∧
  (∀ (s t : State), exec .fwGo s = .next t →
      Safety.keeps (Safety.among ([R.BOOT_STAT_GO_IGN, R.BOOT_STAT_STATE] ++ Safety.retireFields)) s t ∧
        Safety.beyond t = Safety.beyond s) ∧
  (∀ (s t : State), exec .imgGo s = .next t →
      Safety.keeps (Safety.among ([R.BOOT_STAT_GO_IGN, R.BOOT_STAT_STATE] ++ Safety.retireFields)) s t ∧
        Safety.beyond t = Safety.beyond s) ∧
  (∀ (obj : List Byte) (s t : State), exec (.fwReadDone obj) s = .next t →
      Safety.keeps (Safety.among ([I.BOOT_COPY, I.BOOT_STEP, I.KEEP_RESTARTS, R.BOOT_STAT_FW_SRC, R.BOOT_STAT_STATE, R.FW_STAT_CODE, R.FW_STAT_SVN, R.DB_STAT_B 0 0] ++ (List.range 12).map I.FW_DIG ++ (List.range 4).map I.CORE_RUN ++ Safety.sources [E.doorbell])) s t ∧
        Safety.beyond t = Safety.beyond s) ∧
  (∀ (obj : List Byte) (s t : State), exec (.imgReadDone obj) s = .next t →
      Safety.keeps (Safety.among ([I.BOOT_COPY, I.BOOT_STEP, R.BOOT_STAT_STATE, R.LOAD_STAT_CODE, R.LOAD_STAT_RECORD, R.LOAD_STAT_SECT] ++ Safety.trayFields ++ Safety.sources [E.bootImgFail])) s t ∧
        Safety.beyond t = { Safety.beyond s with trayBad := t.trayBad, img := t.img, tray := t.tray } ∧
        Safety.trayOutside 0 (min obj.length (4 * 2 ^ 20)) s t) ∧
  (∀ (s t : State), exec .imgUnpackDone s = .next t →
      Safety.keeps (Safety.among (I.BOOT_STEP :: Safety.trayFields)) s t ∧
        Safety.beyond t = { Safety.beyond s with trayBad := t.trayBad, tray := t.tray } ∧
        Safety.trayOutside stageBody s.img.body.length s t) ∧
  (∀ (s t : State), exec .imgCheckDone s = .next t →
      Safety.keeps (Safety.among ([I.BOOT_COPY, I.BOOT_STEP, R.BOOT_STAT_STATE, R.LOAD_STAT_CODE, R.LOAD_STAT_RECORD, R.LOAD_STAT_SECT] ++ (List.range 16).map I.PWR_ON ++ (List.range 8).map R.CH_STAT_STATE ++ Safety.sources [E.bootImgFail])) s t ∧
        Safety.beyond t = { Safety.beyond s with trims := t.trims, img := t.img, strg := t.strg }) ∧
  (∀ (found : List Nat) (bad : List (Fin 8 × Fin 4)) (s t : State), exec (.memTrainDone found bad) s = .next t →
      Safety.keeps (Safety.among ([I.BOOT_COPY, I.BOOT_STEP, R.BOOT_STAT_STATE, R.LOAD_STAT_CODE, R.LOAD_STAT_RECORD, R.LOAD_STAT_SECT] ++ (List.range 16).map I.PWR_ON ++ (List.range 8).flatMap (fun c => [I.CH_NA c 0, I.CH_NA c 1, I.CH_NA c 2, I.CH_NA c 3, R.CH_EVT_TRAIN_FAIL c, R.CH_STAT_RATE c, R.CH_STAT_SP c, R.CH_STAT_STATE c]) ++ Safety.sources (E.bootImgFail :: (List.range 8).map E.memTrainFail))) s t ∧
        Safety.beyond t = { Safety.beyond s with img := t.img, strg := t.strg }) ∧
  (∀ (s t : State), exec .bootReady s = .next t →
      Safety.keeps (Safety.inBlocks [0, 1, 2, 3, 4, 5, 6, 7, 8, 9, 10, 11, 12, 13, 14, 15, 16, 18] ([])) s t ∧
        Safety.beyond t = { Safety.beyond s with strms := t.strms, decJobs := t.decJobs, dmas := t.dmas, jobs := t.jobs, trayBad := t.trayBad, hdrs := t.hdrs, lays := t.lays, strung := t.strung, uanc := t.uanc, tray := t.tray, unders := t.unders, clogQ := t.clogQ, freeCtr := t.freeCtr, canv := t.canv, flits := t.flits } ∧
        Safety.trayOf [0, 8, 9, 11, 15] s t)

/-- Each payload bit is the XOR of the line bit with those 39 and 58 bits before it on the lane, whatever the lane
carried before, and descrambling and scrambling undo each other. A block whose line word is the scrambled form of
eight bytes reads as those bytes: as a data block under header 0b01, by its type byte under header 0b10 (0x1E IDLE,
0x2D TS, 0x4B AM, 0x55 EIDLE, 0x78 SOP, 0xE1 EOP, any other type invalid), and as invalid under 0b00 and 0b11. An SOP
block with a good HCRC, its LEN data blocks and an EOP block with the same PTYPE and a good CRC-32C, with any reserved
bytes in the EOP (which the model does not check, log 407), make the packet with that PTYPE, LEN, ARG and payload and
no error, whatever blocks follow. (spec R99, R100, R101, R102, R103) -/
def Obligations.LinkBlocksReadAsSent : Prop :=
  (∀ (prev : BitVec 58) (line : BitVec 64) (i : Nat), i < 64 →
    (descramble prev line).getLsbD i =
      (((line ++ prev).getLsbD (i + 58) ^^ (line ++ prev).getLsbD (i + 19)) ^^ (line ++ prev).getLsbD i)) ∧
  (∀ (prev : BitVec 58) (w : BitVec 64), descramble prev (scramble prev w) = w ∧ scramble prev (descramble prev w) = w) ∧
  (∀ (h : BitVec 2) (prev : BitVec 58) (d : List Byte), d.length = 8 →
    blockOf ⟨h, prev, scramble prev (BitVec.ofNat 64 (leNat d))⟩ =
      (if h = 1 then .data d
       else if h ≠ 2 then .bad
       else if d.head? = some 0x1E then .idle
       else if d.head? = some 0x2D then .ts d
       else if d.head? = some 0x4B then .am d
       else if d.head? = some 0x55 then .eidle
       else if d.head? = some 0x78 then .sop d
       else if d.head? = some 0xE1 then .eop d
       else .bad)) ∧
  (∀ (ptype len arg : Nat) (words : List (List Byte)) (reserved : List Byte) (after : List Blk),
    ptype < 2 ^ 8 → len < 2 ^ 16 → arg < 2 ^ 24 → words.length = len → (∀ w ∈ words, w.length = 8) → reserved.length = 2 →
    ∀ head sop eop : List Byte, head = leBytes 1 ptype ++ leBytes 2 len ++ leBytes 3 arg →
      sop = 0x78 :: head ++ leBytes 1 (crc8 head) →
      eop = 0xE1 :: leBytes 1 ptype ++ reserved ++ leBytes 4 (crc32c (head ++ words.flatten)) →
      pktOf sop (words.map .data ++ .eop eop :: after) = ⟨ptype, len, arg, words.flatten, none⟩)

end
end

