-- ==== Sys2Proof/Laws/Store.lean ====
section
/-!
SUPPORT. Laws of the sparse stores: reading after writing, and the canonical form, which every operation keeps.
-/

namespace Sys2Proof.Machine

section Generic

variable {κ ν : Type} [DecidableEq κ] {lt : κ → κ → Bool} {d : ν}

theorem mapGet_erase_same (m : List (κ × ν)) (k : κ) : mapGet d (mapErase m k) k = d := by
  induction m with
  | nil => rfl
  | cons e t ih =>
    by_cases h : e.1 = k
    · simpa [mapErase, h] using ih
    · simpa [mapErase, h, mapGet] using ih

theorem mapGet_erase_other (m : List (κ × ν)) {k j : κ} (h : j ≠ k) :
    mapGet d (mapErase m k) j = mapGet d m j := by
  induction m with
  | nil => rfl
  | cons e t ih =>
    by_cases hk : e.1 = k
    · have hj : ¬ e.1 = j := fun e' => h (e'.symm.trans hk)
      rw [show mapErase (e :: t) k = mapErase t k by simp [mapErase, hk], ih]
      simp [mapGet, hj]
    · rw [show mapErase (e :: t) k = e :: mapErase t k by simp [mapErase, hk]]
      simp [mapGet, ih]

theorem mapGet_ins_same (m : List (κ × ν)) (k : κ) (v : ν) (h : ∀ e ∈ m, e.1 ≠ k) :
    mapGet d (mapIns lt m k v) k = v := by
  induction m with
  | nil => simp [mapIns, mapGet]
  | cons e t ih =>
    unfold mapIns
    split
    · simp [mapGet]
    · have := h e (by simp)
      simp [mapGet, this, ih (fun e he => h e (by simp [he]))]

theorem mapGet_ins_other (m : List (κ × ν)) {k j : κ} (v : ν) (h : j ≠ k) :
    mapGet d (mapIns lt m k v) j = mapGet d m j := by
  induction m with
  | nil => simp [mapIns, mapGet, Ne.symm h]
  | cons e t ih =>
    unfold mapIns
    split
    · simp [mapGet, Ne.symm h]
    · simp [mapGet, ih]

theorem mem_mapErase {m : List (κ × ν)} {k : κ} {e : κ × ν} : e ∈ mapErase m k ↔ e ∈ m ∧ e.1 ≠ k := by
  simp [mapErase]

/-- A key reads as it was written. -/
@[simp] theorem mapGet_set_same [DecidableEq ν] (m : List (κ × ν)) (k : κ) (v : ν) : mapGet d (mapSet lt d m k v) k = v := by
  unfold mapSet
  split
  · next h => rw [mapGet_erase_same, h]
  · exact mapGet_ins_same _ _ _ (fun e he => (mem_mapErase.1 he).2)

/-- Writing a key leaves every other key as it was. -/
theorem mapGet_set_other [DecidableEq ν] (m : List (κ × ν)) {k j : κ} (d' : ν) (v : ν) (h : j ≠ k) :
    mapGet d' (mapSet lt d m k v) j = mapGet d' m j := by
  unfold mapSet
  split
  · exact mapGet_erase_other _ h
  · rw [mapGet_ins_other _ _ h, mapGet_erase_other _ h]

theorem mem_mapIns {m : List (κ × ν)} {k : κ} {v : ν} {e : κ × ν} :
    e ∈ mapIns lt m k v ↔ e = (k, v) ∨ e ∈ m := by
  induction m with
  | nil => simp [mapIns]
  | cons x t ih =>
    unfold mapIns
    split
    · simp
    · simp only [List.mem_cons, ih]; tauto

omit [DecidableEq κ] in
theorem mapSorted_cons {e : κ × ν} {t : List (κ × ν)} :
    mapSorted lt (e :: t) = true ↔ (∀ x ∈ t, lt e.1 x.1 = true) ∧ mapSorted lt t = true := by
  simp [mapSorted]

omit [DecidableEq κ] in
theorem mapSorted_filter {m : List (κ × ν)} (p : κ × ν → Bool) (h : mapSorted lt m = true) :
    mapSorted lt (m.filter p) = true := by
  induction m with
  | nil => rfl
  | cons e t ih =>
    rw [mapSorted_cons] at h
    by_cases hp : p e
    · rw [List.filter_cons_of_pos hp, mapSorted_cons]
      exact ⟨fun x hx => h.1 x (List.mem_filter.1 hx).1, ih h.2⟩
    · rw [List.filter_cons_of_neg hp]
      exact ih h.2

theorem mapSorted_erase {m : List (κ × ν)} (k : κ) (h : mapSorted lt m = true) : mapSorted lt (mapErase m k) = true :=
  mapSorted_filter _ h

/-- An order as a test: transitive, and total between different keys. -/
structure StrictOrder (lt : κ → κ → Bool) : Prop where
  trans : ∀ a b c, lt a b = true → lt b c = true → lt a c = true
  total : ∀ a b, a ≠ b → lt a b = false → lt b a = true

theorem mapSorted_ins (ho : StrictOrder lt) {m : List (κ × ν)} {k : κ} (v : ν) (h : mapSorted lt m = true)
    (hk : ∀ e ∈ m, e.1 ≠ k) : mapSorted lt (mapIns lt m k v) = true := by
  induction m with
  | nil => rfl
  | cons e t ih =>
    have h' := mapSorted_cons.1 h
    unfold mapIns
    split
    · next hl =>
      refine mapSorted_cons.2 ⟨fun x hx => ?_, h⟩
      rcases List.mem_cons.1 hx with rfl | hx
      · exact hl
      · exact ho.trans _ _ _ hl (h'.1 x hx)
    · next hl =>
      refine mapSorted_cons.2 ⟨fun x hx => ?_, ih h'.2 (fun e he => hk e (by simp [he]))⟩
      rcases mem_mapIns.1 hx with rfl | hx
      · exact ho.total _ _ (Ne.symm (hk e (by simp))) (by simpa using hl)
      · exact h'.1 x hx

/-- Writing a key keeps the keys rising. -/
theorem mapSorted_set [DecidableEq ν] (ho : StrictOrder lt) {m : List (κ × ν)} (k : κ) (v : ν) (h : mapSorted lt m = true) :
    mapSorted lt (mapSet lt d m k v) = true := by
  unfold mapSet
  split
  · exact mapSorted_erase k h
  · exact mapSorted_ins ho v (mapSorted_erase k h) (fun e he => (mem_mapErase.1 he).2)

theorem mapSorted_over (ho : StrictOrder lt) (src : List (κ × ν)) {base : List (κ × ν)} (h : mapSorted lt base = true) :
    mapSorted lt (mapOver lt src base) = true := by
  induction src with
  | nil => exact h
  | cons e t ih =>
    exact mapSorted_ins ho e.2 (mapSorted_erase e.1 ih) (fun x hx => (mem_mapErase.1 hx).2)

end Generic

theorem natLt_strict : StrictOrder natLt :=
  ⟨fun a b c h g => by simp only [natLt, decide_eq_true_eq] at *; omega,
   fun a b h g => by simp only [natLt, decide_eq_true_eq, decide_eq_false_iff_not] at *; omega⟩

theorem keyLt_strict : StrictOrder keyLt := by
  refine ⟨fun a b c h g => ?_, fun a b h g => ?_⟩
  · simp only [keyLt, decide_eq_true_eq] at *; omega
  · obtain ⟨a1, a2, a3⟩ := a
    obtain ⟨b1, b2, b3⟩ := b
    simp only [keyLt, decide_eq_true_eq, decide_eq_false_iff_not, ne_eq, Prod.mk.injEq] at *
    omega

/-! ### Byte stores -/

/-- A byte reads as it was written. -/
@[simp] theorem rdByte_wr_same (m : Bytes) (a : Nat) (b : Byte) : rdByte (wrByte m a b) a = b := mapGet_set_same _ _ _

/-- Writing a byte leaves every other byte as it was. -/
theorem rdByte_wr_other (m : Bytes) {a c : Nat} (b : Byte) (h : c ≠ a) : rdByte (wrByte m a b) c = rdByte m c :=
  mapGet_set_other _ _ _ h

/-- Writing bytes leaves every byte outside them as it was. -/
theorem rdByte_wrBytes_out (d : List Byte) : ∀ (m : Bytes) (a c : Nat), (c < a ∨ a + d.length ≤ c) →
    rdByte (wrBytes m a d) c = rdByte m c := by
  induction d with
  | nil => intros; rfl
  | cons b t ih =>
    intro m a c h
    rw [wrBytes, ih _ _ _ (by simp at h; omega), rdByte_wr_other _ _ (by simp at h; omega)]

/-- Bytes written read back in their places. -/
theorem rdByte_wrBytes_in (d : List Byte) : ∀ (m : Bytes) (a i : Nat) (h : i < d.length),
    rdByte (wrBytes m a d) (a + i) = d[i] := by
  induction d with
  | nil => intro _ _ _ h; simp at h
  | cons b t ih =>
    intro m a i h
    cases i with
    | zero => rw [wrBytes, rdByte_wrBytes_out _ _ _ _ (by omega)]; simp
    | succ j =>
      have := ih (wrByte m a b) (a + 1) j (by simpa using h)
      rw [wrBytes, show a + (j + 1) = a + 1 + j by omega, this]; simp

@[simp] theorem rdBytes_length (m : Bytes) : ∀ (n a : Nat), (rdBytes m a n).length = n
  | 0, _ => rfl
  | n + 1, a => by simp [rdBytes, rdBytes_length m n]

theorem Bytes.wf_iff {m : Bytes} : Bytes.wf m = true ↔ mapSorted natLt m = true ∧ ∀ e ∈ m, e.2 ≠ 0 := by
  simp [Bytes.wf]

/-- Writing a byte keeps the canonical form. -/
theorem Bytes.wf_wrByte {m : Bytes} (a : Nat) (b : Byte) (h : Bytes.wf m = true) : Bytes.wf (wrByte m a b) = true := by
  rw [Bytes.wf_iff] at *
  refine ⟨mapSorted_set natLt_strict a b h.1, fun e he => ?_⟩
  unfold wrByte mapSet at he
  split at he
  · exact h.2 e (mem_mapErase.1 he).1
  · next hb =>
    rcases mem_mapIns.1 he with rfl | he
    · exact hb
    · exact h.2 e (mem_mapErase.1 he).1

/-- Writing bytes keeps the canonical form. -/
theorem Bytes.wf_wrBytes (d : List Byte) : ∀ (m : Bytes) (a : Nat), Bytes.wf m = true → Bytes.wf (wrBytes m a d) = true := by
  induction d with
  | nil => intro _ _ h; exact h
  | cons b t ih => intro m a h; exact ih _ _ (Bytes.wf_wrByte a b h)

/-- Taking bytes away keeps the canonical form. -/
theorem Bytes.wf_filter {m : Bytes} (p : Nat × Byte → Bool) (h : Bytes.wf m = true) : Bytes.wf (m.filter p) = true := by
  rw [Bytes.wf_iff] at *
  exact ⟨mapSorted_filter p h.1, fun e he => h.2 e (List.mem_filter.1 he).1⟩

theorem Bytes.wf_clearBytes {m : Bytes} (lo hi : Nat) (h : Bytes.wf m = true) : Bytes.wf (clearBytes m lo hi) = true :=
  Bytes.wf_filter _ h

@[simp] theorem Bytes.wf_nil : Bytes.wf [] = true := rfl

end Sys2Proof.Machine
end

