-- ==== Sys2Proof/Laws/Ops.lean ====
section
/-!
SUPPORT. Laws of the shared operations: what each may change, said once.
-/

namespace Sys2Proof.Machine

open Sys2Proof.Safety

/-! ### Reading after writing a field -/

@[simp] theorem State.get_set_same (s : State) (f : Fld) (v : Nat) : (s.set f v).get f = v % 2 ^ f.w := mapGet_set_same _ _ _

theorem State.get_set_key (s : State) {f g : Fld} (v : Nat) (h : g.key ≠ f.key) : (s.set f v).get g = s.get g :=
  mapGet_set_other _ _ _ h

/-- Writing a field leaves every field of another key as it was. -/
theorem State.get_set_other (s : State) {f g : Fld} (v : Nat) (h : ¬ (g.id = f.id ∧ g.rod = f.rod ∧ g.ix = f.ix)) :
    (s.set f v).get g = s.get g :=
  State.get_set_key s v (by rintro e; simp only [Fld.key, Prod.mk.injEq] at e; exact h ⟨e.2.1, e.1, e.2.2⟩)

theorem State.inForce_congr {s t : State} {f : Fld} (hr : t.get f = s.get f) (hi : t.inf = s.inf) : t.inForce f = s.inForce f := by
  unfold State.inForce
  rw [hi, hr]

theorem State.inForce_set_key (s : State) {f g : Fld} (v : Nat) (h : g.key ≠ f.key) : (s.set f v).inForce g = s.inForce g :=
  State.inForce_congr (State.get_set_key s v h) rfl

theorem State.inForce_set_other (s : State) {f g : Fld} (v : Nat) (h : ¬ (g.id = f.id ∧ g.rod = f.rod ∧ g.ix = f.ix)) :
    (s.set f v).inForce g = s.inForce g := State.inForce_congr (State.get_set_other s v h) rfl

theorem State.get_setInf (s : State) (f g : Fld) (v : Nat) : (s.setInf f v).get g = s.get g := rfl

@[simp] theorem State.get_emit (s : State) (o : Out) (f : Fld) : (s.emit o).get f = s.get f := rfl
@[simp] theorem State.get_drawn (s : State) (f : Fld) : s.drawn.get f = s.get f := rfl
@[simp] theorem State.inForce_emit (s : State) (o : Out) (f : Fld) : (s.emit o).inForce f = s.inForce f := rfl
@[simp] theorem State.inForce_drawn (s : State) (f : Fld) : s.drawn.inForce f = s.inForce f := rfl

/-- A field of one bit that is written 1 is on. -/
theorem State.on_set_same (s : State) (f : Fld) (v : Nat) : (s.set f v).on f = decide (v % 2 ^ f.w ≠ 0) := by
  simp [State.on]

theorem State.on_congr {s t : State} {f : Fld} (h : t.get f = s.get f) : t.on f = s.on f := by
  simp [State.on, h]

/-- A field that does not hold 0 is listed. -/
theorem State.on_iff (s : State) (f : Fld) : s.on f = true ↔ s.get f ≠ 0 := by simp [State.on]

/-! ### Events -/

@[simp] theorem State.regs_msix (s : State) (v : Nat) : (s.msix v).regs = s.regs := by
  unfold State.msix; split
  · split <;> rfl
  · rfl

@[simp] theorem State.inf_msix (s : State) (v : Nat) : (s.msix v).inf = s.inf := by
  unfold State.msix; split
  · split <;> rfl
  · rfl

@[simp] theorem beyond_msix (s : State) (v : Nat) : beyond (s.msix v) = beyond s := by
  unfold State.msix; split
  · split <;> rfl
  · rfl

/-- Raising a source writes its bit and no other field. -/
theorem State.regs_raise (s : State) (e : E.Src) :
    (s.raise e).regs = if s.on (R.EVT_STAT e.1 e.2) then s.regs else (s.set (R.EVT_STAT e.1 e.2) 1).regs := by
  unfold State.raise
  split
  · rfl
  · generalize s.set (R.EVT_STAT e.1 e.2) 1 = s1
    by_cases h : bit (s.route e.1 e.2) 4 = true
    · simp only [h]; split <;> simp [State.emit]
    · simp only [h]; split <;> simp

theorem State.inf_raise (s : State) (e : E.Src) : (s.raise e).inf = s.inf := by
  unfold State.raise
  split
  · rfl
  · have hi : (s.set (R.EVT_STAT e.1 e.2) 1).inf = s.inf := rfl
    generalize s.set (R.EVT_STAT e.1 e.2) 1 = s1 at hi ⊢
    by_cases h : bit (s.route e.1 e.2) 4 = true
    · simp only [h]; split <;> simp [State.emit, hi]
    · simp only [h]; split <;> simp [hi]

/-- Raising a source changes registers, what leaves the device and the traces of an event alone. -/
@[simp] theorem beyond_raise (s : State) (e : E.Src) : beyond (s.raise e) = beyond s := by
  unfold State.raise
  split
  · rfl
  · have hi : beyond (s.set (R.EVT_STAT e.1 e.2) 1) = beyond s := rfl
    generalize s.set (R.EVT_STAT e.1 e.2) 1 = s1 at hi ⊢
    by_cases h : bit (s.route e.1 e.2) 4 = true
    · have h2 : beyond (({ s1 with fhPend := s1.fhPend ++ [⟨E.number e, s.now⟩] } : State).emit (.coreNotice (E.number e))) =
          beyond s := hi
      simp only [h]; split <;> simp [h2]
    · simp only [h]; split <;> simp [hi]

theorem State.get_raise_key (s : State) (e : E.Src) {f : Fld} (h : f.key ≠ (R.EVT_STAT e.1 e.2).key) :
    (s.raise e).get f = s.get f := by
  have := State.get_set_key s 1 h
  unfold State.get at this ⊢
  rw [State.regs_raise]
  split
  · rfl
  · exact this

/-- Raising a source leaves every other field as it was. -/
theorem State.get_raise (s : State) (e : E.Src) {f : Fld} (h : ¬ (f.id = 5007 ∧ f.rod = e.1 ∧ f.ix = e.2)) :
    (s.raise e).get f = s.get f :=
  State.get_raise_key s e (by rintro k; simp only [Fld.key, R.EVT_STAT, Prod.mk.injEq] at k; exact h ⟨k.2.1, k.1, k.2.2⟩)

/-- A source that is raised has its bit set. -/
theorem State.raised_raise (s : State) (e : E.Src) : isRaised (s.raise e) e := by
  have h := State.get_set_same s (R.EVT_STAT e.1 e.2) 1
  unfold isRaised State.on
  unfold State.get at h ⊢
  rw [State.regs_raise]
  split
  · assumption
  · rw [h]; rfl

theorem State.inForce_raise_key (s : State) (e : E.Src) {f : Fld} (h : f.key ≠ (R.EVT_STAT e.1 e.2).key) :
    (s.raise e).inForce f = s.inForce f := State.inForce_congr (State.get_raise_key s e h) (State.inf_raise s e)

theorem State.inForce_raise (s : State) (e : E.Src) {f : Fld} (h : ¬ (f.id = 5007 ∧ f.rod = e.1 ∧ f.ix = e.2)) :
    (s.raise e).inForce f = s.inForce f := State.inForce_congr (State.get_raise s e h) (State.inf_raise s e)

/-! ### Changes of a few fields -/

theorem State.get_inc_other (s : State) {f g : Fld} (h : ¬ (g.id = f.id ∧ g.rod = f.rod ∧ g.ix = f.ix)) :
    (s.inc f).get g = s.get g := State.get_set_other s _ h

theorem State.get_addSat_other (s : State) {f g : Fld} (n : Nat) (h : ¬ (g.id = f.id ∧ g.rod = f.rod ∧ g.ix = f.ix)) :
    (s.addSat f n).get g = s.get g := State.get_set_other s _ h

@[simp] theorem State.when_true (s : State) (g : State → State) : s.when true g = g s := rfl
@[simp] theorem State.when_false (s : State) (g : State → State) : s.when false g = s := rfl

/-- A field that a change keeps, it keeps under a condition. -/
theorem State.get_when (s : State) (b : Bool) {g : State → State} {f : Fld} (h : (g s).get f = s.get f) :
    (s.when b g).get f = s.get f := by
  unfold State.when; split
  · exact h
  · rfl

theorem State.get_raiseIf (s : State) (b : Bool) (e : E.Src) {f : Fld} (h : ¬ (f.id = 5007 ∧ f.rod = e.1 ∧ f.ix = e.2)) :
    (s.raiseIf b e).get f = s.get f := by
  unfold State.raiseIf; split
  · exact State.get_raise s e h
  · rfl

/-- A rejected write changes the fields of WR_RANGE and its event alone. -/
theorem State.get_wrRange (s : State) (rod a : Nat) {f : Fld}
    (h : f.id ≠ 5007 ∧ f.id ≠ 5009 ∧ f.id ≠ 50 ∧ f.id ≠ (R.WR_RANGE_CNT 0).id) : (s.wrRange rod a).get f = s.get f := by
  obtain ⟨h1, h2, h3, h4⟩ := h
  unfold State.wrRange
  dsimp only
  generalize (if rod = 17 then 0 else rod) = b
  rw [State.get_raise _ _ (by simp [h1]), State.get_inc_other _ (by simpa using fun e => absurd e (by simpa using h4))]
  split
  · rfl
  · rw [State.get_set_other _ _ (by simp [h3]), State.get_set_other _ _ (by simp [h2])]

/-- A retired access changes the fields of HEP_STAT and its event alone. -/
theorem State.get_hostRetired (s : State) {f : Fld}
    (h : f.id ≠ 5007 ∧ f.id ≠ (R.HEP_STAT_RETIRED).id ∧ f.id ≠ (R.HEP_STAT_RETIRED_CNT).id) :
    s.hostRetired.get f = s.get f := by
  obtain ⟨h1, h2, h3⟩ := h
  unfold State.hostRetired
  rw [State.get_raise _ _ (by simp [h1]), State.get_inc_other _ (by simpa using fun e => absurd e (by simpa using h3)),
    State.get_set_other _ _ (by simpa using fun e => absurd e (by simpa using h2))]

/-- A carry-log record changes no field but those that count lost records. -/
theorem State.get_record (s : State) (r : ClogRec) {f : Fld}
    (h : f.id ≠ 5007 ∧ f.id ≠ (I.CLOG_DROPPED 0).id ∧ f.id ≠ R.CLOG_STAT_LOST.id ∧ f.id ≠ R.CLOG_STAT_LOST_CNT.id) :
    (s.record r).get f = s.get f := by
  obtain ⟨h1, h2, h3, h4⟩ := h
  unfold State.record
  split
  · rfl
  · rw [State.get_raise _ _ (by simp [h1]), State.get_inc_other _ (by simpa using fun e => absurd e (by simpa using h4)),
      State.get_set_other _ _ (by simpa using fun e => absurd e (by simpa using h3)),
      State.get_set_other _ _ (by simpa using fun e => absurd e (by simpa using h2))]

@[simp] theorem beyond_set (s : State) (f : Fld) (v : Nat) : beyond (s.set f v) = beyond s := rfl
@[simp] theorem beyond_setInf (s : State) (f : Fld) (v : Nat) : beyond (s.setInf f v) = beyond s := rfl
@[simp] theorem beyond_emit (s : State) (o : Out) : beyond (s.emit o) = beyond s := rfl
@[simp] theorem beyond_inc (s : State) (f : Fld) : beyond (s.inc f) = beyond s := rfl
@[simp] theorem beyond_addSat (s : State) (f : Fld) (n : Nat) : beyond (s.addSat f n) = beyond s := rfl

@[simp] theorem beyond_raiseIf (s : State) (b : Bool) (e : E.Src) : beyond (s.raiseIf b e) = beyond s := by
  unfold State.raiseIf; split <;> simp

@[simp] theorem beyond_sets (l : List (Fld × Nat)) : ∀ s : State, beyond (s.sets l) = beyond s := by
  induction l with
  | nil => intro s; rfl
  | cons e t ih => intro s; exact (ih _).trans (beyond_set _ _ _)

/-- A change that is made only when a condition holds keeps what the change keeps. -/
theorem beyond_when (s : State) (b : Bool) (g : State → State) (h : beyond (g s) = beyond s) : beyond (s.when b g) = beyond s := by
  unfold State.when; split <;> simp [h]

@[simp] theorem beyond_wrRange (s : State) (rod a : Nat) : beyond (s.wrRange rod a) = beyond s := by
  unfold State.wrRange; dsimp only; repeat' split
  all_goals simp

@[simp] theorem beyond_hostRetired (s : State) : beyond s.hostRetired = beyond s := by
  unfold State.hostRetired; simp

@[simp] theorem beyond_clearPend (s : State) (rod d : Nat) : beyond (s.clearPend rod d) = beyond s := rfl

@[simp] theorem beyond_commitBad (s : State) (rod d rule : Nat) : beyond (s.commitBad rod d rule) = beyond s := by
  unfold State.commitBad; dsimp only; split <;> simp

@[simp] theorem beyond_commitWhere (s : State) (p : Key → Bool) : beyond (s.commitWhere p) = beyond s := rfl
@[simp] theorem beyond_commitDom (s : State) (rod d : Nat) : beyond (s.commitDom rod d) = beyond s := rfl

@[simp] theorem beyond_tryCommit (s : State) (rod d : Nat) (rules : List (Nat × Bool)) :
    beyond (s.tryCommit rod d rules).1 = beyond s := by
  unfold State.tryCommit; split <;> simp

@[simp] theorem beyond_commitAt (s : State) (rod d : Nat) (rules : State → (Fld → Nat) → Nat → List (Nat × Bool)) :
    beyond (s.commitAt rod d rules) = beyond s := by
  unfold State.commitAt; split <;> simp

/-- A host command changes no more than the change that it asks for and a retired access. -/
theorem beyond_hostTo (s : State) (rod : Nat) (g : State → State) (h : beyond (g s) = beyond s) :
    beyond (s.hostTo rod g) = beyond s := by
  unfold State.hostTo; split
  · rfl
  · split <;> simp [h]

/-- A host command that reaches its rod has its effect. -/
theorem State.hostTo_of_reaches {s : State} {rod : Nat} (g : State → State) (h : reaches s rod) : s.hostTo rod g = g s := by
  unfold State.hostTo; rw [if_neg (by rw [h.1]; simp), if_pos h.2]

theorem beyond_record (s : State) (r : ClogRec) : deepBeyond (s.record r) = deepBeyond s := by
  unfold State.record
  split
  · rfl
  · unfold deepBeyond; simp

end Sys2Proof.Machine
end

