-- ==== Sys2Proof/Laws/Frame.lean ====
section
/-!
SUPPORT. Laws of frames: that a list of fields holds every field that a change may write is shown change by change.
-/

namespace Sys2Proof.Safety

open Sys2Proof.Machine

variable {p : Fld → Prop} {s t : State}

theorem keeps_refl (p : Fld → Prop) (s : State) : keeps p s s := fun _ _ => ⟨rfl, rfl⟩

theorem keeps_trans {u : State} (h : keeps p s t) (g : keeps p t u) : keeps p s u :=
  fun f hf => ⟨(g f hf).1.trans (h f hf).1, (g f hf).2.trans (h f hf).2⟩

/-- A change that touches no register field keeps them all. -/
theorem keeps_of_eq (hr : t.regs = s.regs) (hi : t.inf = s.inf) : keeps p s t := fun f _ => by
  have h : t.get f = s.get f := by unfold State.get; rw [hr]
  exact ⟨h, State.inForce_congr h hi⟩

/-- Writing a field of the frame. -/
theorem keeps_set {f : Fld} (v : Nat) (h : ∀ g : Fld, g.key = f.key → p g) (k : keeps p s t) : keeps p s (t.set f v) :=
  keeps_trans k (fun g hg => ⟨State.get_set_key _ _ (fun e => hg (h g e)), State.inForce_set_key _ _ (fun e => hg (h g e))⟩)

/-- Raising a source of the frame. -/
theorem keeps_raise {e : E.Src} (h : ∀ g : Fld, g.key = (R.EVT_STAT e.1 e.2).key → p g) (k : keeps p s t) :
    keeps p s (t.raise e) :=
  keeps_trans k (fun g hg => ⟨State.get_raise_key _ _ (fun e => hg (h g e)), State.inForce_raise_key _ _ (fun e => hg (h g e))⟩)

theorem keeps_emit {o : Out} (k : keeps p s t) : keeps p s (t.emit o) := k
theorem keeps_drawn (k : keeps p s t) : keeps p s t.drawn := k

theorem keeps_when {b : Bool} {g : State → State} (k : keeps p s t) (h : b = true → keeps p s (g t)) : keeps p s (t.when b g) := by
  unfold State.when; split
  · next hb => exact h hb
  · exact k

theorem keeps_inc {f : Fld} (h : ∀ g : Fld, g.key = f.key → p g) (k : keeps p s t) : keeps p s (t.inc f) := keeps_set _ h k

theorem keeps_addSat {f : Fld} {n : Nat} (h : ∀ g : Fld, g.key = f.key → p g) (k : keeps p s t) : keeps p s (t.addSat f n) :=
  keeps_set _ h k

theorem keeps_raiseIf {b : Bool} {e : E.Src} (h : ∀ g : Fld, g.key = (R.EVT_STAT e.1 e.2).key → p g) (k : keeps p s t) :
    keeps p s (t.raiseIf b e) := by
  unfold State.raiseIf; split
  · exact keeps_raise h k
  · exact k

theorem keeps_ite {c : Prop} [Decidable c] {a b : State} (h : c → keeps p s a) (g : ¬ c → keeps p s b) :
    keeps p s (if c then a else b) := by
  split
  · next hc => exact h hc
  · next hc => exact g hc

/-- A change made for each element of a list. -/
theorem keeps_foldl {α : Type} {g : State → α → State} (l : List α) (h : ∀ u x, x ∈ l → keeps p s u → keeps p s (g u x))
    (k : keeps p s t) : keeps p s (l.foldl g t) := by
  induction l generalizing t with
  | nil => exact k
  | cons x l ih => exact ih (fun u y hy => h u y (by simp [hy])) (h t x (by simp) k)

theorem among_of_mem {l : List Fld} {f g : Fld} (h : f ∈ l) (e : g.key = f.key) : among l g := by
  unfold among; rw [e]; exact List.mem_map_of_mem h

theorem kindred_of_mem {l : List Fld} {f g h : Fld} (m : h ∈ l) (e : g.key = f.key) (er : h.rod = f.rod) (ei : h.id = f.id) :
    kindred l g := by
  simp only [Fld.key, Prod.mk.injEq] at e
  exact List.mem_map.2 ⟨h, m, by simp [er, ei, e.1, e.2.1]⟩

end Sys2Proof.Safety
end

