-- ==== Sys2Proof/Laws/State.lean ====
section
/-!
SUPPORT. What each update of a state does to each of its parts.
-/

namespace Sys2Proof.Machine

/-! ### `State.set` -/

@[simp] theorem State.set_pending (s : State) (f : Fld) (v : Nat) : (s.set f v).pending = s.pending := rfl
@[simp] theorem State.set_regs (s : State) (f : Fld) (v : Nat) : (s.set f v).regs = mapSet keyLt f.rst s.regs f.key (v % 2 ^ f.w) := rfl
@[simp] theorem State.set_inf (s : State) (f : Fld) (v : Nat) : (s.set f v).inf = s.inf := rfl
@[simp] theorem State.set_tray (s : State) (f : Fld) (v : Nat) : (s.set f v).tray = s.tray := rfl
@[simp] theorem State.set_trayBad (s : State) (f : Fld) (v : Nat) : (s.set f v).trayBad = s.trayBad := rfl
@[simp] theorem State.set_dram (s : State) (f : Fld) (v : Nat) : (s.set f v).dram = s.dram := rfl
@[simp] theorem State.set_dramBad (s : State) (f : Fld) (v : Nat) : (s.set f v).dramBad = s.dramBad := rfl
@[simp] theorem State.set_rdQ (s : State) (f : Fld) (v : Nat) : (s.set f v).rdQ = s.rdQ := rfl
@[simp] theorem State.set_wrQ (s : State) (f : Fld) (v : Nat) : (s.set f v).wrQ = s.wrQ := rfl
@[simp] theorem State.set_rdParts (s : State) (f : Fld) (v : Nat) : (s.set f v).rdParts = s.rdParts := rfl
@[simp] theorem State.set_rows (s : State) (f : Fld) (v : Nat) : (s.set f v).rows = s.rows := rfl
@[simp] theorem State.set_keep (s : State) (f : Fld) (v : Nat) : (s.set f v).keep = s.keep := rfl
@[simp] theorem State.set_fuses (s : State) (f : Fld) (v : Nat) : (s.set f v).fuses = s.fuses := rfl
@[simp] theorem State.set_strg (s : State) (f : Fld) (v : Nat) : (s.set f v).strg = s.strg := rfl
@[simp] theorem State.set_strung (s : State) (f : Fld) (v : Nat) : (s.set f v).strung = s.strung := rfl
@[simp] theorem State.set_img (s : State) (f : Fld) (v : Nat) : (s.set f v).img = s.img := rfl
@[simp] theorem State.set_patch (s : State) (f : Fld) (v : Nat) : (s.set f v).patch = s.patch := rfl
@[simp] theorem State.set_now (s : State) (f : Fld) (v : Nat) : (s.set f v).now = s.now := rfl
@[simp] theorem State.set_up (s : State) (f : Fld) (v : Nat) : (s.set f v).up = s.up := rfl
@[simp] theorem State.set_jobs (s : State) (f : Fld) (v : Nat) : (s.set f v).jobs = s.jobs := rfl
@[simp] theorem State.set_frames (s : State) (f : Fld) (v : Nat) : (s.set f v).frames = s.frames := rfl
@[simp] theorem State.set_pics (s : State) (f : Fld) (v : Nat) : (s.set f v).pics = s.pics := rfl
@[simp] theorem State.set_strms (s : State) (f : Fld) (v : Nat) : (s.set f v).strms = s.strms := rfl
@[simp] theorem State.set_imgs (s : State) (f : Fld) (v : Nat) : (s.set f v).imgs = s.imgs := rfl
@[simp] theorem State.set_grids (s : State) (f : Fld) (v : Nat) : (s.set f v).grids = s.grids := rfl
@[simp] theorem State.set_lumas (s : State) (f : Fld) (v : Nat) : (s.set f v).lumas = s.lumas := rfl
@[simp] theorem State.set_refs (s : State) (f : Fld) (v : Nat) : (s.set f v).refs = s.refs := rfl
@[simp] theorem State.set_decs (s : State) (f : Fld) (v : Nat) : (s.set f v).decs = s.decs := rfl
@[simp] theorem State.set_decJobs (s : State) (f : Fld) (v : Nat) : (s.set f v).decJobs = s.decJobs := rfl
@[simp] theorem State.set_decOut (s : State) (f : Fld) (v : Nat) : (s.set f v).decOut = s.decOut := rfl
@[simp] theorem State.set_uanc (s : State) (f : Fld) (v : Nat) : (s.set f v).uanc = s.uanc := rfl
@[simp] theorem State.set_hdrs (s : State) (f : Fld) (v : Nat) : (s.set f v).hdrs = s.hdrs := rfl
@[simp] theorem State.set_lays (s : State) (f : Fld) (v : Nat) : (s.set f v).lays = s.lays := rfl
@[simp] theorem State.set_unders (s : State) (f : Fld) (v : Nat) : (s.set f v).unders = s.unders := rfl
@[simp] theorem State.set_canv (s : State) (f : Fld) (v : Nat) : (s.set f v).canv = s.canv := rfl
@[simp] theorem State.set_binds (s : State) (f : Fld) (v : Nat) : (s.set f v).binds = s.binds := rfl
@[simp] theorem State.set_lnk (s : State) (f : Fld) (v : Nat) : (s.set f v).lnk = s.lnk := rfl
@[simp] theorem State.set_recd (s : State) (f : Fld) (v : Nat) : (s.set f v).recd = s.recd := rfl
@[simp] theorem State.set_clogQ (s : State) (f : Fld) (v : Nat) : (s.set f v).clogQ = s.clogQ := rfl
@[simp] theorem State.set_txns (s : State) (f : Fld) (v : Nat) : (s.set f v).txns = s.txns := rfl
@[simp] theorem State.set_auds (s : State) (f : Fld) (v : Nat) : (s.set f v).auds = s.auds := rfl
@[simp] theorem State.set_dfls (s : State) (f : Fld) (v : Nat) : (s.set f v).dfls = s.dfls := rfl
@[simp] theorem State.set_dmas (s : State) (f : Fld) (v : Nat) : (s.set f v).dmas = s.dmas := rfl
@[simp] theorem State.set_dflRecs (s : State) (f : Fld) (v : Nat) : (s.set f v).dflRecs = s.dflRecs := rfl
@[simp] theorem State.set_rings (s : State) (f : Fld) (v : Nat) : (s.set f v).rings = s.rings := rfl
@[simp] theorem State.set_flows (s : State) (f : Fld) (v : Nat) : (s.set f v).flows = s.flows := rfl
@[simp] theorem State.set_rxs (s : State) (f : Fld) (v : Nat) : (s.set f v).rxs = s.rxs := rfl
@[simp] theorem State.set_tsq (s : State) (f : Fld) (v : Nat) : (s.set f v).tsq = s.tsq := rfl
@[simp] theorem State.set_quarantine (s : State) (f : Fld) (v : Nat) : (s.set f v).quarantine = s.quarantine := rfl
@[simp] theorem State.set_flits (s : State) (f : Fld) (v : Nat) : (s.set f v).flits = s.flits := rfl
@[simp] theorem State.set_sec (s : State) (f : Fld) (v : Nat) : (s.set f v).sec = s.sec := rfl
@[simp] theorem State.set_trims (s : State) (f : Fld) (v : Nat) : (s.set f v).trims = s.trims := rfl
@[simp] theorem State.set_cal (s : State) (f : Fld) (v : Nat) : (s.set f v).cal = s.cal := rfl
@[simp] theorem State.set_autoTimes (s : State) (f : Fld) (v : Nat) : (s.set f v).autoTimes = s.autoTimes := rfl
@[simp] theorem State.set_fhPend (s : State) (f : Fld) (v : Nat) : (s.set f v).fhPend = s.fhPend := rfl
@[simp] theorem State.set_pba (s : State) (f : Fld) (v : Nat) : (s.set f v).pba = s.pba := rfl
@[simp] theorem State.set_out (s : State) (f : Fld) (v : Nat) : (s.set f v).out = s.out := rfl
@[simp] theorem State.set_freeCtr (s : State) (f : Fld) (v : Nat) : (s.set f v).freeCtr = s.freeCtr := rfl

/-! ### `State.setInf` -/

@[simp] theorem State.setInf_pending (s : State) (f : Fld) (v : Nat) : (s.setInf f v).pending = s.pending := rfl
@[simp] theorem State.setInf_regs (s : State) (f : Fld) (v : Nat) : (s.setInf f v).regs = s.regs := rfl
@[simp] theorem State.setInf_inf (s : State) (f : Fld) (v : Nat) : (s.setInf f v).inf = mapSet keyLt f.rst s.inf f.key (v % 2 ^ f.w) := rfl
@[simp] theorem State.setInf_tray (s : State) (f : Fld) (v : Nat) : (s.setInf f v).tray = s.tray := rfl
@[simp] theorem State.setInf_trayBad (s : State) (f : Fld) (v : Nat) : (s.setInf f v).trayBad = s.trayBad := rfl
@[simp] theorem State.setInf_dram (s : State) (f : Fld) (v : Nat) : (s.setInf f v).dram = s.dram := rfl
@[simp] theorem State.setInf_dramBad (s : State) (f : Fld) (v : Nat) : (s.setInf f v).dramBad = s.dramBad := rfl
@[simp] theorem State.setInf_rdQ (s : State) (f : Fld) (v : Nat) : (s.setInf f v).rdQ = s.rdQ := rfl
@[simp] theorem State.setInf_wrQ (s : State) (f : Fld) (v : Nat) : (s.setInf f v).wrQ = s.wrQ := rfl
@[simp] theorem State.setInf_rdParts (s : State) (f : Fld) (v : Nat) : (s.setInf f v).rdParts = s.rdParts := rfl
@[simp] theorem State.setInf_rows (s : State) (f : Fld) (v : Nat) : (s.setInf f v).rows = s.rows := rfl
@[simp] theorem State.setInf_keep (s : State) (f : Fld) (v : Nat) : (s.setInf f v).keep = s.keep := rfl
@[simp] theorem State.setInf_fuses (s : State) (f : Fld) (v : Nat) : (s.setInf f v).fuses = s.fuses := rfl
@[simp] theorem State.setInf_strg (s : State) (f : Fld) (v : Nat) : (s.setInf f v).strg = s.strg := rfl
@[simp] theorem State.setInf_strung (s : State) (f : Fld) (v : Nat) : (s.setInf f v).strung = s.strung := rfl
@[simp] theorem State.setInf_img (s : State) (f : Fld) (v : Nat) : (s.setInf f v).img = s.img := rfl
@[simp] theorem State.setInf_patch (s : State) (f : Fld) (v : Nat) : (s.setInf f v).patch = s.patch := rfl
@[simp] theorem State.setInf_now (s : State) (f : Fld) (v : Nat) : (s.setInf f v).now = s.now := rfl
@[simp] theorem State.setInf_up (s : State) (f : Fld) (v : Nat) : (s.setInf f v).up = s.up := rfl
@[simp] theorem State.setInf_jobs (s : State) (f : Fld) (v : Nat) : (s.setInf f v).jobs = s.jobs := rfl
@[simp] theorem State.setInf_frames (s : State) (f : Fld) (v : Nat) : (s.setInf f v).frames = s.frames := rfl
@[simp] theorem State.setInf_pics (s : State) (f : Fld) (v : Nat) : (s.setInf f v).pics = s.pics := rfl
@[simp] theorem State.setInf_strms (s : State) (f : Fld) (v : Nat) : (s.setInf f v).strms = s.strms := rfl
@[simp] theorem State.setInf_imgs (s : State) (f : Fld) (v : Nat) : (s.setInf f v).imgs = s.imgs := rfl
@[simp] theorem State.setInf_grids (s : State) (f : Fld) (v : Nat) : (s.setInf f v).grids = s.grids := rfl
@[simp] theorem State.setInf_lumas (s : State) (f : Fld) (v : Nat) : (s.setInf f v).lumas = s.lumas := rfl
@[simp] theorem State.setInf_refs (s : State) (f : Fld) (v : Nat) : (s.setInf f v).refs = s.refs := rfl
@[simp] theorem State.setInf_decs (s : State) (f : Fld) (v : Nat) : (s.setInf f v).decs = s.decs := rfl
@[simp] theorem State.setInf_decJobs (s : State) (f : Fld) (v : Nat) : (s.setInf f v).decJobs = s.decJobs := rfl
@[simp] theorem State.setInf_decOut (s : State) (f : Fld) (v : Nat) : (s.setInf f v).decOut = s.decOut := rfl
@[simp] theorem State.setInf_uanc (s : State) (f : Fld) (v : Nat) : (s.setInf f v).uanc = s.uanc := rfl
@[simp] theorem State.setInf_hdrs (s : State) (f : Fld) (v : Nat) : (s.setInf f v).hdrs = s.hdrs := rfl
@[simp] theorem State.setInf_lays (s : State) (f : Fld) (v : Nat) : (s.setInf f v).lays = s.lays := rfl
@[simp] theorem State.setInf_unders (s : State) (f : Fld) (v : Nat) : (s.setInf f v).unders = s.unders := rfl
@[simp] theorem State.setInf_canv (s : State) (f : Fld) (v : Nat) : (s.setInf f v).canv = s.canv := rfl
@[simp] theorem State.setInf_binds (s : State) (f : Fld) (v : Nat) : (s.setInf f v).binds = s.binds := rfl
@[simp] theorem State.setInf_lnk (s : State) (f : Fld) (v : Nat) : (s.setInf f v).lnk = s.lnk := rfl
@[simp] theorem State.setInf_recd (s : State) (f : Fld) (v : Nat) : (s.setInf f v).recd = s.recd := rfl
@[simp] theorem State.setInf_clogQ (s : State) (f : Fld) (v : Nat) : (s.setInf f v).clogQ = s.clogQ := rfl
@[simp] theorem State.setInf_txns (s : State) (f : Fld) (v : Nat) : (s.setInf f v).txns = s.txns := rfl
@[simp] theorem State.setInf_auds (s : State) (f : Fld) (v : Nat) : (s.setInf f v).auds = s.auds := rfl
@[simp] theorem State.setInf_dfls (s : State) (f : Fld) (v : Nat) : (s.setInf f v).dfls = s.dfls := rfl
@[simp] theorem State.setInf_dmas (s : State) (f : Fld) (v : Nat) : (s.setInf f v).dmas = s.dmas := rfl
@[simp] theorem State.setInf_dflRecs (s : State) (f : Fld) (v : Nat) : (s.setInf f v).dflRecs = s.dflRecs := rfl
@[simp] theorem State.setInf_rings (s : State) (f : Fld) (v : Nat) : (s.setInf f v).rings = s.rings := rfl
@[simp] theorem State.setInf_flows (s : State) (f : Fld) (v : Nat) : (s.setInf f v).flows = s.flows := rfl
@[simp] theorem State.setInf_rxs (s : State) (f : Fld) (v : Nat) : (s.setInf f v).rxs = s.rxs := rfl
@[simp] theorem State.setInf_tsq (s : State) (f : Fld) (v : Nat) : (s.setInf f v).tsq = s.tsq := rfl
@[simp] theorem State.setInf_quarantine (s : State) (f : Fld) (v : Nat) : (s.setInf f v).quarantine = s.quarantine := rfl
@[simp] theorem State.setInf_flits (s : State) (f : Fld) (v : Nat) : (s.setInf f v).flits = s.flits := rfl
@[simp] theorem State.setInf_sec (s : State) (f : Fld) (v : Nat) : (s.setInf f v).sec = s.sec := rfl
@[simp] theorem State.setInf_trims (s : State) (f : Fld) (v : Nat) : (s.setInf f v).trims = s.trims := rfl
@[simp] theorem State.setInf_cal (s : State) (f : Fld) (v : Nat) : (s.setInf f v).cal = s.cal := rfl
@[simp] theorem State.setInf_autoTimes (s : State) (f : Fld) (v : Nat) : (s.setInf f v).autoTimes = s.autoTimes := rfl
@[simp] theorem State.setInf_fhPend (s : State) (f : Fld) (v : Nat) : (s.setInf f v).fhPend = s.fhPend := rfl
@[simp] theorem State.setInf_pba (s : State) (f : Fld) (v : Nat) : (s.setInf f v).pba = s.pba := rfl
@[simp] theorem State.setInf_out (s : State) (f : Fld) (v : Nat) : (s.setInf f v).out = s.out := rfl
@[simp] theorem State.setInf_freeCtr (s : State) (f : Fld) (v : Nat) : (s.setInf f v).freeCtr = s.freeCtr := rfl

/-! ### `State.emit` -/

@[simp] theorem State.emit_pending (s : State) (o : Out) : (s.emit o).pending = s.pending := rfl
@[simp] theorem State.emit_regs (s : State) (o : Out) : (s.emit o).regs = s.regs := rfl
@[simp] theorem State.emit_inf (s : State) (o : Out) : (s.emit o).inf = s.inf := rfl
@[simp] theorem State.emit_tray (s : State) (o : Out) : (s.emit o).tray = s.tray := rfl
@[simp] theorem State.emit_trayBad (s : State) (o : Out) : (s.emit o).trayBad = s.trayBad := rfl
@[simp] theorem State.emit_dram (s : State) (o : Out) : (s.emit o).dram = s.dram := rfl
@[simp] theorem State.emit_dramBad (s : State) (o : Out) : (s.emit o).dramBad = s.dramBad := rfl
@[simp] theorem State.emit_rdQ (s : State) (o : Out) : (s.emit o).rdQ = s.rdQ := rfl
@[simp] theorem State.emit_wrQ (s : State) (o : Out) : (s.emit o).wrQ = s.wrQ := rfl
@[simp] theorem State.emit_rdParts (s : State) (o : Out) : (s.emit o).rdParts = s.rdParts := rfl
@[simp] theorem State.emit_rows (s : State) (o : Out) : (s.emit o).rows = s.rows := rfl
@[simp] theorem State.emit_keep (s : State) (o : Out) : (s.emit o).keep = s.keep := rfl
@[simp] theorem State.emit_fuses (s : State) (o : Out) : (s.emit o).fuses = s.fuses := rfl
@[simp] theorem State.emit_strg (s : State) (o : Out) : (s.emit o).strg = s.strg := rfl
@[simp] theorem State.emit_strung (s : State) (o : Out) : (s.emit o).strung = s.strung := rfl
@[simp] theorem State.emit_img (s : State) (o : Out) : (s.emit o).img = s.img := rfl
@[simp] theorem State.emit_patch (s : State) (o : Out) : (s.emit o).patch = s.patch := rfl
@[simp] theorem State.emit_now (s : State) (o : Out) : (s.emit o).now = s.now := rfl
@[simp] theorem State.emit_up (s : State) (o : Out) : (s.emit o).up = s.up := rfl
@[simp] theorem State.emit_jobs (s : State) (o : Out) : (s.emit o).jobs = s.jobs := rfl
@[simp] theorem State.emit_frames (s : State) (o : Out) : (s.emit o).frames = s.frames := rfl
@[simp] theorem State.emit_pics (s : State) (o : Out) : (s.emit o).pics = s.pics := rfl
@[simp] theorem State.emit_strms (s : State) (o : Out) : (s.emit o).strms = s.strms := rfl
@[simp] theorem State.emit_imgs (s : State) (o : Out) : (s.emit o).imgs = s.imgs := rfl
@[simp] theorem State.emit_grids (s : State) (o : Out) : (s.emit o).grids = s.grids := rfl
@[simp] theorem State.emit_lumas (s : State) (o : Out) : (s.emit o).lumas = s.lumas := rfl
@[simp] theorem State.emit_refs (s : State) (o : Out) : (s.emit o).refs = s.refs := rfl
@[simp] theorem State.emit_decs (s : State) (o : Out) : (s.emit o).decs = s.decs := rfl
@[simp] theorem State.emit_decJobs (s : State) (o : Out) : (s.emit o).decJobs = s.decJobs := rfl
@[simp] theorem State.emit_decOut (s : State) (o : Out) : (s.emit o).decOut = s.decOut := rfl
@[simp] theorem State.emit_uanc (s : State) (o : Out) : (s.emit o).uanc = s.uanc := rfl
@[simp] theorem State.emit_hdrs (s : State) (o : Out) : (s.emit o).hdrs = s.hdrs := rfl
@[simp] theorem State.emit_lays (s : State) (o : Out) : (s.emit o).lays = s.lays := rfl
@[simp] theorem State.emit_unders (s : State) (o : Out) : (s.emit o).unders = s.unders := rfl
@[simp] theorem State.emit_canv (s : State) (o : Out) : (s.emit o).canv = s.canv := rfl
@[simp] theorem State.emit_binds (s : State) (o : Out) : (s.emit o).binds = s.binds := rfl
@[simp] theorem State.emit_lnk (s : State) (o : Out) : (s.emit o).lnk = s.lnk := rfl
@[simp] theorem State.emit_recd (s : State) (o : Out) : (s.emit o).recd = s.recd := rfl
@[simp] theorem State.emit_clogQ (s : State) (o : Out) : (s.emit o).clogQ = s.clogQ := rfl
@[simp] theorem State.emit_txns (s : State) (o : Out) : (s.emit o).txns = s.txns := rfl
@[simp] theorem State.emit_auds (s : State) (o : Out) : (s.emit o).auds = s.auds := rfl
@[simp] theorem State.emit_dfls (s : State) (o : Out) : (s.emit o).dfls = s.dfls := rfl
@[simp] theorem State.emit_dmas (s : State) (o : Out) : (s.emit o).dmas = s.dmas := rfl
@[simp] theorem State.emit_dflRecs (s : State) (o : Out) : (s.emit o).dflRecs = s.dflRecs := rfl
@[simp] theorem State.emit_rings (s : State) (o : Out) : (s.emit o).rings = s.rings := rfl
@[simp] theorem State.emit_flows (s : State) (o : Out) : (s.emit o).flows = s.flows := rfl
@[simp] theorem State.emit_rxs (s : State) (o : Out) : (s.emit o).rxs = s.rxs := rfl
@[simp] theorem State.emit_tsq (s : State) (o : Out) : (s.emit o).tsq = s.tsq := rfl
@[simp] theorem State.emit_quarantine (s : State) (o : Out) : (s.emit o).quarantine = s.quarantine := rfl
@[simp] theorem State.emit_flits (s : State) (o : Out) : (s.emit o).flits = s.flits := rfl
@[simp] theorem State.emit_sec (s : State) (o : Out) : (s.emit o).sec = s.sec := rfl
@[simp] theorem State.emit_trims (s : State) (o : Out) : (s.emit o).trims = s.trims := rfl
@[simp] theorem State.emit_cal (s : State) (o : Out) : (s.emit o).cal = s.cal := rfl
@[simp] theorem State.emit_autoTimes (s : State) (o : Out) : (s.emit o).autoTimes = s.autoTimes := rfl
@[simp] theorem State.emit_fhPend (s : State) (o : Out) : (s.emit o).fhPend = s.fhPend := rfl
@[simp] theorem State.emit_pba (s : State) (o : Out) : (s.emit o).pba = s.pba := rfl
@[simp] theorem State.emit_out (s : State) (o : Out) : (s.emit o).out = s.out ++ [o] := rfl
@[simp] theorem State.emit_freeCtr (s : State) (o : Out) : (s.emit o).freeCtr = s.freeCtr := rfl

/-! ### `State.drawn` -/

@[simp] theorem State.drawn_pending (s : State) : (s.drawn).pending = s.pending := rfl
@[simp] theorem State.drawn_regs (s : State) : (s.drawn).regs = s.regs := rfl
@[simp] theorem State.drawn_inf (s : State) : (s.drawn).inf = s.inf := rfl
@[simp] theorem State.drawn_tray (s : State) : (s.drawn).tray = s.tray := rfl
@[simp] theorem State.drawn_trayBad (s : State) : (s.drawn).trayBad = s.trayBad := rfl
@[simp] theorem State.drawn_dram (s : State) : (s.drawn).dram = s.dram := rfl
@[simp] theorem State.drawn_dramBad (s : State) : (s.drawn).dramBad = s.dramBad := rfl
@[simp] theorem State.drawn_rdQ (s : State) : (s.drawn).rdQ = s.rdQ := rfl
@[simp] theorem State.drawn_wrQ (s : State) : (s.drawn).wrQ = s.wrQ := rfl
@[simp] theorem State.drawn_rdParts (s : State) : (s.drawn).rdParts = s.rdParts := rfl
@[simp] theorem State.drawn_rows (s : State) : (s.drawn).rows = s.rows := rfl
@[simp] theorem State.drawn_keep (s : State) : (s.drawn).keep = s.keep := rfl
@[simp] theorem State.drawn_fuses (s : State) : (s.drawn).fuses = s.fuses := rfl
@[simp] theorem State.drawn_strg (s : State) : (s.drawn).strg = s.strg := rfl
@[simp] theorem State.drawn_strung (s : State) : (s.drawn).strung = s.strung := rfl
@[simp] theorem State.drawn_img (s : State) : (s.drawn).img = s.img := rfl
@[simp] theorem State.drawn_patch (s : State) : (s.drawn).patch = s.patch := rfl
@[simp] theorem State.drawn_now (s : State) : (s.drawn).now = s.now := rfl
@[simp] theorem State.drawn_up (s : State) : (s.drawn).up = s.up := rfl
@[simp] theorem State.drawn_jobs (s : State) : (s.drawn).jobs = s.jobs := rfl
@[simp] theorem State.drawn_frames (s : State) : (s.drawn).frames = s.frames := rfl
@[simp] theorem State.drawn_pics (s : State) : (s.drawn).pics = s.pics := rfl
@[simp] theorem State.drawn_strms (s : State) : (s.drawn).strms = s.strms := rfl
@[simp] theorem State.drawn_imgs (s : State) : (s.drawn).imgs = s.imgs := rfl
@[simp] theorem State.drawn_grids (s : State) : (s.drawn).grids = s.grids := rfl
@[simp] theorem State.drawn_lumas (s : State) : (s.drawn).lumas = s.lumas := rfl
@[simp] theorem State.drawn_refs (s : State) : (s.drawn).refs = s.refs := rfl
@[simp] theorem State.drawn_decs (s : State) : (s.drawn).decs = s.decs := rfl
@[simp] theorem State.drawn_decJobs (s : State) : (s.drawn).decJobs = s.decJobs := rfl
@[simp] theorem State.drawn_decOut (s : State) : (s.drawn).decOut = s.decOut := rfl
@[simp] theorem State.drawn_uanc (s : State) : (s.drawn).uanc = s.uanc := rfl
@[simp] theorem State.drawn_hdrs (s : State) : (s.drawn).hdrs = s.hdrs := rfl
@[simp] theorem State.drawn_lays (s : State) : (s.drawn).lays = s.lays := rfl
@[simp] theorem State.drawn_unders (s : State) : (s.drawn).unders = s.unders := rfl
@[simp] theorem State.drawn_canv (s : State) : (s.drawn).canv = s.canv := rfl
@[simp] theorem State.drawn_binds (s : State) : (s.drawn).binds = s.binds := rfl
@[simp] theorem State.drawn_lnk (s : State) : (s.drawn).lnk = s.lnk := rfl
@[simp] theorem State.drawn_recd (s : State) : (s.drawn).recd = s.recd := rfl
@[simp] theorem State.drawn_clogQ (s : State) : (s.drawn).clogQ = s.clogQ := rfl
@[simp] theorem State.drawn_txns (s : State) : (s.drawn).txns = s.txns := rfl
@[simp] theorem State.drawn_auds (s : State) : (s.drawn).auds = s.auds := rfl
@[simp] theorem State.drawn_dfls (s : State) : (s.drawn).dfls = s.dfls := rfl
@[simp] theorem State.drawn_dmas (s : State) : (s.drawn).dmas = s.dmas := rfl
@[simp] theorem State.drawn_dflRecs (s : State) : (s.drawn).dflRecs = s.dflRecs := rfl
@[simp] theorem State.drawn_rings (s : State) : (s.drawn).rings = s.rings := rfl
@[simp] theorem State.drawn_flows (s : State) : (s.drawn).flows = s.flows := rfl
@[simp] theorem State.drawn_rxs (s : State) : (s.drawn).rxs = s.rxs := rfl
@[simp] theorem State.drawn_tsq (s : State) : (s.drawn).tsq = s.tsq := rfl
@[simp] theorem State.drawn_quarantine (s : State) : (s.drawn).quarantine = s.quarantine := rfl
@[simp] theorem State.drawn_flits (s : State) : (s.drawn).flits = s.flits := rfl
@[simp] theorem State.drawn_sec (s : State) : (s.drawn).sec = s.sec := rfl
@[simp] theorem State.drawn_trims (s : State) : (s.drawn).trims = s.trims := rfl
@[simp] theorem State.drawn_cal (s : State) : (s.drawn).cal = s.cal := rfl
@[simp] theorem State.drawn_autoTimes (s : State) : (s.drawn).autoTimes = s.autoTimes := rfl
@[simp] theorem State.drawn_fhPend (s : State) : (s.drawn).fhPend = s.fhPend := rfl
@[simp] theorem State.drawn_pba (s : State) : (s.drawn).pba = s.pba := rfl
@[simp] theorem State.drawn_out (s : State) : (s.drawn).out = s.out := rfl
@[simp] theorem State.drawn_freeCtr (s : State) : (s.drawn).freeCtr = s.freeCtr + 1 := rfl

end Sys2Proof.Machine
end

