-- ==== Sys2Proof/WellFormed.lean ====
section
/-!
DEFINITION. Well-formed commands: those whose operands the device can meet. Operands that a type bounds need no check.
-/

namespace Sys2Proof

open Sys2Proof.Machine (laneCount)

/-- A number of whole Beam beats: 1 to 4 of 64 bytes (spec/01 R17). -/
def beats (n : Nat) : Bool := decide (n % 64 = 0 ∧ 64 ≤ n ∧ n ≤ 256)

/-- Bytes that fit a window of `size` bytes at an offset. -/
def fits (size a n : Nat) : Bool := decide (1 ≤ n ∧ a + n ≤ size)

/-- A command is well formed. -/
def Instr.wf : Instr → Bool
  | .writeRequest _ _ _ _ _ _ d => beats d.length
  | .reply _ _ _ _ st d => if st.val = 0 ∨ st.val = 2 then decide (d.length ≤ 256) else d.isEmpty
  | .streamFlit _ _ _ _ d => beats d.length
  | .bar2Read a n _ _ => fits (2 ^ 26) a.toNat n.toNat
  | .bar2Write a d => fits (2 ^ 26) a.toNat d.length
  | .bar4Read a n _ _ => fits (2 ^ 20) a.toNat n.toNat
  | .bar4Write a d => fits (2 ^ 20) a.toNat d.length
  | .evtStatClear _ w _ => decide (w.val < 6)
  | .laneEnable r l => decide (l.val < laneCount r)
  | .laneDisable r l => decide (l.val < laneCount r)
  | .laneGo r l _ => decide (l.val < laneCount r)
  | .lanePowerDone r l => decide (l.val < laneCount r)
  | .laneLosClear r l => decide (l.val < laneCount r)
  | .laneLock r l => decide (l.val < laneCount r)
  | .laneLockTimeout r l => decide (l.val < laneCount r)
  | .laneAdaptDone r l => decide (l.val < laneCount r)
  | .laneAdaptTimeout r l => decide (l.val < laneCount r)
  | .laneAligned r l _ _ => decide (l.val < laneCount r)
  | .laneLos r l => decide (l.val < laneCount r)
  | .laneLol r l => decide (l.val < laneCount r)
  | .laneFreqWindow r l _ => decide (l.val < laneCount r)
  | .laneIdleEntry r l => decide (l.val < laneCount r)
  | .laneSquelchConfirm r l => decide (l.val < laneCount r)
  | .lanePhaseLock r l => decide (l.val < laneCount r)
  | .lanePhaseLockTimeout r l => decide (l.val < laneCount r)
  | .adaptWindow r l _ => decide (l.val < laneCount r)
  | .amRow _ _ _ m => decide (m.length ≤ 34)
  | .eidleRow _ r => decide (r.length ≤ 34)
  | .blockLockLoss _ _ h => decide (h.length ≤ 64)
  | .ibi _ (.ibi _ b) => decide (b.length ≤ 4)
  | .auxReply _ _ n d => decide (n.val ≤ 16 ∧ d.length ≤ 16)
  | .ethFrameRx _ _ _ f => decide (14 ≤ f.length)
  | .ptpEventMessageTx _ _ f => decide (14 ≤ f.length)
  | .audSampleFrame _ _ l => decide (l.length ≤ 16)
  | .flashDirRead d => decide (d.length = 64)
  | .memTrainDone l _ => decide (l.length = 8)
  | .thmSample l => decide (l.length ≤ 24)
  | _ => true

end Sys2Proof
end

