-- ==== Sys2Proof/Tests/Slice0.lean ====
section
/-!
SUPPORT. Small tests: ill-formed commands are refused, worked values of the spec and of the standards that it names, and for each
statement with hypotheses a state and operands that meet them.
-/

open Sys2Proof Sys2Proof.Machine

section

set_option linter.unusedVariables false
set_option Elab.async false

/-! ### Ill-formed commands -/

theorem test_ill_formed_lane_commands : ∀ c ∈ ([.laneEnable 7 0, .laneDisable 7 0, .laneGo 7 0 3, .lanePowerDone 7 0, .laneLosClear 7 0, .laneLock 7 0, .laneLockTimeout 7 0, .laneAdaptDone 7 0, .laneAdaptTimeout 7 0, .laneAligned 7 0 true true, .laneLos 7 0, .laneLol 7 0, .laneFreqWindow 7 0 5, .laneIdleEntry 7 0, .laneSquelchConfirm 7 0, .lanePhaseLock 7 0, .lanePhaseLockTimeout 7 0, .adaptWindow 7 0 9] : List Instr), c.wf = false := by decide +kernel
theorem test_well_formed_lane_commands : ∀ c ∈ ([.laneEnable 1 67, .laneDisable 1 67, .laneGo 1 67 3, .lanePowerDone 1 67, .laneLosClear 1 67, .laneLock 1 67, .laneLockTimeout 1 67, .laneAdaptDone 1 67, .laneAdaptTimeout 1 67, .laneAligned 1 67 true true, .laneLos 1 67, .laneLol 1 67, .laneFreqWindow 1 67 5, .laneIdleEntry 1 67, .laneSquelchConfirm 1 67, .lanePhaseLock 1 67, .lanePhaseLockTimeout 1 67, .adaptWindow 1 67 9] : List Instr), c.wf = true := by decide +kernel
theorem test_ill_formed_write_request : Instr.wf (.writeRequest 3 0 0 5 0 (.tray 64) [1, 2, 3]) = false := by decide +kernel
theorem test_ill_formed_reply_long : Instr.wf (.reply 0 3 0 5 0 (List.replicate 257 0)) = false := by decide +kernel
theorem test_ill_formed_reply_data : Instr.wf (.reply 0 3 0 5 1 [1]) = false := by decide +kernel
theorem test_ill_formed_stream_flit : Instr.wf (.streamFlit 7 3 0 0 []) = false := by decide +kernel
theorem test_ill_formed_bar2_read : Instr.wf (.bar2Read 0x3FFFFFF 2 false false) = false := by decide +kernel
theorem test_ill_formed_bar2_read_empty : Instr.wf (.bar2Read 0 0 false false) = false := by decide +kernel
theorem test_ill_formed_bar2_write : Instr.wf (.bar2Write 0x3FFFFFF [1, 2]) = false := by decide +kernel
theorem test_ill_formed_bar4_read : Instr.wf (.bar4Read 0xFFFFF 2 false false) = false := by decide +kernel
theorem test_ill_formed_bar4_write : Instr.wf (.bar4Write 0 []) = false := by decide +kernel
theorem test_ill_formed_evt_stat_clear : Instr.wf (.evtStatClear 1 6 0) = false := by decide +kernel
theorem test_ill_formed_am_row : Instr.wf (.amRow 0 0 true (List.replicate 35 ⟨0, ⟨1, 0, 0⟩, []⟩)) = false := by decide +kernel
theorem test_ill_formed_eidle_row : Instr.wf (.eidleRow 0 (List.replicate 35 ⟨0, ⟨1, 0, 0⟩⟩)) = false := by decide +kernel
theorem test_ill_formed_block_lock_loss : Instr.wf (.blockLockLoss 0 0 (List.replicate 65 1)) = false := by decide +kernel
theorem test_ill_formed_ibi : Instr.wf (.ibi 0 (.ibi 0 [1, 2, 3, 4, 5])) = false := by decide +kernel
theorem test_ill_formed_aux_reply : Instr.wf (.auxReply 0 .ack 0 (List.replicate 17 0)) = false := by decide +kernel
theorem test_ill_formed_eth_frame_rx : Instr.wf (.ethFrameRx 0 false false [1]) = false := by decide +kernel
theorem test_ill_formed_ptp_event_message_tx : Instr.wf (.ptpEventMessageTx 0 (.twoStep 1) [1]) = false := by decide +kernel
theorem test_ill_formed_aud_sample_frame : Instr.wf (.audSampleFrame 0 false (List.replicate 17 0)) = false := by decide +kernel
theorem test_ill_formed_flash_dir_read : Instr.wf (.flashDirRead [1]) = false := by decide +kernel
theorem test_ill_formed_mem_train_done : Instr.wf (.memTrainDone [] []) = false := by decide +kernel
theorem test_ill_formed_thm_sample : Instr.wf (.thmSample (List.replicate 25 ⟨0, 0⟩)) = false := by decide +kernel

/-! ### Worked values -/

/-- Worked example of spec/07: 1.0 and −0.92 in V24. -/
theorem test_v24_of_one : v24 (.int 1) = 0x3F8000 := by decide +kernel
theorem test_v24_of_minus_092 : v24 (.over (-92) 100) = 0xBF6B85 := by decide +kernel

/-- spec/07 R176: ties go away from zero. -/
theorem test_int_code_tie : intCode 10 (.over 1 2) = 512 := by decide +kernel

/-- spec/07 R189: 0.18 maps to 0.4723, zero to 0.125. -/
theorem test_log_of_grey : ((lommondLog (.over 18 100)).mul (.int 10000)).round = 4723 := by decide +kernel
theorem test_log_of_zero : ((lommondLog (.int 0)).mul (.int 1000)).round = 125 := by decide +kernel

/-- The check value of CRC-32C in RFC 3720's catalogue entry, over the digits 1 to 9, and that of the CRC of gzip. -/
theorem test_crc32c_check : crc32c [0x31, 0x32, 0x33, 0x34, 0x35, 0x36, 0x37, 0x38, 0x39] = 0xE3069283 := by decide +kernel
theorem test_crc32_check : crc32 [0x31, 0x32, 0x33, 0x34, 0x35, 0x36, 0x37, 0x38, 0x39] = 0xCBF43926 := by decide +kernel

/-- FIPS 180-4, example "abc". -/
theorem test_sha256_abc : beNat (sha256 [0x61, 0x62, 0x63]) =
    0xBA7816BF8F01CFEA414140DE5DAE2223B00361A396177A9CB410FF61F20015AD := by decide +kernel
theorem test_sha384_abc : beNat (sha384 [0x61, 0x62, 0x63]) =
    0xCB00753F45A35E8BB5A03D699AC65007272C32AB0EDED1631A8B605A43FF5BED8086072BA1E7CC2358BAECA134C825A7 := by decide +kernel

/-- The example of spec/17: HEAD_UNDERRUN of OUT.HEAD3 is local 92, bit 28 of EVT_STAT2 at 0x00B7_8008, with its route entry at
0x00B7_8970. -/
theorem test_head_underrun_local : E.headUnderrun 3 = (11, 92) := by decide +kernel
theorem test_head_underrun_bit :
    ((wordHits 11 (0xB78008 - blockBase 11)).filter (fun h => decide (h.lo = 28))).map (fun h => (h.fld 11).key) =
      [(R.EVT_STAT 11 92).key] := by decide +kernel
theorem test_head_underrun_route :
    (wordHits 11 (0xB78970 - blockBase 11)).all (fun h => decide ((h.fld 11).ix = 92)) = true := by decide +kernel

/-- spec/22 R499: the window of mailboxes and doorbells, and the AON block. -/
theorem test_place_of_aon : placeOf 0x1180004 = some ⟨16, 4, true⟩ := by decide +kernel

/-- No row of the table gives bits: no word spells a command. -/
theorem test_no_word_decodes : decodeTableWord 32 0x12345678 = none := rfl


/-! ### States and operands that meet the hypotheses of the statements -/

def st (l : List (Fld × Nat)) : State := State.reset.sets l
def grantedSt : State := { st [] with strg := { trays := [⟨1, 0, 1, 0, 4, 0xFFFF, 0xFFFF⟩] } }
def linkSt : State := { st [(R.LINK_CTL_EN 1, 1), (R.LINK_STAT_STATE 1, 3)] with inf := [((R.LINK_CTL_WIDTH 1).key, 16)] }
def openFr : Frame := { tag := 1, fcnt := 9, port := 1, width := 16, lines := 8, obLines := 16, depth := 3, dcg := 0, fsTime := 0 }
def blkOf (h : BitVec 2) (d : List Byte) : Block66 := ⟨h, 0, scramble 0 (BitVec.ofNat 64 (leNat d))⟩
def packetOf (ptype arg : Nat) (payload : List Byte) : Packet :=
  let h := leBytes 1 ptype ++ leBytes 2 (payload.length / 8) ++ leBytes 3 arg
  ⟨0, [blkOf 2 ([0x78] ++ h ++ leBytes 1 (crc8 h))] ++ (List.range (payload.length / 8)).map (fun i => blkOf 1 (slice payload (8 * i) 8)) ++
    [blkOf 2 ([0xE1] ++ leBytes 1 ptype ++ zeros 2 ++ leBytes 4 (crc32c (h ++ payload)))], 0⟩
def fsPkt : Packet := packetOf 1 9 [16, 0, 0, 0, 3, 0, 0, 0]
def fePkt : Packet := packetOf 2 9 [8, 0, 1, 0, 0, 0, 0, 0]
def linePkt : Packet := packetOf 0x10 0x90000 (List.replicate 32 5)
def obPkt : Packet := packetOf 0x11 0x90000 (List.replicate 32 5)
def embPkt : Packet := packetOf 0x20 0x90000 (List.replicate 8 5)
def vendPkt : Packet := packetOf 0x30 0 []
def expSt : State := { st [(I.PROXY 1, 0)] with strg := { rods := [⟨1, 1, 1, [(6, 0)]⟩], trays := [⟨1, 1, 0, 0, 1, 2, 2⟩] }, tray := [(4096, 5), (4099, 1)] }
def imgStrg : Stringing := { streams := [⟨0, 1, [2], 1, 0, 0, 0⟩, ⟨1, 1, [7], 1, 0, 0, 0⟩], limits := [⟨0x11, 0xFF, 0, 1⟩] }
def shutFr : Frame := { openFr with port := 0, closed := true, real := [0, 1, 2, 3, 4, 5, 6, 7], slot := 3 }
def shutF : Frame := { shutFr with fresh := true }
def imgSt (l : List (Fld × Nat)) : State := { st ((I.PROXY 2, 0) :: l) with strg := imgStrg, strung := true, frames := [shutF] }
def auOne : AuInfo := ⟨false, 3, true, true, true, none, true, [], [], [], 5, false, 64, 64, 0, 0, 64, 64, 0, 0, 0, 1⟩
def decPic1 : DecPic := { r := 1, num := 2, poc := 3, tag := 9, buf := some 2, fmt := 5, width := 8, height := 2 }
def decSt (l : List (Fld × Nat)) : State :=
  { st ((I.PROXY 9, 0) :: (R.DEC_CFG_EN 1, 1) :: (R.DEC_STAT_STATE 1, 2) :: l) with
    inf := [((R.DEC_CFG_EN 1).key, 1), ((R.DEC_BUF_BUF_MIB 1).key, 1)]
    strg := { rods := [⟨9, 1, 1, [(4, 0)]⟩], drams := [⟨0, 9, 0, 1, 0, 0x1000000, 0xFFFF, 0xFFFF⟩], trays := [⟨1, 9, 0, 0, 4, 0xFFFF, 0xFFFF⟩] } }
def dflDesc : List Byte := [9, 0, 0, 0, 0, 0, 7, 0x33] ++ zeros 4 ++ leBytes 4 4 ++ leBytes 8 1024 ++ leBytes 8 2048 ++ leBytes 4 64 ++ zeros 28
def dmaDesc : List Byte := [9, 0, 0, 0, 1, 0, 0, 0] ++ leBytes 8 16 ++ leBytes 8 0x1000 ++ leBytes 4 8 ++ zeros 4
def utlStrg : Stringing := { trays := [⟨1, 15, 0, 0, 1, 0x8000, 0x8000⟩], drams := [⟨0, 9, 0, 1, 0, 0x1000000, 0xFFFF, 0xFFFF⟩] }
def calSet : List Byte := ({ st [] with fuses := { serial := 9 } } : State).calBytes 3 [⟨1, 0, 0x8E, 0x8E, 1⟩]
def calTray : List (Nat × Byte) := (List.range 72).filterMap (fun i => if calSet.getD i 0 = 0 then none else some (64 + i, calSet.getD i 0))
def flashDir0 : List Byte := leBytes 4 0x54425856 ++ leBytes 2 1 ++ [1, 133] ++ leBytes 4 4096 ++ leBytes 4 2000 ++ zeros 24 ++ zeros 20
def flashDir : List Byte := flashDir0 ++ leBytes 4 (crc32c flashDir0)
def beadSt (rod bead : Nat) (l : List (Fld × Nat)) : State := { st ((I.PROXY rod, 0) :: l) with strg := { rods := [⟨rod, 1, 1, [(bead, 0)]⟩] } }
def motSt : State := beadSt 7 0 []
def tsBytes : List Byte := let h : List Byte := [3, 0, 32] ++ leBytes 3 2500000; [0x2D] ++ h ++ leBytes 1 (crc8 h)
def amBytes : List Byte := let h : List Byte := [3, 0, 0, 7, 0, 1]; [0x4B] ++ h ++ leBytes 1 (crc8 h)
def pairSt (f : Frame) : State :=
  { (linkSt.setInf (R.LINK_CTL_PAIR 0) 1).setInf (R.LINK_CTL_PAIR 1) 1 with frames := [f] }
def armedSt : State :=
  { imgSt [(I.PROXY 6, 0)] with strg := { imgStrg with limits := imgStrg.limits ++ [⟨0x12, 6, 0, 1⟩] } }

theorem test_witness_step_runs_front_command : ∃ (c : Instr) (rest : List Instr) (s : State), s.pending = c :: rest :=
  ⟨.patchGo, [], { st [] with pending := [.patchGo] }, rfl⟩

theorem test_witness_idle_step_advances_time :
    (∃ s : State, s.pending = [] ∧ s.on I.DEV = false ∧ (s.strung = false ∨ s.strg.powered 12 = true)) ∧
    (∃ s : State, s.pending = [] ∧ (s.on I.DEV = true ∨ (s.strung = true ∧ s.strg.powered 12 = false))) ∧
    (∃ s : State, s.pending = [] ∧ Safety.regsOk s.regs = true ∧ ∀ rod l : Nat, s.get (R.LN_PRBS_CHK_EN rod l) = 0) :=
  ⟨⟨st [], by decide +kernel⟩, ⟨st [(I.DEV, 1)], by decide +kernel⟩, ⟨State.reset, by decide +kernel, by decide +kernel, fun _ _ => rfl⟩⟩

theorem test_witness_every_command_goes_on : ∃ s t : State, step s = .next t := ⟨st [], State.tallyCycle (st []), rfl⟩

theorem test_witness_step_keeps_stores_canonical : ∃ s t : State, Safety.storesOk s = true ∧ step s = .next t :=
  ⟨State.reset, State.tallyCycle State.reset, by decide +kernel, rfl⟩

theorem test_witness_fuses_only_rise : ∃ s t : State, step s = .next t := ⟨st [], State.tallyCycle (st []), rfl⟩

theorem test_witness_bar_zero_layout : (∃ n x : Nat, n < 16 ∧ x < 0x100000) ∧ (∃ x : Nat, x < 0x2000) ∧ (∃ x : Nat, x < 0xC0) ∧
    (∃ m i : Nat, m < 32 ∧ i < 16) ∧ (∃ d i : Nat, d < 6 ∧ i < 2) ∧ (∃ x : Nat, x < 0x100000) ∧
    (∃ a : Nat, (0x10020C0 ≤ a ∧ a < 0x1100000) ∨ (0x1200000 ≤ a ∧ a < 0x2000000)) :=
  ⟨⟨15, 0xFFFFF, by decide⟩, ⟨0x1FFF, by decide⟩, ⟨0xBF, by decide⟩, ⟨31, 15, by decide⟩, ⟨5, 1, by decide⟩, ⟨0xFFFFF, by decide⟩, ⟨0x1FFFFFF, by decide⟩⟩

theorem test_witness_unmapped_offsets : (∃ a : Nat, a % 4 = 0 ∧ placeOf a = none) ∧
    (∃ a : Nat, a % 4 = 0 ∧ ∃ p : Place, placeOf a = some p ∧ wordHits p.blk p.off = [] ∧ p.blk ≠ 0) ∧
    (∃ (addr : BitVec 25) (s : State), addr.toNat % 4 = 0 ∧ Safety.reaches s (regRod addr.toNat) ∧ placeOf addr.toNat = none) :=
  ⟨⟨0x1200000, by decide⟩, ⟨0x70FF00, by decide, ⟨7, 0xFF00, false⟩, by decide +kernel⟩, ⟨0x1200000, st [], by decide +kernel⟩⟩

theorem test_witness_in_force_alias :
    (∃ (a : Nat) (p : Place), placeOf a = some p ∧ p.ali = false ∧ p.blk ≤ 16 ∧
      (∀ h ∈ wordHits p.blk p.off, isSh (h.fld p.blk).id = false) ∧ wordHits p.blk p.off ≠ []) ∧
    (∃ (addr : BitVec 25) (p : Place) (s : State), placeOf addr.toNat = some p ∧ p.ali = true ∧ addr.toNat % 4 = 0 ∧
      wordHits p.blk p.off ≠ [] ∧ Safety.reaches s (regRod addr.toNat) ∧ s.beadOpen p.blk p.off = true) :=
  ⟨⟨0xD100, ⟨0, 0xD100, false⟩, by decide +kernel⟩, ⟨0x8D100, ⟨0, 0xD100, true⟩, st [], by decide +kernel⟩⟩

theorem test_witness_beam_completes :
    (∃ (src dst : Fin 28) (epoch : BitVec 8) (txn : BitVec 10) (cls len : Fin 4) (addr : BeamAddr) (corrected upset : Bool) (a : Nat) (s : State), (addr = .tray a) ∧ (dst = 0) ∧ (s.txnOpen src txn.toNat = false) ∧ (s.txnQuarantined src txn.toNat = false) ∧ (s.isolated 0 = false) ∧ (epoch.toNat = s.get (I.PEPOCH 0 (portRod src))) ∧ (upset = false) ∧ (a + 64 * (len.val + 1) ≤ trayBytes) ∧ (∀ g ∈ granSpan a (64 * (len.val + 1)), s.granted (portRod src) g false = true) ∧ (s.badWords a (64 * (len.val + 1)) = [])) ∧
    (∃ (src dst : Fin 28) (epoch : BitVec 8) (txn : BitVec 10) (cls : Fin 4) (addr : BeamAddr) (data : List Byte) (a : Nat) (s : State), (addr = .tray a) ∧ (dst = 0) ∧ (s.txnOpen src txn.toNat = false) ∧ (s.txnQuarantined src txn.toNat = false) ∧ (s.isolated 0 = false) ∧ (epoch.toNat = s.get (I.PEPOCH 0 (portRod src))) ∧ (a + data.length ≤ trayBytes) ∧ (∀ g ∈ granSpan a data.length, s.granted (portRod src) g true = true)) ∧
    (∃ (src dst : Fin 28) (epoch : BitVec 8) (txn : BitVec 10) (status : Fin 6) (data : List Byte) (u : Txn) (s : State), (status.val ≠ 5) ∧ (s.txns.find? (fun x => decide (x.port = dst.val ∧ x.txn = txn.toNat)) = some u) ∧ (s.isolated (portRod dst) = false) ∧ (status.val = 1 ∨ epoch.toNat = s.get (I.PEPOCH dst (portRod src)))) ∧
    (∃ (stream : Fin 512) (dst : Fin 28) (mark : Fin 4) (tag : BitVec 32) (data : List Byte) (r : StreamRec) (s : State), (s.strg.streams.find? (fun x => decide (x.stream = stream.val) && x.dst.contains dst.val) = some r) ∧ (s.isolated (portRod dst) = false)) ∧
    (∃ (port : Fin 28) (txn : BitVec 10) (u : Txn) (s : State), (s.txns.find? (fun x => decide (x.port = port.val ∧ x.txn = txn.toNat)) = some u) ∧ (u.dst = 0) ∧ (¬ (2 ≤ portRod port ∧ portRod port ≤ 6))) :=
  ⟨⟨3, 0, 0, 5, 0, 0, .tray 64, true, false, 64, grantedSt, by decide +kernel⟩,
    ⟨3, 0, 0, 5, 0, .tray 64, List.replicate 64 7, 64, grantedSt, by decide +kernel⟩,
    ⟨0, 3, 0, 5, 0, [1], ⟨3, 5, 0, true⟩, { st [(I.PROXY 2, 0)] with txns := [⟨3, 5, 0, true⟩] }, by decide +kernel⟩,
    ⟨7, 3, 1, 6, [9], ⟨7, 1, [3], 0, 0, 0, 0⟩, { st [(I.PROXY 2, 0)] with strg := { streams := [⟨7, 1, [3], 0, 0, 0, 0⟩] } }, by decide +kernel⟩,
    ⟨15, 1, ⟨15, 1, 0, true⟩, { st [] with txns := [⟨15, 1, 0, true⟩] }, by decide +kernel⟩⟩

theorem test_witness_beam_statuses :
    (∃ (src dst : Fin 28) (epoch : BitVec 8) (txn : BitVec 10) (cls len : Fin 4) (addr : BeamAddr) (corrected upset : Bool) (off : Nat) (s : State), (addr = .reg off) ∧ (dst = 0) ∧ (s.txnOpen src txn.toNat = false) ∧ (s.txnQuarantined src txn.toNat = false) ∧ (s.isolated 0 = false) ∧ (epoch.toNat = s.get (I.PEPOCH 0 (portRod src))) ∧ (off < 0x100000)) ∧
    (∃ (src dst : Fin 28) (epoch : BitVec 8) (txn : BitVec 10) (cls : Fin 4) (addr : BeamAddr) (data : List Byte) (ch x : Nat) (region off : Nat) (s : State), (addr = .dram region off) ∧ (dst.val = 19 + ch) ∧ (s.txnOpen src txn.toNat = false) ∧ (s.txnQuarantined src txn.toNat = false) ∧ (s.isolated (portRod dst) = false ∧ s.get (I.CH_PROXY ch) = 0) ∧ (epoch.toNat = s.get (I.PEPOCH dst (portRod src))) ∧ (s.regionAddr region off = some (ch, x)) ∧ (ch < 8) ∧ (0 < data.length) ∧ (x % 128 + data.length ≤ 128) ∧ (s.queuedWr ch (x / 128) = none) ∧ (s.wrLen ch < classRoom cls)) ∧
    (∃ (src dst : Fin 28) (epoch : BitVec 8) (txn : BitVec 10) (cls len : Fin 4) (addr : BeamAddr) (corrected upset : Bool) (s : State), (s.txnOpen src txn.toNat = false) ∧ (s.txnQuarantined src txn.toNat = false) ∧ (epoch.toNat ≠ s.get (I.PEPOCH dst (portRod src)))) ∧
    (∃ (src dst : Fin 28) (epoch : BitVec 8) (txn : BitVec 10) (cls : Fin 4) (addr : BeamAddr) (data : List Byte) (s : State), (s.txnOpen src txn.toNat = false) ∧ (s.txnQuarantined src txn.toNat = false) ∧ (epoch.toNat ≠ s.get (I.PEPOCH dst (portRod src)))) ∧
    (∃ (src dst : Fin 28) (epoch : BitVec 8) (txn : BitVec 10) (cls len : Fin 4) (addr : BeamAddr) (corrected upset : Bool) (s : State), (s.txnOpen src txn.toNat = false) ∧ (s.txnQuarantined src txn.toNat = false) ∧ (epoch.toNat = s.get (I.PEPOCH dst (portRod src))) ∧ (s.isolated (portRod dst) = true)) ∧
    (∃ (src dst : Fin 28) (epoch : BitVec 8) (txn : BitVec 10) (cls : Fin 4) (addr : BeamAddr) (data : List Byte) (s : State), (s.txnOpen src txn.toNat = false) ∧ (s.txnQuarantined src txn.toNat = false) ∧ (epoch.toNat = s.get (I.PEPOCH dst (portRod src))) ∧ (s.isolated (portRod dst) = true)) ∧
    (∃ (src dst : Fin 28) (epoch : BitVec 8) (txn : BitVec 10) (cls len : Fin 4) (addr : BeamAddr) (corrected upset : Bool) (s : State), (addr = .nothing) ∧ (s.txnOpen src txn.toNat = false) ∧ (s.txnQuarantined src txn.toNat = false) ∧ (epoch.toNat = s.get (I.PEPOCH dst (portRod src))) ∧ (s.isolated (portRod dst) = false) ∧ (¬ (19 ≤ dst.val ∧ dst.val ≤ 26))) ∧
    (∃ (src dst : Fin 28) (epoch : BitVec 8) (txn : BitVec 10) (cls : Fin 4) (addr : BeamAddr) (data : List Byte) (s : State), (addr = .nothing) ∧ (s.txnOpen src txn.toNat = false) ∧ (s.txnQuarantined src txn.toNat = false) ∧ (epoch.toNat = s.get (I.PEPOCH dst (portRod src))) ∧ (s.isolated (portRod dst) = false) ∧ (¬ (19 ≤ dst.val ∧ dst.val ≤ 26))) ∧
    (∃ (src dst : Fin 28) (epoch : BitVec 8) (txn : BitVec 10) (cls len : Fin 4) (addr : BeamAddr) (corrected upset : Bool) (a g : Nat) (s : State), (addr = .tray a) ∧ (dst = 0) ∧ (s.txnOpen src txn.toNat = false) ∧ (s.txnQuarantined src txn.toNat = false) ∧ (s.isolated 0 = false) ∧ (epoch.toNat = s.get (I.PEPOCH 0 (portRod src))) ∧ (a + 64 * (len.val + 1) ≤ trayBytes) ∧ ((granSpan a (64 * (len.val + 1))).find? (fun g => !s.granted (portRod src) g false) = some g)) ∧
    (∃ (src dst : Fin 28) (epoch : BitVec 8) (txn : BitVec 10) (cls : Fin 4) (addr : BeamAddr) (data : List Byte) (a g : Nat) (s : State), (addr = .tray a) ∧ (dst = 0) ∧ (s.txnOpen src txn.toNat = false) ∧ (s.txnQuarantined src txn.toNat = false) ∧ (s.isolated 0 = false) ∧ (epoch.toNat = s.get (I.PEPOCH 0 (portRod src))) ∧ (a + data.length ≤ trayBytes) ∧ ((granSpan a data.length).find? (fun g => !s.granted (portRod src) g true) = some g)) ∧
    (∃ (src dst : Fin 28) (epoch : BitVec 8) (txn : BitVec 10) (cls len : Fin 4) (addr : BeamAddr) (corrected upset : Bool) (a w : Nat) (l : List Nat) (s : State), (addr = .tray a) ∧ (dst = 0) ∧ (s.txnOpen src txn.toNat = false) ∧ (s.txnQuarantined src txn.toNat = false) ∧ (s.isolated 0 = false) ∧ (epoch.toNat = s.get (I.PEPOCH 0 (portRod src))) ∧ (upset = false) ∧ (a + 64 * (len.val + 1) ≤ trayBytes) ∧ (∀ g ∈ granSpan a (64 * (len.val + 1)), s.granted (portRod src) g false = true) ∧ (s.badWords a (64 * (len.val + 1)) = w :: l)) ∧
    (∃ (src dst : Fin 28) (epoch : BitVec 8) (txn : BitVec 10) (status : Fin 6) (data : List Byte) (s : State), (status.val ≠ 5) ∧ (∀ x ∈ s.txns, ¬ (x.port = dst.val ∧ x.txn = txn.toNat))) ∧
    (∃ (stream : Fin 512) (dst : Fin 28) (mark : Fin 4) (tag : BitVec 32) (data : List Byte) (r : StreamRec) (s : State), (s.strg.streams.find? (fun x => decide (x.stream = stream.val) && x.dst.contains dst.val) = some r) ∧ (s.isolated (portRod dst) = true) ∧ (r.policy = 1)) :=
  ⟨⟨3, 0, 0, 5, 0, 1, .reg 0xD100, false, false, 0xD100, st [], by decide +kernel⟩,
    ⟨3, 19, 0, 5, 2, .dram 0 64, List.replicate 64 7, 0, 64, 0, 64, { st [(I.PROXY 14, 0), (I.CH_PROXY 0, 0)] with strg := { drams := [⟨0, 9, 0, 1, 0, 0x1000000, 0xFFFF, 0xFFFF⟩] } }, by decide +kernel⟩,
    ⟨3, 0, 1, 5, 0, 0, .tray 64, false, false, st [], by decide +kernel⟩,
    ⟨3, 0, 1, 5, 0, .tray 64, [1], st [], by decide +kernel⟩,
    ⟨3, 27, 0, 5, 0, 0, .nothing, false, false, st [], by decide +kernel⟩,
    ⟨3, 27, 0, 5, 0, .nothing, [], st [], by decide +kernel⟩,
    ⟨3, 0, 0, 5, 0, 0, .nothing, false, false, st [], by decide +kernel⟩,
    ⟨3, 0, 0, 5, 0, .nothing, [], st [], by decide +kernel⟩,
    ⟨3, 0, 0, 5, 0, 3, .tray 196600, false, false, 196600, 2, st [], by decide +kernel⟩,
    ⟨3, 0, 0, 5, 0, .tray 64, [1, 2], 64, 0, st [], by decide +kernel⟩,
    ⟨3, 0, 0, 5, 0, 0, .tray 64, false, false, 64, 9, [], { grantedSt with trayBad := [9] }, by decide +kernel⟩,
    ⟨0, 3, 0, 5, 0, [1], st [], by decide +kernel⟩,
    ⟨7, 3, 0, 0, [], ⟨7, 1, [3], 0, 1, 0, 0⟩, { st [] with strg := { streams := [⟨7, 1, [3], 0, 1, 0, 0⟩] } }, by decide +kernel⟩⟩

theorem test_witness_host_windows :
    (∃ (addr : BitVec 26) (len : BitVec 13) (corrected upset : Bool) (s : State), (Safety.reaches s 0) ∧ (upset = false) ∧ (0 < len.toNat) ∧ (addr.toNat + len.toNat ≤ trayBytes) ∧ (∀ g ∈ granSpan addr.toNat len.toNat, s.hostMay g false = true) ∧ (s.badWords addr.toNat len.toNat = [])) ∧
    (∃ (addr : BitVec 26) (data : List Byte) (s : State), (Safety.reaches s 0) ∧ (addr.toNat + data.length ≤ trayBytes) ∧ (∀ g ∈ granSpan addr.toNat data.length, s.hostMay g true = true ∧ s.windowLocked g = false)) ∧
    (∃ (off : BitVec 20) (len : BitVec 13) (corrected upset : Bool) (s : State), (Safety.reaches s 0) ∧ (upset = false) ∧ (0 < len.toNat) ∧ (off.toNat + len.toNat ≤ 2 ^ 20) ∧ (∀ g ∈ granSpan (65536 * s.get R.BAR4_GRAN + off.toNat) len.toNat, s.hostMay g false = true) ∧ (s.badWords (65536 * s.get R.BAR4_GRAN + off.toNat) len.toNat = [])) ∧
    (∃ (off : BitVec 20) (data : List Byte) (s : State), (Safety.reaches s 0) ∧ (off.toNat + data.length ≤ 2 ^ 20) ∧ (∀ g ∈ granSpan (65536 * s.get R.BAR4_GRAN + off.toNat) data.length, s.hostMay g true = true ∧ s.windowLocked g = false)) ∧
    (∃ (addr : BitVec 25) (len : BitVec 4) (v : BitVec 32) (s : State), (addr = 0xD100 ∧ len = 4) ∧ (Safety.reaches s 0) ∧ (v.toNat ≤ 1008)) ∧
    (∃ (addr : BitVec 25) (len : BitVec 4) (v : BitVec 32) (off : Nat) (s : State), (placeOf addr.toNat = some ⟨7, off, false⟩ ∧ len = 4) ∧ (0x1000 ≤ off ∧ off < 0x70000) ∧ (Safety.reaches s 7) ∧ (s.beadOpen 7 off = true) ∧ (wordHits 7 off ≠ []) ∧ (∀ h ∈ wordHits 7 off, h.ty = .rw) ∧ (s.writeOk ⟨7, off, v.toNat⟩ = true)) ∧
    (∃ (addr : BitVec 25) (len : BitVec 4) (v : BitVec 32) (s : State), (addr = 0x701000 ∧ len = 4) ∧ (Safety.reachesBead s 7 0) ∧ (v.toNat % 65536 = 0)) ∧
    (∃ (addr : BitVec 25) (len : BitVec 4) (v : BitVec 32) (s : State), (Safety.reaches s (regRod addr.toNat)) ∧ (len ≠ 4 ∨ addr.toNat % 4 ≠ 0)) ∧
    (∃ (rod : Fin 16) (s : State), (rod = 1 ∨ rod = 7 ∨ rod = 10 ∨ rod = 13 ∨ rod = 14) ∧ (Safety.reaches s rod)) ∧
    (∃ (rod : Fin 16) (s : State), (rod = 7) ∧ (Safety.reaches s 7) ∧ (s.strg.source = none)) ∧
    (∃ (blk : Fin 17) (w : Fin 8) (v : BitVec 32) (b : Nat) (s : State), (Safety.reaches s blk) ∧ (w.val < 6) ∧ (b < 32) ∧ (bit v.toNat b = true) ∧ ((blk.val, 32 * w.val + b) ≠ E.doorbell)) :=
  ⟨⟨65530, 16, true, false, grantedSt, by decide +kernel⟩,
    ⟨65534, [1, 2, 3], grantedSt, by decide +kernel⟩,
    ⟨66, 4, false, false, { st [(R.BAR4_GRAN, 1)] with strg := grantedSt.strg }, by decide +kernel⟩,
    ⟨65534, [1, 2, 3], grantedSt, by decide +kernel⟩,
    ⟨0xD100, 4, 1008, st [], by decide +kernel⟩,
    ⟨0x701000, 4, 0x80000001, 0x1000, motSt, by decide +kernel⟩,
    ⟨0x701000, 4, 0x80000000, motSt, by decide +kernel⟩,
    ⟨0xD102, 4, 1, st [], by decide +kernel⟩,
    ⟨7, { st [(I.PROXY 7, 0), (R.LINK_CTL_EN 0, 1), (R.LINK_CTL_EN 1, 1)] with strg := { streams := [⟨7, 1, [8], 0, 0, 0, 0⟩] } }, by decide +kernel⟩,
    ⟨7, st [(I.PROXY 7, 0)], by decide +kernel⟩,
    ⟨16, 5, 0x80000000, 31, st [(R.EVT_STAT 16 191, 1)], by decide +kernel⟩⟩

theorem test_witness_beam_frames :
    (∃ (src dst : Fin 28) (epoch : BitVec 8) (txn : BitVec 10) (cls len : Fin 4) (addr : BeamAddr) (corrected upset : Bool) (a : Nat) (s : State), (addr = .tray a)) ∧
    (∃ (src dst : Fin 28) (epoch : BitVec 8) (txn : BitVec 10) (cls : Fin 4) (addr : BeamAddr) (data : List Byte) (a : Nat) (s : State), (addr = .tray a)) ∧
    (∃ (src dst : Fin 28) (epoch : BitVec 8) (txn : BitVec 10) (cls len : Fin 4) (addr : BeamAddr) (corrected upset : Bool) (region off : Nat) (s : State), (addr = .dram region off)) ∧
    (∃ (src dst : Fin 28) (epoch : BitVec 8) (txn : BitVec 10) (cls : Fin 4) (addr : BeamAddr) (data : List Byte) (region off : Nat) (s : State), (addr = .dram region off)) ∧
    (∃ (src dst : Fin 28) (epoch : BitVec 8) (txn : BitVec 10) (cls len : Fin 4) (addr : BeamAddr) (corrected upset : Bool) (off : Nat) (s : State), (addr = .reg off)) ∧
    (∃ (src dst : Fin 28) (epoch : BitVec 8) (txn : BitVec 10) (cls len : Fin 4) (addr : BeamAddr) (corrected upset : Bool) (s : State), (addr = .nothing)) ∧
    (∃ (src dst : Fin 28) (epoch : BitVec 8) (txn : BitVec 10) (cls : Fin 4) (addr : BeamAddr) (data : List Byte) (off : Nat) (s : State), (addr = .reg off)) ∧
    (∃ (src dst : Fin 28) (epoch : BitVec 8) (txn : BitVec 10) (cls : Fin 4) (addr : BeamAddr) (data : List Byte) (s : State), (addr = .nothing)) :=
  ⟨⟨3, 0, 0, 5, 0, 0, .tray 64, false, false, 64, st [], by decide +kernel⟩,
    ⟨3, 0, 0, 5, 0, .tray 64, List.replicate 64 7, 64, st [], by decide +kernel⟩,
    ⟨3, 19, 0, 5, 0, 0, .dram 0 64, false, false, 0, 64, st [], by decide +kernel⟩,
    ⟨3, 19, 0, 5, 0, .dram 0 64, List.replicate 64 7, 0, 64, st [], by decide +kernel⟩,
    ⟨3, 0, 0, 5, 0, 0, .reg 16, false, false, 16, st [], by decide +kernel⟩,
    ⟨3, 0, 0, 5, 0, 0, .nothing, false, false, st [], by decide +kernel⟩,
    ⟨3, 0, 0, 5, 0, .reg 16, [1, 0, 0, 0], 16, st [], by decide +kernel⟩,
    ⟨3, 0, 0, 5, 0, .nothing, [1, 0, 0, 0], st [], by decide +kernel⟩⟩

theorem test_witness_commit_frame :
    (∃ (addr : BitVec 25) (len : BitVec 4) (v : BitVec 32) (s : State), (regRod addr.toNat = 7) ∧ (0x1000 ≤ addr.toNat % 2 ^ 19 ∧ addr.toNat % 2 ^ 19 < 0x70000)) :=
  ⟨0x701000, 4, 1, st [], by decide +kernel⟩

theorem test_witness_patch_course :
    (∃ (s : State), (Safety.reaches s 0) ∧ (¬ (1 ≤ s.get R.PATCH_STAT_STATE ∧ s.get R.PATCH_STAT_STATE ≤ 4)) ∧ (s.get R.PWR_STAT_STATE ≠ pwDoze) ∧ (s.get R.PWR_STAT_STATE ≠ pwLeaving)) ∧
    (∃ (s : State), (Safety.reaches s 0) ∧ (1 ≤ s.get R.PATCH_STAT_STATE) ∧ (s.get R.PATCH_STAT_STATE ≤ 4)) ∧
    (∃ (s : State), (Safety.reaches s 0) ∧ (1 ≤ s.get R.PATCH_STAT_STATE) ∧ (s.get R.PATCH_STAT_STATE ≤ 3)) ∧
    (∃ (s : State), (s.get R.PATCH_STAT_STATE = 1) ∧ (s.windowGrans ≠ [])) ∧
    (∃ (s : State), (s.get R.PATCH_STAT_STATE = 2) ∧ (s.on R.SUBST_STAT_ACTIVE = false)) ∧
    (∃ (s : State), (s.get R.PATCH_STAT_STATE = 3) ∧ (s.patchReady = true) ∧ (bit s.patch.hdr.rodMask 0 = false)) ∧
    (∃ (s : State), (s.get R.PATCH_STAT_STATE = 4) ∧ (s.get I.SUBST_WAIT = 0) ∧ (bit s.patch.hdr.rodMask 0 = false)) ∧
    (∃ (s : State), (s.get R.PATCH_STAT_STATE = 3) ∧ (s.patchReady = false)) :=
  ⟨⟨st [], by decide +kernel⟩,
    ⟨st [(R.PATCH_STAT_STATE, 4)], by decide +kernel⟩,
    ⟨st [(R.PATCH_STAT_STATE, 3)], by decide +kernel⟩,
    ⟨{ st [(R.PATCH_STAT_STATE, 1)] with strg := { trays := [⟨1, 0, 3, 0, 2, 1, 1⟩] } }, by decide +kernel⟩,
    ⟨st [(R.PATCH_STAT_STATE, 2)], by decide +kernel⟩,
    ⟨{ st [(R.PATCH_STAT_STATE, 3), (I.PWR_ON 7, 1), (I.RSTST 7, 0), (I.PROXY 7, 0)] with patch := { hdr := { rodMask := 128 } } }, by decide +kernel⟩,
    ⟨{ st [(R.PATCH_STAT_STATE, 4)] with patch := { hdr := { rodMask := 128 } } }, by decide +kernel⟩,
    ⟨{ st [(R.PATCH_STAT_STATE, 3), (R.PATCH_TAG_T, 5)] with patch := { hdr := { rodMask := 128 } }, strg := { rods := [⟨1, 1, 1, [(0, 0)]⟩] } }, by decide +kernel⟩⟩

theorem test_witness_lane_bring_up :
    (∃ (rod : Fin 16) (l : Fin 70) (s : State), (Safety.reaches s rod) ∧ (l.val < laneCount rod) ∧ (s.jtagHolds rod l = false) ∧ (s.on (R.LN_CTL_EN rod l) = false)) ∧
    (∃ (rod : Fin 16) (l : Fin 70) (s : State), (Safety.reaches s rod) ∧ (l.val < laneCount rod)) ∧
    (∃ (rod : Fin 16) (l : Fin 70) (stage : Fin 8) (s : State), (Safety.reaches s rod) ∧ (l.val < laneCount rod) ∧ (s.on (R.LN_CTL_EN rod l) = true) ∧ (1 ≤ stage.val ∧ stage.val ≤ 6) ∧ (¬ (1 ≤ s.lane rod l ∧ s.lane rod l ≤ 6 ∧ s.lane rod l < stage.val))) ∧
    (∃ (rod : Fin 16) (l : Fin 70) (s : State), (l.val < laneCount rod) ∧ (s.lane rod l = lnPower)) ∧
    (∃ (rod : Fin 16) (g : Fin 8) (kbps : BitVec 25) (l : Nat) (s : State), (rateOk rod g kbps.toNat = true) ∧ (l ∈ groupLanes rod g) ∧ (s.lane rod l = lnPll)) ∧
    (∃ (rod : Fin 16) (l : Fin 70) (s : State), (l.val < laneCount rod) ∧ (laneUse rod l < 4) ∧ (s.lane rod l = lnSignal)) ∧
    (∃ (rod : Fin 16) (l : Fin 70) (s : State), (l.val < laneCount rod) ∧ (s.lane rod l = lnLock)) ∧
    (∃ (rod : Fin 16) (l : Fin 70) (s : State), (l.val < laneCount rod) ∧ (s.lane rod l = lnAdapt)) ∧
    (∃ (rod : Fin 16) (l : Fin 70) (inverted reversed : Bool) (s : State), (l.val < laneCount rod) ∧ (s.lane rod l = lnAlign) ∧ (s.on (R.LN_PRBS_CHK_EN rod l) = false) ∧ (laneUse rod l ≠ 0 ∨ (s.on (I.SRX_BLK (l / 34) (l % 34)) = true ∧ s.on (I.SRX_ID (l / 34) (l % 34)) = true))) ∧
    (∃ (rod : Fin 16) (l : Fin 70) (s : State), (l.val < laneCount rod) ∧ (s.lane rod l = lnAdapt)) :=
  ⟨⟨1, 5, st [(I.PROXY 1, 0)], by decide +kernel⟩,
    ⟨12, 15, st [(I.PROXY 12, 0), (R.LN_CTL_EN 12 15, 1), (R.LN_STAT_STATE 12 15, 7)], by decide +kernel⟩,
    ⟨11, 19, 6, st [(I.PROXY 11, 0), (R.LN_CTL_EN 11 19, 1), (R.LN_STAT_STATE 11 19, 9)], by decide +kernel⟩,
    ⟨1, 67, st [(R.LN_STAT_STATE 1 67, 1)], by decide +kernel⟩,
    ⟨11, 3, 1483516, 3, st [(R.LN_STAT_STATE 11 3, 2)], by decide +kernel⟩,
    ⟨1, 0, st [(R.LN_STAT_STATE 1 0, 3), (R.LN_STAT_LOS 1 0, 1)], by decide +kernel⟩,
    ⟨1, 0, st [(R.LN_STAT_STATE 1 0, 4)], by decide +kernel⟩,
    ⟨1, 0, st [(R.LN_STAT_STATE 1 0, 5)], by decide +kernel⟩,
    ⟨1, 67, true, false, st [(R.LN_STAT_STATE 1 67, 6), (I.SRX_BLK 1 33, 1), (I.SRX_ID 1 33, 1)], by decide +kernel⟩,
    ⟨1, 0, st [(R.LN_STAT_STATE 1 0, 5)], by decide +kernel⟩⟩

theorem test_witness_lane_failures :
    (∃ (rod : Fin 16) (l : Fin 70) (s : State), (l.val < laneCount rod) ∧ (s.lane rod l = lnLock)) ∧
    (∃ (rod : Fin 16) (g : Fin 8) (l : Nat) (s : State), (l ∈ groupLanes rod g) ∧ (s.lane rod l = lnPll)) ∧
    (∃ (rod : Fin 16) (g : Fin 8) (l m : Nat) (s : State), (l ∈ groupLanes rod g) ∧ (m ∈ groupLanes rod g) ∧ (lnSignal ≤ s.lane rod m ∧ s.lane rod m ≤ lnIdle) ∧ (s.lane rod l ≠ lnOff) ∧ (s.lane rod l ≠ lnFault)) ∧
    (∃ (rod : Fin 16) (l : Fin 70) (s : State), (l.val < laneCount rod) ∧ (laneUse rod l < 4) ∧ (s.lane rod l = lnUp) ∧ (s.on (R.LN_STAT_LOS rod l) = false) ∧ (Instr.laneIdleEntry rod l ∉ s.pending)) ∧
    (∃ (rod : Fin 16) (l : Fin 70) (s : State), (l.val < laneCount rod) ∧ (laneUse rod l < 4) ∧ (s.lane rod l = lnUp) ∧ (s.on (R.LN_STAT_LOS rod l) = false) ∧ (Instr.laneLos rod l ∉ s.pending)) ∧
    (∃ (rod : Fin 16) (l : Fin 70) (ppm : BitVec 20) (s : State), (l.val < laneCount rod) ∧ (laneUse rod l < 4) ∧ (s.lane rod l = lnUp) ∧ (s.on (R.LN_STAT_LOS rod l) = false) ∧ (s.get (R.LN_DET_FREQ_WIN rod l) * 10 < ppm.toNat) ∧ (Instr.laneLos rod l ∉ s.pending) ∧ (s.get (R.LN_DET_LOL_WIN rod l) ≤ s.get (I.LANE_OUTWIN rod l))) ∧
    (∃ (rod : Fin 16) (l : Fin 70) (s : State), (l.val < laneCount rod) ∧ (s.lane rod l = lnUp)) ∧
    (∃ (rod : Fin 16) (l : Fin 70) (s : State), (l.val < laneCount rod) ∧ (s.lane rod l = lnIdle)) ∧
    (∃ (rod : Fin 16) (l : Fin 70) (s : State), (l.val < laneCount rod) ∧ (s.lane rod l = lnIdle) ∧ (s.get (I.LANE_SQ rod l) = 1)) ∧
    (∃ (rod : Fin 16) (l : Fin 70) (s : State), (l.val < laneCount rod) ∧ (s.lane rod l = lnIdle) ∧ (s.on (I.LANE_SQ rod l) = true)) ∧
    (∃ (rod : Fin 16) (l : Fin 70) (density : BitVec 13) (s : State), (l.val < laneCount rod) ∧ (laneUse rod l < 4) ∧ (s.lane rod l = lnUp) ∧ (s.get (R.LN_ADAPT_MODE rod l) = 0) ∧ (density.toNat * 64 < s.get (R.LN_ADAPT_DENS_MIN rod l) * 4096) ∧ (s.get (R.LN_ADAPT_FRZ_RUN rod l) ≤ s.get (I.LANE_LOW rod l) + 1)) ∧
    (∃ (rod : Fin 16) (l : Fin 70) (density : BitVec 13) (s : State), (l.val < laneCount rod) ∧ (laneUse rod l < 4) ∧ (s.lane rod l = lnUp) ∧ (s.get (R.LN_ADAPT_MODE rod l) = 0) ∧ (s.get (R.LN_ADAPT_DENS_MIN rod l) * 4096 ≤ density.toNat * 64) ∧ (s.get (R.LN_ADAPT_THAW_RUN rod l) ≤ s.get (I.LANE_HIGH rod l) + 1) ∧ (s.on (I.LANE_FRZREQ rod l) = false)) :=
  ⟨⟨1, 0, st [(R.LN_STAT_STATE 1 0, 4), (I.LANE_LOCKF 1 0, 7)], by decide +kernel⟩,
    ⟨10, 3, 15, st [(R.LN_STAT_STATE 10 15, 2)], by decide +kernel⟩,
    ⟨1, 1, 34, 67, st [(R.LN_STAT_STATE 1 34, 1), (R.LN_STAT_STATE 1 67, 8)], by decide +kernel⟩,
    ⟨0, 3, st [(R.LN_STAT_STATE 0 3, 7)], by decide +kernel⟩,
    ⟨1, 67, st [(R.LN_STAT_STATE 1 67, 7)], by decide +kernel⟩,
    ⟨1, 67, 0xFFFFF, st [(R.LN_STAT_STATE 1 67, 7), (I.LANE_OUTWIN 1 67, 100)], by decide +kernel⟩,
    ⟨1, 0, st [(R.LN_STAT_STATE 1 0, 7)], by decide +kernel⟩,
    ⟨1, 0, st [(R.LN_STAT_STATE 1 0, 8)], by decide +kernel⟩,
    ⟨1, 0, st [(R.LN_STAT_STATE 1 0, 8), (I.LANE_SQ 1 0, 1)], by decide +kernel⟩,
    ⟨1, 0, st [(R.LN_STAT_STATE 1 0, 8), (I.LANE_SQ 1 0, 2)], by decide +kernel⟩,
    ⟨1, 67, 0, st [(R.LN_STAT_STATE 1 67, 7), (R.LN_ADAPT_DENS_MIN 1 67, 1), (I.LANE_LOW 1 67, 100)], by decide +kernel⟩,
    ⟨1, 67, 4096, st [(R.LN_STAT_STATE 1 67, 7), (R.LN_STAT_FROZEN 1 67, 1), (I.LANE_HIGH 1 67, 100)], by decide +kernel⟩⟩

theorem test_witness_link_training :
    (∃ (port : Fin 2) (lane : Fin 34) (blk : Block66) (d : List Byte) (s : State), (s.on (R.LINK_CTL_EN port) = true) ∧ (s.lane 1 (port.val * 34 + lane.val) = lnAlign) ∧ (s.on (I.SRX_BLK port lane) = true) ∧ (blockOf blk = .ts d) ∧ (checkOk d = true) ∧ (byteAt d 3 = s.srxN port ∧ fieldLE d 4 3 = s.get (I.LANE_RATE 1 (port.val * 34 + lane.val)) ∧ byteAt d 2 = s.srxRole port) ∧ (s.get (I.SRX_TSVAL port lane) = byteAt d 1 + 1) ∧ (7 ≤ s.get (I.SRX_TSCNT port lane)) ∧ (s.get (R.LINK_STAT_STATE port) ≠ 1)) ∧
    (∃ (port : Fin 2) (lane : Fin 34) (headers : List (BitVec 2)) (s : State), (s.lane 1 (port.val * 34 + lane.val) = lnAlign ∨ s.lane 1 (port.val * 34 + lane.val) = lnUp) ∧ (validRun (if s.on (I.SRX_WAKE port lane) then 32 else 64) headers = true)) ∧
    (∃ (port : Fin 2) (lane : Fin 34) (headers : List (BitVec 2)) (s : State), (s.on (I.SRX_BLK port lane) = true) ∧ (s.lane 1 (port.val * 34 + lane.val) = lnUp) ∧ (headers.length ≤ 64) ∧ (16 ≤ (headers.filter (fun h => !headerOk h)).length)) ∧
    (∃ (port : Fin 2) (lane : Fin 34) (s : State), (s.lane 1 (port.val * 34 + lane.val) = lnAlign)) ∧
    (∃ (port : Fin 2) (skew : BitVec 16) (inPacket : Bool) (marks : List AmLane) (k : Nat) (d : List Byte) (b : Bool) (rest : List (Nat × List Byte × Bool)) (s : State), (s.on (R.LINK_CTL_EN port) = true) ∧ (2 ≤ s.get (R.LINK_STAT_STATE port)) ∧ (goodMarks marks = (k, d, b) :: rest)) ∧
    (∃ (port : Fin 2) (row : List LaneBlock) (s : State), (s.get (R.LINK_STAT_STATE port) = 3) ∧ (row.any (fun b => blockOf b.blk == .eidle) = true)) ∧
    (∃ (port : Fin 2) (s : State), (Safety.reachesBead s 1 port) ∧ (s.on (R.LINK_CTL_EN port) = true)) ∧
    (∃ (port spare : Fin 2) (logical : Fin 32) (s : State), (s.on (R.SPARE_CTL_AUTO port) = true) ∧ (s.on (R.LH_BAD port logical) = true) ∧ (s.get (if spare.val = 0 then R.SPARE_CTL_SPARE0_LOG port else R.SPARE_CTL_SPARE1_LOG port) = 0x3F) ∧ (s.openFrame (s.lport port) = none)) ∧
    (∃ (n : Fin 2) (s : State), (Safety.reachesBead s 1 (9 + n.val))) ∧
    (∃ (n : Fin 2) (s : State), (Safety.reachesBead s 1 (9 + n.val))) ∧
    (∃ (bus : Fin 2) (req : IbiReq) (a : BitVec 7) (l : List Byte) (s : State), (s.isolated 1 = false) ∧ (s.on (R.I3C_EN bus) = true) ∧ (req = .ibi a l)) ∧
    (∃ (bus : Fin 2) (req : IbiReq) (s : State), (s.isolated 1 = false) ∧ (s.on (R.I3C_EN bus) = true) ∧ (req = .hotJoin)) :=
  ⟨⟨1, 33, blkOf 2 tsBytes, tsBytes, st [(R.LINK_CTL_EN 1, 1), (R.LN_STAT_STATE 1 67, 6), (I.SRX_BLK 1 33, 1), (I.SRX_TSVAL 1 33, 4), (I.SRX_TSCNT 1 33, 7), (I.LANE_RATE 1 67, 2500000)], by decide +kernel⟩,
    ⟨1, 33, List.replicate 64 2, st [(R.LN_STAT_STATE 1 67, 6)], by decide +kernel⟩,
    ⟨1, 33, List.replicate 16 0, st [(R.LN_STAT_STATE 1 67, 7), (I.SRX_BLK 1 33, 1)], by decide +kernel⟩,
    ⟨1, 33, st [(R.LN_STAT_STATE 1 67, 6), (R.LH_ALIGN_FAIL 1 33, 7)], by decide +kernel⟩,
    ⟨1, 264, false, [⟨3, blkOf 2 amBytes, []⟩], 3, amBytes, false, [], st [(R.LINK_CTL_EN 1, 1), (R.LINK_STAT_STATE 1, 2)], by decide +kernel⟩,
    ⟨1, [⟨3, blkOf 2 [0x55]⟩], st [(R.LINK_STAT_STATE 1, 3), (R.LN_STAT_STATE 1 67, 7)], by decide +kernel⟩,
    ⟨1, beadSt 1 1 [(R.LINK_CTL_EN 1, 1), (R.LINK_STAT_STATE 1, 3), (R.LMAP_V 1 7 3, 1)], by decide +kernel⟩,
    ⟨1, 1, 31, st [(R.LH_BAD 1 31, 1)], by decide +kernel⟩,
    ⟨1, beadSt 1 10 [], by decide +kernel⟩,
    ⟨1, beadSt 1 10 [(R.SCK_EN 1, 1)], by decide +kernel⟩,
    ⟨1, .ibi 3 [1], 3, [1], st [(I.PROXY 1, 0), (R.I3C_EN 1, 1)], by decide +kernel⟩,
    ⟨1, .hotJoin, st [(I.PROXY 1, 0), (R.I3C_EN 1, 1)], by decide +kernel⟩⟩

theorem test_witness_sensor_packets :
    (∃ (port : Fin 2) (pkt : Packet) (x : Pkt) (s : State), (s.portUp port = true) ∧ ((streamOf pkt.first.val (pkt.blocks.map blockOf)).2 = some x) ∧ (x.err = none ∧ x.ptype = 1) ∧ (s.get (R.COMMIT_PEND 1) = 0) ∧ (s.lport port = port ∨ s.openFrame 2 = none)) ∧
    (∃ (port : Fin 2) (pkt : Packet) (x : Pkt) (f : Frame) (s : State), (s.portUp port = true) ∧ ((streamOf pkt.first.val (pkt.blocks.map blockOf)).2 = some x) ∧ (x.err = none ∧ x.ptype = 1) ∧ (s.lport port = 2) ∧ (s.openFrame 2 = some f) ∧ (s.frame f.tag = some f) ∧ (f.fcnt = x.arg ∧ bit f.fsMask port = false)) ∧
    (∃ (port : Fin 2) (pkt : Packet) (x : Pkt) (f : Frame) (s : State), (s.portUp port = true) ∧ ((streamOf pkt.first.val (pkt.blocks.map blockOf)).2 = some x) ∧ (x.err = none ∧ x.ptype = 2) ∧ (s.openFrame (s.lport port) = some f) ∧ (s.frame f.tag = some f) ∧ (f.fcnt = x.arg) ∧ (s.lport port = port ∨ setBit f.feMask port = 3) ∧ (s.on (I.SYNTH_WAIT (sp (s.lport port))) = false)) ∧
    (∃ (port : Fin 2) (pkt : Packet) (x : Pkt) (f : Frame) (s : State), (s.portUp port = true) ∧ ((streamOf pkt.first.val (pkt.blocks.map blockOf)).2 = some x) ∧ (x.err = none ∧ x.ptype = 2) ∧ (s.lport port = 2) ∧ (s.openFrame 2 = some f) ∧ (s.frame f.tag = some f) ∧ (f.fcnt = x.arg) ∧ (setBit f.feMask port ≠ 3)) ∧
    (∃ (port : Fin 2) (pkt : Packet) (x : Pkt) (f : Frame) (s : State), (s.portUp port = true) ∧ ((streamOf pkt.first.val (pkt.blocks.map blockOf)).2 = some x) ∧ (x.err = none ∧ x.ptype = 0x10) ∧ (s.lport port = port) ∧ (x.len = s.portLen port) ∧ (s.openFrame port = some f) ∧ (s.frame f.tag = some f) ∧ (f.fcnt % 256 = x.arg / 2 ^ 16) ∧ (f.overflow = none ∧ s.fifoFull port pkt x = false ∧ f.mismatch = false) ∧ (f.next ≤ x.arg % 2 ^ 14 ∧ x.arg % 2 ^ 14 < f.lines) ∧ (∀ h ∈ s.lnk.halves, h.port ≠ port.val)) ∧
    (∃ (port : Fin 2) (pkt : Packet) (x : Pkt) (f : Frame) (s : State), (s.portUp port = true) ∧ ((streamOf pkt.first.val (pkt.blocks.map blockOf)).2 = some x) ∧ (x.err = none ∧ x.ptype = 0x10) ∧ (s.lport port = 2) ∧ (x.len = s.portLen port) ∧ (s.openFrame 2 = some f) ∧ (f.fcnt % 256 = x.arg / 2 ^ 16) ∧ (f.overflow = none ∧ s.fifoFull port pkt x = false ∧ f.mismatch = false) ∧ (f.next ≤ x.arg % 2 ^ 14 ∧ x.arg % 2 ^ 14 < f.lines) ∧ (s.lnk.halves = [])) ∧
    (∃ (port : Fin 2) (pkt : Packet) (x : Pkt) (f : Frame) (s : State), (s.portUp port = true) ∧ ((streamOf pkt.first.val (pkt.blocks.map blockOf)).2 = some x) ∧ (x.err = none ∧ x.ptype = 0x11) ∧ (s.lport port = port) ∧ (x.len = s.portLen port) ∧ (s.openFrame port = some f) ∧ (s.frame f.tag = some f) ∧ (f.fcnt % 256 = x.arg / 2 ^ 16) ∧ (f.overflow = none ∧ s.fifoFull port pkt x = false ∧ f.mismatch = false) ∧ (f.nextOb ≤ x.arg % 2 ^ 14 ∧ x.arg % 2 ^ 14 < f.obLines) ∧ (∀ h ∈ s.lnk.halves, h.port ≠ port.val)) ∧
    (∃ (port : Fin 2) (pkt : Packet) (x : Pkt) (f : Frame) (s : State), (s.portUp port = true) ∧ ((streamOf pkt.first.val (pkt.blocks.map blockOf)).2 = some x) ∧ (x.err = none ∧ x.ptype = 0x20) ∧ (s.openFrame (s.lport port) = some f) ∧ (s.frame f.tag = some f) ∧ (f.fcnt % 256 = x.arg / 2 ^ 16) ∧ (f.overflow = none ∧ s.fifoFull port pkt x = false)) ∧
    (∃ (port : Fin 2) (pkt : Packet) (x : Pkt) (s : State), (s.portUp port = true) ∧ ((streamOf pkt.first.val (pkt.blocks.map blockOf)).2 = some x) ∧ (x.err = none ∧ x.ptype / 16 = 3)) ∧
    (∃ (port : Fin 2) (pkt : Packet) (x : Pkt) (s : State), (s.portUp port = true) ∧ ((streamOf pkt.first.val (pkt.blocks.map blockOf)).2 = some x) ∧ (x.err = some .hcrc)) ∧
    (∃ (port : Fin 2) (fs : Bool) (h : Half) (s : State), (fs = false) ∧ (s.lnk.halves.filter (fun x => decide (x.port = port.val)) = [h])) ∧
    (∃ (port : Fin 2) (s : State), (Safety.reachesBead s 1 port) ∧ (s.on (R.LINK_CTL_EN port) = false)) ∧
    (∃ (port : Fin 2) (s : State), (Safety.reachesBead s 1 port) ∧ (s.on (R.LINK_CTL_EN port) = true) ∧ (s.openFrame (s.lport port) = none)) ∧
    (∃ (port : Fin 2) (f : Frame) (s : State), (s.openFrame (s.lport port) = some f) ∧ (s.frame f.tag = some f) ∧ (s.on (I.SYNTH_WAIT (sp (s.lport port))) = false)) :=
  ⟨⟨1, fsPkt, ⟨1, 1, 9, [16, 0, 0, 0, 3, 0, 0, 0], none⟩, linkSt, by decide +kernel⟩,
    ⟨1, fsPkt, ⟨1, 1, 9, [16, 0, 0, 0, 3, 0, 0, 0], none⟩, { openFr with port := 2, fsMask := 1 }, pairSt { openFr with port := 2, fsMask := 1 }, by decide +kernel⟩,
    ⟨1, fePkt, ⟨2, 1, 9, [8, 0, 1, 0, 0, 0, 0, 0], none⟩, openFr, { linkSt with frames := [openFr] }, by decide +kernel⟩,
    ⟨1, fePkt, ⟨2, 1, 9, [8, 0, 1, 0, 0, 0, 0, 0], none⟩, { openFr with port := 2 }, pairSt { openFr with port := 2 }, by decide +kernel⟩,
    ⟨1, linePkt, ⟨0x10, 4, 0x90000, List.replicate 32 5, none⟩, openFr, { linkSt with frames := [openFr] }, by decide +kernel⟩,
    ⟨1, linePkt, ⟨0x10, 4, 0x90000, List.replicate 32 5, none⟩, { openFr with port := 2 }, pairSt { openFr with port := 2 }, by decide +kernel⟩,
    ⟨1, obPkt, ⟨0x11, 4, 0x90000, List.replicate 32 5, none⟩, openFr, { linkSt with frames := [openFr] }, by decide +kernel⟩,
    ⟨1, embPkt, ⟨0x20, 1, 0x90000, List.replicate 8 5, none⟩, openFr, { linkSt with frames := [openFr] }, by decide +kernel⟩,
    ⟨1, vendPkt, ⟨0x30, 0, 0, [], none⟩, linkSt, by decide +kernel⟩,
    ⟨1, ⟨0, [blkOf 2 [0x78, 1, 1, 0, 9]], 0⟩, ⟨1, 1, 9, [], some .hcrc⟩, linkSt, by decide +kernel⟩,
    ⟨1, false, ⟨1, false, 3, []⟩, { st [] with lnk := { halves := [⟨1, false, 3, []⟩] } }, by decide +kernel⟩,
    ⟨1, beadSt 1 1 [], by decide +kernel⟩,
    ⟨1, beadSt 1 1 [(R.LINK_CTL_EN 1, 1)], by decide +kernel⟩,
    ⟨1, openFr, { linkSt with frames := [openFr] }, by decide +kernel⟩⟩

theorem test_witness_exposure_and_timing :
    (∃ (port : Fin 2) (slot : Fin 8) (s : State), (Safety.reachesBead s 1 6) ∧ ((s.setsOf (s.lport port)).any (fun e => decide (e.slot = slot.val)) = true)) ∧
    (∃ (port : Fin 2) (slot : Fin 8) (e : ExpSet) (s : State), (Safety.reachesBead s 1 6) ∧ (s.pairOn = false ∨ port.val = 0) ∧ ((s.setsOf (s.lport port)).any (fun e => decide (e.slot = slot.val)) = false) ∧ ((s.trayReadAs 1 1 (s.get R.EXQ_RING_GRAN * granBytes + 4096 * port.val + 256 * slot.val) 256).2.1 = 0) ∧ (expSet (s.lport port) slot (s.trayReadAs 1 1 (s.get R.EXQ_RING_GRAN * granBytes + 4096 * port.val + 256 * slot.val) 256).1 = some e)) ∧
    (∃ (port : Fin 2) (ack : Bool) (e : ExpSet) (s : State), (ack = true) ∧ ((s.setsOf (s.lport port)).find? (fun e => e.writes.any (fun w => w.sent && !w.done)) = some e) ∧ (s.on (I.EXQ_OPEN (s.lport port)) = false ∨ ∀ x ∈ s.setsOf (s.lport port), ∀ w ∈ x.writes, w.sent = true ∨ w.done = true)) ∧
    (∃ (port : Fin 2) (ack : Bool) (e : ExpSet) (s : State), (ack = false) ∧ ((s.setsOf (s.lport port)).find? (fun e => e.writes.any (fun w => w.sent && !w.done)) = some e) ∧ (e.target.isSome = true) ∧ (s.on (I.EXQ_OPEN (s.lport port)) = false)) ∧
    (∃ (port : Fin 2) (s : State), (s.on (I.EXQ_OPEN (s.lport port)) = true)) ∧
    (∃ (port : Fin 2) (mode : Fin 4) (s : State), (Safety.reachesBead s 1 (7 + port.val)) ∧ (mode = 0) ∧ (s.get (R.EXS_CTL_MODE port) ≠ 0)) ∧
    (∃ (port : Fin 2) (mode : Fin 4) (s : State), (Safety.reachesBead s 1 (7 + port.val)) ∧ (mode = 1 ∨ mode = 2) ∧ (s.get (R.EXS_CTL_MODE port) = 0)) ∧
    (∃ (port : Fin 2) (s : State), (s.isolated 1 = false) ∧ (s.get (R.EXS_CTL_MODE port) ≠ 0)) ∧
    (∃ (port : Fin 2) (s : State), (s.isolated 1 = false) ∧ (s.on (R.EXS_CTL_LINE_EN port) = true) ∧ (s.get (R.EXS_CTL_MODE port) ≠ 0) ∧ (s.get (I.LINE_SENT port) ≠ 0) ∧ (s.get (I.LINE_SENT port) < s.inForce (R.EXS_LEAD_LINE_CNT port))) ∧
    (∃ (falling : Bool) (pulse : BitVec 32) (s : State), (100 ≤ pulse.toNat) ∧ (falling = s.on R.REF_CFG_EDGE)) ∧
    (∃ (s : State), (s.refMean ≠ 0) ∧ (s.on R.REF_STAT_HOLDOVER = false)) ∧
    (∃ (port : Fin 2) (s : State), (s.isolated 1 = false) ∧ (s.get (R.EXS_CTL_MODE port) ≠ 0) ∧ (s.on (I.EXS_SLOT port) = true) ∧ (s.lport port = port ∨ port.val = 0) ∧ (s.on (R.LINK_CTL_EN port) = true) ∧ (s.openFrame (s.lport port) = none)) ∧
    (∃ (port : Fin 2) (s : State), (s.isolated 1 = false) ∧ (s.get (R.EXS_CTL_MODE port) ≠ 0) ∧ (s.on (I.EXS_SLOT port) = true) ∧ (s.lport port = port ∨ port.val = 0) ∧ (s.on (R.LINK_CTL_EN port) = true) ∧ ((s.openFrame (s.lport port)).isSome = true)) :=
  ⟨⟨1, 7, { beadSt 1 6 [] with lnk := { sets := [⟨1, 7, 9, false, 0, 0, [], none⟩] } }, by decide +kernel⟩,
    ⟨1, 0, ⟨1, 0, 5, false, 0, 0, [⟨0, 0, 1, 0, 0, [0], false, false⟩], none⟩, expSt, by decide +kernel⟩,
    ⟨1, true, ⟨1, 0, 5, false, 0, 0, [⟨0, 0, 1, 0, 0, [0], true, false⟩], none⟩, { st [(I.EXQ_OPEN 1, 1)] with lnk := { sets := [⟨1, 0, 5, false, 0, 0, [⟨0, 0, 1, 0, 0, [0], true, false⟩], none⟩] } }, by decide +kernel⟩,
    ⟨1, false, ⟨1, 0, 5, false, 0, 0, [⟨0, 0, 1, 0, 0, [0], true, false⟩], some 7⟩, { st [] with lnk := { sets := [⟨1, 0, 5, false, 0, 0, [⟨0, 0, 1, 0, 0, [0], true, false⟩], some 7⟩] } }, by decide +kernel⟩,
    ⟨1, st [(I.EXQ_OPEN 1, 1)], by decide +kernel⟩,
    ⟨1, 0, beadSt 1 8 [(R.EXS_CTL_MODE 1, 2)], by decide +kernel⟩,
    ⟨1, 2, beadSt 1 8 [], by decide +kernel⟩,
    ⟨1, st [(I.PROXY 1, 0), (R.EXS_CTL_MODE 1, 1)], by decide +kernel⟩,
    ⟨1, { st [(I.PROXY 1, 0), (R.EXS_CTL_MODE 1, 1), (R.EXS_CTL_LINE_EN 1, 1), (I.LINE_SENT 1, 1)] with inf := [((R.EXS_LEAD_LINE_CNT 1).key, 2)] }, by decide +kernel⟩,
    ⟨false, 100, { st [(I.REF_LAST, 1)] with now := 100, lnk := { refs := [100] } }, by decide +kernel⟩,
    ⟨{ st [] with lnk := { refs := [100] } }, by decide +kernel⟩,
    ⟨1, { linkSt with regs := (linkSt.sets [(I.PROXY 1, 0), (R.EXS_CTL_MODE 1, 1), (I.EXS_SLOT 1, 77)]).regs }, by decide +kernel⟩,
    ⟨1, { linkSt with regs := (linkSt.sets [(I.PROXY 1, 0), (R.EXS_CTL_MODE 1, 1), (I.EXS_SLOT 1, 77)]).regs, frames := [openFr] }, by decide +kernel⟩⟩

theorem test_witness_image_jobs :
    (∃ (n : Fin 5) (refPoison : Bool) (f : Frame) (k : Nat) (s : State), (s.imgReady n = some (f, k)) ∧ (s.tnrQuality = false ∨ s.tnrVectors n = false ∨ (s.vecSet f.tag).isSome = true)) ∧
    (∃ (n : Fin 5) (refPoison : Bool) (f : Frame) (k : Nat) (s : State), (s.imgReady n = some (f, k)) ∧ (s.tnrQuality = true) ∧ (s.vecSet f.tag = none)) ∧
    (∃ (n : Fin 5) (upset : List (BitVec 23)) (j : ImgJob) (s : State), (s.imgs.find? (fun j => decide (j.rod = 2 + n.val)) = some j) ∧ ((s.frame j.tag).any (fun f => !f.closed) = false)) ∧
    (∃ (tag : BitVec 32) (n g : Nat) (rest : List Nat) (s : State), ((List.range s.stripes).map (fun k => s.stripeRod k - 2) = n :: rest) ∧ (s.inForce (R.DCG_RATIO_AUTO n) = 1) ∧ (∀ r ∈ n :: rest, s.get (R.DCG_SUM_S r 0) = tag.toNat) ∧ (s.dcgRatio (n :: rest) n = some g)) ∧
    (∃ (j : Job) (f : Frame) (a : Nat) (s : State), (s.jobs.find? (fun j => decide (j.rod = 7)) = some j) ∧ (s.frame j.tag = some f) ∧ (f.closed = true) ∧ (((List.range (s.inForce R.VST_RING_DEPTH)).map (s.vecSlot f)).find? (fun a => decide (fieldLE (s.trayRead a 4) 0 4 = f.tag)) = some a)) ∧
    (∃ (m : Fin 4) (s : State), (Safety.reaches s 0) ∧ (s.lutNamed m = false)) ∧
    (∃ (m : Fin 4) (s : State), (Safety.reaches s 0) ∧ (s.lutNamed m = true)) ∧
    (∃ (m : Fin 4) (s : State), (Safety.reaches s 0) ∧ (s.get (R.SLOT_STAT_STATE m) = 0 ∨ s.get (R.SLOT_STAT_STATE m) = 3)) ∧
    (∃ (m : Fin 4) (s : State), (s.get (R.SLOT_STAT_STATE m) = 1)) ∧
    (∃ (m : Nat) (s : State), (((List.range 4).map (fun i => (s.get I.LUT_PTR + i) % 4)).find? (fun m => decide (s.get (R.SLOT_STAT_STATE m) = 2)) = some m)) :=
  ⟨⟨0, false, shutF, 0, imgSt [(I.IMG_LAST 0, 0xFFFFFFFF)], by decide +kernel⟩,
    ⟨0, true, shutF, 0, imgSt [(I.IMG_LAST 0, 0xFFFFFFFF)], by decide +kernel⟩,
    ⟨0, [], ⟨2, 0, 1, none, false, none, false, []⟩, { imgSt [] with imgs := [⟨2, 0, 1, none, false, none, false, []⟩] }, by decide +kernel⟩,
    ⟨9, 0, 1048576, [], { imgSt [(R.DCG_SUM_S 0 0, 9), (R.DCG_SUM_S 0 1, 4096), (R.DCG_SUM_S 0 2, 0x41800000), (R.DCG_SUM_S 0 3, 0x3F800000), (R.COMMIT_PEND 2, 0)] with inf := [((R.DCG_RATIO_AUTO 0).key, 1)] }, by decide +kernel⟩,
    ⟨⟨7, 0, 4, 0, 1⟩, shutF, 0, { imgSt [] with inf := [(R.VST_RING_DEPTH.key, 1)], jobs := [⟨7, 0, 4, 0, 1⟩], tray := [(0, 1)] }, by decide +kernel⟩,
    ⟨3, st [(R.SLOT_STAT_STATE 3, 2)], by decide +kernel⟩,
    ⟨3, { imgSt [(R.SLOT_STAT_STATE 3, 2), (R.LUT_CFG_EN 0, 1), (R.LUT_CFG_SLOT 0, 3)] with strg := { imgStrg with rods := [⟨2, 1, 0, [(8, 1)]⟩] } }, by decide +kernel⟩,
    ⟨3, st [(R.SLOT_STAT_STATE 3, 3)], by decide +kernel⟩,
    ⟨3, st [(R.SLOT_STAT_STATE 3, 1)], by decide +kernel⟩,
    ⟨3, st [(R.SLOT_STAT_STATE 3, 2)], by decide +kernel⟩⟩

theorem test_witness_fatal_faults :
    (∃ (n : Fin 5) (s : State), (s.imgs.any (fun j => decide (j.rod = 2 + n.val)) = true) ∧ (s.isolated (2 + n) = false) ∧ (n.val ≠ 4 ∨ (s.rodStripe 6).isSome = true) ∧ (s.get (I.RSTST (2 + n)) = 0) ∧ (s.on (I.PWR_ON (2 + n)) = true)) ∧
    (∃ (n : Fin 5) (k : Nat) (s : State), (s.imgs.any (fun j => decide (j.rod = 2 + n.val)) = true) ∧ (s.isolated (2 + n) = false) ∧ (s.rodStripe (2 + n) = some k) ∧ (s.spareArmed = false)) ∧
    (∃ (n : Fin 5) (s : State), (s.isolated (2 + n) = false) ∧ (n.val ≠ 4 ∨ (s.rodStripe 6).isSome = true) ∧ (s.get (I.RSTST (2 + n)) = 0) ∧ (s.on (I.PWR_ON (2 + n)) = true)) ∧
    (∃ (n : Fin 5) (s : State), (n = 4) ∧ (s.isolated 6 = false) ∧ (s.rodStripe 6 = none) ∧ (s.spareArmed = true) ∧ (s.on I.SPARE_BAD = false) ∧ (s.get R.PATCH_STAT_STATE ≠ 3)) ∧
    (∃ (rod : BitVec 4) (n : Fin 5) (s : State), (rod.toNat = 2 + n.val) ∧ (Safety.reaches s 0) ∧ (s.isolated (2 + n) = false) ∧ (n.val ≠ 4 ∨ (s.rodStripe 6).isSome = true) ∧ (s.get (I.RSTST (2 + n)) = 0) ∧ (s.on (I.PWR_ON (2 + n)) = true)) ∧
    (∃ (rod : BitVec 4) (s : State), (Safety.reaches s 0) ∧ (rod = 6) ∧ (s.isolated 6 = false) ∧ (s.rodStripe 6 = none) ∧ (s.spareArmed = true) ∧ (s.on I.SPARE_BAD = false) ∧ (s.get R.PATCH_STAT_STATE ≠ 3)) ∧
    (∃ (rod : BitVec 4) (s : State), (Safety.reaches s 0) ∧ (rod.toNat < 2 ∨ 6 < rod.toNat)) ∧
    (∃ (k : Fin 4) (s : State), (s.get (I.STRIPE_OUT k) = 1) ∧ (s.on I.SUBST_WAIT = false) ∧ (s.on I.SPARE_BAD = false) ∧ (s.isolated 6 = false)) ∧
    (∃ (k : Fin 4) (s : State), (s.get (I.STRIPE_OUT k) = 2) ∧ (s.isolated (2 + k) = false)) ∧
    (∃ (s : State), (Safety.reaches s 0) ∧ (s.on R.SUBST_STAT_ACTIVE = true) ∧ (s.isolated (2 + s.get R.SUBST_STAT_STRIPE) = false) ∧ (s.get (I.STRIPE_MOVED (s.get R.SUBST_STAT_STRIPE)) = 6)) ∧
    (∃ (port : Fin 28) (txn : BitVec 10) (x : Txn) (s : State), (s.txns.find? (fun t => decide (t.port = port.val ∧ t.txn = txn.toNat)) = some x) ∧ (portRod x.dst = 0 ∧ x.dst < 19) ∧ (portRod port < 2 ∨ 6 < portRod port)) ∧
    (∃ (silent : BitVec 16) (r : Fin 16) (s : State), (bit silent.toNat r = true) ∧ (r ≠ 0 ∧ r ≠ 14 ∧ ¬ (2 ≤ r.val ∧ r.val ≤ 6)) ∧ (s.isolated r = false) ∧ (bit (s.get R.RST_AUTO_MASK) r = false) ∧ (s.get R.PATCH_STAT_STATE ≠ 3) ∧ (s.get (I.RSTST r) = 0) ∧ (s.on (I.PWR_ON r) = true)) ∧
    (∃ (rod : Fin 16) (s : State), (rod ≠ 0 ∧ rod ≠ 14 ∧ ¬ (2 ≤ rod.val ∧ rod.val ≤ 6)) ∧ (s.isolated rod = false) ∧ (bit (s.get R.RST_AUTO_MASK) rod = false) ∧ (s.get R.PATCH_STAT_STATE ≠ 3) ∧ (s.get (I.RSTST rod) = 0) ∧ (s.on (I.PWR_ON rod) = true)) ∧
    (∃ (rod : Fin 16) (s : State), (rod ≠ 0 ∧ rod ≠ 14 ∧ ¬ (2 ≤ rod.val ∧ rod.val ≤ 6)) ∧ (s.isolated rod = false) ∧ (bit (s.get R.RST_AUTO_MASK) rod = true) ∧ (s.recentResets rod < s.get R.RST_AUTO_LIMIT) ∧ (s.get R.PATCH_STAT_STATE ≠ 3) ∧ (s.get (I.RSTST rod) = 0) ∧ (s.on (I.PWR_ON rod) = true)) ∧
    (∃ (rod : Fin 16) (s : State), (Safety.reaches s 16) ∧ (rod ≠ 0 ∧ rod ≠ 14) ∧ (s.patchNames rod = false) ∧ (s.get R.PATCH_STAT_STATE ≠ 4) ∧ (bit (s.get R.ROD_HOLD_HOLD) rod = false) ∧ (s.get (I.RSTST rod) = 0) ∧ (s.on (I.PWR_ON rod) = true)) ∧
    (∃ (rod : Fin 16) (s : State), (Safety.reaches s 16) ∧ (rod ≠ 0 ∧ rod ≠ 14) ∧ (s.patchNames rod = false) ∧ (s.get R.PATCH_STAT_STATE ≠ 4) ∧ (bit (s.get R.ROD_HOLD_HOLD) rod = false) ∧ (s.get (I.RSTST rod) = 2) ∧ (s.on (I.PWR_ON rod) = true)) :=
  ⟨⟨3, { imgSt [(I.PROXY 5, 0), (I.PWR_ON 5, 1), (I.RSTST 5, 0)] with imgs := [⟨5, 0, 1, none, false, none, false, []⟩] }, by decide +kernel⟩,
    ⟨0, 0, { imgSt [(I.PWR_ON 2, 1), (I.RSTST 2, 0)] with imgs := [⟨2, 0, 1, none, false, none, false, []⟩], frames := [] }, by decide +kernel⟩,
    ⟨3, imgSt [(I.PROXY 5, 0), (I.PWR_ON 5, 1), (I.RSTST 5, 0)], by decide +kernel⟩,
    ⟨4, armedSt, by decide +kernel⟩,
    ⟨5, 3, imgSt [(I.PROXY 5, 0), (I.PWR_ON 5, 1), (I.RSTST 5, 0)], by decide +kernel⟩,
    ⟨6, armedSt, by decide +kernel⟩,
    ⟨9, st [], by decide +kernel⟩,
    ⟨1, imgSt [(I.PROXY 6, 0), (I.STRIPE_OUT 1, 1), (I.IMG_LAST 1, 9)], by decide +kernel⟩,
    ⟨1, imgSt [(I.PROXY 3, 0), (I.STRIPE_OUT 1, 2)], by decide +kernel⟩,
    ⟨imgSt [(I.PROXY 3, 0), (R.SUBST_STAT_ACTIVE, 1), (R.SUBST_STAT_STRIPE, 1), (I.STRIPE_MOVED 1, 6)], by decide +kernel⟩,
    ⟨1, 7, ⟨1, 7, 0, true⟩, { st [] with txns := [⟨1, 7, 0, true⟩] }, by decide +kernel⟩,
    ⟨0x180, 7, st [(I.PROXY 7, 0), (I.PWR_ON 7, 1), (I.RSTST 7, 0), (R.RST_AUTO_MASK, 0)], by decide +kernel⟩,
    ⟨7, st [(I.PROXY 7, 0), (I.PWR_ON 7, 1), (I.RSTST 7, 0), (R.RST_AUTO_MASK, 0)], by decide +kernel⟩,
    ⟨7, st [(I.PROXY 7, 0), (I.PWR_ON 7, 1), (I.RSTST 7, 0), (R.RST_AUTO_MASK, 128)], by decide +kernel⟩,
    ⟨8, st [(I.PROXY 8, 0), (I.PWR_ON 8, 1), (I.RSTST 8, 0)], by decide +kernel⟩,
    ⟨8, st [(I.PWR_ON 8, 1), (I.RSTST 8, 2)], by decide +kernel⟩⟩

theorem test_witness_rod_and_device_resets :
    (∃ (rod : Fin 16) (s : State), (s.get (I.RSTST rod) = 1) ∧ (s.on (I.PWR_ON rod) = true) ∧ (bit (s.get R.ROD_HOLD_HOLD) rod = false) ∧ (s.on (I.HOLD_PATCH rod) = false) ∧ (s.on (I.HOLD_BOOT rod) = false)) ∧
    (∃ (rod : Fin 16) (s : State), (rod ≠ 0) ∧ (s.get (I.RSTST rod) = 2)) ∧
    (∃ (rod : Fin 16) (s : State), (Safety.reaches s 16) ∧ (s.get (I.RSTST rod) = 1) ∧ (s.on (I.PWR_ON rod) = true) ∧ (s.on (I.HOLD_AUTO rod) = false) ∧ (s.on (I.HOLD_PATCH rod) = false) ∧ (s.on (I.HOLD_BOOT rod) = false)) ∧
    (∃ (s : State), (s.get I.DEV ≠ 1 ∧ s.get I.DEV ≠ 7 ∧ s.get I.DEV ≠ 10)) ∧
    (∃ (s : State), (s.get I.DEV = 1)) ∧
    (∃ (s : State), (s.get I.DEV = 2)) ∧
    (∃ (s : State), (s.get I.DEV = 2) ∧ (s.get I.CORE_TRY < 3)) ∧
    (∃ (s : State), (s.get I.DEV = 4)) ∧
    (∃ (s : State), (s.get I.DEV = 3)) ∧
    (∃ (s : State), (s.get I.DEV = 0)) ∧
    (∃ (s : State), (s.get I.DEV = 7) ∧ (s.get I.PIN_HELD = 0)) ∧
    (∃ (s : State), (s.get I.DEV = 6 ∨ s.get I.DEV = 5)) ∧
    (∃ (s : State), (Safety.reaches s 16)) ∧
    (∃ (s : State), (s.get I.DEV = 8) ∧ (2 ≤ ((List.range 3).filter (fun v => !s.on (I.V_BROKEN v))).length)) ∧
    (∃ (which : Fin 3) (s : State), (s.on (match which with | 0 => R.CLK_STAT_XO_LOST | 1 => R.CLK_STAT_PCIE_LOST | 2 => R.CLK_STAT_ETH_LOST) = true)) :=
  ⟨⟨8, st [(I.HOLD_BOOT 8, 0), (I.PWR_ON 8, 1), (I.HOLD_AUTO 8, 1)], by decide +kernel⟩,
    ⟨7, st [(R.PWR_STAT_STATE, 0), (I.PWR_ON 7, 1), (I.RSTST 7, 2), (R.VST_LAST_TAG, 5)], by decide +kernel⟩,
    ⟨8, st [(I.HOLD_BOOT 8, 0), (I.PWR_ON 8, 1), (R.ROD_HOLD_HOLD, 0x100)], by decide +kernel⟩,
    ⟨st [], by decide +kernel⟩,
    ⟨st [(I.DEV, 1)], by decide +kernel⟩,
    ⟨st [(I.DEV, 2)], by decide +kernel⟩,
    ⟨st [(I.DEV, 2), (I.CORE_TRY, 2)], by decide +kernel⟩,
    ⟨st [(I.DEV, 4)], by decide +kernel⟩,
    ⟨st [(I.DEV, 3)], by decide +kernel⟩,
    ⟨st [], by decide +kernel⟩,
    ⟨st [(I.DEV, 7)], by decide +kernel⟩,
    ⟨st [(I.DEV, 6)], by decide +kernel⟩,
    ⟨st [(I.DEBUG, 1)], by decide +kernel⟩,
    ⟨st [(I.DEV, 8)], by decide +kernel⟩,
    ⟨2, st [(R.CLK_STAT_ETH_LOST, 1)], by decide +kernel⟩⟩

theorem test_witness_recorder_commands :
    (∃ (s : State), (Safety.reaches s 10) ∧ (s.get R.REC_STAT_STATE = 0) ∧ (s.on R.REC_STAT_BUSY = false)) ∧
    (∃ (s : State), (Safety.reaches s 10) ∧ (s.get R.REC_STAT_STATE = 0) ∧ (s.on R.REC_STAT_BUSY = false)) ∧
    (∃ (s : State), (Safety.reaches s 10) ∧ (s.get R.REC_STAT_STATE ≠ 0 ∨ s.on R.REC_STAT_BUSY = true)) ∧
    (∃ (s : State), (Safety.reaches s 10) ∧ (s.get R.REC_STAT_STATE = 1) ∧ (s.on R.REC_STAT_BUSY = false) ∧ (s.recd.used + (recPorts (s.inForce R.REC_CFG_SRC)).length ≤ 4095)) ∧
    (∃ (s : State), (Safety.reaches s 10) ∧ (s.get R.REC_STAT_STATE = 1) ∧ (s.on R.REC_STAT_BUSY = false) ∧ (4095 < s.recd.used + (recPorts (s.inForce R.REC_CFG_SRC)).length)) ∧
    (∃ (s : State), (Safety.reaches s 10) ∧ (s.get R.REC_STAT_STATE = 2) ∧ (s.on R.REC_STAT_BUSY = false)) ∧
    (∃ (s : State), (Safety.reaches s 10) ∧ (s.get R.REC_STAT_STATE = 1) ∧ (s.on R.REC_STAT_BUSY = false)) ∧
    (∃ (s : State), (s.on R.REC_STAT_BUSY = true) ∧ (s.get I.REC_CODE = 1 ∨ s.get I.REC_CODE = 2) ∧ (s.recd.phase = .done)) ∧
    (∃ (s : State), (s.on R.REC_STAT_BUSY = true) ∧ (s.get I.REC_CODE = 3)) ∧
    (∃ (s : State), (s.on R.REC_STAT_BUSY = true) ∧ (s.get I.REC_CODE = 4 ∨ s.get I.REC_CODE = 5) ∧ (s.get I.REC_FAIL = 0) ∧ (s.recd.takes = []) ∧ (s.get I.REC_CODE = 5 → s.recd.cmds = [])) ∧
    (∃ (id : Nat) (ok : Bool) (data : List Byte) (c : NvCmd) (s : State), (ok = true) ∧ (s.nvSent id = some c) ∧ (id < s.recd.nextCmd)) ∧
    (∃ (id : Nat) (ok : Bool) (data : List Byte) (c : NvCmd) (s : State), (ok = false) ∧ (s.nvSent id = some c) ∧ (c.ask.op.isAbort = false) ∧ (c.failed = false)) ∧
    (∃ (id : Nat) (ok : Bool) (data : List Byte) (c : NvCmd) (s : State), (ok = false) ∧ (s.nvSent id = some c) ∧ (c.ask.op.isAbort = false) ∧ (c.failed = true)) ∧
    (∃ (id : Nat) (c : NvCmd) (s : State), (s.nvSent id = some c) ∧ (c.ask.op.isAbort = false) ∧ (c.aborted = false)) ∧
    (∃ (id : Nat) (c : NvCmd) (s : State), (s.nvSent id = some c) ∧ (c.ask.op.isAbort = false) ∧ (c.aborted = true)) ∧
    (∃ (d : Fin 4) (s : State), (Safety.reachesBead s 10 4) ∧ (s.on (R.NVQ_CFG_EN d) = false)) ∧
    (∃ (d : Fin 4) (mdts : Fin 256) (s : State), (s.get (R.NVQ_STAT_STATE d) = 1) ∧ ((s.recd.cmds.filter (fun c => decide (c.drive = d.val) && c.sent)).any (fun c => c.reissued) = false)) ∧
    (∃ (d : Fin 4) (mdts : Fin 256) (s : State), (s.get (R.NVQ_STAT_STATE d) = 1) ∧ ((s.recd.cmds.filter (fun c => decide (c.drive = d.val) && c.sent)).any (fun c => c.reissued) = true)) ∧
    (∃ (d : Fin 4) (s : State), (s.get (R.NVQ_STAT_STATE d) = 1)) ∧
    (∃ (rp : Fin 4) (s : State), (s.get (R.NVQ_STAT_STATE rp) = 1 ∨ s.get (R.NVQ_STAT_STATE rp) = 2) ∧ (s.rpSplit = true ∨ rp = 0)) ∧
    (∃ (sp : Fin 3) (k : Take) (tag : Nat) (rest : List Nat) (f : Frame) (s : State), (s.recd.takes.find? (fun t => decide (t.port = sp.val) && !t.todo.isEmpty) = some k) ∧ (k.todo = tag :: rest) ∧ (s.frame tag = some f) ∧ (s.recd.frames.any (fun q => decide (q.take = k.num) && q.pre) = false) ∧ (needBlocks f.recFirst (s.ringNeed f) ≤ s.ringFree)) ∧
    (∃ (coder : Fin 4) (catchUp : Bool) (q : RecFrame) (f : Frame) (s : State), (s.recd.frames.find? (fun q => decide (q.pre = catchUp) && q.coded.all (fun c => decide (c.1 ≠ coderStripe (s.inForce R.REC_CFG_SRC) coder)) && (match s.take q.take with | some t => (recCoders (s.inForce R.REC_CFG_SRC) t.port).contains coder | none => false)) = some q) ∧ (s.frame q.tag = some f) ∧ (f.closed = true) ∧ (q.coded.length + 1 < q.held.length)) ∧
    (∃ (coder : Fin 4) (catchUp : Bool) (q : RecFrame) (f : Frame) (s : State), (s.recd.frames.find? (fun q => decide (q.pre = catchUp) && q.coded.all (fun c => decide (c.1 ≠ coderStripe (s.inForce R.REC_CFG_SRC) coder)) && (match s.take q.take with | some t => (recCoders (s.inForce R.REC_CFG_SRC) t.port).contains coder | none => false)) = some q) ∧ (s.frame q.tag = some f) ∧ (f.closed = true) ∧ (q.coded.length + 1 = q.held.length)) :=
  ⟨⟨st [(I.PROXY 10, 0)], by decide +kernel⟩,
    ⟨st [(I.PROXY 10, 0)], by decide +kernel⟩,
    ⟨st [(I.PROXY 10, 0), (R.REC_STAT_STATE, 2)], by decide +kernel⟩,
    ⟨st [(I.PROXY 10, 0), (R.REC_STAT_STATE, 1)], by decide +kernel⟩,
    ⟨{ st [(I.PROXY 10, 0), (R.REC_STAT_STATE, 1)] with recd := { used := 4095 } }, by decide +kernel⟩,
    ⟨{ st [(I.PROXY 10, 0), (R.REC_STAT_STATE, 2)] with recd := { takes := [{ num := 1, port := 0, start := 5, todo := [7] }] } }, by decide +kernel⟩,
    ⟨{ st [(I.PROXY 10, 0), (R.REC_STAT_STATE, 1)] with recd := { members := 3 } }, by decide +kernel⟩,
    ⟨{ st [(R.REC_STAT_BUSY, 1), (I.REC_FAIL, 2), (I.REC_CODE, 1)] with recd := { phase := .done } }, by decide +kernel⟩,
    ⟨{ st [(R.REC_STAT_BUSY, 1), (I.REC_CODE, 3)] with recd := { takes := [{ num := 1, port := 0, start := 5, todo := [7] }] } }, by decide +kernel⟩,
    ⟨st [(R.REC_STAT_BUSY, 1), (I.REC_CODE, 5)], by decide +kernel⟩,
    ⟨4, true, [], ⟨4, 0, 1, ⟨.flush, 0, 1, 0, 0⟩, true, false, false, false⟩, { st [(R.NVQ_STAT_STATE 0, 2)] with recd := { nextCmd := 6, cmds := [⟨4, 0, 1, ⟨.flush, 0, 1, 0, 0⟩, true, false, false, false⟩, ⟨5, 0, 1, ⟨.write 9, 0, 1, 0, 1⟩, true, false, false, false⟩] } }, by decide +kernel⟩,
    ⟨4, false, [], ⟨4, 2, 1, ⟨.write 9, 0, 1, 0, 1⟩, true, false, false, true⟩, { st [(R.NVQ_STAT_STATE 2, 2)] with recd := { cmds := [⟨4, 2, 1, ⟨.write 9, 0, 1, 0, 1⟩, true, false, false, true⟩] } }, by decide +kernel⟩,
    ⟨4, false, [], ⟨4, 2, 1, ⟨.write 9, 0, 1, 0, 1⟩, true, true, false, true⟩, { st [(R.NVQ_STAT_STATE 2, 2)] with recd := { cmds := [⟨4, 2, 1, ⟨.write 9, 0, 1, 0, 1⟩, true, true, false, true⟩] } }, by decide +kernel⟩,
    ⟨4, ⟨4, 2, 1, ⟨.write 9, 0, 1, 0, 1⟩, true, false, false, false⟩, { st [(R.NVQ_STAT_STATE 2, 2)] with recd := { cmds := [⟨4, 2, 1, ⟨.write 9, 0, 1, 0, 1⟩, true, false, false, false⟩] } }, by decide +kernel⟩,
    ⟨4, ⟨4, 2, 1, ⟨.write 9, 0, 1, 0, 1⟩, true, false, false, true⟩, { st [(R.NVQ_STAT_STATE 2, 2)] with recd := { cmds := [⟨4, 2, 1, ⟨.write 9, 0, 1, 0, 1⟩, true, false, false, true⟩] } }, by decide +kernel⟩,
    ⟨3, beadSt 10 4 [], by decide +kernel⟩,
    ⟨3, 5, { st [(R.NVQ_STAT_STATE 3, 1)] with recd := { cmds := [⟨4, 3, 1, ⟨.write 9, 0, 1, 0, 1⟩, true, false, false, true⟩] } }, by decide +kernel⟩,
    ⟨3, 5, { st [(R.NVQ_STAT_STATE 3, 1)] with recd := { cmds := [⟨4, 3, 1, ⟨.write 9, 0, 1, 0, 1⟩, true, true, true, true⟩] } }, by decide +kernel⟩,
    ⟨3, { st [(R.NVQ_STAT_STATE 3, 1), (R.REC_MEMBER_DRIVE 0, 3), (R.REC_STAT_STATE, 2)] with recd := { members := 1 } }, by decide +kernel⟩,
    ⟨3, { st [(R.NVQ_STAT_STATE 3, 2), (R.REC_MEMBER_DRIVE 0, 1)] with recd := { cmds := [⟨4, 3, 1, ⟨.write 9, 0, 1, 0, 1⟩, true, false, false, true⟩] } }, by decide +kernel⟩,
    ⟨0, { num := 1, port := 0, start := 5, todo := [1] }, 1, [], shutFr, { st [] with frames := [shutFr], strg := { drams := [⟨0, 10, 0, 1, 0, 0x100000, 0, 0⟩] }, recd := { takes := [{ num := 1, port := 0, start := 5, todo := [1] }] } }, by decide +kernel⟩,
    ⟨1, false, ⟨1, 1, false, 1, [(0, 1), (1, 1), (2, 1), (3, 1)], 0, 0, [], false⟩, { shutFr with real := [] }, { st [] with frames := [{ shutFr with real := [] }], recd := { takes := [{ num := 1, port := 0, start := 5 }], frames := [⟨1, 1, false, 1, [(0, 1), (1, 1), (2, 1), (3, 1)], 0, 0, [], false⟩] } }, by decide +kernel⟩,
    ⟨0, false, ⟨1, 1, false, 1, [(0, 1)], 0, 0, [], false⟩, { shutFr with real := [] }, { st [] with frames := [{ shutFr with real := [] }], recd := { takes := [{ num := 1, port := 0, start := 5 }], frames := [⟨1, 1, false, 1, [(0, 1)], 0, 0, [], false⟩] } }, by decide +kernel⟩⟩

theorem test_witness_encoder_schedule :
    (∃ (cod : Fin 2) (stream : BitVec 12) (s : State), (Safety.reaches s (8 + cod)) ∧ (stream.toNat ≤ 2079) ∧ ((List.range 8).all (fun e => !s.encFree e) = true) ∧ ((s.strm stream.toNat).any (fun x => x.run) = true)) ∧
    (∃ (cod : Fin 2) (stream : BitVec 12) (q : Nat × Bool) (s : State), (Safety.reaches s (8 + cod)) ∧ (stream.toNat ≤ 2079) ∧ ((s.strm stream.toNat).any (fun x => x.run) = false) ∧ (((s.withStrm stream.toNat).descRules stream.toNat ⟨s.trayRead (s.stagedAt cod stream.toNat) 128⟩).find? (fun q => !q.2) = some q)) ∧
    (∃ (cod : Fin 2) (stream : BitVec 12) (s : State), (Safety.reaches s (8 + cod)) ∧ (2079 < stream.toNat)) ∧
    (∃ (cod : Fin 2) (stream : BitVec 12) (s : State), (Safety.reaches s (8 + cod)) ∧ (stream.toNat ≤ 2079) ∧ ((s.strm stream.toNat).any (fun x => x.run) = false)) ∧
    (∃ (cod : Fin 2) (stream : BitVec 12) (s : State), (Safety.reaches s (8 + cod)) ∧ (stream.toNat ≤ 2079) ∧ ((s.strm stream.toNat).any (fun x => x.run) = true)) ∧
    (∃ (cod : Fin 2) (stream : BitVec 12) (s : State), (Safety.reaches s (8 + cod)) ∧ (2079 < stream.toNat)) ∧
    (∃ (cod : Fin 2) (stream : BitVec 12) (s : State), (Safety.reaches s (8 + cod)) ∧ (stream.toNat ≤ 2079) ∧ ((s.strm stream.toNat).any (fun x => x.run) = true)) ∧
    (∃ (cod : Fin 2) (stream : BitVec 12) (s : State), (Safety.reaches s (8 + cod)) ∧ (stream.toNat ≤ 2079) ∧ ((s.strm stream.toNat).any (fun x => x.run) = false)) ∧
    (∃ (cod : Fin 2) (stream : BitVec 12) (s : State), (Safety.reaches s (8 + cod)) ∧ (2079 < stream.toNat)) ∧
    (∃ (cod : Fin 2) (stream : BitVec 12) (s : State), (Safety.reaches s (8 + cod)) ∧ (stream.toNat ≤ 2079) ∧ ((s.strm stream.toNat).any (fun x => x.run) = true)) ∧
    (∃ (cod : Fin 2) (stream : BitVec 12) (s : State), (Safety.reaches s (8 + cod)) ∧ (stream.toNat ≤ 2079) ∧ ((s.strm stream.toNat).any (fun x => x.run) = false)) ∧
    (∃ (cod : Fin 2) (stream : BitVec 12) (s : State), (Safety.reaches s (8 + cod)) ∧ (2079 < stream.toNat)) ∧
    (∃ (cod : Fin 2) (tag : BitVec 32) (s : State), (s.isolated (8 + cod) = false) ∧ (s.vecSet tag.toNat = none)) ∧
    (∃ (cod : Fin 2) (k : Fin 4) (x : Strm) (j : EncJob) (s : State), (Safety.reachesBead s (8 + cod) k) ∧ (s.strms.find? (fun x => match x.busy with | some j => decide (j.enc = 4 * cod.val + k.val) | none => false) = some x) ∧ (x.busy = some j)) ∧
    (∃ (cod : Fin 2) (k : Fin 4) (s : State), (Safety.reachesBead s (8 + cod) k) ∧ (s.strms.all (fun x => match x.busy with | some j => decide (j.enc ≠ 4 * cod.val + k.val) | none => true) = true)) :=
  ⟨⟨1, 2079, { st [(I.PROXY 9, 0)] with strms := [{ num := 2079, run := true }] }, by decide +kernel⟩,
    ⟨1, 2079, (0x51, false), st [(I.PROXY 9, 0)], by decide +kernel⟩,
    ⟨1, 2080, st [(I.PROXY 9, 0)], by decide +kernel⟩,
    ⟨1, 2048, st [(I.PROXY 9, 0)], by decide +kernel⟩,
    ⟨1, 2048, { st [(I.PROXY 9, 0)] with strms := [{ num := 2048, run := true }] }, by decide +kernel⟩,
    ⟨1, 2080, st [(I.PROXY 9, 0)], by decide +kernel⟩,
    ⟨0, 0, { st [(I.PROXY 8, 0)] with strms := [{ num := 0, run := true, dues := [{ tag := 4 }] }] }, by decide +kernel⟩,
    ⟨0, 0, st [(I.PROXY 8, 0)], by decide +kernel⟩,
    ⟨1, 2080, st [(I.PROXY 9, 0)], by decide +kernel⟩,
    ⟨0, 7, { st [(I.PROXY 8, 0)] with strms := [{ num := 7, run := true }] }, by decide +kernel⟩,
    ⟨0, 7, st [(I.PROXY 8, 0)], by decide +kernel⟩,
    ⟨1, 4095, st [(I.PROXY 9, 0)], by decide +kernel⟩,
    ⟨1, 4, { st [(I.PROXY 9, 0)] with strms := [{ num := 0, run := true, dues := [{ tag := 4 }] }] }, by decide +kernel⟩,
    ⟨1, 2, { num := 3, run := true, busy := some ⟨6, 4, false, false, 1, 0, none⟩ }, ⟨6, 4, false, false, 1, 0, none⟩, { beadSt 9 2 [(R.ENC_CFG_EN 1 2, 1), (R.ENC_STAT_STATE 1 2, 1)] with strms := [{ num := 3, run := true, busy := some ⟨6, 4, false, false, 1, 0, none⟩ }] }, by decide +kernel⟩,
    ⟨1, 2, beadSt 9 2 [(R.ENC_CFG_EN 1 2, 1)], by decide +kernel⟩⟩

theorem test_witness_decoders :
    (∃ (r : Fin 2) (off : BitVec 30) (s : State), (Safety.reachesBead s (8 + r) 4) ∧ (off.toNat % 64 = 0) ∧ (off.toNat < s.decRing r)) ∧
    (∃ (r : Fin 2) (off : BitVec 30) (s : State), (Safety.reachesBead s (8 + r) 4) ∧ (off.toNat % 64 ≠ 0 ∨ s.decRing r ≤ off.toNat)) ∧
    (∃ (r : Fin 2) (au : AuInfo) (n : Nat) (s : State), (s.isolated (8 + r) = false) ∧ (s.inForce (R.DEC_CFG_EN r) = 1) ∧ (s.decJob r = none) ∧ (fieldLE (s.decRead r (s.get (R.DEC_IN_RD_OFF r)) 32) 8 4 = n) ∧ (32 + n ≤ (s.get (R.DEC_IN_WR_OFF r) + s.decRing r - s.get (R.DEC_IN_RD_OFF r)) % max 1 (s.decRing r)) ∧ (n ≤ s.decRing r - 32) ∧ (fieldLE (s.decRead r (s.get (R.DEC_IN_RD_OFF r)) 32) 0xC 2 ≠ 0) ∧ (nalsOk (fieldLE (s.decRead r (s.get (R.DEC_IN_RD_OFF r)) 32) 0xC 2) (s.decRead r (s.get (R.DEC_IN_RD_OFF r) + 32) n) = true) ∧ (s.decUnsup r au = false) ∧ (s.on (I.DEC_UNSUP r) = false ∨ au.irap = true) ∧ (s.get (R.DEC_STAT_STATE r) ≠ 1 ∨ au.irap = true ∨ au.recov.isSome = true)) ∧
    (∃ (r : Fin 2) (au : AuInfo) (n : Nat) (s : State), (s.isolated (8 + r) = false) ∧ (s.inForce (R.DEC_CFG_EN r) = 1) ∧ (s.decJob r = none) ∧ (fieldLE (s.decRead r (s.get (R.DEC_IN_RD_OFF r)) 32) 8 4 = n) ∧ (32 + n ≤ (s.get (R.DEC_IN_WR_OFF r) + s.decRing r - s.get (R.DEC_IN_RD_OFF r)) % max 1 (s.decRing r)) ∧ (n ≤ s.decRing r - 32) ∧ (fieldLE (s.decRead r (s.get (R.DEC_IN_RD_OFF r)) 32) 0xC 2 = 0 ∨ nalsOk (fieldLE (s.decRead r (s.get (R.DEC_IN_RD_OFF r)) 32) 0xC 2) (s.decRead r (s.get (R.DEC_IN_RD_OFF r) + 32) n) = false)) ∧
    (∃ (r : Fin 2) (au : AuInfo) (n : Nat) (s : State), (s.isolated (8 + r) = false) ∧ (s.inForce (R.DEC_CFG_EN r) = 1) ∧ (s.decJob r = none) ∧ (fieldLE (s.decRead r (s.get (R.DEC_IN_RD_OFF r)) 32) 8 4 = n) ∧ (32 + n ≤ (s.get (R.DEC_IN_WR_OFF r) + s.decRing r - s.get (R.DEC_IN_RD_OFF r)) % max 1 (s.decRing r)) ∧ (n ≤ s.decRing r - 32) ∧ (fieldLE (s.decRead r (s.get (R.DEC_IN_RD_OFF r)) 32) 0xC 2 ≠ 0) ∧ (nalsOk (fieldLE (s.decRead r (s.get (R.DEC_IN_RD_OFF r)) 32) 0xC 2) (s.decRead r (s.get (R.DEC_IN_RD_OFF r) + 32) n) = true) ∧ (s.decUnsup r au = true)) ∧
    (∃ (r : Fin 2) (au : AuInfo) (n : Nat) (s : State), (s.isolated (8 + r) = false) ∧ (s.inForce (R.DEC_CFG_EN r) = 1) ∧ (s.decJob r = none) ∧ (fieldLE (s.decRead r (s.get (R.DEC_IN_RD_OFF r)) 32) 8 4 = n) ∧ (32 + n ≤ (s.get (R.DEC_IN_WR_OFF r) + s.decRing r - s.get (R.DEC_IN_RD_OFF r)) % max 1 (s.decRing r)) ∧ (n ≤ s.decRing r - 32) ∧ (fieldLE (s.decRead r (s.get (R.DEC_IN_RD_OFF r)) 32) 0xC 2 ≠ 0) ∧ (nalsOk (fieldLE (s.decRead r (s.get (R.DEC_IN_RD_OFF r)) 32) 0xC 2) (s.decRead r (s.get (R.DEC_IN_RD_OFF r) + 32) n) = true) ∧ (s.decUnsup r au = false) ∧ (au.irap = false) ∧ (s.on (I.DEC_UNSUP r) = true ∨ (s.get (R.DEC_STAT_STATE r) = 1 ∧ au.recov = none))) ∧
    (∃ (r : Fin 2) (syntaxErr conceal hashBad : Bool) (oobWrites oobReads : BitVec 32) (j : DecJob) (s : State), (s.decJob r = some j) ∧ (j.pic.buf.isSome = true)) ∧
    (∃ (r : Fin 2) (j : DecJob) (s : State), (s.decJob r = some j) ∧ (j.pic.buf = none) ∧ (s.isolated (8 + r) = false)) ∧
    (∃ (r : Fin 2) (j : DecJob) (s : State), (s.decJob r = some j) ∧ (j.pic.buf.isSome = true) ∧ (s.isolated (8 + r) = false)) ∧
    (∃ (r : Fin 2) (p : DecPic) (s : State), (s.decs.find? (fun p => decide (p.r = r.val) && p.bumped) = some p) ∧ (s.isolated (8 + r) = false) ∧ ((s.decOut.all (fun e => decide (e.2.1 ≠ s.decSlot r (s.get (I.DEC_NEXT r) % max 1 (s.inForce (R.DEC_OUT_DEPTH r))))) || (s.trayRead (s.decSlot r (s.get (I.DEC_NEXT r) % max 1 (s.inForce (R.DEC_OUT_DEPTH r))) + 0x68) 16).all (fun x => decide (x = 1))) = true)) ∧
    (∃ (r : Fin 2) (s : State), (Safety.reachesBead s (8 + r) 4)) :=
  ⟨⟨1, 64, decSt [], by decide +kernel⟩,
    ⟨1, 65, decSt [], by decide +kernel⟩,
    ⟨1, auOne, 4, { decSt [(R.DEC_IN_WR_OFF 1, 64)] with dram := [(8, 4), (12, 1)] }, by decide +kernel⟩,
    ⟨1, auOne, 4, { decSt [(R.DEC_IN_WR_OFF 1, 64)] with dram := [(8, 4)] }, by decide +kernel⟩,
    ⟨1, { auOne with unsup := true }, 4, { decSt [(R.DEC_IN_WR_OFF 1, 64)] with dram := [(8, 4), (12, 1)] }, by decide +kernel⟩,
    ⟨1, { auOne with irap := false }, 4, { decSt [(R.DEC_IN_WR_OFF 1, 64), (R.DEC_STAT_STATE 1, 1)] with dram := [(8, 4), (12, 1)] }, by decide +kernel⟩,
    ⟨1, true, true, false, 0, 3, ⟨1, decPic1, [], true, 0, 0, false⟩, { decSt [] with decJobs := [⟨1, decPic1, [], true, 0, 0, false⟩] }, by decide +kernel⟩,
    ⟨1, ⟨1, { decPic1 with buf := none }, [], true, 0, 0, false⟩, { decSt [] with decJobs := [⟨1, { decPic1 with buf := none }, [], true, 0, 0, false⟩] }, by decide +kernel⟩,
    ⟨1, ⟨1, decPic1, [], true, 0, 0, false⟩, { decSt [] with decJobs := [⟨1, decPic1, [], true, 0, 0, false⟩] }, by decide +kernel⟩,
    ⟨1, { decPic1 with bumped := true, taint := true }, { decSt [] with decs := [{ decPic1 with bumped := true, taint := true }] }, by decide +kernel⟩,
    ⟨1, { decSt [] with decs := [decPic1] }, by decide +kernel⟩⟩

theorem test_witness_wall_canvas :
    (∃ (tag : BitVec 32) (b : Nat) (s : State), (s.wallDue tag.toNat = true) ∧ (s.picComplete tag.toNat = true) ∧ ((s.pktRelease.set I.WC_LAST (tag.toNat + 1)).canvasBuf = some b)) ∧
    (∃ (tag : BitVec 32) (s : State), (s.wallDue tag.toNat = true) ∧ (s.picComplete tag.toNat = true) ∧ ((s.pktRelease.set I.WC_LAST (tag.toNat + 1)).canvasBuf = none)) ∧
    (∃ (tag : BitVec 32) (b : Nat) (s : State), (s.wallDue tag.toNat = true) ∧ (s.picComplete tag.toNat = false) ∧ ((((s.set (R.CMP_STAT_PIC_LATE 8) 1).raise E.wallPicLate).pktRelease.set I.WC_LAST (tag.toNat + 1)).canvasBuf = some b)) ∧
    (∃ (tag : BitVec 32) (s : State), (s.wallDue tag.toNat = true) ∧ (s.picComplete tag.toNat = false) ∧ ((((s.set (R.CMP_STAT_PIC_LATE 8) 1).raise E.wallPicLate).pktRelease.set I.WC_LAST (tag.toNat + 1)).canvasBuf = none)) ∧
    (∃ (r : BitVec 11) (tag : BitVec 32) (c : Canvas) (s : State), (s.canv.find? (fun c => decide (c.tag = tag.toNat)) = some c) ∧ (s.isolated 11 = false) ∧ (r.toNat < s.wallRegions) ∧ (bit (s.wallRegion r.toNat).2.2.2.2 0 = true) ∧ (c.reported.contains r.toNat = false)) ∧
    (∃ (n : Fin 9) (g : Fin 16) (s : State), (Safety.reachesBead s 11 n) ∧ (s.on (R.GRD_GSTAT_ACTIVE n g) = true)) ∧
    (∃ (n : Fin 9) (g : Fin 16) (s : State), (Safety.reachesBead s 11 n) ∧ (s.on (R.GRD_GSTAT_ACTIVE n g) = false)) :=
  ⟨⟨1, 2, { imgSt [(I.PROXY 11, 0), (I.WC_BUF, 2)] with strg := { imgStrg with rods := [⟨11, 1, 1, [(8, 0)]⟩] }, pics := [⟨1, some 0, 0⟩], tray := [(69, 1)] }, by decide +kernel⟩,
    ⟨1, { imgSt [(I.PROXY 11, 0)] with strg := { imgStrg with rods := [⟨11, 1, 1, [(8, 0)]⟩] }, inf := [(R.CANVAS_NBUF.key, 0)], pics := [⟨1, some 0, 0⟩], tray := [(69, 1)] }, by decide +kernel⟩,
    ⟨1, 0, { imgSt [(I.PROXY 11, 0)] with strg := { imgStrg with rods := [⟨11, 1, 1, [(8, 0)]⟩] }, pics := [⟨1, some 0, 0⟩] }, by decide +kernel⟩,
    ⟨1, { imgSt [(I.PROXY 11, 0)] with strg := { imgStrg with rods := [⟨11, 1, 1, [(8, 0)]⟩] }, inf := [(R.CANVAS_NBUF.key, 0)], pics := [⟨1, some 0, 0⟩] }, by decide +kernel⟩,
    ⟨0, 1, ⟨1, 0, 3, true, []⟩, { imgSt [(I.PROXY 11, 0)] with strg := { imgStrg with limits := [⟨0x30, 11, 0, 1⟩] }, canv := [⟨1, 0, 3, true, []⟩], tray := [(16390, 1)] }, by decide +kernel⟩,
    ⟨8, 15, beadSt 11 8 [(R.GRD_GSTAT_ACTIVE 8 15, 1)], by decide +kernel⟩,
    ⟨8, 15, beadSt 11 8 [], by decide +kernel⟩⟩

theorem test_witness_head_timing :
    (∃ (n : Fin 8) (s : State), (Safety.reachesBead s 11 (10 + n)) ∧ (s.get (R.HEAD_STAT_STATE n) = 0) ∧ (s.inForce (R.TG_CTL_MODE n) = 1)) ∧
    (∃ (n : Fin 8) (s : State), (Safety.reachesBead s 11 (10 + n)) ∧ (s.get (R.HEAD_STAT_STATE n) = 0) ∧ (s.inForce (R.TG_CTL_MODE n) ≠ 1)) ∧
    (∃ (n : Fin 8) (s : State), (Safety.reachesBead s 11 (10 + n)) ∧ (s.get (R.HEAD_STAT_STATE n) ≠ 0)) ∧
    (∃ (n : Fin 8) (s : State), (Safety.reachesBead s 11 (10 + n))) ∧
    (∃ (n : Fin 8) (s : State), (s.isolated 11 = false) ∧ (s.get (R.HEAD_STAT_STATE n) = 1)) ∧
    (∃ (n : Fin 8) (under : Option (BitVec 14)) (s : State), (s.isolated 11 = false) ∧ (s.get (R.HEAD_STAT_STATE n) = 2) ∧ (s.get (R.HEAD_STAT_LINE n) + 1 < s.get (I.HEAD_VT n))) ∧
    (∃ (n : Fin 8) (under : Option (BitVec 14)) (s : State), (s.isolated 11 = false) ∧ (s.get (R.HEAD_STAT_STATE n) = 2) ∧ (s.get (I.HEAD_VT n) ≤ s.get (R.HEAD_STAT_LINE n) + 1) ∧ (s.on (I.HEAD_MORE n) = true)) ∧
    (∃ (n : Fin 8) (under : Option (BitVec 14)) (s : State), (s.isolated 11 = false) ∧ (s.get (R.HEAD_STAT_STATE n) = 2) ∧ (s.get (I.HEAD_VT n) ≤ s.get (R.HEAD_STAT_LINE n) + 1) ∧ (s.on (I.HEAD_MORE n) = false) ∧ (s.on (I.HEAD_RELK n) = true)) ∧
    (∃ (n : Fin 8) (under : Option (BitVec 14)) (s : State), (s.isolated 11 = false) ∧ (s.get (R.HEAD_STAT_STATE n) = 2) ∧ (s.get (I.HEAD_VT n) ≤ s.get (R.HEAD_STAT_LINE n) + 1) ∧ (s.on (I.HEAD_MORE n) = false) ∧ (s.on (I.HEAD_RELK n) = false)) ∧
    (∃ (n : Fin 8) (s : State), (s.isolated 11 = false) ∧ (s.get (R.HEAD_STAT_STATE n) = 3) ∧ (s.inForce (R.TG_CTL_MODE n) = 1)) ∧
    (∃ (n : Fin 8) (s : State), (s.isolated 11 = false) ∧ (s.get (R.HEAD_STAT_STATE n) = 3) ∧ (s.inForce (R.TG_CTL_MODE n) ≠ 1)) ∧
    (∃ (n : Fin 8) (s : State), (s.isolated 11 = false) ∧ (s.get (R.HEAD_STAT_STATE n) = 1 ∨ s.get (R.HEAD_STAT_STATE n) = 2)) :=
  ⟨⟨7, { beadSt 11 17 [] with inf := [((R.TG_CTL_MODE 7).key, 1)] }, by decide +kernel⟩,
    ⟨7, { beadSt 11 17 [] with inf := [((R.TG_CTL_MODE 7).key, 0), ((R.TG_VACT_V 7).key, 16), ((R.TG_VTOTAL_V 7).key, 64)] }, by decide +kernel⟩,
    ⟨7, beadSt 11 17 [(R.HEAD_STAT_STATE 7, 2)], by decide +kernel⟩,
    ⟨7, beadSt 11 17 [(R.TG_CTL_EN 7, 1), (R.HEAD_STAT_STATE 7, 2), (R.HEAD_STAT_LINE 7, 9)], by decide +kernel⟩,
    ⟨7, { st [(I.PROXY 11, 0), (R.HEAD_STAT_STATE 7, 1)] with inf := [((R.TG_VACT_V 7).key, 16), ((R.TG_VTOTAL_V 7).key, 64), ((R.TG_COMMIT_COMMIT_LINE 7).key, 20)] }, by decide +kernel⟩,
    ⟨7, none, st [(I.PROXY 11, 0), (R.HEAD_STAT_STATE 7, 2), (R.HEAD_STAT_LINE 7, 4), (I.HEAD_VT 7, 64)], by decide +kernel⟩,
    ⟨7, none, st [(I.PROXY 11, 0), (R.HEAD_STAT_STATE 7, 2), (R.HEAD_STAT_LINE 7, 63), (I.HEAD_VT 7, 64), (I.HEAD_MORE 7, 3)], by decide +kernel⟩,
    ⟨7, none, st [(I.PROXY 11, 0), (R.HEAD_STAT_STATE 7, 2), (R.HEAD_STAT_LINE 7, 63), (I.HEAD_VT 7, 64), (I.HEAD_RELK 7, 1)], by decide +kernel⟩,
    ⟨7, none, { st [(I.PROXY 11, 0), (R.HEAD_STAT_STATE 7, 2), (R.HEAD_STAT_LINE 7, 63), (I.HEAD_VT 7, 64)] with inf := [((R.TG_VACT_V 7).key, 16), ((R.TG_VTOTAL_V 7).key, 64)] }, by decide +kernel⟩,
    ⟨7, { st [(I.PROXY 11, 0), (R.HEAD_STAT_STATE 7, 3)] with inf := [((R.TG_CTL_MODE 7).key, 1)] }, by decide +kernel⟩,
    ⟨7, { st [(I.PROXY 11, 0), (R.HEAD_STAT_STATE 7, 3)] with inf := [((R.TG_VACT_V 7).key, 16), ((R.TG_VTOTAL_V 7).key, 64), ((R.TG_COMMIT_COMMIT_LINE 7).key, 20)] }, by decide +kernel⟩,
    ⟨7, st [(I.PROXY 11, 0), (R.HEAD_STAT_STATE 7, 2)], by decide +kernel⟩⟩

theorem test_witness_sinks_and_aux :
    (∃ (q : Fin 4) (level : Bool) (s : State), (s.isolated 11 = false) ∧ (s.on (R.DP_STAT_HPD q) = false) ∧ (level = true)) ∧
    (∃ (q : Fin 4) (level : Bool) (s : State), (s.isolated 11 = false) ∧ (s.on (R.DP_STAT_HPD q) = true) ∧ (level = false)) ∧
    (∃ (q : Fin 4) (lost : Bool) (s : State), (s.isolated 11 = false) ∧ (s.on (R.DP_STAT_HPD q) = true)) ∧
    (∃ (q : Fin 4) (ok : Bool) (rate : Fin 9) (lanes : Fin 3) (s : State), (s.isolated 11 = false) ∧ (s.on (I.DP_TRAIN q) = true) ∧ (ok = true)) ∧
    (∃ (q : Fin 4) (ok : Bool) (rate : Fin 9) (lanes : Fin 3) (s : State), (s.isolated 11 = false) ∧ (s.on (I.DP_TRAIN q) = true) ∧ (ok = false)) ∧
    (∃ (q : Fin 4) (len : Fin 16) (addr : BitVec 20) (s : State), (Safety.reachesBead s 11 (22 + q)) ∧ (s.on (R.DP_AUX_STAT_BUSY q) = false)) ∧
    (∃ (q : Fin 4) (len : Fin 16) (addr : BitVec 20) (s : State), (Safety.reachesBead s 11 (22 + q)) ∧ (s.on (R.DP_AUX_STAT_BUSY q) = true)) ∧
    (∃ (q : Fin 4) (len : Fin 16) (addr : BitVec 20) (s : State), (Safety.reachesBead s 11 (22 + q)) ∧ (s.on (R.DP_AUX_STAT_BUSY q) = false)) ∧
    (∃ (q : Fin 4) (len : Fin 16) (addr : BitVec 20) (s : State), (Safety.reachesBead s 11 (22 + q)) ∧ (s.on (R.DP_AUX_STAT_BUSY q) = true)) ∧
    (∃ (q : Fin 4) (len : Fin 16) (addr : BitVec 20) (s : State), (Safety.reachesBead s 11 (22 + q)) ∧ (s.on (R.DP_AUX_STAT_BUSY q) = false)) ∧
    (∃ (q : Fin 4) (len : Fin 16) (addr : BitVec 20) (s : State), (Safety.reachesBead s 11 (22 + q)) ∧ (s.on (R.DP_AUX_STAT_BUSY q) = true)) ∧
    (∃ (q : Fin 4) (len : Fin 16) (addr : BitVec 20) (s : State), (Safety.reachesBead s 11 (22 + q)) ∧ (s.on (R.DP_AUX_STAT_BUSY q) = false)) ∧
    (∃ (q : Fin 4) (len : Fin 16) (addr : BitVec 20) (s : State), (Safety.reachesBead s 11 (22 + q)) ∧ (s.on (R.DP_AUX_STAT_BUSY q) = true)) ∧
    (∃ (q : Fin 4) (len : Fin 16) (addr : BitVec 20) (s : State), (Safety.reachesBead s 11 (22 + q)) ∧ (s.on (R.DP_AUX_STAT_BUSY q) = false)) ∧
    (∃ (q : Fin 4) (len : Fin 16) (addr : BitVec 20) (s : State), (Safety.reachesBead s 11 (22 + q)) ∧ (s.on (R.DP_AUX_STAT_BUSY q) = true)) ∧
    (∃ (q : Fin 4) (len : Fin 16) (addr : BitVec 20) (s : State), (Safety.reachesBead s 11 (22 + q)) ∧ (s.on (R.DP_AUX_STAT_BUSY q) = false)) ∧
    (∃ (q : Fin 4) (len : Fin 16) (addr : BitVec 20) (s : State), (Safety.reachesBead s 11 (22 + q)) ∧ (s.on (R.DP_AUX_STAT_BUSY q) = true)) ∧
    (∃ (q : Fin 4) (kind : AuxKind) (count : Fin 17) (data : List Byte) (s : State), (s.isolated 11 = false) ∧ (s.on (R.DP_AUX_STAT_BUSY q) = true) ∧ (s.on (I.DP_TRAIN q) = false) ∧ (kind ≠ .defer)) ∧
    (∃ (q : Fin 4) (kind : AuxKind) (count : Fin 17) (data : List Byte) (s : State), (s.isolated 11 = false) ∧ (s.on (R.DP_AUX_STAT_BUSY q) = true) ∧ (s.on (I.DP_TRAIN q) = false) ∧ (kind = .defer) ∧ (s.get (I.AUX_TRY q) < 7)) ∧
    (∃ (q : Fin 4) (kind : AuxKind) (count : Fin 17) (data : List Byte) (s : State), (s.isolated 11 = false) ∧ (s.on (R.DP_AUX_STAT_BUSY q) = true) ∧ (s.on (I.DP_TRAIN q) = false) ∧ (kind = .defer) ∧ (7 ≤ s.get (I.AUX_TRY q))) ∧
    (∃ (q : Fin 4) (s : State), (s.isolated 11 = false) ∧ (s.on (R.DP_AUX_STAT_BUSY q) = true) ∧ (s.on (I.DP_TRAIN q) = false)) :=
  ⟨⟨3, true, st [(I.PROXY 11, 0), (R.DP_CFG_EN 3, 1)], by decide +kernel⟩,
    ⟨3, false, st [(I.PROXY 11, 0), (R.DP_STAT_HPD 3, 1), (R.DP_STAT_TRAINED 3, 1), (I.DP_TRAIN 3, 1)], by decide +kernel⟩,
    ⟨3, true, st [(I.PROXY 11, 0), (R.DP_STAT_HPD 3, 1), (R.DP_STAT_TRAINED 3, 1), (R.DP_CFG_EN 3, 1)], by decide +kernel⟩,
    ⟨3, true, 8, 2, st [(I.PROXY 11, 0), (I.DP_TRAIN 3, 1)], by decide +kernel⟩,
    ⟨3, false, 8, 2, st [(I.PROXY 11, 0), (I.DP_TRAIN 3, 1)], by decide +kernel⟩,
    ⟨3, 15, 0x102, beadSt 11 25 [(R.DP_STAT_HPD 3, 1)], by decide +kernel⟩,
    ⟨3, 15, 0x102, beadSt 11 25 [(R.DP_AUX_STAT_BUSY 3, 1)], by decide +kernel⟩,
    ⟨3, 15, 0x102, beadSt 11 25 [(R.DP_STAT_HPD 3, 1)], by decide +kernel⟩,
    ⟨3, 15, 0x102, beadSt 11 25 [(R.DP_AUX_STAT_BUSY 3, 1)], by decide +kernel⟩,
    ⟨3, 15, 0x102, beadSt 11 25 [(R.DP_STAT_HPD 3, 1)], by decide +kernel⟩,
    ⟨3, 15, 0x102, beadSt 11 25 [(R.DP_AUX_STAT_BUSY 3, 1)], by decide +kernel⟩,
    ⟨3, 15, 0x102, beadSt 11 25 [(R.DP_STAT_HPD 3, 1)], by decide +kernel⟩,
    ⟨3, 15, 0x102, beadSt 11 25 [(R.DP_AUX_STAT_BUSY 3, 1)], by decide +kernel⟩,
    ⟨3, 15, 0x102, beadSt 11 25 [(R.DP_STAT_HPD 3, 1)], by decide +kernel⟩,
    ⟨3, 15, 0x102, beadSt 11 25 [(R.DP_AUX_STAT_BUSY 3, 1)], by decide +kernel⟩,
    ⟨3, 15, 0x102, beadSt 11 25 [(R.DP_STAT_HPD 3, 1)], by decide +kernel⟩,
    ⟨3, 15, 0x102, beadSt 11 25 [(R.DP_AUX_STAT_BUSY 3, 1)], by decide +kernel⟩,
    ⟨3, .ack, 16, [1, 2], st [(I.PROXY 11, 0), (R.DP_AUX_STAT_BUSY 3, 1), (R.DP_AUX_CMD_OP 3, 1), (R.DP_AUX_CMD_LEN 3, 1)], by decide +kernel⟩,
    ⟨3, .defer, 0, [], st [(I.PROXY 11, 0), (R.DP_AUX_STAT_BUSY 3, 1), (R.DP_AUX_CMD_OP 3, 1), (I.AUX_TRY 3, 6)], by decide +kernel⟩,
    ⟨3, .defer, 0, [], st [(I.PROXY 11, 0), (R.DP_AUX_STAT_BUSY 3, 1), (I.AUX_TRY 3, 7)], by decide +kernel⟩,
    ⟨3, st [(I.PROXY 11, 0), (R.DP_AUX_STAT_BUSY 3, 1)], by decide +kernel⟩⟩

theorem test_witness_tally_and_ptp :
    (∃ (s : State), (Safety.reachesBead s 12 8) ∧ (s.stepValue < 2 ^ 48 * tSec)) ∧
    (∃ (s : State), (Safety.reachesBead s 12 8) ∧ (2 ^ 48 * tSec ≤ s.stepValue)) ∧
    (∃ (neg : Bool) (s : State), (Safety.reachesBead s 12 8) ∧ (neg = false) ∧ (s.now + s.stepValue < 2 ^ 48 * tSec)) ∧
    (∃ (neg : Bool) (s : State), (Safety.reachesBead s 12 8) ∧ (neg = true) ∧ (s.stepValue ≤ s.now) ∧ (s.now < 2 ^ 48 * tSec)) ∧
    (∃ (neg : Bool) (s : State), (Safety.reachesBead s 12 8) ∧ (neg = true ∧ s.now < s.stepValue ∨ neg = false ∧ 2 ^ 48 * tSec ≤ s.now + s.stepValue)) ∧
    (∃ (adj : BitVec 32) (s : State), (Safety.reachesBead s 12 8) ∧ (adjOk adj.toNat = true)) ∧
    (∃ (adj : BitVec 32) (s : State), (Safety.reachesBead s 12 8) ∧ (adjOk adj.toNat = false)) ∧
    (∃ (s : State), (Safety.reachesBead s 12 8)) ∧
    (∃ (n : Fin 16) (s : State), (Safety.reachesBead s 12 8)) ∧
    (∃ (n : Fin 16) (s : State), (Safety.reachesBead s 12 8)) ∧
    (∃ (n : Fin 16) (s : State), (s.on (R.TRG_CTL_ARMED n) = true) ∧ (s.get (I.TRG_T n) ≤ s.now) ∧ (s.get (R.TRG_PERIOD_V n) = 0)) ∧
    (∃ (n : Fin 16) (s : State), (s.on (R.TRG_CTL_ARMED n) = true) ∧ (s.get (I.TRG_T n) ≤ s.now) ∧ (s.get (R.TRG_PERIOD_V n) ≠ 0) ∧ (s.now + 2 ^ 65 * tNs < 2 ^ (I.TRG_T n).w)) ∧
    (∃ (j : Fin 8) (falling : Bool) (s : State), (s.on (R.CAP_CTL_EN j) = true) ∧ (s.get (R.CAP_CTL_EDGE j) = 0 ∧ falling = false ∨ s.get (R.CAP_CTL_EDGE j) = 1 ∧ falling = true ∨ 2 ≤ s.get (R.CAP_CTL_EDGE j))) ∧
    (∃ (j : Fin 8) (s : State), (Safety.reachesBead s 12 8) ∧ (s.on (R.CAP_STAT_VALID j) = true)) ∧
    (∃ (j : Fin 8) (s : State), (Safety.reachesBead s 12 8) ∧ (s.on (R.CAP_STAT_VALID j) = false)) ∧
    (∃ (m : Fin 4) (msg : PtpMsg) (o : BitVec 64) (s : State), (s.isolated 12 = false) ∧ (s.get R.PTP_CFG_MODE ≠ 0) ∧ (bit (s.get R.PTP_CFG_PORTS) m = true) ∧ (msg.offset = some o) ∧ (o.toInt.natAbs ≤ s.get R.PTP_SERVO_STEP_TH * 1000)) ∧
    (∃ (m : Fin 4) (msg : PtpMsg) (o : BitVec 64) (s : State), (s.isolated 12 = false) ∧ (s.get R.PTP_CFG_MODE ≠ 0) ∧ (bit (s.get R.PTP_CFG_PORTS) m = true) ∧ (msg.offset = some o) ∧ (s.get R.PTP_SERVO_STEP_TH * 1000 < o.toInt.natAbs) ∧ (0 ≤ (s.now : Int) - o.toInt * tNs) ∧ ((s.now : Int) - o.toInt * tNs < (2 ^ 48 * tSec : Nat))) ∧
    (∃ (m : Fin 4) (msg : PtpMsg) (s : State), (s.isolated 12 = false) ∧ (s.get R.PTP_CFG_MODE ≠ 0) ∧ (bit (s.get R.PTP_CFG_PORTS) m = true) ∧ (msg.offset = none)) ∧
    (∃ (s : State), (s.isolated 12 = false) ∧ (s.get R.PTP_CFG_MODE ≠ 0)) :=
  ⟨⟨beadSt 12 8 [(R.STEP_SEC_V, 7)], by decide +kernel⟩,
    ⟨beadSt 12 8 [(R.STEP_SEC_V, 0xFFFFFFFF), (R.STEP_HI_V, 0xFFFF), (R.STEP_NS_V, 0xFFFFFFFF)], by decide +kernel⟩,
    ⟨false, { beadSt 12 8 [(R.STEP_NS_V, 7)] with now := 100 * tNs }, by decide +kernel⟩,
    ⟨true, { beadSt 12 8 [(R.STEP_NS_V, 7)] with now := 100 * tNs }, by decide +kernel⟩,
    ⟨true, { beadSt 12 8 [(R.STEP_NS_V, 7)] with now := 6 * tNs }, by decide +kernel⟩,
    ⟨0xFFFFFFFF, beadSt 12 8 [], by decide +kernel⟩,
    ⟨0x80000000, beadSt 12 8 [], by decide +kernel⟩,
    ⟨{ beadSt 12 8 [] with now := 5 * tSec + 9 * tNs }, by decide +kernel⟩,
    ⟨15, beadSt 12 8 [(R.TRG_TIME_SEC_V 15, 7)], by decide +kernel⟩,
    ⟨15, beadSt 12 8 [(R.TRG_CTL_ARMED 15, 1)], by decide +kernel⟩,
    ⟨15, { st [(R.TRG_CTL_ARMED 15, 1), (I.TRG_T 15, 9), (R.TRG_CTL_PIN 15, 4)] with now := 9 }, by decide +kernel⟩,
    ⟨15, { st [(R.TRG_CTL_ARMED 15, 1), (I.TRG_T 15, 9), (R.TRG_PERIOD_V 15, 1000), (R.TRG_CTL_PIN 15, 4)] with now := 9 }, by decide +kernel⟩,
    ⟨7, true, { st [(R.CAP_CTL_EN 7, 1), (R.CAP_CTL_EDGE 7, 1), (R.CAP_STAT_VALID 7, 1)] with now := 5 * tNs + 3 }, by decide +kernel⟩,
    ⟨7, beadSt 12 8 [(R.CAP_STAT_VALID 7, 1), (I.CAP_T 7, 5 * tSec + 77 * tNs)], by decide +kernel⟩,
    ⟨7, beadSt 12 8 [(R.CAP_NS_V 7, 5)], by decide +kernel⟩,
    ⟨3, ⟨some (-5), 0xFFFFFFFF, 7, some 0x100000002, some 37⟩, -5, beadSt 12 8 [(R.PTP_CFG_MODE, 1), (R.PTP_CFG_PORTS, 8), (R.PTP_STAT_STATE, 1), (I.PTP_IN, 15), (R.PTP_SERVO_LOCK_NS, 100), (R.PTP_SERVO_STEP_TH, 10)], by decide +kernel⟩,
    ⟨3, ⟨some (-5), 0xFFFFFFFF, 7, none, none⟩, -5, st [(I.PROXY 12, 0), (R.PTP_CFG_MODE, 1), (R.PTP_CFG_PORTS, 8), (R.PTP_STAT_STATE, 1), (R.PTP_SERVO_STEP_TH, 0)], by decide +kernel⟩,
    ⟨3, ⟨none, 0, 0, some 9, some 37⟩, st [(I.PROXY 12, 0), (R.PTP_CFG_MODE, 1), (R.PTP_CFG_PORTS, 8)], by decide +kernel⟩,
    ⟨beadSt 12 8 [(R.PTP_CFG_MODE, 1), (R.PTP_STAT_STATE, 2), (R.TLY_RATE_ADJ, 9)], by decide +kernel⟩⟩

theorem test_witness_network_traffic :
    (∃ (m : Fin 4) (s : State), (s.isolated 12 = false) ∧ (s.on (R.MAC_CFG_EN m) = true)) ∧
    (∃ (m : Fin 4) (s : State), (s.isolated 12 = false) ∧ (s.on (R.MAC_STAT_LINK m) = true)) ∧
    (∃ (m : Fin 4) (ptpEvent fecBad : Bool) (frame : List Byte) (s : State), (s.isolated 12 = false) ∧ (s.on (R.MAC_STAT_LINK m) = true) ∧ (fecBad = false) ∧ (frame.length + 4 ≤ s.get (R.MAC_CFG_MAX_FRAME m))) ∧
    (∃ (m : Fin 4) (ptpEvent fecBad : Bool) (frame : List Byte) (s : State), (s.isolated 12 = false) ∧ (s.on (R.MAC_STAT_LINK m) = true) ∧ (fecBad = true)) ∧
    (∃ (m : Fin 4) (ptpEvent fecBad : Bool) (frame : List Byte) (s : State), (s.on (R.MAC_STAT_LINK m) = false ∨ fecBad = false ∧ s.get (R.MAC_CFG_MAX_FRAME m) < frame.length + 4)) ∧
    (∃ (m : Fin 4) (req : TxStamp) (frame : List Byte) (id : BitVec 16) (s : State), (s.isolated 12 = false) ∧ (s.on (R.MAC_STAT_LINK m) = true) ∧ (req = .twoStep id) ∧ ((s.tsq.filter (fun e => decide (e.1 = m.val))).length < 64)) ∧
    (∃ (m : Fin 4) (req : TxStamp) (frame : List Byte) (id : BitVec 16) (s : State), (s.isolated 12 = false) ∧ (s.on (R.MAC_STAT_LINK m) = true) ∧ (req = .twoStep id) ∧ (64 ≤ (s.tsq.filter (fun e => decide (e.1 = m.val))).length)) ∧
    (∃ (m : Fin 4) (req : TxStamp) (frame : List Byte) (off ck : BitVec 14) (s : State), (s.isolated 12 = false) ∧ (s.on (R.MAC_STAT_LINK m) = true) ∧ (req = .oneStep off ck)) ∧
    (∃ (m : Fin 4) (s : State), (Safety.reachesBead s 12 m) ∧ (s.tsq.find? (fun e => decide (e.1 = m.val)) = none)) ∧
    (∃ (m : Fin 4) (e : Nat × Nat × Time) (s : State), (Safety.reachesBead s 12 m) ∧ (s.tsq.find? (fun e => decide (e.1 = m.val)) = some e)) ∧
    (∃ (s : State), (s.isolated 12 = false) ∧ (s.on R.LTC_CFG_OUT_EN = true)) ∧
    (∃ (tc : BitVec 32) (s : State), (s.isolated 12 = false) ∧ (s.on R.LTC_CFG_IN_EN = true)) ∧
    (∃ (f : BitVec 12) (s : State), (Safety.reaches s 12) ∧ (f.toNat ≤ 2143) ∧ ((s.flow f.toNat).any (fun x => !x.pics.isEmpty) = true)) ∧
    (∃ (f : BitVec 12) (q : Nat × Bool) (s : State), (Safety.reaches s 12) ∧ (f.toNat ≤ 2143) ∧ ((s.flow f.toNat).all (fun x => x.pics.isEmpty) = true) ∧ ((((s.withFlow f.toNat).modFlow f.toNat (fun x => { x with commit := false })).flowRules f.toNat ⟨s.trayRead (s.flowStaged f.toNat) 64⟩).find? (fun r => !r.2) = some q)) ∧
    (∃ (f : BitVec 12) (s : State), (Safety.reaches s 12) ∧ (f.toNat ≤ 2143) ∧ ((s.flow f.toNat).all (fun x => x.pics.isEmpty) = true) ∧ ((((s.withFlow f.toNat).modFlow f.toNat (fun x => { x with commit := false })).flowRules f.toNat ⟨s.trayRead (s.flowStaged f.toNat) 64⟩).find? (fun r => !r.2) = none) ∧ (s.granted 12 (s.flowForce f.toNat / granBytes) true = true)) ∧
    (∃ (f : BitVec 12) (s : State), (Safety.reaches s 12) ∧ (2143 < f.toNat)) ∧
    (∃ (f : BitVec 12) (late : Bool) (x : Flow) (p : FlowPic) (more : List FlowPic) (s : State), (s.isolated 12 = false) ∧ (f.toNat ≤ 2143) ∧ ((s.flowEnt f.toNat).kind ≠ 0) ∧ ((s.flowEnt f.toNat).rx = false) ∧ (s.flow f.toNat = some x) ∧ (x.pics = p :: more) ∧ (s.on (R.MAC_STAT_LINK (s.flowPkt f.toNat (s.flowEnt f.toNat))) = false ∨ late = true)) ∧
    (∃ (f : BitVec 12) (late : Bool) (x : Flow) (p : FlowPic) (more : List FlowPic) (d : List Byte) (rest : List (List Byte)) (s : State), (s.isolated 12 = false) ∧ (f.toNat ≤ 2143) ∧ ((s.flowEnt f.toNat).kind ≠ 0) ∧ ((s.flowEnt f.toNat).rx = false) ∧ (s.flow f.toNat = some x) ∧ (x.pics = p :: more) ∧ (p.pkts = d :: rest) ∧ (late = false) ∧ (s.on (R.MAC_STAT_LINK (s.flowPkt f.toNat (s.flowEnt f.toNat))) = true)) ∧
    (∃ (m : Fin 4) (pkt : RtpPkt) (f : Nat) (s : State), (s.isolated 12 = false) ∧ (s.on (R.MAC_STAT_LINK m) = true) ∧ (((List.range 64).map (· + 2080)).find? (fun f => let e := s.flowEnt f; e.rx && decide (e.kind = 1 ∧ e.ctl % 4 = m.val ∧ beNat (slice e.b 0x10 4) = pkt.ip.toNat ∧ e.u 0x14 2 = pkt.port.toNat)) = some f)) ∧
    (∃ (m : Fin 4) (pkt : RtpPkt) (s : State), (s.on (R.MAC_STAT_LINK m) = false ∨ ((List.range 64).map (· + 2080)).find? (fun f => let e := s.flowEnt f; e.rx && decide (e.kind = 1 ∧ e.ctl % 4 = m.val ∧ beNat (slice e.b 0x10 4) = pkt.ip.toNat ∧ e.u 0x14 2 = pkt.port.toNat)) = none)) ∧
    (∃ (e : Fin 8) (x : Strm) (j : EncJob) (s : State), (s.strms.find? (fun x => match x.busy with | some j => decide (j.enc = e.val) | none => false) = some x) ∧ (x.busy = some j)) ∧
    (∃ (e : Fin 8) (x : Strm) (j : EncJob) (s : State), (s.strms.find? (fun x => match x.busy with | some j => decide (j.enc = e.val) | none => false) = some x) ∧ (x.busy = some j) ∧ (s.strms.all (fun y => y.dues.isEmpty) = true)) :=
  ⟨⟨3, st [(I.PROXY 12, 0), (R.MAC_CFG_EN 3, 1)], by decide +kernel⟩,
    ⟨3, st [(I.PROXY 12, 0), (R.MAC_STAT_LINK 3, 1)], by decide +kernel⟩,
    ⟨3, true, false, [1, 2], { st [(I.PROXY 12, 0), (R.MAC_STAT_LINK 3, 1)] with now := tSec }, by decide +kernel⟩,
    ⟨3, true, true, [1, 2], st [(I.PROXY 12, 0), (R.MAC_STAT_LINK 3, 1)], by decide +kernel⟩,
    ⟨3, false, false, [1, 2], st [(I.PROXY 12, 0)], by decide +kernel⟩,
    ⟨3, .twoStep 7, [1, 2], 7, { st [(I.PROXY 12, 0), (R.MAC_STAT_LINK 3, 1)] with now := tSec }, by decide +kernel⟩,
    ⟨3, .twoStep 7, [1, 2], 7, { st [(I.PROXY 12, 0), (R.MAC_STAT_LINK 3, 1)] with tsq := List.replicate 64 (3, 1, 2) }, by decide +kernel⟩,
    ⟨3, .oneStep 2 14, List.replicate 20 1, 2, 14, { st [(I.PROXY 12, 0), (R.MAC_STAT_LINK 3, 1)] with now := tSec }, by decide +kernel⟩,
    ⟨3, beadSt 12 3 [(R.TSQ_POP_VALID 3, 1)], by decide +kernel⟩,
    ⟨3, (3, 7, 900), { beadSt 12 3 [(R.TSQ_STAT_LEVEL 3, 1)] with tsq := [(3, 7, 900)] }, by decide +kernel⟩,
    ⟨st [(I.PROXY 12, 0), (R.LTC_CFG_OUT_EN, 1)], by decide +kernel⟩,
    ⟨0x01020304, st [(I.PROXY 12, 0), (R.LTC_CFG_IN_EN, 1)], by decide +kernel⟩,
    ⟨2143, { st [(I.PROXY 12, 0)] with flows := [⟨2143, 5, false, 0, [⟨1, 0, 0, [], 0, 0, 0, 0⟩]⟩] }, by decide +kernel⟩,
    ⟨2080, (0x80, false), { st [(I.PROXY 12, 0)] with tray := [(133120, 1)] }, by decide +kernel⟩,
    ⟨2143, { st [(I.PROXY 12, 0)] with strg := { trays := [⟨1, 0, 0, 0, 6, 0xFFFF, 0xFFFF⟩] } }, by decide +kernel⟩,
    ⟨2144, st [(I.PROXY 12, 0)], by decide +kernel⟩,
    ⟨2143, false, ⟨2143, 5, false, 0, [⟨1, 0, 0, [[1], [2]], 0, 2, 0, 0⟩]⟩, ⟨1, 0, 0, [[1], [2]], 0, 2, 0, 0⟩, [], { st [(I.PROXY 12, 0)] with tray := [(137152, 4)], flows := [⟨2143, 5, false, 0, [⟨1, 0, 0, [[1], [2]], 0, 2, 0, 0⟩]⟩] }, by decide +kernel⟩,
    ⟨2143, false, ⟨2143, 5, false, 0, [⟨1, 0, 0, [[1], [2]], 0, 2, 0, 0⟩]⟩, ⟨1, 0, 0, [[1], [2]], 0, 2, 0, 0⟩, [], [1], [[2]], { st [(I.PROXY 12, 0), (R.MAC_STAT_LINK 0, 1)] with tray := [(137152, 4)], flows := [⟨2143, 5, false, 0, [⟨1, 0, 0, [[1], [2]], 0, 2, 0, 0⟩]⟩] }, by decide +kernel⟩,
    ⟨0, ⟨0, 0, 65535, 9, false, false, [0x40, 1, 2]⟩, 2080, { st [(I.PROXY 12, 0), (R.MAC_STAT_LINK 0, 1)] with tray := [(133120, 1), (133121, 128)] }, by decide +kernel⟩,
    ⟨0, ⟨0, 0, 65535, 9, false, false, [0x40, 1, 2]⟩, st [], by decide +kernel⟩,
    ⟨6, { num := 3, run := true, busy := some ⟨6, 4, false, false, 1, 0, none⟩ }, ⟨6, 4, false, false, 1, 0, none⟩, { st [(I.PROXY 9, 0), (R.ENC_STAT_STATE 1 2, 1)] with strms := [{ num := 3, run := true, busy := some ⟨6, 4, false, false, 1, 0, none⟩ }] }, by decide +kernel⟩,
    ⟨6, { num := 3, run := true, busy := some ⟨6, 4, false, false, 1, 0, none⟩ }, ⟨6, 4, false, false, 1, 0, none⟩, { st [(I.PROXY 9, 0), (R.ENC_STAT_STATE 1 2, 1)] with strms := [{ num := 3, run := true, busy := some ⟨6, 4, false, false, 1, 0, none⟩ }] }, by decide +kernel⟩⟩

theorem test_witness_audio_ports :
    (∃ (n : Fin 8) (s : State), (Safety.reachesBead s 13 n) ∧ (s.get (R.AP_STAT_CLK_STATE n) = 0)) ∧
    (∃ (n : Fin 8) (s : State), (Safety.reachesBead s 13 n) ∧ (s.get (R.AP_STAT_CLK_STATE n) ≠ 0)) ∧
    (∃ (n : Fin 8) (s : State), (s.isolated 13 = false) ∧ (s.get (R.AP_STAT_CLK_STATE n) = 1) ∧ (s.audGroup n = none) ∧ (s.on (I.AP_GRP n) = true ∨ s.get (I.AP_T n) ≤ s.now)) ∧
    (∃ (n : Fin 8) (s : State), (s.get (R.AP_STAT_CLK_STATE n) ≠ 1 ∨ (s.audGroup n).isSome = true ∨ s.on (I.AP_GRP n) = false ∧ s.now < s.get (I.AP_T n))) ∧
    (∃ (g : Fin 4) (s : State), (Safety.reaches s 13) ∧ (((List.range 8).filter (bit (s.get (R.SG_CTL_MASK g)))).length ≤ 4) ∧ ((List.range 4).all (fun h => decide (h = g.val) || !s.on (R.SG_CTL_ARMED h) || ((List.range 8).filter (bit (s.get (R.SG_CTL_MASK g)))).all (fun n => !bit (s.get (R.SG_CTL_MASK h)) n)) = true) ∧ (((List.range 8).filter (bit (s.get (R.SG_CTL_MASK g)))).all (fun n => decide (s.get (R.AP_STAT_CLK_STATE n) < 2)) = true)) ∧
    (∃ (g : Fin 4) (s : State), (Safety.reaches s 13) ∧ (4 < ((List.range 8).filter (bit (s.get (R.SG_CTL_MASK g)))).length ∨ (List.range 4).all (fun h => decide (h = g.val) || !s.on (R.SG_CTL_ARMED h) || ((List.range 8).filter (bit (s.get (R.SG_CTL_MASK g)))).all (fun n => !bit (s.get (R.SG_CTL_MASK h)) n)) = false ∨ ((List.range 8).filter (bit (s.get (R.SG_CTL_MASK g)))).all (fun n => decide (s.get (R.AP_STAT_CLK_STATE n) < 2)) = false)) ∧
    (∃ (g : Fin 4) (n : Fin 8) (s : State), (Safety.reaches s 13) ∧ (bit (s.get (R.SG_CTL_MASK g)) n = true)) ∧
    (∃ (g : Fin 4) (s : State), (Safety.reaches s 13)) ∧
    (∃ (g : Fin 4) (n : Fin 8) (s : State), (s.isolated 13 = false) ∧ (s.on (R.SG_CTL_ARMED g) = true) ∧ (s.get (I.SG_T g) ≤ s.now) ∧ (bit (s.get (R.SG_CTL_MASK g)) n = true)) ∧
    (∃ (n : Fin 8) (fsErr : Bool) (samples : List (BitVec 24)) (a : AudPort) (s : State), (s.isolated 13 = false) ∧ (s.aud n = some a) ∧ (a.synced = false)) ∧
    (∃ (n : Fin 8) (fsErr : Bool) (samples : List (BitVec 24)) (a : AudPort) (s : State), (s.isolated 13 = false) ∧ (s.aud n = some a) ∧ (a.synced = true)) ∧
    (∃ (n : Fin 8) (phase : BitVec 8) (a : AudPort) (s : State), (s.isolated 13 = false) ∧ (s.aud n = some a) ∧ (s.holdNow 13 = false)) ∧
    (∃ (n : Fin 8) (phase : BitVec 8) (a : AudPort) (s : State), (s.isolated 13 = false) ∧ (s.aud n = some a) ∧ (s.holdNow 13 = true)) ∧
    (∃ (n : Fin 8) (s : State), (s.audWatches n = true)) ∧
    (∃ (n : Fin 8) (s : State), (s.audWatches n = true)) ∧
    (∃ (n : Fin 8) (hz : BitVec 32) (s : State), (s.audWatches n = true)) ∧
    (∃ (n : Fin 8) (hz : BitVec 32) (c : ClockRec) (s : State), (s.audWatches n = true) ∧ (s.on (I.AP_NOCLK n) = false) ∧ (s.asrc n = false) ∧ (s.get (R.AP_CFG_CLK n) = 0) ∧ (s.strg.audClock n = some c) ∧ (c.den ≠ 1001) ∧ (ppmClose hz.toNat c.num (s.get (R.AP_MON_WIN_PPM n)) = false)) ∧
    (∃ (n : Fin 8) (ratio : BitVec 32) (s : State), (s.isolated 13 = false) ∧ (s.asrc n = true) ∧ (s.get (R.AP_STAT_CLK_STATE n) = 2)) ∧
    (∃ (a : Fin 8) (o : Fin 4) (s : State), (s.isolated 13 = false) ∧ (s.now * 48000 / tSec % 48 ≠ 0 ∨ s.commitPending 13 8 = false) ∧ (s.inForce (R.AS_CFG_EN a) ≠ 0) ∧ (s.inForce (R.SDI_MAP_STREAM o) = a.val ∧ s.inForce (R.SDI_CFG_AUD_EN o) = 1 ∧ s.inForce (R.ROUTE_EN o) = 1)) ∧
    (∃ (a : Fin 8) (s : State), (s.isolated 13 = false) ∧ (s.now * 48000 / tSec % 48 ≠ 0 ∨ s.commitPending 13 8 = false) ∧ (s.inForce (R.AS_CFG_EN a) = 0)) :=
  ⟨⟨7, { beadSt 13 7 [] with now := 5 * tMs + 1 }, by decide +kernel⟩,
    ⟨7, beadSt 13 7 [(R.AP_STAT_CLK_STATE 7, 2)], by decide +kernel⟩,
    ⟨7, { st [(I.PROXY 13, 0), (R.AP_STAT_CLK_STATE 7, 1), (I.AP_T 7, 9)] with now := 9 }, by decide +kernel⟩,
    ⟨7, st [(R.AP_STAT_CLK_STATE 7, 1), (I.AP_T 7, 9)], by decide +kernel⟩,
    ⟨3, st [(I.PROXY 13, 0), (R.SG_CTL_MASK 3, 0x0F), (R.SG_TIME_SEC_V 3, 8)], by decide +kernel⟩,
    ⟨3, st [(I.PROXY 13, 0), (R.SG_CTL_MASK 3, 0x1F)], by decide +kernel⟩,
    ⟨3, 5, st [(I.PROXY 13, 0), (R.SG_CTL_ARMED 3, 1), (R.SG_CTL_MASK 3, 0x20), (R.AP_STAT_CLK_STATE 5, 1)], by decide +kernel⟩,
    ⟨3, st [(I.PROXY 13, 0), (R.SG_CTL_ARMED 3, 1)], by decide +kernel⟩,
    ⟨3, 5, { st [(I.PROXY 13, 0), (R.SG_CTL_ARMED 3, 1), (R.SG_CTL_MASK 3, 0x21), (R.AP_STAT_CLK_STATE 5, 1), (I.SG_T 3, 7)] with now := 9 }, by decide +kernel⟩,
    ⟨7, false, [1, 2], { n := 7, t0 := 0, blk := ⟨0, 0, 48, 0, 3, false, false⟩ }, { st [(I.PROXY 13, 0)] with auds := [{ n := 7, t0 := 0, blk := ⟨0, 0, 48, 0, 3, false, false⟩ }] }, by decide +kernel⟩,
    ⟨7, false, [1, 2], { n := 7, t0 := 0, synced := true, blk := ⟨0, 0, 48, 0, 3, false, false⟩ }, { st [(I.PROXY 13, 0)] with auds := [{ n := 7, t0 := 0, synced := true, blk := ⟨0, 0, 48, 0, 3, false, false⟩ }] }, by decide +kernel⟩,
    ⟨7, 3, { n := 7, t0 := 0, synced := true, blk := ⟨0, 0, 48, 0, 3, false, false⟩ }, { st [(I.PROXY 13, 0), (R.AP_CFG_CLK 7, 2), (R.AP_STAT_CLK_STATE 7, 2)] with auds := [{ n := 7, t0 := 0, synced := true, blk := ⟨0, 0, 48, 0, 3, false, false⟩ }] }, by decide +kernel⟩,
    ⟨7, 3, { n := 7, t0 := 0, synced := true, blk := ⟨0, 0, 48, 0, 3, false, false⟩ }, { st [(I.PROXY 13, 0), (R.AP_CFG_CLK 7, 2), (R.AP_STAT_CLK_STATE 7, 2), (I.PWR_MASK, 8192)] with auds := [{ n := 7, t0 := 0, synced := true, blk := ⟨0, 0, 48, 0, 3, false, false⟩ }] }, by decide +kernel⟩,
    ⟨7, st [(I.PROXY 13, 0), (R.AP_CFG_EN 7, 1), (R.AP_CFG_CLK 7, 1), (R.AP_STAT_CLK_STATE 7, 2)], by decide +kernel⟩,
    ⟨7, st [(I.PROXY 13, 0), (R.AP_CFG_EN 7, 1), (R.AP_CFG_CLK 7, 1)], by decide +kernel⟩,
    ⟨7, 48000, st [(I.PROXY 13, 0), (R.AP_CFG_EN 7, 1), (R.AP_CFG_CLK 7, 1)], by decide +kernel⟩,
    ⟨7, 48000, ⟨6, 7, 2, 0, 3072000, 1⟩, { st [(I.PROXY 13, 0), (R.AP_CFG_EN 7, 1), (R.AP_CFG_CLK 7, 0), (R.AP_STAT_CLK_STATE 7, 2)] with strg := { clocks := [⟨6, 7, 2, 0, 3072000, 1⟩] } }, by decide +kernel⟩,
    ⟨7, 0x10000000, st [(I.PROXY 13, 0), (R.AP_CFG_ASRC 7, 1), (R.AP_STAT_CLK_STATE 7, 2)], by decide +kernel⟩,
    ⟨7, 0, { st [(I.PROXY 13, 0)] with now := tSec, inf := [((R.AS_CFG_EN 7).key, 1), ((R.SDI_MAP_STREAM 0).key, 7), ((R.SDI_CFG_AUD_EN 0).key, 1), ((R.ROUTE_EN 0).key, 1)] }, by decide +kernel⟩,
    ⟨7, st [(I.PROXY 13, 0)], by decide +kernel⟩⟩

theorem test_witness_dram_channels :
    (∃ (ch : Fin 8) (errs : BitVec 10) (e : WrEnt) (s : State), (s.chRuns ch = true) ∧ ((s.set (I.CH_DRAIN ch) (ofBool (s.drainNow ch))).choose ch (s.drainNow ch) = some (.wr e))) ∧
    (∃ (ch : Fin 8) (errs : BitVec 10) (e : RdEnt) (s : State), (s.chRuns ch = true) ∧ ((s.set (I.CH_DRAIN ch) (ofBool (s.drainNow ch))).choose ch (s.drainNow ch) = some (.rd e))) ∧
    (∃ (ch : Fin 8) (errs : BitVec 10) (s : State), (s.chRuns ch = false ∨ (s.set (I.CH_DRAIN ch) (ofBool (s.drainNow ch))).choose ch (s.drainNow ch) = none)) ∧
    (∃ (ch : Fin 8) (rank : Fin 2) (s : State), (s.chRuns ch = true) ∧ (rank.val ≤ s.get (R.CH_CFG_RANKS ch)) ∧ (s.on I.PANIC = true) ∧ (s.get (I.CH_POSTPONED ch rank) < s.postponeMax ch rank)) ∧
    (∃ (ch : Fin 8) (rank : Fin 2) (s : State), (s.chRuns ch = true) ∧ (rank.val ≤ s.get (R.CH_CFG_RANKS ch)) ∧ (s.on I.PANIC = false ∨ s.postponeMax ch rank ≤ s.get (I.CH_POSTPONED ch rank))) ∧
    (∃ (ch : Fin 8) (rank : Fin 2) (s : State), (s.chRuns ch = true) ∧ (s.get (I.CH_POSTPONED ch rank) ≠ 0)) ∧
    (∃ (ch : Fin 8) (rank : Fin 2) (s : State), (s.chRuns ch = true) ∧ (s.get (I.CH_POSTPONED ch rank) = 0)) ∧
    (∃ (ch : Fin 8) (hot : BitVec 2) (temp : BitVec 9) (s : State), (s.chRuns ch = true)) ∧
    (∃ (ch : Fin 8) (errs : BitVec 10) (s : State), (s.on R.SCRUB_EN = true) ∧ (s.chRuns ch = true) ∧ (s.strg.capacity ch ≠ 0)) ∧
    (∃ (ch : Fin 8) (s : State), (s.get (R.CH_STAT_STATE ch) = 2) ∧ (s.on I.PANIC = false ∨ s.on (I.CH_STEPWAIT ch) = true)) ∧
    (∃ (ch : Fin 8) (s : State), (s.get (R.CH_STAT_STATE ch) = 2 ∧ s.on I.PANIC = true ∧ s.on (I.CH_STEPWAIT ch) = false ∨ s.get (R.CH_STAT_STATE ch) = 4)) ∧
    (∃ (ch : Fin 8) (works : Bool) (s : State), (s.on (I.CH_STEPSET ch) = true)) ∧
    (∃ (ch : Fin 8) (s : State), (s.on (R.CH_STAT_PEND ch) = true)) ∧
    (∃ (ch : Fin 8) (s : State), (s.on (R.CH_STAT_PEND ch) = false)) ∧
    (∃ (ch : Fin 8) (sp : Fin 4) (urgent : Bool) (s : State), (Safety.reachesBead s 14 ch) ∧ ((s.spRate ch sp).isSome = true)) ∧
    (∃ (ch : Fin 8) (sp : Fin 4) (urgent : Bool) (s : State), (Safety.reachesBead s 14 ch) ∧ (s.spRate ch sp = none)) ∧
    (∃ (k : Fin 15) (s : State), (bit (s.inForce R.PANIC_CFG_EN) k = true)) ∧
    (∃ (k : Fin 15) (s : State), (bit (s.inForce R.PANIC_CFG_EN) k = false)) ∧
    (∃ (s : State), (s.on I.PANIC = true) ∧ (s.on I.PANIC_LONGED = false)) ∧
    (∃ (s : State), (s.on I.PANIC = false ∨ s.on I.PANIC_LONGED = true)) ∧
    (∃ (ch : Fin 8) (s : State), (s.get (R.CH_STAT_STATE ch) ≠ 0 ∧ s.get (R.CH_STAT_STATE ch) ≠ 6)) ∧
    (∃ (ch : Fin 8) (s : State), (s.get (R.CH_STAT_STATE ch) = 0 ∨ s.get (R.CH_STAT_STATE ch) = 6)) ∧
    (∃ (ch : Fin 8) (works : Bool) (s : State), (s.get (R.CH_STAT_STATE ch) = 6) ∧ (s.on (I.CH_INIT ch) = false)) ∧
    (∃ (ch : Fin 8) (w : Nat) (s : State), (s.get (R.CH_STAT_STATE ch) = 6) ∧ (s.on (I.CH_INIT ch) = true) ∧ (w / 2 ^ 29 = ch.val)) :=
  ⟨⟨7, 0, ⟨7, 1, 0, 0, 2, (List.range 128).map (fun i => (i, 5))⟩, { st [(R.CH_STAT_STATE 7, 2)] with wrQ := [⟨7, 1, 0, 0, 2, (List.range 128).map (fun i => (i, 5))⟩] }, by decide +kernel⟩,
    ⟨7, 0, ⟨7, 1, 9, 0, 1, 1, 0, 0, 2, 4, 8, []⟩, { st [(R.CH_STAT_STATE 7, 2)] with rdQ := [⟨7, 1, 9, 0, 1, 1, 0, 0, 2, 4, 8, []⟩] }, by decide +kernel⟩,
    ⟨7, 0, st [(R.CH_STAT_STATE 7, 2)], by decide +kernel⟩,
    ⟨7, 1, st [(R.CH_STAT_STATE 7, 2), (R.CH_CFG_RANKS 7, 1), (I.PANIC, 1)], by decide +kernel⟩,
    ⟨7, 1, { st [(R.CH_STAT_STATE 7, 2), (R.CH_CFG_RANKS 7, 1)] with rows := [⟨7, 33, 0, 0⟩] }, by decide +kernel⟩,
    ⟨7, 1, { st [(R.CH_STAT_STATE 7, 2), (R.CH_CFG_RANKS 7, 1), (I.PANIC, 1), (I.CH_POSTPONED 7 1, 1)] with rows := [⟨7, 33, 0, 0⟩] }, by decide +kernel⟩,
    ⟨7, 1, { st [(R.CH_STAT_STATE 7, 2)] with rows := [⟨7, 33, 0, 0⟩] }, by decide +kernel⟩,
    ⟨7, 2, 40, st [(R.CH_STAT_STATE 7, 2)], by decide +kernel⟩,
    ⟨7, 1, { st [(R.SCRUB_EN, 1), (R.CH_STAT_STATE 7, 2)] with strg := { limits := [⟨0x60, 14, 7, 16⟩] } }, by decide +kernel⟩,
    ⟨7, st [(R.CH_STAT_STATE 7, 2)], by decide +kernel⟩,
    ⟨7, st [(R.CH_STAT_STATE 7, 4)], by decide +kernel⟩,
    ⟨7, false, st [(I.CH_STEPSET 7, 1), (R.CH_STAT_STATE 7, 3)], by decide +kernel⟩,
    ⟨7, st [(R.CH_STAT_PEND 7, 1)], by decide +kernel⟩,
    ⟨7, st [], by decide +kernel⟩,
    ⟨7, 3, false, { beadSt 14 7 [(R.CH_STAT_STATE 7, 2)] with strg := { rods := [⟨14, 1, 1, [(7, 0)]⟩], clocks := [⟨2, 7, 0, 3, 400000000, 1⟩] } }, by decide +kernel⟩,
    ⟨7, 3, true, beadSt 14 7 [], by decide +kernel⟩,
    ⟨14, st [], by decide +kernel⟩,
    ⟨14, { st [] with inf := [(R.PANIC_CFG_EN.key, 1)] }, by decide +kernel⟩,
    ⟨st [(I.PANIC, 1)], by decide +kernel⟩,
    ⟨st [], by decide +kernel⟩,
    ⟨7, { st [(R.CH_STAT_STATE 7, 2)] with wrQ := [⟨7, 1, 0, 0, 2, []⟩] }, by decide +kernel⟩,
    ⟨7, st [], by decide +kernel⟩,
    ⟨7, true, st [(R.CH_STAT_STATE 7, 6)], by decide +kernel⟩,
    ⟨7, 7 * 2 ^ 29 + 5, st [(R.CH_STAT_STATE 7, 6), (I.CH_INIT 7, 1), (I.CH_PROXY 7, 1)], by decide +kernel⟩⟩

theorem test_witness_deflate_and_dma :
    (∃ (n : Fin 2) (slot : BitVec 8) (s : State), (Safety.reachesBead s 15 n) ∧ (slot.toNat < s.get (R.DFL_RING_DEPTH n))) ∧
    (∃ (n : Fin 2) (slot : BitVec 8) (s : State), (Safety.reachesBead s 15 n) ∧ (s.get (R.DFL_RING_DEPTH n) ≤ slot.toNat)) ∧
    (∃ (n : Fin 2) (j : UtlJob) (s : State), (s.on (R.DFL_CFG_EN n) = true) ∧ (s.get (R.DFL_STAT_STATE n) ≠ 1) ∧ (s.get (R.DFL_HEAD_SLOT n) ≠ s.get (R.DFL_TAIL_SLOT n)) ∧ (s.utlMay (s.get (R.DFL_HEAD_SLOT n)) (s.get (I.DFL_LIM n)) = true) ∧ (j = ⟨n, (s.get (R.DFL_HEAD_SLOT n)), (s.trayReadAs 15 (rodPort 15) (s.dflSlot n (s.get (R.DFL_HEAD_SLOT n))) 64).1, decide ((s.trayReadAs 15 (rodPort 15) (s.dflSlot n (s.get (R.DFL_HEAD_SLOT n))) 64).2.1 ≠ 0)⟩) ∧ (s.dflClaimed j = false) ∧ (j.bad = false) ∧ (s.dflDescOk j = true)) ∧
    (∃ (n : Fin 2) (j : UtlJob) (s : State), (s.on (R.DFL_CFG_EN n) = true) ∧ (s.get (R.DFL_STAT_STATE n) ≠ 1) ∧ (s.get (R.DFL_HEAD_SLOT n) ≠ s.get (R.DFL_TAIL_SLOT n)) ∧ (s.utlMay (s.get (R.DFL_HEAD_SLOT n)) (s.get (I.DFL_LIM n)) = true) ∧ (j = ⟨n, (s.get (R.DFL_HEAD_SLOT n)), (s.trayReadAs 15 (rodPort 15) (s.dflSlot n (s.get (R.DFL_HEAD_SLOT n))) 64).1, decide ((s.trayReadAs 15 (rodPort 15) (s.dflSlot n (s.get (R.DFL_HEAD_SLOT n))) 64).2.1 ≠ 0)⟩) ∧ (s.dflClaimed j = false) ∧ (j.bad = true ∨ s.dflDescOk j = false)) ∧
    (∃ (n : Fin 2) (j : UtlJob) (s : State), (s.on (R.DFL_CFG_EN n) = true) ∧ (s.get (R.DFL_STAT_STATE n) ≠ 1) ∧ (s.get (R.DFL_HEAD_SLOT n) ≠ s.get (R.DFL_TAIL_SLOT n)) ∧ (s.utlMay (s.get (R.DFL_HEAD_SLOT n)) (s.get (I.DFL_LIM n)) = true) ∧ (j = ⟨n, (s.get (R.DFL_HEAD_SLOT n)), (s.trayReadAs 15 (rodPort 15) (s.dflSlot n (s.get (R.DFL_HEAD_SLOT n))) 64).1, decide ((s.trayReadAs 15 (rodPort 15) (s.dflSlot n (s.get (R.DFL_HEAD_SLOT n))) 64).2.1 ≠ 0)⟩) ∧ (s.dflClaimed j = true)) ∧
    (∃ (n : Fin 2) (s : State), (s.on (R.DFL_CFG_EN n) = false ∨ s.get (R.DFL_STAT_STATE n) = 1 ∨ s.get (R.DFL_HEAD_SLOT n) = s.get (R.DFL_TAIL_SLOT n) ∨ s.utlMay (s.get (R.DFL_HEAD_SLOT n)) (s.get (I.DFL_LIM n)) = false)) ∧
    (∃ (n : Fin 2) (j : UtlJob) (s : State), (s.dfls.find? (fun j => decide (j.n = n.val)) = some j)) ∧
    (∃ (n : Fin 2) (j : UtlJob) (s : State), (Safety.reachesBead s 15 n) ∧ (s.dfls.find? (fun j => decide (j.n = n.val)) = some j)) ∧
    (∃ (n : Fin 2) (s : State), (Safety.reachesBead s 15 n) ∧ (s.dfls.find? (fun j => decide (j.n = n.val)) = none)) ∧
    (∃ (d : Fin 8) (slot : BitVec 8) (b : List Byte) (s : State), (Safety.reachesBead s 15 (2 + d)) ∧ (s.holdNow 15 = false) ∧ (s.on (R.DMA_CFG_EN d) = true) ∧ (s.dmas.any (fun j => decide (j.n = d.val)) = false) ∧ (s.get (R.DMA_CFG_HEAD d) ≠ slot.toNat) ∧ ((granSpan (s.dmaSlot d (s.get (R.DMA_CFG_HEAD d))) 32).all (fun g => s.granted 15 g false) = true) ∧ (s.badWords (s.dmaSlot d (s.get (R.DMA_CFG_HEAD d))) 32 = []) ∧ (s.trayRead (s.dmaSlot d (s.get (R.DMA_CFG_HEAD d))) 32 = b) ∧ (s.dmaDescOk ⟨d, s.get (R.DMA_CFG_HEAD d), b, false⟩ = true)) ∧
    (∃ (d : Fin 8) (slot : BitVec 8) (s : State), (Safety.reachesBead s 15 (2 + d)) ∧ (s.on (R.DMA_CFG_EN d) = false ∨ s.dmas.any (fun j => decide (j.n = d.val)) = true ∨ s.get (R.DMA_CFG_HEAD d) = slot.toNat)) ∧
    (∃ (d : Fin 8) (ok : Bool) (data : List Byte) (j : UtlJob) (s : State), (s.dmas.find? (fun j => decide (j.n = d.val)) = some j) ∧ (s.get (R.DMA_CFG_TAIL d) = (j.slot + 1) % 2 ^ (R.DMA_CFG_TAIL d).w) ∧ (ok = true ∨ j.dir = 2) ∧ (j.dflag 1 = false) ∧ (j.dflag 2 = false) ∧ (0 < j.u 0x18 4) ∧ (j.dir ≠ 0 → s.dramPoison (j.u 6 1) (j.u 8 8) (j.u 0x18 4) = false)) ∧
    (∃ (d : Fin 8) (ok : Bool) (data : List Byte) (j : UtlJob) (s : State), (s.dmas.find? (fun j => decide (j.n = d.val)) = some j) ∧ (s.get (R.DMA_CFG_TAIL d) = (j.slot + 1) % 2 ^ (R.DMA_CFG_TAIL d).w) ∧ (ok = false ∧ j.dir ≠ 2)) ∧
    (∃ (d : Fin 8) (j : UtlJob) (s : State), (Safety.reachesBead s 15 (2 + d)) ∧ (s.dmas.find? (fun j => decide (j.n = d.val)) = some j)) ∧
    (∃ (d : Fin 8) (s : State), (Safety.reachesBead s 15 (2 + d)) ∧ (s.dmas.find? (fun j => decide (j.n = d.val)) = none)) :=
  ⟨⟨1, 15, beadSt 15 1 [], by decide +kernel⟩,
    ⟨1, 16, beadSt 15 1 [], by decide +kernel⟩,
    ⟨1, ⟨1, 2, dflDesc, false⟩, { st [(I.PROXY 15, 0), (R.DFL_CFG_EN 1, 1), (R.DFL_HEAD_SLOT 1, 2), (R.DFL_TAIL_SLOT 1, 3)] with strg := utlStrg, tray := (List.range 64).filterMap (fun i => if (dflDesc).getD i 0 = 0 then none else some (256 + i, (dflDesc).getD i 0)) }, by decide +kernel⟩,
    ⟨1, ⟨1, 2, dflDesc.set 4 2, false⟩, { st [(I.PROXY 15, 0), (R.DFL_CFG_EN 1, 1), (R.DFL_HEAD_SLOT 1, 2), (R.DFL_TAIL_SLOT 1, 3)] with strg := utlStrg, tray := (List.range 64).filterMap (fun i => if (dflDesc.set 4 2).getD i 0 = 0 then none else some (256 + i, (dflDesc.set 4 2).getD i 0)) }, by decide +kernel⟩,
    ⟨1, ⟨1, 2, dflDesc.set 7 0, false⟩, { st [(I.PROXY 15, 0), (R.DFL_CFG_EN 1, 1), (R.DFL_HEAD_SLOT 1, 2), (R.DFL_TAIL_SLOT 1, 3), (I.DFL_REGION 0, 1)] with strg := utlStrg, tray := (List.range 64).filterMap (fun i => if (dflDesc.set 7 0).getD i 0 = 0 then none else some (256 + i, (dflDesc.set 7 0).getD i 0)) }, by decide +kernel⟩,
    ⟨1, st [(R.DFL_CFG_EN 1, 1)], by decide +kernel⟩,
    ⟨1, ⟨1, 15, dflDesc, true⟩, { st [(I.PROXY 15, 0), (R.DFL_STAT_STATE 1, 1), (R.DFL_HEAD_SLOT 1, 15)] with dfls := [⟨1, 15, dflDesc, true⟩] }, by decide +kernel⟩,
    ⟨1, ⟨1, 15, dflDesc, true⟩, { beadSt 15 1 [(R.DFL_CFG_EN 1, 1), (R.DFL_STAT_STATE 1, 1), (R.DFL_HEAD_SLOT 1, 15)] with dfls := [⟨1, 15, dflDesc, true⟩] }, by decide +kernel⟩,
    ⟨1, beadSt 15 1 [(R.DFL_CFG_EN 1, 1), (R.DFL_STAT_STATE 1, 2)], by decide +kernel⟩,
    ⟨7, 9, dmaDesc, { beadSt 15 9 [(R.DMA_CFG_EN 7, 1), (R.DMA_CFG_HEAD 7, 8)] with strg := { utlStrg with rods := [⟨15, 1, 1, [(9, 0)]⟩] }, tray := (List.range 32).filterMap (fun i => if dmaDesc.getD i 0 = 0 then none else some (57600 + i, dmaDesc.getD i 0)) }, by decide +kernel⟩,
    ⟨7, 9, beadSt 15 9 [], by decide +kernel⟩,
    ⟨7, true, [], ⟨7, 255, dmaDesc, false⟩, { st [(I.PROXY 15, 0)] with strg := utlStrg, dmas := [⟨7, 255, dmaDesc, false⟩] }, by decide +kernel⟩,
    ⟨7, false, [], ⟨7, 255, dmaDesc, false⟩, { st [(I.PROXY 15, 0)] with strg := utlStrg, dmas := [⟨7, 255, dmaDesc, false⟩] }, by decide +kernel⟩,
    ⟨7, ⟨7, 255, dmaDesc, false⟩, { beadSt 15 9 [(R.DMA_CFG_EN 7, 1)] with strg := { utlStrg with rods := [⟨15, 1, 1, [(9, 0)]⟩] }, dmas := [⟨7, 255, dmaDesc, false⟩] }, by decide +kernel⟩,
    ⟨7, beadSt 15 9 [(R.DMA_CFG_EN 7, 1)], by decide +kernel⟩⟩

theorem test_witness_mailboxes_and_events :
    (∃ (agent : Fin 6) (m : Fin 32) (n : Fin 16) (v : BitVec 32) (s : State), (s.on I.DEV = false) ∧ (agent.val = mbSender m)) ∧
    (∃ (agent : Fin 6) (m : Fin 32) (n : Fin 16) (v : BitVec 32) (s : State), (s.on I.DEV = false) ∧ (agent.val ≠ mbSender m)) ∧
    (∃ (agent : Fin 6) (m : Fin 32) (len : BitVec 5) (arm : Bool) (s : State), (s.on I.DEV = false) ∧ (agent.val = mbSender m) ∧ (mbLenOk len.toNat = true)) ∧
    (∃ (agent : Fin 6) (m : Fin 32) (len : BitVec 5) (arm : Bool) (s : State), (s.on I.DEV = false) ∧ (agent.val = mbSender m) ∧ (mbLenOk len.toNat = false)) ∧
    (∃ (agent : Fin 6) (m : Fin 32) (len : BitVec 5) (arm : Bool) (s : State), (agent.val ≠ mbSender m)) ∧
    (∃ (agent : Fin 6) (m : Fin 32) (len : BitVec 5) (s : State), (s.on I.DEV = false) ∧ (agent.val = mbSender m) ∧ (mbLenOk len.toNat = true)) ∧
    (∃ (agent : Fin 6) (m : Fin 32) (len : BitVec 5) (s : State), (s.on I.DEV = false) ∧ (agent.val = mbSender m) ∧ (mbLenOk len.toNat = false)) ∧
    (∃ (agent : Fin 6) (m : Fin 32) (len : BitVec 5) (s : State), (agent.val ≠ mbSender m)) ∧
    (∃ (agent : Fin 6) (m : Fin 32) (s : State), (s.on I.DEV = false) ∧ (agent.val = mbReceiver m) ∧ (s.on (R.MB_STAT_FULL m) = true)) ∧
    (∃ (agent : Fin 6) (m : Fin 32) (s : State), (agent.val ≠ mbReceiver m ∨ s.on (R.MB_STAT_FULL m) = false)) ∧
    (∃ (agent a : Fin 6) (hi : Bool) (v : BitVec 32) (s : State), (s.on I.DEV = false) ∧ (agent.val = 0 → 1 ≤ a.val ∧ a.val ≤ 4)) ∧
    (∃ (agent a : Fin 6) (hi : Bool) (v : BitVec 32) (s : State), (agent.val = 0 ∧ (a.val = 0 ∨ a.val = 5))) ∧
    (∃ (agent a : Fin 6) (hi : Bool) (v : BitVec 32) (s : State), (s.on I.DEV = false) ∧ (agent = a)) ∧
    (∃ (agent a : Fin 6) (hi : Bool) (v : BitVec 32) (s : State), (agent ≠ a)) ∧
    (∃ (p : Fin 8) (s : State), (s.secAsked p 1 = true)) ∧
    (∃ (p : Fin 8) (m a n : Nat) (s : State), (s.secAsked p 2 = true) ∧ (s.get (R.MB_DATA_D (2 * p) 1) = m) ∧ (s.get (R.MB_DATA_D (2 * p) 2) = a) ∧ (s.get (R.MB_DATA_D (2 * p) 3) = n) ∧ (m ≤ 3 ∧ 60 ≤ n ∧ n + 4 ≤ s.get (R.MAC_CFG_MAX_FRAME m) ∧ a + n ≤ trayBytes) ∧ ((granSpan a n).all (fun g => s.granted 0 g false) = true) ∧ (s.badWords a n = [])) ∧
    (∃ (p : Fin 8) (m a n : Nat) (s : State), (s.secAsked p 2 = true) ∧ (s.get (R.MB_DATA_D (2 * p) 1) = m) ∧ (s.get (R.MB_DATA_D (2 * p) 2) = a) ∧ (s.get (R.MB_DATA_D (2 * p) 3) = n) ∧ (3 < m ∨ n < 60 ∨ s.get (R.MAC_CFG_MAX_FRAME m) < n + 4 ∨ trayBytes < a + n ∨ (granSpan a n).any (fun g => !s.granted 0 g false) = true)) ∧
    (∃ (p : Fin 8) (m w g n : Nat) (s : State), (s.secAsked p 3 = true) ∧ (s.get (R.MB_DATA_D (2 * p) 1) = m) ∧ (s.get (R.MB_DATA_D (2 * p) 2) = w) ∧ (s.get (R.MB_DATA_D (2 * p) 3) = g) ∧ (s.get (R.MB_DATA_D (2 * p) 4) = n) ∧ (m ≤ 3 ∧ n ≠ 0 ∧ (w ≤ 65535 ∨ 2 ^ 31 ≤ w ∧ w ≤ 2 ^ 31 + 65535) ∧ g * granBytes + 2048 * n ≤ trayBytes) ∧ ((granSpan (g * granBytes) (2048 * n)).all s.hostVisible = true)) ∧
    (∃ (p : Fin 8) (m w g n : Nat) (s : State), (s.secAsked p 3 = true) ∧ (s.get (R.MB_DATA_D (2 * p) 1) = m) ∧ (s.get (R.MB_DATA_D (2 * p) 2) = w) ∧ (s.get (R.MB_DATA_D (2 * p) 3) = g) ∧ (s.get (R.MB_DATA_D (2 * p) 4) = n) ∧ (3 < m ∨ n = 0 ∨ 65535 < w ∧ w < 2 ^ 31 ∨ 2 ^ 31 + 65535 < w ∨ trayBytes < g * granBytes + 2048 * n ∨ (granSpan (g * granBytes) (2048 * n)).all s.hostVisible = false)) ∧
    (∃ (v : Fin 64) (s : State), (s.vecAsserted v = true)) ∧
    (∃ (e : FhEntry) (rest : List FhEntry) (s : State), (s.fhPend = e :: rest)) ∧
    (∃ (s : State), (s.fhPend = [])) ∧
    (∃ (rod : Fin 16) (r : ClogRec) (s : State), (s.clogQ.find? (fun r => decide (r.rod = rod.val)) = some r)) ∧
    (∃ (rod : Fin 16) (s : State), (s.clogQ.find? (fun r => decide (r.rod = rod.val)) = none)) :=
  ⟨⟨0, 14, 15, 0xFFFFFFFF, st [(R.MB_STAT_FULL 14, 1)], by decide +kernel⟩,
    ⟨1, 14, 15, 0xFFFFFFFF, st [], by decide +kernel⟩,
    ⟨0, 14, 16, true, st [(R.MB_STAT_SEQ 14, 65535), (I.AGENT_EPOCH 0, 5)], by decide +kernel⟩,
    ⟨0, 14, 7, true, st [], by decide +kernel⟩,
    ⟨5, 14, 7, true, st [], by decide +kernel⟩,
    ⟨0, 14, 16, st [], by decide +kernel⟩,
    ⟨0, 14, 17, st [], by decide +kernel⟩,
    ⟨5, 14, 17, st [], by decide +kernel⟩,
    ⟨0, 15, st [(R.MB_STAT_FULL 15, 1), (R.MB_STAT_SEQ 15, 7)], by decide +kernel⟩,
    ⟨0, 15, st [], by decide +kernel⟩,
    ⟨0, 4, true, 0x80000000, st [(R.DB_STAT_B 4 1, 1)], by decide +kernel⟩,
    ⟨0, 5, true, 1, st [], by decide +kernel⟩,
    ⟨4, 4, true, 0x80000000, st [(R.DB_STAT_B 4 1, 0x80000001)], by decide +kernel⟩,
    ⟨3, 4, true, 0x80000000, st [(R.DB_STAT_B 4 1, 0x80000001)], by decide +kernel⟩,
    ⟨7, st [(I.CORE_RUN 3, 1), (R.MB_STAT_FULL 14, 1), (R.MB_DATA_D 14 0, 0x01001234), (R.MB_DATA_D 14 3, 7)], by decide +kernel⟩,
    ⟨7, 3, 64, 60, { st [(I.PROXY 12, 0), (R.MAC_STAT_LINK 3, 1), (I.CORE_RUN 3, 1), (R.MB_STAT_FULL 14, 1), (R.MB_DATA_D 14 0, 0x02001234), (R.MB_DATA_D 14 1, 3), (R.MB_DATA_D 14 2, 64), (R.MB_DATA_D 14 3, 60)] with strg := { trays := [⟨1, 0, 1, 0, 4, 0xFFFF, 0xFFFF⟩] } }, by decide +kernel⟩,
    ⟨7, 4, 64, 60, st [(I.CORE_RUN 3, 1), (R.MB_STAT_FULL 14, 1), (R.MB_DATA_D 14 0, 0x02001234), (R.MB_DATA_D 14 1, 4), (R.MB_DATA_D 14 2, 64), (R.MB_DATA_D 14 3, 60)], by decide +kernel⟩,
    ⟨7, 3, 0x88F7, 1, 4, { st [(I.CORE_RUN 3, 1), (R.MB_STAT_FULL 14, 1), (R.MB_DATA_D 14 0, 0x03001234), (R.MB_DATA_D 14 1, 3), (R.MB_DATA_D 14 2, 0x88F7), (R.MB_DATA_D 14 3, 1), (R.MB_DATA_D 14 4, 4)] with strg := { trays := [⟨1, 0, 1, 0, 4, 0xFFFF, 0xFFFF⟩] } }, by decide +kernel⟩,
    ⟨7, 3, 0x88F7, 1, 0, st [(I.CORE_RUN 3, 1), (R.MB_STAT_FULL 14, 1), (R.MB_DATA_D 14 0, 0x03001234), (R.MB_DATA_D 14 1, 3), (R.MB_DATA_D 14 2, 0x88F7), (R.MB_DATA_D 14 3, 1)], by decide +kernel⟩,
    ⟨63, st [(R.EVT_STAT E.doorbell.1 E.doorbell.2, 1), (R.EVT_RT_ROUTE E.doorbell.1 E.doorbell.2, 0x20), (R.EVT_RT_VECTOR E.doorbell.1 E.doorbell.2, 63), (I.MSIX_TAB 63 3, 0)], by decide +kernel⟩,
    ⟨⟨43, 9⟩, [], { st [(R.FH_HEAD_NEXT, 255)] with fhPend := [⟨43, 9⟩] }, by decide +kernel⟩,
    ⟨st [], by decide +kernel⟩,
    ⟨15, ⟨15, 0, 11, 0, 9, 0, 5, 0⟩, { st [(R.CLOG_SEQ_NEXT_SEQ, 0xFFFFFFFF)] with clogQ := [⟨15, 0, 11, 0, 9, 0, 5, 0⟩] }, by decide +kernel⟩,
    ⟨15, st [], by decide +kernel⟩⟩

theorem test_witness_tokens_and_debug :
    (∃ (src : Option (Fin 8)) (s : State), (src = none) ∧ (s.tapMbx = true)) ∧
    (∃ (src : Option (Fin 8)) (p : Fin 8) (s : State), (src = some p) ∧ (s.secUp = true) ∧ (s.secAsked p 0x10 = true) ∧ (s.sec.op = none)) ∧
    (∃ (src : Option (Fin 8)) (p : Fin 8) (s : State), (src = some p) ∧ (s.secUp = true) ∧ (s.secAsked p 0x10 = true) ∧ (s.sec.op ≠ none)) ∧
    (∃ (src : Option (Fin 8)) (token : List Byte) (s : State), (src = none) ∧ (s.tapMbx = true) ∧ (tokenFor 0 token = true)) ∧
    (∃ (src : Option (Fin 8)) (token : List Byte) (p : Fin 8) (tok : List Byte) (s : State), (src = some p) ∧ (s.secUp = true) ∧ (s.secAsked p 0x11 = true) ∧ (s.sec.op = none) ∧ (s.tokenWaits p = tok) ∧ (s.get (R.MB_DATA_D (2 * p) 2) = tokenLen → (s.secRead (s.get (R.MB_DATA_D (2 * p) 1)) tokenLen).2.1 = 0) ∧ (tokenFor 0 tok = true)) ∧
    (∃ (src : Option (Fin 8)) (token : List Byte) (s : State), (src = none) ∧ (s.tapMbx = true) ∧ (tokenFor 1 token = true)) ∧
    (∃ (src : Option (Fin 8)) (token : List Byte) (p : Fin 8) (tok : List Byte) (s : State), (src = some p) ∧ (s.secUp = true) ∧ (s.secAsked p 0x11 = true) ∧ (s.sec.op = none) ∧ (s.tokenWaits p = tok) ∧ (s.get (R.MB_DATA_D (2 * p) 2) = tokenLen → (s.secRead (s.get (R.MB_DATA_D (2 * p) 1)) tokenLen).2.1 = 0) ∧ (tokenFor 1 tok = true)) ∧
    (∃ (src : Option (Fin 8)) (token : List Byte) (vpp : Bool) (s : State), (src = none) ∧ (s.tapMbx = true) ∧ (tokenFor 2 token = true)) ∧
    (∃ (src : Option (Fin 8)) (token : List Byte) (vpp : Bool) (p : Fin 8) (tok : List Byte) (s : State), (src = some p) ∧ (s.secUp = true) ∧ (s.secAsked p 0x11 = true) ∧ (s.sec.op = none) ∧ (s.tokenWaits p = tok) ∧ (s.get (R.MB_DATA_D (2 * p) 2) = tokenLen → (s.secRead (s.get (R.MB_DATA_D (2 * p) 1)) tokenLen).2.1 = 0) ∧ (tokenFor 2 tok = true)) ∧
    (∃ (src : Option (Fin 8)) (token : List Byte) (vpp : Bool) (s : State), (src = none) ∧ (s.tapMbx = true) ∧ (tokenFor 3 token = true)) ∧
    (∃ (src : Option (Fin 8)) (token : List Byte) (vpp : Bool) (p : Fin 8) (tok : List Byte) (s : State), (src = some p) ∧ (s.secUp = true) ∧ (s.secAsked p 0x11 = true) ∧ (s.sec.op = none) ∧ (s.tokenWaits p = tok) ∧ (s.get (R.MB_DATA_D (2 * p) 2) = tokenLen → (s.secRead (s.get (R.MB_DATA_D (2 * p) 1)) tokenLen).2.1 = 0) ∧ (tokenFor 3 tok = true)) ∧
    (∃ (src : Option (Fin 8)) (token : List Byte) (vpp : Bool) (s : State), (src = none) ∧ (s.tapMbx = true) ∧ (tokenFor 4 token = true)) ∧
    (∃ (src : Option (Fin 8)) (token : List Byte) (vpp : Bool) (p : Fin 8) (tok : List Byte) (s : State), (src = some p) ∧ (s.secUp = true) ∧ (s.secAsked p 0x11 = true) ∧ (s.sec.op = none) ∧ (s.tokenWaits p = tok) ∧ (s.get (R.MB_DATA_D (2 * p) 2) = tokenLen → (s.secRead (s.get (R.MB_DATA_D (2 * p) 1)) tokenLen).2.1 = 0) ∧ (tokenFor 4 tok = true)) ∧
    (∃ (o : SecOp) (s : State), (s.sec.op = some o) ∧ (o.svc = 0x11 ∧ o.kind = 1)) ∧
    (∃ (p : Fin 8) (s : State), (s.secUp = true) ∧ (s.secAsked p 0x17 = true) ∧ (s.sec.op = none)) ∧
    (∃ (op : Byte) (s : State), (s.get I.DEV = 0) ∧ (tapOps.contains op.toNat = true) ∧ (s.tapAllowed op.toNat = true)) ∧
    (∃ (op : Byte) (s : State), (s.get I.DEV = 0) ∧ (tapOps.contains op.toNat = true) ∧ (s.tapAllowed op.toNat = false)) ∧
    (∃ (op : Byte) (s : State), (s.get I.DEV = 0) ∧ (tapOps.contains op.toNat = false)) ∧
    (∃ (op : Byte) (s : State), (s.get I.DEV ≠ 0)) ∧
    (∃ (acc : DapAccess) (a : BitVec 22) (w : Option (BitVec 32)) (s : State), (acc = .keep a w) ∧ (s.get I.DEV = 0) ∧ (s.get I.JTAG_IR = 0x11) ∧ (s.get I.DEBUG = 2) ∧ (a.toNat % 4 = 0)) ∧
    (∃ (acc : DapAccess) (a : BitVec 26) (w : Option (BitVec 32)) (s : State), (acc = .tray a w) ∧ (s.get I.DEV = 0) ∧ (s.get I.JTAG_IR = 0x11) ∧ (s.get I.DEBUG ≠ 0) ∧ (a.toNat % 4 = 0)) ∧
    (∃ (acc : DapAccess) (a : BitVec 25) (w : Option (BitVec 32)) (s : State), (acc = .bar0 a w) ∧ (s.get I.DEV = 0) ∧ (s.get I.JTAG_IR = 0x11) ∧ (s.get I.DEBUG ≠ 0)) ∧
    (∃ (acc : DapAccess) (k : Fin 5) (a : BitVec 32) (w : Option (BitVec 32)) (s : State), (acc = .core k a w)) ∧
    (∃ (acc : DapAccess) (s : State), (s.get I.DEV ≠ 0 ∨ s.get I.JTAG_IR ≠ 0x11 ∨ s.get I.DEBUG = 0)) :=
  ⟨⟨none, st [(I.BOOT_STEP, 1), (I.JTAG_IR, 0x10)], by decide +kernel⟩,
    ⟨some 7, 7, { st [(I.BOOT_STEP, 1), (I.CORE_RUN 3, 1), (R.MB_STAT_FULL 14, 1), (R.MB_DATA_D 14 0, 0x10001234)] with sec := { challenge := List.replicate 32 7 } }, by decide +kernel⟩,
    ⟨some 7, 7, { st [(I.BOOT_STEP, 1), (I.CORE_RUN 3, 1), (R.MB_STAT_FULL 14, 1), (R.MB_DATA_D 14 0, 0x10001234)] with sec := { op := some ⟨0x14, 0, none, 0, [], [], 0, true, 0, [], 0⟩ } }, by decide +kernel⟩,
    ⟨none, [], st [(I.BOOT_STEP, 1), (I.JTAG_IR, 0x10)], by decide +kernel⟩,
    ⟨some 7, [], 7, [], st [(I.BOOT_STEP, 1), (I.CORE_RUN 3, 1), (R.MB_STAT_FULL 14, 1), (R.MB_DATA_D 14 0, 0x11001234)], by decide +kernel⟩,
    ⟨none, [], st [(I.BOOT_STEP, 1), (I.JTAG_IR, 0x10)], by decide +kernel⟩,
    ⟨some 7, [], 7, [], st [(I.BOOT_STEP, 1), (I.CORE_RUN 3, 1), (R.MB_STAT_FULL 14, 1), (R.MB_DATA_D 14 0, 0x11001234)], by decide +kernel⟩,
    ⟨none, [], true, st [(I.BOOT_STEP, 1), (I.JTAG_IR, 0x10)], by decide +kernel⟩,
    ⟨some 7, [], true, 7, [], st [(I.BOOT_STEP, 1), (I.CORE_RUN 3, 1), (R.MB_STAT_FULL 14, 1), (R.MB_DATA_D 14 0, 0x11001234)], by decide +kernel⟩,
    ⟨none, [], true, st [(I.BOOT_STEP, 1), (I.JTAG_IR, 0x10)], by decide +kernel⟩,
    ⟨some 7, [], true, 7, [], st [(I.BOOT_STEP, 1), (I.CORE_RUN 3, 1), (R.MB_STAT_FULL 14, 1), (R.MB_DATA_D 14 0, 0x11001234)], by decide +kernel⟩,
    ⟨none, [], true, st [(I.BOOT_STEP, 1), (I.JTAG_IR, 0x10)], by decide +kernel⟩,
    ⟨some 7, [], true, 7, [], st [(I.BOOT_STEP, 1), (I.CORE_RUN 3, 1), (R.MB_STAT_FULL 14, 1), (R.MB_DATA_D 14 0, 0x11001234)], by decide +kernel⟩,
    ⟨⟨0x11, 1, none, 0, [], [], 0, false, 0, [], 0⟩, { st [] with sec := { op := some ⟨0x11, 1, none, 0, [], [], 0, false, 0, [], 0⟩ }, tray := [(9, 9)], dram := [(9, 9)], keep := [(0x44000, 1)] }, by decide +kernel⟩,
    ⟨7, st [(I.DEBUG, 1), (I.BOOT_STEP, 1), (I.CORE_RUN 3, 1), (R.MB_STAT_FULL 14, 1), (R.MB_DATA_D 14 0, 0x17001234)], by decide +kernel⟩,
    ⟨0x11, st [(I.DEBUG, 1)], by decide +kernel⟩,
    ⟨3, { st [(R.LN_STAT_STATE 10 0, 4)] with fuses := { life := 3 } }, by decide +kernel⟩,
    ⟨0x55, st [], by decide +kernel⟩,
    ⟨0x11, st [(I.DEV, 6)], by decide +kernel⟩,
    ⟨.keep 0x1000 none, 0x1000, none, st [(I.DEBUG, 2), (I.JTAG_IR, 0x11)], by decide +kernel⟩,
    ⟨.tray 0x100 none, 0x100, none, { st [(I.DEBUG, 1), (I.JTAG_IR, 0x11)] with strg := { trays := [⟨1, 0, 1, 0, 4, 0xFFFF, 0xFFFF⟩] } }, by decide +kernel⟩,
    ⟨.bar0 2 none, 2, none, st [(I.DEBUG, 1), (I.JTAG_IR, 0x11)], by decide +kernel⟩,
    ⟨.core 4 16 none, 4, 16, none, st [(I.DEBUG, 1), (I.JTAG_IR, 0x11)], by decide +kernel⟩,
    ⟨.tray 0 none, st [], by decide +kernel⟩⟩

theorem test_witness_secure_services :
    (∃ (p : Fin 8) (a b seq leaf : Nat) (s : State), (s.secUp = true) ∧ (s.secAsked p 0x12 = true) ∧ (s.sec.op = none) ∧ (s.get (R.MB_DATA_D (2 * p) 9) = a) ∧ (a % 4096 = 0) ∧ (s.secVisible a 4096 = true) ∧ (s.get I.DEBUG ≠ 2) ∧ (s.sec.last.all (fun x => decide (x + 60 * tSec ≤ s.up)) = true) ∧ (s.lmsState = some (b, seq, leaf)) ∧ (leaf < lmsLeaves)) ∧
    (∃ (p : Fin 8) (a : Nat) (s : State), (s.secUp = true) ∧ (s.secAsked p 0x12 = true) ∧ (s.sec.op = none) ∧ (s.get (R.MB_DATA_D (2 * p) 9) = a) ∧ (a % 4096 = 0) ∧ (s.secVisible a 4096 = true) ∧ (s.get I.DEBUG = 2)) ∧
    (∃ (p : Fin 8) (a : Nat) (s : State), (s.secUp = true) ∧ (s.secAsked p 0x12 = true) ∧ (s.sec.op = none) ∧ (s.get (R.MB_DATA_D (2 * p) 9) = a) ∧ (a % 4096 ≠ 0 ∨ s.secVisible a 4096 = false)) ∧
    (∃ (p : Fin 8) (a : Nat) (s : State), (s.secUp = true) ∧ (s.secAsked p 0x12 = true) ∧ (s.sec.op = none) ∧ (s.get (R.MB_DATA_D (2 * p) 9) = a) ∧ (a % 4096 = 0) ∧ (s.secVisible a 4096 = true) ∧ (s.get I.DEBUG ≠ 2) ∧ (s.sec.last.any (fun x => decide (s.up < x + 60 * tSec)) = true)) ∧
    (∃ (p : Fin 8) (a : Nat) (s : State), (s.secUp = true) ∧ (s.secAsked p 0x13 = true) ∧ (s.sec.op = none) ∧ (s.get (R.MB_DATA_D (2 * p) 1) = a) ∧ (s.secVisible a 157 = true) ∧ (s.strung = true → (granSpan a 157).all (fun g => s.granted 0 g true) = true) ∧ (s.get I.DEBUG ≠ 2)) ∧
    (∃ (p : Fin 8) (a : Nat) (s : State), (s.secUp = true) ∧ (s.secAsked p 0x13 = true) ∧ (s.sec.op = none) ∧ (s.get (R.MB_DATA_D (2 * p) 1) = a) ∧ (s.secVisible a 157 = false ∨ s.get I.DEBUG = 2)) ∧
    (∃ (p : Fin 8) (vpp : Bool) (a n : Nat) (s : State), (s.secUp = true) ∧ (s.secAsked p 0x14 = true) ∧ (s.sec.op = none) ∧ (s.get (R.MB_DATA_D (2 * p) 1) = a) ∧ (s.get (R.MB_DATA_D (2 * p) 2) = n) ∧ (1 ≤ n ∧ n ≤ 4) ∧ ((s.secRead a (48 * n)).2.1 = 0) ∧ (s.fuses.lifecycle = 0) ∧ (vpp = true)) ∧
    (∃ (p : Fin 8) (vpp : Bool) (a n : Nat) (s : State), (s.secUp = true) ∧ (s.secAsked p 0x14 = true) ∧ (s.sec.op = none) ∧ (s.get (R.MB_DATA_D (2 * p) 1) = a) ∧ (s.get (R.MB_DATA_D (2 * p) 2) = n) ∧ (1 ≤ n ∧ n ≤ 4) ∧ ((s.secRead a (48 * n)).2.1 = 0) ∧ (s.fuses.lifecycle ≠ 0 ∨ vpp = false)) ∧
    (∃ (p : Fin 8) (vpp : Bool) (a n : Nat) (s : State), (s.secUp = true) ∧ (s.secAsked p 0x14 = true) ∧ (s.sec.op = none) ∧ (s.get (R.MB_DATA_D (2 * p) 1) = a) ∧ (s.get (R.MB_DATA_D (2 * p) 2) = n) ∧ (n = 0 ∨ 4 < n ∨ (s.secRead a (48 * n)).2.1 ≠ 0)) ∧
    (∃ (p : Fin 8) (vpp : Bool) (s : State), (s.secUp = true) ∧ (s.secAsked p 0x15 = true) ∧ (s.sec.op = none) ∧ (s.get (R.MB_DATA_D (2 * p) 1) = 0x4445504C) ∧ (s.fuses.lifecycle = 1) ∧ (vpp = true)) ∧
    (∃ (p : Fin 8) (vpp : Bool) (s : State), (s.secUp = true) ∧ (s.secAsked p 0x15 = true) ∧ (s.sec.op = none) ∧ (s.get (R.MB_DATA_D (2 * p) 1) = 0x4445504C) ∧ (s.fuses.lifecycle ≠ 1 ∨ vpp = false)) ∧
    (∃ (p : Fin 8) (vpp : Bool) (s : State), (s.secUp = true) ∧ (s.secAsked p 0x15 = true) ∧ (s.sec.op = none) ∧ (s.get (R.MB_DATA_D (2 * p) 1) ≠ 0x4445504C)) ∧
    (∃ (p : Fin 8) (vpp : Bool) (root : Nat) (s : State), (s.secUp = true) ∧ (s.secAsked p 0x16 = true) ∧ (s.sec.op = none) ∧ (s.get (R.MB_DATA_D (2 * p) 1) = root) ∧ (root ≤ 1) ∧ (s.fuses.lifecycle = 1 ∨ s.fuses.lifecycle = 2) ∧ (vpp = true ∨ (if s.svnTarget root ≤ svnOf (if root = 0 then s.fuses.lsvn else s.fuses.csvn) then [] else svnBurns root (if root = 0 then s.fuses.lsvn else s.fuses.csvn) (s.svnTarget root)) = [])) ∧
    (∃ (p : Fin 8) (vpp : Bool) (root : Nat) (s : State), (s.secUp = true) ∧ (s.secAsked p 0x16 = true) ∧ (s.sec.op = none) ∧ (s.get (R.MB_DATA_D (2 * p) 1) = root) ∧ (root ≤ 1) ∧ (s.fuses.lifecycle = 0 ∨ s.fuses.lifecycle = 3 ∨ vpp = false ∧ (if s.svnTarget root ≤ svnOf (if root = 0 then s.fuses.lsvn else s.fuses.csvn) then [] else svnBurns root (if root = 0 then s.fuses.lsvn else s.fuses.csvn) (s.svnTarget root)) ≠ [])) ∧
    (∃ (p : Fin 8) (vpp : Bool) (root : Nat) (s : State), (s.secUp = true) ∧ (s.secAsked p 0x16 = true) ∧ (s.sec.op = none) ∧ (s.get (R.MB_DATA_D (2 * p) 1) = root) ∧ (1 < root)) ∧
    (∃ (o : SecOp) (s : State), (s.sec.op = some o) ∧ (o.svc = 0x14 ∨ o.svc = 0x16) ∧ ((s.burnSettle 5 o).burns = [])) ∧
    (∃ (o : SecOp) (s : State), (s.sec.op = some o) ∧ (o.svc = 0x14 ∨ o.svc = 0x16) ∧ ((s.burnSettle 5 o).burns ≠ [])) ∧
    (∃ (o : SecOp) (s : State), (s.sec.op = some o) ∧ (o.svc = 0x12 ∧ o.burns = [] ∧ o.slots = []) ∧ (s.secVisible o.addr 4096 = true) ∧ (s.strung = true → (granSpan o.addr 4096).all (fun g => s.granted 0 g true) = true)) ∧
    (∃ (s : State), (s.sec.op.all (fun o => !longService o.svc) = true)) ∧
    (∃ (ok : Bool) (o : SecOp) (e : Nat × Nat) (rest : List (Nat × Nat)) (s : State), (s.sec.op = some o) ∧ (o.burns = e :: rest)) ∧
    (∃ (ok : Bool) (s : State), (s.sec.op.all (fun o => o.burns.isEmpty) = true)) ∧
    (∃ (s : State), (s.secUp = true)) :=
  ⟨⟨7, 4096, 0, 0, 0, { st [(I.BOOT_STEP, 1), (I.CORE_RUN 3, 1), (R.MB_STAT_FULL 14, 1), (R.MB_DATA_D 14 0, 0x12001234), (R.MB_DATA_D 14 9, 4096)] with up := 5 }, by decide +kernel⟩,
    ⟨7, 4096, { st [(I.BOOT_STEP, 1), (I.CORE_RUN 3, 1), (R.MB_STAT_FULL 14, 1), (R.MB_DATA_D 14 0, 0x12001234), (R.MB_DATA_D 14 9, 4096), (I.DEBUG, 2)] with up := 5 }, by decide +kernel⟩,
    ⟨7, 64, { st [(I.BOOT_STEP, 1), (I.CORE_RUN 3, 1), (R.MB_STAT_FULL 14, 1), (R.MB_DATA_D 14 0, 0x12001234), (R.MB_DATA_D 14 9, 64)] with up := 5 }, by decide +kernel⟩,
    ⟨7, 4096, { st [(I.BOOT_STEP, 1), (I.CORE_RUN 3, 1), (R.MB_STAT_FULL 14, 1), (R.MB_DATA_D 14 0, 0x12001234), (R.MB_DATA_D 14 9, 4096)] with up := 5, sec := { last := some 4 } }, by decide +kernel⟩,
    ⟨7, 4095, st [(I.BOOT_STEP, 1), (I.CORE_RUN 3, 1), (R.MB_STAT_FULL 14, 1), (R.MB_DATA_D 14 0, 0x13001234), (R.MB_DATA_D 14 1, 4095)], by decide +kernel⟩,
    ⟨7, 4095, st [(I.DEBUG, 2), (I.BOOT_STEP, 1), (I.CORE_RUN 3, 1), (R.MB_STAT_FULL 14, 1), (R.MB_DATA_D 14 0, 0x13001234), (R.MB_DATA_D 14 1, 4095)], by decide +kernel⟩,
    ⟨7, true, 4096, 2, { st [(I.BOOT_STEP, 1), (I.CORE_RUN 3, 1), (R.MB_STAT_FULL 14, 1), (R.MB_DATA_D 14 0, 0x14001234), (R.MB_DATA_D 14 1, 4096), (R.MB_DATA_D 14 2, 2)] with tray := [(4096, 5)] }, by decide +kernel⟩,
    ⟨7, false, 4096, 2, { st [(I.BOOT_STEP, 1), (I.CORE_RUN 3, 1), (R.MB_STAT_FULL 14, 1), (R.MB_DATA_D 14 0, 0x14001234), (R.MB_DATA_D 14 1, 4096), (R.MB_DATA_D 14 2, 2)] with tray := [(4096, 5)] }, by decide +kernel⟩,
    ⟨7, true, 4096, 5, st [(I.BOOT_STEP, 1), (I.CORE_RUN 3, 1), (R.MB_STAT_FULL 14, 1), (R.MB_DATA_D 14 0, 0x14001234), (R.MB_DATA_D 14 1, 4096), (R.MB_DATA_D 14 2, 5)], by decide +kernel⟩,
    ⟨7, true, { st [(I.BOOT_STEP, 1), (I.CORE_RUN 3, 1), (R.MB_STAT_FULL 14, 1), (R.MB_DATA_D 14 0, 0x15001234), (R.MB_DATA_D 14 1, 0x4445504C)] with fuses := { life := 1 } }, by decide +kernel⟩,
    ⟨7, false, { st [(I.BOOT_STEP, 1), (I.CORE_RUN 3, 1), (R.MB_STAT_FULL 14, 1), (R.MB_DATA_D 14 0, 0x15001234), (R.MB_DATA_D 14 1, 0x4445504C)] with fuses := { life := 1 } }, by decide +kernel⟩,
    ⟨7, true, st [(I.BOOT_STEP, 1), (I.CORE_RUN 3, 1), (R.MB_STAT_FULL 14, 1), (R.MB_DATA_D 14 0, 0x15001234)], by decide +kernel⟩,
    ⟨7, true, 0, { st [(I.BOOT_STEP, 1), (R.FW_STAT_SVN, 3), (I.CORE_RUN 3, 1), (R.MB_STAT_FULL 14, 1), (R.MB_DATA_D 14 0, 0x16001234)] with fuses := { life := 1, lsvn := 1 } }, by decide +kernel⟩,
    ⟨7, true, 0, { st [(I.BOOT_STEP, 1), (R.FW_STAT_SVN, 3), (I.CORE_RUN 3, 1), (R.MB_STAT_FULL 14, 1), (R.MB_DATA_D 14 0, 0x16001234)] with fuses := { life := 0, lsvn := 1 } }, by decide +kernel⟩,
    ⟨7, true, 2, st [(I.BOOT_STEP, 1), (I.CORE_RUN 3, 1), (R.MB_STAT_FULL 14, 1), (R.MB_DATA_D 14 0, 0x16001234), (R.MB_DATA_D 14 1, 2)], by decide +kernel⟩,
    ⟨⟨0x14, 0, none, 0, [], [], 0, true, 0, [], 0⟩, { st [] with sec := { op := some ⟨0x14, 0, none, 0, [], [], 0, true, 0, [], 0⟩ } }, by decide +kernel⟩,
    ⟨⟨0x14, 0, none, 0, [(96, 8)], [], 0, true, 0, [], 0⟩, { st [] with sec := { op := some ⟨0x14, 0, none, 0, [(96, 8)], [], 0, true, 0, [], 0⟩ } }, by decide +kernel⟩,
    ⟨⟨0x12, 0, none, 0, [], [], 0, false, 4096, [], 0⟩, { st [] with sec := { op := some ⟨0x12, 0, none, 0, [], [], 0, false, 4096, [], 0⟩ } }, by decide +kernel⟩,
    ⟨st [], by decide +kernel⟩,
    ⟨true, ⟨0x11, 4, none, 0, [(96, 10)], [], 0, false, 0, [], 0⟩, (96, 10), [], { st [] with sec := { op := some ⟨0x11, 4, none, 0, [(96, 10)], [], 0, false, 0, [], 0⟩ } }, by decide +kernel⟩,
    ⟨true, st [], by decide +kernel⟩,
    ⟨{ st [(I.BOOT_STEP, 1)] with sec := { op := some ⟨0x14, 0, none, 0, [], [], 0, true, 0, [], 0⟩ } }, by decide +kernel⟩⟩

theorem test_witness_power_states :
    (∃ (wake : BitVec 5) (s : State), (Safety.reaches s 0) ∧ (wake.toNat < 16 ∨ wake.toNat = 31) ∧ (s.pwrAllowed pwHold = true) ∧ (s.pwrBusy = false)) ∧
    (∃ (wake : BitVec 5) (s : State), (Safety.reaches s 0) ∧ (wake.toNat < 16 ∨ wake.toNat = 31) ∧ (s.pwrAllowed pwHold = true) ∧ (s.pwrBusy = true)) ∧
    (∃ (wake : BitVec 5) (s : State), (Safety.reaches s 0) ∧ (wake.toNat < 16 ∨ wake.toNat = 31) ∧ (s.pwrAllowed pwHold = false)) ∧
    (∃ (wake : BitVec 5) (s : State), (Safety.reaches s 0) ∧ (16 ≤ wake.toNat ∧ wake.toNat ≤ 30)) ∧
    (∃ (wake : BitVec 5) (s : State), (Safety.reaches s 0) ∧ (wake.toNat < 16 ∨ wake.toNat = 31) ∧ (s.pwrAllowed pwDoze = true) ∧ (s.pwrBusy = false)) ∧
    (∃ (wake : BitVec 5) (s : State), (Safety.reaches s 0) ∧ (wake.toNat < 16 ∨ wake.toNat = 31) ∧ (s.pwrAllowed pwDoze = true) ∧ (s.pwrBusy = true)) ∧
    (∃ (wake : BitVec 5) (s : State), (Safety.reaches s 0) ∧ (wake.toNat < 16 ∨ wake.toNat = 31) ∧ (s.pwrAllowed pwDoze = false)) ∧
    (∃ (wake : BitVec 5) (s : State), (Safety.reaches s 0) ∧ (16 ≤ wake.toNat ∧ wake.toNat ≤ 30)) ∧
    (∃ (wake : BitVec 5) (s : State), (Safety.reaches s 0) ∧ (wake.toNat < 16 ∨ wake.toNat = 31) ∧ (s.pwrAllowed pwOff = true) ∧ (s.pwrBusy = false)) ∧
    (∃ (wake : BitVec 5) (s : State), (Safety.reaches s 0) ∧ (wake.toNat < 16 ∨ wake.toNat = 31) ∧ (s.pwrAllowed pwOff = true) ∧ (s.pwrBusy = true)) ∧
    (∃ (wake : BitVec 5) (s : State), (Safety.reaches s 0) ∧ (wake.toNat < 16 ∨ wake.toNat = 31) ∧ (s.pwrAllowed pwOff = false)) ∧
    (∃ (wake : BitVec 5) (s : State), (Safety.reaches s 0) ∧ (16 ≤ wake.toNat ∧ wake.toNat ≤ 30)) ∧
    (∃ (wake : BitVec 5) (s : State), (Safety.reaches s 0) ∧ (wake.toNat < 16 ∨ wake.toNat = 31) ∧ (s.pwrAllowed pwRun = true) ∧ (s.pwrBusy = false)) ∧
    (∃ (wake : BitVec 5) (s : State), (Safety.reaches s 0) ∧ (wake.toNat < 16 ∨ wake.toNat = 31) ∧ (s.pwrAllowed pwRun = true) ∧ (s.pwrBusy = true)) ∧
    (∃ (wake : BitVec 5) (s : State), (Safety.reaches s 0) ∧ (wake.toNat < 16 ∨ wake.toNat = 31) ∧ (s.pwrAllowed pwRun = false)) ∧
    (∃ (wake : BitVec 5) (s : State), (Safety.reaches s 0) ∧ (16 ≤ wake.toNat ∧ wake.toNat ≤ 30)) ∧
    (∃ (r : Fin 16) (s : State), (s.get R.PWR_STAT_STATE = pwEntering) ∧ (s.get R.PWR_STAT_TARGET = pwHold) ∧ (s.pwrDrained = true)) ∧
    (∃ (s : State), (s.get R.PWR_STAT_STATE = pwEntering) ∧ (s.get R.PWR_STAT_TARGET = pwDoze) ∧ (s.pwrDrained = true)) ∧
    (∃ (s : State), (s.get R.PWR_STAT_STATE = pwEntering) ∧ (s.get R.PWR_STAT_TARGET = pwOff) ∧ (s.pwrDrained = true)) ∧
    (∃ (s : State), (s.get R.PWR_STAT_STATE ≠ pwEntering ∨ s.pwrDrained = false)) ∧
    (∃ (s : State), (s.get R.PWR_STAT_STATE = pwEntering) ∧ (s.pwrDrained = false)) ∧
    (∃ (s : State), (s.get R.PWR_STAT_STATE ≠ pwEntering ∨ s.pwrDrained = true)) ∧
    (∃ (s : State), (s.get R.PWR_STAT_STATE = pwLeaving) ∧ (s.on (I.PWR_ON 14) = false)) ∧
    (∃ (ch : Fin 8) (sp : Nat) (s : State), (s.get (R.CH_STAT_STATE ch) = 4) ∧ (s.get (I.CH_CHANGE ch) = sp + 1) ∧ (sp ≤ 3)) ∧
    (∃ (obj : List Byte) (s : State), (s.on R.PWR_STAT_IMAGE_WAIT = true) ∧ (sha384 (obj.take (parseHdr obj).sigOffset) = s.imageDigest)) ∧
    (∃ (obj : List Byte) (s : State), (s.on R.PWR_STAT_IMAGE_WAIT = true) ∧ (sha384 (obj.take (parseHdr obj).sigOffset) ≠ s.imageDigest)) ∧
    (∃ (obj : List Byte) (s : State), (s.on R.PWR_STAT_IMAGE_WAIT = false)) :=
  ⟨⟨15, { st [(R.PWR_STAT_STATE, 0)] with fuses := { life := 1 }, strung := true }, by decide +kernel⟩,
    ⟨31, { st [(R.PATCH_STAT_STATE, 2), (R.PWR_STAT_STATE, 0)] with fuses := { life := 1 }, strung := true }, by decide +kernel⟩,
    ⟨15, st [(R.PWR_STAT_STATE, 4)], by decide +kernel⟩,
    ⟨30, { st [(R.PWR_STAT_STATE, 0)] with fuses := { life := 1 }, strung := true }, by decide +kernel⟩,
    ⟨15, { st [(R.PWR_STAT_STATE, 0)] with fuses := { life := 1 }, strung := true }, by decide +kernel⟩,
    ⟨31, { st [(R.PATCH_STAT_STATE, 2), (R.PWR_STAT_STATE, 0)] with fuses := { life := 1 }, strung := true }, by decide +kernel⟩,
    ⟨15, st [(R.PWR_STAT_STATE, 4)], by decide +kernel⟩,
    ⟨30, { st [(R.PWR_STAT_STATE, 0)] with fuses := { life := 1 }, strung := true }, by decide +kernel⟩,
    ⟨15, { st [(R.PWR_STAT_STATE, 1)] with fuses := { life := 1 }, strung := true }, by decide +kernel⟩,
    ⟨31, { st [(R.PATCH_STAT_STATE, 2), (R.PWR_STAT_STATE, 1)] with fuses := { life := 1 }, strung := true }, by decide +kernel⟩,
    ⟨15, st [(R.PWR_STAT_STATE, 4)], by decide +kernel⟩,
    ⟨30, { st [(R.PWR_STAT_STATE, 1)] with fuses := { life := 1 }, strung := true }, by decide +kernel⟩,
    ⟨15, { st [(R.PWR_STAT_STATE, 1)] with fuses := { life := 1 }, strung := true }, by decide +kernel⟩,
    ⟨31, { st [(R.PATCH_STAT_STATE, 2), (R.PWR_STAT_STATE, 1)] with fuses := { life := 1 }, strung := true }, by decide +kernel⟩,
    ⟨15, st [(R.PWR_STAT_STATE, 4)], by decide +kernel⟩,
    ⟨30, { st [(R.PWR_STAT_STATE, 1)] with fuses := { life := 1 }, strung := true }, by decide +kernel⟩,
    ⟨2, st [(I.PROXY 2, 0), (R.PWR_STAT_STATE, 4), (R.PWR_STAT_TARGET, 1), (I.PWR_MASK, 4)], by decide +kernel⟩,
    ⟨st [(R.PWR_STAT_STATE, 4), (R.PWR_STAT_TARGET, 2)], by decide +kernel⟩,
    ⟨st [(R.PWR_STAT_STATE, 4), (R.PWR_STAT_TARGET, 3), (R.POWER_ON_COUNT, 7)], by decide +kernel⟩,
    ⟨st [], by decide +kernel⟩,
    ⟨{ st [(I.PROXY 11, 0), (R.PWR_STAT_STATE, 4), (R.PWR_STAT_TARGET, 1), (I.PWR_MASK, 0x800)] with jobs := [⟨11, 0, 8, 0, 0⟩] }, by decide +kernel⟩,
    ⟨st [], by decide +kernel⟩,
    ⟨st [(R.PWR_STAT_STATE, 5)], by decide +kernel⟩,
    ⟨7, 3, { st [(R.CH_STAT_STATE 7, 4), (I.CH_CHANGE 7, 4)] with strg := { clocks := [⟨2, 7, 0, 3, 400000000, 1⟩] } }, by decide +kernel⟩,
    ⟨[], st ((R.PWR_STAT_IMAGE_WAIT, 1) :: (R.PWR_STAT_STATE, 5) :: (List.range 12).map (fun k => (R.DIGEST_D k, fieldLE (sha384 []) (4 * k) 4))), by decide +kernel⟩,
    ⟨[], st [(R.PWR_STAT_IMAGE_WAIT, 1), (R.PWR_STAT_STATE, 5)], by decide +kernel⟩,
    ⟨[], st [], by decide +kernel⟩⟩

theorem test_witness_thermal_control :
    (∃ (l : List TempSample) (x : TempSample) (l' : List TempSample) (s : State), (l = x :: l') ∧ (l'.length ≤ 20) ∧ (s.thmOn = true) ∧ ((List.range 3).all (fun v => decide (s.get (I.V_HOT v) = 0 ∧ s.get (I.V_BROKEN v) = 0 ∧ signed 16 (s.get (I.V_T v)) ≤ tShut)) = true) ∧ (bit (s.get R.THM_BROKEN_S) 0 = false) ∧ (tLow ≤ x.t.toInt ∧ x.t.toInt ≤ tHigh) ∧ (24 ≤ x.diff.toInt ∧ x.diff.toInt ≤ 40)) ∧
    (∃ (l : List TempSample) (v : Fin 3) (x : TempSample) (s : State), (l[21 + v.val]? = some x) ∧ (s.voterOn = true) ∧ (s.get (I.V_BROKEN v) = 0) ∧ (tLow ≤ x.t.toInt ∧ x.t.toInt ≤ tHigh) ∧ (24 ≤ x.diff.toInt ∧ x.diff.toInt ≤ 40)) ∧
    (∃ (l : List TempSample) (s : State), (l.length ≤ 21) ∧ (s.voterOn = true) ∧ (s.get I.DEV ≠ 8 ∧ s.get I.DEV ≠ 11) ∧ (s.get (I.V_HOT 0) = 1 ∧ s.get (I.V_HOT 1) = 1) ∧ (s.get (I.V_BROKEN 0) = 0 ∧ s.get (I.V_BROKEN 1) = 0) ∧ (tShut - voterHyst ≤ signed 16 (s.get (I.V_T 0)) ∧ tShut - voterHyst ≤ signed 16 (s.get (I.V_T 1)))) ∧
    (∃ (l : List TempSample) (s : State), (s.thmOn = false) ∧ (s.voterOn = false)) ∧
    (∃ (n : Fin 24) (s : State), (s.thmOn = true) ∧ (n.val < firstVoter) ∧ (s.sensBroken n = false)) ∧
    (∃ (n : Fin 24) (v : Fin 3) (s : State), (n.val = firstVoter + v.val) ∧ (s.voterOn = true) ∧ (s.sensBroken n = false)) ∧
    (∃ (n : Fin 24) (s : State), (n.val < firstVoter) ∧ (s.thmOn = false ∨ s.sensBroken n = true)) ∧
    (∃ (n : Fin 24) (s : State), (firstVoter ≤ n.val) ∧ (s.voterOn = false)) ∧
    (∃ (s : State), (s.thmOn = true) ∧ (s.get R.THM_STAT_GRACE = 1) ∧ (s.get R.THM_STAT_REQ = 1) ∧ (s.get R.THM_STAT_STEP = 0) ∧ (1 ≤ s.get I.THM_MAX_L)) ∧
    (∃ (s : State), (s.thmOn = true) ∧ (s.get R.THM_STAT_GRACE = 1) ∧ (s.get R.THM_STAT_REQ = 0 ∨ s.get I.THM_MAX_L = 0)) ∧
    (∃ (s : State), (s.thmOn = false ∨ s.get R.THM_STAT_GRACE = 0)) ∧
    (∃ (s : State), (s.thmOn = true) ∧ (s.get R.THM_STAT_REQ = 1) ∧ (1 ≤ s.get R.THM_STAT_STEP) ∧ (s.get R.THM_STAT_STEP < s.get I.THM_MAX_L) ∧ (s.get I.THM_MAX_L ≤ 4)) ∧
    (∃ (s : State), (s.thmOn = true) ∧ (s.get R.THM_STAT_REQ = 0) ∧ (1 ≤ s.get R.THM_STAT_STEP) ∧ (s.get R.THM_STAT_STEP ≤ 4)) ∧
    (∃ (s : State), (s.thmOn = false ∨ s.get R.THM_STAT_STEP = 0 ∨ s.get R.THM_STAT_REQ ≠ 0 ∧ s.get I.THM_MAX_L ≤ s.get R.THM_STAT_STEP)) :=
  ⟨⟨[⟨1602, 32⟩, ⟨0, 30⟩], ⟨1602, 32⟩, [⟨0, 30⟩], st [(I.PROXY 15, 0), (I.TH_UP 0 1, 3)], by decide +kernel⟩,
    ⟨List.replicate 22 ⟨1850, 32⟩, 0, ⟨1850, 32⟩, st [(I.V_UP 0, 3), (I.PEAK_SEEN, 1)], by decide +kernel⟩,
    ⟨[], st [(I.V_HOT 0, 1), (I.V_HOT 1, 1), (I.V_T 0, 1850), (I.V_T 1, 1792)], by decide +kernel⟩,
    ⟨[⟨3000, 0⟩], st [(I.DEV, 1)], by decide +kernel⟩,
    ⟨20, st [(I.PROXY 15, 0)], by decide +kernel⟩,
    ⟨23, 2, st [], by decide +kernel⟩,
    ⟨20, st [], by decide +kernel⟩,
    ⟨21, st [(I.DEV, 1)], by decide +kernel⟩,
    ⟨st [(I.PROXY 15, 0), (R.THM_STAT_GRACE, 1), (R.THM_STAT_REQ, 1), (I.THM_MAX_L, 4)], by decide +kernel⟩,
    ⟨st [(I.PROXY 15, 0), (R.THM_STAT_GRACE, 1), (R.THM_STAT_REQ, 1), (I.THM_MAX_L, 0)], by decide +kernel⟩,
    ⟨st [], by decide +kernel⟩,
    ⟨st [(I.PROXY 15, 0), (R.THM_STAT_STEP, 3), (R.THM_STAT_REQ, 1), (I.THM_MAX_L, 4)], by decide +kernel⟩,
    ⟨st [(I.PROXY 15, 0), (R.THM_STAT_STEP, 1), (I.PIN_THERM, 1)], by decide +kernel⟩,
    ⟨st [(I.PROXY 15, 0), (R.THM_STAT_STEP, 4), (R.THM_STAT_REQ, 1), (I.THM_MAX_L, 4)], by decide +kernel⟩⟩

theorem test_witness_trims_and_routines :
    (∃ (vref : Bool) (s : State), (Safety.reachesBead s 15 10) ∧ (s.cal = none) ∧ (vref = true)) ∧
    (∃ (vref : Bool) (s : State), (Safety.reachesBead s 15 10) ∧ (s.cal = none) ∧ (vref = false)) ∧
    (∃ (vref : Bool) (s : State), (Safety.reachesBead s 15 10) ∧ (s.cal.isSome = true)) ∧
    (∃ (s : State), (Safety.reachesBead s 15 10) ∧ (s.cal = none) ∧ (s.get R.PTP_STAT_STATE = 2)) ∧
    (∃ (s : State), (Safety.reachesBead s 15 10) ∧ (s.cal = none) ∧ (s.get R.PTP_STAT_STATE ≠ 2)) ∧
    (∃ (s : State), (Safety.reachesBead s 15 10) ∧ (s.cal.isSome = true)) ∧
    (∃ (arg : BitVec 16) (s : State), (Safety.reachesBead s 15 10) ∧ (s.cal = none) ∧ (s.get R.PWR_STAT_STATE = 1)) ∧
    (∃ (arg : BitVec 16) (s : State), (Safety.reachesBead s 15 10) ∧ (s.cal = none) ∧ (s.get R.PWR_STAT_STATE ≠ 1)) ∧
    (∃ (arg : BitVec 16) (s : State), (Safety.reachesBead s 15 10) ∧ (s.cal.isSome = true)) ∧
    (∃ (arg : BitVec 16) (s : State), (Safety.reachesBead s 15 10) ∧ (s.cal = none) ∧ (s.calGroupOff arg.toNat = true)) ∧
    (∃ (arg : BitVec 16) (s : State), (Safety.reachesBead s 15 10) ∧ (s.cal = none) ∧ (s.calGroupOff arg.toNat = false)) ∧
    (∃ (arg : BitVec 16) (s : State), (Safety.reachesBead s 15 10) ∧ (s.cal.isSome = true)) ∧
    (∃ (arg : BitVec 16) (s : State), (Safety.reachesBead s 15 10) ∧ (s.cal = none) ∧ (s.calGroupOff arg.toNat = true)) ∧
    (∃ (arg : BitVec 16) (s : State), (Safety.reachesBead s 15 10) ∧ (s.cal = none) ∧ (s.calGroupOff arg.toNat = false)) ∧
    (∃ (arg : BitVec 16) (s : State), (Safety.reachesBead s 15 10) ∧ (s.cal.isSome = true)) ∧
    (∃ (r : CalRun) (l : List (Nat × Nat × Int × Nat)) (k i : Nat) (v : Int) (c : Nat) (s : State), (Safety.reachesBead s 15 10) ∧ (s.cal = some r)) ∧
    (∃ (s : State), (Safety.reachesBead s 15 10) ∧ (s.cal = none)) ∧
    (∃ (codes : List (Fin 7 × BitVec 16 × BitVec 16)) (r : CalRun) (l : List (Fin 7 × BitVec 16 × BitVec 16)) (c : Fin 7 × BitVec 16 × BitVec 16) (s : State), (s.isolated 15 = false) ∧ (s.cal = some r) ∧ (codes = l ++ [c]) ∧ (codes.all (fun c => !(calTrims r.routine r.arg).contains (c.1.val, c.2.1.toNat) || trimCodeOk c.1 (trimCode c.1 c.2.2.toNat)) = true)) ∧
    (∃ (codes : List (Fin 7 × BitVec 16 × BitVec 16)) (s : State), (s.isolated 15 = false) ∧ (s.cal.isSome = true) ∧ (codes = [])) ∧
    (∃ (codes : List (Fin 7 × BitVec 16 × BitVec 16)) (r : CalRun) (s : State), (s.isolated 15 = false) ∧ (s.cal = some r) ∧ (codes.any (fun c => (calTrims r.routine r.arg).contains (c.1.val, c.2.1.toNat) && !trimCodeOk c.1 (trimCode c.1 c.2.2.toNat)) = true)) ∧
    (∃ (codes : List (Fin 7 × BitVec 16 × BitVec 16)) (s : State), (s.isolated 15 = true ∨ s.cal = none)) ∧
    (∃ (r : CalRun) (l : List (Nat × Nat × Int × Nat)) (k i : Nat) (v : Int) (c : Nat) (s : State), (s.isolated 15 = false) ∧ (r.routine ≤ 5) ∧ (s.cal = some r)) ∧
    (∃ (s : State), (s.isolated 15 = true ∨ s.cal = none)) ∧
    (∃ (r : CalRun) (l : List (Nat × Nat × Int × Nat)) (k i : Nat) (v : Int) (c : Nat) (s : State), (s.isolated 15 = false) ∧ (s.cal = some r)) ∧
    (∃ (s : State), (s.isolated 15 = true ∨ s.cal = none)) ∧
    (∃ (mean : BitVec 32) (r : CalRun) (s : State), (s.isolated 15 = false) ∧ (s.cal = some r) ∧ (r.routine = 2 ∧ r.phase = 0) ∧ (mean.toInt.natAbs * 2000000 < 2 ^ 32)) ∧
    (∃ (mean : BitVec 32) (r : CalRun) (s : State), (s.isolated 15 = false) ∧ (s.cal = some r) ∧ (r.routine = 2 ∧ r.phase = 0) ∧ (2 ^ 32 ≤ mean.toInt.natAbs * 2000000)) ∧
    (∃ (mean : BitVec 32) (r : CalRun) (s : State), (s.isolated 15 = false) ∧ (s.cal = some r) ∧ (r.routine = 2 ∧ r.phase = 2)) ∧
    (∃ (mean : BitVec 32) (s : State), (s.isolated 15 = true ∨ s.cal.all (fun r => decide (r.routine ≠ 2 ∨ r.phase = 1)) = true)) ∧
    (∃ (r : Trim) (s : State), (s.isolated 15 = false) ∧ (s.walking = true) ∧ (r ∈ s.trims)) ∧
    (∃ (s : State), (s.isolated 15 = true ∨ s.walking = false)) ∧
    (∃ (v : BitVec 16) (k i : Nat) (s : State), (Safety.reachesBead s 15 10) ∧ (s.get R.TRIM_SEL_KIND = k ∧ s.get R.TRIM_SEL_INSTANCE = i) ∧ (trimExists k i = true) ∧ (trimCodeOk k (trimCode k v.toNat) = true)) ∧
    (∃ (v : BitVec 16) (k i : Nat) (s : State), (Safety.reachesBead s 15 10) ∧ (s.get R.TRIM_SEL_KIND = k ∧ s.get R.TRIM_SEL_INSTANCE = i) ∧ (trimExists k i = false ∨ trimCodeOk k (trimCode k v.toNat) = false)) :=
  ⟨⟨true, beadSt 15 10 [], by decide +kernel⟩,
    ⟨false, beadSt 15 10 [], by decide +kernel⟩,
    ⟨true, { beadSt 15 10 [] with cal := some ⟨1, 0, [], 0⟩ }, by decide +kernel⟩,
    ⟨beadSt 15 10 [(R.PTP_STAT_STATE, 2)], by decide +kernel⟩,
    ⟨beadSt 15 10 [(R.PTP_STAT_STATE, 3)], by decide +kernel⟩,
    ⟨{ beadSt 15 10 [] with cal := some ⟨1, 0, [], 0⟩ }, by decide +kernel⟩,
    ⟨400, beadSt 15 10 [(R.PWR_STAT_STATE, 1)], by decide +kernel⟩,
    ⟨400, beadSt 15 10 [(R.PWR_STAT_STATE, 2)], by decide +kernel⟩,
    ⟨400, { beadSt 15 10 [] with cal := some ⟨1, 0, [], 0⟩ }, by decide +kernel⟩,
    ⟨256, beadSt 15 10 [], by decide +kernel⟩,
    ⟨256, beadSt 15 10 [(R.LN_STAT_STATE 1 0, 1)], by decide +kernel⟩,
    ⟨256, { beadSt 15 10 [] with cal := some ⟨1, 0, [], 0⟩ }, by decide +kernel⟩,
    ⟨256, beadSt 15 10 [], by decide +kernel⟩,
    ⟨256, beadSt 15 10 [(R.LN_STAT_STATE 1 0, 1)], by decide +kernel⟩,
    ⟨256, { beadSt 15 10 [] with cal := some ⟨1, 0, [], 0⟩ }, by decide +kernel⟩,
    ⟨⟨3, 0, [(2, 22, 4, 0), (2, 23, -3, 1)], 0⟩, [(2, 22, 4, 0)], 2, 23, -3, 1, { beadSt 15 10 [] with cal := some ⟨3, 0, [(2, 22, 4, 0), (2, 23, -3, 1)], 0⟩ }, by decide +kernel⟩,
    ⟨beadSt 15 10 [], by decide +kernel⟩,
    ⟨[(0, 0, 255)], ⟨1, 0, [], 0⟩, [], (0, 0, 255), { st [(I.PROXY 15, 0)] with cal := some ⟨1, 0, [], 0⟩ }, by decide +kernel⟩,
    ⟨[], { st [(I.PROXY 15, 0)] with cal := some ⟨1, 0, [], 0⟩ }, by decide +kernel⟩,
    ⟨[(0, 0, 256)], ⟨1, 0, [], 0⟩, { st [(I.PROXY 15, 0)] with cal := some ⟨1, 0, [], 0⟩ }, by decide +kernel⟩,
    ⟨[(0, 0, 255)], st [], by decide +kernel⟩,
    ⟨⟨3, 0, [(2, 22, 4, 0), (2, 23, -3, 1)], 0⟩, [(2, 22, 4, 0)], 2, 23, -3, 1, { st [(I.PROXY 15, 0)] with cal := some ⟨3, 0, [(2, 22, 4, 0), (2, 23, -3, 1)], 0⟩ }, by decide +kernel⟩,
    ⟨st [], by decide +kernel⟩,
    ⟨⟨3, 0, [(2, 22, 4, 0), (2, 23, -3, 1)], 0⟩, [(2, 22, 4, 0)], 2, 23, -3, 1, { st [(I.PROXY 15, 0)] with cal := some ⟨3, 0, [(2, 22, 4, 0), (2, 23, -3, 1)], 0⟩ }, by decide +kernel⟩,
    ⟨st [], by decide +kernel⟩,
    ⟨2147, ⟨2, 0, [], 0⟩, { st [(I.PROXY 15, 0)] with cal := some ⟨2, 0, [], 0⟩ }, by decide +kernel⟩,
    ⟨20616, ⟨2, 0, [], 0⟩, { st [(I.PROXY 15, 0)] with cal := some ⟨2, 0, [], 0⟩ }, by decide +kernel⟩,
    ⟨20616, ⟨2, 0, [], 2⟩, { st [(I.PROXY 15, 0)] with cal := some ⟨2, 0, [], 2⟩ }, by decide +kernel⟩,
    ⟨20616, { st [(I.PROXY 15, 0)] with cal := some ⟨2, 0, [], 1⟩ }, by decide +kernel⟩,
    ⟨⟨1, 0, 0x8D, 0x8E, 1⟩, { st [(I.PROXY 15, 0)] with trims := [⟨1, 0, 0x8D, 0x8E, 1⟩] }, by decide +kernel⟩,
    ⟨st [], by decide +kernel⟩,
    ⟨0xFFC0, 2, 23, { beadSt 15 10 [(R.TRIM_SEL_KIND, 2), (R.TRIM_SEL_INSTANCE, 23)] with cal := some ⟨3, 0, [], 0⟩ }, by decide +kernel⟩,
    ⟨16, 6, 256, beadSt 15 10 [(R.TRIM_SEL_KIND, 6), (R.TRIM_SEL_INSTANCE, 256)], by decide +kernel⟩⟩

theorem test_witness_calibration_services :
    (∃ (p : Fin 8) (a n : Nat) (s : State), (s.secAsked p 0x20 = true) ∧ (s.cal = none) ∧ (s.get (R.MB_DATA_D (2 * p) 1) = a) ∧ (s.get (R.MB_DATA_D (2 * p) 2) = n) ∧ ((s.calCopy (s.get R.KEEP_STAT_COPY)).length ≤ n) ∧ (s.trayAsk a (s.calCopy (s.get R.KEEP_STAT_COPY)).length true = true)) ∧
    (∃ (p : Fin 8) (a n : Nat) (s : State), (s.secAsked p 0x20 = true) ∧ (s.cal = none) ∧ (s.get (R.MB_DATA_D (2 * p) 1) = a) ∧ (s.get (R.MB_DATA_D (2 * p) 2) = n) ∧ (n < (s.calCopy (s.get R.KEEP_STAT_COPY)).length ∨ s.trayAsk a (s.calCopy (s.get R.KEEP_STAT_COPY)).length true = false)) ∧
    (∃ (p : Fin 8) (readBack : Bool) (s : State), (s.secAsked p 0x22 = true) ∧ (s.cal = none) ∧ (readBack = true)) ∧
    (∃ (p : Fin 8) (readBack : Bool) (s : State), (s.secAsked p 0x22 = true) ∧ (s.cal = none) ∧ (readBack = false)) ∧
    (∃ (p : Fin 8) (readBack : Bool) (a n : Nat) (s : State), (s.secAsked p 0x21 = true) ∧ (s.cal = none) ∧ (s.get (R.MB_DATA_D (2 * p) 1) = a) ∧ (s.get (R.MB_DATA_D (2 * p) 2) = n) ∧ (s.trayAsk a n false = true) ∧ (s.badWords a n = []) ∧ (s.calImportCode (s.trayRead a n) = 0) ∧ (readBack = true)) ∧
    (∃ (p : Fin 8) (readBack : Bool) (a n : Nat) (s : State), (s.secAsked p 0x21 = true) ∧ (s.cal = none) ∧ (s.get (R.MB_DATA_D (2 * p) 1) = a) ∧ (s.get (R.MB_DATA_D (2 * p) 2) = n) ∧ (s.trayAsk a n false = true) ∧ (s.badWords a n = []) ∧ (s.calImportCode (s.trayRead a n) ≠ 0)) ∧
    (∃ (p : Fin 8) (readBack : Bool) (a n : Nat) (s : State), (s.secAsked p 0x21 = true) ∧ (s.cal = none) ∧ (s.get (R.MB_DATA_D (2 * p) 1) = a) ∧ (s.get (R.MB_DATA_D (2 * p) 2) = n) ∧ (s.trayAsk a n false = true) ∧ (s.badWords a n ≠ [])) ∧
    (∃ (p : Fin 8) (readBack : Bool) (a n : Nat) (s : State), (s.secAsked p 0x21 = true) ∧ (s.cal = none) ∧ (s.get (R.MB_DATA_D (2 * p) 1) = a) ∧ (s.get (R.MB_DATA_D (2 * p) 2) = n) ∧ (s.trayAsk a n false = true) ∧ (s.badWords a n = []) ∧ (s.calImportCode (s.trayRead a n) = 0) ∧ (readBack = false)) ∧
    (∃ (p : Fin 8) (readBack : Bool) (a n : Nat) (s : State), (s.secAsked p 0x21 = true) ∧ (s.cal = none) ∧ (s.get (R.MB_DATA_D (2 * p) 1) = a) ∧ (s.get (R.MB_DATA_D (2 * p) 2) = n) ∧ (s.trayAsk a n false = false)) ∧
    (∃ (p : Fin 8) (a o n : Nat) (s : State), (s.secAsked p 0x23 = true) ∧ (s.cal = none) ∧ (s.get (R.MB_DATA_D (2 * p) 1) = a) ∧ (s.get (R.MB_DATA_D (2 * p) 2) = o) ∧ (s.get (R.MB_DATA_D (2 * p) 3) = n) ∧ (o + n ≤ userBytes) ∧ (s.trayAsk a n true = true)) ∧
    (∃ (p : Fin 8) (a o n : Nat) (s : State), (s.secAsked p 0x23 = true) ∧ (s.cal = none) ∧ (s.get (R.MB_DATA_D (2 * p) 1) = a) ∧ (s.get (R.MB_DATA_D (2 * p) 2) = o) ∧ (s.get (R.MB_DATA_D (2 * p) 3) = n) ∧ (o + n ≤ userBytes) ∧ (s.trayAsk a n true = false)) ∧
    (∃ (p : Fin 8) (o n : Nat) (s : State), (s.secAsked p 0x23 = true) ∧ (s.cal = none) ∧ (s.get (R.MB_DATA_D (2 * p) 2) = o) ∧ (s.get (R.MB_DATA_D (2 * p) 3) = n) ∧ (userBytes < o + n)) ∧
    (∃ (p : Fin 8) (readBack : Bool) (a o n : Nat) (s : State), (s.secAsked p 0x24 = true) ∧ (s.cal = none) ∧ (s.get (R.MB_DATA_D (2 * p) 1) = a) ∧ (s.get (R.MB_DATA_D (2 * p) 2) = o) ∧ (s.get (R.MB_DATA_D (2 * p) 3) = n) ∧ (o + n ≤ userBytes) ∧ (s.trayAsk a n false = true) ∧ (s.badWords a n = [])) ∧
    (∃ (p : Fin 8) (readBack : Bool) (a o n : Nat) (s : State), (s.secAsked p 0x24 = true) ∧ (s.cal = none) ∧ (s.get (R.MB_DATA_D (2 * p) 1) = a) ∧ (s.get (R.MB_DATA_D (2 * p) 2) = o) ∧ (s.get (R.MB_DATA_D (2 * p) 3) = n) ∧ (o + n ≤ userBytes) ∧ (s.trayAsk a n false = false ∨ s.badWords a n ≠ [])) ∧
    (∃ (p : Fin 8) (readBack : Bool) (o n : Nat) (s : State), (s.secAsked p 0x24 = true) ∧ (s.cal = none) ∧ (s.get (R.MB_DATA_D (2 * p) 2) = o) ∧ (s.get (R.MB_DATA_D (2 * p) 3) = n) ∧ (userBytes < o + n)) ∧
    (∃ (p : Fin 8) (s : State), (s.secAsked p 0x20 = true) ∧ (s.cal.isSome = true)) ∧
    (∃ (p : Fin 8) (readBack : Bool) (s : State), (s.secAsked p 0x22 = true) ∧ (s.cal.isSome = true)) ∧
    (∃ (p : Fin 8) (readBack : Bool) (s : State), (s.secAsked p 0x21 = true) ∧ (s.cal.isSome = true)) ∧
    (∃ (p : Fin 8) (s : State), (s.secAsked p 0x23 = true) ∧ (s.cal.isSome = true)) ∧
    (∃ (p : Fin 8) (readBack : Bool) (s : State), (s.secAsked p 0x24 = true) ∧ (s.cal.isSome = true)) :=
  ⟨⟨7, 65, 72, { st [(I.CORE_RUN 3, 1), (R.MB_STAT_FULL 14, 1), (R.MB_DATA_D 14 0, 0x20001234), (R.MB_DATA_D 14 1, 65), (R.MB_DATA_D 14 2, 72)] with strg := { trays := [⟨1, 0, 1, 0, 4, 0xFFFF, 0xFFFF⟩] }, keep := [(0x4006, 1), (0x4040, 7)] }, by decide +kernel⟩,
    ⟨7, 65, 63, { st [(I.CORE_RUN 3, 1), (R.MB_STAT_FULL 14, 1), (R.MB_DATA_D 14 0, 0x20001234), (R.MB_DATA_D 14 1, 65), (R.MB_DATA_D 14 2, 63)] with strg := { trays := [⟨1, 0, 1, 0, 4, 0xFFFF, 0xFFFF⟩] } }, by decide +kernel⟩,
    ⟨7, true, { st [(I.CORE_RUN 3, 1), (R.MB_STAT_FULL 14, 1), (R.MB_DATA_D 14 0, 0x22001234)] with trims := [⟨1, 0, 0x8E, 0x8E, 1⟩], fuses := { serial := 9 } }, by decide +kernel⟩,
    ⟨7, false, st [(I.CORE_RUN 3, 1), (R.MB_STAT_FULL 14, 1), (R.MB_DATA_D 14 0, 0x22001234)], by decide +kernel⟩,
    ⟨7, true, 64, 72, { st [(I.CORE_RUN 3, 1), (R.MB_STAT_FULL 14, 1), (R.MB_DATA_D 14 0, 0x21001234), (R.MB_DATA_D 14 1, 64), (R.MB_DATA_D 14 2, 72)] with strg := { trays := [⟨1, 0, 1, 0, 4, 0xFFFF, 0xFFFF⟩] }, fuses := { serial := 9 }, tray := calTray }, by decide +kernel⟩,
    ⟨7, true, 64, 72, { st [(I.CORE_RUN 3, 1), (R.MB_STAT_FULL 14, 1), (R.MB_DATA_D 14 0, 0x21001234), (R.MB_DATA_D 14 1, 64), (R.MB_DATA_D 14 2, 72)] with strg := { trays := [⟨1, 0, 1, 0, 4, 0xFFFF, 0xFFFF⟩] }, fuses := { serial := 8 }, tray := calTray }, by decide +kernel⟩,
    ⟨7, true, 64, 72, { st [(I.CORE_RUN 3, 1), (R.MB_STAT_FULL 14, 1), (R.MB_DATA_D 14 0, 0x21001234), (R.MB_DATA_D 14 1, 64), (R.MB_DATA_D 14 2, 72)] with strg := { trays := [⟨1, 0, 1, 0, 4, 0xFFFF, 0xFFFF⟩] }, trayBad := [9] }, by decide +kernel⟩,
    ⟨7, false, 64, 72, { st [(I.CORE_RUN 3, 1), (R.MB_STAT_FULL 14, 1), (R.MB_DATA_D 14 0, 0x21001234), (R.MB_DATA_D 14 1, 64), (R.MB_DATA_D 14 2, 72)] with strg := { trays := [⟨1, 0, 1, 0, 4, 0xFFFF, 0xFFFF⟩] }, fuses := { serial := 9 }, tray := calTray }, by decide +kernel⟩,
    ⟨7, true, 64, 72, st [(I.CORE_RUN 3, 1), (R.MB_STAT_FULL 14, 1), (R.MB_DATA_D 14 0, 0x21001234), (R.MB_DATA_D 14 1, 64), (R.MB_DATA_D 14 2, 72)], by decide +kernel⟩,
    ⟨7, 65, 3915775, 1, { st [(I.CORE_RUN 3, 1), (R.MB_STAT_FULL 14, 1), (R.MB_DATA_D 14 0, 0x23001234), (R.MB_DATA_D 14 1, 65), (R.MB_DATA_D 14 2, 3915775), (R.MB_DATA_D 14 3, 1)] with strg := { trays := [⟨1, 0, 1, 0, 4, 0xFFFF, 0xFFFF⟩] }, keep := [(0x3FFFFF, 7)] }, by decide +kernel⟩,
    ⟨7, 65, 3915775, 1, st [(I.CORE_RUN 3, 1), (R.MB_STAT_FULL 14, 1), (R.MB_DATA_D 14 0, 0x23001234), (R.MB_DATA_D 14 1, 65), (R.MB_DATA_D 14 2, 3915775), (R.MB_DATA_D 14 3, 1)], by decide +kernel⟩,
    ⟨7, 3915775, 2, st [(I.CORE_RUN 3, 1), (R.MB_STAT_FULL 14, 1), (R.MB_DATA_D 14 0, 0x23001234), (R.MB_DATA_D 14 2, 3915775), (R.MB_DATA_D 14 3, 2)], by decide +kernel⟩,
    ⟨7, true, 65, 3915775, 1, { st [(I.CORE_RUN 3, 1), (R.MB_STAT_FULL 14, 1), (R.MB_DATA_D 14 0, 0x24001234), (R.MB_DATA_D 14 1, 65), (R.MB_DATA_D 14 2, 3915775), (R.MB_DATA_D 14 3, 1)] with strg := { trays := [⟨1, 0, 1, 0, 4, 0xFFFF, 0xFFFF⟩] }, tray := [(65, 7)] }, by decide +kernel⟩,
    ⟨7, true, 65, 3915775, 1, st [(I.CORE_RUN 3, 1), (R.MB_STAT_FULL 14, 1), (R.MB_DATA_D 14 0, 0x24001234), (R.MB_DATA_D 14 1, 65), (R.MB_DATA_D 14 2, 3915775), (R.MB_DATA_D 14 3, 1)], by decide +kernel⟩,
    ⟨7, true, 3915775, 2, st [(I.CORE_RUN 3, 1), (R.MB_STAT_FULL 14, 1), (R.MB_DATA_D 14 0, 0x24001234), (R.MB_DATA_D 14 2, 3915775), (R.MB_DATA_D 14 3, 2)], by decide +kernel⟩,
    ⟨7, { st [(I.CORE_RUN 3, 1), (R.MB_STAT_FULL 14, 1), (R.MB_DATA_D 14 0, 0x20001234)] with cal := some ⟨1, 0, [], 0⟩ }, by decide +kernel⟩,
    ⟨7, true, { st [(I.CORE_RUN 3, 1), (R.MB_STAT_FULL 14, 1), (R.MB_DATA_D 14 0, 0x22001234)] with cal := some ⟨1, 0, [], 0⟩ }, by decide +kernel⟩,
    ⟨7, true, { st [(I.CORE_RUN 3, 1), (R.MB_STAT_FULL 14, 1), (R.MB_DATA_D 14 0, 0x21001234)] with cal := some ⟨1, 0, [], 0⟩ }, by decide +kernel⟩,
    ⟨7, { st [(I.CORE_RUN 3, 1), (R.MB_STAT_FULL 14, 1), (R.MB_DATA_D 14 0, 0x23001234)] with cal := some ⟨1, 0, [], 0⟩ }, by decide +kernel⟩,
    ⟨7, true, { st [(I.CORE_RUN 3, 1), (R.MB_STAT_FULL 14, 1), (R.MB_DATA_D 14 0, 0x24001234)] with cal := some ⟨1, 0, [], 0⟩ }, by decide +kernel⟩⟩

theorem test_witness_boot_sequence :
    (∃ (s : State), (s.get I.DEV = 0 ∧ s.get I.BOOT_STEP = 0 ∨ s.get I.DEV = 9)) ∧
    (∃ (s : State), (¬(s.get I.DEV = 0 ∧ s.get I.BOOT_STEP = 0 ∨ s.get I.DEV = 9))) ∧
    (∃ (dir : List Byte) (s : State), (s.get I.DEV = 0) ∧ (s.get I.BOOT_STEP = 1) ∧ (s.boot = btRom)) ∧
    (∃ (dir : List Byte) (s : State), (s.get I.DEV ≠ 0 ∨ s.get I.BOOT_STEP ≠ 1 ∨ s.boot ≠ btRom)) ∧
    (∃ (s : State), (Safety.reaches s 0) ∧ (s.boot = btWaitFw)) ∧
    (∃ (s : State), (Safety.reaches s 0) ∧ (s.boot ≠ btWaitFw)) ∧
    (∃ (s : State), (Safety.reaches s 0) ∧ (s.boot = btWaitImg)) ∧
    (∃ (s : State), (Safety.reaches s 0) ∧ (s.boot ≠ btWaitImg)) ∧
    (∃ (obj : List Byte) (o : List Byte) (s : State), (s.get I.DEV = 0) ∧ (s.boot = btFwFlash ∧ o = obj ∨ s.boot = btFwHost ∧ o = s.hostObject)) ∧
    (∃ (obj : List Byte) (s : State), (s.get I.DEV ≠ 0 ∨ s.boot ≠ btFwFlash ∧ s.boot ≠ btFwHost)) ∧
    (∃ (obj : List Byte) (o : List Byte) (s : State), (s.get I.DEV = 0) ∧ (s.get I.BOOT_STEP = 2) ∧ (s.boot = btImgFlash ∧ o = obj ∨ s.boot = btImgHost ∧ o = s.hostObject)) ∧
    (∃ (obj : List Byte) (s : State), (s.get I.DEV ≠ 0 ∨ s.get I.BOOT_STEP ≠ 2 ∨ s.boot ≠ btImgFlash ∧ s.boot ≠ btImgHost)) ∧
    (∃ (s : State), (s.get I.DEV = 0) ∧ (s.get I.BOOT_STEP = 3)) ∧
    (∃ (s : State), (s.get I.DEV ≠ 0 ∨ s.get I.BOOT_STEP ≠ 3)) ∧
    (∃ (n : Fin 16) (s : State), (s.get I.DEV = 0) ∧ (s.get I.BOOT_STEP = 4)) ∧
    (∃ (s : State), (s.get I.DEV ≠ 0 ∨ s.get I.BOOT_STEP ≠ 4)) ∧
    (∃ (found : List Nat) (bad : List (Fin 8 × Fin 4)) (c : Fin 8) (r : Nat) (s : State), (s.get I.DEV = 0) ∧ (s.get I.BOOT_STEP = 5) ∧ (bad.all (fun e => decide (e.2 ≠ 0)) = true) ∧ ((List.range 8).all (fun c => decide (found.getD c 0 = s.strg.capacity c ∧ s.get (I.CH_NA c 0) = 0)) = true) ∧ (s.strg.capacity c ≠ 0) ∧ (s.strg.setPoint c 0 = some r)) ∧
    (∃ (found : List Nat) (bad : List (Fin 8 × Fin 4)) (c : Fin 8) (s : State), (s.get I.DEV = 0) ∧ (s.get I.BOOT_STEP = 5) ∧ ((List.range c).all (fun k => decide (found.getD k 0 = s.strg.capacity k ∧ (s.strg.capacity k = 0 ∨ s.get (I.CH_NA k 0) = 0)) && bad.all (fun e => decide (e.1.val ≠ k ∨ e.2 ≠ 0))) = true) ∧ (found.getD c 0 ≠ s.strg.capacity c ∨ s.strg.capacity c ≠ 0 ∧ (s.strg.setPoint c 0).isSome = true ∧ bad.any (fun e => decide (e.1 = c ∧ e.2 = 0)) = true)) ∧
    (∃ (found : List Nat) (bad : List (Fin 8 × Fin 4)) (s : State), (s.get I.DEV ≠ 0 ∨ s.get I.BOOT_STEP ≠ 5)) ∧
    (∃ (n : Fin 16) (s : State), (s.get I.DEV = 0) ∧ (s.get I.BOOT_STEP = 6)) ∧
    (∃ (s : State), (s.get I.DEV ≠ 0 ∨ s.get I.BOOT_STEP ≠ 6)) :=
  ⟨⟨st [], by decide +kernel⟩,
    ⟨st [(I.BOOT_STEP, 1)], by decide +kernel⟩,
    ⟨flashDir, st [(I.BOOT_STEP, 1)], by decide +kernel⟩,
    ⟨flashDir, st [], by decide +kernel⟩,
    ⟨st [(R.BOOT_STAT_STATE, 2)], by decide +kernel⟩,
    ⟨st [], by decide +kernel⟩,
    ⟨st [(R.BOOT_STAT_STATE, 5)], by decide +kernel⟩,
    ⟨st [], by decide +kernel⟩,
    ⟨[], [], st [(R.BOOT_STAT_STATE, 1), (I.BOOT_COPY, 1)], by decide +kernel⟩,
    ⟨[], st [], by decide +kernel⟩,
    ⟨[], [], st [(R.BOOT_STAT_STATE, 4), (I.BOOT_STEP, 2)], by decide +kernel⟩,
    ⟨[], st [], by decide +kernel⟩,
    ⟨{ st [(I.BOOT_STEP, 3)] with img := { body := [1, 2, 3] } }, by decide +kernel⟩,
    ⟨st [], by decide +kernel⟩,
    ⟨15, st [(I.BOOT_STEP, 4)], by decide +kernel⟩,
    ⟨st [], by decide +kernel⟩,
    ⟨[0, 0, 0, 0, 0, 0, 0, 16], [(7, 1)], 7, 6400, { st [(I.BOOT_STEP, 5)] with strg := { limits := [⟨0x60, 14, 7, 16⟩], clocks := [⟨2, 7, 0, 0, 800000000, 1⟩] } }, by decide +kernel⟩,
    ⟨[16], [], 0, st [(I.BOOT_STEP, 5)], by decide +kernel⟩,
    ⟨[], [], st [], by decide +kernel⟩,
    ⟨15, st [(I.BOOT_STEP, 6)], by decide +kernel⟩,
    ⟨st [], by decide +kernel⟩⟩

theorem test_witness_image_frame :
    (∃ (n : Fin 5) (s : State), (Safety.unpatched s)) ∧
    (∃ (n : Fin 5) (s : State), (Safety.unpatched s)) ∧
    (∃ (rod : BitVec 4) (s : State), (Safety.unpatched s)) :=
  ⟨⟨1, st [], by decide +kernel⟩,
    ⟨1, st [], by decide +kernel⟩,
    ⟨3, st [], by decide +kernel⟩⟩

theorem test_witness_reset_frame :
    (∃ (rod : Fin 16) (s : State), (Safety.unpatched s)) ∧
    (∃ (rod : Fin 16) (s : State), (Safety.unpatched s)) ∧
    (∃ (silent : BitVec 16) (s : State), (Safety.unpatched s)) ∧
    (∃ (port : Fin 28) (txn : BitVec 10) (s : State), (Safety.unpatched s)) :=
  ⟨⟨9, st [], by decide +kernel⟩,
    ⟨9, st [], by decide +kernel⟩,
    ⟨5, st [], by decide +kernel⟩,
    ⟨5, 1, st [], by decide +kernel⟩⟩

theorem test_witness_power_frame :
    (∃ (s : State), (s.get R.PWR_STAT_TARGET = pwHold ∨ s.get R.PWR_STAT_TARGET = pwDoze)) ∧
    (∃ (s : State), (s.get R.PWR_STAT_TARGET = pwHold ∨ s.get R.PWR_STAT_TARGET = pwDoze)) :=
  ⟨⟨st [(R.PWR_STAT_TARGET, 1)], by decide +kernel⟩,
    ⟨st [(R.PWR_STAT_TARGET, 1)], by decide +kernel⟩⟩

theorem test_witness_patch_boot_frame :
    (∃ (s : State), (bit s.patch.hdr.rodMask 0 = false)) ∧
    (∃ (s : State), (bit s.patch.hdr.rodMask 0 = false)) :=
  ⟨⟨st [], by decide +kernel⟩,
    ⟨st [], by decide +kernel⟩⟩

theorem test_witness_link_blocks_read_as_sent_block : ∃ d : List Byte, d.length = 8 ∧ d.head? = some 0x78 := ⟨[0x78, 1, 0, 0, 0, 0, 0, 0], by decide⟩
theorem test_witness_link_blocks_read_as_sent_packet :
    ∃ (ptype len arg : Nat) (words : List (List Byte)) (reserved : List Byte), ptype < 2 ^ 8 ∧ len < 2 ^ 16 ∧ arg < 2 ^ 24 ∧
      words.length = len ∧ (∀ w ∈ words, w.length = 8) ∧ reserved.length = 2 :=
  ⟨2, 1, 5, [[1, 2, 3, 4, 5, 6, 7, 8]], [0, 0], by decide⟩

/-! ### A next state for the commands whose frame is stated -/

theorem test_witness_next_beam_frames :
    (∃ (src dst : Fin 28) (epoch : BitVec 8) (txn : BitVec 10) (status : Fin 6) (data : List Byte) (s t : State), exec (.reply src dst epoch txn status data) s = .next t) ∧
    (∃ (port : Fin 28) (rod : Fin 16) (epoch : BitVec 8) (s t : State), exec (.eventMessage port rod epoch) s = .next t) ∧
    (∃ (stream : Fin 512) (dst : Fin 28) (mark : Fin 4) (tag : BitVec 32) (data : List Byte) (s t : State), exec (.streamFlit stream dst mark tag data) s = .next t) ∧
    (∃ (src dst : Fin 28) (epoch : BitVec 8) (txn : BitVec 10) (cls len : Fin 4) (addr : BeamAddr) (corrected upset : Bool) (a : Nat) (s t : State), ((addr = .tray a)) ∧ exec (.readRequest src dst epoch txn cls len addr corrected upset) s = .next t) ∧
    (∃ (src dst : Fin 28) (epoch : BitVec 8) (txn : BitVec 10) (cls : Fin 4) (addr : BeamAddr) (data : List Byte) (a : Nat) (s t : State), ((addr = .tray a)) ∧ exec (.writeRequest src dst epoch txn cls addr data) s = .next t) ∧
    (∃ (src dst : Fin 28) (epoch : BitVec 8) (txn : BitVec 10) (cls len : Fin 4) (addr : BeamAddr) (corrected upset : Bool) (region off : Nat) (s t : State), ((addr = .dram region off)) ∧ exec (.readRequest src dst epoch txn cls len addr corrected upset) s = .next t) ∧
    (∃ (src dst : Fin 28) (epoch : BitVec 8) (txn : BitVec 10) (cls : Fin 4) (addr : BeamAddr) (data : List Byte) (region off : Nat) (s t : State), ((addr = .dram region off)) ∧ exec (.writeRequest src dst epoch txn cls addr data) s = .next t) ∧
    (∃ (src dst : Fin 28) (epoch : BitVec 8) (txn : BitVec 10) (cls len : Fin 4) (addr : BeamAddr) (corrected upset : Bool) (off : Nat) (s t : State), ((addr = .reg off)) ∧ exec (.readRequest src dst epoch txn cls len addr corrected upset) s = .next t) ∧
    (∃ (src dst : Fin 28) (epoch : BitVec 8) (txn : BitVec 10) (cls len : Fin 4) (addr : BeamAddr) (corrected upset : Bool) (s t : State), ((addr = .nothing)) ∧ exec (.readRequest src dst epoch txn cls len addr corrected upset) s = .next t) ∧
    (∃ (src dst : Fin 28) (epoch : BitVec 8) (txn : BitVec 10) (cls : Fin 4) (addr : BeamAddr) (data : List Byte) (off : Nat) (s t : State), ((addr = .reg off)) ∧ exec (.writeRequest src dst epoch txn cls addr data) s = .next t) ∧
    (∃ (src dst : Fin 28) (epoch : BitVec 8) (txn : BitVec 10) (cls : Fin 4) (addr : BeamAddr) (data : List Byte) (s t : State), ((addr = .nothing)) ∧ exec (.writeRequest src dst epoch txn cls addr data) s = .next t) ∧
    (∃ (addr : BitVec 26) (len : BitVec 13) (corrected upset : Bool) (s t : State), exec (.bar2Read addr len corrected upset) s = .next t) ∧
    (∃ (addr : BitVec 26) (data : List Byte) (s t : State), exec (.bar2Write addr data) s = .next t) ∧
    (∃ (off : BitVec 20) (len : BitVec 13) (corrected upset : Bool) (s t : State), exec (.bar4Read off len corrected upset) s = .next t) ∧
    (∃ (off : BitVec 20) (data : List Byte) (s t : State), exec (.bar4Write off data) s = .next t) ∧
    (∃ (blk : Fin 17) (w : Fin 8) (v : BitVec 32) (s t : State), exec (.evtStatClear blk w v) s = .next t) :=
  ⟨⟨0, 0, 0, 0, 0, [], st [], _, rfl⟩,
    ⟨0, 0, 0, st [], _, rfl⟩,
    ⟨0, 0, 0, 0, [], st [], _, rfl⟩,
    ⟨3, 0, 0, 5, 0, 0, .tray 64, false, false, 64, st [], _, by decide +kernel, rfl⟩,
    ⟨3, 0, 0, 5, 0, .tray 64, List.replicate 64 7, 64, st [], _, by decide +kernel, rfl⟩,
    ⟨3, 19, 0, 5, 0, 0, .dram 0 64, false, false, 0, 64, st [], _, by decide +kernel, rfl⟩,
    ⟨3, 19, 0, 5, 0, .dram 0 64, List.replicate 64 7, 0, 64, st [], _, by decide +kernel, rfl⟩,
    ⟨3, 0, 0, 5, 0, 0, .reg 16, false, false, 16, st [], _, by decide +kernel, rfl⟩,
    ⟨3, 0, 0, 5, 0, 0, .nothing, false, false, st [], _, by decide +kernel, rfl⟩,
    ⟨3, 0, 0, 5, 0, .reg 16, [1, 0, 0, 0], 16, st [], _, by decide +kernel, rfl⟩,
    ⟨3, 0, 0, 5, 0, .nothing, [1, 0, 0, 0], st [], _, by decide +kernel, rfl⟩,
    ⟨0, 0, false, false, st [], _, rfl⟩,
    ⟨0, [], st [], _, rfl⟩,
    ⟨0, 0, false, false, st [], _, rfl⟩,
    ⟨0, [], st [], _, rfl⟩,
    ⟨0, 0, 0, st [], _, rfl⟩⟩

theorem test_witness_next_commit_frame :
    (∃ (rod : Fin 16) (s t : State), exec (.commitReq rod) s = .next t) ∧
    (∃ (addr : BitVec 25) (len : BitVec 4) (v : BitVec 32) (s t : State), exec (.registerWrite addr len v) s = .next t) ∧
    (∃ (addr : BitVec 25) (len : BitVec 4) (v : BitVec 32) (s t : State), ((regRod addr.toNat = 7) ∧ (0x1000 ≤ addr.toNat % 2 ^ 19 ∧ addr.toNat % 2 ^ 19 < 0x70000)) ∧ exec (.registerWrite addr len v) s = .next t) ∧
    (∃ (acc : DapAccess) (s t : State), exec (.dapAccess acc) s = .next t) :=
  ⟨⟨0, st [], _, rfl⟩,
    ⟨0, 0, 0, st [], _, rfl⟩,
    ⟨0x701000, 4, 1, st [], _, by decide +kernel, rfl⟩,
    ⟨.keep 0x1000 none, st [], _, rfl⟩⟩

theorem test_witness_next_lane_frames :
    (∃ (rod : Fin 16) (l : Fin 70) (s t : State), exec (.laneEnable rod l) s = .next t) ∧
    (∃ (rod : Fin 16) (l : Fin 70) (s t : State), exec (.laneDisable rod l) s = .next t) ∧
    (∃ (rod : Fin 16) (l : Fin 70) (stage : Fin 8) (s t : State), exec (.laneGo rod l stage) s = .next t) ∧
    (∃ (rod : Fin 16) (l : Fin 70) (s t : State), exec (.lanePowerDone rod l) s = .next t) ∧
    (∃ (rod : Fin 16) (g : Fin 8) (kbps : BitVec 25) (s t : State), exec (.lanePllLock rod g kbps) s = .next t) ∧
    (∃ (rod : Fin 16) (l : Fin 70) (s t : State), exec (.laneLosClear rod l) s = .next t) ∧
    (∃ (rod : Fin 16) (l : Fin 70) (s t : State), exec (.laneLock rod l) s = .next t) ∧
    (∃ (rod : Fin 16) (l : Fin 70) (s t : State), exec (.laneLockTimeout rod l) s = .next t) ∧
    (∃ (rod : Fin 16) (l : Fin 70) (s t : State), exec (.laneAdaptDone rod l) s = .next t) ∧
    (∃ (rod : Fin 16) (l : Fin 70) (s t : State), exec (.laneAdaptTimeout rod l) s = .next t) ∧
    (∃ (rod : Fin 16) (l : Fin 70) (inverted reversed : Bool) (s t : State), exec (.laneAligned rod l inverted reversed) s = .next t) ∧
    (∃ (rod : Fin 16) (l : Fin 70) (s t : State), exec (.laneLos rod l) s = .next t) ∧
    (∃ (rod : Fin 16) (l : Fin 70) (s t : State), exec (.laneLol rod l) s = .next t) ∧
    (∃ (rod : Fin 16) (l : Fin 70) (ppm : BitVec 20) (s t : State), exec (.laneFreqWindow rod l ppm) s = .next t) ∧
    (∃ (rod : Fin 16) (g : Fin 8) (s t : State), exec (.lanePllTimeout rod g) s = .next t) ∧
    (∃ (rod : Fin 16) (g : Fin 8) (s t : State), exec (.groupPllLoss rod g) s = .next t) ∧
    (∃ (rod : Fin 16) (l : Fin 70) (s t : State), exec (.laneIdleEntry rod l) s = .next t) ∧
    (∃ (rod : Fin 16) (l : Fin 70) (s t : State), exec (.laneSquelchConfirm rod l) s = .next t) ∧
    (∃ (rod : Fin 16) (l : Fin 70) (s t : State), exec (.lanePhaseLock rod l) s = .next t) ∧
    (∃ (rod : Fin 16) (l : Fin 70) (s t : State), exec (.lanePhaseLockTimeout rod l) s = .next t) ∧
    (∃ (rod : Fin 16) (l : Fin 70) (density : BitVec 13) (s t : State), exec (.adaptWindow rod l density) s = .next t) :=
  ⟨⟨0, 0, st [], _, rfl⟩,
    ⟨0, 0, st [], _, rfl⟩,
    ⟨0, 0, 0, st [], _, rfl⟩,
    ⟨0, 0, st [], _, rfl⟩,
    ⟨0, 0, 0, st [], _, rfl⟩,
    ⟨0, 0, st [], _, rfl⟩,
    ⟨0, 0, st [], _, rfl⟩,
    ⟨0, 0, st [], _, rfl⟩,
    ⟨0, 0, st [], _, rfl⟩,
    ⟨0, 0, st [], _, rfl⟩,
    ⟨0, 0, false, false, st [], _, rfl⟩,
    ⟨0, 0, st [], _, rfl⟩,
    ⟨0, 0, st [], _, rfl⟩,
    ⟨0, 0, 0, st [], _, rfl⟩,
    ⟨0, 0, st [], _, rfl⟩,
    ⟨0, 0, st [], _, rfl⟩,
    ⟨0, 0, st [], _, rfl⟩,
    ⟨0, 0, st [], _, rfl⟩,
    ⟨0, 0, st [], _, rfl⟩,
    ⟨0, 0, st [], _, rfl⟩,
    ⟨0, 0, 0, st [], _, rfl⟩⟩

theorem test_witness_next_sensor_link_frame :
    (∃ (port : Fin 2) (lane : Fin 34) (blk : Block66) (s t : State), exec (.tsBlock port lane blk) s = .next t) ∧
    (∃ (port : Fin 2) (lane : Fin 34) (headers : List (BitVec 2)) (s t : State), exec (.blockLock port lane headers) s = .next t) ∧
    (∃ (port : Fin 2) (lane : Fin 34) (headers : List (BitVec 2)) (s t : State), exec (.blockLockLoss port lane headers) s = .next t) ∧
    (∃ (port : Fin 2) (lane : Fin 34) (s t : State), exec (.alignTimeout port lane) s = .next t) ∧
    (∃ (port : Fin 2) (skew : BitVec 16) (inPacket : Bool) (marks : List AmLane) (s t : State), exec (.amRow port skew inPacket marks) s = .next t) ∧
    (∃ (port : Fin 2) (row : List LaneBlock) (s t : State), exec (.eidleRow port row) s = .next t) ∧
    (∃ (port : Fin 2) (pkt : Packet) (s t : State), exec (.fsPacket port pkt) s = .next t) ∧
    (∃ (port : Fin 2) (pkt : Packet) (s t : State), exec (.fePacket port pkt) s = .next t) ∧
    (∃ (port : Fin 2) (pkt : Packet) (s t : State), exec (.linePacket port pkt) s = .next t) ∧
    (∃ (port : Fin 2) (pkt : Packet) (s t : State), exec (.obPacket port pkt) s = .next t) ∧
    (∃ (port : Fin 2) (pkt : Packet) (s t : State), exec (.embPacket port pkt) s = .next t) ∧
    (∃ (port : Fin 2) (pkt : Packet) (s t : State), exec (.vendorPacket port pkt) s = .next t) ∧
    (∃ (port : Fin 2) (fs : Bool) (s t : State), exec (.pairTimeout port fs) s = .next t) ∧
    (∃ (port : Fin 2) (s t : State), exec (.retrain port) s = .next t) ∧
    (∃ (port : Fin 2) (s t : State), exec (.portEnable port) s = .next t) ∧
    (∃ (port : Fin 2) (s t : State), exec (.portDisable port) s = .next t) ∧
    (∃ (port spare : Fin 2) (logical : Fin 32) (s t : State), exec (.spareMapWrite port spare logical) s = .next t) ∧
    (∃ (n : Fin 2) (s t : State), exec (.sckEnable n) s = .next t) ∧
    (∃ (n : Fin 2) (s t : State), exec (.sckDisable n) s = .next t) ∧
    (∃ (bus : Fin 2) (req : IbiReq) (s t : State), exec (.ibi bus req) s = .next t) :=
  ⟨⟨1, 33, blkOf 2 tsBytes, st [], _, rfl⟩,
    ⟨0, 0, [], st [], _, rfl⟩,
    ⟨0, 0, [], st [], _, rfl⟩,
    ⟨0, 0, st [], _, rfl⟩,
    ⟨0, 0, false, [], st [], _, rfl⟩,
    ⟨0, [], st [], _, rfl⟩,
    ⟨1, fsPkt, st [], _, rfl⟩,
    ⟨1, fePkt, st [], _, rfl⟩,
    ⟨1, linePkt, st [], _, rfl⟩,
    ⟨1, obPkt, st [], _, rfl⟩,
    ⟨1, embPkt, st [], _, rfl⟩,
    ⟨1, vendPkt, st [], _, rfl⟩,
    ⟨0, false, st [], _, rfl⟩,
    ⟨0, st [], _, rfl⟩,
    ⟨0, st [], _, rfl⟩,
    ⟨0, st [], _, rfl⟩,
    ⟨0, 0, 0, st [], _, rfl⟩,
    ⟨0, st [], _, rfl⟩,
    ⟨0, st [], _, rfl⟩,
    ⟨1, .ibi 3 [1], st [], _, rfl⟩⟩

theorem test_witness_next_exposure_frame :
    (∃ (port : Fin 2) (s t : State), exec (.frameTimeout port) s = .next t) ∧
    (∃ (port : Fin 2) (s t : State), exec (.slotDeadline port) s = .next t) ∧
    (∃ (port : Fin 2) (s t : State), exec (.expsyncFramePulse port) s = .next t) ∧
    (∃ (port : Fin 2) (s t : State), exec (.expsyncLinePulse port) s = .next t) ∧
    (∃ (port : Fin 2) (line : Bool) (s t : State), exec (.expsyncPulseEnd port line) s = .next t) ∧
    (∃ (port : Fin 2) (mode : Fin 4) (s t : State), exec (.exsModeChange port mode) s = .next t) ∧
    (∃ (falling : Bool) (pulse : BitVec 32) (s t : State), exec (.refinEdge falling pulse) s = .next t) ∧
    (∃ (s t : State), exec .refinLoss s = .next t) ∧
    (∃ (port : Fin 2) (slot : Fin 8) (s t : State), exec (.exqPost port slot) s = .next t) ∧
    (∃ (port : Fin 2) (ack : Bool) (s t : State), exec (.exqBusDone port ack) s = .next t) ∧
    (∃ (port : Fin 2) (s t : State), exec (.exqWindowClose port) s = .next t) :=
  ⟨⟨0, st [], _, rfl⟩,
    ⟨0, st [], _, rfl⟩,
    ⟨0, st [], _, rfl⟩,
    ⟨0, st [], _, rfl⟩,
    ⟨0, false, st [], _, rfl⟩,
    ⟨0, 0, st [], _, rfl⟩,
    ⟨false, 0, st [], _, rfl⟩,
    ⟨st [], _, rfl⟩,
    ⟨0, 0, st [], _, rfl⟩,
    ⟨0, false, st [], _, rfl⟩,
    ⟨0, st [], _, rfl⟩⟩

theorem test_witness_next_image_frame :
    (∃ (n : Fin 5) (refPoison : Bool) (s t : State), exec (.imgJobStart n refPoison) s = .next t) ∧
    (∃ (n : Fin 5) (refPoison : Bool) (s t : State), exec (.vecWaitTimeout n refPoison) s = .next t) ∧
    (∃ (n : Fin 5) (upset : List (BitVec 23)) (s t : State), exec (.imgJobEnd n upset) s = .next t) ∧
    (∃ (tag : BitVec 32) (s t : State), exec (.dcgRatioUpdate tag) s = .next t) ∧
    (∃ (s t : State), exec .motSetComplete s = .next t) ∧
    (∃ (k : Fin 4) (s t : State), exec (.substCopyDone k) s = .next t) ∧
    (∃ (s t : State), exec .substReturn s = .next t) ∧
    (∃ (m : Fin 4) (s t : State), exec (.lutInval m) s = .next t) ∧
    (∃ (m : Fin 4) (s t : State), exec (.lutCheck m) s = .next t) ∧
    (∃ (m : Fin 4) (s t : State), exec (.lutCheckDone m) s = .next t) ∧
    (∃ (s t : State), exec .lutRecheck s = .next t) ∧
    (∃ (n : Fin 5) (s t : State), ((Safety.unpatched s)) ∧ exec (.jobWatchdog n) s = .next t) ∧
    (∃ (n : Fin 5) (s t : State), ((Safety.unpatched s)) ∧ exec (.lbParity n) s = .next t) ∧
    (∃ (rod : BitVec 4) (s t : State), ((Safety.unpatched s)) ∧ exec (.substTest rod) s = .next t) :=
  ⟨⟨0, false, st [], _, rfl⟩,
    ⟨0, false, st [], _, rfl⟩,
    ⟨0, [], st [], _, rfl⟩,
    ⟨0, st [], _, rfl⟩,
    ⟨st [], _, rfl⟩,
    ⟨0, st [], _, rfl⟩,
    ⟨st [], _, rfl⟩,
    ⟨0, st [], _, rfl⟩,
    ⟨0, st [], _, rfl⟩,
    ⟨0, st [], _, rfl⟩,
    ⟨st [], _, rfl⟩,
    ⟨1, st [], _, by decide +kernel, rfl⟩,
    ⟨1, st [], _, by decide +kernel, rfl⟩,
    ⟨3, st [], _, by decide +kernel, rfl⟩⟩

theorem test_witness_next_reset_frame :
    (∃ (s t : State), exec .powerOn s = .next t) ∧
    (∃ (s t : State), exec .vddAonLoss s = .next t) ∧
    (∃ (s t : State), exec .resetN s = .next t) ∧
    (∃ (s t : State), exec .corePgLoss s = .next t) ∧
    (∃ (s t : State), exec .corePgRetry s = .next t) ∧
    (∃ (s t : State), exec .wakeN s = .next t) ∧
    (∃ (s t : State), exec .rstDevWarm s = .next t) ∧
    (∃ (s t : State), exec .thermalRestart s = .next t) ∧
    (∃ (s t : State), exec .corePgRise s = .next t) ∧
    (∃ (s t : State), exec .corePgTimeout s = .next t) ∧
    (∃ (s t : State), exec .coreResetRelease s = .next t) ∧
    (∃ (s t : State), exec .aonLeavesReset s = .next t) ∧
    (∃ (s t : State), exec .coreEnRetry s = .next t) ∧
    (∃ (rod : Fin 16) (s t : State), exec (.rodHoldClear rod) s = .next t) ∧
    (∃ (rod : Fin 16) (s t : State), exec (.rodResetRelease rod) s = .next t) ∧
    (∃ (rod : Fin 16) (s t : State), exec (.rodReady rod) s = .next t) ∧
    (∃ (rod : Fin 16) (s t : State), ((Safety.unpatched s)) ∧ exec (.rodHoldSet rod) s = .next t) ∧
    (∃ (rod : Fin 16) (s t : State), ((Safety.unpatched s)) ∧ exec (.regParity rod) s = .next t) ∧
    (∃ (silent : BitVec 16) (s t : State), ((Safety.unpatched s)) ∧ exec (.rodProbe silent) s = .next t) ∧
    (∃ (port : Fin 28) (txn : BitVec 10) (s t : State), ((Safety.unpatched s)) ∧ exec (.timeout port txn) s = .next t) ∧
    (∃ (s t : State), exec .xoLoss s = .next t) ∧
    (∃ (s t : State), exec .pcieRefLoss s = .next t) ∧
    (∃ (s t : State), exec .ethRefLoss s = .next t) ∧
    (∃ (which : Fin 3) (s t : State), exec (.refBack which) s = .next t) :=
  ⟨⟨st [], _, rfl⟩,
    ⟨st [], _, rfl⟩,
    ⟨st [], _, rfl⟩,
    ⟨st [], _, rfl⟩,
    ⟨st [], _, rfl⟩,
    ⟨st [], _, rfl⟩,
    ⟨st [], _, rfl⟩,
    ⟨st [], _, rfl⟩,
    ⟨st [], _, rfl⟩,
    ⟨st [], _, rfl⟩,
    ⟨st [], _, rfl⟩,
    ⟨st [], _, rfl⟩,
    ⟨st [], _, rfl⟩,
    ⟨0, st [], _, rfl⟩,
    ⟨0, st [], _, rfl⟩,
    ⟨0, st [], _, rfl⟩,
    ⟨9, st [], _, by decide +kernel, rfl⟩,
    ⟨9, st [], _, by decide +kernel, rfl⟩,
    ⟨5, st [], _, by decide +kernel, rfl⟩,
    ⟨5, 1, st [], _, by decide +kernel, rfl⟩,
    ⟨st [], _, rfl⟩,
    ⟨st [], _, rfl⟩,
    ⟨st [], _, rfl⟩,
    ⟨0, st [], _, rfl⟩⟩

theorem test_witness_next_recorder_frame :
    (∃ (s t : State), exec .recFormat s = .next t) ∧
    (∃ (s t : State), exec .recMount s = .next t) ∧
    (∃ (s t : State), exec .recRecord s = .next t) ∧
    (∃ (s t : State), exec .recStop s = .next t) ∧
    (∃ (s t : State), exec .recUnmount s = .next t) ∧
    (∃ (s t : State), exec .recCmdDone s = .next t) ∧
    (∃ (coder : Fin 4) (catchUp : Bool) (s t : State), exec (.rscStripeEnd coder catchUp) s = .next t) ∧
    (∃ (id : Nat) (ok : Bool) (data : List Byte) (s t : State), exec (.nvmeCompletion id ok data) s = .next t) ∧
    (∃ (id : Nat) (s t : State), exec (.nvmeCmdTimeout id) s = .next t) ∧
    (∃ (d : Fin 4) (s t : State), exec (.nvqEnable d) s = .next t) ∧
    (∃ (d : Fin 4) (mdts : Fin 256) (s t : State), exec (.nvqReady d mdts) s = .next t) ∧
    (∃ (d : Fin 4) (s t : State), exec (.nvqReadyTimeout d) s = .next t) ∧
    (∃ (rp : Fin 4) (s t : State), exec (.rpLinkDown rp) s = .next t) ∧
    (∃ (sp : Fin 3) (s t : State), exec (.prerollCatchStart sp) s = .next t) :=
  ⟨⟨st [], _, rfl⟩,
    ⟨st [], _, rfl⟩,
    ⟨st [], _, rfl⟩,
    ⟨st [], _, rfl⟩,
    ⟨st [], _, rfl⟩,
    ⟨st [], _, rfl⟩,
    ⟨0, false, st [], _, rfl⟩,
    ⟨0, false, [], st [], _, rfl⟩,
    ⟨0, st [], _, rfl⟩,
    ⟨0, st [], _, rfl⟩,
    ⟨0, 0, st [], _, rfl⟩,
    ⟨0, st [], _, rfl⟩,
    ⟨0, st [], _, rfl⟩,
    ⟨0, st [], _, rfl⟩⟩

theorem test_witness_next_codec_frame :
    (∃ (cod : Fin 2) (stream : BitVec 12) (s t : State), exec (.schedCommit cod stream) s = .next t) ∧
    (∃ (cod : Fin 2) (stream : BitVec 12) (s t : State), exec (.schedStart cod stream) s = .next t) ∧
    (∃ (cod : Fin 2) (stream : BitVec 12) (s t : State), exec (.schedStop cod stream) s = .next t) ∧
    (∃ (cod : Fin 2) (stream : BitVec 12) (s t : State), exec (.schedIdr cod stream) s = .next t) ∧
    (∃ (cod : Fin 2) (tag : BitVec 32) (s t : State), exec (.vecToExpiry cod tag) s = .next t) ∧
    (∃ (stream : BitVec 12) (tag : BitVec 32) (s t : State), exec (.pictureDeadline stream tag) s = .next t) ∧
    (∃ (cod : Fin 2) (k : Fin 4) (s t : State), exec (.encDisable cod k) s = .next t) ∧
    (∃ (r : Fin 2) (off : BitVec 30) (s t : State), exec (.decInWr r off) s = .next t) ∧
    (∃ (r : Fin 2) (au : AuInfo) (s t : State), exec (.decEntry r au) s = .next t) ∧
    (∃ (r : Fin 2) (syntaxErr conceal hashBad : Bool) (oobWrites oobReads : BitVec 32) (s t : State), exec (.decPictureDone r syntaxErr conceal hashBad oobWrites oobReads) s = .next t) ∧
    (∃ (r : Fin 2) (s t : State), exec (.decWatchdog r) s = .next t) ∧
    (∃ (r : Fin 2) (s t : State), exec (.decOutput r) s = .next t) ∧
    (∃ (r : Fin 2) (s t : State), exec (.decDisable r) s = .next t) :=
  ⟨⟨0, 0, st [], _, rfl⟩,
    ⟨0, 0, st [], _, rfl⟩,
    ⟨0, 0, st [], _, rfl⟩,
    ⟨0, 0, st [], _, rfl⟩,
    ⟨0, 0, st [], _, rfl⟩,
    ⟨0, 0, st [], _, rfl⟩,
    ⟨0, 0, st [], _, rfl⟩,
    ⟨0, 0, st [], _, rfl⟩,
    ⟨1, auOne, st [], _, rfl⟩,
    ⟨0, false, false, false, 0, 0, st [], _, rfl⟩,
    ⟨0, st [], _, rfl⟩,
    ⟨0, st [], _, rfl⟩,
    ⟨0, st [], _, rfl⟩⟩

theorem test_witness_next_output_frame :
    (∃ (r : BitVec 11) (tag : BitVec 32) (s t : State), exec (.regionComplete r tag) s = .next t) ∧
    (∃ (tag : BitVec 32) (s t : State), exec (.canvasFrameStart tag) s = .next t) ∧
    (∃ (tag : BitVec 32) (s t : State), exec (.cwaitTimeout tag) s = .next t) ∧
    (∃ (n : Fin 9) (g : Fin 16) (s t : State), exec (.guardClr n g) s = .next t) ∧
    (∃ (n : Fin 8) (s t : State), exec (.headEnable n) s = .next t) ∧
    (∃ (n : Fin 8) (s t : State), exec (.headDisable n) s = .next t) ∧
    (∃ (n : Fin 8) (s t : State), exec (.headStart n) s = .next t) ∧
    (∃ (n : Fin 8) (under : Option (BitVec 14)) (s t : State), exec (.headLineStart n under) s = .next t) ∧
    (∃ (n : Fin 8) (s t : State), exec (.headPllLock n) s = .next t) ∧
    (∃ (n : Fin 8) (s t : State), exec (.headPllUnlock n) s = .next t) ∧
    (∃ (q : Fin 4) (level : Bool) (s t : State), exec (.hpdChange q level) s = .next t) ∧
    (∃ (q : Fin 4) (lost : Bool) (s t : State), exec (.irqHpd q lost) s = .next t) ∧
    (∃ (q : Fin 4) (ok : Bool) (rate : Fin 9) (lanes : Fin 3) (s t : State), exec (.dpTrained q ok rate lanes) s = .next t) ∧
    (∃ (q : Fin 4) (len : Fin 16) (addr : BitVec 20) (s t : State), exec (.auxNativeWrite q len addr) s = .next t) ∧
    (∃ (q : Fin 4) (len : Fin 16) (addr : BitVec 20) (s t : State), exec (.auxNativeRead q len addr) s = .next t) ∧
    (∃ (q : Fin 4) (len : Fin 16) (addr : BitVec 20) (s t : State), exec (.auxI2cWrite q len addr) s = .next t) ∧
    (∃ (q : Fin 4) (len : Fin 16) (addr : BitVec 20) (s t : State), exec (.auxI2cRead q len addr) s = .next t) ∧
    (∃ (q : Fin 4) (len : Fin 16) (addr : BitVec 20) (s t : State), exec (.auxI2cWriteMot q len addr) s = .next t) ∧
    (∃ (q : Fin 4) (len : Fin 16) (addr : BitVec 20) (s t : State), exec (.auxI2cReadMot q len addr) s = .next t) ∧
    (∃ (q : Fin 4) (kind : AuxKind) (count : Fin 17) (data : List Byte) (s t : State), exec (.auxReply q kind count data) s = .next t) ∧
    (∃ (q : Fin 4) (s t : State), exec (.auxTimeout q) s = .next t) :=
  ⟨⟨0, 0, st [], _, rfl⟩,
    ⟨0, st [], _, rfl⟩,
    ⟨0, st [], _, rfl⟩,
    ⟨0, 0, st [], _, rfl⟩,
    ⟨0, st [], _, rfl⟩,
    ⟨0, st [], _, rfl⟩,
    ⟨0, st [], _, rfl⟩,
    ⟨0, none, st [], _, rfl⟩,
    ⟨0, st [], _, rfl⟩,
    ⟨0, st [], _, rfl⟩,
    ⟨0, false, st [], _, rfl⟩,
    ⟨0, false, st [], _, rfl⟩,
    ⟨0, false, 0, 0, st [], _, rfl⟩,
    ⟨0, 0, 0, st [], _, rfl⟩,
    ⟨0, 0, 0, st [], _, rfl⟩,
    ⟨0, 0, 0, st [], _, rfl⟩,
    ⟨0, 0, 0, st [], _, rfl⟩,
    ⟨0, 0, 0, st [], _, rfl⟩,
    ⟨0, 0, 0, st [], _, rfl⟩,
    ⟨3, .ack, 16, [1, 2], st [], _, rfl⟩,
    ⟨0, st [], _, rfl⟩⟩

theorem test_witness_next_network_frame :
    (∃ (e : Fin 8) (s t : State), exec (.encPictureDone e) s = .next t) ∧
    (∃ (m : Fin 4) (ptpEvent fecBad : Bool) (frame : List Byte) (s t : State), exec (.ethFrameRx m ptpEvent fecBad frame) s = .next t) ∧
    (∃ (f : BitVec 12) (late : Bool) (s t : State), exec (.flowPacketTx f late) s = .next t) ∧
    (∃ (m : Fin 4) (s t : State), exec (.ethLinkDown m) s = .next t) ∧
    (∃ (m : Fin 4) (s t : State), exec (.ethLinkUp m) s = .next t) ∧
    (∃ (s t : State), exec .tlySet s = .next t) ∧
    (∃ (neg : Bool) (s t : State), exec (.tlyAdd neg) s = .next t) ∧
    (∃ (adj : BitVec 32) (s t : State), exec (.tlyRateWrite adj) s = .next t) ∧
    (∃ (s t : State), exec .tlyNowRead s = .next t) ∧
    (∃ (m : Fin 4) (msg : PtpMsg) (s t : State), exec (.ptpMessage m msg) s = .next t) ∧
    (∃ (s t : State), exec .announceTimeout s = .next t) ∧
    (∃ (m : Fin 4) (s t : State), exec (.tsqPop m) s = .next t) ∧
    (∃ (n : Fin 16) (s t : State), exec (.trgArm n) s = .next t) ∧
    (∃ (n : Fin 16) (s t : State), exec (.trgDisarm n) s = .next t) ∧
    (∃ (n : Fin 16) (s t : State), exec (.trgFire n) s = .next t) ∧
    (∃ (n : Fin 16) (s t : State), exec (.trgPulseEnd n) s = .next t) ∧
    (∃ (j : Fin 8) (falling : Bool) (s t : State), exec (.capEdge j falling) s = .next t) ∧
    (∃ (j : Fin 8) (s t : State), exec (.capRead j) s = .next t) ∧
    (∃ (s t : State), exec .ltcFrameOut s = .next t) ∧
    (∃ (tc : BitVec 32) (s t : State), exec (.ltcInSync tc) s = .next t) ∧
    (∃ (f : BitVec 12) (s t : State), exec (.flowCommit f) s = .next t) ∧
    (∃ (m : Fin 4) (pkt : RtpPkt) (s t : State), exec (.rtpRxPacket m pkt) s = .next t) ∧
    (∃ (m : Fin 4) (req : TxStamp) (frame : List Byte) (s t : State), exec (.ptpEventMessageTx m req frame) s = .next t) :=
  ⟨⟨0, st [], _, rfl⟩,
    ⟨0, false, false, [], st [], _, rfl⟩,
    ⟨0, false, st [], _, rfl⟩,
    ⟨0, st [], _, rfl⟩,
    ⟨0, st [], _, rfl⟩,
    ⟨st [], _, rfl⟩,
    ⟨false, st [], _, rfl⟩,
    ⟨0, st [], _, rfl⟩,
    ⟨st [], _, rfl⟩,
    ⟨3, ⟨some (-5), 0xFFFFFFFF, 7, some 0x100000002, some 37⟩, st [], _, rfl⟩,
    ⟨st [], _, rfl⟩,
    ⟨0, st [], _, rfl⟩,
    ⟨0, st [], _, rfl⟩,
    ⟨0, st [], _, rfl⟩,
    ⟨0, st [], _, rfl⟩,
    ⟨0, st [], _, rfl⟩,
    ⟨0, false, st [], _, rfl⟩,
    ⟨0, st [], _, rfl⟩,
    ⟨st [], _, rfl⟩,
    ⟨0, st [], _, rfl⟩,
    ⟨0, st [], _, rfl⟩,
    ⟨0, ⟨0, 0, 65535, 9, false, false, [0x40, 1, 2]⟩, st [], _, rfl⟩,
    ⟨3, .twoStep 7, [1, 2], st [], _, rfl⟩⟩

theorem test_witness_next_audio_frame :
    (∃ (n : Fin 8) (s t : State), exec (.audPortEnable n) s = .next t) ∧
    (∃ (n : Fin 8) (s t : State), exec (.audPortStart n) s = .next t) ∧
    (∃ (n : Fin 8) (fsErr : Bool) (samples : List (BitVec 24)) (s t : State), exec (.audSampleFrame n fsErr samples) s = .next t) ∧
    (∃ (n : Fin 8) (phase : BitVec 8) (s t : State), exec (.audBlockBoundary n phase) s = .next t) ∧
    (∃ (n : Fin 8) (hz : BitVec 32) (s t : State), exec (.audMonWindow n hz) s = .next t) ∧
    (∃ (n : Fin 8) (s t : State), exec (.audClkLoss n) s = .next t) ∧
    (∃ (n : Fin 8) (s t : State), exec (.audGlitch n) s = .next t) ∧
    (∃ (n : Fin 8) (ratio : BitVec 32) (s t : State), exec (.asrcLock n ratio) s = .next t) ∧
    (∃ (g : Fin 4) (s t : State), exec (.sgArm g) s = .next t) ∧
    (∃ (g : Fin 4) (s t : State), exec (.sgDisarm g) s = .next t) ∧
    (∃ (g : Fin 4) (s t : State), exec (.sgStart g) s = .next t) ∧
    (∃ (a : Fin 8) (s t : State), exec (.audStreamBlock a) s = .next t) :=
  ⟨⟨0, st [], _, rfl⟩,
    ⟨0, st [], _, rfl⟩,
    ⟨0, false, [], st [], _, rfl⟩,
    ⟨0, 0, st [], _, rfl⟩,
    ⟨0, 0, st [], _, rfl⟩,
    ⟨0, st [], _, rfl⟩,
    ⟨0, st [], _, rfl⟩,
    ⟨0, 0, st [], _, rfl⟩,
    ⟨0, st [], _, rfl⟩,
    ⟨0, st [], _, rfl⟩,
    ⟨0, st [], _, rfl⟩,
    ⟨0, st [], _, rfl⟩⟩

theorem test_witness_next_memory_frame :
    (∃ (ch : Fin 8) (rank : Fin 2) (s t : State), exec (.refresh ch rank) s = .next t) ∧
    (∃ (ch : Fin 8) (rank : Fin 2) (s t : State), exec (.refreshPostponeLimit ch rank) s = .next t) ∧
    (∃ (ch : Fin 8) (hot : BitVec 2) (temp : BitVec 9) (s t : State), exec (.mr4Poll ch hot temp) s = .next t) ∧
    (∃ (ch : Fin 8) (errs : BitVec 10) (s t : State), exec (.scrubRead ch errs) s = .next t) ∧
    (∃ (ch : Fin 8) (s t : State), exec (.retrainTimer ch) s = .next t) ∧
    (∃ (ch : Fin 8) (works : Bool) (s t : State), exec (.stepSetDone ch works) s = .next t) ∧
    (∃ (ch : Fin 8) (s t : State), exec (.ceWindow ch) s = .next t) ∧
    (∃ (ch : Fin 8) (s t : State), exec (.safePointTimeout ch) s = .next t) ∧
    (∃ (ch : Fin 8) (sp : Fin 4) (urgent : Bool) (s t : State), exec (.freqReq ch sp urgent) s = .next t) ∧
    (∃ (ch : Fin 8) (s t : State), exec (.freqChangeDone ch) s = .next t) ∧
    (∃ (k : Fin 15) (s t : State), exec (.panicStart k) s = .next t) ∧
    (∃ (k : Fin 15) (s t : State), exec (.panicEnd k) s = .next t) ∧
    (∃ (s t : State), exec .panicLong s = .next t) ∧
    (∃ (ch : Fin 8) (s t : State), exec (.chHang ch) s = .next t) ∧
    (∃ (ch : Fin 8) (works : Bool) (s t : State), exec (.chInitDone ch works) s = .next t) ∧
    (∃ (ch : Fin 8) (s t : State), exec (.chPoisonFillDone ch) s = .next t) ∧
    (∃ (ch : Fin 8) (errs : BitVec 10) (s t : State), exec (.schedulingDecision ch errs) s = .next t) ∧
    (∃ (n : Fin 2) (slot : BitVec 8) (s t : State), exec (.dflTailWrite n slot) s = .next t) ∧
    (∃ (n : Fin 2) (s t : State), exec (.dflJobStart n) s = .next t) ∧
    (∃ (n : Fin 2) (s t : State), exec (.dflJobDone n) s = .next t) ∧
    (∃ (n : Fin 2) (s t : State), exec (.dflDisable n) s = .next t) ∧
    (∃ (d : Fin 8) (slot : BitVec 8) (s t : State), exec (.dmaTailWrite d slot) s = .next t) ∧
    (∃ (d : Fin 8) (ok : Bool) (data : List Byte) (s t : State), exec (.dmaJobDone d ok data) s = .next t) ∧
    (∃ (d : Fin 8) (s t : State), exec (.dmaDisable d) s = .next t) :=
  ⟨⟨0, 0, st [], _, rfl⟩,
    ⟨0, 0, st [], _, rfl⟩,
    ⟨0, 0, 0, st [], _, rfl⟩,
    ⟨0, 0, st [], _, rfl⟩,
    ⟨0, st [], _, rfl⟩,
    ⟨0, false, st [], _, rfl⟩,
    ⟨0, st [], _, rfl⟩,
    ⟨0, st [], _, rfl⟩,
    ⟨0, 0, false, st [], _, rfl⟩,
    ⟨0, st [], _, rfl⟩,
    ⟨0, st [], _, rfl⟩,
    ⟨0, st [], _, rfl⟩,
    ⟨st [], _, rfl⟩,
    ⟨0, st [], _, rfl⟩,
    ⟨0, false, st [], _, rfl⟩,
    ⟨0, st [], _, rfl⟩,
    ⟨0, 0, st [], _, rfl⟩,
    ⟨0, 0, st [], _, rfl⟩,
    ⟨0, st [], _, rfl⟩,
    ⟨0, st [], _, rfl⟩,
    ⟨0, st [], _, rfl⟩,
    ⟨0, 0, st [], _, rfl⟩,
    ⟨0, false, [], st [], _, rfl⟩,
    ⟨0, st [], _, rfl⟩⟩

theorem test_witness_next_mail_frame :
    (∃ (k : Fin 4) (s t : State), exec (.coreWatchdog k) s = .next t) ∧
    (∃ (s t : State), exec .hepReset s = .next t) ∧
    (∃ (s t : State), exec .msixEnable s = .next t) ∧
    (∃ (agent : Fin 6) (m : Fin 32) (n : Fin 16) (v : BitVec 32) (s t : State), exec (.mbDataWrite agent m n v) s = .next t) ∧
    (∃ (agent : Fin 6) (m : Fin 32) (len : BitVec 5) (arm : Bool) (s t : State), exec (.mbGo agent m len arm) s = .next t) ∧
    (∃ (agent : Fin 6) (m : Fin 32) (len : BitVec 5) (s t : State), exec (.mbArmWait agent m len) s = .next t) ∧
    (∃ (agent : Fin 6) (m : Fin 32) (s t : State), exec (.mbTake agent m) s = .next t) ∧
    (∃ (agent a : Fin 6) (hi : Bool) (v : BitVec 32) (s t : State), exec (.dbSet agent a hi v) s = .next t) ∧
    (∃ (agent a : Fin 6) (hi : Bool) (v : BitVec 32) (s t : State), exec (.dbClear agent a hi v) s = .next t) ∧
    (∃ (p : Fin 8) (s t : State), exec (.echo p) s = .next t) ∧
    (∃ (p : Fin 8) (s t : State), exec (.netTx p) s = .next t) ∧
    (∃ (p : Fin 8) (s t : State), exec (.netRx p) s = .next t) ∧
    (∃ (s t : State), exec .faultHistoryWrite s = .next t) ∧
    (∃ (rod : Fin 16) (s t : State), exec (.clogRecord rod) s = .next t) :=
  ⟨⟨0, st [], _, rfl⟩,
    ⟨st [], _, rfl⟩,
    ⟨st [], _, rfl⟩,
    ⟨0, 0, 0, 0, st [], _, rfl⟩,
    ⟨0, 0, 0, false, st [], _, rfl⟩,
    ⟨0, 0, 0, st [], _, rfl⟩,
    ⟨0, 0, st [], _, rfl⟩,
    ⟨0, 0, false, 0, st [], _, rfl⟩,
    ⟨0, 0, false, 0, st [], _, rfl⟩,
    ⟨0, st [], _, rfl⟩,
    ⟨0, st [], _, rfl⟩,
    ⟨0, st [], _, rfl⟩,
    ⟨st [], _, rfl⟩,
    ⟨0, st [], _, rfl⟩⟩

theorem test_witness_next_security_frame :
    (∃ (src : Option (Fin 8)) (s t : State), exec (.challenge src) s = .next t) ∧
    (∃ (src : Option (Fin 8)) (token : List Byte) (s t : State), exec (.debugUser src token) s = .next t) ∧
    (∃ (src : Option (Fin 8)) (token : List Byte) (s t : State), exec (.debugVendor src token) s = .next t) ∧
    (∃ (src : Option (Fin 8)) (token : List Byte) (vpp : Bool) (s t : State), exec (.revoke src token vpp) s = .next t) ∧
    (∃ (src : Option (Fin 8)) (token : List Byte) (vpp : Bool) (s t : State), exec (.addKey src token vpp) s = .next t) ∧
    (∃ (src : Option (Fin 8)) (token : List Byte) (vpp : Bool) (s t : State), exec (.return src token vpp) s = .next t) ∧
    (∃ (s t : State), exec .vendorWipeDone s = .next t) ∧
    (∃ (p : Fin 8) (s t : State), exec (.attest p) s = .next t) ∧
    (∃ (p : Fin 8) (s t : State), exec (.getId p) s = .next t) ∧
    (∃ (p : Fin 8) (vpp : Bool) (s t : State), exec (.provision p vpp) s = .next t) ∧
    (∃ (p : Fin 8) (vpp : Bool) (s t : State), exec (.deploy p vpp) s = .next t) ∧
    (∃ (p : Fin 8) (vpp : Bool) (s t : State), exec (.svnCommit p vpp) s = .next t) ∧
    (∃ (p : Fin 8) (s t : State), exec (.debugClose p) s = .next t) ∧
    (∃ (s t : State), exec .secDone s = .next t) ∧
    (∃ (ok : Bool) (s t : State), exec (.fuseBurnDone ok) s = .next t) ∧
    (∃ (s t : State), exec .secWatchdog s = .next t) ∧
    (∃ (op : Byte) (s t : State), exec (.jtagInstruction op) s = .next t) :=
  ⟨⟨none, st [], _, rfl⟩,
    ⟨none, [], st [], _, rfl⟩,
    ⟨none, [], st [], _, rfl⟩,
    ⟨none, [], false, st [], _, rfl⟩,
    ⟨none, [], false, st [], _, rfl⟩,
    ⟨none, [], false, st [], _, rfl⟩,
    ⟨st [], _, rfl⟩,
    ⟨0, st [], _, rfl⟩,
    ⟨0, st [], _, rfl⟩,
    ⟨0, false, st [], _, rfl⟩,
    ⟨0, false, st [], _, rfl⟩,
    ⟨0, false, st [], _, rfl⟩,
    ⟨0, st [], _, rfl⟩,
    ⟨st [], _, rfl⟩,
    ⟨false, st [], _, rfl⟩,
    ⟨st [], _, rfl⟩,
    ⟨0, st [], _, rfl⟩⟩

theorem test_witness_next_power_frame :
    (∃ (wake : BitVec 5) (s t : State), exec (.pwrRun wake) s = .next t) ∧
    (∃ (wake : BitVec 5) (s t : State), exec (.pwrHold wake) s = .next t) ∧
    (∃ (wake : BitVec 5) (s t : State), exec (.pwrDoze wake) s = .next t) ∧
    (∃ (wake : BitVec 5) (s t : State), exec (.pwrOff wake) s = .next t) ∧
    (∃ (s t : State), exec .powerDrained s = .next t) ∧
    (∃ (s t : State), ((s.get R.PWR_STAT_TARGET = pwHold ∨ s.get R.PWR_STAT_TARGET = pwDoze)) ∧ exec .powerDrained s = .next t) ∧
    (∃ (s t : State), exec .powerDrainTimeout s = .next t) ∧
    (∃ (s t : State), ((s.get R.PWR_STAT_TARGET = pwHold ∨ s.get R.PWR_STAT_TARGET = pwDoze)) ∧ exec .powerDrainTimeout s = .next t) ∧
    (∃ (s t : State), exec .dozeMemRestored s = .next t) ∧
    (∃ (obj : List Byte) (s t : State), exec (.dozeImageChecked obj) s = .next t) ∧
    (∃ (l : List TempSample) (s t : State), exec (.thmSample l) s = .next t) ∧
    (∃ (n : Fin 24) (s t : State), exec (.sensorTimeout n) s = .next t) ∧
    (∃ (s t : State), exec .graceExpiry s = .next t) ∧
    (∃ (s t : State), exec .thmStepTimer s = .next t) :=
  ⟨⟨0, st [], _, rfl⟩,
    ⟨0, st [], _, rfl⟩,
    ⟨0, st [], _, rfl⟩,
    ⟨0, st [], _, rfl⟩,
    ⟨st [], _, rfl⟩,
    ⟨st [(R.PWR_STAT_TARGET, 1)], _, by decide +kernel, rfl⟩,
    ⟨st [], _, rfl⟩,
    ⟨st [(R.PWR_STAT_TARGET, 1)], _, by decide +kernel, rfl⟩,
    ⟨st [], _, rfl⟩,
    ⟨[], st [], _, rfl⟩,
    ⟨[], st [], _, rfl⟩,
    ⟨0, st [], _, rfl⟩,
    ⟨st [], _, rfl⟩,
    ⟨st [], _, rfl⟩⟩

theorem test_witness_next_calibration_frame :
    (∃ (s t : State), exec .trimWalkStep s = .next t) ∧
    (∃ (v : BitVec 16) (s t : State), exec (.trimTargetWrite v) s = .next t) ∧
    (∃ (vref : Bool) (s t : State), exec (.calBgr vref) s = .next t) ∧
    (∃ (s t : State), exec .calXo s = .next t) ∧
    (∃ (arg : BitVec 16) (s t : State), exec (.calTs arg) s = .next t) ∧
    (∃ (arg : BitVec 16) (s t : State), exec (.calLane arg) s = .next t) ∧
    (∃ (arg : BitVec 16) (s t : State), exec (.calPll arg) s = .next t) ∧
    (∃ (s t : State), exec .calAbort s = .next t) ∧
    (∃ (mean : BitVec 32) (s t : State), exec (.xoRound mean) s = .next t) ∧
    (∃ (codes : List (Fin 7 × BitVec 16 × BitVec 16)) (s t : State), exec (.calConverged codes) s = .next t) ∧
    (∃ (s t : State), exec .calRoutineTimeout s = .next t) ∧
    (∃ (s t : State), exec .calPrecondLost s = .next t) ∧
    (∃ (p : Fin 8) (s t : State), exec (.calExport p) s = .next t) ∧
    (∃ (p : Fin 8) (readBack : Bool) (s t : State), exec (.calImport p readBack) s = .next t) ∧
    (∃ (p : Fin 8) (readBack : Bool) (s t : State), exec (.calSave p readBack) s = .next t) ∧
    (∃ (p : Fin 8) (s t : State), exec (.userRead p) s = .next t) ∧
    (∃ (p : Fin 8) (readBack : Bool) (s t : State), exec (.userWrite p readBack) s = .next t) :=
  ⟨⟨st [], _, rfl⟩,
    ⟨0, st [], _, rfl⟩,
    ⟨false, st [], _, rfl⟩,
    ⟨st [], _, rfl⟩,
    ⟨0, st [], _, rfl⟩,
    ⟨0, st [], _, rfl⟩,
    ⟨0, st [], _, rfl⟩,
    ⟨st [], _, rfl⟩,
    ⟨0, st [], _, rfl⟩,
    ⟨[], st [], _, rfl⟩,
    ⟨st [], _, rfl⟩,
    ⟨st [], _, rfl⟩,
    ⟨0, st [], _, rfl⟩,
    ⟨0, false, st [], _, rfl⟩,
    ⟨0, false, st [], _, rfl⟩,
    ⟨0, st [], _, rfl⟩,
    ⟨0, false, st [], _, rfl⟩⟩

theorem test_witness_next_patch_boot_frame :
    (∃ (s t : State), exec .patchGo s = .next t) ∧
    (∃ (s t : State), exec .patchAbort s = .next t) ∧
    (∃ (s t : State), exec .patchVerifyDone s = .next t) ∧
    (∃ (s t : State), exec .patchCheckDone s = .next t) ∧
    (∃ (s t : State), exec .patchDrainTimeout s = .next t) ∧
    (∃ (s t : State), ((bit s.patch.hdr.rodMask 0 = false)) ∧ exec .patchRestring s = .next t) ∧
    (∃ (s t : State), ((bit s.patch.hdr.rodMask 0 = false)) ∧ exec .patchDone s = .next t) ∧
    (∃ (s t : State), exec .bootStart s = .next t) ∧
    (∃ (dir : List Byte) (s t : State), exec (.flashDirRead dir) s = .next t) ∧
    (∃ (s t : State), exec .fwGo s = .next t) ∧
    (∃ (s t : State), exec .imgGo s = .next t) ∧
    (∃ (obj : List Byte) (s t : State), exec (.fwReadDone obj) s = .next t) ∧
    (∃ (obj : List Byte) (s t : State), exec (.imgReadDone obj) s = .next t) ∧
    (∃ (s t : State), exec .imgUnpackDone s = .next t) ∧
    (∃ (s t : State), exec .imgCheckDone s = .next t) ∧
    (∃ (found : List Nat) (bad : List (Fin 8 × Fin 4)) (s t : State), exec (.memTrainDone found bad) s = .next t) ∧
    (∃ (s t : State), exec .bootReady s = .next t) :=
  ⟨⟨st [], _, rfl⟩,
    ⟨st [], _, rfl⟩,
    ⟨st [], _, rfl⟩,
    ⟨st [], _, rfl⟩,
    ⟨st [], _, rfl⟩,
    ⟨st [], _, by decide +kernel, rfl⟩,
    ⟨st [], _, by decide +kernel, rfl⟩,
    ⟨st [], _, rfl⟩,
    ⟨[], st [], _, rfl⟩,
    ⟨st [], _, rfl⟩,
    ⟨st [], _, rfl⟩,
    ⟨[], st [], _, rfl⟩,
    ⟨[], st [], _, rfl⟩,
    ⟨st [], _, rfl⟩,
    ⟨st [], _, rfl⟩,
    ⟨[], [], st [], _, rfl⟩,
    ⟨st [], _, rfl⟩⟩

end
end

namespace Sys2Proof.Machine

/-! ### The reset state -/

/-- At reset no store lists a field: every field reads its reset value. -/
@[simp] theorem State.get_reset (f : Fld) : State.reset.get f = f.rst := rfl

@[simp] theorem State.inForce_reset (f : Fld) : State.reset.inForce f = f.rst := by
  unfold State.inForce
  split
  · rfl
  · exact State.get_reset f

/-- The bytes that the keep store lists at reset stand in rising order, none of them 0. -/
theorem State.keep_reset_wf : Bytes.wf State.reset.keep = true := by decide

/-- Settles O4: no store lists a field at reset, so every field reads its reset value, and the values written out are those of the
fields' own table. -/
theorem resetValues : Obligations.ResetValues := by
  unfold Obligations.ResetValues
  refine ⟨fun f => ⟨State.get_reset f, State.inForce_reset f⟩, ⟨rfl, rfl, rfl, rfl, rfl, rfl, rfl⟩, ?_⟩
  simp only [State.get_reset]
  decide

/-- Settles O5: of the stores that O5 names, only the keep store lists anything at reset. -/
theorem storesCanonicalAtReset : Obligations.StoresCanonicalAtReset := by
  unfold Obligations.StoresCanonicalAtReset Safety.storesOk
  rw [State.keep_reset_wf]
  rfl

end Sys2Proof.Machine

/-!
No command stops the device, and none touches the queue (O3).

A command changes the stores of a state through few writes (`StoreWrite`), none of which is to the queue. A state `t` evolves from `s`
(`Evolves s t`) when such writes and changes to what is no store lead from `s` to `t`. Each operation of the model carries `Evolves` on,
in one lemma of its name, and each command answers a next state that evolves from the one it is given (`Advances`). The lemmas stand in
the order of the model's files, a chapter for each.
-/

namespace Sys2Proof.Machine

/-! ### What a command may write -/

/-- The parts of a state that its commands change through few writes alone: the queue, the register stores, the memories and the
fuses. -/
structure Stores where
  pending : List Instr
  regs : List (Key × Nat)
  inf : List (Key × Nat)
  tray : Bytes
  dram : Bytes
  keep : Bytes
  fuses : Fuses

/-- The stores of a state. -/
abbrev State.stores (s : State) : Stores := ⟨s.pending, s.regs, s.inf, s.tray, s.dram, s.keep, s.fuses⟩

/-- The writes that the model makes to a state's stores. None is to the queue. -/
inductive StoreWrite : Stores → Stores → Prop
  | reg (m : Stores) (f : Fld) (v : Nat) : StoreWrite m { m with regs := mapSet keyLt f.rst m.regs f.key v }
  | inForce (m : Stores) (f : Fld) (v : Nat) : StoreWrite m { m with inf := mapSet keyLt f.rst m.inf f.key v }
  | regsOver (m : Stores) (src : List (Key × Nat)) (p : Key × Nat → Bool) :
      StoreWrite m { m with regs := mapOver keyLt src (m.regs.filter p) }
  | inForceOver (m : Stores) (src : List (Key × Nat)) (p : Key × Nat → Bool) :
      StoreWrite m { m with inf := mapOver keyLt src (m.inf.filter p) }
  | noneInForce (m : Stores) : StoreWrite m { m with inf := [] }
  | tray (m : Stores) (a : Nat) (d : List Byte) : StoreWrite m { m with tray := wrBytes m.tray a d }
  | noTray (m : Stores) : StoreWrite m { m with tray := [] }
  | dram (m : Stores) (a : Nat) (d : List Byte) : StoreWrite m { m with dram := wrBytes m.dram a d }
  | dramCleared (m : Stores) (lo hi : Nat) : StoreWrite m { m with dram := clearBytes m.dram lo hi }
  | noDram (m : Stores) : StoreWrite m { m with dram := [] }
  | keep (m : Stores) (a : Nat) (d : List Byte) : StoreWrite m { m with keep := wrBytes m.keep a d }
  | keepCleared (m : Stores) (lo hi : Nat) : StoreWrite m { m with keep := clearBytes m.keep lo hi }
  | burn (m : Stores) (w b : Nat) : StoreWrite m { m with fuses := m.fuses.burn w b }

/-- State `t` arises from `s` by such writes and by changes to what is no store. -/
def Evolves (s t : State) : Prop := Relation.ReflTransGen StoreWrite s.stores t.stores

theorem Evolves.refl (s : State) : Evolves s s := Relation.ReflTransGen.refl

section

variable {s t u : State}

/-- A change to what is no store. -/
theorem Evolves.beside (h : Evolves s t) (e : u.stores = t.stores) : Evolves s u := by
  unfold Evolves
  rw [e]
  exact h

/-! One field beside the stores: for states whose stores are dear to compute, where `beside rfl` would compute them. -/

theorem Evolves.withPics {l : List Pic} (h : Evolves s t) : Evolves s { t with pics := l } := h.beside rfl
theorem Evolves.withDecOut {d : List DecPic} {l : List (Nat × Nat × Nat)} (h : Evolves s t) :
    Evolves s { t with decs := d, decOut := l } := h.beside rfl
theorem Evolves.withUanc {l : List (Nat × List Byte)} (h : Evolves s t) : Evolves s { t with uanc := l } := h.beside rfl
theorem Evolves.withHdrs {l : List (Nat × List Byte)} (h : Evolves s t) : Evolves s { t with hdrs := l } := h.beside rfl
theorem Evolves.withDfls {l : List UtlJob} (h : Evolves s t) : Evolves s { t with dfls := l } := h.beside rfl
theorem Evolves.withDmas {l : List UtlJob} (h : Evolves s t) : Evolves s { t with dmas := l } := h.beside rfl
theorem Evolves.withDflRecs {l : List DflStrm} (h : Evolves s t) : Evolves s { t with dflRecs := l } := h.beside rfl
theorem Evolves.withRings {l : List RxRing} (h : Evolves s t) : Evolves s { t with rings := l } := h.beside rfl

/-- One more write. -/
theorem Evolves.write (h : Evolves s t) (w : StoreWrite t.stores u.stores) : Evolves s u := Relation.ReflTransGen.tail h w

theorem StoreWrite.pending_eq {m n : Stores} (w : StoreWrite m n) : n.pending = m.pending := by
  cases w <;> rfl

/-- The queue stays as it is handed over. -/
theorem Evolves.pending_eq (h : Evolves s t) : t.pending = s.pending := by
  unfold Evolves at h
  suffices ∀ n, Relation.ReflTransGen StoreWrite s.stores n → n.pending = s.pending from this t.stores h
  intro n hn
  induction hn with
  | refl => rfl
  | tail _ w ih => exact w.pending_eq.trans ih

theorem Evolves.ite {c : Prop} [Decidable c] (ht : Evolves s t) (hu : Evolves s u) : Evolves s (if c then t else u) := by
  split
  · exact ht
  · exact hu

/-- A change made for each element of a list. -/
theorem Evolves.foldl {α : Type} {g : State → α → State} {l : List α} (h : Evolves s t)
    (hg : ∀ u x, Evolves s u → Evolves s (g u x)) : Evolves s (l.foldl g t) := by
  induction l generalizing t with
  | nil => exact h
  | cons x l ih => exact ih (hg t x h)

/-- A change made for each element of a list, to a value that holds a state. -/
theorem Evolves.foldlOn {α β : Type} (get : β → State) {g : β → α → β} {l : List α} {b : β} (h : Evolves s (get b))
    (hg : ∀ b x, Evolves s (get b) → Evolves s (get (g b x))) : Evolves s (get (l.foldl g b)) := by
  induction l generalizing b with
  | nil => exact h
  | cons x l ih => exact ih (hg b x h)

theorem Evolves.iteOn {β : Type} (get : β → State) {c : Prop} [Decidable c] {a b : β} (ha : Evolves s (get a))
    (hb : Evolves s (get b)) : Evolves s (get (if c then a else b)) := by
  split
  · exact ha
  · exact hb

/-- The state of a pair that is known. -/
theorem Evolves.ofPair {α : Type} {p : α × State} {a : α} (h : Evolves s p.2) (e : p = (a, t)) : Evolves s t := by
  rw [e] at h
  exact h

theorem Evolves.set {f : Fld} {v : Nat} (h : Evolves s t) : Evolves s (t.set f v) := h.write (.reg _ f _)

theorem Evolves.setInf {f : Fld} {v : Nat} (h : Evolves s t) : Evolves s (t.setInf f v) := h.write (.inForce _ f _)

/-- A command answers a next state that evolves from `s`. -/
def Advances (s : State) (r : Res) : Prop := ∃ t, r = .next t ∧ Evolves s t

theorem Advances.next (h : Evolves s t) : Advances s (.next t) := ⟨t, rfl, h⟩

theorem Advances.ite {c : Prop} [Decidable c] {a b : Res} (ha : Advances s a) (hb : Advances s b) :
    Advances s (if c then a else b) := by
  split
  · exact ha
  · exact hb

/-! ### The shared operations -/

theorem Evolves.sets {l : List (Fld × Nat)} (h : Evolves s t) : Evolves s (t.sets l) := h.foldl fun _ _ hu => hu.set

theorem Evolves.inc {f : Fld} (h : Evolves s t) : Evolves s (t.inc f) := h.set

theorem Evolves.addSat {f : Fld} {n : Nat} (h : Evolves s t) : Evolves s (t.addSat f n) := h.set

theorem Evolves.when {b : Bool} {g : State → State} (h : Evolves s t) (hg : ∀ u, Evolves s u → Evolves s (g u)) :
    Evolves s (t.when b g) :=
  .ite (hg _ h) h

theorem Evolves.emit {o : Out} (h : Evolves s t) : Evolves s (t.emit o) := h.beside rfl

theorem Evolves.drawn (h : Evolves s t) : Evolves s t.drawn := h.beside rfl

theorem Evolves.msix {v : Nat} (h : Evolves s t) : Evolves s (t.msix v) := .ite (.ite (h.beside rfl) h.emit) h

theorem Evolves.raise {e : E.Src} (h : Evolves s t) : Evolves s (t.raise e) := by
  refine .ite h ?_
  extract_lets _ _ s1 s2
  have hs1 : Evolves s s1 := h.set
  have hs2 : Evolves s s2 := .ite (.emit (hs1.beside rfl)) hs1
  exact .ite hs2.msix hs2

theorem Evolves.raiseIf {b : Bool} {e : E.Src} (h : Evolves s t) : Evolves s (t.raiseIf b e) := .ite h.raise h

theorem Evolves.commitWhere {p : Key → Bool} (h : Evolves s t) :
    Evolves s (t.commitWhere p) := h.write (.inForceOver _ _ _)

theorem Evolves.commitDom {rod d : Nat} (h : Evolves s t) : Evolves s (t.commitDom rod d) := h.commitWhere

theorem Evolves.clearPend {rod d : Nat} (h : Evolves s t) : Evolves s (t.clearPend rod d) := h.set

theorem Evolves.commitBad {rod d rule : Nat} (h : Evolves s t) : Evolves s (t.commitBad rod d rule) := by
  unfold State.commitBad
  extract_lets s1
  have hs1 : Evolves s s1 := .ite h h.set.set.set
  exact hs1.inc.raise

theorem Evolves.tryCommit {rod d : Nat} {rules : List (Nat × Bool)} (h : Evolves s t) :
    Evolves s (t.tryCommit rod d rules).1 := by
  unfold State.tryCommit
  split
  · exact h.clearPend.commitBad
  · exact h.clearPend.commitDom

theorem Evolves.commitAt {rod d : Nat} {rules : State → (Fld → Nat) → Nat → List (Nat × Bool)} (h : Evolves s t) :
    Evolves s (t.commitAt rod d rules) :=
  .ite h.tryCommit h

theorem Evolves.wrRange {rod addr : Nat} (h : Evolves s t) : Evolves s (t.wrRange rod addr) := by
  unfold State.wrRange
  extract_lets _ s1
  have hs1 : Evolves s s1 := .ite h h.set.set
  exact hs1.inc.raise

theorem Evolves.record {r : ClogRec} (h : Evolves s t) : Evolves s (t.record r) := .ite (h.beside rfl) h.set.set.inc.raise

theorem Evolves.beginJob {j : Job} (h : Evolves s t) : Evolves s (t.beginJob j) := .record (h.beside rfl)

theorem Evolves.endJob {j : Job} {status : Nat} (h : Evolves s t) : Evolves s (t.endJob j status) := .record (h.beside rfl)

/-! ### The Tray -/

theorem Evolves.trayDeny {port : Nat} {wr : Bool} {gran : Nat} (h : Evolves s t) : Evolves s (t.trayDeny port wr gran) := by
  unfold State.trayDeny
  extract_lets s1
  have hs1 : Evolves s s1 := .ite h h.set.set.set
  exact hs1.set.inc.raise

theorem Evolves.trayUnc {gran : Nat} (h : Evolves s t) : Evolves s (t.trayUnc gran) := h.set.set.raise

theorem Evolves.trayCor (h : Evolves s t) : Evolves s t.trayCor := h.set.inc.raise

theorem Evolves.trayStore {a : Nat} {d : List Byte} (h : Evolves s t) :
    Evolves s (t.trayStore a d) := by
  unfold State.trayStore
  extract_lets _ part s1
  have hs1 : Evolves s s1 := h.write (.tray _ a d)
  clear_value part
  split
  · exact hs1
  · exact hs1.trayUnc

theorem Evolves.trayReadAs {rod port a n : Nat} (h : Evolves s t) : Evolves s (t.trayReadAs rod port a n).2.2 := by
  unfold State.trayReadAs
  split
  · exact h.trayDeny
  · split
    · exact h
    · exact h.trayUnc

theorem Evolves.trayWriteAs {rod port a : Nat} {d : List Byte} (h : Evolves s t) :
    Evolves s (t.trayWriteAs rod port a d).2 := by
  unfold State.trayWriteAs
  split
  · exact h.trayDeny
  · exact h.trayStore

theorem Evolves.rodUse {rod a n : Nat} (h : Evolves s t) : Evolves s (t.rodUse rod a n) := h.trayReadAs

theorem Evolves.trayPut {rod a : Nat} {d : List Byte} (h : Evolves s t) : Evolves s (t.trayPut rod a d) := h.trayWriteAs

/-! ### Host accesses to registers -/

theorem Evolves.preset {p : PresetRec} (h : Evolves s t) : Evolves s (t.preset p) := by
  unfold State.preset
  split
  · exact .ite h (h.foldl fun _ _ hu => .ite hu.set hu)
  · exact h

theorem Evolves.hostRetired (h : Evolves s t) : Evolves s t.hostRetired := h.set.inc.raise

theorem Evolves.hostTo {rod : Nat} {g : State → State} (h : Evolves s t) (hg : ∀ u, Evolves s u → Evolves s (g u)) :
    Evolves s (t.hostTo rod g) :=
  .ite h (.ite (hg _ h) h.hostRetired)

theorem Evolves.hostToBead {rod bead : Nat} {g : State → State} (h : Evolves s t)
    (hg : ∀ u, Evolves s u → Evolves s (g u)) :
    Evolves s (t.hostToBead rod bead g) :=
  h.hostTo fun _ hu => .ite (hg _ hu) hu

theorem Evolves.hostRead {rod : Nat} {g : State → Nat × State} (h : Evolves s t)
    (hg : ∀ u, Evolves s u → Evolves s (g u).2) :
    Evolves s (t.hostRead rod g) :=
  .ite h (.ite (.emit (hg _ h)) h.hostRetired.emit)

theorem Evolves.hostReadBead {rod bead : Nat} {g : State → Nat × State} (h : Evolves s t)
    (hg : ∀ u, Evolves s u → Evolves s (g u).2) :
    Evolves s (t.hostReadBead rod bead g) :=
  h.hostRead fun _ hu => .iteOn Prod.snd (hg _ hu) hu

/-! ### The DRAM channels -/

theorem Evolves.bwCheck (h : Evolves s t) : Evolves s t.bwCheck := by
  unfold State.bwCheck
  extract_lets _ _ above
  have habove : Evolves s above := h.set.set
  exact .ite habove.set.raise habove

theorem Evolves.setCwBad {w : Nat} {bad : Bool} (h : Evolves s t) : Evolves s (t.setCwBad w bad) :=
  .ite h (.ite (h.beside rfl) (h.beside rfl))

theorem Evolves.dramPutByte {region off : Nat} {b : Byte} (h : Evolves s t) :
    Evolves s (t.dramPutByte region off b) := by
  unfold State.dramPutByte
  split
  · exact h.write (.dram _ _ [b])
  · exact h

theorem Evolves.dramPut {region off : Nat} {d : List Byte} (h : Evolves s t) : Evolves s (t.dramPut region off d) := by
  unfold State.dramPut
  extract_lets s1
  have hs1 : Evolves s s1 := h.foldl fun _ _ hu => hu.dramPutByte
  exact hs1.foldl fun _ _ hu => by
      extract_lets _
      refine .ite ?_ hu
      split
      · exact hu.setCwBad
      · exact hu

theorem Evolves.pendChange {ch sp down : Nat} (h : Evolves s t) : Evolves s (t.pendChange ch sp down) := h.set.set.set.set

theorem Evolves.stepDown {ch : Nat} (h : Evolves s t) : Evolves s (t.stepDown ch) := by
  unfold State.stepDown
  split
  · exact h.pendChange
  · exact h.set.raise

theorem Evolves.memCe {ch d : Nat} (h : Evolves s t) : Evolves s (t.memCe ch d) := by
  unfold State.memCe
  extract_lets s1 s2 s3
  have hs1 : Evolves s s1 := h.set.inc.set
  have hs2 : Evolves s s2 := hs1.set.set
  have hs3 : Evolves s s3 := .ite (hs2.set.raise.when fun _ hu => hu.stepDown) hs2
  exact .ite hs3.set.set.set.raise hs3

theorem Evolves.memUe {ch cw : Nat} (h : Evolves s t) : Evolves s (t.memUe ch cw) := h.set.inc.set.raise

theorem Evolves.memDecode {ch cw errs : Nat} (h : Evolves s t) : Evolves s (t.memDecode ch cw errs).2 := by
  refine .iteOn Prod.snd h ?_
  split
  · exact h
  · exact h.memCe
  · exact h.memUe

theorem Evolves.finishRead {p : RdPart} (h : Evolves s t) : Evolves s (t.finishRead p) := by
  unfold State.finishRead
  extract_lets +onlyGivenNames _
  refine .ite ?_ h
  extract_lets _
  exact .emit (h.beside rfl)

theorem Evolves.donePart {p : RdPart} (h : Evolves s t) : Evolves s (t.donePart p) := .finishRead (h.beside rfl)

theorem Evolves.memRead {ch port txn cls x n : Nat} (h : Evolves s t) : Evolves s (t.memRead ch port txn cls x n).1 := by
  unfold State.memRead
  extract_lets _
  exact .iteOn Prod.fst h (h.foldl fun _ _ hu => by
      extract_lets _ _
      exact .ite hu.donePart (.set (hu.beside rfl)))

theorem Evolves.memWrite {ch cls x : Nat} {d : List Byte} (h : Evolves s t) : Evolves s (t.memWrite ch cls x d).1 := by
  unfold State.memWrite
  extract_lets _ _
  exact .iteOn Prod.fst h (h.foldl fun _ _ hu => by
      extract_lets _
      split
      · exact hu.beside rfl
      · exact .set (hu.beside rfl))

theorem Evolves.openRow {ch x : Nat} (h : Evolves s t) : Evolves s (t.openRow ch x) := by
  unfold State.openRow
  extract_lets _ _
  exact h.beside rfl

theorem Evolves.issueRead {e : RdEnt} {errs : Nat} (h : Evolves s t) : Evolves s (t.issueRead e errs) := by
  unfold State.issueRead
  extract_lets s0
  have hs0 : Evolves s s0 := .openRow (h.beside rfl)
  split
  next _ s1 e =>
    have hs1 : Evolves s s1 := .ofPair hs0.memDecode e
    extract_lets _
    exact hs1.donePart

theorem Evolves.issueWrite {e : WrEnt} {errs : Nat} (h : Evolves s t) :
    Evolves s (t.issueWrite e errs) := by
  unfold State.issueWrite
  extract_lets +onlyGivenNames s0 w put
  have hs0 : Evolves s s0 := .openRow (h.beside rfl)
  have hput : ∀ u, Evolves s u → Evolves s (put u) := fun _ hu => hu.write (.dram _ _ _)
  refine .ite (.setCwBad (hput _ hs0)) ?_
  extract_lets _
  split
  next _ s1 e =>
    have hs1 : Evolves s s1 := .ofPair hs0.memDecode e
    extract_lets s2
    have hs2 : Evolves s s2 := .setCwBad (hput _ hs1.inc)
    exact hs2.when fun _ hu => hu.set

theorem Evolves.share {ch : Nat} {c : Cand} (h : Evolves s t) : Evolves s (t.share ch c) := .ite h.set (.ite h.set h)

theorem advances_execSchedulingDecision {ch : Fin 8} {errs : BitVec 10} (h : Evolves s t) :
    Advances s (execSchedulingDecision ch errs t) := by
  refine .next (.ite ?_ h)
  extract_lets _ s0
  have hs0 : Evolves s s0 := h.set
  split
  · exact hs0.share.issueRead
  · exact hs0.share.issueWrite
  · exact hs0

theorem Evolves.startStep {ch : Nat} (h : Evolves s t) : Evolves s (t.startStep ch) := h.set.set.set.set

theorem Evolves.dueStep {ch : Nat} (h : Evolves s t) : Evolves s (t.dueStep ch) := by
  unfold State.dueStep
  extract_lets _
  exact .ite (.ite h.set h.startStep) (.ite h.set h)

theorem Evolves.drainWrites {ch : Nat} (h : Evolves s t) : Evolves s (t.drainWrites ch) :=
  h.foldl fun _ _ hu => by
    split
    · exact hu.issueWrite
    · exact hu

theorem Evolves.startChange {ch sp down : Nat} (h : Evolves s t) : Evolves s (t.startChange ch sp down) := by
  unfold State.startChange
  extract_lets s1
  have hs1 : Evolves s s1 := h.drainWrites
  exact .set (.set (.set (.set (.set (hs1.beside rfl)))))

theorem Evolves.freqReq {ch sp : Nat} {urgent : Bool} (h : Evolves s t) : Evolves s (t.freqReq ch sp urgent) := by
  refine .ite h.wrRange ?_
  extract_lets _
  exact .ite h.set.set (.ite h.set.set.set.startChange (.ite h.startChange h.pendChange))

theorem advances_execFreqReq {ch : Fin 8} {sp : Fin 4} {urgent : Bool} (h : Evolves s t) :
    Advances s (execFreqReq ch sp urgent t) :=
  .next (h.hostToBead fun _ hu => hu.freqReq)

theorem Evolves.freqChangeDone {ch : Nat} (h : Evolves s t) : Evolves s (t.freqChangeDone ch) := by
  refine .ite ?_ h
  extract_lets _ s1 s2 s3 _ s4
  have hs1 : Evolves s s1 := h.set.set.set.set
  have hs2 : Evolves s s2 := hs1.raise.when fun _ hu => hu.set.set.raise
  have hs3 : Evolves s s3 := hs2.bwCheck
  have hs4 : Evolves s s4 := hs3.set
  refine .ite ?_ (hs4.when fun _ hu => hu.startStep)
  exact .ite hs4.startChange (hs4.pendChange.when fun _ hu => hu.startStep)

theorem advances_execRetrainTimer {ch : Fin 8} (h : Evolves s t) : Advances s (execRetrainTimer ch t) := .next h.dueStep

theorem advances_execStepSetDone {ch : Fin 8} {works : Bool} (h : Evolves s t) :
    Advances s (execStepSetDone ch works t) := by
  refine .next (.ite ?_ h)
  extract_lets s1
  have hs1 : Evolves s s1 := h.set.set
  exact .ite hs1.set hs1.set.set.raise

theorem advances_execCeWindow {ch : Fin 8} (h : Evolves s t) : Advances s (execCeWindow ch t) :=
  .next (h.set.foldl fun _ _ hu => hu.set)

theorem advances_execSafePointTimeout {ch : Fin 8} (h : Evolves s t) : Advances s (execSafePointTimeout ch t) :=
  .next (h.when fun _ hu => hu.set)

theorem Evolves.refreshPoint {ch : Nat} (h : Evolves s t) : Evolves s (t.refreshPoint ch) := by
  unfold State.refreshPoint
  extract_lets +onlyGivenNames s1 _
  have hs1 : Evolves s s1 := .ite h.tryCommit h
  refine .ite ?_ (hs1.when fun _ hu => hu.startStep)
  extract_lets s2
  have hs2 : Evolves s s2 := hs1.when fun _ hu => hu.set
  exact hs2.startChange

theorem Evolves.refresh {ch rank : Nat} (h : Evolves s t) : Evolves s (t.refresh ch rank) := by
  unfold State.refresh
  extract_lets _ _ s1 s2
  have hs1 : Evolves s s1 := h.beside rfl
  have hs2 : Evolves s s2 := hs1.when fun _ hu => hu.set
  exact .ite hs2.refreshPoint hs2

theorem advances_execRefresh {ch : Fin 8} {rank : Fin 2} (h : Evolves s t) : Advances s (execRefresh ch rank t) := by
  refine .next (.ite ?_ h)
  extract_lets _
  exact .ite h.set h.set.refresh

theorem advances_execRefreshPostponeLimit {ch : Fin 8} {rank : Fin 2} (h : Evolves s t) :
    Advances s (execRefreshPostponeLimit ch rank t) := by
  refine .next (.ite ?_ h)
  extract_lets _
  exact h.set.foldl fun _ _ hu => .ite hu.refresh hu

theorem advances_execMr4Poll {ch : Fin 8} {hot : BitVec 2} {temp : BitVec 9} (h : Evolves s t) :
    Advances s (execMr4Poll ch hot temp t) := by
  refine .next (.ite ?_ h)
  extract_lets _ s1 _
  have hs1 : Evolves s s1 := h.set.set.set
  exact hs1.when fun _ hu => hu.dueStep

theorem advances_execScrubRead {ch : Fin 8} {errs : BitVec 10} (h : Evolves s t) :
    Advances s (execScrubRead ch errs t) := by
  refine .next (.ite ?_ h)
  extract_lets _
  exact h.memDecode.set

theorem advances_execPanicStart {k : Fin 15} (h : Evolves s t) : Advances s (execPanicStart k t) := .next (.ite h.set.set h)

theorem advances_execPanicEnd {k : Fin 15} (h : Evolves s t) : Advances s (execPanicEnd k t) := by
  refine .next ?_
  extract_lets _ s1
  have hs1 : Evolves s s1 := h.set
  exact .ite hs1.set.set hs1

theorem advances_execPanicLong (h : Evolves s t) : Advances s (execPanicLong t) := .next (.ite h.set.inc.set.raise h)

theorem Evolves.chanReset {ch : Nat} (h : Evolves s t) : Evolves s (t.chanReset ch) := by
  refine .ite h ?_
  extract_lets _ s1 s2 s3 s4 s5
  have hs1 : Evolves s s1 := h.foldl fun _ _ hu => hu.emit
  have hs2 : Evolves s s2 := hs1.beside rfl
  have hs3 : Evolves s s3 := hs2.foldl fun _ _ hu => hu.set
  have hs4 : Evolves s s4 := hs3.set.set.set
  have hs5 : Evolves s s5 := by
    refine .ite ?_ hs4
    split
    · exact hs4.set
    · exact hs4.set.raise
  exact hs5.raise

theorem advances_execChHang {ch : Fin 8} (h : Evolves s t) : Advances s (execChHang ch t) := .next h.chanReset

theorem advances_execChInitDone {ch : Fin 8} {works : Bool} (h : Evolves s t) : Advances s (execChInitDone ch works t) := by
  refine .next (.ite ?_ h)
  extract_lets _ s1 s2
  have hs1 : Evolves s s1 := .ite h h.set.set.set
  have hs2 : Evolves s s2 := hs1.set
  exact .ite hs2.set hs2.set.set.raise

theorem advances_execChPoisonFillDone {ch : Fin 8} (h : Evolves s t) :
    Advances s (execChPoisonFillDone ch t) := by
  refine .next (.ite ?_ h)
  extract_lets s1 s2
  have hs1 : Evolves s s1 := h.write (.dramCleared _ _ _)
  have hs2 : Evolves s s2 := hs1.set.set.set.set.set
  exact .ite hs2.set.set.raise.bwCheck hs2

/-! ### Pictures of the source -/

theorem Evolves.modFrame {tag : Nat} {g : Frame → Frame} (h : Evolves s t) : Evolves s (t.modFrame tag g) := h.beside rfl

theorem Evolves.writeEntry {rod tag k buf st src : Nat} (h : Evolves s t) :
    Evolves s (t.writeEntry rod tag k buf st src) := by
  unfold State.writeEntry
  split
  · refine .ite ?_ h
    extract_lets _
    exact h.trayPut.trayPut
  · exact h

theorem Evolves.stsConceal {tag k : Nat} (h : Evolves s t) : Evolves s (t.stsConceal tag k) := by
  unfold State.stsConceal
  split
  · refine .ite ?_ h
    extract_lets _ _
    exact h.trayPut
  · exact h

theorem Evolves.stsRecord {tag : Nat} (h : Evolves s t) : Evolves s (t.stsRecord tag) := by
  unfold State.stsRecord
  split
  · exact .ite h.trayPut h
  · exact h

theorem Evolves.picClosed {tag : Nat} (h : Evolves s t) : Evolves s (t.picClosed tag) := by
  unfold State.picClosed
  extract_lets s1
  have hs1 : Evolves s s1 := h.stsRecord
  split
  · exact .ite hs1.trayPut hs1
  · exact hs1

theorem Evolves.conceal {tag k : Nat} (h : Evolves s t) : Evolves s (t.conceal tag k) := by
  unfold State.conceal
  split
  · refine .ite ?_ h
    extract_lets s1 s2
    have hs1 : Evolves s s1 := h.modFrame
    have hs2 : Evolves s s2 := hs1.writeEntry.stsConceal
    exact hs2.stsRecord.when fun _ hu => hu.inc
  · exact h

theorem Evolves.picNobuf (h : Evolves s t) : Evolves s t.picNobuf := h.set.inc.raise

theorem Evolves.stsPending {f : Frame} {blk : Nat} (h : Evolves s t) : Evolves s (t.stsPending f blk) :=
  h.foldl fun _ _ hu => by
    extract_lets _
    exact hu.trayPut

theorem Evolves.picStart {f : Frame} (h : Evolves s t) :
    Evolves s (t.picStart f) := by
  unfold State.picStart
  extract_lets +onlyGivenNames _ _ s1
  have hs1 : Evolves s s1 := .ite h.trayPut.stsPending.set h
  refine .ite ?_ (.picNobuf hs1.withPics)
  extract_lets buf s2 s3
  have hs2 : Evolves s s2 := hs1.trayPut.set
  have hs3 : Evolves s s3 := hs2.withPics
  clear_value buf
  split
  · exact hs3.set
  · exact hs3.picNobuf

/-! ### Composition -/

theorem Evolves.composeUse {n y : Nat} (h : Evolves s t) : Evolves s (t.composeUse n y) := h.foldl fun _ _ hu => hu.rodUse

/-! ### The encoders' scheduler -/

theorem Evolves.modStrm {n : Nat} {g : Strm → Strm} (h : Evolves s t) : Evolves s (t.modStrm n g) := h.beside rfl

theorem Evolves.withStrm {n : Nat} (h : Evolves s t) : Evolves s (t.withStrm n) := .ite h (h.beside rfl)

theorem Evolves.putStatus {rod n : Nat} (h : Evolves s t) : Evolves s (t.putStatus rod n) := by
  unfold State.putStatus
  split
  · exact h.trayPut
  · exact h

theorem Evolves.commitDesc {rod n : Nat} (h : Evolves s t) : Evolves s (t.commitDesc rod n) := by
  unfold State.commitDesc
  extract_lets _ _ _ s1
  have hs1 : Evolves s s1 := h.modStrm
  split
  · extract_lets s2
    have hs2 : Evolves s s2 := .ite hs1 hs1.set.set.set
    exact hs2.raise
  · exact hs1.trayPut.modStrm

theorem Evolves.dueMark (h : Evolves s t) : Evolves s t.dueMark := h.beside rfl

theorem Evolves.encStart {e : Nat} {c : Strm × Due × Time} (h : Evolves s t) : Evolves s (t.encStart e c) := by
  unfold State.encStart
  extract_lets +onlyGivenNames _ _ _ _ s1
  have hs1 : Evolves s s1 := h.commitAt.commitAt
  refine .ite hs1 ?_
  extract_lets +onlyGivenNames s2 _ _ _
  have hs2 : Evolves s s2 := .ite hs1.commitDesc hs1
  split
  · exact hs2
  · extract_lets _ _ _ _ _ s3 s4 s5
    have hs3 : Evolves s s3 := hs2.modStrm.beginJob
    have hs4 : Evolves s s4 := hs3.sets
    have hs5 : Evolves s s5 := .ite hs4.set.inc.raise hs4
    exact .ite hs5.set.inc.raise hs5

theorem Evolves.encRelease (h : Evolves s t) : Evolves s t.encRelease := by
  unfold State.encRelease
  extract_lets _ s1
  have hs1 : ∀ u y, Evolves s u → Evolves s (s1 u y) := fun _ _ hu => by
      refine .ite hu ?_
      extract_lets s1
      have hs1 : Evolves s s1 := hu.foldl fun _ _ hv => by
          split
          · exact .ite hv hv.trayPut
          · exact hv
      exact hs1.beside rfl
  exact hs1 _ _ (hs1 _ _ h)

theorem Evolves.encKick (h : Evolves s t) : Evolves s t.encKick := by
  unfold State.encKick
  extract_lets s1
  have hs1 : Evolves s s1 := h.dueMark.foldl fun _ _ hu => by
      refine .ite ?_ hu
      split
      · exact hu.encStart
      · exact hu
  exact hs1.encRelease

theorem Evolves.encDue {p : Desc → Bool} {tag : Nat} (h : Evolves s t) : Evolves s (t.encDue p tag) := by
  unfold State.encDue
  extract_lets d
  have hd : Evolves s d := h.beside rfl
  exact hd.encKick

theorem Evolves.encSource {tag : Nat} (h : Evolves s t) : Evolves s (t.encSource tag) := h.encDue

theorem Evolves.encCut {e : Nat} (h : Evolves s t) : Evolves s (t.encCut e) := by
  unfold State.encCut
  extract_lets _ _
  split
  · split
    · extract_lets s1
      have hs1 : Evolves s s1 := h.modStrm.endJob
      exact hs1.set.set.raise
    · exact h
  · exact h

theorem Evolves.schedIgn {r : Nat} (h : Evolves s t) : Evolves s (t.schedIgn r) := h.set.raise

theorem Evolves.sched {cod stream : Nat} {g : State → State} (h : Evolves s t) (hg : ∀ u, Evolves s u → Evolves s (g u)) :
    Evolves s (t.sched cod stream g) :=
  h.hostTo fun _ hu => .ite hu.wrRange (.encKick (hg _ hu.withStrm))

theorem advances_execSchedCommit {cod : Fin 2} {stream : BitVec 12} (h : Evolves s t) :
    Advances s (execSchedCommit cod stream t) :=
  .next (h.sched fun _ hu => by
    extract_lets _
    exact .ite hu.modStrm hu.commitDesc)

theorem advances_execSchedStart {cod : Fin 2} {stream : BitVec 12} (h : Evolves s t) :
    Advances s (execSchedStart cod stream t) :=
  .next (h.sched fun _ hu => by
    extract_lets +onlyGivenNames _
    refine .ite hu.schedIgn ?_
    extract_lets _
    exact hu.drawn.modStrm)

theorem advances_execSchedIdr {cod : Fin 2} {stream : BitVec 12} (h : Evolves s t) :
    Advances s (execSchedIdr cod stream t) :=
  .next (h.sched fun _ hu => by
    extract_lets _
    exact .ite hu.modStrm hu.schedIgn)

theorem Evolves.regionReport {r tag : Nat} (h : Evolves s t) : Evolves s (t.regionReport r tag) := by
  unfold State.regionReport
  extract_lets +onlyGivenNames _ _
  refine .ite ?_ h.modStrm.encKick
  extract_lets s1
  have hs1 : Evolves s s1 := .ite h h.set.set
  exact hs1.inc.raise

theorem advances_execVecToExpiry {cod : Fin 2} {tag : BitVec 32} (h : Evolves s t) :
    Advances s (execVecToExpiry cod tag t) :=
  .next (.ite h (.encKick (h.beside rfl)))

theorem advances_execPictureDeadline {stream : BitVec 12} {tag : BitVec 32} (h : Evolves s t) :
    Advances s (execPictureDeadline stream tag t) :=
  .next h.modStrm.encKick

theorem Evolves.encIdle {cod k : Nat} (h : Evolves s t) : Evolves s (t.encIdle cod k) := by
  unfold State.encIdle
  extract_lets s1
  have hs1 : Evolves s s1 := h.commitAt
  exact .ite hs1.commitAt hs1

theorem advances_execEncDisable {cod : Fin 2} {k : Fin 4} (h : Evolves s t) : Advances s (execEncDisable cod k t) :=
  .next (h.hostToBead fun _ hu => by
    extract_lets s1
    have hs1 : Evolves s s1 := hu.set.setInf
    exact hs1.encCut.encRelease.encIdle.encKick)

/-! ### The decoders -/

theorem advances_execDecInWr {r : Fin 2} {off : BitVec 30} (h : Evolves s t) : Advances s (execDecInWr r off t) :=
  .next (h.hostToBead fun _ hu => .ite hu.set hu.wrRange)

theorem Evolves.modDec {r : Nat} {g : DecJob → DecJob} (h : Evolves s t) : Evolves s (t.modDec r g) := h.beside rfl

theorem Evolves.decPrune (h : Evolves s t) : Evolves s t.decPrune := h.beside rfl

theorem Evolves.bump {r : Nat} (h : Evolves s t) : Evolves s (t.bump r) := by
  unfold State.bump
  split
  · exact h.beside rfl
  · exact h

theorem Evolves.bumpWhile {r n : Nat} {p : State → Bool} (h : Evolves s t) :
    Evolves s (Machine.bumpWhile r p n t) := by
  induction n generalizing t with
  | zero => exact h
  | succ n ih => exact .ite (ih h.bump.decPrune) h

theorem Evolves.decErr {r : Nat} {f : Fld} {e : E.Src} (h : Evolves s t) : Evolves s (t.decErr r f e) := h.set.inc.raise

theorem Evolves.decTarget {r : Nat} {k : Option Int} (h : Evolves s t) : Evolves s (t.decTarget r k) := by
  unfold State.decTarget
  split
  · exact h.set.set.set
  · exact h.set

theorem Evolves.decDamage {r : Nat} (h : Evolves s t) : Evolves s (t.decDamage r) := h.decTarget.set

theorem Evolves.decGen {r num : Nat} {poc : Int} (h : Evolves s t) : Evolves s (t.decGen r num poc) := by
  unfold State.decGen
  extract_lets _ s1
  have hs1 : Evolves s s1 := h.beside rfl
  exact hs1.set.inc.raise.decDamage

theorem Evolves.decKick {r : Nat} (h : Evolves s t) : Evolves s (t.decKick r) := by
  unfold State.decKick
  split
  · refine .ite h ?_
    split
    · exact h.set
    · extract_lets _
      exact h.drawn.modDec.set
  · exact h

theorem Evolves.decKickAll (h : Evolves s t) : Evolves s t.decKickAll := h.decKick.decKick

theorem Evolves.decStart {r : Nat} {d : List Byte} {au : AuInfo} (h : Evolves s t) : Evolves s (t.decStart r d au) := by
  unfold State.decStart
  extract_lets _ _ _ _ s1 s2 s3 _ s4 _ s5 _ s6 _ _
  have hs1 : Evolves s s1 := h.set
  have hs2 : Evolves s s2 := hs1.beside rfl
  have hs3 : Evolves s s3 := hs2.decPrune
  have hs4 : Evolves s s4 := .ite hs3.bumpWhile hs3.bumpWhile
  have hs5 : Evolves s s5 := hs4.foldl fun _ _ hu => hu.decGen
  have hs6 : Evolves s s6 := by
    unfold s6
    split
    · exact .ite hs5.decTarget hs5
    · exact hs5
  exact .decKick (.beginJob (hs6.beside rfl))

theorem Evolves.decEntry {r : Nat} {d : List Byte} {au : AuInfo} (h : Evolves s t) : Evolves s (t.decEntry r d au) := by
  refine .ite h.set.set.raise ?_
  refine .ite h ?_
  extract_lets s1
  have hs1 : Evolves s s1 := h.set
  exact .ite hs1 hs1.set.decStart

theorem advances_execDecEntry {r : Fin 2} {au : AuInfo} (h : Evolves s t) : Advances s (execDecEntry r au t) := by
  refine .next ?_
  extract_lets +onlyGivenNames _ _ _ _
  refine .ite h ?_
  extract_lets +onlyGivenNames _ _ bad
  have hbad : ∀ u y, Evolves s u → Evolves s (bad u y) := fun _ _ hu => hu.set.set.raise
  refine .ite (hbad _ _ h) ?_
  refine .ite h ?_
  extract_lets _
  exact .ite (hbad _ _ h) h.set.commitAt.decEntry

theorem Evolves.decStore {p : DecPic} (h : Evolves s t) : Evolves s (t.decStore p) := by
  unfold State.decStore
  split
  · extract_lets _ _ _ _
    exact h.foldl fun _ _ hu => by
        split
        · exact hu.foldl fun _ _ hv => by
              extract_lets _
              exact .ite hv.dramPut hv.drawn.dramPut
        · exact hu
  · exact h

theorem Evolves.decEnd {j : DecJob} {part : Bool} {status : Nat} (h : Evolves s t) :
    Evolves s (t.decEnd j part status) := by
  unfold State.decEnd
  extract_lets _ _ s1 _ s2 _ _ s3 s4
  have hs1 : Evolves s s1 := .ite h.decTarget.raise.set h
  have hs2 : Evolves s s2 := .ite (.ite hs1.decDamage hs1.set) hs1
  have hs3 : Evolves s s3 := hs2.decStore
  have hs4 : Evolves s s4 := hs3.beside rfl
  exact hs4.bumpWhile.endJob

theorem advances_execDecPictureDone {r : Fin 2} {syntaxErr conceal hashBad : Bool} {oobWrites oobReads : BitVec 32}
    (h : Evolves s t) :
    Advances s (execDecPictureDone r syntaxErr conceal hashBad oobWrites oobReads t) := by
  refine .next ?_
  split
  · refine .ite h ?_
    extract_lets s1 _ s2 s3 _
    have hs1 : Evolves s s1 := .ite h.decErr h
    have hs2 : Evolves s s2 := .ite hs1.set.addSat.raise hs1
    have hs3 : Evolves s s3 := .ite hs2.set hs2
    exact hs3.decEnd
  · exact h

theorem advances_execDecWatchdog {r : Fin 2} (h : Evolves s t) : Advances s (execDecWatchdog r t) := by
  refine .next ?_
  split
  · refine .ite h ?_
    refine .ite h.decErr.decEnd ?_
    extract_lets s1
    have hs1 : Evolves s s1 := h.beside rfl
    exact hs1.endJob.set.set.raise
  · exact h

theorem advances_execDecOutput {r : Fin 2} (h : Evolves s t) :
    Advances s (execDecOutput r t) := by
  refine .next ?_
  extract_lets +onlyGivenNames _ _ _
  split
  · refine .ite h ?_
    extract_lets _ s1 s2 s3 s4
    have hs1 : Evolves s s1 := h.trayPut
    have hs2 : Evolves s s2 := hs1.withDecOut
    have hs3 : Evolves s s3 := hs2.sets
    have hs4 : Evolves s s4 := .ite hs3.trayPut hs3
    exact hs4.raise.decPrune.decKick
  · exact h

theorem Evolves.decCut {r : Nat} (h : Evolves s t) : Evolves s (t.decCut r) := by
  unfold State.decCut
  extract_lets s1 s2
  have hs1 : Evolves s s1 := by
    unfold s1
    split
    · exact h.endJob
    · exact h
  have hs2 : Evolves s s2 := hs1.beside rfl
  exact hs2.sets

theorem Evolves.decOn {r : Nat} (h : Evolves s t) : Evolves s (t.decOn r) := .ite h.set h

theorem advances_execDecDisable {r : Fin 2} (h : Evolves s t) : Advances s (execDecDisable r t) :=
  .next (h.hostToBead fun _ hu => hu.set.setInf.decCut.commitAt)

/-! ### NVMe queues -/

theorem Evolves.modRec {g : Rec → Rec} (h : Evolves s t) : Evolves s (t.modRec g) := h.beside rfl

theorem Evolves.nvIssue {d : Nat} {a : NvAsk} (h : Evolves s t) : Evolves s (t.nvIssue d a) := by
  unfold State.nvIssue
  extract_lets _ _
  exact h.modRec

theorem Evolves.nvMember {a : NvAsk} (h : Evolves s t) : Evolves s (t.nvMember a) := h.nvIssue

theorem Evolves.nvSend {id : Nat} (h : Evolves s t) : Evolves s (t.nvSend id) := by
  unfold State.nvSend
  split
  · extract_lets _
    exact .ite h h.modRec.emit
  · exact h

theorem Evolves.nvPump (h : Evolves s t) : Evolves s t.nvPump := h.foldl fun _ _ hu => hu.nvSend

theorem Evolves.volMove {op : Nat → NvOp} {v len : Nat} (h : Evolves s t) : Evolves s (t.volMove op v len) :=
  .nvPump (h.foldl fun _ _ hu => hu.nvMember)

theorem Evolves.volWrite {blk : Nat} {data : List Byte} {op : NvOp} (h : Evolves s t) :
    Evolves s (t.volWrite blk data op) := by
  unfold State.volWrite
  extract_lets _
  exact h.emit.volMove

theorem Evolves.volAll {a : NvAsk} (h : Evolves s t) : Evolves s (t.volAll a) := .nvPump (h.foldl fun _ _ hu => hu.nvMember)

theorem Evolves.volFlush (h : Evolves s t) : Evolves s t.volFlush := h.volAll

theorem Evolves.nvAdmin {d : Nat} {l : List NvOp} (h : Evolves s t) : Evolves s (t.nvAdmin d l) :=
  h.foldl fun _ _ hu => hu.emit

/-! ### The recorder -/

theorem Evolves.modTake {n : Nat} {g : Take → Take} (h : Evolves s t) : Evolves s (t.modTake n g) := h.modRec

theorem Evolves.recIdle (h : Evolves s t) : Evolves s t.recIdle := .ite h h.commitAt

theorem Evolves.recAppend {take kind tag : Nat} {body : List Byte} (h : Evolves s t) :
    Evolves s (t.recAppend take kind tag body) := by
  unfold State.recAppend
  extract_lets _ _ _ _ _ s1
  have hs1 : Evolves s s1 := h.modRec
  exact hs1.beginJob.volWrite

theorem Evolves.recDir {n : Nat} {e : List Byte} (h : Evolves s t) : Evolves s (t.recDir n e) := by
  unfold State.recDir
  extract_lets s1 _
  have hs1 : Evolves s s1 := h.modRec
  exact hs1.volWrite

theorem Evolves.recOpen {k : Take} {f : Frame} {firstTag : Nat} {pre : List Nat} (h : Evolves s t) :
    Evolves s (t.recOpen k f firstTag pre) := by
  unfold State.recOpen
  extract_lets _
  exact h.recAppend.modTake.recDir

theorem Evolves.recIndex {n : Nat} (h : Evolves s t) : Evolves s (t.recIndex n) := by
  unfold State.recIndex
  split
  · extract_lets _ _ _ _ s1
    have hs1 : Evolves s s1 := h.recAppend
    exact hs1.modTake.modRec
  · exact h

theorem Evolves.recEntry {n : Nat} {e : IdxEnt} (h : Evolves s t) : Evolves s (t.recEntry n e) := by
  unfold State.recEntry
  extract_lets s1
  have hs1 : Evolves s s1 := h.modTake
  split
  · exact .ite hs1.recIndex hs1
  · exact hs1

theorem Evolves.recSeal {k : Take} {reason : Nat} (h : Evolves s t) : Evolves s (t.recSeal k reason) := by
  unfold State.recSeal
  extract_lets s1 _ _ s2
  have hs1 : Evolves s s1 := h.recIndex
  have hs2 : Evolves s s2 := hs1.recAppend
  exact hs2.modTake.modRec

theorem Evolves.recOpenEmpty {k : Take} (h : Evolves s t) : Evolves s (t.recOpenEmpty k) := by
  refine .ite h ?_
  extract_lets _ _
  exact h.recOpen

theorem Evolves.recSettle (h : Evolves s t) : Evolves s t.recSettle :=
  h.foldl fun _ _ hu => by
    split
    · refine .ite ?_ hu
      extract_lets s1
      have hs1 : Evolves s s1 := hu.recOpenEmpty
      exact hs1.recSeal
    · exact hu

theorem Evolves.recStage (h : Evolves s t) : Evolves s t.recStage := by
  unfold State.recStage
  split
  · exact h
  · refine .ite h ?_
    extract_lets +onlyGivenNames setStage dir
    have hsetStage : ∀ u y, Evolves s u → Evolves s (setStage u y) := fun _ _ hu => hu.modRec
    have hdir : ∀ u y, Evolves s u → Evolves s (dir u y) := fun _ _ hu => by
        unfold dir
        split
        · exact hu.recDir
        · exact hu
    refine .ite (.ite h (.ite (hdir _ _ (hsetStage _ _ h)) (.volFlush (hsetStage _ _ h)))) ?_
    refine .ite (hdir _ _ (hsetStage _ _ h)) ?_
    refine .ite (.volFlush (hsetStage _ _ h)) ?_
    extract_lets s1
    have hs1 : Evolves s s1 := h.modRec
    exact .ite hs1.modRec hs1.set

theorem Evolves.recAdvance (h : Evolves s t) : Evolves s t.recAdvance := h.foldl fun _ _ hu => hu.recStage

theorem Evolves.recDone (h : Evolves s t) : Evolves s t.recDone :=
  h.foldl fun _ _ hu => by
    extract_lets s1
    have hs1 : Evolves s s1 := hu.modRec.endJob
    exact .ite hs1.set hs1

theorem Evolves.recFlow (h : Evolves s t) : Evolves s t.recFlow := h.recSettle.recDone.recAdvance.nvPump

theorem Evolves.rawJobs {src : Nat} {k : Take} {tag : Nat} {pre : Bool} (h : Evolves s t) :
    Evolves s (t.rawJobs src k tag pre) :=
  h.foldl fun _ _ hu => hu.beginJob

theorem Evolves.recDropped {take tag : Nat} {pre : Bool} (h : Evolves s t) : Evolves s (t.recDropped take tag pre) :=
  h.recEntry

theorem Evolves.recClose {reason : Nat} (h : Evolves s t) : Evolves s (t.recClose reason) := h.modRec

theorem Evolves.recFrameStart {f : Frame} (h : Evolves s t) : Evolves s (t.recFrameStart f) := by
  unfold State.recFrameStart
  split
  · exact h
  · extract_lets _ _ _ s1 _ _ _
    have hs1 : Evolves s s1 := .ite h h.recOpen
    refine .ite hs1.recClose.set.set.raise.recFlow.recIdle ?_
    exact .ite hs1.recDropped.set.inc.raise.recFlow hs1.modRec.rawJobs

theorem Evolves.recFrameEnd {f : Frame} {q : RecFrame} (h : Evolves s t) : Evolves s (t.recFrameEnd f q) := by
  unfold State.recFrameEnd
  extract_lets _ _ _ s1
  have hs1 : Evolves s s1 := h.modRec.recAppend
  exact hs1.recEntry

theorem Evolves.stripeEnd {coder : Nat} {pre : Bool} (h : Evolves s t) : Evolves s (t.stripeEnd coder pre) := by
  unfold State.stripeEnd
  extract_lets _ _
  split
  · exact h
  · split
    · exact h
    · refine .ite h ?_
      extract_lets _ _ _ _ _ _ s1 s2 s3 s4
      have hs1 : Evolves s s1 := h.modRec
      have hs2 : Evolves s s2 := hs1.set.set
      have hs3 : Evolves s s3 := .ite hs2.set.set.raise hs2
      have hs4 : Evolves s s4 := hs3.endJob
      exact .recFlow (.ite hs4.recFrameEnd hs4)

theorem Evolves.recSlotLost {tag : Nat} (h : Evolves s t) : Evolves s (t.recSlotLost tag) := by
  unfold State.recSlotLost
  extract_lets _
  exact h.foldl fun _ _ hu => by
      extract_lets +onlyGivenNames _
      refine .ite ?_ hu
      extract_lets s1 j
      have hs1 : Evolves s s1 := hu.modTake.modRec
      have hj : Evolves s j := hs1.foldl fun _ _ hv => by
          extract_lets _
          exact .ite hv.endJob hv
      exact hj.recDropped.set.raise.recFlow

theorem Evolves.recLost (h : Evolves s t) : Evolves s t.recLost := by
  refine .ite h ?_
  extract_lets _ _ s1 s2
  have hs1 : Evolves s s1 := h.foldl fun _ _ hu => hu.endJob
  have hs2 : Evolves s s2 := hs1.modRec.sets
  exact hs2.raiseIf.recIdle

theorem Evolves.driveFault {d : Nat} (h : Evolves s t) : Evolves s (t.driveFault d) := by
  unfold State.driveFault
  extract_lets s1 s2
  have hs1 : Evolves s s1 := h.set.set.raise
  have hs2 : Evolves s s2 := hs1.modRec
  exact .ite hs2.recLost hs2

theorem Evolves.modCmd {id : Nat} {g : NvCmd → NvCmd} (h : Evolves s t) : Evolves s (t.modCmd id g) := h.modRec

theorem advances_execNvmeCmdTimeout {id : Nat} (h : Evolves s t) : Advances s (execNvmeCmdTimeout id t) := by
  refine .next ?_
  split
  · exact h
  · refine .ite h ?_
    extract_lets s1
    have hs1 : Evolves s s1 := h.set.inc.raise
    exact .ite hs1.modCmd.nvIssue.nvPump (.ite hs1.driveFault hs1.modCmd.modRec.set)

theorem advances_execNvqEnable {d : Fin 4} (h : Evolves s t) : Advances s (execNvqEnable d t) :=
  .next (h.hostToBead fun _ hu => .ite hu hu.set.set)

theorem Evolves.nvqDisable {d : Nat} (h : Evolves s t) : Evolves s (t.nvqDisable d) := .sets (.ite h.nvAdmin h)

theorem advances_execNvqReady {d : Fin 4} {mdts : Fin 256} (h : Evolves s t) : Advances s (execNvqReady d mdts t) := by
  refine .next (.ite ?_ h)
  extract_lets +onlyGivenNames _
  refine .ite h.driveFault ?_
  extract_lets s1
  have hs1 : Evolves s s1 := h.modRec
  exact hs1.addSat.set.set.nvAdmin.raise.nvPump

theorem advances_execNvqReadyTimeout {d : Fin 4} (h : Evolves s t) : Advances s (execNvqReadyTimeout d t) :=
  .next (.ite h.driveFault h)

theorem advances_execRpLinkDown {rp : Fin 4} (h : Evolves s t) : Advances s (execRpLinkDown rp t) := by
  unfold execRpLinkDown
  extract_lets _
  exact .next (.ite h.driveFault h)

theorem advances_execRscStripeEnd {coder : Fin 4} {catchUp : Bool} (h : Evolves s t) :
    Advances s (execRscStripeEnd coder catchUp t) :=
  .next h.stripeEnd

theorem advances_execPrerollCatchStart {sp : Fin 3} (h : Evolves s t) : Advances s (execPrerollCatchStart sp t) := by
  refine .next ?_
  split
  · exact h
  · split
    · exact h
    · split
      · exact h
      · extract_lets _
        exact .ite h (.ite h h.modTake.modRec.rawJobs)

/-! ### The frame schedule and the exposure queue -/

theorem Evolves.modLnk {g : Lnk → Lnk} (h : Evolves s t) : Evolves s (t.modLnk g) := h.beside rfl

theorem Evolves.setSlot {p : Nat} {k : Option Time} (h : Evolves s t) : Evolves s (t.setSlot p k) := h.set

theorem Evolves.slotAfter {p : Nat} {k : Time} (h : Evolves s t) : Evolves s (t.slotAfter p k) := by
  unfold State.slotAfter
  extract_lets _
  exact h.set.setSlot

theorem Evolves.slotStart {p : Nat} (h : Evolves s t) : Evolves s (t.slotStart p) := h.set.setSlot

theorem Evolves.rephase {p fwd back : Nat} (h : Evolves s t) : Evolves s (t.rephase p fwd back) := by
  refine .ite h ?_
  refine .ite h.slotStart ?_
  extract_lets _ s1 _ _
  have hs1 : Evolves s s1 := h.slotAfter
  exact .ite hs1.set.raise hs1

theorem Evolves.modSet {e : ExpSet} {g : ExpSet → ExpSet} (h : Evolves s t) : Evolves s (t.modSet e g) := h.modLnk

theorem Evolves.setSlip {e : ExpSet} (h : Evolves s t) : Evolves s (t.setSlip e) := by
  unfold State.setSlip
  split
  · exact h
  · extract_lets _ s1 _
    have hs1 : Evolves s s1 := h.modSet
    exact .ite hs1.set.inc.raise hs1.modLnk.set.raise

theorem Evolves.setMiss {e : ExpSet} (h : Evolves s t) : Evolves s (t.setMiss e) := by
  unfold State.setMiss
  extract_lets _
  exact h.setSlip.foldl fun _ _ hu => hu.setSlip

theorem Evolves.setCount {p : Nat} (h : Evolves s t) : Evolves s (t.setCount p) := h.set

theorem Evolves.exqIssue {p fuel : Nat} (h : Evolves s t) :
    Evolves s (t.exqIssue p fuel) := by
  induction fuel generalizing t with
  | zero => exact h
  | succ fuel ih =>
    unfold State.exqIssue
    refine .ite h ?_
    split
    · exact h
    · extract_lets s1
      have hs1 : Evolves s s1 := h.modSet.when fun _ hu => hu.set
      split
      · exact hs1
      · exact .ite h (.ite hs1.modSet.emit (ih hs1.setMiss))

theorem Evolves.exqCatch {p fuel : Nat} (h : Evolves s t) :
    Evolves s (t.exqCatch p fuel) := by
  induction fuel generalizing t with
  | zero => exact h
  | succ fuel ih =>
    unfold State.exqCatch
    split
    · exact ih h.setMiss
    · exact h

theorem Evolves.exqOpen {p k : Nat} (h : Evolves s t) : Evolves s (t.exqOpen p k) := h.sets.exqCatch.exqIssue

theorem Evolves.exqClose {p : Nat} (h : Evolves s t) : Evolves s (t.exqClose p) := by
  refine .ite h ?_
  extract_lets _ _
  exact .set (h.foldl fun _ _ hu => hu.setMiss)

theorem Evolves.setAccept {p fcnt tag : Nat} (h : Evolves s t) : Evolves s (t.setAccept p fcnt tag) := by
  unfold State.setAccept
  split
  · exact h
  · extract_lets _ s1 s2 _ _
    have hs1 : Evolves s s1 := h.modLnk
    have hs2 : Evolves s s2 := hs1.beside rfl
    exact hs2.set.setCount.raiseIf

theorem Evolves.badDesc {q : Nat} (h : Evolves s t) : Evolves s (t.badDesc q) := h.set.raise

theorem Evolves.exqPost {q slot : Nat} (h : Evolves s t) : Evolves s (t.exqPost q slot) := by
  unfold State.exqPost
  extract_lets +onlyGivenNames _
  refine .ite h.badDesc ?_
  extract_lets r
  have hr : Evolves s r.2.2 := h.trayReadAs
  split
  · exact hr.badDesc
  · exact hr.modLnk.setCount.exqIssue

theorem advances_execExqPost {port : Fin 2} {slot : Fin 8} (h : Evolves s t) : Advances s (execExqPost port slot t) :=
  .next (h.hostToBead fun _ hu => hu.set.exqPost)

theorem advances_execExqBusDone {port : Fin 2} {ack : Bool} (h : Evolves s t) : Advances s (execExqBusDone port ack t) := by
  unfold execExqBusDone
  extract_lets _
  refine .next ?_
  split
  · exact h
  · extract_lets s1
    have hs1 : Evolves s s1 := .ite h.modSet h.setMiss
    exact hs1.exqIssue.exqIssue

theorem advances_execExqWindowClose {port : Fin 2} (h : Evolves s t) : Advances s (execExqWindowClose port t) :=
  .next h.exqClose

theorem Evolves.exsMode {p mode : Nat} (h : Evolves s t) : Evolves s (t.exsMode p mode) := by
  unfold State.exsMode
  extract_lets s1
  have hs1 : Evolves s s1 := h.set
  exact .ite hs1.sets hs1.slotStart

theorem advances_execExsModeChange {port : Fin 2} {mode : Fin 4} (h : Evolves s t) :
    Advances s (execExsModeChange port mode t) :=
  .next (h.hostToBead fun _ hu => .ite hu.wrRange (.ite hu hu.exsMode))

theorem advances_execExpsyncFramePulse {port : Fin 2} (h : Evolves s t) : Advances s (execExpsyncFramePulse port t) := by
  refine .next (.ite h ?_)
  extract_lets _
  exact h.sets

theorem advances_execExpsyncLinePulse {port : Fin 2} (h : Evolves s t) : Advances s (execExpsyncLinePulse port t) := by
  unfold execExpsyncLinePulse
  extract_lets _
  exact .next (.ite h.sets h)

theorem advances_execExpsyncPulseEnd {port : Fin 2} {line : Bool} (h : Evolves s t) :
    Advances s (execExpsyncPulseEnd port line t) :=
  .next h.set

theorem Evolves.refHold (h : Evolves s t) : Evolves s t.refHold := .ite h h.set.set.raise

theorem Evolves.refEdge (h : Evolves s t) : Evolves s t.refEdge := h.set.set

theorem Evolves.refGood {dt : Nat} (h : Evolves s t) : Evolves s (t.refGood dt) := by
  unfold State.refGood
  extract_lets s1
  have hs1 : Evolves s s1 := h.modLnk.refEdge
  exact hs1.foldl fun _ _ hu => .ite hu.setSlot hu

theorem Evolves.refNoTrial (h : Evolves s t) : Evolves s t.refNoTrial := h.modLnk.set

theorem Evolves.refAdopt (h : Evolves s t) : Evolves s t.refAdopt := by
  unfold State.refAdopt
  extract_lets _ s1
  have hs1 : Evolves s s1 := h.modLnk.refEdge.set.refNoTrial
  exact hs1.foldl fun _ _ hu => .ite hu.rephase hu

theorem Evolves.refTrial {dt : Nat} (h : Evolves s t) : Evolves s (t.refTrial dt) := by
  unfold State.refTrial
  extract_lets _ s1
  have hs1 : Evolves s s1 := .ite h.modLnk h.modLnk.set
  exact .ite hs1.refAdopt hs1

theorem advances_execRefinEdge {falling : Bool} {pulse : BitVec 32} (h : Evolves s t) :
    Advances s (execRefinEdge falling pulse t) := by
  refine .next (.ite h ?_)
  refine .ite h.set ?_
  extract_lets +onlyGivenNames _ s1 _
  have hs1 : Evolves s s1 := h.set
  refine .ite hs1.refTrial ?_
  refine .ite (.ite hs1.refTrial hs1.refGood.refNoTrial) ?_
  extract_lets s2
  have hs2 : Evolves s s2 := hs1.set.raise
  exact hs2.refHold.refTrial

theorem advances_execRefinLoss (h : Evolves s t) : Advances s (execRefinLoss t) := .next (.ite h h.refHold.refNoTrial)

/-! ### The fuses -/

/-- A burn that is cut leaves its bit as it was or burns it. -/
theorem Evolves.burnCut (h : Evolves s t) :
    Evolves s t.burnCut := by
  unfold State.burnCut
  split
  · split
    · split
      · exact .drawn (h.write (.burn _ _ _))
      · exact .drawn (h.beside rfl)
    · exact h
  · exact h

/-! ### The serial lanes -/

theorem Evolves.setLane {rod l st : Nat} (h : Evolves s t) : Evolves s (t.setLane rod l st) := h.set

theorem Evolves.zero {l : List Fld} (h : Evolves s t) : Evolves s (t.zero l) := h.foldl fun _ _ hu => hu.set

theorem Evolves.laneStart {rod l : Nat} (h : Evolves s t) : Evolves s (t.laneStart rod l) := h.setLane.zero

theorem Evolves.laneOff {rod l : Nat} (h : Evolves s t) : Evolves s (t.laneOff rod l) := by
  unfold State.laneOff
  extract_lets s1
  have hs1 : Evolves s s1 := h.setLane.zero
  exact .ite hs1 hs1.set

theorem Evolves.markBad {p i reason : Nat} (h : Evolves s t) : Evolves s (t.markBad p i reason) := .ite h h.set.set.raise

theorem Evolves.srxLost {rod l reason : Nat} (h : Evolves s t) : Evolves s (t.srxLost rod l reason) := by
  refine .ite h ?_
  extract_lets _
  split
  · exact .markBad (h.when fun _ hu => hu.set)
  · exact h

theorem Evolves.laneFault {rod l cause : Nat} (h : Evolves s t) : Evolves s (t.laneFault rod l cause) :=
  h.setLane.set.set.raise.srxLost

theorem Evolves.groupFault {rod g cause : Nat} {p : Nat → Bool} (h : Evolves s t) :
    Evolves s (t.groupFault rod g cause p) :=
  .ite (h.foldl fun _ _ hu => .ite hu hu.laneFault) h

theorem Evolves.laneGo {rod l stage : Nat} (h : Evolves s t) : Evolves s (t.laneGo rod l stage) := by
  unfold State.laneGo
  extract_lets _
  exact .ite h (.ite h h.setLane.zero.set)

theorem advances_execLaneEnable {rod : Fin 16} {l : Fin 70} (h : Evolves s t) : Advances s (execLaneEnable rod l t) :=
  .next (h.hostTo fun _ hu => .ite hu (.ite hu.wrRange (.ite hu hu.set.laneStart)))

theorem advances_execLaneDisable {rod : Fin 16} {l : Fin 70} (h : Evolves s t) : Advances s (execLaneDisable rod l t) :=
  .next (h.hostTo fun _ hu => .ite hu.set.laneOff hu)

theorem advances_execLaneGo {rod : Fin 16} {l : Fin 70} {stage : Fin 8} (h : Evolves s t) :
    Advances s (execLaneGo rod l stage t) :=
  .next (h.hostTo fun _ hu => .ite hu (.ite hu.wrRange hu.laneGo))

theorem advances_execLanePowerDone {rod : Fin 16} {l : Fin 70} (h : Evolves s t) : Advances s (execLanePowerDone rod l t) :=
  .next (.ite h.setLane h)

theorem advances_execLanePllLock {rod : Fin 16} {g : Fin 8} {kbps : BitVec 25} (h : Evolves s t) :
    Advances s (execLanePllLock rod g kbps t) :=
  .next (.ite h (h.foldl fun _ _ hu => by
    refine .ite ?_ hu
    extract_lets s1
    have hs1 : Evolves s s1 := hu.setLane
    exact .ite hs1.set hs1.set))

theorem advances_execLaneLosClear {rod : Fin 16} {l : Fin 70} (h : Evolves s t) :
    Advances s (execLaneLosClear rod l t) := by
  refine .next (.ite ?_ h)
  extract_lets s1
  have hs1 : Evolves s s1 := h.set
  exact .ite hs1.setLane hs1

theorem advances_execLaneLock {rod : Fin 16} {l : Fin 70} (h : Evolves s t) : Advances s (execLaneLock rod l t) := by
  refine .next (.ite ?_ h)
  extract_lets _
  exact .setLane (h.zero.when fun _ hu => hu.set)

theorem advances_execLaneLockTimeout {rod : Fin 16} {l : Fin 70} (h : Evolves s t) :
    Advances s (execLaneLockTimeout rod l t) := by
  refine .next (.ite ?_ h)
  extract_lets _ s1
  have hs1 : Evolves s s1 := h.sets
  exact .ite hs1.laneFault hs1.setLane

theorem Evolves.laneCoef {rod l : Nat} {done : Bool} (h : Evolves s t) : Evolves s (t.laneCoef rod l done) :=
  .drawn (h.set.when fun _ hu => hu.set)

theorem advances_execLaneAdaptDone {rod : Fin 16} {l : Fin 70} (h : Evolves s t) : Advances s (execLaneAdaptDone rod l t) :=
  .next (.ite h.setLane.set.laneCoef h)

theorem advances_execLaneAdaptTimeout {rod : Fin 16} {l : Fin 70} (h : Evolves s t) :
    Advances s (execLaneAdaptTimeout rod l t) :=
  .next (.ite h.setLane.set.raise.laneCoef h)

theorem Evolves.txTrained {rod l : Nat} (h : Evolves s t) : Evolves s (t.txTrained rod l) := h.sets.drawn

theorem advances_execLaneAligned {rod : Fin 16} {l : Fin 70} {inverted reversed : Bool} (h : Evolves s t) :
    Advances s (execLaneAligned rod l inverted reversed t) := by
  refine .next (.ite ?_ h)
  extract_lets _ _ _ _ s1 s2
  have hs1 : Evolves s s1 := h.setLane.set.set.when fun _ hu => hu.set
  have hs2 : Evolves s s2 := .when (hs1.when fun _ hu => hu.set) fun _ hu => hu.txTrained
  exact .ite (hs2.set.when fun _ hu => hu.set.raise) hs2

theorem Evolves.autoRestart {rod l stage : Nat} (h : Evolves s t) : Evolves s (t.autoRestart rod l stage) :=
  .ite h.setLane.zero h

theorem Evolves.blkLost {rod l : Nat} (h : Evolves s t) : Evolves s (t.blkLost rod l) := .ite h.zero h

theorem Evolves.laneLos {rod l : Nat} (h : Evolves s t) : Evolves s (t.laneLos rod l) := by
  unfold State.laneLos
  extract_lets +onlyGivenNames _ _
  refine .ite h ?_
  extract_lets s1 s2
  have hs1 : Evolves s s1 := h.set.set
  have hs2 : Evolves s s2 := hs1.when fun _ hu => hu.set.inc.raise.blkLost
  exact .ite hs2.setLane.set (.ite hs2.srxLost.autoRestart hs2)

theorem Evolves.laneLol {rod l : Nat} (h : Evolves s t) : Evolves s (t.laneLol rod l) := by
  unfold State.laneLol
  extract_lets +onlyGivenNames _ _
  refine .ite h ?_
  extract_lets s1 s2
  have hs1 : Evolves s s1 := h.set
  have hs2 : Evolves s s2 := hs1.when fun _ hu => hu.set.inc.raise.blkLost
  exact .ite hs2.srxLost.autoRestart hs2

theorem Evolves.laneWindow {rod l ppm : Nat} (h : Evolves s t) : Evolves s (t.laneWindow rod l ppm).1 := by
  refine .iteOn Prod.fst ?_ h.set
  extract_lets _
  exact .iteOn Prod.fst h.set h.set

theorem Evolves.laneIdle {rod l : Nat} (h : Evolves s t) : Evolves s (t.laneIdle rod l) :=
  .ite (h.setLane.sets.zero.when fun _ hu => hu.blkLost.set) h

theorem advances_execLaneLos {rod : Fin 16} {l : Fin 70} (h : Evolves s t) : Advances s (execLaneLos rod l t) :=
  .next h.laneLos

theorem advances_execLaneLol {rod : Fin 16} {l : Fin 70} (h : Evolves s t) : Advances s (execLaneLol rod l t) :=
  .next h.laneLol

theorem advances_execLaneFreqWindow {rod : Fin 16} {l : Fin 70} {ppm : BitVec 20} (h : Evolves s t) :
    Advances s (execLaneFreqWindow rod l ppm t) := by
  refine .next (.ite ?_ (.ite h.set h))
  extract_lets r
  have hr : Evolves s r.1 := h.laneWindow
  exact .ite hr.laneLol hr

theorem advances_execLanePllTimeout {rod : Fin 16} {g : Fin 8} (h : Evolves s t) :
    Advances s (execLanePllTimeout rod g t) :=
  .next h.groupFault

theorem advances_execGroupPllLoss {rod : Fin 16} {g : Fin 8} (h : Evolves s t) : Advances s (execGroupPllLoss rod g t) :=
  .next h.groupFault

theorem advances_execLaneIdleEntry {rod : Fin 16} {l : Fin 70} (h : Evolves s t) : Advances s (execLaneIdleEntry rod l t) :=
  .next h.laneIdle

theorem advances_execLaneSquelchConfirm {rod : Fin 16} {l : Fin 70} (h : Evolves s t) :
    Advances s (execLaneSquelchConfirm rod l t) :=
  .next (.ite h.set h)

theorem advances_execLanePhaseLock {rod : Fin 16} {l : Fin 70} (h : Evolves s t) : Advances s (execLanePhaseLock rod l t) :=
  .next (.ite h.setLane.set h)

theorem advances_execLanePhaseLockTimeout {rod : Fin 16} {l : Fin 70} (h : Evolves s t) :
    Advances s (execLanePhaseLockTimeout rod l t) :=
  .next (.ite h.setLane.sets.raise h)

theorem advances_execAdaptWindow {rod : Fin 16} {l : Fin 70} {density : BitVec 13} (h : Evolves s t) :
    Advances s (execAdaptWindow rod l density t) := by
  refine .next (.ite ?_ h)
  extract_lets _ _ s1
  have hs1 : Evolves s s1 := .ite (h.sets.when fun _ hu => hu.set) (h.sets.when fun _ hu => hu.set)
  exact .ite hs1 hs1.laneCoef

theorem Evolves.prbsTick (h : Evolves s t) : Evolves s t.prbsTick :=
  h.foldl fun _ _ hu => by
    extract_lets _ _ _ _
    exact .drawn (hu.set.addSat.when fun _ hv => hv.set.raise)

/-! ### Tally, PTP, triggers and timecode -/

theorem Evolves.tallyTick (h : Evolves s t) : Evolves s t.tallyTick := .ite (h.beside rfl) (h.beside rfl)

theorem Evolves.tallyCycle (h : Evolves s t) : Evolves s t.tallyCycle := h.tallyTick.prbsTick

theorem Evolves.trgFire {i : Nat} (h : Evolves s t) : Evolves s (t.trgFire i) := by
  unfold State.trgFire
  extract_lets _ s0 s1
  have hs0 : Evolves s s0 := .ite h.sets h
  have hs1 : Evolves s s1 := hs0.set.raise.when fun _ hu => hu.set
  exact .ite hs1.set hs1.set

theorem Evolves.trgStep {forward : Bool} (h : Evolves s t) : Evolves s (t.trgStep forward) :=
  h.foldl fun _ _ hu => by
    extract_lets _
    exact .ite hu (.ite (.ite hu.set.raise.trgFire hu) (.ite hu hu.set))

theorem Evolves.tallyTo {k : Int} (h : Evolves s t) :
    Evolves s (t.tallyTo k).1 := by
  unfold State.tallyTo
  refine .iteOn Prod.fst h ?_
  extract_lets n s1 move s2
  have hs1 : Evolves s s1 := .raise (.set (h.beside rfl))
  have hmove : ∀ u f, Evolves s u → Evolves s (move u f) := fun _ _ hu => .ite hu.set hu
  clear_value s1 move
  have hs2 : Evolves s s2 := hs1.trgStep.foldl hmove
  exact hs2.foldl fun _ _ hu => .ite hu.rephase (.ite (hu.foldl hmove) hu)

theorem Evolves.hostStep {k : Int} (h : Evolves s t) : Evolves s (t.hostStep k) := by
  unfold State.hostStep
  extract_lets r
  have hr : Evolves s r.1 := h.tallyTo
  exact .ite hr h.wrRange

theorem advances_execTlySet (h : Evolves s t) : Advances s (execTlySet t) := .next (h.hostToBead fun _ hu => hu.hostStep)

theorem advances_execTlyAdd {neg : Bool} (h : Evolves s t) : Advances s (execTlyAdd neg t) :=
  .next (h.hostToBead fun _ hu => hu.hostStep)

theorem advances_execTlyRateWrite {adj : BitVec 32} (h : Evolves s t) : Advances s (execTlyRateWrite adj t) :=
  .next (h.hostToBead fun _ hu => .ite hu.set hu.wrRange)

theorem advances_execTlyNowRead (h : Evolves s t) : Advances s (execTlyNowRead t) :=
  .next (h.hostReadBead fun _ hu => hu.sets)

theorem Evolves.ptpTo {st : Nat} (h : Evolves s t) : Evolves s (t.ptpTo st) := .ite h h.set.raise

theorem Evolves.ptpOffset {off freq slew : Int} (h : Evolves s t) : Evolves s (t.ptpOffset off freq slew) := by
  unfold State.ptpOffset
  extract_lets _ _ _ _ s1 _ s2 _
  have hs1 : Evolves s s1 := h.sets
  have hs2 : Evolves s s2 := .ite hs1.set hs1.tallyTo
  exact .ite hs2.sets.ptpTo (.ite hs2.ptpTo (.ite hs2.ptpTo hs2))

theorem Evolves.ptpGm {m id : Nat} (h : Evolves s t) : Evolves s (t.ptpGm m id) := by
  unfold State.ptpGm
  extract_lets +onlyGivenNames _
  refine .ite h ?_
  extract_lets s1
  have hs1 : Evolves s s1 := h.sets
  exact .ite hs1 hs1.set.raise

theorem advances_execPtpMessage {m : Fin 4} {msg : PtpMsg} (h : Evolves s t) : Advances s (execPtpMessage m msg t) := by
  refine .next (.ite h ?_)
  extract_lets s1 s2
  have hs1 : Evolves s s1 := by
    unfold s1
    split
    · exact h.ptpGm
    · exact h
  have hs2 : Evolves s s2 := by
    unfold s2
    split
    · exact hs1.set.set
    · exact hs1
  split
  · exact hs2.ptpOffset
  · exact hs2

theorem Evolves.ptpHold (h : Evolves s t) : Evolves s t.ptpHold := .ite h h.set.sets.ptpTo

theorem advances_execAnnounceTimeout (h : Evolves s t) : Advances s (execAnnounceTimeout t) := .next h.ptpHold

theorem Evolves.netRxDeliver {m : Nat} {f : List Byte} (h : Evolves s t) : Evolves s (t.netRxDeliver m f) :=
  .ite h (h.foldl fun _ _ hu => hu.trayPut.withRings)

theorem advances_execEthFrameRx {m : Fin 4} {ptpEvent fecBad : Bool} {frame : List Byte} (h : Evolves s t) :
    Advances s (execEthFrameRx m ptpEvent fecBad frame t) :=
  .next (.ite h (.ite h.set.inc.raise (.ite h h.emit.netRxDeliver)))

theorem Evolves.tsqPush {m id : Nat} {k : Time} (h : Evolves s t) : Evolves s (t.tsqPush m id k) :=
  .ite (.set (h.beside rfl)) h.set.inc.raise

theorem advances_execPtpEventMessageTx {m : Fin 4} {req : TxStamp} {frame : List Byte} (h : Evolves s t) :
    Advances s (execPtpEventMessageTx m req frame t) := by
  refine .next (.ite h ?_)
  extract_lets _
  split
  · exact h.emit
  · exact h.emit.tsqPush

theorem advances_execTsqPop {m : Fin 4} (h : Evolves s t) : Advances s (execTsqPop m t) :=
  .next (h.hostReadBead fun _ hu => by
    split
    · exact .sets (hu.beside rfl)
    · exact hu.set)

theorem Evolves.ethDown {m : Nat} (h : Evolves s t) : Evolves s (t.ethDown m) := .ite h h.sets.inc.raise

theorem advances_execEthLinkDown {m : Fin 4} (h : Evolves s t) : Advances s (execEthLinkDown m t) := .next h.ethDown

theorem advances_execEthLinkUp {m : Fin 4} (h : Evolves s t) : Advances s (execEthLinkUp m t) := .next (.ite h h.sets)

theorem advances_execTrgArm {i : Fin 16} (h : Evolves s t) : Advances s (execTrgArm i t) :=
  .next (h.hostToBead fun _ hu => by
    extract_lets _
    exact hu.sets)

theorem advances_execTrgDisarm {i : Fin 16} (h : Evolves s t) : Advances s (execTrgDisarm i t) :=
  .next (h.hostToBead fun _ hu => hu.set)

theorem advances_execTrgFire {i : Fin 16} (h : Evolves s t) : Advances s (execTrgFire i t) := .next (.ite h.trgFire h)

theorem advances_execTrgPulseEnd {i : Fin 16} (h : Evolves s t) : Advances s (execTrgPulseEnd i t) := .next h.set

theorem advances_execCapEdge {j : Fin 8} {falling : Bool} (h : Evolves s t) : Advances s (execCapEdge j falling t) := by
  refine .next ?_
  extract_lets +onlyGivenNames _
  refine .ite h ?_
  extract_lets s1
  have hs1 : Evolves s s1 := .ite h.set.inc.raise h
  exact hs1.sets.raise

theorem advances_execCapRead {j : Fin 8} (h : Evolves s t) : Advances s (execCapRead j t) :=
  .next (h.hostReadBead fun _ hu => by
    extract_lets _ s1
    have hs1 : Evolves s s1 := .ite hu.sets hu
    exact hs1)

theorem advances_execLtcFrameOut (h : Evolves s t) : Advances s (execLtcFrameOut t) := by
  refine .next (.ite h ?_)
  extract_lets _
  exact h.drawn.emit

theorem advances_execLtcInSync {tc : BitVec 32} (h : Evolves s t) : Advances s (execLtcInSync tc t) := .next (.ite h h.set)

/-! ### Flows -/

theorem Evolves.modFlow {f : Nat} {g : Machine.Flow → Machine.Flow} (h : Evolves s t) : Evolves s (t.modFlow f g) :=
  h.beside rfl

theorem Evolves.withFlow {f : Nat} (h : Evolves s t) : Evolves s (t.withFlow f) := by
  refine .ite h ?_
  extract_lets src
  have hsrc : Evolves s src := h.drawn
  exact hsrc.beside rfl

theorem Evolves.flowApply {f : Nat} (h : Evolves s t) : Evolves s (t.flowApply f) := by
  unfold State.flowApply
  extract_lets _ s1
  have hs1 : Evolves s s1 := h.modFlow
  split
  · extract_lets s2
    have hs2 : Evolves s s2 := .ite hs1 hs1.sets
    exact hs2.raise
  · exact hs1.trayPut

theorem advances_execFlowCommit {f : BitVec 12} (h : Evolves s t) : Advances s (execFlowCommit f t) :=
  .next (h.hostTo fun _ hu => by
    refine .ite hu.wrRange ?_
    extract_lets s1
    have hs1 : Evolves s s1 := hu.withFlow
    exact .ite hs1.modFlow hs1.flowApply)

theorem Evolves.flowBegin {f : Nat} {mk : FlowEnt → Option FlowPic} (h : Evolves s t) : Evolves s (t.flowBegin f mk) := by
  unfold State.flowBegin
  extract_lets s1 s2
  have hs1 : Evolves s s1 := h.withFlow
  have hs2 : Evolves s s2 := .ite hs1.flowApply hs1
  split
  · exact hs2.modFlow.beginJob
  · exact hs2

theorem Evolves.ringPut {rod base size off : Nat} {d : List Byte} (h : Evolves s t) :
    Evolves s (t.ringPut rod base size off d) := by
  unfold State.ringPut
  extract_lets _
  exact h.trayPut.trayPut

theorem Evolves.auToPkt {rod n f tag : Nat} {au : List Byte} {nals : List (List Byte)} {flags : Nat} {time : Time}
    (h : Evolves s t) :
    Evolves s (t.auToPkt rod n f tag au nals flags time) := by
  unfold State.auToPkt
  extract_lets +onlyGivenNames _
  refine .ite h.set.inc.raise ?_
  extract_lets _ s1
  have hs1 : Evolves s s1 := h.ringPut.set
  exact hs1.flowBegin

theorem Evolves.auToRing {rod n : Nat} {d : Desc} {au : List Byte} (h : Evolves s t) :
    Evolves s (t.auToRing rod n d au).1 := by
  unfold State.auToRing
  extract_lets +onlyGivenNames _ _ _ _ _ _
  refine .iteOn Prod.fst h.trayPut ?_
  extract_lets _ _ _
  exact h.dramPut.dramPut.trayPut

theorem Evolves.auOut {rod n : Nat} {d : Desc} {tag : Nat} {au : List Byte} {nals : List (List Byte)} {wall : Nat}
    {time : Time} (h : Evolves s t) :
    Evolves s (t.auOut rod n d tag au nals wall time).1 :=
  .iteOn Prod.fst h.auToRing h.auToPkt

theorem Evolves.picDone {e : Nat} {x : Strm} {j : EncJob} (h : Evolves s t) : Evolves s (t.picDone e x j) := by
  unfold State.picDone
  extract_lets _ _ _ _ _ _ v _ _ _ _ _ _ _ _ _ _ _ _ _ s1 s2 _ o _ _ s3
  have hv : Evolves s v := h.drawn.dramPut
  have hs1 : Evolves s s1 := .ite hv.set.inc.sets.raise hv
  have hs2 : Evolves s s2 := hs1.when fun _ hu => hu.set.raise
  have ho : Evolves s o.1 := hs2.auOut
  have hs3 : Evolves s s3 := ho.modStrm
  exact hs3.putStatus.set.endJob.encKick

theorem advances_execEncPictureDone {e : Fin 8} (h : Evolves s t) : Advances s (execEncPictureDone e t) := by
  refine .next ?_
  split
  · split
    · exact h.picDone
    · exact h
  · exact h

theorem Evolves.sendEos {rod : Nat} {x : Strm} (h : Evolves s t) : Evolves s (t.sendEos rod x) := by
  unfold State.sendEos
  extract_lets _ _ _
  exact h.auOut

theorem advances_execSchedStop {cod : Fin 2} {stream : BitVec 12} (h : Evolves s t) :
    Advances s (execSchedStop cod stream t) :=
  .next (h.sched fun _ hu => by
    extract_lets +onlyGivenNames _
    split
    · refine .ite hu.schedIgn ?_
      extract_lets _ s1
      have hs1 : Evolves s s1 := hu.modStrm
      exact .ite hs1.sendEos hs1
    · exact hu.schedIgn)

theorem Evolves.flowTake {f : Nat} (h : Evolves s t) : Evolves s (t.flowTake f) := by
  unfold State.flowTake
  extract_lets +onlyGivenNames _ _ mark ls
  have hmark : ∀ u y, Evolves s u → Evolves s (mark u y) := fun _ _ hu => hu.modFlow
  have hls : ∀ u y z w x4, Evolves s u → Evolves s (ls u y z w x4) := fun _ _ _ _ _ hu => hu.flowBegin
  refine .ite ?_ ?_
  · split
    · refine .ite h ?_
      extract_lets _
      exact hls _ _ _ _ _ (hmark _ _ h)
    · exact h
  · refine .ite ?_ ?_
    · split
      · exact .ite h (hls _ _ _ _ _ (hmark _ _ h))
      · exact h
    · refine .ite ?_ h
      extract_lets +onlyGivenNames _
      refine .ite h ?_
      refine .ite (hls _ _ _ _ _ (hmark _ _ h)) ?_
      extract_lets s1
      have hs1 : Evolves s s1 := hmark _ _ h
      exact hs1.drawn.flowBegin

theorem Evolves.pktRelease (h : Evolves s t) : Evolves s t.pktRelease := by
  unfold State.pktRelease
  extract_lets _
  exact .ite h (h.foldl fun _ _ hu => by
      extract_lets s1
      have hs1 : Evolves s s1 := hu.foldl fun _ _ hv => by
          split
          · exact .ite hv hv.trayPut
          · exact hv
      exact hs1.beside rfl)

theorem Evolves.flowEnd {f : Nat} {p : FlowPic} {status : Nat} (h : Evolves s t) : Evolves s (t.flowEnd f p status) :=
  h.modFlow.endJob.pktRelease

theorem advances_execFlowPacketTx {f : BitVec 12} {late : Bool} (h : Evolves s t) :
    Advances s (execFlowPacketTx f late t) := by
  refine .next ?_
  extract_lets +onlyGivenNames _
  refine .ite h ?_
  extract_lets s0 s1 _ _
  have hs0 : Evolves s s0 := h.withFlow
  have hs1 : Evolves s s1 := .ite hs0.flowTake hs0
  split
  · split
    · exact hs1.pktRelease
    · refine .ite hs1.inc.flowEnd ?_
      refine .ite hs1.set.inc.raise.flowEnd ?_
      split
      · exact hs1.flowEnd
      · extract_lets _ _ s2 s3
        have hs2 : Evolves s s2 := hs1.drawn.emit
        have hs3 : Evolves s s3 := hs2.modFlow
        exact .ite hs3.flowEnd hs3
  · exact hs1

theorem Evolves.rxFlush {m r : Nat} {x : RxFlow} (h : Evolves s t) : Evolves s (t.rxFlush m r x) := by
  unfold State.rxFlush
  extract_lets +onlyGivenNames _ _ _ _ _ _
  refine .ite h ?_
  refine .ite h.set.raise ?_
  extract_lets _ _ _
  exact h.dramPut.dramPut.set

theorem advances_execRtpRxPacket {m : Fin 4} {pkt : RtpPkt} (h : Evolves s t) :
    Advances s (execRtpRxPacket m pkt t) := by
  refine .next ?_
  extract_lets +onlyGivenNames _
  split
  · exact h
  · extract_lets +onlyGivenNames e old gap s1 s2 _ _ _ _ _ s3 _ _ _
    have hs1 : Evolves s s1 := .ite h.set.raise h
    clear_value s1
    have hs2 : Evolves s s2 := by
      unfold s2
      clear_value old
      cases old with
      | none => exact hs1
      | some x => exact .ite hs1.rxFlush hs1
    clear_value s2
    have hs3 : Evolves s s3 := hs2.when fun _ hu => hu.set
    clear_value s3
    refine .ite ?_ (hs3.beside rfl)
    extract_lets flushed
    have hflushed : Evolves s flushed := hs3.rxFlush
    exact hflushed.beside rfl

/-! ### The composers -/

theorem Evolves.fence {n j k : Nat} (h : Evolves s t) : Evolves s (t.fence n j k).2 := by
  refine .iteOn Prod.snd h ?_
  extract_lets r
  have hr : Evolves s r.2.2 := h.trayReadAs
  exact .iteOn Prod.snd hr.set.raise hr

theorem Evolves.groupFences {n g : Nat} (h : Evolves s t) : Evolves s (t.groupFences n g).2 :=
  .foldlOn Prod.snd h fun _ _ hu => .foldlOn Prod.snd hu fun _ _ hv => by
    extract_lets r
    have hr : Evolves s r.2 := hv.fence
    exact hr

theorem Evolves.flips {n : Nat} {p : Nat → Bool} (h : Evolves s t) : Evolves s (t.flips n p) :=
  h.set.foldl fun _ _ hu => by
    extract_lets r
    have hr : Evolves s r.2 := hu.groupFences
    exact .ite (hr.commitWhere.foldl fun _ _ hv => hv.set) hr.set.set.inc.raise

theorem Evolves.cmpApply {n : Nat} (h : Evolves s t) : Evolves s (t.cmpApply n) := by
  unfold State.cmpApply
  extract_lets s1
  have hs1 : Evolves s s1 := h.commitWhere
  exact hs1.flips

theorem Evolves.cmpRetry {n : Nat} {pass : Bool} (h : Evolves s t) : Evolves s (t.cmpRetry n pass) := by
  unfold State.cmpRetry
  extract_lets _
  exact .ite h.flips h

theorem Evolves.scalers {n : Nat} (h : Evolves s t) : Evolves s (t.scalers n) :=
  h.foldl fun _ _ hu => by
    refine .ite hu.sets ?_
    extract_lets _ s1 s2
    have hs1 : Evolves s s1 := hu.sets
    have hs2 : Evolves s s2 := .ite hs1.set.raise hs1
    exact .ite hs2.set.raise hs2

theorem Evolves.setLayer {n j : Nat} {p : Option LayerPic} (h : Evolves s t) : Evolves s (t.setLayer n j p) := h.beside rfl

theorem Evolves.layerChoose {n j : Nat} {shown : Option Nat} (h : Evolves s t) : Evolves s (t.layerChoose n j shown) := by
  refine .ite h.setLayer.set ?_
  extract_lets _ _ s1
  have hs1 : Evolves s s1 := by
    unfold s1
    split
    · exact .ite h.setLayer.set.set.raise h.setLayer.set
    · exact h.setLayer
  split
  · extract_lets s2
    have hs2 : Evolves s s2 := hs1.rodUse
    exact .ite hs2.set.raise hs2
  · exact hs1

theorem Evolves.releaseAt {rod a : Nat} (h : Evolves s t) : Evolves s (t.releaseAt rod a) := .ite h h.trayPut

theorem Evolves.cmpRelease {n : Nat} {shown : Option Nat} (h : Evolves s t) : Evolves s (t.cmpRelease n shown) := by
  unfold State.cmpRelease
  extract_lets _ _ _ s1 l
  have hs1 : Evolves s s1 := h.foldl fun _ _ hu => by
      split
      · exact .ite hu hu.releaseAt
      · exact hu
  have hl : Evolves s l := hs1.foldl fun _ _ hu => by
      extract_lets _ _
      exact hu.foldl fun _ _ hv => .ite hv hv.releaseAt
  exact hl.decKickAll

theorem Evolves.cmpPoint {n : Nat} {shown : Option Nat} (h : Evolves s t) : Evolves s (t.cmpPoint n shown) := by
  unfold State.cmpPoint
  extract_lets s1
  have hs1 : Evolves s s1 := h.foldl fun _ _ hu => .ite hu.sets hu
  exact .cmpRelease (hs1.scalers.foldl fun _ _ hu => hu.layerChoose)

theorem Evolves.guardCheck {n g crc : Nat} (h : Evolves s t) : Evolves s (t.guardCheck n g crc) := by
  refine .ite h ?_
  refine .ite ?_ ?_
  · extract_lets _ _ _
    exact .ite h (.ite h.sets.raise h)
  · refine .ite h ?_
    extract_lets s1
    have hs1 : Evolves s s1 := h.sets.inc.raise
    exact .ite hs1.set hs1

theorem advances_execGuardClr {n : Fin 9} {g : Fin 16} (h : Evolves s t) : Advances s (execGuardClr n g t) :=
  .next (h.hostToBead fun _ hu => .ite hu.set hu)

theorem Evolves.wallCommit {tag : Nat} (h : Evolves s t) : Evolves s (t.wallCommit tag) := by
  refine .ite ?_ h.cmpRetry
  extract_lets +onlyGivenNames _
  split
  · exact h.rodUse.clearPend.commitBad.cmpRetry
  · extract_lets s1 _
    have hs1 : Evolves s s1 := h.clearPend.cmpApply
    exact hs1.rodUse.trayPut.set

theorem Evolves.canvasStore {b : Nat} (h : Evolves s t) : Evolves s (t.canvasStore b) := by
  unfold State.canvasStore
  extract_lets _ _ _ _ _
  exact h.foldl fun _ _ hu => hu.dramPut

theorem Evolves.wallFrame {tag : Nat} {shown : Option Nat} (h : Evolves s t) :
    Evolves s (t.wallFrame tag shown) := by
  unfold State.wallFrame
  extract_lets +onlyGivenNames s0
  have hs0 : Evolves s s0 := h.pktRelease.set
  split
  · exact hs0.set.raise
  · extract_lets _ s1 s2 _ s3 s4
    have hs1 : Evolves s s1 := .canvasStore (hs0.wallCommit.beginJob.cmpPoint.foldl fun _ _ hu => hu.composeUse)
    have hs2 : Evolves s s2 := hs1.foldl fun _ _ hu => .ite hu.guardCheck hu
    have hs3 : Evolves s s3 := hs2.sets
    clear_value s3
    have hs4 : Evolves s s4 := hs3.beside rfl
    exact hs4.endJob.encKick

theorem advances_execCanvasFrameStart {tag : BitVec 32} (h : Evolves s t) : Advances s (execCanvasFrameStart tag t) :=
  .next (.ite h.wallFrame h)

theorem advances_execCwaitTimeout {tag : BitVec 32} (h : Evolves s t) : Advances s (execCwaitTimeout tag t) :=
  .next (.ite h.set.raise.wallFrame h)

theorem advances_execRegionComplete {r : BitVec 11} {tag : BitVec 32} (h : Evolves s t) :
    Advances s (execRegionComplete r tag t) := by
  refine .next ?_
  split
  · exact .ite h (.regionReport (h.beside rfl))
  · exact h

/-! ### The output heads -/

theorem Evolves.sdiStat {o : Nat} (h : Evolves s t) : Evolves s (t.sdiStat o) := by
  unfold State.sdiStat
  extract_lets _
  refine .ite ?_ h.sets
  split
  · exact h.sets
  · exact h.sets

theorem Evolves.dpLinkEv {q : Nat} (h : Evolves s t) : Evolves s (t.dpLinkEv q) := h.set.raise

theorem Evolves.dpStream {q : Nat} (h : Evolves s t) : Evolves s (t.dpStream q) := by
  unfold State.dpStream
  extract_lets +onlyGivenNames _
  refine .ite h.set ?_
  refine .ite h.sets ?_
  extract_lets s1
  have hs1 : Evolves s s1 := h.sets
  exact .ite hs1 hs1.dpLinkEv

theorem Evolves.outputs (h : Evolves s t) : Evolves s t.outputs := h.foldl fun _ _ hu => hu.sdiStat.dpStream

theorem Evolves.outSwitch {n : Nat} (h : Evolves s t) : Evolves s (t.outSwitch n) :=
  .outputs (h.foldl fun _ _ hu => by
    refine .ite ?_ hu
    extract_lets s1
    have hs1 : Evolves s s1 := hu.set
    exact .ite hs1.laneGo hs1)

theorem Evolves.outCopies {n : Nat} (h : Evolves s t) : Evolves s (t.outCopies n) :=
  h.foldl fun _ _ hu => by
    extract_lets +onlyGivenNames _ _ s1
    have hs1 : Evolves s s1 := .ite hu.trayReadAs.withUanc hu
    exact .ite hs1.trayReadAs.withHdrs hs1

theorem Evolves.userPackets {o space : Nat} (h : Evolves s t) : Evolves s (t.userPackets o space) := by
  unfold State.userPackets
  split
  · exact h
  · extract_lets b
    have hb : Evolves s b.2.2 := .foldlOn (Prod.snd ∘ Prod.snd) h fun _ _ hu => by
        extract_lets _ _
        exact .iteOn (Prod.snd ∘ Prod.snd) hu (.iteOn (Prod.snd ∘ Prod.snd) hu.set.inc.raise hu)
    exact hb.emit

theorem Evolves.outInsert {n : Nat} (h : Evolves s t) : Evolves s (t.outInsert n) :=
  h.foldl fun _ _ hu => by
    extract_lets _ _ s1
    have hs1 : Evolves s s1 := .ite hu.drawn.emit hu
    exact .ite hs1.emit hs1

theorem Evolves.headApply {n : Nat} (h : Evolves s t) : Evolves s (t.headApply n) := by
  unfold State.headApply
  extract_lets _ s1 was s2
  have hs1 : Evolves s s1 := h.cmpApply.commitWhere
  have hwas : Evolves s was := hs1.foldl fun _ _ hu => by
      extract_lets _
      exact .ite (.ite hu.set hu) (.ite hu.setInf hu)
  have hs2 : Evolves s s2 := .ite hwas.set hwas
  exact hs2.outCopies.outputs

theorem Evolves.headCommit {n : Nat} (h : Evolves s t) : Evolves s (t.headCommit n) := by
  unfold State.headCommit
  extract_lets _
  refine .ite ?_ h.cmpRetry
  split
  · exact h.clearPend.commitBad.cmpRetry
  · exact h.clearPend.headApply

theorem Evolves.headLatch {n : Nat} (h : Evolves s t) : Evolves s (t.headLatch n) := h.sets

theorem Evolves.cmpEnd {n status : Nat} (h : Evolves s t) : Evolves s (t.cmpEnd n status) := h.foldl fun _ _ hu => hu.endJob

theorem Evolves.headCompare {n : Nat} (h : Evolves s t) : Evolves s (t.headCompare n) := by
  refine .ite h ?_
  extract_lets _ _ _ _ _
  exact .ite h h.set.set.raise

theorem Evolves.headDrift {n : Nat} (h : Evolves s t) : Evolves s (t.headDrift n) := by
  refine .ite h.set ?_
  extract_lets +onlyGivenNames _ _
  refine .ite h.set ?_
  extract_lets _
  exact h.set.foldl fun _ _ hu => by
      extract_lets _
      exact .ite hu.set.inc.raise hu

theorem Evolves.headFrame {n : Nat} (h : Evolves s t) : Evolves s (t.headFrame n) := by
  unfold State.headFrame
  extract_lets s0 s1
  have hs0 : Evolves s s0 := h.beside rfl
  have hs1 : Evolves s s1 := hs0.headDrift.headLatch.sets.headCompare
  exact hs1.outSwitch.outInsert.encDue

theorem Evolves.headBlank {n : Nat} (h : Evolves s t) : Evolves s (t.headBlank n) := by
  unfold State.headBlank
  extract_lets _ s1
  have hs1 : Evolves s s1 := h.sets.cmpEnd.raise
  exact .encKick (hs1.beside rfl)

theorem Evolves.headGuards {n y : Nat} (h : Evolves s t) : Evolves s (t.headGuards n y) :=
  h.foldl fun _ _ hu => .ite hu.guardCheck hu

theorem Evolves.headOut {n y : Nat} (h : Evolves s t) : Evolves s (t.headOut n y) := by
  refine .ite ?_ h
  extract_lets _
  exact h.emit

theorem Evolves.headLine {n y : Nat} {under : Option Nat} (h : Evolves s t) :
    Evolves s (t.headLine n y under) := by
  unfold State.headLine
  extract_lets s1 s2 s3 s4 s5 s6 s6'
  have hs1 : Evolves s s1 := h.set
  have hs2 : Evolves s s2 := .ite hs1.headFrame hs1
  have hs3 : Evolves s s3 := .ite hs2.headBlank hs2
  have hs4 : Evolves s s4 := .ite hs3.headCommit.cmpPoint hs3
  have hs5 : Evolves s s5 := hs4.foldl fun _ _ hu => .ite hu.userPackets hu
  have hs6 : Evolves s s6 := .ite hs5.cmpEnd.beginJob hs5
  have hs6' : Evolves s s6' := hs6.when fun _ hu => hu.composeUse
  clear_value s6'
  split
  · refine .ite ?_ hs6'
    extract_lets s7
    have hs7 : Evolves s s7 := .ite hs6' hs6'.sets
    exact .raise (.set (.inc (hs7.beside rfl)))
  · exact hs6'

theorem Evolves.headRun {n : Nat} (h : Evolves s t) : Evolves s (t.headRun n) := by
  unfold State.headRun
  extract_lets s1
  have hs1 : Evolves s s1 := h.set.headLatch
  exact hs1.sets.headLine

theorem Evolves.headStart {n : Nat} (h : Evolves s t) : Evolves s (t.headStart n) := .ite h.set h.headRun

theorem Evolves.headStop {n st : Nat} (h : Evolves s t) : Evolves s (t.headStop n st) := h.cmpEnd.sets.outputs

theorem Evolves.headRelock {n : Nat} (h : Evolves s t) : Evolves s (t.headRelock n) := h.headStop.set.raise

theorem Evolves.headOn {n : Nat} (h : Evolves s t) : Evolves s (t.headOn n) := .ite h.set.headStart h.set

theorem Evolves.headOff {n : Nat} (h : Evolves s t) : Evolves s (t.headOff n) := by
  unfold State.headOff
  extract_lets s1
  have hs1 : Evolves s s1 := h.set.headStop
  exact .ite hs1.headCommit hs1

theorem advances_execHeadEnable {n : Fin 8} (h : Evolves s t) : Advances s (execHeadEnable n t) :=
  .next (h.hostToBead fun _ hu => hu.headOn)

theorem advances_execHeadDisable {n : Fin 8} (h : Evolves s t) : Advances s (execHeadDisable n t) :=
  .next (h.hostToBead fun _ hu => hu.headOff)

theorem advances_execHeadStart {n : Fin 8} (h : Evolves s t) : Advances s (execHeadStart n t) := .next (.ite h h.headRun)

theorem advances_execHeadLineStart {n : Fin 8} {under : Option (BitVec 14)} (h : Evolves s t) :
    Advances s (execHeadLineStart n under t) := by
  refine .next (.ite h ?_)
  extract_lets _
  exact .ite h.headOut.headGuards.headLine (.ite h.set (.ite h.headRelock h.headLine))

theorem advances_execHeadPllLock {n : Fin 8} (h : Evolves s t) : Advances s (execHeadPllLock n t) :=
  .next (.ite h (.headStart (h.foldl fun _ _ hu => .ite hu.laneGo hu)))

theorem advances_execHeadPllUnlock {n : Fin 8} (h : Evolves s t) : Advances s (execHeadPllUnlock n t) :=
  .next (.ite h h.headRelock)

theorem Evolves.dpDown {q : Nat} (h : Evolves s t) : Evolves s (t.dpDown q) := h.sets

theorem Evolves.dpTrain {q : Nat} (h : Evolves s t) : Evolves s (t.dpTrain q) := .ite h.dpDown.set h

theorem advances_execHpdChange {q : Fin 4} {level : Bool} (h : Evolves s t) : Advances s (execHpdChange q level t) := by
  refine .next (.ite h ?_)
  extract_lets +onlyGivenNames s1
  have hs1 : Evolves s s1 := h.set.set.raise
  refine .ite hs1.dpTrain ?_
  extract_lets s2
  have hs2 : Evolves s s2 := hs1.dpDown.set
  exact .ite hs2.dpLinkEv hs2

theorem advances_execIrqHpd {q : Fin 4} {lost : Bool} (h : Evolves s t) : Advances s (execIrqHpd q lost t) := by
  refine .next (.ite h ?_)
  extract_lets s1
  have hs1 : Evolves s s1 := h.set.raise
  exact .ite hs1.dpTrain hs1

theorem Evolves.auxSend {q : Nat} (h : Evolves s t) : Evolves s (t.auxSend q) := by
  unfold State.auxSend
  extract_lets _ _
  exact h.emit

theorem advances_execDpTrained {q : Fin 4} {ok : Bool} {rate : Fin 9} {lanes : Fin 3} (h : Evolves s t) :
    Advances s (execDpTrained q ok rate lanes t) := by
  refine .next (.ite h ?_)
  extract_lets s1 s2
  have hs1 : Evolves s s1 := h.set.foldl fun _ _ hu => hu.txTrained
  have hs2 : Evolves s s2 := .ite hs1.sets.dpStream hs1.inc.dpLinkEv
  exact .ite hs2.auxSend hs2

theorem Evolves.auxEnd {q result count : Nat} (h : Evolves s t) : Evolves s (t.auxEnd q result count) := h.sets

theorem Evolves.auxGo {q op len addr : Nat} (h : Evolves s t) : Evolves s (t.auxGo q op len addr) :=
  h.hostToBead fun _ hu => by
    refine .ite hu ?_
    extract_lets +onlyGivenNames s1
    have hs1 : Evolves s s1 := hu.sets
    refine .ite hs1.auxEnd ?_
    extract_lets s2
    have hs2 : Evolves s s2 := hs1.set
    exact .ite hs2 hs2.auxSend

theorem advances_execAuxNativeWrite {q : Fin 4} {len : Fin 16} {addr : BitVec 20} (h : Evolves s t) :
    Advances s (execAuxNativeWrite q len addr t) :=
  .next h.auxGo

theorem advances_execAuxNativeRead {q : Fin 4} {len : Fin 16} {addr : BitVec 20} (h : Evolves s t) :
    Advances s (execAuxNativeRead q len addr t) :=
  .next h.auxGo

theorem advances_execAuxI2cWrite {q : Fin 4} {len : Fin 16} {addr : BitVec 20} (h : Evolves s t) :
    Advances s (execAuxI2cWrite q len addr t) :=
  .next h.auxGo

theorem advances_execAuxI2cRead {q : Fin 4} {len : Fin 16} {addr : BitVec 20} (h : Evolves s t) :
    Advances s (execAuxI2cRead q len addr t) :=
  .next h.auxGo

theorem advances_execAuxI2cWriteMot {q : Fin 4} {len : Fin 16} {addr : BitVec 20} (h : Evolves s t) :
    Advances s (execAuxI2cWriteMot q len addr t) :=
  .next h.auxGo

theorem advances_execAuxI2cReadMot {q : Fin 4} {len : Fin 16} {addr : BitVec 20} (h : Evolves s t) :
    Advances s (execAuxI2cReadMot q len addr t) :=
  .next h.auxGo

theorem Evolves.auxStore {q : Nat} {d : List Byte} (h : Evolves s t) : Evolves s (t.auxStore q d) := by
  unfold State.auxStore
  extract_lets _
  exact h.sets

theorem advances_execAuxReply {q : Fin 4} {kind : AuxKind} {count : Fin 17} {data : List Byte} (h : Evolves s t) :
    Advances s (execAuxReply q kind count data t) := by
  refine .next (.ite h ?_)
  extract_lets _ s1
  have hs1 : Evolves s s1 := .ite h.auxStore h
  split
  · exact hs1.auxEnd
  · exact hs1.auxEnd
  · exact .ite h.auxEnd h.set.auxSend

theorem advances_execAuxTimeout {q : Fin 4} (h : Evolves s t) : Advances s (execAuxTimeout q t) := .next (.ite h h.auxEnd)

/-! ### Audio -/

theorem Evolves.modAud {n : Nat} {g : AudPort → AudPort} (h : Evolves s t) : Evolves s (t.modAud n g) := h.beside rfl

theorem Evolves.blkFlag {n b : Nat} (h : Evolves s t) : Evolves s (t.blkFlag n b) := h.modAud

theorem Evolves.audStart {n t0 k : Nat} (h : Evolves s t) : Evolves s (t.audStart n t0 k) := by
  unfold State.audStart
  extract_lets s1 _
  have hs1 : Evolves s s1 := h.sets
  exact .beginJob (hs1.beside rfl)

theorem Evolves.audEnable {n : Nat} (h : Evolves s t) : Evolves s (t.audEnable n) := .ite h.set h.sets

theorem Evolves.audDisable {n : Nat} (h : Evolves s t) : Evolves s (t.audDisable n) := by
  unfold State.audDisable
  extract_lets s1 s2
  have hs1 : Evolves s s1 := h.foldl fun _ _ hu => hu.endJob
  have hs2 : Evolves s s2 := .sets (hs1.beside rfl)
  exact .ite hs2.tryCommit hs2

theorem advances_execAudPortEnable {n : Fin 8} (h : Evolves s t) : Advances s (execAudPortEnable n t) :=
  .next (h.hostToBead fun _ hu => hu.audEnable)

theorem advances_execAudPortStart {n : Fin 8} (h : Evolves s t) : Advances s (execAudPortStart n t) := by
  refine .next (.ite h ?_)
  refine .ite ?_ (.ite h.audStart h)
  extract_lets _ _ _
  exact h.audStart

theorem advances_execSgArm {g : Fin 4} (h : Evolves s t) : Advances s (execSgArm g t) :=
  .next (h.hostTo fun _ hu => by
    extract_lets +onlyGivenNames _ _ _
    refine .ite hu.wrRange ?_
    extract_lets _ s1
    have hs1 : Evolves s s1 := hu.set
    exact .ite hs1.set.set.raise hs1.set)

theorem Evolves.sgDisarm {g : Nat} (h : Evolves s t) : Evolves s (t.sgDisarm g) := h.set.foldl fun _ _ hu => .ite hu.set hu

theorem advances_execSgDisarm {g : Fin 4} (h : Evolves s t) : Advances s (execSgDisarm g t) :=
  .next (h.hostTo fun _ hu => .ite hu.sgDisarm hu)

theorem advances_execSgStart {g : Fin 4} (h : Evolves s t) : Advances s (execSgStart g t) := by
  refine .next (.ite h ?_)
  extract_lets _ _ s1
  have hs1 : Evolves s s1 := h.foldl fun _ _ hu => .ite hu.audStart hu.set.set.raise
  exact hs1.set.raise

theorem Evolves.audRingErr {n c : Nat} (h : Evolves s t) : Evolves s (t.audRingErr n c) := h.set.addSat.raise

theorem Evolves.blkWrite {a : AudPort} {b : AudBlk} {frames : List (List Nat)} (h : Evolves s t) :
    Evolves s (t.blkWrite a b frames) := by
  unfold State.blkWrite
  extract_lets +onlyGivenNames _ _ _ _
  refine .ite h.modAud.audRingErr.endJob ?_
  extract_lets _ _ _ _
  exact h.modAud.dramPut.set.raise.endJob

theorem Evolves.audDrain {n m : Nat} (h : Evolves s t) :
    Evolves s (t.audDrain n m) := by
  induction m generalizing t with
  | zero => exact h
  | succ m ih =>
    unfold State.audDrain
    split
    · split
      · refine .ite h ?_
        extract_lets _ _ _ s1
        have hs1 : Evolves s s1 := h.blkWrite
        exact ih hs1.modAud
      · exact h
    · exact h

theorem Evolves.blkClose {n cnt : Nat} {short : Bool} (h : Evolves s t) : Evolves s (t.blkClose n cnt short) := h.modAud

theorem Evolves.blkOpen {n : Nat} {drop rep : Bool} (h : Evolves s t) : Evolves s (t.blkOpen n drop rep) := by
  unfold State.blkOpen
  split
  · extract_lets _ _ _ _
    exact h.modAud.beginJob
  · exact h

theorem Evolves.txTake {n m : Nat} (h : Evolves s t) :
    Evolves s (t.txTake n m).2 := by
  induction m generalizing t with
  | zero => exact h
  | succ m ih =>
    unfold State.txTake
    extract_lets +onlyGivenNames rd
    refine .iteOn Prod.snd h ?_
    extract_lets +onlyGivenNames reg base d mask pack slots cnt s1
    have hs1 : Evolves s s1 := h.set
    exact .iteOn Prod.snd hs1 (ih hs1.set.raise.audRingErr)

theorem Evolves.txLoad {n : Nat} {drop rep : Bool} (h : Evolves s t) : Evolves s (t.txLoad n drop rep) := by
  unfold State.txLoad
  extract_lets r _ _ _ s1 _
  have hr : Evolves s r.2 := h.txTake
  have hs1 : Evolves s s1 := .ite hr.audRingErr hr
  exact hs1.modAud

theorem Evolves.blkNext {n : Nat} {drop rep : Bool} (h : Evolves s t) : Evolves s (t.blkNext n drop rep) :=
  .ite (h.beside rfl) h.blkOpen

theorem advances_execAudBlockBoundary {n : Fin 8} {phase : BitVec 8} (h : Evolves s t) :
    Advances s (execAudBlockBoundary n phase t) := by
  refine .next (.ite h ?_)
  split
  · exact h
  · extract_lets +onlyGivenNames _ s1 _ _ _ _ _ _ s2 _ s3
    have hs1 : Evolves s s1 := .ite h.sets.inc.raise h
    have hs2 : Evolves s s2 := hs1.modAud.set
    have hs3 : Evolves s s3 := .ite hs2.set.inc.raise hs2
    refine .ite hs3.endJob.blkNext.txLoad ?_
    refine .ite ?_ hs3.blkClose.blkNext.audDrain
    extract_lets _ _
    exact hs3.drawn.blkWrite.modAud.blkNext

theorem Evolves.audCommit {n : Nat} (h : Evolves s t) : Evolves s (t.audCommit n) := by
  refine .ite h ?_
  extract_lets r
  have hr : Evolves s r.1 := h.tryCommit
  refine .ite hr ?_
  split
  · exact hr
  · exact .ite hr.audRingErr.modAud.endJob.blkOpen.txLoad (.ite hr.modAud hr.blkClose.blkOpen.audDrain)

theorem advances_execAudSampleFrame {n : Fin 8} {fsErr : Bool} {samples : List (BitVec 24)} (h : Evolves s t) :
    Advances s (execAudSampleFrame n fsErr samples t) := by
  refine .next (.ite h ?_)
  split
  · exact h.audCommit
  · refine .ite h.modAud.audCommit ?_
    extract_lets s1 _ s2 _ _ _ s2'
    have hs1 : Evolves s s1 := .ite h.set.inc.raise.blkFlag h
    have hs2 : Evolves s s2 := hs1.modAud
    have hs2' : Evolves s s2' := .ite (.ite hs2 hs2.emit) hs1.modAud.audDrain
    exact hs2'.audCommit

theorem Evolves.asrcDrop {n : Nat} (h : Evolves s t) : Evolves s (t.asrcDrop n) := .ite h.set.set.raise h

theorem Evolves.audFallback {n : Nat} (h : Evolves s t) : Evolves s (t.audFallback n) := by
  unfold State.audFallback
  extract_lets s1
  have hs1 : Evolves s s1 := h.sets
  exact .ite hs1.set.asrcDrop.blkFlag hs1

theorem advances_execAudClkLoss {n : Fin 8} (h : Evolves s t) : Advances s (execAudClkLoss n t) :=
  .next (.ite h.set.raise.audFallback h)

theorem advances_execAudGlitch {n : Fin 8} (h : Evolves s t) : Advances s (execAudGlitch n t) := .next (.ite h.set.inc h)

theorem advances_execAudMonWindow {n : Fin 8} {hz : BitVec 32} (h : Evolves s t) :
    Advances s (execAudMonWindow n hz t) := by
  refine .next (.ite h ?_)
  extract_lets +onlyGivenNames _ _ _ _ _ s1 _
  have hs1 : Evolves s s1 := h.set
  refine .ite (.ite hs1 hs1.set.audFallback) ?_
  extract_lets _ s2
  have hs2 : Evolves s s2 := hs1.set
  exact .ite hs2 (.ite (.ite hs2.set hs2.set) hs2.set.set.raise)

theorem advances_execAsrcLock {n : Fin 8} {ratio : BitVec 32} (h : Evolves s t) : Advances s (execAsrcLock n ratio t) :=
  .next (.ite h h.sets.raise)

theorem advances_execAudStreamBlock {a : Fin 8} (h : Evolves s t) : Advances s (execAudStreamBlock a t) := by
  refine .next (.ite h ?_)
  extract_lets +onlyGivenNames _ s0
  have hs0 : Evolves s s0 := .ite h.commitAt h
  refine .ite hs0 ?_
  extract_lets _ _ _ s1
  have hs1 : Evolves s s1 := hs0.drawn.foldl fun _ _ hu => .ite hu.emit hu
  exact .ite hs1 (hs1.foldl fun _ _ hu => by
      extract_lets _ _
      exact .ite hu.flowBegin hu)

/-! ### The DEFLATE and DMA engines -/

theorem Evolves.utlPost {lim tail : Fld} {v : Nat} (h : Evolves s t) : Evolves s (t.utlPost lim tail v) := h.set.set

theorem Evolves.bufRead {tray : Bool} {region off n : Nat} (h : Evolves s t) :
    Evolves s (t.bufRead tray region off n).2.2 := by
  refine .iteOn (Prod.snd ∘ Prod.snd) ?_ h
  extract_lets r
  have hr : Evolves s r.2.2 := h.trayReadAs
  exact hr

theorem Evolves.bufWrite {tray : Bool} {region off : Nat} {d : List Byte} (h : Evolves s t) :
    Evolves s (t.bufWrite tray region off d) :=
  .ite h.trayPut h.dramPut

theorem Evolves.dflSave {j : UtlJob} {r : DflStrm} (h : Evolves s t) : Evolves s (t.dflSave j r) :=
  h.drawn.dramPut.dramPut.withDflRecs

theorem Evolves.dflRun {j : UtlJob} (h : Evolves s t) : Evolves s (t.dflRun j).2 := by
  refine .iteOn Prod.snd h ?_
  refine .iteOn Prod.snd h ?_
  extract_lets +onlyGivenNames _
  split
  · exact h
  · extract_lets +onlyGivenNames rd
    have hrd : Evolves s rd.2.2 := h.bufRead
    refine .iteOn Prod.snd hrd ?_
    refine .iteOn Prod.snd ?_ hrd
    extract_lets s1
    have hs1 : Evolves s s1 := hrd
    exact hs1.drawn

theorem Evolves.dflFree {n : Nat} (h : Evolves s t) : Evolves s (t.dflFree n) := .set (.set (.set (h.beside rfl)))

theorem Evolves.dflEnd {j : UtlJob} (h : Evolves s t) : Evolves s (t.dflEnd j) := by
  unfold State.dflEnd
  extract_lets _ rs _ _ s1 _ s2 _ s3 e s4 s5 s6 _
  have hrs : Evolves s rs.2 := h.dflRun
  have hs1 : Evolves s s1 := .ite hrs hrs.bufWrite
  have hs2 : Evolves s s2 := .ite hs1.dflSave hs1
  have hs3 : Evolves s s3 := hs2.trayPut.dflFree
  have he : Evolves s e := .ite hs3 hs3.set
  have hs4 : Evolves s s4 := .ite hs3 he.set.inc.raise
  have hs5 : Evolves s s5 := hs4.when fun _ hu => hu.set.raise
  have hs6 : Evolves s s6 := hs5.when fun _ hu => hu.set.raise
  exact hs6.set.raiseIf.endJob

theorem advances_execDflTailWrite {n : Fin 2} {slot : BitVec 8} (h : Evolves s t) :
    Advances s (execDflTailWrite n slot t) :=
  .next (h.hostToBead fun _ hu => .ite hu.utlPost hu.wrRange)

theorem advances_execDflJobStart {n : Fin 2} (h : Evolves s t) : Advances s (execDflJobStart n t) := by
  refine .next ?_
  extract_lets +onlyGivenNames _
  refine .ite h ?_
  extract_lets +onlyGivenNames _ _ s1
  have hs1 : Evolves s s1 := h.trayReadAs.set
  refine .ite hs1.set ?_
  extract_lets s2 s3 s4
  have hs2 : Evolves s s2 := hs1.withDfls.set
  have hs3 : Evolves s s3 := .ite hs2.set.set hs2
  have hs4 : Evolves s s4 := hs3.beginJob
  exact .ite hs4.dflEnd hs4

theorem advances_execDflJobDone {n : Fin 2} (h : Evolves s t) : Advances s (execDflJobDone n t) := by
  refine .next ?_
  split
  · exact h.dflEnd
  · exact h

theorem Evolves.dflCut {n : Nat} {log : Bool} (h : Evolves s t) : Evolves s (t.dflCut n log) := by
  unfold State.dflCut
  split
  · exact h.dflFree
  · extract_lets _ _ s1 s2
    have hs1 : Evolves s s1 := .dflFree (.ite h.drawn h.drawn.bufWrite)
    have hs2 : Evolves s s2 := hs1.set.raise
    exact .ite hs2.endJob (hs2.beside rfl)

theorem advances_execDflDisable {n : Fin 2} (h : Evolves s t) : Advances s (execDflDisable n t) :=
  .next (h.hostToBead fun _ hu => hu.set.dflCut)

theorem Evolves.dmaEnd {j : UtlJob} {status : Nat} (h : Evolves s t) : Evolves s (t.dmaEnd j status) := by
  unfold State.dmaEnd
  extract_lets _ _ s1 e s2
  have hs1 : Evolves s s1 := .trayPut (.trayPut (h.beside rfl))
  have he : Evolves s e := .ite hs1 hs1.set
  have hs2 : Evolves s s2 := .ite hs1 he.set.inc.raise
  exact hs2.set.raiseIf.endJob

theorem Evolves.dmaTake {d : Nat} (h : Evolves s t) : Evolves s (t.dmaTake d).1 := by
  unfold State.dmaTake
  extract_lets +onlyGivenNames _
  refine .iteOn Prod.fst h ?_
  extract_lets _ _ _ s1
  have hs1 : Evolves s s1 := h.trayReadAs.withDmas.beginJob
  exact .iteOn Prod.fst hs1.dmaEnd (.iteOn Prod.fst hs1 hs1.dmaEnd)

theorem Evolves.dmaGo {d n : Nat} (h : Evolves s t) :
    Evolves s (State.dmaGo d n t) := by
  induction n generalizing t with
  | zero => exact h
  | succ n ih => exact .ite (ih h.dmaTake) h.dmaTake

theorem Evolves.dmaKick {d : Nat} (h : Evolves s t) : Evolves s (t.dmaKick d) := h.dmaGo

theorem advances_execDmaTailWrite {d : Fin 8} {slot : BitVec 8} (h : Evolves s t) :
    Advances s (execDmaTailWrite d slot t) :=
  .next (h.hostToBead fun _ hu => hu.utlPost.dmaKick)

theorem Evolves.dmaData {j : UtlJob} {host : List Byte} (h : Evolves s t) : Evolves s (t.dmaData j host).2.2 :=
  .iteOn (Prod.snd ∘ Prod.snd) h h.bufRead

theorem Evolves.dmaPut {j : UtlJob} {d : List Byte} (h : Evolves s t) : Evolves s (t.dmaPut j d) :=
  .ite h (.ite h.emit h.bufWrite)

theorem advances_execDmaJobDone {d : Fin 8} {ok : Bool} {data : List Byte} (h : Evolves s t) :
    Advances s (execDmaJobDone d ok data t) := by
  refine .next ?_
  split
  · exact h
  · extract_lets r s1 _ _ _ s2
    have hr : Evolves s r.2.2 := h.dmaData
    have hs1 : Evolves s s1 := hr
    have hs2 : Evolves s s2 := .ite hs1.dmaPut (.ite hs1.dmaPut hs1.drawn.dmaPut)
    exact hs2.dmaEnd.dmaKick

theorem Evolves.dmaCut {d : Nat} {log : Bool} (h : Evolves s t) : Evolves s (t.dmaCut d log) := by
  unfold State.dmaCut
  split
  · exact h
  · extract_lets s1 r s2
    have hs1 : Evolves s s1 := .set (h.beside rfl)
    have hr : Evolves s r.2.2 := hs1.dmaData
    have hs2 : Evolves s s2 := hs1.drawn.drawn.dmaPut
    exact .ite hs2.endJob (hs2.beside rfl)

theorem advances_execDmaDisable {d : Fin 8} (h : Evolves s t) : Advances s (execDmaDisable d t) :=
  .next (h.hostToBead fun _ hu => hu.set.dmaCut)

/-! ### Control cores, the host port and mailboxes -/

theorem Evolves.mbCrossing {old : State} {p : Nat} (h : Evolves s t) : Evolves s (t.mbCrossing old p) :=
  .ite h.set.set.raise h

theorem Evolves.mbCollision {m : Nat} (h : Evolves s t) : Evolves s (t.mbCollision m) := .ite h.set.raise h

theorem Evolves.mbData {m i v : Nat} (h : Evolves s t) : Evolves s (t.mbData m i v) :=
  .set (h.mbCollision.when fun _ hu => hu.set)

theorem Evolves.mbPost {m len : Nat} (h : Evolves s t) : Evolves s (t.mbPost m len) := by
  unfold State.mbPost
  extract_lets s1
  have hs1 : Evolves s s1 := h.mbCollision.set.set.set.set.set
  exact hs1.set.raiseIf.mbCrossing

theorem Evolves.mbTaken {m : Nat} (h : Evolves s t) : Evolves s (t.mbTaken m) := h.set.set.raiseIf

theorem Evolves.agentReset {a : Nat} (h : Evolves s t) : Evolves s (t.agentReset a) := by
  unfold State.agentReset
  extract_lets s1
  have hs1 : Evolves s s1 := h.set
  exact hs1.foldl fun _ _ hu => .ite (.ite hu.set.raise hu) (.ite (.set (hu.foldl fun _ _ hv => hv.set)) hu)

theorem advances_execMbDataWrite {agent : Fin 6} {m : Fin 32} {i : Fin 16} {v : BitVec 32} (h : Evolves s t) :
    Advances s (execMbDataWrite agent m i v t) :=
  .next (.ite h h.mbData)

theorem advances_execMbGo {agent : Fin 6} {m : Fin 32} {len : BitVec 5} {arm : Bool} (h : Evolves s t) :
    Advances s (execMbGo agent m len arm t) := by
  refine .next (.ite h ?_)
  refine .ite h.wrRange ?_
  extract_lets s1
  have hs1 : Evolves s s1 := h.when fun _ hu => hu.set
  exact hs1.mbPost.mbCrossing

theorem advances_execMbArmWait {agent : Fin 6} {m : Fin 32} {len : BitVec 5} (h : Evolves s t) :
    Advances s (execMbArmWait agent m len t) :=
  .next (.ite h (.ite h.wrRange h.set.set.mbCrossing))

theorem advances_execMbTake {agent : Fin 6} {m : Fin 32} (h : Evolves s t) : Advances s (execMbTake agent m t) := by
  refine .next ?_
  extract_lets _ s1
  have hs1 : Evolves s s1 := .ite h.mbTaken h
  exact .ite hs1.emit hs1

theorem Evolves.ring {a d v : Nat} (h : Evolves s t) : Evolves s (t.ring a d v) := by
  unfold State.ring
  extract_lets s1
  have hs1 : Evolves s s1 := h.set
  exact hs1.raiseIf

theorem advances_execDbSet {agent a : Fin 6} {hi : Bool} {v : BitVec 32} (h : Evolves s t) :
    Advances s (execDbSet agent a hi v t) :=
  .next (.ite h h.ring)

theorem advances_execDbClear {agent a : Fin 6} {hi : Bool} {v : BitVec 32} (h : Evolves s t) :
    Advances s (execDbClear agent a hi v t) := by
  refine .next (.ite h ?_)
  extract_lets _
  exact h.set

theorem advances_execCoreWatchdog {k : Fin 4} (h : Evolves s t) : Advances s (execCoreWatchdog k t) :=
  .next h.agentReset.raise

theorem Evolves.hepReset (h : Evolves s t) :
    Evolves s t.hepReset := by
  unfold State.hepReset
  extract_lets s1
  have hs1 : Evolves s s1 := h.foldl fun _ _ hu => hu.set
  clear_value s1
  exact .agentReset (hs1.beside rfl)

theorem advances_execHepReset (h : Evolves s t) : Advances s (execHepReset t) := .next h.hepReset

theorem advances_execMsixEnable (h : Evolves s t) : Advances s (execMsixEnable t) :=
  .next (h.set.set.foldl fun _ _ hu => .ite hu.msix hu)

theorem Evolves.reply {p code result token : Nat} {ws : List Nat} (h : Evolves s t) :
    Evolves s (t.reply p code result token ws) := by
  unfold State.reply
  extract_lets _ _
  exact .mbPost (h.foldl fun _ _ hu => hu.mbData)

theorem Evolves.serve {p code : Nat} {f : List Nat → State → Nat × List Nat × State} (h : Evolves s t)
    (hf : ∀ x u, Evolves s u → Evolves s (f x u).2.2) :
    Evolves s (t.serve p code f) := by
  unfold State.serve
  extract_lets +onlyGivenNames _
  refine .ite h ?_
  extract_lets +onlyGivenNames _ _ _
  refine .ite h.mbTaken ?_
  refine .ite ?_ (.ite h h.mbTaken.reply)
  extract_lets r
  have hr : Evolves s r.2.2 := hf _ _ h.mbTaken
  exact hr.reply

theorem advances_execEcho {p : Fin 8} (h : Evolves s t) : Advances s (execEcho p t) := .next (h.serve fun _ _ hu => hu)

theorem Evolves.netTx {ws : List Nat} (h : Evolves s t) : Evolves s (State.netTx ws t).2.2 := by
  unfold State.netTx
  extract_lets +onlyGivenNames _ _
  refine .iteOn (Prod.snd ∘ Prod.snd) h ?_
  extract_lets r
  have hr : Evolves s r.2.2 := h.trayReadAs
  exact .iteOn (Prod.snd ∘ Prod.snd) hr (hr.when fun _ hu => hu.emit)

theorem advances_execNetTx {p : Fin 8} (h : Evolves s t) : Advances s (execNetTx p t) :=
  .next (h.serve fun _ _ hu => hu.netTx)

theorem Evolves.netRx {ws : List Nat} (h : Evolves s t) : Evolves s (State.netRx ws t).2.2 := by
  unfold State.netRx
  extract_lets _ _ _ _
  exact .iteOn (Prod.snd ∘ Prod.snd) h (h.beside rfl)

theorem advances_execNetRx {p : Fin 8} (h : Evolves s t) : Advances s (execNetRx p t) :=
  .next (h.serve fun _ _ hu => hu.netRx)

theorem Evolves.keepPut {a : Nat} {d : List Byte} (h : Evolves s t) :
    Evolves s (t.keepPut a d) := h.write (.keep _ a d)

theorem advances_execFaultHistoryWrite (h : Evolves s t) : Advances s (execFaultHistoryWrite t) := by
  refine .next ?_
  split
  · exact h
  · extract_lets _
    exact .set (.keepPut (h.beside rfl))

theorem Evolves.clogWrite {r : ClogRec} (h : Evolves s t) : Evolves s (t.clogWrite r) := by
  unfold State.clogWrite
  extract_lets _ s1
  have hs1 : Evolves s s1 := h.set
  split
  · exact hs1.dramPut
  · exact hs1

theorem Evolves.clogLostMark {rod : Nat} (h : Evolves s t) : Evolves s (t.clogLostMark rod) := by
  unfold State.clogLostMark
  extract_lets _
  exact .ite h (.set (h.beside rfl))

theorem advances_execClogRecord {rod : Fin 16} (h : Evolves s t) : Advances s (execClogRecord rod t) := by
  refine .next ?_
  split
  · exact h
  · exact .clogLostMark (.clogWrite (h.beside rfl))

/-! ### Calibration -/

theorem Evolves.trimTo {kind inst : Nat} {target : Int} {src : Nat} (h : Evolves s t) :
    Evolves s (t.trimTo kind inst target src) := by
  unfold State.trimTo
  extract_lets _ _
  exact h.beside rfl

theorem Evolves.trimRestore {rod : Nat} (h : Evolves s t) : Evolves s (t.trimRestore rod) := h.beside rfl

theorem advances_execTrimWalkStep (h : Evolves s t) : Advances s (execTrimWalkStep t) := by
  refine .next (.ite h ?_)
  extract_lets s1
  have hs1 : Evolves s s1 := h.beside rfl
  exact .ite hs1 (.raise (hs1.beside rfl))

theorem Evolves.calEnd {result : Nat} (h : Evolves s t) : Evolves s (t.calEnd result) := by
  unfold State.calEnd
  split
  · exact h
  · extract_lets +onlyGivenNames s1 s2 s3
    have hs1 : Evolves s s1 := h.beside rfl
    have hs2 : Evolves s s2 := .ite hs1 (hs1.foldl fun _ _ hu => hu.trimTo)
    have hs3 : Evolves s s3 := hs2.sets
    refine .ite hs3.raise ?_
    extract_lets s4
    have hs4 : Evolves s s4 := hs3.set.raise
    exact .ite (.raise (.inc (.set (hs4.when fun _ hu => hu.set)))) hs4

theorem Evolves.calGo {routine arg : Nat} {pre : State → Bool} (h : Evolves s t) : Evolves s (t.calGo routine arg pre) :=
  h.hostToBead fun _ hu => by
    refine .ite hu.set ?_
    extract_lets s1 _
    have hs1 : Evolves s s1 := hu.sets
    exact .ite (hs1.beside rfl) (.calEnd (hs1.beside rfl))

theorem advances_execCalBgr {vref : Bool} (h : Evolves s t) : Advances s (execCalBgr vref t) := .next h.calGo

theorem advances_execCalXo (h : Evolves s t) : Advances s (execCalXo t) := .next h.calGo

theorem advances_execCalTs {arg : BitVec 16} (h : Evolves s t) : Advances s (execCalTs arg t) := .next h.calGo

theorem advances_execCalLane {arg : BitVec 16} (h : Evolves s t) : Advances s (execCalLane arg t) := .next h.calGo

theorem advances_execCalPll {arg : BitVec 16} (h : Evolves s t) : Advances s (execCalPll arg t) := .next h.calGo

theorem advances_execCalAbort (h : Evolves s t) : Advances s (execCalAbort t) := .next (h.hostToBead fun _ hu => hu.calEnd)

theorem Evolves.calMove {kind inst : Nat} {c : Int} (h : Evolves s t) : Evolves s (t.calMove kind inst c) :=
  .ite h (.ite h.trimTo h.calEnd)

theorem advances_execXoRound {mean : BitVec 32} (h : Evolves s t) : Advances s (execXoRound mean t) := by
  refine .next ?_
  split
  · refine .ite h ?_
    refine .ite (h.beside rfl) ?_
    refine .ite h ?_
    extract_lets +onlyGivenNames _
    refine .ite h.calEnd ?_
    extract_lets s1
    have hs1 : Evolves s s1 := h.calMove
    exact hs1.beside rfl
  · exact h

theorem advances_execCalConverged {codes : List (Fin 7 × BitVec 16 × BitVec 16)} (h : Evolves s t) :
    Advances s (execCalConverged codes t) := by
  refine .next ?_
  split
  · refine .ite h ?_
    extract_lets _
    exact .calEnd (h.foldl fun _ _ hu => hu.calMove)
  · exact h

theorem advances_execCalRoutineTimeout (h : Evolves s t) : Advances s (execCalRoutineTimeout t) := .next (.ite h h.calEnd)

theorem advances_execCalPrecondLost (h : Evolves s t) : Advances s (execCalPrecondLost t) := .next (.ite h h.calEnd)

theorem Evolves.calRod {rod : Nat} (h : Evolves s t) : Evolves s (t.calRod rod) := by
  unfold State.calRod
  split
  · exact .ite h.calEnd h
  · exact h

theorem Evolves.calPreempt {l : List (Nat × Nat)} (h : Evolves s t) : Evolves s (t.calPreempt l) := by
  unfold State.calPreempt
  split
  · exact .ite h.calEnd h
  · exact h

theorem advances_execTrimTargetWrite {v : BitVec 16} (h : Evolves s t) : Advances s (execTrimTargetWrite v t) :=
  .next (h.hostToBead fun _ hu => by
    extract_lets _ _ _
    exact .ite hu.wrRange hu.calPreempt.trimTo)

theorem Evolves.calBoot (h : Evolves s t) :
    Evolves s t.calBoot := by
  unfold State.calBoot
  extract_lets gen use
  clear_value gen use
  split
  · exact .sets (h.beside rfl)
  · exact .raise (.set (h.beside rfl))

theorem Evolves.calSave {l : List Trim} {readBack : Bool} (h : Evolves s t) :
    Evolves s (t.calSave l readBack).2 := by
  unfold State.calSave
  extract_lets _ _ s1
  have hs1 : Evolves s s1 := .keepPut (h.write (.keepCleared _ _ _))
  exact .iteOn Prod.snd hs1.sets.raise hs1.set.raise

theorem Evolves.calServe {p code : Nat} {f : List Nat → State → Nat × List Nat × State} (h : Evolves s t)
    (hf : ∀ x u, Evolves s u → Evolves s (f x u).2.2) :
    Evolves s (t.calServe p code f) :=
  h.serve fun _ _ hu => .iteOn (Prod.snd ∘ Prod.snd) hu (hf _ _ hu)

theorem advances_execCalExport {p : Fin 8} (h : Evolves s t) :
    Advances s (execCalExport p t) :=
  .next (h.calServe fun _ u hu => by
    extract_lets l a
    clear_value l
    exact .iteOn (fun r : Nat × List Nat × State => r.2.2) hu hu.trayPut)

theorem advances_execCalImport {p : Fin 8} {readBack : Bool} (h : Evolves s t) : Advances s (execCalImport p readBack t) :=
  .next (h.calServe fun _ _ hu => by
    extract_lets +onlyGivenNames _ _
    refine .iteOn (Prod.snd ∘ Prod.snd) hu ?_
    extract_lets +onlyGivenNames r _ s0 _
    have hr : Evolves s r.2.2 := hu.trayReadAs
    have hs0 : Evolves s s0 := hr
    refine .iteOn (Prod.snd ∘ Prod.snd) hs0.raise ?_
    extract_lets +onlyGivenNames _ sv
    have hsv : Evolves s sv.2 := hs0.calSave
    refine .iteOn (Prod.snd ∘ Prod.snd) hsv.raise ?_
    extract_lets s1 _ s2
    have hs1 : Evolves s s1 := hsv
    have hs2 : Evolves s s2 := hs1.foldl fun _ _ hv => hv.trimTo
    exact hs2.foldl fun _ _ hv => hv.trimTo)

theorem advances_execCalSave {p : Fin 8} {readBack : Bool} (h : Evolves s t) : Advances s (execCalSave p readBack t) :=
  .next (h.calServe fun _ _ hu => by
    extract_lets r
    have hr : Evolves s r.2 := hu.calSave
    exact hr)

theorem advances_execUserRead {p : Fin 8} (h : Evolves s t) : Advances s (execUserRead p t) :=
  .next (h.calServe fun _ _ hu => by
    extract_lets _ _ _
    exact .iteOn (Prod.snd ∘ Prod.snd) hu (.iteOn (Prod.snd ∘ Prod.snd) hu hu.trayPut))

theorem advances_execUserWrite {p : Fin 8} {readBack : Bool} (h : Evolves s t) : Advances s (execUserWrite p readBack t) :=
  .next (h.calServe fun _ _ hu => by
    extract_lets +onlyGivenNames _ _ _
    refine .iteOn (Prod.snd ∘ Prod.snd) hu ?_
    refine .iteOn (Prod.snd ∘ Prod.snd) hu ?_
    extract_lets +onlyGivenNames r
    have hr : Evolves s r.2.2 := hu.trayReadAs
    refine .iteOn (Prod.snd ∘ Prod.snd) hr ?_
    extract_lets s1
    have hs1 : Evolves s s1 := hr.keepPut
    exact .iteOn (Prod.snd ∘ Prod.snd) hs1 hs1.set.raise)

/-! ### Motion -/

theorem Evolves.qldPut {f : Frame} (h : Evolves s t) : Evolves s (t.qldPut f) := h.beside rfl

/-! ### The source -/

theorem Evolves.motStart {tag : Nat} (h : Evolves s t) : Evolves s (t.motStart tag) := by
  refine .ite h ?_
  extract_lets +onlyGivenNames s1
  have hs1 : Evolves s s1 := h.commitAt
  split
  · exact hs1
  · extract_lets _ _
    exact .ite hs1.set.inc.raise.beginJob hs1.trayPut.set.beginJob

theorem Evolves.concealOut {tag : Nat} (h : Evolves s t) : Evolves s (t.concealOut tag) := h.foldl fun _ _ hu => hu.conceal

theorem Evolves.srcStart {tag : Nat} (h : Evolves s t) : Evolves s (t.srcStart tag) := .ite h h.concealOut.encKick

theorem Evolves.srcClosed {tag : Nat} (h : Evolves s t) : Evolves s (t.srcClosed tag) := by
  unfold State.srcClosed
  extract_lets s0 s1
  have hs0 : Evolves s s0 := h.motStart
  have hs1 : Evolves s s1 := by
    unfold s1
    split
    · exact .ite hs0.qldPut hs0
    · exact hs0
  exact .ite hs1.concealOut.encKick hs1

/-! ### Frames of the sensor ports -/

theorem Evolves.commitPair (h : Evolves s t) : Evolves s t.commitPair := by
  refine .ite h ?_
  extract_lets _ _ _ s1
  have hs1 : Evolves s s1 := h.clearPend.clearPend
  exact .ite hs1.commitBad hs1.commitDom.commitDom

theorem Evolves.commitLnk {p : Nat} (h : Evolves s t) : Evolves s (t.commitLnk p) := by
  unfold State.commitLnk
  extract_lets _ s1
  have hs1 : Evolves s s1 := .ite h.commitPair h.commitAt
  exact hs1.foldl fun _ _ hu => .ite hu hu.rephase

theorem Evolves.slotTaken {f : Frame} (h : Evolves s t) : Evolves s (t.slotTaken f) :=
  h.foldl fun _ _ hu => hu.modFrame.recSlotLost

theorem Evolves.rawPut {f : Frame} {a : Nat} {d : List Byte} (h : Evolves s t) : Evolves s (t.rawPut f a d) :=
  h.slotTaken.dramPut

theorem Evolves.putLine {tag j : Nat} {d : List Byte} (h : Evolves s t) : Evolves s (t.putLine tag j d) := by
  unfold State.putLine
  split
  · exact h.modFrame.rawPut
  · exact h

theorem Evolves.fillLine {tag j : Nat} (h : Evolves s t) : Evolves s (t.fillLine tag j) := by
  unfold State.fillLine
  split
  · exact h
  · split
    · exact h.modFrame.putLine
    · exact h.modFrame.putLine

theorem Evolves.fillGap {tag a b : Nat} (h : Evolves s t) : Evolves s (t.fillGap tag a b) :=
  h.foldl fun _ _ hu => hu.fillLine

theorem Evolves.enterFrame {f : Frame} (h : Evolves s t) : Evolves s (t.enterFrame f) := by
  unfold State.enterFrame
  extract_lets s1 s2
  have hs1 : Evolves s s1 := h.beside rfl
  have hs2 : Evolves s s2 := hs1.sets.beginJob
  exact .ite hs2.picStart.encSource.srcStart hs2

theorem Evolves.tagShort {q : Nat} (h : Evolves s t) : Evolves s (t.tagShort q) := h.set.inc.raise

theorem Evolves.linkFlag {p : Nat} {f : Fld} (h : Evolves s t) : Evolves s (t.linkFlag p f) := h.set.raise

theorem Evolves.lost {p : Nat} (h : Evolves s t) : Evolves s (t.lost p) := h.inc

theorem Evolves.lostFor {p : Nat} {f : Fld} (h : Evolves s t) : Evolves s (t.lostFor p f) := h.lost.linkFlag

theorem Evolves.dropHalves {l : List Half} (h : Evolves s t) : Evolves s (t.dropHalves l) :=
  h.foldl fun _ _ hu => hu.modLnk.lostFor

theorem Evolves.closeFrame {p : Nat} (h : Evolves s t) : Evolves s (t.closeFrame p) := by
  unfold State.closeFrame
  split
  · exact h
  · extract_lets s1 _ _ s2 _ s3
    have hs1 : Evolves s s1 := .fillGap (.ite h.dropHalves h)
    have hs2 : Evolves s s2 := hs1.modFrame
    have hs3 : Evolves s s3 := .set (.ite hs2.tagShort hs2)
    split
    · exact hs3
    · extract_lets _ s4
      have hs4 : Evolves s s4 := hs3.rawPut.endJob
      exact .exqOpen (.ite hs4.picClosed.srcClosed hs4)

theorem Evolves.recEnter {p : Nat} {f : Frame} (h : Evolves s t) : Evolves s (t.recEnter p f) :=
  .ite h.commitAt.recFrameStart h

theorem Evolves.exqFrame {p fcnt tag : Nat} (h : Evolves s t) : Evolves s (t.exqFrame p fcnt tag) := h.modLnk.setAccept

theorem Evolves.synth {p : Nat} (h : Evolves s t) : Evolves s (t.synth p) := by
  unfold State.synth
  extract_lets _ s1 _ _ s2 s3
  have hs1 : Evolves s s1 := h.exqClose.commitLnk
  have hs2 : Evolves s s2 := hs1.enterFrame.set.exqFrame.recEnter
  have hs3 : Evolves s s3 := hs2.set.raise.set
  exact hs3.closeFrame

theorem Evolves.synthWaiting {p : Nat} (h : Evolves s t) : Evolves s (t.synthWaiting p) := .ite h.synth h

theorem Evolves.serveSlot {p : Nat} (h : Evolves s t) : Evolves s (t.serveSlot p).2 := by
  unfold State.serveSlot
  extract_lets +onlyGivenNames _
  refine .iteOn Prod.snd h ?_
  extract_lets _
  exact .iteOn Prod.snd h.slotAfter.set (.iteOn Prod.snd h h.set)

theorem Evolves.startFrame {p fcnt ctx info mask : Nat} (h : Evolves s t) :
    Evolves s (t.startFrame p fcnt ctx info mask) := by
  unfold State.startFrame
  extract_lets s0 late s1 r _ _ _ f' s4
  have hs0 : Evolves s s0 := h.exqClose
  have hlate : Evolves s late := by
    unfold late
    split
    · extract_lets _
      exact .closeFrame (hs0.foldl fun _ _ hu => hu.linkFlag)
    · exact hs0
  have hs1 : Evolves s s1.2 := hlate.exqClose.serveSlot
  have hr : Evolves s r := hs1.commitLnk
  have hf' : Evolves s f' := .ite hr.set.raise hr
  have hs4 : Evolves s s4 := hf'.modLnk.set
  exact hs4.enterFrame.exqFrame.recEnter

theorem Evolves.shdr {p : Nat} {places : List Nat} (h : Evolves s t) : Evolves s (t.shdr p places) :=
  h.foldl fun _ _ hu => hu.inc

theorem Evolves.packet {p : Nat} {ok : Nat → Bool} {k : Packet} {g : Pkt → State → State} (h : Evolves s t)
    (hg : ∀ x u, Evolves s u → Evolves s (g x u)) :
    Evolves s (t.packet p ok k g) := by
  refine .ite h ?_
  extract_lets +onlyGivenNames _
  split
  · exact h
  · extract_lets s1
    have hs1 : Evolves s s1 := h.shdr
    split
    · exact hs1.lostFor
    · refine .ite h ?_
      split
      · exact hs1.lostFor
      · exact hg _ _ hs1

theorem Evolves.fsPacket {p : Nat} {k : Pkt} (h : Evolves s t) : Evolves s (t.fsPacket p k) := by
  unfold State.fsPacket
  extract_lets _ _ _ s1
  have hs1 : Evolves s s1 := by
    refine .ite ?_ h.startFrame
    split
    · exact h.modFrame
    · exact h
  refine .ite ?_ hs1
  split
  · exact hs1.modFrame.linkFlag
  · exact hs1

theorem advances_execFsPacket {port : Fin 2} {pkt : Packet} (h : Evolves s t) : Advances s (execFsPacket port pkt t) :=
  .next (h.packet fun _ _ hu => hu.fsPacket)

theorem advances_execFePacket {port : Fin 2} {pkt : Packet} (h : Evolves s t) : Advances s (execFePacket port pkt t) :=
  .next (h.packet fun _ _ hu => by
    extract_lets _
    split
    · refine .ite ?_ hu
      extract_lets _ s1
      have hs1 : Evolves s s1 := hu.modFrame
      exact .ite hs1.closeFrame.synthWaiting hs1
    · exact hu)

theorem Evolves.lineLong {f : Frame} (h : Evolves s t) : Evolves s (t.lineLong f) := by
  unfold State.lineLong
  extract_lets _ s1
  have hs1 : Evolves s s1 := h.modFrame
  exact .ite hs1 hs1.set.inc.raise

theorem Evolves.frameOverflow {f : Frame} {j : Nat} (h : Evolves s t) : Evolves s (t.frameOverflow f j) := by
  unfold State.frameOverflow
  extract_lets +onlyGivenNames _
  refine .ite h ?_
  extract_lets s1
  have hs1 : Evolves s s1 := h.modFrame
  exact hs1.set.inc.raise

theorem Evolves.lineReal {f : Frame} {j : Nat} {d : List Byte} (h : Evolves s t) : Evolves s (t.lineReal f j d) := by
  unfold State.lineReal
  extract_lets s0
  have hs0 : Evolves s s0 := .ite h.motStart h
  exact hs0.fillGap.putLine.modFrame

theorem Evolves.obReal {f : Frame} {i : Nat} {d : List Byte} (h : Evolves s t) : Evolves s (t.obReal f i d) :=
  h.modFrame.rawPut

theorem Evolves.lineIn {p : Nat} {ob : Bool} {f : Frame} {j : Nat} {d : List Byte} (h : Evolves s t) :
    Evolves s (t.lineIn p ob f j d) := by
  unfold State.lineIn
  extract_lets +onlyGivenNames go
  have hgo : ∀ u y, Evolves s u → Evolves s (go u y) := fun _ _ hu => .ite hu.obReal hu.lineReal
  refine .ite h.lineLong ?_
  refine .ite h.lostFor ?_
  refine .ite (hgo _ _ h) ?_
  split
  · extract_lets _ _
    exact hgo _ _ h.modLnk
  · exact h.modLnk

theorem Evolves.linePacket {p : Nat} {ob full : Bool} {k : Pkt} (h : Evolves s t) :
    Evolves s (t.linePacket p ob full k) := by
  unfold State.linePacket
  extract_lets +onlyGivenNames _ _ _
  refine .ite h.lostFor ?_
  extract_lets _ s1
  have hs1 : Evolves s s1 := .ite h.startFrame.linkFlag h
  split
  · exact .ite hs1.lostFor (.ite hs1 (.ite hs1.frameOverflow (.ite hs1.lost hs1.lineIn)))
  · exact hs1.lostFor

theorem advances_execLinePacket {port : Fin 2} {pkt : Packet} (h : Evolves s t) : Advances s (execLinePacket port pkt t) :=
  .next (h.packet fun _ _ hu => hu.linePacket)

theorem advances_execObPacket {port : Fin 2} {pkt : Packet} (h : Evolves s t) : Advances s (execObPacket port pkt t) :=
  .next (h.packet fun _ _ hu => hu.linePacket)

theorem advances_execEmbPacket {port : Fin 2} {pkt : Packet} (h : Evolves s t) : Advances s (execEmbPacket port pkt t) :=
  .next (h.packet fun _ _ hu => by
    split
    · refine .ite hu ?_
      refine .ite hu.frameOverflow ?_
      extract_lets _
      exact hu.modFrame.addSat
    · exact hu)

theorem advances_execVendorPacket {port : Fin 2} {pkt : Packet} (h : Evolves s t) :
    Advances s (execVendorPacket port pkt t) :=
  .next (h.packet fun _ _ hu => hu.inc)

theorem advances_execPairTimeout {port : Fin 2} {fs : Bool} (h : Evolves s t) : Advances s (execPairTimeout port fs t) := by
  refine .next (.ite ?_ h.dropHalves)
  split
  · exact .ite h (.linkFlag (h.modFrame.modLnk.foldl fun _ _ hu => hu.lost))
  · exact h

theorem Evolves.portEnable {p : Nat} (h : Evolves s t) : Evolves s (t.portEnable p) := by
  unfold State.portEnable
  extract_lets s1 _ _
  have hs1 : Evolves s s1 := h.set
  exact hs1.sets.when fun _ hu => hu.set

theorem advances_execPortEnable {port : Fin 2} (h : Evolves s t) : Advances s (execPortEnable port t) :=
  .next (h.hostToBead fun _ hu => .ite hu hu.portEnable)

theorem Evolves.portDisable {p : Nat} (h : Evolves s t) : Evolves s (t.portDisable p) := by
  unfold State.portDisable
  extract_lets _
  exact .commitLnk (h.set.set.when fun _ hu => hu.closeFrame.synthWaiting)

theorem advances_execPortDisable {port : Fin 2} (h : Evolves s t) : Advances s (execPortDisable port t) :=
  .next (h.hostToBead fun _ hu => .ite hu.portDisable hu)

theorem advances_execFrameTimeout {port : Fin 2} (h : Evolves s t) : Advances s (execFrameTimeout port t) := by
  unfold execFrameTimeout
  extract_lets _
  exact .next (.ite h.closeFrame.synthWaiting h)

theorem advances_execSlotDeadline {port : Fin 2} (h : Evolves s t) : Advances s (execSlotDeadline port t) := by
  unfold execSlotDeadline
  extract_lets +onlyGivenNames _
  refine .next (.ite h ?_)
  extract_lets s1
  have hs1 : Evolves s s1 := h.slotAfter
  exact .ite hs1 (.ite hs1.set hs1.synth)

/-! ### The image rods' jobs -/

theorem Evolves.imgCommit {n : Nat} (h : Evolves s t) : Evolves s (t.imgCommit n).1 := by
  unfold State.imgCommit
  extract_lets +onlyGivenNames _ _ r
  have hr : Evolves s r.1 := h.tryCommit
  refine .iteOn Prod.fst ?_ hr
  extract_lets _
  exact hr.foldl fun _ _ hu => by
      extract_lets t1
      have ht1 : Evolves s t1 := .ite hu.set hu
      exact ht1.set

theorem Evolves.imgPoint {n tag : Nat} (h : Evolves s t) : Evolves s (t.imgPoint n tag) := by
  unfold State.imgPoint
  extract_lets +onlyGivenNames _ _
  split
  · extract_lets r s1
    have hr : Evolves s r.1 := .imgCommit (h.beside rfl)
    have hs1 : Evolves s s1 := hr.set
    exact .ite hs1 hs1.set.raise
  · refine .ite ?_ h
    extract_lets _
    exact .ite h.imgCommit.set h

theorem Evolves.imgAsk {n : Nat} (h : Evolves s t) : Evolves s (t.imgAsk n) := by
  unfold State.imgAsk
  extract_lets _ s1 _
  have hs1 : Evolves s s1 := h.set
  exact .ite hs1.set.set.raise hs1

theorem Evolves.blackMeasure {n : Nat} {f : Frame} (h : Evolves s t) : Evolves s (t.blackMeasure n f) := by
  refine .ite h.set.raise ?_
  refine .ite h ?_
  extract_lets _
  exact h.foldl fun _ _ hu => by
      refine .ite ?_ hu
      split
      · exact hu.set
      · exact hu.set

theorem Evolves.dpcStart {n x0 x1 : Nat} (h : Evolves s t) : Evolves s (t.dpcStart n x0 x1).2 := by
  refine .iteOn Prod.snd ?_ h
  extract_lets _ s1
  have hs1 : Evolves s s1 := .ite h.set h
  exact .ite hs1.set.raise hs1

theorem Evolves.gridPut {rod : Nat} {a b : List Byte} (h : Evolves s t) : Evolves s (t.gridPut rod a b) := h.beside rfl

theorem Evolves.gridCopy {rod w x0 x1 base : Nat} {old : List Byte} (h : Evolves s t) :
    Evolves s (t.gridCopy rod w x0 x1 base old).2.2 :=
  .foldlOn (Prod.snd ∘ Prod.snd) h fun _ _ hu => by
    refine .iteOn (Prod.snd ∘ Prod.snd) hu ?_
    extract_lets _ r
    have hr : Evolves s r.2.2 := hu.trayReadAs
    exact hr

theorem Evolves.lscStart {n w x0 x1 : Nat} (h : Evolves s t) :
    Evolves s (t.lscStart n w x0 x1) := by
  refine .ite ?_ h
  extract_lets +onlyGivenNames rod base old a b
  have ha : Evolves s a.2.2 := by unfold a; exact h.gridCopy
  clear_value a
  have hb : Evolves s b.2.2 := by unfold b; exact ha.gridCopy
  clear_value b
  refine .ite hb.gridPut ?_
  extract_lets s1
  have hs1 : Evolves s s1 := hb.set.raise
  exact .ite hs1 hs1.drawn.drawn.gridPut

theorem Evolves.lutPick {n : Nat} (h : Evolves s t) : Evolves s (t.lutPick n).2 := by
  refine .iteOn Prod.snd ?_ h
  extract_lets +onlyGivenNames _ _
  refine .iteOn Prod.snd h ?_
  extract_lets s1
  have hs1 : Evolves s s1 := h.set.raise
  exact hs1

theorem Evolves.tnrStart {n k : Nat} {f : Frame} {poison : Bool} (h : Evolves s t) :
    Evolves s (t.tnrStart n k f poison).2 := by
  refine .iteOn Prod.snd ?_ h
  extract_lets _ s1
  have hs1 : Evolves s s1 := .ite h.set.inc.raise h
  refine .iteOn Prod.snd ?_ hs1
  split
  · exact hs1
  · exact hs1.set.inc.raise

theorem Evolves.imgStart {n k : Nat} {f : Frame} {poison : Bool} (h : Evolves s t) :
    Evolves s (t.imgStart n k f poison) := by
  unfold State.imgStart
  extract_lets s1 _ m s2 s3 l v s4
  have hs1 : Evolves s s1 := h.imgPoint
  have hm : Evolves s m.2 := hs1.dpcStart
  clear_value m
  have hs2 : Evolves s s2 := hm.lscStart
  have hs3 : Evolves s s3 := .ite hs2.blackMeasure hs2
  have hl : Evolves s l.2 := hs3.lutPick
  clear_value l
  have hv : Evolves s v.2 := hl.tnrStart
  clear_value v
  have hs4 : Evolves s s4 := hv.sets
  clear_value s4
  exact .beginJob (hs4.beside rfl)

theorem advances_execImgJobStart {n : Fin 5} {refPoison : Bool} (h : Evolves s t) :
    Advances s (execImgJobStart n refPoison t) := by
  refine .next ?_
  split
  · exact .ite h h.imgStart
  · exact h

theorem advances_execVecWaitTimeout {n : Fin 5} {refPoison : Bool} (h : Evolves s t) :
    Advances s (execVecWaitTimeout n refPoison t) := by
  refine .next ?_
  split
  · exact .ite h.imgStart h
  · exact h

theorem Evolves.putStripe {tag first cw : Nat} {lines : List (List Byte)} (h : Evolves s t) :
    Evolves s (t.putStripe tag first cw lines) := by
  unfold State.putStripe
  split
  · extract_lets +onlyGivenNames _ _
    refine .ite h ?_
    extract_lets _
    exact h.foldl fun _ _ hu => hu.dramPut
  · exact h

theorem Evolves.stsWrite {n k : Nat} {f : Frame} {first cw : Nat} {bytes : List Byte} (h : Evolves s t) :
    Evolves s (t.stsWrite n k f first cw bytes) := by
  unfold State.stsWrite
  split
  · refine .ite ?_ h
    extract_lets _ _
    exact h.trayPut.trayPut.raise
  · exact h

theorem Evolves.dcgEnd {n tag : Nat} {sums : Nat × Nat × Nat} (h : Evolves s t) : Evolves s (t.dcgEnd n tag sums) :=
  .ite h.sets.raise h

theorem Evolves.dpcEnd {n : Nat} {w : Work} {o : FrontOut} (h : Evolves s t) : Evolves s (t.dpcEnd n w o) := by
  refine .ite ?_ h
  extract_lets s1 _
  have hs1 : Evolves s s1 := h.set.drawn
  exact .ite hs1.drawn.set hs1.drawn

theorem Evolves.refPut {r : RefStripe} (h : Evolves s t) : Evolves s (t.refPut r) := h.beside rfl

theorem Evolves.imgEnd {j : ImgJob} (h : Evolves s t) : Evolves s (t.imgEnd j) := by
  unfold State.imgEnd
  extract_lets _
  split
  · exact h.beside rfl
  · extract_lets _ _ _ s1 _ _ s2 s3 s4 s5 s6 _ s7 _
    have hs1 : Evolves s s1 := .ite h h.blackMeasure
    have hs2 : Evolves s s2 := hs1.putStripe.writeEntry
    have hs3 : Evolves s s3 := .ite hs2.sets hs2
    have hs4 : Evolves s s4 := .ite hs3.stsWrite hs3
    have hs5 : Evolves s s5 := hs4.dcgEnd.dpcEnd
    have hs6 : Evolves s s6 := .ite hs5.refPut hs5
    have hs7 : Evolves s s7 := .ite hs6.drawn.set.addSat.raise hs6
    exact .encKick (.endJob (hs7.beside rfl))

theorem Evolves.trayUpset {l : List Nat} (h : Evolves s t) : Evolves s (t.trayUpset l) := h.beside rfl

theorem advances_execImgJobEnd {n : Fin 5} {upset : List (BitVec 23)} (h : Evolves s t) :
    Advances s (execImgJobEnd n upset t) := by
  refine .next ?_
  split
  · exact .ite h h.trayUpset.imgEnd
  · exact h

theorem advances_execDcgRatioUpdate {tag : BitVec 32} (h : Evolves s t) :
    Advances s (execDcgRatioUpdate tag t) := by
  unfold execDcgRatioUpdate
  extract_lets +onlyGivenNames rods
  clear_value rods
  refine .next ?_
  split
  · exact h
  · refine .ite ?_ h
    split
    · exact h.foldl fun _ _ hu => .ite hu hu.set.set.imgAsk
    · exact h

theorem advances_execMotSetComplete (h : Evolves s t) : Advances s (execMotSetComplete t) := by
  refine .next ?_
  split
  · exact h
  · split
    · exact h.endJob
    · refine .ite h ?_
      split
      · exact h.endJob
      · extract_lets _ _ _ _ s1 s2
        have hs1 : Evolves s s1 := h.trayPut
        have hs2 : Evolves s s2 := hs1.trayPut
        exact hs2.set.endJob.encKick

theorem advances_execLutInval {m : Fin 4} (h : Evolves s t) : Advances s (execLutInval m t) :=
  .next (h.hostTo fun _ hu => .ite hu.wrRange hu.set)

theorem advances_execLutCheck {m : Fin 4} (h : Evolves s t) : Advances s (execLutCheck m t) :=
  .next (h.hostTo fun _ hu => by
    extract_lets _
    exact .ite hu.set hu)

theorem Evolves.lutBad {m : Nat} (h : Evolves s t) : Evolves s (t.lutBad m) := h.set.set.raise

theorem Evolves.lutGood {m : Nat} (h : Evolves s t) :
    Evolves s (t.lutGood m).2 := by
  obtain ⟨r, e⟩ : ∃ r, r = t.trayReadAs 0 0 (t.get (R.SLOT_BASE_GRAN m) * granBytes) lutBytes := ⟨_, rfl⟩
  have hr : Evolves s r.2.2 := by
    rw [e]
    exact h.trayReadAs
  unfold State.lutGood
  rw [← e]
  exact hr

theorem advances_execLutCheckDone {m : Fin 4} (h : Evolves s t) : Advances s (execLutCheckDone m t) := by
  refine .next (.ite ?_ h)
  extract_lets r
  have hr : Evolves s r.2 := h.lutGood
  exact .ite hr.set.raise hr.lutBad

theorem advances_execLutRecheck (h : Evolves s t) : Advances s (execLutRecheck t) := by
  refine .next ?_
  split
  · extract_lets r s1
    have hr : Evolves s r.2 := h.lutGood
    have hs1 : Evolves s s1 := hr.set
    exact .ite hs1 hs1.lutBad
  · exact h

/-! ### The sensor link below its packets -/

theorem Evolves.srxMapped {p : Nat} (h : Evolves s t) : Evolves s (t.srxMapped p) := .ite h.set.emit h

theorem Evolves.badBlock {p k : Nat} {b : Blk} (h : Evolves s t) : Evolves s (t.badBlock p k b) := .ite h.inc h

theorem Evolves.tsBlock {p k : Nat} {d : List Byte} (h : Evolves s t) : Evolves s (t.tsBlock p k d) := by
  unfold State.tsBlock
  extract_lets +onlyGivenNames _
  refine .ite h.set ?_
  refine .ite h.linkFlag.set ?_
  extract_lets +onlyGivenNames _ _ s1
  have hs1 : Evolves s s1 := h.sets
  refine .ite hs1 ?_
  extract_lets s2 s3
  have hs2 : Evolves s s2 := hs1.sets
  have hs3 : Evolves s s3 := .ite hs2.sets hs2
  exact hs3.srxMapped

theorem advances_execTsBlock {port : Fin 2} {lane : Fin 34} {blk : Block66} (h : Evolves s t) :
    Advances s (execTsBlock port lane blk t) := by
  refine .next (.ite h ?_)
  split
  · exact h.tsBlock
  · exact h.badBlock

theorem advances_execBlockLock {port : Fin 2} {lane : Fin 34} {headers : List (BitVec 2)} (h : Evolves s t) :
    Advances s (execBlockLock port lane headers t) := by
  unfold execBlockLock
  extract_lets _
  exact .next (.ite h.sets h)

theorem advances_execBlockLockLoss {port : Fin 2} {lane : Fin 34} {headers : List (BitVec 2)} (h : Evolves s t) :
    Advances s (execBlockLockLoss port lane headers t) := by
  unfold execBlockLockLoss
  extract_lets +onlyGivenNames _ _
  refine .next (.ite ?_ h)
  extract_lets s1
  have hs1 : Evolves s s1 := h.blkLost.addSat.srxLost
  exact .ite hs1.setLane hs1

theorem advances_execAlignTimeout {port : Fin 2} {lane : Fin 34} (h : Evolves s t) :
    Advances s (execAlignTimeout port lane t) := by
  unfold execAlignTimeout
  extract_lets +onlyGivenNames _
  refine .next (.ite h ?_)
  extract_lets _ _ s1
  have hs1 : Evolves s s1 := h.set
  exact .ite hs1.markBad hs1.setLane.sets

theorem Evolves.amMap {p k i : Nat} {frame : Bool} (h : Evolves s t) : Evolves s (t.amMap p k i frame) := by
  unfold State.amMap
  extract_lets +onlyGivenNames _ _ _ _
  refine .ite h ?_
  refine .ite h.linkFlag ?_
  refine .ite h ?_
  extract_lets +onlyGivenNames s1
  have hs1 : Evolves s s1 := h.set.when fun _ hu => hu.sets
  refine .ite hs1 ?_
  refine .ite ?_ hs1.set.raise
  extract_lets _
  exact hs1.set.sets

theorem Evolves.amBip {p k : Nat} (h : Evolves s t) : Evolves s (t.amBip p k) := by
  unfold State.amBip
  extract_lets _ _ s1
  have hs1 : Evolves s s1 := h.inc.set
  exact .ite hs1.markBad hs1

theorem advances_execAmRow {port : Fin 2} {skew : BitVec 16} {inPacket : Bool} {marks : List AmLane} (h : Evolves s t) :
    Advances s (execAmRow port skew inPacket marks t) := by
  unfold execAmRow
  extract_lets +onlyGivenNames _ _
  refine .next ?_
  split
  · exact h
  · refine .ite h ?_
    extract_lets +onlyGivenNames _ _ s0 s1 s2 s3 s4 s5
    have hs0 : Evolves s s0 := h.foldl fun _ _ hu => hu.badBlock
    have hs1 : Evolves s s1 := hs0.set
    have hs2 : Evolves s s2 := hs1.foldl fun _ _ hu => hu.amBip
    have hs3 : Evolves s s3 := hs2.when fun _ hu => hu.zero
    have hs4 : Evolves s s4 := hs3.foldl fun _ _ hu => hu.amMap
    have hs5 : Evolves s s5 := hs4.zero
    refine .ite (.linkFlag (hs5.set.when fun _ hu => hu.lost)) ?_
    extract_lets s6
    have hs6 : Evolves s s6 := hs5.set
    exact .ite hs6 hs6.set.raise

theorem advances_execEidleRow {port : Fin 2} {row : List LaneBlock} (h : Evolves s t) :
    Advances s (execEidleRow port row t) := by
  refine .next (.ite ?_ h)
  extract_lets s0
  have hs0 : Evolves s s0 := h.foldl fun _ _ hu => hu.badBlock
  exact hs0.set.foldl fun _ _ hu => by
      extract_lets _
      exact .ite hu.sets hu

theorem Evolves.retrain {p : Nat} (h : Evolves s t) : Evolves s (t.retrain p) := by
  unfold State.retrain
  extract_lets s1 s1'
  have hs1 : Evolves s s1 := h.foldl fun _ _ hu => hu.sets
  have hs1' : Evolves s s1' := hs1.foldl fun _ _ hu => by
      extract_lets s1
      have hs1 : Evolves s s1 := hu.sets
      exact .ite hs1.setLane hs1
  exact hs1'.sets.when fun _ hu => hu.set.emit

theorem advances_execRetrain {port : Fin 2} (h : Evolves s t) : Advances s (execRetrain port t) :=
  .next (h.hostToBead fun _ hu => hu.retrain)

theorem advances_execSpareMapWrite {port spare : Fin 2} {logical : Fin 32} (h : Evolves s t) :
    Advances s (execSpareMapWrite port spare logical t) := by
  unfold execSpareMapWrite
  extract_lets _
  exact .next (.ite h.emit h)

theorem Evolves.sck {n : Nat} {on : Bool} (h : Evolves s t) : Evolves s (t.sck n on) := h.sets

theorem advances_execSckEnable {n : Fin 2} (h : Evolves s t) : Advances s (execSckEnable n t) :=
  .next (h.hostToBead fun _ hu => hu.sck)

theorem advances_execSckDisable {n : Fin 2} (h : Evolves s t) : Advances s (execSckDisable n t) :=
  .next (h.hostToBead fun _ hu => hu.sck)

theorem advances_execIbi {bus : Fin 2} {req : IbiReq} (h : Evolves s t) : Advances s (execIbi bus req t) := by
  refine .next (.ite h ?_)
  split
  · exact h.inc.emit
  · exact h.emit

/-! ### Resets and the loading of rods -/

theorem Evolves.silently {g : State → State} (h : Evolves s t) (hg : ∀ u, Evolves s u → Evolves s (g u)) :
    Evolves s (t.silently g) := by
  unfold State.silently
  extract_lets src
  have hsrc : Evolves s src := hg _ (h.beside rfl)
  exact hsrc.beside rfl

theorem Evolves.thmOff (h : Evolves s t) : Evolves s t.thmOff := .sets (h.foldl fun _ _ hu => .ite hu.set.rephase hu)

theorem Evolves.cutJobs {rod : Nat} (h : Evolves s t) : Evolves s (t.cutJobs rod) := by
  unfold State.cutJobs
  extract_lets s1
  have hs1 : Evolves s s1 := by
    refine h.silently fun _ hu => .ite (hu.beside rfl) (.ite (hu.beside rfl) ?_)
    refine .ite (.decCut (hu.foldl fun _ _ hv => hv.encCut)) (.ite (hu.beside rfl) ?_)
    exact .ite (.foldl (hu.foldl fun _ _ hv => hv.dflCut) fun _ _ hv => hv.dmaCut) hu
  exact hs1.beside rfl

theorem Evolves.cutRod {rod : Nat} (h : Evolves s t) : Evolves s (t.cutRod rod) := by
  unfold State.cutRod
  extract_lets s0 s1 s2
  have hs0 : Evolves s s0 := h.cutJobs
  have hs1 : Evolves s s1 := by
    refine .ite (.zero (hs0.beside rfl)) ?_
    refine .ite (hs0.beside rfl) ?_
    refine .ite (hs0.beside rfl) ?_
    exact .ite (hs0.beside rfl) (.ite (hs0.beside rfl) (.ite (hs0.beside rfl) (.ite hs0.thmOff hs0)))
  have hs2 : Evolves s s2 := hs1.calRod.foldl fun _ _ hu => hu.laneOff
  exact hs2.beside rfl

theorem Evolves.advance {rod cause : Nat} (h : Evolves s t) : Evolves s (t.advance rod cause) := by
  unfold State.advance
  extract_lets _ s1
  have hs1 : Evolves s s1 := h.sets
  exact hs1.beside rfl

theorem Evolves.assertReset {rod cause : Nat} (h : Evolves s t) : Evolves s (t.assertReset rod cause) :=
  .ite h (.ite h.set h.cutRod.advance.sets)

theorem Evolves.tryRelease {rod : Nat} (h : Evolves s t) : Evolves s (t.tryRelease rod) := .ite h.set h

theorem Evolves.filterRegs {p : Key × Nat → Bool} (h : Evolves s t) :
    Evolves s { t with regs := t.regs.filter p } := h.write (.regsOver _ [] p)

theorem Evolves.filterInf {p : Key × Nat → Bool} (h : Evolves s t) :
    Evolves s { t with inf := t.inf.filter p } := h.write (.inForceOver _ [] p)

theorem Evolves.clearRod {rod : Nat} (h : Evolves s t) :
    Evolves s (t.clearRod rod) := h.filterRegs.filterInf

theorem Evolves.loadEvents {rod : Nat} (h : Evolves s t) : Evolves s (t.loadEvents rod) :=
  h.foldl fun _ _ hu => by
    extract_lets _
    exact .ite hu.sets hu

theorem Evolves.loadClocks {rod : Nat} (h : Evolves s t) : Evolves s (t.loadClocks rod) :=
  .ite h (h.foldl fun _ _ hu => .ite hu.sets hu)

theorem Evolves.loadPresets {rod : Nat} (h : Evolves s t) : Evolves s (t.loadPresets rod) :=
  h.foldl fun _ _ hu => .ite hu.preset hu

theorem Evolves.loadRod {rod : Nat} {full : Bool} (h : Evolves s t) :
    Evolves s (t.loadRod rod full) := by
  unfold State.loadRod
  extract_lets s1 _ s2
  have hs1 : Evolves s s1 := h.loadClocks.loadEvents.loadPresets
  have hs2 : Evolves s s2 := .ite hs1 (hs1.write (.regsOver _ _ _))
  exact hs2.commitWhere

theorem Evolves.startRod {rod : Nat} (h : Evolves s t) : Evolves s (t.startRod rod) := by
  unfold State.startRod
  extract_lets s1
  have hs1 : Evolves s s1 := h.foldl fun _ _ hu => .ite hu.laneStart hu
  refine .ite (hs1.foldl fun _ _ hu => ?_) ?_
  · extract_lets s2 s3
    have hs2 : Evolves s s2 := .ite hu.portEnable hu
    have hs3 : Evolves s s3 := hs2.set
    exact .ite hs3.exsMode hs3
  · refine .ite hs1.decOn.encKick (.ite (hs1.foldl fun _ _ hu => .ite hu.set hu) ?_)
    refine .ite (hs1.foldl fun _ _ hu => .ite hu.headOn hu) (.ite (.ite hs1.ptpTo hs1) ?_)
    exact .ite (hs1.foldl fun _ _ hu => .ite hu.audEnable hu) (.ite (hs1.foldl fun _ _ hu => hu.dmaKick) hs1)

theorem Evolves.flitsOut {rod : Nat} (h : Evolves s t) : Evolves s (t.flitsOut rod) := h.beside rfl

theorem Evolves.rodReady {rod : Nat} {full ev : Bool} (h : Evolves s t) : Evolves s (t.rodReady rod full ev) := by
  unfold State.rodReady
  extract_lets s1 _ s2 s3 s4
  have hs1 : Evolves s s1 := h.clearRod.loadRod.sets
  have hs2 : Evolves s s2 := .ite hs1.set hs1.set.flitsOut.startRod
  have hs3 : Evolves s s3 := .ite hs2.set hs2
  have hs4 : Evolves s s4 := hs3.foldl fun _ _ hu => .ite hu.set hu
  exact hs4.raiseIf

theorem Evolves.powerUp {rod : Nat} (h : Evolves s t) : Evolves s (t.powerUp rod) := .ite h h.set.trimRestore.advance.sets

theorem Evolves.powerDown {rod : Nat} (h : Evolves s t) : Evolves s (t.powerDown rod) := .ite h h.cutRod.sets

theorem advances_execRodResetRelease {rod : Fin 16} (h : Evolves s t) : Advances s (execRodResetRelease rod t) :=
  .next h.set.tryRelease

theorem advances_execRodReady {rod : Fin 16} (h : Evolves s t) : Advances s (execRodReady rod t) :=
  .next (.ite h.rodReady h)

theorem advances_execRodHoldClear {rod : Fin 16} (h : Evolves s t) : Advances s (execRodHoldClear rod t) :=
  .next (h.hostTo fun _ hu => hu.set.set.tryRelease)

/-- A device reset keeps the queue, the keep store and the fuses, filters the register fields and empties the rest. -/
theorem Evolves.resetStores {p : Key × Nat → Bool}
    (hu : u.stores = ⟨t.pending, t.regs.filter p, [], [], [], t.keep, t.fuses⟩) (h : Evolves s t) : Evolves s u := by
  have h1 : Evolves s { t with regs := t.regs.filter p } := h.filterRegs
  have h2 : Evolves s { t with regs := t.regs.filter p, inf := [] } := h1.write (.noneInForce _)
  have h3 : Evolves s { t with regs := t.regs.filter p, inf := [], tray := [] } := h2.write (.noTray _)
  have h4 : Evolves s { t with regs := t.regs.filter p, inf := [], tray := [], dram := [] } := h3.write (.noDram _)
  exact h4.beside hu

theorem Evolves.devReset {kind : DevKind} {cause : Nat} (h : Evolves s t) :
    Evolves s (t.devReset kind cause) := by
  unfold State.devReset
  extract_lets +onlyGivenNames v start s1 s2
  have hv : Evolves s v := h.burnCut
  have hs1 : Evolves s s1 := hv.resetStores rfl
  have hs2 : Evolves s s2 := hs1.sets
  split
  · exact hs2.inc.set
  · exact hs2.inc
  · exact hs2

theorem Evolves.voterFresh (h : Evolves s t) : Evolves s t.voterFresh := .sets (h.foldl fun _ _ hu => hu.sets)

theorem Evolves.fullReset {cause : Nat} (h : Evolves s t) : Evolves s (t.fullReset cause) := h.devReset.sets

theorem Evolves.coreReset {cause : Nat} (h : Evolves s t) : Evolves s (t.coreReset cause) := h.devReset.voterFresh.sets

theorem Evolves.warmReset {cause dev : Nat} (h : Evolves s t) : Evolves s (t.warmReset cause dev) := h.devReset.set

theorem advances_execPowerOn (h : Evolves s t) : Advances s (execPowerOn t) := .next h.fullReset

theorem advances_execVddAonLoss (h : Evolves s t) : Advances s (execVddAonLoss t) := .next h.fullReset.set

theorem advances_execResetN (h : Evolves s t) : Advances s (execResetN t) := .next (.ite h (.ite h.set h.fullReset))

theorem advances_execAonLeavesReset (h : Evolves s t) : Advances s (execAonLeavesReset t) := .next (.ite h.sets h)

theorem advances_execCorePgRise (h : Evolves s t) : Advances s (execCorePgRise t) := .next (.ite h.set h)

theorem advances_execCorePgTimeout (h : Evolves s t) : Advances s (execCorePgTimeout t) := by
  refine .next (.ite ?_ h)
  extract_lets _
  exact h.sets

theorem advances_execCoreEnRetry (h : Evolves s t) : Advances s (execCoreEnRetry t) := .next (.ite h.sets h)

theorem advances_execCoreResetRelease (h : Evolves s t) : Advances s (execCoreResetRelease t) := .next (.ite h.set h)

theorem advances_execCorePgLoss (h : Evolves s t) : Advances s (execCorePgLoss t) :=
  .next (.ite h.devReset.sets (.ite h.set h))

theorem advances_execCorePgRetry (h : Evolves s t) : Advances s (execCorePgRetry t) :=
  .next (.ite (.ite h.fullReset.set h.coreReset) h)

theorem advances_execWakeN (h : Evolves s t) : Advances s (execWakeN t) := .next (.ite h.coreReset (.ite h.set h))

theorem advances_execRstDevWarm (h : Evolves s t) : Advances s (execRstDevWarm t) :=
  .next (h.hostTo fun _ hu => hu.warmReset.voterFresh.inc.sets)

theorem advances_execThermalRestart (h : Evolves s t) : Advances s (execThermalRestart t) := by
  refine .next ?_
  extract_lets _
  exact .ite h (.ite h.warmReset.voterFresh.inc.sets (.ite h.coreReset.sets h))

/-! ### Power states -/

theorem Evolves.utlFree (h : Evolves s t) : Evolves s t.utlFree := h.sets

theorem Evolves.resume (h : Evolves s t) : Evolves s t.resume := by
  unfold State.resume
  extract_lets s1 s2
  have hs1 : Evolves s s1 := .ite h (h.foldl fun _ _ hu => .ite hu.set.audEnable hu)
  have hs2 : Evolves s s2 := hs1.utlFree.encKick
  exact .ite hs2 (hs2.foldl fun _ _ hu => hu.dmaKick)

theorem Evolves.pwrAt {st : Nat} (h : Evolves s t) : Evolves s (t.pwrAt st) := h.sets.raise

theorem Evolves.unhold (h : Evolves s t) : Evolves s t.unhold := by
  unfold State.unhold
  extract_lets s1
  have hs1 : Evolves s s1 := h.foldl fun _ _ hu => .ite (hu.sets.flitsOut.foldl fun _ _ hv => .ite hv.laneStart hv) hu
  exact hs1.resume

theorem Evolves.gate {r : Nat} (h : Evolves s t) : Evolves s (t.gate r) := .ite h (.sets (h.foldl fun _ _ hu => hu.laneOff))

theorem Evolves.powerOff (h : Evolves s t) : Evolves s t.powerOff := by
  unfold State.powerOff
  extract_lets s1
  have hs1 : Evolves s s1 := h.raiseIf
  exact hs1.devReset.sets

theorem Evolves.pwrEnter (h : Evolves s t) : Evolves s t.pwrEnter := by
  unfold State.pwrEnter
  extract_lets +onlyGivenNames _
  refine .ite (.pwrAt (h.foldl fun _ _ hu => hu.gate)) ?_
  refine .ite ?_ h.powerOff
  extract_lets s1 s2
  have hs1 : Evolves s s1 := h.foldl fun _ _ hu => hu.powerDown
  have hs2 : Evolves s s2 := hs1.foldl fun _ _ hu => hu.drainWrites
  exact hs2.sets.pwrAt

theorem Evolves.pwrStart {target : Nat} (h : Evolves s t) : Evolves s (t.pwrStart target) := by
  unfold State.pwrStart
  extract_lets _ s1
  have hs1 : Evolves s s1 := h.set
  exact .ite hs1.set (.ite hs1.unhold.pwrAt hs1.utlFree.sets)

theorem Evolves.pwrResume (h : Evolves s t) : Evolves s t.pwrResume := by
  unfold State.pwrResume
  extract_lets _
  exact .ite h h.set.pwrStart

theorem Evolves.pwrReq {target wake : Nat} (h : Evolves s t) : Evolves s (t.pwrReq target wake) :=
  h.hostTo fun _ hu => by
    refine .ite hu.wrRange ?_
    extract_lets s1
    have hs1 : Evolves s s1 := hu.set
    exact .ite hs1.set.raise (.ite hs1.set hs1.pwrStart)

theorem advances_execPwrRun {wake : BitVec 5} (h : Evolves s t) : Advances s (execPwrRun wake t) := .next h.pwrReq

theorem advances_execPwrHold {wake : BitVec 5} (h : Evolves s t) : Advances s (execPwrHold wake t) := .next h.pwrReq

theorem advances_execPwrDoze {wake : BitVec 5} (h : Evolves s t) : Advances s (execPwrDoze wake t) := .next h.pwrReq

theorem advances_execPwrOff {wake : BitVec 5} (h : Evolves s t) : Advances s (execPwrOff wake t) := .next h.pwrReq

theorem advances_execPowerDrained (h : Evolves s t) : Advances s (execPowerDrained t) := .next (.ite h.pwrEnter h)

theorem advances_execPowerDrainTimeout (h : Evolves s t) : Advances s (execPowerDrainTimeout t) :=
  .next (.ite (.pwrEnter (.set (h.foldl fun _ _ hu => .ite hu.cutJobs hu))) h)

theorem advances_execFreqChangeDone {ch : Fin 8} (h : Evolves s t) : Advances s (execFreqChangeDone ch t) :=
  .next h.freqChangeDone.pwrResume

theorem advances_execDozeMemRestored (h : Evolves s t) : Advances s (execDozeMemRestored t) := by
  refine .next (.ite ?_ h)
  extract_lets s1 s2
  have hs1 : Evolves s s1 := h.powerUp.rodReady
  have hs2 : Evolves s s2 := hs1.foldl fun _ _ hu => .ite hu.startStep hu
  exact hs2.set

/-! ### Rod patches and substitution -/

theorem Evolves.windowRead {off n : Nat} (h : Evolves s t) : Evolves s (t.windowRead off n).2 :=
  .foldlOn Prod.snd h fun _ _ hu => by
    extract_lets r
    have hr : Evolves s r.2.2 := hu.trayReadAs
    exact hr

theorem Evolves.windowWrite {off : Nat} {d : List Byte} (h : Evolves s t) : Evolves s (t.windowWrite off d) :=
  .foldlOn Prod.fst h fun _ _ hu => hu.trayPut

theorem Evolves.patchOver (h : Evolves s t) : Evolves s t.patchOver := h.resume.pwrResume

theorem Evolves.patchRefuse {r : Rej} (h : Evolves s t) : Evolves s (t.patchRefuse r) := h.sets.endJob.raise.patchOver

theorem Evolves.patchAbandon {code : Nat} (h : Evolves s t) : Evolves s (t.patchAbandon code) := by
  unfold State.patchAbandon
  extract_lets _
  exact h.sets.endJob.raise.patchOver

theorem Evolves.patchFault {rod : Nat} (h : Evolves s t) : Evolves s (t.patchFault rod) := .ite h.patchAbandon h

theorem Evolves.stripeHide {k : Nat} (h : Evolves s t) : Evolves s (t.stripeHide k) := h.foldl fun _ _ hu => hu.conceal

theorem Evolves.substBegin {k tag : Nat} (h : Evolves s t) : Evolves s (t.substBegin k tag) := by
  unfold State.substBegin
  extract_lets s1
  have hs1 : Evolves s s1 := .ite h.patchAbandon h
  exact hs1.sets.stripeHide.raise

theorem Evolves.stripeLose {k : Nat} (h : Evolves s t) : Evolves s (t.stripeLose k) := h.sets.stripeHide.raise

theorem Evolves.substAsk {k tag : Nat} (h : Evolves s t) : Evolves s (t.substAsk k tag) :=
  .ite h.stripeLose (.ite h.sets.stripeHide h.substBegin)

theorem advances_execPatchGo (h : Evolves s t) : Advances s (execPatchGo t) :=
  .next (h.hostTo fun _ hu => by
    extract_lets +onlyGivenNames _ _
    refine .ite hu.set ?_
    extract_lets _ _ r src s1
    have hr : Evolves s r.2 := hu.windowRead
    have hsrc : Evolves s src := hr
    have hs1 : Evolves s s1 := hsrc.beside rfl
    exact hs1.sets.beginJob)

theorem advances_execPatchAbort (h : Evolves s t) : Advances s (execPatchAbort t) :=
  .next (h.hostTo fun _ hu => by
    extract_lets _
    exact .ite hu.patchAbandon hu)

theorem advances_execPatchVerifyDone (h : Evolves s t) : Advances s (execPatchVerifyDone t) := by
  refine .next (.ite h ?_)
  refine .ite h.set.patchAbandon ?_
  split
  · exact h.patchRefuse
  · split
    · exact h.patchRefuse
    · exact .set (.windowWrite (h.beside rfl))

theorem advances_execPatchCheckDone (h : Evolves s t) : Advances s (execPatchCheckDone t) := by
  refine .next (.ite h ?_)
  extract_lets +onlyGivenNames _
  split
  · exact h.patchRefuse
  · extract_lets _ s1 s2
    have hs1 : Evolves s s1 := h.beside rfl
    have hs2 : Evolves s s2 := hs1.utlFree.sets
    exact .ite hs2.patchAbandon (.ite hs2.recClose.recFlow hs2)

theorem advances_execPatchRestring (h : Evolves s t) : Advances s (execPatchRestring t) := by
  refine .next (.ite ?_ h)
  extract_lets _
  exact h.sets.foldl fun _ _ hu => .ite hu.assertReset.sets hu

theorem Evolves.restrung {r id svn : Nat} (h : Evolves s t) : Evolves s (t.restrung r id svn) := by
  unfold State.restrung
  extract_lets +onlyGivenNames s1
  have hs1 : Evolves s s1 := h.sets
  refine .ite hs1.powerDown.set ?_
  extract_lets +onlyGivenNames s2 _
  have hs2 : Evolves s s2 := hs1.powerUp
  refine .ite hs2.set ?_
  extract_lets s3
  have hs3 : Evolves s s3 := hs2.rodReady.set
  exact .ite hs3.assertReset hs3

theorem Evolves.dropUnreached (h : Evolves s t) : Evolves s t.dropUnreached := by
  unfold State.dropUnreached
  extract_lets _
  exact .foldl (h.beside rfl) fun _ _ hu => by
      extract_lets s1
      have hs1 : Evolves s s1 := .ite hu hu.set
      exact hs1.set.inc.raise

theorem Evolves.substResume (h : Evolves s t) : Evolves s t.substResume := by
  unfold State.substResume
  extract_lets _
  exact .ite h h.set.substAsk

theorem advances_execPatchDone (h : Evolves s t) : Advances s (execPatchDone t) := by
  refine .next (.ite h ?_)
  extract_lets _ _ s1 s2 s3
  have hs1 : Evolves s s1 := .dropUnreached (h.beside rfl)
  have hs2 : Evolves s s2 := hs1.foldl fun _ _ hu => .ite hu.restrung hu
  have hs3 : Evolves s s3 := hs2.sets
  exact hs3.endJob.raise.substResume.patchOver

theorem advances_execPatchDrainTimeout (h : Evolves s t) : Advances s (execPatchDrainTimeout t) :=
  .next (.ite h h.patchAbandon)

/-! ### Fatal faults -/

theorem Evolves.holdRod {rod cause : Nat} (h : Evolves s t) : Evolves s (t.holdRod rod cause) := h.set.assertReset

theorem Evolves.imgFatal {n : Nat} {cause : Fld} {last : Nat} (h : Evolves s t) : Evolves s (t.imgFatal n cause last) := by
  unfold State.imgFatal
  extract_lets +onlyGivenNames _
  refine .ite h ?_
  extract_lets +onlyGivenNames s1
  have hs1 : Evolves s s1 := h.patchFault.set.raise
  split
  · exact .substAsk (hs1.holdRod.when fun _ hu => hu.set)
  · refine .ite ?_ hs1.holdRod
    extract_lets +onlyGivenNames s2
    have hs2 : Evolves s s2 := hs1.set
    refine .ite hs2 ?_
    extract_lets s3
    have hs3 : Evolves s s3 := hs2.set.raise
    exact .ite hs3.set.stripeLose hs3

theorem advances_execJobWatchdog {n : Fin 5} (h : Evolves s t) : Advances s (execJobWatchdog n t) :=
  .next (.ite h.imgFatal h)

theorem advances_execLbParity {n : Fin 5} (h : Evolves s t) : Advances s (execLbParity n t) := .next h.imgFatal

theorem advances_execSubstTest {rod : BitVec 4} (h : Evolves s t) : Advances s (execSubstTest rod t) :=
  .next (h.hostTo fun _ hu => by
    extract_lets _
    exact .ite hu.wrRange hu.imgFatal)

theorem Evolves.copySets {src dst : Nat} (h : Evolves s t) :
    Evolves s (t.copySets src dst) := by
  have hr : Evolves s { t with regs := (t.copySets src dst).regs } := h.write (.regsOver _ _ _)
  exact hr.write (.inForceOver _ _ _)

theorem Evolves.seedRod {n : Nat} {g : Option Nat} (h : Evolves s t) : Evolves s (t.seedRod n g) := by
  unfold State.seedRod
  split
  · extract_lets s1
    have hs1 : Evolves s s1 := h.foldl fun _ _ hu => hu.set
    exact hs1.setInf
  · exact h

theorem advances_execSubstCopyDone {k : Fin 4} (h : Evolves s t) : Advances s (execSubstCopyDone k t) := by
  refine .next ?_
  extract_lets +onlyGivenNames _
  refine .ite h.copySets.seedRod.sets ?_
  refine .ite ?_ h
  extract_lets s1
  have hs1 : Evolves s s1 := by
    unfold s1
    split
    · exact h.copySets.seedRod
    · exact h
  exact hs1.sets.when fun _ hu => hu.set

theorem advances_execSubstReturn (h : Evolves s t) : Advances s (execSubstReturn t) :=
  .next (h.hostTo fun _ hu => by
    extract_lets _
    exact .ite hu hu.copySets.seedRod.sets.raise)

theorem Evolves.rodHung {rod cause : Nat} (h : Evolves s t) : Evolves s (t.rodHung rod cause) := by
  refine .ite h ?_
  refine .ite h.imgFatal ?_
  extract_lets +onlyGivenNames s1
  have hs1 : Evolves s s1 := h.patchFault
  refine .ite ?_ hs1.holdRod.set.raise
  extract_lets s2
  have hs2 : Evolves s s2 := hs1.set.assertReset.set
  exact .raise (.inc (hs2.beside rfl))

theorem Evolves.beamTimeout {port : Nat} (h : Evolves s t) : Evolves s (t.beamTimeout port) := by
  unfold State.beamTimeout
  extract_lets s1
  have hs1 : Evolves s s1 := .ite h h.set
  exact hs1.set.inc.raise

theorem Evolves.portHung {port cause : Nat} (h : Evolves s t) : Evolves s (t.portHung port cause) :=
  .ite h.chanReset h.rodHung

theorem advances_execTimeout {port : Fin 28} {txn : BitVec 10} (h : Evolves s t) : Advances s (execTimeout port txn t) := by
  refine .next ?_
  split
  · exact h
  · extract_lets s1 _
    have hs1 : Evolves s s1 := .portHung (.beamTimeout (.emit (h.beside rfl)))
    exact .ite hs1.rodHung hs1

theorem advances_execRodProbe {silent : BitVec 16} (h : Evolves s t) : Advances s (execRodProbe silent t) :=
  .next (h.foldl fun _ _ hu => .ite hu.beamTimeout.rodHung hu)

theorem advances_execRegParity {rod : Fin 16} (h : Evolves s t) : Advances s (execRegParity rod t) := .next h.rodHung

theorem Evolves.holdSet {rod : Nat} (h : Evolves s t) : Evolves s (t.holdSet rod) := by
  refine .ite h.wrRange ?_
  extract_lets s1
  have hs1 : Evolves s s1 := .ite h.patchAbandon h
  exact .ite hs1.sets (.ite hs1 hs1.holdRod)

theorem advances_execRodHoldSet {rod : Fin 16} (h : Evolves s t) : Advances s (execRodHoldSet rod t) :=
  .next (h.hostTo fun _ hu => hu.holdSet)

theorem Evolves.refLanes {rod : Nat} (h : Evolves s t) : Evolves s (t.refLanes rod) :=
  .ite h (h.foldl fun _ _ hu => hu.groupFault)

theorem Evolves.refGo {rod : Nat} (h : Evolves s t) : Evolves s (t.refGo rod) :=
  .ite h (h.foldl fun _ _ hu => .ite hu.laneGo hu)

theorem advances_execXoLoss (h : Evolves s t) : Advances s (execXoLoss t) := .next h.sets.raise

theorem advances_execPcieRefLoss (h : Evolves s t) : Advances s (execPcieRefLoss t) := by
  refine .next ?_
  extract_lets s1 s2
  have hs1 : Evolves s s1 := h.sets.raise.refLanes.refLanes
  have hs2 : Evolves s s2 := .ite hs1 (hs1.foldl fun _ _ hu => .ite hu.driveFault hu)
  exact .ite hs2.hepReset hs2

theorem advances_execEthRefLoss (h : Evolves s t) : Advances s (execEthRefLoss t) := by
  refine .next ?_
  extract_lets s1
  have hs1 : Evolves s s1 := h.sets.raise.refLanes
  exact .ptpHold (hs1.foldl fun _ _ hu => hu.ethDown)

theorem advances_execRefBack {which : Fin 3} (h : Evolves s t) : Advances s (execRefBack which t) := by
  refine .next ?_
  extract_lets +onlyGivenNames _
  refine .ite h ?_
  extract_lets s1
  have hs1 : Evolves s s1 := h.set.raise
  split
  · exact hs1
  · exact hs1.refGo.refGo
  · exact hs1.refGo

/-! ### The boot -/

theorem Evolves.newChallenge (h : Evolves s t) : Evolves s t.newChallenge := .drawn (h.beside rfl)

theorem advances_execBootStart (h : Evolves s t) : Advances s (execBootStart t) := by
  refine .next (.ite ?_ h)
  extract_lets _ s1 s2
  have hs1 : Evolves s s1 := h.sets.raiseIf.raiseIf
  have hs2 : Evolves s s2 := hs1.newChallenge.calBoot
  exact hs2.foldl fun _ _ hu => .ite hu.laneStart hu

theorem Evolves.offerFw {i : Nat} (h : Evolves s t) : Evolves s (t.offerFw i) := by
  unfold State.offerFw
  extract_lets _
  exact h.sets

theorem Evolves.offerImg {i : Nat} (h : Evolves s t) : Evolves s (t.offerImg i) := by
  unfold State.offerImg
  extract_lets _
  exact h.sets

theorem advances_execFlashDirRead {dir : List Byte} (h : Evolves s t) : Advances s (execFlashDirRead dir t) := by
  refine .next (.ite ?_ h)
  extract_lets _ s1
  have hs1 : Evolves s s1 := h.sets
  exact hs1.offerFw

theorem advances_execFwGo (h : Evolves s t) : Advances s (execFwGo t) := .next (h.hostTo fun _ hu => .ite hu.set hu.set)

theorem advances_execImgGo (h : Evolves s t) : Advances s (execImgGo t) := .next (h.hostTo fun _ hu => .ite hu.set hu.set)

theorem Evolves.fwStart {copy : Nat} {obj : List Byte} (h : Evolves s t) : Evolves s (t.fwStart copy obj) := by
  unfold State.fwStart
  extract_lets _ _ s1
  have hs1 : Evolves s s1 := h.sets
  exact hs1.ring.offerImg

theorem advances_execFwReadDone {obj : List Byte} (h : Evolves s t) : Advances s (execFwReadDone obj t) := by
  refine .next (.ite ?_ h)
  extract_lets _ _ _
  split
  · exact h.set.offerFw
  · exact h.fwStart

theorem Evolves.imgFail {r : Rej} (h : Evolves s t) : Evolves s (t.imgFail r) := by
  unfold State.imgFail
  extract_lets s1
  have hs1 : Evolves s s1 := h.sets
  exact .offerImg (.raise (hs1.beside rfl))

theorem advances_execImgReadDone {obj : List Byte} (h : Evolves s t) : Advances s (execImgReadDone obj t) := by
  refine .next (.ite ?_ h)
  extract_lets _ _ s1
  have hs1 : Evolves s s1 := .ite h.set h.trayStore
  split
  · exact hs1.imgFail
  · split
    · exact hs1.imgFail
    · exact .set (hs1.beside rfl)

theorem advances_execImgUnpackDone (h : Evolves s t) : Advances s (execImgUnpackDone t) := .next (.ite h.trayStore.set h)

theorem Evolves.applyImage {g : Stringing} (h : Evolves s t) : Evolves s (t.applyImage g) := by
  unfold State.applyImage
  extract_lets _ s1
  have hs1 : Evolves s s1 := h.beside rfl
  exact hs1.foldl fun _ _ hu => .ite hu (.ite hu.set.trimRestore hu.set)

theorem advances_execImgCheckDone (h : Evolves s t) : Advances s (execImgCheckDone t) := by
  refine .next (.ite ?_ h)
  split
  · exact h.imgFail
  · extract_lets s1
    have hs1 : Evolves s s1 := h.applyImage
    exact hs1.sets.sets

theorem Evolves.trainFail {ch : Nat} (h : Evolves s t) : Evolves s (t.trainFail ch) := by
  unfold State.trainFail
  extract_lets s1
  have hs1 : Evolves s s1 := .sets (h.beside rfl)
  exact hs1.imgFail

theorem Evolves.spFail {ch k : Nat} (h : Evolves s t) : Evolves s (t.spFail ch k) := by
  refine .ite h ?_
  extract_lets s1
  have hs1 : Evolves s s1 := h.sets
  exact hs1.raiseIf

theorem advances_execMemTrainDone {found : List Nat} {bad : List (Fin 8 × Fin 4)} (h : Evolves s t) :
    Advances s (execMemTrainDone found bad t) := by
  refine .next (.ite ?_ h)
  extract_lets s1
  have hs1 : Evolves s s1 := h.foldl fun _ _ hu => hu.spFail
  split
  · exact hs1.trainFail
  · exact hs1.set.sets

theorem Evolves.imageIdentity (h : Evolves s t) : Evolves s t.imageIdentity := by
  unfold State.imageIdentity
  extract_lets _ _
  exact h.sets

theorem Evolves.bootRod {r : Nat} (h : Evolves s t) : Evolves s (t.bootRod r) := by
  unfold State.bootRod
  extract_lets s1
  have hs1 : Evolves s s1 := h.set
  exact .ite hs1.loadRod (.ite hs1 hs1.rodReady)

theorem advances_execBootReady (h : Evolves s t) : Advances s (execBootReady t) := by
  refine .next (.ite ?_ h)
  extract_lets s1 s2
  have hs1 : Evolves s s1 := .foldl (h.beside rfl) fun _ _ hu => hu.bootRod
  have hs2 : Evolves s s2 := hs1.imageIdentity.sets
  exact hs2.bwCheck.raise

theorem Evolves.dozeRod {r : Nat} (h : Evolves s t) : Evolves s (t.dozeRod r) := by
  refine .ite h.loadRod ?_
  refine .ite h.powerDown ?_
  refine .ite h.loadRod ?_
  extract_lets s1
  have hs1 : Evolves s s1 := h.powerUp
  exact .ite hs1 hs1.rodReady

theorem advances_execDozeImageChecked {obj : List Byte} (h : Evolves s t) : Advances s (execDozeImageChecked obj t) := by
  refine .next (.ite h ?_)
  refine .ite ?_ h.sets
  extract_lets _ _ s1 s2
  have hs1 : Evolves s s1 := .foldl (h.beside rfl) fun _ _ hu => hu.dozeRod
  have hs2 : Evolves s s2 := hs1.imageIdentity.set
  exact .ite (.pwrAt (hs2.foldl fun _ _ hu => hu.gate)) hs2.pwrAt

/-! ### The secure core -/

theorem Evolves.secRead {a n : Nat} (h : Evolves s t) : Evolves s (t.secRead a n).2.2 := by
  refine .iteOn (Prod.snd ∘ Prod.snd) h.trayReadAs ?_
  refine .iteOn (Prod.snd ∘ Prod.snd) ?_ h
  split
  · exact h
  · exact h.trayUnc

theorem Evolves.secWrite {a : Nat} {d : List Byte} (h : Evolves s t) : Evolves s (t.secWrite a d).2 :=
  .iteOn Prod.snd h.trayWriteAs (.iteOn Prod.snd h.trayStore h)

theorem Evolves.secShow {svc code state : Nat} (h : Evolves s t) : Evolves s (t.secShow svc code state) := h.sets

theorem Evolves.secQuick {svc code : Nat} (h : Evolves s t) : Evolves s (t.secQuick svc code) := h.secShow.raiseIf

theorem Evolves.secStart {o : SecOp} (h : Evolves s t) : Evolves s (t.secStart o) := .secShow (h.beside rfl)

theorem Evolves.secEnd {o : SecOp} {code : Nat} (h : Evolves s t) : Evolves s (t.secEnd o code) := by
  unfold State.secEnd
  extract_lets _ s1
  have hs1 : Evolves s s1 := .raiseIf (.secShow (h.beside rfl))
  split
  · exact hs1.reply
  · exact hs1

theorem Evolves.secServe {p code : Nat} {f : List Nat → Nat → State → Option (Nat × List Nat) × State} (h : Evolves s t)
    (hf : ∀ x y u, Evolves s u → Evolves s (f x y u).2) :
    Evolves s (t.secServe p code f) := by
  refine .ite h ?_
  refine .ite ?_ (h.serve fun _ _ hu => hu)
  extract_lets _ _ s1
  have hs1 : Evolves s s1 := h.mbTaken
  refine .ite hs1.reply ?_
  split
  next _ s2 e =>
    have hs2 : Evolves s s2 := .ofPair (hf _ _ _ hs1) e
    exact hs2.reply
  next s2 e =>
    have hs2 : Evolves s s2 := .ofPair (hf _ _ _ hs1) e
    exact hs2

theorem Evolves.debugClose (h : Evolves s t) : Evolves s t.debugClose := h.set.raiseIf

theorem Evolves.tokenEffect {k : List Byte} {vpp : Bool} {o : SecOp} (h : Evolves s t) :
    Evolves s (t.tokenEffect k vpp o).2 := by
  unfold State.tokenEffect
  extract_lets _ _
  refine .iteOn Prod.snd h.set.raiseIf ?_
  refine .iteOn Prod.snd h.secStart ?_
  exact .iteOn Prod.snd h (.iteOn Prod.snd h.secStart (.iteOn Prod.snd h.secStart h.debugClose.secStart))

theorem Evolves.tokenRun {k : List Byte} {vpp : Bool} {pair : Option Nat} {token : Nat} (h : Evolves s t) :
    Evolves s (t.tokenRun k vpp pair token).2 := by
  unfold State.tokenRun
  extract_lets _ s1
  have hs1 : Evolves s s1 := h.newChallenge
  refine .iteOn Prod.snd hs1.set.raise.secQuick ?_
  split
  next _ s2 e =>
    have hs2 : Evolves s s2 := .ofPair hs1.raise.tokenEffect e
    exact hs2.secQuick
  next s2 e =>
    have hs2 : Evolves s s2 := .ofPair hs1.raise.tokenEffect e
    exact hs2

theorem Evolves.tokenService {p : Nat} {vpp : Bool} {ws : List Nat} {tok : Nat} (h : Evolves s t) :
    Evolves s (State.tokenService p vpp ws tok t).2 := by
  unfold State.tokenService
  extract_lets _ _ r
  have hr : Evolves s r.2.2 := .iteOn (Prod.snd ∘ Prod.snd) h.secRead h
  refine .iteOn Prod.snd hr ?_
  split
  next _ s1 e =>
    have hs1 : Evolves s s1 := .ofPair hr.tokenRun e
    exact hs1
  next s1 e =>
    have hs1 : Evolves s s1 := .ofPair hr.tokenRun e
    exact hs1

theorem Evolves.tokenCommand {kind : Nat} {src : Option (Fin 8)} {token : List Byte} {vpp : Bool} (h : Evolves s t) :
    Evolves s (t.tokenCommand kind src token vpp) := by
  unfold State.tokenCommand
  split
  · exact .ite h (h.secServe fun _ _ _ hu => hu.tokenService)
  · exact .ite h.tokenRun h

theorem advances_execChallenge {src : Option (Fin 8)} (h : Evolves s t) : Advances s (execChallenge src t) := by
  refine .next ?_
  split
  · exact h.secServe fun _ _ _ hu => hu.secQuick
  · exact .ite h.emit h

theorem advances_execDebugUser {src : Option (Fin 8)} {token : List Byte} (h : Evolves s t) :
    Advances s (execDebugUser src token t) :=
  .next h.tokenCommand

theorem advances_execDebugVendor {src : Option (Fin 8)} {token : List Byte} (h : Evolves s t) :
    Advances s (execDebugVendor src token t) :=
  .next h.tokenCommand

theorem advances_execRevoke {src : Option (Fin 8)} {token : List Byte} {vpp : Bool} (h : Evolves s t) :
    Advances s (execRevoke src token vpp t) :=
  .next h.tokenCommand

theorem advances_execAddKey {src : Option (Fin 8)} {token : List Byte} {vpp : Bool} (h : Evolves s t) :
    Advances s (execAddKey src token vpp t) :=
  .next h.tokenCommand

theorem advances_execReturn {src : Option (Fin 8)} {token : List Byte} {vpp : Bool} (h : Evolves s t) :
    Advances s (execReturn src token vpp t) :=
  .next h.tokenCommand

theorem advances_execVendorWipeDone (h : Evolves s t) :
    Advances s (execVendorWipeDone t) := by
  refine .next ?_
  split
  · refine .ite ?_ h
    extract_lets s1
    have hkeep : Evolves s { t with keep := s1.keep } := h.write (.keepCleared _ _ _)
    have htray : Evolves s { t with keep := s1.keep, tray := [] } := hkeep.write (.noTray _)
    have hs1 : Evolves s s1 := htray.write (.noDram _)
    exact hs1.sets.set.secEnd.raise
  · exact h

theorem Evolves.lmsAdvance {b seq leaf : Nat} (h : Evolves s t) : Evolves s (t.lmsAdvance b seq leaf) := by
  unfold State.lmsAdvance
  extract_lets _ s1
  have hs1 : Evolves s s1 := .ite h.keepPut h
  exact hs1.keepPut

theorem Evolves.attest {ws : List Nat} {_tok : Nat} (h : Evolves s t) : Evolves s (State.attest ws _tok t).2 := by
  unfold State.attest
  extract_lets +onlyGivenNames _ fail
  have hfail : ∀ x u, Evolves s u → Evolves s (fail x u).2 := fun _ _ hu => hu.secQuick
  refine .iteOn Prod.snd h ?_
  refine .iteOn Prod.snd (hfail _ _ h) ?_
  refine .iteOn Prod.snd h ?_
  split
  · exact hfail _ _ h.drawn.set.raise
  · refine .iteOn Prod.snd (hfail _ _ h) ?_
    extract_lets _ _ s1 s2
    have hs1 : Evolves s s1 := .lmsAdvance (h.beside rfl)
    have hs2 : Evolves s s2 := hs1.raiseIf
    exact hs2.secStart

theorem advances_execAttest {p : Fin 8} (h : Evolves s t) : Advances s (execAttest p t) :=
  .next (h.secServe fun _ _ _ hu => hu.attest)

theorem Evolves.attestWrite {o : SecOp} (h : Evolves s t) : Evolves s (t.attestWrite o) := by
  unfold State.attestWrite
  extract_lets s1
  have hs1 : Evolves s s1 := h.secWrite
  exact hs1.secWrite

theorem advances_execGetId {p : Fin 8} (h : Evolves s t) : Advances s (execGetId p t) :=
  .next (h.secServe fun _ _ _ hu => by
    extract_lets +onlyGivenNames _
    refine .iteOn Prod.snd hu ?_
    refine .iteOn Prod.snd hu.secQuick ?_
    extract_lets r
    have hr : Evolves s r.2 := hu.secWrite
    exact .iteOn Prod.snd hr hr.secQuick)

theorem Evolves.provision {vpp : Bool} {ws : List Nat} {_tok : Nat} (h : Evolves s t) :
    Evolves s (State.provision vpp ws _tok t).2 := by
  unfold State.provision
  extract_lets +onlyGivenNames _ fail
  have hfail : ∀ x, Evolves s (fail x).2 := fun _ => h.secQuick
  refine .iteOn Prod.snd h ?_
  extract_lets +onlyGivenNames r
  have hr : Evolves s r.2.2 := h.secRead
  refine .iteOn Prod.snd hr ?_
  refine .iteOn Prod.snd (hfail _) ?_
  refine .iteOn Prod.snd (hfail _) ?_
  extract_lets _
  exact hr.secStart

theorem advances_execProvision {p : Fin 8} {vpp : Bool} (h : Evolves s t) : Advances s (execProvision p vpp t) :=
  .next (h.secServe fun _ _ _ hu => hu.provision)

theorem advances_execDeploy {p : Fin 8} {vpp : Bool} (h : Evolves s t) : Advances s (execDeploy p vpp t) :=
  .next (h.secServe fun _ _ _ hu => by
    extract_lets quick
    have hquick : ∀ x, Evolves s (quick x).2 := fun _ => hu.secQuick
    exact .iteOn Prod.snd hu (.iteOn Prod.snd (hquick _) (.iteOn Prod.snd (hquick _) hu.secStart)))

theorem advances_execSvnCommit {p : Fin 8} {vpp : Bool} (h : Evolves s t) : Advances s (execSvnCommit p vpp t) :=
  .next (h.secServe fun _ _ _ hu => by
    extract_lets +onlyGivenNames _ fail
    have hfail : ∀ x, Evolves s (fail x).2 := fun _ => hu.secQuick
    refine .iteOn Prod.snd hu ?_
    refine .iteOn Prod.snd (hfail _) ?_
    extract_lets _ _
    exact .iteOn Prod.snd (hfail _) hu.secStart)

theorem advances_execDebugClose {p : Fin 8} (h : Evolves s t) : Advances s (execDebugClose p t) :=
  .next (h.secServe fun _ _ _ hu => hu.debugClose.secQuick)

theorem Evolves.burnEvent {k b : Nat} (h : Evolves s t) : Evolves s (t.burnEvent k b) := .ite h.raise (.ite h.raise h)

theorem advances_execFuseBurnDone {ok : Bool} (h : Evolves s t) :
    Advances s (execFuseBurnDone ok t) := by
  refine .next ?_
  split
  · exact h
  · split
    · exact h
    · extract_lets +onlyGivenNames s1 s2 _
      have hs1 : Evolves s s1 := .ite (.burnEvent (h.write (.burn _ _ _))) h
      have hs2 : Evolves s s2 := hs1.when fun _ hu => hu.keepPut
      exact .ite hs2.secEnd (hs2.beside rfl)

theorem advances_execSecDone (h : Evolves s t) : Advances s (execSecDone t) := by
  refine .next ?_
  split
  · exact h
  · extract_lets +onlyGivenNames _
    exact .ite h (.ite (h.beside rfl) (.ite h.attestWrite.secEnd h.secEnd))

theorem advances_execSecWatchdog (h : Evolves s t) : Advances s (execSecWatchdog t) := by
  refine .next (.ite h ?_)
  extract_lets s1
  have hs1 : Evolves s s1 := h.burnCut.agentReset.set.raise.newChallenge
  split
  · exact hs1.secEnd
  · exact hs1

theorem advances_execJtagInstruction {op : Byte} (h : Evolves s t) : Advances s (execJtagInstruction op t) :=
  .next (.ite h (.ite h.set (.ite h.set h.set.set.raise)))

/-! ### The recorder's commands -/

theorem Evolves.recCmd {code : Nat} {start : State → State} (h : Evolves s t)
    (hstart : ∀ u, Evolves s u → Evolves s (start u)) :
    Evolves s (t.recCmd code start) := by
  unfold State.recCmd
  extract_lets _ _ s0
  have hs0 : Evolves s s0 := h.set
  exact .ite hs0.set (hstart _ hs0.sets)

theorem Evolves.recPhaseTo {p : RecPhase} (h : Evolves s t) : Evolves s (t.recPhaseTo p) := h.modRec

theorem Evolves.recFails {result : Nat} (h : Evolves s t) : Evolves s (t.recFails result) := h.recPhaseTo.set

theorem Evolves.recIdentify (h : Evolves s t) : Evolves s t.recIdentify := by
  unfold State.recIdentify
  extract_lets s1
  have hs1 : Evolves s s1 := h.modRec
  exact .ite hs1.recPhaseTo.volAll.volAll hs1.recFails

theorem Evolves.recRecord (h : Evolves s t) : Evolves s t.recRecord := by
  unfold State.recRecord
  extract_lets +onlyGivenNames _ _
  refine .ite h.set ?_
  extract_lets _ s1
  have hs1 : Evolves s s1 := h.modRec.set
  exact hs1.foldl fun _ _ hu => hu.recDir

theorem Evolves.recStop (h : Evolves s t) : Evolves s t.recStop := h.recClose.recFlow

theorem advances_execRecFormat (h : Evolves s t) : Advances s (execRecFormat t) :=
  .next (h.hostTo fun _ hu => hu.recCmd fun _ hv => hv.recIdentify)

theorem advances_execRecMount (h : Evolves s t) : Advances s (execRecMount t) :=
  .next (h.hostTo fun _ hu => hu.recCmd fun _ hv => hv.recIdentify)

theorem advances_execRecRecord (h : Evolves s t) : Advances s (execRecRecord t) :=
  .next (h.hostTo fun _ hu => hu.recCmd fun _ hv => hv.recRecord)

theorem advances_execRecStop (h : Evolves s t) : Advances s (execRecStop t) :=
  .next (h.hostTo fun _ hu => hu.recCmd fun _ hv => hv.recStop)

theorem advances_execRecUnmount (h : Evolves s t) : Advances s (execRecUnmount t) :=
  .next (h.hostTo fun _ hu => hu.recCmd fun _ hv => hv.volFlush)

theorem Evolves.fmtDeallocate (h : Evolves s t) : Evolves s t.fmtDeallocate := h.recPhaseTo.foldl fun _ _ hu => hu.nvMember

theorem Evolves.fmtWrite (h : Evolves s t) : Evolves s t.fmtWrite := by
  unfold State.fmtWrite
  extract_lets _ _ _ _ _ s1
  have hs1 : Evolves s s1 := h.drawn.drawn.modRec
  exact hs1.volWrite.volWrite.volWrite

theorem Evolves.mntSuper (h : Evolves s t) : Evolves s t.mntSuper := by
  unfold State.mntSuper
  extract_lets _
  exact h.recPhaseTo.foldl fun _ _ hu => hu.nvMember

theorem Evolves.mntDirectory (h : Evolves s t) : Evolves s t.mntDirectory := by
  unfold State.mntDirectory
  split
  · exact h.recFails
  · extract_lets +onlyGivenNames _
    refine .ite h.recFails ?_
    extract_lets _
    exact h.modRec.volMove

theorem Evolves.mntHeader {tail : Bool} (h : Evolves s t) : Evolves s (t.mntHeader tail) := h.modRec.volMove

theorem Evolves.mntTail (h : Evolves s t) : Evolves s t.mntTail := by
  unfold State.mntTail
  extract_lets _
  exact h.modRec.mntHeader

theorem Evolves.mntOpen (h : Evolves s t) : Evolves s t.mntOpen := by
  unfold State.mntOpen
  extract_lets _ _ _ _ s1
  have hs1 : Evolves s s1 := h.modRec
  split
  · exact hs1.mntTail
  · exact hs1.modRec.mntHeader

theorem Evolves.mntRecover (h : Evolves s t) : Evolves s t.mntRecover := by
  unfold State.mntRecover
  extract_lets _ _ _ _ s1 s2
  have hs1 : Evolves s s1 := .modRec (.ite h.drawn h)
  have hs2 : Evolves s s2 := hs1.foldl fun _ _ hu => by
      extract_lets s2 _
      have hs2 : Evolves s s2 := hu.recSeal
      exact hs2.recDir
  exact hs2.modRec

theorem Evolves.mntEnd {tail : Bool} (h : Evolves s t) : Evolves s (t.mntEnd tail) := .ite h.mntTail h.mntRecover

theorem Evolves.mntAccept {tail : Bool} {d : List Byte} (h : Evolves s t) : Evolves s (t.mntAccept tail d) := by
  unfold State.mntAccept
  extract_lets s1
  have hs1 : Evolves s s1 := h.modRec
  exact .ite hs1.mntHeader hs1.mntRecover

theorem Evolves.mntRecord {tail : Bool} (h : Evolves s t) : Evolves s (t.mntRecord tail) := by
  unfold State.mntRecord
  extract_lets _ _ _
  exact .ite (.ite (.ite h.mntAccept h.mntEnd) h.recPhaseTo.volMove) h.mntEnd

theorem Evolves.mntBody {tail : Bool} (h : Evolves s t) : Evolves s (t.mntBody tail) := .ite h.mntAccept h.mntEnd

theorem Evolves.recNext (h : Evolves s t) : Evolves s t.recNext := by
  refine .ite h ?_
  split
  · exact h
  · exact h
  · exact .ite h.recFails (.ite h.fmtDeallocate h.mntSuper)
  · exact h.fmtWrite
  · exact h.recPhaseTo.volFlush
  · exact h.recPhaseTo.volFlush
  · exact h.mntDirectory
  · exact h.mntOpen
  · exact h.mntRecord
  · exact h.mntBody
  · exact h.recPhaseTo

theorem advances_execNvmeCompletion {id : Nat} {ok : Bool} {data : List Byte} (h : Evolves s t) :
    Advances s (execNvmeCompletion id ok data t) := by
  refine .next ?_
  split
  · exact h
  · refine .ite h.modRec.modRec.recFlow.recNext.nvPump ?_
    refine .ite h.driveFault ?_
    extract_lets s1
    have hs1 : Evolves s s1 := h.modCmd
    exact .nvPump (.ite hs1.inc hs1)

theorem advances_execRecCmdDone (h : Evolves s t) : Advances s (execRecCmdDone t) := by
  unfold execRecCmdDone
  extract_lets _ _ fin
  have hfin : ∀ u y z, Evolves s u → Evolves s (fin u y z) := fun _ _ _ hu => hu.sets.raise.recIdle
  refine .next (.ite h ?_)
  refine .ite (.ite h (.ite (hfin _ _ _ h.modRec) (hfin _ _ _ h.modRec))) ?_
  refine .ite (hfin _ _ _ h) ?_
  exact .ite (hfin _ _ _ h) (.ite (.ite (hfin _ _ _ h) h) (.ite (hfin _ _ _ h.modRec) h))

/-! ### Register writes -/

theorem Evolves.domainNow {rod d : Nat} (h : Evolves s t) : Evolves s (t.domainNow rod d) := by
  refine .ite h.commitLnk ?_
  refine .ite h.imgCommit ?_
  refine .ite h.commitAt ?_
  refine .ite ?_ (.ite h.commitAt (.ite h.headCommit (.ite h.commitAt (.ite h.commitAt h.commitAt))))
  exact .ite (.encKick (.encIdle (.commitAt (.ite h.encCut h)))) (.ite h.commitAt.decOn h.commitAt.encKick)

theorem Evolves.headLate {n : Nat} (h : Evolves s t) : Evolves s (t.headLate n) := .ite h.set.inc.raise h

theorem Evolves.commitReq {rod : Nat} (h : Evolves s t) : Evolves s (t.commitReq rod) := by
  unfold State.commitReq
  extract_lets s1 s2
  have hs1 : Evolves s s1 := h.set
  have hs2 : Evolves s s2 := .ite hs1.imgAsk (.ite (hs1.foldl fun _ _ hu => hu.headLate) hs1)
  exact hs2.foldl fun _ _ hu => .ite hu.domainNow hu

theorem advances_execCommitReq {rod : Fin 16} (h : Evolves s t) : Advances s (execCommitReq rod t) :=
  .next (h.hostTo fun _ hu => hu.commitReq)

theorem Evolves.msixRise {old : State} (h : Evolves s t) : Evolves s (old.msixRise t) :=
  h.foldl fun _ _ hu => .ite hu.msix hu

theorem Evolves.evtClear {blk w v : Nat} (h : Evolves s t) : Evolves s (t.evtClear blk w v) := by
  unfold State.evtClear
  extract_lets e
  have he : Evolves s e := h.foldl fun _ _ hu => by
      extract_lets _
      exact .ite hu hu.set
  exact he.foldl fun _ _ hu => .ite hu.msix hu

theorem advances_execEvtStatClear {blk : Fin 17} {w : Fin 8} {v : BitVec 32} (h : Evolves s t) :
    Advances s (execEvtStatClear blk w v t) :=
  .next (h.hostTo fun _ hu => .ite hu.evtClear hu)

theorem Evolves.via {r : Res} (hr : Advances s r) : Evolves s (t.via r) := by
  obtain ⟨u, rfl, hu⟩ := hr
  exact hu

theorem Evolves.actLane {w : RegWord} {f : Fld} {v : Nat} (h : Evolves s t) : Evolves s (t.actLane w f v) := by
  unfold State.actLane
  extract_lets +onlyGivenNames _ _
  refine .ite (.ite (.via (advances_execLaneEnable h)) (.ite (.via (advances_execLaneDisable h)) h)) ?_
  refine .ite (.ite (.via (advances_execLaneGo h)) h) ?_
  refine .ite ?_ h
  refine .ite ?_ (.ite h.sets h)
  extract_lets s1
  have hs1 : Evolves s s1 := h.sets
  exact .ite hs1.setLane hs1

theorem Evolves.actCtl {w : RegWord} {f : Fld} {v : Nat} (h : Evolves s t) : Evolves s (t.actCtl w f v) := by
  refine .ite h ?_
  refine .ite (.via (advances_execPatchGo h)) ?_
  refine .ite (.via (advances_execPatchAbort h)) ?_
  refine .ite (.via (advances_execSubstTest h)) ?_
  refine .ite (.via (advances_execSubstReturn h)) ?_
  refine .ite (.via (advances_execLutInval h)) ?_
  refine .ite (.via (advances_execLutCheck h)) ?_
  exact .ite h.pwrReq (.ite (.via (advances_execFwGo h)) (.ite (.via (advances_execImgGo h)) h))

theorem Evolves.actLnk {w : RegWord} {f : Fld} {v : Nat} (h : Evolves s t) : Evolves s (t.actLnk w f v) := by
  unfold State.actLnk
  extract_lets _
  refine .ite (.ite (.via (advances_execPortEnable h)) (.ite (.via (advances_execPortDisable h)) h)) ?_
  refine .ite h.set ?_
  refine .ite (.ite (.via (advances_execRetrain h)) h) ?_
  exact .ite (.ite (.via (advances_execExqPost h)) h) (.ite (.via (advances_execExsModeChange h)) h)

theorem Evolves.actCod {w : RegWord} {f : Fld} {v : Nat} (h : Evolves s t) : Evolves s (t.actCod w f v) := by
  unfold State.actCod
  extract_lets _ _
  refine .ite ?_ (.ite (.via (advances_execDecInWr h)) h)
  refine .ite h ?_
  split
  · exact .via (advances_execSchedCommit h)
  · exact .via (advances_execSchedStart h)
  · exact .via (advances_execSchedStop h)
  · exact .via (advances_execSchedIdr h)
  · exact h

theorem Evolves.actRrc {w : RegWord} {f : Fld} {v : Nat} (h : Evolves s t) : Evolves s (t.actRrc w f v) := by
  refine .ite ?_ (.ite (.ite (.via (advances_execNvqEnable h)) h.nvqDisable) h)
  refine .ite h ?_
  split
  · exact .via (advances_execRecFormat h)
  · exact .via (advances_execRecMount h)
  · exact .via (advances_execRecRecord h)
  · exact .via (advances_execRecStop h)
  · exact .via (advances_execRecUnmount h)
  · exact h

theorem Evolves.actOut {w : RegWord} {f : Fld} {v : Nat} (h : Evolves s t) : Evolves s (t.actOut w f v) := by
  refine .ite (.ite h.headOn (.ite h.headOff h)) ?_
  refine .ite (.ite (.via (advances_execGuardClr h)) h) ?_
  exact .ite (.ite h.auxGo h) (.ite (.ite h.set.dpTrain (.ite h.set.dpDown.set h)) h)

theorem Evolves.actNet {w : RegWord} {f : Fld} {v : Nat} (h : Evolves s t) : Evolves s (t.actNet w f v) := by
  refine .ite (.ite (.via (advances_execTlySet h)) h) ?_
  refine .ite (.ite (.via (advances_execTlyAdd h)) h) ?_
  refine .ite (.via (advances_execTlyRateWrite h)) ?_
  refine .ite ?_ (.ite (.ite (.via (advances_execTrgArm h)) h) (.ite (.ite (.via (advances_execTrgDisarm h)) h) ?_))
  · refine .ite h ?_
    extract_lets s1
    have hs1 : Evolves s s1 := h.set
    exact .ite hs1.ptpTo (.ite hs1.ptpTo hs1)
  · exact .ite (.ite (.via (advances_execFlowCommit h)) h) h

theorem Evolves.actAud {_w : RegWord} {f : Fld} {v : Nat} (h : Evolves s t) : Evolves s (t.actAud _w f v) := by
  refine .ite (.ite h.audEnable (.ite h.audDisable h)) ?_
  exact .ite (.ite (.via (advances_execSgArm h)) h) (.ite (.ite (.via (advances_execSgDisarm h)) h) h)

theorem Evolves.actUtl {w : RegWord} {f : Fld} {v : Nat} (h : Evolves s t) : Evolves s (t.actUtl w f v) := by
  unfold State.actUtl
  extract_lets _
  refine .ite (.ite h.set (.ite (.via (advances_execDflDisable h)) h)) ?_
  refine .ite (.via (advances_execDflTailWrite h)) ?_
  refine .ite (.ite h.set (.ite (.via (advances_execDmaDisable h)) h)) ?_
  refine .ite (.via (advances_execDmaTailWrite h)) ?_
  refine .ite (.via (advances_execTrimTargetWrite h)) ?_
  refine .ite ?_ (.ite (.ite (.via (advances_execCalAbort h)) h) h)
  refine .ite h ?_
  split
  · exact .via (advances_execCalBgr h.drawn)
  · exact .via (advances_execCalXo h)
  · exact .via (advances_execCalTs h)
  · exact .via (advances_execCalLane h)
  · exact .via (advances_execCalPll h)
  · exact h

theorem Evolves.actAon {_w : RegWord} {f : Fld} {v : Nat} (h : Evolves s t) : Evolves s (t.actAon _w f v) := by
  refine .ite (.ite (.via (advances_execRstDevWarm h)) h) ?_
  refine .ite ?_ h
  exact h.foldl fun _ _ hu => .ite hu (.via (.ite (advances_execRodHoldSet hu) (advances_execRodHoldClear hu)))

theorem Evolves.actWin {w : RegWord} {f : Fld} {v : Nat} (h : Evolves s t) : Evolves s (t.actWin w f v) := by
  unfold State.actWin
  extract_lets _ _
  refine .ite (.via (advances_execMbDataWrite h)) ?_
  refine .ite ?_ (.ite (.via (advances_execDbSet h)) (.ite (.via (advances_execDbClear h)) h))
  exact .ite (.via (advances_execMbGo h)) (.ite (.via (advances_execMbArmWait h)) (.ite h.set h))

theorem Evolves.act {w : RegWord} {d : Hit} (h : Evolves s t) : Evolves s (t.act w d) := by
  unfold State.act
  extract_lets _ _
  refine .ite h.actLane ?_
  refine .ite (.ite h.commitReq h) ?_
  split
  · exact h.actCtl
  · exact h.actLnk
  · exact h.actCod
  · exact h.actCod
  · exact h.actRrc
  · exact h.actOut
  · exact h.actNet
  · exact h.actAud
  · exact .ite h.freqReq h
  · exact h.actUtl
  · exact h.actAon
  · exact h.actWin
  · exact h

theorem Evolves.putField {w : RegWord} {d : Hit} (h : Evolves s t) : Evolves s (t.putField w d) := by
  unfold State.putField
  extract_lets +onlyGivenNames _ _
  split
  · refine .ite h ?_
    extract_lets s1
    have hs1 : Evolves s s1 := h.set
    exact .ite hs1.set (.ite hs1.set hs1)
  · exact .ite (h.set.foldl fun _ _ hu => hu.set) h
  · exact h

theorem Evolves.msixTable {off v : Nat} (h : Evolves s t) : Evolves s (t.msixTable off v) := by
  unfold State.msixTable
  extract_lets _ s1
  have hs1 : Evolves s s1 := h.set
  exact .ite (.msix (hs1.beside rfl)) hs1

theorem Evolves.putWord {w : RegWord} (h : Evolves s t) : Evolves s (t.putWord w) := by
  refine .ite h.evtClear ?_
  extract_lets s1 s2
  have hs1 : Evolves s s1 := h.foldl fun _ _ hu => hu.putField
  have hs2 : Evolves s s2 := .ite hs1.msixRise hs1
  exact hs2.foldl fun _ _ hu => hu.act

theorem Evolves.regWrite {a v : Nat} (h : Evolves s t) : Evolves s (t.regWrite a v) := by
  unfold State.regWrite
  split
  · exact h
  · extract_lets _
    exact .ite (.ite h.msixTable h) (.ite h (.ite h.wrRange h.putWord))

theorem advances_execRegisterWrite {addr : BitVec 25} {len : BitVec 4} {v : BitVec 32} (h : Evolves s t) :
    Advances s (execRegisterWrite addr len v t) :=
  .next (h.hostTo fun _ hu => .ite hu.set hu.regWrite)

/-! ### Beam transactions -/

theorem Evolves.sideRead {g : State → Res} (h : Evolves s t) (hg : ∀ u, Evolves s u → Advances s (g u)) :
    Evolves s (t.sideRead g).2 := by
  unfold State.sideRead
  obtain ⟨u, e, hu⟩ := hg { t with out := [] } (h.beside rfl)
  rw [e]
  exact hu.beside rfl

theorem Evolves.readReg {a : Nat} (h : Evolves s t) : Evolves s (t.readReg a).2 := by
  unfold State.readReg
  split
  · exact h
  · extract_lets _
    refine .iteOn Prod.snd h ?_
    refine .iteOn Prod.snd ?_ (.iteOn Prod.snd (h.sideRead fun _ hu => advances_execMbTake hu) h)
    refine .iteOn Prod.snd (h.sideRead fun _ hu => advances_execTlyNowRead hu) ?_
    split
    · exact h.sideRead fun _ hu => advances_execCapRead hu
    · exact h.sideRead fun _ hu => advances_execTsqPop hu
    · exact h

theorem Evolves.beamStale (h : Evolves s t) : Evolves s t.beamStale := h.set.inc.raise

theorem Evolves.txnBegin {src dst epoch txn : Nat} {read : Bool} (h : Evolves s t) :
    Evolves s (t.txnBegin src dst epoch txn read) :=
  .ite h (h.beside rfl)

theorem Evolves.request {src dst epoch txn : Nat} {read : Bool} {serve : State → State × Bool} (h : Evolves s t)
    (hserve : ∀ u, Evolves s u → Evolves s (serve u).1) :
    Evolves s (t.request src dst epoch txn read serve) := by
  refine .ite h ?_
  extract_lets s1
  have hs1 : Evolves s s1 := h.txnBegin
  exact .ite hs1.beamStale (.ite hs1.emit (.ite (hserve _ hs1) h))

theorem Evolves.trayWear {a : Nat} {corrected upset : Bool} (h : Evolves s t) : Evolves s (t.trayWear a corrected upset) :=
  .when (h.when fun _ hu => .ite hu (hu.beside rfl)) fun _ hu => hu.trayCor

theorem advances_execReadRequest {src dst : Fin 28} {epoch : BitVec 8} {txn : BitVec 10} {cls len : Fin 4} {addr : BeamAddr}
    {corrected upset : Bool} (h : Evolves s t) :
    Advances s (execReadRequest src dst epoch txn cls len addr corrected upset t) := by
  unfold execReadRequest
  extract_lets n answer
  have hanswer : ∀ u st d, Evolves s u → Evolves s (answer u st d).1 := fun _ _ _ hu => hu.emit
  clear_value n
  refine .next (h.request fun _ hu => ?_)
  split
  · refine .iteOn Prod.fst (hanswer _ _ _ hu) ?_
    extract_lets may r
    have hr : Evolves s r.2.2 := .trayReadAs (hu.when fun _ hv => hv.trayWear)
    clear_value r
    exact hanswer _ _ _ hr
  · split
    · exact .iteOn Prod.fst (hanswer _ _ _ hu) hu.memRead
    · exact hanswer _ _ _ hu
  · refine .iteOn Prod.fst (hanswer _ _ _ hu) ?_
    dsimp only
    exact hanswer _ _ _ hu.readReg.drawn
  · exact hanswer _ _ _ hu

theorem advances_execWriteRequest {src dst : Fin 28} {epoch : BitVec 8} {txn : BitVec 10} {cls : Fin 4} {addr : BeamAddr}
    {data : List Byte} (h : Evolves s t) :
    Advances s (execWriteRequest src dst epoch txn cls addr data t) := by
  unfold execWriteRequest
  extract_lets answer
  have hanswer : ∀ u y, Evolves s u → Evolves s (answer u y).1 := fun _ _ hu => hu.emit
  exact .next (h.request fun _ hu => by
      split
      · refine .iteOn Prod.fst (hanswer _ _ hu) ?_
        extract_lets r
        have hr : Evolves s r.2 := hu.trayWriteAs
        exact hanswer _ _ hr
      · split
        · refine .iteOn Prod.fst (hanswer _ _ hu) ?_
          extract_lets r
          have hr : Evolves s r.1 := hu.memWrite
          exact .iteOn Prod.fst (hanswer _ _ hr) hr
        · exact hanswer _ _ hu
      · exact .iteOn Prod.fst (hanswer _ _ hu) (hanswer _ _ hu.regWrite)
      · exact hanswer _ _ hu)

theorem advances_execReply {src dst : Fin 28} {epoch : BitVec 8} {txn : BitVec 10} {status : Fin 6} {data : List Byte}
    (h : Evolves s t) :
    Advances s (execReply src dst epoch txn status data t) := by
  refine .next (.ite h ?_)
  split
  · exact h.beamStale
  · refine .ite h.beamStale ?_
    extract_lets s1
    have hs1 : Evolves s s1 := h.beside rfl
    exact .ite hs1.beamStale.emit hs1.emit

theorem advances_execEventMessage {port : Fin 28} {rod : Fin 16} {epoch : BitVec 8} (h : Evolves s t) :
    Advances s (execEventMessage port rod epoch t) :=
  .next h.set

theorem Evolves.flitDrop {stream : Nat} (h : Evolves s t) : Evolves s (t.flitDrop stream) := by
  unfold State.flitDrop
  extract_lets s1
  have hs1 : Evolves s s1 := .ite h h.set
  exact hs1.set.inc.raise

theorem advances_execStreamFlit {stream : Fin 512} {dst : Fin 28} {mark : Fin 4} {tag : BitVec 32} {data : List Byte}
    (h : Evolves s t) :
    Advances s (execStreamFlit stream dst mark tag data t) := by
  refine .next ?_
  split
  · exact h
  · exact .ite h.emit (.ite h.flitDrop (.ite (h.beside rfl) (.ite h.flitDrop h)))

theorem Evolves.hostTray {a n : Nat} (h : Evolves s t) : Evolves s (t.hostTray a n).2 :=
  .foldlOn Prod.snd h fun _ _ hu => by
    extract_lets v
    have hv : Evolves s v := hu
    refine .iteOn Prod.snd hv.trayDeny ?_
    split
    · exact hv
    · exact hv.trayUnc.drawn

theorem Evolves.hostTrayWrite {a : Nat} {d : List Byte} (h : Evolves s t) : Evolves s (t.hostTrayWrite a d) :=
  h.foldl fun _ _ hu => .ite hu.trayStore hu.trayDeny

theorem Evolves.windowReadAt {a n : Nat} {corrected upset : Bool} (h : Evolves s t) :
    Evolves s (t.windowReadAt a n corrected upset) := by
  unfold State.windowReadAt
  extract_lets r
  have hr : Evolves s r.2 := .hostTray (h.when fun _ hu => hu.trayWear)
  exact hr.emit

theorem advances_execBar2Read {addr : BitVec 26} {len : BitVec 13} {corrected upset : Bool} (h : Evolves s t) :
    Advances s (execBar2Read addr len corrected upset t) :=
  .next (h.hostTo fun _ hu => hu.windowReadAt)

theorem advances_execBar2Write {addr : BitVec 26} {data : List Byte} (h : Evolves s t) :
    Advances s (execBar2Write addr data t) :=
  .next (h.hostTo fun _ hu => hu.hostTrayWrite)

theorem advances_execBar4Read {off : BitVec 20} {len : BitVec 13} {corrected upset : Bool} (h : Evolves s t) :
    Advances s (execBar4Read off len corrected upset t) :=
  .next (h.hostTo fun _ hu => hu.windowReadAt)

theorem advances_execBar4Write {off : BitVec 20} {data : List Byte} (h : Evolves s t) :
    Advances s (execBar4Write off data t) :=
  .next (h.hostTo fun _ hu => hu.hostTrayWrite)

theorem Evolves.dapNothing {w : Option (BitVec 32)} (h : Evolves s t) : Evolves s (t.dapNothing w) := by
  unfold State.dapNothing
  split
  · exact h
  · exact h.drawn.emit

theorem Evolves.dapBar0 {a : Nat} {w : Option (BitVec 32)} (h : Evolves s t) : Evolves s (t.dapBar0 a w) := by
  refine .ite ?_ ?_
  · extract_lets s1
    have hs1 : Evolves s s1 := h.set
    split
    · exact hs1
    · exact hs1.emit
  · refine .ite h.dapNothing ?_
    refine .ite ?_ ?_
    · split
      · exact h.hostRetired
      · exact h.hostRetired.emit
    · split
      · exact h.regWrite
      · extract_lets r
        have hr : Evolves s r.2 := h.readReg
        exact hr.emit

theorem advances_execDapAccess {acc : DapAccess} (h : Evolves s t) : Advances s (execDapAccess acc t) := by
  refine .next (.ite h ?_)
  split
  · exact h.dapBar0
  · refine .ite h.dapNothing ?_
    split
    · extract_lets r
      have hr : Evolves s r.2 := h.hostTray
      exact hr.emit
    · exact h.hostTrayWrite
  · refine .ite h.dapNothing ?_
    split
    · exact h.emit
    · exact .ite h h.keepPut
  · exact h.dapNothing

/-! ### Temperature -/

theorem Evolves.thmShowBroken {i reason : Nat} (h : Evolves s t) : Evolves s (t.thmShowBroken i reason) := h.sets

theorem Evolves.sensorBreak {i reason : Nat} (h : Evolves s t) : Evolves s (t.sensorBreak i reason) := by
  refine .ite h ?_
  extract_lets s1
  have hs1 : Evolves s s1 := .ite h.thmShowBroken.set.raise h
  exact .ite hs1.set.raise hs1

theorem Evolves.sensTake {i : Nat} {k diff : Int} (h : Evolves s t) : Evolves s (t.sensTake i k diff) := by
  refine .ite h ?_
  extract_lets _ s1 s2 s3
  have hs1 : Evolves s s1 := h.set
  have hs2 : Evolves s s2 := .ite hs1.set hs1
  have hs3 : Evolves s s3 := .ite hs2.set hs2
  exact .ite hs3.sensorBreak (.ite hs3.sensorBreak hs3)

theorem Evolves.shutdown (h : Evolves s t) : Evolves s t.shutdown := by
  unfold State.shutdown
  extract_lets s1
  have hs1 : Evolves s s1 := h.sets
  exact hs1.inc.warmReset.sets

theorem Evolves.vote (h : Evolves s t) : Evolves s t.vote := by
  unfold State.vote
  extract_lets _ s1
  have hs1 : Evolves s s1 := h.raiseIf.set
  exact .ite hs1.shutdown hs1

theorem Evolves.voterTake {v : Nat} (h : Evolves s t) : Evolves s (t.voterTake v) := by
  unfold State.voterTake
  extract_lets _ _ s1
  have hs1 : Evolves s s1 := h.sets
  exact .ite hs1 hs1.sets

theorem Evolves.thmStepTo {k : Nat} (h : Evolves s t) : Evolves s (t.thmStepTo k) := by
  unfold State.thmStepTo
  extract_lets _ s1
  have hs1 : Evolves s s1 := h.set.raise
  exact .ite (hs1.set.foldl fun _ _ hu => .ite hu hu.rephase) hs1

theorem Evolves.thmApply (h : Evolves s t) : Evolves s t.thmApply := by
  unfold State.thmApply
  extract_lets _ s1
  have hs1 : Evolves s s1 := h.thmStepTo.set
  exact .ite hs1.set.raise hs1

theorem Evolves.thmUndo (h : Evolves s t) : Evolves s t.thmUndo := by
  unfold State.thmUndo
  extract_lets _ s1
  have hs1 : Evolves s s1 := h.thmStepTo
  exact .ite hs1.set hs1

theorem Evolves.thmBegin (h : Evolves s t) : Evolves s t.thmBegin := h.sets.inc.raise

theorem Evolves.thmEnd (h : Evolves s t) : Evolves s t.thmEnd := by
  unfold State.thmEnd
  extract_lets s1
  have hs1 : Evolves s s1 := h.sets.raise
  exact .ite hs1.thmUndo hs1.set

theorem Evolves.thmCompare {i k : Nat} {v : Int} (h : Evolves s t) : Evolves s (t.thmCompare i k v) := by
  unfold State.thmCompare
  extract_lets _ _ _ _ s1
  have hs1 : Evolves s s1 := h.sets
  exact .ite hs1 (.ite (.ite hs1.set.raise hs1) hs1.set)

theorem Evolves.thmRate {near : Bool} (h : Evolves s t) : Evolves s (t.thmRate near) := by
  refine .ite h.sets ?_
  refine .ite ?_ h
  extract_lets _
  exact .ite h.sets h.set

theorem Evolves.thmTake (h : Evolves s t) : Evolves s t.thmTake := by
  unfold State.thmTake
  extract_lets _ s0 _ s1 s2
  have hs0 : Evolves s s0 := h.foldl fun _ _ hu => .ite hu.thmShowBroken hu
  have hs1 : Evolves s s1 := hs0.foldl fun _ _ hu => hu.thmCompare.thmCompare
  have hs2 : Evolves s s2 := hs1.thmRate
  exact .ite (.ite hs2 hs2.thmBegin) (.ite hs2.thmEnd hs2)

theorem advances_execThmSample {l : List TempSample} (h : Evolves s t) : Advances s (execThmSample l t) := by
  refine .next ?_
  extract_lets s1 s2
  have hs1 : Evolves s s1 := h.foldl fun _ _ hu => hu.sensTake
  have hs2 : Evolves s s2 := .ite (.vote (hs1.foldl fun _ _ hu => hu.voterTake)) hs1
  exact .ite hs2.thmTake hs2

theorem advances_execSensorTimeout {i : Fin 24} (h : Evolves s t) : Advances s (execSensorTimeout i t) := by
  refine .next (.ite ?_ h)
  extract_lets s1
  have hs1 : Evolves s s1 := h.sensorBreak
  exact .ite hs1.vote hs1

theorem advances_execGraceExpiry (h : Evolves s t) : Advances s (execGraceExpiry t) := by
  refine .next (.ite ?_ h)
  extract_lets s1
  have hs1 : Evolves s s1 := h.set
  exact .ite hs1.thmApply hs1

theorem advances_execThmStepTimer (h : Evolves s t) : Advances s (execThmStepTimer t) :=
  .next (.ite (.ite (.ite h.thmApply h) h.thmUndo) h)

/-! ### Every command -/

/-- Whatever the command, it answers a next state that evolves from the state it is given. -/
theorem advances_exec (h : Evolves s t) : ∀ c : Instr, Advances s (exec c t)
  | .readRequest .. => advances_execReadRequest h
  | .writeRequest .. => advances_execWriteRequest h
  | .reply .. => advances_execReply h
  | .streamFlit .. => advances_execStreamFlit h
  | .eventMessage .. => advances_execEventMessage h
  | .timeout .. => advances_execTimeout h
  | .bar2Read .. => advances_execBar2Read h
  | .bar2Write .. => advances_execBar2Write h
  | .bar4Read .. => advances_execBar4Read h
  | .bar4Write .. => advances_execBar4Write h
  | .registerWrite .. => advances_execRegisterWrite h
  | .commitReq .. => advances_execCommitReq h
  | .evtStatClear .. => advances_execEvtStatClear h
  | .patchGo => advances_execPatchGo h
  | .patchAbort => advances_execPatchAbort h
  | .patchVerifyDone => advances_execPatchVerifyDone h
  | .patchCheckDone => advances_execPatchCheckDone h
  | .patchRestring => advances_execPatchRestring h
  | .patchDone => advances_execPatchDone h
  | .patchDrainTimeout => advances_execPatchDrainTimeout h
  | .laneEnable .. => advances_execLaneEnable h
  | .laneDisable .. => advances_execLaneDisable h
  | .laneGo .. => advances_execLaneGo h
  | .lanePowerDone .. => advances_execLanePowerDone h
  | .lanePllLock .. => advances_execLanePllLock h
  | .lanePllTimeout .. => advances_execLanePllTimeout h
  | .laneLosClear .. => advances_execLaneLosClear h
  | .laneLock .. => advances_execLaneLock h
  | .laneLockTimeout .. => advances_execLaneLockTimeout h
  | .laneAdaptDone .. => advances_execLaneAdaptDone h
  | .laneAdaptTimeout .. => advances_execLaneAdaptTimeout h
  | .laneAligned .. => advances_execLaneAligned h
  | .laneLos .. => advances_execLaneLos h
  | .laneLol .. => advances_execLaneLol h
  | .laneFreqWindow .. => advances_execLaneFreqWindow h
  | .groupPllLoss .. => advances_execGroupPllLoss h
  | .laneIdleEntry .. => advances_execLaneIdleEntry h
  | .laneSquelchConfirm .. => advances_execLaneSquelchConfirm h
  | .lanePhaseLock .. => advances_execLanePhaseLock h
  | .lanePhaseLockTimeout .. => advances_execLanePhaseLockTimeout h
  | .adaptWindow .. => advances_execAdaptWindow h
  | .tsBlock .. => advances_execTsBlock h
  | .blockLock .. => advances_execBlockLock h
  | .blockLockLoss .. => advances_execBlockLockLoss h
  | .alignTimeout .. => advances_execAlignTimeout h
  | .amRow .. => advances_execAmRow h
  | .eidleRow .. => advances_execEidleRow h
  | .fsPacket .. => advances_execFsPacket h
  | .fePacket .. => advances_execFePacket h
  | .linePacket .. => advances_execLinePacket h
  | .obPacket .. => advances_execObPacket h
  | .embPacket .. => advances_execEmbPacket h
  | .vendorPacket .. => advances_execVendorPacket h
  | .pairTimeout .. => advances_execPairTimeout h
  | .retrain .. => advances_execRetrain h
  | .portEnable .. => advances_execPortEnable h
  | .portDisable .. => advances_execPortDisable h
  | .spareMapWrite .. => advances_execSpareMapWrite h
  | .sckEnable .. => advances_execSckEnable h
  | .sckDisable .. => advances_execSckDisable h
  | .ibi .. => advances_execIbi h
  | .frameTimeout .. => advances_execFrameTimeout h
  | .slotDeadline .. => advances_execSlotDeadline h
  | .expsyncFramePulse .. => advances_execExpsyncFramePulse h
  | .expsyncLinePulse .. => advances_execExpsyncLinePulse h
  | .expsyncPulseEnd .. => advances_execExpsyncPulseEnd h
  | .exsModeChange .. => advances_execExsModeChange h
  | .refinEdge .. => advances_execRefinEdge h
  | .refinLoss => advances_execRefinLoss h
  | .exqPost .. => advances_execExqPost h
  | .exqBusDone .. => advances_execExqBusDone h
  | .exqWindowClose .. => advances_execExqWindowClose h
  | .imgJobStart .. => advances_execImgJobStart h
  | .imgJobEnd .. => advances_execImgJobEnd h
  | .vecWaitTimeout .. => advances_execVecWaitTimeout h
  | .jobWatchdog .. => advances_execJobWatchdog h
  | .lbParity .. => advances_execLbParity h
  | .substCopyDone .. => advances_execSubstCopyDone h
  | .substReturn => advances_execSubstReturn h
  | .substTest .. => advances_execSubstTest h
  | .dcgRatioUpdate .. => advances_execDcgRatioUpdate h
  | .motSetComplete => advances_execMotSetComplete h
  | .lutInval .. => advances_execLutInval h
  | .lutCheck .. => advances_execLutCheck h
  | .lutCheckDone .. => advances_execLutCheckDone h
  | .lutRecheck => advances_execLutRecheck h
  | .recFormat => advances_execRecFormat h
  | .recMount => advances_execRecMount h
  | .recRecord => advances_execRecRecord h
  | .recStop => advances_execRecStop h
  | .recUnmount => advances_execRecUnmount h
  | .recCmdDone => advances_execRecCmdDone h
  | .rscStripeEnd .. => advances_execRscStripeEnd h
  | .nvmeCompletion .. => advances_execNvmeCompletion h
  | .nvmeCmdTimeout .. => advances_execNvmeCmdTimeout h
  | .nvqEnable .. => advances_execNvqEnable h
  | .nvqReady .. => advances_execNvqReady h
  | .nvqReadyTimeout .. => advances_execNvqReadyTimeout h
  | .rpLinkDown .. => advances_execRpLinkDown h
  | .prerollCatchStart .. => advances_execPrerollCatchStart h
  | .schedCommit .. => advances_execSchedCommit h
  | .schedStart .. => advances_execSchedStart h
  | .schedStop .. => advances_execSchedStop h
  | .schedIdr .. => advances_execSchedIdr h
  | .regionComplete .. => advances_execRegionComplete h
  | .vecToExpiry .. => advances_execVecToExpiry h
  | .pictureDeadline .. => advances_execPictureDeadline h
  | .encPictureDone .. => advances_execEncPictureDone h
  | .encDisable .. => advances_execEncDisable h
  | .decInWr .. => advances_execDecInWr h
  | .decEntry .. => advances_execDecEntry h
  | .decPictureDone .. => advances_execDecPictureDone h
  | .decWatchdog .. => advances_execDecWatchdog h
  | .decOutput .. => advances_execDecOutput h
  | .decDisable .. => advances_execDecDisable h
  | .canvasFrameStart .. => advances_execCanvasFrameStart h
  | .cwaitTimeout .. => advances_execCwaitTimeout h
  | .guardClr .. => advances_execGuardClr h
  | .headEnable .. => advances_execHeadEnable h
  | .headDisable .. => advances_execHeadDisable h
  | .headStart .. => advances_execHeadStart h
  | .headLineStart .. => advances_execHeadLineStart h
  | .headPllLock .. => advances_execHeadPllLock h
  | .headPllUnlock .. => advances_execHeadPllUnlock h
  | .hpdChange .. => advances_execHpdChange h
  | .irqHpd .. => advances_execIrqHpd h
  | .dpTrained .. => advances_execDpTrained h
  | .auxNativeWrite .. => advances_execAuxNativeWrite h
  | .auxNativeRead .. => advances_execAuxNativeRead h
  | .auxI2cWrite .. => advances_execAuxI2cWrite h
  | .auxI2cRead .. => advances_execAuxI2cRead h
  | .auxI2cWriteMot .. => advances_execAuxI2cWriteMot h
  | .auxI2cReadMot .. => advances_execAuxI2cReadMot h
  | .auxReply .. => advances_execAuxReply h
  | .auxTimeout .. => advances_execAuxTimeout h
  | .ethFrameRx .. => advances_execEthFrameRx h
  | .flowPacketTx .. => advances_execFlowPacketTx h
  | .ethLinkDown .. => advances_execEthLinkDown h
  | .ethLinkUp .. => advances_execEthLinkUp h
  | .tlySet => advances_execTlySet h
  | .tlyAdd .. => advances_execTlyAdd h
  | .tlyRateWrite .. => advances_execTlyRateWrite h
  | .tlyNowRead => advances_execTlyNowRead h
  | .ptpMessage .. => advances_execPtpMessage h
  | .announceTimeout => advances_execAnnounceTimeout h
  | .tsqPop .. => advances_execTsqPop h
  | .trgArm .. => advances_execTrgArm h
  | .trgDisarm .. => advances_execTrgDisarm h
  | .trgFire .. => advances_execTrgFire h
  | .trgPulseEnd .. => advances_execTrgPulseEnd h
  | .capEdge .. => advances_execCapEdge h
  | .capRead .. => advances_execCapRead h
  | .ltcFrameOut => advances_execLtcFrameOut h
  | .ltcInSync .. => advances_execLtcInSync h
  | .flowCommit .. => advances_execFlowCommit h
  | .rtpRxPacket .. => advances_execRtpRxPacket h
  | .audPortEnable .. => advances_execAudPortEnable h
  | .audPortStart .. => advances_execAudPortStart h
  | .audSampleFrame .. => advances_execAudSampleFrame h
  | .audBlockBoundary .. => advances_execAudBlockBoundary h
  | .audMonWindow .. => advances_execAudMonWindow h
  | .audClkLoss .. => advances_execAudClkLoss h
  | .audGlitch .. => advances_execAudGlitch h
  | .asrcLock .. => advances_execAsrcLock h
  | .sgArm .. => advances_execSgArm h
  | .sgDisarm .. => advances_execSgDisarm h
  | .sgStart .. => advances_execSgStart h
  | .audStreamBlock .. => advances_execAudStreamBlock h
  | .refresh .. => advances_execRefresh h
  | .refreshPostponeLimit .. => advances_execRefreshPostponeLimit h
  | .mr4Poll .. => advances_execMr4Poll h
  | .scrubRead .. => advances_execScrubRead h
  | .retrainTimer .. => advances_execRetrainTimer h
  | .stepSetDone .. => advances_execStepSetDone h
  | .ceWindow .. => advances_execCeWindow h
  | .safePointTimeout .. => advances_execSafePointTimeout h
  | .freqReq .. => advances_execFreqReq h
  | .freqChangeDone .. => advances_execFreqChangeDone h
  | .panicStart .. => advances_execPanicStart h
  | .panicEnd .. => advances_execPanicEnd h
  | .panicLong => advances_execPanicLong h
  | .chHang .. => advances_execChHang h
  | .chInitDone .. => advances_execChInitDone h
  | .chPoisonFillDone .. => advances_execChPoisonFillDone h
  | .dflTailWrite .. => advances_execDflTailWrite h
  | .dflJobStart .. => advances_execDflJobStart h
  | .dflJobDone .. => advances_execDflJobDone h
  | .dflDisable .. => advances_execDflDisable h
  | .dmaTailWrite .. => advances_execDmaTailWrite h
  | .dmaJobDone .. => advances_execDmaJobDone h
  | .dmaDisable .. => advances_execDmaDisable h
  | .coreWatchdog .. => advances_execCoreWatchdog h
  | .hepReset => advances_execHepReset h
  | .msixEnable => advances_execMsixEnable h
  | .mbDataWrite .. => advances_execMbDataWrite h
  | .mbGo .. => advances_execMbGo h
  | .mbArmWait .. => advances_execMbArmWait h
  | .mbTake .. => advances_execMbTake h
  | .dbSet .. => advances_execDbSet h
  | .dbClear .. => advances_execDbClear h
  | .echo .. => advances_execEcho h
  | .netTx .. => advances_execNetTx h
  | .netRx .. => advances_execNetRx h
  | .faultHistoryWrite => advances_execFaultHistoryWrite h
  | .clogRecord .. => advances_execClogRecord h
  | .challenge .. => advances_execChallenge h
  | .debugUser .. => advances_execDebugUser h
  | .debugVendor .. => advances_execDebugVendor h
  | .vendorWipeDone => advances_execVendorWipeDone h
  | .revoke .. => advances_execRevoke h
  | .addKey .. => advances_execAddKey h
  | .return .. => advances_execReturn h
  | .attest .. => advances_execAttest h
  | .getId .. => advances_execGetId h
  | .provision .. => advances_execProvision h
  | .deploy .. => advances_execDeploy h
  | .svnCommit .. => advances_execSvnCommit h
  | .debugClose .. => advances_execDebugClose h
  | .secDone => advances_execSecDone h
  | .fuseBurnDone .. => advances_execFuseBurnDone h
  | .secWatchdog => advances_execSecWatchdog h
  | .jtagInstruction .. => advances_execJtagInstruction h
  | .dapAccess .. => advances_execDapAccess h
  | .pwrRun .. => advances_execPwrRun h
  | .pwrHold .. => advances_execPwrHold h
  | .pwrDoze .. => advances_execPwrDoze h
  | .pwrOff .. => advances_execPwrOff h
  | .powerDrained => advances_execPowerDrained h
  | .powerDrainTimeout => advances_execPowerDrainTimeout h
  | .dozeMemRestored => advances_execDozeMemRestored h
  | .dozeImageChecked .. => advances_execDozeImageChecked h
  | .wakeN => advances_execWakeN h
  | .thmSample .. => advances_execThmSample h
  | .sensorTimeout .. => advances_execSensorTimeout h
  | .graceExpiry => advances_execGraceExpiry h
  | .thmStepTimer => advances_execThmStepTimer h
  | .thermalRestart => advances_execThermalRestart h
  | .trimWalkStep => advances_execTrimWalkStep h
  | .trimTargetWrite .. => advances_execTrimTargetWrite h
  | .calBgr .. => advances_execCalBgr h
  | .calXo => advances_execCalXo h
  | .calTs .. => advances_execCalTs h
  | .calLane .. => advances_execCalLane h
  | .calPll .. => advances_execCalPll h
  | .calAbort => advances_execCalAbort h
  | .xoRound .. => advances_execXoRound h
  | .calConverged .. => advances_execCalConverged h
  | .calRoutineTimeout => advances_execCalRoutineTimeout h
  | .calPrecondLost => advances_execCalPrecondLost h
  | .calExport .. => advances_execCalExport h
  | .calImport .. => advances_execCalImport h
  | .calSave .. => advances_execCalSave h
  | .userRead .. => advances_execUserRead h
  | .userWrite .. => advances_execUserWrite h
  | .powerOn => advances_execPowerOn h
  | .resetN => advances_execResetN h
  | .corePgRise => advances_execCorePgRise h
  | .corePgTimeout => advances_execCorePgTimeout h
  | .coreResetRelease => advances_execCoreResetRelease h
  | .corePgLoss => advances_execCorePgLoss h
  | .corePgRetry => advances_execCorePgRetry h
  | .rstDevWarm => advances_execRstDevWarm h
  | .rodHoldSet .. => advances_execRodHoldSet h
  | .rodHoldClear .. => advances_execRodHoldClear h
  | .rodResetRelease .. => advances_execRodResetRelease h
  | .rodReady .. => advances_execRodReady h
  | .rodProbe .. => advances_execRodProbe h
  | .regParity .. => advances_execRegParity h
  | .xoLoss => advances_execXoLoss h
  | .pcieRefLoss => advances_execPcieRefLoss h
  | .ethRefLoss => advances_execEthRefLoss h
  | .refBack .. => advances_execRefBack h
  | .bootStart => advances_execBootStart h
  | .flashDirRead .. => advances_execFlashDirRead h
  | .fwGo => advances_execFwGo h
  | .imgGo => advances_execImgGo h
  | .fwReadDone .. => advances_execFwReadDone h
  | .imgReadDone .. => advances_execImgReadDone h
  | .imgUnpackDone => advances_execImgUnpackDone h
  | .imgCheckDone => advances_execImgCheckDone h
  | .memTrainDone .. => advances_execMemTrainDone h
  | .bootReady => advances_execBootReady h
  | .schedulingDecision .. => advances_execSchedulingDecision h
  | .ptpEventMessageTx .. => advances_execPtpEventMessageTx h
  | .vddAonLoss => advances_execVddAonLoss h
  | .aonLeavesReset => advances_execAonLeavesReset h
  | .coreEnRetry => advances_execCoreEnRetry h

/-- A step answers a next state that evolves from the state without its front command. -/
theorem step_advances (s : State) : Advances { s with pending := s.pending.tail } (step s) := by
  unfold step
  split
  case h_1 hp =>
    have h : Evolves { s with pending := s.pending.tail } s := (Evolves.refl _).beside (by simp [State.stores, hp])
    exact .next h.tallyCycle
  case h_2 c rest hp =>
    rw [hp]
    exact advances_exec (Evolves.refl _) c

end

/-- Settles O3: every command only writes stores and changes what is no store, and none of those writes is to the queue. -/
theorem everyCommandGoesOn : Obligations.EveryCommandGoesOn := by
  unfold Obligations.EveryCommandGoesOn
  refine ⟨fun c s => ?_, fun s => ?_, fun s t hst => ?_⟩
  · obtain ⟨t, ht, hev⟩ := advances_exec (Evolves.refl s) c
    exact ⟨t, ht, hev.pending_eq⟩
  · obtain ⟨t, ht, _⟩ := step_advances s
    exact ⟨t, ht⟩
  · obtain ⟨u, hu, hev⟩ := step_advances s
    obtain rfl : u = t := Host.Outcome.next.inj (hu.symm.trans hst)
    exact hev.pending_eq

end Sys2Proof.Machine

section

/- Proofs in turn, as the tests before them: all at once they take more memory than the check has. -/
set_option Elab.async false

/-!
A step keeps the stores in canonical form (O6), and runs the command at the front of the queue (O1).
-/

namespace Sys2Proof.Machine

/-- The stores of a state are in canonical form: the predicate of the statement, said of the stores alone. -/
def Stores.Canonical (m : Stores) : Prop :=
  mapSorted keyLt m.regs = true ∧ mapSorted keyLt m.inf = true ∧ Bytes.wf m.tray = true ∧ Bytes.wf m.dram = true ∧
    Bytes.wf m.keep = true

theorem storesOk_iff (s : State) : Safety.storesOk s = true ↔ s.stores.Canonical := by
  simp [Safety.storesOk, Safety.regsOk, Stores.Canonical, and_assoc]

/-- Each of the few writes to a state's stores keeps their canonical form. -/
theorem StoreWrite.canonical {m n : Stores} (w : StoreWrite m n) (h : m.Canonical) : n.Canonical := by
  obtain ⟨hregs, hinf, htray, hdram, hkeep⟩ := h
  cases w with
  | reg f v => exact ⟨mapSorted_set keyLt_strict _ _ hregs, hinf, htray, hdram, hkeep⟩
  | inForce f v => exact ⟨hregs, mapSorted_set keyLt_strict _ _ hinf, htray, hdram, hkeep⟩
  | regsOver src p => exact ⟨mapSorted_over keyLt_strict _ (mapSorted_filter _ hregs), hinf, htray, hdram, hkeep⟩
  | inForceOver src p => exact ⟨hregs, mapSorted_over keyLt_strict _ (mapSorted_filter _ hinf), htray, hdram, hkeep⟩
  | noneInForce => exact ⟨hregs, rfl, htray, hdram, hkeep⟩
  | tray a d => exact ⟨hregs, hinf, Bytes.wf_wrBytes _ _ _ htray, hdram, hkeep⟩
  | noTray => exact ⟨hregs, hinf, rfl, hdram, hkeep⟩
  | dram a d => exact ⟨hregs, hinf, htray, Bytes.wf_wrBytes _ _ _ hdram, hkeep⟩
  | dramCleared lo hi => exact ⟨hregs, hinf, htray, Bytes.wf_clearBytes _ _ hdram, hkeep⟩
  | noDram => exact ⟨hregs, hinf, htray, rfl, hkeep⟩
  | keep a d => exact ⟨hregs, hinf, htray, hdram, Bytes.wf_wrBytes _ _ _ hkeep⟩
  | keepCleared lo hi => exact ⟨hregs, hinf, htray, hdram, Bytes.wf_clearBytes _ _ hkeep⟩
  | burn w b => exact ⟨hregs, hinf, htray, hdram, hkeep⟩

/-- A state that evolves from one with canonical stores has canonical stores. -/
theorem Evolves.storesOk {s t : State} (h : Evolves s t) (hs : Safety.storesOk s = true) : Safety.storesOk t = true := by
  rw [storesOk_iff] at hs ⊢
  unfold Evolves at h
  suffices ∀ n, Relation.ReflTransGen StoreWrite s.stores n → n.Canonical from this t.stores h
  intro n hn
  induction hn with
  | refl => exact hs
  | tail _ w ih => exact w.canonical ih

/-- Settles O6: what a step answers evolves from the state by writes that each keep the canonical form. -/
theorem stepKeepsStoresCanonical : Obligations.StepKeepsStoresCanonical := by
  unfold Obligations.StepKeepsStoresCanonical
  intro s t hs hst
  obtain ⟨u, hu, hev⟩ := step_advances s
  obtain rfl : u = t := Host.Outcome.next.inj (hu.symm.trans hst)
  exact hev.storesOk hs

/-- Settles O1: on a queue that is not empty, a step is `exec` of its front command. -/
theorem stepRunsFrontCommand : Obligations.StepRunsFrontCommand := by
  unfold Obligations.StepRunsFrontCommand
  intro c rest s hp
  unfold step
  split
  case h_1 hn => simp [hp] at hn
  case h_2 c' rest' hc =>
    obtain ⟨rfl, rfl⟩ := List.cons.inj (hp.symm.trans hc)
    rfl

end Sys2Proof.Machine

/-!
What a change may touch.

A footprint is a list of permissions: fields, event sources, staged sets, parts of the state, bytes of the memories. `Within A s t` says
that from `s` to `t` nothing changed but what the footprint `A` permits. Each operation of the model has one lemma, which carries
`Within` over it wherever the footprint holds the operation's own; a command's frame is read off the footprint of its operations.
-/

namespace Sys2Proof.Machine

open Sys2Proof.Safety

/-! ### Parts of a state -/

/-- The parts of a state beyond its registers, what leaves the device, the traces of an event and the stringing in force. -/
inductive Part where
  | pending | tray | trayBad | dram | dramBad | rdQ | wrQ | rdParts | rows | keep | fuses | strung | img | patch | now | up
  | jobs | frames | pics | strms | imgs | grids | lumas | refs | decs | decJobs | decOut | uanc | hdrs | lays | unders | canv
  | binds | lnk | recd | clogQ | txns | auds | dfls | dmas | dflRecs | rings | flows | rxs | tsq | quarantine | flits | sec
  | trims | cal | autoTimes | freeCtr
  deriving DecidableEq

/-- The state `u` with one part of `v`. -/
def Part.put (q : Part) (v u : State) : State :=
  match q with
  | .pending => { u with pending := v.pending }
  | .tray => { u with tray := v.tray }
  | .trayBad => { u with trayBad := v.trayBad }
  | .dram => { u with dram := v.dram }
  | .dramBad => { u with dramBad := v.dramBad }
  | .rdQ => { u with rdQ := v.rdQ }
  | .wrQ => { u with wrQ := v.wrQ }
  | .rdParts => { u with rdParts := v.rdParts }
  | .rows => { u with rows := v.rows }
  | .keep => { u with keep := v.keep }
  | .fuses => { u with fuses := v.fuses }
  | .strung => { u with strung := v.strung }
  | .img => { u with img := v.img }
  | .patch => { u with patch := v.patch }
  | .now => { u with now := v.now }
  | .up => { u with up := v.up }
  | .jobs => { u with jobs := v.jobs }
  | .frames => { u with frames := v.frames }
  | .pics => { u with pics := v.pics }
  | .strms => { u with strms := v.strms }
  | .imgs => { u with imgs := v.imgs }
  | .grids => { u with grids := v.grids }
  | .lumas => { u with lumas := v.lumas }
  | .refs => { u with refs := v.refs }
  | .decs => { u with decs := v.decs }
  | .decJobs => { u with decJobs := v.decJobs }
  | .decOut => { u with decOut := v.decOut }
  | .uanc => { u with uanc := v.uanc }
  | .hdrs => { u with hdrs := v.hdrs }
  | .lays => { u with lays := v.lays }
  | .unders => { u with unders := v.unders }
  | .canv => { u with canv := v.canv }
  | .binds => { u with binds := v.binds }
  | .lnk => { u with lnk := v.lnk }
  | .recd => { u with recd := v.recd }
  | .clogQ => { u with clogQ := v.clogQ }
  | .txns => { u with txns := v.txns }
  | .auds => { u with auds := v.auds }
  | .dfls => { u with dfls := v.dfls }
  | .dmas => { u with dmas := v.dmas }
  | .dflRecs => { u with dflRecs := v.dflRecs }
  | .rings => { u with rings := v.rings }
  | .flows => { u with flows := v.flows }
  | .rxs => { u with rxs := v.rxs }
  | .tsq => { u with tsq := v.tsq }
  | .quarantine => { u with quarantine := v.quarantine }
  | .flits => { u with flits := v.flits }
  | .sec => { u with sec := v.sec }
  | .trims => { u with trims := v.trims }
  | .cal => { u with cal := v.cal }
  | .autoTimes => { u with autoTimes := v.autoTimes }
  | .freeCtr => { u with freeCtr := v.freeCtr }

/-- What a state holds beyond its registers, with the parts that `m` picks forgotten. -/
def mask (m : Part → Bool) (u : State) : State :=
  { beyond u with
    pending := cond (m .pending) State.reset.pending u.pending,
    tray := cond (m .tray) State.reset.tray u.tray,
    trayBad := cond (m .trayBad) State.reset.trayBad u.trayBad,
    dram := cond (m .dram) State.reset.dram u.dram,
    dramBad := cond (m .dramBad) State.reset.dramBad u.dramBad,
    rdQ := cond (m .rdQ) State.reset.rdQ u.rdQ,
    wrQ := cond (m .wrQ) State.reset.wrQ u.wrQ,
    rdParts := cond (m .rdParts) State.reset.rdParts u.rdParts,
    rows := cond (m .rows) State.reset.rows u.rows,
    keep := cond (m .keep) State.reset.keep u.keep,
    fuses := cond (m .fuses) State.reset.fuses u.fuses,
    strung := cond (m .strung) State.reset.strung u.strung,
    img := cond (m .img) State.reset.img u.img,
    patch := cond (m .patch) State.reset.patch u.patch,
    now := cond (m .now) State.reset.now u.now,
    up := cond (m .up) State.reset.up u.up,
    jobs := cond (m .jobs) State.reset.jobs u.jobs,
    frames := cond (m .frames) State.reset.frames u.frames,
    pics := cond (m .pics) State.reset.pics u.pics,
    strms := cond (m .strms) State.reset.strms u.strms,
    imgs := cond (m .imgs) State.reset.imgs u.imgs,
    grids := cond (m .grids) State.reset.grids u.grids,
    lumas := cond (m .lumas) State.reset.lumas u.lumas,
    refs := cond (m .refs) State.reset.refs u.refs,
    decs := cond (m .decs) State.reset.decs u.decs,
    decJobs := cond (m .decJobs) State.reset.decJobs u.decJobs,
    decOut := cond (m .decOut) State.reset.decOut u.decOut,
    uanc := cond (m .uanc) State.reset.uanc u.uanc,
    hdrs := cond (m .hdrs) State.reset.hdrs u.hdrs,
    lays := cond (m .lays) State.reset.lays u.lays,
    unders := cond (m .unders) State.reset.unders u.unders,
    canv := cond (m .canv) State.reset.canv u.canv,
    binds := cond (m .binds) State.reset.binds u.binds,
    lnk := cond (m .lnk) State.reset.lnk u.lnk,
    recd := cond (m .recd) State.reset.recd u.recd,
    clogQ := cond (m .clogQ) State.reset.clogQ u.clogQ,
    txns := cond (m .txns) State.reset.txns u.txns,
    auds := cond (m .auds) State.reset.auds u.auds,
    dfls := cond (m .dfls) State.reset.dfls u.dfls,
    dmas := cond (m .dmas) State.reset.dmas u.dmas,
    dflRecs := cond (m .dflRecs) State.reset.dflRecs u.dflRecs,
    rings := cond (m .rings) State.reset.rings u.rings,
    flows := cond (m .flows) State.reset.flows u.flows,
    rxs := cond (m .rxs) State.reset.rxs u.rxs,
    tsq := cond (m .tsq) State.reset.tsq u.tsq,
    quarantine := cond (m .quarantine) State.reset.quarantine u.quarantine,
    flits := cond (m .flits) State.reset.flits u.flits,
    sec := cond (m .sec) State.reset.sec u.sec,
    trims := cond (m .trims) State.reset.trims u.trims,
    cal := cond (m .cal) State.reset.cal u.cal,
    autoTimes := cond (m .autoTimes) State.reset.autoTimes u.autoTimes,
    freeCtr := cond (m .freeCtr) State.reset.freeCtr u.freeCtr }

theorem cond_of_cond {α : Type} {a b : Bool} (d x : α) (h : b = true → a = true) :
    cond a d (cond b d x) = cond a d x := by
  cases a <;> cases b <;> simp_all

/-- Forgetting fewer parts first makes no difference. -/
theorem mask_mask {m n : Part → Bool} (h : ∀ q, n q = true → m q = true) (u : State) : mask m (mask n u) = mask m u := by
  simp only [mask, beyond, cond_of_cond _ _ (h _)]

theorem mask_mono {m n : Part → Bool} {u v : State} (h : ∀ q, n q = true → m q = true) (e : mask n u = mask n v) :
    mask m u = mask m v := by
  rw [← mask_mask h u, ← mask_mask h v, e]

/-- Writing a part that is forgotten makes no difference. -/
theorem mask_put {m : Part → Bool} {q : Part} (h : m q = true) (v u : State) : mask m (q.put v u) = mask m u := by
  cases q <;> simp only [mask, beyond, Part.put, h, cond_true]

theorem mask_putAll {m : Part → Bool} {l : List Part} (h : ∀ q ∈ l, m q = true) (v u : State) :
    mask m (l.foldr (fun q w => q.put v w) u) = mask m u := by
  induction l with
  | nil => rfl
  | cons q l ih => exact (mask_put (h q (by simp)) v _).trans (ih fun p hp => h p (by simp [hp]))

theorem mask_of_beyond {m : Part → Bool} {u v : State} (h : beyond u = beyond v) : mask m u = mask m v := by
  have e : ∀ w, mask m w = mask m (beyond w) := fun _ => rfl
  rw [e u, e v, h]

/-! ### Permissions -/

/-- A permission: to write a field, one of a list of fields, a field of a list whatever its number, an event source or any field of a
block; to bring the staged sets of a block into force; to change a part of the state; to write the Tray in the granules granted to a
rod or in a span of bytes; to write DRAM in regions or where a condition holds; to write a span of the keep store. -/
inductive Perm where
  | fld (f : Fld) | flds (l : List Fld) | kin (l : List Fld) | src (e : E.Src) | block (rod : Nat) | sets (rod : Nat) | part (q : Part)
  | grant (rod : Nat) | trayAt (a n : Nat) | regions (l : List Nat) | dramWhere (p : Nat → Prop) | keepAt (a n : Nat)

/-- A footprint: what a change may touch. -/
abbrev Foot := List Perm

@[simp] def Perm.writes (f : Fld) : Perm → Prop
  | .fld g => f.key = g.key
  | .flds l => among l f
  | .kin l => kindred l f
  | .src e => f.key = (R.EVT_STAT e.1 e.2).key
  | .block rod => f.rod = rod
  | _ => False

@[simp] def Perm.forces (f : Fld) : Perm → Prop
  | .block rod => f.rod = rod
  | .sets rod => f.rod = rod
  | _ => False

@[simp] def Perm.frees (q : Part) : Perm → Bool
  | .part p => decide (q = p)
  | .grant _ => decide (q = .tray) || decide (q = .trayBad)
  | .trayAt .. => decide (q = .tray) || decide (q = .trayBad)
  | .regions _ => decide (q = .dram) || decide (q = .dramBad) || decide (q = .wrQ)
  | .dramWhere _ => decide (q = .dram)
  | .keepAt .. => decide (q = .keep)
  | _ => false

@[simp] def Perm.putsTray (s : State) (a : Nat) : Perm → Prop
  | .grant rod => s.granted rod (a / granBytes) true = true
  | .trayAt b n => b ≤ a ∧ a < b + n
  | _ => False

@[simp] def Perm.putsDram (s : State) (a : Nat) : Perm → Prop
  | .regions l => ∃ r ∈ l, ∃ off, (s.regionAddr r off).map (fun p => lin p.1 p.2) = some a
  | .dramWhere p => p a
  | _ => False

@[simp] def Perm.putsKeep (a : Nat) : Perm → Prop
  | .keepAt b n => b ≤ a ∧ a < b + n
  | _ => False

/-- A footprint permits what one of its permissions does. -/
def Foot.writes (A : Foot) (f : Fld) : Prop := ∃ p ∈ A, p.writes f
def Foot.forces (A : Foot) (f : Fld) : Prop := ∃ p ∈ A, p.forces f
def Foot.frees (A : Foot) (q : Part) : Bool := A.any (Perm.frees q)
def Foot.putsTray (A : Foot) (s : State) (a : Nat) : Prop := ∃ p ∈ A, p.putsTray s a
def Foot.putsDram (A : Foot) (s : State) (a : Nat) : Prop := ∃ p ∈ A, p.putsDram s a
def Foot.putsKeep (A : Foot) (a : Nat) : Prop := ∃ p ∈ A, p.putsKeep a

section

variable {A B : Foot} {f g : Fld} {q : Part} {x : Perm}

@[simp] theorem Foot.writes_nil : ¬ Foot.writes [] f := by simp [Foot.writes]
@[simp] theorem Foot.writes_cons : Foot.writes (x :: A) f ↔ x.writes f ∨ Foot.writes A f := by simp [Foot.writes]
@[simp] theorem Foot.writes_append : Foot.writes (A ++ B) f ↔ Foot.writes A f ∨ Foot.writes B f := by
  simp [Foot.writes, or_and_right, exists_or]
@[simp] theorem Foot.forces_nil : ¬ Foot.forces [] f := by simp [Foot.forces]
@[simp] theorem Foot.forces_cons : Foot.forces (x :: A) f ↔ x.forces f ∨ Foot.forces A f := by simp [Foot.forces]
@[simp] theorem Foot.forces_append : Foot.forces (A ++ B) f ↔ Foot.forces A f ∨ Foot.forces B f := by
  simp [Foot.forces, or_and_right, exists_or]
@[simp] theorem Foot.frees_nil : Foot.frees [] q = false := rfl
@[simp] theorem Foot.frees_cons : Foot.frees (x :: A) q = (x.frees q || Foot.frees A q) := rfl
@[simp] theorem Foot.frees_append : Foot.frees (A ++ B) q = (Foot.frees A q || Foot.frees B q) := by simp [Foot.frees]

/-- The footprint lets the staged sets of a block come into force. -/
def Foot.sets (A : Foot) (rod : Nat) : Prop := ∀ f : Fld, f.rod = rod → A.forces f

/-- The footprint lets a region of DRAM be written. -/
def Foot.region (A : Foot) (r : Nat) : Prop := ∃ l, Perm.regions l ∈ A ∧ r ∈ l

@[simp] theorem Foot.region_nil {r : Nat} : ¬ Foot.region [] r := by simp [Foot.region]
@[simp] theorem Foot.region_regions {r : Nat} {l : List Nat} : Foot.region (.regions l :: A) r ↔ r ∈ l ∨ Foot.region A r := by
  simp [Foot.region, or_and_right, exists_or]
@[simp] theorem Foot.region_fld {r : Nat} {f : Fld} : Foot.region (.fld f :: A) r ↔ Foot.region A r := by simp [Foot.region]
@[simp] theorem Foot.region_flds {r : Nat} {l : List Fld} : Foot.region (.flds l :: A) r ↔ Foot.region A r := by simp [Foot.region]
@[simp] theorem Foot.region_kin {r : Nat} {l : List Fld} : Foot.region (.kin l :: A) r ↔ Foot.region A r := by simp [Foot.region]
@[simp] theorem Foot.region_src {r : Nat} {e : E.Src} : Foot.region (.src e :: A) r ↔ Foot.region A r := by simp [Foot.region]
@[simp] theorem Foot.region_block {r : Nat} {n : Nat} : Foot.region (.block n :: A) r ↔ Foot.region A r := by simp [Foot.region]
@[simp] theorem Foot.region_sets {r : Nat} {n : Nat} : Foot.region (.sets n :: A) r ↔ Foot.region A r := by simp [Foot.region]
@[simp] theorem Foot.region_part {r : Nat} {q : Part} : Foot.region (.part q :: A) r ↔ Foot.region A r := by simp [Foot.region]
@[simp] theorem Foot.region_grant {r : Nat} {n : Nat} : Foot.region (.grant n :: A) r ↔ Foot.region A r := by simp [Foot.region]
@[simp] theorem Foot.region_trayAt {r : Nat} {n k : Nat} : Foot.region (.trayAt n k :: A) r ↔ Foot.region A r := by simp [Foot.region]
@[simp] theorem Foot.region_dramWhere {r : Nat} {d : Nat → Prop} : Foot.region (.dramWhere d :: A) r ↔ Foot.region A r := by simp [Foot.region]
@[simp] theorem Foot.region_keepAt {r : Nat} {n k : Nat} : Foot.region (.keepAt n k :: A) r ↔ Foot.region A r := by simp [Foot.region]
@[simp] theorem Foot.region_append {r : Nat} : Foot.region (A ++ B) r ↔ Foot.region A r ∨ Foot.region B r := by
  simp [Foot.region, or_and_right, exists_or]

theorem Foot.writes_mono (h : A ⊆ B) (w : Foot.writes A f) : Foot.writes B f := w.imp fun _ hp => ⟨h hp.1, hp.2⟩
theorem Foot.forces_mono (h : A ⊆ B) (w : Foot.forces A f) : Foot.forces B f := w.imp fun _ hp => ⟨h hp.1, hp.2⟩
theorem Foot.putsTray_mono {s : State} {a : Nat} (h : A ⊆ B) (w : Foot.putsTray A s a) : Foot.putsTray B s a :=
  w.imp fun _ hp => ⟨h hp.1, hp.2⟩
theorem Foot.putsDram_mono {s : State} {a : Nat} (h : A ⊆ B) (w : Foot.putsDram A s a) : Foot.putsDram B s a :=
  w.imp fun _ hp => ⟨h hp.1, hp.2⟩
theorem Foot.putsKeep_mono {a : Nat} (h : A ⊆ B) (w : Foot.putsKeep A a) : Foot.putsKeep B a := w.imp fun _ hp => ⟨h hp.1, hp.2⟩

theorem Foot.frees_mono (h : A ⊆ B) (e : Foot.frees A q = true) : Foot.frees B q = true := by
  obtain ⟨p, hp, hq⟩ := List.any_eq_true.1 e
  exact List.any_eq_true.2 ⟨p, h hp, hq⟩

/-- A permission to write is one to write every field of the same key. -/
theorem Perm.writes_key {p : Perm} (e : g.key = f.key) (h : p.writes f) : p.writes g := by
  have e' := e
  simp only [Fld.key, Prod.mk.injEq] at e'
  obtain ⟨er, ei, -⟩ := e'
  cases p with
  | fld _ => exact e.trans h
  | src _ => exact e.trans h
  | flds l => simpa only [Perm.writes, among, e] using h
  | kin l => simpa only [Perm.writes, kindred, er, ei] using h
  | block rod => exact er.trans h
  | _ => exact h

theorem Foot.writes_key (e : g.key = f.key) (h : Foot.writes A f) : Foot.writes A g :=
  h.imp fun _ hp => ⟨hp.1, Perm.writes_key e hp.2⟩

end

/-! ### Changes within a footprint -/

/-- From `s` to `t` nothing changed but what the footprint permits. -/
structure Within (A : Foot) (s t : State) : Prop where
  get_eq : ∀ f : Fld, ¬ A.writes f → t.get f = s.get f
  inf_eq : ∀ f : Fld, ¬ A.forces f → mapGet f.rst t.inf f.key = mapGet f.rst s.inf f.key
  rest_eq : mask A.frees t = mask A.frees s
  tray_eq : ∀ a, ¬ A.putsTray s a → rdByte t.tray a = rdByte s.tray a
  dram_eq : ∀ a, ¬ A.putsDram s a → rdByte t.dram a = rdByte s.dram a
  keep_eq : ∀ a, ¬ A.putsKeep a → rdByte t.keep a = rdByte s.keep a

section

variable {A B : Foot} {s t u : State}

theorem Within.refl (A : Foot) (s : State) : Within A s s :=
  ⟨fun _ _ => rfl, fun _ _ => rfl, rfl, fun _ _ => rfl, fun _ _ => rfl, fun _ _ => rfl⟩

/-- No footprint permits a change of the stringing. -/
theorem Within.strg_eq (w : Within A s t) : t.strg = s.strg := by
  have h := congrArg State.strg w.rest_eq
  exact h

theorem granted_congr (h : t.strg = s.strg) (rod g : Nat) (wr : Bool) : t.granted rod g wr = s.granted rod g wr := by
  unfold State.granted; rw [h]

theorem regionAddr_congr (h : t.strg = s.strg) (r off : Nat) : t.regionAddr r off = s.regionAddr r off := by
  unfold State.regionAddr; rw [h]

theorem Foot.putsTray_congr (h : t.strg = s.strg) (a : Nat) : Foot.putsTray A t a ↔ Foot.putsTray A s a :=
  exists_congr fun p => and_congr_right fun _ => by cases p <;> simp [granted_congr h]

theorem Foot.putsDram_congr (h : t.strg = s.strg) (a : Nat) : Foot.putsDram A t a ↔ Foot.putsDram A s a :=
  exists_congr fun p => and_congr_right fun _ => by cases p <;> simp [regionAddr_congr h]

theorem Within.trans (w : Within A s t) (h : Within A t u) : Within A s u where
  get_eq f hf := (h.get_eq f hf).trans (w.get_eq f hf)
  inf_eq f hf := (h.inf_eq f hf).trans (w.inf_eq f hf)
  rest_eq := h.rest_eq.trans w.rest_eq
  tray_eq a ha := (h.tray_eq a (mt (Foot.putsTray_congr w.strg_eq a).1 ha)).trans (w.tray_eq a ha)
  dram_eq a ha := (h.dram_eq a (mt (Foot.putsDram_congr w.strg_eq a).1 ha)).trans (w.dram_eq a ha)
  keep_eq a ha := (h.keep_eq a ha).trans (w.keep_eq a ha)

theorem Within.mono (w : Within A s t) (h : A ⊆ B) : Within B s t where
  get_eq f hf := w.get_eq f (mt (Foot.writes_mono h) hf)
  inf_eq f hf := w.inf_eq f (mt (Foot.forces_mono h) hf)
  rest_eq := mask_mono (fun _ => Foot.frees_mono h) w.rest_eq
  tray_eq a ha := w.tray_eq a (mt (Foot.putsTray_mono h) ha)
  dram_eq a ha := w.dram_eq a (mt (Foot.putsDram_mono h) ha)
  keep_eq a ha := w.keep_eq a (mt (Foot.putsKeep_mono h) ha)

/-- One more change, of a smaller footprint. -/
theorem Within.step (w : Within A s t) (h : Within B t u) (hB : B ⊆ A := by simp) : Within A s u := w.trans (h.mono hB)

/-! ### The elementary changes -/

/-- A change of parts that the footprint permits, and of what leaves the device and the traces of an event. -/
theorem Within.put (w : Within A s t) (l : List Part) (e : beyond u = l.foldr (fun q v => q.put u v) (beyond t))
    (hr : u.regs = t.regs := by rfl) (hi : u.inf = t.inf := by rfl)
    (ht : u.tray = t.tray := by rfl) (hd : u.dram = t.dram := by rfl) (hk : u.keep = t.keep := by rfl)
    (h : ∀ q ∈ l, A.frees q = true := by simp) : Within A s u :=
  w.trans
    { get_eq := fun f _ => by unfold State.get; rw [hr]
      inf_eq := fun f _ => by rw [hi]
      rest_eq := (mask_of_beyond (v := beyond u) rfl).trans (e ▸ mask_putAll h u (beyond t))
      tray_eq := fun a _ => by rw [ht]
      dram_eq := fun a _ => by rw [hd]
      keep_eq := fun a _ => by rw [hk] }

/-- A change to what leaves the device and to the traces of an event. -/
theorem Within.loose (w : Within A s t) (e : beyond u = beyond t) (hr : u.regs = t.regs := by rfl)
    (hi : u.inf = t.inf := by rfl) : Within A s u :=
  w.put [] e hr hi (congrArg State.tray e :) (congrArg State.dram e :) (congrArg State.keep e :)

theorem Within.set {f : Fld} {v : Nat} (w : Within A s t) (h : A.writes f := by simp) : Within A s (t.set f v) :=
  w.trans
    { get_eq := fun _ hg => State.get_set_key _ _ fun e => hg (Foot.writes_key e h)
      inf_eq := fun _ _ => rfl
      rest_eq := rfl
      tray_eq := fun _ _ => rfl
      dram_eq := fun _ _ => rfl
      keep_eq := fun _ _ => rfl }

theorem Within.setInf {f : Fld} {v : Nat} (w : Within A s t) (h : A.sets f.rod := by simp) : Within A s (t.setInf f v) :=
  w.trans
    { get_eq := fun _ _ => rfl
      inf_eq := fun g hg => mapGet_set_other _ _ _ fun e => hg (h g (congrArg Prod.fst e))
      rest_eq := rfl
      tray_eq := fun _ _ => rfl
      dram_eq := fun _ _ => rfl
      keep_eq := fun _ _ => rfl }

theorem Within.raise {e : E.Src} (w : Within A s t) (h : A.writes (R.EVT_STAT e.1 e.2) := by simp) : Within A s (t.raise e) := by
  have hb := beyond_raise t e
  exact w.trans
    { get_eq := fun _ hg => State.get_raise_key _ _ fun e => hg (Foot.writes_key e h)
      inf_eq := fun _ _ => by rw [State.inf_raise]
      rest_eq := mask_of_beyond hb
      tray_eq := fun a _ => congrArg (rdByte ·.tray a) hb
      dram_eq := fun a _ => congrArg (rdByte ·.dram a) hb
      keep_eq := fun a _ => congrArg (rdByte ·.keep a) hb }

theorem Within.emit {o : Out} (w : Within A s t) : Within A s (t.emit o) := w.loose rfl

theorem Within.msix {v : Nat} (w : Within A s t) : Within A s (t.msix v) :=
  w.loose (beyond_msix t v) (State.regs_msix t v) (State.inf_msix t v)

theorem Within.drawn (w : Within A s t) (h : A.frees .freeCtr = true := by simp) : Within A s t.drawn :=
  w.put [.freeCtr] rfl (h := by simpa using h)

/-! ### Branches and loops -/

theorem Within.ite {c : Prop} [Decidable c] (ht : c → Within A s t) (hu : ¬ c → Within A s u) : Within A s (if c then t else u) := by
  split
  · exact ht ‹_›
  · exact hu ‹_›

/-- The state of one of two values that hold one. -/
theorem Within.iteOn {β : Type} (get : β → State) {c : Prop} [Decidable c] {a b : β} (ha : c → Within A s (get a))
    (hb : ¬ c → Within A s (get b)) : Within A s (get (if c then a else b)) := by
  split
  · exact ha ‹_›
  · exact hb ‹_›

theorem Within.when {b : Bool} {g : State → State} (w : Within A s t) (hg : Within A t (g t)) : Within A s (t.when b g) :=
  .ite (fun _ => w.trans hg) fun _ => w

/-- A change made for each element of a list. -/
theorem Within.foldl {α : Type} {g : State → α → State} {l : List α} (w : Within A s t)
    (hg : ∀ u, ∀ x ∈ l, Within A u (g u x)) : Within A s (l.foldl g t) := by
  induction l generalizing t with
  | nil => exact w
  | cons x l ih => exact ih (w.trans (hg t x (by simp))) fun u y hy => hg u y (by simp [hy])

/-! ### The shared operations -/

theorem Within.inc {f : Fld} (w : Within A s t) (h : A.writes f := by simp) : Within A s (t.inc f) := w.set h

theorem Within.addSat {f : Fld} {n : Nat} (w : Within A s t) (h : A.writes f := by simp) : Within A s (t.addSat f n) := w.set h

theorem Within.sets {l : List (Fld × Nat)} (w : Within A s t) (h : ∀ e ∈ l, A.writes e.1 := by simp) : Within A s (t.sets l) :=
  w.foldl fun u e he => (Within.refl A u).set (h e he)

theorem Within.raiseIf {b : Bool} {e : E.Src} (w : Within A s t) (h : A.writes (R.EVT_STAT e.1 e.2) := by simp) :
    Within A s (t.raiseIf b e) :=
  .ite (fun _ => w.raise h) fun _ => w

end

/-! ### Lists of fields -/

section

variable {l k : List Fld} {f g : Fld}

@[simp] theorem among_nil : ¬ among [] f := by simp [among]
@[simp] theorem among_cons : among (g :: l) f ↔ f.key = g.key ∨ among l f := by simp [among]
@[simp] theorem among_append : among (l ++ k) f ↔ among l f ∨ among k f := by simp [among]
@[simp] theorem among_map {α : Type} {m : List α} {h : α → Fld} : among (m.map h) f ↔ ∃ x ∈ m, f.key = (h x).key := by
  simp [among, eq_comm]
@[simp] theorem among_flatMap {α : Type} {m : List α} {h : α → List Fld} : among (m.flatMap h) f ↔ ∃ x ∈ m, among (h x) f := by
  simp only [among, List.map_flatMap, List.mem_flatMap]
@[simp] theorem among_sources {m : List E.Src} : among (sources m) f ↔ ∃ e ∈ m, f.key = (R.EVT_STAT e.1 e.2).key := among_map

@[simp] theorem sources_nil : sources [] = [] := rfl
@[simp] theorem sources_cons {e : E.Src} {m : List E.Src} : sources (e :: m) = R.EVT_STAT e.1 e.2 :: sources m := rfl

@[simp] theorem mem_sources {m : List E.Src} : f ∈ sources m ↔ ∃ e ∈ m, f = R.EVT_STAT e.1 e.2 := by
  simp [sources, eq_comm]

theorem among_of_key (e : f.key = g.key) (h : among l g) : among l f := by simpa only [among, e] using h

@[simp] theorem kindred_nil : ¬ kindred [] f := by simp [kindred]
@[simp] theorem kindred_cons : kindred (g :: l) f ↔ (f.rod = g.rod ∧ f.id = g.id) ∨ kindred l f := by simp [kindred]
@[simp] theorem kindred_append : kindred (l ++ k) f ↔ kindred l f ∨ kindred k f := by simp [kindred]

end

/-! ### Footprints of the shared operations -/

/-- The footprints of a carry-log record and a job of a rod, of the record of a Tray access, of a write to the Tray, of a retired
access, of a rejected write and of a commit point. -/
@[simp] def Foot.record (rod : Nat) : Foot := [.flds (recordFields rod), .part .clogQ]
@[simp] def Foot.job (rod : Nat) : Foot := [.flds (recordFields rod), .part .clogQ, .part .jobs]
@[simp] def Foot.tray : Foot := [.flds trayFields]
@[simp] def Foot.put (rod : Nat) : Foot := [.flds trayFields, .grant rod]
@[simp] def Foot.retire : Foot := [.flds retireFields]
@[simp] def Foot.range (rod : Nat) : Foot := [.flds (rangeFields rod)]
@[simp] def Foot.commit (rod : Nat) : Foot := [.flds (commitFields rod), .sets rod]

section

variable {A B : Foot} {s t u : State}

theorem Within.record {r : ClogRec} (w : Within A s t) (h : Foot.record r.rod ⊆ A := by simp) : Within A s (t.record r) := by
  refine w.step (B := Foot.record r.rod) (.ite (fun _ => (Within.refl _ t).put [.clogQ] rfl) fun _ => ?_) h
  have h₁ := (Within.refl (Foot.record r.rod) t).set (f := I.CLOG_DROPPED r.rod) (v := t.get (I.CLOG_DROPPED r.rod) + 1)
    (by simp [recordFields])
  exact ((h₁.set (by simp [recordFields])).inc (by simp [recordFields])).raise (by simp [recordFields])

theorem Within.beginJob {j : Job} (w : Within A s t) (h : Foot.job j.rod ⊆ A := by simp) : Within A s (t.beginJob j) := by
  refine w.step (B := Foot.job j.rod) (.record ?_) h
  exact (Within.refl _ t).put [.jobs] rfl

theorem Within.endJob {j : Job} {status : Nat} (w : Within A s t) (h : Foot.job j.rod ⊆ A := by simp) :
    Within A s (t.endJob j status) := by
  refine w.step (B := Foot.job j.rod) (.record ?_) h
  exact (Within.refl _ t).put [.jobs] rfl

theorem Within.hostRetired (w : Within A s t) (h : Foot.retire ⊆ A := by simp) : Within A s t.hostRetired := by
  refine w.step (B := Foot.retire) ?_ h
  exact (((Within.refl _ t).set (by simp [retireFields])).inc (by simp [retireFields])).raise (by simp [retireFields])

/-- A host command writes what it asks for, or is counted as retired. -/
theorem Within.hostTo {rod : Nat} {g : State → State} (w : Within A s t) (hg : Within A t (g t)) (h : Foot.retire ⊆ A := by simp) :
    Within A s (t.hostTo rod g) :=
  .ite (fun _ => w) fun _ => .ite (fun _ => w.trans hg) fun _ => w.hostRetired h

theorem Within.hostToBead {rod bead : Nat} {g : State → State} (w : Within A s t) (hg : Within A t (g t))
    (h : Foot.retire ⊆ A := by simp) : Within A s (t.hostToBead rod bead g) :=
  w.hostTo (.ite (fun _ => hg) fun _ => .refl _ _) h

theorem Within.wrRange {rod a : Nat} (w : Within A s t) (h : Foot.range (if rod = 17 then 0 else rod) ⊆ A := by simp) :
    Within A s (t.wrRange rod a) := by
  refine w.step (B := Foot.range (if rod = 17 then 0 else rod)) ?_ h
  unfold State.wrRange
  extract_lets b s1
  have h₁ : Within (Foot.range b) t s1 :=
    .ite (fun _ => .refl _ _) fun _ => ((Within.refl _ t).set (by simp [rangeFields])).set (by simp [rangeFields])
  exact (h₁.inc (by simp [rangeFields])).raise (by simp [rangeFields])

end

end Sys2Proof.Machine

namespace Sys2Proof.Machine

open Sys2Proof.Safety

section

variable {A B : Foot} {s t u : State}

/-! ### Tray and keep store -/

theorem Within.trayDeny {port gran : Nat} {wr : Bool} (w : Within A s t) (h : Foot.tray ⊆ A := by simp) :
    Within A s (t.trayDeny port wr gran) := by
  refine w.step (B := Foot.tray) ?_ h
  unfold State.trayDeny
  extract_lets s1
  have h₁ : Within Foot.tray t s1 := .ite (fun _ => .refl _ _) fun _ =>
    (((Within.refl _ t).set (by simp [trayFields])).set (by simp [trayFields])).set (by simp [trayFields])
  exact ((h₁.set (by simp [trayFields])).inc (by simp [trayFields])).raise (by simp [trayFields])

theorem Within.trayUnc {gran : Nat} (w : Within A s t) (h : Foot.tray ⊆ A := by simp) : Within A s (t.trayUnc gran) := by
  refine w.step (B := Foot.tray) ?_ h
  exact (((Within.refl _ t).set (by simp [trayFields])).set (by simp [trayFields])).raise (by simp [trayFields])

theorem Within.trayCor (w : Within A s t) (h : A.writes R.TRAY_ECC_CORR ∧ A.writes R.TRAY_ECC_CORR_CNT ∧
    A.writes (R.EVT_STAT E.trayCorr.1 E.trayCorr.2) := by simp [corrFields]) : Within A s t.trayCor :=
  ((w.set h.1).inc h.2.1).raise h.2.2

/-- Bytes are stored where the footprint permits. -/
theorem Within.trayStore {a : Nat} {d : List Byte} (w : Within A s t) (h : Foot.tray ⊆ A)
    (ht : A.frees .tray = true) (hb : A.frees .trayBad = true) (hp : ∀ x, a ≤ x → x < a + d.length → A.putsTray t x) :
    Within A s (t.trayStore a d) := by
  unfold State.trayStore
  extract_lets n part s1
  have h₁ : Within A t s1 :=
    { get_eq := fun _ _ => rfl
      inf_eq := fun _ _ => rfl
      rest_eq := mask_putAll (l := [.tray, .trayBad]) (by simp [ht, hb]) s1 t
      tray_eq := fun x hx => rdByte_wrBytes_out d t.tray a x (by by_contra hc; exact hx (hp x (by omega) (by omega)))
      dram_eq := fun _ _ => rfl
      keep_eq := fun _ _ => rfl }
  clear_value part
  split
  · exact w.trans h₁
  · exact (w.trans h₁).trayUnc h

theorem Within.trayReadAs {rod port a n : Nat} (w : Within A s t) (h : Foot.tray ⊆ A := by simp) :
    Within A s (t.trayReadAs rod port a n).2.2 := by
  unfold State.trayReadAs
  split
  · exact w.trayDeny h
  · split
    · exact w
    · exact w.trayUnc h

theorem Within.rodUse {rod a n : Nat} (w : Within A s t) (h : Foot.tray ⊆ A := by simp) : Within A s (t.rodUse rod a n) :=
  w.trayReadAs h

/-- The bytes of a span lie in the granules that it touches. -/
theorem mem_granSpan {a n x : Nat} (h₁ : a ≤ x) (h₂ : x < a + n) : x / granBytes ∈ granSpan a n := by
  have hn : n ≠ 0 := by omega
  have ha : a / granBytes ≤ x / granBytes := Nat.div_le_div_right h₁
  have hx : x / granBytes ≤ (a + n - 1) / granBytes := Nat.div_le_div_right (by omega)
  simp only [granSpan, hn, if_false, List.mem_map, List.mem_range]
  exact ⟨x / granBytes - a / granBytes, by omega, by omega⟩

/-- A write that no granule denies is made to granted granules alone. -/
theorem granted_of_find {rod a n : Nat} {wr : Bool} (e : (granSpan a n).find? (fun g => !t.granted rod g wr) = none) {x : Nat}
    (h₁ : a ≤ x) (h₂ : x < a + n) : t.granted rod (x / granBytes) wr = true := by
  simpa using List.find?_eq_none.1 e _ (mem_granSpan h₁ h₂)

/-- A write by a rod goes where the footprint permits the bytes of granted granules. -/
theorem Within.trayWriteAs {rod port a : Nat} {d : List Byte} (w : Within A s t) (h : Foot.tray ⊆ A)
    (ht : A.frees .tray = true) (hb : A.frees .trayBad = true)
    (hp : ∀ x, a ≤ x → x < a + d.length → t.granted rod (x / granBytes) true = true → A.putsTray t x) :
    Within A s (t.trayWriteAs rod port a d).2 := by
  unfold State.trayWriteAs
  split
  · exact w.trayDeny h
  next e => exact w.trayStore h ht hb fun x h₁ h₂ => hp x h₁ h₂ (granted_of_find e h₁ h₂)

theorem Within.trayPut {rod a : Nat} {d : List Byte} (w : Within A s t) (h : Foot.put rod ⊆ A := by simp) :
    Within A s (t.trayPut rod a d) := by
  refine w.step (B := Foot.put rod) ?_ h
  exact (Within.refl _ t).trayWriteAs (by simp) (by simp) (by simp) fun x _ _ hx => ⟨.grant rod, by simp, hx⟩

/-- A write by a rod to the span that the footprint permits. -/
theorem Within.trayPutAt {rod a : Nat} {d : List Byte} (w : Within A s t) (h : Foot.tray ++ [.trayAt a d.length] ⊆ A := by simp) :
    Within A s (t.trayPut rod a d) := by
  refine w.step (B := Foot.tray ++ [.trayAt a d.length]) ?_ h
  exact (Within.refl _ t).trayWriteAs (by simp) (by simp) (by simp) fun x h₁ h₂ _ => ⟨.trayAt a d.length, by simp, h₁, h₂⟩

/-- The keep store takes other bytes where the footprint permits. -/
theorem Within.keepTo {k : Bytes} (w : Within A s t) (hf : A.frees .keep = true)
    (h : ∀ x, ¬ A.putsKeep x → rdByte k x = rdByte t.keep x) : Within A s { t with keep := k } :=
  w.trans
    { get_eq := fun _ _ => rfl
      inf_eq := fun _ _ => rfl
      rest_eq := mask_put (q := .keep) hf { t with keep := k } t
      tray_eq := fun _ _ => rfl
      dram_eq := fun _ _ => rfl
      keep_eq := h }

theorem Within.keepPut {a b n : Nat} {d : List Byte} (w : Within A s t) (h : Perm.keepAt b n ∈ A) (h₁ : b ≤ a)
    (h₂ : a + d.length ≤ b + n) : Within A s (t.keepPut a d) :=
  w.keepTo (List.any_eq_true.2 ⟨_, h, by simp⟩) fun x hx => rdByte_wrBytes_out d t.keep a x (by
    by_contra hc
    exact hx ⟨.keepAt b n, h, by dsimp; omega⟩)

theorem mapGet_filter {κ ν : Type} [DecidableEq κ] {d : ν} {p : κ × ν → Bool} {k : κ} (h : ∀ v, p (k, v) = true) (m : List (κ × ν)) :
    mapGet d (m.filter p) k = mapGet d m k := by
  induction m with
  | nil => rfl
  | cons e m ih =>
    obtain ⟨j, v⟩ := e
    by_cases hp : p (j, v) = true
    · rw [List.filter_cons_of_pos hp]
      simp [mapGet, ih]
    · have hj : j ≠ k := fun e => hp (e ▸ h v)
      rw [List.filter_cons_of_neg hp, ih]
      simp [mapGet, hj]

theorem rdByte_clearBytes_out {m : Bytes} {lo hi x : Nat} (h : x < lo ∨ hi ≤ x) : rdByte (clearBytes m lo hi) x = rdByte m x :=
  mapGet_filter (fun _ => decide_eq_true h) m

theorem Within.keepClear {lo hi b n : Nat} (w : Within A s t) (h : Perm.keepAt b n ∈ A) (h₁ : b ≤ lo) (h₂ : hi ≤ b + n) :
    Within A s { t with keep := clearBytes t.keep lo hi } :=
  w.keepTo (List.any_eq_true.2 ⟨_, h, by simp⟩) fun x hx => rdByte_clearBytes_out (by
    by_contra hc
    exact hx ⟨.keepAt b n, h, by dsimp; omega⟩)

/-! ### DRAM -/

theorem Within.setCwBad {c : Nat} {bad : Bool} (w : Within A s t) (h : A.frees .dramBad = true := by simp) :
    Within A s (t.setCwBad c bad) :=
  .ite (fun _ => w) fun _ => .ite (fun _ => w.put [.dramBad] rfl (h := by simpa using h))
    fun _ => w.put [.dramBad] rfl (h := by simpa using h)

theorem Within.dramPutByte {r off : Nat} {b : Byte} (w : Within A s t) (h : A.region r := by simp) :
    Within A s (t.dramPutByte r off b) := by
  obtain ⟨l, hl, hr⟩ := h
  refine w.step (B := [.regions l]) ?_ (by simpa using hl)
  unfold State.dramPutByte
  split
  case h_1 ch x e =>
    exact
      { get_eq := fun _ _ => rfl
        inf_eq := fun _ _ => rfl
        rest_eq := mask_putAll (l := [.dram, .wrQ]) (by simp) { t with dram := _, wrQ := _ } t
        tray_eq := fun _ _ => rfl
        dram_eq := fun a ha => rdByte_wr_other _ _ fun ea => ha ⟨.regions l, by simp, r, hr, off, by simp [e, ea]⟩
        keep_eq := fun _ _ => rfl }
  case h_2 => exact .refl _ _

theorem Within.dramPut {r off : Nat} {d : List Byte} (w : Within A s t) (h : A.region r := by simp) :
    Within A s (t.dramPut r off d) := by
  obtain ⟨l, hl, hr⟩ := h
  refine w.step (B := [.regions l]) ?_ (by simpa using hl)
  refine Within.foldl (.foldl (.refl _ t) fun u i _ => (Within.refl _ u).dramPutByte (by simp [hr])) fun u k _ => ?_
  refine .ite (fun _ => ?_) fun _ => .refl _ _
  split
  · exact (Within.refl _ u).setCwBad
  · exact .refl _ _

/-! ### From footprints to frames -/

theorem Within.inForce_eq {f : Fld} (w : Within A s t) (hf : ¬ A.forces f) (hw : ¬ A.writes f) : t.inForce f = s.inForce f := by
  unfold State.inForce
  rw [w.get_eq f hw, w.inf_eq f hf]

/-- Whatever a permission lets a change write is among the fields of the frame. -/
theorem Within.keeps {p : Fld → Prop} (w : Within A s t) (h : ∀ q ∈ A, ∀ f, q.writes f ∨ q.forces f → p f) : keeps p s t := by
  intro f hf
  have hw : ¬ A.writes f := fun ⟨q, hq, e⟩ => hf (h q hq f (.inl e))
  exact ⟨w.get_eq f hw, w.inForce_eq (fun ⟨q, hq, e⟩ => hf (h q hq f (.inr e))) hw⟩

theorem Within.keepsBut {p : Fld → Prop} {rods : List Nat} (w : Within A s t) (h : ∀ q ∈ A, ∀ f, q.writes f → p f)
    (h' : ∀ q ∈ A, ∀ f, q.forces f → f.rod ∈ rods) : keepsBut p rods s t := by
  intro f hf
  have hw : ¬ A.writes f := fun ⟨q, hq, e⟩ => hf (h q hq f e)
  exact ⟨w.get_eq f hw, fun hr => w.inForce_eq (fun ⟨q, hq, e⟩ => hr (h' q hq f e)) hw⟩

/-- What the state holds beyond its registers is as before, but for the parts that the footprint frees. -/
theorem Within.beyond_eq (w : Within A s t) (l : List Part) {b : State}
    (h : l.foldr (fun q u => q.put t u) (mask A.frees t) = beyond t := by rfl)
    (h' : l.foldr (fun q u => q.put t u) (mask A.frees s) = b := by rfl) : beyond t = b := by
  rw [← h, w.rest_eq, h']

theorem Within.trayOutside {a n : Nat} (w : Within A s t) (h : ∀ x, A.putsTray s x → a ≤ x ∧ x < a + n) : trayOutside a n s t :=
  fun x hx => w.tray_eq x fun e => by have := h x e; omega

theorem Within.keepOutside {a n : Nat} (w : Within A s t) (h : ∀ x, A.putsKeep x → a ≤ x ∧ x < a + n) : keepOutside a n s t :=
  fun x hx => w.keep_eq x fun e => by have := h x e; omega

theorem Within.trayOf {rods : List Nat} (w : Within A s t)
    (h : ∀ a, A.putsTray s a → ∃ r ∈ rods, s.granted r (a / granBytes) true = true) : trayOf rods s t :=
  fun a ha => w.tray_eq a fun e => by
    obtain ⟨r, hr, hg⟩ := h a e
    exact absurd hg (by simp [ha r hr])

theorem Within.dramOf {l : List Nat} (w : Within A s t)
    (h : ∀ a, A.putsDram s a → ∃ r ∈ l, ∃ off, (s.regionAddr r off).map (fun p => lin p.1 p.2) = some a) : dramOf l s t :=
  fun a ha => w.dram_eq a fun e => by
    obtain ⟨r, hr, off, ho⟩ := h a e
    exact ha r hr off ho

end

end Sys2Proof.Machine

namespace Sys2Proof.Machine

open Sys2Proof.Safety

section

variable {A B : Foot} {s t u : State}

/-- A change of the fields of a list alone. -/
theorem Within.fields {l : List Fld} (w : Within A s t) (h : Within [.flds l] t u) (hl : ∀ f ∈ l, A.writes f := by simp) :
    Within A s u :=
  w.trans
    { get_eq := fun f hf => h.get_eq f (by
        rintro ⟨p, hp, hw⟩
        obtain rfl := List.mem_singleton.1 hp
        obtain ⟨g, hg, e⟩ := List.mem_map.1 (show f.key ∈ l.map Fld.key from hw)
        exact hf (Foot.writes_key e.symm (hl g hg)))
      inf_eq := fun f _ => h.inf_eq f (by simp)
      rest_eq := mask_mono (fun q e => absurd e (by simp)) h.rest_eq
      tray_eq := fun a _ => h.tray_eq a (by simp [Foot.putsTray])
      dram_eq := fun a _ => h.dram_eq a (by simp [Foot.putsDram])
      keep_eq := fun a _ => h.keep_eq a (by simp [Foot.putsKeep]) }

/-! ### Mailboxes and services -/

@[simp] def crossFields (p : Nat) : List Fld := [R.MB_STAT_CROSS (2 * p), R.MB_STAT_CROSS (2 * p + 1)] ++ sources [E.mbCross]

@[simp] def dataFields (m i : Nat) : List Fld := [R.MB_DATA_D m i, R.MB_STAT_COLLIDE m, R.MB_STAT_DIRTY m] ++ sources [E.mbCollide]

@[simp] def postFields (m : Nat) : List Fld :=
  [R.MB_CTRL_LEN m, R.MB_EPOCH_TX_EPOCH m, R.MB_STAT_COLLIDE m, R.MB_STAT_DIRTY m, R.MB_STAT_FULL m, R.MB_STAT_LEN m,
    R.MB_STAT_SEQ m] ++ crossFields (m / 2) ++ sources [E.mbCollide, E.mbPosted (m / 2)]

@[simp] def takenFields (m : Nat) : List Fld := [R.MB_STAT_FULL m, R.MB_STAT_WAIT_ACK m] ++ sources [E.mbTaken (m / 2)]

@[simp] def Foot.reply (p : Nat) : Foot := [.flds (replyFields p)]

theorem Within.mbCrossing {old : State} {p : Nat} (w : Within A s t) (h : ∀ f ∈ crossFields p, A.writes f := by simp) :
    Within A s (t.mbCrossing old p) := by
  refine w.fields (l := crossFields p) (.ite (fun _ => ?_) fun _ => .refl _ _) h
  exact ((Within.refl _ t).set.set).raise

theorem Within.mbCollision {m : Nat} (w : Within A s t)
    (h : ∀ f ∈ R.MB_STAT_COLLIDE m :: sources [E.mbCollide], A.writes f := by simp) : Within A s (t.mbCollision m) := by
  refine w.fields (l := R.MB_STAT_COLLIDE m :: sources [E.mbCollide]) (.ite (fun _ => ?_) fun _ => .refl _ _) h
  exact (Within.refl _ t).set.raise

theorem Within.mbData {m i v : Nat} (w : Within A s t) (h : ∀ f ∈ dataFields m i, A.writes f := by simp) :
    Within A s (t.mbData m i v) := by
  refine w.fields (l := dataFields m i) ?_ h
  exact ((Within.refl _ t).mbCollision.when (Within.refl _ _).set).set

theorem Within.mbPost {m len : Nat} (w : Within A s t) (h : ∀ f ∈ postFields m, A.writes f := by simp) :
    Within A s (t.mbPost m len) := by
  refine w.fields (l := postFields m) ?_ h
  unfold State.mbPost
  extract_lets s1
  have h₁ : Within [.flds (postFields m)] t s1 := (Within.refl _ t).mbCollision.set.set.set.set.set
  exact (h₁.set.raiseIf).mbCrossing

theorem Within.mbTaken {m : Nat} (w : Within A s t) (h : ∀ f ∈ takenFields m, A.writes f := by simp) :
    Within A s (t.mbTaken m) := by
  refine w.fields (l := takenFields m) ?_ h
  exact (Within.refl _ t).set.set.raiseIf

/-- Firmware posts a reply of at most 16 words. -/
theorem Within.reply {p code result token : Nat} {ws : List Nat} (w : Within A s t) (hn : ws.length ≤ 15)
    (h : Foot.reply p ⊆ A := by simp) : Within A s (t.reply p code result token ws) := by
  refine w.step (B := Foot.reply p) ?_ h
  unfold State.reply
  extract_lets l n
  have hl : n ≤ 16 := by simp only [n, l, List.length_cons]; omega
  refine Within.mbPost (.foldl (.refl _ t) fun u i hi => (Within.refl _ u).mbData ?_) ?_
  · have : i < 16 := by have := List.mem_range.1 hi; omega
    simp [replyFields]
    exact .inr this
  · have hp : (2 * p + 1) / 2 = p := by omega
    simp [replyFields, hp]

/-- A service: what it does after it has taken its request, with the reply. -/
theorem Within.serve {p code : Nat} {f : List Nat → State → Nat × List Nat × State} (w : Within A s t)
    (hf : Within A (t.mbTaken (2 * p)) (f (t.mbWords (2 * p)) (t.mbTaken (2 * p))).2.2)
    (hn : (f (t.mbWords (2 * p)) (t.mbTaken (2 * p))).2.1.length ≤ 15) (h : Foot.reply p ⊆ A := by simp) :
    Within A s (t.serve p code f) := by
  have ht : Within A t (t.mbTaken (2 * p)) := (Within.refl A t).step (B := Foot.reply p) ((Within.refl _ t).mbTaken (by simp [replyFields])) h
  unfold State.serve
  dsimp only
  refine w.trans (.ite (fun _ => .refl _ _) fun _ => .ite (fun _ => ht) fun _ => .ite (fun _ => ?_) fun _ =>
    .ite (fun _ => .refl _ _) fun _ => ?_)
  · exact (ht.trans hf).reply hn h
  · exact ht.reply (by simp) h

end

end Sys2Proof.Machine

namespace Sys2Proof.Machine

open Sys2Proof.Safety

section

variable {A B : Foot} {s t u : State}

/-! ### Calibration -/

@[simp] def Foot.cal : Foot := [.flds calFields, .part .trims, .part .cal]

theorem Within.trimTo {kind inst src : Nat} {c : Int} (w : Within A s t) (h : A.frees .trims = true := by simp) :
    Within A s (t.trimTo kind inst c src) :=
  w.put [.trims] rfl (h := by simpa using h)

theorem Within.calEnd {r : Nat} (w : Within A s t) (h : Foot.cal ⊆ A := by simp) : Within A s (t.calEnd r) := by
  refine w.step (B := Foot.cal) ?_ h
  unfold State.calEnd
  split
  · exact .refl _ _
  extract_lets s1 s2 s3 s4
  have h₁ : Within Foot.cal t s1 := (Within.refl _ t).put [.cal] rfl
  have h₂ : Within Foot.cal t s2 := .ite (fun _ => h₁) fun _ => h₁.foldl fun u e _ => (Within.refl _ u).trimTo
  have h₃ : Within Foot.cal t s3 := h₂.sets (by simp [calFields])
  have h₄ : Within Foot.cal t s4 := (h₃.set (by simp [calFields])).raise (by simp [calFields])
  refine .ite (fun _ => h₃.raise (by simp [calFields])) fun _ => .ite (fun _ => ?_) fun _ => h₄
  exact (((h₄.when ((Within.refl _ _).set (by simp [calFields]))).set (by simp [calFields])).inc (by simp [calFields])).raise
    (by simp [calFields])

theorem Within.calGo {routine arg : Nat} {pre : State → Bool} (w : Within A s t)
    (h : .fld R.CAL_EVT_BUSY :: Foot.retire ++ Foot.cal ⊆ A := by simp) : Within A s (t.calGo routine arg pre) := by
  refine w.step (B := .fld R.CAL_EVT_BUSY :: Foot.retire ++ Foot.cal) (.hostToBead (.refl _ _) ?_) h
  refine .ite (fun _ => (Within.refl _ t).set) fun _ => ?_
  extract_lets s1 old
  have h₁ : Within (.fld R.CAL_EVT_BUSY :: Foot.retire ++ Foot.cal) t s1 := (Within.refl _ t).sets (by simp [calFields])
  exact .ite (fun _ => h₁.put [.cal] rfl) fun _ => Within.calEnd (h₁.put [.cal] rfl)

theorem Within.calMove {kind inst : Nat} {c : Int} (w : Within A s t) (h : Foot.cal ⊆ A := by simp) :
    Within A s (t.calMove kind inst c) := by
  refine w.step (B := Foot.cal) (.ite (fun _ => .refl _ _) fun _ => .ite (fun _ => ?_) fun _ => ?_) h
  · exact (Within.refl _ t).trimTo
  · exact (Within.refl _ t).calEnd

theorem Within.calPreempt {l : List (Nat × Nat)} (w : Within A s t) (h : Foot.cal ⊆ A := by simp) :
    Within A s (t.calPreempt l) := by
  unfold State.calPreempt
  split
  · exact .ite (fun _ => w.calEnd h) fun _ => w
  · exact w

@[simp] theorem leBytes_length (n v : Nat) : (leBytes n v).length = n := by
  induction n generalizing v with
  | zero => rfl
  | succ n ih => simp [leBytes, ih]

@[simp] theorem zeros_length (n : Nat) : (zeros n).length = n := by simp [zeros]

@[simp] theorem timeBytes_length (a : Time) : (timeBytes a).length = 12 := by simp [timeBytes]

/-- A set has a header of 64 bytes and 8 bytes a trim. -/
theorem calBytes_length (s : State) (gen : Nat) (l : List Trim) : (s.calBytes gen l).length = 64 + 8 * l.length := by
  have hb : ∀ f : Trim → List Byte, (∀ x, (f x).length = 8) → (l.flatMap f).length = 8 * l.length := by
    intro f hf
    simp [List.length_flatMap, hf, Nat.mul_comm]
  unfold State.calBytes
  simp [hb]
  omega

@[simp] def Foot.calSave (c n : Nat) : Foot :=
  [.keepAt (calBase c) n, .fld R.KEEP_GEN_GEN, .fld R.KEEP_STAT_COPY, .fld R.KEEP_STAT_WRITE_ERR, .src E.keepSaved, .src E.keepWriteErr]

/-- A save writes the copy that is not in use, and as much beyond it as the set needs. -/
theorem Within.calSave {l : List Trim} {readBack : Bool} {n : Nat} (w : Within A s t) (hn : 0x20000 ≤ n)
    (hl : 64 + 8 * l.length ≤ n) (h : Foot.calSave (1 - t.get R.KEEP_STAT_COPY) n ⊆ A := by simp) :
    Within A s (t.calSave l readBack).2 := by
  refine w.step (B := Foot.calSave (1 - t.get R.KEEP_STAT_COPY) n) ?_ h
  unfold State.calSave
  extract_lets c gen s1
  have h₁ : Within (Foot.calSave c n) t s1 := by
    refine Within.keepPut (b := calBase c) (n := n) (.keepClear (.refl _ t) (b := calBase c) (n := n) ?_ le_rfl ?_) ?_ le_rfl ?_
    · simp
    · omega
    · simp
    · rw [calBytes_length]; omega
  exact .iteOn Prod.snd (fun _ => h₁.sets.raise) fun _ => h₁.set.raise

/-- A calibration service, with its reply. -/
theorem Within.calServe {p code : Nat} {f : List Nat → State → Nat × List Nat × State} (w : Within A s t)
    (hf : Within A (t.mbTaken (2 * p)) (f (t.mbWords (2 * p)) (t.mbTaken (2 * p))).2.2)
    (hn : (f (t.mbWords (2 * p)) (t.mbTaken (2 * p))).2.1.length ≤ 15) (h : Foot.reply p ⊆ A := by simp) :
    Within A s (t.calServe p code f) := by
  refine w.serve ?_ ?_ h
  · exact .iteOn (fun r : Nat × List Nat × State => r.2.2) (fun _ => .refl _ _) fun _ => hf
  · split
    · simp
    · exact hn

end

end Sys2Proof.Machine

namespace Sys2Proof.Machine

open Sys2Proof.Safety

section

variable {s t : State}

/-- The footprint of a calibration routine's start. -/
@[simp] def Foot.calGo : Foot := .fld R.CAL_EVT_BUSY :: Foot.retire ++ Foot.cal

theorem within_execTrimWalkStep (h : execTrimWalkStep s = .next t) : Within [.src E.calWalkDone, .part .trims, .part .cal] s t := by
  obtain rfl := Host.Outcome.next.inj h
  refine .ite (fun _ => .refl _ _) fun _ => ?_
  extract_lets s1
  have h₁ : Within [.src E.calWalkDone, .part .trims, .part .cal] s s1 := (Within.refl _ s).put [.trims] rfl
  exact .ite (fun _ => h₁) fun _ => .raise (h₁.put [.cal] rfl)

theorem within_execTrimTargetWrite {v : BitVec 16} (h : execTrimTargetWrite v s = .next t) :
    Within (Foot.retire ++ Foot.range 15 ++ Foot.cal) s t := by
  obtain rfl := Host.Outcome.next.inj h
  refine Within.hostToBead (.refl _ _) (.ite (fun _ => ?_) fun _ => ?_)
  · exact (Within.refl _ s).wrRange
  · exact (Within.refl _ s).calPreempt.trimTo

theorem within_execCalBgr {vref : Bool} (h : execCalBgr vref s = .next t) : Within Foot.calGo s t := by
  obtain rfl := Host.Outcome.next.inj h
  exact .calGo (.refl _ _)

theorem within_execCalXo (h : execCalXo s = .next t) : Within Foot.calGo s t := by
  obtain rfl := Host.Outcome.next.inj h
  exact .calGo (.refl _ _)

theorem within_execCalTs {arg : BitVec 16} (h : execCalTs arg s = .next t) : Within Foot.calGo s t := by
  obtain rfl := Host.Outcome.next.inj h
  exact .calGo (.refl _ _)

theorem within_execCalLane {arg : BitVec 16} (h : execCalLane arg s = .next t) : Within Foot.calGo s t := by
  obtain rfl := Host.Outcome.next.inj h
  exact .calGo (.refl _ _)

theorem within_execCalPll {arg : BitVec 16} (h : execCalPll arg s = .next t) : Within Foot.calGo s t := by
  obtain rfl := Host.Outcome.next.inj h
  exact .calGo (.refl _ _)

theorem within_execCalAbort (h : execCalAbort s = .next t) : Within (Foot.retire ++ Foot.cal) s t := by
  obtain rfl := Host.Outcome.next.inj h
  exact Within.hostToBead (.refl _ _) (.calEnd (.refl _ _))

theorem within_execXoRound {mean : BitVec 32} (h : execXoRound mean s = .next t) : Within Foot.cal s t := by
  obtain rfl := Host.Outcome.next.inj h
  split
  case h_1 r _ =>
    refine .ite (fun _ => .refl _ _) fun _ => .ite (fun _ => ?_) fun _ => .ite (fun _ => .refl _ _) fun _ =>
      .ite (fun _ => .calEnd (.refl _ _)) fun _ => ?_
    · exact (Within.refl _ s).put [.cal] rfl
    · extract_lets s1
      have h₁ : Within Foot.cal s s1 := .calMove (.refl _ _)
      exact h₁.put [.cal] rfl
  case h_2 => exact .refl _ _

theorem within_execCalConverged {codes : List (Fin 7 × BitVec 16 × BitVec 16)} (h : execCalConverged codes s = .next t) :
    Within Foot.cal s t := by
  obtain rfl := Host.Outcome.next.inj h
  split
  · refine .ite (fun _ => .refl _ _) fun _ => ?_
    exact .calEnd (.foldl (.refl _ _) fun u c _ => (Within.refl _ u).calMove)
  · exact .refl _ _

theorem within_execCalRoutineTimeout (h : execCalRoutineTimeout s = .next t) : Within Foot.cal s t := by
  obtain rfl := Host.Outcome.next.inj h
  exact .ite (fun _ => .refl _ _) fun _ => .calEnd (.refl _ _)

theorem within_execCalPrecondLost (h : execCalPrecondLost s = .next t) : Within Foot.cal s t := by
  obtain rfl := Host.Outcome.next.inj h
  exact .ite (fun _ => .refl _ _) fun _ => .calEnd (.refl _ _)

/-! A service works on the state in which its request has been taken: all but the mailbox is as before. -/

@[simp] theorem beyond_mbTaken (m : Nat) : beyond (s.mbTaken m) = beyond s := by simp [State.mbTaken]

@[simp] theorem tray_mbTaken (m : Nat) : (s.mbTaken m).tray = s.tray := (congrArg State.tray (beyond_mbTaken (s := s) m) :)
@[simp] theorem keep_mbTaken (m : Nat) : (s.mbTaken m).keep = s.keep := (congrArg State.keep (beyond_mbTaken (s := s) m) :)
@[simp] theorem trims_mbTaken (m : Nat) : (s.mbTaken m).trims = s.trims := (congrArg State.trims (beyond_mbTaken (s := s) m) :)

/-- Taking a message leaves every field but the mailbox's own and its event as it was. -/
theorem get_mbTaken {m : Nat} {f : Fld} (h : f.rod = 0 ∧ f.id ≠ 5007) : (s.mbTaken m).get f = s.get f :=
  (Within.mbTaken (.refl [.flds (takenFields m)] s)).get_eq f (by simp [h.1, h.2])

theorem keepStatCopy_mbTaken (m : Nat) : (s.mbTaken m).get R.KEEP_STAT_COPY = s.get R.KEEP_STAT_COPY :=
  get_mbTaken (by simp)

@[simp] theorem calCopy_mbTaken (m c : Nat) : (s.mbTaken m).calCopy c = s.calCopy c := by
  simp only [State.calCopy, State.keepRead, keep_mbTaken]

theorem length_ite {c : Prop} [Decidable c] {a b : Nat × List Nat × State} {n : Nat} (ha : a.2.1.length ≤ n) (hb : b.2.1.length ≤ n) :
    (if c then a else b).2.1.length ≤ n := by
  split
  · exact ha
  · exact hb

theorem within_execCalExport {p : Fin 8} (h : execCalExport p s = .next t) :
    Within (Foot.tray ++ [.trayAt (asked s p 1) (s.calCopy (s.get R.KEEP_STAT_COPY)).length] ++ Foot.reply p) s t := by
  obtain rfl := Host.Outcome.next.inj h
  refine Within.calServe (.refl _ _) ?_ ?_
  · dsimp only
    rw [keepStatCopy_mbTaken, calCopy_mbTaken]
    generalize s.calCopy (s.get R.KEEP_STAT_COPY) = l
    exact .iteOn (fun r : Nat × List Nat × State => r.2.2) (fun _ => .refl _ _) fun _ => .trayPutAt (.refl _ _) (by simp [asked])
  · dsimp only
    exact length_ite (by simp) (by simp)

/-- A read that is not answered with an error brings the bytes of the Tray and changes nothing. -/
theorem trayReadAs_ok {rod port a n : Nat} (h : (s.trayReadAs rod port a n).2.1 = 0) :
    s.trayReadAs rod port a n = (s.trayRead a n, 0, s) := by
  unfold State.trayReadAs at h ⊢
  split
  next e => simp [e] at h
  next e =>
    rw [e] at h
    dsimp only at h
    split
    · rfl
    next e' => simp [e'] at h

/-- More bytes of a store begin with the fewer. -/
theorem take_rdBytes (m : Bytes) {a k n : Nat} (h : k ≤ n) : (rdBytes m a n).take k = rdBytes m a k := by
  induction k generalizing a n with
  | zero => rfl
  | succ k ih =>
    obtain ⟨n, rfl⟩ : ∃ j, n = j + 1 := ⟨n - 1, by omega⟩
    simp [rdBytes, ih (a := a + 1) (n := n) (by omega)]

/-- A field of a list is one of its beginning. -/
theorem fieldLE_take (l : List Byte) {a n k : Nat} (h : a + n ≤ k) : fieldLE (l.take k) a n = fieldLE l a n := by
  unfold fieldLE slice
  rw [List.drop_take, List.take_take, min_eq_left (by omega)]

@[simp] theorem calEntries_length (l : List Byte) : (calEntries l).length = fieldLE l 6 2 := by simp [calEntries]

/-- A set that may be imported has a whole header. -/
theorem length_of_calImportCode {l : List Byte} (h : s.calImportCode l = 0) : 64 ≤ l.length := by
  by_contra hl
  have : l.length < 64 := by omega
  unfold State.calImportCode at h
  simp [this] at h

/-- The footprint of an import: the copy not in use, as far as the set needs, and the trims. -/
@[simp] def Foot.calImport (s : State) (p : Nat) : Foot :=
  Foot.calSave (1 - s.get R.KEEP_STAT_COPY) (max 0x20000 (64 + 8 * fieldLE (s.trayRead (asked s p 1) 8) 6 2)) ++
    [.part .trims, .src E.keepImportRefused] ++ Foot.tray ++ Foot.reply p

theorem within_execCalImport {p : Fin 8} {readBack : Bool} (h : execCalImport p readBack s = .next t) :
    Within (Foot.calImport s p) s t := by
  obtain rfl := Host.Outcome.next.inj h
  refine Within.calServe (.refl _ _) ?_ ?_
  · dsimp only
    generalize hu : s.mbTaken (2 * p.val) = u
    have hc : u.get R.KEEP_STAT_COPY = s.get R.KEEP_STAT_COPY := hu ▸ keepStatCopy_mbTaken _
    have ht : u.trayRead (asked s p 1) 8 = s.trayRead (asked s p 1) 8 := by simp [State.trayRead, ← hu]
    change Within _ _ (if _ then _ else _ : Nat × List Nat × State).2.2
    refine .iteOn (fun r : Nat × List Nat × State => r.2.2) (fun _ => .refl _ _) fun _ => ?_
    generalize hr : u.trayReadAs 0 (rodPort 0) ((s.mbWords (2 * p.val)).getD 1 0) ((s.mbWords (2 * p.val)).getD 2 0) = r
    have h₀ : Within (Foot.calImport s p) u r.2.2 := hr ▸ .trayReadAs (.refl _ _)
    refine .iteOn (fun r : Nat × List Nat × State => r.2.2) (fun _ => h₀.raise) fun hcode => ?_
    have hok : r.2.1 = 0 := by
      by_contra hne
      simp [hne] at hcode
    have hcode' : r.2.2.calImportCode r.1 = 0 := by simpa [hok] using hcode
    obtain rfl := hr.symm.trans (trayReadAs_ok (hr ▸ hok))
    have hlen := length_of_calImportCode hcode'
    dsimp only at hlen hcode' ⊢
    have hn : fieldLE (u.trayRead ((s.mbWords (2 * p.val)).getD 1 0) ((s.mbWords (2 * p.val)).getD 2 0)) 6 2 =
        fieldLE (s.trayRead (asked s p 1) 8) 6 2 := by
      rw [← ht, ← fieldLE_take _ (k := 8) (by omega)]
      exact congrArg (fieldLE · 6 2) (take_rdBytes _ (by simpa [State.trayRead] using hlen.trans' (by omega)))
    generalize u.trayRead ((s.mbWords (2 * p.val)).getD 1 0) ((s.mbWords (2 * p.val)).getD 2 0) = l at hn
    have h₁ : Within (Foot.calImport s p) u (u.calSave (calEntries l) readBack).2 :=
      .calSave (.refl _ _) (n := max 0x20000 (64 + 8 * fieldLE (s.trayRead (asked s p 1) 8) 6 2)) (by omega)
        (by rw [calEntries_length, hn]; omega) (by rw [hc]; simp)
    refine .iteOn (fun r : Nat × List Nat × State => r.2.2) (fun _ => h₁.raise) fun _ => ?_
    exact (h₁.foldl fun v e _ => (Within.refl _ v).trimTo).foldl fun v e _ => (Within.refl _ v).trimTo
  · exact length_ite (by simp) (length_ite (by simp) (length_ite (by simp) (by simp)))

theorem within_execCalSave {p : Fin 8} {readBack : Bool} (h : execCalSave p readBack s = .next t) :
    Within (Foot.calSave (1 - s.get R.KEEP_STAT_COPY) (max 0x20000 (64 + 8 * s.trims.length)) ++ Foot.reply p) s t := by
  obtain rfl := Host.Outcome.next.inj h
  refine Within.calServe (.refl _ _) ?_ (by simp)
  exact .calSave (.refl _ _) (n := max 0x20000 (64 + 8 * s.trims.length)) (by omega) (by simp)
    (by rw [keepStatCopy_mbTaken]; simp)

theorem within_execUserRead {p : Fin 8} (h : execUserRead p s = .next t) :
    Within (Foot.tray ++ [.trayAt (asked s p 1) (asked s p 3)] ++ Foot.reply p) s t := by
  obtain rfl := Host.Outcome.next.inj h
  refine Within.calServe (.refl _ _) ?_ ?_
  · refine .iteOn (fun r : Nat × List Nat × State => r.2.2) (fun _ => .refl _ _) fun _ =>
      .iteOn (fun r : Nat × List Nat × State => r.2.2) (fun _ => .refl _ _) fun _ => .trayPutAt (.refl _ _) (by simp [asked, State.keepRead])
  · exact length_ite (by simp) (length_ite (by simp) (by simp))

theorem trayReadAs_length {rod port a n : Nat} : (s.trayReadAs rod port a n).1.length ≤ n := by
  unfold State.trayReadAs
  split
  · simp
  · split <;> simp [State.trayRead, State.poisonRead]

theorem within_execUserWrite {p : Fin 8} {readBack : Bool} (h : execUserWrite p readBack s = .next t) :
    Within ([.keepAt (userBase + asked s p 2) (asked s p 3), .fld R.KEEP_STAT_WRITE_ERR, .src E.keepWriteErr] ++ Foot.tray ++
      Foot.reply p) s t := by
  obtain rfl := Host.Outcome.next.inj h
  refine Within.calServe (.refl _ _) ?_ ?_
  · refine .iteOn (fun r : Nat × List Nat × State => r.2.2) (fun _ => .refl _ _) fun _ =>
      .iteOn (fun r : Nat × List Nat × State => r.2.2) (fun _ => .refl _ _) fun _ => ?_
    extract_lets r s1
    have hr : Within ([.keepAt (userBase + asked s p 2) (asked s p 3), .fld R.KEEP_STAT_WRITE_ERR, .src E.keepWriteErr] ++
        Foot.tray ++ Foot.reply p) (s.mbTaken (2 * p)) r.2.2 := .trayReadAs (.refl _ _)
    refine .iteOn (fun r : Nat × List Nat × State => r.2.2) (fun _ => hr) fun _ => ?_
    have h₁ := hr.keepPut (b := userBase + asked s p 2) (n := asked s p 3) (a := userBase + asked s p 2) (d := r.1) (by simp) le_rfl
      (Nat.add_le_add_left trayReadAs_length _)
    exact .iteOn (fun r : Nat × List Nat × State => r.2.2) (fun _ => h₁) fun _ => h₁.set.raise
  · exact length_ite (by simp) (length_ite (by simp) (length_ite (by simp) (length_ite (by simp) (by simp))))

end

end Sys2Proof.Machine

namespace Sys2Proof.Machine

open Sys2Proof.Safety

/-- Settles O58: each command's frame is read off its footprint. -/
theorem calibrationFrame : Obligations.CalibrationFrame := by
  unfold Obligations.CalibrationFrame
  refine ⟨?trimWalkStep, ?trimTargetWrite, ?calBgr, ?calXo, ?calTs, ?calLane, ?calPll, ?calAbort, ?xoRound, ?calConverged,
    ?calRoutineTimeout, ?calPrecondLost, ?calExport, ?calImport, ?calSave, ?userRead, ?userWrite⟩
  case trimWalkStep =>
    intro s t h
    have w := within_execTrimWalkStep h
    exact ⟨w.keeps (by simp +contextual), w.beyond_eq [.trims, .cal]⟩
  case trimTargetWrite =>
    intro v s t h
    have w := within_execTrimTargetWrite h
    exact ⟨w.keeps (by simp +contextual), w.beyond_eq [.trims, .cal]⟩
  case calBgr =>
    intro vref s t h
    have w := within_execCalBgr h
    exact ⟨w.keeps (by simp +contextual), w.beyond_eq [.trims, .cal]⟩
  case calXo =>
    intro s t h
    have w := within_execCalXo h
    exact ⟨w.keeps (by simp +contextual), w.beyond_eq [.trims, .cal]⟩
  case calTs =>
    intro arg s t h
    have w := within_execCalTs h
    exact ⟨w.keeps (by simp +contextual), w.beyond_eq [.trims, .cal]⟩
  case calLane =>
    intro arg s t h
    have w := within_execCalLane h
    exact ⟨w.keeps (by simp +contextual), w.beyond_eq [.trims, .cal]⟩
  case calPll =>
    intro arg s t h
    have w := within_execCalPll h
    exact ⟨w.keeps (by simp +contextual), w.beyond_eq [.trims, .cal]⟩
  case calAbort =>
    intro s t h
    have w := within_execCalAbort h
    exact ⟨w.keeps (by simp +contextual), w.beyond_eq [.trims, .cal]⟩
  case xoRound =>
    intro mean s t h
    have w := within_execXoRound h
    exact ⟨w.keeps (by simp +contextual), w.beyond_eq [.trims, .cal]⟩
  case calConverged =>
    intro codes s t h
    have w := within_execCalConverged h
    exact ⟨w.keeps (by simp +contextual), w.beyond_eq [.trims, .cal]⟩
  case calRoutineTimeout =>
    intro s t h
    have w := within_execCalRoutineTimeout h
    exact ⟨w.keeps (by simp +contextual), w.beyond_eq [.trims, .cal]⟩
  case calPrecondLost =>
    intro s t h
    have w := within_execCalPrecondLost h
    exact ⟨w.keeps (by simp +contextual), w.beyond_eq [.trims, .cal]⟩
  case calExport =>
    intro p s t h
    have w := within_execCalExport h
    exact ⟨w.keeps (by simp +contextual), w.beyond_eq [.trayBad, .tray],
      w.trayOutside (by simp [Foot.putsTray])⟩
  case calImport =>
    intro p readBack s t h
    have w := within_execCalImport h
    exact ⟨w.keeps (by simp +contextual), w.beyond_eq [.keep, .trims],
      w.keepOutside (by simp [Foot.putsKeep])⟩
  case calSave =>
    intro p readBack s t h
    have w := within_execCalSave h
    exact ⟨w.keeps (by simp +contextual), w.beyond_eq [.keep],
      w.keepOutside (by simp [Foot.putsKeep])⟩
  case userRead =>
    intro p s t h
    have w := within_execUserRead h
    exact ⟨w.keeps (by simp +contextual), w.beyond_eq [.trayBad, .tray],
      w.trayOutside (by simp [Foot.putsTray])⟩
  case userWrite =>
    intro p readBack s t h
    have w := within_execUserWrite h
    exact ⟨w.keeps (by simp +contextual), w.beyond_eq [.keep],
      w.keepOutside (by simp [Foot.putsKeep])⟩

end Sys2Proof.Machine

namespace Sys2Proof.Machine

open Sys2Proof.Safety

section

variable {A B : Foot} {s t u : State}

/-! ### Agents, doorbells and logs -/

@[simp] def Foot.agent (a : Nat) : Foot := [.flds (agentFields a)]

theorem Within.agentReset {a : Nat} (w : Within A s t) (h : Foot.agent a ⊆ A := by simp) : Within A s (t.agentReset a) := by
  refine w.step (B := Foot.agent a) ?_ h
  have hm : ∀ m ∈ List.range 32, ∀ f ∈ (if mbReceiver m = a then [R.MB_STAT_RX_RESET_SEEN m]
      else if mbSender m = a then R.MB_CTRL_LEN m :: (List.range 16).map (R.MB_DATA_D m) else []),
      Foot.writes (Foot.agent a) f := fun m hm f hf =>
    ⟨_, List.mem_singleton_self _, List.mem_map_of_mem (List.mem_cons_of_mem _ (List.mem_append_left _ (List.mem_flatMap.2 ⟨m, hm, hf⟩)))⟩
  refine Within.foldl (.set (.refl _ t) (by simp [agentFields])) fun u m hmem => ?_
  specialize hm m hmem
  refine .ite (fun hr => .ite (fun _ => ?_) fun _ => .refl _ _) fun hr => .ite (fun hs => ?_) fun _ => .refl _ _
  · rw [if_pos hr] at hm
    exact ((Within.refl _ u).set (hm _ (by simp))).raise (by simp [agentFields])
  · rw [if_neg hr, if_pos hs.1] at hm
    exact (Within.foldl (.refl _ u) fun v i hi => (Within.refl _ v).set (hm _ (List.mem_cons_of_mem _ (List.mem_map_of_mem hi)))).set
      (hm _ (by simp))

/-- The fields of the MSI-X table. -/
def tableFields : List Fld := (List.range 64).flatMap (fun v => (List.range 4).map (I.MSIX_TAB v))

@[simp] def Foot.hep : Foot :=
  [.fld R.BAR4_GRAN, .fld R.HEP_STAT_RETIRED_CNT, .fld I.HEP_LINK, .fld I.HEP_MSIX, .flds tableFields] ++ Foot.agent 0

/-- Fields take their reset values. -/
theorem Within.resets {l : List Fld} (w : Within A s t) (h : ∀ f ∈ l, A.writes f) :
    Within A s (l.foldl (fun (s : State) f => s.set f f.rst) t) :=
  w.foldl fun u f hf => .set (.refl _ u) (h f hf)

theorem within_hepFields (t : State) : Within Foot.hep t (([R.BAR4_GRAN, R.HEP_STAT_RETIRED_CNT, I.HEP_LINK, I.HEP_MSIX] ++
    (List.range 64).flatMap (fun v => (List.range 4).map (I.MSIX_TAB v))).foldl (fun (s : State) f => s.set f f.rst) t) :=
  .resets (.refl _ t) (List.forall_mem_append.2 ⟨by simp, fun f hf => ⟨.flds tableFields, by simp, List.mem_map_of_mem hf⟩⟩)

theorem Within.noPending (w : Within A s t) : Within A s { t with pba := [] } := w.loose rfl

theorem within_hepReset (t : State) : Within Foot.hep t t.hepReset := by
  unfold State.hepReset
  extract_lets s1
  have h₁ : Within Foot.hep t s1 := within_hepFields t
  exact .agentReset h₁.noPending

theorem Within.ring {a h v : Nat} (w : Within A s t) (hA : ∀ f ∈ R.DB_STAT_B a h :: sources [E.doorbell], A.writes f := by simp) :
    Within A s (t.ring a h v) := by
  refine w.fields (l := R.DB_STAT_B a h :: sources [E.doorbell]) ?_ hA
  exact (Within.refl _ t).set.raiseIf

theorem Within.clogWrite {r : ClogRec} (w : Within A s t)
    (h : .fld R.CLOG_SEQ_NEXT_SEQ :: [.regions (t.strg.clogRegion.toList.map (fun g => g.region))] ⊆ A := by simp) :
    Within A s (t.clogWrite r) := by
  have hq : Perm.fld R.CLOG_SEQ_NEXT_SEQ ∈ A := h (by simp)
  unfold State.clogWrite
  extract_lets q s1
  have h₁ : Within A s s1 := w.set ⟨_, hq, rfl⟩
  split
  next g hg => exact h₁.dramPut ⟨t.strg.clogRegion.toList.map (fun g => g.region), h (by simp), by simp [hg]⟩
  next => exact h₁

end

section

variable {s t : State}

theorem within_execCoreWatchdog {k : Fin 4} (h : execCoreWatchdog k s = .next t) :
    Within (Foot.agent (1 + k.val) ++ [.src (E.coreRestart k)]) s t := by
  obtain rfl := Host.Outcome.next.inj h
  exact (Within.agentReset (.refl _ s)).raise

theorem within_execHepReset (h : execHepReset s = .next t) : Within Foot.hep s t := by
  obtain rfl := Host.Outcome.next.inj h
  exact within_hepReset s

theorem within_execMsixEnable (h : execMsixEnable s = .next t) : Within [.fld I.HEP_LINK, .fld I.HEP_MSIX] s t := by
  obtain rfl := Host.Outcome.next.inj h
  exact (Within.refl _ s).set.set.foldl fun u v _ => .ite (fun _ => .msix (.refl _ u)) fun _ => .refl _ _

theorem within_execMbDataWrite {agent : Fin 6} {m : Fin 32} {i : Fin 16} {v : BitVec 32}
    (h : execMbDataWrite agent m i v s = .next t) : Within ((dataFields m i).map .fld) s t := by
  obtain rfl := Host.Outcome.next.inj h
  exact .ite (fun _ => .refl _ _) fun _ => .mbData (.refl _ _)

theorem within_execMbGo {agent : Fin 6} {m : Fin 32} {len : BitVec 5} {arm : Bool} (h : execMbGo agent m len arm s = .next t) :
    Within (.fld (R.MB_STAT_WAIT_ACK m) :: (postFields m).map .fld ++ Foot.range 0) s t := by
  obtain rfl := Host.Outcome.next.inj h
  refine .ite (fun _ => .refl _ _) fun _ => .ite (fun _ => .wrRange (.refl _ _)) fun _ => ?_
  exact .mbCrossing (.mbPost (.when (.refl _ _) (.set (.refl _ _))))

theorem within_execMbArmWait {agent : Fin 6} {m : Fin 32} {len : BitVec 5} (h : execMbArmWait agent m len s = .next t) :
    Within (.fld (R.MB_CTRL_LEN m) :: .fld (R.MB_STAT_WAIT_ACK m) :: (crossFields (m / 2)).map .fld ++ Foot.range 0) s t := by
  obtain rfl := Host.Outcome.next.inj h
  refine .ite (fun _ => .refl _ _) fun _ => .ite (fun _ => .wrRange (.refl _ _)) fun _ => ?_
  exact .mbCrossing (.set (.set (.refl _ _)))

theorem within_execMbTake {agent : Fin 6} {m : Fin 32} (h : execMbTake agent m s = .next t) :
    Within ((takenFields m).map .fld) s t := by
  obtain rfl := Host.Outcome.next.inj h
  extract_lets mine s1
  have h₁ : Within ((takenFields m).map .fld) s s1 := .ite (fun _ => .mbTaken (.refl _ _)) fun _ => .refl _ _
  exact .ite (fun _ => h₁.emit) fun _ => h₁

theorem within_execDbSet {agent a : Fin 6} {hi : Bool} {v : BitVec 32} (h : execDbSet agent a hi v s = .next t) :
    Within [.fld (R.DB_STAT_B a (ofBool hi)), .src E.doorbell] s t := by
  obtain rfl := Host.Outcome.next.inj h
  exact .ite (fun _ => .refl _ _) fun _ => .ring (.refl _ _)

theorem within_execDbClear {agent a : Fin 6} {hi : Bool} {v : BitVec 32} (h : execDbClear agent a hi v s = .next t) :
    Within [.fld (R.DB_STAT_B a (ofBool hi))] s t := by
  obtain rfl := Host.Outcome.next.inj h
  exact .ite (fun _ => .refl _ _) fun _ => .set (.refl _ _)

theorem within_execEcho {p : Fin 8} (h : execEcho p s = .next t) : Within (Foot.reply p) s t := by
  obtain rfl := Host.Outcome.next.inj h
  exact Within.serve (.refl _ _) (.refl _ _) (by simp)

theorem within_execNetTx {p : Fin 8} (h : execNetTx p s = .next t) : Within (Foot.tray ++ Foot.reply p) s t := by
  obtain rfl := Host.Outcome.next.inj h
  refine Within.serve (.refl _ _) ?_ ?_
  · refine .iteOn (fun r : Nat × List Nat × State => r.2.2) (fun _ => .refl _ _) fun _ => ?_
    have hr : Within (Foot.tray ++ Foot.reply p) (s.mbTaken (2 * p)) ((s.mbTaken (2 * p)).trayReadAs 0 (rodPort 0)
        ((s.mbWords (2 * p)).getD 2 0) ((s.mbWords (2 * p)).getD 3 0)).2.2 := .trayReadAs (.refl _ _)
    refine .iteOn (fun r : Nat × List Nat × State => r.2.2) (fun _ => hr) fun _ => ?_
    dsimp only
    exact hr.when (.emit (.refl _ _))
  · exact length_ite (by simp) (length_ite (by simp) (by simp))

theorem within_execNetRx {p : Fin 8} (h : execNetRx p s = .next t) : Within (.part .rings :: Foot.reply p) s t := by
  obtain rfl := Host.Outcome.next.inj h
  refine Within.serve (.refl _ _) ?_ ?_
  · refine .iteOn (fun r : Nat × List Nat × State => r.2.2) (fun _ => .refl _ _) fun _ => ?_
    exact (Within.refl _ _).put [.rings] rfl
  · exact length_ite (by simp) (by simp)

theorem within_execFaultHistoryWrite (h : execFaultHistoryWrite s = .next t) :
    Within [.keepAt (keepFault + 16 * s.get R.FH_HEAD_NEXT) 16, .fld R.FH_HEAD_NEXT] s t := by
  obtain rfl := Host.Outcome.next.inj h
  split
  case h_1 => exact .refl _ _
  case h_2 e rest _ =>
    exact .set (.keepPut (b := keepFault + 16 * s.get R.FH_HEAD_NEXT) (n := 16) (.loose (.refl _ s) rfl) (by simp) le_rfl (by simp))

theorem within_execClogRecord {rod : Fin 16} (h : execClogRecord rod s = .next t) :
    Within ([.fld (I.CLOG_DROPPED rod), .fld R.CLOG_SEQ_NEXT_SEQ, .part .clogQ,
      .regions (s.strg.clogRegion.toList.map (fun g => g.region))]) s t := by
  obtain rfl := Host.Outcome.next.inj h
  split
  case h_1 => exact .refl _ _
  case h_2 r _ =>
    have h₁ : Within ([.fld (I.CLOG_DROPPED rod), .fld R.CLOG_SEQ_NEXT_SEQ, .part .clogQ,
        .regions (s.strg.clogRegion.toList.map (fun g => g.region))]) s (({ s with clogQ := s.clogQ.erase r } : State).clogWrite r) :=
      .clogWrite ((Within.refl _ s).put [.clogQ] rfl)
    exact .ite (fun _ => h₁) fun _ => .set (h₁.put [.clogQ] rfl)

/-- Settles O55: each command's frame is read off its footprint. -/
theorem mailFrame : Obligations.MailFrame := by
  unfold Obligations.MailFrame
  refine ⟨?coreWatchdog, ?hepReset, ?msixEnable, ?mbDataWrite, ?mbGo, ?mbArmWait, ?mbTake, ?dbSet, ?dbClear, ?echo, ?netTx,
    ?netRx, ?faultHistoryWrite, ?clogRecord⟩
  case coreWatchdog =>
    intro k s t h
    have w := within_execCoreWatchdog h
    exact ⟨w.keeps (by simp +contextual), w.beyond_eq []⟩
  case hepReset =>
    intro s t h
    have w := within_execHepReset h
    exact ⟨w.keeps (by simp +contextual [tableFields]), w.beyond_eq []⟩
  case msixEnable =>
    intro s t h
    have w := within_execMsixEnable h
    exact ⟨w.keeps (by simp +contextual), w.beyond_eq []⟩
  case mbDataWrite =>
    intro agent m n v s t h
    have w := within_execMbDataWrite h
    exact ⟨w.keeps (by simp +contextual), w.beyond_eq []⟩
  case mbGo =>
    intro agent m len arm s t h
    have w := within_execMbGo h
    exact ⟨w.keeps (by simp +contextual), w.beyond_eq []⟩
  case mbArmWait =>
    intro agent m len s t h
    have w := within_execMbArmWait h
    exact ⟨w.keeps (by simp +contextual), w.beyond_eq []⟩
  case mbTake =>
    intro agent m s t h
    have w := within_execMbTake h
    exact ⟨w.keeps (by simp +contextual), w.beyond_eq []⟩
  case dbSet =>
    intro agent a hi v s t h
    have w := within_execDbSet h
    exact ⟨w.keeps (by simp +contextual), w.beyond_eq []⟩
  case dbClear =>
    intro agent a hi v s t h
    have w := within_execDbClear h
    exact ⟨w.keeps (by simp +contextual), w.beyond_eq []⟩
  case echo =>
    intro p s t h
    have w := within_execEcho h
    exact ⟨w.keeps (by simp +contextual), w.beyond_eq []⟩
  case netTx =>
    intro p s t h
    have w := within_execNetTx h
    exact ⟨w.keeps (by simp +contextual), w.beyond_eq []⟩
  case netRx =>
    intro p s t h
    have w := within_execNetRx h
    exact ⟨w.keeps (by simp +contextual), w.beyond_eq [.rings]⟩
  case faultHistoryWrite =>
    intro s t h
    have w := within_execFaultHistoryWrite h
    exact ⟨w.keeps (by simp +contextual), w.beyond_eq [.keep], w.keepOutside (by simp [Foot.putsKeep])⟩
  case clogRecord =>
    intro rod s t h
    have w := within_execClogRecord h
    exact ⟨w.keeps (by simp +contextual), w.beyond_eq [.dram, .dramBad, .wrQ, .clogQ], w.dramOf (by simp [Foot.putsDram])⟩

end

end Sys2Proof.Machine

/-!
Commits within their footprints.
-/

namespace Sys2Proof.Machine

open Sys2Proof.Safety

theorem mapGet_over_other {κ ν : Type} [DecidableEq κ] {lt : κ → κ → Bool} {d : ν} {src base : List (κ × ν)} {k : κ}
    (h : ∀ e ∈ src, e.1 ≠ k) : mapGet d (mapOver lt src base) k = mapGet d base k := by
  induction src with
  | nil => rfl
  | cons e src ih =>
    have he : k ≠ e.1 := fun x => h e (by simp) x.symm
    calc mapGet d (mapOver lt (e :: src) base) k
        = mapGet d (mapErase (mapOver lt src base) e.1) k := mapGet_ins_other _ _ he
      _ = mapGet d (mapOver lt src base) k := mapGet_erase_other _ he
      _ = mapGet d base k := ih fun x hx => h x (by simp [hx])

section

variable {A B : Foot} {s t u : State}

/-! ### Commits -/

/-- The fields that the condition does not pick keep their values in force. -/
theorem inf_commitWhere {p : Key → Bool} {k : Key} {d : Nat} (h : p k = false) (s : State) :
    mapGet d (s.commitWhere p).inf k = mapGet d s.inf k := by
  refine (mapGet_over_other fun e he hk => ?_).trans (mapGet_filter (by simp [h]) s.inf)
  have := (List.mem_filter.1 he).2
  simp [hk, h] at this

theorem Within.commitWhere {p : Key → Bool} (w : Within A s t) (h : ∀ f : Fld, p f.key = true → A.forces f) :
    Within A s (t.commitWhere p) :=
  w.trans
    { get_eq := fun _ _ => rfl
      inf_eq := fun f hf => inf_commitWhere (by simpa using mt (h f) hf) t
      rest_eq := mask_of_beyond (beyond_commitWhere t p)
      tray_eq := fun _ _ => rfl
      dram_eq := fun _ _ => rfl
      keep_eq := fun _ _ => rfl }

theorem Within.commitDom {rod d : Nat} (w : Within A s t) (h : A.sets rod := by simp) : Within A s (t.commitDom rod d) :=
  w.commitWhere fun f hf => h f (by
    simp only [inDom, Bool.and_eq_true, decide_eq_true_eq] at hf
    exact hf.1)

theorem Within.clearPend {rod d : Nat} (w : Within A s t) (h : A.writes (R.COMMIT_PEND rod) := by simp) :
    Within A s (t.clearPend rod d) := w.set h

theorem Within.commitBad {rod d rule : Nat} (w : Within A s t) (h : Perm.flds (commitFields rod) ∈ A := by simp) :
    Within A s (t.commitBad rod d rule) := by
  refine w.step (B := [.flds (commitFields rod)]) ?_ (by simpa using h)
  unfold State.commitBad
  extract_lets s1
  have h₁ : Within [.flds (commitFields rod)] t s1 := .ite (fun _ => .refl _ _) fun _ =>
    (((Within.refl _ t).set (by simp [commitFields])).set (by simp [commitFields])).set (by simp [commitFields])
  exact (h₁.inc (by simp [commitFields])).raise (by simp [commitFields])

@[simp] theorem Foot.sets_commit {rod : Nat} : Foot.sets (Foot.commit rod) rod := fun f hf => by simp [hf]

theorem Within.tryCommit {rod d : Nat} {rules : List (Nat × Bool)} (w : Within A s t) (h : Foot.commit rod ⊆ A := by simp) :
    Within A s (t.tryCommit rod d rules).1 := by
  refine w.step (B := Foot.commit rod) ?_ h
  have h₁ : Within (Foot.commit rod) t (t.clearPend rod d) := (Within.refl _ t).clearPend (by simp [commitFields])
  unfold State.tryCommit
  split
  · exact h₁.commitBad
  · exact h₁.commitDom Foot.sets_commit

theorem Within.commitAt {rod d : Nat} {rules : State → (Fld → Nat) → Nat → List (Nat × Bool)} (w : Within A s t)
    (h : Foot.commit rod ⊆ A := by simp) : Within A s (t.commitAt rod d rules) :=
  .ite (fun _ => w.tryCommit h) fun _ => w

end

end Sys2Proof.Machine

namespace Sys2Proof.Machine
open Sys2Proof.Safety

/-! ### Frames that do not hold -/

/-- Stream 0 is on, flow 2080 sends it, and NET's 64 carry-log places are taken. -/
def fullNetLog : State :=
  { State.reset with
    regs := [((I.PROXY 12).key, 0), ((I.PROXY 13).key, 0)], inf := [((R.AS_CFG_EN 0).key, 1)], tray := [(64 * 2080, 4)],
    clogQ := List.replicate 64 ⟨12, 0, 9, 0, 0, 0, 0, 0⟩ }

/-- Refutes O53: a stream block begins a picture of a flow of NET, whose begin record finds no place. The loss is counted in NET's
field, and the frame names AUD's. -/
theorem not_audioFrame : ¬ Obligations.AudioFrame := by
  unfold Obligations.AudioFrame
  rintro ⟨-, -, -, -, -, -, -, -, -, -, -, audStreamBlock⟩
  obtain ⟨kept, -⟩ := audStreamBlock 0 fullNetLog _ rfl
  have outside : ¬ among ([R.FLOW_BAD_BAD, R.FLOW_BAD_FLOW, R.FLOW_BAD_RULE] ++ sources [E.flowBad] ++ trayFields ++
      recordFields 13 ++ commitFields 13) (I.CLOG_DROPPED 12) := by
    simp [trayFields, recordFields, commitFields]
  exact absurd (kept _ outside).1 (by decide +kernel)

/-- Receive flow 2080 names source 2, which is no decoder. -/
def strayFlow : State :=
  { State.reset with
    regs := [((I.PROXY 10).key, 0), ((I.PROXY 12).key, 0), ((R.MAC_STAT_LINK 0).key, 1)],
    tray := [(64 * 2080, 1), (64 * 2080 + 1, 0x80), (64 * 2080 + 0x20, 2)] }

/-- Refutes O52: the entry in force names the decoder by a byte, and the access unit's end moves the offset of the block that this
byte names. -/
theorem not_networkFrame : ¬ Obligations.NetworkFrame := by
  unfold Obligations.NetworkFrame
  rintro ⟨-, -, -, -, -, -, -, -, -, -, -, -, -, -, -, -, -, -, -, -, -, rtpRxPacket, -⟩
  obtain ⟨kept, -⟩ := rtpRxPacket 0 ⟨0, 0, 0, 0, true, false, [0]⟩ strayFlow _ rfl
  have outside : ¬ among ([R.DEC_IN_WR_OFF 0, R.DEC_IN_WR_OFF 1, R.PKT_STAT_RX_AP (0 : Fin 4).val, R.PKT_STAT_RX_LOST (0 : Fin 4).val] ++
      sources [E.pktRxLost (0 : Fin 4)]) (R.DEC_IN_WR_OFF 2) := by
    simp
  exact absurd (kept _ outside).1 (by decide +kernel)

end Sys2Proof.Machine

namespace Sys2Proof.Machine
open Sys2Proof.Safety

/-! ### A report longer than its slot -/

/-- The nonce stands at byte 240 of a report. -/
theorem nonce_in_report (s : State) (nonce : List Byte) (leaf : Nat) :
    ∃ front : List Byte, front.length = 240 ∧ front ++ nonce <+: s.report nonce leaf := by
  unfold State.report
  generalize sha384 _ = dig
  suffices h : ∃ front : List Byte, front.length = 240 ∧ front ++ nonce <+: s.reportBody nonce leaf by
    obtain ⟨front, hl, hp⟩ := h
    refine ⟨front, hl, hp.trans ?_⟩
    simp only [List.append_assoc]
    exact List.prefix_append ..
  unfold State.reportBody
  refine ⟨?front, ?len, ?pre⟩
  case pre =>
    iterate 5 refine List.prefix_append_of_prefix ?_
    exact List.prefix_rfl
  case len => simp [Function.comp_def, zeros]

/-- A report is as long as its nonce and 3348 bytes. -/
theorem length_report (s : State) (nonce : List Byte) (leaf : Nat) : (s.report nonce leaf).length = nonce.length + 3348 := by
  unfold State.report State.reportBody
  generalize sha384 _ = dig
  simp [Function.comp_def, zeros, timeBytes, beBytes, State.keepRead, linkLen, Fuses.lmsSign]
  omega

theorem trayStore_of_sound {s : State} (h : s.trayBad = []) (a : Nat) (d : List Byte) :
    s.trayStore a d = { s with tray := wrBytes s.tray a d, trayBad := [] } := by
  simp [State.trayStore, State.badWords, h]

/-- The 4 MiB that SEC may reach before the first image. -/
theorem secVisible_open {s : State} {a n : Nat} (hs : s.strung = false) (h : a + n ≤ 64 * granBytes) :
    s.secVisible a n = true := by
  simp only [granBytes] at h
  simp only [State.secVisible, hs, Bool.and_eq_true, List.all_eq_true, granSpan, granBytes]
  refine ⟨decide_eq_true (show a + n ≤ 67108864 by omega), fun g hg => ?_⟩
  split at hg
  · simp at hg
  · simp only [List.mem_map, List.mem_range] at hg
    obtain ⟨i, hi, rfl⟩ := hg
    simp; omega

theorem secWrite_open {s : State} {a : Nat} {d : List Byte} (hs : s.strung = false) (hb : s.trayBad = [])
    (h : a + d.length ≤ 64 * granBytes) : (s.secWrite a d).2 = { s with tray := wrBytes s.tray a d, trayBad := [] } := by
  simp [State.secWrite, hs, secVisible_open hs h, trayStore_of_sound hb]

/-- Before the first image a report that fits is written whole, and its completion word after it. -/
theorem attestWrite_open {s : State} {o : SecOp} (hs : s.strung = false) (hb : s.trayBad = [])
    (h : o.addr + (s.report o.nonce o.leaf).length ≤ 64 * granBytes) (h' : o.addr + 0x1000 ≤ 64 * granBytes) :
    (s.attestWrite o).tray =
      wrBytes (wrBytes s.tray o.addr (s.report o.nonce o.leaf)) (o.addr + 0xFC0) ([1, 0] ++ leBytes 2 0 ++ zeros 60) := by
  have hc : o.addr + 0xFC0 + ([1, 0] ++ leBytes 2 0 ++ zeros 60 : List Byte).length ≤ 64 * granBytes := by simp [zeros]; omega
  unfold State.attestWrite
  rw [secWrite_open hs hb h]
  generalize s.report o.nonce o.leaf = first, ([1, 0] ++ leBytes 2 0 ++ zeros 60 : List Byte) = last at hc
  exact congrArg State.tray (secWrite_open (s := { s with tray := wrBytes s.tray o.addr first, trayBad := [] }) hs rfl hc)

/-- A nonce of ones reads as ones in the report. -/
theorem report_getElem_of_ones (s : State) {n i : Nat} (leaf : Nat) (h : 240 ≤ i) (hn : i < 240 + n)
    (hi : i < (s.report (List.replicate n 1) leaf).length) : (s.report (List.replicate n 1) leaf)[i] = 1 := by
  obtain ⟨front, hf, hp⟩ := nonce_in_report s (List.replicate n 1) leaf
  rw [← hp.getElem (by simp [hf, hn]), List.getElem_append_right (by omega), List.getElem_replicate]

/-- An ATTEST that ends with nothing to burn writes its report. -/
theorem execSecDone_attest {s : State} {o : SecOp} (h : s.sec.op = some o) (hsvc : o.svc = 0x12) (hb : o.burns = [])
    (hs : o.slots = []) : execSecDone s = .next ((s.attestWrite o).secEnd o 0) := by
  simp [execSecDone, h, hsvc, longService, State.burnSettle, hb, hs]

/-- An ATTEST whose nonce has 5000 bytes. -/
def longAttest : SecOp := { svc := 0x12, nonce := List.replicate 5000 1 }

/-- SEC works at it. -/
def longNonce : State := { State.reset with sec := { State.reset.sec with op := some longAttest } }

/-- The end of an operation that nobody waits for. -/
theorem within_secEnd (s : State) {o : SecOp} {code : Nat} (hp : o.pair = none) :
    Within [.part .sec, .fld R.SEC_OP_STATE, .fld R.SEC_OP_SERVICE, .fld R.SEC_OP_CODE, .src E.secDone] s (s.secEnd o code) := by
  simp only [State.secEnd, hp, State.secShow]
  refine Within.raiseIf (Within.sets ?_)
  exact (Within.refl _ s).put [.sec] rfl

/-- Byte 4100 of the report stands in the Tray. -/
theorem longNonce_writes_past : ∃ t, exec .secDone longNonce = .next t ∧ rdByte t.tray 4100 = 1 := by
  obtain ⟨n, hn⟩ : ∃ n, n = 5000 := ⟨_, rfl⟩
  obtain ⟨i, hi⟩ : ∃ i, i = 4100 := ⟨_, rfl⟩
  have ho : longAttest.nonce = List.replicate n 1 := hn ▸ rfl
  have ha : longAttest.addr = 0 := rfl
  have hl : (longNonce.report longAttest.nonce longAttest.leaf).length = n + 3348 := by
    rw [length_report, ho, List.length_replicate]
  have inside : i < (longNonce.report longAttest.nonce longAttest.leaf).length := by omega
  have run : exec .secDone longNonce = _ := execSecDone_attest (s := longNonce) (o := longAttest) rfl rfl rfl rfl
  refine ⟨_, run, ?_⟩
  rw [(within_secEnd _ rfl).tray_eq _ (by simp [Foot.putsTray]),
    attestWrite_open rfl rfl (by rw [ha, hl, granBytes]; omega) (by rw [ha, granBytes]; omega),
    rdByte_wrBytes_out _ _ _ _ (.inr (by simp [ha, zeros])), ha, ← hi]
  have hr := rdByte_wrBytes_in _ longNonce.tray 0 i inside
  rw [Nat.zero_add] at hr
  simp only [ho] at hr inside ⊢
  exact hr.trans (report_getElem_of_ones _ _ (by omega) (by omega) inside)

/-- Refutes O56: the nonce of the operation that runs sets the length of its report, and nothing in the state bounds it. -/
theorem not_securityFrame : ¬ Obligations.SecurityFrame := by
  unfold Obligations.SecurityFrame
  rintro ⟨-, -, -, -, -, -, -, -, -, -, -, -, -, secDone, -⟩
  obtain ⟨t, run, past⟩ := longNonce_writes_past
  obtain ⟨-, -, outside⟩ := secDone longNonce t run
  have same : rdByte t.tray 4100 = 0 := outside 4100 (.inr (by decide))
  simp [past] at same

end Sys2Proof.Machine

namespace Sys2Proof.Machine
open Sys2Proof.Safety

/-- Region 1, a MiB of channel 0. -/
def oneRegion : Stringing := { State.reset.strg with drams := [⟨1, 8, 0, 1, 0, 2 ^ 20, 0, 0⟩] }

/-- A picture of one sample without chroma, of decoder `r`, in its buffer 0. -/
def greyPic (r : Nat) : DecPic := { r := r, num := 0, poc := 0, buf := some 0, fmt := 5, mono := true, width := 1, height := 1 }

/-- Decoder 0 holds a picture that names decoder 1, whose buffers lie in region 1. -/
def strayPicture : State :=
  { State.reset with
    strg := oneRegion, inf := [((R.DEC_BUF_REGION 1).key, 1)]
    decJobs := [{ r := 0, pic := greyPic 1, uses := [], output := false, reorder := 0, latency := 0, setter := false }] }

/-- Its chroma byte is written where the other decoder's buffers lie. -/
theorem strayPicture_writes : ∃ t, exec (.decPictureDone 0 false false false 0 0) strayPicture = .next t ∧
    t.dram = wrByte (wrByte [] 0 (Config.freeByte 0 0)) 64 128 := by
  refine ⟨_, rfl, rfl⟩

/-- Refutes O50: a picture carries the decoder that its buffer belongs to, and nothing ties it to the decoder whose job holds it. -/
theorem not_codecFrame : ¬ Obligations.CodecFrame := by
  unfold Obligations.CodecFrame
  rintro ⟨-, -, -, -, -, -, -, -, -, decPictureDone, -⟩
  obtain ⟨t, run, dram⟩ := strayPicture_writes
  obtain ⟨-, -, region⟩ := decPictureDone 0 false false false 0 0 strayPicture t run
  have absent : ∀ off, strayPicture.regionAddr (strayPicture.inForce (R.DEC_BUF_REGION 0)) off = none := fun _ => rfl
  have same : rdByte t.dram 64 = 0 := region 64 (by
    intro r hr off
    obtain rfl := List.mem_singleton.1 hr
    exact congrArg (Option.map _) (absent off) ▸ nofun)
  rw [dram, rdByte_wr_same] at same
  exact absurd same (by decide)

end Sys2Proof.Machine

namespace Sys2Proof.Machine
open Sys2Proof.Safety

/-- WCMP is strung, and granule 0 is PKT's alone to write. -/
def wallStringing : Stringing :=
  { State.reset.strg with
    rods := [{ rod := 11, power := 1, ckDiv := 0, beads := [(8, 0)] }]
    trays := [⟨0, 12, 0, 0, 1, 0, 2 ^ 12⟩] }

/-- A complete picture of frame 0, whose descriptor stands in granule 0. -/
def freedPicture : State :=
  { State.reset with
    strg := wallStringing, regs := [((I.PROXY 11).key, 0), ((I.PROXY 12).key, 0)], pics := [⟨0, some 0, 0⟩]
    tray := [(0x45, 1), (0x55, 1), (0x65, 1), (0x75, 1)]
    frames := [{ tag := 0, fcnt := 0, port := 0, width := 0, lines := 0, obLines := 0, depth := 0, dcg := 0, fsTime := 0 }] }

/-- Refutes O51: a canvas frame begins with PKT's release of the pictures that no flow has still to send, which writes as rod 12. -/
theorem not_outputFrame : ¬ Obligations.OutputFrame := by
  unfold Obligations.OutputFrame
  rintro ⟨-, canvasFrameStart, -⟩
  obtain ⟨-, -, granted, -⟩ := canvasFrameStart 0 freedPicture _ rfl
  exact absurd (granted 203 (by decide +kernel)) (by decide +kernel)

end Sys2Proof.Machine

namespace Sys2Proof.Machine
open Sys2Proof.Safety

/-- Stripe 0 runs in rod 9, and the sums of a short frame as bright as its long one stand ready. -/
def strayStripe : State :=
  { State.reset with
    regs := [((R.DCG_SUM_S 7 1).key, 4096), ((R.DCG_SUM_S 7 2).key, 0x3F800000), ((R.DCG_SUM_S 7 3).key, 0x3F800000),
      ((I.STRIPE_MOVED 0).key, 9), ((I.PROXY 9).key, 0)]
    inf := [((R.DCG_RATIO_AUTO 7).key, 1), ((R.DCG_RATIO_G 7).key, 65536)] }

/-- Refutes O47: the ratio is staged in every rod that runs a stripe, whichever number the record of the substitution holds. -/
theorem not_imageFrame : ¬ Obligations.ImageFrame := by
  unfold Obligations.ImageFrame
  rintro ⟨-, -, -, dcgRatioUpdate, -⟩
  obtain ⟨kept, -⟩ := dcgRatioUpdate 0 strayStripe _ rfl
  have outside : ¬ among ((List.range 5).flatMap (fun r => [R.COMMIT_PEND (2 + r), I.AT_NEXT r, R.COMMIT_AT_TAG r, R.DCG_RATIO_G r,
      R.IMG_STAT_AT_MISSED r] ++ sources [E.atMissed r])) (R.DCG_RATIO_G 7) := by
    simp; omega
  exact absurd (kept _ outside).1 (by decide +kernel)

end Sys2Proof.Machine

/-!
The DRAM channels: what a read counts, what an issued write changes, what a change of set point and a refresh touch.
-/

namespace Sys2Proof.Machine

open Sys2Proof.Safety

section

variable {A B : Foot} {s t u : State} {ch : Nat}

/-! ### Counts of a read -/

@[simp] def Foot.mem (ch : Nat) : Foot := [.flds (memFields ch)]

theorem Within.pendChange {sp down : Nat} (w : Within A s t) (h : Foot.mem ch ⊆ A := by simp) :
    Within A s (t.pendChange ch sp down) := by
  refine w.step (B := Foot.mem ch) ?_ h
  exact ((((Within.refl _ t).set (by simp [memFields])).set (by simp [memFields])).set (by simp [memFields])).set
    (by simp [memFields])

theorem Within.stepDown (w : Within A s t) (h : Foot.mem ch ⊆ A := by simp) : Within A s (t.stepDown ch) := by
  unfold State.stepDown
  split
  · exact w.pendChange h
  · refine w.step (B := Foot.mem ch) ?_ h
    exact ((Within.refl _ t).set (by simp [memFields])).raise (by simp [memFields])

theorem Within.memCe {d : Nat} (w : Within A s t) (hd : d < 64) (h : Foot.mem ch ⊆ A := by simp) : Within A s (t.memCe ch d) := by
  refine w.step (B := Foot.mem ch) ?_ h
  unfold State.memCe
  extract_lets s1 s2 s3
  have h₁ : Within (Foot.mem ch) t s1 :=
    (((Within.refl _ t).set (by simp [memFields])).inc (by simp [memFields])).set (by simp [memFields])
  have h₂ : Within (Foot.mem ch) t s2 := (h₁.set (by simp [memFields])).set (by simp [memFields, hd])
  have h₃ : Within (Foot.mem ch) t s3 :=
    .ite (fun _ => ((h₂.set (by simp [memFields])).raise (by simp [memFields])).when (Within.refl _ _).stepDown) fun _ => h₂
  exact .ite (fun _ => (((h₃.set (by simp [memFields])).set (by simp [memFields])).set (by simp [memFields])).raise
    (by simp [memFields])) fun _ => h₃

theorem Within.memUe {cw : Nat} (w : Within A s t) (h : Foot.mem ch ⊆ A := by simp) : Within A s (t.memUe ch cw) := by
  refine w.step (B := Foot.mem ch) ?_ h
  exact ((((Within.refl _ t).set (by simp [memFields])).inc (by simp [memFields])).set (by simp [memFields])).raise
    (by simp [memFields])

/-- A correctable error lies in one of the ten devices. -/
theorem lt_of_ecc_one {errs d : Nat} (h : t.ecc ch errs = .one d) : d < 10 := by
  unfold State.ecc at h
  split at h
  · cases h
  next c e =>
    split at h
    · cases h
    · obtain rfl : c = d := Ecc.one.inj h
      have hm : c ∈ maskBits errs 10 := by simp [e]
      exact List.mem_range.1 (List.mem_filter.1 hm).1
  · cases h

theorem Within.memDecode {cw errs : Nat} (w : Within A s t) (h : Foot.mem ch ⊆ A := by simp) :
    Within A s (t.memDecode ch cw errs).2 := by
  unfold State.memDecode
  split
  · exact w
  · split
    · exact w
    next e => exact w.memCe (by have := lt_of_ecc_one e; omega) h
    · exact w.memUe h

/-! ### Issue of a request -/

theorem Within.openRow {x : Nat} (w : Within A s t) (h : A.frees .rows = true := by simp) : Within A s (t.openRow ch x) :=
  w.put [.rows] rfl (h := by simpa using h)

theorem Within.finishRead {p : RdPart} (w : Within A s t) (h : A.frees .rdParts = true := by simp) : Within A s (t.finishRead p) := by
  refine .ite (fun _ => .emit ?_) fun _ => w
  exact w.put [.rdParts] rfl (h := by simpa using h)

theorem Within.donePart {p : RdPart} (w : Within A s t) (h : A.frees .rdParts = true := by simp) : Within A s (t.donePart p) := by
  refine Within.finishRead ?_ h
  exact w.put [.rdParts] rfl (h := by simpa using h)

@[simp] def Foot.issueRead (ch : Nat) : Foot := Foot.mem ch ++ [.part .rdQ, .part .rows, .part .rdParts]

theorem Within.issueRead {e : RdEnt} {errs : Nat} (w : Within A s t) (he : e.ch = ch) (h : Foot.issueRead ch ⊆ A := by simp) :
    Within A s (t.issueRead e errs) := by
  subst he
  refine w.step (B := Foot.issueRead e.ch) ?_ h
  unfold State.issueRead
  extract_lets s0
  have h₀ : Within (Foot.issueRead e.ch) t s0 := by
    refine Within.openRow ?_
    exact (Within.refl _ t).put [.rdQ] rfl
  exact (h₀.memDecode (cw := e.cw) (errs := errs)).donePart

/-- The bytes of the codewords of the queued writes. -/
def queued (s : State) (a : Nat) : Prop := ∃ e ∈ s.wrQ, a / 128 = lin e.ch (e.cw * 128) / 128

/-- A codeword's bytes, stored where the footprint permits. -/
theorem Within.cwPut {w' : Nat} {d : List Byte} (w : Within A s t) (hf : A.frees .dram = true) (hd : d.length ≤ 128)
    (h : ∀ a, a / 128 = w' → A.putsDram s a) : Within A s { t with dram := wrBytes t.dram (w' * 128) d } :=
  w.trans
    { get_eq := fun _ _ => rfl
      inf_eq := fun _ _ => rfl
      rest_eq := mask_put (q := .dram) hf { t with dram := _ } t
      tray_eq := fun _ _ => rfl
      dram_eq := fun a ha => rdByte_wrBytes_out d t.dram (w' * 128) a (by
        by_contra hc
        exact ha ((Foot.putsDram_congr w.strg_eq a).2 (h a (by omega))))
      keep_eq := fun _ _ => rfl }

@[simp] def Foot.store (s : State) (ch : Nat) : Foot := Foot.mem ch ++ [.part .rows, .part .dramBad, .dramWhere (queued s)]

theorem length_overlay (l : List Byte) (d : List (Nat × Byte)) : (overlay l d).length = l.length := by simp [overlay]

/-- What an issued write changes once it has left the queue. -/
theorem within_issueWrite {e : WrEnt} {errs : Nat} (he : e ∈ s.wrQ) :
    Within (Foot.store s e.ch) { t with wrQ := t.wrQ.erase e } (t.issueWrite e errs) := by
  have store : ∀ u : State, Within (Foot.store s e.ch) u { u with
      dram := wrBytes u.dram (lin e.ch (e.cw * 128) / 128 * 128) (overlay (u.cwBytes (lin e.ch (e.cw * 128) / 128)) e.data) } :=
    fun u => (Within.refl _ u).cwPut (by simp) (by simp [length_overlay, State.cwBytes]) fun a ha =>
      ⟨.dramWhere (queued s), by simp, e, he, ha⟩
  unfold State.issueWrite
  extract_lets s0 w put was
  have h₀ : Within (Foot.store s e.ch) { t with wrQ := t.wrQ.erase e } s0 := (Within.refl _ _).openRow
  refine .ite (fun _ => (h₀.trans (store _)).setCwBad) fun _ => ?_
  have h₁ := (h₀.memDecode (ch := e.ch) (cw := e.cw) (errs := errs)).inc (f := R.CH_ERR_INFO_RMW_CNT e.ch) (by simp [memFields])
  exact (h₁.trans (store _)).setCwBad.when ((Within.refl _ _).set (by simp [memFields]))

/-! ### Changes that take writes from the queue -/

theorem Within.wrQ_eq (w : Within A s t) (h : A.frees .wrQ = false) : t.wrQ = s.wrQ := by
  have e := congrArg State.wrQ w.rest_eq
  simpa only [mask, h, cond_false] using e

/-- From `s` to `t` nothing changed but what the footprint permits, and no write came into the queue. -/
structure Drains (A : Foot) (s t : State) : Prop where
  within : Within A s t
  queue : ∀ e ∈ t.wrQ, e ∈ s.wrQ

theorem Drains.refl (A : Foot) (s : State) : Drains A s s := ⟨.refl A s, fun _ => id⟩

/-- A change that leaves the queue as it is. -/
theorem Drains.beside (d : Drains A s t) (w : Within B t u) (hq : B.frees .wrQ = false := by simp) (h : B ⊆ A := by simp) :
    Drains A s u :=
  ⟨d.within.step w h, by rw [w.wrQ_eq hq]; exact d.queue⟩

theorem Drains.ite {c : Prop} [Decidable c] (ht : c → Drains A s t) (hu : ¬ c → Drains A s u) :
    Drains A s (if c then t else u) := by
  split
  · exact ht ‹_›
  · exact hu ‹_›

theorem Drains.foldl {α : Type} {g : State → α → State} {l : List α} (d : Drains A s t)
    (hg : ∀ u, Drains A s u → ∀ x ∈ l, Drains A s (g u x)) : Drains A s (l.foldl g t) := by
  induction l generalizing t with
  | nil => exact d
  | cons x l ih => exact ih (hg t d x (by simp)) fun u hu y hy => hg u hu y (by simp [hy])

@[simp] def Foot.issueWrite (s : State) (ch : Nat) : Foot := .part .wrQ :: Foot.store s ch

theorem Drains.issueWrite {e : WrEnt} {errs : Nat} (d : Drains A s t) (he : e ∈ s.wrQ) (hch : e.ch = ch)
    (h : Foot.issueWrite s ch ⊆ A := by simp) : Drains A s (t.issueWrite e errs) := by
  subst hch
  refine Drains.beside (t := { t with wrQ := t.wrQ.erase e }) (B := Foot.store s e.ch) ⟨?_, ?_⟩ (within_issueWrite he) (by simp)
    (List.subset_of_cons_subset h)
  · exact d.within.put [.wrQ] rfl (h := by simpa using Foot.frees_mono h (q := .wrQ) (by simp))
  · exact fun x hx => d.queue x (List.mem_of_mem_erase hx)

/-- A write that may issue stands in the channel's queue. -/
theorem mem_cands {e : WrEnt} (h : Cand.wr e ∈ t.cands ch) : e ∈ t.wrQ ∧ e.ch = ch := by
  simp only [State.cands, List.mem_append, List.mem_map, List.mem_filter, Bool.and_eq_true, decide_eq_true_eq, reduceCtorEq,
    and_false, exists_false, false_or, Cand.wr.injEq, exists_eq_right] at h
  exact ⟨h.1, h.2.1⟩

theorem Drains.drainWrites (d : Drains A s t) (h : Foot.issueWrite s ch ⊆ A := by simp) : Drains A s (t.drainWrites ch) := by
  refine d.foldl fun u hu c hc => ?_
  split
  next e =>
    obtain ⟨he, hch⟩ := mem_cands hc
    exact hu.issueWrite (d.queue _ he) hch h
  · exact hu

@[simp] def changeFields (ch : Nat) : List Fld := [R.CH_STAT_STATE ch, I.CH_CHANGE ch, I.CH_CHDOWN ch] ++ memFields ch

@[simp] def Foot.startChange (s : State) (ch : Nat) : Foot := .flds (changeFields ch) :: Foot.issueWrite s ch

theorem Drains.startChange {sp down : Nat} (d : Drains A s t) (h : Foot.startChange s ch ⊆ A := by simp) :
    Drains A s (t.startChange ch sp down) := by
  have hb : Within [.flds (changeFields ch), .part .rows] (t.drainWrites ch) (t.startChange ch sp down) := by
    refine Within.set (.set (.set (.set (.set ?_ (by simp)) (by simp)) (by simp)) (by simp [memFields])) (by simp [memFields])
    exact (Within.refl _ _).put [.rows] rfl
  exact (d.drainWrites (List.subset_of_cons_subset h)).beside hb (by simp) (List.Subset.trans (by simp) h)

end

end Sys2Proof.Machine

namespace Sys2Proof.Machine

open Sys2Proof.Safety

section

variable {A B : Foot} {s t u : State} {ch rank : Nat}

/-! ### Step sets, refreshes and changes -/

@[simp] def trainFields (ch : Nat) : List Fld := [I.CH_STEPSET ch, I.CH_STEPWAIT ch, R.CH_STAT_STATE ch, I.CH_TEMP ch]

theorem Within.startStep (w : Within A s t) (h : ∀ f ∈ trainFields ch, A.writes f := by simp) : Within A s (t.startStep ch) := by
  refine w.fields (l := trainFields ch) ?_ h
  exact (Within.refl _ t).set.set.set.set

theorem Within.dueStep (w : Within A s t) (h : ∀ f ∈ trainFields ch, A.writes f := by simp) : Within A s (t.dueStep ch) :=
  .ite (fun _ => .ite (fun _ => w.set (h _ (by simp))) fun _ => w.startStep h) fun _ =>
    .ite (fun _ => w.set (h _ (by simp))) fun _ => w

@[simp] def refreshFields (ch rank : Nat) : List Fld :=
  [I.CH_POSTPONED ch rank, I.CH_SAMEBANK ch, R.CH_EVT_SAFE_FORCED ch] ++ trainFields ch

@[simp] def Foot.refresh (s : State) (ch rank : Nat) : Foot :=
  .flds (refreshFields ch rank) :: Foot.commit 14 ++ Foot.startChange s ch

theorem Drains.refreshPoint (d : Drains (Foot.refresh s ch rank) s t) : Drains (Foot.refresh s ch rank) s (t.refreshPoint ch) := by
  unfold State.refreshPoint
  extract_lets s1 safe
  have d₁ : Drains (Foot.refresh s ch rank) s s1 :=
    .ite (fun _ => d.beside (B := Foot.commit 14) (Within.refl _ t).tryCommit) fun _ => d
  have beside : ∀ u, Within [.flds (refreshFields ch rank)] s1 u → Drains (Foot.refresh s ch rank) s u := fun u w => d₁.beside w
  exact .ite (fun _ => (beside _ ((Within.refl _ _).when (Within.refl _ _).set)).startChange)
    fun _ => beside _ ((Within.refl _ _).when (Within.refl _ _).startStep)

theorem Drains.refresh (d : Drains (Foot.refresh s ch rank) s t) : Drains (Foot.refresh s ch rank) s (t.refresh ch rank) := by
  unfold State.refresh
  extract_lets same k s1 s2
  have h₂ : Within [.part .rows, .flds (refreshFields ch rank)] t s2 := by
    refine Within.when ?_ (Within.refl _ _).set
    exact (Within.refl _ t).put [.rows] rfl
  have d₂ : Drains (Foot.refresh s ch rank) s s2 := d.beside h₂
  exact .ite (fun _ => d₂.refreshPoint) fun _ => d₂

/-! ### The commands of a channel -/

theorem drains_execRefresh {ch : Fin 8} {rank : Fin 2} (h : execRefresh ch rank s = .next t) :
    Drains (Foot.refresh s ch rank) s t := by
  obtain rfl := Host.Outcome.next.inj h
  have set : ∀ v, Drains (Foot.refresh s ch rank) s (s.set (I.CH_POSTPONED ch rank) v) := fun v =>
    (Drains.refl _ s).beside (B := [.flds (refreshFields ch rank)]) (Within.refl _ s).set
  exact .ite (fun _ => .ite (fun _ => set _) fun _ => (set _).refresh) fun _ => .refl _ _

theorem drains_execRefreshPostponeLimit {ch : Fin 8} {rank : Fin 2} (h : execRefreshPostponeLimit ch rank s = .next t) :
    Drains (Foot.refresh s ch rank) s t := by
  obtain rfl := Host.Outcome.next.inj h
  refine .ite (fun _ => .foldl ?_ fun u hu _ _ => .ite (fun _ => hu.refresh) fun _ => hu) fun _ => .refl _ _
  exact (Drains.refl _ s).beside (B := [.flds (refreshFields ch rank)]) (Within.refl _ s).set

theorem within_execMr4Poll {ch : Fin 8} {hot : BitVec 2} {temp : BitVec 9} (h : execMr4Poll ch hot temp s = .next t) :
    Within [.flds ([I.CH_HOT ch 0, I.CH_HOT ch 1, I.CH_MR4 ch] ++ trainFields ch)] s t := by
  obtain rfl := Host.Outcome.next.inj h
  exact .ite (fun _ => (Within.refl _ s).set.set.set.when (Within.refl _ _).dueStep) fun _ => .refl _ _

theorem within_execScrubRead {ch : Fin 8} {errs : BitVec 10} (h : execScrubRead ch errs s = .next t) :
    Within (.fld (I.CH_SCRUB ch) :: Foot.mem ch) s t := by
  obtain rfl := Host.Outcome.next.inj h
  exact .ite (fun _ => ((Within.refl _ s).memDecode (ch := ch)).set) fun _ => .refl _ _

theorem within_execRetrainTimer {ch : Fin 8} (h : execRetrainTimer ch s = .next t) : Within [.flds (trainFields ch)] s t := by
  obtain rfl := Host.Outcome.next.inj h
  exact (Within.refl _ s).dueStep

theorem within_execStepSetDone {ch : Fin 8} {works : Bool} (h : execStepSetDone ch works s = .next t) :
    Within [.flds [I.CH_STEPSET ch, R.CH_STAT_STATE ch, R.CH_STAT_MARGIN_LOW ch, R.CH_EVT_MARGIN_LOW ch],
      .src (E.memMarginLow ch)] s t := by
  obtain rfl := Host.Outcome.next.inj h
  exact .ite (fun _ => .ite (fun _ => (Within.refl _ s).set.set.set) fun _ => (Within.refl _ s).set.set.set.set.raise)
    fun _ => .refl _ _

theorem within_execCeWindow {ch : Fin 8} (h : execCeWindow ch s = .next t) :
    Within [.flds (I.CH_CEWIN ch :: (List.range 10).map (I.CH_DEVCNT ch))] s t := by
  obtain rfl := Host.Outcome.next.inj h
  exact (Within.refl _ s).set.foldl fun u d hd => (Within.refl _ u).set (by simpa using List.mem_range.1 hd)

theorem within_execSafePointTimeout {ch : Fin 8} (h : execSafePointTimeout ch s = .next t) : Within [.fld (I.CH_FORCE ch)] s t := by
  obtain rfl := Host.Outcome.next.inj h
  exact (Within.refl _ s).when (Within.refl _ _).set

@[simp] def freqReqFields (ch : Nat) : List Fld :=
  [I.CH_NEXT ch, I.CH_NEXTURG ch, I.CH_STEPSET ch, I.CH_STEPWAIT ch, R.CH_EVT_ABORTED ch]

@[simp] def Foot.freqReq (s : State) (ch : Nat) : Foot := .flds (freqReqFields ch) :: Foot.retire ++ Foot.range 14 ++ Foot.startChange s ch

theorem drains_freqReq {sp : Nat} {urgent : Bool} : Drains (Foot.freqReq s ch) s (s.freqReq ch sp urgent) := by
  have beside : ∀ u, Within [.flds (freqReqFields ch)] s u → Drains (Foot.freqReq s ch) s u := fun u w =>
    (Drains.refl _ s).beside w
  unfold State.freqReq
  refine .ite (fun _ => ?_) fun _ => .ite (fun _ => beside _ (Within.refl _ s).set.set) fun _ => .ite (fun _ => ?_) fun _ =>
    .ite (fun _ => (Drains.refl _ s).startChange) fun _ => ?_
  · exact (Drains.refl _ s).beside (B := Foot.range 14) (Within.refl _ s).wrRange
  · exact (beside _ (Within.refl _ s).set.set.set).startChange
  · exact (Drains.refl _ s).beside (B := Foot.mem ch) (Within.refl _ s).pendChange

theorem drains_execFreqReq {ch : Fin 8} {sp : Fin 4} {urgent : Bool} (h : execFreqReq ch sp urgent s = .next t) :
    Drains (Foot.freqReq s ch) s t := by
  obtain rfl := Host.Outcome.next.inj h
  refine .ite (fun _ => .refl _ _) fun _ => .ite (fun _ => .ite (fun _ => drains_freqReq) fun _ => .refl _ _) fun _ => ?_
  exact (Drains.refl _ s).beside (B := Foot.retire) (Within.refl _ s).hostRetired

theorem within_execPanicStart {k : Fin 15} (h : execPanicStart k s = .next t) :
    Within [.flds [I.PANIC, R.PANIC_STAT_LIVE]] s t := by
  obtain rfl := Host.Outcome.next.inj h
  exact .ite (fun _ => (Within.refl _ s).set.set) fun _ => .refl _ _

theorem within_execPanicEnd {k : Fin 15} (h : execPanicEnd k s = .next t) :
    Within [.flds [I.PANIC, I.PANIC_LONGED, R.PANIC_STAT_LIVE]] s t := by
  obtain rfl := Host.Outcome.next.inj h
  exact .ite (fun _ => (Within.refl _ s).set.set.set) fun _ => (Within.refl _ s).set

theorem within_execPanicLong (h : execPanicLong s = .next t) :
    Within [.flds [I.PANIC_LONGED, R.PANIC_STAT_LONG, R.PANIC_STAT_LONG_CNT], .src E.panicLong] s t := by
  obtain rfl := Host.Outcome.next.inj h
  exact .ite (fun _ => (Within.refl _ s).set.inc.set.raise) fun _ => .refl _ _

@[simp] def Foot.chanReset (ch : Nat) : Foot :=
  [.flds [I.CH_STEPSET ch, I.CH_STEPWAIT ch, I.CH_CHANGE ch, I.CH_NEXT ch, I.CH_INIT ch, I.CH_DRAIN ch, I.CH_CHTO ch,
      I.CH_CHDOWN ch, I.CH_PROXY ch, R.CH_STAT_STATE ch, R.CH_EVT_CH_RESET ch, R.CH_EVT_NO_STEP ch],
    .src (E.memNoStep ch), .src (E.memChReset ch), .part .rdQ, .part .wrQ, .part .rdParts, .part .rows, .part .autoTimes]

theorem within_chanReset : Within (Foot.chanReset ch) s (s.chanReset ch) := by
  unfold State.chanReset
  refine .ite (fun _ => .refl _ _) fun _ => ?_
  extract_lets many s1 s2 s3 s4 s5
  have h₁ : Within (Foot.chanReset ch) s s1 := (Within.refl _ s).foldl fun u _ _ => (Within.refl _ u).emit
  have h₂ : Within (Foot.chanReset ch) s s2 := h₁.put [.rdQ, .wrQ, .rdParts, .rows, .autoTimes] rfl
  have h₃ : Within (Foot.chanReset ch) s s3 := h₂.foldl fun u f hf => (Within.refl _ u).set (by
    have : among [I.CH_STEPSET ch, I.CH_STEPWAIT ch, I.CH_CHANGE ch, I.CH_NEXT ch, I.CH_INIT ch, I.CH_DRAIN ch,
      I.CH_CHTO ch, I.CH_CHDOWN ch] f := List.mem_map_of_mem hf
    simp at this
    simp; tauto)
  have h₄ : Within (Foot.chanReset ch) s s4 := h₃.set.set.set
  clear_value s4
  have h₅ : Within (Foot.chanReset ch) s s5 := .ite (fun _ => ?_) fun _ => h₄
  · exact h₅.raise
  · split
    · exact h₄.set
    · exact h₄.set.raise

theorem within_execChHang {ch : Fin 8} (h : execChHang ch s = .next t) : Within (Foot.chanReset ch) s t := by
  obtain rfl := Host.Outcome.next.inj h
  exact within_chanReset

theorem within_execChInitDone {ch : Fin 8} {works : Bool} (h : execChInitDone ch works s = .next t) :
    Within [.flds [I.CH_CHDOWN ch, I.CH_INIT ch, R.CH_EVT_MARGIN_LOW ch, R.CH_STAT_MARGIN_LOW ch, R.CH_STAT_RATE ch,
      R.CH_STAT_SP ch], .src (E.memMarginLow ch)] s t := by
  obtain rfl := Host.Outcome.next.inj h
  refine .ite (fun _ => ?_) fun _ => .refl _ _
  extract_lets tgt s1 s2
  have h₁ : Within _ s s1 := .ite (fun _ => .refl [.flds [I.CH_CHDOWN ch, I.CH_INIT ch, R.CH_EVT_MARGIN_LOW ch,
    R.CH_STAT_MARGIN_LOW ch, R.CH_STAT_RATE ch, R.CH_STAT_SP ch], .src (E.memMarginLow ch)] _) fun _ => (Within.refl _ s).set.set.set
  exact .ite (fun _ => h₁.set.set) fun _ => h₁.set.set.set.raise

@[simp] def bwFields : List Fld := [R.BW_STAT_BW_CEILING, R.BW_STAT_OVER, R.BW_STAT_PERMILLE] ++ sources [E.bwCeiling]

theorem Within.bwCheck (w : Within A s t) (h : ∀ f ∈ bwFields, A.writes f := by simp) : Within A s t.bwCheck := by
  refine w.fields (l := bwFields) ?_ h
  exact .ite (fun _ => (Within.refl _ t).set.set.set.raise) fun _ => (Within.refl _ t).set.set

/-- DRAM takes other bytes where the footprint permits. -/
theorem Within.dramTo {m : Bytes} (w : Within A s t) (hf : A.frees .dram = true)
    (h : ∀ x, ¬ A.putsDram s x → rdByte m x = rdByte t.dram x) : Within A s { t with dram := m } :=
  w.trans
    { get_eq := fun _ _ => rfl
      inf_eq := fun _ _ => rfl
      rest_eq := mask_put (q := .dram) hf { t with dram := m } t
      tray_eq := fun _ _ => rfl
      dram_eq := fun x hx => h x (mt (Foot.putsDram_congr w.strg_eq x).2 hx)
      keep_eq := fun _ _ => rfl }

/-- The bytes of a channel. -/
def inChannel (ch a : Nat) : Prop := lin ch 0 ≤ a ∧ a < lin ch 0 + 2 ^ 36

@[simp] def Foot.chFill (ch : Nat) : Foot :=
  [.flds ([I.CH_CHDOWN ch, I.CH_CHTO ch, I.CH_FILL ch, I.CH_INIT ch, I.CH_PROXY ch, R.CH_EVT_STEPDOWN ch, R.CH_STAT_STATE ch] ++
    bwFields), .src (E.memStepdown ch), .part .dramBad, .part .refs, .dramWhere (inChannel ch)]

theorem within_execChPoisonFillDone {ch : Fin 8} (h : execChPoisonFillDone ch s = .next t) : Within (Foot.chFill ch) s t := by
  obtain rfl := Host.Outcome.next.inj h
  refine .ite (fun _ => ?_) fun _ => .refl _ _
  extract_lets s1 s2
  have h₁ : Within (Foot.chFill ch) s s1 := by
    have hd : Within (Foot.chFill ch) s { s with dram := clearBytes s.dram (lin ch 0) (lin (ch + 1) 0) } :=
      (Within.refl _ s).dramTo (by simp) fun x hx => rdByte_clearBytes_out (by
        by_contra hc
        refine hx ⟨.dramWhere (inChannel ch), by simp, ?_⟩
        simp only [Perm.putsDram, inChannel, lin] at hc ⊢
        omega)
    exact hd.put [.dramBad, .refs] rfl
  have h₂ : Within (Foot.chFill ch) s s2 := h₁.set.set.set.set.set
  exact .ite (fun _ => h₂.set.set.raise.bwCheck) fun _ => h₂

end

end Sys2Proof.Machine

namespace Sys2Proof.Machine

open Sys2Proof.Safety

section

variable {A B : Foot} {s t u : State} {ch : Nat}

/-! ### The choice of a scheduling decision -/

theorem mem_of_leastBy {α : Type} {f : α → Nat} {l : List α} {a : α} (h : leastBy f l = some a) : a ∈ l := by
  induction l generalizing a with
  | nil => simp [leastBy] at h
  | cons x l ih =>
    unfold leastBy at h
    split at h
    next b e =>
      split at h
      · obtain rfl := Option.some.inj h
        exact List.mem_cons_of_mem _ (ih e)
      · simp [Option.some.inj h]
    · simp [Option.some.inj h]

/-- A decision chooses among the requests that may issue. -/
theorem mem_cands_of_choose {drain : Bool} {c : Cand} (h : t.choose ch drain = some c) : c ∈ t.cands ch := by
  have least : ∀ {f : Cand → Nat} {p : Cand → Bool} {c : Cand},
      leastBy f ((t.cands ch).filter p) = some c → c ∈ t.cands ch := fun e => (List.mem_filter.1 (mem_of_leastBy e)).1
  unfold State.choose at h
  extract_lets l of panic aged share at h
  simp only [Option.or_eq_some_iff] at h
  obtain h | ⟨-, h | ⟨-, h | ⟨-, h | ⟨-, h⟩⟩⟩⟩ := h
  · unfold panic at h
    split at h
    · exact least h
    · cases h
  · exact least h
  · exact least h
  · exact least h
  · unfold share at h
    split at h
    next e₁ e₂ => split at h <;> obtain rfl := Option.some.inj h
                  · exact least e₁
                  · exact least e₂
    next e₁ e₂ => obtain rfl := Option.some.inj h
                  exact least e₁
    next b e => exact least h

theorem chan_of_mem_cands {e : RdEnt} (h : Cand.rd e ∈ t.cands ch) : e.ch = ch := by
  simp only [State.cands, List.mem_append, List.mem_map, List.mem_filter, decide_eq_true_eq, reduceCtorEq, and_false,
    exists_false, or_false, Cand.rd.injEq, exists_eq_right] at h
  exact h.2

@[simp] def Foot.issue (s : State) (ch : Nat) : Foot :=
  .flds [I.CH_DRAIN ch, I.CH_SHARE ch] :: Foot.issueRead ch ++ Foot.issueWrite s ch

theorem Within.share {c : Cand} (w : Within A s t) (h : A.writes (I.CH_SHARE ch) := by simp) : Within A s (t.share ch c) :=
  .ite (fun _ => w.set h) fun _ => .ite (fun _ => w.set h) fun _ => w

theorem drains_execSchedulingDecision {ch : Fin 8} {errs : BitVec 10} (h : execSchedulingDecision ch errs s = .next t) :
    Drains (Foot.issue s ch) s t := by
  obtain rfl := Host.Outcome.next.inj h
  refine .ite (fun _ => ?_) fun _ => .refl _ _
  extract_lets drain s0
  have beside : ∀ c, Drains (Foot.issue s ch) s (s0.share ch c) := fun c =>
    (Drains.refl _ s).beside (B := [.flds [I.CH_DRAIN ch, I.CH_SHARE ch]]) (Within.refl _ s).set.share
  split
  next e hc => exact (beside _).beside ((Within.refl (Foot.issueRead ch) _).issueRead (chan_of_mem_cands (mem_cands_of_choose hc)))
  next e hc =>
    obtain ⟨he, hch⟩ := mem_cands (mem_cands_of_choose hc)
    exact (beside _).issueWrite he hch
  · exact (Drains.refl _ s).beside (B := [.flds [I.CH_DRAIN ch, I.CH_SHARE ch]]) (Within.refl _ s).set

/-! ### The end of a change -/

@[simp] def Foot.changed (s : State) (ch : Nat) : Foot := .block 14 :: Foot.startChange s ch

theorem drains_freqChangeDone : Drains (Foot.changed s ch) s (s.freqChangeDone ch) := by
  unfold State.freqChangeDone
  refine .ite (fun _ => ?_) fun _ => .refl _ _
  extract_lets sp s1 s2 s3 nx s4
  have h₁ : Within (.block 14 :: Foot.mem ch) s s1 := (Within.refl _ s).set.set.set.set
  have h₂ : Within (.block 14 :: Foot.mem ch) s s2 :=
    (h₁.raise (by simp [E.memFreqDone])).when ((Within.refl _ _).set.set.raise (by simp [E.memStepdown]))
  have h₃ : Within (.block 14 :: Foot.mem ch) s s3 := h₂.bwCheck (by simp [E.bwCeiling])
  have h₄ : Within (.block 14 :: Foot.mem ch) s s4 := h₃.set
  have beside : ∀ u, Within (.block 14 :: Foot.mem ch) s u → Drains (Foot.changed s ch) s u := fun u w => (Drains.refl _ s).beside w
  clear_value s4
  refine .ite (fun _ => .ite (fun _ => ?_) fun _ => ?_) fun _ => beside _ (h₄.when (Within.refl _ _).startStep)
  · exact (beside _ h₄).startChange
  · exact beside _ (h₄.pendChange.when (Within.refl _ _).startStep)

end

end Sys2Proof.Machine

namespace Sys2Proof.Machine

open Sys2Proof.Safety

section

variable {A B : Foot} {s t u : State}

/-! ### Encoders -/

/-- What the encoders of coding rod `r` touch: their block, streams, canvas frames and granules, their records and commits. -/
@[simp] def Foot.enc (r : Nat) : Foot :=
  [.block (8 + r), .part .strms, .part .canv] ++ Foot.commit (8 + r) ++ Foot.put (8 + r) ++ Foot.job (8 + r)

theorem Within.modStrm {n : Nat} {g : Strm → Strm} (w : Within A s t) (h : A.frees .strms = true := by simp) :
    Within A s (t.modStrm n g) := w.put [.strms] rfl (h := by simpa using h)

theorem within_commitDesc {r n : Nat} : Within (Foot.enc r) s (s.commitDesc (8 + r) n) := by
  unfold State.commitDesc
  extract_lets r' new old s1
  have hr : r' = r := Nat.add_sub_cancel_left ..
  have h₁ : Within (Foot.enc r) s s1 := (Within.refl _ s).modStrm
  split
  · extract_lets s2
    have h₂ : Within (Foot.enc r) s s2 := .ite (fun _ => h₁) fun _ => ((h₁.set (by simp [hr])).set (by simp [hr])).set (by simp [hr])
    exact h₂.raise (by simp [E.strmBad, hr])
  · exact h₁.trayPut.modStrm

theorem within_encStart {e : Nat} {c : Strm × Due × Time} : Within (Foot.enc (e / 4)) s (s.encStart e c) := by
  unfold State.encStart
  extract_lets rod r k n s1 s2 d late rep expired seeds
  have hc : Foot.commit rod ⊆ Foot.enc r := by simp [rod, r]
  have h₁ : Within (Foot.enc r) s s1 := ((Within.refl _ s).commitAt hc).commitAt hc
  have h₂ : Within (Foot.enc r) s s2 := .ite (fun _ => h₁.trans within_commitDesc) fun _ => h₁
  refine .ite (fun _ => h₁) fun _ => ?_
  split
  · exact h₂
  next x _ =>
    extract_lets idr j job s3 s4 s5
    have h₃ : Within (Foot.enc r) s s3 := Within.beginJob h₂.modStrm (h := by simp [encJobOf, job, r])
    have h₄ : Within (Foot.enc r) s s4 := h₃.sets
    have h₅ : Within (Foot.enc r) s s5 := .ite (fun _ => h₄.set.inc.raise (by simp [E.encRepeat])) fun _ => h₄
    exact .ite (fun _ => h₅.set.inc.raise (by simp [E.encVecMiss])) fun _ => h₅

@[simp] def Foot.encs : Foot := Foot.enc 0 ++ Foot.enc 1

theorem Foot.enc_subset {r : Nat} (h : r < 2) : Foot.enc r ⊆ Foot.encs := by
  obtain rfl | rfl : r = 0 ∨ r = 1 := by omega
  · exact List.subset_append_left ..
  · exact List.subset_append_right ..

theorem within_encRelease : Within Foot.encs s s.encRelease := by
  unfold State.encRelease
  extract_lets needs one
  have hone : ∀ u r, r < 2 → Within Foot.encs u (one u r) := fun u r hr => by
    refine .ite (fun _ => .refl _ _) fun _ => ?_
    have hp : Foot.put (8 + r) ⊆ Foot.encs := List.Subset.trans (by simp) (Foot.enc_subset hr)
    refine Within.put (Within.foldl (.refl _ u) fun v p _ => ?_) [.canv] rfl
    split
    · exact .ite (fun _ => .refl _ _) fun _ => (Within.refl _ v).trayPut hp
    · exact .refl _ _
  exact (hone s 0 (by omega)).trans (hone _ 1 (by omega))

theorem Within.encKick (w : Within A s t) (h : Foot.encs ⊆ A := by simp) : Within A s t.encKick := by
  refine w.step (B := Foot.encs) ?_ h
  unfold State.encKick
  extract_lets s1
  refine Within.trans (t := s1) (Within.foldl ?_ fun u e he => .ite (fun _ => ?_) fun _ => .refl _ _) within_encRelease
  · exact (Within.refl _ t).put [.strms] rfl
  · split
    · exact within_encStart.mono (Foot.enc_subset (by have := List.mem_range.1 he; omega))
    · exact .refl _ _

/-! ### DMA engines -/

@[simp] def Foot.dma (d : Nat) : Foot := [.flds (dmaFields d), .part .dmas] ++ Foot.put 15 ++ Foot.job 15

theorem Within.dmaEnd {j : UtlJob} {status : Nat} (w : Within A s t) (h : Foot.dma j.n ⊆ A := by simp) :
    Within A s (t.dmaEnd j status) := by
  refine w.step (B := Foot.dma j.n) ?_ h
  unfold State.dmaEnd
  extract_lets d a s1 e s2
  have h₁ : Within (Foot.dma j.n) t s1 := by
    refine Within.trayPut (Within.trayPut ?_)
    exact (Within.refl _ t).put [.dmas] rfl
  have h₂ : Within (Foot.dma j.n) t s2 := .ite (fun _ => h₁) fun _ => by
    have he : Within (Foot.dma j.n) t e := .ite (fun _ => h₁) fun _ => h₁.set (by simp [dmaFields, d])
    exact ((he.set (by simp [dmaFields, d])).inc (by simp [dmaFields, d])).raise (by simp [dmaFields, d])
  exact ((h₂.set (by simp [dmaFields, d])).raiseIf (by simp [dmaFields, d])).endJob (by simp [dmaJobOf])

theorem within_dmaTake {d : Nat} : Within (Foot.dma d) s (s.dmaTake d).1 := by
  unfold State.dmaTake
  extract_lets head rd j s0 s1
  have h₁ : Within (Foot.dma d) s s1 := by
    refine Within.beginJob (j := dmaJobOf j) ?_ (by simp [dmaJobOf])
    exact (Within.refl _ s).trayReadAs.put [.dmas] rfl
  exact .iteOn Prod.fst (fun _ => .refl _ _) fun _ => .iteOn Prod.fst (fun _ => h₁.dmaEnd (h := by simp [j])) fun _ =>
    .iteOn Prod.fst (fun _ => h₁) fun _ => h₁.dmaEnd (h := by simp [j])

theorem within_dmaGo {d n : Nat} : Within (Foot.dma d) s (State.dmaGo d n s) := by
  induction n generalizing s with
  | zero => exact .refl _ _
  | succ n ih => exact .ite (fun _ => within_dmaTake.trans ih) fun _ => within_dmaTake

theorem Within.dmaKick {d : Nat} (w : Within A s t) (h : Foot.dma d ⊆ A := by simp) : Within A s (t.dmaKick d) :=
  w.step within_dmaGo h

/-! ### What a drain held back -/

theorem Within.audEnable {n : Nat} (w : Within A s t) (h : Perm.block 13 ∈ A := by simp) : Within A s (t.audEnable n) := by
  refine w.step (B := [.block 13]) (.ite (fun _ => (Within.refl _ t).set) fun _ => (Within.refl _ t).sets) (by simpa using h)

theorem Within.utlFree (w : Within A s t) (h : Perm.block 15 ∈ A := by simp) : Within A s t.utlFree := by
  refine w.step (B := [.block 15]) ((Within.refl _ t).sets fun e he => ?_) (by simpa using h)
  obtain he | he := List.mem_append.1 he
  all_goals
    obtain ⟨_, -, rfl⟩ := List.mem_map.1 he
    simp

@[simp] def Foot.resume : Foot := [.block 13, .block 15, .part .dmas] ++ Foot.encs ++ Foot.put 15 ++ Foot.job 15

/-- A footprint of fields of its own is one part of a footprint that permits them. -/
theorem Within.widen (w : Within A s t) (h : Within B t u) (hw : ∀ f, B.writes f → A.writes f) (hf : ∀ f, B.forces f → A.forces f)
    (hq : ∀ q, B.frees q = true → A.frees q = true) (ht : ∀ a, B.putsTray t a → A.putsTray t a)
    (hd : ∀ a, B.putsDram t a → A.putsDram t a) (hk : ∀ a, B.putsKeep a → A.putsKeep a) : Within A s u :=
  w.trans
    { get_eq := fun f hn => h.get_eq f (mt (hw f) hn)
      inf_eq := fun f hn => h.inf_eq f (mt (hf f) hn)
      rest_eq := mask_mono hq h.rest_eq
      tray_eq := fun a hn => h.tray_eq a (mt (ht a) hn)
      dram_eq := fun a hn => h.dram_eq a (mt (hd a) hn)
      keep_eq := fun a hn => h.keep_eq a (mt (hk a) hn) }

/-- The fields of a DMA engine lie in UTL's block. -/
theorem rod_of_dmaFields {d : Nat} {f : Fld} (h : among (dmaFields d) f) : f.rod = 15 := by
  obtain ⟨g, hg, e⟩ := List.mem_map.1 h
  have hr : g.rod = 15 := by
    simp only [dmaFields, List.mem_append, List.mem_cons, List.not_mem_nil, or_false, mem_sources] at hg
    obtain (rfl | rfl | rfl | rfl) | ⟨e, rfl | rfl, rfl⟩ := hg <;> rfl
  exact (congrArg Prod.fst e).symm.trans hr

theorem within_dmas {l : List Nat} : Within Foot.resume s (l.foldl (fun s d => s.dmaKick d) s) :=
  (Within.refl _ s).foldl fun u d _ => (Within.refl _ u).widen (B := Foot.dma d) within_dmaGo
    (fun f => by have := @rod_of_dmaFields d f; simp; tauto)
    (by simp) (by simp +contextual) (by simp +contextual [Foot.putsTray]) (by simp [Foot.putsDram]) (by simp [Foot.putsKeep])

theorem Within.resume (w : Within A s t) (h : Foot.resume ⊆ A := by simp) : Within A s t.resume := by
  refine w.step (B := Foot.resume) ?_ h
  unfold State.resume
  extract_lets s1 s2
  have h₁ : Within Foot.resume t s1 := .ite (fun _ => .refl _ _) fun _ => .foldl (.refl _ t) fun u n _ =>
    .ite (fun _ => (Within.refl _ u).set.audEnable) fun _ => .refl _ _
  have h₂ : Within Foot.resume t s2 := h₁.utlFree.encKick
  exact .ite (fun _ => h₂) fun _ => h₂.trans within_dmas

end

end Sys2Proof.Machine

namespace Sys2Proof.Machine

open Sys2Proof.Safety

section

variable {A B : Foot} {s t u : State}

/-! ### Power states -/

/-- Only the rods with lanes have any. -/
theorem mem_of_laneCount {r l : Nat} (h : l < laneCount r) : r ∈ [0, 1, 10, 11, 12] := by
  by_contra hn
  simp only [List.mem_cons, List.not_mem_nil, or_false, not_or] at hn
  simp [laneCount, hn] at h

theorem Within.laneStart {r l : Nat} (w : Within A s t) (hl : l < laneCount r) (h : Perm.flds laneFields ∈ A := by simp) :
    Within A s (t.laneStart r l) := by
  refine w.step (B := [.flds laneFields]) ?_ (by simpa using h)
  have lane : ∀ f, f ∈ R.LN_STAT_STATE r l :: laneFresh r l → Foot.writes [.flds laneFields] f := fun f hf =>
    ⟨.flds laneFields, by simp, List.mem_map_of_mem (List.mem_flatMap.2 ⟨r, mem_of_laneCount hl,
      List.mem_flatMap.2 ⟨l, List.mem_range.2 hl, hf⟩⟩)⟩
  exact ((Within.refl _ t).set (lane _ (List.mem_cons_self ..))).foldl fun u f hf =>
    (Within.refl _ u).set (lane f (List.mem_cons_of_mem _ hf))

theorem Within.flitsOut {r : Nat} (w : Within A s t) (h : A.frees .flits = true := by simp) : Within A s (t.flitsOut r) :=
  w.put [.flits] rfl (h := by simpa using h)

/-- The fields of the gates and proxies of the rods. -/
def gateFields : List Fld := (List.range 16).flatMap (fun r => [I.GATED r, I.PROXY r])

@[simp] def Foot.power : Foot := [.flds powerFields, .flds laneFields, .flds gateFields, .part .flits] ++ Foot.resume

theorem Within.pwrAt {st : Nat} (w : Within A s t) (h : Perm.flds powerFields ∈ A := by simp) : Within A s (t.pwrAt st) := by
  refine w.step (B := [.flds powerFields]) ?_ (by simpa using h)
  exact ((Within.refl _ t).sets (by simp [powerFields])).raise (by simp [powerFields])

theorem within_unhold : Within Foot.power s s.unhold := by
  unfold State.unhold
  extract_lets s1
  have h₁ : Within Foot.power s s1 := (Within.refl _ s).foldl fun u r hr => .ite (fun _ => ?_) fun _ => .refl _ _
  · exact h₁.resume
  · have hr := List.mem_range.1 hr
    refine .foldl (((Within.refl _ u).sets ?_).flitsOut) fun v l hl => .ite (fun _ => ?_) fun _ => .refl _ _
    · simp [gateFields, hr]
    · exact (Within.refl _ v).laneStart (List.mem_range.1 hl)

theorem within_pwrStart {target : Nat} : Within Foot.power s (s.pwrStart target) := by
  unfold State.pwrStart
  extract_lets st s1
  have h₁ : Within Foot.power s s1 := (Within.refl _ s).set (by simp [powerFields])
  exact .ite (fun _ => h₁.set (by simp [powerFields])) fun _ => .ite (fun _ => (h₁.trans within_unhold).pwrAt)
    fun _ => h₁.utlFree.sets (by simp [powerFields])

theorem within_pwrResume : Within Foot.power s s.pwrResume := by
  unfold State.pwrResume
  exact .ite (fun _ => .refl _ _) fun _ => ((Within.refl _ s).set (by simp [powerFields])).trans within_pwrStart

@[simp] def Foot.freqDone (s : State) (ch : Nat) : Foot := Foot.changed s ch ++ Foot.power

theorem drains_execFreqChangeDone {ch : Fin 8} (h : execFreqChangeDone ch s = .next t) : Drains (Foot.freqDone s ch) s t := by
  obtain rfl := Host.Outcome.next.inj h
  have d : Drains (Foot.changed s ch) s (s.freqChangeDone ch) := drains_freqChangeDone
  exact Drains.beside ⟨d.within.mono (List.subset_append_left ..), d.queue⟩ (B := Foot.power) within_pwrResume (by simp)
    (List.subset_append_right ..)

end

end Sys2Proof.Machine

namespace Sys2Proof.Machine

open Sys2Proof.Safety

section

variable {A B : Foot} {s t u : State}

/-! ### Buffers -/

theorem Within.bufRead {tray : Bool} {region off n : Nat} (w : Within A s t) (h : Foot.tray ⊆ A := by simp) :
    Within A s (t.bufRead tray region off n).2.2 :=
  .iteOn (fun r : List Byte × Bool × State => r.2.2) (fun _ => w.trayReadAs h) fun _ => w

theorem Within.bufWrite {tray : Bool} {region off : Nat} {d : List Byte} (w : Within A s t) (ht : Foot.put 15 ⊆ A := by simp)
    (hd : A.region region := by simp) : Within A s (t.bufWrite tray region off d) :=
  .ite (fun _ => w.trayPut ht) fun _ => w.dramPut hd

theorem Within.utlPost {lim tail : Fld} {v : Nat} (w : Within A s t) (hl : A.writes lim := by simp)
    (ht : A.writes tail := by simp) : Within A s (t.utlPost lim tail v) := (w.set hl).set ht

/-! ### DEFLATE engines -/

theorem Within.dflRun {j : UtlJob} (w : Within A s t) (h : Foot.tray ++ [.part .freeCtr] ⊆ A := by simp) :
    Within A s (t.dflRun j).2 := by
  refine w.step (B := Foot.tray ++ [.part .freeCtr]) ?_ h
  have read : ∀ {a : Bool} {b c d : Nat}, Within (Foot.tray ++ [.part .freeCtr]) t (t.bufRead a b c d).2.2 :=
    (Within.refl _ t).bufRead
  unfold State.dflRun
  refine .iteOn Prod.snd (fun _ => .refl _ _) fun _ => .iteOn Prod.snd (fun _ => .refl _ _) fun _ => ?_
  extract_lets bad
  split
  · exact .refl _ _
  · exact .iteOn Prod.snd (fun _ => read) fun _ => .iteOn Prod.snd (fun _ => read.drawn) fun _ => read

@[simp] def dflIdleFields (n : Nat) : List Fld := [R.DFL_STAT_STATE n, I.DFL_REGION n, I.DFL_OFF n]

theorem Within.dflFree {n : Nat} (w : Within A s t) (h : ∀ f ∈ dflIdleFields n, A.writes f := by simp)
    (hq : A.frees .dfls = true := by simp) : Within A s (t.dflFree n) := by
  refine Within.set (.set (.set ?_ (h _ (by simp))) (h _ (by simp))) (h _ (by simp))
  exact w.put [.dfls] rfl (h := by simpa using hq)

@[simp] def Foot.dflSave (l : List Nat) : Foot := [.part .freeCtr, .regions l, .part .dflRecs]

theorem Within.dflSave {j : UtlJob} {r : DflStrm} {l : List Nat} (w : Within A s t) (hl : j.u 0x0A 1 ∈ l)
    (h : Foot.dflSave l ⊆ A := by simp) : Within A s (t.dflSave j r) := by
  refine w.step (B := Foot.dflSave l) ?_ h
  unfold State.dflSave
  extract_lets n reg off s1
  have h₁ : Within (Foot.dflSave l) t s1 :=
    ((Within.refl _ t).drawn.dramPut (h := by simp [reg, hl])).dramPut (h := by simp [reg, hl])
  exact h₁.put [.dflRecs] rfl

/-- A job's end from its completion word on: what `dflEnd` does once the data and the state record are written. -/
def State.dflClose (s : State) (j : UtlJob) (r : DflRun) (seq : Nat) : State :=
  let n := j.n
  let ok := decide (r.result < 0x10)
  let s3 := (s.trayPut 15 (s.dflSlot n j.slot + 0x40) (dflWord r seq s.now)).dflFree n
  let s4 := if ok then s3 else
    let e := if s3.on (R.DFL_EVT_ERR n) then s3 else s3.set (R.DFL_EVT_FIRST_ERR n) r.result
    ((e.set (R.DFL_EVT_ERR n) 1).inc (R.DFL_EVT_ERR_CNT n)).raise (E.dflErr n)
  let s5 := s4.when (decide (r.result = 1)) (fun s => (s.set (R.DFL_EVT_NO_GAIN n) 1).raise (E.dflNoGain n))
  let s6 := s5.when (decide (r.result = 0x1C)) (fun s => (s.set (R.DFL_EVT_DESC_BAD n) 1).raise (E.dflDescBad n))
  let depth := s6.get (R.DFL_RING_DEPTH n)
  ((s6.set (R.DFL_HEAD_SLOT n) (if j.slot + 1 < depth then j.slot + 1 else 0)).raiseIf (j.flag 3) (E.dflDone n)).endJob
    (dflJobOf j) (if ok then 0 else 2)

/-- The state of a job's end before its completion word. -/
def State.dflStored (s : State) (j : UtlJob) : State :=
  let r := (s.dflRun j).1
  let s1 := if r.out = [] then (s.dflRun j).2 else (s.dflRun j).2.bufWrite (j.flag 5) (j.u 9 1) (j.u 0x18 8) r.out
  if decide (r.result < 0x10) && (j.save || !j.last) then s1.dflSave j r.strm else s1

theorem dflEnd_eq (s : State) (j : UtlJob) : ∃ seq, s.dflEnd j = (s.dflStored j).dflClose j (s.dflRun j).1 seq := ⟨_, rfl⟩

@[simp] def dflEndFields (n : Nat) : List Fld :=
  [R.DFL_EVT_FIRST_ERR n, R.DFL_EVT_ERR n, R.DFL_EVT_ERR_CNT n, R.DFL_EVT_DESC_BAD n, R.DFL_HEAD_SLOT n] ++ dflIdleFields n ++
    sources [E.dflErr n, E.dflDescBad n, E.dflDone n]

@[simp] def noGainFields (n : Nat) : List Fld := R.DFL_EVT_NO_GAIN n :: sources [E.dflNoGain n]

/-- A job's end touches its engine's fields, and those of a result without gain where it has none. -/
theorem Within.dflClose {j : UtlJob} {r : DflRun} {seq : Nat} (w : Within A s t)
    (ht : Within A t (t.trayPut 15 (t.dflSlot j.n j.slot + 0x40) (dflWord r seq t.now)))
    (hn : r.result = 1 → ∀ f ∈ noGainFields j.n, A.writes f) (hf : ∀ f ∈ dflEndFields j.n, A.writes f := by simp)
    (hj : Foot.job 15 ⊆ A := by simp) (hd : A.frees .dfls = true := by simp) : Within A s (t.dflClose j r seq) := by
  refine w.trans ?_
  have f : ∀ {g}, g ∈ dflEndFields j.n → A.writes g := fun {g} => hf g
  unfold State.dflClose
  extract_lets n ok s3 e s4 s5 s6 depth
  have h₃ : Within A t s3 := ht.dflFree (fun g hg => f (by simp at hg ⊢; tauto)) hd
  have he : Within A t e := .ite (fun _ => h₃) fun _ => h₃.set (f (by simp [n]))
  have h₄ : Within A t s4 := .ite (fun _ => h₃) fun _ =>
    ((he.set (f (by simp [n]))).inc (f (by simp [n]))).raise (f (by simp [n]))
  have h₅ : Within A t s5 := .ite (fun c => by
    have c := hn (by simpa using c)
    exact (h₄.set (c _ (by simp [n]))).raise (c _ (by simp [n]))) fun _ => h₄
  have h₆ : Within A t s6 := h₅.when (((Within.refl _ _).set (f (by simp [n]))).raise (f (by simp [n])))
  exact ((h₆.set (f (by simp [n]))).raiseIf (f (by simp [n]))).endJob (by simpa [dflJobOf] using hj)

@[simp] def Foot.dflStored (l : List Nat) : Foot := Foot.put 15 ++ Foot.dflSave l

theorem within_dflStored {j : UtlJob} {l : List Nat} (h₁ : j.u 9 1 ∈ l) (h₂ : j.u 0x0A 1 ∈ l) :
    Within (Foot.dflStored l) s (s.dflStored j) := by
  unfold State.dflStored
  extract_lets r s1
  have run : Within (Foot.dflStored l) s (s.dflRun j).2 := (Within.refl _ s).dflRun
  have h : Within (Foot.dflStored l) s s1 := .ite (fun _ => run) fun _ => run.bufWrite (hd := by simp [h₁])
  exact .ite (fun _ => h.dflSave h₂) fun _ => h

@[simp] def Foot.dflDone (n : Nat) (l : List Nat) : Foot :=
  [.flds (dflEndFields n), .flds (noGainFields n), .part .dfls] ++ Foot.dflStored l ++ Foot.job 15

theorem within_dflEnd {j : UtlJob} {l : List Nat} (h₁ : j.u 9 1 ∈ l) (h₂ : j.u 0x0A 1 ∈ l) :
    Within (Foot.dflDone j.n l) s (s.dflEnd j) := by
  obtain ⟨seq, e⟩ := dflEnd_eq s j
  rw [e]
  have h : Within (Foot.dflDone j.n l) s (s.dflStored j) := (within_dflStored h₁ h₂).mono (by simp)
  exact h.dflClose (Within.refl _ _).trayPut (fun _ => by simp)

/-! ### The commands of UTL -/

theorem within_execDflTailWrite {n : Fin 2} {slot : BitVec 8} (h : execDflTailWrite n slot s = .next t) :
    Within ([.flds [I.DFL_LIM n, R.DFL_TAIL_SLOT n]] ++ Foot.retire ++ Foot.range 15) s t := by
  obtain rfl := Host.Outcome.next.inj h
  exact (Within.refl _ s).hostToBead (.ite (fun _ => (Within.refl _ s).utlPost) fun _ => (Within.refl _ s).wrRange)

/-- The regions that the jobs of DEFLATE engine `n` name. -/
def dflRegions (s : State) (n : Nat) : List Nat :=
  (s.dfls.filter (fun j => decide (j.n = n))).flatMap (fun j => [j.u 9 1, j.u 0x0A 1])

theorem within_execDflJobDone {n : Fin 2} (h : execDflJobDone n s = .next t) : Within (Foot.dflDone n (dflRegions s n)) s t := by
  obtain rfl := Host.Outcome.next.inj h
  split
  next j e =>
    have hn : j.n = n := by simpa using List.find?_some e
    have hj : j ∈ s.dfls.filter (fun j => decide (j.n = n.val)) := List.mem_filter.2 ⟨List.mem_of_find?_eq_some e, by simp [hn]⟩
    rw [← hn]
    exact within_dflEnd (List.mem_flatMap.2 ⟨j, by rwa [hn], by simp⟩) (List.mem_flatMap.2 ⟨j, by rwa [hn], by simp⟩)
  · exact .refl _ _

/-- A job that breaks a rule comes to an error, and nothing is read or written for it. -/
theorem dflRun_refused {j : UtlJob} (h : (j.bad || !s.dflDescOk j) = true) :
    ∃ r : DflRun, s.dflRun j = (r, s) ∧ r.out = [] ∧ 0x10 ≤ r.result := by
  unfold State.dflRun
  by_cases hb : j.bad = true
  · exact ⟨_, if_pos hb, rfl, by decide⟩
  · have hd : (!s.dflDescOk j) = true := by simpa [hb] using h
    exact ⟨_, (if_neg hb).trans (if_pos hd), rfl, by decide⟩

theorem length_dflWord (r : DflRun) (seq : Nat) (x : Time) : (dflWord r seq x).length = 64 := by
  simp [dflWord, timeBytes, zeros]

@[simp] def Foot.dflRefuse (n a : Nat) : Foot :=
  [.flds (dflEndFields n), .part .dfls] ++ Foot.tray ++ [.trayAt a 64] ++ Foot.job 15

/-- A job that breaks a rule writes its completion word alone. -/
theorem within_dflEnd_refused {j : UtlJob} (h : (j.bad || !s.dflDescOk j) = true) :
    Within (Foot.dflRefuse j.n (s.dflSlot j.n j.slot + 0x40)) s (s.dflEnd j) := by
  obtain ⟨r, hr, hout, herr⟩ := dflRun_refused h
  obtain ⟨seq, e⟩ := dflEnd_eq s j
  have stored : s.dflStored j = s := by simp [State.dflStored, hr, hout, show ¬ r.result < 0x10 by omega]
  rw [e, stored, hr]
  exact (Within.refl _ s).dflClose ((Within.refl _ s).trayPutAt (by simp [length_dflWord])) fun h₁ => absurd h₁ (show r.result ≠ 1 by omega)

@[simp] def dflStartFields (n : Nat) : List Fld := [R.DFL_STAT_SLOT n] ++ dflIdleFields n

@[simp] def Foot.dflTake (n : Nat) : Foot := [.flds (dflStartFields n), .part .dfls] ++ Foot.tray ++ Foot.job 15

@[simp] def Foot.dflStart (s : State) (n : Nat) : Foot :=
  .flds (dflStartFields n) :: Foot.dflRefuse n (s.dflSlot n (s.get (R.DFL_HEAD_SLOT n)) + 0x40)

theorem within_execDflJobStart {n : Fin 2} (h : execDflJobStart n s = .next t) : Within (Foot.dflStart s n) s t := by
  obtain rfl := Host.Outcome.next.inj h
  extract_lets head rd j s1 s2 s3 s4
  have h₁ : Within (Foot.dflTake n) s s1 := (Within.refl _ s).trayReadAs.set
  have h₂ : Within (Foot.dflTake n) s s2 := by
    refine Within.set ?_
    exact h₁.put [.dfls] rfl
  have h₃ : Within (Foot.dflTake n) s s3 := .ite (fun _ => h₂.set.set) fun _ => h₂
  have h₄ : Within (Foot.dflTake n) s s4 := h₃.beginJob (h := by simp [dflJobOf])
  have slot : s4.dflSlot n head = s.dflSlot n head := by
    unfold State.dflSlot
    rw [h₄.get_eq _ (by simp [trayFields, recordFields])]
  have take : ∀ u, Within (Foot.dflTake n) s u → Within (Foot.dflStart s n) s u := fun u w => w.mono (by simp)
  refine .ite (fun _ => .refl _ _) fun _ => .ite (fun _ => take _ h₁.set) fun _ => .ite (fun c => ?_) fun _ => take _ h₄
  have w : Within (Foot.dflRefuse n (s4.dflSlot n head + 0x40)) s4 (s4.dflEnd j) := within_dflEnd_refused c
  rw [slot] at w
  exact (take _ h₄).step w (by simp [head])

@[simp] def Foot.dflCut (n : Nat) (l : List Nat) : Foot :=
  [.flds (R.DFL_EVT_CUT n :: dflIdleFields n), .src (E.dflCut n), .part .dfls, .part .freeCtr, .regions l] ++ Foot.put 15 ++ Foot.job 15

theorem within_dflCut {n : Nat} {log : Bool} {l : List Nat} (hl : ∀ j ∈ s.dfls, j.n = n → j.u 9 1 ∈ l) :
    Within (Foot.dflCut n l) s (s.dflCut n log) := by
  unfold State.dflCut
  split
  · exact (Within.refl _ s).dflFree
  next j e =>
    extract_lets out part s1 s2
    have hr : j.u 9 1 ∈ l := hl j (List.mem_of_find?_eq_some e) (by simpa using List.find?_some e)
    have h₁ : Within (Foot.dflCut n l) s s1 := Within.dflFree (.ite (fun _ => (Within.refl _ s).drawn)
      fun _ => (Within.refl _ s).drawn.bufWrite (hd := by simp [hr]))
    have h₂ : Within (Foot.dflCut n l) s s2 := h₁.set.raise
    exact .ite (fun _ => h₂.endJob (by simp [dflJobOf])) fun _ => h₂.put [.jobs] rfl

theorem within_execDflDisable {n : Fin 2} (h : execDflDisable n s = .next t) :
    Within (.fld (R.DFL_CFG_EN n) :: Foot.retire ++
      Foot.dflCut n ((s.dfls.filter (fun j => decide (j.n = n.val))).map (fun j => j.u 9 1))) s t := by
  obtain rfl := Host.Outcome.next.inj h
  have cut : Within (Foot.dflCut n ((s.dfls.filter (fun j => decide (j.n = n.val))).map (fun j => j.u 9 1)))
      (s.set (R.DFL_CFG_EN n) 0) _ :=
    within_dflCut (log := true) fun j hj hn => List.mem_map_of_mem (List.mem_filter.2 ⟨hj, by simp [hn]⟩)
  exact (Within.refl _ s).hostToBead ((Within.refl _ s).set.step cut)

theorem within_execDmaTailWrite {d : Fin 8} {slot : BitVec 8} (h : execDmaTailWrite d slot s = .next t) :
    Within (.flds [I.DMA_LIM d, R.DMA_CFG_TAIL d] :: Foot.retire ++ Foot.dma d) s t := by
  obtain rfl := Host.Outcome.next.inj h
  exact (Within.refl _ s).hostToBead (Within.refl _ s).utlPost.dmaKick

theorem Within.dmaData {j : UtlJob} {host : List Byte} (w : Within A s t) (h : Foot.tray ⊆ A := by simp) :
    Within A s (t.dmaData j host).2.2 :=
  .iteOn (fun r : List Byte × Bool × State => r.2.2) (fun _ => w) fun _ => w.bufRead h

theorem Within.dmaPut {j : UtlJob} {d : List Byte} (w : Within A s t) (ht : Foot.put 15 ⊆ A := by simp)
    (hd : A.region (j.u 0x1C 1) := by simp) : Within A s (t.dmaPut j d) :=
  .ite (fun _ => w) fun _ => .ite (fun _ => w.emit) fun _ => w.bufWrite ht hd

/-- The regions that the jobs of DMA engine `d` name. -/
def dmaRegions (s : State) (d : Nat) : List Nat := (s.dmas.filter (fun j => decide (j.n = d))).map (fun j => j.u 0x1C 1)

theorem mem_dmaRegions {j : UtlJob} {d : Nat} (hj : j ∈ s.dmas) (hn : j.n = d) : j.u 0x1C 1 ∈ dmaRegions s d :=
  List.mem_map_of_mem (List.mem_filter.2 ⟨hj, by simp [hn]⟩)

@[simp] def Foot.dmaDone (d : Nat) (l : List Nat) : Foot := [.part .freeCtr, .regions l] ++ Foot.dma d

theorem within_execDmaJobDone {d : Fin 8} {ok : Bool} {data : List Byte} (h : execDmaJobDone d ok data s = .next t) :
    Within (Foot.dmaDone d (dmaRegions s d)) s t := by
  obtain rfl := Host.Outcome.next.inj h
  split
  · exact .refl _ _
  next j e =>
    have hn : j.n = d := by simpa using List.find?_some e
    have hr : (Foot.dmaDone d (dmaRegions s d)).region (j.u 0x1C 1) := by simp [mem_dmaRegions (List.mem_of_find?_eq_some e) hn]
    extract_lets r s1 dstBad host st s2
    have h₁ : Within (Foot.dmaDone d (dmaRegions s d)) s s1 := (Within.refl _ s).dmaData
    have h₂ : Within (Foot.dmaDone d (dmaRegions s d)) s s2 := .ite (fun _ => h₁.dmaPut (hd := hr)) fun _ =>
      .ite (fun _ => h₁.dmaPut (hd := hr)) fun _ => h₁.drawn.dmaPut (hd := hr)
    exact (h₂.dmaEnd (by simp [hn])).dmaKick

@[simp] def Foot.dmaCut (d : Nat) (l : List Nat) : Foot :=
  [.fld (R.DMA_EVT_CUT d), .part .dmas, .part .freeCtr, .regions l] ++ Foot.put 15 ++ Foot.job 15

theorem within_dmaCut {d : Nat} {log : Bool} : Within (Foot.dmaCut d (dmaRegions s d)) s (s.dmaCut d log) := by
  unfold State.dmaCut
  split
  · exact .refl _ _
  next j e =>
    have hn : j.n = d := by simpa using List.find?_some e
    have hr : (Foot.dmaCut d (dmaRegions s d)).region (j.u 0x1C 1) := by simp [mem_dmaRegions (List.mem_of_find?_eq_some e) hn]
    extract_lets s1 r s2
    have h₁ : Within (Foot.dmaCut d (dmaRegions s d)) s s1 := by
      refine Within.set ?_
      exact (Within.refl _ s).put [.dmas] rfl
    have h₂ : Within (Foot.dmaCut d (dmaRegions s d)) s s2 := h₁.drawn.drawn.dmaPut (hd := hr)
    exact .ite (fun _ => h₂.endJob (by simp [dmaJobOf])) fun _ => h₂.put [.jobs] rfl

theorem within_execDmaDisable {d : Fin 8} (h : execDmaDisable d s = .next t) :
    Within (.fld (R.DMA_CFG_EN d) :: Foot.retire ++ Foot.dmaCut d (dmaRegions s d)) s t := by
  obtain rfl := Host.Outcome.next.inj h
  have cut : Within (Foot.dmaCut d (dmaRegions s d)) (s.set (R.DMA_CFG_EN d) 0) ((s.set (R.DMA_CFG_EN d) 0).dmaCut d true) :=
    within_dmaCut (s := s.set (R.DMA_CFG_EN d) 0)
  exact (Within.refl _ s).hostToBead ((Within.refl _ s).set.step cut)

end

end Sys2Proof.Machine

/-!
Frames read off a footprint permission by permission: each names the fields that it writes and the parts that it frees.
-/

namespace Sys2Proof.Machine

open Sys2Proof.Safety

/-- The parts that a permission frees. -/
@[simp] def Perm.parts : Perm → List Part
  | .part q => [q]
  | .grant _ | .trayAt .. => [.tray, .trayBad]
  | .regions _ => [.dram, .dramBad, .wrQ]
  | .dramWhere _ => [.dram]
  | .keepAt .. => [.keep]
  | _ => []

theorem Perm.mem_parts {p : Perm} {q : Part} (h : p.frees q = true) : q ∈ p.parts := by
  cases p <;> simp [or_assoc] at h ⊢ <;> exact h

/-- The state `u` with the parts of `v` that `m` picks. -/
def graft (m : Part → Bool) (v u : State) : State :=
  { u with
    pending := cond (m .pending) v.pending u.pending,
    tray := cond (m .tray) v.tray u.tray,
    trayBad := cond (m .trayBad) v.trayBad u.trayBad,
    dram := cond (m .dram) v.dram u.dram,
    dramBad := cond (m .dramBad) v.dramBad u.dramBad,
    rdQ := cond (m .rdQ) v.rdQ u.rdQ,
    wrQ := cond (m .wrQ) v.wrQ u.wrQ,
    rdParts := cond (m .rdParts) v.rdParts u.rdParts,
    rows := cond (m .rows) v.rows u.rows,
    keep := cond (m .keep) v.keep u.keep,
    fuses := cond (m .fuses) v.fuses u.fuses,
    strung := cond (m .strung) v.strung u.strung,
    img := cond (m .img) v.img u.img,
    patch := cond (m .patch) v.patch u.patch,
    now := cond (m .now) v.now u.now,
    up := cond (m .up) v.up u.up,
    jobs := cond (m .jobs) v.jobs u.jobs,
    frames := cond (m .frames) v.frames u.frames,
    pics := cond (m .pics) v.pics u.pics,
    strms := cond (m .strms) v.strms u.strms,
    imgs := cond (m .imgs) v.imgs u.imgs,
    grids := cond (m .grids) v.grids u.grids,
    lumas := cond (m .lumas) v.lumas u.lumas,
    refs := cond (m .refs) v.refs u.refs,
    decs := cond (m .decs) v.decs u.decs,
    decJobs := cond (m .decJobs) v.decJobs u.decJobs,
    decOut := cond (m .decOut) v.decOut u.decOut,
    uanc := cond (m .uanc) v.uanc u.uanc,
    hdrs := cond (m .hdrs) v.hdrs u.hdrs,
    lays := cond (m .lays) v.lays u.lays,
    unders := cond (m .unders) v.unders u.unders,
    canv := cond (m .canv) v.canv u.canv,
    binds := cond (m .binds) v.binds u.binds,
    lnk := cond (m .lnk) v.lnk u.lnk,
    recd := cond (m .recd) v.recd u.recd,
    clogQ := cond (m .clogQ) v.clogQ u.clogQ,
    txns := cond (m .txns) v.txns u.txns,
    auds := cond (m .auds) v.auds u.auds,
    dfls := cond (m .dfls) v.dfls u.dfls,
    dmas := cond (m .dmas) v.dmas u.dmas,
    dflRecs := cond (m .dflRecs) v.dflRecs u.dflRecs,
    rings := cond (m .rings) v.rings u.rings,
    flows := cond (m .flows) v.flows u.flows,
    rxs := cond (m .rxs) v.rxs u.rxs,
    tsq := cond (m .tsq) v.tsq u.tsq,
    quarantine := cond (m .quarantine) v.quarantine u.quarantine,
    flits := cond (m .flits) v.flits u.flits,
    sec := cond (m .sec) v.sec u.sec,
    trims := cond (m .trims) v.trims u.trims,
    cal := cond (m .cal) v.cal u.cal,
    autoTimes := cond (m .autoTimes) v.autoTimes u.autoTimes,
    freeCtr := cond (m .freeCtr) v.freeCtr u.freeCtr }

theorem cond_cond_same {α : Type} (b : Bool) (x d y : α) : cond b x (cond b d y) = cond b x y := by cases b <;> rfl

/-- What is forgotten and what is grafted are the same parts. -/
theorem graft_mask (m : Part → Bool) (v u : State) : graft m v (mask m u) = graft m v (beyond u) := by
  simp only [graft, mask, beyond, cond_cond_same]

theorem graft_self (m : Part → Bool) (u : State) : graft m u (beyond u) = beyond u := by
  simp only [graft, beyond, Bool.cond_self]

/-- A permission writes fields of a list alone. -/
@[simp] def Perm.lies (l : List Fld) : Perm → Prop
  | .fld g => g ∈ l
  | .flds k => ∀ g ∈ k, g ∈ l
  | .src e => R.EVT_STAT e.1 e.2 ∈ l
  | .kin _ | .block _ | .sets _ => False
  | _ => True

section

variable {A : Foot} {s t : State}

/-- What the state holds beyond its registers is as before, but for the parts of a list that holds each permission's. -/
theorem Within.beyond_of (w : Within A s t) (l : List Part) (hl : ∀ p ∈ A, p.parts ⊆ l := by simp) {b : State}
    (h : graft (fun q => decide (q ∈ l)) t (beyond s) = b := by rfl) : beyond t = b := by
  have hm : ∀ q, A.frees q = true → decide (q ∈ l) = true := fun q e => by
    obtain ⟨p, hp, he⟩ := List.any_eq_true.1 e
    exact decide_eq_true (hl p hp (Perm.mem_parts he))
  rw [← h, ← graft_mask, ← mask_mono hm w.rest_eq, graft_mask, graft_self]

theorem Within.keepsAmong {l : List Fld} (w : Within A s t) (h : ∀ p ∈ A, p.lies l := by simp +contextual) :
    Safety.keeps (among l) s t :=
  w.keeps fun p hp f hf => by
    have hl := h p hp
    cases p <;> simp only [Perm.lies, Perm.writes, Perm.forces, or_false, or_self] at hl hf
    case fld g => exact List.mem_map.2 ⟨g, hl, hf.symm⟩
    case flds k =>
      obtain ⟨g, hg, e⟩ := List.mem_map.1 hf
      exact List.mem_map.2 ⟨g, hl g hg, e⟩
    case src e => exact List.mem_map.2 ⟨_, hl, hf.symm⟩

end

end Sys2Proof.Machine

namespace Sys2Proof.Machine

open Sys2Proof.Safety

section

variable {A B : Foot} {s t u : State}

theorem Within.dramOutside {a n : Nat} (w : Within A s t) (h : ∀ x, A.putsDram s x → a ≤ x ∧ x < a + n) : dramOutside a n s t :=
  fun x hx => w.dram_eq x fun e => by have := h x e; omega

theorem Within.dramQueued (w : Within A s t) (h : ∀ a, A.putsDram s a → queued s a) : dramQueued s t :=
  fun a ha => w.dram_eq a fun e => by
    obtain ⟨x, hx, e⟩ := h a e
    exact ha x hx e

theorem rod_of_memFields {ch : Nat} : ∀ g ∈ memFields ch, g.rod = 14 := by
  simp +contextual [memFields, or_imp, E.memUe, E.memNoStep, E.memCeRate, E.memErase]

theorem rod_of_commitFields {r : Nat} : ∀ g ∈ commitFields r, g.rod = r ∨ g ∈ sources [E.commitReject] := by
  simp +contextual [commitFields, or_imp]

/-- A list of fields lies in a frame whose blocks and list hold each of its fields. -/
theorem inBlocks_of_among {rods : List Nat} {l k : List Fld} (h : ∀ g ∈ k, g.rod ∈ rods ∨ g ∈ l) {f : Fld} (hf : among k f) :
    inBlocks rods l f := by
  obtain ⟨g, hg, e⟩ := List.mem_map.1 hf
  have hr : g.rod = f.rod := congrArg Prod.fst e
  exact (h g hg).imp (fun hg => hr ▸ hg) fun hl => List.mem_map.2 ⟨g, hl, e⟩

theorem keeps_freqChangeDone {ch : Fin 8} (w : Within (Foot.freqDone s ch) s t) :
    keeps (inBlocks [8, 9, 13, 14, 15] resumeFields) s t := by
  have block : ∀ r ∈ [8, 9, 13, 14, 15], ∀ f : Fld, f.rod = r → inBlocks [8, 9, 13, 14, 15] resumeFields f :=
    fun r hr f hf => .inl (hf ▸ hr)
  have mem : ∀ f, among (memFields ch) f → inBlocks [8, 9, 13, 14, 15] resumeFields f := fun f =>
    inBlocks_of_among fun g hg => .inl (by simp [rod_of_memFields g hg])
  have commit : ∀ r ∈ [8, 9], ∀ f, among (commitFields r) f → inBlocks [8, 9, 13, 14, 15] resumeFields f := fun r hr f =>
    inBlocks_of_among fun g hg => (rod_of_commitFields g hg).imp (fun e => by simp at hr ⊢; omega) (by simp +contextual [resumeFields])
  have list : ∀ k, (∀ f, among k f → among resumeFields f) → ∀ f, among k f → inBlocks [8, 9, 13, 14, 15] resumeFields f :=
    fun k hk f hf => .inr (hk f hf)
  have power := list powerFields (by simp +contextual [resumeFields])
  have lanes := list laneFields (by simp +contextual [resumeFields])
  have gates := list gateFields (by simp +contextual [resumeFields, gateFields])
  have tray := list trayFields (by simp +contextual [resumeFields])
  have record8 := list (recordFields 8) (by simp +contextual [resumeFields])
  have record9 := list (recordFields 9) (by simp +contextual [resumeFields])
  have record15 := list (recordFields 15) (by simp +contextual [resumeFields])
  refine w.keeps ?_
  generalize inBlocks [8, 9, 13, 14, 15] resumeFields = P at *
  simp only [List.forall_mem_cons, List.not_mem_nil, false_imp_iff, forall_const, and_true] at block commit
  obtain ⟨b8, b9, b13, b14, b15⟩ := block
  obtain ⟨c8, c9⟩ := commit
  simp +contextual [or_imp, b8, b9, b13, b14, b15, c8, c9, mem, power, lanes, gates, tray, record8, record9, record15]

/-- The frame of a channel's change that ends, and of what then goes on. -/
theorem frame_freqChangeDone {ch : Fin 8} (w : Within (Foot.freqDone s ch) s t) :
    keeps (inBlocks [8, 9, 13, 14, 15] resumeFields) s t ∧
      beyond t = { beyond s with
        dram := t.dram, rows := t.rows, dramBad := t.dramBad, wrQ := t.wrQ, strms := t.strms, dmas := t.dmas, jobs := t.jobs
        trayBad := t.trayBad, tray := t.tray, clogQ := t.clogQ, canv := t.canv, flits := t.flits } ∧
      trayOf [8, 9, 15] s t ∧ dramQueued s t :=
  ⟨keeps_freqChangeDone w,
    w.beyond_of [.dram, .rows, .dramBad, .wrQ, .strms, .dmas, .jobs, .trayBad, .tray, .clogQ, .canv, .flits],
    w.trayOf (by simp +contextual [Foot.putsTray]), w.dramQueued (by simp [Foot.putsDram])⟩

/-- The frame of the refreshes of a rank. -/
theorem frame_refresh {ch : Fin 8} {rank : Fin 2} (w : Within (Foot.refresh s ch rank) s t) :
    keepsBut (among ([I.CH_CHANGE ch, I.CH_CHDOWN ch, I.CH_SAMEBANK ch, I.CH_STEPSET ch, I.CH_STEPWAIT ch, I.CH_TEMP ch,
        R.CH_EVT_SAFE_FORCED ch, R.CH_STAT_STATE ch, I.CH_POSTPONED ch rank] ++ memFields ch ++ commitFields 14)) [14] s t ∧
      beyond t = { beyond s with dram := t.dram, rows := t.rows, dramBad := t.dramBad, wrQ := t.wrQ } ∧ dramQueued s t :=
  ⟨w.keepsBut (by simp +contextual [or_imp]) (by simp), w.beyond_of [.dram, .rows, .dramBad, .wrQ],
    w.dramQueued (by simp [Foot.putsDram])⟩

/-- The fields of a DEFLATE job's end are those of its frame. -/
theorem keeps_dflDone {n : Fin 2} {l : List Nat} (w : Within (Foot.dflDone n l) s t) :
    keeps (among ([I.DFL_OFF n, I.DFL_REGION n, R.DFL_EVT_DESC_BAD n, R.DFL_EVT_ERR n, R.DFL_EVT_ERR_CNT n, R.DFL_EVT_FIRST_ERR n,
      R.DFL_EVT_NO_GAIN n, R.DFL_HEAD_SLOT n, R.DFL_STAT_STATE n] ++ trayFields ++ recordFields 15 ++
      sources [E.dflDescBad n, E.dflDone n, E.dflErr n, E.dflNoGain n])) s t :=
  w.keepsAmong

end

/-- Settles O54: each command's frame is read off its footprint; a write that issues is one of the writes queued at first. -/
theorem memoryFrame : Obligations.MemoryFrame := by
  unfold Obligations.MemoryFrame
  refine ⟨?refresh, ?refreshPostponeLimit, ?mr4Poll, ?scrubRead, ?retrainTimer, ?stepSetDone, ?ceWindow, ?safePointTimeout,
    ?freqReq, ?freqChangeDone, ?panicStart, ?panicEnd, ?panicLong, ?chHang, ?chInitDone, ?chPoisonFillDone,
    ?schedulingDecision, ?dflTailWrite, ?dflJobStart, ?dflJobDone, ?dflDisable, ?dmaTailWrite, ?dmaJobDone, ?dmaDisable⟩
  case refresh =>
    intro ch rank s t h
    exact frame_refresh (drains_execRefresh h).within
  case refreshPostponeLimit =>
    intro ch rank s t h
    exact frame_refresh (drains_execRefreshPostponeLimit h).within
  case mr4Poll =>
    intro ch hot temp s t h
    have w := within_execMr4Poll h
    exact ⟨w.keepsAmong, w.beyond_of []⟩
  case scrubRead =>
    intro ch errs s t h
    have w := within_execScrubRead h
    exact ⟨w.keepsAmong, w.beyond_of []⟩
  case retrainTimer =>
    intro ch s t h
    have w := within_execRetrainTimer h
    exact ⟨w.keepsAmong, w.beyond_of []⟩
  case stepSetDone =>
    intro ch works s t h
    have w := within_execStepSetDone h
    exact ⟨w.keepsAmong, w.beyond_of []⟩
  case ceWindow =>
    intro ch s t h
    have w := within_execCeWindow h
    exact ⟨w.keepsAmong, w.beyond_of []⟩
  case safePointTimeout =>
    intro ch s t h
    have w := within_execSafePointTimeout h
    exact ⟨w.keepsAmong, w.beyond_of []⟩
  case freqReq =>
    intro ch sp urgent s t h
    have w := (drains_execFreqReq h).within
    exact ⟨w.keepsAmong, w.beyond_of [.dram, .rows, .dramBad, .wrQ], w.dramQueued (by simp [Foot.putsDram])⟩
  case freqChangeDone =>
    intro ch s t h
    exact frame_freqChangeDone (drains_execFreqChangeDone h).within
  case panicStart =>
    intro k s t h
    have w := within_execPanicStart h
    exact ⟨w.keepsAmong, w.beyond_of []⟩
  case panicEnd =>
    intro k s t h
    have w := within_execPanicEnd h
    exact ⟨w.keepsAmong, w.beyond_of []⟩
  case panicLong =>
    intro s t h
    have w := within_execPanicLong h
    exact ⟨w.keepsAmong, w.beyond_of []⟩
  case chHang =>
    intro ch s t h
    have w := within_execChHang h
    exact ⟨w.keepsAmong, w.beyond_of [.rdQ, .rows, .wrQ, .rdParts, .autoTimes]⟩
  case chInitDone =>
    intro ch works s t h
    have w := within_execChInitDone h
    exact ⟨w.keepsAmong, w.beyond_of []⟩
  case chPoisonFillDone =>
    intro ch s t h
    have w := within_execChPoisonFillDone h
    exact ⟨w.keepsAmong, w.beyond_of [.dram, .dramBad, .refs], w.dramOutside (by simp [Foot.putsDram, inChannel])⟩
  case schedulingDecision =>
    intro ch errs s t h
    have w := (drains_execSchedulingDecision h).within
    exact ⟨w.keepsAmong, w.beyond_of [.dram, .rdQ, .rows, .dramBad, .wrQ, .rdParts], w.dramQueued (by simp [Foot.putsDram])⟩
  case dflTailWrite =>
    intro n slot s t h
    have w := within_execDflTailWrite h
    exact ⟨w.keepsAmong, w.beyond_of []⟩
  case dflJobStart =>
    intro n s t h
    have w := within_execDflJobStart h
    exact ⟨w.keepsAmong, w.beyond_of [.jobs, .trayBad, .tray, .clogQ, .dfls], w.trayOutside (by simp [Foot.putsTray])⟩
  case dflJobDone =>
    intro n s t h
    have w := within_execDflJobDone h
    exact ⟨keeps_dflDone w, w.beyond_of [.dram, .dflRecs, .jobs, .trayBad, .dramBad, .wrQ, .tray, .clogQ, .freeCtr, .dfls],
      w.trayOf (by simp +contextual [Foot.putsTray]), w.dramOf (by simp [Foot.putsDram, dflRegions])⟩
  case dflDisable =>
    intro n s t h
    have w := within_execDflDisable h
    exact ⟨w.keepsAmong, w.beyond_of [.dram, .jobs, .trayBad, .dramBad, .wrQ, .tray, .clogQ, .freeCtr, .dfls],
      w.trayOf (by simp +contextual [Foot.putsTray]), w.dramOf (by simp [Foot.putsDram])⟩
  case dmaTailWrite =>
    intro d slot s t h
    have w := within_execDmaTailWrite h
    exact ⟨w.keepsAmong, w.beyond_of [.dmas, .jobs, .trayBad, .tray, .clogQ], w.trayOf (by simp +contextual [Foot.putsTray])⟩
  case dmaJobDone =>
    intro d ok data s t h
    have w := within_execDmaJobDone h
    exact ⟨w.keepsAmong, w.beyond_of [.dram, .dmas, .jobs, .trayBad, .dramBad, .wrQ, .tray, .clogQ, .freeCtr],
      w.trayOf (by simp +contextual [Foot.putsTray]), w.dramOf (by simp [Foot.putsDram, dmaRegions])⟩
  case dmaDisable =>
    intro d s t h
    have w := within_execDmaDisable h
    exact ⟨w.keepsAmong, w.beyond_of [.dram, .dmas, .jobs, .trayBad, .dramBad, .wrQ, .tray, .clogQ, .freeCtr],
      w.trayOf (by simp +contextual [Foot.putsTray]), w.dramOf (by simp [Foot.putsDram, dmaRegions])⟩

end Sys2Proof.Machine

/-!
What leaves the fuses alone.

No operation that a register write can cause changes the fuses or what SEC holds, but the warm device reset, which cuts a burn. Each
operation has a lemma of its name; they stand in the order of the model's files.
-/

namespace Sys2Proof.Machine

/-- From `s` to `t` neither the fuses nor what SEC holds changed. -/
abbrev Sealed (s t : State) : Prop := t.fuses = s.fuses ∧ t.sec = s.sec

/-- A change of state leaves the fuses and what SEC holds. -/
def Seal (g : State → State) : Prop := ∀ u, Sealed u (g u)

/-- Each step of a fold leaves the fuses and what SEC holds. -/
def Seals {α : Type} (g : State → α → State) : Prop := ∀ u x, Sealed u (g u x)

section
variable {s t u : State} {α : Type} {g : State → α → State} {l : List α} {c : Prop} [Decidable c]

theorem Sealed.refl (s : State) : Sealed s s := ⟨rfl, rfl⟩

theorem Sealed.trans (h : Sealed s t) (h' : Sealed t u) : Sealed s u := ⟨h'.1.trans h.1, h'.2.trans h.2⟩

theorem Sealed.ite (ht : Sealed s t) (hu : Sealed s u) : Sealed s (if c then t else u) := by
  split
  · exact ht
  · exact hu

theorem Sealed.iteOn {β : Type} (get : β → State) {a b : β} (ha : Sealed s (get a)) (hb : Sealed s (get b)) :
    Sealed s (get (if c then a else b)) := by
  split
  · exact ha
  · exact hb

@[simp] theorem sealed_ite :
    (if c then s else t).fuses = (if c then s.fuses else t.fuses) ∧ (if c then s else t).sec = if c then s.sec else t.sec :=
  ⟨apply_ite .., apply_ite ..⟩

@[simp] theorem seal_iff {g : State → State} : Seal g ↔ ∀ u, (g u).fuses = u.fuses ∧ (g u).sec = u.sec := Iff.rfl

@[simp] theorem seals_iff : Seals g ↔ ∀ u x, (g u x).fuses = u.fuses ∧ (g u x).sec = u.sec := Iff.rfl

@[simp] theorem sealed_foldl (h : Seals g) : Sealed s (l.foldl g s) := by
  induction l generalizing s with
  | nil => exact .refl s
  | cons x l ih => exact (h s x).trans ih

/-- A fold that carries a state beside other values. -/
theorem Sealed.foldlOn {β : Type} (get : β → State) {g : β → α → β} {b : β} (h : ∀ b x, Sealed (get b) (get (g b x))) :
    Sealed (get b) (get (l.foldl g b)) := by
  induction l generalizing b with
  | nil => exact .refl _
  | cons x l ih => exact (h b x).trans ih

@[simp] theorem sealed_when {b : Bool} {g : State → State} (h : Seal g) : Sealed s (s.when b g) := .ite (h s) (.refl s)

theorem sealed_set {f : Fld} {v : Nat} : Sealed s (s.set f v) := ⟨rfl, rfl⟩

theorem sealed_emit {o : Out} : Sealed s (s.emit o) := ⟨rfl, rfl⟩

@[simp] theorem sealed_msix {v} : Sealed s (s.msix v) := by constructor <;> simp [State.msix]
@[simp] theorem sealed_raise {e} : Sealed s (s.raise e) := by constructor <;> simp [State.raise]
@[simp] theorem sealed_inc {e} : Sealed s (s.inc e) := by constructor <;> simp [State.inc]
@[simp] theorem sealed_hostRetired : Sealed s s.hostRetired := by constructor <;> simp [State.hostRetired]

@[simp] theorem sealed_hostTo {rod : Nat} {g : State → State} (h : Seal g) : Sealed s (s.hostTo rod g) :=
  .ite (.refl s) (.ite (h s) sealed_hostRetired)

@[simp] theorem sealed_hostToBead {rod bead : Nat} {g : State → State} (h : Seal g) : Sealed s (s.hostToBead rod bead g) :=
  sealed_hostTo fun u => .ite (h u) (.refl u)

theorem Within.sealed {A : Foot} (w : Within A s t) (hf : A.frees .fuses = false := by simp)
    (hs : A.frees .sec = false := by simp) :
    Sealed s t :=
  ⟨by simpa [mask, hf] using congrArg State.fuses w.rest_eq, by simpa [mask, hs] using congrArg State.sec w.rest_eq⟩

@[simp] theorem State.via_next {t : State} : s.via (.next t) = t := rfl

end

section

variable {s : State}

/-! ### Shared operations -/

@[simp] theorem sealed_sets {l : List (Fld × Nat)} : Sealed s (s.sets l) := by constructor <;> simp [State.sets]

@[simp] theorem sealed_raiseIf {b : Bool} {e : E.Src} : Sealed s (s.raiseIf b e) := by constructor <;> simp [State.raiseIf]

@[simp] theorem sealed_commitWhere {p : Key → Bool} : Sealed s (s.commitWhere p) := by constructor <;> simp [State.commitWhere]

@[simp] theorem sealed_commitDom {rod d : Nat} : Sealed s (s.commitDom rod d) := by constructor <;> simp [State.commitDom]

@[simp] theorem sealed_clearPend {rod d : Nat} : Sealed s (s.clearPend rod d) := by constructor <;> simp [State.clearPend]

@[simp] theorem sealed_commitBad {rod d rule : Nat} : Sealed s (s.commitBad rod d rule) := by
  unfold State.commitBad
  split <;> constructor <;> simp

@[simp] theorem sealed_tryCommit {rod d : Nat} {rules : List (Nat × Bool)} : Sealed s (s.tryCommit rod d rules).1 := by
  unfold State.tryCommit
  split <;> constructor <;> simp

@[simp] theorem sealed_commitAt {rod d : Nat} {rules : State → (Fld → Nat) → Nat → List (Nat × Bool)} :
    Sealed s (s.commitAt rod d rules) := by
  constructor <;> simp [State.commitAt]

@[simp] theorem sealed_wrRange {rod addr : Nat} : Sealed s (s.wrRange rod addr) := by
  unfold State.wrRange
  extract_lets b s1
  have h₁ : Sealed s s1 := .ite (.refl s) (by constructor <;> simp)
  constructor <;> simp [h₁]

@[simp] theorem sealed_record {r : ClogRec} : Sealed s (s.record r) := by constructor <;> simp [State.record]

@[simp] theorem sealed_beginJob {j : Job} : Sealed s (s.beginJob j) := by constructor <;> simp [State.beginJob]

@[simp] theorem sealed_endJob {j : Job} {status : Nat} : Sealed s (s.endJob j status) := by constructor <;> simp [State.endJob]

/-! ### The Tray -/

@[simp] theorem sealed_trayDeny {port : Nat} {wr : Bool} {gran : Nat} : Sealed s (s.trayDeny port wr gran) := by
  unfold State.trayDeny
  split <;> constructor <;> simp

@[simp] theorem sealed_trayUnc {gran : Nat} : Sealed s (s.trayUnc gran) := by constructor <;> simp [State.trayUnc]

@[simp] theorem sealed_trayStore {a : Nat} {d : List Byte} : Sealed s (s.trayStore a d) := by
  unfold State.trayStore
  extract_lets n part s1
  clear_value part
  split <;> constructor <;> simp [s1]

@[simp] theorem sealed_trayReadAs {rod port a n : Nat} : Sealed s (s.trayReadAs rod port a n).2.2 := by
  unfold State.trayReadAs
  split
  · constructor <;> simp
  · split <;> constructor <;> simp

@[simp] theorem sealed_trayWriteAs {rod port a : Nat} {d : List Byte} : Sealed s (s.trayWriteAs rod port a d).2 := by
  unfold State.trayWriteAs
  split <;> constructor <;> simp

@[simp] theorem sealed_rodUse {rod a n : Nat} : Sealed s (s.rodUse rod a n) := by constructor <;> simp [State.rodUse]

@[simp] theorem sealed_trayPut {rod a : Nat} {d : List Byte} : Sealed s (s.trayPut rod a d) := by
  constructor <;> simp [State.trayPut]

/-! ### The host's accesses -/

@[simp] theorem sealed_hostRead {rod : Nat} {g : State → Nat × State} (h : ∀ u, Sealed u (g u).2) : Sealed s (s.hostRead rod g) :=
  .ite (.refl s) (.ite (h s) sealed_hostRetired)

@[simp] theorem sealed_hostReadBead {rod bead : Nat} {g : State → Nat × State} (h : ∀ u, Sealed u (g u).2) :
    Sealed s (s.hostReadBead rod bead g) :=
  sealed_hostRead fun u => .iteOn Prod.snd (h u) (.refl u)

/-! ### DRAM channels -/

@[simp] theorem sealed_setCwBad {w : Nat} {bad : Bool} : Sealed s (s.setCwBad w bad) := by constructor <;> simp [State.setCwBad]

@[simp] theorem sealed_dramPutByte {region off : Nat} {b : Byte} : Sealed s (s.dramPutByte region off b) := by
  unfold State.dramPutByte
  split <;> constructor <;> simp

@[simp] theorem sealed_dramPut {region off : Nat} {d : List Byte} : Sealed s (s.dramPut region off d) := by
  unfold State.dramPut
  extract_lets s1
  have h₁ : Sealed s s1 := by constructor <;> simp [s1]
  exact h₁.trans (sealed_foldl fun u k => .ite (by split <;> constructor <;> simp) (.refl u))

@[simp] theorem sealed_pendChange {ch sp down : Nat} : Sealed s (s.pendChange ch sp down) := by
  constructor <;> simp [State.pendChange]

@[simp] theorem sealed_stepDown {ch : Nat} : Sealed s (s.stepDown ch) := by
  unfold State.stepDown
  split <;> constructor <;> simp

@[simp] theorem sealed_memCe {ch d : Nat} : Sealed s (s.memCe ch d) := by
  unfold State.memCe
  extract_lets s1 s2 s3
  have h₁ : Sealed s s1 := by constructor <;> simp [s1]
  have h₂ : Sealed s s2 := by constructor <;> simp [s2, h₁]
  have h₃ : Sealed s s3 := .ite (h₂.trans (by constructor <;> simp)) h₂
  exact .ite (h₃.trans (by constructor <;> simp)) h₃

@[simp] theorem sealed_memUe {ch cw : Nat} : Sealed s (s.memUe ch cw) := by constructor <;> simp [State.memUe]

@[simp] theorem sealed_memDecode {ch cw errs : Nat} : Sealed s (s.memDecode ch cw errs).2 := by
  unfold State.memDecode
  split
  · constructor <;> simp
  · split <;> constructor <;> simp

@[simp] theorem sealed_openRow {ch x : Nat} : Sealed s (s.openRow ch x) := by constructor <;> simp [State.openRow]

@[simp] theorem sealed_issueWrite {e : WrEnt} {errs : Nat} : Sealed s (s.issueWrite e errs) := by
  constructor <;> simp [State.issueWrite]

@[simp] theorem sealed_drainWrites {ch : Nat} : Sealed s (s.drainWrites ch) :=
  sealed_foldl fun u c => by cases c <;> constructor <;> simp

@[simp] theorem sealed_startChange {ch sp down : Nat} : Sealed s (s.startChange ch sp down) := by
  constructor <;> simp [State.startChange]

@[simp] theorem sealed_freqReq {ch sp : Nat} {urgent : Bool} : Sealed s (s.freqReq ch sp urgent) := by
  constructor <;> simp [State.freqReq]

/-! ### Pictures -/

@[simp] theorem sealed_modFrame {tag : Nat} {g : Frame → Frame} : Sealed s (s.modFrame tag g) := by
  constructor <;> simp [State.modFrame]

@[simp] theorem sealed_writeEntry {rod tag k buf st src : Nat} : Sealed s (s.writeEntry rod tag k buf st src) := by
  unfold State.writeEntry
  split <;> constructor <;> simp

@[simp] theorem sealed_stsConceal {tag k : Nat} : Sealed s (s.stsConceal tag k) := by
  unfold State.stsConceal
  split <;> constructor <;> simp

@[simp] theorem sealed_stsRecord {tag : Nat} : Sealed s (s.stsRecord tag) := by
  unfold State.stsRecord
  split <;> constructor <;> simp

@[simp] theorem sealed_picClosed {tag : Nat} : Sealed s (s.picClosed tag) := by
  unfold State.picClosed
  extract_lets s1
  have h₁ : Sealed s s1 := sealed_stsRecord
  split
  · exact .ite (h₁.trans sealed_trayPut) h₁
  · exact h₁

@[simp] theorem sealed_conceal {tag k : Nat} : Sealed s (s.conceal tag k) := by
  unfold State.conceal
  split <;> constructor <;> simp

@[simp] theorem sealed_picNobuf : Sealed s (s.picNobuf) := by constructor <;> simp [State.picNobuf]

@[simp] theorem sealed_stsPending {f : Frame} {blk : Nat} : Sealed s (s.stsPending f blk) := by
  constructor <;> simp [State.stsPending]

theorem sealed_withPics {l : List Pic} : Sealed s { s with pics := l } := ⟨rfl, rfl⟩

@[simp] theorem sealed_picStart {f : Frame} : Sealed s (s.picStart f) := by
  unfold State.picStart
  extract_lets +onlyGivenNames slot blk s1
  have h₁ : Sealed s s1 := .ite (by constructor <;> simp) (.refl s)
  refine .ite ?_ (h₁.trans (sealed_withPics.trans sealed_picNobuf))
  extract_lets buf s2 s3
  have h₂ : Sealed s s2 := h₁.trans (sealed_trayPut.trans sealed_set)
  have h₃ : Sealed s s3 := h₂.trans sealed_withPics
  clear_value buf
  split
  · exact h₃.trans sealed_set
  · exact h₃.trans sealed_picNobuf

/-! ### Composition -/

@[simp] theorem sealed_composeUse {n y : Nat} : Sealed s (s.composeUse n y) := by constructor <;> simp [State.composeUse]

/-! ### Encoders -/

@[simp] theorem sealed_modStrm {n : Nat} {g : Strm → Strm} : Sealed s (s.modStrm n g) := by constructor <;> simp [State.modStrm]

@[simp] theorem sealed_withStrm {n : Nat} : Sealed s (s.withStrm n) := by constructor <;> simp [State.withStrm]

@[simp] theorem sealed_commitDesc {rod n : Nat} : Sealed s (s.commitDesc rod n) := by
  unfold State.commitDesc
  extract_lets r new old s1
  have h₁ : Sealed s s1 := sealed_modStrm
  split
  · extract_lets s2
    have h₂ : Sealed s s2 := .ite h₁ (h₁.trans (by constructor <;> simp))
    exact h₂.trans sealed_raise
  · constructor <;> simp [h₁]

@[simp] theorem sealed_dueMark : Sealed s (s.dueMark) := by constructor <;> simp [State.dueMark]

@[simp] theorem sealed_encStart {e : Nat} {c : Strm × Due × Time} : Sealed s (s.encStart e c) := within_encStart.sealed

@[simp] theorem sealed_encRelease : Sealed s (s.encRelease) := within_encRelease.sealed

@[simp] theorem sealed_encKick : Sealed s (s.encKick) := ((Within.refl Foot.encs s).encKick).sealed

@[simp] theorem sealed_encDue {p : Desc → Bool} {tag : Nat} : Sealed s (s.encDue p tag) := by constructor <;> simp [State.encDue]

@[simp] theorem sealed_encSource {tag : Nat} : Sealed s (s.encSource tag) := by constructor <;> simp [State.encSource]

@[simp] theorem sealed_encCut {e : Nat} : Sealed s (s.encCut e) := by
  unfold State.encCut
  split
  · split <;> constructor <;> simp
  · constructor <;> simp

@[simp] theorem sealed_schedIgn {r : Nat} : Sealed s (s.schedIgn r) := by constructor <;> simp [State.schedIgn]

@[simp] theorem sealed_sched {cod stream : Nat} {g : State → State} (h : Seal g) : Sealed s (s.sched cod stream g) :=
  sealed_hostTo fun u => .ite sealed_wrRange
    (((sealed_withStrm (s := u) (n := stream)).trans (h _)).trans sealed_encKick)

@[simp] theorem sealed_execSchedCommit {cod : Fin 2} {stream : BitVec 12} : Sealed s (s.via (execSchedCommit cod stream s)) := by
  constructor <;> simp [execSchedCommit]

@[simp] theorem sealed_execSchedStart {cod : Fin 2} {stream : BitVec 12} : Sealed s (s.via (execSchedStart cod stream s)) := by
  constructor <;> simp [execSchedStart]

@[simp] theorem sealed_execSchedIdr {cod : Fin 2} {stream : BitVec 12} : Sealed s (s.via (execSchedIdr cod stream s)) := by
  constructor <;> simp [execSchedIdr]

@[simp] theorem sealed_encIdle {cod k : Nat} : Sealed s (s.encIdle cod k) := by constructor <;> simp [State.encIdle]

/-! ### Decoders -/

@[simp] theorem sealed_execDecInWr {r : Fin 2} {off : BitVec 30} : Sealed s (s.via (execDecInWr r off s)) := by
  constructor <;> simp [execDecInWr]

@[simp] theorem sealed_modDec {r : Nat} {g : DecJob → DecJob} : Sealed s (s.modDec r g) := by constructor <;> simp [State.modDec]

@[simp] theorem sealed_decKick {r : Nat} : Sealed s (s.decKick r) := by
  unfold State.decKick
  split
  · refine .ite (.refl s) ?_
    split
    · exact sealed_set
    · constructor <;> simp
  · exact .refl s

@[simp] theorem sealed_decKickAll : Sealed s (s.decKickAll) := by constructor <;> simp [State.decKickAll]

@[simp] theorem sealed_decCut {r : Nat} : Sealed s (s.decCut r) := by
  unfold State.decCut
  split <;> constructor <;> simp

@[simp] theorem sealed_decOn {r : Nat} : Sealed s (s.decOn r) := by
  unfold State.decOn
  split <;> constructor <;> simp

/-! ### NVMe -/

@[simp] theorem sealed_modRec {g : Rec → Rec} : Sealed s (s.modRec g) := by constructor <;> simp [State.modRec]

@[simp] theorem sealed_nvIssue {d : Nat} {a : NvAsk} : Sealed s (s.nvIssue d a) := by constructor <;> simp [State.nvIssue]

@[simp] theorem sealed_nvMember {a : NvAsk} : Sealed s (s.nvMember a) := by constructor <;> simp [State.nvMember]

@[simp] theorem sealed_nvSend {id : Nat} : Sealed s (s.nvSend id) := by
  unfold State.nvSend
  split <;> constructor <;> simp

@[simp] theorem sealed_nvPump : Sealed s (s.nvPump) := by constructor <;> simp [State.nvPump]

@[simp] theorem sealed_volMove {op : Nat → NvOp} {v len : Nat} : Sealed s (s.volMove op v len) := by
  constructor <;> simp [State.volMove]

@[simp] theorem sealed_volWrite {blk : Nat} {data : List Byte} {op : NvOp} : Sealed s (s.volWrite blk data op) := by
  constructor <;> simp [State.volWrite]

@[simp] theorem sealed_volAll {a : NvAsk} : Sealed s (s.volAll a) := by constructor <;> simp [State.volAll]

@[simp] theorem sealed_volFlush : Sealed s (s.volFlush) := by constructor <;> simp [State.volFlush]

@[simp] theorem sealed_nvAdmin {d : Nat} {l : List NvOp} : Sealed s (s.nvAdmin d l) := by constructor <;> simp [State.nvAdmin]

/-! ### The recorder -/

@[simp] theorem sealed_modTake {n : Nat} {g : Take → Take} : Sealed s (s.modTake n g) := by constructor <;> simp [State.modTake]

@[simp] theorem sealed_recIdle : Sealed s (s.recIdle) := by
  unfold State.recIdle
  split <;> constructor <;> simp

@[simp] theorem sealed_recAppend {take kind tag : Nat} {body : List Byte} : Sealed s (s.recAppend take kind tag body) := by
  constructor <;> simp [State.recAppend]

@[simp] theorem sealed_recDir {n : Nat} {e : List Byte} : Sealed s (s.recDir n e) := by constructor <;> simp [State.recDir]

@[simp] theorem sealed_recOpen {t : Take} {f : Frame} {firstTag : Nat} {pre : List Nat} :
    Sealed s (s.recOpen t f firstTag pre) := by
  constructor <;> simp [State.recOpen]

@[simp] theorem sealed_recIndex {n : Nat} : Sealed s (s.recIndex n) := by
  unfold State.recIndex
  split <;> constructor <;> simp

@[simp] theorem sealed_recEntry {n : Nat} {e : IdxEnt} : Sealed s (s.recEntry n e) := by
  unfold State.recEntry
  extract_lets s1
  have h₁ : Sealed s s1 := sealed_modTake
  split
  · exact .ite (h₁.trans sealed_recIndex) h₁
  · exact h₁

@[simp] theorem sealed_recSeal {t : Take} {reason : Nat} : Sealed s (s.recSeal t reason) := by
  constructor <;> simp [State.recSeal]

@[simp] theorem sealed_recOpenEmpty {t : Take} : Sealed s (s.recOpenEmpty t) := by constructor <;> simp [State.recOpenEmpty]

@[simp] theorem sealed_recSettle : Sealed s (s.recSettle) := by
  refine sealed_foldl fun u t => ?_
  split
  · exact .ite (by constructor <;> simp) (.refl u)
  · exact .refl u

@[simp] theorem sealed_recStage : Sealed s (s.recStage) := by
  unfold State.recStage
  split
  · exact .refl s
  · next p rest _ =>
    extract_lets setStage dir s1
    have hdir : ∀ u st, Sealed s u → Sealed s (dir u st) := fun u st h => by
      unfold dir
      split
      · exact h.trans sealed_recDir
      · exact h
    have hset : ∀ k, Sealed s (setStage s k) := fun k => sealed_modRec
    have h₁ : Sealed s s1 := sealed_modRec
    refine .ite (.refl s) (.ite (.ite (.refl s) (.ite (hdir _ _ (hset 2)) ((hset 1).trans sealed_volFlush))) ?_)
    exact .ite (hdir _ _ (hset 2)) (.ite ((hset 3).trans sealed_volFlush)
      (.ite (h₁.trans sealed_modRec) (by constructor <;> simp [h₁])))

@[simp] theorem sealed_recAdvance : Sealed s (s.recAdvance) := by constructor <;> simp [State.recAdvance]

@[simp] theorem sealed_recDone : Sealed s (s.recDone) := by constructor <;> simp [State.recDone]

@[simp] theorem sealed_recFlow : Sealed s (s.recFlow) := by constructor <;> simp [State.recFlow]

@[simp] theorem sealed_rawJobs {src : Nat} {t : Take} {tag : Nat} {pre : Bool} : Sealed s (s.rawJobs src t tag pre) := by
  constructor <;> simp [State.rawJobs]

@[simp] theorem sealed_recDropped {take tag : Nat} {pre : Bool} : Sealed s (s.recDropped take tag pre) := by
  constructor <;> simp [State.recDropped]

@[simp] theorem sealed_recClose {reason : Nat} : Sealed s (s.recClose reason) := by constructor <;> simp [State.recClose]

@[simp] theorem sealed_recFrameStart {f : Frame} : Sealed s (s.recFrameStart f) := by
  unfold State.recFrameStart
  split
  · exact .refl s
  · extract_lets src p pre s1 need n pend
    have h₁ : Sealed s s1 := .ite (.refl s) sealed_recOpen
    exact .ite (by constructor <;> simp [h₁]) (.ite (by constructor <;> simp [h₁]) (by constructor <;> simp [h₁]))

@[simp] theorem sealed_recSlotLost {tag : Nat} : Sealed s (s.recSlotLost tag) := by
  refine sealed_foldl fun u t => ?_
  extract_lets busy s1 s2
  have h₁ : Sealed u s1 := by constructor <;> simp [s1]
  have h₂ : Sealed u s2 := h₁.trans (sealed_foldl fun v n => .ite sealed_endJob (.refl v))
  exact .ite (by constructor <;> simp [h₂]) (.refl u)

@[simp] theorem sealed_execNvqEnable {d : Fin 4} : Sealed s (s.via (execNvqEnable d s)) :=
  sealed_hostToBead fun u => .ite (.refl u) (by constructor <;> simp)

@[simp] theorem sealed_nvqDisable {d : Nat} : Sealed s (s.nvqDisable d) := by
  unfold State.nvqDisable
  split <;> constructor <;> simp

/-! ### Exposure -/

@[simp] theorem sealed_modLnk {g : Lnk → Lnk} : Sealed s (s.modLnk g) := by constructor <;> simp [State.modLnk]

@[simp] theorem sealed_setSlot {p : Nat} {t : Option Time} : Sealed s (s.setSlot p t) := by constructor <;> simp [State.setSlot]

@[simp] theorem sealed_slotAfter {p : Nat} {t : Time} : Sealed s (s.slotAfter p t) := by constructor <;> simp [State.slotAfter]

@[simp] theorem sealed_slotStart {p : Nat} : Sealed s (s.slotStart p) := by constructor <;> simp [State.slotStart]

@[simp] theorem sealed_rephase {p fwd back : Nat} : Sealed s (s.rephase p fwd back) := by
  unfold State.rephase
  refine .ite (.refl s) (.ite sealed_slotStart ?_)
  extract_lets t s1 want got
  have h₁ : Sealed s s1 := sealed_slotAfter
  exact .ite (by constructor <;> simp [h₁]) h₁

@[simp] theorem sealed_modSet {e : ExpSet} {g : ExpSet → ExpSet} : Sealed s (s.modSet e g) := by
  constructor <;> simp [State.modSet]

@[simp] theorem sealed_setSlip {e : ExpSet} : Sealed s (s.setSlip e) := by
  unfold State.setSlip
  split <;> constructor <;> simp

@[simp] theorem sealed_setMiss {e : ExpSet} : Sealed s (s.setMiss e) := by constructor <;> simp [State.setMiss]

@[simp] theorem sealed_setCount {p : Nat} : Sealed s (s.setCount p) := by constructor <;> simp [State.setCount]

@[simp] theorem sealed_exqIssue {p n : Nat} : Sealed s (s.exqIssue p n) := by
  induction n generalizing s with
  | zero => exact .refl s
  | succ n ih =>
    unfold State.exqIssue
    refine .ite (.refl s) ?_
    split
    · exact .refl s
    · extract_lets s1
      have h₁ : Sealed s s1 := by constructor <;> simp [s1]
      split
      · exact h₁
      · exact .ite (.refl s) (.ite (by constructor <;> simp [h₁]) ((h₁.trans sealed_setMiss).trans ih))

@[simp] theorem sealed_exqCatch {p n : Nat} : Sealed s (s.exqCatch p n) := by
  induction n generalizing s with
  | zero => exact .refl s
  | succ n ih =>
    unfold State.exqCatch
    split
    · exact sealed_setMiss.trans ih
    · exact .refl s

@[simp] theorem sealed_exqOpen {p k : Nat} : Sealed s (s.exqOpen p k) := by constructor <;> simp [State.exqOpen]

@[simp] theorem sealed_exqClose {p : Nat} : Sealed s (s.exqClose p) := by constructor <;> simp [State.exqClose]

@[simp] theorem sealed_setAccept {p fcnt tag : Nat} : Sealed s (s.setAccept p fcnt tag) := by
  unfold State.setAccept
  split <;> constructor <;> simp

@[simp] theorem sealed_badDesc {q : Nat} : Sealed s (s.badDesc q) := by constructor <;> simp [State.badDesc]

@[simp] theorem sealed_exqPost {q slot : Nat} : Sealed s (s.exqPost q slot) := by
  unfold State.exqPost
  extract_lets p r
  have hr : Sealed s r.2.2 := sealed_trayReadAs
  refine .ite sealed_badDesc ?_
  split <;> constructor <;> simp [hr]

@[simp] theorem sealed_execExqPost {port : Fin 2} {slot : Fin 8} : Sealed s (s.via (execExqPost port slot s)) := by
  constructor <;> simp [execExqPost]

@[simp] theorem sealed_exsMode {p mode : Nat} : Sealed s (s.exsMode p mode) := by constructor <;> simp [State.exsMode]

@[simp] theorem sealed_execExsModeChange {port : Fin 2} {mode : Fin 4} : Sealed s (s.via (execExsModeChange port mode s)) :=
  sealed_hostToBead fun u => .ite sealed_wrRange (.ite (.refl u) sealed_exsMode)

/-! ### Lanes -/

@[simp] theorem sealed_setLane {rod l st : Nat} : Sealed s (s.setLane rod l st) := by constructor <;> simp [State.setLane]

@[simp] theorem sealed_zero {l : List Fld} : Sealed s (s.zero l) := by constructor <;> simp [State.zero]

@[simp] theorem sealed_laneStart {rod l : Nat} : Sealed s (s.laneStart rod l) := by constructor <;> simp [State.laneStart]

@[simp] theorem sealed_laneOff {rod l : Nat} : Sealed s (s.laneOff rod l) := by constructor <;> simp [State.laneOff]

@[simp] theorem sealed_laneGo {rod l stage : Nat} : Sealed s (s.laneGo rod l stage) := by constructor <;> simp [State.laneGo]

@[simp] theorem sealed_execLaneEnable {rod : Fin 16} {l : Fin 70} : Sealed s (s.via (execLaneEnable rod l s)) := by
  constructor <;> simp [execLaneEnable]

@[simp] theorem sealed_execLaneDisable {rod : Fin 16} {l : Fin 70} : Sealed s (s.via (execLaneDisable rod l s)) := by
  constructor <;> simp [execLaneDisable]

@[simp] theorem sealed_execLaneGo {rod : Fin 16} {l : Fin 70} {stage : Fin 8} : Sealed s (s.via (execLaneGo rod l stage s)) := by
  constructor <;> simp [execLaneGo]

/-! ### Time -/

@[simp] theorem sealed_trgFire {i : Nat} : Sealed s (s.trgFire i) := by
  unfold State.trgFire
  extract_lets per s0 s1
  have h₀ : Sealed s s0 := .ite sealed_sets (.refl s)
  have h₁ : Sealed s s1 := by constructor <;> simp [s1, h₀]
  exact .ite (by constructor <;> simp [h₁]) (by constructor <;> simp [h₁])

@[simp] theorem sealed_trgStep {forward : Bool} : Sealed s (s.trgStep forward) := by
  refine sealed_foldl fun u i => .ite (.refl u) (.ite (.ite (by constructor <;> simp) (.refl u)) (.ite (.refl u) ?_))
  constructor <;> simp

@[simp] theorem sealed_tallyTo {t : Int} : Sealed s (s.tallyTo t).1 := by
  unfold State.tallyTo
  refine .iteOn Prod.fst (.refl s) ?_
  extract_lets n s1 move s2
  have hmove : ∀ u f, Sealed u (move u f) := fun u f => .ite (by constructor <;> simp) (.refl u)
  have h₁ : Sealed s s1 := by constructor <;> simp [s1]
  have h₂ : Sealed s s2 := (h₁.trans sealed_trgStep).trans (sealed_foldl hmove)
  exact h₂.trans (sealed_foldl fun u p => .ite sealed_rephase (.ite (sealed_foldl hmove) (.refl u)))

@[simp] theorem sealed_hostStep {t : Int} : Sealed s (s.hostStep t) := by constructor <;> simp [State.hostStep]

theorem seal_hostStep (g : State → Time) : Seal fun u => u.hostStep (g u) := fun _ => sealed_hostStep

@[simp] theorem sealed_execTlySet : Sealed s (s.via (execTlySet s)) := sealed_hostToBead (seal_hostStep State.stepValue)

@[simp] theorem sealed_execTlyAdd {neg : Bool} : Sealed s (s.via (execTlyAdd neg s)) := by constructor <;> simp [execTlyAdd]

@[simp] theorem sealed_execTlyRateWrite {adj : BitVec 32} : Sealed s (s.via (execTlyRateWrite adj s)) := by
  constructor <;> simp [execTlyRateWrite]

@[simp] theorem sealed_execTlyNowRead : Sealed s (s.via (execTlyNowRead s)) := sealed_hostReadBead fun _ => sealed_sets

@[simp] theorem sealed_ptpTo {st : Nat} : Sealed s (s.ptpTo st) := by
  unfold State.ptpTo
  split <;> constructor <;> simp

@[simp] theorem sealed_execTsqPop {m : Fin 4} : Sealed s (s.via (execTsqPop m s)) := by
  refine sealed_hostReadBead fun u => ?_
  split <;> constructor <;> simp

@[simp] theorem sealed_execTrgArm {i : Fin 16} : Sealed s (s.via (execTrgArm i s)) := by constructor <;> simp [execTrgArm]

@[simp] theorem sealed_execTrgDisarm {i : Fin 16} : Sealed s (s.via (execTrgDisarm i s)) := by
  constructor <;> simp [execTrgDisarm]

@[simp] theorem sealed_execCapRead {j : Fin 8} : Sealed s (s.via (execCapRead j s)) :=
  sealed_hostReadBead fun u => .ite sealed_sets (.refl u)

/-! ### Flows -/

@[simp] theorem sealed_modFlow {f : Nat} {g : Flow → Flow} : Sealed s (s.modFlow f g) := by constructor <;> simp [State.modFlow]

@[simp] theorem sealed_withFlow {f : Nat} : Sealed s (s.withFlow f) := by constructor <;> simp [State.withFlow]

@[simp] theorem sealed_flowApply {f : Nat} : Sealed s (s.flowApply f) := by
  unfold State.flowApply
  extract_lets e s1
  have h₁ : Sealed s s1 := sealed_modFlow
  split
  · extract_lets s2
    have h₂ : Sealed s s2 := .ite h₁ (h₁.trans sealed_sets)
    exact h₂.trans sealed_raise
  · exact h₁.trans sealed_trayPut

@[simp] theorem sealed_execFlowCommit {f : BitVec 12} : Sealed s (s.via (execFlowCommit f s)) := by
  constructor <;> simp [execFlowCommit]

@[simp] theorem sealed_flowBegin {f : Nat} {mk : FlowEnt → Option FlowPic} : Sealed s (s.flowBegin f mk) := by
  unfold State.flowBegin
  extract_lets s1 s2
  have h₁ : Sealed s s1 := sealed_withFlow
  have h₂ : Sealed s s2 := .ite (h₁.trans sealed_flowApply) h₁
  split
  · constructor <;> simp [h₂]
  · exact h₂

@[simp] theorem sealed_ringPut {rod base size off : Nat} {d : List Byte} : Sealed s (s.ringPut rod base size off d) := by
  constructor <;> simp [State.ringPut]

@[simp] theorem sealed_auToPkt {rod n f tag : Nat} {au : List Byte} {nals : List (List Byte)} {flags : Nat} {time : Time} :
    Sealed s (s.auToPkt rod n f tag au nals flags time) := by
  constructor <;> simp [State.auToPkt]

@[simp] theorem sealed_auToRing {rod n : Nat} {d : Desc} {au : List Byte} : Sealed s (s.auToRing rod n d au).1 := by
  unfold State.auToRing
  extract_lets p b wr size free need reg base a
  exact .iteOn Prod.fst sealed_trayPut (by constructor <;> simp)

@[simp] theorem sealed_auOut {rod n : Nat} {d : Desc} {tag : Nat} {au : List Byte} {nals : List (List Byte)} {wall : Nat} {time : Time} :
    Sealed s (s.auOut rod n d tag au nals wall time).1 := by
  unfold State.auOut
  split <;> constructor <;> simp

@[simp] theorem sealed_sendEos {rod : Nat} {x : Strm} : Sealed s (s.sendEos rod x) := by constructor <;> simp [State.sendEos]

@[simp] theorem sealed_execSchedStop {cod : Fin 2} {stream : BitVec 12} : Sealed s (s.via (execSchedStop cod stream s)) := by
  unfold execSchedStop
  rw [State.via_next]
  refine sealed_sched fun u => ?_
  extract_lets n
  split
  · exact .ite sealed_schedIgn (.ite (sealed_modStrm.trans sealed_sendEos) sealed_modStrm)
  · exact sealed_schedIgn

/-! ### Composers -/

@[simp] theorem sealed_fence {n j k : Nat} : Sealed s (s.fence n j k).2 := by
  unfold State.fence
  extract_lets r
  have hr : Sealed s r.2.2 := sealed_trayReadAs
  exact .iteOn Prod.snd (.refl s) (.iteOn Prod.snd (by constructor <;> simp [hr]) hr)

@[simp] theorem sealed_groupFences {n g : Nat} : Sealed s (s.groupFences n g).2 :=
  Sealed.foldlOn Prod.snd (b := (true, s)) fun _ _ => Sealed.foldlOn Prod.snd fun _ _ => sealed_fence

@[simp] theorem sealed_flips {n : Nat} {p : Nat → Bool} : Sealed s (s.flips n p) := by constructor <;> simp [State.flips]

@[simp] theorem sealed_cmpApply {n : Nat} : Sealed s (s.cmpApply n) := by constructor <;> simp [State.cmpApply]

@[simp] theorem sealed_cmpRetry {n : Nat} {pass : Bool} : Sealed s (s.cmpRetry n pass) := by constructor <;> simp [State.cmpRetry]

@[simp] theorem sealed_scalers {n : Nat} : Sealed s (s.scalers n) := by
  refine sealed_foldl fun u j => .ite sealed_sets ?_
  extract_lets m s1 s2
  have h₁ : Sealed u s1 := sealed_sets
  have h₂ : Sealed u s2 := .ite (by constructor <;> simp [h₁]) h₁
  exact .ite (by constructor <;> simp [h₂]) h₂

@[simp] theorem sealed_setLayer {n j : Nat} {p : Option LayerPic} : Sealed s (s.setLayer n j p) := by
  constructor <;> simp [State.setLayer]

@[simp] theorem sealed_layerChoose {n j : Nat} {shown : Option Nat} : Sealed s (s.layerChoose n j shown) := by
  unfold State.layerChoose
  refine .ite (by constructor <;> simp) ?_
  extract_lets old held s1
  have h₁ : Sealed s s1 := by
    unfold s1
    split
    · exact .ite (by constructor <;> simp) (by constructor <;> simp)
    · exact sealed_setLayer
  split
  · exact .ite (by constructor <;> simp [h₁]) (h₁.trans sealed_rodUse)
  · exact h₁

@[simp] theorem sealed_releaseAt {rod a : Nat} : Sealed s (s.releaseAt rod a) := by constructor <;> simp [State.releaseAt]

@[simp] theorem sealed_cmpRelease {n : Nat} {shown : Option Nat} : Sealed s (s.cmpRelease n shown) := by
  unfold State.cmpRelease
  extract_lets uses depth old s1 s2
  have h₁ : Sealed s s1 := sealed_foldl fun u p => by
    split
    · exact .ite (.refl u) sealed_releaseAt
    · exact .refl u
  have h₂ : Sealed s s2 := h₁.trans (sealed_foldl fun u r => sealed_foldl fun v e => .ite (.refl v) sealed_releaseAt)
  exact h₂.trans sealed_decKickAll

@[simp] theorem sealed_cmpPoint {n : Nat} {shown : Option Nat} : Sealed s (s.cmpPoint n shown) := by
  unfold State.cmpPoint
  extract_lets s1
  have h₁ : Sealed s s1 := sealed_foldl fun u g => .ite sealed_sets (.refl u)
  constructor <;> simp [h₁]

@[simp] theorem sealed_execGuardClr {n : Fin 9} {g : Fin 16} : Sealed s (s.via (execGuardClr n g s)) :=
  sealed_hostToBead fun u => .ite (by constructor <;> simp) (.refl u)

/-! ### Heads and outputs -/

@[simp] theorem sealed_sdiStat {o : Nat} : Sealed s (s.sdiStat o) := by
  refine .ite ?_ sealed_sets
  split <;> exact sealed_sets

@[simp] theorem sealed_dpLinkEv {q : Nat} : Sealed s (s.dpLinkEv q) := by constructor <;> simp [State.dpLinkEv]

@[simp] theorem sealed_dpStream {q : Nat} : Sealed s (s.dpStream q) :=
  .ite (by constructor <;> simp) (.ite sealed_sets (.ite sealed_sets (sealed_sets.trans sealed_dpLinkEv)))

@[simp] theorem sealed_outputs : Sealed s (s.outputs) := by constructor <;> simp [State.outputs]

@[simp] theorem sealed_outSwitch {n : Nat} : Sealed s (s.outSwitch n) := by constructor <;> simp [State.outSwitch]

@[simp] theorem sealed_outCopies {n : Nat} : Sealed s (s.outCopies n) := by constructor <;> simp [State.outCopies]

@[simp] theorem sealed_userPackets {o space : Nat} : Sealed s (s.userPackets o space) := by
  unfold State.userPackets
  split
  · exact .refl s
  · next e _ =>
    extract_lets r
    have hr : Sealed s r.2.2 := Sealed.foldlOn (fun b : List (List Byte) × Nat × State => b.2.2) (b := ([], space, s)) fun b i =>
      .iteOn (fun b : List (List Byte) × Nat × State => b.2.2) (.refl _)
        (.iteOn (fun b : List (List Byte) × Nat × State => b.2.2) (by constructor <;> simp) (.refl _))
    constructor <;> simp [hr]

@[simp] theorem sealed_outInsert {n : Nat} : Sealed s (s.outInsert n) := by
  refine sealed_foldl fun u o => ?_
  extract_lets t f s1
  have h₁ : Sealed u s1 := .ite (by constructor <;> simp) (.refl u)
  exact .ite (by constructor <;> simp [h₁]) h₁

@[simp] theorem sealed_headApply {n : Nat} : Sealed s (s.headApply n) := by constructor <;> simp [State.headApply]

@[simp] theorem sealed_headCommit {n : Nat} : Sealed s (s.headCommit n) := by
  unfold State.headCommit
  refine .ite ?_ sealed_cmpRetry
  split <;> constructor <;> simp

@[simp] theorem sealed_headLatch {n : Nat} : Sealed s (s.headLatch n) := by constructor <;> simp [State.headLatch]

@[simp] theorem sealed_cmpEnd {n status : Nat} : Sealed s (s.cmpEnd n status) := by constructor <;> simp [State.cmpEnd]

@[simp] theorem sealed_headCompare {n : Nat} : Sealed s (s.headCompare n) := by constructor <;> simp [State.headCompare]

@[simp] theorem sealed_headDrift {n : Nat} : Sealed s (s.headDrift n) := by
  unfold State.headDrift
  refine .ite (by constructor <;> simp) ?_
  extract_lets old d d1
  refine .ite (by constructor <;> simp) ?_
  refine Sealed.trans (t := s.set (I.HEAD_DRIFT n) (d1 + 2 ^ 100).toNat) (by constructor <;> simp) (sealed_foldl fun u o => ?_)
  exact .ite (by constructor <;> simp) (.refl u)

@[simp] theorem sealed_headFrame {n : Nat} : Sealed s (s.headFrame n) := by constructor <;> simp [State.headFrame]

@[simp] theorem sealed_headBlank {n : Nat} : Sealed s (s.headBlank n) := by constructor <;> simp [State.headBlank]

@[simp] theorem sealed_headLine {n y : Nat} {under : Option Nat} : Sealed s (s.headLine n y under) := by
  unfold State.headLine
  extract_lets s1 s2 s3 s4 s5 s6 s6'
  have h₁ : Sealed s s1 := by constructor <;> simp [s1]
  have h₂ : Sealed s s2 := .ite (h₁.trans sealed_headFrame) h₁
  have h₃ : Sealed s s3 := .ite (h₂.trans sealed_headBlank) h₂
  have h₄ : Sealed s s4 := .ite ((h₃.trans sealed_headCommit).trans sealed_cmpPoint) h₃
  have h₅ : Sealed s s5 := h₄.trans (sealed_foldl fun u o => .ite sealed_userPackets (.refl u))
  have h₆ : Sealed s s6 := .ite ((h₅.trans sealed_cmpEnd).trans sealed_beginJob) h₅
  have h₆' : Sealed s s6' := by constructor <;> simp [s6', h₆]
  split
  · refine .ite ?_ h₆'
    extract_lets s7
    have h₇ : Sealed s s7 := .ite h₆' (h₆'.trans sealed_sets)
    constructor <;> simp [h₇]
  · exact h₆'

@[simp] theorem sealed_headRun {n : Nat} : Sealed s (s.headRun n) := by constructor <;> simp [State.headRun]

@[simp] theorem sealed_headStart {n : Nat} : Sealed s (s.headStart n) := by
  unfold State.headStart
  split <;> constructor <;> simp

@[simp] theorem sealed_headStop {n st : Nat} : Sealed s (s.headStop n st) := by constructor <;> simp [State.headStop]

@[simp] theorem sealed_headOn {n : Nat} : Sealed s (s.headOn n) := by
  unfold State.headOn
  split <;> constructor <;> simp

@[simp] theorem sealed_headOff {n : Nat} : Sealed s (s.headOff n) := by
  unfold State.headOff
  extract_lets s1
  have h₁ : Sealed s s1 := by constructor <;> simp [s1]
  exact .ite (h₁.trans sealed_headCommit) h₁

@[simp] theorem sealed_dpDown {q : Nat} : Sealed s (s.dpDown q) := by constructor <;> simp [State.dpDown]

@[simp] theorem sealed_dpTrain {q : Nat} : Sealed s (s.dpTrain q) := by constructor <;> simp [State.dpTrain]

@[simp] theorem sealed_auxSend {q : Nat} : Sealed s (s.auxSend q) := by constructor <;> simp [State.auxSend]

@[simp] theorem sealed_auxEnd {q result count : Nat} : Sealed s (s.auxEnd q result count) := by
  constructor <;> simp [State.auxEnd]

@[simp] theorem sealed_auxGo {q op len addr : Nat} : Sealed s (s.auxGo q op len addr) := by
  refine sealed_hostToBead fun u => .ite (.refl u) ?_
  extract_lets s1 s2
  have h₁ : Sealed u s1 := sealed_sets
  have h₂ : Sealed u s2 := by constructor <;> simp [s2, h₁]
  exact .ite (h₁.trans sealed_auxEnd) (.ite h₂ (h₂.trans sealed_auxSend))

/-! ### Audio -/

@[simp] theorem sealed_audEnable {n : Nat} : Sealed s (s.audEnable n) := by
  unfold State.audEnable
  split <;> constructor <;> simp

@[simp] theorem sealed_audDisable {n : Nat} : Sealed s (s.audDisable n) := by constructor <;> simp [State.audDisable]

@[simp] theorem sealed_execSgArm {g : Fin 4} : Sealed s (s.via (execSgArm g s)) := by
  unfold execSgArm
  rw [State.via_next]
  refine sealed_hostTo fun u => ?_
  extract_lets m members clash t s1
  have h₁ : Sealed u s1 := sealed_set
  exact .ite sealed_wrRange (.ite (((h₁.trans sealed_set).trans sealed_set).trans sealed_raise) (h₁.trans sealed_set))

@[simp] theorem sealed_sgDisarm {g : Nat} : Sealed s (s.sgDisarm g) := by
  unfold State.sgDisarm
  exact sealed_set.trans (sealed_foldl fun u n => .ite sealed_set (.refl u))

@[simp] theorem sealed_execSgDisarm {g : Fin 4} : Sealed s (s.via (execSgDisarm g s)) := by
  unfold execSgDisarm
  rw [State.via_next]
  exact sealed_hostTo fun u => .ite sealed_sgDisarm (.refl u)

/-! ### DEFLATE and DMA -/

@[simp] theorem sealed_utlPost {lim tail : Fld} {v : Nat} : Sealed s (s.utlPost lim tail v) := by
  constructor <;> simp [State.utlPost]

@[simp] theorem sealed_bufRead {tray : Bool} {region off n : Nat} : Sealed s (s.bufRead tray region off n).2.2 := by
  unfold State.bufRead
  split <;> constructor <;> simp

@[simp] theorem sealed_bufWrite {tray : Bool} {region off : Nat} {d : List Byte} : Sealed s (s.bufWrite tray region off d) := by
  constructor <;> simp [State.bufWrite]

@[simp] theorem sealed_dflRun {j : UtlJob} : Sealed s (s.dflRun j).2 :=
  (((Within.refl (Foot.tray ++ [.part .freeCtr]) s).dflRun)).sealed

@[simp] theorem sealed_dflFree {n : Nat} : Sealed s (s.dflFree n) := by constructor <;> simp [State.dflFree]

@[simp] theorem sealed_execDflTailWrite {n : Fin 2} {slot : BitVec 8} : Sealed s (s.via (execDflTailWrite n slot s)) :=
  sealed_hostToBead fun _ => .ite sealed_utlPost sealed_wrRange

@[simp] theorem sealed_dflCut {n : Nat} {log : Bool} : Sealed s (s.dflCut n log) := by
  unfold State.dflCut
  split <;> constructor <;> simp

@[simp] theorem sealed_execDflDisable {n : Fin 2} : Sealed s (s.via (execDflDisable n s)) := by
  constructor <;> simp [execDflDisable]

@[simp] theorem sealed_dmaEnd {j : UtlJob} {status : Nat} : Sealed s (s.dmaEnd j status) := by constructor <;> simp [State.dmaEnd]

@[simp] theorem sealed_dmaTake {d : Nat} : Sealed s (s.dmaTake d).1 := within_dmaTake.sealed

@[simp] theorem sealed_dmaKick {d : Nat} : Sealed s (s.dmaKick d) := within_dmaGo.sealed

@[simp] theorem sealed_execDmaTailWrite {d : Fin 8} {slot : BitVec 8} : Sealed s (s.via (execDmaTailWrite d slot s)) := by
  constructor <;> simp [execDmaTailWrite]

@[simp] theorem sealed_dmaData {j : UtlJob} {host : List Byte} : Sealed s (s.dmaData j host).2.2 := by
  unfold State.dmaData
  split <;> constructor <;> simp

@[simp] theorem sealed_dmaPut {j : UtlJob} {d : List Byte} : Sealed s (s.dmaPut j d) := by constructor <;> simp [State.dmaPut]

@[simp] theorem sealed_dmaCut {d : Nat} {log : Bool} : Sealed s (s.dmaCut d log) := by
  unfold State.dmaCut
  split <;> constructor <;> simp

@[simp] theorem sealed_execDmaDisable {d : Fin 8} : Sealed s (s.via (execDmaDisable d s)) := by
  constructor <;> simp [execDmaDisable]

/-! ### Mailboxes and doorbells -/

@[simp] theorem sealed_mbCrossing {p : Nat} : Sealed s (s.mbCrossing old p) := by constructor <;> simp [State.mbCrossing]

@[simp] theorem sealed_mbCollision {m : Nat} : Sealed s (s.mbCollision m) := by
  unfold State.mbCollision
  split <;> constructor <;> simp

@[simp] theorem sealed_mbData {m i v : Nat} : Sealed s (s.mbData m i v) := by constructor <;> simp [State.mbData]

@[simp] theorem sealed_mbPost {m len : Nat} : Sealed s (s.mbPost m len) := by constructor <;> simp [State.mbPost]

@[simp] theorem sealed_mbTaken {m : Nat} : Sealed s (s.mbTaken m) := by constructor <;> simp [State.mbTaken]

@[simp] theorem sealed_execMbDataWrite {agent : Fin 6} {m : Fin 32} {i : Fin 16} {v : BitVec 32} :
    Sealed s (s.via (execMbDataWrite agent m i v s)) := by
  unfold execMbDataWrite
  split <;> constructor <;> simp

@[simp] theorem sealed_execMbGo {agent : Fin 6} {m : Fin 32} {len : BitVec 5} {arm : Bool} :
    Sealed s (s.via (execMbGo agent m len arm s)) := by
  constructor <;> simp [execMbGo]

@[simp] theorem sealed_execMbArmWait {agent : Fin 6} {m : Fin 32} {len : BitVec 5} :
    Sealed s (s.via (execMbArmWait agent m len s)) := by
  constructor <;> simp [execMbArmWait]

@[simp] theorem sealed_execMbTake {agent : Fin 6} {m : Fin 32} : Sealed s (s.via (execMbTake agent m s)) := by
  constructor <;> simp [execMbTake]

@[simp] theorem sealed_ring {a h v : Nat} : Sealed s (s.ring a h v) := by constructor <;> simp [State.ring]

@[simp] theorem sealed_execDbSet {agent : Fin 6} {a : Fin 6} {hi : Bool} {v : BitVec 32} :
    Sealed s (s.via (execDbSet agent a hi v s)) := by
  constructor <;> simp [execDbSet]

@[simp] theorem sealed_execDbClear {agent : Fin 6} {a : Fin 6} {hi : Bool} {v : BitVec 32} :
    Sealed s (s.via (execDbClear agent a hi v s)) := by
  unfold execDbClear
  split <;> constructor <;> simp

/-! ### Calibration -/

@[simp] theorem sealed_trimTo {kind inst : Nat} {target : Int} {src : Nat} : Sealed s (s.trimTo kind inst target src) := by
  constructor <;> simp [State.trimTo]

@[simp] theorem sealed_calEnd {result : Nat} : Sealed s (s.calEnd result) := by
  unfold State.calEnd
  split <;> constructor <;> simp

@[simp] theorem sealed_calGo {routine arg : Nat} {pre : State → Bool} : Sealed s (s.calGo routine arg pre) := by
  constructor <;> simp [State.calGo]

@[simp] theorem sealed_execCalBgr {vref : Bool} : Sealed s (s.via (execCalBgr vref s)) := by constructor <;> simp [execCalBgr]

@[simp] theorem sealed_execCalXo : Sealed s (s.via (execCalXo s)) := by constructor <;> simp [execCalXo]

@[simp] theorem sealed_execCalTs {arg : BitVec 16} : Sealed s (s.via (execCalTs arg s)) := by constructor <;> simp [execCalTs]

@[simp] theorem sealed_execCalLane {arg : BitVec 16} : Sealed s (s.via (execCalLane arg s)) := by
  constructor <;> simp [execCalLane]

@[simp] theorem sealed_execCalPll {arg : BitVec 16} : Sealed s (s.via (execCalPll arg s)) := by constructor <;> simp [execCalPll]

@[simp] theorem sealed_execCalAbort : Sealed s (s.via (execCalAbort s)) := by constructor <;> simp [execCalAbort]

@[simp] theorem sealed_calRod {rod : Nat} : Sealed s (s.calRod rod) := by
  unfold State.calRod
  split <;> constructor <;> simp

@[simp] theorem sealed_calPreempt {l : List (Nat × Nat)} : Sealed s (s.calPreempt l) := by
  unfold State.calPreempt
  split <;> constructor <;> simp

@[simp] theorem sealed_execTrimTargetWrite {v : BitVec 16} : Sealed s (s.via (execTrimTargetWrite v s)) := by
  constructor <;> simp [execTrimTargetWrite]

/-! ### Motion -/

@[simp] theorem sealed_qldPut {f : Frame} : Sealed s (s.qldPut f) := by constructor <;> simp [State.qldPut]

/-! ### The source -/

@[simp] theorem sealed_motStart {tag : Nat} : Sealed s (s.motStart tag) := by
  unfold State.motStart
  refine .ite (.refl s) ?_
  extract_lets s1
  have h₁ : Sealed s s1 := sealed_commitAt
  split
  · exact h₁
  · exact .ite (by constructor <;> simp [h₁]) (by constructor <;> simp [h₁])

@[simp] theorem sealed_concealOut {tag : Nat} : Sealed s (s.concealOut tag) := by constructor <;> simp [State.concealOut]

@[simp] theorem sealed_srcStart {tag : Nat} : Sealed s (s.srcStart tag) := by constructor <;> simp [State.srcStart]

@[simp] theorem sealed_srcClosed {tag : Nat} : Sealed s (s.srcClosed tag) := by
  unfold State.srcClosed
  extract_lets s0 s1
  have h₀ : Sealed s s0 := sealed_motStart
  have h₁ : Sealed s s1 := by
    unfold s1
    split
    · exact .ite (h₀.trans sealed_qldPut) h₀
    · exact h₀
  exact .ite (by constructor <;> simp [h₁]) h₁

/-! ### Frames -/

@[simp] theorem sealed_commitPair : Sealed s (s.commitPair) := by constructor <;> simp [State.commitPair]

@[simp] theorem sealed_commitLnk {p : Nat} : Sealed s (s.commitLnk p) := by constructor <;> simp [State.commitLnk]

@[simp] theorem sealed_slotTaken {f : Frame} : Sealed s (s.slotTaken f) := by constructor <;> simp [State.slotTaken]

@[simp] theorem sealed_rawPut {f : Frame} {a : Nat} {d : List Byte} : Sealed s (s.rawPut f a d) := by
  constructor <;> simp [State.rawPut]

@[simp] theorem sealed_putLine {tag j : Nat} {d : List Byte} : Sealed s (s.putLine tag j d) := by
  unfold State.putLine
  split <;> constructor <;> simp

@[simp] theorem sealed_fillLine {tag j : Nat} : Sealed s (s.fillLine tag j) := by
  unfold State.fillLine
  split
  · constructor <;> simp
  · split <;> constructor <;> simp

@[simp] theorem sealed_fillGap {tag a b : Nat} : Sealed s (s.fillGap tag a b) := by constructor <;> simp [State.fillGap]

@[simp] theorem sealed_enterFrame {f : Frame} : Sealed s (s.enterFrame f) := by
  unfold State.enterFrame
  extract_lets s1 s2
  have h₁ : Sealed s s1 := ⟨rfl, rfl⟩
  have h₂ : Sealed s s2 := by constructor <;> simp [s2, h₁]
  exact .ite (by constructor <;> simp [h₂]) h₂

@[simp] theorem sealed_tagShort {q : Nat} : Sealed s (s.tagShort q) := by constructor <;> simp [State.tagShort]

@[simp] theorem sealed_linkFlag {p : Nat} {f : Fld} : Sealed s (s.linkFlag p f) := by constructor <;> simp [State.linkFlag]

@[simp] theorem sealed_lost {p : Nat} : Sealed s (s.lost p) := by constructor <;> simp [State.lost]

@[simp] theorem sealed_lostFor {p : Nat} {f : Fld} : Sealed s (s.lostFor p f) := by constructor <;> simp [State.lostFor]

@[simp] theorem sealed_dropHalves {l : List Half} : Sealed s (s.dropHalves l) := by constructor <;> simp [State.dropHalves]

@[simp] theorem sealed_closeFrame {p : Nat} : Sealed s (s.closeFrame p) := by
  unfold State.closeFrame
  split
  · exact .refl s
  · next f0 _ =>
    extract_lets s1 miss short s2 q s3
    have h₁ : Sealed s s1 := Sealed.trans (t := if p = 2 then s.dropHalves s.lnk.halves else s)
      (.ite sealed_dropHalves (.refl s)) sealed_fillGap
    have h₂ : Sealed s s2 := h₁.trans sealed_modFrame
    have h₃ : Sealed s s3 := Sealed.trans (t := if short then s2.tagShort q else s2) (.ite (h₂.trans sealed_tagShort) h₂)
      ⟨rfl, rfl⟩
    split
    · exact h₃
    · extract_lets a s4
      have h₄ : Sealed s s4 := (h₃.trans sealed_rawPut).trans sealed_endJob
      exact Sealed.trans (.ite ((h₄.trans sealed_picClosed).trans sealed_srcClosed) h₄) sealed_exqOpen

@[simp] theorem sealed_recEnter {p : Nat} {f : Frame} : Sealed s (s.recEnter p f) := by constructor <;> simp [State.recEnter]

@[simp] theorem sealed_exqFrame {p fcnt tag : Nat} : Sealed s (s.exqFrame p fcnt tag) := by constructor <;> simp [State.exqFrame]

@[simp] theorem sealed_synth {p : Nat} : Sealed s (s.synth p) := by constructor <;> simp [State.synth]

@[simp] theorem sealed_synthWaiting {p : Nat} : Sealed s (s.synthWaiting p) := by
  unfold State.synthWaiting
  split <;> constructor <;> simp

@[simp] theorem sealed_portEnable {p : Nat} : Sealed s (s.portEnable p) := by constructor <;> simp [State.portEnable]

@[simp] theorem sealed_execPortEnable {port : Fin 2} : Sealed s (s.via (execPortEnable port s)) :=
  sealed_hostToBead fun u => .ite (.refl u) sealed_portEnable

@[simp] theorem sealed_portDisable {p : Nat} : Sealed s (s.portDisable p) := by constructor <;> simp [State.portDisable]

@[simp] theorem sealed_execPortDisable {port : Fin 2} : Sealed s (s.via (execPortDisable port s)) :=
  sealed_hostToBead fun u => .ite sealed_portDisable (.refl u)

/-! ### Image rods -/

@[simp] theorem sealed_imgCommit {n : Nat} : Sealed s (s.imgCommit n).1 := by
  unfold State.imgCommit
  extract_lets rod wasFixed r all
  have hr : Sealed s r.1 := sealed_tryCommit
  refine .iteOn Prod.fst (hr.trans (sealed_foldl fun u c => ?_)) hr
  refine Sealed.trans (t := if all || u.on (I.BLK_WR n c) then u.set (I.BLK_B n c) 0 else u) ?_ (by constructor <;> simp)
  exact .ite (by constructor <;> simp) (.refl u)

@[simp] theorem sealed_imgAsk {n : Nat} : Sealed s (s.imgAsk n) := by constructor <;> simp [State.imgAsk]

@[simp] theorem sealed_execLutInval {m : Fin 4} : Sealed s (s.via (execLutInval m s)) := by constructor <;> simp [execLutInval]

@[simp] theorem sealed_execLutCheck {m : Fin 4} : Sealed s (s.via (execLutCheck m s)) := by
  unfold execLutCheck
  rw [State.via_next]
  refine sealed_hostTo fun u => ?_
  extract_lets st
  exact .ite (by constructor <;> simp) (.refl u)

/-! ### Receive training -/

@[simp] theorem sealed_retrain {p : Nat} : Sealed s (s.retrain p) := by
  unfold State.retrain
  extract_lets s1 s2
  have h₁ : Sealed s s1 := sealed_foldl fun _ _ => sealed_sets
  have h₂ : Sealed s s2 := h₁.trans (sealed_foldl fun u k => .ite (sealed_sets.trans sealed_setLane) sealed_sets)
  constructor <;> simp [h₂]

@[simp] theorem sealed_execRetrain {port : Fin 2} : Sealed s (s.via (execRetrain port s)) := by constructor <;> simp [execRetrain]

/-! ### Resets -/

@[simp] theorem sealed_silently {g : State → State} (h : Seal g) : Sealed s (s.silently g) := h { s with clogQ := [] }

@[simp] theorem sealed_thmOff : Sealed s (s.thmOff) := by
  refine Sealed.trans (sealed_foldl fun u p => ?_) sealed_sets
  exact .ite (by constructor <;> simp) (.refl u)

@[simp] theorem sealed_cutJobs {rod : Nat} : Sealed s (s.cutJobs rod) := by constructor <;> simp [State.cutJobs]

@[simp] theorem sealed_cutRod {rod : Nat} : Sealed s (s.cutRod rod) := by constructor <;> simp [State.cutRod]

@[simp] theorem sealed_advance {rod cause : Nat} : Sealed s (s.advance rod cause) := by constructor <;> simp [State.advance]

@[simp] theorem sealed_assertReset {rod cause : Nat} : Sealed s (s.assertReset rod cause) := by
  unfold State.assertReset
  split
  · constructor <;> simp
  · split <;> constructor <;> simp

@[simp] theorem sealed_tryRelease {rod : Nat} : Sealed s (s.tryRelease rod) := by constructor <;> simp [State.tryRelease]

@[simp] theorem sealed_flitsOut {rod : Nat} : Sealed s (s.flitsOut rod) := by constructor <;> simp [State.flitsOut]

@[simp] theorem sealed_execRodHoldClear {rod : Fin 16} : Sealed s (s.via (execRodHoldClear rod s)) := by
  constructor <;> simp [execRodHoldClear]

/-! ### Power -/

@[simp] theorem sealed_utlFree : Sealed s (s.utlFree) := by constructor <;> simp [State.utlFree]

@[simp] theorem sealed_resume : Sealed s (s.resume) := by constructor <;> simp [State.resume]

@[simp] theorem sealed_pwrAt {st : Nat} : Sealed s (s.pwrAt st) := by constructor <;> simp [State.pwrAt]

@[simp] theorem sealed_unhold : Sealed s (s.unhold) := within_unhold.sealed

@[simp] theorem sealed_pwrStart {target : Nat} : Sealed s (s.pwrStart target) := within_pwrStart.sealed

@[simp] theorem sealed_pwrResume : Sealed s (s.pwrResume) := within_pwrResume.sealed

@[simp] theorem sealed_pwrReq {target wake : Nat} : Sealed s (s.pwrReq target wake) := by
  refine sealed_hostTo fun u => .ite sealed_wrRange ?_
  extract_lets s1
  have h₁ : Sealed u s1 := by constructor <;> simp [s1]
  exact .ite (by constructor <;> simp [h₁]) (.ite (by constructor <;> simp [h₁]) (h₁.trans sealed_pwrStart))

/-! ### Patches -/

@[simp] theorem sealed_windowRead {off n : Nat} : Sealed s (s.windowRead off n).2 :=
  Sealed.foldlOn Prod.snd (b := ([], s)) fun _ _ => sealed_trayReadAs

@[simp] theorem sealed_patchOver : Sealed s (s.patchOver) := by constructor <;> simp [State.patchOver]

@[simp] theorem sealed_patchAbandon {code : Nat} : Sealed s (s.patchAbandon code) := by constructor <;> simp [State.patchAbandon]

@[simp] theorem sealed_patchFault {rod : Nat} : Sealed s (s.patchFault rod) := by
  unfold State.patchFault
  split <;> constructor <;> simp

@[simp] theorem sealed_stripeHide {k : Nat} : Sealed s (s.stripeHide k) := by constructor <;> simp [State.stripeHide]

@[simp] theorem sealed_substBegin {k tag : Nat} : Sealed s (s.substBegin k tag) := by
  unfold State.substBegin
  split <;> constructor <;> simp

@[simp] theorem sealed_stripeLose {k : Nat} : Sealed s (s.stripeLose k) := by constructor <;> simp [State.stripeLose]

@[simp] theorem sealed_substAsk {k tag : Nat} : Sealed s (s.substAsk k tag) := by
  unfold State.substAsk
  split
  · constructor <;> simp
  · split <;> constructor <;> simp

@[simp] theorem sealed_execPatchGo : Sealed s (s.via (execPatchGo s)) := by constructor <;> simp [execPatchGo]

@[simp] theorem sealed_execPatchAbort : Sealed s (s.via (execPatchAbort s)) := by
  unfold execPatchAbort
  rw [State.via_next]
  exact sealed_hostTo fun u => .ite sealed_patchAbandon (.refl u)

/-! ### Faults -/

@[simp] theorem sealed_holdRod {rod cause : Nat} : Sealed s (s.holdRod rod cause) := by constructor <;> simp [State.holdRod]

@[simp] theorem sealed_imgFatal {n : Nat} {cause : Fld} {last : Nat} : Sealed s (s.imgFatal n cause last) := by
  unfold State.imgFatal
  extract_lets rod s1 s2 s3
  have h₁ : Sealed s s1 := by constructor <;> simp [s1]
  have h₂ : Sealed s s2 := by constructor <;> simp [s2, h₁]
  have h₃ : Sealed s s3 := by constructor <;> simp [s3, h₂]
  refine .ite (.refl s) ?_
  split
  · constructor <;> simp [h₁]
  · exact .ite (.ite h₂ (.ite (by constructor <;> simp [h₃]) h₃)) (h₁.trans sealed_holdRod)

@[simp] theorem sealed_execSubstTest {rod : BitVec 4} : Sealed s (s.via (execSubstTest rod s)) := by
  constructor <;> simp [execSubstTest]

@[simp] theorem sealed_copySets {src dst : Nat} : Sealed s (s.copySets src dst) := by constructor <;> simp [State.copySets]

@[simp] theorem sealed_seedRod {n : Nat} {g : Option Nat} : Sealed s (s.seedRod n g) := by
  unfold State.seedRod
  split <;> constructor <;> simp

@[simp] theorem sealed_execSubstReturn : Sealed s (s.via (execSubstReturn s)) := by constructor <;> simp [execSubstReturn]

@[simp] theorem sealed_holdSet {rod : Nat} : Sealed s (s.holdSet rod) := by
  unfold State.holdSet
  refine .ite sealed_wrRange ?_
  extract_lets s1
  have h₁ : Sealed s s1 := .ite sealed_patchAbandon (.refl s)
  exact .ite (h₁.trans sealed_sets) (.ite h₁ (h₁.trans sealed_holdRod))

@[simp] theorem sealed_execRodHoldSet {rod : Fin 16} : Sealed s (s.via (execRodHoldSet rod s)) := by
  constructor <;> simp [execRodHoldSet]

/-! ### The boot -/

@[simp] theorem sealed_execFwGo : Sealed s (s.via (execFwGo s)) := by constructor <;> simp [execFwGo]

@[simp] theorem sealed_execImgGo : Sealed s (s.via (execImgGo s)) := by constructor <;> simp [execImgGo]

/-! ### Volumes -/

@[simp] theorem sealed_recCmd {code : Nat} {start : State → State} (h : Seal start) : Sealed s (s.recCmd code start) := by
  unfold State.recCmd
  extract_lets st from_ s0
  have h₀ : Sealed s s0 := by constructor <;> simp [s0]
  exact .ite (by constructor <;> simp [h₀]) ((h₀.trans sealed_sets).trans (h _))

@[simp] theorem sealed_recPhaseTo {p : RecPhase} : Sealed s (s.recPhaseTo p) := by constructor <;> simp [State.recPhaseTo]

@[simp] theorem sealed_recFails {result : Nat} : Sealed s (s.recFails result) := by constructor <;> simp [State.recFails]

@[simp] theorem sealed_recIdentify : Sealed s (s.recIdentify) := by constructor <;> simp [State.recIdentify]

@[simp] theorem sealed_recRecord : Sealed s (s.recRecord) := by constructor <;> simp [State.recRecord]

@[simp] theorem sealed_recStop : Sealed s (s.recStop) := by constructor <;> simp [State.recStop]

@[simp] theorem sealed_execRecFormat : Sealed s (s.via (execRecFormat s)) := by constructor <;> simp [execRecFormat]

@[simp] theorem sealed_execRecMount : Sealed s (s.via (execRecMount s)) := by constructor <;> simp [execRecMount]

@[simp] theorem sealed_execRecRecord : Sealed s (s.via (execRecRecord s)) := by constructor <;> simp [execRecRecord]

@[simp] theorem sealed_execRecStop : Sealed s (s.via (execRecStop s)) := by constructor <;> simp [execRecStop]

@[simp] theorem sealed_execRecUnmount : Sealed s (s.via (execRecUnmount s)) := by constructor <;> simp [execRecUnmount]

/-! ### Register writes -/

@[simp] theorem sealed_domainNow {rod d : Nat} : Sealed s (s.domainNow rod d) := by
  unfold State.domainNow
  refine .ite sealed_commitLnk (.ite sealed_imgCommit (.ite sealed_commitAt (.ite ?_ ?_)))
  · refine .ite ?_ (.ite (sealed_commitAt.trans sealed_decOn) (sealed_commitAt.trans sealed_encKick))
    exact Sealed.trans (.ite sealed_encCut (.refl s)) (sealed_commitAt.trans (sealed_encIdle.trans sealed_encKick))
  · exact .ite sealed_commitAt (.ite sealed_headCommit (.ite sealed_commitAt (.ite sealed_commitAt sealed_commitAt)))

@[simp] theorem sealed_headLate {n : Nat} : Sealed s (s.headLate n) := by
  unfold State.headLate
  split <;> constructor <;> simp

@[simp] theorem sealed_commitReq {rod : Nat} : Sealed s (s.commitReq rod) := by constructor <;> simp [State.commitReq]

@[simp] theorem sealed_msixRise {old : State} : Sealed s (old.msixRise s) := by constructor <;> simp [State.msixRise]

@[simp] theorem sealed_evtClear {blk w v : Nat} : Sealed s (s.evtClear blk w v) := by constructor <;> simp [State.evtClear]

@[simp] theorem sealed_actLane {w : RegWord} {f : Fld} {v : Nat} : Sealed s (s.actLane w f v) := by
  unfold State.actLane
  extract_lets r l s1
  have h₁ : Sealed s s1 := sealed_sets
  refine .ite (.ite sealed_execLaneEnable (.ite sealed_execLaneDisable (.refl s))) (.ite (.ite sealed_execLaneGo (.refl s)) ?_)
  exact .ite (.ite (.ite (h₁.trans sealed_setLane) h₁) (.ite sealed_sets (.refl s))) (.refl s)

@[simp] theorem sealed_actCtl {w : RegWord} {f : Fld} {v : Nat} : Sealed s (s.actCtl w f v) := by
  unfold State.actCtl
  refine .ite (.refl s) (.ite sealed_execPatchGo (.ite sealed_execPatchAbort (.ite sealed_execSubstTest ?_)))
  exact .ite sealed_execSubstReturn (.ite sealed_execLutInval (.ite sealed_execLutCheck (.ite sealed_pwrReq
    (.ite sealed_execFwGo (.ite sealed_execImgGo (.refl s))))))

@[simp] theorem sealed_actLnk {w : RegWord} {f : Fld} {v : Nat} : Sealed s (s.actLnk w f v) := by
  unfold State.actLnk
  extract_lets p
  refine .ite (.ite sealed_execPortEnable (.ite sealed_execPortDisable (.refl s))) (.ite sealed_set (.ite ?_ (.ite ?_ ?_)))
  · exact .ite sealed_execRetrain (.refl s)
  · exact .ite sealed_execExqPost (.refl s)
  · exact .ite sealed_execExsModeChange (.refl s)

@[simp] theorem sealed_actCod {w : RegWord} {f : Fld} {v : Nat} : Sealed s (s.actCod w f v) := by
  unfold State.actCod
  extract_lets r n
  refine .ite (.ite (.refl s) ?_) (.ite sealed_execDecInWr (.refl s))
  split
  · exact sealed_execSchedCommit
  · exact sealed_execSchedStart
  · exact sealed_execSchedStop
  · exact sealed_execSchedIdr
  · exact .refl s

@[simp] theorem sealed_actRrc {w : RegWord} {f : Fld} {v : Nat} : Sealed s (s.actRrc w f v) := by
  unfold State.actRrc
  refine .ite (.ite (.refl s) ?_) (.ite (.ite sealed_execNvqEnable sealed_nvqDisable) (.refl s))
  split
  · exact sealed_execRecFormat
  · exact sealed_execRecMount
  · exact sealed_execRecRecord
  · exact sealed_execRecStop
  · exact sealed_execRecUnmount
  · exact .refl s

@[simp] theorem sealed_actOut {w : RegWord} {f : Fld} {v : Nat} : Sealed s (s.actOut w f v) := by
  constructor <;> simp [State.actOut]

@[simp] theorem sealed_actNet {w : RegWord} {f : Fld} {v : Nat} : Sealed s (s.actNet w f v) := by
  unfold State.actNet
  extract_lets s1
  have h₁ : Sealed s s1 := sealed_set
  refine .ite (.ite sealed_execTlySet (.refl s)) (.ite (.ite sealed_execTlyAdd (.refl s)) (.ite sealed_execTlyRateWrite (.ite ?_ ?_)))
  · exact .ite (.refl s) (.ite (h₁.trans sealed_ptpTo) (.ite (h₁.trans sealed_ptpTo) h₁))
  · exact .ite (.ite sealed_execTrgArm (.refl s)) (.ite (.ite sealed_execTrgDisarm (.refl s))
      (.ite (.ite sealed_execFlowCommit (.refl s)) (.refl s)))

@[simp] theorem sealed_actAud {_w : RegWord} {f : Fld} {v : Nat} : Sealed s (s.actAud _w f v) := by
  constructor <;> simp [State.actAud]

@[simp] theorem sealed_actUtl {w : RegWord} {f : Fld} {v : Nat} : Sealed s (s.actUtl w f v) := by
  unfold State.actUtl
  extract_lets arg
  refine .ite (.ite (by constructor <;> simp) (.ite sealed_execDflDisable (.refl s))) (.ite sealed_execDflTailWrite ?_)
  refine .ite (.ite (by constructor <;> simp) (.ite sealed_execDmaDisable (.refl s))) (.ite sealed_execDmaTailWrite ?_)
  refine .ite sealed_execTrimTargetWrite (.ite (.ite (.refl s) ?_) (.ite (.ite sealed_execCalAbort (.refl s)) (.refl s)))
  split
  · exact Sealed.trans (t := s.drawn) ⟨rfl, rfl⟩ sealed_execCalBgr
  · exact sealed_execCalXo
  · exact sealed_execCalTs
  · exact sealed_execCalLane
  · exact sealed_execCalPll
  · exact .refl s

@[simp] theorem sealed_actWin {w : RegWord} {f : Fld} {v : Nat} : Sealed s (s.actWin w f v) := by
  unfold State.actWin
  extract_lets m len
  refine .ite sealed_execMbDataWrite (.ite (.ite sealed_execMbGo (.ite sealed_execMbArmWait ?_)) ?_)
  · exact .ite (by constructor <;> simp) (.refl s)
  · exact .ite sealed_execDbSet (.ite sealed_execDbClear (.refl s))

@[simp] theorem sealed_putField {w : RegWord} {h : Hit} : Sealed s (s.putField w h) := by
  unfold State.putField
  split <;> constructor <;> simp

@[simp] theorem sealed_msixTable {off v : Nat} : Sealed s (s.msixTable off v) := by constructor <;> simp [State.msixTable]

end

end Sys2Proof.Machine

/-!
A register write puts no command in the queue and changes no fuse but the one whose burn is cut (O14, O15).
-/

namespace Sys2Proof.Machine

open Sys2Proof.Safety

/-- The fuses and what SEC holds stay, or the burn in progress is cut and none is left. -/
def Cuts (s t : State) : Prop := Sealed s t ∨ (t.sec.op = none ∧ fusesButCut s t)

section

variable {s t u : State}

theorem Sealed.cuts (h : Sealed s t) : Cuts s t := .inl h

theorem Cuts.fuses (h : Cuts s t) : fusesButCut s t := h.elim (fun h => .inl h.1) And.right

theorem Cuts.trans (h : Cuts s t) (h' : Cuts t u) : Cuts s u := by
  obtain h | ⟨hop, hcut⟩ := h
  · obtain h' | ⟨hop', hcut'⟩ := h'
    · exact .inl (h.trans h')
    · refine .inr ⟨hop', ?_⟩
      unfold fusesButCut at hcut' ⊢
      rwa [h.1, h.2] at hcut'
  · have hu : u.fuses = t.fuses ∧ u.sec.op = none := by
      obtain h' | ⟨hop', hcut' | ⟨o, _, _, ho, _⟩⟩ := h'
      · exact ⟨h'.1, h'.2 ▸ hop⟩
      · exact ⟨hcut', hop'⟩
      · exact absurd (hop.symm.trans ho) (by simp)
    refine .inr ⟨hu.2, ?_⟩
    unfold fusesButCut
    rwa [hu.1]

theorem Cuts.ite {c : Prop} [Decidable c] (ht : Cuts s t) (hu : Cuts s u) : Cuts s (if c then t else u) := by
  split
  · exact ht
  · exact hu

theorem Cuts.foldl {α : Type} {g : State → α → State} {l : List α} (h : ∀ u x, Cuts u (g u x)) : Cuts s (l.foldl g s) := by
  induction l generalizing s with
  | nil => exact (Sealed.refl s).cuts
  | cons x l ih => exact (h s x).trans ih

/-! ### The warm device reset -/

theorem fusesButCut_burnCut : fusesButCut s s.burnCut := by
  unfold State.burnCut
  split
  · next o ho =>
    split
    · next e rest he =>
      rw [fusesButCut]
      by_cases hf : s.free % 2 = 1
      · exact .inr ⟨o, e, rest, ho, he, by simp [hf]⟩
      · exact .inl (by simp [hf])
    · exact .inl rfl
  · exact .inl rfl

theorem cuts_warmReset {cause dev : Nat} : Cuts s (s.warmReset cause dev) := by
  have h : Sealed { State.reset with fuses := s.burnCut.fuses } (s.warmReset cause dev) := by
    constructor <;> simp [State.warmReset, State.devReset]
  refine .inr ⟨h.2 ▸ rfl, ?_⟩
  have hcut := fusesButCut_burnCut (s := s)
  unfold fusesButCut at hcut ⊢
  rwa [h.1]

theorem cuts_execRstDevWarm : Cuts s (s.via (execRstDevWarm s)) := by
  refine .ite (Sealed.refl s).cuts (.ite (Cuts.trans (t := s.warmReset 4 9) cuts_warmReset (Sealed.cuts ?_)) sealed_hostRetired.cuts)
  constructor <;> simp [State.voterFresh]

/-! ### The write of a word -/

theorem cuts_actAon {w : RegWord} {f : Fld} {v : Nat} : Cuts s (s.actAon w f v) := by
  refine .ite (.ite cuts_execRstDevWarm (Sealed.refl s).cuts) (Sealed.cuts (.ite (sealed_foldl fun u r => ?_) (.refl s)))
  refine .ite (.refl u) ?_
  split
  · exact sealed_execRodHoldSet
  · exact sealed_execRodHoldClear

theorem cuts_act {w : RegWord} {h : Hit} : Cuts s (s.act w h) := by
  unfold State.act
  extract_lets f v
  refine .ite sealed_actLane.cuts (.ite (Sealed.cuts (.ite sealed_commitReq (.refl s))) ?_)
  split
  · exact sealed_actCtl.cuts
  · exact sealed_actLnk.cuts
  · exact sealed_actCod.cuts
  · exact sealed_actCod.cuts
  · exact sealed_actRrc.cuts
  · exact sealed_actOut.cuts
  · exact sealed_actNet.cuts
  · exact sealed_actAud.cuts
  · exact Sealed.cuts (.ite sealed_freqReq (.refl s))
  · exact sealed_actUtl.cuts
  · exact cuts_actAon
  · exact sealed_actWin.cuts
  · exact (Sealed.refl s).cuts

theorem cuts_putWord {w : RegWord} : Cuts s (s.putWord w) := by
  unfold State.putWord
  refine .ite sealed_evtClear.cuts ?_
  extract_lets s1 s2
  have h₁ : Sealed s s1 := sealed_foldl fun _ _ => sealed_putField
  have h₂ : Sealed s s2 := .ite (h₁.trans sealed_msixRise) h₁
  exact h₂.cuts.trans (.foldl fun _ _ => cuts_act)

theorem cuts_regWrite {a v : Nat} : Cuts s (s.regWrite a v) := by
  unfold State.regWrite
  split
  · exact (Sealed.refl s).cuts
  · refine .ite (Sealed.cuts (.ite sealed_msixTable (.refl s))) (.ite (Sealed.refl s).cuts (.ite sealed_wrRange.cuts ?_))
    exact cuts_putWord

/-! ### The read of a word -/

theorem sealed_sideRead {g : State → Res} (h : ∀ u : State, Sealed u (u.via (g u))) : Sealed s (s.sideRead g).2 := by
  have h' := h { s with out := [] }
  unfold State.sideRead
  unfold State.via at h'
  split
  · next t ht =>
    rw [ht] at h'
    exact h'
  · exact .refl s

theorem sealed_readReg {a : Nat} : Sealed s (s.readReg a).2 := by
  unfold State.readReg
  split
  · exact .refl s
  · extract_lets w
    refine .iteOn Prod.snd (.refl s) (.iteOn Prod.snd (.iteOn Prod.snd ?_ ?_) (.iteOn Prod.snd ?_ (.refl s)))
    · exact sealed_sideRead fun _ => sealed_execTlyNowRead
    · split
      · exact sealed_sideRead fun _ => sealed_execCapRead
      · exact sealed_sideRead fun _ => sealed_execTsqPop
      · exact .refl s
    · exact sealed_sideRead fun _ => sealed_execMbTake

/-! ### Register writes, Beam writes and debug accesses -/

theorem Cuts.hostTo {rod : Nat} {g : State → State} (h : Cuts s (g s)) : Cuts s (s.hostTo rod g) :=
  .ite (Sealed.refl s).cuts (.ite h sealed_hostRetired.cuts)

theorem cuts_execRegisterWrite {addr : BitVec 25} {len : BitVec 4} {v : BitVec 32} (h : execRegisterWrite addr len v s = .next t) :
    Cuts s t := by
  obtain rfl := Host.Outcome.next.inj h
  exact .hostTo (.ite sealed_set.cuts cuts_regWrite)

theorem sealed_hostTray {a n : Nat} : Sealed s (s.hostTray a n).2 := by
  refine Sealed.foldlOn Prod.snd (b := ([], s)) fun b p => ?_
  extract_lets u
  refine .iteOn Prod.snd sealed_trayDeny ?_
  split <;> constructor <;> simp [u]

theorem sealed_hostTrayWrite {a : Nat} {d : List Byte} : Sealed s (s.hostTrayWrite a d) :=
  sealed_foldl fun _ _ => .ite sealed_trayStore sealed_trayDeny

theorem sealed_dapNothing {w : Option (BitVec 32)} : Sealed s (s.dapNothing w) := by
  cases w <;> exact ⟨rfl, rfl⟩

theorem cuts_dapBar0 {a : Nat} {w : Option (BitVec 32)} : Cuts s (s.dapBar0 a w) := by
  unfold State.dapBar0
  refine .ite ?_ (.ite sealed_dapNothing.cuts (.ite ?_ ?_))
  · cases w <;> exact Sealed.cuts ⟨rfl, rfl⟩
  · cases w <;> exact sealed_hostRetired.cuts
  · cases w with
    | some v => exact cuts_regWrite
    | none => exact (sealed_readReg (s := s)).cuts

theorem cuts_execDapAccess {acc : DapAccess} (h : execDapAccess acc s = .next t) : Cuts s t := by
  obtain rfl := Host.Outcome.next.inj h
  refine .ite (Sealed.refl s).cuts ?_
  cases acc with
  | bar0 a w => exact cuts_dapBar0
  | tray a w =>
    refine .ite sealed_dapNothing.cuts ?_
    cases w with
    | none => exact (sealed_hostTray (s := s)).cuts
    | some v => exact sealed_hostTrayWrite.cuts
  | keep a w =>
    refine .ite sealed_dapNothing.cuts ?_
    cases w with
    | none => exact (Sealed.refl s).cuts
    | some v => exact Sealed.cuts (.ite (.refl s) ⟨rfl, rfl⟩)
  | core _ _ w => exact sealed_dapNothing.cuts

theorem sealed_txnBegin {src dst epoch txn : Nat} {read : Bool} : Sealed s (s.txnBegin src dst epoch txn read) :=
  .ite (.refl s) ⟨rfl, rfl⟩

theorem sealed_beamStale : Sealed s s.beamStale := by
  constructor <;> simp [State.beamStale]

theorem Cuts.request {src dst epoch txn : Nat} {read : Bool} {serve : State → State × Bool} (h : ∀ u, Cuts u (serve u).1) :
    Cuts s (s.request src dst epoch txn read serve) := by
  unfold State.request
  refine .ite (Sealed.refl s).cuts ?_
  extract_lets s1
  have h₁ : Sealed s s1 := sealed_txnBegin
  exact .ite (h₁.trans sealed_beamStale).cuts (.ite h₁.cuts (.ite (h₁.cuts.trans (h s1)) (Sealed.refl s).cuts))

theorem cuts_execWriteRequest_reg {src dst : Fin 28} {epoch : BitVec 8} {txn : BitVec 10} {cls : Fin 4} {off : Nat} {data : List Byte}
    (h : execWriteRequest src dst epoch txn cls (.reg off) data s = .next t) : Cuts s t := by
  unfold execWriteRequest at h
  obtain rfl := Host.Outcome.next.inj h
  refine .request fun u => ?_
  dsimp only
  split
  · exact sealed_emit.cuts
  · exact cuts_regWrite.trans sealed_emit.cuts

/-- A command that advances puts nothing in the queue. -/
theorem Advances.pending_eq {r : Res} (h : Advances s r) (hr : r = .next t) : t.pending = s.pending := by
  obtain ⟨u, hu, hev⟩ := h
  obtain rfl : u = t := Host.Outcome.next.inj (hu.symm.trans hr)
  exact hev.pending_eq

end

end Sys2Proof.Machine

/-!
What Beam transactions and host windows leave unchanged (O14).
-/

namespace Sys2Proof.Machine

open Sys2Proof.Safety

section

variable {A B : Foot} {s t u : State}

/-! ### Ports -/

@[simp] def staleFields : List Fld := [R.RST_BEAM_STALE, R.RST_BEAM_STALE_CNT] ++ sources [E.beamStale]

/-- What a request touches whatever it asks for. -/
@[simp] def Foot.port : Foot := [.flds staleFields, .part .txns]

theorem Within.beamStale (w : Within A s t) (h : ∀ f ∈ staleFields, A.writes f := by simp) : Within A s t.beamStale := by
  refine w.fields (l := staleFields) ?_ h
  exact ((Within.refl _ t).set.inc).raise

theorem Within.request {src dst epoch txn : Nat} {read : Bool} {serve : State → State × Bool} (w : Within A s t)
    (hs : ∀ u, Within A u (serve u).1) (h : Foot.port ⊆ A := by simp) : Within A s (t.request src dst epoch txn read serve) := by
  unfold State.request
  refine .ite (fun _ => w) fun _ => ?_
  extract_lets s1
  have h₁ : Within A t s1 :=
    .mono (A := Foot.port) (.ite (fun _ => .refl _ _) fun _ => (Within.refl _ t).put [.txns] rfl) h
  refine .ite (fun _ => (w.trans h₁).step (B := Foot.port) (Within.refl _ s1).beamStale h) fun _ => .ite (fun _ => ?_) fun _ => ?_
  · exact (w.trans h₁).emit
  · exact .ite (fun _ => (w.trans h₁).trans (hs s1)) fun _ => w

theorem within_execReply {src dst : Fin 28} {epoch : BitVec 8} {txn : BitVec 10} {status : Fin 6} {data : List Byte}
    (h : execReply src dst epoch txn status data s = .next t) : Within Foot.port s t := by
  obtain rfl := Host.Outcome.next.inj h
  refine .ite (fun _ => .refl _ _) fun _ => ?_
  split
  · exact (Within.refl _ s).beamStale
  · next x _ =>
    refine .ite (fun _ => (Within.refl _ s).beamStale) fun _ => ?_
    extract_lets s1
    have h₁ : Within Foot.port s s1 := (Within.refl _ s).put [.txns] rfl
    exact .ite (fun _ => h₁.beamStale.emit) fun _ => h₁.emit

theorem within_execEventMessage {port : Fin 28} {rod : Fin 16} {epoch : BitVec 8} (h : execEventMessage port rod epoch s = .next t) :
    Within [.fld (I.PEPOCH port rod)] s t := by
  obtain rfl := Host.Outcome.next.inj h
  exact (Within.refl _ s).set

@[simp] def dropFields : List Fld := [R.DROP_STAT_DROPPED, R.DROP_STAT_STREAM, R.DROP_STAT_CNT] ++ sources [E.strgDrop]

theorem Within.flitDrop {stream : Nat} (w : Within A s t) (h : ∀ f ∈ dropFields, A.writes f := by simp) :
    Within A s (t.flitDrop stream) := by
  refine w.fields (l := dropFields) ?_ h
  unfold State.flitDrop
  extract_lets s1
  have h₁ : Within [.flds dropFields] t s1 := .ite (fun _ => .refl _ _) fun _ => (Within.refl _ t).set
  exact h₁.set.inc.raise

theorem within_execStreamFlit {stream : Fin 512} {dst : Fin 28} {mark : Fin 4} {tag : BitVec 32} {data : List Byte}
    (h : execStreamFlit stream dst mark tag data s = .next t) : Within [.flds dropFields, .part .flits] s t := by
  obtain rfl := Host.Outcome.next.inj h
  split
  · exact .refl _ _
  · refine .ite (fun _ => (Within.refl _ s).emit) fun _ => .ite (fun _ => (Within.refl _ s).flitDrop) fun _ => .ite (fun _ => ?_) fun _ => ?_
    · exact (Within.refl _ s).put [.flits] rfl
    · exact .ite (fun _ => (Within.refl _ s).flitDrop) fun _ => .refl _ _

/-! ### The Tray from the Beam -/

@[simp] def Foot.wear : Foot := [.flds corrFields, .part .trayBad]

theorem Within.trayWear {a : Nat} {corrected upset : Bool} (w : Within A s t) (h : Foot.wear ⊆ A := by simp) :
    Within A s (t.trayWear a corrected upset) := by
  refine w.step (B := Foot.wear) (Within.when (.when (.refl _ t) (.ite (fun _ => .refl _ _) fun _ => ?_)) ?_) h
  · exact (Within.refl _ t).put [.trayBad] rfl
  · exact (Within.refl _ _).trayCor

theorem within_readTray {src dst : Fin 28} {epoch : BitVec 8} {txn : BitVec 10} {cls len : Fin 4} {a : Nat} {corrected upset : Bool}
    (h : exec (.readRequest src dst epoch txn cls len (.tray a) corrected upset) s = .next t) :
    Within (Foot.port ++ Foot.wear ++ Foot.tray) s t := by
  obtain rfl := Host.Outcome.next.inj h
  refine (Within.refl _ s).request fun u => ?_
  refine .iteOn Prod.fst (fun _ => (Within.refl _ u).emit) fun _ => ?_
  exact ((Within.when (.refl _ u) (Within.refl _ u).trayWear).trayReadAs).emit

theorem within_writeTray {src dst : Fin 28} {epoch : BitVec 8} {txn : BitVec 10} {cls : Fin 4} {a : Nat} {data : List Byte}
    (h : exec (.writeRequest src dst epoch txn cls (.tray a) data) s = .next t) :
    Within (Foot.port ++ Foot.tray ++ [.trayAt a data.length]) s t := by
  obtain rfl := Host.Outcome.next.inj h
  refine (Within.refl _ s).request fun u => ?_
  refine .iteOn Prod.fst (fun _ => (Within.refl _ u).emit) fun _ => ?_
  exact ((Within.refl _ u).trayWriteAs (by simp) (by simp) (by simp) fun x h₁ h₂ _ => ⟨.trayAt a data.length, by simp, h₁, h₂⟩).emit

/-! ### DRAM from the Beam -/

@[simp] def Foot.memRead : Foot := [.kin [I.CH_SEQ 0], .part .rdQ, .part .rdParts]

theorem Within.memRead {ch port txn cls x n : Nat} (w : Within A s t) (h : Foot.memRead ⊆ A := by simp) :
    Within A s (t.memRead ch port txn cls x n).1 := by
  refine w.step (B := Foot.memRead) (.iteOn Prod.fst (fun _ => .refl _ _) fun _ => .foldl (.refl _ t) fun u k _ => ?_) h
  refine .ite (fun _ => (Within.refl _ u).donePart) fun _ => .set ?_
  exact (Within.refl _ u).put [.rdQ] rfl

@[simp] def Foot.memWrite : Foot := [.kin [I.CH_SEQ 0], .part .wrQ]

theorem Within.memWrite {ch cls x : Nat} {d : List Byte} (w : Within A s t) (h : Foot.memWrite ⊆ A := by simp) :
    Within A s (t.memWrite ch cls x d).1 := by
  refine w.step (B := Foot.memWrite) (.iteOn Prod.fst (fun _ => .refl _ _) fun _ => .foldl (.refl _ t) fun u c _ => ?_) h
  extract_lets new
  split
  · exact (Within.refl _ u).put [.wrQ] rfl
  · refine .set ?_
    exact (Within.refl _ u).put [.wrQ] rfl

theorem within_readDram {src dst : Fin 28} {epoch : BitVec 8} {txn : BitVec 10} {cls len : Fin 4} {region off : Nat}
    {corrected upset : Bool} (h : exec (.readRequest src dst epoch txn cls len (.dram region off) corrected upset) s = .next t) :
    Within (Foot.port ++ Foot.memRead) s t := by
  obtain rfl := Host.Outcome.next.inj h
  refine (Within.refl _ s).request fun u => ?_
  dsimp only
  split
  · exact .iteOn Prod.fst (fun _ => (Within.refl _ u).emit) fun _ => (Within.refl _ u).memRead
  · exact (Within.refl _ u).emit

theorem within_writeDram {src dst : Fin 28} {epoch : BitVec 8} {txn : BitVec 10} {cls : Fin 4} {region off : Nat} {data : List Byte}
    (h : exec (.writeRequest src dst epoch txn cls (.dram region off) data) s = .next t) : Within (Foot.port ++ Foot.memWrite) s t := by
  obtain rfl := Host.Outcome.next.inj h
  refine (Within.refl _ s).request fun u => ?_
  dsimp only
  split
  · refine .iteOn Prod.fst (fun _ => (Within.refl _ u).emit) fun _ => ?_
    exact .iteOn Prod.fst (fun _ => ((Within.refl _ u).memWrite).emit) fun _ => (Within.refl _ u).memWrite
  · exact (Within.refl _ u).emit

end

end Sys2Proof.Machine

/-!
What register reads, the host's windows and EVT_STAT words leave unchanged (O14).
-/

namespace Sys2Proof.Machine

open Sys2Proof.Safety

section

variable {A B : Foot} {s t u : State}

/-! ### Reads of registers -/

theorem Within.hostRead {rod : Nat} {g : State → Nat × State} (w : Within A s t) (hg : Within A t (g t).2)
    (h : Foot.retire ⊆ A := by simp) : Within A s (t.hostRead rod g) :=
  .ite (fun _ => w) fun _ => .ite (fun _ => (w.trans hg).emit) fun _ => (w.hostRetired h).emit

theorem Within.hostReadBead {rod bead : Nat} {g : State → Nat × State} (w : Within A s t) (hg : Within A t (g t).2)
    (h : Foot.retire ⊆ A := by simp) : Within A s (t.hostReadBead rod bead g) :=
  w.hostRead (.iteOn Prod.snd (fun _ => hg) fun _ => .refl _ _) h

theorem Within.sideRead {g : State → Res} (w : Within A s t) (hg : ∀ u v, g u = .next v → Within A u v) :
    Within A s (t.sideRead g).2 := by
  have h₁ : Within A s { t with out := [] } := w.loose rfl
  unfold State.sideRead
  split
  · next v hv => exact (h₁.trans (hg _ v hv)).loose rfl
  · exact w

@[simp] def nowFields : List Fld := [R.NOW_NS_V, R.NOW_SEC_V, R.NOW_HI_V]

theorem within_execTlyNowRead (h : execTlyNowRead s = .next t) : Within (Foot.retire ++ [.kin nowFields]) s t := by
  obtain rfl := Host.Outcome.next.inj h
  exact (Within.refl _ s).hostReadBead (Within.refl _ s).sets

@[simp] def capFields : List Fld := [R.CAP_NS_V 0, R.CAP_SEC_V 0, R.CAP_HI_V 0, R.CAP_STAT_VALID 0]

theorem within_execCapRead {j : Fin 8} (h : execCapRead j s = .next t) : Within (Foot.retire ++ [.kin capFields]) s t := by
  obtain rfl := Host.Outcome.next.inj h
  exact (Within.refl _ s).hostReadBead (.ite (fun _ => (Within.refl _ s).sets) fun _ => .refl _ _)

@[simp] def tsqFields : List Fld :=
  [R.TSQ_POP_VALID 0, R.TSQ_POP_ID 0, R.TSQ_NS_NS 0, R.TSQ_SEC_SEC 0, R.TSQ_HI_V 0, R.TSQ_STAT_LEVEL 0]

theorem within_execTsqPop {m : Fin 4} (h : execTsqPop m s = .next t) : Within (Foot.retire ++ [.kin tsqFields, .part .tsq]) s t := by
  obtain rfl := Host.Outcome.next.inj h
  refine (Within.refl _ s).hostReadBead ?_
  split
  · refine .sets ?_
    exact (Within.refl _ s).put [.tsq] rfl
  · exact (Within.refl _ s).set

/-- What the read of a register touches: what reads of the time, of captures, of time stamps and of a mailbox's TAKE change. -/
@[simp] def Foot.readReg : Foot :=
  Foot.retire ++ [.flds (sources ((List.range 8).map E.mbTaken)), .kin nowFields, .kin capFields, .kin tsqFields,
    .kin [R.MB_STAT_FULL 0, R.MB_STAT_WAIT_ACK 0], .part .tsq]

theorem Within.mbTakenAny {m : Nat} (w : Within A s t) (h : Perm.kin [R.MB_STAT_FULL 0, R.MB_STAT_WAIT_ACK 0] ∈ A)
    (h' : Perm.flds (sources ((List.range 8).map E.mbTaken)) ∈ A) : Within A s (t.mbTaken m) := by
  have hw : ∀ f, kindred [R.MB_STAT_FULL 0, R.MB_STAT_WAIT_ACK 0] f → A.writes f := fun f hf => ⟨_, h, hf⟩
  refine .ite (fun hm => ?_) fun _ => (w.set (hw _ (by simp))).set (hw _ (by simp))
  refine ((w.set (hw _ (by simp))).set (hw _ (by simp))).raise ⟨_, h', ?_⟩
  simp at hm ⊢
  exact ⟨m / 2, by omega, rfl, rfl⟩

theorem within_execMbTake_any {agent : Fin 6} {m : Fin 32} (h : execMbTake agent m s = .next t) : Within Foot.readReg s t := by
  obtain rfl := Host.Outcome.next.inj h
  extract_lets mine s1
  have h₁ : Within Foot.readReg s s1 := .ite (fun _ => (Within.refl _ s).mbTakenAny (by simp) (by simp)) fun _ => .refl _ _
  exact .ite (fun _ => h₁.emit) fun _ => h₁

theorem Within.readReg {a : Nat} (w : Within A s t) (h : Foot.readReg ⊆ A := by simp) : Within A s (t.readReg a).2 := by
  refine w.step (B := Foot.readReg) ?_ h
  have now : ∀ u v, execTlyNowRead u = .next v → Within Foot.readReg u v := fun _ _ h => (within_execTlyNowRead h).mono (by simp)
  have cap : ∀ j u v, execCapRead j u = .next v → Within Foot.readReg u v := fun _ _ _ h => (within_execCapRead h).mono (by simp)
  have pop : ∀ m u v, execTsqPop m u = .next v → Within Foot.readReg u v := fun _ _ _ h => (within_execTsqPop h).mono (by simp)
  unfold State.readReg
  split
  · exact .refl _ _
  · extract_lets p
    refine .iteOn Prod.snd (fun _ => .refl _ _) fun _ => .iteOn Prod.snd (fun _ => ?_) fun _ => ?_
    · refine .iteOn Prod.snd (fun _ => (Within.refl _ t).sideRead now) fun _ => ?_
      split
      · exact (Within.refl _ t).sideRead (cap _)
      · exact (Within.refl _ t).sideRead (pop _)
      · exact .refl _ _
    · exact .iteOn Prod.snd (fun _ => (Within.refl _ t).sideRead fun _ _ h => within_execMbTake_any h) fun _ => .refl _ _

theorem within_readRegister {src dst : Fin 28} {epoch : BitVec 8} {txn : BitVec 10} {cls len : Fin 4} {off : Nat}
    {corrected upset : Bool} (h : exec (.readRequest src dst epoch txn cls len (.reg off) corrected upset) s = .next t) :
    Within (Foot.port ++ Foot.readReg ++ [.part .freeCtr]) s t := by
  obtain rfl := Host.Outcome.next.inj h
  refine (Within.refl _ s).request fun u => ?_
  dsimp only
  split
  · exact (Within.refl _ u).emit
  · exact ((Within.refl _ u).readReg.drawn).emit

theorem within_readNothing {src dst : Fin 28} {epoch : BitVec 8} {txn : BitVec 10} {cls len : Fin 4} {corrected upset : Bool}
    (h : exec (.readRequest src dst epoch txn cls len .nothing corrected upset) s = .next t) : Within Foot.port s t := by
  obtain rfl := Host.Outcome.next.inj h
  exact (Within.refl _ s).request fun u => (Within.refl _ u).emit

theorem within_writeNothing {src dst : Fin 28} {epoch : BitVec 8} {txn : BitVec 10} {cls : Fin 4} {data : List Byte}
    (h : exec (.writeRequest src dst epoch txn cls .nothing data) s = .next t) : Within Foot.port s t := by
  obtain rfl := Host.Outcome.next.inj h
  exact (Within.refl _ s).request fun u => (Within.refl _ u).emit

/-! ### The host's windows -/

/-- What a read through a window touches. -/
@[simp] def Foot.window : Foot := Foot.retire ++ Foot.tray ++ Foot.wear ++ [.part .freeCtr]

/-- A fold that carries a state beside other values. -/
theorem Within.foldlOn {α β : Type} (get : β → State) {g : β → α → β} {l : List α} {b : β} (w : Within A s (get b))
    (hg : ∀ b, ∀ x ∈ l, Within A (get b) (get (g b x))) : Within A s (get (l.foldl g b)) := by
  induction l generalizing b with
  | nil => exact w
  | cons x l ih => exact ih (w.trans (hg b x (by simp))) fun b y hy => hg b y (by simp [hy])

theorem Within.hostTray {a n : Nat} (w : Within A s t) (h : Foot.tray ++ [.part .freeCtr] ⊆ A := by simp) :
    Within A s (t.hostTray a n).2 := by
  refine w.step (B := Foot.tray ++ [.part .freeCtr]) ?_ h
  refine Within.foldlOn Prod.snd (b := ([], t)) (.refl _ t) fun b p _ => ?_
  refine .iteOn Prod.snd (fun _ => (Within.refl _ b.2).trayDeny) fun _ => ?_
  split
  · exact .refl _ _
  · exact ((Within.refl _ b.2).trayUnc).drawn

theorem Within.windowReadAt {a n : Nat} {corrected upset : Bool} (w : Within A s t) (h : Foot.window ⊆ A := by simp) :
    Within A s (t.windowReadAt a n corrected upset) := by
  refine w.step (B := Foot.window) ?_ h
  exact ((Within.when (.refl _ t) (Within.refl _ t).trayWear).hostTray).emit

/-- A piece of a span lies in it. -/
theorem granPieces_within {a n x : Nat} {p : Nat × Nat × Nat} (hp : p ∈ granPieces a n) (h₁ : p.2.1 ≤ x) (h₂ : x < p.2.1 + p.2.2) :
    a ≤ x ∧ x < a + n := by
  obtain ⟨g, -, rfl⟩ := List.mem_map.1 hp
  dsimp only at h₁ h₂
  omega

theorem Within.hostTrayWrite {a n : Nat} {d : List Byte} (w : Within A s t) (hn : d.length ≤ n)
    (h : Foot.tray ++ [.trayAt a n] ⊆ A := by simp) : Within A s (t.hostTrayWrite a d) := by
  refine w.step (B := Foot.tray ++ [.trayAt a n]) (.foldl (.refl _ t) fun u p hp => .ite (fun _ => ?_) fun _ => ?_) h
  · refine (Within.refl _ u).trayStore (by simp) (by simp) (by simp) fun x h₁ h₂ => ⟨.trayAt a n, by simp, ?_⟩
    have hlen : (slice d (p.2.1 - a) p.2.2).length ≤ p.2.2 := by simp [slice]
    obtain ⟨ha, hx⟩ := granPieces_within (x := x) hp h₁ (by omega)
    exact ⟨ha, by omega⟩
  · exact (Within.refl _ u).trayDeny

theorem within_execBar2Read {addr : BitVec 26} {len : BitVec 13} {corrected upset : Bool}
    (h : execBar2Read addr len corrected upset s = .next t) : Within Foot.window s t := by
  obtain rfl := Host.Outcome.next.inj h
  exact (Within.refl _ s).hostTo (Within.refl _ s).windowReadAt

theorem within_execBar4Read {off : BitVec 20} {len : BitVec 13} {corrected upset : Bool}
    (h : execBar4Read off len corrected upset s = .next t) : Within Foot.window s t := by
  obtain rfl := Host.Outcome.next.inj h
  exact (Within.refl _ s).hostTo (Within.refl _ s).windowReadAt

theorem within_execBar2Write {addr : BitVec 26} {data : List Byte} (h : execBar2Write addr data s = .next t) :
    Within (Foot.retire ++ Foot.tray ++ [.trayAt addr.toNat data.length]) s t := by
  obtain rfl := Host.Outcome.next.inj h
  exact (Within.refl _ s).hostTo ((Within.refl _ s).hostTrayWrite (List.length_take_le' _ _))

theorem within_execBar4Write {off : BitVec 20} {data : List Byte} (h : execBar4Write off data s = .next t) :
    Within (Foot.retire ++ Foot.tray ++ [.trayAt (s.bar4 off.toNat) data.length]) s t := by
  obtain rfl := Host.Outcome.next.inj h
  exact (Within.refl _ s).hostTo ((Within.refl _ s).hostTrayWrite (List.length_take_le' _ _))

/-! ### EVT_STAT words -/

theorem Within.evtClear {blk w' v : Nat} {l : List Fld} (w : Within A s t)
    (hl : ∀ b < 32, R.EVT_STAT blk (32 * w' + b) ∈ l) (h : Perm.flds l ∈ A) : Within A s (t.evtClear blk w' v) := by
  unfold State.evtClear
  extract_lets s1
  have h₁ : Within A t s1 := .foldl (.refl _ t) fun u b hb => .ite (fun _ => .refl _ _) fun _ => (Within.refl _ u).set
    ⟨_, h, List.mem_map_of_mem (hl b (by simpa using (List.mem_filter.1 hb).1))⟩
  exact (w.trans h₁).foldl fun u x _ => .ite (fun _ => (Within.refl _ u).msix) fun _ => .refl _ _

theorem within_execEvtStatClear {blk : Fin 17} {w : Fin 8} {v : BitVec 32} (h : execEvtStatClear blk w v s = .next t) :
    Within (.flds ((List.range 32).map fun b => R.EVT_STAT blk (32 * w + b)) :: Foot.retire) s t := by
  obtain rfl := Host.Outcome.next.inj h
  refine (Within.refl _ s).hostTo (.ite (fun _ => ?_) fun _ => .refl _ _)
  exact (Within.refl _ s).evtClear (fun b hb => List.mem_map.2 ⟨b, by simpa using hb, rfl⟩) (List.mem_cons_self ..)

end

end Sys2Proof.Machine

namespace Sys2Proof.Machine

open Sys2Proof.Safety

section

variable {s t : State}

/-- A read through a window leaves the jobs, their records, and all else but the Tray's bad words. -/
theorem frame_window (w : Within Foot.window s t) :
    keeps (among (trayFields ++ retireFields ++ corrFields)) s t ∧
      deepBeyond t = { deepBeyond s with trayBad := t.trayBad } ∧ t.jobs = s.jobs ∧ t.clogQ = s.clogQ := by
  have e : beyond t = { beyond s with trayBad := t.trayBad, freeCtr := t.freeCtr } := w.beyond_of [.trayBad, .freeCtr]
  have hj := congrArg State.jobs e
  have hc := congrArg State.clogQ e
  exact ⟨w.keepsAmong, congrArg (fun u : State => { u with jobs := [], clogQ := [], freeCtr := 0 }) e, hj, hc⟩

/-- A write through a window changes the bytes written alone. -/
theorem frame_windowWrite {a n : Nat} (w : Within (Foot.retire ++ Foot.tray ++ [.trayAt a n]) s t) :
    keeps (among (trayFields ++ retireFields)) s t ∧ beyond t = { beyond s with tray := t.tray, trayBad := t.trayBad } ∧
      trayOutside a n s t :=
  ⟨w.keepsAmong, w.beyond_of [.tray, .trayBad], w.trayOutside (by simp [Foot.putsTray])⟩

end

/-- Settles O14: each transaction stays within the footprint of what it asks for, and a register write cuts a burn at most. -/
theorem beamFrames : Obligations.BeamFrames := by
  unfold Obligations.BeamFrames
  refine ⟨?_, ?_, ?_, ?_, ?_, ?_, ?_, ?_, ?_, ?_, ?_, ?_, ?_, ?_, ?_, ?_⟩
  case refine_1 =>
    intro src dst epoch txn status data s t h
    have w := within_execReply h
    exact ⟨w.keepsAmong, w.beyond_of [.txns]⟩
  case refine_2 =>
    intro port rod epoch s t h
    have w := within_execEventMessage h
    exact ⟨w.keepsAmong, w.beyond_of []⟩
  case refine_3 =>
    intro stream dst mark tag data s t h
    have w := within_execStreamFlit h
    exact ⟨w.keepsAmong, w.beyond_of [.flits]⟩
  case refine_4 =>
    rintro src dst epoch txn cls len addr corrected upset a s t h rfl
    have w := within_readTray h
    exact ⟨w.keepsAmong, w.beyond_of [.txns, .trayBad, .freeCtr]⟩
  case refine_5 =>
    rintro src dst epoch txn cls addr data a s t h rfl
    have w := within_writeTray h
    exact ⟨w.keepsAmong, w.beyond_of [.txns, .tray, .trayBad], w.trayOutside (by simp [Foot.putsTray])⟩
  case refine_6 =>
    rintro src dst epoch txn cls len addr corrected upset region off s t h rfl
    have w := within_readDram h
    exact ⟨w.keeps (by simp +contextual [either]), w.beyond_of [.txns, .rdQ, .rdParts]⟩
  case refine_7 =>
    rintro src dst epoch txn cls addr data region off s t h rfl
    have w := within_writeDram h
    exact ⟨w.keeps (by simp +contextual [either]), w.beyond_of [.txns, .wrQ]⟩
  case refine_8 =>
    rintro src dst epoch txn cls len addr corrected upset off s t h rfl
    have w := within_readRegister h
    exact ⟨w.keeps (by simp +contextual [either, or_imp]), w.beyond_of [.txns, .tsq, .freeCtr]⟩
  case refine_9 =>
    rintro src dst epoch txn cls len addr corrected upset s t h rfl
    have w := within_readNothing h
    exact ⟨w.keepsAmong, w.beyond_of [.txns]⟩
  case refine_10 =>
    rintro src dst epoch txn cls addr data off s t h rfl
    have h' : execWriteRequest src dst epoch txn cls (.reg off) data s = .next t := h
    exact ⟨(advances_execWriteRequest (.refl s)).pending_eq h', (cuts_execWriteRequest_reg h').fuses⟩
  case refine_11 =>
    rintro src dst epoch txn cls addr data s t h rfl
    have w := within_writeNothing h
    exact ⟨w.keepsAmong, w.beyond_of [.txns]⟩
  case refine_12 =>
    exact fun addr len corrected upset s t h => frame_window (within_execBar2Read h)
  case refine_13 =>
    exact fun addr data s t h => frame_windowWrite (within_execBar2Write h)
  case refine_14 =>
    exact fun off len corrected upset s t h => frame_window (within_execBar4Read h)
  case refine_15 =>
    exact fun off data s t h => frame_windowWrite (within_execBar4Write h)
  case refine_16 =>
    intro blk w v s t h
    have w := within_execEvtStatClear h
    exact ⟨w.keepsAmong, w.beyond_of []⟩

end Sys2Proof.Machine

/-!
What a commit request leaves unchanged (O15).
-/

namespace Sys2Proof.Machine

open Sys2Proof.Safety

section

variable {A B : Foot} {s t u : State}

theorem Foot.sets_of_mem {r : Nat} (h : Perm.sets r ∈ A) : A.sets r := fun _ hf => ⟨_, h, hf⟩

/-! ### Links -/

/-- What the commit point of a block that does no more touches. -/
@[simp] def Foot.point (rod : Nat) : Foot := .block rod :: Foot.commit rod

theorem within_rephase {p fwd back : Nat} : Within [.block 1] s (s.rephase p fwd back) := by
  unfold State.rephase
  refine .ite (fun _ => .refl _ _) fun _ => .ite (fun _ => (Within.refl _ s).set.set) fun _ => ?_
  extract_lets t s1 want got
  have h₁ : Within [.block 1] s s1 := (Within.refl _ s).set.set
  exact .ite (fun _ => h₁.set.raise (by simp [E.refRephase])) fun _ => h₁

theorem within_commitPair : Within (Foot.point 1) s s.commitPair := by
  unfold State.commitPair
  refine .ite (fun _ => .refl _ _) fun _ => ?_
  extract_lets ask rules bad s1
  have h₁ : Within (Foot.point 1) s s1 := (Within.refl _ s).clearPend.clearPend
  have hs : Foot.sets (Foot.point 1) 1 := Foot.sets_of_mem (by simp)
  exact .ite (fun _ => h₁.commitBad) fun _ => (h₁.commitDom hs).commitDom hs

theorem within_commitLnk {p : Nat} : Within (Foot.point 1) s (s.commitLnk p) := by
  unfold State.commitLnk
  extract_lets key s1
  have h₁ : Within (Foot.point 1) s s1 := .ite (fun _ => within_commitPair) fun _ => (Within.refl _ s).commitAt
  exact h₁.foldl fun u q _ => .ite (fun _ => .refl _ _) fun _ => within_rephase.mono (by simp)

/-! ### Image rods -/

theorem within_imgCommit {n : Nat} : Within (Foot.point (2 + n)) s (s.imgCommit n).1 := by
  unfold State.imgCommit
  extract_lets rod wasFixed r all
  have hr : Within (Foot.point (2 + n)) s r.1 := (Within.refl _ s).tryCommit (by simp [rod])
  refine .iteOn Prod.fst (fun _ => hr.foldl fun u c _ => ?_) fun _ => hr
  exact (Within.ite (fun _ => (Within.refl _ u).set) fun _ => .refl _ u).set

theorem within_imgAsk {n : Nat} : Within (Foot.point (2 + n)) s (s.imgAsk n) := by
  unfold State.imgAsk
  extract_lets rod s1 at_
  have h₁ : Within (Foot.point (2 + n)) s s1 := (Within.refl _ s).set (by simp [rod])
  exact .ite (fun _ => h₁.set.set.raise (by simp [E.atMissed])) fun _ => h₁

/-! ### Heads -/

@[simp] def Foot.head : Foot := Foot.point 11 ++ Foot.tray ++ [.part .uanc, .part .hdrs]

theorem within_fence {n j k : Nat} : Within Foot.head s (s.fence n j k).2 := by
  unfold State.fence
  refine .iteOn Prod.snd (fun _ => .refl _ _) fun _ => ?_
  extract_lets r
  have hr : Within Foot.head s r.2.2 := (Within.refl _ s).trayReadAs
  exact .iteOn Prod.snd (fun _ => hr.set.raise (by simp [E.cmpFenceErr])) fun _ => hr

theorem within_groupFences {n g : Nat} : Within Foot.head s (s.groupFences n g).2 :=
  Within.foldlOn Prod.snd (b := (true, s)) (.refl _ s) fun b _ _ => Within.foldlOn Prod.snd (.refl _ b.2) fun _ _ _ => within_fence

theorem Within.commitRod {p : Key → Bool} (w : Within A s t) (rod : Nat) (hp : ∀ k, p k = true → k.1 = rod) (h : Perm.block rod ∈ A) :
    Within A s (t.commitWhere p) :=
  w.commitWhere fun f hf => ⟨_, h, hp f.key hf⟩

theorem within_flips {n : Nat} {p : Nat → Bool} : Within Foot.head s (s.flips n p) := by
  unfold State.flips
  refine Within.foldl ((Within.refl _ s).set) fun u g _ => ?_
  extract_lets r
  have hr : Within Foot.head u r.2 := within_groupFences
  refine .ite (fun _ => .foldl (hr.commitRod 11 (fun k hk => ?_) (by simp)) fun v j _ => (Within.refl _ v).set) fun _ => ?_
  · simp only [State.flipKey, inDom, Bool.and_eq_true, decide_eq_true_eq] at hk
    exact hk.1.1
  · exact hr.set.set.inc.raise (by simp [E.cmpFenceDefer])

theorem within_cmpApply {n : Nat} : Within Foot.head s (s.cmpApply n) := by
  refine Within.trans ((Within.refl _ s).commitRod 11 (fun k hk => ?_) (by simp)) within_flips
  simp only [State.layoutKey, inDom, Bool.and_eq_true, decide_eq_true_eq] at hk
  exact hk.1.1.1

theorem within_outputs : Within Foot.head s s.outputs := by
  refine Within.foldl (.refl _ s) fun u q _ => Within.trans (t := u.sdiStat q) ?_ ?_
  · refine .ite (fun _ => ?_) fun _ => (Within.refl _ u).sets
    split
    · exact (Within.refl _ u).sets
    · exact (Within.refl _ u).sets
  · refine .ite (fun _ => (Within.refl _ _).set) fun _ => .ite (fun _ => (Within.refl _ _).sets) fun _ => ?_
    exact .ite (fun _ => (Within.refl _ _).sets) fun _ => ((Within.refl _ _).sets.set).raise (by simp [E.dpLink])

theorem within_outCopies {n : Nat} : Within Foot.head s (s.outCopies n) := by
  refine Within.foldl (.refl _ s) fun u o _ => ?_
  extract_lets r copy s1 r' copy'
  have h₁ : Within Foot.head u s1 :=
    .ite (fun _ => Within.put (t := r.2.2) (Within.refl _ u).trayReadAs [.uanc] rfl) fun _ => .refl _ u
  exact .ite (fun _ => Within.put (t := r'.2.2) h₁.trayReadAs [.hdrs] rfl) fun _ => h₁

theorem within_headApply {n : Nat} : Within Foot.head s (s.headApply n) := by
  unfold State.headApply
  extract_lets clk s1 s2 s3
  have h₁ : Within Foot.head s s1 := within_cmpApply.commitRod 11 (fun k hk => by
    simp only [State.routeKey, Bool.and_eq_true, decide_eq_true_eq] at hk
    exact hk.1) (by simp)
  have h₂ : Within Foot.head s s2 := h₁.foldl fun u o _ => .ite
    (fun _ => .ite (fun _ => (Within.refl _ u).set) fun _ => .refl _ u)
    fun _ => .ite (fun _ => (Within.refl _ u).setInf (Foot.sets_of_mem (by simp))) fun _ => .refl _ u
  have h₃ : Within Foot.head s s3 := .ite (fun _ => h₂.set) fun _ => h₂
  exact (h₃.trans within_outCopies).trans within_outputs

theorem within_headCommit {n : Nat} : Within Foot.head s (s.headCommit n) := by
  unfold State.headCommit
  extract_lets rules
  have retry : ∀ u pass, Within Foot.head u (u.cmpRetry n pass) := fun u pass => .ite (fun _ => within_flips) fun _ => .refl _ u
  have h₁ : Within Foot.head s (s.clearPend 11 n) := (Within.refl _ s).clearPend
  refine .ite (fun _ => ?_) fun _ => retry s _
  split
  · exact h₁.commitBad.trans (retry _ _)
  · exact h₁.trans within_headApply

theorem within_headLate {n : Nat} : Within Foot.head s (s.headLate n) :=
  .ite (fun _ => ((Within.refl _ s).set.inc).raise (by simp [E.headCommitLate])) fun _ => .refl _ s

/-! ### Encoders and decoders -/

theorem within_encCut {e : Nat} : Within (Foot.enc (e / 4)) s (s.encCut e) := by
  unfold State.encCut
  extract_lets r k
  split
  · next x hx =>
    split
    · next j hj =>
      extract_lets s1
      have he : j.enc = e := by simpa [hj] using List.find?_some hx
      have h₁ : Within (Foot.enc (e / 4)) s s1 := ((Within.refl _ s).modStrm).endJob (by simp [encJobOf, he])
      exact ((h₁.set (by simp [r])).set (by simp [r])).raise (by simp [E.encCut, r])
    · exact .refl _ s
  · exact .refl _ s

theorem within_encIdle {r k : Nat} : Within (Foot.enc r) s (s.encIdle r k) := by
  unfold State.encIdle
  extract_lets s1
  have h₁ : Within (Foot.enc r) s s1 := (Within.refl _ s).commitAt
  exact .ite (fun _ => h₁.commitAt) fun _ => h₁

theorem within_decOn {r : Nat} : Within (Foot.enc r) s (s.decOn r) :=
  .ite (fun _ => (Within.refl _ s).set) fun _ => .refl _ s

/-! ### The request -/

/-- What a commit request of a rod touches. -/
@[simp] def Foot.request (rod : Nat) : Foot := Foot.point rod ++ Foot.encs ++ [.part .uanc, .part .hdrs]

/-- The commit points of a coding rod. -/
theorem within_domainCod {r d : Nat} (hr : r < 2) (hd : d < 6) (s : State) : Within Foot.encs s (s.domainNow (8 + r) d) := by
  have hA := Foot.enc_subset hr
  have h₈ : 8 + r - 8 = r := Nat.add_sub_cancel_left ..
  unfold State.domainNow
  rw [if_neg (by omega), if_neg (by omega), if_neg (by omega), if_pos (by omega), h₈]
  refine .ite (fun _ => ?_) fun _ => .ite (fun _ => ?_) fun _ => ?_
  · have he : (4 * r + d) / 4 = r := by omega
    have cut : Within (Foot.enc r) s (if s.get (R.ENC_CFG_EN r d) = 0 then s.encCut (4 * r + d) else s) :=
      .ite (fun _ => within_encCut.mono (by rw [he]; exact List.Subset.refl _)) fun _ => .refl _ s
    exact ((cut.commitAt.trans within_encIdle).mono hA).encKick
  · exact ((Within.refl _ s).commitAt.trans within_decOn).mono hA
  · exact ((Within.refl (Foot.enc r) s).commitAt.mono hA).encKick

/-- The commit point of a domain stays within its rod, the encoders and the outputs of a head. -/
theorem within_domainNow {rod d : Nat} (hd : d < domains rod) : Within (Foot.request rod) s (s.domainNow rod d) := by
  by_cases hcod : rod = 8 ∨ rod = 9
  · obtain rfl | rfl := hcod
    · exact (within_domainCod (r := 0) (by omega) (by simpa [domains] using hd) s).mono (by simp)
    · exact (within_domainCod (r := 1) (by omega) (by simpa [domains] using hd) s).mono (by simp)
  have point : ∀ rules, Within (Foot.request rod) s (s.commitAt rod d rules) := fun _ => (Within.refl _ s).commitAt
  have h0 : rod ≠ 0 := by
    rintro rfl
    simp [domains] at hd
  unfold State.domainNow
  refine .ite (fun h => ?_) fun _ => .ite (fun _ => ?_) fun _ => .ite (fun h => ?_) fun _ => .ite (fun _ => by omega) fun _ => ?_
  · subst h
    exact within_commitLnk.mono (by simp)
  · obtain ⟨n, rfl⟩ : ∃ n, rod = 2 + n := ⟨rod - 2, by omega⟩
    rw [Nat.add_sub_cancel_left]
    exact within_imgCommit.mono (by simp)
  · subst h
    exact (Within.refl _ s).commitAt
  · refine .ite (fun h => ?_) fun _ => .ite (fun h => ?_) fun _ => .ite (fun h => ?_) fun _ => .ite (fun h => ?_) fun _ => point _
    · subst h
      exact (Within.refl _ s).commitAt
    · subst h
      exact within_headCommit.mono (by simp)
    · subst h
      exact (Within.refl _ s).commitAt
    · obtain ⟨rfl, -⟩ := h
      exact (Within.refl _ s).commitAt

theorem within_commitReq {rod : Nat} : Within (Foot.request rod) s (s.commitReq rod) := by
  unfold State.commitReq
  extract_lets s1 s2
  have h₁ : Within (Foot.request rod) s s1 := (Within.refl _ s).set
  have h₂ : Within (Foot.request rod) s s2 := by
    refine .ite (fun hr => ?_) fun _ => .ite (fun hr => h₁.foldl fun u n _ => ?_) fun _ => h₁
    · obtain ⟨n, rfl⟩ : ∃ n, rod = 2 + n := ⟨rod - 2, by omega⟩
      rw [Nat.add_sub_cancel_left]
      exact h₁.step within_imgAsk
    · subst hr
      exact within_headLate.mono (by simp)
  exact h₂.foldl fun u d hd => .ite (fun _ => within_domainNow (by simpa using hd)) fun _ => .refl _ u

end

end Sys2Proof.Machine

namespace Sys2Proof.Machine

open Sys2Proof.Safety

section

variable {s t : State}

theorem within_execCommitReq {rod : Fin 16} (h : execCommitReq rod s = .next t) :
    Within (Foot.retire ++ Foot.request rod.val) s t := by
  obtain rfl := Host.Outcome.next.inj h
  exact (Within.refl _ s).hostTo (within_commitReq.mono (by simp))

/-! ### The words of QLD -/

/-- Between the common registers below 0x1000 and the lanes no block has a register that every block has. -/
theorem hits_rowsRod {off : Nat} (h : 0x1000 ≤ off ∧ off < 0x70000) : ∀ r ∈ rowsRod, r.hits off = [] := by
  have far : ∀ r ∈ rowsRod, 0x70000 ≤ r.off ∨ r.off < 0x1000 ∧ r.dims = [] := by
    simp [rowsRod, rowsRod0, rowsRod1]
  intro r hr
  obtain hlo | ⟨hlo, hd⟩ := far r hr
  · exact if_pos (by omega)
  · rw [Row.hits, if_neg (by omega), hd, dimHits, if_neg (by omega)]

/-- The rows of the motion rod name fields of block 7, and none of them a commit request. -/
theorem fields_rowsMot : ∀ r ∈ rowsMot, ∀ ix, (r.fld 7 ix).rod = 7 ∧ (r.fld 7 ix).id ≠ (R.COMMIT_REQ 7).id ∧
    ∀ g ∈ r.clr 7 ix, g.rod = 7 := by
  simp [rowsMot, rowsMot0]

theorem row_of_wordHits {off : Nat} (h : 0x1000 ≤ off ∧ off < 0x70000) {e : Hit} (he : e ∈ wordHits 7 off) : e.row ∈ rowsMot := by
  obtain ⟨r, hr, hx⟩ := List.mem_flatMap.1 he
  obtain ⟨x, hx, e'⟩ := List.mem_filterMap.1 hx
  obtain hr | hr : r ∈ rowsRod ∨ r ∈ rowsMot := by simpa [blockRows] using hr
  · simp [hits_rowsRod h r hr] at hx
  · obtain rfl : _ = e := Option.some.inj ((if_neg (by split at e' <;> simp_all)).symm.trans e')
    exact hr

theorem within_putField_mot {w : RegWord} {e : Hit} (hw : w.blk = 7) (he : e.row ∈ rowsMot) : Within [.block 7] s (s.putField w e) := by
  obtain ⟨hf, -, hc⟩ := fields_rowsMot _ he e.ix
  unfold State.putField
  rw [hw]
  have hset : ∀ v, Within [.block 7] s (s.set (e.fld 7) v) := fun _ => (Within.refl _ s).set (by simp [Hit.fld, hf])
  cases e.ty
  case rw =>
    exact .ite (fun _ => .refl _ _) fun _ => .ite (fun h => by simp at h) fun _ => .ite (fun h => by simp at h) fun _ => hset _
  case stk =>
    exact .ite (fun _ => (hset 0).foldl fun u g hg => (Within.refl _ u).set (by simp [hc g hg])) fun _ => .refl _ _
  all_goals exact .refl _ _

/-- The write of a field of QLD has no effect of its own. -/
theorem act_mot {w : RegWord} {e : Hit} (hw : w.blk = 7) (ho : w.off < 0x70000) (he : e.row ∈ rowsMot) : s.act w e = s := by
  obtain ⟨-, hc, -⟩ := fields_rowsMot _ he e.ix
  have hne : e.fld 7 ≠ R.COMMIT_REQ (e.fld 7).rod := fun h => by
    have hid := congrArg Fld.id h
    exact hc hid
  unfold State.act
  rw [hw, if_neg (by omega), if_neg hne]
  rfl

theorem within_putWord_mot {w : RegWord} (hw : w.blk = 7) (ho : 0x1000 ≤ w.off ∧ w.off < 0x70000) :
    Within [.block 7] s (s.putWord w) := by
  have mot : ∀ e ∈ w.hits, e.row ∈ rowsMot := fun e he => row_of_wordHits ho (by rw [← hw]; exact he)
  unfold State.putWord
  rw [if_neg (by omega)]
  extract_lets s1 s2
  have h₁ : Within [.block 7] s s1 := (Within.refl _ s).foldl fun u e he => within_putField_mot hw (mot e he)
  have h₂ : Within [.block 7] s s2 := .ite (fun h => by omega) fun _ => h₁
  exact h₂.foldl fun u e he => by rw [act_mot hw ho.2 (mot e he)]; exact .refl _ u

/-- The place of an address that QLD's rod governs. -/
theorem placeOf_of_regRod {a : Nat} (h : regRod a = 7) : ∃ ali, placeOf a = some ⟨7, a % 0x80000, ali⟩ := by
  unfold regRod at h
  split at h
  case h_2 => omega
  case h_1 p hp =>
    have hb : p.blk = 7 := by split at h <;> omega
    have hp' := hp
    unfold placeOf at hp'
    split at hp'
    · obtain rfl := Option.some.inj hp'
      exact ⟨_, by rw [hp, ← hb]⟩
    · split at hp'
      · obtain rfl := Option.some.inj hp'
        simp at hb
      · split at hp'
        · obtain rfl := Option.some.inj hp'
          simp at hb
        · cases hp'

theorem within_regWrite_mot {a v : Nat} (h : regRod a = 7) (ho : 0x1000 ≤ a % 0x80000 ∧ a % 0x80000 < 0x70000) :
    Within (.block 7 :: Foot.range 7) s (s.regWrite a v) := by
  obtain ⟨ali, hp⟩ := placeOf_of_regRod h
  unfold State.regWrite
  rw [hp]
  refine .ite (fun _ => .ite (fun h => by simp at h) fun _ => .refl _ _) fun _ => .ite (fun _ => .refl _ _) fun _ =>
    .ite (fun _ => (Within.refl _ s).wrRange) fun _ => (within_putWord_mot rfl ho).mono (by simp)

theorem within_registerWrite_mot {addr : BitVec 25} {len : BitVec 4} {v : BitVec 32} (h : execRegisterWrite addr len v s = .next t)
    (hr : regRod addr.toNat = 7) (ho : 0x1000 ≤ addr.toNat % 2 ^ 19 ∧ addr.toNat % 2 ^ 19 < 0x70000) :
    Within (Foot.retire ++ [.flds [R.HEP_STAT_SIZE_ERR]] ++ .block 7 :: Foot.range 7) s t := by
  obtain rfl := Host.Outcome.next.inj h
  exact (Within.refl _ s).hostTo (.ite (fun _ => (Within.refl _ s).set) fun _ => (within_regWrite_mot hr ho).mono (by simp))

/-! ### What the footprint of a request says -/

/-- The fields of a commit request are its rod's, the recorders' and the records that it may leave. -/
theorem keeps_commitReq {rod : Nat} (w : Within (Foot.retire ++ Foot.request rod) s t) :
    keepsBut (inBlocks [rod, 8, 9] (retireFields ++ trayFields ++ recordFields rod ++ recordFields 8 ++ recordFields 9 ++
      sources [E.commitReject])) [rod, 8, 9] s t := by
  refine w.keepsBut ?_ (by simp +contextual)
  have block : ∀ r ∈ [rod, 8, 9], ∀ f : Fld, f.rod = r → inBlocks [rod, 8, 9] (retireFields ++ trayFields ++ recordFields rod ++
      recordFields 8 ++ recordFields 9 ++ sources [E.commitReject]) f := fun r hr f hf => .inl (hf ▸ hr)
  have commit : ∀ r ∈ [rod, 8, 9], ∀ f, among (commitFields r) f → inBlocks [rod, 8, 9] (retireFields ++ trayFields ++
      recordFields rod ++ recordFields 8 ++ recordFields 9 ++ sources [E.commitReject]) f := fun r hr f =>
    inBlocks_of_among fun g hg => (rod_of_commitFields g hg).imp (fun e => e ▸ hr) fun e => List.mem_append_right _ e
  have list : ∀ k, (∀ f, among k f → among (retireFields ++ trayFields ++ recordFields rod ++ recordFields 8 ++ recordFields 9 ++
      sources [E.commitReject]) f) → ∀ f, among k f → inBlocks [rod, 8, 9] (retireFields ++ trayFields ++ recordFields rod ++
        recordFields 8 ++ recordFields 9 ++ sources [E.commitReject]) f := fun k hk f hf => .inr (hk f hf)
  have retire := list retireFields (by simp +contextual)
  have tray := list trayFields (by simp +contextual)
  have record8 := list (recordFields 8) (by simp +contextual)
  have record9 := list (recordFields 9) (by simp +contextual)
  generalize inBlocks [rod, 8, 9] _ = P at *
  simp only [List.forall_mem_cons, List.not_mem_nil, false_imp_iff, forall_const, and_true] at block commit
  obtain ⟨b, b8, b9⟩ := block
  obtain ⟨c, c8, c9⟩ := commit
  simp +contextual [or_imp, b, b8, b9, c, c8, c9, retire, tray, record8, record9]

end

/-- Settles O15: a request stays within its rod's footprint, and the words of QLD name fields of QLD alone. -/
theorem commitFrame : Obligations.CommitFrame := by
  unfold Obligations.CommitFrame
  refine ⟨?request, ?write, ?qld, ?debug⟩
  case request =>
    intro rod s t h
    have w := within_execCommitReq h
    exact ⟨keeps_commitReq w, w.beyond_of [.strms, .jobs, .trayBad, .hdrs, .uanc, .tray, .clogQ, .canv],
      w.trayOf (by simp +contextual [Foot.putsTray])⟩
  case write =>
    intro addr len v s t h
    have h' : execRegisterWrite addr len v s = .next t := h
    exact ⟨(advances_execRegisterWrite (.refl s)).pending_eq h', (cuts_execRegisterWrite h').fuses⟩
  case qld =>
    intro addr len v s t h hr ho
    have w := within_registerWrite_mot h hr ho
    exact ⟨w.keeps (by simp +contextual [inBlocks, or_imp]), w.beyond_of []⟩
  case debug =>
    intro acc s t h
    have h' : execDapAccess acc s = .next t := h
    exact ⟨(advances_execDapAccess (.refl s)).pending_eq h', (cuts_execDapAccess h').fuses⟩

end Sys2Proof.Machine

end

section

/- One proof at a time: all at once they take more memory than the check has. -/
set_option Elab.async false

/-!
What a rod's own affairs leave of a patch's course.

`Confined P s t` says that from `s` to `t` the stringing, the fields that tell a patch's course, and the power, the reset and the proxy of
every rod outside `P` stayed as they were. Each operation has one lemma, which carries `Confined` over it. Here: the shared operations
and what a rod's reset cuts (spec/02 R69 step 4, spec/21 R487).
-/

namespace Sys2Proof.Machine

open Sys2Proof.Safety

/-! ### What another rod's affairs leave alone -/

/-- The fields that tell the course of a patch, and whether a substitution waits for it. -/
def courseFields : List Fld :=
  [R.PATCH_STAT_STATE, R.PATCH_STAT_CODE, R.PATCH_STAT_DRAINED, R.PATCH_TAG_T, R.PATCH_DETAIL_SECT, R.PATCH_DETAIL_RECORD,
    I.SUBST_WAIT]

/-- The fields of the course, and the power, the reset and the proxy of the rods that `P` does not pick. -/
@[simp] def Watched (P : Nat → Prop) (f : Fld) : Prop :=
  among courseFields f ∨ kindred [I.PROXY 0, I.PWR_ON 0, I.RSTST 0] f ∧ ¬ P f.ix

@[simp] theorem among_courseFields {f : Fld} : among courseFields f ↔
    f.key = R.PATCH_STAT_STATE.key ∨ f.key = R.PATCH_STAT_CODE.key ∨ f.key = R.PATCH_STAT_DRAINED.key ∨
      f.key = R.PATCH_TAG_T.key ∨ f.key = R.PATCH_DETAIL_SECT.key ∨ f.key = R.PATCH_DETAIL_RECORD.key ∨
      f.key = I.SUBST_WAIT.key := by
  simp [courseFields]

/-- A change that leaves the stringing and the watched fields as they are. -/
structure Confined (P : Nat → Prop) (s t : State) : Prop where
  strg_eq : t.strg = s.strg
  get_eq : ∀ f : Fld, Watched P f → t.get f = s.get f

section

variable {P : Nat → Prop} {s t u : State} {f : Fld}

theorem Watched.congr {g : Fld} (e : f.key = g.key) (h : Watched P f) : Watched P g := by
  have e' := e
  simp only [Fld.key, Prod.mk.injEq] at e'
  obtain ⟨er, ei, ex⟩ := e'
  unfold Watched at h ⊢
  simpa only [among, kindred, e, er, ei, ex] using h

/-- The watched fields stand in CTL's block and among the hidden ones. -/
theorem Watched.rod (h : Watched P f) : f.rod = 0 ∨ f.rod = 18 := by
  simp at h
  omega

theorem Confined.refl (s : State) : Confined P s s := ⟨rfl, fun _ _ => rfl⟩

theorem Confined.trans (h : Confined P s t) (h' : Confined P t u) : Confined P s u :=
  ⟨h'.strg_eq.trans h.strg_eq, fun f hf => (h'.get_eq f hf).trans (h.get_eq f hf)⟩

/-- A change to what is neither a register field nor the stringing. -/
theorem Confined.beside (h : Confined P s t) (e : u.strg = t.strg) (er : u.regs = t.regs) : Confined P s u :=
  h.trans ⟨e, fun f _ => by unfold State.get; rw [er]⟩

theorem Confined.set {v : Nat} (h : Confined P s t) (hf : ¬ Watched P f := by simp) : Confined P s (t.set f v) :=
  h.trans ⟨rfl, fun _ hg => State.get_set_key t v fun e => hf (hg.congr e)⟩

theorem Confined.setInf {v : Nat} (h : Confined P s t) : Confined P s (t.setInf f v) := h.beside rfl rfl

theorem Confined.ite {c : Prop} [Decidable c] (ht : Confined P s t) (hu : Confined P s u) : Confined P s (if c then t else u) := by
  split
  · exact ht
  · exact hu

theorem Confined.iteOn {β : Type} (get : β → State) {c : Prop} [Decidable c] {a b : β} (ha : Confined P s (get a))
    (hb : Confined P s (get b)) : Confined P s (get (if c then a else b)) := by
  split
  · exact ha
  · exact hb

theorem Confined.foldl {α : Type} {g : State → α → State} {l : List α} (h : Confined P s t)
    (hg : ∀ u, ∀ x ∈ l, Confined P s u → Confined P s (g u x)) : Confined P s (l.foldl g t) := by
  induction l generalizing t with
  | nil => exact h
  | cons x l ih => exact ih (hg t x (by simp) h) fun u y hy => hg u y (by simp [hy])

theorem Confined.foldlOn {α β : Type} (get : β → State) {g : β → α → β} {l : List α} {b : β} (h : Confined P s (get b))
    (hg : ∀ b x, Confined P s (get b) → Confined P s (get (g b x))) : Confined P s (get (l.foldl g b)) := by
  induction l generalizing b with
  | nil => exact h
  | cons x l ih => exact ih (hg b x h)

/-- No field of the list is watched. -/
def Unwatched (P : Nat → Prop) (l : List Fld) : Prop := ∀ f ∈ l, ¬ Watched P f

@[simp] theorem unwatched_nil : Unwatched P [] := by simp [Unwatched]
@[simp] theorem unwatched_cons {l : List Fld} : Unwatched P (f :: l) ↔ ¬ Watched P f ∧ Unwatched P l := by simp [Unwatched]

@[simp] theorem unwatched_append {l m : List Fld} : Unwatched P (l ++ m) ↔ Unwatched P l ∧ Unwatched P m := List.forall_mem_append
@[simp] theorem unwatched_flatMap {α : Type} {l : List α} {g : α → List Fld} :
    Unwatched P (l.flatMap g) ↔ ∀ x ∈ l, Unwatched P (g x) := by
  simp only [Unwatched, List.mem_flatMap]
  exact ⟨fun h x hx f hf => h f ⟨x, hx, hf⟩, fun h f ⟨x, hx, hf⟩ => h x hx f hf⟩

@[simp] theorem unwatched_commitFields {rod : Nat} : Unwatched P (commitFields rod) := by simp [commitFields]
@[simp] theorem unwatched_recordFields {rod : Nat} : Unwatched P (recordFields rod) := by simp [recordFields]
@[simp] theorem unwatched_trayFields : Unwatched P trayFields := by simp [trayFields]
@[simp] theorem unwatched_calFields : Unwatched P calFields := by simp [calFields]
@[simp] theorem unwatched_dmaFields {d : Nat} : Unwatched P (dmaFields d) := by simp [dmaFields]
@[simp] theorem unwatched_dflIdleFields {n : Nat} : Unwatched P (dflIdleFields n) := by simp [dflIdleFields]

/-- A permission to write no watched field. -/
@[simp] def Perm.spares (P : Nat → Prop) : Perm → Prop
  | .fld g => ¬ Watched P g
  | .flds l => Unwatched P l
  | .kin _ => False
  | .src _ => True
  | .block rod => rod ≠ 0 ∧ rod ≠ 18
  | _ => True

theorem Perm.not_writes_of_spares {p : Perm} (h : p.spares P) (hf : Watched P f) : ¬ p.writes f := by
  intro hw
  cases p with
  | fld g => exact h (hf.congr hw)
  | flds l =>
    obtain ⟨g, hg, e⟩ := List.mem_map.1 hw
    exact h g hg (hf.congr e.symm)
  | kin l => exact h
  | src e => simpa using hf.congr hw
  | block rod =>
    have e : f.rod = rod := hw
    obtain h' | h' := hf.rod
    · exact h.1 (e.symm.trans h')
    · exact h.2 (e.symm.trans h')
  | _ => exact hw

/-- A change within a footprint that permits no watched field. -/
theorem Confined.within {A : Foot} (h : Confined P s t) (w : Within A t u) (hA : ∀ p ∈ A, p.spares P := by simp) : Confined P s u :=
  h.trans ⟨w.strg_eq, fun f hf => w.get_eq f fun ⟨p, hp, hw⟩ => Perm.not_writes_of_spares (hA p hp) hf hw⟩

theorem Confined.get_course (h : Confined P s t) (hf : among courseFields f := by simp) : t.get f = s.get f := h.get_eq f (.inl hf)

/-! ### Shared operations -/

theorem Confined.inc (h : Confined P s t) (hf : ¬ Watched P f := by simp) : Confined P s (t.inc f) := h.set hf

theorem Confined.sets {l : List (Fld × Nat)} (h : Confined P s t) (hl : ∀ e ∈ l, ¬ Watched P e.1 := by simp) :
    Confined P s (t.sets l) :=
  h.foldl fun _ e he hu => hu.set (hl e he)

theorem Confined.zero {l : List Fld} (h : Confined P s t) (hl : ∀ f ∈ l, ¬ Watched P f := by simp) : Confined P s (t.zero l) :=
  h.foldl fun _ f hf hu => hu.set (hl f hf)

theorem Confined.raise {e : E.Src} (h : Confined P s t) : Confined P s (t.raise e) :=
  h.within ((Within.refl [.src e] t).raise)

theorem Confined.raiseIf {b : Bool} {e : E.Src} (h : Confined P s t) : Confined P s (t.raiseIf b e) := .ite h.raise h

theorem Confined.when {b : Bool} {g : State → State} (h : Confined P s t) (hg : ∀ u, Confined P s u → Confined P s (g u)) :
    Confined P s (t.when b g) := .ite (hg t h) h

theorem Confined.emit {o : Out} (h : Confined P s t) : Confined P s (t.emit o) := h.beside rfl rfl

theorem Confined.drawn (h : Confined P s t) : Confined P s t.drawn := h.beside rfl rfl

theorem Confined.commitWhere {p : Key → Bool} (h : Confined P s t) : Confined P s (t.commitWhere p) := h.beside rfl rfl

theorem Confined.beginJob {j : Job} (h : Confined P s t) : Confined P s (t.beginJob j) :=
  h.within ((Within.refl (Foot.job j.rod) t).beginJob)

theorem Confined.endJob {j : Job} {status : Nat} (h : Confined P s t) : Confined P s (t.endJob j status) :=
  h.within ((Within.refl (Foot.job j.rod) t).endJob)

theorem Confined.trayPut {rod a : Nat} {d : List Byte} (h : Confined P s t) : Confined P s (t.trayPut rod a d) :=
  h.within ((Within.refl (Foot.put rod) t).trayPut)

theorem Confined.rodUse {rod a n : Nat} (h : Confined P s t) : Confined P s (t.rodUse rod a n) :=
  h.within ((Within.refl Foot.tray t).rodUse)

/-! ### What a rod's reset cuts -/

theorem Confined.decCut {r : Nat} (h : Confined P s t) (hr : r < 2) : Confined P s (t.decCut r) := by
  unfold State.decCut
  extract_lets s1 s2
  have h₁ : Confined P s s1 := by
    unfold s1
    split
    · exact h.endJob
    · exact h
  have h₂ : Confined P s s2 := h₁.beside rfl rfl
  exact h₂.sets (by simp; omega)

theorem Confined.encCut {e : Nat} (h : Confined P s t) (he : e < 8) : Confined P s (t.encCut e) :=
  h.within within_encCut (by simp; omega)

theorem Confined.dflCut {n : Nat} {log : Bool} (h : Confined P s t) : Confined P s (t.dflCut n log) :=
  h.within (within_dflCut (l := t.dfls.map (fun j => j.u 9 1)) fun _ hj _ => List.mem_map_of_mem hj)

theorem Confined.dmaCut {d : Nat} {log : Bool} (h : Confined P s t) : Confined P s (t.dmaCut d log) := h.within within_dmaCut

/-- A change that sends no carry-log record is confined as the change is. -/
theorem Confined.silently {g : State → State} (h : Confined P s t) (hg : ∀ u, Confined P s u → Confined P s (g u)) :
    Confined P s (t.silently g) := by
  unfold State.silently
  extract_lets src
  have hsrc : Confined P s src := hg _ (h.beside rfl rfl)
  exact hsrc.beside rfl rfl

theorem Confined.thmOff (h : Confined P s t) : Confined P s t.thmOff :=
  .sets (h.foldl fun _ _ _ hu => .ite (hu.set.within within_rephase) hu)

theorem Confined.cutJobs {rod : Nat} (h : Confined P s t) : Confined P s (t.cutJobs rod) := by
  unfold State.cutJobs
  extract_lets s1
  have h₁ : Confined P s s1 := by
    refine h.silently fun u hu => .ite (hu.beside rfl rfl) (.ite (hu.beside rfl rfl) ?_)
    split
    case isTrue hr =>
      exact .decCut (hu.foldl fun _ k hk hv => hv.encCut (by have := List.mem_range.1 hk; omega)) (by omega)
    refine .ite (hu.beside rfl rfl) ?_
    exact .ite (.foldl (hu.foldl fun _ _ _ hv => hv.dflCut) fun _ _ _ hv => hv.dmaCut) hu
  exact h₁.beside rfl rfl

theorem Confined.calRod {rod : Nat} (h : Confined P s t) : Confined P s (t.calRod rod) := by
  unfold State.calRod
  split
  · exact .ite (h.within ((Within.refl Foot.cal t).calEnd)) h
  · exact h

theorem Confined.laneOff {rod l : Nat} (h : Confined P s t) : Confined P s (t.laneOff rod l) := by
  unfold State.laneOff
  extract_lets s1
  have h₁ : Confined P s s1 := h.set.zero (by simp [laneFresh])
  exact .ite h₁ h₁.set

theorem Confined.cutRod {rod : Nat} (h : Confined P s t) : Confined P s (t.cutRod rod) := by
  unfold State.cutRod
  extract_lets s0 s1 s2
  have h₀ : Confined P s s0 := h.cutJobs
  have h₁ : Confined P s s1 := by
    refine .ite (.zero (h₀.beside rfl rfl)) ?_
    refine .ite (h₀.beside rfl rfl) (.ite (h₀.beside rfl rfl) ?_)
    exact .ite (h₀.beside rfl rfl) (.ite (h₀.beside rfl rfl) (.ite (h₀.beside rfl rfl) (.ite h₀.thmOff h₀)))
  have h₂ : Confined P s s2 := h₁.calRod.foldl fun _ _ _ hu => hu.laneOff
  exact h₂.beside rfl rfl

theorem Confined.advance {rod cause : Nat} (h : Confined P s t) : Confined P s (t.advance rod cause) := by
  unfold State.advance
  extract_lets _ s1
  have h₁ : Confined P s s1 := h.sets
  exact h₁.beside rfl rfl

theorem Confined.assertReset {rod cause : Nat} (h : Confined P s t) (hr : P rod := by trivial) :
    Confined P s (t.assertReset rod cause) :=
  .ite h (.ite (h.set (by simp [hr])) (h.cutRod.advance.sets (by simp [hr])))

end

end Sys2Proof.Machine
end

section

/- One proof at a time: all at once they take more memory than the check has. -/
set_option Elab.async false

/-!
A rod's restringing and a patch's course: presets, the start of the rod's units, and the rod's way out of reset (spec/02 R66, R69 steps 5
and 6, spec/21 R487). None of them is more than confined to the rod.
-/

namespace Sys2Proof.Machine

open Sys2Proof.Safety

section

variable {P : Nat → Prop} {s t u : State} {f : Fld}

/-! ### The registers that presets write -/

/-- The field lies outside CTL's block, and is no state without a register of its own. -/
@[simp] def Fld.plain (f : Fld) : Bool := decide (f.rod ≠ 0) && decide (f.id < 2000 ∨ 3000 ≤ f.id)

theorem not_watched_of_plain (h : f.plain = true) : ¬ Watched P f := by
  simp only [Fld.plain, Bool.and_eq_true, decide_eq_true_eq] at h
  intro hf
  simp at hf
  omega

/-- The rows name plain registers in a block. -/
def plainRows (blk ix : Nat) (l : List Row) : Bool := l.all fun r => (r.fld blk ix).plain

theorem plain_rowsLnk {blk ix : Nat} : plainRows blk ix rowsLnk = true := by
  simp [plainRows, Fld.plain, rowsLnk, rowsLnk0, rowsLnk1, rowsLnk2]
theorem plain_rowsMot {blk ix : Nat} : plainRows blk ix rowsMot = true := by
  simp [plainRows, Fld.plain, rowsMot, rowsMot0]
theorem plain_rowsRrc {blk ix : Nat} : plainRows blk ix rowsRrc = true := by
  simp [plainRows, Fld.plain, rowsRrc, rowsRrc0]
theorem plain_rowsOut {blk ix : Nat} : plainRows blk ix rowsOut = true := by
  simp [plainRows, Fld.plain, rowsOut, rowsOut0, rowsOut1, rowsOut2, rowsOut3]
theorem plain_rowsNet {blk ix : Nat} : plainRows blk ix rowsNet = true := by
  simp [plainRows, Fld.plain, rowsNet, rowsNet0, rowsNet1, rowsNet2]
theorem plain_rowsAud {blk ix : Nat} : plainRows blk ix rowsAud = true := by
  simp [plainRows, Fld.plain, rowsAud, rowsAud0, rowsAud1]
theorem plain_rowsMem {blk ix : Nat} : plainRows blk ix rowsMem = true := by
  simp [plainRows, Fld.plain, rowsMem, rowsMem0, rowsMem1]
theorem plain_rowsUtl {blk ix : Nat} : plainRows blk ix rowsUtl = true := by
  simp [plainRows, Fld.plain, rowsUtl, rowsUtl0, rowsUtl1]
theorem plain_rowsCod {blk ix : Nat} : plainRows blk ix rowsCod = true := by
  simp [plainRows, Fld.plain, rowsCod, rowsCod0, rowsCod1]
theorem plain_rowsImg {blk ix : Nat} : plainRows blk ix rowsImg = true := by
  simp [plainRows, Fld.plain, rowsImg, rowsImg0, rowsImg1, rowsImg2]
theorem plain_rowsRod {blk ix : Nat} (h : blk ≠ 0) : plainRows blk ix rowsRod = true := by
  simp [plainRows, Fld.plain, rowsRod, rowsRod0, rowsRod1, h]

theorem plainRows_ite {blk ix : Nat} {l m : List Row} {c : Prop} [Decidable c] (hl : plainRows blk ix l = true)
    (hm : plainRows blk ix m = true) : plainRows blk ix (if c then l else m) = true := by
  split
  · exact hl
  · exact hm

/-- Every block of a rod but CTL's holds plain registers. -/
theorem plain_blockRows {blk ix : Nat} (h : blk ≠ 0) (h' : blk < 16) : plainRows blk ix (blockRows blk) = true := by
  unfold blockRows
  rw [if_neg (by omega), if_neg (by omega), if_neg h]
  refine (List.all_append ..).trans (Bool.and_eq_true_iff.2 ⟨plain_rowsRod h, ?_⟩)
  exact plainRows_ite plain_rowsLnk <| plainRows_ite plain_rowsImg <| plainRows_ite plain_rowsMot <|
    plainRows_ite plain_rowsCod <| plainRows_ite plain_rowsRrc <| plainRows_ite plain_rowsOut <|
    plainRows_ite plain_rowsNet <| plainRows_ite plain_rowsAud <| plainRows_ite plain_rowsMem plain_rowsUtl

/-- The fields of a word of such a block are not watched. -/
theorem not_watched_of_wordHits {blk off : Nat} (h : blk ≠ 0) (h' : blk < 16) {e : Hit} (he : e ∈ wordHits blk off) :
    ¬ Watched P (e.fld blk) := by
  obtain ⟨r, hr, hx⟩ := List.mem_flatMap.1 he
  obtain ⟨x, -, e'⟩ := List.mem_filterMap.1 hx
  have row : e.row = r := by
    split at e'
    · cases e'
    · exact congrArg Hit.row (Option.some.inj e').symm
  refine not_watched_of_plain ?_
  unfold Hit.fld
  rw [row]
  exact List.all_eq_true.1 (plain_blockRows h h') r hr

theorem Confined.preset {p : PresetRec} {rod : Nat} (h : Confined P s t) (h0 : rod ≠ 0) (hr : rod < 16)
    (hp : p.offset / 0x100000 = rod) : Confined P s (t.preset p) := by
  have hpl : placeOf p.offset = some ⟨rod, p.offset % 0x80000, decide (0x80000 ≤ p.offset % 0x100000)⟩ := by
    unfold placeOf
    rw [if_pos (by omega), hp]
  unfold State.preset
  rw [hpl]
  exact .ite h (h.foldl fun u e he hu => .ite (hu.set (not_watched_of_wordHits h0 hr he)) hu)

/-! ### A rod is loaded and starts -/

theorem Confined.clearRod {rod : Nat} (h : Confined P s t) (h0 : rod ≠ 0) (hr : rod < 16) : Confined P s (t.clearRod rod) :=
  h.trans ⟨rfl, fun f hf => mapGet_filter (fun _ => by
    have := hf.rod
    exact decide_eq_true (.inl (by change f.rod ≠ rod; omega))) t.regs⟩

theorem Confined.loadEvents {rod : Nat} (h : Confined P s t) : Confined P s (t.loadEvents rod) :=
  h.foldl fun _ _ _ hu => by
    extract_lets _
    exact .ite hu.sets hu

theorem Confined.loadClocks {rod : Nat} (h : Confined P s t) : Confined P s (t.loadClocks rod) :=
  .ite h (h.foldl fun _ _ _ hu => .ite hu.sets hu)

theorem Confined.loadPresets {rod : Nat} (h : Confined P s t) (h0 : rod ≠ 0) (hr : rod < 16) :
    Confined P s (t.loadPresets rod) :=
  h.foldl fun _ p _ hu => by
    split
    · exact hu.preset h0 hr ‹_›
    · exact hu

theorem Confined.loadRod {rod : Nat} {full : Bool} (h : Confined P s t) (h0 : rod ≠ 0) (hr : rod < 16) :
    Confined P s (t.loadRod rod full) := by
  unfold State.loadRod
  extract_lets s1 kept s2
  have h₁ : Confined P s s1 := h.loadClocks.loadEvents.loadPresets h0 hr
  have h₂ : Confined P s s2 := .ite h₁ (h₁.trans ⟨rfl, fun f hf => by
    have other : decide (f.key.1 = rod) = false := decide_eq_false (by have := hf.rod; change f.rod ≠ rod; omega)
    refine (mapGet_over_other fun e he hk => ?_).trans (mapGet_filter (fun _ => ?_) s1.regs)
    · have := (List.mem_filter.1 he).2
      rw [hk, other] at this
      cases this
    · rw [other]
      rfl⟩)
  exact h₂.commitWhere

theorem Confined.laneStart {rod l : Nat} (h : Confined P s t) : Confined P s (t.laneStart rod l) := h.set.zero (by simp [laneFresh])

theorem Confined.portEnable {p : Nat} (h : Confined P s t) : Confined P s (t.portEnable p) := by
  unfold State.portEnable
  extract_lets s1 _ _
  have h₁ : Confined P s s1 := h.set
  exact h₁.sets.when fun _ hu => hu.set

theorem Confined.exsMode {p mode : Nat} (h : Confined P s t) : Confined P s (t.exsMode p mode) := by
  unfold State.exsMode
  extract_lets s1
  have h₁ : Confined P s s1 := h.set
  exact .ite h₁.sets h₁.set.set

theorem Confined.decOn {r : Nat} (h : Confined P s t) (hr : r < 2) : Confined P s (t.decOn r) :=
  h.within within_decOn (by simp; omega)

theorem Confined.encKick (h : Confined P s t) : Confined P s t.encKick := h.within ((Within.refl Foot.encs t).encKick)

theorem Confined.encDue {p : Desc → Bool} {tag : Nat} (h : Confined P s t) : Confined P s (t.encDue p tag) := by
  unfold State.encDue
  extract_lets s1
  have h₁ : Confined P s s1 := h.beside rfl rfl
  exact h₁.encKick

theorem Confined.ptpTo {st : Nat} (h : Confined P s t) : Confined P s (t.ptpTo st) := .ite h h.set.raise

theorem Confined.audEnable {n : Nat} (h : Confined P s t) : Confined P s (t.audEnable n) :=
  h.within ((Within.refl [.block 13] t).audEnable)

theorem Confined.dmaKick {d : Nat} (h : Confined P s t) : Confined P s (t.dmaKick d) :=
  h.within ((Within.refl (Foot.dma d) t).dmaKick)

theorem Confined.flitsOut {rod : Nat} (h : Confined P s t) : Confined P s (t.flitsOut rod) := h.beside rfl rfl

/-! ### A head starts -/

theorem Confined.laneGo {rod l stage : Nat} (h : Confined P s t) : Confined P s (t.laneGo rod l stage) := by
  unfold State.laneGo
  extract_lets _
  exact .ite h (.ite h (.set (h.set.zero (by simp [laneFresh]))))

theorem Confined.outputs (h : Confined P s t) : Confined P s t.outputs := h.within within_outputs

theorem Confined.outSwitch {n : Nat} (h : Confined P s t) : Confined P s (t.outSwitch n) :=
  .outputs (h.foldl fun _ _ _ hu => by
    refine .ite ?_ hu
    extract_lets s1
    have h₁ : Confined P s s1 := hu.set
    exact .ite h₁.laneGo h₁)

theorem Confined.outInsert {n : Nat} (h : Confined P s t) : Confined P s (t.outInsert n) :=
  h.foldl fun _ _ _ hu => by
    extract_lets _ _ s1
    have h₁ : Confined P s s1 := .ite hu.drawn.emit hu
    exact .ite h₁.emit h₁

theorem Confined.userPackets {o space : Nat} (h : Confined P s t) : Confined P s (t.userPackets o space) := by
  unfold State.userPackets
  split
  · exact h
  · extract_lets b
    have hb : Confined P s b.2.2 := .foldlOn (Prod.snd ∘ Prod.snd) h fun _ _ hu => by
        extract_lets _ _
        exact .iteOn (Prod.snd ∘ Prod.snd) hu (.iteOn (Prod.snd ∘ Prod.snd) hu.set.inc.raise hu)
    exact hb.emit

theorem Confined.cmpEnd {n status : Nat} (h : Confined P s t) : Confined P s (t.cmpEnd n status) :=
  h.foldl fun _ _ _ hu => hu.endJob

theorem Confined.headCompare {n : Nat} (h : Confined P s t) : Confined P s (t.headCompare n) := by
  refine .ite h ?_
  extract_lets _ _ _ _ _
  exact .ite h h.set.set.raise

theorem Confined.headDrift {n : Nat} (h : Confined P s t) : Confined P s (t.headDrift n) := by
  refine .ite h.set ?_
  extract_lets +onlyGivenNames _ _
  refine .ite h.set ?_
  extract_lets _
  exact h.set.foldl fun _ _ _ hu => by
      extract_lets _
      exact .ite hu.set.inc.raise hu

theorem Confined.headFrame {n : Nat} (h : Confined P s t) : Confined P s (t.headFrame n) := by
  unfold State.headFrame
  extract_lets s0 s1
  have h₀ : Confined P s s0 := h.beside rfl rfl
  have h₁ : Confined P s s1 := h₀.headDrift.sets.sets.headCompare
  exact h₁.outSwitch.outInsert.encDue

theorem Confined.headBlank {n : Nat} (h : Confined P s t) : Confined P s (t.headBlank n) := by
  unfold State.headBlank
  extract_lets _ s1
  have h₁ : Confined P s s1 := h.sets.cmpEnd.raise
  exact .encKick (h₁.beside rfl rfl)

theorem Confined.decKick {r : Nat} (h : Confined P s t) : Confined P s (t.decKick r) := by
  have hset : ∀ u v, Confined P s u → Confined P s (u.set (R.DEC_STAT_STATE r) v) := fun _ _ hu => hu.set (by simp)
  unfold State.decKick
  split
  · refine .ite h ?_
    split
    · exact hset _ _ h
    · extract_lets _
      exact hset _ _ (h.drawn.beside rfl rfl)
  · exact h

theorem Confined.scalers {n : Nat} (h : Confined P s t) : Confined P s (t.scalers n) :=
  h.foldl fun _ _ _ hu => by
    refine .ite hu.sets ?_
    extract_lets _ s1 s2
    have h₁ : Confined P s s1 := hu.sets
    have h₂ : Confined P s s2 := .ite h₁.set.raise h₁
    exact .ite h₂.set.raise h₂

theorem Confined.setLayer {n j : Nat} {p : Option LayerPic} (h : Confined P s t) : Confined P s (t.setLayer n j p) := h.beside rfl rfl

theorem Confined.layerChoose {n j : Nat} {shown : Option Nat} (h : Confined P s t) :
    Confined P s (t.layerChoose n j shown) := by
  refine .ite h.setLayer.set ?_
  extract_lets _ _ s1
  have h₁ : Confined P s s1 := by
    unfold s1
    split
    · exact .ite h.setLayer.set.set.raise h.setLayer.set
    · exact h.setLayer
  split
  · extract_lets s2
    have h₂ : Confined P s s2 := h₁.rodUse
    exact .ite h₂.set.raise h₂
  · exact h₁

theorem Confined.releaseAt {rod a : Nat} (h : Confined P s t) : Confined P s (t.releaseAt rod a) := .ite h h.trayPut

theorem Confined.cmpRelease {n : Nat} {shown : Option Nat} (h : Confined P s t) : Confined P s (t.cmpRelease n shown) := by
  unfold State.cmpRelease
  extract_lets _ _ _ s1 s2
  have h₁ : Confined P s s1 := h.foldl fun _ _ _ hu => by
      split
      · exact .ite hu hu.releaseAt
      · exact hu
  have h₂ : Confined P s s2 := h₁.foldl fun _ _ _ hu => by
      extract_lets _ _
      exact hu.foldl fun _ _ _ hv => .ite hv hv.releaseAt
  exact h₂.decKick.decKick

theorem Confined.cmpPoint {n : Nat} {shown : Option Nat} (h : Confined P s t) : Confined P s (t.cmpPoint n shown) := by
  unfold State.cmpPoint
  extract_lets s1
  have h₁ : Confined P s s1 := h.foldl fun _ _ _ hu => .ite hu.sets hu
  exact .cmpRelease (h₁.scalers.foldl fun _ _ _ hu => hu.layerChoose)

theorem Confined.headLine {n y : Nat} {under : Option Nat} (h : Confined P s t) : Confined P s (t.headLine n y under) := by
  unfold State.headLine
  extract_lets s1 s2 s3 s4 s5 s6 s6'
  have h₁ : Confined P s s1 := h.set
  have h₂ : Confined P s s2 := .ite h₁.headFrame h₁
  have h₃ : Confined P s s3 := .ite h₂.headBlank h₂
  have h₄ : Confined P s s4 := .ite (h₃.within within_headCommit).cmpPoint h₃
  have h₅ : Confined P s s5 := h₄.foldl fun _ _ _ hu => .ite hu.userPackets hu
  have h₆ : Confined P s s6 := .ite h₅.cmpEnd.beginJob h₅
  have h₆' : Confined P s s6' := h₆.when fun _ hu => hu.foldl fun _ _ _ hv => hv.rodUse
  clear_value s6'
  split
  · refine .ite ?_ h₆'
    extract_lets s7
    have h₇ : Confined P s s7 := .ite h₆' h₆'.sets
    exact .raise (.set (.inc (h₇.beside rfl rfl)))
  · exact h₆'

theorem Confined.headOn {n : Nat} (h : Confined P s t) : Confined P s (t.headOn n) := by
  have run : ∀ u, Confined P s u → Confined P s (u.headRun n) := fun u hu => by
    unfold State.headRun
    extract_lets s1
    have h₁ : Confined P s s1 := hu.set.sets
    exact h₁.sets.headLine
  exact .ite (.ite h.set.set (run _ h.set)) h.set

/-! ### A rod's way out of reset -/

theorem Confined.startRod {rod : Nat} (h : Confined P s t) : Confined P s (t.startRod rod) := by
  unfold State.startRod
  extract_lets s1
  have h₁ : Confined P s s1 := h.foldl fun _ _ _ hu => .ite hu.laneStart hu
  refine .ite (h₁.foldl fun _ _ _ hu => ?_) ?_
  · extract_lets s2 s3
    have h₂ : Confined P s s2 := .ite hu.portEnable hu
    have h₃ : Confined P s s3 := h₂.set
    exact .ite h₃.exsMode h₃
  · split
    · exact (h₁.decOn (by omega)).encKick
    · refine .ite (h₁.foldl fun _ _ _ hu => .ite hu.set hu) (.ite (h₁.foldl fun _ _ _ hu => .ite hu.headOn hu) ?_)
      refine .ite (.ite h₁.ptpTo h₁) (.ite (h₁.foldl fun _ _ _ hu => .ite hu.audEnable hu) ?_)
      exact .ite (h₁.foldl fun _ _ _ hu => hu.dmaKick) h₁

theorem Confined.rodReady {rod : Nat} {full ev : Bool} (h : Confined P s t) (h0 : rod ≠ 0) (hr : rod < 16)
    (hP : P rod := by trivial) : Confined P s (t.rodReady rod full ev) := by
  unfold State.rodReady
  extract_lets s1 _ s2 s3 s4
  have h₁ : Confined P s s1 := ((h.clearRod h0 hr).loadRod h0 hr).sets (by simp [hP])
  have h₂ : Confined P s s2 := .ite h₁.set (h₁.set (by simp [hP])).flitsOut.startRod
  have h₃ : Confined P s s3 := .ite h₂.set h₂
  have h₄ : Confined P s s4 := h₃.foldl fun _ _ _ hu => .ite hu.set hu
  exact h₄.raiseIf

theorem Confined.powerUp {rod : Nat} (h : Confined P s t) (hP : P rod := by trivial) : Confined P s (t.powerUp rod) := by
  refine .ite h (.sets (.advance ?_) (by simp [hP]))
  have h₁ : Confined P s (t.set (I.PWR_ON rod) 1) := h.set (by simp [hP])
  exact h₁.beside rfl rfl

theorem Confined.powerDown {rod : Nat} (h : Confined P s t) (hP : P rod := by trivial) : Confined P s (t.powerDown rod) :=
  .ite h (h.cutRod.sets (by simp [hP]))

/-- The restringing of a rod other than CTL is confined to it. -/
theorem Confined.restrung {rod id svn : Nat} (h : Confined P s t) (h0 : rod ≠ 0) (hr : rod < 16) (hP : P rod := by trivial) :
    Confined P s (t.restrung rod id svn) := by
  unfold State.restrung
  extract_lets +onlyGivenNames s1
  have h₁ : Confined P s s1 := h.sets
  refine .ite h₁.powerDown.set ?_
  extract_lets +onlyGivenNames s2 _
  have h₂ : Confined P s s2 := h₁.powerUp
  refine .ite h₂.set ?_
  extract_lets s3
  have h₃ : Confined P s s3 := (h₂.rodReady h0 hr).set
  exact .ite h₃.assertReset h₃

theorem Confined.dropUnreached (h : Confined P s t) : Confined P s t.dropUnreached := by
  unfold State.dropUnreached
  extract_lets _
  exact .foldl (h.beside rfl rfl) fun _ _ _ hu => by
      extract_lets s1
      have h₁ : Confined P s s1 := .ite hu hu.set
      exact h₁.set.inc.raise

end

end Sys2Proof.Machine
end

section

/- One proof at a time: all at once they take more memory than the check has. -/
set_option Elab.async false

/-!
The codes of a rejected patch: each check of steps 9 to 11 gives a code of six bits (spec/02 R65).
-/

namespace Sys2Proof.Machine

open Sys2Proof.Safety

/-! ### The codes of a rejected patch -/

/-- A check that fails gives a code of six bits. -/
def SmallCode (o : Option Nat) : Prop := ∀ n ∈ o, n < 64
def SmallRej (o : Option Rej) : Prop := ∀ r ∈ o, r.code < 64

section

variable {α : Type} {o o' : Option Rej} {k k' : Option Nat}

theorem SmallCode.none : SmallCode none := nofun
theorem SmallCode.some {n : Nat} (h : n < 64 := by decide) : SmallCode (some n) := fun _ e => Option.some.inj e ▸ h

theorem SmallCode.ite {c : Prop} [Decidable c] (h : SmallCode k) (h' : SmallCode k') : SmallCode (if c then k else k') := by
  split
  · exact h
  · exact h'

theorem SmallRej.none : SmallRej none := nofun
theorem SmallRej.some {r : Rej} (h : r.code < 64 := by simp) : SmallRej (some r) := fun _ e => Option.some.inj e ▸ h

theorem SmallRej.ite {c : Prop} [Decidable c] (h : SmallRej o) (h' : SmallRej o') : SmallRej (if c then o else o') := by
  split
  · exact h
  · exact h'

theorem SmallRej.orElse (h : SmallRej o) (h' : SmallRej o') : SmallRej (o <|> o') := by
  cases o with
  | none => exact h'
  | some r => exact h

theorem SmallRej.map {q : Option α} {g : α → Rej} (h : ∀ x, (g x).code < 64) : SmallRej (q.map g) := by
  cases q with
  | none => exact .none
  | some x => exact .some (h x)

theorem SmallRej.findSome {g : α → Option Rej} {l : List α} (h : ∀ x, SmallRej (g x)) : SmallRej (l.findSome? g) := fun r hr => by
  obtain ⟨x, -, hx⟩ := List.exists_of_findSome?_eq_some hr
  exact h x r hx

theorem SmallRej.first {l : List (Bool × Rej)} (h : ∀ e ∈ l, e.2.code < 64) : SmallRej (firstRej l) := fun r hr => by
  obtain ⟨e, he, rfl⟩ := Option.map_eq_some_iff.1 hr
  exact h e (List.mem_of_find?_eq_some he)

theorem SmallRej.head {l : List Rej} (h : ∀ r ∈ l, r.code < 64) : SmallRej l.head? := fun r hr => h r (List.mem_of_head? hr)

@[simp] theorem code_recRej {r : Rec1 α} {n : Nat} : (recRej r n).code = n := by
  unfold recRej
  split <;> rfl

theorem SmallRej.sect {l : List (Rec1 α)} {bad : Nat → Rec1 α → Option Nat} (h : ∀ i r, SmallCode (bad i r)) :
    SmallRej (sectCheck l bad) := .findSome fun e r hr => by
  obtain ⟨n, hn, rfl⟩ := Option.map_eq_some_iff.1 hr
  exact code_recRej.trans_lt (h e.2 e.1 n hn)

/-! #### Steps 9 and 10 -/

theorem smallRej_dirCheck {h : ImgHdr} {body : List Byte} : SmallRej (dirCheck h body) := by
  refine .ite .some (.orElse (.first fun e he => ?_) (.orElse (.first (by simp)) (.ite .none (.first fun e he => ?_))))
  all_goals
    obtain ⟨i, -, rfl⟩ := List.mem_map.1 he
    simp

theorem smallRej_requiredCheck {c : CandStrg} : SmallRej (requiredCheck c) := .map fun _ => by simp

theorem smallRej_rodCheck {g : Stringing} {r : RodIn} : SmallRej (rodCheck g r) := by
  refine .ite .some ?_
  split
  · exact .some
  · exact .map fun _ => by simp

theorem smallCode_recCode {sc : Option Scope} {bad : Bool} {ok : Scope → α → Bool} {r : Rec1 α} :
    SmallCode (recCode sc bad ok r) := by
  refine .ite .some ?_
  split
  · exact .ite .some .none
  · exact .none

theorem smallRej_step10 {c : CandStrg} {sc : Option Scope} : SmallRej (step10 c sc) := by
  have records : ∀ {β : Type} {l : List (Rec1 β)} {bad : Nat → Rec1 β → Bool} {ok : Scope → β → Bool},
      SmallRej (sectCheck l fun i r => recCode sc (bad i r) ok r) := .sect fun _ _ => smallCode_recCode
  exact .orElse (.findSome fun _ => smallRej_rodCheck) <| .orElse records <| .orElse records <| .orElse records <|
    .orElse records <| .orElse records <| .orElse records records

/-! #### Step 11 -/

variable {g : Stringing} {c : CandStrg} {sect : Nat}

theorem smallCode_streamCode {r : StreamRec} : SmallCode (streamCode g r) := .ite .some (.ite .some (.ite .some .none))

theorem smallCode_trayCode {i : Nat} {r : TrayRec} : SmallCode (trayCode g i r) := .ite .some (.ite .some .none)

theorem smallCode_dramCode {i : Nat} {r : DramRec} : SmallCode (dramCode g i r) := by
  refine .ite .some ?_
  split
  · exact .some
  · exact .ite (.ite .some .none) (.ite .some .none)

theorem smallRej_modelPresets {s : State} {mask : Nat} {l : List (Rec1 PresetRec)} : SmallRej (s.modelPresets mask l).2 := by
  induction l generalizing s with
  | nil => exact .none
  | cons r t ih =>
    unfold State.modelPresets
    split
    · exact .some
    · split
      · exact .some
      · exact ih

theorem smallRej_beamCheck : SmallRej (beamCheck g sect) := by
  unfold beamCheck
  split
  · exact .some
  · exact .ite .some .none

theorem code_limitRej {key rod index : Nat} : (limitRej c sect key rod index).code = 0x18 := by
  unfold limitRej
  split
  · exact code_recRej
  · rfl

theorem code_fitRej {reads : List Fld} {key rod index : Nat} : (fitRej c sect reads key rod index).code = 0x18 := by
  unfold fitRej
  split
  · exact code_recRej
  · exact code_limitRej

theorem smallRej_limitCases : SmallRej (limitCases c sect).head? := by
  refine .head fun r hr => ?_
  have no : ∀ {key rod index : Nat} {ok : Bool}, r ∈ (if ok then [] else [limitRej c sect key rod index]) → r.code < 64 := by
    intro key rod index ok h
    split at h
    · cases h
    · rw [List.mem_singleton.1 h, code_limitRej]
      decide
  simp only [limitCases, List.mem_append, List.mem_flatMap] at hr
  obtain (((((((⟨_, -, h⟩ | h) | h) | ⟨_, -, h⟩) | ⟨_, -, h⟩) | h) | h) | h) | h := hr
  all_goals exact no h

theorem smallRej_fitCases {m : State} : SmallRej (m.fitCases c sect).head? := by
  refine .head fun r hr => ?_
  have one : ∀ {b : Bool} {x : Rej}, x.code = 0x18 → r ∈ (if b then [x] else []) → r.code < 64 := by
    intro b x hx h
    split at h
    · rw [List.mem_singleton.1 h, hx]
      decide
    · cases h
  simp only [State.fitCases, List.mem_append, List.mem_map] at hr
  obtain (((h | h) | ⟨p, -, rfl⟩) | h) | h := hr
  · exact one code_fitRej h
  · exact one code_fitRej h
  · rw [code_fitRej]
    decide
  · exact one code_fitRej h
  · exact one code_limitRej h

theorem smallRej_ruleCheck {m : State} {mask : Nat} : SmallRej (m.ruleCheck g mask) :=
  .findSome fun _ => .ite (.map fun _ => by simp) .none

theorem smallRej_clogCheck : SmallRej (clogCheck c) := by
  unfold clogCheck
  split
  · exact .some
  · exact .ite .none (.some)
  · exact .some

theorem smallRej_step11 {s : State} {dir : List DirEnt} {mask : Nat} : SmallRej (s.step11 c dir mask) :=
  .orElse (.sect fun _ _ => smallCode_streamCode) <| .orElse (.sect fun _ _ => smallCode_trayCode) <|
    .orElse (.sect fun _ _ => smallCode_dramCode) <| .orElse (.sect fun _ _ => .ite .none .some) <|
    .orElse smallRej_modelPresets <| .orElse smallRej_beamCheck <| .orElse (.ite .none .some) <|
    .orElse smallRej_limitCases <| .orElse smallRej_fitCases <| .orElse (.ite .none .some) <|
    .orElse smallRej_ruleCheck <| .orElse smallRej_clogCheck (.ite .none .some)

end

/-- The code of a patch that the last checks reject fits six bits. -/
theorem code_patchCheck_lt {s : State} {h : ImgHdr} {body : List Byte} {r : Rej} (e : s.patchCheck h body = some r) : r.code < 64 :=
  have small : SmallRej (s.patchCheck h body) :=
    .orElse smallRej_dirCheck (.orElse smallRej_requiredCheck (.orElse smallRej_step10 smallRej_step11))
  small r e

end Sys2Proof.Machine
end

section

/- One proof at a time: all at once they take more memory than the check has. -/
set_option Elab.async false

/-!
A patch's course (O16): from GO to DRAIN, from DRAIN to DONE, and its ends (spec/02 R65 to R71).
-/

namespace Sys2Proof.Machine

open Sys2Proof.Safety

section

variable {P : Nat → Prop} {s t u : State}

/-! ### The recorder at work -/

theorem Confined.modRec {g : Rec → Rec} (h : Confined P s t) : Confined P s (t.modRec g) := h.beside rfl rfl

theorem Confined.nvMember {a : NvAsk} (h : Confined P s t) : Confined P s (t.nvMember a) := by
  unfold State.nvMember State.nvIssue
  extract_lets _ _
  exact h.modRec

theorem Confined.nvSend {id : Nat} (h : Confined P s t) : Confined P s (t.nvSend id) := by
  unfold State.nvSend
  split
  · extract_lets _
    exact .ite h h.modRec.emit
  · exact h

theorem Confined.nvPump (h : Confined P s t) : Confined P s t.nvPump := h.foldl fun _ _ _ hu => hu.nvSend

theorem Confined.volWrite {blk : Nat} {data : List Byte} {op : NvOp} (h : Confined P s t) : Confined P s (t.volWrite blk data op) := by
  unfold State.volWrite
  extract_lets _
  exact .nvPump (h.emit.foldl fun _ _ _ hu => hu.nvMember)

theorem Confined.volFlush (h : Confined P s t) : Confined P s t.volFlush := .nvPump (h.foldl fun _ _ _ hu => hu.nvMember)

theorem Confined.modTake {n : Nat} {g : Take → Take} (h : Confined P s t) : Confined P s (t.modTake n g) := h.modRec

theorem Confined.recAppend {take kind tag : Nat} {body : List Byte} (h : Confined P s t) :
    Confined P s (t.recAppend take kind tag body) := by
  unfold State.recAppend
  extract_lets _ _ _ _ _ s1
  have h₁ : Confined P s s1 := h.modRec
  exact h₁.beginJob.volWrite

theorem Confined.recDir {n : Nat} {e : List Byte} (h : Confined P s t) : Confined P s (t.recDir n e) := by
  unfold State.recDir
  extract_lets s1 _
  have h₁ : Confined P s s1 := h.modRec
  exact h₁.volWrite

theorem Confined.recOpen {k : Take} {f : Frame} {firstTag : Nat} {pre : List Nat} (h : Confined P s t) :
    Confined P s (t.recOpen k f firstTag pre) := by
  unfold State.recOpen
  extract_lets _
  exact h.recAppend.modTake.recDir

theorem Confined.recIndex {n : Nat} (h : Confined P s t) : Confined P s (t.recIndex n) := by
  unfold State.recIndex
  split
  · extract_lets _ _ _ _ s1
    have h₁ : Confined P s s1 := h.recAppend
    exact h₁.modTake.modRec
  · exact h

theorem Confined.recSeal {k : Take} {reason : Nat} (h : Confined P s t) : Confined P s (t.recSeal k reason) := by
  unfold State.recSeal
  extract_lets s1 _ _ s2
  have h₁ : Confined P s s1 := h.recIndex
  have h₂ : Confined P s s2 := h₁.recAppend
  exact h₂.modTake.modRec

theorem Confined.recOpenEmpty {k : Take} (h : Confined P s t) : Confined P s (t.recOpenEmpty k) := by
  refine .ite h ?_
  extract_lets _ _
  exact h.recOpen

theorem Confined.recSettle (h : Confined P s t) : Confined P s t.recSettle :=
  h.foldl fun _ _ _ hu => by
    split
    · refine .ite ?_ hu
      extract_lets s1
      have h₁ : Confined P s s1 := hu.recOpenEmpty
      exact h₁.recSeal
    · exact hu

theorem Confined.recStage (h : Confined P s t) : Confined P s t.recStage := by
  unfold State.recStage
  split
  · exact h
  · refine .ite h ?_
    extract_lets +onlyGivenNames stage dir
    have hstage : ∀ u y, Confined P s u → Confined P s (stage u y) := fun _ _ hu => hu.modRec
    have hdir : ∀ u y, Confined P s u → Confined P s (dir u y) := fun _ _ hu => by
      unfold dir
      split
      · exact hu.recDir
      · exact hu
    refine .ite (.ite h (.ite (hdir _ _ (hstage _ _ h)) (.volFlush (hstage _ _ h)))) ?_
    refine .ite (hdir _ _ (hstage _ _ h)) (.ite (.volFlush (hstage _ _ h)) ?_)
    extract_lets s1
    have h₁ : Confined P s s1 := h.modRec
    exact .ite h₁.modRec h₁.set

theorem Confined.recDone (h : Confined P s t) : Confined P s t.recDone :=
  h.foldl fun _ _ _ hu => by
    extract_lets s1
    have h₁ : Confined P s s1 := hu.modRec.endJob
    exact .ite h₁.set h₁

theorem Confined.recFlow (h : Confined P s t) : Confined P s t.recFlow :=
  .nvPump (h.recSettle.recDone.foldl fun _ _ _ hu => hu.recStage)

theorem Confined.recClose {reason : Nat} (h : Confined P s t) : Confined P s (t.recClose reason) := h.modRec

theorem Confined.utlFree (h : Confined P s t) : Confined P s t.utlFree := h.within ((Within.refl [.block 15] t).utlFree)

end

/-! ### What the end of a patch lets go on -/

/-- A change that leaves the stringing and the course of a patch as they are, whatever becomes of the rods. -/
abbrev KeepsCourse (s t : State) : Prop := Confined (fun _ => True) s t

theorem KeepsCourse.patchOver {s t : State} (h : KeepsCourse s t) : KeepsCourse s t.patchOver :=
  h.within (A := Foot.power) ((Within.refl Foot.power t).resume.trans within_pwrResume)
    (by simp [powerFields, laneFields, laneFresh, gateFields])

/-- The end of a patch, after the fields that tell how it ended. -/
theorem keepsCourse_patchEnd (s : State) (j : Job) (status : Nat) (e : E.Src) :
    KeepsCourse s ((s.endJob j status).raise e).patchOver :=
  .patchOver (Confined.raise (Confined.endJob (.refl s)))

theorem get_patchAbandon_state (s : State) (code : Nat) : (s.patchAbandon code).get R.PATCH_STAT_STATE = 7 :=
  (keepsCourse_patchEnd _ _ _ _).get_course.trans (by simp [State.sets, State.get_set_other])

theorem get_patchAbandon_code (s : State) (code : Nat) : (s.patchAbandon code).get R.PATCH_STAT_CODE = code % 256 :=
  (keepsCourse_patchEnd _ _ _ _).get_course.trans (by simp [State.sets, State.get_set_other])

theorem get_patchRefuse_state (s : State) (r : Rej) : (s.patchRefuse r).get R.PATCH_STAT_STATE = 6 :=
  (keepsCourse_patchEnd _ _ _ _).get_course.trans (by simp [State.sets, State.get_set_other])

theorem get_patchRefuse_code (s : State) (r : Rej) : (s.patchRefuse r).get R.PATCH_STAT_CODE = r.code % 256 :=
  (keepsCourse_patchEnd _ _ _ _).get_course.trans (by simp [State.sets, State.get_set_other])

/-! ### From GO to DRAIN -/

/-- The fields of a patch that starts, and its job. -/
theorem get_patchStart (s : State) (j : Job) (t : State) (e : t = (s.sets [(R.PATCH_STAT_STATE, 1), (R.PATCH_STAT_CODE, 0),
      (R.PATCH_STAT_DRAINED, 0), (R.PATCH_DETAIL_SECT, 0xFF), (R.PATCH_DETAIL_RECORD, 0xFFFF)]).beginJob j) :
    t.get R.PATCH_STAT_STATE = 1 ∧ t.get R.PATCH_STAT_CODE = 0 ∧
      t.get R.PATCH_DETAIL_SECT = 0xFF ∧ t.get R.PATCH_DETAIL_RECORD = 0xFFFF := by
  have job : ∀ u, KeepsCourse u (u.beginJob j) := fun u => Confined.beginJob (.refl u)
  subst e
  refine ⟨(job _).get_course.trans ?_, (job _).get_course.trans ?_, (job _).get_course.trans ?_, (job _).get_course.trans ?_⟩
  all_goals simp [State.sets, State.get_set_other]

theorem patchGo_starts {s : State} (hr : reaches s 0) (h : ¬ (1 ≤ s.get R.PATCH_STAT_STATE ∧ s.get R.PATCH_STAT_STATE ≤ 4))
    (hd : s.get R.PWR_STAT_STATE ≠ pwDoze) (hl : s.get R.PWR_STAT_STATE ≠ pwLeaving) :
    ∃ t : State, exec .patchGo s = .next t ∧
      t.get R.PATCH_STAT_STATE = 1 ∧ t.get R.PATCH_STAT_CODE = 0 ∧
      t.get R.PATCH_DETAIL_SECT = 0xFF ∧ t.get R.PATCH_DETAIL_RECORD = 0xFFFF := by
  refine ⟨_, congrArg Host.Outcome.next (State.hostTo_of_reaches _ hr), ?_⟩
  exact get_patchStart _ _ _ (if_neg (not_or.2 ⟨h, not_or.2 ⟨hd, hl⟩⟩))

theorem patchGo_busy {s : State} (hr : reaches s 0) (h1 : 1 ≤ s.get R.PATCH_STAT_STATE) (h4 : s.get R.PATCH_STAT_STATE ≤ 4) :
    ∃ t : State, exec .patchGo s = .next t ∧
      t.get R.PATCH_STAT_BUSY_GO = 1 ∧ t.get R.PATCH_STAT_STATE = s.get R.PATCH_STAT_STATE ∧ t.patch = s.patch := by
  refine ⟨_, congrArg Host.Outcome.next (State.hostTo_of_reaches _ hr), ?_⟩
  rw [if_pos (.inl ⟨h1, h4⟩)]
  exact ⟨State.get_set_same .., State.get_set_other _ _ (by simp), rfl⟩

theorem patchAbort_abandons {s : State} (hr : reaches s 0) (h1 : 1 ≤ s.get R.PATCH_STAT_STATE)
    (h3 : s.get R.PATCH_STAT_STATE ≤ 3) :
    ∃ t : State, exec .patchAbort s = .next t ∧ t.get R.PATCH_STAT_STATE = 7 ∧ t.get R.PATCH_STAT_CODE = 0x25 := by
  refine ⟨_, congrArg Host.Outcome.next (State.hostTo_of_reaches _ hr), ?_⟩
  rw [if_pos ⟨h1, h3⟩]
  exact ⟨get_patchAbandon_state .., get_patchAbandon_code ..⟩

theorem patchVerifyDone_judges {s : State} (h1 : s.get R.PATCH_STAT_STATE = 1) (hw : s.windowGrans ≠ []) :
    ∃ t : State, exec .patchVerifyDone s = .next t ∧
      t.get R.PATCH_STAT_STATE = (if (imgFront true s.patch.stored s.fuses s.imageDigest (s.on R.SUBST_STAT_ACTIVE)).isNone ∧
        (imgBody s.patch.stored).isSome then 2 else 6) := by
  refine ⟨_, rfl, ?_⟩
  rw [if_neg (not_not.2 h1), if_neg (by simpa using hw)]
  cases hf : imgFront true s.patch.stored s.fuses s.imageDigest (s.on R.SUBST_STAT_ACTIVE) with
  | some r => exact get_patchRefuse_state ..
  | none =>
    cases hb : imgBody s.patch.stored with
    | none => exact get_patchRefuse_state ..
    | some b => exact State.get_set_same ..

/-- What CHECK does once every check has passed, with the merged stringing staged. -/
def State.patchDrain (s : State) : State :=
  let t := s.utlFree.sets [(R.PATCH_TAG_T, s.patchT), (R.PATCH_STAT_STATE, 3)]
  if t.on R.SUBST_STAT_ACTIVE ∧ bits s.patch.hdr.rodMask 2 5 ≠ 0 then t.patchAbandon 0x23
  else if bit s.patch.hdr.rodMask 10 && !t.isolated 10 then (t.recClose 2).recFlow
  else t

theorem get_patchDrain {s : State} (ha : s.on R.SUBST_STAT_ACTIVE = false) :
    s.patchDrain.get R.PATCH_STAT_STATE = 3 ∧ s.patchDrain.get R.PATCH_TAG_T = s.patchT % 2 ^ 32 := by
  unfold State.patchDrain
  extract_lets t
  have free : s.utlFree.get R.SUBST_STAT_ACTIVE = s.get R.SUBST_STAT_ACTIVE :=
    ((Within.refl [.block 15] s).utlFree).get_eq _ (by simp)
  have idle : t.on R.SUBST_STAT_ACTIVE = false := by
    refine (State.on_congr (Eq.trans ?_ free)).trans ha
    simp [t, State.sets, State.get_set_other]
  have close : KeepsCourse t (if bit s.patch.hdr.rodMask 10 && !t.isolated 10 then (t.recClose 2).recFlow else t) :=
    .ite (Confined.recFlow (Confined.recClose (.refl t))) (.refl t)
  rw [if_neg fun h => by rw [idle] at h; cases h.1]
  refine ⟨close.get_course.trans ?_, close.get_course.trans ?_⟩
  · exact State.get_set_same ..
  · exact (State.get_set_other _ _ (by simp)).trans (State.get_set_same ..)

theorem patchCheckDone_judges {s : State} (h2 : s.get R.PATCH_STAT_STATE = 2) (ha : s.on R.SUBST_STAT_ACTIVE = false) :
    ∃ t : State, exec .patchCheckDone s = .next t ∧
      (s.patchCheck s.patch.hdr s.patch.body = none → t.get R.PATCH_STAT_STATE = 3 ∧ t.get R.PATCH_TAG_T = s.patchT % 2 ^ 32) ∧
      (∀ r, s.patchCheck s.patch.hdr s.patch.body = some r →
        t.get R.PATCH_STAT_STATE = 6 ∧ t.get R.PATCH_STAT_CODE = r.code % 64) := by
  refine ⟨_, rfl, ?_⟩
  rw [if_neg (not_not.2 h2)]
  extract_lets +onlyGivenNames h
  cases hc : s.patchCheck s.patch.hdr s.patch.body with
  | some r =>
    refine ⟨nofun, fun r' hr' => ?_⟩
    obtain rfl := Option.some.inj hr'
    refine ⟨get_patchRefuse_state .., (get_patchRefuse_code ..).trans ?_⟩
    have := code_patchCheck_lt hc
    omega
  | none =>
    exact ⟨fun _ => get_patchDrain ha, nofun⟩

/-! ### From DRAIN to the end -/

section

variable {P : Nat → Prop} {s t u : State} {m r : Nat}

/-- What RESTRING does to a rod that the mask may name. -/
def State.patchReset (m : Nat) (s : State) (r : Nat) : State :=
  if bit m r then (s.assertReset r 5).sets [(I.HOLD_PATCH r, 1), (I.RST_QUIET r, 1)] else s

theorem Confined.patchReset (h : Confined P s t) (hr : P r := by trivial) : Confined P s (t.patchReset m r) :=
  .ite (h.assertReset hr).sets h

/-- A named rod that is powered and not in reset stands behind its proxy. -/
theorem isolated_patchReset (hm : bit m r = true) (hr : r < 16) (hon : s.on (I.PWR_ON r) = true) (h0 : s.get (I.RSTST r) = 0) :
    (s.patchReset m r).isolated r = true := by
  have proxy : (s.patchReset m r).get (I.PROXY r) = 1 := by
    unfold State.patchReset State.assertReset
    rw [if_pos hm, if_neg (not_or.2 ⟨by simpa using hon, by rw [h0]; decide⟩), if_neg (by rw [h0]; decide)]
    simp [State.sets, State.get_set_other]
  have on : (s.patchReset m r).on (I.PROXY r) = true := (State.on_iff ..).2 (by rw [proxy]; decide)
  exact Bool.and_eq_true_iff.2 ⟨decide_eq_true hr, on⟩

theorem isolated_congr (h : t.get (I.PROXY r) = s.get (I.PROXY r)) : t.isolated r = s.isolated r := by
  simp only [State.isolated, State.on_congr h]

theorem isolated_foldl_patchReset {l : List Nat} (hl : l.Nodup) (hr : r ∈ l) (hr' : r < 16) (hm : bit m r = true)
    (hon : s.on (I.PWR_ON r) = true) (h0 : s.get (I.RSTST r) = 0) : (l.foldl (State.patchReset m) s).isolated r = true := by
  obtain ⟨before, after, rfl⟩ := List.append_of_mem hr
  have apart : ∀ {k : List Nat} {u : State}, r ∉ k → Confined (· ≠ r) u (k.foldl (State.patchReset m) u) := fun hk =>
    (Confined.refl _).foldl fun _ x hx hu => hu.patchReset (fun e => hk (e ▸ hx))
  obtain ⟨-, hafter, hbefore⟩ := List.nodup_append.1 hl
  rw [List.foldl_append, List.foldl_cons]
  have h₁ := apart (k := before) (u := s) fun h => hbefore r h r (by simp) rfl
  rw [isolated_congr ((apart (List.nodup_cons.1 hafter).1).get_eq _ (by simp))]
  exact isolated_patchReset hm hr' ((State.on_congr (h₁.get_eq _ (by simp))).trans hon) ((h₁.get_eq _ (by simp)).trans h0)

theorem patchRestring_resets (h3 : s.get R.PATCH_STAT_STATE = 3) (hready : s.patchReady = true) :
    ∃ t : State, exec .patchRestring s = .next t ∧
      t.get R.PATCH_STAT_STATE = 4 ∧ t.get R.PATCH_STAT_DRAINED = s.patch.hdr.rodMask % 65536 ∧
      (∀ r ∈ List.range 16, bit s.patch.hdr.rodMask r = true ∧ s.on (I.PWR_ON r) = true ∧ s.get (I.RSTST r) = 0 →
        t.isolated r = true) := by
  let m := s.patch.hdr.rodMask
  have run : exec .patchRestring s = .next ((List.range 16).foldl (State.patchReset m)
      (s.sets [(R.PATCH_STAT_STATE, 4), (R.PATCH_STAT_DRAINED, m)])) := congrArg Host.Outcome.next (if_pos ⟨h3, hready⟩)
  have course : ∀ u, KeepsCourse u ((List.range 16).foldl (State.patchReset m) u) := fun u =>
    (Confined.refl u).foldl fun _ _ _ hv => hv.patchReset
  refine ⟨_, run, (course _).get_course.trans ?_, (course _).get_course.trans ?_, fun r hr ⟨hm, hon, h0⟩ => ?_⟩
  · simp [State.sets, State.get_set_other]
  · simp [State.sets, m]
  · refine isolated_foldl_patchReset List.nodup_range hr (List.mem_range.1 hr) hm ?_ ?_
    · refine (State.on_congr ?_).trans hon
      simp [State.sets, State.get_set_other]
    · refine Eq.trans ?_ h0
      simp [State.sets, State.get_set_other]

/-- The end of a patch that is in force, while no substitution waits for it. -/
theorem keepsCourse_patchFinish (hw : s.get I.SUBST_WAIT = 0) :
    KeepsCourse s (((s.endJob s.patchJob 0).raise E.patchDone).substResume).patchOver := by
  have ended : KeepsCourse s ((s.endJob s.patchJob 0).raise E.patchDone) := Confined.raise (Confined.endJob (.refl s))
  rw [show ((s.endJob s.patchJob 0).raise E.patchDone).substResume = _ from if_pos (ended.get_course.trans hw)]
  exact ended.patchOver

theorem patchDone_strings (h4 : s.get R.PATCH_STAT_STATE = 4) (hw : s.get I.SUBST_WAIT = 0)
    (hm : bit s.patch.hdr.rodMask 0 = false) :
    ∃ t : State, exec .patchDone s = .next t ∧
      t.get R.PATCH_STAT_STATE = 5 ∧ t.get R.PATCH_STAT_CODE = 0 ∧ t.strg = s.patch.strg := by
  refine ⟨_, congrArg Host.Outcome.next (if_neg (not_not.2 h4)), ?_⟩
  extract_lets h dig s1 s2 s3
  have strung : KeepsCourse { s with strg := s.patch.strg } s2 :=
    (Confined.refl _).dropUnreached.foldl fun _ n hn hu => by
      split
      case isTrue hb =>
        have h0 : n ≠ 0 := by
          rintro rfl
          exact absurd hb (by simp [h, hm])
        exact hu.restrung h0 (List.mem_range.1 hn)
      case isFalse => exact hu
  have told : KeepsCourse (s2.sets [(R.PATCH_STAT_STATE, 5), (R.PATCH_STAT_CODE, 0)]) s3 := by
    unfold s3 State.sets
    rw [List.foldl_append]
    exact Confined.sets (.refl _)
  have wait : s3.get I.SUBST_WAIT = 0 := by
    refine told.get_course.trans (Eq.trans ?_ (strung.get_course.trans hw))
    simp [State.sets, State.get_set_other]
  have done := told.trans (keepsCourse_patchFinish wait)
  exact ⟨done.get_course.trans (by simp [State.sets, State.get_set_other]), done.get_course.trans (by simp [State.sets]),
    done.strg_eq.trans strung.strg_eq⟩

theorem patchDrainTimeout_abandons (h3 : s.get R.PATCH_STAT_STATE = 3) (hready : s.patchReady = false) :
    ∃ t : State, exec .patchDrainTimeout s = .next t ∧
      t.get R.PATCH_STAT_STATE = 7 ∧ t.get R.PATCH_STAT_CODE = (if s.patchSeen then 0x22 else 0x26) := by
  refine ⟨_, congrArg Host.Outcome.next (if_neg (not_or.2 ⟨not_not.2 h3, by simp [hready]⟩)),
    get_patchAbandon_state .., (get_patchAbandon_code ..).trans ?_⟩
  split <;> rfl

end

/-- Settles O16: each command sets the fields that tell a patch's course; what the resets, the restringing and the end of a drain do
besides is confined to other fields; and the checks of the merged stringing give codes of six bits. That T, NO_FRAME and the refusal of
GO in DOZE are as the commands have them is the model's reading (logs 204 and 205). -/
theorem patchCourse : Obligations.PatchCourse := by
  unfold Obligations.PatchCourse
  exact ⟨fun _ => patchGo_starts, fun _ => patchGo_busy, fun _ => patchAbort_abandons, fun _ => patchVerifyDone_judges,
    fun _ => patchCheckDone_judges, fun _ h3 hr _ => patchRestring_resets h3 hr, fun _ => patchDone_strings,
    fun _ => patchDrainTimeout_abandons⟩

end Sys2Proof.Machine
end

/-!
The serial lanes (O17, O18): what each operation of a lane leaves of the fields that it does not write, and where each command takes
the lane.
-/

namespace Sys2Proof.Machine

open Sys2Proof.Safety

section

variable {s : State} {f : Fld} {rod l : Nat}

/-! ### What the operations of a lane leave as it was -/

/-- Writing a field leaves every field of another number as it was. -/
theorem State.get_set_id {g : Fld} {v n : Nat} (h : g.id ≠ n) (hf : f.id = n := by rfl) : (s.set f v).get g = s.get g :=
  State.get_set_other s v fun e => h (e.1.trans hf)

theorem State.get_markBad {p i reason : Nat}
    (h : f.id ≠ 5007 ∧ f.id ≠ (R.LH_BAD 0 0).id ∧ f.id ≠ (R.LH_REASON 0 0).id) : (s.markBad p i reason).get f = s.get f := by
  obtain ⟨he, hb, hr⟩ := h
  unfold State.markBad
  split
  · rfl
  · exact (State.get_raise _ _ fun e => he e.1).trans ((State.get_set_id hr).trans (State.get_set_id hb))

/-- The loss of a sensor lane touches the link's state, the marks of bad lanes and their event alone. -/
theorem State.get_srxLost {reason : Nat} (h : f.id ≠ 5007 ∧ f.id ≠ (R.LINK_STAT_STATE 0).id ∧ f.id ≠ (R.LH_BAD 0 0).id ∧
    f.id ≠ (R.LH_REASON 0 0).id) : (s.srxLost rod l reason).get f = s.get f := by
  obtain ⟨he, hl, hb, hr⟩ := h
  unfold State.srxLost
  split
  · rfl
  · dsimp only
    split
    · exact (State.get_markBad ⟨he, hb, hr⟩).trans (State.get_when _ _ (State.get_set_id hl))
    · rfl

theorem State.get_blkLost (h : f.id ≠ (I.SRX_BLK 0 0).id ∧ f.id ≠ (I.SRX_TSCNT 0 0).id) : (s.blkLost rod l).get f = s.get f := by
  obtain ⟨hb, ht⟩ := h
  unfold State.blkLost
  split
  · exact (State.get_set_id ht).trans (State.get_set_id hb)
  · rfl

theorem State.get_laneCoef {done : Bool} (h : f.id ≠ (I.LANE_COEF 0 0).id ∧ f.id ≠ (I.LANE_COEF_ADP 0 0).id) :
    (s.laneCoef rod l done).get f = s.get f := by
  obtain ⟨hc, ha⟩ := h
  exact (State.get_when _ _ (State.get_set_id ha)).trans (State.get_set_id hc)

/-! ### Bring-up -/

theorem execLaneEnable_starts {rod : Fin 16} {l : Fin 70} (hr : reaches s rod) (hl : l.val < laneCount rod)
    (hj : s.jtagHolds rod l = false) (he : s.on (R.LN_CTL_EN rod l) = false) :
    ∃ t : State, exec (.laneEnable rod l) s = .next t ∧
      t.get (R.LN_CTL_EN rod l) = 1 ∧ t.lane rod l = lnPower ∧ t.get (R.LN_STAT_FAULT rod l) = 0 ∧
      t.get (R.LN_STAT_RETRY rod l) = 0 ∧ t.get (R.LN_STAT_LOL rod l) = 0 := by
  refine ⟨_, congrArg Host.Outcome.next (State.hostTo_of_reaches _ hr), ?_⟩
  simp only [isLane, hl, hj, he]
  simp [State.laneStart, State.lane, State.setLane, State.zero, laneFresh, State.get_set_other, lnPower]

theorem State.get_laneOff_other (h : f.id = 0) : (s.laneOff rod l).get f = s.get f := by
  unfold State.laneOff
  split <;> simp [State.setLane, State.zero, laneFresh, State.get_set_other, h]

/-- A lane that goes to OFF has no LOS, no fault and, unless it is a sensor lane, no rate. -/
theorem laneOff_clears : (s.laneOff rod l).lane rod l = lnOff ∧ (s.laneOff rod l).get (R.LN_STAT_LOS rod l) = 0 ∧
    (s.laneOff rod l).get (R.LN_STAT_FAULT rod l) = 0 ∧
    (laneUse rod l ≠ 0 → (s.laneOff rod l).get (R.LN_RATE_KBPS rod l) = 0) := by
  unfold State.laneOff
  split
  case isTrue sensor =>
    simp [sensor, State.lane, State.setLane, State.zero, laneFresh, State.get_set_other, lnOff]
  case isFalse =>
    simp [State.lane, State.setLane, State.zero, laneFresh, State.get_set_other, lnOff]

theorem execLaneDisable_stops {rod : Fin 16} {l : Fin 70} (hr : reaches s rod) (hl : l.val < laneCount rod) :
    ∃ t : State, exec (.laneDisable rod l) s = .next t ∧
      t.get (R.LN_CTL_EN rod l) = 0 ∧ t.lane rod l = lnOff ∧ t.get (R.LN_STAT_LOS rod l) = 0 ∧
      t.get (R.LN_STAT_FAULT rod l) = 0 ∧ (laneUse rod l ≠ 0 → t.get (R.LN_RATE_KBPS rod l) = 0) := by
  refine ⟨_, congrArg Host.Outcome.next ((State.hostTo_of_reaches _ hr).trans (if_pos (decide_eq_true hl))), ?_, laneOff_clears⟩
  exact (State.get_laneOff_other (by simp)).trans (State.get_set_same ..)

theorem execLaneGo_restarts {rod : Fin 16} {l : Fin 70} {stage : Fin 8} (hr : reaches s rod) (hl : l.val < laneCount rod)
    (he : s.on (R.LN_CTL_EN rod l) = true) (hs : 1 ≤ stage.val ∧ stage.val ≤ 6)
    (hb : ¬ (1 ≤ s.lane rod l ∧ s.lane rod l ≤ 6 ∧ s.lane rod l < stage.val)) :
    ∃ t : State, exec (.laneGo rod l stage) s = .next t ∧
      t.lane rod l = (if 4 ≤ laneUse rod l ∧ 2 < stage.val then lnUp else stage.val) ∧
      t.get (R.LN_STAT_RETRY rod l) = 0 ∧ t.get (R.LN_STAT_FAULT rod l) = 0 := by
  have inRange : ¬ (stage.val = 0 ∨ stage.val = 7) := by omega
  refine ⟨_, congrArg Host.Outcome.next (State.hostTo_of_reaches _ hr), ?_⟩
  simp only [isLane, hl, inRange, State.laneGo, he, hb]
  refine ⟨?lane, ?retry, ?fault⟩
  case lane =>
    have small : (if 4 ≤ laneUse rod l ∧ 2 < stage.val then lnUp else stage.val) % 16 =
        if 4 ≤ laneUse rod l ∧ 2 < stage.val then lnUp else stage.val := Nat.mod_eq_of_lt (by unfold lnUp; split <;> omega)
    simpa [State.lane, State.setLane, State.zero, laneFresh, State.get_set_other, txOnly, lnPll] using small
  case retry => simp [State.zero, laneFresh, State.get_set_other]
  case fault => simp [State.zero, laneFresh, State.get_set_other]

theorem execLanePowerDone_locks {rod : Fin 16} {l : Fin 70} (hl : l.val < laneCount rod) (h : s.lane rod l = lnPower) :
    ∃ t : State, exec (.lanePowerDone rod l) s = .next t ∧ t.lane rod l = lnPll := by
  refine ⟨_, congrArg Host.Outcome.next (if_pos ⟨decide_eq_true hl, h⟩), ?_⟩
  simp [State.lane, State.setLane, lnPll]

theorem execLaneLosClear_locks {rod : Fin 16} {l : Fin 70} (hl : l.val < laneCount rod) (hu : laneUse rod l < 4)
    (h : s.lane rod l = lnSignal) :
    ∃ t : State, exec (.laneLosClear rod l) s = .next t ∧ t.lane rod l = lnLock ∧ t.get (R.LN_STAT_LOS rod l) = 0 := by
  refine ⟨_, congrArg Host.Outcome.next (if_pos ⟨decide_eq_true hl, by simp [txOnly, hu]⟩), ?_⟩
  have signal : (s.set (R.LN_STAT_LOS rod l) 0).lane rod l = lnSignal := (State.get_set_other _ _ (by simp)).trans h
  simp only [if_pos signal]
  simp [State.lane, State.setLane, State.get_set_other, lnLock]

theorem execLaneLock_adapts {rod : Fin 16} {l : Fin 70} (hl : l.val < laneCount rod) (h : s.lane rod l = lnLock) :
    ∃ t : State, exec (.laneLock rod l) s = .next t ∧
      t.lane rod l = (if s.on (I.LANE_SLOW rod l) ∨ s.get (R.LN_ADAPT_MODE rod l) = 2 then lnAlign else lnAdapt) ∧
      t.get (R.LN_STAT_LOL rod l) = 0 := by
  refine ⟨_, congrArg Host.Outcome.next (if_pos ⟨decide_eq_true hl, h⟩), ?lane, ?lol⟩
  case lane =>
    simp only [State.lane, State.setLane, State.get_set_same, decide_eq_true_eq]
    split <;> simp [lnAlign, lnAdapt]
  case lol =>
    rw [State.setLane, State.get_set_other _ _ (by simp), State.get_when _ _ (State.get_set_other _ _ (by simp))]
    simp [State.zero, State.get_set_other]

theorem execLaneAdaptDone_aligns {rod : Fin 16} {l : Fin 70} (hl : l.val < laneCount rod) (h : s.lane rod l = lnAdapt) :
    ∃ t : State, exec (.laneAdaptDone rod l) s = .next t ∧ t.lane rod l = lnAlign ∧ t.get (R.LN_STAT_FROZEN rod l) = 0 := by
  refine ⟨_, congrArg Host.Outcome.next (if_pos ⟨decide_eq_true hl, h⟩), ?_⟩
  simp [State.lane, State.setLane, State.get_laneCoef, State.get_set_other, lnAlign]

theorem execLaneAdaptTimeout_aligns {rod : Fin 16} {l : Fin 70} (hl : l.val < laneCount rod) (h : s.lane rod l = lnAdapt) :
    ∃ t : State, exec (.laneAdaptTimeout rod l) s = .next t ∧
      t.lane rod l = lnAlign ∧ t.get (R.LN_EVT_ADAPT_WEAK rod l) = 1 ∧ isRaised t (s.laneSrc rod l 3) := by
  refine ⟨_, congrArg Host.Outcome.next (if_pos ⟨decide_eq_true hl, h⟩), ?lane, ?weak, ?raised⟩
  case lane => simp [State.lane, State.setLane, State.get_laneCoef, State.get_raise, State.get_set_other, lnAlign]
  case weak => simp [State.get_laneCoef, State.get_raise]
  case raised => exact (State.on_congr (State.get_laneCoef (by simp))).trans (State.raised_raise _ _)

/-- What alignment touches after the lane is up: reversal, what link training wrote, and the record of a flip. -/
@[simp] def Foot.afterAlign (rod l : Nat) : Foot :=
  [.fld (R.LN_STAT_REVERSED rod l), .fld (R.LN_TXFIR_MAIN rod l), .fld (R.LN_TXFIR_PRE rod l), .fld (R.LN_TXFIR_POST rod l),
    .part .freeCtr, .fld (I.LANE_POLPREV rod l), .fld (R.LN_EVT_POL_FLIP rod l), .kin [R.EVT_STAT rod 0]]

theorem execLaneAligned_up {rod : Fin 16} {l : Fin 70} {inverted reversed : Bool} (hl : l.val < laneCount rod)
    (h : s.lane rod l = lnAlign) (hc : s.on (R.LN_PRBS_CHK_EN rod l) = false)
    (hi : laneUse rod l ≠ 0 ∨ (s.on (I.SRX_BLK (l / 34) (l % 34)) = true ∧ s.on (I.SRX_ID (l / 34) (l % 34)) = true)) :
    ∃ t : State, exec (.laneAligned rod l inverted reversed) s = .next t ∧
      t.lane rod l = lnUp ∧
      t.get (R.LN_STAT_POL rod l) = (if s.get (R.LN_CTL_POL_MODE rod l) = 0 then ofBool inverted
        else if s.get (R.LN_CTL_POL_MODE rod l) = 2 then 1 else 0) := by
  refine ⟨_, congrArg Host.Outcome.next (if_pos ⟨decide_eq_true hl, h, by rw [hc]; rfl, hi⟩), ?_⟩
  extract_lets auto found prev pol s1 s2
  have lane : s1.lane rod l = lnUp := by
    refine (State.get_when _ _ (State.get_set_other _ _ (by simp))).trans ?_
    simp [State.setLane, State.get_set_other, lnUp]
  have polarity : s1.get (R.LN_STAT_POL rod l) = pol := by
    refine (State.get_when _ _ (State.get_set_other _ _ (by simp))).trans ((State.get_set_same ..).trans ?_)
    unfold pol ofBool
    split <;> split <;> rfl
  have h₂ : Within (Foot.afterAlign rod l) s1 s2 :=
    .when (.when (.refl _ _) (.set (.refl _ _))) (.drawn (.sets (.refl _ _)))
  have rest : Within (Foot.afterAlign rod l) s1 (if auto then
      (s2.set (I.LANE_POLPREV rod l) found).when (decide (prev ≠ 0 ∧ prev ≠ found))
        (fun s => (s.set (R.LN_EVT_POL_FLIP rod l) 1).raise (s.laneSrc rod l 3))
      else s2) := .ite (fun _ => .when h₂.set (.raise (.set (.refl _ _)) (by simp [State.laneSrc]))) fun _ => h₂
  refine ⟨(rest.get_eq _ (by simp)).trans lane, (rest.get_eq _ (by simp)).trans (polarity.trans ?_)⟩
  simp only [pol, auto, ofBool, decide_eq_true_eq]

/-! ### The lanes of a group -/

theorem nodup_groupLanes (rod g : Nat) : (groupLanes rod g).Nodup := by
  have shifted : ∀ n k : Nat, ((List.range n).map (· + k)).Nodup := fun n k =>
    List.nodup_range.map fun a b (e : a + k = b + k) => by omega
  unfold groupLanes
  split_ifs <;> simp [List.nodup_range, shifted]

/-- A change made lane by lane that leaves lane `l` alone at every other lane. -/
theorem get_foldl_other {g : State → Nat → State} {L : List Nat} (hl : l ∉ L)
    (hg : ∀ u m, m ≠ l → (g u m).get f = u.get f) : (L.foldl g s).get f = s.get f := by
  induction L generalizing s with
  | nil => rfl
  | cons m L ih =>
    rw [List.mem_cons, not_or] at hl
    exact (ih hl.2).trans (hg s m (Ne.symm hl.1))

/-- A change made lane by lane comes to lane `l` once, with the lane's fields as they were at first, and leaves them from then on. -/
theorem get_foldl_own {g : State → Nat → State} {L : List Nat} {F : List Fld} (hl : l ∈ L) (hn : L.Nodup)
    (hg : ∀ f ∈ F, ∀ u m, m ≠ l → (g u m).get f = u.get f) :
    ∃ u, (∀ f ∈ F, u.get f = s.get f) ∧ ∀ f ∈ F, (L.foldl g s).get f = (g u l).get f := by
  obtain ⟨before, after, rfl⟩ := List.append_of_mem hl
  rw [List.nodup_append, List.nodup_cons] at hn
  obtain ⟨-, ⟨notAfter, -⟩, apart⟩ := hn
  have notBefore : l ∉ before := fun hb => apart l hb l (by simp) rfl
  refine ⟨before.foldl g s, fun f hf => get_foldl_other notBefore (hg f hf), fun f hf => ?_⟩
  rw [List.foldl_append, List.foldl_cons, get_foldl_other notAfter (hg f hf)]

/-- A lane of a group whose PLL locks at a rate (spec/03 R77, R78). -/
def State.pllLane (s : State) (rod kbps l : Nat) : State :=
  if s.lane rod l = lnPll then
    let s1 := s.setLane rod l (if txOnly rod l then lnUp else lnSignal)
    if laneUse rod l = 0 then s1.set (I.LANE_RATE rod l) (s.get (R.LN_RATE_KBPS rod l))
    else s1.set (R.LN_RATE_KBPS rod l) (if laneUse rod l = 3 then 25781250 else kbps)
  else s

theorem execLanePllLock_eq {rod : Fin 16} {g : Fin 8} {kbps : BitVec 25} (h : rateOk rod g kbps.toNat = true) :
    exec (.lanePllLock rod g kbps) s = .next ((groupLanes rod g).foldl (fun u l => u.pllLane rod kbps.toNat l) s) :=
  congrArg Host.Outcome.next (if_neg (by simp [h]))

theorem lane_pllLane_other {kbps m : Nat} (h : m ≠ l) : (s.pllLane rod kbps m).lane rod l = s.lane rod l := by
  unfold State.pllLane
  split
  · dsimp only
    split <;> simp [State.lane, State.setLane, State.get_set_other, Ne.symm h]
  · rfl

theorem lane_pllLane {kbps : Nat} (h : s.lane rod l = lnPll) :
    (s.pllLane rod kbps l).lane rod l = if 4 ≤ laneUse rod l then lnUp else lnSignal := by
  have moved : (s.setLane rod l (if txOnly rod l then lnUp else lnSignal)).lane rod l = if 4 ≤ laneUse rod l then lnUp else lnSignal := by
    simp only [State.lane, State.setLane, State.get_set_same, txOnly, decide_eq_true_eq]
    split <;> rfl
  rw [State.pllLane, if_pos h]
  dsimp only
  split
  · exact (State.get_set_other _ _ (by simp)).trans moved
  · exact (State.get_set_other _ _ (by simp)).trans moved

theorem execLanePllLock_moves {rod : Fin 16} {g : Fin 8} {kbps : BitVec 25} (hr : rateOk rod g kbps.toNat = true)
    (hl : l ∈ groupLanes rod g) (h : s.lane rod l = lnPll) :
    ∃ t : State, exec (.lanePllLock rod g kbps) s = .next t ∧ t.lane rod l = (if 4 ≤ laneUse rod l then lnUp else lnSignal) := by
  obtain ⟨u, same, own⟩ := get_foldl_own (s := s) (g := fun u l => u.pllLane rod kbps.toNat l) (F := [R.LN_STAT_STATE rod l]) hl
    (nodup_groupLanes rod g) (List.forall_mem_singleton.2 fun _ _ => lane_pllLane_other)
  exact ⟨_, execLanePllLock_eq hr, (own _ (by simp)).trans (lane_pllLane ((same _ (by simp)).trans h))⟩

end

/-- Settles O17: each command of the bring-up writes the lane's state and the fields that it clears, and what it does besides touches
other fields. That RETRY and LOL are clear then, that GO takes a lane that only transmits to UP, and that the rate is an operand is the
model's reading (logs 302 and 305). -/
theorem laneBringUp : Obligations.LaneBringUp := by
  unfold Obligations.LaneBringUp
  exact ⟨fun _ _ _ => execLaneEnable_starts, fun _ _ _ => execLaneDisable_stops, fun _ _ _ _ => execLaneGo_restarts,
    fun _ _ _ => execLanePowerDone_locks, fun _ _ _ _ _ => execLanePllLock_moves, fun _ _ _ => execLaneLosClear_locks,
    fun _ _ _ => execLaneLock_adapts, fun _ _ _ => execLaneAdaptDone_aligns, fun _ _ _ _ _ => execLaneAligned_up,
    fun _ _ _ => execLaneAdaptTimeout_aligns⟩

end Sys2Proof.Machine

/-!
Failures, detectors, electrical idle and adaptation of a lane (O18).
-/

namespace Sys2Proof.Machine

open Sys2Proof.Safety

section

variable {s u : State} {f : Fld} {rod l : Nat}

/-! ### Failures -/

theorem get_laneFault_other {cause m : Nat} (hm : m ≠ l) :
    ∀ f ∈ [R.LN_STAT_STATE rod l, R.LN_STAT_FAULT rod l], (s.laneFault rod m cause).get f = s.get f := by
  simp [State.laneFault, State.setLane, State.get_srxLost, State.get_raise, State.get_set_other, Ne.symm hm]

/-- A lane that enters FAULT shows why. -/
theorem laneFault_shows {cause : Nat} (h : cause < 16) :
    (s.laneFault rod l cause).lane rod l = lnFault ∧ (s.laneFault rod l cause).get (R.LN_STAT_FAULT rod l) = cause := by
  simp [State.laneFault, State.lane, State.setLane, State.get_srxLost, State.get_raise, State.get_set_other, lnFault, Nat.mod_eq_of_lt h]

theorem get_retry_laneFault {cause : Nat} :
    (s.laneFault rod l cause).get (R.LN_STAT_RETRY rod l) = s.get (R.LN_STAT_RETRY rod l) := by
  simp [State.laneFault, State.setLane, State.get_srxLost, State.get_raise, State.get_set_other]

theorem execLaneLockTimeout_counts {rod : Fin 16} {l : Fin 70} (hl : l.val < laneCount rod) (h : s.lane rod l = lnLock) :
    ∃ t : State, exec (.laneLockTimeout rod l) s = .next t ∧
      t.get (R.LN_STAT_RETRY rod l) = min (s.get (R.LN_STAT_RETRY rod l) + 1) 8 ∧
      (s.get (I.LANE_LOCKF rod l) < 7 → t.lane rod l = lnSignal) ∧
      (7 ≤ s.get (I.LANE_LOCKF rod l) → t.lane rod l = lnFault ∧ t.get (R.LN_STAT_FAULT rod l) = 2) := by
  refine ⟨_, congrArg Host.Outcome.next (if_pos ⟨decide_eq_true hl, h⟩), ?_⟩
  extract_lets n s1
  have retry : s1.get (R.LN_STAT_RETRY rod l) = min (s.get (R.LN_STAT_RETRY rod l) + 1) 8 := by
    have small : min (s.get (R.LN_STAT_RETRY rod l) + 1) 8 < 16 := by omega
    simp only [s1, State.sets, List.foldl]
    rw [State.get_set_other _ _ (by simp), State.get_set_same]
    exact Nat.mod_eq_of_lt small
  by_cases hn : 8 ≤ n
  · rw [if_pos hn]
    exact ⟨get_retry_laneFault.trans retry, fun h => by omega, fun _ => laneFault_shows (by omega)⟩
  · rw [if_neg hn]
    refine ⟨(State.get_set_other _ _ (by simp)).trans retry, fun _ => State.get_set_same .., fun h => by omega⟩

/-- What a group's failure does to a lane. -/
def State.faultLane (s : State) (rod cause l : Nat) : State :=
  if s.lane rod l = lnOff ∨ s.lane rod l = lnFault then s else s.laneFault rod l cause

theorem groupFault_eq {g cause m : Nat} {p : Nat → Bool} (hm : m ∈ groupLanes rod g) (hp : p (s.lane rod m) = true) :
    s.groupFault rod g cause p = (groupLanes rod g).foldl (fun u l => u.faultLane rod cause l) s :=
  if_pos (List.any_eq_true.2 ⟨m, hm, hp⟩)

theorem get_faultLane_other {cause m : Nat} (hm : m ≠ l) :
    ∀ f ∈ [R.LN_STAT_STATE rod l, R.LN_STAT_FAULT rod l], (s.faultLane rod cause m).get f = s.get f := by
  unfold State.faultLane
  split
  · exact fun _ _ => rfl
  · exact get_laneFault_other hm

/-- A group's failure takes each of its lanes that is in use and not in FAULT to FAULT. -/
theorem groupFault_faults {g cause m : Nat} {p : Nat → Bool} (hc : cause < 16) (hm : m ∈ groupLanes rod g) (hp : p (s.lane rod m) = true)
    (hl : l ∈ groupLanes rod g) (ho : s.lane rod l ≠ lnOff) (hf : s.lane rod l ≠ lnFault) :
    (s.groupFault rod g cause p).lane rod l = lnFault ∧ (s.groupFault rod g cause p).get (R.LN_STAT_FAULT rod l) = cause := by
  obtain ⟨u, same, own⟩ := get_foldl_own (s := s) (g := fun u l => u.faultLane rod cause l)
    (F := [R.LN_STAT_STATE rod l, R.LN_STAT_FAULT rod l]) hl (nodup_groupLanes rod g) fun f hf u m hm => get_faultLane_other hm f hf
  have hu : u.lane rod l = s.lane rod l := same _ (by simp)
  have fault : u.faultLane rod cause l = u.laneFault rod l cause := if_neg (by rw [hu]; exact not_or.2 ⟨ho, hf⟩)
  rw [groupFault_eq hm hp]
  exact ⟨(own _ (by simp)).trans (fault ▸ (laneFault_shows hc).1), (own _ (by simp)).trans (fault ▸ (laneFault_shows hc).2)⟩

theorem execLanePllTimeout_faults {rod : Fin 16} {g : Fin 8} (hl : l ∈ groupLanes rod g) (h : s.lane rod l = lnPll) :
    ∃ t : State, exec (.lanePllTimeout rod g) s = .next t ∧ t.lane rod l = lnFault ∧ t.get (R.LN_STAT_FAULT rod l) = 1 :=
  ⟨_, rfl, groupFault_faults (by omega) hl (decide_eq_true h) hl (by rw [h]; decide) (by rw [h]; decide)⟩

theorem execGroupPllLoss_faults {rod : Fin 16} {g : Fin 8} {m : Nat} (hl : l ∈ groupLanes rod g) (hm : m ∈ groupLanes rod g)
    (h : lnSignal ≤ s.lane rod m ∧ s.lane rod m ≤ lnIdle) (ho : s.lane rod l ≠ lnOff) (hf : s.lane rod l ≠ lnFault) :
    ∃ t : State, exec (.groupPllLoss rod g) s = .next t ∧ t.lane rod l = lnFault ∧ t.get (R.LN_STAT_FAULT rod l) = 3 :=
  ⟨_, rfl, groupFault_faults (by omega) hm (decide_eq_true h) hl ho hf⟩

/-! ### Detectors -/

theorem beyond_blkLost : beyond (s.blkLost rod l) = beyond s := by
  unfold State.blkLost
  split <;> rfl

theorem beyond_srxLost {reason : Nat} : beyond (s.srxLost rod l reason) = beyond s := by
  have marks : ∀ (u : State) (p i : Nat), beyond (u.markBad p i reason) = beyond u := fun u p i => by
    unfold State.markBad
    split <;> simp
  unfold State.srxLost
  split
  · rfl
  · dsimp only
    split
    · exact (marks ..).trans (beyond_when _ _ _ (beyond_set ..))
    · rfl

/-- Whether a GO of the same cycle wins rests on the time of the last one, the clock and the queue. -/
theorem goWins_congr (hb : beyond u = beyond s) (hg : u.get (I.LANE_GO_T rod l) = s.get (I.LANE_GO_T rod l)) :
    u.goWins rod l = s.goWins rod l := by
  have up : u.up = s.up := (congrArg State.up hb :)
  have pending : u.pending = s.pending := (congrArg State.pending hb :)
  unfold State.goWins State.coming
  rw [hg, up, pending]

theorem get_autoRestart_other {stage : Nat} (h : f.id ≠ (R.LN_STAT_STATE 0 0).id ∧ f.id ≠ (R.LN_STAT_RETRY 0 0).id ∧
    f.id ≠ (I.LANE_LOCKF 0 0).id) : (s.autoRestart rod l stage).get f = s.get f := by
  obtain ⟨hs, hr, hf⟩ := h
  unfold State.autoRestart
  split
  · exact (State.get_set_id hf).trans ((State.get_set_id hr).trans (State.get_set_id hs))
  · rfl

/-- A lane in UP that is lost restarts by itself, unless AUTO_RETRAIN is 0 or a GO wins; `u` is the state with its flags and counts. -/
theorem lane_lost_restarts {stage : Nat} (hs : stage < 16) (hb : beyond u = beyond s) (hu : u.lane rod l = lnUp)
    (hg : u.get (I.LANE_GO_T rod l) = s.get (I.LANE_GO_T rod l))
    (ha : u.get (R.LN_CTL_AUTO_RETRAIN rod l) = s.get (R.LN_CTL_AUTO_RETRAIN rod l)) :
    ((u.srxLost rod l 1).autoRestart rod l stage).lane rod l =
      if s.on (R.LN_CTL_AUTO_RETRAIN rod l) = true ∧ s.goWins rod l = false then stage else lnUp := by
  have go : (u.srxLost rod l 1).goWins rod l = s.goWins rod l :=
    goWins_congr (beyond_srxLost.trans hb) ((State.get_srxLost (by simp)).trans hg)
  have auto : (u.srxLost rod l 1).on (R.LN_CTL_AUTO_RETRAIN rod l) = s.on (R.LN_CTL_AUTO_RETRAIN rod l) :=
    State.on_congr ((State.get_srxLost (by simp)).trans ha)
  unfold State.autoRestart
  simp only [go, auto, Bool.and_eq_true, Bool.not_eq_true']
  split
  · simp [State.lane, State.setLane, State.zero, State.get_set_other, Nat.mod_eq_of_lt hs]
  · exact (State.get_srxLost (by simp)).trans hu

/-- The flags, the count and the event of a LOS. -/
def State.losFound (s : State) (rod l : Nat) : State :=
  (((((s.set (R.LN_STAT_LOS rod l) 1).set (R.LN_STAT_LOL rod l) 0).set (R.LN_EVT_LOS_EV rod l) 1).inc (R.LN_EVT_LOS_CNT rod l)).raise
    (s.laneSrc rod l 0)).blkLost rod l

/-- The flags, the count and the event of a LOL. -/
def State.lolFound (s : State) (rod l : Nat) : State :=
  ((((s.set (R.LN_STAT_LOL rod l) 1).set (R.LN_EVT_LOL_EV rod l) 1).inc (R.LN_EVT_LOL_CNT rod l)).raise (s.laneSrc rod l 1)).blkLost rod l

theorem beyond_losFound : beyond (s.losFound rod l) = beyond s := by simp [State.losFound, beyond_blkLost]
theorem beyond_lolFound : beyond (s.lolFound rod l) = beyond s := by simp [State.lolFound, beyond_blkLost]

/-- What a LOS or a LOL leaves of a lane: its state, what its restart rests on, and the run of windows. -/
def standingFields (rod l : Nat) : List Fld :=
  [R.LN_STAT_STATE rod l, R.LN_CTL_AUTO_RETRAIN rod l, I.LANE_GO_T rod l, I.LANE_OUTWIN rod l]

theorem losFound_shows : (s.losFound rod l).get (R.LN_STAT_LOS rod l) = 1 ∧ (s.losFound rod l).get (R.LN_EVT_LOS_EV rod l) = 1 := by
  simp [State.losFound, State.get_blkLost, State.get_raise, State.get_inc_other, State.get_set_other]

theorem get_losFound_other : ∀ f ∈ standingFields rod l, (s.losFound rod l).get f = s.get f := by
  simp [standingFields, State.losFound, State.get_blkLost, State.get_raise, State.get_inc_other, State.get_set_other]

theorem lolFound_shows : (s.lolFound rod l).get (R.LN_STAT_LOL rod l) = 1 ∧ (s.lolFound rod l).get (R.LN_EVT_LOL_EV rod l) = 1 := by
  simp [State.lolFound, State.get_blkLost, State.get_raise, State.get_inc_other, State.get_set_other]

theorem get_lolFound_other : ∀ f ∈ standingFields rod l, (s.lolFound rod l).get f = s.get f := by
  simp [standingFields, State.lolFound, State.get_blkLost, State.get_raise, State.get_inc_other, State.get_set_other]

/-- A command of the queue that names a lane names another. -/
theorem apart_of_notMem {c : Fin 16 → Fin 70 → Instr} {L : List Instr} {rod r : Fin 16} {l k : Fin 70} (h : c rod l ∉ L)
    (hc : c r k ∈ L) : decide (r.val = rod.val ∧ k.val = l.val) = false :=
  decide_eq_false fun e => h (Fin.ext e.1 ▸ Fin.ext e.2 ▸ hc)

theorem laneLos_up {rod : Fin 16} {l : Fin 70} (hl : l.val < laneCount rod) (hu : laneUse rod l < 4) (h : s.lane rod l = lnUp)
    (hs : s.on (R.LN_STAT_LOS rod l) = false) (hp : Instr.laneIdleEntry rod l ∉ s.pending) :
    s.laneLos rod l = ((s.losFound rod l).srxLost rod l 1).autoRestart rod l lnSignal := by
  unfold State.laneLos
  extract_lets st idle s1 s2
  have notIdle : idle = false := by
    refine Bool.and_eq_false_imp.2 fun _ => List.any_eq_false.2 fun c hc => Bool.eq_false_iff.1 ?_
    split
    · exact apart_of_notMem hp hc
    · rfl
  have up : st = lnUp := h
  have found : s2 = s.losFound rod l := if_pos (by simp [up])
  rw [notIdle, hs, up, found, if_neg (by simp [isLane, hl, txOnly, hu, lnUp, lnOff, lnIdle]),
    if_neg (by simp [lnUp, lnLock, lnAdapt]), if_pos rfl]

theorem laneLol_up {rod : Fin 16} {l : Fin 70} (hl : l.val < laneCount rod) (hu : laneUse rod l < 4) (h : s.lane rod l = lnUp)
    (hs : s.on (R.LN_STAT_LOS rod l) = false) (hp : Instr.laneLos rod l ∉ s.pending) :
    s.laneLol rod l = ((s.lolFound rod l).srxLost rod l 1).autoRestart rod l lnLock := by
  unfold State.laneLol
  extract_lets st los s1 s2
  have noLos : los = false := by
    refine List.any_eq_false.2 fun c hc => Bool.eq_false_iff.1 ?_
    split
    · exact apart_of_notMem hp hc
    · rfl
  have up : st = lnUp := h
  have found : s2 = s.lolFound rod l := if_pos (by simp [up])
  rw [noLos, hs, up, found, if_neg (by simp [isLane, hl, txOnly, hu, lnUp, lnOff, lnIdle, lnLock]), if_pos rfl]

theorem execLaneLos_declares {rod : Fin 16} {l : Fin 70} (hl : l.val < laneCount rod) (hu : laneUse rod l < 4)
    (h : s.lane rod l = lnUp) (hs : s.on (R.LN_STAT_LOS rod l) = false) (hp : Instr.laneIdleEntry rod l ∉ s.pending) :
    ∃ t : State, exec (.laneLos rod l) s = .next t ∧
      t.get (R.LN_STAT_LOS rod l) = 1 ∧ t.get (R.LN_EVT_LOS_EV rod l) = 1 ∧
      t.lane rod l = (if s.on (R.LN_CTL_AUTO_RETRAIN rod l) = true ∧ s.goWins rod l = false then lnSignal else lnUp) := by
  have found := get_losFound_other (s := s) (rod := rod) (l := l)
  refine ⟨_, congrArg Host.Outcome.next (laneLos_up hl hu h hs hp), ?los, ?event, ?lane⟩
  case los => rw [get_autoRestart_other (by simp), State.get_srxLost (by simp), losFound_shows.1]
  case event => rw [get_autoRestart_other (by simp), State.get_srxLost (by simp), losFound_shows.2]
  case lane =>
    exact lane_lost_restarts (by simp [lnSignal]) beyond_losFound ((found _ (by simp [standingFields])).trans h)
      (found _ (by simp [standingFields])) (found _ (by simp [standingFields]))

theorem laneLol_declares {rod : Fin 16} {l : Fin 70} (hl : l.val < laneCount rod) (hu : laneUse rod l < 4)
    (h : s.lane rod l = lnUp) (hs : s.on (R.LN_STAT_LOS rod l) = false) (hp : Instr.laneLos rod l ∉ s.pending) :
    (s.laneLol rod l).get (R.LN_STAT_LOL rod l) = 1 ∧ (s.laneLol rod l).get (R.LN_EVT_LOL_EV rod l) = 1 ∧
      (s.laneLol rod l).lane rod l =
        (if s.on (R.LN_CTL_AUTO_RETRAIN rod l) = true ∧ s.goWins rod l = false then lnLock else lnUp) ∧
      (s.laneLol rod l).get (I.LANE_OUTWIN rod l) = s.get (I.LANE_OUTWIN rod l) := by
  have found := get_lolFound_other (s := s) (rod := rod) (l := l)
  rw [laneLol_up hl hu h hs hp]
  refine ⟨?lol, ?event, ?lane, ?windows⟩
  case lol => rw [get_autoRestart_other (by simp), State.get_srxLost (by simp), lolFound_shows.1]
  case event => rw [get_autoRestart_other (by simp), State.get_srxLost (by simp), lolFound_shows.2]
  case lane =>
    exact lane_lost_restarts (by simp [lnLock]) beyond_lolFound ((found _ (by simp [standingFields])).trans h)
      (found _ (by simp [standingFields])) (found _ (by simp [standingFields]))
  case windows =>
    rw [get_autoRestart_other (by simp), State.get_srxLost (by simp), found _ (by simp [standingFields])]

theorem execLaneLol_declares {rod : Fin 16} {l : Fin 70} (hl : l.val < laneCount rod) (hu : laneUse rod l < 4)
    (h : s.lane rod l = lnUp) (hs : s.on (R.LN_STAT_LOS rod l) = false) (hp : Instr.laneLos rod l ∉ s.pending) :
    ∃ t : State, exec (.laneLol rod l) s = .next t ∧
      t.get (R.LN_STAT_LOL rod l) = 1 ∧ t.get (R.LN_EVT_LOL_EV rod l) = 1 ∧
      t.lane rod l = (if s.on (R.LN_CTL_AUTO_RETRAIN rod l) = true ∧ s.goWins rod l = false then lnLock else lnUp) := by
  obtain ⟨lol, event, lane, -⟩ := laneLol_declares hl hu h hs hp
  exact ⟨_, rfl, lol, event, lane⟩

/-- A window outside FREQ_WIN that completes the run. -/
theorem laneWindow_completes {ppm : Nat} (hw : s.get (R.LN_DET_FREQ_WIN rod l) * 10 < ppm)
    (hn : s.get (R.LN_DET_LOL_WIN rod l) ≤ s.get (I.LANE_OUTWIN rod l)) :
    s.laneWindow rod l ppm = (s.set (I.LANE_OUTWIN rod l) 0, true) :=
  (if_pos hw).trans (if_pos (Nat.succ_le_succ hn))

theorem execLaneFreqWindow_declares {rod : Fin 16} {l : Fin 70} {ppm : BitVec 20} (hl : l.val < laneCount rod)
    (hu : laneUse rod l < 4) (h : s.lane rod l = lnUp) (hs : s.on (R.LN_STAT_LOS rod l) = false)
    (hw : s.get (R.LN_DET_FREQ_WIN rod l) * 10 < ppm.toNat) (hp : Instr.laneLos rod l ∉ s.pending)
    (hn : s.get (R.LN_DET_LOL_WIN rod l) ≤ s.get (I.LANE_OUTWIN rod l)) :
    ∃ t : State, exec (.laneFreqWindow rod l ppm) s = .next t ∧
      t.get (R.LN_STAT_LOL rod l) = 1 ∧ t.get (I.LANE_OUTWIN rod l) = 0 := by
  obtain ⟨lol, -, -, windows⟩ := laneLol_declares (s := s.set (I.LANE_OUTWIN rod l) 0) hl hu
    ((State.get_set_other _ _ (by simp)).trans h) ((State.on_congr (State.get_set_other _ _ (by simp))).trans hs) hp
  have run : exec (.laneFreqWindow rod l ppm) s = .next ((s.set (I.LANE_OUTWIN rod l) 0).laneLol rod l) := by
    refine congrArg Host.Outcome.next ((if_pos ⟨decide_eq_true hl, by simp [h, lnLock, lnUp]⟩).trans ?_)
    rw [laneWindow_completes hw hn]
    rfl
  exact ⟨_, run, lol, windows.trans (State.get_set_same ..)⟩

/-! ### Electrical idle and adaptation -/

theorem execLaneIdleEntry_idles {rod : Fin 16} {l : Fin 70} (hl : l.val < laneCount rod) (h : s.lane rod l = lnUp) :
    ∃ t : State, exec (.laneIdleEntry rod l) s = .next t ∧
      t.lane rod l = lnIdle ∧ t.get (R.LN_STAT_FROZEN rod l) = 1 ∧ t.get (R.LN_STAT_LOS rod l) = 0 := by
  refine ⟨_, congrArg Host.Outcome.next (if_pos ⟨decide_eq_true hl, h⟩), ?_⟩
  generalize hu : State.zero _ _ = u
  have block : ∀ f : Fld, f.id ≠ (I.SRX_BLK 0 0).id ∧ f.id ≠ (I.SRX_TSCNT 0 0).id ∧ f.id ≠ (I.SRX_WAKE 0 0).id →
      (u.when (decide (rod.val = 1)) fun s => (s.blkLost rod l).set (I.SRX_WAKE (l / 34) (l % 34)) 1).get f = u.get f := by
    rintro f ⟨hb, ht, hw⟩
    exact State.get_when _ _ ((State.get_set_id hw).trans (State.get_blkLost ⟨hb, ht⟩))
  refine ⟨(block _ (by simp)).trans ?_, (block _ (by simp)).trans ?_, (block _ (by simp)).trans ?_⟩ <;>
    simp [← hu, State.setLane, State.zero, State.sets, State.get_set_other, lnIdle]

theorem execLaneSquelchConfirm_chooses {rod : Fin 16} {l : Fin 70} (hl : l.val < laneCount rod) (h : s.lane rod l = lnIdle) :
    ∃ t : State, exec (.laneSquelchConfirm rod l) s = .next t ∧
      t.get (I.LANE_SQ rod l) =
        (if s.up - s.get (I.LANE_IDLE_T rod l) ≤ s.get (R.LN_ADAPT_IDLE_HOLD rod l) * tMs then 1 else 2) ∧
      t.lane rod l = lnIdle := by
  refine ⟨_, congrArg Host.Outcome.next (if_pos ⟨decide_eq_true hl, h⟩), ?squelch, (State.get_set_other _ _ (by simp)).trans h⟩
  rw [State.get_set_same]
  split <;> rfl

theorem execLanePhaseLock_up {rod : Fin 16} {l : Fin 70} (hl : l.val < laneCount rod) (h : s.lane rod l = lnIdle)
    (hq : s.get (I.LANE_SQ rod l) = 1) : ∃ t : State, exec (.lanePhaseLock rod l) s = .next t ∧ t.lane rod l = lnUp :=
  ⟨_, congrArg Host.Outcome.next (if_pos ⟨decide_eq_true hl, h, hq⟩),
    (State.get_set_other _ _ (by simp)).trans (State.get_set_same ..)⟩

theorem execLanePhaseLockTimeout_locks {rod : Fin 16} {l : Fin 70} (hl : l.val < laneCount rod) (h : s.lane rod l = lnIdle)
    (hq : s.on (I.LANE_SQ rod l) = true) :
    ∃ t : State, exec (.lanePhaseLockTimeout rod l) s = .next t ∧
      t.lane rod l = lnLock ∧ t.get (R.LN_EVT_EXIT_SLOW rod l) = 1 ∧ isRaised t (s.laneSrc rod l 3) := by
  refine ⟨_, congrArg Host.Outcome.next (if_pos ⟨decide_eq_true hl, h, (State.on_iff ..).1 hq⟩), ?lane, ?slow, State.raised_raise _ _⟩
  case lane => simp [State.lane, State.setLane, State.sets, State.get_raise, State.get_set_other, lnLock]
  case slow => simp [State.sets, State.get_raise]

theorem execAdaptWindow_freezes {rod : Fin 16} {l : Fin 70} {density : BitVec 13} (hl : l.val < laneCount rod)
    (hu : laneUse rod l < 4) (h : s.lane rod l = lnUp) (hm : s.get (R.LN_ADAPT_MODE rod l) = 0)
    (hd : density.toNat * 64 < s.get (R.LN_ADAPT_DENS_MIN rod l) * 4096)
    (hr : s.get (R.LN_ADAPT_FRZ_RUN rod l) ≤ s.get (I.LANE_LOW rod l) + 1) :
    ∃ t : State, exec (.adaptWindow rod l density) s = .next t ∧
      t.get (R.LN_STAT_FROZEN rod l) = 1 ∧ t.get (I.LANE_HIGH rod l) = 0 := by
  refine ⟨_, congrArg Host.Outcome.next (if_pos ⟨decide_eq_true hl, by simp [txOnly, hu], h, hm⟩), ?_⟩
  simp only [hd, hr, if_true, decide_true, State.when_true]
  rw [if_pos (by simp [State.on])]
  simp [State.sets, State.get_set_other]

theorem execAdaptWindow_thaws {rod : Fin 16} {l : Fin 70} {density : BitVec 13} (hl : l.val < laneCount rod)
    (hu : laneUse rod l < 4) (h : s.lane rod l = lnUp) (hm : s.get (R.LN_ADAPT_MODE rod l) = 0)
    (hd : s.get (R.LN_ADAPT_DENS_MIN rod l) * 4096 ≤ density.toNat * 64)
    (hr : s.get (R.LN_ADAPT_THAW_RUN rod l) ≤ s.get (I.LANE_HIGH rod l) + 1) (hq : s.on (I.LANE_FRZREQ rod l) = false) :
    ∃ t : State, exec (.adaptWindow rod l density) s = .next t ∧
      t.get (R.LN_STAT_FROZEN rod l) = 0 ∧ t.get (I.LANE_LOW rod l) = 0 := by
  refine ⟨_, congrArg Host.Outcome.next (if_pos ⟨decide_eq_true hl, by simp [txOnly, hu], h, hm⟩), ?_⟩
  simp only [Nat.not_lt.2 hd, hr, hq, if_false, decide_true, Bool.not_false, Bool.and_self, State.when_true]
  rw [if_neg (by simp [State.on])]
  simp [State.get_laneCoef, State.sets, State.get_set_other]

end

/-- Settles O18: each command writes the flags that tell the failure or the change and the lane's new state; what is lost with a sensor
lane, and the new coefficients, touch other fields. That RETRY counts apart from the failures in a row, which lanes of a group fail and
which event of a cycle gives way are the model's reading (logs 301, 302 and 306). -/
theorem laneFailures : Obligations.LaneFailures := by
  unfold Obligations.LaneFailures
  exact ⟨fun _ _ _ => execLaneLockTimeout_counts, fun _ _ _ _ => execLanePllTimeout_faults, fun _ _ _ _ _ => execGroupPllLoss_faults,
    fun _ _ _ => execLaneLos_declares, fun _ _ _ => execLaneLol_declares, fun _ _ _ _ => execLaneFreqWindow_declares,
    fun _ _ _ => execLaneIdleEntry_idles, fun _ _ _ => execLaneSquelchConfirm_chooses, fun _ _ _ => execLanePhaseLock_up,
    fun _ _ _ => execLanePhaseLockTimeout_locks, fun _ _ _ _ => execAdaptWindow_freezes, fun _ _ _ _ => execAdaptWindow_thaws⟩

end Sys2Proof.Machine

namespace Sys2Proof.Machine
open Sys2Proof.Safety

/-! ### Statements about time and lanes that do not hold -/

/-- TLY.RATE holds 2 ^ 33, which its 32 bits do not. -/
def wideRate : State := { State.reset with regs := [(R.TLY_RATE_ADJ.key, 2 ^ 33)] }

/-- Refutes O2: the model takes the low 32 bits of ADJ, here 0, so that Tally counts one nanosecond. The statement takes the number that
the store holds, which nothing in it bounds, and asks for a second one. -/
theorem not_idleStepAdvancesTime : ¬ Obligations.IdleStepAdvancesTime := by
  unfold Obligations.IdleStepAdvancesTime
  intro h
  obtain ⟨t, run, -, -, -, -, counts, -⟩ := h wideRate rfl
  obtain rfl : wideRate.tallyCycle = t := Host.Outcome.next.inj run
  exact absurd (counts (by decide +kernel) (.inl rfl)) (by decide +kernel)

/-- Receive lane 0 of port 0 stands in ALIGN with block lock, carries the sensor's first spare, number 32, which no logical lane is
mapped to, and has failed to align once. -/
def spareAligns : State :=
  { State.reset with
    regs := [((R.LN_STAT_STATE 1 0).key, lnAlign), ((R.LH_ALIGN_FAIL 0 32).key, 1), ((I.SRX_BLK 0 0).key, 1),
      ((I.SRX_ID 0 0).key, 33)] }

/-- Refutes O19: the alignment of a spare clears the count of LH32 (spec/04 R108, log 8), and the frame names LH0 to LH31. -/
theorem not_laneFrames : ¬ Obligations.LaneFrames := by
  unfold Obligations.LaneFrames
  rintro ⟨-, -, -, -, -, -, -, -, -, -, laneAligned, -⟩
  obtain ⟨kept, -⟩ := laneAligned 1 0 false false spareAligns _ rfl
  have outside : ¬ among ([R.LN_STAT_STATE 1 0, I.LANE_SLOW 1 0, R.LN_STAT_POL 1 0, R.LN_STAT_REVERSED 1 0, I.LANE_POLPREV 1 0,
      R.LN_EVT_POL_FLIP 1 0, R.LN_TXFIR_MAIN 1 0, R.LN_TXFIR_PRE 1 0, R.LN_TXFIR_POST 1 0] ++
      (List.range 32).map (R.LH_ALIGN_FAIL 0) ++ sources [spareAligns.laneSrc 1 0 3]) (R.LH_ALIGN_FAIL 0 32) := by
    simp
  exact absurd (kept _ outside).1 (by decide +kernel)

end Sys2Proof.Machine

/-!
The blocks of the sensor link (O60): little-endian numbers within a list of bytes, the scrambler, block types and packets.
-/

namespace Sys2Proof.Machine

/-! ### Little-endian numbers in a list of bytes -/

/-- The bytes of a number, read back, are the number as far as they hold it. -/
theorem leNat_leBytes (n v : Nat) : leNat (leBytes n v) = v % 256 ^ n := by
  induction n generalizing v with
  | zero => simp [leBytes, leNat, Nat.mod_one]
  | succ n ih =>
    rw [leBytes, leNat, ih, BitVec.toNat_ofNat, pow_succ' 256 n]
    exact Nat.mod_mul.symm

theorem leBytes_leNat (l : List Byte) : leBytes l.length (leNat l) = l := by
  induction l with
  | nil => rfl
  | cons b t ih =>
    have low : BitVec.ofNat 8 (leNat (b :: t)) = b := by
      apply BitVec.eq_of_toNat_eq
      simp only [leNat, BitVec.toNat_ofNat]
      omega
    have high : leNat (b :: t) / 256 = leNat t := by
      simp only [leNat]
      omega
    rw [List.length_cons, leBytes, low, high, ih]

theorem leNat_lt (l : List Byte) : leNat l < 256 ^ l.length := by
  have h := leNat_leBytes l.length (leNat l)
  rw [leBytes_leNat] at h
  exact h ▸ Nat.mod_lt _ (by positivity)

/-- The bytes of a list that stand after `pre` and before `post`. -/
theorem slice_append (pre l post : List Byte) : slice (pre ++ l ++ post) pre.length l.length = l := by
  simp [slice, zeros]

/-- A number among bytes reads as it was put there. -/
theorem fieldLE_append (pre post : List Byte) {n v : Nat} (h : v < 256 ^ n) :
    fieldLE (pre ++ leBytes n v ++ post) pre.length n = v := by
  have s := slice_append pre (leBytes n v) post
  rw [leBytes_length] at s
  rw [fieldLE, s, leNat_leBytes, Nat.mod_eq_of_lt h]

/-! ### The check codes stay within their width -/

theorem crcBit_lt {poly c : Nat} (hp : poly < 2 ^ 32) (hc : c < 2 ^ 32) : crcBit poly c < 2 ^ 32 := by
  unfold crcBit
  split
  · exact Nat.xor_lt_two_pow (by omega) hp
  · omega

theorem crcByte_lt {poly c : Nat} (b : Byte) (hp : poly < 2 ^ 32) (hc : c < 2 ^ 32) : crcByte poly c b < 2 ^ 32 := by
  have start : Nat.xor c b.toNat < 2 ^ 32 := Nat.xor_lt_two_pow hc (b.isLt.trans (by norm_num))
  have bit : ∀ {x}, x < 2 ^ 32 → crcBit poly x < 2 ^ 32 := crcBit_lt hp
  exact bit (bit (bit (bit (bit (bit (bit (bit start)))))))

theorem crc32c_lt (l : List Byte) : crc32c l < 2 ^ 32 :=
  Nat.xor_lt_two_pow
    (List.foldlRecOn l _ (motive := (· < 2 ^ 32)) (by norm_num) fun _ h b _ => crcByte_lt b (by norm_num) h) (by norm_num)

theorem crc8Bit_lt {c : Nat} (h : c < 2 ^ 8) : crc8Bit c < 2 ^ 8 := by
  unfold crc8Bit
  split
  · exact Nat.xor_lt_two_pow (Nat.mod_lt _ (by norm_num)) (by norm_num)
  · omega

theorem crc8_lt (l : List Byte) : crc8 l < 2 ^ 8 :=
  List.foldlRecOn l _ (motive := (· < 2 ^ 8)) (by norm_num) fun c h b _ => by
    have start : Nat.xor c b.toNat < 2 ^ 8 := Nat.xor_lt_two_pow h b.isLt
    exact crc8Bit_lt (crc8Bit_lt (crc8Bit_lt (crc8Bit_lt (crc8Bit_lt (crc8Bit_lt (crc8Bit_lt (crc8Bit_lt start)))))))

/-! ### The scrambler (spec/04 R99) -/

/-- Each payload bit is the XOR of three line bits. -/
theorem getLsbD_descramble (prev : BitVec 58) (line : BitVec 64) {i : Nat} (h : i < 64) :
    (descramble prev line).getLsbD i =
      (((line ++ prev).getLsbD (i + 58) ^^ (line ++ prev).getLsbD (i + 19)) ^^ (line ++ prev).getLsbD i) := by
  simp only [descramble, BitVec.getLsbD_setWidth, BitVec.getLsbD_xor, BitVec.getLsbD_ushiftRight, h, decide_true, Bool.true_and,
    Nat.add_comm i]

/-- The part of the scrambling that the bits of the same word make. -/
def spread (x : BitVec 64) : BitVec 64 := x ^^^ x <<< 39 ^^^ x <<< 58

/-- The part that the bits before the word make. -/
def carried (prev : BitVec 58) : BitVec 64 := (prev >>> 19).setWidth 64 ^^^ prev.setWidth 64

/-- What spreads twice has left the word or comes twice. -/
theorem spread_spread (x : BitVec 64) : spread (spread x) = x := by
  have gone : ∀ a b : Nat, 64 ≤ a + b → x <<< a <<< b = 0#64 := fun a b h => by
    rw [← BitVec.shiftLeft_add, BitVec.shiftLeft_eq_zero h]
  simp only [spread, BitVec.shiftLeft_xor_distrib, gone 39 39 (by norm_num), gone 39 58 (by norm_num), gone 58 39 (by norm_num),
    gone 58 58 (by norm_num), BitVec.xor_zero]
  rw [BitVec.xor_assoc _ (x <<< 39), BitVec.xor_assoc x, BitVec.xor_assoc, BitVec.xor_self, BitVec.xor_zero]

theorem scramble_eq (prev : BitVec 58) (w : BitVec 64) : scramble prev w = spread (w ^^^ carried prev) := by
  simp only [scramble, spread, carried, BitVec.xor_assoc]

/-- The bits `k` before a word's on its lane are the word's own, moved up, and the last of those before the word. -/
theorem getLsbD_lane (prev : BitVec 58) (line : BitVec 64) {i a k : Nat} (hi : i < 64) (hk : a + k = 58) :
    (line ++ prev).getLsbD (i + a) = ((line <<< k).getLsbD i ^^ ((prev >>> a).setWidth 64).getLsbD i) := by
  rw [BitVec.getLsbD_append, BitVec.getLsbD_shiftLeft, BitVec.getLsbD_setWidth, BitVec.getLsbD_ushiftRight, Nat.add_comm a]
  by_cases h : i < k
  · simp [h, hi, show i + a < 58 by omega]
  · have past : 58 ≤ i + a := by omega
    simp [h, hi, Nat.not_lt.2 past, BitVec.getLsbD_of_ge prev _ past, show i + a - 58 = i - k by omega]

theorem descramble_eq (prev : BitVec 58) (line : BitVec 64) : descramble prev line = spread line ^^^ carried prev := by
  apply BitVec.eq_of_getLsbD_eq
  intro i hi
  have own : (line ++ prev).getLsbD (i + 58) = line.getLsbD i := by
    rw [BitVec.getLsbD_append]
    simp
  have before39 := getLsbD_lane prev line hi (a := 19) (k := 39) rfl
  have before58 : (line ++ prev).getLsbD i = _ := getLsbD_lane prev line hi (a := 0) (k := 58) rfl
  rw [getLsbD_descramble prev line hi, own, before39, before58]
  simp only [spread, carried, BitVec.getLsbD_xor, BitVec.ushiftRight_zero, Bool.xor_assoc, Bool.xor_left_comm]

theorem descramble_scramble (prev : BitVec 58) (w : BitVec 64) : descramble prev (scramble prev w) = w := by
  rw [descramble_eq, scramble_eq, spread_spread, BitVec.xor_assoc, BitVec.xor_self, BitVec.xor_zero]

theorem scramble_descramble (prev : BitVec 58) (line : BitVec 64) : scramble prev (descramble prev line) = line := by
  rw [descramble_eq, scramble_eq, BitVec.xor_assoc, BitVec.xor_self, BitVec.xor_zero, spread_spread]

/-! ### Blocks (spec/04 R100) -/

theorem blockBytes_scramble (h : BitVec 2) (prev : BitVec 58) {d : List Byte} (hd : d.length = 8) :
    blockBytes ⟨h, prev, scramble prev (BitVec.ofNat 64 (leNat d))⟩ = d := by
  have small : leNat d < 2 ^ 64 := by simpa [hd] using leNat_lt d
  rw [blockBytes, descramble_scramble, BitVec.toNat_ofNat, Nat.mod_eq_of_lt small, ← hd, leBytes_leNat]

/-- The type of a block is its first byte. -/
theorem byteAt_zero_eq_iff {d : List Byte} (hd : d ≠ []) (v : Byte) : byteAt d 0 = v.toNat ↔ d.head? = some v := by
  obtain ⟨b, t, rfl⟩ := List.exists_cons_of_ne_nil hd
  simp [byteAt, BitVec.toNat_inj]

theorem blockOf_scramble (h : BitVec 2) (prev : BitVec 58) {d : List Byte} (hd : d.length = 8) :
    blockOf ⟨h, prev, scramble prev (BitVec.ofNat 64 (leNat d))⟩ =
      (if h = 1 then .data d
       else if h ≠ 2 then .bad
       else if d.head? = some 0x1E then .idle
       else if d.head? = some 0x2D then .ts d
       else if d.head? = some 0x4B then .am d
       else if d.head? = some 0x55 then .eidle
       else if d.head? = some 0x78 then .sop d
       else if d.head? = some 0xE1 then .eop d
       else .bad) := by
  have nonempty : d ≠ [] := by rintro rfl; simp at hd
  simp only [blockOf, blockBytes_scramble h prev hd, ← byteAt_zero_eq_iff nonempty]
  by_cases data : h = 1
  · rw [if_pos data, if_pos data]
  · rw [if_neg data, if_neg data]
    by_cases control : h = 2
    · rw [if_pos control, if_neg (not_not.2 control)]
      generalize byteAt d 0 = type
      split <;> simp_all
    · rw [if_neg control, if_pos control]

/-! ### Packets (spec/04 R101 to R103) -/

/-- The data blocks of a packet and the EOP block after them: the words in order, and the EOP block's judgement. -/
theorem pktBody_words (head : List Byte) (ptype : Nat) (words acc : List (List Byte)) (eop : List Byte) (after : List Blk) :
    pktBody head ptype words.length acc (words.map .data ++ .eop eop :: after) =
      (if byteAt eop 1 ≠ ptype ∨ crc32c (head ++ (acc.reverse ++ words).flatten) ≠ fieldLE eop 4 4 then some .pcrc else none,
        (acc.reverse ++ words).flatten) := by
  induction words generalizing acc with
  | nil => simp [pktBody]
  | cons w words ih =>
    rw [List.length_cons, List.map_cons, List.cons_append, pktBody, ih]
    simp

/-- The SOP block of a packet reads as the numbers in its header, and its check is good. -/
theorem sop_reads {ptype len arg : Nat} {head sop : List Byte} (hp : ptype < 2 ^ 8) (hl : len < 2 ^ 16) (ha : arg < 2 ^ 24)
    (hh : head = leBytes 1 ptype ++ leBytes 2 len ++ leBytes 3 arg) (hs : sop = 0x78 :: head ++ leBytes 1 (crc8 head)) :
    slice sop 1 6 = head ∧ byteAt sop 1 = ptype ∧ fieldLE sop 2 2 = len ∧ fieldLE sop 4 3 = arg ∧ checkOk sop = true := by
  have width : head.length = 6 := by simp [hh]
  have header : slice sop 1 6 = head := by
    rw [hs, ← width]
    exact slice_append [0x78] head _
  refine ⟨header, ?ptype, ?len, ?arg, ?check⟩
  case ptype => simpa [hs, hh, byteAt, leBytes] using hp
  case len => simpa [hs, hh] using fieldLE_append (0x78 :: leBytes 1 ptype) (leBytes 3 arg ++ leBytes 1 (crc8 head)) (n := 2) hl
  case arg => simpa [hs, hh] using fieldLE_append (0x78 :: leBytes 1 ptype ++ leBytes 2 len) (leBytes 1 (crc8 head)) (n := 3) ha
  case check =>
    rw [checkOk, header, hs]
    simpa [byteAt, leBytes, width] using (Nat.mod_eq_of_lt (crc8_lt head)).symm

/-- The EOP block of a packet reads as its PTYPE and its CRC, whatever its reserved bytes are. -/
theorem eop_reads {ptype crc : Nat} {reserved eop : List Byte} (hp : ptype < 2 ^ 8) (hr : reserved.length = 2) (hc : crc < 2 ^ 32)
    (he : eop = 0xE1 :: leBytes 1 ptype ++ reserved ++ leBytes 4 crc) : byteAt eop 1 = ptype ∧ fieldLE eop 4 4 = crc := by
  refine ⟨?ptype, ?crc⟩
  case ptype => simpa [he, byteAt, leBytes] using hp
  case crc => simpa [he, hr] using fieldLE_append (0xE1 :: leBytes 1 ptype ++ reserved) [] (n := 4) hc

theorem pktOf_blocks {ptype len arg : Nat} {words : List (List Byte)} {reserved : List Byte} (after : List Blk)
    (hp : ptype < 2 ^ 8) (hl : len < 2 ^ 16) (ha : arg < 2 ^ 24) (hw : words.length = len) (hr : reserved.length = 2)
    {head sop eop : List Byte} (hh : head = leBytes 1 ptype ++ leBytes 2 len ++ leBytes 3 arg)
    (hs : sop = 0x78 :: head ++ leBytes 1 (crc8 head))
    (he : eop = 0xE1 :: leBytes 1 ptype ++ reserved ++ leBytes 4 (crc32c (head ++ words.flatten))) :
    pktOf sop (words.map .data ++ .eop eop :: after) = ⟨ptype, len, arg, words.flatten, none⟩ := by
  obtain ⟨header, type, count, argument, good⟩ := sop_reads hp hl ha hh hs
  obtain ⟨typeAgain, crc⟩ := eop_reads hp hr (crc32c_lt _) he
  have body := pktBody_words head ptype words [] eop after
  rw [hw] at body
  simp [pktOf, header, type, count, argument, good, body, typeAgain, crc]

/-- Settles O60: within a word the scrambling is an involution, so that a block reads as the bytes that were sent, and the blocks of a
packet read as the numbers and the words in them. -/
theorem linkBlocksReadAsSent : Obligations.LinkBlocksReadAsSent := by
  unfold Obligations.LinkBlocksReadAsSent
  refine ⟨fun prev line _ => getLsbD_descramble prev line, fun prev w => ⟨descramble_scramble prev w, scramble_descramble prev w⟩,
    fun h prev _ => blockOf_scramble h prev, ?packet⟩
  case packet =>
    intro _ _ _ _ _ after hp hl ha hw _ hr _ _ _ hh hs he
    exact pktOf_blocks after hp hl ha hw hr hh hs he

end Sys2Proof.Machine

namespace Sys2Proof.Machine

/-! ### The statement about the training of a sensor link, which does not hold -/

/-- Receive lane 0 of port 0 stands in UP with block lock, and its count of invalid headers is full. -/
def fullHeaderCount : State :=
  { State.reset with regs := [((R.LN_STAT_STATE 1 0).key, lnUp), ((R.LH_SHDR_CNT 0 0).key, 0xFF), ((I.SRX_BLK 0 0).key, 1)] }

/-- Refutes O20: SHDR_CNT has eight bits and saturates at 0xFF (spec/04, LHk), so that 16 invalid headers leave a full count at 0xFF.
The statement saturates it at 0xFFFF and asks for 0x10F. -/
theorem not_linkTraining : ¬ Obligations.LinkTraining := by
  unfold Obligations.LinkTraining
  rintro ⟨-, -, blockLockLoss, -⟩
  obtain ⟨t, run, -, -, counted⟩ :=
    blockLockLoss 0 0 (List.replicate 16 0) fullHeaderCount (by decide +kernel) (by decide +kernel) (by decide) (by decide)
  obtain rfl := Host.Outcome.next.inj run
  exact absurd counted (by decide +kernel)

end Sys2Proof.Machine

namespace Sys2Proof.Machine

/-! ### The statement about fatal faults, which does not hold -/

/-- IMG4 runs the job of stripe 0, and IMG0, the stripe's own rod, is out of reset again. Both are powered. No spare is armed. -/
def stripeOfRunningRod : State :=
  { State.reset.sets [(I.PWR_ON 2, 1), (I.RSTST 2, 0), (I.PROXY 2, 0), (I.PWR_ON 6, 1), (I.RSTST 6, 0), (I.PROXY 6, 0), (I.STRIPE_MOVED 0, 6)]
    with imgs := [⟨6, 0, 1, none, false, none, false, []⟩] }

/-- The stripe that IMG4's watchdog loses waits for the copy into its own rod (spec/06 R171 step 3), since that rod is out of reset. -/
theorem jobWatchdog_stripeOfRunningRod {t : State} (run : exec (.jobWatchdog 4) stripeOfRunningRod = .next t) : t.get (I.STRIPE_OUT 0) = 2 := by
  obtain rfl := Host.Outcome.next.inj run
  decide +kernel

/-- Refutes O24: a lost stripe stands at STRIPE_OUT 3 while its own rod is in reset, and at 2, for the copy, where that rod is out of
reset. The statement asks for 3 whichever rod ran the stripe, and a hang of IMG4 with the stripe's own rod running leaves 2. -/
theorem not_fatalFaults : ¬ Obligations.FatalFaults := by
  unfold Obligations.FatalFaults
  rintro ⟨-, watchdogLosesStripe, -⟩
  obtain ⟨t, run, lost, -, -⟩ :=
    watchdogLosesStripe 4 0 stripeOfRunningRod (by decide +kernel) (by decide +kernel) (by decide +kernel) (by decide +kernel)
  have waits := jobWatchdog_stripeOfRunningRod run
  omega

end Sys2Proof.Machine

namespace Sys2Proof.Machine
open Sys2Proof.Safety

/-! ### The statement about the recorder's frame, which does not hold -/

/-- A READY drive of number 4, behind the four that there are, has a command of the recorder. -/
def fifthDrive : State :=
  { State.reset with
    regs := [((R.NVQ_STAT_STATE 4).key, 2)]
    recd := { cmds := [{ id := 0, drive := 4, pair := 1, ask := { op := .flush }, sent := true }] } }

/-- The command's timeout is announced by the source that its drive's number gives (spec/08 R224). -/
theorem nvmeCmdTimeout_fifthDrive {t : State} (run : exec (.nvmeCmdTimeout 0) fifthDrive = .next t) : isRaised t (E.nvqTimeout 4) := by
  obtain rfl := Host.Outcome.next.inj run
  decide +kernel

/-- Refutes O49: the timeout raises the source of whatever drive the command names, and a command names its drive by a number without
bound. The frame lists the sources of drives 0 to 3. -/
theorem not_recorderFrame : ¬ Obligations.RecorderFrame := by
  unfold Obligations.RecorderFrame
  rintro ⟨-, -, -, -, -, -, -, -, nvmeCmdTimeout, -⟩
  obtain ⟨t, run⟩ : ∃ t, exec (.nvmeCmdTimeout 0) fifthDrive = .next t := ⟨_, rfl⟩
  obtain ⟨kept, -⟩ := nvmeCmdTimeout 0 fifthDrive t run
  have raised := nvmeCmdTimeout_fifthDrive run
  have before : ¬ isRaised fifthDrive (E.nvqTimeout 4) := by decide +kernel
  obtain ⟨same, -⟩ := kept (R.EVT_STAT (E.nvqTimeout 4).1 (E.nvqTimeout 4).2) (by
    simp [either, recordFields, commitFields, E.recCmdDone, E.nvqFault, E.nvqTimeout, E.clogLost, E.commitReject])
  rw [isRaised, State.on, same] at raised
  exact before raised

end Sys2Proof.Machine

namespace Sys2Proof.Machine

/-! ### The statement about the decoders, which does not hold -/

/-- An access unit of one IRAP picture of 64 × 64 samples, which asks for a DPB of one picture. -/
def smallIrap : AuInfo :=
  { unsup := false, poc := 3, irap := true, noRasl := true, noPrior := true, recov := none, output := true, curr := [], uses := [],
    rps := [], fmt := 5, mono := false, width := 64, height := 64, cropX := 0, cropY := 0, winW := 64, winH := 64, colour := 0,
    reorder := 0, latency := 0, maxDec := 1 }

/-- DEC0 is on with buffers of 1 MiB in force, and a whole entry of one empty NAL unit waits in its ring. No bead is strung. Its domain's
commit waits, and the staged size of the buffers is 0. -/
def unstrungDecoder : State :=
  { State.reset.sets [(I.PROXY 8, 0), (R.COMMIT_PEND 8, 16), (R.DEC_IN_WR_OFF 0, 64), (R.DEC_CFG_EN 0, 1)]
    with
    inf := [((R.DEC_CFG_EN 0).key, 1), ((R.DEC_BUF_BUF_MIB 0).key, 1)]
    strg := { drams := [⟨0, 8, 0, 1, 0, 0x1000000, 0xFFFF, 0xFFFF⟩] }
    dram := [(8, 4), (12, 1)] }

/-- The commit at the entry is applied, since no rule counts for a bead that is not strung (spec/02 R47). No picture fits the buffers
that it brings into force, so that none starts. -/
theorem decEntry_unstrungDecoder {t : State} (run : exec (.decEntry 0 smallIrap) unstrungDecoder = .next t) : t.decJobs = [] := by
  obtain rfl := Host.Outcome.next.inj run
  decide +kernel

/-- Refutes O28: the entry is a commit point of the decoder's domain (spec/22 R505), and its SPS is judged against the buffers in force
after the commit. The statement judges it by those in force before. Rule 0x64 keeps the two alike while EN is in force, but it does not
count where the decoder's bead is not strung, and the clause that starts a picture does not ask for a strung bead. -/
theorem not_decoders : ¬ Obligations.Decoders := by
  unfold Obligations.Decoders
  rintro ⟨-, -, decEntryStarts, -⟩
  obtain ⟨t, run, -, started⟩ :=
    decEntryStarts 0 smallIrap 4 unstrungDecoder (by decide +kernel) (by decide +kernel) (by decide +kernel) (by decide +kernel)
      (by decide +kernel) (by decide +kernel) (by decide +kernel) (by decide +kernel) (by decide +kernel) (by decide +kernel)
      (by decide +kernel)
  simp [decEntry_unstrungDecoder run] at started

end Sys2Proof.Machine

/-!
The wall canvas (O29): what the composition of a frame writes, and which canvas frames stay as they are.
-/

namespace Sys2Proof.Machine

open Sys2Proof.Safety

section

variable {A : Foot} {s t u : State}

/-! ### What composers and PKTs write -/

/-- The fields that the commit points of composers and the checks of guarded regions write, whatever their number. -/
@[simp] def composeFields : List Fld :=
  [R.CMP_STAT_FENCE_DEFER 0, R.CMP_STAT_TAPS_REDUCED 0, R.CMP_STAT_LAYER_CROPPED 0, R.CMP_STAT_COLOUR_MM 0, R.CMP_STAT_HOLD 0,
    R.CMP_STAT_FENCE_ERR 0, R.CMP_STAT_DEFER_CNT 0, R.CMP_STAT_GROUPS 0, R.CMP_SCL_TAPS 0 0, R.CMP_SCL_WIDTH 0 0,
    R.GRD_GSTAT_MISMATCH 0 0, R.GRD_GSTAT_FB_BAD 0 0, R.GRD_GSTAT_ACTIVE 0 0, R.GRD_GSTAT_CLR 0 0, R.GRD_GSTAT_MM_CNT 0 0,
    R.GRD_MEAS_CRC 0 0, R.SLC_TABLE_TAG_TAG, I.LAYER_DIRTY 0 0, I.LAYER_HOLD 0 0, R.DEC_STAT_STATE 0, R.DEC_STAT_STATE 1,
    R.EVT_STAT 11 0]

/-- What composers touch: their fields, the pictures in force, the decoders' buffers, the commits and the granules of OUT. `Foot.head`
permits the whole block of OUT; field by field, what is not written is seen to stay. -/
@[simp] def Foot.compose : Foot :=
  [.kin composeFields, .part .lays, .part .decJobs, .part .freeCtr] ++ Foot.commit 11 ++ Foot.put 11

theorem Foot.sets_compose : Foot.sets Foot.compose 11 := Foot.sets_of_mem (by simp)

theorem within_compose_fence {n j k : Nat} : Within Foot.compose s (s.fence n j k).2 := by
  refine .iteOn Prod.snd (fun _ => .refl _ _) fun _ => ?_
  extract_lets r
  have hr : Within Foot.compose s r.2.2 := (Within.refl _ s).trayReadAs
  exact .iteOn Prod.snd (fun _ => hr.set.raise (by simp [E.cmpFenceErr])) fun _ => hr

theorem within_compose_flips {n : Nat} {p : Nat → Bool} : Within Foot.compose s (s.flips n p) := by
  refine Within.foldl (Within.refl _ s).set fun u g _ => ?_
  extract_lets r
  have hr : Within Foot.compose u r.2 :=
    .foldlOn Prod.snd (b := (true, u)) (.refl _ u) fun b _ _ => .foldlOn Prod.snd (.refl _ b.2) fun _ _ _ => within_compose_fence
  refine .ite (fun _ => .foldl (hr.commitWhere fun f hf => Foot.sets_compose f ?_) fun v _ _ => (Within.refl _ v).set) fun _ =>
    hr.set.set.inc.raise (by simp [E.cmpFenceDefer])
  simp only [State.flipKey, inDom, Bool.and_eq_true, decide_eq_true_eq] at hf
  obtain ⟨⟨hrod, -⟩, -⟩ := hf
  exact hrod

theorem within_compose_cmpApply {n : Nat} : Within Foot.compose s (s.cmpApply n) := by
  refine Within.trans ((Within.refl _ s).commitWhere fun f hf => Foot.sets_compose f ?_) within_compose_flips
  simp only [State.layoutKey, inDom, Bool.and_eq_true, decide_eq_true_eq] at hf
  obtain ⟨⟨⟨hrod, -⟩, -⟩, -⟩ := hf
  exact hrod

theorem within_compose_cmpRetry {n : Nat} {pass : Bool} : Within Foot.compose s (s.cmpRetry n pass) :=
  .ite (fun _ => within_compose_flips) fun _ => .refl _ _

theorem within_compose_wallCommit {tag : Nat} : Within Foot.compose s (s.wallCommit tag) := by
  have cleared : ∀ u, Within Foot.compose u (u.clearPend 11 8) := fun u => (Within.refl _ u).clearPend (by simp [commitFields])
  refine .ite (fun _ => ?_) fun _ => within_compose_cmpRetry
  extract_lets +onlyGivenNames _
  split
  · exact (((Within.refl _ s).rodUse.trans (cleared _)).commitBad).trans within_compose_cmpRetry
  · exact ((cleared s).trans within_compose_cmpApply).rodUse.trayPut.set

theorem within_compose_scalers {n : Nat} : Within Foot.compose s (s.scalers n) :=
  .foldl (.refl _ s) fun u j _ => by
    refine .ite (fun _ => (Within.refl _ u).sets) fun _ => ?_
    extract_lets m s1 s2
    have h₁ : Within Foot.compose u s1 := (Within.refl _ u).sets
    have h₂ : Within Foot.compose u s2 := .ite (fun _ => h₁.set.raise (by simp [E.cmpTapsReduced])) fun _ => h₁
    exact .ite (fun _ => h₂.set.raise (by simp [E.cmpLayerCropped])) fun _ => h₂

theorem within_compose_layerChoose {n j : Nat} {shown : Option Nat} : Within Foot.compose s (s.layerChoose n j shown) := by
  have laid : ∀ p, Within Foot.compose s (s.setLayer n j p) := fun p => (Within.refl _ s).put [.lays] rfl
  refine .ite (fun _ => (laid none).set) fun _ => ?_
  extract_lets old held s1
  have h₁ : Within Foot.compose s s1 := by
    unfold s1
    split
    · exact .ite (fun _ => (laid old).set.set.raise (by simp [E.cmpHold])) fun _ => (laid _).set
    · exact laid old
  split
  · exact .ite (fun _ => h₁.rodUse.set.raise (by simp [E.cmpColourMm])) fun _ => h₁.rodUse
  · exact h₁

theorem within_compose_decKick {r : Nat} (hr : r < 2) : Within Foot.compose s (s.decKick r) := by
  have state : Foot.compose.writes (R.DEC_STAT_STATE r) := by simp; omega
  unfold State.decKick
  split
  · refine .ite (fun _ => .refl _ s) fun _ => ?_
    split
    · exact (Within.refl _ s).set state
    · exact Within.set ((Within.refl _ s).put [.decJobs, .freeCtr] rfl) state
  · exact .refl _ s

theorem within_compose_releaseAt {a : Nat} : Within Foot.compose s (s.releaseAt 11 a) :=
  .ite (fun _ => .refl _ s) fun _ => (Within.refl _ s).trayPut

theorem within_compose_cmpRelease {n : Nat} {shown : Option Nat} : Within Foot.compose s (s.cmpRelease n shown) := by
  unfold State.cmpRelease
  extract_lets uses depth old s1 s2
  have h₁ : Within Foot.compose s s1 := .foldl (.refl _ s) fun u p _ => by
    split
    · exact .ite (fun _ => .refl _ u) fun _ => within_compose_releaseAt
    · exact .refl _ u
  have h₂ : Within Foot.compose s s2 := h₁.foldl fun u r _ => .foldl (.refl _ u) fun v e _ =>
    .ite (fun _ => .refl _ v) fun _ => within_compose_releaseAt
  exact (h₂.trans (within_compose_decKick (by omega))).trans (within_compose_decKick (by omega))

theorem within_compose_cmpPoint {n : Nat} {shown : Option Nat} : Within Foot.compose s (s.cmpPoint n shown) := by
  unfold State.cmpPoint
  extract_lets s1
  have h₁ : Within Foot.compose s s1 := .foldl (.refl _ s) fun u g _ => .ite (fun _ => (Within.refl _ u).sets) fun _ => .refl _ u
  have h₂ : Within Foot.compose s (s1.scalers n) := h₁.trans within_compose_scalers
  exact (h₂.foldl fun u j _ => within_compose_layerChoose).trans within_compose_cmpRelease

theorem within_compose_composeUse {n y : Nat} : Within Foot.compose s (s.composeUse n y) :=
  .foldl (.refl _ s) fun u _ _ => (Within.refl _ u).rodUse

theorem within_compose_guardCheck {n g crc : Nat} : Within Foot.compose s (s.guardCheck n g crc) := by
  refine .ite (fun _ => .refl _ s) fun _ => .ite (fun _ => ?fallback) fun _ => .ite (fun _ => .refl _ s) fun _ => ?mismatch
  case fallback =>
    exact .ite (fun _ => .refl _ s) fun _ => .ite (fun _ => (Within.refl _ s).sets.raise (by simp [E.guardFbBad])) fun _ => .refl _ s
  case mismatch =>
    extract_lets s1
    have h₁ : Within Foot.compose s s1 := (Within.refl _ s).sets.inc.raise (by simp [E.guardMismatch])
    exact .ite (fun _ => h₁.set) fun _ => h₁

theorem within_pktRelease : Within (.part .canv :: Foot.put 12) s s.pktRelease := by
  unfold State.pktRelease
  extract_lets busy
  refine .ite (fun _ => .refl _ s) fun _ => .foldl (.refl _ s) fun u n _ => ?_
  extract_lets s1
  have h₁ : Within (.part .canv :: Foot.put 12) u s1 := .foldl (.refl _ u) fun v p _ => by
    split
    · exact .ite (fun _ => .refl _ v) fun _ => (Within.refl _ v).trayPut
    · exact .refl _ v
  exact h₁.put [.canv] rfl

/-! ### The stages of a canvas frame -/

/-- The carry-log job of a canvas frame. -/
def wallJob (tag : Nat) : Job := ⟨11, 8, 8, 8, tag⟩

/-- The commit point of a canvas frame, and the reads of its lines. -/
def State.wallLines (s : State) (tag : Nat) (shown : Option Nat) : State :=
  (List.range s.canvasH).foldl (fun s y => s.composeUse 8 y) (((s.wallCommit tag).beginJob (wallJob tag)).cmpPoint 8 shown)

/-- The checks of the guarded regions of a canvas frame. -/
def State.wallChecks (s : State) : State :=
  (List.range 16).foldl (fun u g => if u.inForce (R.GRD_XY_EN 8 g) = 1 then u.guardCheck 8 g (s.guardCrc 8 g (s.composed 8)) else u) s

/-- The canvas ring takes a frame in buffer `b`, in the place of what stood there. -/
def State.wallTakes (s : State) (tag b : Nat) : State :=
  { s with canv := (⟨tag, b, s.inForce R.WREADERS_MASK, true, []⟩ :: s.canv.filter (fun c => decide (c.buf ≠ b))).take 16 }

/-- The end of a canvas frame in buffer `b`. -/
def State.wallEnds (s : State) (tag b : Nat) : State :=
  (((s.sets [(R.CMP_FRAME_TAG 8, s.cmpTag 8), (R.CMP_CTAGS_V 8, s.cmpCtags 8), (I.WC_BUF, b + 1)]).wallTakes tag b).endJob
    (wallJob tag) (if s.cmpCtags 8 = 0 then 0 else 3)).encKick

/-- The state in which a canvas frame looks for a buffer. -/
def State.wallBegins (s : State) (tag : Nat) : State := s.pktRelease.set I.WC_LAST (tag + 1)

theorem wallFrame_skips {tag : Nat} {shown : Option Nat} (h : (s.wallBegins tag).canvasBuf = none) :
    s.wallFrame tag shown = ((s.wallBegins tag).set (R.CMP_STAT_CANVAS_SKIP 8) 1).raise E.wallCanvasSkip := by
  unfold State.wallBegins at h
  simp only [State.wallFrame, h]
  rfl

theorem wallFrame_composes {tag b : Nat} {shown : Option Nat} (h : (s.wallBegins tag).canvasBuf = some b) :
    s.wallFrame tag shown = (((s.wallBegins tag).wallLines tag shown).canvasStore b).wallChecks.wallEnds tag b := by
  unfold State.wallBegins at h
  simp only [State.wallFrame, h]
  rfl

/-! ### PIC_LATE -/

/-- What the composition of a canvas frame touches beside the canvas ring itself. -/
@[simp] def Foot.wall : Foot :=
  [.part .canv, .flds [I.WC_LAST, I.WC_BUF, R.CMP_FRAME_TAG 8, R.CMP_CTAGS_V 8]] ++ Foot.compose ++ Foot.put 12 ++ Foot.job 11 ++
    Foot.encs

theorem Foot.compose_subset_wall : Foot.compose ⊆ Foot.wall := by simp

theorem within_wallBegins {tag : Nat} : Within Foot.wall s (s.wallBegins tag) := (within_pktRelease.mono (by simp)).set

theorem within_wallLines {tag : Nat} {shown : Option Nat} : Within Foot.wall s (s.wallLines tag shown) := by
  have committed : Within Foot.wall s (s.wallCommit tag) := within_compose_wallCommit.mono Foot.compose_subset_wall
  have begun : Within Foot.wall s ((s.wallCommit tag).beginJob (wallJob tag)) := committed.beginJob (by simp [wallJob])
  exact (begun.step within_compose_cmpPoint Foot.compose_subset_wall).foldl fun u y _ =>
    within_compose_composeUse.mono Foot.compose_subset_wall

theorem within_wallChecks : Within Foot.wall s s.wallChecks :=
  .foldl (.refl _ s) fun u _ _ => .ite (fun _ => within_compose_guardCheck.mono Foot.compose_subset_wall) fun _ => .refl _ u

theorem within_wallEnds {tag b : Nat} : Within Foot.wall s (s.wallEnds tag b) := by
  have taken : ∀ u : State, Within Foot.wall u (u.wallTakes tag b) := fun u => (Within.refl _ u).put [.canv] rfl
  exact (((Within.refl _ s).sets.trans (taken _)).endJob (by simp [wallJob])).encKick

theorem get_canvasStore {b : Nat} {f : Fld} : (s.canvasStore b).get f = s.get f := by
  have stored : ∀ (u : State) r o d, (u.dramPut r o d).get f = u.get f := fun u r o d =>
    ((Within.refl [.regions [r]] u).dramPut).get_eq f (by simp)
  unfold State.canvasStore
  extract_lets _ _ _ _ lines
  induction lines.zip _ generalizing s with
  | nil => rfl
  | cons l ls ih => exact ih.trans (stored ..)

/-- CWAIT_TIMEOUT alone sets PIC_LATE: the composition of a frame does not touch it. -/
theorem Within.picLate (w : Within Foot.wall s t) : t.get (R.CMP_STAT_PIC_LATE 8) = s.get (R.CMP_STAT_PIC_LATE 8) :=
  w.get_eq _ (by simp [commitFields, trayFields, recordFields])

theorem picLate_wallFrame {tag : Nat} {shown : Option Nat} :
    (s.wallFrame tag shown).get (R.CMP_STAT_PIC_LATE 8) = s.get (R.CMP_STAT_PIC_LATE 8) := by
  cases h : (s.wallBegins tag).canvasBuf with
  | none =>
    rw [wallFrame_skips h, State.get_raise _ _ (by simp), State.get_set_other _ _ (by simp), within_wallBegins.picLate]
  | some b =>
    rw [wallFrame_composes h, within_wallEnds.picLate, within_wallChecks.picLate, get_canvasStore, within_wallLines.picLate,
      within_wallBegins.picLate]

/-! ### Canvas frames that stay -/

/-- Every canvas frame of `s` stands in `t` with its tag, its buffer and its reports; its readers alone may have changed. -/
def CanvasesStay (s t : State) : Prop := ∀ c ∈ s.canv, ∃ held, { c with held := held } ∈ t.canv

theorem CanvasesStay.of_eq (h : t.canv = s.canv) : CanvasesStay s t := fun c hc => ⟨c.held, h ▸ hc⟩

theorem CanvasesStay.trans (h : CanvasesStay s t) (h' : CanvasesStay t u) : CanvasesStay s u := fun c hc => by
  obtain ⟨_, ht⟩ := h c hc
  obtain ⟨held, hu⟩ := h' _ ht
  exact ⟨held, hu⟩

/-- Readers let go of canvas frames. -/
theorem CanvasesStay.release {p : Canvas → Bool} {q : Canvas → Nat} (e : t.canv = s.canv) :
    CanvasesStay s { t with canv := t.canv.map (fun c => if p c then c else { c with held := q c }) } := fun c hc => by
  refine ⟨if p c then c.held else q c, List.mem_map.2 ⟨c, e ▸ hc, ?_⟩⟩
  split <;> rfl

theorem Within.canv_eq (w : Within A s t) (h : A.frees .canv = false := by simp) : t.canv = s.canv := by
  simpa [mask, h] using congrArg State.canv w.rest_eq

@[simp] theorem canv_raise {e : E.Src} : (s.raise e).canv = s.canv := ((Within.refl [.src e] s).raise).canv_eq
@[simp] theorem canv_inc {f : Fld} : (s.inc f).canv = s.canv := rfl
@[simp] theorem canv_sets {l : List (Fld × Nat)} : (s.sets l).canv = s.canv := (congrArg State.canv (beyond_sets l s) :)
@[simp] theorem canv_modStrm {n : Nat} {g : Strm → Strm} : (s.modStrm n g).canv = s.canv := rfl
@[simp] theorem canv_trayPut {rod a : Nat} {d : List Byte} : (s.trayPut rod a d).canv = s.canv :=
  ((Within.refl (Foot.put rod) s).trayPut).canv_eq
@[simp] theorem canv_beginJob {j : Job} : (s.beginJob j).canv = s.canv := ((Within.refl (Foot.job j.rod) s).beginJob).canv_eq
@[simp] theorem canv_endJob {j : Job} {status : Nat} : (s.endJob j status).canv = s.canv :=
  ((Within.refl (Foot.job j.rod) s).endJob).canv_eq
@[simp] theorem canv_commitAt {rod d : Nat} {rules : State → (Fld → Nat) → Nat → List (Nat × Bool)} :
    (s.commitAt rod d rules).canv = s.canv := ((Within.refl (Foot.commit rod) s).commitAt).canv_eq

@[simp] theorem canv_commitDesc {rod n : Nat} : (s.commitDesc rod n).canv = s.canv := by
  unfold State.commitDesc
  extract_lets r new old s1
  split
  · split <;> simp [s1]
  · simp [s1]

/-- An encoder that starts a picture leaves the canvas ring alone. -/
@[simp] theorem canv_encStart {e : Nat} {c : Strm × Due × Time} : (s.encStart e c).canv = s.canv := by
  unfold State.encStart
  extract_lets rod r k n s1 s2 d late rep expired seeds
  have h₁ : s1.canv = s.canv := by simp [s1]
  have h₂ : s2.canv = s.canv := by unfold s2; split <;> simp [h₁]
  split
  · exact h₁
  · split
    · exact h₂
    · extract_lets idr j job s3 s4 s5
      have h₄ : s4.canv = s.canv := by simp [s4, s3, h₂]
      have h₅ : s5.canv = s.canv := by unfold s5; split <;> simp [h₄]
      split <;> simp [h₅]

theorem canv_foldl {α : Type} {g : State → α → State} {l : List α} (h : ∀ u x, (g u x).canv = u.canv) :
    (l.foldl g s).canv = s.canv := by
  induction l generalizing s with
  | nil => rfl
  | cons x l ih => exact ih.trans (h s x)

theorem canvasesStay_encRelease : CanvasesStay s s.encRelease := by
  unfold State.encRelease
  extract_lets needs one
  have hone : ∀ u r, CanvasesStay u (one u r) := fun u r => by
    unfold one
    split
    · exact .of_eq rfl
    · refine CanvasesStay.release (canv_foldl fun v p => ?_)
      split
      · split <;> simp
      · rfl
  exact (hone s 0).trans (hone _ 1)

theorem canvasesStay_encKick : CanvasesStay s s.encKick := by
  unfold State.encKick
  extract_lets s1
  have h₁ : s1.canv = s.canv := (canv_foldl fun u e => by
    split
    · split <;> simp
    · rfl).trans rfl
  exact (CanvasesStay.of_eq h₁).trans canvasesStay_encRelease

theorem canvasesStay_regionReport {r tag : Nat} : CanvasesStay s (s.regionReport r tag) := by
  unfold State.regionReport
  extract_lets g d s1
  have h₁ : s1.canv = s.canv := by unfold s1; split <;> rfl
  split
  · exact .of_eq (by simp [h₁])
  · exact (CanvasesStay.of_eq canv_modStrm).trans canvasesStay_encKick

/-! ### Canvas frames that are made -/

/-- With no free buffer no canvas frame is made, and CANVAS_SKIP is set and announced. -/
theorem wallFrame_shows_skip {tag : Nat} {shown : Option Nat} (h : (s.wallBegins tag).canvasBuf = none) :
    (s.wallFrame tag shown).get (R.CMP_STAT_CANVAS_SKIP 8) = 1 ∧ isRaised (s.wallFrame tag shown) E.wallCanvasSkip ∧
      (s.wallFrame tag shown).canv = s.pktRelease.canv := by
  rw [wallFrame_skips h]
  refine ⟨?skip, State.raised_raise _ _, ?ring⟩
  case skip => exact (State.get_raise _ _ (by simp)).trans (State.get_set_same ..)
  case ring => simp [State.wallBegins]

/-- With a free buffer the canvas frame stands in it. -/
theorem wallFrame_stands {tag b : Nat} {shown : Option Nat} (h : (s.wallBegins tag).canvasBuf = some b) :
    (s.wallFrame tag shown).canv.any (fun c => decide (c.tag = tag ∧ c.buf = b)) = true := by
  rw [wallFrame_composes h]
  generalize (((s.wallBegins tag).wallLines tag shown).canvasStore b).wallChecks = u
  have taken : ∀ v : State, (⟨tag, b, v.inForce R.WREADERS_MASK, true, []⟩ : Canvas) ∈ (v.wallTakes tag b).canv := fun v => by
    simp [State.wallTakes]
  obtain ⟨held, stays⟩ := (CanvasesStay.of_eq canv_endJob).trans canvasesStay_encKick _ (taken _)
  exact List.any_eq_true.2 ⟨_, stays, by simp⟩

/-! ### The commands -/

/-- A canvas frame whose picture is complete is composed as it starts (spec/11 R298). -/
theorem execCanvasFrameStart_composes {tag : BitVec 32} (due : s.wallDue tag.toNat = true) (whole : s.picComplete tag.toNat = true) :
    exec (.canvasFrameStart tag) s = .next (s.wallFrame tag.toNat (some tag.toNat)) :=
  congrArg Host.Outcome.next (if_pos ⟨due, whole⟩)

/-- PIC_LATE is set and announced. -/
def State.wallLate (s : State) : State := (s.set (R.CMP_STAT_PIC_LATE 8) 1).raise E.wallPicLate

/-- A canvas frame whose picture is late is composed at its timeout, of some other picture or none (spec/11 R298). -/
theorem execCwaitTimeout_composes {tag : BitVec 32} (due : s.wallDue tag.toNat = true) (late : s.picComplete tag.toNat = false) :
    ∃ shown, exec (.cwaitTimeout tag) s = .next (s.wallLate.wallFrame tag.toNat shown) :=
  ⟨_, congrArg Host.Outcome.next (if_pos ⟨due, by simp [late]⟩)⟩

theorem picLate_wallLate {tag : Nat} {shown : Option Nat} : (s.wallLate.wallFrame tag shown).get (R.CMP_STAT_PIC_LATE 8) = 1 :=
  picLate_wallFrame.trans ((State.get_raise _ _ (by simp)).trans (State.get_set_same ..))

/-- The canvas frames of a tag with one region more that is reported. -/
def State.regionMarked (s : State) (r tag : Nat) : State :=
  { s with canv := s.canv.map (fun x => if x.tag = tag then { x with reported := r :: x.reported } else x) }

/-- A region that the table enables is reported once per canvas frame (spec/11 R299). -/
theorem execRegionComplete_reports {r : BitVec 11} {tag : BitVec 32} {c : Canvas}
    (found : s.canv.find? (fun c => decide (c.tag = tag.toNat)) = some c) (runs : s.isolated 11 = false) (there : r.toNat < s.wallRegions)
    (enabled : bit (s.wallRegion r.toNat).2.2.2.2 0 = true) (fresh : c.reported.contains r.toNat = false) :
    exec (.regionComplete r tag) s = .next ((s.regionMarked r.toNat tag.toNat).regionReport r.toNat tag.toNat) := by
  have passes : ¬ (s.isolated 11 = true ∨ s.wallRegions ≤ r.toNat ∨ (!bit (s.wallRegion r.toNat).2.2.2.2 0) = true ∨
      c.reported.contains r.toNat = true) := by
    simpa [runs, there, enabled] using fresh
  change execRegionComplete r tag s = _
  rw [execRegionComplete, found]
  exact congrArg Host.Outcome.next (if_neg passes)

/-- What the report of a region does to the streams leaves it reported. -/
theorem regionReport_reported {r tag : Nat} {c : Canvas} (found : s.canv.find? (fun c => decide (c.tag = tag)) = some c) :
    ((s.regionMarked r tag).regionReport r tag).canv.any (fun x => decide (x.tag = tag) && x.reported.contains r) = true := by
  have tagged : c.tag = tag := by simpa using List.find?_some found
  have marked : { c with reported := r :: c.reported } ∈ (s.regionMarked r tag).canv :=
    List.mem_map.2 ⟨c, List.mem_of_find?_eq_some found, if_pos tagged⟩
  obtain ⟨held, stays⟩ := canvasesStay_regionReport (r := r) (tag := tag) _ marked
  exact List.any_eq_true.2 ⟨_, stays, by simp [tagged]⟩

/-- A host command that reaches its bead has its effect. -/
theorem State.hostToBead_of_reachesBead {rod bead : Nat} (g : State → State) (h : reachesBead s rod bead) :
    s.hostToBead rod bead g = g s :=
  (State.hostTo_of_reaches _ h.1).trans (if_pos h.2)

/-- The clear of a fallback waits for the composer's commit point, which ends the fallback (spec/11 R294). -/
theorem execGuardClr_marks {n : Fin 9} {g : Fin 16} (h : reachesBead s 11 n) (active : s.on (R.GRD_GSTAT_ACTIVE n g) = true) :
    exec (.guardClr n g) s = .next (s.set (R.GRD_GSTAT_CLR n g) 1) :=
  congrArg Host.Outcome.next ((State.hostToBead_of_reachesBead _ h).trans (if_pos active))

theorem execGuardClr_idle {n : Fin 9} {g : Fin 16} (h : reachesBead s 11 n) (idle : s.on (R.GRD_GSTAT_ACTIVE n g) = false) :
    exec (.guardClr n g) s = .next s :=
  congrArg Host.Outcome.next ((State.hostToBead_of_reachesBead _ h).trans (if_neg (Bool.eq_false_iff.1 idle)))

end

/-- Settles O29: a frame with a free buffer stands in the ring through what the encoders then release, nothing in its composition touches
PIC_LATE, and the clear of a fallback waits for a commit point. -/
theorem wallCanvas : Obligations.WallCanvas := by
  unfold Obligations.WallCanvas
  refine ⟨?starts, ?startSkips, ?waits, ?waitSkips, ?region, ?clears, ?keepsClear⟩
  case starts =>
    intro tag b s due whole free
    exact ⟨_, execCanvasFrameStart_composes due whole, wallFrame_stands free⟩
  case startSkips =>
    intro tag s due whole full
    exact ⟨_, execCanvasFrameStart_composes due whole, wallFrame_shows_skip full⟩
  case waits =>
    intro tag b s due late free
    obtain ⟨shown, run⟩ := execCwaitTimeout_composes due late
    exact ⟨_, run, picLate_wallLate, wallFrame_stands free⟩
  case waitSkips =>
    intro tag s due late full
    obtain ⟨shown, run⟩ := execCwaitTimeout_composes due late
    obtain ⟨skip, raised, -⟩ := wallFrame_shows_skip (s := s.wallLate) (shown := shown) full
    exact ⟨_, run, picLate_wallLate, skip, raised⟩
  case region =>
    intro r tag c s found runs there enabled fresh
    exact ⟨_, execRegionComplete_reports found runs there enabled fresh, regionReport_reported found⟩
  case clears =>
    intro n g s reached active
    exact ⟨_, execGuardClr_marks reached active, State.get_set_same .., State.get_set_other _ _ (by simp)⟩
  case keepsClear => exact fun n g s reached idle => ⟨_, execGuardClr_idle reached idle, rfl, rfl⟩

end Sys2Proof.Machine

namespace Sys2Proof.Machine

/-! ### The statement about the output heads, which does not hold -/

/-- Head 0 runs, and its frame has no line left. The lines by which its blanking is still to be lengthened count 2 ^ 200 + 1, which the
200 bits of HEAD_MORE do not hold. -/
def wideBlanking : State :=
  { State.reset with
    regs := [((R.HEAD_STAT_STATE 0).key, 2), ((I.HEAD_MORE 0).key, 2 ^ 200 + 1), ((I.PROXY 11).key, 0)] }

/-- The line start takes one line from the count and writes it back in 200 bits (spec/12 R304): none is left of it. -/
theorem headLineStart_wideBlanking {t : State} (run : exec (.headLineStart 0 none) wideBlanking = .next t) :
    t.get (I.HEAD_MORE 0) = 0 := by
  have counts : exec (.headLineStart 0 none) wideBlanking =
      .next (wideBlanking.set (I.HEAD_MORE 0) (wideBlanking.get (I.HEAD_MORE 0) - 1)) := by
    refine congrArg Host.Outcome.next ((if_neg (by decide +kernel)).trans ?_)
    exact (if_neg (by decide +kernel)).trans (if_pos (by decide +kernel))
  obtain rfl := Host.Outcome.next.inj (counts.symm.trans run)
  exact (State.get_set_same ..).trans (by decide +kernel)

/-- Refutes O30: where the blanking is being lengthened, a line start leaves one line less in the 200 bits of HEAD_MORE, so that of
2 ^ 200 + 1 lines none is left. The statement asks for 2 ^ 200, one less than the store holds. A write cuts its value to the field's
width and makes no such count, but the statement is of every state, and nothing in a state bounds what its store holds. -/
theorem not_headTiming : ¬ Obligations.HeadTiming := by
  unfold Obligations.HeadTiming
  rintro ⟨-, -, -, -, -, -, blankingLengthened, -⟩
  obtain ⟨t, run, counted, -, -⟩ := blankingLengthened 0 none wideBlanking (by decide +kernel) (by decide +kernel) (by decide +kernel)
    (by decide +kernel)
  exact absurd ((headLineStart_wideBlanking run).symm.trans counted) (by decide +kernel)

end Sys2Proof.Machine

/-!
No fuse bit falls (O7).

A number rises to another where each of its bits that is set stays set (`Rises`); one set of fuses rises to another where each field that
SEC burns does (`Fuses.RisesTo`). A burn raises the fuses, no other write to the stores touches them, and what FUSE.WORD shows, the
lifecycle and the counters follow the fields upwards.
-/

namespace Sys2Proof.Machine

/-! ### Numbers whose bits only rise -/

/-- Every bit of `v` that is set is set in `w`. -/
def Rises (v w : Nat) : Prop := ∀ i, bit v i = true → bit w i = true

theorem bit_eq_testBit (v i : Nat) : bit v i = v.testBit i := Nat.testBit_eq_decide_div_mod_eq.symm

theorem Rises.refl (v : Nat) : Rises v v := fun _ h => h

theorem Rises.trans {u v w : Nat} (h : Rises u v) (h' : Rises v w) : Rises u w := fun i hi => h' i (h i hi)

/-- A clear bit that is set carries into no bit above it. -/
theorem div_two_pow_add_of_clear {v i j : Nat} (clear : bit v i = false) (above : i < j) : (v + 2 ^ i) / 2 ^ j = v / 2 ^ j := by
  obtain ⟨k, rfl⟩ := Nat.exists_eq_add_of_lt above
  have even : v / 2 ^ i % 2 ≠ 1 := by simpa [bit] using clear
  have no_carry : (v / 2 ^ i + 1) / 2 = v / 2 ^ i / 2 := by omega
  have hj : 2 ^ (i + k + 1) = 2 ^ i * (2 * 2 ^ k) := by ring
  simp only [hj, ← Nat.div_div_eq_div_mul, Nat.add_div_right _ (Nat.two_pow_pos i), no_carry]

theorem rises_setBit (v i : Nat) : Rises v (setBit v i) := by
  unfold setBit
  split
  case isTrue => exact .refl v
  case isFalse unset =>
    have clear : bit v i = false := by simpa using unset
    intro j hj
    rcases Nat.lt_trichotomy j i with below | rfl | above
    · rwa [bit_eq_testBit, Nat.add_comm, Nat.testBit_two_pow_add_gt below, ← bit_eq_testBit]
    · exact absurd hj unset
    · rwa [bit, div_two_pow_add_of_clear clear above]

theorem bit_bits (v lo w i : Nat) : bit (bits v lo w) i = (decide (i < w) && bit v (lo + i)) := by
  simp [bit_eq_testBit, bits, Nat.testBit_div_two_pow, Nat.add_comm]

theorem Rises.bits {v w : Nat} (h : Rises v w) (lo n : Nat) : Rises (bits v lo n) (bits w lo n) := by
  intro i
  simp only [bit_bits, Bool.and_eq_true]
  exact fun ⟨inside, set⟩ => ⟨inside, h _ set⟩

theorem Rises.mod {v w : Nat} (h : Rises v w) (n : Nat) : Rises (v % 2 ^ n) (w % 2 ^ n) := by
  simpa [Machine.bits] using h.bits 0 n

/-- Two fields side by side, the lower of `n` bits. -/
theorem Rises.add_mul {n v w v' w' : Nat} (low : Rises v v') (high : Rises w w') (hv : v < 2 ^ n) (hv' : v' < 2 ^ n) :
    Rises (v + w * 2 ^ n) (v' + w' * 2 ^ n) := by
  intro i
  rw [Nat.add_comm v, Nat.add_comm v', Nat.mul_comm w, Nat.mul_comm w']
  simp only [bit_eq_testBit, Nat.testBit_two_pow_mul_add _ hv, Nat.testBit_two_pow_mul_add _ hv']
  simp only [← bit_eq_testBit]
  split
  · exact low i
  · exact high (i - n)

theorem Rises.popcount_le {v w : Nat} (h : Rises v w) (n : Nat) : popcount v n ≤ popcount w n := by
  induction n with
  | zero => exact Nat.le_refl 0
  | succ n ih =>
    have hn : v / 2 ^ n % 2 = 1 → w / 2 ^ n % 2 = 1 := by simpa [bit] using h n
    simp only [popcount]
    omega

/-! ### Fuses that only rise -/

/-- Each number of a list rises. -/
def AllRise (l m : List Nat) : Prop := ∀ i, Rises (l.getD i 0) (m.getD i 0)

theorem AllRise.refl (l : List Nat) : AllRise l l := fun _ => .refl _

theorem AllRise.trans {l m n : List Nat} (h : AllRise l m) (h' : AllRise m n) : AllRise l n := fun i => (h i).trans (h' i)

/-- A bit set in one number of a list. -/
theorem allRise_mapIdx_setBit (l : List Nat) (k b : Nat) : AllRise l (l.mapIdx (fun i h => if i = k then setBit h b else h)) := by
  intro i
  simp only [List.getD_eq_getElem?_getD, List.getElem?_mapIdx]
  cases l[i]? with
  | none => exact .refl 0
  | some v =>
    by_cases here : i = k
    · simpa [here] using rises_setBit v b
    · simpa [here] using Rises.refl v

/-- No fuse that is burnt in `f` is blank in `g`, and what is fused at manufacture is the same. -/
structure Fuses.RisesTo (f g : Fuses) : Prop where
  lroot : AllRise f.lroot g.lroot
  croot : AllRise f.croot g.croot
  lrev : Rises f.lrev g.lrev
  crev : Rises f.crev g.crev
  life : Rises f.life g.life
  lsvn : Rises f.lsvn g.lsvn
  csvn : Rises f.csvn g.csvn
  lot : g.lot = f.lot
  die : g.die = f.die
  serial : g.serial = f.serial

section

variable {f g : Fuses}

theorem Fuses.RisesTo.refl (f : Fuses) : f.RisesTo f :=
  ⟨.refl _, .refl _, .refl _, .refl _, .refl _, .refl _, .refl _, rfl, rfl, rfl⟩

theorem Fuses.RisesTo.trans {h : Fuses} (p : f.RisesTo g) (q : g.RisesTo h) : f.RisesTo h where
  lroot := p.lroot.trans q.lroot
  croot := p.croot.trans q.croot
  lrev := p.lrev.trans q.lrev
  crev := p.crev.trans q.crev
  life := p.life.trans q.life
  lsvn := p.lsvn.trans q.lsvn
  csvn := p.csvn.trans q.csvn
  lot := q.lot.trans p.lot
  die := q.die.trans p.die
  serial := q.serial.trans p.serial

/-- A burn sets one bit of one field, or none. -/
theorem Fuses.risesTo_burn (f : Fuses) (k b : Nat) : f.RisesTo (f.burn k b) := by
  have same := RisesTo.refl f
  unfold burn
  split_ifs
  · exact { same with lroot := allRise_mapIdx_setBit _ _ _ }
  · exact { same with croot := allRise_mapIdx_setBit _ _ _ }
  · exact { same with lrev := rises_setBit _ _ }
  · exact { same with crev := rises_setBit _ _ }
  · exact { same with life := rises_setBit _ _ }
  · exact { same with lsvn := rises_setBit _ _ }
  · exact { same with csvn := rises_setBit _ _ }
  · exact same

/-- The word of revocations and lifecycle holds them side by side (spec/22 R511). -/
theorem Fuses.RisesTo.marks (h : f.RisesTo g) :
    Rises (f.lrev % 16 + f.crev % 16 * 16 + f.life % 8 * 256) (g.lrev % 16 + g.crev % 16 * 16 + g.life % 8 * 256) :=
  have revoked := (h.lrev.mod 4).add_mul (n := 4) (h.crev.mod 4) (by omega) (by omega)
  revoked.add_mul (n := 8) (h.life.mod 3) (by omega) (by omega)

theorem Fuses.RisesTo.word (h : f.RisesTo g) (k : Nat) : Rises (f.word k) (g.word k) := by
  unfold Fuses.word
  rw [h.lot, h.die, h.serial]
  split_ifs
  · exact (h.lroot _).bits _ _
  · exact (h.croot _).bits _ _
  · exact h.marks
  · exact h.lsvn.bits _ _
  · exact h.csvn.bits _ _
  all_goals exact .refl _

/-- The highest LIFE bit that is burnt stays burnt. -/
theorem Fuses.RisesTo.lifecycle_le (h : f.RisesTo g) : f.lifecycle ≤ g.lifecycle := by
  have h0 := h.life 0
  have h1 := h.life 1
  have h2 := h.life 2
  unfold lifecycle
  split_ifs <;> simp_all

theorem Fuses.RisesTo.lsvn_le (h : f.RisesTo g) : svnOf f.lsvn ≤ svnOf g.lsvn := h.lsvn.popcount_le 64

theorem Fuses.RisesTo.csvn_le (h : f.RisesTo g) : svnOf f.csvn ≤ svnOf g.csvn := h.csvn.popcount_le 64

end

/-! ### What a step does to them -/

/-- Of the few writes to a state's stores, a burn alone touches the fuses. -/
theorem StoreWrite.fuses_risesTo {m n : Stores} (w : StoreWrite m n) : m.fuses.RisesTo n.fuses := by
  cases w with
  | burn k b => exact m.fuses.risesTo_burn k b
  | _ => exact .refl _

theorem Evolves.fuses_risesTo {s t : State} (h : Evolves s t) : s.fuses.RisesTo t.fuses := by
  unfold Evolves at h
  suffices ∀ n, Relation.ReflTransGen StoreWrite s.stores n → s.fuses.RisesTo n.fuses from this t.stores h
  intro n hn
  induction hn with
  | refl => exact .refl _
  | tail _ w ih => exact ih.trans w.fuses_risesTo

/-- Settles O7: what a step answers evolves from the state by writes of which only a burn touches the fuses, and a burn only sets a bit. -/
theorem fusesOnlyRise : Obligations.FusesOnlyRise := by
  unfold Obligations.FusesOnlyRise
  intro s t run
  obtain ⟨u, hu, evolves⟩ := step_advances s
  obtain rfl : u = t := Host.Outcome.next.inj (hu.symm.trans run)
  have rises : s.fuses.RisesTo u.fuses := evolves.fuses_risesTo
  exact ⟨rises.word, rises.lifecycle_le, rises.lsvn_le, rises.csvn_le⟩

end Sys2Proof.Machine

/-!
The layout of BAR0, its unmapped offsets and the names of values in force (O8 to O10): where an offset lies, which fields a word of the
window holds, and what a read or a write does where a word holds no field, or is named 0x8_0000 further on (spec/22 R499 to R502).
-/

namespace Sys2Proof.Machine

open Sys2Proof.Safety

/-! ### The places of BAR0 -/

section

variable {n x a : Nat}

theorem placeOf_rod (hn : n < 16) (hx : x < 0x100000) :
    placeOf (n * 0x100000 + x) = some ⟨n, x % 0x80000, decide (0x80000 ≤ x)⟩ := by
  have blk : (n * 0x100000 + x) / 0x100000 = n := by omega
  have off : (n * 0x100000 + x) % 0x80000 = x % 0x80000 := by omega
  have low : (n * 0x100000 + x) % 0x100000 = x := by omega
  rw [placeOf, if_pos (by omega), blk, off, low]

theorem placeOf_window (hx : x < 0x20C0) : placeOf (0x1000000 + x) = some ⟨17, x, false⟩ := by
  rw [placeOf, if_neg (by omega), if_pos (by omega), Nat.add_sub_cancel_left]

theorem placeOf_aon (hx : x < 0x100000) : placeOf (0x1100000 + x) = some ⟨16, x % 0x80000, decide (0x80000 ≤ x)⟩ := by
  rw [placeOf, if_neg (by omega), if_neg (by omega), if_pos (by omega), Nat.add_sub_cancel_left]

theorem placeOf_eq_none (h : (0x10020C0 ≤ a ∧ a < 0x1100000) ∨ 0x1200000 ≤ a) : placeOf a = none := by
  rw [placeOf, if_neg (by omega), if_neg (by omega), if_neg (by omega)]

/-- An offset that is mapped lies in a rod's block, in the window or in AON's block. -/
theorem placeOf_cases {p : Place} (h : placeOf a = some p) :
    (∃ n x, n < 16 ∧ x < 0x100000 ∧ a = n * 0x100000 + x) ∨ (∃ x < 0x20C0, a = 0x1000000 + x) ∨
      ∃ x < 0x100000, a = 0x1100000 + x := by
  by_cases rod : a < 0x1000000
  · exact .inl ⟨a / 0x100000, a % 0x100000, by omega, by omega, by omega⟩
  by_cases window : a < 0x10020C0
  · exact .inr (.inl ⟨a - 0x1000000, by omega, by omega⟩)
  by_cases aon : 0x1100000 ≤ a ∧ a < 0x1200000
  · exact .inr (.inr ⟨a - 0x1100000, by omega, by omega⟩)
  · rw [placeOf_eq_none (by omega)] at h
    cases h

/-- A place in a rod's or in AON's block, named 0x8_0000 further on (spec/22 R501). -/
theorem placeOf_alias {p : Place} (h : placeOf a = some p) (hp : p.ali = false) (hb : p.blk ≤ 16) :
    placeOf (a + 0x80000) = some ⟨p.blk, p.off, true⟩ := by
  obtain ⟨n, x, hn, hx, rfl⟩ | ⟨x, hx, rfl⟩ | ⟨x, hx, rfl⟩ := placeOf_cases h
  · obtain rfl := Option.some.inj ((placeOf_rod hn hx).symm.trans h)
    have low : x < 0x80000 := by simpa using hp
    rw [Nat.add_assoc, placeOf_rod hn (by omega), Nat.add_mod_right, decide_eq_true (by omega)]
  · obtain rfl := Option.some.inj ((placeOf_window hx).symm.trans h)
    dsimp only at hb
    omega
  · obtain rfl := Option.some.inj ((placeOf_aon hx).symm.trans h)
    have low : x < 0x80000 := by simpa using hp
    rw [Nat.add_assoc, placeOf_aon (by omega), Nat.add_mod_right, decide_eq_true (by omega)]

end

/-! ### The words of the window -/

/-- The rows of the window after MB.DATA: those of a mailbox stand once in its 256 bytes, above DATA, those of the doorbells above all
mailboxes. -/
theorem rowsWin_after_data : ∀ r ∈ rowsWin0.tail,
    (0x40 ≤ r.off ∧ r.off < 0x50 ∧ r.dims = [⟨256, 0, 32⟩]) ∨ 0x2000 ≤ r.off := by
  simp [rowsWin0]

theorem wordHits_mailboxData {m i : Nat} (hm : m < 32) (hi : i < 16) :
    (wordHits 17 (0x100 * m + 4 * i)).map (fun h => (h.fld 17).key) = [(R.MB_DATA_D m i).key] := by
  have others : ∀ r ∈ rowsWin0.tail, r.hits (0x100 * m + 4 * i) = [] := by
    intro r hr
    obtain ⟨lo, hi', hd⟩ | far := rowsWin_after_data r hr
    · rw [Row.hits, hd]
      split
      · rfl
      · have between : (0x100 * m + 4 * i - r.off) % 256 ≠ 0 := by omega
        simp [dimHits, between]
    · exact if_pos (by omega)
  have mailbox : (0x100 * m + 4 * i) / 0x100 = m := by omega
  have byte : (0x100 * m + 4 * i) % 0x100 = 4 * i := by omega
  change ((rowsWin0.head (by simp [rowsWin0]) :: rowsWin0.tail).flatMap _).map _ = _
  rw [List.flatMap_cons, List.flatMap_eq_nil_iff.2 fun r hr => by rw [others r hr]; rfl, List.append_nil]
  simp [rowsWin0, Row.hits, dimHits, mailbox, byte, hm, hi, Hit.fld]
  omega

theorem wordHits_doorbellSet : ∀ d < 6, ∀ i < 2,
    (wordHits 17 (0x2000 + 32 * d + 4 * i)).map (fun h => (h.fld 17).key) = [(R.DB_SET_B d i).key] := by
  decide +kernel

/-- Each mailbox has its TAKE register. -/
theorem wordHits_mailboxTake : ∀ m < 32, (wordHits 17 (0x100 * m + 0x48)).isEmpty = false := by
  decide +kernel

/-- Settles O8: the places of rods, of the window and of AON one by one, and the rows of the window. -/
theorem barZeroLayout : Obligations.BarZeroLayout := by
  unfold Obligations.BarZeroLayout
  refine ⟨?rods, ?mailboxes, ?doorbells, ?data, ?set, ?aon, ?unmapped⟩
  case rods => exact fun n x hn hx => congrArg (Option.map Place.blk) (placeOf_rod hn hx)
  case mailboxes => exact fun x hx => placeOf_window (by omega)
  case doorbells =>
    intro x hx
    rw [show 0x1002000 + x = 0x1000000 + (0x2000 + x) by omega]
    exact placeOf_window (by omega)
  case data => exact fun m i hm hi => wordHits_mailboxData hm hi
  case set => exact fun d i hd hi => wordHits_doorbellSet d hd i hi
  case aon => exact fun x hx => congrArg (Option.map Place.blk) (placeOf_aon hx)
  case unmapped => exact fun a ha => placeOf_eq_none (ha.imp_right And.left)

/-! ### Words without a field -/

section

variable {s : State} {a : Nat} {p : Place}

theorem readPlace_eq_zero (h : wordHits p.blk p.off = []) : s.readPlace p = 0 := by
  unfold State.readPlace
  rw [h]
  rfl

theorem RegWord.has_eq_false {w : RegWord} (h : w.hits = []) (f : Fld) : w.has f = false := by
  unfold RegWord.has
  rw [h]
  rfl

/-- An offset of CTL lies in none of its arrays that hold no fields: the firmware digest, the MSI-X table with its pending bits, the
mirror of the fault history (spec/17 R413, R428, spec/18 R457). -/
def outsideArrays (off : Nat) : Prop :=
  ¬ (0xC840 ≤ off ∧ off < 0xC870) ∧ ¬ (0xE000 ≤ off ∧ off < 0xE408) ∧ ¬ (0xF000 ≤ off ∧ off < 0x10000)

theorem readMirror_eq_none {off : Nat} (h : outsideArrays off) : s.readMirror off = none := by
  obtain ⟨digest, table, history⟩ := h
  have entries : ¬ (0xE000 ≤ off ∧ off < 0xE400) := by omega
  have pending : ¬ (off = 0xE400 ∨ off = 0xE404) := by omega
  rw [State.readMirror, if_neg entries, if_neg pending, if_neg history, if_neg digest, ite_self]

/-- Nothing stands at an offset (spec/22 R502). -/
def Unmapped (a : Nat) : Prop :=
  placeOf a = none ∨ ∃ p, placeOf a = some p ∧ wordHits p.blk p.off = [] ∧ (p.blk = 0 → outsideArrays p.off)

theorem readWord_of_unmapped (h : Unmapped a) : s.readWord a = 0 := by
  unfold State.readWord
  obtain none | ⟨p, place, empty, array⟩ := h
  · rw [none]
  · rw [place]
    dsimp only
    rw [readPlace_eq_zero empty]
    split
    · rw [readMirror_eq_none (array ‹_›)]
      rfl
    · rfl

/-- The words whose read changes something hold fields. -/
theorem readReg_of_noFields (place : placeOf a = some p) (empty : wordHits p.blk p.off = []) : s.readReg a = (s.readWord a, s) := by
  have none : ∀ f, RegWord.has ⟨p.blk, p.off, 0⟩ f = false := RegWord.has_eq_false empty
  have noTake : ¬ (p.blk = 17 ∧ p.off < 0x2000 ∧ p.off % 0x100 = 0x48) := by
    rintro ⟨blk, low, take⟩
    have hits := wordHits_mailboxTake (p.off / 0x100) (by omega)
    rw [show 0x100 * (p.off / 0x100) + 0x48 = p.off by omega, ← blk, empty] at hits
    cases hits
  have noCapture : (List.range 8).find? (fun j => RegWord.has ⟨p.blk, p.off, 0⟩ (R.CAP_NS_V j)) = Option.none :=
    List.find?_eq_none.2 fun j _ => by simp only [none]; exact Bool.false_ne_true
  have noStamp : (List.range 4).find? (fun m => RegWord.has ⟨p.blk, p.off, 0⟩ (R.TSQ_POP_VALID m)) = Option.none :=
    List.find?_eq_none.2 fun m _ => by simp only [none]; exact Bool.false_ne_true
  unfold State.readReg
  rw [place]
  dsimp only
  rw [none, noCapture, noStamp, if_neg noTake]
  simp

theorem readReg_of_unmapped (h : Unmapped a) : s.readReg a = (0, s) := by
  have word : s.readWord a = 0 := readWord_of_unmapped h
  obtain none | ⟨p, place, empty, -⟩ := h
  · unfold State.readReg
    rw [none]
  · rw [readReg_of_noFields place empty, word]

theorem regWrite_of_unmapped {v : Nat} (h : Unmapped a) : s.regWrite a v = s := by
  unfold State.regWrite
  obtain none | ⟨p, place, empty, array⟩ := h
  · rw [none]
  · have noTable : ¬ (p.blk = 0 ∧ !p.ali ∧ 0xE000 ≤ p.off ∧ p.off < 0xE400 ∧ a % 4 = 0) :=
      fun ⟨ctl, _, lo, hi, _⟩ => (array ctl).2.1 ⟨lo, by omega⟩
    rw [place]
    dsimp only
    rw [RegWord.hits, empty]
    exact if_neg noTable

/-- A four-byte write of the host that reaches the block of its offset. -/
theorem exec_registerWrite_of_reaches {addr : BitVec 25} {v : BitVec 32} (aligned : addr.toNat % 4 = 0)
    (h : reaches s (regRod addr.toNat)) : exec (.registerWrite addr 4 v) s = .next (s.regWrite addr.toNat v.toNat) := by
  have size : ¬ ((4 : BitVec 4).toNat ≠ 4 ∨ addr.toNat % 4 ≠ 0) := by simp [aligned]
  change execRegisterWrite addr 4 v s = _
  rw [execRegisterWrite, State.hostTo_of_reaches _ h, if_neg size]

end

/-- Settles O9: at an unmapped offset a read finds no field and no array, and a write no word. -/
theorem unmappedOffsets : Obligations.UnmappedOffsets := by
  unfold Obligations.UnmappedOffsets
  refine ⟨fun a s _ unmapped => readReg_of_unmapped unmapped, fun addr v s aligned reach unmapped => ?_⟩
  rw [exec_registerWrite_of_reaches aligned reach, regWrite_of_unmapped unmapped]

/-! ### Values in force -/

section

variable {s : State} {a : Nat} {p : Place}

/-- A field that is not SH reads the same under its name in force. -/
theorem readField_alias {h : Hit} {blk : Nat} (plain : isSh (h.fld blk).id = false) :
    s.readField true h blk = s.readField false h blk := by
  have force : s.inForce (h.fld blk) = s.get (h.fld blk) := if_neg (by rw [plain]; exact Bool.false_ne_true)
  have level : ¬ (2 ≤ blk ∧ blk ≤ 6 ∧ (h.fld blk).id = (R.BLK_LEVEL_B 0 0).id) := by
    rintro ⟨-, -, e⟩
    rw [e] at plain
    cases plain
  unfold State.readField
  simp only [if_neg level, force, ite_self]

theorem readPlace_alias {blk off : Nat} (plain : ∀ h ∈ wordHits blk off, isSh (h.fld blk).id = false) :
    s.readPlace ⟨blk, off, true⟩ = s.readPlace ⟨blk, off, false⟩ := by
  unfold State.readPlace
  dsimp only
  refine List.foldl_ext _ _ _ fun n h mem => ?_
  rw [readField_alias (plain h mem)]

/-- Two offsets that name the same word read alike where its fields do. -/
theorem readReg_eq_of_word {b blk off : Nat} {ali ali' : Bool} (place : placeOf a = some ⟨blk, off, ali⟩)
    (place' : placeOf b = some ⟨blk, off, ali'⟩) (byte : b % 4 = a % 4)
    (fields : s.readPlace ⟨blk, off, ali'⟩ = s.readPlace ⟨blk, off, ali⟩) : s.readReg b = s.readReg a := by
  have word : s.readWord b = s.readWord a := by
    unfold State.readWord
    rw [place, place']
    dsimp only
    rw [fields]
  unfold State.readReg
  rw [place, place', word, byte]

theorem readReg_alias (place : placeOf a = some p) (direct : p.ali = false) (hb : p.blk ≤ 16)
    (plain : ∀ h ∈ wordHits p.blk p.off, isSh (h.fld p.blk).id = false) : s.readReg (a + 0x80000) = s.readReg a := by
  obtain ⟨blk, off, ali⟩ := p
  obtain rfl : ali = false := direct
  exact readReg_eq_of_word place (placeOf_alias place rfl hb) (by omega) (readPlace_alias plain)

/-- The window has no values in force. -/
theorem placeOf_alias_blk (place : placeOf a = some p) (ali : p.ali = true) : p.blk ≠ 17 := by
  rintro window
  obtain ⟨n, x, hn, hx, rfl⟩ | ⟨x, hx, rfl⟩ | ⟨x, hx, rfl⟩ := placeOf_cases place
  · obtain rfl := Option.some.inj ((placeOf_rod hn hx).symm.trans place)
    dsimp only at window
    omega
  · obtain rfl := Option.some.inj ((placeOf_window hx).symm.trans place)
    cases ali
  · obtain rfl := Option.some.inj ((placeOf_aon hx).symm.trans place)
    cases window

/-- A write of a value in force is a range violation. -/
theorem regWrite_alias {v : Nat} (place : placeOf a = some p) (ali : p.ali = true) (fields : wordHits p.blk p.off ≠ [])
    (strung : s.beadOpen p.blk p.off = true) : s.regWrite a v = s.wrRange p.blk a := by
  have some : (RegWord.hits ⟨p.blk, p.off, v⟩).isEmpty = false := by
    rw [RegWord.hits, List.isEmpty_eq_false_iff]
    exact fields
  unfold State.regWrite
  rw [place]
  simp [some, strung, ali]

/-- A rejected write shows in WR_RANGE of its block, with the first address that was rejected (spec/22 R504, R509). -/
theorem wrRange_shows {rod : Nat} (hr : rod ≠ 17) :
    (s.wrRange rod a).get (R.WR_RANGE_WR rod) ≠ 0 ∧
      (s.on (R.WR_RANGE_WR rod) = false → (s.wrRange rod a).get (R.WR_RANGE_ADDR rod) = a % 2 ^ (R.WR_RANGE_ADDR rod).w) := by
  unfold State.wrRange
  simp only [if_neg hr]
  by_cases before : s.on (R.WR_RANGE_WR rod) = true
  · have was : s.get (R.WR_RANGE_WR rod) ≠ 0 := (s.on_iff _).1 before
    rw [if_pos before, before]
    simpa [State.get_raise, State.inc, State.get_set_other] using was
  · rw [if_neg before]
    simp [State.get_raise, State.inc, State.get_set_other]

theorem keeps_wrRange {rod : Nat} (hr : rod ≠ 17) : keeps (among (rangeFields rod)) s (s.wrRange rod a) := by
  have w : Within (Foot.range rod) s (s.wrRange rod a) := (Within.refl _ s).wrRange (by rw [if_neg hr]; exact List.Subset.refl _)
  exact w.keeps (by simp)

end

/-- Settles O10: a word has the same fields under both its names, and a write to the one in force is rejected. That a read there has the
same effect on the state is the model's reading (log 2201). -/
theorem inForceAlias : Obligations.InForceAlias := by
  unfold Obligations.InForceAlias
  refine ⟨fun a p s place direct hb plain => readReg_alias place direct hb plain, ?_⟩
  intro addr v p s place ali aligned fields reach strung
  have hr : p.blk ≠ 17 := placeOf_alias_blk place ali
  obtain ⟨wr, first⟩ := wrRange_shows (s := s) (a := addr.toNat) hr
  refine ⟨s.wrRange p.blk addr.toNat, ?_, wr, first, State.raised_raise _ _, keeps_wrRange hr, beyond_wrRange s _ _⟩
  rw [exec_registerWrite_of_reaches aligned reach, regWrite_alias place ali fields strung]

end Sys2Proof.Machine

/-!
Resets of rods and of the device, and lost reference clocks (O25): what a rod's loading and the stores of a device reset leave, and the
footprint of a lost clock (spec/21 R482 to R494, spec/23 R517 to R521).
-/

namespace Sys2Proof.Machine

open Sys2Proof.Safety

section

variable {s t : State} {f : Fld} {rod : Nat}

/-! ### A rod's registers are loaded -/

/-- The rows of a block name fields of that block. -/
def ownRows (blk ix : Nat) (l : List Row) : Bool := l.all fun r => decide ((r.fld blk ix).rod = blk)

theorem own_rowsRod {blk ix : Nat} : ownRows blk ix rowsRod = true := by
  simp [ownRows, rowsRod, rowsRod0, rowsRod1]
theorem own_rowsLnk {ix : Nat} : ownRows 1 ix rowsLnk = true := by
  simp [ownRows, rowsLnk, rowsLnk0, rowsLnk1, rowsLnk2]
theorem own_rowsImg {blk ix : Nat} (h : 2 ≤ blk) : ownRows blk ix rowsImg = true := by
  have image : 2 + (blk - 2) = blk := by omega
  simp [ownRows, rowsImg, rowsImg0, rowsImg1, rowsImg2, image]
theorem own_rowsMot {ix : Nat} : ownRows 7 ix rowsMot = true := by
  simp [ownRows, rowsMot, rowsMot0]
theorem own_rowsCod {blk ix : Nat} (h : 8 ≤ blk) : ownRows blk ix rowsCod = true := by
  have codec : 8 + (blk - 8) = blk := by omega
  simp [ownRows, rowsCod, rowsCod0, rowsCod1, codec]
theorem own_rowsRrc {ix : Nat} : ownRows 10 ix rowsRrc = true := by
  simp [ownRows, rowsRrc, rowsRrc0]
theorem own_rowsOut {ix : Nat} : ownRows 11 ix rowsOut = true := by
  simp [ownRows, rowsOut, rowsOut0, rowsOut1, rowsOut2, rowsOut3]
theorem own_rowsNet {ix : Nat} : ownRows 12 ix rowsNet = true := by
  simp [ownRows, rowsNet, rowsNet0, rowsNet1, rowsNet2]
theorem own_rowsAud {ix : Nat} : ownRows 13 ix rowsAud = true := by
  simp [ownRows, rowsAud, rowsAud0, rowsAud1]
theorem own_rowsMem {ix : Nat} : ownRows 14 ix rowsMem = true := by
  simp [ownRows, rowsMem, rowsMem0, rowsMem1]
theorem own_rowsUtl {ix : Nat} : ownRows 15 ix rowsUtl = true := by
  simp [ownRows, rowsUtl, rowsUtl0, rowsUtl1]

theorem own_blockRows {blk ix : Nat} (h : blk ≠ 0) (h' : blk < 16) : ownRows blk ix (blockRows blk) = true := by
  unfold blockRows
  rw [if_neg (by omega), if_neg (by omega), if_neg h]
  refine (List.all_append ..).trans (Bool.and_eq_true_iff.2 ⟨own_rowsRod, ?_⟩)
  change ownRows blk ix _ = true
  split_ifs with lnk img mot cod rrc out net aud mem
  · exact lnk ▸ own_rowsLnk
  · exact own_rowsImg (by omega)
  · exact mot ▸ own_rowsMot
  · exact own_rowsCod (by omega)
  · exact rrc ▸ own_rowsRrc
  · exact out ▸ own_rowsOut
  · exact net ▸ own_rowsNet
  · exact aud ▸ own_rowsAud
  · exact mem ▸ own_rowsMem
  · obtain rfl : blk = 15 := by omega
    exact own_rowsUtl

/-- The fields of a word of a rod's block stand in that block. -/
theorem rod_of_wordHits {blk off : Nat} (h : blk ≠ 0) (h' : blk < 16) {e : Hit} (he : e ∈ wordHits blk off) :
    (e.fld blk).rod = blk := by
  obtain ⟨r, hr, hx⟩ := List.mem_flatMap.1 he
  obtain ⟨x, -, e'⟩ := List.mem_filterMap.1 hx
  have row : e.row = r := by
    split at e'
    · cases e'
    · exact congrArg Hit.row (Option.some.inj e').symm
  unfold Hit.fld
  rw [row]
  exact of_decide_eq_true (List.all_eq_true.1 (own_blockRows h h') r hr)

theorem within_clearRod : Within [.block rod] s (s.clearRod rod) where
  get_eq f hf := mapGet_filter (fun _ => decide_eq_true (.inl (by simpa using hf))) s.regs
  inf_eq f hf := mapGet_filter (fun _ => decide_eq_true (by simpa using hf)) s.inf
  rest_eq := rfl
  tray_eq _ _ := rfl
  dram_eq _ _ := rfl
  keep_eq _ _ := rfl

theorem within_loadClocks : Within [.block rod] s (s.loadClocks rod) := by
  refine .ite (fun _ => .refl _ _) fun out => .foldl (.refl _ s) fun u c _ => .ite (fun _ => ?_) fun _ => .refl _ _
  obtain rfl : rod = 11 := not_not.1 out
  exact (Within.refl _ u).sets

theorem within_loadEvents : Within [.block rod] s (s.loadEvents rod) :=
  .foldl (.refl _ s) fun u e _ => .ite (fun own => (Within.refl _ u).sets (by simp [own])) fun _ => .refl _ _

theorem within_preset {p : PresetRec} (h0 : rod ≠ 0) (hr : rod < 16) (hp : p.offset / 0x100000 = rod) :
    Within [.block rod] s (s.preset p) := by
  have place : placeOf p.offset = some ⟨rod, p.offset % 0x80000, decide (0x80000 ≤ p.offset % 0x100000)⟩ := by
    unfold placeOf
    rw [if_pos (by omega), hp]
  unfold State.preset
  rw [place]
  exact .ite (fun _ => .refl _ _) fun _ => .foldl (.refl _ s) fun u e he =>
    .ite (fun _ => (Within.refl _ u).set (by simp [rod_of_wordHits h0 hr he])) fun _ => .refl _ _

theorem within_loadPresets (h0 : rod ≠ 0) (hr : rod < 16) : Within [.block rod] s (s.loadPresets rod) :=
  .foldl (.refl _ s) fun _ _ _ => .ite (fun own => within_preset h0 hr own) fun _ => .refl _ _

theorem within_loadRod {full : Bool} (h0 : rod ≠ 0) (hr : rod < 16) : Within [.block rod] s (s.loadRod rod full) := by
  unfold State.loadRod
  extract_lets s1 kept s2
  have loaded : Within [.block rod] s s1 := (within_loadClocks.trans within_loadEvents).trans (within_loadPresets h0 hr)
  have restored : Within [.block rod] s s2 := .ite (fun _ => loaded) fun _ => loaded.trans
    { get_eq := fun f hf => by
        have other : decide (f.key.1 = rod) = false := decide_eq_false fun e => hf (by simpa using e)
        refine (mapGet_over_other fun e he hk => ?_).trans (mapGet_filter (fun _ => ?_) s1.regs)
        · have := (List.mem_filter.1 he).2
          rw [hk, other] at this
          cases this
        · rw [other]
          rfl
      inf_eq := fun _ _ => rfl
      rest_eq := rfl
      tray_eq := fun _ _ => rfl
      dram_eq := fun _ _ => rfl
      keep_eq := fun _ _ => rfl }
  exact restored.commitWhere fun f hf => by simpa using of_decide_eq_true hf

/-! ### Resets of a rod -/

theorem bit_clrBit_same (v i : Nat) : bit (clrBit v i) i = false := by
  unfold clrBit
  split
  case isTrue set =>
    have odd : v / 2 ^ i % 2 = 1 := by simpa [bit] using set
    have less : (v - 2 ^ i) / 2 ^ i = v / 2 ^ i - 1 := by simpa using Nat.sub_mul_div v (2 ^ i) 1
    simp only [bit, less, decide_eq_false_iff_not]
    omega
  case isFalse clear => simpa using clear

/-- A powered rod in reset that nothing holds is released. -/
theorem get_tryRelease (reset : s.get (I.RSTST rod) = 1) (power : s.on (I.PWR_ON rod) = true) (free : s.held rod = false) :
    (s.tryRelease rod).get (I.RSTST rod) = 2 := by
  unfold State.tryRelease
  rw [if_pos ⟨reset, power, by rw [free]; rfl⟩]
  exact State.get_set_same ..

theorem rodResetRelease_releases (reset : s.get (I.RSTST rod) = 1) (power : s.on (I.PWR_ON rod) = true)
    (hold : bit (s.get R.ROD_HOLD_HOLD) rod = false) (patch : s.on (I.HOLD_PATCH rod) = false)
    (boot : s.on (I.HOLD_BOOT rod) = false) :
    ((s.set (I.HOLD_AUTO rod) 0).tryRelease rod).get (I.HOLD_AUTO rod) = 0 ∧
      ((s.set (I.HOLD_AUTO rod) 0).tryRelease rod).get (I.RSTST rod) = 2 := by
  have other : ∀ g : Fld, g.id ≠ 2005 → (s.set (I.HOLD_AUTO rod) 0).get g = s.get g := fun g hg =>
    State.get_set_other s 0 fun e => hg e.1
  refine ⟨?_, get_tryRelease ?_ ?_ ?_⟩
  · unfold State.tryRelease
    split
    · exact (State.get_set_other _ _ (by simp)).trans (State.get_set_same ..)
    · exact State.get_set_same ..
  · exact (other _ (by simp)).trans reset
  · exact (State.on_congr (other _ (by simp))).trans power
  · have auto : (s.set (I.HOLD_AUTO rod) 0).on (I.HOLD_AUTO rod) = false := State.on_set_same ..
    unfold State.held
    rw [other _ (by simp), hold, auto, State.on_congr (other _ (by simp)), patch, State.on_congr (other _ (by simp)), boot]
    rfl

theorem rodHoldClear_releases (reset : s.get (I.RSTST rod) = 1) (power : s.on (I.PWR_ON rod) = true)
    (auto : s.on (I.HOLD_AUTO rod) = false) (patch : s.on (I.HOLD_PATCH rod) = false) (boot : s.on (I.HOLD_BOOT rod) = false)
    (e : t = (s.set R.ROD_HOLD_HOLD (clrBit (s.get R.ROD_HOLD_HOLD) rod)).set (I.HOLD_PEND rod) 0) :
    bit ((t.tryRelease rod).get R.ROD_HOLD_HOLD) rod = false ∧ (t.tryRelease rod).get (I.RSTST rod) = 2 := by
  have other : ∀ g : Fld, g.id ≠ R.ROD_HOLD_HOLD.id ∧ g.id ≠ (I.HOLD_PEND rod).id → t.get g = s.get g := fun g hg => by
    rw [e, State.get_set_id hg.2, State.get_set_id hg.1]
  have clear : bit (t.get R.ROD_HOLD_HOLD) rod = false := by
    have low := bit_bits (clrBit (s.get R.ROD_HOLD_HOLD) rod) 0 16 rod
    rw [Nat.zero_add, bit_clrBit_same, Bool.and_false] at low
    rw [e, State.get_set_other _ _ (by simp), State.get_set_same]
    simpa [bits] using low
  refine ⟨?_, get_tryRelease ?_ ?_ ?_⟩
  · unfold State.tryRelease
    split
    · rwa [State.get_set_other _ _ (by simp)]
    · exact clear
  · exact (other _ (by simp)).trans reset
  · exact (State.on_congr (other _ (by simp))).trans power
  · unfold State.held
    rw [clear, State.on_congr (other _ (by simp)), auto, State.on_congr (other _ (by simp)), patch,
      State.on_congr (other _ (by simp)), boot]
    rfl

/-- A rod that is ready runs; its proxy is withdrawn unless HOLD gates it. -/
theorem rodReady_runs {ev : Bool} (h0 : rod ≠ 0) (hr : rod < 16) :
    (s.rodReady rod false ev).get (I.RSTST rod) = 0 ∧
      (s.get R.PWR_STAT_STATE ≠ 1 ∨ s.strung = false ∨ holdRuns rod = true → (s.rodReady rod false ev).isolated rod = false) := by
  unfold State.rodReady
  extract_lets s1 gate s2 s3 s4
  have loaded : Within [.block rod] s ((s.clearRod rod).loadRod rod false) := within_clearRod.trans (within_loadRod h0 hr)
  have reset : s1.get (I.RSTST rod) = 0 := by simp [s1, State.sets, State.get_set_other]
  have power : s1.get R.PWR_STAT_STATE = s.get R.PWR_STAT_STATE := by
    refine Eq.trans ?_ (loaded.get_eq R.PWR_STAT_STATE (by simpa using h0.symm))
    simp [s1, State.sets, State.get_set_other]
  have strung : s1.strung = s.strung := by
    have same := congrArg State.strung loaded.rest_eq
    exact same
  have rest : Confined (fun _ => False) s2 (s4.raiseIf ev E.rodReady) := by
    have h₃ : Confined (fun _ => False) s2 s3 := .ite (Confined.set (.refl _)) (.refl _)
    have h₄ : Confined (fun _ => False) s2 s4 := h₃.foldl fun _ _ _ hu => .ite hu.set hu
    exact h₄.raiseIf
  have run : Confined (fun _ => False) (s1.set (I.PROXY rod) 0) (((s1.set (I.PROXY rod) 0).flitsOut rod).startRod rod) :=
    (Confined.flitsOut (.refl _)).startRod
  refine ⟨(rest.get_eq _ (by simp)).trans ?_, fun ungated => ?_⟩
  · unfold s2
    split
    · exact (State.get_set_other _ _ (by simp)).trans reset
    · exact (run.get_eq _ (by simp)).trans ((State.get_set_other _ _ (by simp)).trans reset)
  · have noGate : gate = false := by
      unfold gate
      rw [power, strung]
      obtain running | empty | kept := ungated
      · rw [decide_eq_false fun hold => running hold.1]
        rfl
      · simp [empty]
      · simp [kept]
    have proxy : s2.get (I.PROXY rod) = 0 := by
      unfold s2
      rw [if_neg (by rw [noGate]; exact Bool.false_ne_true)]
      exact (run.get_eq _ (by simp)).trans (State.get_set_same ..)
    have off : (s4.raiseIf ev E.rodReady).on (I.PROXY rod) = false :=
      (State.on_congr (rest.get_eq _ (by simp))).trans (by simp only [State.on, proxy]; rfl)
    unfold State.isolated
    rw [off, Bool.and_false]

theorem raised_raiseIf {e : E.Src} : isRaised (s.raiseIf true e) e := State.raised_raise s e

theorem rodReady_announces {full : Bool} : isRaised (s.rodReady rod full true) E.rodReady := by
  unfold State.rodReady
  exact raised_raiseIf

/-! ### Resets of the device -/

section

variable {kind : DevKind} {cause dev : Nat}

/-- Whatever its kind, a device reset records its cause and closes debug. -/
theorem get_devReset : (s.devReset kind cause).get R.RST_CAUSE_LAST = cause % 2 ^ 4 ∧ (s.devReset kind cause).get I.DEBUG = 0 := by
  cases kind <;> simp [State.devReset, State.sets, State.inc, State.get_set_other]

theorem up_devReset : (s.devReset kind cause).up = if kind = .full then 0 else s.burnCut.up := by
  cases kind <;> rfl

theorem within_voterFresh : Within [.flds voterFields] s s.voterFresh := by
  refine .sets (.foldl (.refl _ s) fun u v hv => (Within.refl _ u).sets ?_) ?_
  · have := List.mem_range.1 hv
    simp [voterFields]
    omega
  · simp [voterFields]

/-- The voter's fresh start touches what it counts alone. -/
theorem get_voterFresh (h : ¬ among voterFields f := by simp [voterFields]) : s.voterFresh.get f = s.get f :=
  within_voterFresh.get_eq f (by simpa using h)

theorem fullReset_shows : (s.fullReset cause).get I.DEV = 1 ∧ (s.fullReset cause).get I.CORE_EN = 0 ∧
    (s.fullReset cause).get R.RST_CAUSE_LAST = cause % 2 ^ 4 := by
  refine ⟨?_, ?_, Eq.trans ?_ (get_devReset (s := s) (kind := .full)).1⟩
  all_goals simp [State.fullReset, State.sets, State.get_set_other]

theorem coreReset_shows : (s.coreReset cause).get I.DEV = 2 ∧ (s.coreReset cause).get I.CORE_EN = 1 ∧
    (s.coreReset cause).get R.RST_CAUSE_LAST = cause % 2 ^ 4 := by
  refine ⟨?_, ?_, Eq.trans ?_ ((get_voterFresh (f := R.RST_CAUSE_LAST)).trans (get_devReset (s := s) (kind := .core)).1)⟩
  all_goals simp [State.coreReset, State.sets, State.get_set_other]

/-- A warm reset with all that its command does besides (spec/21 R485, spec/19 R467). -/
theorem warmReset_shows {ev : Nat} (e : t = ((s.warmReset cause dev).voterFresh.inc R.RST_CAUSE_WARM_CNT).sets
      [(I.BOOT_EV, ev), (I.PIN_FAULT, 0), (I.PIN_THERM, 0)]) :
    t.get I.DEV = dev % 2 ^ 200 ∧ t.get R.RST_CAUSE_LAST = cause % 2 ^ 4 ∧ t.get I.DEBUG = 0 ∧ t.get I.PIN_FAULT = 0 ∧
      t.get I.PIN_THERM = 0 := by
  subst e
  obtain ⟨last, debug⟩ := get_devReset (s := s) (kind := .warm) (cause := cause)
  have w : Within [.flds voterFields, .flds [R.RST_CAUSE_WARM_CNT, I.BOOT_EV, I.PIN_FAULT, I.PIN_THERM]] (s.warmReset cause dev)
      (((s.warmReset cause dev).voterFresh.inc R.RST_CAUSE_WARM_CNT).sets [(I.BOOT_EV, ev), (I.PIN_FAULT, 0), (I.PIN_THERM, 0)]) :=
    .sets (.inc (within_voterFresh.mono (by simp)))
  refine ⟨(w.get_eq _ (by simp [voterFields])).trans (State.get_set_same ..),
    (w.get_eq _ (by simp [voterFields])).trans ((State.get_set_other _ _ (by simp)).trans last),
    (w.get_eq _ (by simp [voterFields])).trans ((State.get_set_other _ _ (by simp)).trans debug), ?_, ?_⟩
  all_goals simp [State.sets, State.get_set_other]

end

/-! ### Lost reference clocks -/

theorem within_laneFault {l cause : Nat} (h : rod ≠ 1) : Within [.block rod] s (s.laneFault rod l cause) := by
  unfold State.laneFault State.srxLost
  rw [if_pos h]
  exact (Within.set (.set (.set (.refl _ s)))).raise (by simp [State.laneSrc])

theorem within_refLanes (h : rod ≠ 1) : Within [.block rod] s (s.refLanes rod) :=
  .ite (fun _ => .refl _ _) fun _ => .foldl (.refl _ s) fun u _ _ => .ite (fun _ => .foldl (.refl _ u) fun _ _ _ =>
    .ite (fun _ => .refl _ _) fun _ => within_laneFault h) fun _ => .refl _ _

/-- What the fault of a drive touches, and the volume that is lost with it. -/
@[simp] def Foot.drive : Foot := [.block 10, .part .recd] ++ Foot.job 10 ++ Foot.commit 10

theorem within_recLost : Within Foot.drive s s.recLost := by
  unfold State.recLost
  refine .ite (fun _ => .refl _ _) fun _ => ?_
  extract_lets ended was s1 s2
  have cut : Within Foot.drive s s1 := .foldl (.refl _ s) fun u j hj => by
    have own : j.rod = 10 ∧ (j.kind = 4 ∨ j.kind = 5) := of_decide_eq_true (List.mem_filter.1 hj).2
    exact (Within.refl _ u).endJob (by simp [own.1])
  clear_value s1
  have idle : Within Foot.drive s s2 := .sets (cut.put [.recd] rfl)
  have told : Within Foot.drive s (s2.raiseIf was E.recCmdDone) := idle.raiseIf (by simp [E.recCmdDone])
  exact .ite (fun _ => told) fun _ => told.commitAt

theorem within_driveFault {d : Nat} : Within Foot.drive s (s.driveFault d) := by
  unfold State.driveFault
  extract_lets s1 s2
  have fault : Within Foot.drive s s1 := .raise (.set (.set (.refl _ s))) (by simp [E.nvqFault])
  clear_value s1
  have gone : Within Foot.drive s s2 := fault.put [.recd] rfl
  exact .ite (fun _ => gone.trans within_recLost) fun _ => gone

theorem within_ethDown {m : Nat} : Within [.block 12] s (s.ethDown m) :=
  .ite (fun _ => .refl _ _) fun _ => .raise (.inc (.sets (.refl _ s))) (by simp [E.ethLink])

theorem within_ptpHold : Within [.block 12] s s.ptpHold := by
  refine .ite (fun _ => .refl _ _) fun _ => ?_
  have held : Within [.block 12] s ((s.set R.PTP_STAT_HOLD_EV 1).sets [(I.PTP_IN, 0), (I.PTP_OUTB, 0)]) := .sets (.set (.refl _ s))
  exact .ite (fun _ => held) fun _ => held.set.raise (by simp [E.ptpState])

theorem within_laneGo {l stage : Nat} : Within [.block rod] s (s.laneGo rod l stage) := by
  unfold State.laneGo
  extract_lets st
  have own : ∀ f ∈ laneFresh rod l, f.rod = rod := by simp [laneFresh]
  refine .ite (fun _ => .refl _ _) fun _ => .ite (fun _ => .refl _ _) fun _ => .set (.foldl (.set (.refl _ s)) fun u f hf => ?_)
  exact (Within.refl _ u).set (by simp [own f hf])

theorem within_refGo : Within [.block rod] s (s.refGo rod) :=
  .ite (fun _ => .refl _ _) fun _ => .foldl (.refl _ s) fun _ _ _ => .ite (fun _ => within_laneGo) fun _ => .refl _ _

/-- A lost clock stays recorded, and its source raised, through changes elsewhere. -/
theorem lostClock_shows {A : Foot} {ev lost : Fld} {e : E.Src} (w : Within A ((s.sets [(ev, 1), (lost, 1)]).raise e) t)
    (narrow : ev.w = 1 ∧ lost.w = 1 := by exact ⟨rfl, rfl⟩) (apart : ev.key ≠ lost.key := by simp)
    (source : ev.key ≠ (R.EVT_STAT e.1 e.2).key ∧ lost.key ≠ (R.EVT_STAT e.1 e.2).key := by simp)
    (kept : ¬ A.writes ev ∧ ¬ A.writes lost ∧ ¬ A.writes (R.EVT_STAT e.1 e.2)) :
    t.get ev = 1 ∧ t.get lost = 1 ∧ isRaised t e := by
  obtain ⟨hev, hlost, he⟩ := kept
  refine ⟨(w.get_eq _ hev).trans ((State.get_raise_key _ _ source.1).trans ?_),
    (w.get_eq _ hlost).trans ((State.get_raise_key _ _ source.2).trans ?_),
    (State.on_congr (w.get_eq _ he)).trans (State.raised_raise _ _)⟩
  · change ((s.set ev 1).set lost 1).get ev = 1
    rw [State.get_set_key _ _ apart, State.get_set_same, narrow.1]
    rfl
  · change ((s.set ev 1).set lost 1).get lost = 1
    rw [State.get_set_same, narrow.2]
    rfl

theorem xoLoss_shows : ∃ t : State, exec .xoLoss s = .next t ∧
    t.get R.CLK_STAT_XO_EV = 1 ∧ t.get R.CLK_STAT_XO_LOST = 1 ∧ isRaised t E.xoLoss ∧ t.now = s.now := by
  obtain ⟨ev, lost, raised⟩ := lostClock_shows (s := s) (ev := R.CLK_STAT_XO_EV) (lost := R.CLK_STAT_XO_LOST) (e := E.xoLoss)
    (Within.refl [] _) (kept := by simp)
  have time := congrArg State.now (beyond_raise (s.sets [(R.CLK_STAT_XO_EV, 1), (R.CLK_STAT_XO_LOST, 1)]) E.xoLoss)
  exact ⟨_, rfl, ev, lost, raised, time⟩

/-- An agent's reset touches nothing of AON. -/
theorem rod_of_agentFields {a : Nat} (h : among (agentFields a) f) : f.rod ≠ 16 := by
  simp only [agentFields, List.cons_append, among_cons, among_append, among_flatMap] at h
  obtain epoch | ⟨m, -, mail⟩ | event := h
  · simp at epoch
    omega
  · split_ifs at mail <;> simp at mail <;> omega
  · simp [E.mbRxReset] at event
    omega

/-- What the loss of the PCIe reference touches besides its record. -/
@[simp] def Foot.pcieLost : Foot := [.block 0] ++ Foot.drive ++ Foot.hep

theorem pcieRefLoss_shows : ∃ t : State, exec .pcieRefLoss s = .next t ∧
    t.get R.CLK_STAT_PCIE_EV = 1 ∧ t.get R.CLK_STAT_PCIE_LOST = 1 ∧ isRaised t E.pcieRefLoss := by
  refine ⟨_, rfl, lostClock_shows (s := s) (A := Foot.pcieLost) ?_ (kept := by
    have agent : ∀ g : Fld, g.rod = 16 → ¬ among (agentFields 0) g := fun g hg h => rod_of_agentFields h hg
    simp [recordFields, commitFields, tableFields, agent, E.pcieRefLoss, E.commitReject, E.clogLost])⟩
  generalize (s.sets [(R.CLK_STAT_PCIE_EV, 1), (R.CLK_STAT_PCIE_LOST, 1)]).raise E.pcieRefLoss = u
  extract_lets s1 s2
  have lanes : Within Foot.pcieLost u s1 :=
    ((within_refLanes (by decide)).mono (by simp)).trans ((within_refLanes (by decide)).mono (by simp))
  have drives : Within Foot.pcieLost u s2 := .ite (fun _ => lanes) fun _ => lanes.foldl fun _ _ _ =>
    .ite (fun _ => within_driveFault.mono (by simp)) fun _ => .refl _ _
  exact .ite (fun _ => drives.trans ((within_hepReset s2).mono (by simp))) fun _ => drives

theorem ethRefLoss_shows : ∃ t : State, exec .ethRefLoss s = .next t ∧
    t.get R.CLK_STAT_ETH_EV = 1 ∧ t.get R.CLK_STAT_ETH_LOST = 1 ∧ isRaised t E.ethRefLoss := by
  refine ⟨_, rfl, lostClock_shows (s := s) (A := [.block 12]) ?_ (kept := by simp [E.ethRefLoss])⟩
  generalize (s.sets [(R.CLK_STAT_ETH_EV, 1), (R.CLK_STAT_ETH_LOST, 1)]).raise E.ethRefLoss = u
  extract_lets s1
  have lanes : Within [.block 12] u s1 := within_refLanes (by decide)
  exact (lanes.foldl fun _ _ _ => within_ethDown).trans within_ptpHold

/-- A reference that is back is lost no longer; what the controller starts then stays in the blocks `A`. -/
theorem clockBack_shows {A : Foot} {lost : Fld} (w : Within A ((s.set lost 0).raise E.refBack) t)
    (source : lost.key ≠ (R.EVT_STAT E.refBack.1 E.refBack.2).key := by simp)
    (kept : ¬ A.writes lost ∧ ¬ A.writes (R.EVT_STAT E.refBack.1 E.refBack.2) := by simp [E.refBack]) :
    t.get lost = 0 ∧ isRaised t E.refBack := by
  refine ⟨(w.get_eq _ kept.1).trans ((State.get_raise_key _ _ source).trans ?_),
    (State.on_congr (w.get_eq _ kept.2)).trans (State.raised_raise _ _)⟩
  rw [State.get_set_same, Nat.zero_mod]

end

/-- Settles O25: each command takes the branch that its conditions name. A rod that is ready has had its own block loaded and nothing
else of what its proxy follows from; a device reset keeps none of the fields named; what follows the loss or the return of a clock stays
in other blocks. That a warm reset rebuilds the state when it is asserted is the model's reading (log 1903). -/
theorem rodAndDeviceResets : Obligations.RodAndDeviceResets := by
  unfold Obligations.RodAndDeviceResets
  refine ⟨?release, ?ready, ?holdClear, ?powerOn, ?vddAonLoss, ?resetN, ?aonLeavesReset, ?corePgRise, ?corePgTimeout, ?coreEnRetry,
    ?coreResetRelease, ?corePgLoss, ?corePgRetry, ?wakeN, ?rstDevWarm, ?thermalRestart, ?xoLoss, ?pcieRefLoss, ?ethRefLoss, ?refBack⟩
  case release =>
    exact fun rod s reset power hold patch boot => ⟨_, rfl, rodResetRelease_releases reset power hold patch boot⟩
  case ready =>
    intro rod s h0 released
    obtain ⟨reset, withdrawn⟩ := rodReady_runs (s := s) (ev := !s.on (I.RST_QUIET rod)) (Fin.val_ne_of_ne h0) rod.isLt
    refine ⟨_, congrArg Host.Outcome.next (if_pos released), reset, withdrawn, fun loud => ?_⟩
    rw [loud]
    exact rodReady_announces
  case holdClear =>
    intro rod s reach reset power auto patch boot
    exact ⟨_, congrArg Host.Outcome.next (State.hostTo_of_reaches _ reach), rodHoldClear_releases reset power auto patch boot rfl⟩
  case powerOn =>
    intro s
    obtain ⟨dev, en, last⟩ := fullReset_shows (s := s) (cause := 0)
    exact ⟨_, rfl, dev, en, last, rfl, rfl, rfl⟩
  case vddAonLoss =>
    intro s
    obtain ⟨-, en, -⟩ := fullReset_shows (s := s) (cause := 0)
    exact ⟨_, rfl, State.get_set_same .., (State.get_set_other _ _ (by simp)).trans en⟩
  case resetN =>
    intro s h
    obtain ⟨h1, h7, h10⟩ := h
    obtain ⟨dev, -, last⟩ := fullReset_shows (s := s) (cause := 1)
    exact ⟨_, congrArg Host.Outcome.next ((if_neg (not_or.2 ⟨h10, h1⟩)).trans (if_neg h7)), dev, last, rfl⟩
  case aonLeavesReset =>
    intro s h
    refine ⟨_, congrArg Host.Outcome.next (if_pos h), ?_⟩
    simp [State.sets, State.get_set_other]
  case corePgRise => exact fun s h => ⟨_, congrArg Host.Outcome.next (if_pos h), State.get_set_same ..⟩
  case corePgTimeout =>
    intro s h less
    have small : s.get I.CORE_TRY + 1 < 2 ^ 200 := by omega
    have third : 3 ≤ s.get I.CORE_TRY + 1 ↔ s.get I.CORE_TRY = 2 := by omega
    refine ⟨_, congrArg Host.Outcome.next (if_pos h), ?_, ?_, (State.get_set_same ..).trans ?_⟩
    · refine Eq.trans ?_ (Nat.mod_eq_of_lt small)
      simp [State.sets, State.get_set_other]
    · simp [State.sets, State.get_set_other]
    · simp only [third]
      split <;> rfl
  case coreEnRetry =>
    intro s h
    refine ⟨_, congrArg Host.Outcome.next (if_pos h), ?_⟩
    simp [State.sets, State.get_set_other]
  case coreResetRelease => exact fun s h => ⟨_, congrArg Host.Outcome.next (if_pos h), State.get_set_same ..⟩
  case corePgLoss =>
    intro s h
    refine ⟨_, congrArg Host.Outcome.next (if_pos (.inl h)), ?_, ?_, ?_, up_devReset⟩
    all_goals simp [State.sets, State.get_set_other]
  case corePgRetry =>
    intro s h pin
    obtain ⟨dev, en, last⟩ := coreReset_shows (s := s) (cause := 0)
    exact ⟨_, congrArg Host.Outcome.next ((if_pos h).trans (if_neg (by rw [pin]; decide))), dev, en, last⟩
  case wakeN =>
    intro s h
    obtain ⟨dev, en, last⟩ := coreReset_shows (s := s) (cause := 2)
    exact ⟨_, congrArg Host.Outcome.next (if_pos h), dev, last, en⟩
  case rstDevWarm =>
    intro s reach
    obtain ⟨dev, last, debug, pin, -⟩ := warmReset_shows (s := s) (cause := 4) (dev := 9) (ev := 1) rfl
    exact ⟨_, congrArg Host.Outcome.next (State.hostTo_of_reaches _ reach), dev, last, debug, pin⟩
  case thermalRestart =>
    intro s h voters
    obtain ⟨dev, last, -, -, pin⟩ := warmReset_shows (s := s) (cause := 3) (dev := 0) (ev := 2) rfl
    exact ⟨_, congrArg Host.Outcome.next ((if_neg (by omega)).trans (if_pos h)), dev, last, pin⟩
  case xoLoss => exact fun s => xoLoss_shows
  case pcieRefLoss => exact fun s => pcieRefLoss_shows
  case ethRefLoss => exact fun s => ethRefLoss_shows
  case refBack =>
    intro which s lost
    have run : ∀ {f : Fld} {t u : State}, s.on f = true → (if !s.on f then t else u) = u := fun h => if_neg (by simp [h])
    match which, lost with
    | 0, lost => exact ⟨_, congrArg Host.Outcome.next (run lost), clockBack_shows (A := []) (.refl _ _)⟩
    | 1, lost => exact ⟨_, congrArg Host.Outcome.next (run lost), clockBack_shows (A := [.block 0, .block 10])
        ((within_refGo.mono (by simp)).trans (within_refGo.mono (by simp)))⟩
    | 2, lost => exact ⟨_, congrArg Host.Outcome.next (run lost), clockBack_shows (A := [.block 12]) within_refGo⟩

end Sys2Proof.Machine
